-- ==== Sys2Proof/Syntax.lean ====
section
/-! DEFINITION. The commands of the device: who sends them, and the one inductive `Instr` with a constructor for
every row of the opcode table. An operand that is a value software writes or a message carries is a bit vector; an
index into a set of units is a `Fin`; a payload of varying length is a list of bytes. -/

namespace Sys2Proof

/-- The privilege modes of an application or secure core. -/
inductive Mode where
  | m | hs | s | vs | vu | u
  deriving DecidableEq, Repr

/-- The units that work for a queue or context, by the pool of R38 that their operations take: a tile, the fabric pool (Plumb,
Traverse, the staging engine), graphics, media, peripherals. -/
inductive WorkUnit where
  | tile (n : Fin 128)
  | fabric
  | graphics
  | media
  | peripherals
  deriving DecidableEq, Repr

/-- Who issues a bus transaction (R30): an application core in a mode (with the MPP mode when mstatus.MPRV = 1,
R297), a secure cluster core, a safety island pair, a firmware processor on its own account, an engine or firmware
processor working for a queue or context (its attribute), or the debug port, with the attribute that the debugger chooses (R442). -/
inductive Agent where
  | core (n : Fin 16) (mode : Mode) (mprv : Option Mode)
  | sec (n : Fin 2) (mode : Mode) (mprv : Option Mode)
  | pairA
  | pairB
  | fw (n : Fin 23)
  | work (unit : WorkUnit) (secure : Bool) (partition : Fin 64)
  | debug (secure : Bool) (partition : Fin 64)
  deriving DecidableEq, Repr

/-- The operation pools of R38: tile operations of a tile, requests of a DRAM controller (for a partition), fabric
requests of the named initiators, outbound and inbound PCIe transactions (R351), graphics, media and peripherals. -/
inductive Pool where
  | tile (n : Fin 128)
  | dram (channel : Fin 24) (partition : Fin 64)
  | cheotte
  | pcie
  | pcieInbound
  | graphics
  | media
  | peripherals
  deriving DecidableEq, Repr

/-- The engines that run command streams: the tensor engine (queues 0–255) and Plumb (queues 0–7). -/
inductive Engine where
  | tensor | plumb
  deriving DecidableEq, Repr

/-- Why a data access of a running command meets a bus error (R447): a channel group refuses it, nothing backs the
address, inline ECC finds an uncorrectable error, or a bridge or link fails. -/
inductive BusCause where
  | refused | unbacked | inlineEcc | link
  deriving DecidableEq, Repr

/-- What a bus transaction does: a read of `len` bytes, or a write of the bytes (posted writes get no response). -/
inductive BusOp where
  | read (len : Nat)
  | write (posted : Bool) (data : List Byte)
  deriving DecidableEq, Repr

/-- What the ECC logic finds in the word accessed: nothing, a corrected single-bit error, an uncorrectable one. -/
inductive EccEvent where
  | none
  | corrected
  | uncorrectable
  deriving DecidableEq, Repr

/-- The faults of R256. -/
inductive GfxCause where
  | ecc
  | shader
  | overrun
  deriving DecidableEq, Repr

/-- A fragment of a primitive (R253): its pixel and sample, its depth, its colour as bytes in the render target's format, the
place of that colour in the target, and the state that its draw packet sets for the depth test, the stencil test and the
blend. What a draw stream's packets say is part of the graphics driver interface, so the command names it. -/
structure Fragment where
  x : BitVec 13
  y : BitVec 13
  sample : BitVec 3
  depth : BitVec 32
  colour : List Byte
  target : BitVec 48
  state : BitVec 64
  deriving DecidableEq, Repr

/-- What the draw stream of a pass draws (R251, R253): its clear values and its primitives in submission order, each as its
fragments. -/
structure Draw where
  clearDepth : BitVec 32
  clearStencil : Byte
  prims : List (List Fragment)
  deriving DecidableEq, Repr

/-- A line of the active area in which the fetch of a plane runs late, from a pixel on (R262). -/
structure LateLine where
  plane : Fin 4
  line : BitVec 16
  pixel : BitVec 16
  deriving DecidableEq, Repr

/-- The two ends of ISP work with a memory input (R279): the job is offered with the address of the raw frame, its TAG and capture
time and its bound in ns, and the admitted job finishes, with what the ISP's ECC logic has met and the settings of the ISP tuning
interface. -/
inductive IspInput where
  | offer (raw : BitVec 48) (tag : BitVec 16) (captured : BitVec 64) (bound : BitVec 32)
  | finish (isp : EccEvent) (params : Nat)
  deriving DecidableEq, Repr

/-- How decode or encode work ends (R285). -/
inductive MediaOutcome where
  | ok | corrupt | ecc
  deriving DecidableEq, Repr

/-- What a CAN controller sees of a frame that another node sends (R345): the frame, an error, or an error in which it is
the first to signal (a dominant bit after its own error flag). -/
inductive CanError where
  | none | error | first
  deriving DecidableEq, Repr

/-- The failure classes of R347 that a far side reports. -/
inductive FarClass where
  | unsupported | refused | data
  deriving DecidableEq, Repr

/-- Where a Field Book Access message comes from (R364–R366): a CAN controller, a UDP peer (MAC, IPv6 source address,
source port) or a mailbox. -/
inductive FbaSource where
  | can (n : Fin 16)
  | udp (mac : Fin 6) (ip : BitVec 128) (port : BitVec 16)
  | mailbox (m : Fin 64)
  deriving DecidableEq, Repr

/-- How a Field Book Access message arrives: in a CAN frame (format, keys in the layout of R341), in a UDP datagram to a
port, or in the mailbox slot at RPTR. -/
inductive FbaCarrier where
  | can (n : Fin 16) (fmt : Fin 3) (key0 : BitVec 32)
  | udp (mac : Fin 6) (ip : BitVec 128) (port : BitVec 16) (dport : BitVec 16)
  | mailbox (m : Fin 64)
  deriving DecidableEq, Repr

/-- The rings that software fills, with their doorbells (R157, R189, R224, R248, R282, R344, R391). -/
inductive Ring where
  | tensor (q : Fin 256)
  | plumb (q : Fin 8)
  | traverse (c : Fin 8)
  | graphics (x : Fin 32)
  | media (x : Fin 64)
  | mailbox (m : Fin 64)
  | endpoint (e : Fin 256)
  deriving DecidableEq, Repr

/-- The commands. -/
inductive Instr where
  /-- REGISTER_WRITE (R445): A write to any register that has no row of its own, taken or ignored under the access codes of R13 and the EN rule of R445, with its status reported. -/
  | registerWrite (who : Agent) (addr : BitVec 48) (width : Nat) (value hwSet : BitVec 64)
  /-- READ_CLEAR (R13): A read of an RC field returns its value and clears it, while an event in the same clock stays recorded. -/
  | readClear (who : Agent) (addr : BitVec 48) (width : Nat) (evLo : Nat) (evCount : Nat)
  /-- LOW_WORD_READ_LATCH (R10): A 32-bit read of the low word of a 64-bit register latches the high word for the reading hart. -/
  | lowWordReadLatch (who : Agent) (addr : BitVec 48)
  /-- POOL_ENTRY_FREED (R38): An initiator held back on a full operations pool proceeds once an entry of its own pool frees. -/
  | poolEntryFreed (pool : Pool)
  /-- FABRIC_ACCESS (R300): A transaction reaches a target and its Cadastre checker decides it by world, partition and the lowest covering region. -/
  | fabricAccess (who : Agent) (addr : BitVec 48) (acc : BusOp) (ecc : EccEvent) (cached : Bool)
  /-- SRAM_WINDOW_ACCESS (R103): An access through the SRAM window to tile memory or a cluster buffer, narrow writes being read-modify-writes. -/
  | sramWindowAccess (who : Agent) (addr : BitVec 48) (acc : BusOp) (ecc : EccEvent)
  /-- TIME_NS_READ (R44): A read of MER_TIME_NS returns Datum nanoseconds and latches MER_SECONDS for the reading hart. -/
  | timeNsRead (who : Agent)
  /-- TIME_IN_POP (R59): A read of a time input's NS register pops the oldest capture and latches its seconds. -/
  | timeInPop (who : Agent) (n : Fin 8)
  /-- DATUM_SOURCE_WRITE (R52): A write of MER_DATUM_CTRL.SOURCE changes the Datum source and moves the Datum state as R52 sets out. -/
  | datumSourceWrite (who : Agent) (source : BitVec 2)
  /-- REBASE (R53): A rebase request through MER_DATUM_CTRL.REBASE is accepted or refused, and applied at once while Meridian is stopped. -/
  | rebase (who : Agent)
  /-- SYNC_RECEIVED (R50): A gPTP Sync (or PTM-free Follow_Up) of the selected grandmaster is received and the servo updates or slews Datum. -/
  | syncReceived (mac : Fin 6) (domain : BitVec 8) (identity : BitVec 64) (origin : BitVec 80) (age : BitVec 32) (logInterval : Fin 6)
  /-- ANNOUNCE_RECEIVED (R47): A gPTP Announce is received and best master selection may change the grandmaster. -/
  | announceReceived (mac : Fin 6) (domain : BitVec 8) (priority1 : BitVec 8) (quality : BitVec 32) (priority2 : BitVec 8) (identity : BitVec 64) (steps : BitVec 16)
  /-- PEER_DELAY_EXCHANGE (R47): A peer delay exchange completes and the port's path delay is updated. -/
  | peerDelayExchange (mac : Fin 6) (domain : BitVec 8) (t1 : BitVec 80) (t2 : BitVec 80) (t3 : BitVec 80) (t4 : BitVec 80)
  /-- SYNC_TRANSMIT (R49): As grandmaster the device sends a Sync at its interval, one-step or two-step per MAC. -/
  | syncTransmit (mac : Fin 6)
  /-- PTM_EXCHANGE (R55): A follower's PTM exchange with P0 completes and its servo applies R50 and R51. -/
  | ptmExchange (t1 : BitVec 80) (t2 : BitVec 80) (t3 : BitVec 80) (t4 : BitVec 80)
  /-- SYNC_LOSS (R52): No Sync for 3 Sync intervals puts Datum into HOLDOVER. -/
  | syncLoss
  /-- PTM_LOSS (R55): A follower without a completed PTM exchange for 10 ms enters HOLDOVER. -/
  | ptmLoss
  /-- HOLDOVER_EXPIRY (R43): HOLDOVER lasting beyond the holdover limit moves Datum to HOLDOVER_EXPIRED. -/
  | holdoverExpiry
  /-- ACQUISITION_WAIT_EXPIRY (R53): Meridian start stops waiting for a first acquisition when the acquisition wait expires. -/
  | acquisitionWaitExpiry
  /-- BASE_TICK (R60): A Meridian base tick occurs at its Datum instant, advancing TICK and setting MER_EVENTS.TICK. -/
  | baseTick
  /-- MER_START (R66): MER_CTRL.START requests a Meridian start at the next boundary, or cancels a pending STOP. -/
  | merStart (who : Agent)
  /-- MER_STOP (R66): MER_CTRL.STOP requests a stop at the next boundary, or cancels a pending START. -/
  | merStop (who : Agent)
  /-- MER_SWAP (R64): MER_CTRL.SWAP validates the shadow bank and sets a swap pending or reports the first failure. -/
  | merSwap (who : Agent)
  /-- MER_TABLE_LOCK (R65): MER_CTRL.TABLE_LOCK refuses later swap requests until reset. -/
  | merTableLock (who : Agent)
  /-- TICK_PERIOD_WRITE (R66): A write of MER_TICK_PERIOD is checked against the other two parameters and taken only while stopped. -/
  | tickPeriodWrite (who : Agent) (value : BitVec 14)
  /-- HYPER_TICKS_WRITE (R66): A write of MER_HYPER_TICKS is checked against the other two parameters and taken only while stopped. -/
  | hyperTicksWrite (who : Agent) (value : BitVec 12)
  /-- PHASE_WRITE (R66): A write of MER_PHASE_NS is checked against the hyperperiod and taken only while stopped. -/
  | phaseWrite (who : Agent) (value : BitVec 30)
  /-- SHADOW_ENTRY_WRITE (R65): A write to the shadow Meridian bank, refused with E_BUSY while a swap is pending. -/
  | shadowEntryWrite (who : Agent) (entry : Fin 256) (word : Fin 4) (value : BitVec 32)
  /-- PIPE_FRAME_WRITE (R65): A write of MER_PIPE_FRAMEp to the shadow set, refused with E_BUSY while a swap is pending. -/
  | pipeFrameWrite (who : Agent) (pipe : Fin 32) (value : BitVec 12)
  /-- TIME_OUT_PULSE (R58): A TIME_OUT pin pulses at its programmed Datum time, frame-driven or periodic. -/
  | timeOutPulse (n : Fin 8)
  /-- TIME_IN_EDGE (R59): A selected edge on a TIME_IN pin captures Datum into its FIFO, or sets MISSED or OVERFLOW. -/
  | timeInEdge (n : Fin 8) (rising : Bool)
  /-- WINDOW_OPEN (R67): A Meridian window opens and its resource's scheduler resets its slack and applies admission. -/
  | windowOpen (entry : Fin 256)
  /-- WINDOW_CLOSE (R68): At window end less the kill margin the scheduler kills all work of the window still running. -/
  | windowClose (entry : Fin 256)
  /-- DOORBELL_WRITE (R159): A write of a ring's WPTR submits slots after the owner, bound, room and EN checks. -/
  | doorbellWrite (who : Agent) (ring : Ring) (value : BitVec 32)
  /-- GEMM (R93): GEMM multiplies A by B over chunks and writes each output element to staging after the epilogue. -/
  | gemm (eng : Engine) (queue : Fin 256)
  /-- CONV (R94): CONV convolves its input in per-cluster stripes of output rows. -/
  | conv (eng : Engine) (queue : Fin 256)
  /-- DWCONV (R94): DWCONV convolves each channel separately in per-cluster stripes. -/
  | dwconv (eng : Engine) (queue : Fin 256)
  /-- POOL (R93): POOL takes the maximum or average over each window. -/
  | pool (eng : Engine) (queue : Fin 256)
  /-- ELTWISE (R93): ELTWISE applies an FP32 element operation with optional broadcast and epilogue. -/
  | eltwise (eng : Engine) (queue : Fin 256)
  /-- REDUCE (R93): REDUCE reduces A along an axis, or combines tree node values with TREE = 1. -/
  | reduce (eng : Engine) (queue : Fin 256)
  /-- SOFTMAX (R93): SOFTMAX computes softmax or log-softmax along an axis with optional mask. -/
  | softmax (eng : Engine) (queue : Fin 256)
  /-- NORM (R93): NORM computes LayerNorm, RMSNorm or scale-shift along an axis. -/
  | norm (eng : Engine) (queue : Fin 256)
  /-- GATHER (R93): GATHER reads elements of A at INT32 indices. -/
  | gather (eng : Engine) (queue : Fin 256)
  /-- SCATTER (R93): SCATTER stores or adds elements into OUT at INT32 indices in index order. -/
  | scatter (eng : Engine) (queue : Fin 256)
  /-- PAGED_ATTN (R139): PAGED_ATTN appends the step's new K and V and computes attention over the sequence's pages. -/
  | pagedAttn (queue : Fin 256)
  /-- FOLD (R117): FOLD regroups F by F patches of space into channels. -/
  | fold (queue : Fin 256)
  /-- UNFOLD (R118): UNFOLD regroups channels back into space as the exact inverse of FOLD. -/
  | unfold (queue : Fin 256)
  /-- TDMA (R93): TDMA copies bytes, or elements with conversion, from A's published bank to OUT's staged bank. -/
  | tdma (eng : Engine) (queue : Fin 256)
  /-- COLLECTIVE (R181): COLLECTIVE runs a reduce-scatter or all-gather across the packages of its group. -/
  | collective (queue : Fin 256) (active : Bool)
  /-- FENCE (R93): FENCE holds its queue until the named queue's commit sequence reaches SEQ. -/
  | fence (eng : Engine) (queue : Fin 256)
  /-- FENCE_RELEASE (R93): A waiting FENCE ends when the named queue's commit sequence reaches its SEQ. -/
  | fenceRelease (eng : Engine) (queue : Fin 256)
  /-- COMMIT (R95): COMMIT ends the job, running any optimiser pass, and publishes the job at its commit. -/
  | commit (eng : Engine) (queue : Fin 256)
  /-- COMMAND_COMMIT (R95): A command reaches its commit point and atomically flips PUB, advances the sequence number and writes its record. -/
  | commandCommit (eng : Engine) (queue : Fin 256) (cycles : BitVec 32)
  /-- TILE_ARITH_FAULT (R88): A residue or exponent check fails and raises E_TILE_ARITH. -/
  | tileArithFault (queue : Fin 256) (tile : Fin 128) (cycles : BitVec 32)
  /-- ECC_UNCORRECTABLE (R104): A command reads a word with a double-bit error and the job is killed with E_ECC_UNCORR. -/
  | eccUncorrectable (queue : Fin 256) (tile : Fin 128) (buffer : Bool) (word : BitVec 20) (found : EccEvent) (cycles : BitVec 32)
  /-- PLUMB_ECC_UNCORRECTABLE (R191): An uncorrectable ECC error in Plumb SRAM kills the Plumb job. -/
  | plumbEccUncorrectable (queue : Fin 8) (cycles : BitVec 32)
  /-- CMD_OVERRUN (R98): A command's active cycle count passes BOUND_CYCLES and the job is killed with E_CMD_OVERRUN. -/
  | cmdOverrun (eng : Engine) (queue : Fin 256) (cycles : BitVec 32)
  /-- DATA_BUS_ERROR (R447): A data access of a tensor or Plumb command meets a bus error or link error and the job is killed. -/
  | dataBusError (eng : Engine) (queue : Fin 256) (cause : BusCause) (addr : BitVec 48) (tile : Fin 128) (cycles : BitVec 32)
  /-- SCRUB_PASS (R105): The background scrubber reads a word, correcting single-bit errors and logging double-bit ones. -/
  | scrubPass (tile : Fin 128) (buffer : Bool) (word : BitVec 20) (found : EccEvent) (lastWord : Bool)
  /-- MEMORY_INIT_DONE (R106): Zeroing of the stores after power-up or reset completes and INIT_DONE reads 1. -/
  | memoryInitDone (cluster : Fin 16)
  /-- PARTITION_CLEAR_DONE (R107): The partition clear completes and admission in the window may start. -/
  | partitionClearDone (cluster : Fin 16)
  /-- ROW_MARK_ARM (R121): A producer stripe arms its row-mark copy once no reader of the previous owner is still running. -/
  | rowMarkArm (queue : Fin 256) (cluster : Fin 16)
  /-- ROW_MARK_ADVANCE (R121): A producer row completes and TAIL or HEAD of its copy advances. -/
  | rowMarkAdvance (queue : Fin 256) (cluster : Fin 16)
  /-- CONSUMER_ROW_START (R123): A consumer stripe starts an output row once every input row it needs is ready. -/
  | consumerRowStart (queue : Fin 256) (cluster : Fin 16)
  /-- DEFUSION (R125): A consumer's continuous readiness wait passes the fusion-stall limit and the job de-fuses. -/
  | defusion (queue : Fin 256) (cluster : Fin 16)
  /-- KV_POOL (R128): Mailbox request creating a KV pool. -/
  | kvPool (mailbox : Fin 64)
  /-- KV_POOL_CLOSE (R135): Mailbox request closing a pool whose rows are all FREE. -/
  | kvPoolClose (mailbox : Fin 64)
  /-- SEQ_OPEN (R135): Mailbox request allocating a sequence-table row. -/
  | seqOpen (mailbox : Fin 64)
  /-- SEQ_CLOSE (R135): Mailbox request freeing an IDLE or DROPPED row. -/
  | seqClose (mailbox : Fin 64)
  /-- SEQ_READ (R135): Mailbox request returning a 32-byte sequence-table row. -/
  | seqRead (mailbox : Fin 64)
  /-- KV_STEP (R144): Mailbox request running the step transaction that evicts, reserves and admits joiners. -/
  | kvStep (mailbox : Fin 64)
  /-- SPILL_FREE (R135): Mailbox request freeing a SPILLED row's spill pages and making it DROPPED. -/
  | spillFree (mailbox : Fin 64)
  /-- TRAIN_OPEN (R149): Mailbox request registering a queue with a training arena after checking its table. -/
  | trainOpen (mailbox : Fin 64)
  /-- TRAIN_CKPT (R152): Mailbox request reporting a completed checkpoint of step t. -/
  | trainCkpt (mailbox : Fin 64)
  /-- TRAIN_CLOSE (R135): Mailbox request unregistering a training queue. -/
  | trainClose (mailbox : Fin 64)
  /-- KV_CACHE_WRITE (R142): A write of TEN_KV_CACHE sets the KV cache banks and invalidates its lines, or is refused. -/
  | kvCacheWrite (who : Agent) (cluster : Fin 16) (banks : BitVec 6)
  /-- TRAINING_SESSION_LIMIT (R151): The charge-time session reaches its time limit and enters CLOSING. -/
  | trainingSessionLimit
  /-- QUEUE_ENABLE (R445): Setting MBX_QC_ATTR.EN checks the queue configuration and starts its pointers at 0. -/
  | queueEnable (who : Agent) (eng : Engine) (queue : Fin 256) (value : BitVec 32)
  /-- QUEUE_DISABLE (R445): Clearing MBX_QC_ATTR.EN disables the queue, refused with E_BUSY while a job is admitted. -/
  | queueDisable (who : Agent) (eng : Engine) (queue : Fin 256) (value : BitVec 32)
  /-- PARTITION_LOCK (R168): DDR_PART_LOCK.LOCK freezes the channel-group and way registers until reset. -/
  | partitionLock (who : Agent)
  /-- CHANNEL_GROUP_OWNER_WRITE (R168): A write of a group's OWNER or OWNER_RES, refused while entries of removed partitions are held. -/
  | channelGroupOwnerWrite (who : Agent) (group : Fin 12) (owner : BitVec 6) (reserve : BitVec 11)
  /-- CHANNEL_GROUP_SHARE_WRITE (R168): A write of a group's read-only sharers. -/
  | channelGroupShareWrite (who : Agent) (group : Fin 12) (sharers : BitVec 64)
  /-- WAY_MAP_WRITE (R168): A write of a cache way's owner starts its write-back and invalidation. -/
  | wayMapWrite (who : Agent) (register : Fin 4) (value : BitVec 32)
  /-- WAY_CLEAN_DONE (R167): A reassigned way has been cleaned and WAY_CLEAN is set. -/
  | wayCleanDone (way : Fin 16)
  /-- VTE_ENABLE (R172): Setting MBX_VTE_CTRL.EN checks the share and enables the VTE. -/
  | vteEnable (who : Agent) (vte : Fin 32) (value : BitVec 32)
  /-- VTE_DISABLE (R172): Clearing MBX_VTE_CTRL.EN, releasing a frozen VTE's queues, rows and pools. -/
  | vteDisable (who : Agent) (vte : Fin 32) (value : BitVec 32)
  /-- VTE_FREEZE (R173): FREEZE stops admission for the VTE and lets its jobs finish or preempts them. -/
  | vteFreeze (who : Agent) (vte : Fin 32) (immediate : Bool)
  /-- VTE_FREEZE_COMPLETE (R174): With its jobs ended, the freeze writes the save image and enters FROZEN. -/
  | vteFreezeComplete (vte : Fin 32)
  /-- VTE_RESTORE (R175): RESTORE returns a frozen VTE to RUNNING or restores one from its checked image. -/
  | vteRestore (who : Agent) (vte : Fin 32) (immediate : Bool)
  /-- HEARTBEAT_SEND (R177): An engine scheduler sends its 1 ms heartbeat to the other packages. -/
  | heartbeatSend
  /-- HEARTBEAT_RECEIVED (R177): A peer heartbeat is received, returning a lost peer after 3 in a row. -/
  | heartbeatReceived (peer : Fin 4)
  /-- PEER_LOST (R177): A peer that misses 3 heartbeats is marked lost. -/
  | peerLost (peer : Fin 4)
  /-- KILL_ACK_TIMEOUT (R177): A peer that does not acknowledge a kill within the limit is marked lost. -/
  | killAckTimeout (peer : Fin 4)
  /-- COLL_READY (R178): A package's READY reaches the lead, which sends GO and commits once all are ready. -/
  | collReady (group : BitVec 8) (peer : Fin 4) (cycles : BitVec 32)
  /-- COLL_GO (R178): A package receives GO and commits its part of the job. -/
  | collGo (group : BitVec 8) (cycles : BitVec 32)
  /-- COLL_KILL (R178): A package receives KILL and kills its part within 5 µs. -/
  | collKill (group : BitVec 8) (peer : Fin 4) (code : BitVec 16)
  /-- COLL_RESTART (R178): A package receives the lead's RESTART and reruns its part. -/
  | collRestart (group : BitVec 8)
  /-- COLL_END (R178): A package receives the lead's END and ends its part without restart. -/
  | collEnd (group : BitVec 8) (code : BitVec 16) (peer : Fin 4)
  /-- COLL_GROUP (R179): Mailbox request registering a collective group with its landing area. -/
  | collGroup (mailbox : Fin 64)
  /-- COLL_CLOSE (R179): Mailbox request removing a collective group. -/
  | collClose (mailbox : Fin 64)
  /-- PAIR_HEARTBEAT (R185): A safety island pair sends its partner a 100 µs heartbeat. -/
  | pairHeartbeat (pairA : Bool)
  /-- PAIR_HEARTBEAT_LOSS (R185): A pair missing 3 heartbeats of its partner declares the safe state. -/
  | pairHeartbeatLoss (pairA : Bool)
  /-- LOCKSTEP_MISMATCH (R185): A lockstep comparator mismatch stops the pair and the safe state is declared. -/
  | lockstepMismatch (pairA : Bool)
  /-- SAF_RUN (R194): SAF_CTRL.RUN checks the Closure, Benchmark and Meridian tables and locks them. -/
  | safRun (who : Agent)
  /-- SS_REQ (R204): SAF_CTRL.SS_REQ by the safety partition requests the safe state. -/
  | ssReq (who : Agent)
  /-- LATENT_TIMEOUT (R212): A Benchmark not completed within 1 s of first falling due declares the latent-fault timeout. -/
  | latentTimeout (pipe : Fin 32)
  /-- SAFETY_STATUS_MESSAGE (R207): The 16-byte safety status message is sent each status period. -/
  | safetyStatusMessage
  /-- SAFE_STATE_READBACK (R206): The SAFE_STATE_N pad level is compared with the driven level every 1 ms. -/
  | safeStateReadback (padHigh : Bool)
  /-- PLUMB_CLOCK_RAIL_FAULT (R191): A Plumb clock or rail fault kills the Plumb job, stops admission and leads to the safe state. -/
  | plumbClockRailFault (rail : Bool)
  /-- SAFETY_ISLAND_WATCHDOG (R204): The safety island watchdog expires or its SRAM reports an uncorrectable error, declaring the safe state. -/
  | safetyIslandWatchdog
  /-- DATUM_RATE_FAULT (R204): Pair B finds Datum rate beyond ±1,000 ppm of the always-on reference. -/
  | datumRateFault
  /-- INJECTION_COMPLETE (R215): The injection run ends, passing and releasing the firmware processors or latching a failure. -/
  | injectionComplete (failItem : Fin 10)
  /-- TRV_CONTEXT_ENABLE (R225): Setting TRV_CX_ATTR.EN checks library and footprints and enables the plan context. -/
  | trvContextEnable (who : Agent) (context : Fin 8) (value : BitVec 32)
  /-- TRV_CONTEXT_DISABLE (R225): Clearing TRV_CX_ATTR.EN, refused while a plan is admitted. -/
  | trvContextDisable (who : Agent) (context : Fin 8) (value : BitVec 32)
  /-- PLAN (R232): A PLAN request is decoded and, once admitted, computes fallback, search, optimisation and checks. -/
  | plan (context : Fin 8)
  /-- GRID_PUBLISH (R227): A write of TRV_Q_LATEST publishes a grid slot, refused for a held slot. -/
  | gridPublish (who : Agent) (context : Fin 8) (slot : BitVec 2)
  /-- LIBRARY_CRC_CHECK (R230): The library CRC is recomputed every 100 ms and a mismatch stops the context. -/
  | libraryCrcCheck (context : Fin 8)
  /-- FALLBACK_DONE (R238): The fallback stop is computed within 20 µs of admission. -/
  | fallbackDone
  /-- SEARCH_END (R234): The search ends complete or exhausted and candidates are extracted. -/
  | searchEnd
  /-- SEARCH_DEADLINE (R234): The search deadline arrives, ending the search with PARTIAL or NO_PATH_IN_TIME. -/
  | searchDeadline
  /-- OPTIMISATION_END (R237): The optimiser finishes its candidates and the output stage starts. -/
  | optimisationEnd
  /-- OPTIMISATION_DEADLINE (R237): The optimisation deadline arrives, keeping last iterates and dropping unstarted candidates. -/
  | optimisationDeadline
  /-- PLAN_COMMIT (R241): The plan's output bank is published atomically with SEQ and its completion record. -/
  | planCommit
  /-- TRAVERSE_FAULT (R243): An ECC, parity or library CRC fault kills the plan and invalidates the arena. -/
  | traverseFault (parity : Bool) (addr : BitVec 48)
  /-- GFX_CONTEXT_ENABLE (R248): Setting GFX_CX_ATTR.EN checks and enables a graphics context. -/
  | gfxContextEnable (who : Agent) (context : Fin 32) (value : BitVec 32)
  /-- GFX_CONTEXT_DISABLE (R248): Clearing GFX_CX_ATTR.EN returns heap pages, refused while a job is admitted. -/
  | gfxContextDisable (who : Agent) (context : Fin 32) (value : BitVec 32)
  /-- PASS (R251): A render pass runs immediate or binned on the fixed-function stages. -/
  | pass (context : Fin 32) (draw : Draw) (stores : List (BitVec 48 × BitVec 8))
  /-- DISPATCH (R249): A compute dispatch runs its workgroups on the shader cores. -/
  | dispatch (context : Fin 32) (stores : List (BitVec 48 × BitVec 8))
  /-- GFX_FENCE (R249): A graphics FENCE waits until the named context's SEQ is reached. -/
  | gfxFence (context : Fin 32)
  /-- GFX_COMMIT (R257): A graphics COMMIT ends the job and may request a flip of a plane. -/
  | gfxCommit (context : Fin 32)
  /-- GFX_JOB_COMPLETE (R257): A graphics job completes, writes its record and arms any flip as pending buffer. -/
  | gfxJobComplete (context : Fin 32)
  /-- HEAP_ADD (R254): A write of GFX_Q_HEAP_ADD adds a 64 KiB tile-list heap page. -/
  | heapAdd (who : Agent) (context : Fin 32) (page : BitVec 48)
  /-- BIN_FAULT (R254): The binner needs a heap page when none is free, sets FAULT and waits. -/
  | binFault (context : Fin 32) (listed : Nat)
  /-- BIN_FAULT_DEADLINE (R255): The bin-fault deadline expires and the pass flushes or the job ends with E_BIN_HEAP. -/
  | binFaultDeadline (context : Fin 32)
  /-- FLUSH_DONE (R255): A binned flush completes, heap pages are freed and binning resumes. -/
  | flushDone (context : Fin 32)
  /-- GFX_FAULT (R256): A pixel-store ECC error, shader exception or overrun ends the graphics job without restart. -/
  | gfxFault (context : Fin 32) (cause : GfxCause)
  /-- COMPOSITION_SLACK_LOW (R258): Composition slack falls below the threshold and compute is preempted. -/
  | compositionSlackLow (context : Fin 32)
  /-- YIELD_LIMIT (R259): The yield limit expires and remaining workgroups are killed and the dispatch requeued. -/
  | yieldLimit (context : Fin 32) (remaining : Bool)
  /-- DISPLAY_ENABLE (R261): Setting DSP_CTRL.EN checks timing, clock and link and enables the controller. -/
  | displayEnable (who : Agent) (display : Fin 4) (value : BitVec 32)
  /-- LINK_TRAINED (R261): A display link completes training and LINK_UP is set. -/
  | linkTrained (display : Fin 4)
  /-- DISPLAY_FRAME_START (R260): At a display frame start each plane latches its pending buffer or freezes. -/
  | displayFrameStart (display : Fin 4) (late : List LateLine) (ttEcc : List (BitVec 16 × BitVec 16))
  /-- EXP_WRITE (R267): A write of DSP_CR_EXP sets the expected CRC, taking effect at the next frame start. -/
  | expWrite (who : Agent) (display : Fin 4) (region : Fin 16) (value : BitVec 64)
  /-- CHECKED_REGION_COMPARE (R266): At a region's last active line its CRC is compared with a fresh expected value. -/
  | checkedRegionCompare (display : Fin 4) (region : Fin 16)
  /-- CSI2_PACKET (R274): A CSI-2 packet is received, corrected or discarded and its lines passed to the ISP. -/
  | csi2Packet (port : Fin 16) (vc : Fin 16) (dt : BitVec 6) (header : EccEvent) (crcOk : Bool) (payload : List Byte)
  /-- CSI2_FRAME_START (R277): A frame start short packet stamps CAPTURE_NS and selects a free buffer or drops the frame. -/
  | csi2FrameStart (port : Fin 16) (vc : Fin 16) (number : BitVec 16) (header : EccEvent)
  /-- CSI2_FRAME_END (R278): A frame end completes the capture, which succeeds or fails with E_CORRUPT. -/
  | csi2FrameEnd (port : Fin 16) (vc : Fin 16) (header : EccEvent) (isp : EccEvent) (params : Nat)
  /-- FRAME_END_TIMEOUT (R278): No frame end arrives within 2 / FPS_MAX and the frame fails with E_CORRUPT. -/
  | frameEndTimeout (source : Fin 32)
  /-- CAPTURE_SOURCE_ENABLE (R276): Setting MED_CS_CTRL.EN checks binding, pixel rate and buffers. -/
  | captureSourceEnable (who : Agent) (source : Fin 32) (value : BitVec 32)
  /-- CAPTURE_SOURCE_DISABLE (R276): Clearing MED_CS_CTRL.EN, refused while a job holds a buffer. -/
  | captureSourceDisable (who : Agent) (source : Fin 32) (value : BitVec 32)
  /-- MEDIA_CONTEXT_ENABLE (R282): Setting MED_CX_ATTR.EN checks the context and loads AVG_NS. -/
  | mediaContextEnable (who : Agent) (context : Fin 64) (value : BitVec 32)
  /-- MEDIA_CONTEXT_DISABLE (R282): Clearing MED_CX_ATTR.EN, refused while a sample is admitted. -/
  | mediaContextDisable (who : Agent) (context : Fin 64) (value : BitVec 32)
  /-- SAMPLE_DESCRIPTOR (R283): A decode or encode sample descriptor is checked and queued. -/
  | sampleDescriptor (context : Fin 64)
  /-- DECODE_COMPLETE (R285): A sample finishes, its record is written and the running average updated. -/
  | decodeComplete (context : Fin 64) (time : BitVec 32) (width : BitVec 16) (height : BitVec 16) (fits : Bool) (depends : Bool) (outcome : MediaOutcome) (tenBit : Bool) (offset : BitVec 32) (data : List Byte)
  /-- DECODE_BUDGET_EXPIRY (R285): A sample's budget runs out and it is abandoned with E_BUDGET. -/
  | decodeBudgetExpiry (context : Fin 64)
  /-- ISP_MEMORY_INPUT (R279): ISP work reads a raw frame from DRAM in a STAGING window. -/
  | ispMemoryInput (source : Fin 32) (input : IspInput)
  /-- STAGING_JOB_END (R292): The staging job ends and publishes each bucket's batch or discards it on a full queue. -/
  | stagingJobEnd (context : Fin 32)
  /-- STAGING_OVERRUN (R287): A staging job's running time passes BOUND_US and it writes nothing visible. -/
  | stagingOverrun (context : Fin 32)
  /-- STAGING_ENABLE (R289): Setting MED_ST_CTRL.EN reads and checks the staging table. -/
  | stagingEnable (who : Agent) (context : Fin 32) (value : BitVec 32)
  /-- STAGING_DISABLE (R292): Clearing MED_ST_CTRL.EN, refused while a job runs. -/
  | stagingDisable (who : Agent) (context : Fin 32) (value : BitVec 32)
  /-- BATCH_RELEASE (R292): A write of MED_PBQ_RPTRk releases entries and checks the low-water level. -/
  | batchRelease (who : Agent) (context : Fin 32) (bucket : Fin 8) (value : BitVec 4)
  /-- MWATTR_WRITE (R297): An M-mode write of mwattr sets the world and partition of lower-mode transactions. -/
  | mwattrWrite (core : Fin 18) (mode : Mode) (value : BitVec 64)
  /-- LOG_ACK (R302): A write of CAD_LOG_ACK releases the N oldest log entries. -/
  | logAck (who : Agent) (checker : Fin 65) (count : BitVec 4)
  /-- REGION_ENABLE (R303): Setting CAD_RG_CTRL.EN checks and enables a region with its permissions. -/
  | regionEnable (who : Agent) (checker : Fin 65) (region : Fin 32) (perms : BitVec 4)
  /-- REGION_DISABLE (R303): Clearing CAD_RG_CTRL.EN disables a region in one step. -/
  | regionDisable (who : Agent) (checker : Fin 65) (region : Fin 32) (perms : BitVec 4)
  /-- CADASTRE_LOCK (R303): CAD_CTRL.LOCK freezes every region of the checker until reset. -/
  | cadastreLock (who : Agent) (checker : Fin 65)
  /-- SVC_VERSION (R305): Monitor service returning the service version. -/
  | svcVersion (core : Fin 16) (mode : Mode)
  /-- SVC_ATTR_GET (R305): Monitor service returning the caller's attribute. -/
  | svcAttrGet (core : Fin 16) (mode : Mode)
  /-- SVC_PART_SWITCH (R305): Monitor service setting mwattr.PARTITION within the switch set. -/
  | svcPartSwitch (core : Fin 16) (mode : Mode) (partition : BitVec 64)
  /-- SVC_SECURE_STATUS (R305): Monitor service returning secure state, restarts and last completed call sequence. -/
  | svcSecureStatus (core : Fin 16) (mode : Mode)
  /-- SVC_REGION_SET (R305): Monitor service reprogramming a delegated Cadastre region. -/
  | svcRegionSet (core : Fin 16) (mode : Mode) (checker : BitVec 64) (region : BitVec 64) (base : BitVec 64) (limit : BitVec 64) (parts : BitVec 64) (perms : BitVec 64)
  /-- SVC_CMAC (R305): Secure service computing an AES-CMAC over a buffer. -/
  | svcCmac (core : Fin 16) (mode : Mode) (slot : BitVec 64) (addr : BitVec 64) (len : BitVec 64) (served : Bool)
  /-- SVC_CMAC_VERIFY (R305): Secure service verifying an AES-CMAC tag. -/
  | svcCmacVerify (core : Fin 16) (mode : Mode) (slot : BitVec 64) (addr : BitVec 64) (len : BitVec 64) (tagAddr : BitVec 64) (served : Bool)
  /-- SVC_RANDOM (R305): Secure service returning 64 random bits. -/
  | svcRandom (core : Fin 16) (mode : Mode) (served : Bool)
  /-- SVC_ATTEST (R305): Secure service writing a signed attestation report. -/
  | svcAttest (core : Fin 16) (mode : Mode) (nonceAddr : BitVec 64) (reportAddr : BitVec 64) (served : Bool)
  /-- SVC_KEY_LOAD (R305): Secure service unwrapping a key into slot 16–31. -/
  | svcKeyLoad (core : Fin 16) (mode : Mode) (slot : BitVec 64) (keyAddr : BitVec 64) (served : Bool)
  /-- SVC_FW_STAGE (R413): Secure service verifying an image and staging it into the idle slot. -/
  | svcFwStage (core : Fin 16) (mode : Mode) (addr : BitVec 64) (len : BitVec 64) (served : Bool)
  /-- SVC_FW_ACTIVATE (R414): Secure service requesting activation of a staged image. -/
  | svcFwActivate (core : Fin 16) (mode : Mode) (kind : BitVec 64) (served : Bool)
  /-- ECALL_UNKNOWN_SERVICE (R304): An ECALL with an unlisted service ID in the range returns E_ILLEGAL. -/
  | ecallUnknownService (core : Fin 16) (mode : Mode) (id : BitVec 64)
  /-- SERVICE_ANSWER (R306): The secure world's answer to a forwarded call reaches the monitor and is returned. -/
  | serviceAnswer (core : Fin 16)
  /-- SERVICE_CALL_TIMEOUT (R306): A forwarded call exceeds the service call limit and returns E_TIMEOUT. -/
  | serviceCallTimeout (core : Fin 16)
  /-- KEY_SLOT_LOAD (R307): CRY_KS_CTRL.LOAD takes key, type, uses and parts as the slot's new content. -/
  | keySlotLoad (who : Agent) (slot : Fin 32) (type : BitVec 4) (uses : BitVec 5)
  /-- KEY_SLOT_ZERO (R307): CRY_KS_CTRL.ZERO zeroises the slot's key. -/
  | keySlotZero (who : Agent) (slot : Fin 32)
  /-- KEY_SLOT_LOCK (R307): CRY_KS_CTRL.LOCK blocks writes, loads and zeroise until power-on reset. -/
  | keySlotLock (who : Agent) (slot : Fin 32)
  /-- SECURE_WATCHDOG_EXPIRY (R310): The secure watchdog expires and the secure cluster restarts under R311. -/
  | secureWatchdogExpiry
  /-- SECURE_RESTART (R311): CRY_SEC_CTRL.RESTART resets the secure cluster and re-measures its image. -/
  | secureRestart (who : Agent)
  /-- SECURE_READY (R311): CRY_SEC_CTRL.READY ends a restart and forwarded services resume. -/
  | secureReady (who : Agent)
  /-- SWD_KICK (R315): A write of 0xA5C3 to CRY_SWD_KICK restarts the operational count. -/
  | swdKick (who : Agent) (key : BitVec 16)
  /-- SECURE_WATCHDOG_TEST_EXPIRY (R315): The 1 ms test count expires and sets EXPIRED_TEST without a restart. -/
  | secureWatchdogTestExpiry
  /-- LEASE_WRITE (R313): A Secure write of PMU_LEASE_PD or PMU_LEASE_CLK sets or clears domain leases. -/
  | leaseWrite (who : Agent) (clk : Bool) (value : BitVec 64)
  /-- LEVEL_LINE_CHANGE (R322): A level source's line changes and its gateway pending state follows. -/
  | levelLineChange (source : Fin 1024) (ext : Bool)
  /-- EDGE_EVENT (R322): An edge source records a rising edge as pending or merges it. -/
  | edgeEvent (source : Fin 1024)
  /-- SOURCE_CONFIG_WRITE (R321): A write of ICN_SRC_CFGi or ICN_SRC_TGTi, carrying pending states across routing changes. -/
  | sourceConfigWrite (who : Agent) (source : Fin 1024) (tgt : Bool) (value : BitVec 64)
  /-- CLAIM (R324): A read of ICN_TGT_CLAIM claims the highest claimable source and pushes it on the stack. -/
  | claim (who : Agent) (target : Fin 64)
  /-- COMPLETE (R325): A write of ICN_TGT_COMPLETE pops the top entry and ends its active state. -/
  | complete (who : Agent) (target : Fin 64) (id : BitVec 10)
  /-- UNFREEZE (R327): A Secure write of ICN_UNFREEZE empties and unfreezes a target's stack. -/
  | unfreeze (who : Agent) (target : BitVec 6)
  /-- SW_SET (R329): A write of ICN_SW_SET raises an edge on a software source. -/
  | swSet (who : Agent) (n : Fin 64)
  /-- ICN_TEST_WRITE (R330): Pair B sets or clears ICN_CTRL.TEST, clearing empties every stack. -/
  | icnTestWrite (who : Agent) (test : Bool)
  /-- CAN_FRAME_RX (R334): A CAN frame is received, stamped and classified to a flow or dropped. -/
  | canFrameRx (can : Fin 16) (fmt : Fin 3) (key0 : BitVec 32) (key1 : BitVec 32) (event : CanError) (data : List Byte)
  /-- LIN_FRAME_RX (R334): A LIN frame is received, stamped and classified to a flow or dropped. -/
  | linFrameRx (lin : Fin 8) (id : BitVec 6) (checksumOk : Bool) (data : List Byte)
  /-- ETHERNET_FRAME_RX (R341): An Ethernet frame is received, stamped and its PDUs classified to flows or the default endpoint. -/
  | ethernetFrameRx (mac : Fin 6) (fcsOk : Bool) (frame : List Byte)
  /-- FLOW_PERIOD_TIMER (R343): A flow's output period falls due and a fresh value is emitted. -/
  | flowPeriodTimer (flow : Fin 65536)
  /-- FLOW_TIMEOUT (R343): A flow's input timeout expires, counting it and giving a DELIVER notice. -/
  | flowTimeout (flow : Fin 65536)
  /-- LIN_SCHEDULE_SLOT (R333): The gateway controller runs the next LIN schedule table entry on Datum time. -/
  | linScheduleSlot (lin : Fin 8) (id : BitVec 6)
  /-- GATE_LIST_SWAP (R336): GWY_GCL_CTRL.SWAP checks the shadow gate list and sets a swap pending. -/
  | gateListSwap (who : Agent) (mac : Fin 6) (value : BitVec 32)
  /-- GATE_CYCLE_START (R336): A gate cycle starts, applying any pending list swap. -/
  | gateCycleStart (mac : Fin 6)
  /-- GATE_ENTRY_CHANGE (R336): A gate control interval ends and the next entry's gates apply. -/
  | gateEntryChange (mac : Fin 6)
  /-- FLOW_SET (R338): Mailbox request writing a flow context. -/
  | flowSet (mailbox : Fin 64)
  /-- MAP_SET (R339): Mailbox request writing signal map entries. -/
  | mapSet (mailbox : Fin 64)
  /-- DEST_SET (R340): Mailbox request writing an Ethernet destination entry. -/
  | destSet (mailbox : Fin 64)
  /-- EP_OPEN (R338): Mailbox request opening an endpoint for the requester. -/
  | epOpen (mailbox : Fin 64)
  /-- EP_CLOSE (R338): Mailbox request closing an endpoint. -/
  | epClose (mailbox : Fin 64)
  /-- ENDPOINT_TX_RECORD (R344): The device reads a transmit slot and sends it on its SEND flow or skips it. -/
  | endpointTxRecord (endpoint : Fin 256)
  /-- READ_HOLD_TIMEOUT (R346): A bridge read without data after the read-hold timeout is aborted with E_RETRY. -/
  | readHoldTimeout (who : Agent) (bridge : Fin 4) (addr : BitVec 48)
  /-- LATE_COMPLETION (R346): A completion arriving after its read was aborted is discarded. -/
  | lateCompletion
  /-- FAR_FAILURE_REPORT (R347): A far-side posted-write failure report is logged in the sender's fence group. -/
  | farFailureReport (bridge : Fin 4) (group : Fin 16) (attr : BitVec 8) (addr : BitVec 48) (cls : FarClass)
  /-- BRIDGE_FENCE (R349): A read of BRG_FG_FENCE starts the bridge fence, issuing zero-length reads to written packages. -/
  | bridgeFence (who : Agent) (group : Fin 16)
  /-- BRIDGE_FENCE_DONE (R349): All fenced writes have landed or been logged and the fence read returns. -/
  | bridgeFenceDone (group : Fin 16)
  /-- FENCE_LOG_ACK (R348): A write of BRG_FG_ACK releases N fence group log entries. -/
  | fenceLogAck (who : Agent) (group : Fin 16) (count : BitVec 5)
  /-- PCIE_INBOUND_REQUEST (R350): A PCIe inbound request is translated by the first covering window or refused. -/
  | pcieInboundRequest (package : Fin 4) (group : Fin 16) (offset : BitVec 36) (acc : BusOp) (ecc : EccEvent)
  /-- PCIE_LINK_DOWN (R352): The PCIe link goes down, aborting outstanding reads and reporting unsent writes. -/
  | pcieLinkDown (unsent : BitVec 16)
  /-- INBOUND_WINDOW_ENABLE (R350): Setting BRG_IW_CTRL.EN checks alignment and bounds and enables the window. -/
  | inboundWindowEnable (who : Agent) (window : Fin 16) (value : BitVec 32)
  /-- FBA_REQUEST_RECEIVED (R371): An FBA message arrives on CAN, UDP or a mailbox and is queued, muted or answered E_BUSY. -/
  | fbaRequestReceived (carrier : FbaCarrier) (bytes : List Byte)
  /-- FBA_READ (R362): FBA READ returns an entry's value after the checks of R372. -/
  | fbaRead
  /-- FBA_WRITE (R362): FBA WRITE sets an entry's value, journalling persistent entries. -/
  | fbaWrite
  /-- FBA_DESCRIBE (R363): FBA DESCRIBE returns an entry's 32-byte description. -/
  | fbaDescribe
  /-- FBA_OPEN (R367): FBA OPEN authenticates a principal and opens its bound session. -/
  | fbaOpen
  /-- FBA_CLOSE (R367): FBA CLOSE closes the session. -/
  | fbaClose
  /-- SESSION_IDLE_TIMEOUT (R367): A session without an accepted request for the idle timeout closes. -/
  | sessionIdleTimeout (session : Fin 16)
  /-- MUTE_EXPIRY (R375): A muted source's 1 s mute ends. -/
  | muteExpiry (source : FbaSource)
  /-- VIOLATION_COUNT_CLEAR (R375): Per-source violation counts clear at each change of MER_SECONDS. -/
  | violationCountClear
  /-- JOURNAL_COPY_A_COMMIT (R379): Copy A's COMMIT programming completes, the write takes effect and is answered. -/
  | journalCopyACommit
  /-- JOURNAL_COPY_B_DONE (R379): Copy B's record completes and the next record may start. -/
  | journalCopyBDone
  /-- COMPACTION_DONE (R381): A copy's compaction writes its new half header and the old half is erased. -/
  | compactionDone
  /-- FW_WATCHDOG_KICK (R388): A processor writes 0x5A3C to its SYS_FWD_KICKn and restarts its count. -/
  | fwWatchdogKick (who : Agent) (n : Fin 23) (key : BitVec 16)
  /-- FW_WATCHDOG_EXPIRY (R388): A firmware processor's watchdog expires, resetting it and ending its work in progress. -/
  | fwWatchdogExpiry (n : Fin 23)
  /-- FW_WATCHDOG_TEST_EXPIRY (R214): A firmware watchdog in test mode expires and sets EXPIRED_TEST without reset. -/
  | fwWatchdogTestExpiry (n : Fin 23)
  /-- MAILBOX_ENABLE (R391): Setting MBX_MB_CFG.EN checks and enables a mailbox. -/
  | mailboxEnable (who : Agent) (mailbox : Fin 64) (value : BitVec 32)
  /-- MAILBOX_DISABLE (R391): Clearing MBX_MB_CFG.EN detaches the mailbox. -/
  | mailboxDisable (who : Agent) (mailbox : Fin 64) (value : BitVec 32)
  /-- ATTACH (R394): Mailbox ATTACH negotiates the version and may end an orphaned state. -/
  | attach (mailbox : Fin 64)
  /-- DETACH (R394): Mailbox DETACH clears ATTACHED. -/
  | detach (mailbox : Fin 64)
  /-- LOG_READ (R396): Mailbox request returning a processor's log records. -/
  | logRead (mailbox : Fin 64)
  /-- PD_SET (R395): Mailbox request switching a power domain on or off, subject to leases. -/
  | pdSet (mailbox : Fin 64)
  /-- CLK_SET (R395): Mailbox request gating or running a clock domain, subject to leases. -/
  | clkSet (mailbox : Fin 64)
  /-- SLEEP (R434): Mailbox request entering suspend to RAM or deep sleep. -/
  | sleep (mailbox : Fin 64)
  /-- POWER_STATUS (R396): Mailbox request returning the power and clock state. -/
  | powerStatus (mailbox : Fin 64)
  /-- LOG_FLUSH (R397): A processor flushes its on-chip log buffer into its DRAM ring. -/
  | logFlush (processor : Fin 23)
  /-- HEARTBEAT_KICK (R399): A write of MBX_HB_KICK records the writer partition's heartbeat. -/
  | heartbeatKick (who : Agent)
  /-- HEARTBEAT_LAPSE (R399): A supervised partition's heartbeat lapses and it becomes orphaned. -/
  | heartbeatLapse (partition : Fin 64)
  /-- PMU_LOOP (R403): The 10 kHz PMU loop reads sensors, power and rails and updates the PMU state. -/
  | pmuLoop (hot : BitVec 16) (power : BitVec 16) (rails : BitVec 20)
  /-- AVS_TRIM (R403): Once per second the ring oscillators trim each domain's voltage. -/
  | avsTrim (domain : Fin 20) (mv : Int)
  /-- RAIL_DROOP (R403): A rail below its droop level stretches the clocks on that rail. -/
  | railDroop
  /-- RAIL_FAULT (R403): A rail outside its window for 10 µs kills the work on its domains. -/
  | railFault (domains : BitVec 20)
  /-- CEILING_LOWER (R407): In THROTTLE the ceilings of non-protected partitions fall one point every 10 ms. -/
  | ceilingLower
  /-- CEILING_RAISE (R407): In NORMAL ceilings rise one point every 100 ms. -/
  | ceilingRaise
  /-- SHED_STEP (R408): Every 10 ms of EMERGENCY the next shedding step is taken. -/
  | shedStep
  /-- SHED_UNDO (R408): After 1 s out of EMERGENCY a shed step is undone every 100 ms. -/
  | shedUndo
  /-- THERMAL_TRIP (R436): A sensor at 130 °C drives THERMTRIP_N low and holds the device in system reset. -/
  | thermalTrip
  /-- STAGE_WRITE_DONE (R413): The background staging write is read back and the kind becomes STAGED or FAILED. -/
  | stageWriteDone (kind : Fin 3) (good : Bool)
  /-- FW_SWITCH_READY_TIMEOUT (R415): A processor not ready within 300 µs fails the switch back to the old image. -/
  | fwSwitchReadyTimeout
  /-- POWER_ON_RESET (R421): POR_N rises, straps are latched and the boot stages run. -/
  | powerOnReset (straps : BitVec 6)
  /-- SYSTEM_RESET (R421): RESET_N low resets every domain but domain 0 after any journal record completes. -/
  | systemReset (held : Bool)
  /-- SOFTWARE_RESET (R421): SYS_RST_CTRL.SYSTEM requests a system reset from the Secure world. -/
  | softwareReset (who : Agent)
  /-- PLL_LOSS (R429): A PLL or the reference loses lock or frequency and the response of R429 follows. -/
  | pllLoss (pll : Fin 13)
  /-- PLL_RELOCK (R429): A lost PLL relocks and admission on its domains resumes. -/
  | pllRelock (pll : Fin 12)
  /-- CLOCK_ENABLE_WRITE (R428): A write of SYS_CLK_EN gates or runs clock domains, except fixed and leased ones. -/
  | clockEnableWrite (who : Agent) (value : BitVec 60)
  /-- WAKE (R434): WAKE_N low wakes the device from suspend to RAM or deep sleep. -/
  | wake
  /-- SLEEP_ENTRY_DONE (R434): Sleep entry completes and any held wake then proceeds. -/
  | sleepEntryDone
  /-- PWR_FAIL (R435): PWR_FAIL_N low for 1 µs enters EMERGENCY and the journal power-fail rules. -/
  | pwrFail
  /-- PWR_FAIL_RETURN (R435): PWR_FAIL_N returns high with POR_N high and journalling resumes. -/
  | pwrFailReturn
  /-- DEBUG_CHALLENGE_READ (R442): The debugger reads a 32-byte random challenge from the debug port. -/
  | debugChallengeRead
  /-- DEBUG_TOKEN (R442): A written debug token is checked and unlocks level 1 or 2 or is refused. -/
  | debugToken (token : List Byte)
  /-- BYPASS (R441): TAP BYPASS instruction. -/
  | bypass
  /-- IDCODE (R441): TAP IDCODE instruction returning the device identification. -/
  | idcode
  /-- SAMPLE_PRELOAD (R441): TAP SAMPLE/PRELOAD instruction. -/
  | samplePreload (cells : List Bool)
  /-- EXTEST (R441): TAP EXTEST instruction, acting only while RESET_N is low. -/
  | extest
  /-- CLAMP (R441): TAP CLAMP instruction, acting only while RESET_N is low. -/
  | clamp
  /-- HIGHZ (R441): TAP HIGHZ instruction, acting only while RESET_N is low. -/
  | highz
  /-- FW_PROCESSOR_READY (R415): A firmware processor that was reset, by its watchdog or by a firmware switch, reports ready and returns to RUNNING, completing the switch once all 22 are ready. -/
  | fwProcessorReady (n : Fin 23)
  /-- RESTART_MEASUREMENT_DONE (R311): The boot security controller finishes re-measuring and verifying the secure image during a restart, and releases core 0, reloads from the boot slot, or enters FAILED. -/
  | restartMeasurementDone
  /-- ACTIVATION_WRITE_DONE (R414): The NOR program of slot A's MAGIC word for an activation completes and the kind's update state becomes ACTIVE. -/
  | activationWriteDone (kind : Fin 3)
  /-- DISPLAY_LINK_LOSS (R261): A trained DisplayPort, eDP or DSI link is lost (for example on hot-plug), clearing LINK_UP and starting retraining counted in FB 0x6080.07. -/
  | displayLinkLoss (display : Fin 4)
  /-- ETHERNET_LINK_CHANGE (R354): An Ethernet MAC's link goes up or down, raising its ICN source 680 + m. -/
  | ethernetLinkChange (mac : Fin 6) (up : Bool)
  /-- PCIE_LINK_UP (R352): The PCIe link trains and comes up again after being down, letting bridge traffic resume. -/
  | pcieLinkUp
  /-- FRAME_TRANSMIT_DONE (R343): A frame waiting at a CAN, LIN or Ethernet egress wins arbitration or its gate and finishes transmission, freeing the flow's egress slot. -/
  | frameTransmitDone (iface : BitVec 8) (pick : BitVec 8) (failed : Bool)
  /-- CAN_BUS_OFF_RECOVERY (R345): A bus-off CAN controller with AUTO_BO = 1 completes the ISO 11898-1 recovery sequence and returns to error-active. -/
  | canBusOffRecovery (can : Fin 16)
  /-- LIN_RESPONSE_TIMEOUT (R345): No LIN response arrives within the response window, so the frame is dropped and FB 0x60C0.09 increments. -/
  | linResponseTimeout (lin : Fin 8)
  /-- CB_RESET_TIME_EXPIRY (R335): The IEEE 802.1CB recovery reset time FB 0x5000.04 runs out without a frame of the stream and the sequence history is reset. -/
  | cbResetTimeExpiry (flow : Fin 65536)
  /-- COLL_COMMIT_ACK (R178): The lead package receives a participant's commit acknowledgement after GO. -/
  | collCommitAck (group : BitVec 8) (peer : Fin 4)
  /-- LIVE_RANGE_COPY_DONE (R165): The cluster controllers finish copying a compatibility queue's live ranges to the save area (setting SAVED) or back to the tiles (clearing SAVED). -/
  | liveRangeCopyDone (queue : Fin 256)
  deriving DecidableEq, Repr

end Sys2Proof
end

