-- ==== Sys2Proof/Machine/RegModel.lean ====
section
/-! DEFINITION. What a register is: fields with the access codes of R13, the shape of a row of a register
table (R9, R10), and the shape of a row of the Field Book (R356, R357). -/

namespace Sys2Proof.Machine

/-- A field of a register: the register's physical address and the bit range `[hi:lo]`. -/
structure Field where
  addr : Nat
  hi : Nat
  lo : Nat
  deriving DecidableEq, Repr

/-- The key under which the field map holds a field. -/
def Field.key (f : Field) : Nat := f.addr * 64 + f.lo

/-- The field's width in bits. -/
def Field.width (f : Field) : Nat := f.hi + 1 - f.lo

/-- The access codes of R13. -/
inductive Acc where
  | rw | ro | wo | w1c | w1s | rc
  deriving DecidableEq, Repr

/-- A field of a register table row: its bits, access code and reset value. -/
structure FieldD where
  hi : Nat
  lo : Nat
  acc : Acc
  rst : Nat
  deriving DecidableEq, Repr

/-- A row of a register table: the base address, the counts and strides of its indices (outermost first),
whether it is 64 bits wide, the bit of the EN field that locks it (base address and bit, under the same indices)
and its fields. -/
structure RegD where
  base : Nat
  dims : List (Nat × Nat)
  wide : Bool
  lock : Option (Nat × Nat)
  fields : List FieldD
  deriving DecidableEq, Repr

/-- Where an offset from a base falls among strided indices: the offset of the indexed copy and what is left. -/
def stride : List (Nat × Nat) → Nat → Option (Nat × Nat)
  | [], off => some (0, off)
  | (n, st) :: ds, off =>
    if off / st < n then
      match stride ds (off % st) with
      | some (o, rest) => some (off / st * st + o, rest)
      | none => none
    else none

/-- The copy of the register that holds an address: the offset of its indices, if the address lies in it. -/
def RegD.offset? (r : RegD) (a : Nat) : Option Nat :=
  if a < r.base then none
  else
    match stride r.dims (a - r.base) with
    | some (o, rest) => if rest < (if r.wide then 8 else 4) then some o else none
    | none => none

/-- A register found at an address: its row and the offset of its indices. -/
structure RegHit where
  reg : RegD
  off : Nat
  deriving DecidableEq, Repr

/-- The register that holds an address. -/
def findReg : List RegD → Nat → Option RegHit
  | [], _ => none
  | r :: rs, a =>
    match r.offset? a with
    | some o => some ⟨r, o⟩
    | none => findReg rs a

/-- The register's own address. -/
def RegHit.addr (h : RegHit) : Nat := h.reg.base + h.off

/-- A field of the register found. -/
def RegHit.field (h : RegHit) (f : FieldD) : Field := ⟨h.addr, f.hi, f.lo⟩

/-- The types of Field Book entries (R357). -/
inductive FbType where
  | u8 | u16 | u32 | u64 | i8 | i16 | i32 | i64 | f32 | oct | str
  deriving DecidableEq, Repr

/-- The access rights of R358. -/
inductive FbAcc where
  | ro | rw | wo
  deriving DecidableEq, Repr

/-- A row of the Field Book's tables (R356): `idxCount` successive indices share the row, `subLo` to `subHi` its
sub-indices; `ranges` lists the closed ranges of the legal values (none: the table shows no range). -/
structure FbEntry where
  index : Nat
  idxCount : Nat
  subLo : Nat
  subHi : Nat
  type : FbType
  size : Nat
  acc : FbAcc
  auth : Nat
  dflt : Int
  ranges : List (Int × Int)
  /-- 0: none. 1: below the hyperperiod. 2: bit 0 and the safety partition's bit clear. 3: not a sharer of the
  group. 4: the owner's bit clear. 5: 4 KiB aligned. 6: bit 0 and the safety partition's bit set. 7: a standard
  identifier must not exceed 0x7FF. -/
  special : Nat
  deriving DecidableEq, Repr

end Sys2Proof.Machine
end

