-- ==== Sys2Proof/Machine/FbTable.lean ====
section
/-! DEFINITION. The Field Book's entries as the chapters' tables give them (R356): index, sub-indices, type,
access right, authentication level, default and range. `special` names a range that depends on other state
(`FbEntry.special`). Sub-index 0 of every index is implied (R356). -/

namespace Sys2Proof.Machine

/-- Every assigned entry of the Field Book, by ascending index and sub-index. -/
def fbTable : List FbEntry :=
  [
   -- Device identity
   ⟨0x1000, 1, 0x1, 0x1, .u32, 4, .ro, 0, 0, [], 0⟩,
   -- Unit mask
   ⟨0x1000, 1, 0x2, 0x2, .u32, 4, .ro, 0, 0, [], 0⟩,
   -- Serial number
   ⟨0x1000, 1, 0x3, 0x3, .oct, 16, .ro, 0, 0, [], 0⟩,
   -- Secure image SVN
   ⟨0x1000, 1, 0x4, 0x4, .u8, 1, .ro, 0, 0, [(0, 64)], 0⟩,
   -- FBA CAN controllers
   ⟨0x1100, 1, 0x1, 0x1, .u16, 2, .rw, 2, 1, [(0, 0xFFFF)], 0⟩,
   -- Request identifier
   ⟨0x1100, 1, 0x2, 0x2, .u32, 4, .rw, 2, 0x6F0, [(0, 0x3FFFFFFF)], 7⟩,
   -- Response identifier
   ⟨0x1100, 1, 0x3, 0x3, .u32, 4, .rw, 2, 0x6F1, [(0, 0x3FFFFFFF)], 7⟩,
   -- FBA UDP port
   ⟨0x1100, 1, 0x4, 0x4, .u16, 2, .rw, 2, 0xC001, [(1, 0xFFFF)], 0⟩,
   -- FBA MACs
   ⟨0x1100, 1, 0x5, 0x5, .u8, 1, .rw, 2, 3, [(0, 63)], 0⟩,
   -- FBA XL SDT
   ⟨0x1100, 1, 0x6, 0x6, .u8, 1, .rw, 2, 7, [(0, 255)], 0⟩,
   -- Open sessions
   ⟨0x1200, 1, 0x1, 0x1, .u16, 2, .ro, 0, 0, [], 0⟩,
   -- Session idle timeout
   ⟨0x1200, 1, 0x2, 0x2, .u16, 2, .rw, 2, 60, [(5, 0xE10)], 0⟩,
   -- Local level, partition 0–63
   ⟨0x1201, 1, 0x1, 0x40, .u8, 1, .rw, 2, 0, [(0, 2)], 0⟩,
   -- Principal enabled, p = 0–14
   ⟨0x1210, 15, 0x1, 0x1, .u8, 1, .rw, 2, 0, [(0, 1)], 0⟩,
   -- Principal key slot
   ⟨0x1210, 15, 0x2, 0x2, .u8, 1, .rw, 2, 0, [(0, 31)], 0⟩,
   -- Principal level
   ⟨0x1210, 15, 0x3, 0x3, .u8, 1, .rw, 2, 2, [(1, 2)], 0⟩
  ] ++
  [
   -- Principal carrier
   ⟨0x1210, 15, 0x4, 0x4, .u8, 1, .rw, 2, 0, [(0, 2)], 0⟩,
   -- Open counter
   ⟨0x1210, 15, 0x5, 0x5, .u32, 4, .ro, 0, 0, [], 0⟩,
   -- Results owner
   ⟨0x1220, 1, 0x1, 0x1, .u8, 1, .rw, 2, 5, [(0, 63)], 0⟩,
   -- Base tick period
   ⟨0x2000, 1, 0x1, 0x1, .u16, 2, .rw, 1, 0x3E8, [(250, 0x2710)], 0⟩,
   -- Hyperperiod ticks
   ⟨0x2000, 1, 0x2, 0x2, .u16, 2, .rw, 1, 0x3E8, [(1, 0xFA0)], 0⟩,
   -- Meridian phase
   ⟨0x2000, 1, 0x3, 0x3, .u32, 4, .rw, 1, 0, [], 1⟩,
   -- Table lock at boot
   ⟨0x2000, 1, 0x4, 0x4, .u8, 1, .rw, 2, 1, [(0, 1)], 0⟩,
   -- Datum source
   ⟨0x2010, 1, 0x1, 0x1, .u8, 1, .rw, 2, 1, [(0, 2)], 0⟩,
   -- gPTP MACs
   ⟨0x2010, 1, 0x2, 0x2, .u8, 1, .rw, 1, 1, [(0, 63)], 0⟩,
   -- Acquisition wait
   ⟨0x2010, 1, 0x3, 0x3, .u16, 2, .rw, 1, 0x12C, [(0, 0x7D0)], 0⟩,
   -- Jump threshold
   ⟨0x2010, 1, 0x4, 0x4, .u32, 4, .rw, 2, 0x3E8, [(100, 0xF4240)], 0⟩,
   -- Rebase
   ⟨0x2010, 1, 0x5, 0x5, .u8, 1, .wo, 2, 0, [(1, 1)], 0⟩,
   -- Holdover limit
   ⟨0x2010, 1, 0x6, 0x6, .u16, 2, .rw, 1, 10, [(1, 0xE10)], 0⟩,
   -- Maximum slew
   ⟨0x2010, 1, 0x7, 0x7, .u16, 2, .rw, 1, 0x1F4, [(1, 0x1F4)], 0⟩,
   -- One-step Sync
   ⟨0x2010, 1, 0x8, 0x8, .u8, 1, .rw, 1, 63, [(0, 63)], 0⟩,
   -- Datum state
   ⟨0x2010, 1, 0x9, 0x9, .u8, 1, .ro, 0, 0, [(0, 3)], 0⟩
  ] ++
  [
   -- Port configuration
   ⟨0x2010, 1, 0xA, 0xA, .u8, 1, .rw, 2, 0, [(0, 2)], 0⟩,
   -- Ingress correction, MAC 0–5
   ⟨0x2011, 1, 0x1, 0x6, .i16, 2, .rw, 1, 0, [((-1000), 0x3E8)], 0⟩,
   -- Egress correction, MAC 0–5
   ⟨0x2012, 1, 0x1, 0x6, .i16, 2, .rw, 1, 0, [((-1000), 0x3E8)], 0⟩,
   -- Table CRC
   ⟨0x3000, 1, 0x1, 0x1, .u32, 4, .rw, 2, 0, [], 0⟩,
   -- Safety partition
   ⟨0x3000, 1, 0x2, 0x2, .u8, 1, .rw, 2, 1, [(1, 63)], 0⟩,
   -- Consecutive-disagreement threshold
   ⟨0x3010, 1, 0x2, 0x2, .u8, 1, .rw, 2, 3, [(1, 8)], 0⟩,
   -- Display event threshold
   ⟨0x3010, 1, 0x4, 0x4, .u8, 1, .rw, 2, 3, [(1, 8)], 0⟩,
   -- Display action
   ⟨0x3010, 1, 0x5, 0x5, .u8, 1, .rw, 2, 1, [(0, 1)], 0⟩,
   -- Benchmark interval
   ⟨0x3020, 1, 0x1, 0x1, .u16, 2, .rw, 2, 100, [(10, 0x2710)], 0⟩,
   -- Perception age limit
   ⟨0x3030, 1, 0x1, 0x1, .u16, 2, .rw, 2, 100, [(1, 0x3E8)], 0⟩,
   -- Plan age limit
   ⟨0x3030, 1, 0x2, 0x2, .u16, 2, .rw, 2, 50, [(1, 0x3E8)], 0⟩,
   -- Status CAN controller
   ⟨0x3040, 1, 0x1, 0x1, .u8, 1, .rw, 2, 0, [(0, 15)], 0⟩,
   -- Status CAN identifier
   ⟨0x3040, 1, 0x2, 0x2, .u32, 4, .rw, 2, 16, [(0, 0x3FFFFFFF)], 7⟩,
   -- Status Ethernet flow
   ⟨0x3040, 1, 0x3, 0x3, .u16, 2, .rw, 2, 0, [(0, 0xFFFF)], 0⟩,
   -- Status period
   ⟨0x3040, 1, 0x4, 0x4, .u16, 2, .rw, 2, 10, [(1, 100)], 0⟩,
   -- Status DATA_ID
   ⟨0x3040, 1, 0x5, 0x5, .u16, 2, .rw, 2, 0, [(0, 0xFFFF)], 0⟩
  ] ++
  [
   -- Safety state
   ⟨0x3050, 1, 0x1, 0x1, .u8, 1, .ro, 0, 0, [(0, 3)], 0⟩,
   -- Sustained budget
   ⟨0x4000, 1, 0x1, 0x1, .u16, 2, .rw, 2, 180, [(60, 210)], 0⟩,
   -- Training budget
   ⟨0x4000, 1, 0x2, 0x2, .u16, 2, .rw, 2, 140, [(60, 180)], 0⟩,
   -- Package power
   ⟨0x4000, 1, 0x3, 0x3, .u16, 2, .ro, 0, 0, [], 0⟩,
   -- Hottest junction
   ⟨0x4000, 1, 0x4, 0x4, .i16, 2, .ro, 0, 0, [], 0⟩,
   -- PMU state
   ⟨0x4000, 1, 0x5, 0x5, .u8, 1, .ro, 0, 0, [(0, 3)], 0⟩,
   -- Shed step
   ⟨0x4000, 1, 0x6, 0x6, .u8, 1, .ro, 0, 0, [(0, 3)], 0⟩,
   -- Training grant
   ⟨0x4000, 1, 0x7, 0x7, .u8, 1, .ro, 0, 0, [(0, 1)], 0⟩,
   -- Protected partitions
   ⟨0x4010, 1, 0x1, 0x1, .u64, 8, .rw, 2, 71, [], 6⟩,
   -- Cockpit partition
   ⟨0x4010, 1, 0x2, 0x2, .u8, 1, .rw, 2, 3, [(0, 63)], 0⟩,
   -- Throttle threshold
   ⟨0x4020, 1, 0x1, 0x1, .i16, 2, .rw, 2, 115, [(90, 115)], 0⟩,
   -- Emergency threshold
   ⟨0x4020, 1, 0x2, 0x2, .i16, 2, .rw, 2, 122, [(100, 122)], 0⟩,
   -- Hysteresis
   ⟨0x4020, 1, 0x3, 0x3, .u8, 1, .rw, 2, 5, [(2, 10)], 0⟩,
   -- Gateway partition
   ⟨0x5000, 1, 0x1, 0x1, .u8, 1, .rw, 2, 6, [(0, 63)], 0⟩,
   -- Flow table address
   ⟨0x5000, 1, 0x2, 0x2, .u64, 8, .rw, 2, 0, [], 5⟩,
   -- PDU port
   ⟨0x5000, 1, 0x3, 0x3, .u16, 2, .rw, 1, 0xC000, [(1, 0xFFFF)], 0⟩
  ] ++
  [
   -- CB reset time
   ⟨0x5000, 1, 0x4, 0x4, .u16, 2, .rw, 1, 100, [(1, 0x2710)], 0⟩,
   -- Default endpoint, MAC 0–5
   ⟨0x5000, 1, 0x10, 0x15, .u16, 2, .rw, 1, 0xFFFF, [(0, 255), (0xFFFF, 0xFFFF)], 0⟩,
   -- Read-hold timeout
   ⟨0x5100, 1, 0x1, 0x1, .u16, 2, .rw, 2, 50, [(10, 0x3E8)], 0⟩,
   -- Refused jumps and refused steps, under R51 and R53
   ⟨0x6020, 1, 0x1, 0x1, .u32, 4, .ro, 0, 0, [], 0⟩,
   -- Steps applied
   ⟨0x6020, 1, 0x2, 0x2, .u32, 4, .ro, 0, 0, [], 0⟩,
   -- Window-end kills
   ⟨0x6020, 1, 0x3, 0x3, .u32, 4, .ro, 0, 0, [], 0⟩,
   -- Admission deferrals
   ⟨0x6020, 1, 0x4, 0x4, .u32, 4, .ro, 0, 0, [], 0⟩,
   -- Admission rejections
   ⟨0x6020, 1, 0x5, 0x5, .u32, 4, .ro, 0, 0, [], 0⟩,
   -- Alignment losses
   ⟨0x6020, 1, 0x6, 0x6, .u32, 4, .ro, 0, 0, [], 0⟩,
   -- Grandmaster changes
   ⟨0x6020, 1, 0x7, 0x7, .u32, 4, .ro, 0, 0, [], 0⟩,
   -- gPTP messages of other domains dropped
   ⟨0x6020, 1, 0x8, 0x8, .u32, 4, .ro, 0, 0, [], 0⟩,
   -- Tile arithmetic faults
   ⟨0x6030, 1, 0x1, 0x1, .u32, 4, .ro, 0, 0, [], 0⟩,
   -- Uncorrectable ECC
   ⟨0x6030, 1, 0x2, 0x2, .u32, 4, .ro, 0, 0, [], 0⟩,
   -- Job kills
   ⟨0x6030, 1, 0x3, 0x3, .u32, 4, .ro, 0, 0, [], 0⟩,
   -- Job restarts
   ⟨0x6030, 1, 0x4, 0x4, .u32, 4, .ro, 0, 0, [], 0⟩,
   -- Preemptions
   ⟨0x6030, 1, 0x5, 0x5, .u32, 4, .ro, 0, 0, [], 0⟩
  ] ++
  [
   -- Cluster isolations
   ⟨0x6030, 1, 0x6, 0x6, .u32, 4, .ro, 0, 0, [], 0⟩,
   -- De-fused jobs
   ⟨0x6030, 1, 0x7, 0x7, .u32, 4, .ro, 0, 0, [], 0⟩,
   -- Partition clears
   ⟨0x6030, 1, 0x8, 0x8, .u32, 4, .ro, 0, 0, [], 0⟩,
   -- Scrubber uncorrectable
   ⟨0x6030, 1, 0x9, 0x9, .u32, 4, .ro, 0, 0, [], 0⟩,
   -- Cross-package kills
   ⟨0x6030, 1, 0xA, 0xA, .u32, 4, .ro, 0, 0, [], 0⟩,
   -- Split commits
   ⟨0x6030, 1, 0xB, 0xB, .u32, 4, .ro, 0, 0, [], 0⟩,
   -- Freezes
   ⟨0x6030, 1, 0xC, 0xC, .u32, 4, .ro, 0, 0, [], 0⟩,
   -- Restores
   ⟨0x6030, 1, 0xD, 0xD, .u32, 4, .ro, 0, 0, [], 0⟩,
   -- Compatibility saves
   ⟨0x6030, 1, 0xE, 0xE, .u32, 4, .ro, 0, 0, [], 0⟩,
   -- Peer losses
   ⟨0x6030, 1, 0xF, 0xF, .u32, 4, .ro, 0, 0, [], 0⟩,
   -- Steps committed
   ⟨0x6040, 1, 0x1, 0x1, .u32, 4, .ro, 0, 0, [], 0⟩,
   -- Steps rolled back
   ⟨0x6040, 1, 0x2, 0x2, .u32, 4, .ro, 0, 0, [], 0⟩,
   -- Joiners deferred
   ⟨0x6040, 1, 0x3, 0x3, .u32, 4, .ro, 0, 0, [], 0⟩,
   -- Sequences spilled
   ⟨0x6040, 1, 0x4, 0x4, .u32, 4, .ro, 0, 0, [], 0⟩,
   -- Sequences dropped
   ⟨0x6040, 1, 0x5, 0x5, .u32, 4, .ro, 0, 0, [], 0⟩,
   -- Sequences restored
   ⟨0x6040, 1, 0x6, 0x6, .u32, 4, .ro, 0, 0, [], 0⟩
  ] ++
  [
   -- Exhaustion rejections
   ⟨0x6040, 1, 0x7, 0x7, .u32, 4, .ro, 0, 0, [], 0⟩,
   -- Training steps committed
   ⟨0x6040, 1, 0x8, 0x8, .u32, 4, .ro, 0, 0, [], 0⟩,
   -- Training jobs shed
   ⟨0x6040, 1, 0x9, 0x9, .u32, 4, .ro, 0, 0, [], 0⟩,
   -- Non-finite gradient steps
   ⟨0x6040, 1, 0xA, 0xA, .u32, 4, .ro, 0, 0, [], 0⟩,
   -- Channel group refusals
   ⟨0x6050, 1, 0x1, 0x1, .u32, 4, .ro, 0, 0, [], 0⟩,
   -- Disagreements
   ⟨0x6060, 1, 0x1, 0x1, .u32, 4, .ro, 0, 0, [], 0⟩,
   -- Missing results
   ⟨0x6060, 1, 0x2, 0x2, .u32, 4, .ro, 0, 0, [], 0⟩,
   -- Age violations
   ⟨0x6060, 1, 0x3, 0x3, .u32, 4, .ro, 0, 0, [], 0⟩,
   -- Benchmark passes
   ⟨0x6060, 1, 0x4, 0x4, .u32, 4, .ro, 0, 0, [], 0⟩,
   -- Benchmark failures
   ⟨0x6060, 1, 0x5, 0x5, .u32, 4, .ro, 0, 0, [], 0⟩,
   -- Benchmark deferrals
   ⟨0x6060, 1, 0x6, 0x6, .u32, 4, .ro, 0, 0, [], 0⟩,
   -- Urgent Benchmarks
   ⟨0x6060, 1, 0x7, 0x7, .u32, 4, .ro, 0, 0, [], 0⟩,
   -- Latent-fault timeouts
   ⟨0x6060, 1, 0x8, 0x8, .u32, 4, .ro, 0, 0, [], 0⟩,
   -- Display events
   ⟨0x6060, 1, 0x9, 0x9, .u32, 4, .ro, 0, 0, [], 0⟩,
   -- Log overwrites
   ⟨0x6060, 1, 0xA, 0xA, .u32, 4, .ro, 0, 0, [], 0⟩,
   -- Safe-state declarations
   ⟨0x6060, 1, 0xB, 0xB, .u32, 4, .ro, 0, 0, [], 0⟩
  ] ++
  [
   -- Plans committed
   ⟨0x6070, 1, 0x1, 0x1, .u32, 4, .ro, 0, 0, [], 0⟩,
   -- Full replans
   ⟨0x6070, 1, 0x2, 0x2, .u32, 4, .ro, 0, 0, [], 0⟩,
   -- Repairs
   ⟨0x6070, 1, 0x3, 0x3, .u32, 4, .ro, 0, 0, [], 0⟩,
   -- No path
   ⟨0x6070, 1, 0x4, 0x4, .u32, 4, .ro, 0, 0, [], 0⟩,
   -- No path in time
   ⟨0x6070, 1, 0x5, 0x5, .u32, 4, .ro, 0, 0, [], 0⟩,
   -- Candidates invalidated
   ⟨0x6070, 1, 0x6, 0x6, .u32, 4, .ro, 0, 0, [], 0⟩,
   -- Fallbacks after invalidation
   ⟨0x6070, 1, 0x7, 0x7, .u32, 4, .ro, 0, 0, [], 0⟩,
   -- Checker disagreements
   ⟨0x6070, 1, 0x8, 0x8, .u32, 4, .ro, 0, 0, [], 0⟩,
   -- Window kills
   ⟨0x6070, 1, 0x9, 0x9, .u32, 4, .ro, 0, 0, [], 0⟩,
   -- Delta mismatches
   ⟨0x6070, 1, 0xA, 0xA, .u32, 4, .ro, 0, 0, [], 0⟩,
   -- Partial searches
   ⟨0x6070, 1, 0xB, 0xB, .u32, 4, .ro, 0, 0, [], 0⟩,
   -- Fallback collisions
   ⟨0x6070, 1, 0xC, 0xC, .u32, 4, .ro, 0, 0, [], 0⟩,
   -- Bin faults
   ⟨0x6080, 1, 0x1, 0x1, .u32, 4, .ro, 0, 0, [], 0⟩,
   -- Flushes
   ⟨0x6080, 1, 0x2, 0x2, .u32, 4, .ro, 0, 0, [], 0⟩,
   -- Compute preemptions
   ⟨0x6080, 1, 0x3, 0x3, .u32, 4, .ro, 0, 0, [], 0⟩,
   -- Compute kills
   ⟨0x6080, 1, 0x4, 0x4, .u32, 4, .ro, 0, 0, [], 0⟩
  ] ++
  [
   -- Freezes
   ⟨0x6080, 1, 0x5, 0x5, .u32, 4, .ro, 0, 0, [], 0⟩,
   -- Heap failures
   ⟨0x6080, 1, 0x6, 0x6, .u32, 4, .ro, 0, 0, [], 0⟩,
   -- Link retrains
   ⟨0x6080, 1, 0x7, 0x7, .u32, 4, .ro, 0, 0, [], 0⟩,
   -- Relock frames
   ⟨0x6080, 1, 0x8, 0x8, .u32, 4, .ro, 0, 0, [], 0⟩,
   -- Frames captured
   ⟨0x6090, 1, 0x1, 0x1, .u32, 4, .ro, 0, 0, [], 0⟩,
   -- Corrupt frames
   ⟨0x6090, 1, 0x2, 0x2, .u32, 4, .ro, 0, 0, [], 0⟩,
   -- Buffer drops
   ⟨0x6090, 1, 0x3, 0x3, .u32, 4, .ro, 0, 0, [], 0⟩,
   -- Stale drops
   ⟨0x6090, 1, 0x4, 0x4, .u32, 4, .ro, 0, 0, [], 0⟩,
   -- Substitutions
   ⟨0x6090, 1, 0x5, 0x5, .u32, 4, .ro, 0, 0, [], 0⟩,
   -- Absent samples
   ⟨0x6090, 1, 0x6, 0x6, .u32, 4, .ro, 0, 0, [], 0⟩,
   -- Dimension rejections
   ⟨0x6090, 1, 0x7, 0x7, .u32, 4, .ro, 0, 0, [], 0⟩,
   -- Abandoned decodes
   ⟨0x6090, 1, 0x8, 0x8, .u32, 4, .ro, 0, 0, [], 0⟩,
   -- Batches discarded
   ⟨0x6090, 1, 0x9, 0x9, .u32, 4, .ro, 0, 0, [], 0⟩,
   -- Low-water alarms
   ⟨0x6090, 1, 0xA, 0xA, .u32, 4, .ro, 0, 0, [], 0⟩,
   -- CSI-2 packets discarded
   ⟨0x6090, 1, 0xB, 0xB, .u32, 4, .ro, 0, 0, [], 0⟩,
   -- Record ring overflows
   ⟨0x6090, 1, 0xC, 0xC, .u32, 4, .ro, 0, 0, [], 0⟩
  ] ++
  [
   -- Frames without staging
   ⟨0x6090, 1, 0xD, 0xD, .u32, 4, .ro, 0, 0, [], 0⟩,
   -- Staging kills
   ⟨0x6090, 1, 0xE, 0xE, .u32, 4, .ro, 0, 0, [], 0⟩,
   -- Format mismatches
   ⟨0x6090, 1, 0xF, 0xF, .u32, 4, .ro, 0, 0, [], 0⟩,
   -- Context slow
   ⟨0x6091, 1, 0x1, 0x40, .u8, 1, .ro, 0, 0, [(0, 1)], 0⟩,
   -- Cadastre refusals
   ⟨0x60A0, 1, 0x1, 0x1, .u32, 4, .ro, 0, 0, [], 0⟩,
   -- Log drops
   ⟨0x60A0, 1, 0x2, 0x2, .u32, 4, .ro, 0, 0, [], 0⟩,
   -- Secure restarts
   ⟨0x60A0, 1, 0x3, 0x3, .u32, 4, .ro, 0, 0, [], 0⟩,
   -- Restart failures
   ⟨0x60A0, 1, 0x4, 0x4, .u32, 4, .ro, 0, 0, [], 0⟩,
   -- Lease refusals
   ⟨0x60A0, 1, 0x5, 0x5, .u32, 4, .ro, 0, 0, [], 0⟩,
   -- Lease writes ignored
   ⟨0x60A0, 1, 0x6, 0x6, .u32, 4, .ro, 0, 0, [], 0⟩,
   -- Services unavailable
   ⟨0x60A0, 1, 0x7, 0x7, .u32, 4, .ro, 0, 0, [], 0⟩,
   -- Stack faults
   ⟨0x60B0, 1, 0x1, 0x1, .u32, 4, .ro, 0, 0, [], 0⟩,
   -- Merged edges
   ⟨0x60B0, 1, 0x2, 0x2, .u32, 4, .ro, 0, 0, [], 0⟩,
   -- Target page refusals
   ⟨0x60B0, 1, 0x3, 0x3, .u32, 4, .ro, 0, 0, [], 0⟩,
   -- Frames without flow
   ⟨0x60C0, 1, 0x1, 0x1, .u32, 4, .ro, 0, 0, [], 0⟩,
   -- Short payloads
   ⟨0x60C0, 1, 0x2, 0x2, .u32, 4, .ro, 0, 0, [], 0⟩
  ] ++
  [
   -- Gap drops
   ⟨0x60C0, 1, 0x3, 0x3, .u32, 4, .ro, 0, 0, [], 0⟩,
   -- Values overwritten
   ⟨0x60C0, 1, 0x4, 0x4, .u32, 4, .ro, 0, 0, [], 0⟩,
   -- Input timeouts
   ⟨0x60C0, 1, 0x5, 0x5, .u32, 4, .ro, 0, 0, [], 0⟩,
   -- Egress queue drops
   ⟨0x60C0, 1, 0x6, 0x6, .u32, 4, .ro, 0, 0, [], 0⟩,
   -- CAN errors
   ⟨0x60C0, 1, 0x7, 0x7, .u32, 4, .ro, 0, 0, [], 0⟩,
   -- Endpoint drops
   ⟨0x60C0, 1, 0x8, 0x8, .u32, 4, .ro, 0, 0, [], 0⟩,
   -- LIN errors
   ⟨0x60C0, 1, 0x9, 0x9, .u32, 4, .ro, 0, 0, [], 0⟩,
   -- Ethernet receive errors
   ⟨0x60C0, 1, 0xA, 0xA, .u32, 4, .ro, 0, 0, [], 0⟩,
   -- Malformed datagrams
   ⟨0x60C0, 1, 0xB, 0xB, .u32, 4, .ro, 0, 0, [], 0⟩,
   -- Duplicates eliminated
   ⟨0x60C0, 1, 0xC, 0xC, .u32, 4, .ro, 0, 0, [], 0⟩,
   -- Read-hold timeouts
   ⟨0x60C0, 1, 0x10, 0x10, .u32, 4, .ro, 0, 0, [], 0⟩,
   -- Late completions
   ⟨0x60C0, 1, 0x11, 0x11, .u32, 4, .ro, 0, 0, [], 0⟩,
   -- Bridge errors logged
   ⟨0x60C0, 1, 0x12, 0x12, .u32, 4, .ro, 0, 0, [], 0⟩,
   -- Requests answered OK
   ⟨0x60D0, 1, 0x1, 0x1, .u32, 4, .ro, 0, 0, [], 0⟩,
   -- Protocol violations under R374
   ⟨0x60D0, 1, 0x2, 0x2, .u32, 4, .ro, 0, 0, [], 0⟩,
   -- Sources muted under R375
   ⟨0x60D0, 1, 0x3, 0x3, .u32, 4, .ro, 0, 0, [], 0⟩
  ] ++
  [
   -- E_AUTH answers
   ⟨0x60D0, 1, 0x4, 0x4, .u32, 4, .ro, 0, 0, [], 0⟩,
   -- E_REPLAY answers
   ⟨0x60D0, 1, 0x5, 0x5, .u32, 4, .ro, 0, 0, [], 0⟩,
   -- Journal records committed
   ⟨0x60D0, 1, 0x6, 0x6, .u32, 4, .ro, 0, 0, [], 0⟩,
   -- Records abandoned under R380
   ⟨0x60D0, 1, 0x7, 0x7, .u32, 4, .ro, 0, 0, [], 0⟩,
   -- Records repaired under R380
   ⟨0x60D0, 1, 0x8, 0x8, .u32, 4, .ro, 0, 0, [], 0⟩,
   -- Corrupt records under R380
   ⟨0x60D0, 1, 0x9, 0x9, .u32, 4, .ro, 0, 0, [], 0⟩,
   -- Compactions under R381
   ⟨0x60D0, 1, 0xA, 0xA, .u32, 4, .ro, 0, 0, [], 0⟩,
   -- Writes refused with E_BUSY under R371 or R381
   ⟨0x60D0, 1, 0xB, 0xB, .u32, 4, .ro, 0, 0, [], 0⟩,
   -- Watchdog expiries
   ⟨0x60E0, 1, 0x1, 0x1, .u32, 4, .ro, 0, 0, [], 0⟩,
   -- Processors failed
   ⟨0x60E0, 1, 0x2, 0x2, .u32, 4, .ro, 0, 0, [], 0⟩,
   -- Orphan events
   ⟨0x60E0, 1, 0x3, 0x3, .u32, 4, .ro, 0, 0, [], 0⟩,
   -- Resumed attaches
   ⟨0x60E0, 1, 0x4, 0x4, .u32, 4, .ro, 0, 0, [], 0⟩,
   -- Throttle entries
   ⟨0x60E0, 1, 0x5, 0x5, .u32, 4, .ro, 0, 0, [], 0⟩,
   -- Emergency entries
   ⟨0x60E0, 1, 0x6, 0x6, .u32, 4, .ro, 0, 0, [], 0⟩,
   -- Training grants withdrawn
   ⟨0x60E0, 1, 0x7, 0x7, .u32, 4, .ro, 0, 0, [], 0⟩,
   -- Boundaries passed by activations because of emergency
   ⟨0x60E0, 1, 0x8, 0x8, .u32, 4, .ro, 0, 0, [], 0⟩
  ] ++
  [
   -- Firmware switches
   ⟨0x60E0, 1, 0x9, 0x9, .u32, 4, .ro, 0, 0, [], 0⟩,
   -- Failed switches
   ⟨0x60E0, 1, 0xA, 0xA, .u32, 4, .ro, 0, 0, [], 0⟩,
   -- Mailbox CRC and form errors
   ⟨0x60E0, 1, 0xB, 0xB, .u32, 4, .ro, 0, 0, [], 0⟩,
   -- Mailbox version refusals
   ⟨0x60E0, 1, 0xC, 0xC, .u32, 4, .ro, 0, 0, [], 0⟩,
   -- Droop events
   ⟨0x60E0, 1, 0xD, 0xD, .u32, 4, .ro, 0, 0, [], 0⟩,
   -- PLL losses
   ⟨0x60F0, 1, 0x1, 0x1, .u32, 4, .ro, 0, 0, [], 0⟩,
   -- Debug unlocks
   ⟨0x60F0, 1, 0x2, 0x2, .u32, 4, .ro, 0, 0, [], 0⟩,
   -- Debug refusals
   ⟨0x60F0, 1, 0x3, 0x3, .u32, 4, .ro, 0, 0, [], 0⟩,
   -- Last reset cause
   ⟨0x60F0, 1, 0x10, 0x10, .u8, 1, .ro, 0, 64, [], 0⟩,
   -- Last scoring time
   ⟨0x6A00, 1, 0x1, 0x1, .u64, 8, .ro, 0, 0, [], 0⟩,
   -- State of health
   ⟨0x6A01, 1, 0x1, 0xB4, .u16, 2, .ro, 0, 0, [(0, 0x2710)], 0⟩,
   -- Capacity fade
   ⟨0x6A02, 1, 0x1, 0xB4, .u16, 2, .ro, 0, 0, [(0, 0x2710)], 0⟩,
   -- Resistance growth
   ⟨0x6A03, 1, 0x1, 0xB4, .u16, 2, .ro, 0, 0, [(0, 0xFFFE)], 0⟩,
   -- Plating risk
   ⟨0x6A04, 1, 0x1, 0xB4, .u8, 1, .ro, 0, 0, [(0, 200)], 0⟩,
   -- Channel group owner
   ⟨0x7001, 1, 0x1, 0xC, .u8, 1, .rw, 2, 0, [(0, 63)], 3⟩,
   -- Channel group sharers
   ⟨0x7001, 1, 0x11, 0x1C, .u64, 8, .rw, 2, 0, [], 4⟩
  ] ++
  [
   -- Owner reserve
   ⟨0x7001, 1, 0x21, 0x2C, .u16, 2, .rw, 2, 0x300, [(0x200, 0x400)], 0⟩,
   -- Partition lock at boot
   ⟨0x7001, 1, 0x30, 0x30, .u8, 1, .rw, 2, 1, [(0, 1)], 0⟩,
   -- Way owner
   ⟨0x7002, 1, 0x1, 0x10, .u8, 1, .rw, 2, 0, [(0, 63)], 0⟩,
   -- Image key slot
   ⟨0x7003, 1, 0x1, 0x1, .u8, 1, .rw, 2, 0, [(0, 31)], 0⟩,
   -- Package number
   ⟨0x7004, 1, 0x1, 0x1, .u8, 1, .ro, 0, 0, [(0, 3)], 0⟩,
   -- Packages present
   ⟨0x7004, 1, 0x2, 0x2, .u8, 1, .rw, 2, 1, [(1, 15)], 0⟩,
   -- Kill acknowledgement limit
   ⟨0x7004, 1, 0x3, 0x3, .u16, 2, .rw, 1, 20, [(5, 200)], 0⟩,
   -- Command length bound
   ⟨0x7010, 1, 0x1, 0x1, .u16, 2, .rw, 1, 200, [(20, 0x7D0)], 0⟩,
   -- Compatibility point spacing
   ⟨0x7010, 1, 0x2, 0x2, .u16, 2, .rw, 1, 0x1F4, [(20, 0x7D0)], 0⟩,
   -- Scrub period
   ⟨0x7020, 1, 0x1, 0x1, .u16, 2, .rw, 1, 100, [(10, 0x3E8)], 0⟩,
   -- Corrected-error alarm
   ⟨0x7020, 1, 0x2, 0x2, .u16, 2, .rw, 1, 16, [(1, 0x3E8)], 0⟩,
   -- Fusion-stall limit
   ⟨0x7020, 1, 0x3, 0x3, .u16, 2, .rw, 1, 40, [(5, 0x3E8)], 0⟩,
   -- Charge-time state
   ⟨0x7100, 1, 0x1, 0x1, .u8, 1, .rw, 1, 0, [(0, 1)], 0⟩,
   -- Training session limit
   ⟨0x7100, 1, 0x2, 0x2, .u16, 2, .rw, 1, 20, [(1, 240)], 0⟩,
   -- Training state
   ⟨0x7100, 1, 0x3, 0x3, .u8, 1, .ro, 0, 0, [(0, 2)], 0⟩,
   -- Sequence region
   ⟨0x7110, 1, 0x1, 0x1, .u16, 2, .rw, 2, 64, [(1, 0x400)], 0⟩
  ] ++
  [
   -- Repair fraction
   ⟨0x7200, 1, 0x1, 0x1, .u16, 2, .rw, 1, 50, [(1, 0x1F4)], 0⟩,
   -- Repair limit
   ⟨0x7200, 1, 0x2, 0x2, .u16, 2, .rw, 1, 0x7D0, [(100, 0x2710)], 0⟩,
   -- Bin-fault deadline
   ⟨0x7300, 1, 0x1, 0x1, .u16, 2, .rw, 1, 0x12C, [(50, 0x1388)], 0⟩,
   -- Composition slack threshold
   ⟨0x7300, 1, 0x2, 0x2, .u16, 2, .rw, 1, 0x5DC, [(100, 0x2710)], 0⟩,
   -- Yield limit
   ⟨0x7300, 1, 0x3, 0x3, .u16, 2, .rw, 1, 250, [(20, 0x7D0)], 0⟩,
   -- Tell-tale owner
   ⟨0x7300, 1, 0x10, 0x10, .u8, 1, .rw, 2, 1, [(0, 63)], 0⟩,
   -- Expected-CRC life
   ⟨0x7300, 1, 0x11, 0x11, .u8, 1, .rw, 2, 4, [(1, 16)], 0⟩,
   -- Minimum decode budget
   ⟨0x7400, 1, 0x1, 0x1, .u16, 2, .rw, 1, 50, [(10, 0x2710)], 0⟩,
   -- Hypervisor partition
   ⟨0x7500, 1, 0x1, 0x1, .u8, 1, .rw, 2, 255, [(2, 63), (255, 255)], 0⟩,
   -- Switch set
   ⟨0x7500, 1, 0x2, 0x2, .u64, 8, .rw, 2, 0, [], 2⟩,
   -- Secure watchdog timeout
   ⟨0x7500, 1, 0x3, 0x3, .u16, 2, .rw, 2, 100, [(10, 0x3E8)], 0⟩,
   -- Service call limit
   ⟨0x7500, 1, 0x4, 0x4, .u16, 2, .rw, 1, 10, [(1, 0x3E8)], 0⟩,
   -- Restart limit
   ⟨0x7500, 1, 0x5, 0x5, .u8, 1, .rw, 2, 3, [(1, 10)], 0⟩,
   -- Heartbeat limit
   ⟨0x7600, 1, 0x1, 0x1, .u16, 2, .rw, 2, 100, [(10, 0x2710)], 0⟩,
   -- Notice mailbox
   ⟨0x7600, 1, 0x2, 0x2, .u8, 1, .rw, 2, 255, [(0, 63), (255, 255)], 0⟩,
   -- Watchdog timeout
   ⟨0x7600, 1, 0x3, 0x3, .u32, 4, .rw, 2, 0x3E8, [(100, 0x186A0)], 0⟩
  ] ++
  [
   -- Log area
   ⟨0x7600, 1, 0x4, 0x4, .u64, 8, .ro, 0, 0, [], 0⟩,
   -- Trace enable
   ⟨0x7610, 1, 0x1, 0x20, .u32, 4, .rw, 1, 0, [], 0⟩,
   -- Activate
   ⟨0x8000, 1, 0x1, 0x1, .u8, 1, .wo, 2, 0, [(0, 2)], 0⟩,
   -- Rollback commit
   ⟨0x8000, 1, 0x2, 0x2, .u8, 1, .wo, 2, 0, [(0, 2)], 0⟩,
   -- Update state, kind 0–2
   ⟨0x8001, 1, 0x1, 0x3, .u8, 1, .ro, 0, 0, [(0, 6)], 0⟩,
   -- Staged SVN
   ⟨0x8002, 1, 0x1, 0x3, .u8, 1, .ro, 0, 0, [(0, 64)], 0⟩,
   -- Running SVN
   ⟨0x8003, 1, 0x1, 0x3, .u8, 1, .ro, 0, 0, [(0, 64)], 0⟩,
   -- Fused counter
   ⟨0x8004, 1, 0x1, 0x3, .u8, 1, .ro, 0, 0, [(0, 64)], 0⟩,
   -- Quiet time
   ⟨0x8005, 1, 0x1, 0x1, .u16, 2, .rw, 2, 0x3E8, [(0x3E8, 0xEA60)], 0⟩
  ]

end Sys2Proof.Machine
end

