-- ==== Sys2Proof/Machine/Numbers.lean ====
section
/-! DEFINITION. The status codes of the device (R17–R20 and the code tables of the chapters) and the block
numbering of R37 and R299. -/

namespace Sys2Proof.Code

/-! General codes (R19). -/
def ok : Nat := 0x0000
def eIllegal : Nat := 0x0001
def eLength : Nat := 0x0002
def eAlign : Nat := 0x0003
def eBounds : Nat := 0x0004
def eAccess : Nat := 0x0005
def eBusy : Nat := 0x0006
def eVersion : Nat := 0x0007
def eUnavailable : Nat := 0x0008
def eTimeout : Nat := 0x0009
def eState : Nat := 0x000A
def eRetry : Nat := 0x000B
def eLeased : Nat := 0x000C

/-! Field Book and protocol codes (R373). -/
def eIndex : Nat := 0x0101
def eSubindex : Nat := 0x0102
def eType : Nat := 0x0103
def eRange : Nat := 0x0104
def eAuth : Nat := 0x0105
def eReplay : Nat := 0x0106
def eSession : Nat := 0x0107
def eJournal : Nat := 0x0108
def eProto : Nat := 0x0201

/-! Worlds codes (R317). -/
def eMeasure : Nat := 0x0701
def eRollback : Nat := 0x0702
def eKeyUse : Nat := 0x0703

/-! Tensor codes (R98, R153, R182). -/
def eTileArith : Nat := 0x0301
def eEccUncorr : Nat := 0x0302
def eFmtPair : Nat := 0x0303
def eShape : Nat := 0x0304
def eSplit : Nat := 0x0305
def eCmdBound : Nat := 0x0306
def eCmdOverrun : Nat := 0x0307
def eJobKilled : Nat := 0x0308
def eLink : Nat := 0x0309
def eKvExhausted : Nat := 0x030A
def eTrainNonfinite : Nat := 0x030B
def eImage : Nat := 0x030C

/-! Media codes. -/
def eDimBound : Nat := 0x0401
def eCorrupt : Nat := 0x0402
def eBudget : Nat := 0x0403
def eNoBuffer : Nat := 0x0404

/-! Graphics codes. -/
def eBinHeap : Nat := 0x0501
def eShader : Nat := 0x0502
def eTiming : Nat := 0x0503

/-! Traverse codes. -/
def noPath : Nat := 0x0601
def noPathInTime : Nat := 0x0602
def allInvalid : Nat := 0x0603
def ePrimLimit : Nat := 0x0604
def eLibCrc : Nat := 0x0605
def eGrid : Nat := 0x0606
def eFootprint : Nat := 0x0607

/-! Gateway and bridge codes. -/
def eKeyConflict : Nat := 0x0801
def eEpClosed : Nat := 0x0802
def eLinkDown : Nat := 0x0803
def eFarUr : Nat := 0x0804
def eFarAccess : Nat := 0x0805
def eFarData : Nat := 0x0806

/-! Firmware codes. -/
def eFwWatchdog : Nat := 0x0901
def eFwSwitch : Nat := 0x0902
def eStage : Nat := 0x0903

/-! Safety codes. -/
def eDisagree : Nat := 0x0A01
def eMissing : Nat := 0x0A02
def eDisplay : Nat := 0x0A03
def eBench : Nat := 0x0A04
def eLockstep : Nat := 0x0A05
def eStack : Nat := 0x0A06
def eMonitor : Nat := 0x0A07
def eIsland : Nat := 0x0A08
def eInject : Nat := 0x0A09
def eCfgCrc : Nat := 0x0A0A
def eLatentTimeout : Nat := 0x0A0B
def eBenchStore : Nat := 0x0A0C
def eSsRequest : Nat := 0x0A0D
def eAge : Nat := 0x0A0E
def eDegrBench : Nat := 0x0A0F
def eDegrCluster : Nat := 0x0A10
def eDegrEcc : Nat := 0x0A11
def eDegrPeer : Nat := 0x0A12
def eDegrScrub : Nat := 0x0A13

end Sys2Proof.Code
end

