-- ==== Sys2Proof/Machine/RegTable.lean ====
section
/-! DEFINITION. The register tables of the spec, block by block in the order of R37: base address, index
strides, width, the fields with their access codes (R13) and reset values, and the EN field that locks the
register where its chapter says that it accepts writes only while EN = 0. -/

namespace Sys2Proof.Machine

/-- Registers of the SYS block. -/
def regTableSYS : List RegD :=
  [
   -- SYS_DEVICE_ID
   ⟨0x10000000, [], false, none,
    [⟨31, 16, .ro, 0x9880⟩, ⟨15, 8, .ro, 0x80⟩, ⟨7, 4, .ro, 0x1⟩, ⟨3, 0, .ro, 0x1⟩]⟩,
   -- SYS_UNIT_MASK
   ⟨0x10000004, [], false, none,
    [⟨19, 16, .ro, 0xF⟩, ⟨15, 0, .ro, 0xFFFF⟩]⟩,
   -- SYS_STRAP
   ⟨0x10000010, [], false, none,
    [⟨31, 31, .ro, 0x0⟩, ⟨5, 5, .ro, 0x0⟩, ⟨4, 4, .ro, 0x0⟩, ⟨3, 2, .ro, 0x0⟩, ⟨1, 0, .ro, 0x0⟩]⟩,
   -- SYS_RST_CAUSE
   ⟨0x10000014, [], false, none,
    [⟨6, 0, .ro, 0x40⟩]⟩,
   -- SYS_RST_CTRL
   ⟨0x10000018, [], false, none,
    [⟨0, 0, .w1s, 0x0⟩]⟩,
   -- SYS_BOOT_STATUS
   ⟨0x1000001C, [], false, none,
    [⟨31, 16, .ro, 0x0⟩, ⟨1, 0, .ro, 0x0⟩]⟩,
   -- SYS_PLL_STATUS
   ⟨0x10000020, [], false, none,
    [⟨27, 16, .w1c, 0x0⟩, ⟨11, 0, .ro, 0x0⟩]⟩,
   -- SYS_CLK_EN
   ⟨0x10000100, [], true, none,
    [⟨59, 0, .rw, 0xFFFFFFFFFFFFFFF⟩]⟩,
   -- SYS_DBG_STATUS
   ⟨0x10000200, [], false, none,
    [⟨31, 16, .ro, 0x0⟩, ⟨3, 3, .ro, 0x0⟩, ⟨2, 2, .ro, 0x0⟩, ⟨1, 0, .ro, 0x0⟩]⟩,
   -- SYS_FWD_CTRL
   ⟨0x10008000, [(23, 0x10)], false, none,
    [⟨31, 31, .w1s, 0x0⟩, ⟨30, 30, .rw, 0x0⟩, ⟨19, 0, .rw, 0x3E8⟩]⟩,
   -- SYS_FWD_KICK
   ⟨0x10008004, [(23, 0x10)], false, none,
    [⟨15, 0, .wo, 0x0⟩]⟩,
   -- SYS_FWD_STATUS
   ⟨0x10008008, [(23, 0x10)], false, none,
    [⟨31, 16, .ro, 0x0⟩, ⟨2, 2, .w1c, 0x0⟩, ⟨1, 0, .ro, 0x0⟩]⟩
  ]

/-- Registers of the MER block. -/
def regTableMER : List RegD :=
  [
   -- MER_CTRL
   ⟨0x10100000, [], false, none,
    [⟨3, 3, .w1s, 0x0⟩, ⟨2, 2, .w1s, 0x0⟩, ⟨1, 1, .w1s, 0x0⟩, ⟨0, 0, .w1s, 0x0⟩]⟩,
   -- MER_STATUS
   ⟨0x10100004, [], false, none,
    [⟨6, 5, .ro, 0x0⟩, ⟨4, 4, .ro, 0x0⟩, ⟨3, 3, .ro, 0x0⟩, ⟨2, 2, .ro, 0x0⟩, ⟨1, 1, .ro, 0x0⟩, ⟨0, 0, .ro, 0x0⟩]⟩,
   -- MER_CMD_STATUS
   ⟨0x10100008, [], false, none,
    [⟨15, 0, .ro, 0x0⟩]⟩,
   -- MER_TABLE_ERR
   ⟨0x1010000C, [], false, none,
    [⟨23, 16, .ro, 0x0⟩, ⟨15, 0, .ro, 0x0⟩]⟩,
   -- MER_TICK_PERIOD
   ⟨0x10100010, [], false, none,
    [⟨13, 0, .rw, 0x3E8⟩]⟩,
   -- MER_HYPER_TICKS
   ⟨0x10100014, [], false, none,
    [⟨11, 0, .rw, 0x3E8⟩]⟩,
   -- MER_PHASE_NS
   ⟨0x10100018, [], false, none,
    [⟨29, 0, .rw, 0x0⟩]⟩,
   -- MER_TICK_COUNT
   ⟨0x1010001C, [], false, none,
    [⟨31, 12, .ro, 0x0⟩, ⟨11, 0, .ro, 0x0⟩]⟩,
   -- MER_EVENTS
   ⟨0x10100020, [], false, none,
    [⟨8, 8, .w1c, 0x0⟩, ⟨7, 7, .w1c, 0x0⟩, ⟨6, 6, .w1c, 0x0⟩, ⟨5, 5, .w1c, 0x0⟩, ⟨4, 4, .w1c, 0x0⟩, ⟨3, 3, .w1c, 0x0⟩, ⟨2, 2, .w1c, 0x0⟩, ⟨1, 1, .w1c, 0x0⟩, ⟨0, 0, .w1c, 0x0⟩]⟩,
   -- MER_EVENT_EN
   ⟨0x10100024, [], false, none,
    [⟨8, 0, .rw, 0x0⟩]⟩,
   -- MER_PIPE_FRAME
   ⟨0x10100080, [(32, 0x4)], false, none,
    [⟨11, 0, .rw, 0x0⟩]⟩,
   -- MER_TIME_NS
   ⟨0x10100100, [], false, none,
    [⟨29, 0, .ro, 0x0⟩]⟩
  ] ++
  [
   -- MER_SECONDS
   ⟨0x10100108, [], true, none,
    [⟨47, 0, .ro, 0x0⟩]⟩,
   -- MER_TS32
   ⟨0x10100110, [], false, none,
    [⟨31, 0, .ro, 0x0⟩]⟩,
   -- MER_RATE
   ⟨0x10100114, [], false, none,
    [⟨31, 0, .rw, 0x0⟩]⟩,
   -- MER_DATUM_CTRL
   ⟨0x10100118, [], false, none,
    [⟨2, 2, .w1s, 0x0⟩, ⟨1, 0, .rw, 0x0⟩]⟩,
   -- MER_OFFSET_NS
   ⟨0x1010011C, [], false, none,
    [⟨31, 0, .ro, 0x0⟩]⟩,
   -- MER_TOUT_CTRL
   ⟨0x10100200, [(8, 0x20)], false, none,
    [⟨31, 31, .rw, 0x0⟩, ⟨30, 29, .rw, 0x0⟩, ⟨28, 28, .rw, 0x0⟩, ⟨27, 23, .rw, 0x0⟩]⟩,
   -- MER_TO_OFFSET_NS
   ⟨0x10100204, [(8, 0x20)], false, none,
    [⟨29, 0, .rw, 0x0⟩]⟩,
   -- MER_TO_START_SEC
   ⟨0x10100208, [(8, 0x20)], true, none,
    [⟨47, 0, .rw, 0x0⟩]⟩,
   -- MER_TO_START_NS
   ⟨0x10100210, [(8, 0x20)], false, none,
    [⟨29, 0, .rw, 0x0⟩]⟩,
   -- MER_TO_PERIOD_NS
   ⟨0x10100214, [(8, 0x20)], false, none,
    [⟨29, 0, .rw, 0x3B9ACA00⟩]⟩,
   -- MER_TO_WIDTH_NS
   ⟨0x10100218, [(8, 0x20)], false, none,
    [⟨29, 0, .rw, 0x5F5E100⟩]⟩,
   -- MER_TI_CTRL
   ⟨0x10100300, [(8, 0x10)], false, none,
    [⟨31, 31, .rw, 0x0⟩, ⟨30, 29, .rw, 0x1⟩, ⟨9, 9, .w1c, 0x0⟩, ⟨8, 8, .w1c, 0x0⟩, ⟨4, 0, .ro, 0x0⟩]⟩
  ] ++
  [
   -- MER_TI_NS
   ⟨0x10100304, [(8, 0x10)], false, none,
    [⟨31, 31, .ro, 0x0⟩, ⟨29, 0, .ro, 0x0⟩]⟩,
   -- MER_TI_SEC
   ⟨0x10100308, [(8, 0x10)], true, none,
    [⟨47, 0, .ro, 0x0⟩]⟩
  ]

/-- Registers of the ICN block. -/
def regTableICN : List RegD :=
  [
   -- ICN_SRC_CFG
   ⟨0x10200000, [(1024, 0x4)], false, none,
    [⟨31, 31, .rw, 0x0⟩, ⟨30, 30, .ro, 0x0⟩, ⟨29, 29, .rw, 0x0⟩, ⟨28, 28, .ro, 0x0⟩, ⟨27, 27, .ro, 0x0⟩, ⟨26, 26, .ro, 0x0⟩, ⟨13, 8, .rw, 0x0⟩, ⟨4, 0, .rw, 0x0⟩]⟩,
   -- ICN_SRC_TGT
   ⟨0x10202000, [(1024, 0x8)], true, none,
    [⟨63, 0, .rw, 0x0⟩]⟩,
   -- ICN_PEND
   ⟨0x10204000, [(32, 0x4)], false, none,
    [⟨31, 0, .ro, 0x0⟩]⟩,
   -- ICN_ACT
   ⟨0x10204080, [(32, 0x4)], false, none,
    [⟨31, 0, .ro, 0x0⟩]⟩,
   -- ICN_SW_SET
   ⟨0x10205000, [], false, none,
    [⟨5, 0, .wo, 0x0⟩]⟩,
   -- ICN_CTRL
   ⟨0x10206000, [], false, none,
    [⟨1, 1, .rw, 0x0⟩]⟩,
   -- ICN_FAULT
   ⟨0x10206004, [], false, none,
    [⟨31, 31, .w1c, 0x0⟩, ⟨30, 30, .w1c, 0x0⟩, ⟨29, 24, .ro, 0x0⟩, ⟨22, 22, .ro, 0x0⟩, ⟨21, 12, .ro, 0x0⟩, ⟨9, 0, .ro, 0x0⟩]⟩,
   -- ICN_UNFREEZE
   ⟨0x10206008, [], false, none,
    [⟨5, 0, .wo, 0x0⟩]⟩,
   -- ICN_CMD_STATUS
   ⟨0x1020600C, [], false, none,
    [⟨15, 0, .ro, 0x0⟩]⟩,
   -- ICN_TGT_THRESH
   ⟨0x10210000, [(59, 0x1000)], false, none,
    [⟨4, 0, .rw, 0x0⟩]⟩,
   -- ICN_TGT_CLAIM
   ⟨0x10210004, [(59, 0x1000)], false, none,
    [⟨31, 31, .ro, 0x0⟩, ⟨20, 16, .ro, 0x0⟩, ⟨9, 0, .ro, 0x0⟩]⟩,
   -- ICN_TGT_COMPLETE
   ⟨0x10210008, [(59, 0x1000)], false, none,
    [⟨9, 0, .wo, 0x0⟩]⟩
  ] ++
  [
   -- ICN_TGT_STATUS
   ⟨0x1021000C, [(59, 0x1000)], false, none,
    [⟨31, 16, .ro, 0x0⟩, ⟨15, 15, .ro, 0x0⟩, ⟨14, 14, .ro, 0x0⟩, ⟨9, 5, .ro, 0x0⟩, ⟨4, 0, .ro, 0x0⟩]⟩,
   -- ICN_TGT_STACK
   ⟨0x10210040, [(59, 0x1000), (16, 0x4)], false, none,
    [⟨31, 31, .ro, 0x0⟩, ⟨20, 16, .ro, 0x0⟩, ⟨9, 0, .ro, 0x0⟩]⟩
  ]

/-- Registers of the CAD block. -/
def regTableCAD : List RegD :=
  [
   -- CAD_CTRL
   ⟨0x10300000, [(65, 0x1000)], false, none,
    [⟨31, 31, .w1s, 0x0⟩, ⟨1, 1, .rw, 0x0⟩]⟩,
   -- CAD_STATUS
   ⟨0x10300004, [(65, 0x1000)], false, none,
    [⟨31, 16, .ro, 0x0⟩, ⟨15, 8, .rc, 0x0⟩, ⟨6, 4, .ro, 0x0⟩, ⟨3, 0, .ro, 0x0⟩]⟩,
   -- CAD_VIOL
   ⟨0x10300008, [(65, 0x1000)], false, none,
    [⟨31, 0, .rc, 0x0⟩]⟩,
   -- CAD_LOG_ACK
   ⟨0x1030000C, [(65, 0x1000)], false, none,
    [⟨3, 0, .wo, 0x0⟩]⟩,
   -- CAD_LOG
   ⟨0x10300100, [(65, 0x1000), (8, 0x10)], true, none,
    [⟨62, 57, .ro, 0x0⟩, ⟨56, 56, .ro, 0x0⟩, ⟨55, 48, .ro, 0x0⟩, ⟨47, 0, .ro, 0x0⟩]⟩,
   -- CAD_LOGTS
   ⟨0x10300108, [(65, 0x1000), (8, 0x10)], false, none,
    [⟨31, 0, .ro, 0x0⟩]⟩,
   -- CAD_RG_BASE
   ⟨0x10300400, [(65, 0x1000), (32, 0x20)], true, none,
    [⟨47, 12, .rw, 0x0⟩]⟩,
   -- CAD_RG_LIMIT
   ⟨0x10300408, [(65, 0x1000), (32, 0x20)], true, none,
    [⟨47, 12, .rw, 0x0⟩]⟩,
   -- CAD_RG_PARTS
   ⟨0x10300410, [(65, 0x1000), (32, 0x20)], true, none,
    [⟨63, 0, .rw, 0x0⟩]⟩,
   -- CAD_RG_CTRL
   ⟨0x10300418, [(65, 0x1000), (32, 0x20)], false, none,
    [⟨31, 31, .rw, 0x0⟩, ⟨3, 3, .rw, 0x0⟩, ⟨2, 2, .rw, 0x0⟩, ⟨1, 1, .rw, 0x0⟩, ⟨0, 0, .rw, 0x0⟩]⟩
  ]

/-- Registers of the PMU block. -/
def regTablePMU : List RegD :=
  [
   -- PMU_PD_STATE
   ⟨0x10400000, [], false, none,
    [⟨19, 0, .ro, 0xFFFFF⟩]⟩,
   -- PMU_EVENTS
   ⟨0x10400010, [], false, none,
    [⟨5, 5, .w1c, 0x0⟩, ⟨4, 4, .w1c, 0x0⟩, ⟨3, 3, .w1c, 0x0⟩, ⟨2, 2, .w1c, 0x0⟩, ⟨1, 1, .w1c, 0x0⟩, ⟨0, 0, .w1c, 0x0⟩]⟩,
   -- PMU_EVENT_EN
   ⟨0x10400014, [], false, none,
    [⟨5, 0, .rw, 0x0⟩]⟩,
   -- PMU_LEASE_PD
   ⟨0x10408000, [], false, none,
    [⟨19, 0, .rw, 0x0⟩]⟩,
   -- PMU_LEASE_CLK
   ⟨0x10408008, [], true, none,
    [⟨59, 0, .rw, 0x0⟩]⟩
  ]

/-- Registers of the SAF block. -/
def regTableSAF : List RegD :=
  [
   -- SAF_STATE
   ⟨0x10500000, [], false, none,
    [⟨31, 16, .ro, 0x0⟩, ⟨13, 13, .ro, 0x0⟩, ⟨12, 12, .ro, 0x0⟩, ⟨11, 11, .ro, 0x0⟩, ⟨10, 10, .ro, 0x0⟩, ⟨9, 9, .ro, 0x0⟩, ⟨8, 8, .ro, 0x0⟩, ⟨2, 2, .ro, 0x1⟩, ⟨1, 0, .ro, 0x0⟩]⟩,
   -- SAF_CTRL
   ⟨0x10500004, [], false, none,
    [⟨2, 2, .w1s, 0x0⟩, ⟨0, 0, .w1s, 0x0⟩]⟩,
   -- SAF_CMD_STATUS
   ⟨0x10500008, [], false, none,
    [⟨15, 0, .ro, 0x0⟩]⟩,
   -- SAF_INJ_STATUS
   ⟨0x1050000C, [], false, none,
    [⟨31, 16, .ro, 0x0⟩, ⟨15, 8, .ro, 0x0⟩, ⟨1, 1, .ro, 0x0⟩, ⟨0, 0, .ro, 0x0⟩]⟩,
   -- SAF_EVENTS
   ⟨0x10500010, [], false, none,
    [⟨10, 10, .w1c, 0x0⟩, ⟨9, 9, .w1c, 0x0⟩, ⟨8, 8, .w1c, 0x0⟩, ⟨7, 7, .w1c, 0x0⟩, ⟨6, 6, .w1c, 0x0⟩, ⟨5, 5, .w1c, 0x0⟩, ⟨4, 4, .w1c, 0x0⟩, ⟨3, 3, .w1c, 0x0⟩, ⟨2, 2, .w1c, 0x0⟩, ⟨1, 1, .w1c, 0x0⟩, ⟨0, 0, .w1c, 0x0⟩]⟩,
   -- SAF_EVENT_EN
   ⟨0x10500014, [], false, none,
    [⟨10, 0, .rw, 0x0⟩]⟩,
   -- SAF_DLOG_WPTR
   ⟨0x10500018, [], false, none,
    [⟨5, 0, .ro, 0x0⟩]⟩,
   -- SAF_CH_STATUS
   ⟨0x10500100, [(64, 0x4)], false, none,
    [⟨31, 31, .ro, 0x0⟩, ⟨30, 30, .ro, 0x0⟩, ⟨29, 27, .ro, 0x4⟩, ⟨19, 16, .ro, 0x0⟩, ⟨15, 0, .ro, 0x0⟩]⟩,
   -- SAF_CLOSURE
   ⟨0x10501000, [(64, 0x40), (16, 0x4)], false, none,
    [⟨31, 0, .rw, 0x0⟩]⟩,
   -- SAF_BENCH
   ⟨0x10502000, [(16, 0x20), (8, 0x4)], false, none,
    [⟨31, 0, .rw, 0x0⟩]⟩,
   -- SAF_DLOG
   ⟨0x10503000, [(64, 0x20), (8, 0x4)], false, none,
    [⟨31, 0, .ro, 0x0⟩]⟩
  ]

/-- Registers of the TEN block. -/
def regTableTEN : List RegD :=
  [
   -- TEN_RM_CFG
   ⟨0x1100E000, [(16, 0x100000), (256, 0x10)], false, none,
    [⟨31, 31, .ro, 0x0⟩, ⟨30, 30, .ro, 0x0⟩, ⟨29, 29, .ro, 0x0⟩, ⟨28, 28, .ro, 0x0⟩, ⟨5, 0, .rw, 0x0⟩]⟩,
   -- TEN_RM_RANGE
   ⟨0x1100E004, [(16, 0x100000), (256, 0x10)], false, none,
    [⟨31, 16, .ro, 0x0⟩, ⟨15, 0, .ro, 0x0⟩]⟩,
   -- TEN_RM_DONE
   ⟨0x1100E008, [(16, 0x100000), (256, 0x10)], false, none,
    [⟨21, 16, .ro, 0x0⟩, ⟨15, 0, .ro, 0x0⟩]⟩,
   -- TEN_RM_OWNER
   ⟨0x1100E00C, [(16, 0x100000), (256, 0x10)], false, none,
    [⟨31, 16, .ro, 0x0⟩, ⟨15, 8, .ro, 0x0⟩, ⟨7, 2, .ro, 0x0⟩]⟩,
   -- TEN_CL_STATUS
   ⟨0x1100F000, [(16, 0x100000)], false, none,
    [⟨2, 2, .ro, 0x0⟩, ⟨1, 1, .ro, 0x0⟩, ⟨0, 0, .w1c, 0x0⟩]⟩,
   -- TEN_CL_FAULT
   ⟨0x1100F004, [(16, 0x100000)], false, none,
    [⟨18, 16, .ro, 0x0⟩, ⟨15, 0, .ro, 0x0⟩]⟩,
   -- TEN_CL_ECC
   ⟨0x1100F008, [(16, 0x100000)], false, none,
    [⟨31, 16, .rc, 0x0⟩, ⟨15, 0, .rc, 0x0⟩]⟩,
   -- TEN_CL_MEMSTAT
   ⟨0x1100F00C, [(16, 0x100000)], false, none,
    [⟨23, 16, .rc, 0x0⟩, ⟨1, 1, .ro, 0x0⟩, ⟨0, 0, .ro, 0x0⟩]⟩,
   -- TEN_CL_ECC_ADDR
   ⟨0x1100F010, [(16, 0x100000)], false, none,
    [⟨31, 31, .w1c, 0x0⟩, ⟨30, 30, .ro, 0x0⟩, ⟨29, 27, .ro, 0x0⟩, ⟨22, 0, .ro, 0x0⟩]⟩,
   -- TEN_KV_CACHE
   ⟨0x1100F014, [(16, 0x100000)], false, none,
    [⟨31, 16, .ro, 0x0⟩, ⟨5, 0, .rw, 0x0⟩]⟩,
   -- TEN_KV_STAT
   ⟨0x1100F018, [(16, 0x100000)], false, none,
    [⟨31, 16, .rc, 0x0⟩, ⟨15, 0, .rc, 0x0⟩]⟩
  ]

/-- Registers of the PLB block. -/
def regTablePLB : List RegD :=
  [
   -- PLB_Q_WPTR
   ⟨0x13000000, [(8, 0x1000)], false, none,
    [⟨15, 0, .rw, 0x0⟩]⟩,
   -- PLB_Q_RPTR
   ⟨0x13000004, [(8, 0x1000)], false, none,
    [⟨15, 0, .ro, 0x0⟩]⟩,
   -- PLB_Q_CPL_WPTR
   ⟨0x13000008, [(8, 0x1000)], false, none,
    [⟨15, 0, .ro, 0x0⟩]⟩,
   -- PLB_Q_CPL_RPTR
   ⟨0x1300000C, [(8, 0x1000)], false, none,
    [⟨15, 0, .rw, 0x0⟩]⟩,
   -- PLB_Q_CSEQ
   ⟨0x13000010, [(8, 0x1000)], false, none,
    [⟨31, 0, .ro, 0x0⟩]⟩,
   -- PLB_Q_STATUS
   ⟨0x13000014, [(8, 0x1000)], false, none,
    [⟨31, 16, .ro, 0x0⟩, ⟨3, 3, .ro, 0x0⟩, ⟨2, 2, .ro, 0x0⟩, ⟨1, 1, .ro, 0x0⟩, ⟨0, 0, .ro, 0x0⟩]⟩,
   -- PLB_STATUS
   ⟨0x1300F000, [], false, none,
    [⟨2, 2, .ro, 0x0⟩, ⟨1, 1, .ro, 0x0⟩, ⟨0, 0, .ro, 0x0⟩]⟩,
   -- PLB_ECC
   ⟨0x1300F004, [], false, none,
    [⟨31, 16, .rc, 0x0⟩, ⟨15, 0, .rc, 0x0⟩]⟩,
   -- PLB_QC_ATTR
   ⟨0x13010000, [(8, 0x100)], false, none,
    [⟨31, 31, .rw, 0x0⟩, ⟨30, 30, .rw, 0x0⟩, ⟨26, 24, .rw, 0x0⟩, ⟨21, 21, .rw, 0x0⟩, ⟨20, 16, .rw, 0x0⟩, ⟨15, 15, .rw, 0x0⟩, ⟨13, 8, .rw, 0x0⟩]⟩,
   -- PLB_QC_RING_BASE
   ⟨0x13010008, [(8, 0x100)], true, some (0x13010000, 31),
    [⟨47, 0, .rw, 0x0⟩]⟩,
   -- PLB_QC_RING_SIZE
   ⟨0x13010010, [(8, 0x100)], false, some (0x13010000, 31),
    [⟨4, 0, .rw, 0x4⟩]⟩,
   -- PLB_QC_CPL_BASE
   ⟨0x13010018, [(8, 0x100)], true, some (0x13010000, 31),
    [⟨47, 0, .rw, 0x0⟩]⟩
  ] ++
  [
   -- PLB_QC_CPL_SIZE
   ⟨0x13010020, [(8, 0x100)], false, some (0x13010000, 31),
    [⟨4, 0, .rw, 0x4⟩]⟩,
   -- PLB_QC_TT_BASE
   ⟨0x13010028, [(8, 0x100)], true, some (0x13010000, 31),
    [⟨47, 0, .rw, 0x0⟩]⟩,
   -- PLB_QC_TT_COUNT
   ⟨0x13010030, [(8, 0x100)], false, some (0x13010000, 31),
    [⟨11, 0, .rw, 0x0⟩]⟩,
   -- PLB_QC_LIVE_BASE
   ⟨0x13010038, [(8, 0x100)], true, some (0x13010000, 31),
    [⟨47, 0, .rw, 0x0⟩]⟩,
   -- PLB_QC_SAVE_BASE
   ⟨0x13010040, [(8, 0x100)], true, some (0x13010000, 31),
    [⟨47, 0, .rw, 0x0⟩]⟩,
   -- PLB_QC_SAVE_SIZE
   ⟨0x13010048, [(8, 0x100)], false, some (0x13010000, 31),
    [⟨31, 0, .rw, 0x0⟩]⟩,
   -- PLB_QC_STATUS
   ⟨0x1301004C, [(8, 0x100)], false, none,
    [⟨15, 0, .ro, 0x0⟩]⟩
  ]

/-- Registers of the TRV block. -/
def regTableTRV : List RegD :=
  [
   -- TRV_CX_ATTR
   ⟨0x14010000, [(8, 0x100)], false, none,
    [⟨31, 31, .rw, 0x0⟩, ⟨26, 24, .rw, 0x0⟩, ⟨20, 16, .rw, 0x0⟩, ⟨15, 15, .rw, 0x0⟩, ⟨13, 8, .rw, 0x0⟩]⟩,
   -- TRV_CX_LIB_BASE
   ⟨0x14010008, [(8, 0x100)], true, some (0x14010000, 31),
    [⟨47, 0, .rw, 0x0⟩]⟩,
   -- TRV_CX_LIB_SIZE
   ⟨0x14010010, [(8, 0x100)], false, some (0x14010000, 31),
    [⟨31, 0, .rw, 0x0⟩]⟩,
   -- TRV_CX_ARENA_BASE
   ⟨0x14010018, [(8, 0x100)], true, some (0x14010000, 31),
    [⟨47, 0, .rw, 0x0⟩]⟩,
   -- TRV_CX_ARENA_SIZE
   ⟨0x14010020, [(8, 0x100)], false, some (0x14010000, 31),
    [⟨31, 0, .rw, 0x0⟩]⟩,
   -- TRV_CX_REQ_BASE
   ⟨0x14010028, [(8, 0x100)], true, some (0x14010000, 31),
    [⟨47, 0, .rw, 0x0⟩]⟩,
   -- TRV_CX_REQ_SIZE
   ⟨0x14010030, [(8, 0x100)], false, some (0x14010000, 31),
    [⟨3, 0, .rw, 0x2⟩]⟩,
   -- TRV_CX_CPL_BASE
   ⟨0x14010038, [(8, 0x100)], true, some (0x14010000, 31),
    [⟨47, 0, .rw, 0x0⟩]⟩,
   -- TRV_CX_CPL_SIZE
   ⟨0x14010040, [(8, 0x100)], false, some (0x14010000, 31),
    [⟨3, 0, .rw, 0x2⟩]⟩,
   -- TRV_CX_OUT_BASE
   ⟨0x14010048, [(8, 0x100)], true, some (0x14010000, 31),
    [⟨47, 0, .rw, 0x0⟩]⟩,
   -- TRV_CX_FOOT_BASE
   ⟨0x14010050, [(8, 0x100)], true, some (0x14010000, 31),
    [⟨47, 0, .rw, 0x0⟩]⟩,
   -- TRV_CX_GRID_BASE
   ⟨0x14010058, [(8, 0x100)], true, some (0x14010000, 31),
    [⟨47, 0, .rw, 0x0⟩]⟩
  ] ++
  [
   -- TRV_CX_GRID_STRIDE
   ⟨0x14010060, [(8, 0x100)], false, some (0x14010000, 31),
    [⟨31, 0, .rw, 0x0⟩]⟩,
   -- TRV_CX_FLOW
   ⟨0x14010064, [(8, 0x100)], false, some (0x14010000, 31),
    [⟨31, 31, .rw, 0x0⟩, ⟨15, 0, .rw, 0x0⟩]⟩,
   -- TRV_CX_STATUS
   ⟨0x14010068, [(8, 0x100)], false, none,
    [⟨31, 16, .ro, 0x0⟩, ⟨11, 0, .ro, 0x0⟩]⟩,
   -- TRV_Q_WPTR
   ⟨0x14020000, [(8, 0x1000)], false, none,
    [⟨9, 0, .rw, 0x0⟩]⟩,
   -- TRV_Q_RPTR
   ⟨0x14020004, [(8, 0x1000)], false, none,
    [⟨9, 0, .ro, 0x0⟩]⟩,
   -- TRV_Q_CPL_WPTR
   ⟨0x14020008, [(8, 0x1000)], false, none,
    [⟨9, 0, .ro, 0x0⟩]⟩,
   -- TRV_Q_CPL_RPTR
   ⟨0x1402000C, [(8, 0x1000)], false, none,
    [⟨9, 0, .rw, 0x0⟩]⟩,
   -- TRV_Q_LATEST
   ⟨0x14020010, [(8, 0x1000)], false, none,
    [⟨31, 31, .ro, 0x0⟩, ⟨1, 0, .rw, 0x0⟩]⟩,
   -- TRV_Q_HOLD
   ⟨0x14020014, [(8, 0x1000)], false, none,
    [⟨3, 0, .ro, 0x0⟩]⟩,
   -- TRV_Q_STATUS
   ⟨0x14020018, [(8, 0x1000)], false, none,
    [⟨31, 16, .ro, 0x0⟩, ⟨2, 2, .ro, 0x0⟩, ⟨1, 1, .ro, 0x0⟩, ⟨0, 0, .ro, 0x0⟩]⟩,
   -- TRV_Q_SEQ
   ⟨0x1402001C, [(8, 0x1000)], false, none,
    [⟨31, 0, .ro, 0x0⟩]⟩
  ]

/-- Registers of the GFX block. -/
def regTableGFX : List RegD :=
  [
   -- GFX_CX_ATTR
   ⟨0x15010000, [(32, 0x100)], false, none,
    [⟨31, 31, .rw, 0x0⟩, ⟨30, 30, .rw, 0x0⟩, ⟨29, 29, .rw, 0x0⟩, ⟨26, 24, .rw, 0x0⟩, ⟨15, 15, .rw, 0x0⟩, ⟨13, 8, .rw, 0x0⟩]⟩,
   -- GFX_CX_RING_BASE
   ⟨0x15010008, [(32, 0x100)], true, some (0x15010000, 31),
    [⟨47, 0, .rw, 0x0⟩]⟩,
   -- GFX_CX_RING_SIZE
   ⟨0x15010010, [(32, 0x100)], false, some (0x15010000, 31),
    [⟨4, 0, .rw, 0x4⟩]⟩,
   -- GFX_CX_CPL_BASE
   ⟨0x15010018, [(32, 0x100)], true, some (0x15010000, 31),
    [⟨47, 0, .rw, 0x0⟩]⟩,
   -- GFX_CX_CPL_SIZE
   ⟨0x15010020, [(32, 0x100)], false, some (0x15010000, 31),
    [⟨4, 0, .rw, 0x4⟩]⟩,
   -- GFX_CX_STATUS
   ⟨0x15010024, [(32, 0x100)], false, none,
    [⟨15, 0, .ro, 0x0⟩]⟩,
   -- GFX_Q_WPTR
   ⟨0x15020000, [(32, 0x1000)], false, none,
    [⟨15, 0, .rw, 0x0⟩]⟩,
   -- GFX_Q_RPTR
   ⟨0x15020004, [(32, 0x1000)], false, none,
    [⟨15, 0, .ro, 0x0⟩]⟩,
   -- GFX_Q_CPL_WPTR
   ⟨0x15020008, [(32, 0x1000)], false, none,
    [⟨15, 0, .ro, 0x0⟩]⟩,
   -- GFX_Q_CPL_RPTR
   ⟨0x1502000C, [(32, 0x1000)], false, none,
    [⟨15, 0, .rw, 0x0⟩]⟩,
   -- GFX_Q_SEQ
   ⟨0x15020010, [(32, 0x1000)], false, none,
    [⟨31, 0, .ro, 0x0⟩]⟩,
   -- GFX_Q_HEAP_ADD
   ⟨0x15020018, [(32, 0x1000)], true, none,
    [⟨47, 0, .wo, 0x0⟩]⟩
  ] ++
  [
   -- GFX_Q_HEAP
   ⟨0x15020020, [(32, 0x1000)], false, none,
    [⟨31, 31, .ro, 0x0⟩, ⟨15, 0, .ro, 0x0⟩]⟩,
   -- GFX_Q_STATUS
   ⟨0x15020024, [(32, 0x1000)], false, none,
    [⟨31, 16, .ro, 0x0⟩]⟩
  ]

/-- Registers of the DSP block. -/
def regTableDSP : List RegD :=
  [
   -- DSP_CTRL
   ⟨0x16000000, [(4, 0x100000)], false, none,
    [⟨31, 31, .rw, 0x0⟩, ⟨30, 30, .rw, 0x0⟩, ⟨29, 29, .rw, 0x0⟩, ⟨20, 16, .rw, 0x0⟩, ⟨7, 4, .rw, 0x1⟩]⟩,
   -- DSP_LOCK
   ⟨0x16000004, [(4, 0x100000)], false, some (0x16000000, 31),
    [⟨31, 12, .rw, 0x0⟩, ⟨11, 0, .rw, 0x1⟩]⟩,
   -- DSP_HTIMING
   ⟨0x16000010, [(4, 0x100000)], false, some (0x16000000, 31),
    [⟨31, 16, .rw, 0x0⟩, ⟨15, 0, .rw, 0x0⟩]⟩,
   -- DSP_VTIMING
   ⟨0x16000014, [(4, 0x100000)], false, some (0x16000000, 31),
    [⟨31, 16, .rw, 0x0⟩, ⟨15, 0, .rw, 0x0⟩]⟩,
   -- DSP_SYNC
   ⟨0x16000018, [(4, 0x100000)], false, some (0x16000000, 31),
    [⟨31, 24, .rw, 0x0⟩, ⟨23, 16, .rw, 0x0⟩, ⟨15, 8, .rw, 0x0⟩, ⟨7, 0, .rw, 0x0⟩]⟩,
   -- DSP_LINK
   ⟨0x1600001C, [(4, 0x100000)], false, some (0x16000000, 31),
    [⟨31, 31, .rw, 0x0⟩, ⟨10, 8, .rw, 0x0⟩, ⟨2, 0, .rw, 0x4⟩]⟩,
   -- DSP_PCLK
   ⟨0x16000020, [(4, 0x100000)], false, some (0x16000000, 31),
    [⟨19, 0, .rw, 0x0⟩]⟩,
   -- DSP_FRAME
   ⟨0x16000030, [(4, 0x100000)], false, none,
    [⟨31, 0, .ro, 0x0⟩]⟩,
   -- DSP_STATUS
   ⟨0x16000034, [(4, 0x100000)], false, none,
    [⟨31, 16, .rc, 0x0⟩, ⟨15, 8, .rc, 0x0⟩, ⟨2, 2, .ro, 0x0⟩, ⟨1, 1, .ro, 0x0⟩, ⟨0, 0, .ro, 0x0⟩]⟩,
   -- DSP_CMD_STATUS
   ⟨0x16000038, [(4, 0x100000)], false, none,
    [⟨15, 0, .ro, 0x0⟩]⟩,
   -- DSP_PL_CTRL
   ⟨0x16000100, [(4, 0x100000), (3, 0x40)], false, none,
    [⟨31, 31, .rw, 0x0⟩, ⟨30, 30, .rw, 0x0⟩, ⟨29, 27, .rw, 0x0⟩, ⟨21, 16, .rw, 0x0⟩]⟩,
   -- DSP_PL_ADDR
   ⟨0x16000108, [(4, 0x100000), (3, 0x40)], true, none,
    [⟨47, 0, .rw, 0x0⟩]⟩
  ] ++
  [
   -- DSP_PL_STRIDE
   ⟨0x16000110, [(4, 0x100000), (3, 0x40)], false, none,
    [⟨17, 0, .rw, 0x0⟩]⟩,
   -- DSP_PL_POS
   ⟨0x16000114, [(4, 0x100000), (3, 0x40)], false, none,
    [⟨31, 16, .rw, 0x0⟩, ⟨15, 0, .rw, 0x0⟩]⟩,
   -- DSP_PL_SIZE
   ⟨0x16000118, [(4, 0x100000), (3, 0x40)], false, none,
    [⟨31, 16, .rw, 0x0⟩, ⟨15, 0, .rw, 0x0⟩]⟩,
   -- DSP_TT_CTRL
   ⟨0x16000200, [(4, 0x100000)], false, none,
    [⟨31, 31, .rw, 0x0⟩, ⟨30, 30, .rw, 0x0⟩]⟩,
   -- DSP_TT_ADDR
   ⟨0x16000208, [(4, 0x100000)], true, none,
    [⟨47, 0, .rw, 0x0⟩]⟩,
   -- DSP_TT_STRIDE
   ⟨0x16000210, [(4, 0x100000)], false, none,
    [⟨17, 0, .rw, 0x0⟩]⟩,
   -- DSP_TT_POS
   ⟨0x16000214, [(4, 0x100000)], false, none,
    [⟨31, 16, .rw, 0x0⟩, ⟨15, 0, .rw, 0x0⟩]⟩,
   -- DSP_TT_SIZE
   ⟨0x16000218, [(4, 0x100000)], false, none,
    [⟨31, 16, .rw, 0x0⟩, ⟨15, 0, .rw, 0x0⟩]⟩,
   -- DSP_CR_CTRL
   ⟨0x16000400, [(4, 0x100000), (16, 0x20)], false, none,
    [⟨31, 31, .rw, 0x0⟩]⟩,
   -- DSP_CR_POS
   ⟨0x16000404, [(4, 0x100000), (16, 0x20)], false, none,
    [⟨31, 16, .rw, 0x0⟩, ⟨15, 0, .rw, 0x0⟩]⟩,
   -- DSP_CR_SIZE
   ⟨0x16000408, [(4, 0x100000), (16, 0x20)], false, none,
    [⟨31, 16, .rw, 0x0⟩, ⟨15, 0, .rw, 0x0⟩]⟩,
   -- DSP_CR_EXP
   ⟨0x16000410, [(4, 0x100000), (16, 0x20)], true, none,
    [⟨63, 32, .rw, 0x0⟩, ⟨31, 0, .rw, 0x0⟩]⟩
  ] ++
  [
   -- DSP_CR_CRC
   ⟨0x16000418, [(4, 0x100000), (16, 0x20)], false, none,
    [⟨31, 0, .ro, 0x0⟩]⟩,
   -- DSP_CR_STAT
   ⟨0x1600041C, [(4, 0x100000), (16, 0x20)], false, none,
    [⟨31, 16, .rc, 0x0⟩, ⟨15, 0, .rc, 0x0⟩]⟩,
   -- DSP_TT_CLUT
   ⟨0x16000800, [(4, 0x100000), (256, 0x4)], false, none,
    [⟨31, 0, .rw, 0x0⟩]⟩
  ]

/-- Registers of the MED block. -/
def regTableMED : List RegD :=
  [
   -- MED_CS_CTRL
   ⟨0x17000000, [(32, 0x40)], false, none,
    [⟨31, 31, .rw, 0x0⟩, ⟨30, 30, .rw, 0x0⟩, ⟨29, 24, .rw, 0x0⟩, ⟨23, 20, .rw, 0x0⟩, ⟨19, 16, .rw, 0x0⟩, ⟨15, 10, .rw, 0x0⟩, ⟨9, 8, .rw, 0x0⟩, ⟨7, 7, .rw, 0x0⟩]⟩,
   -- MED_CS_SIZE
   ⟨0x17000004, [(32, 0x40)], false, some (0x17000000, 31),
    [⟨31, 16, .rw, 0x0⟩, ⟨15, 0, .rw, 0x0⟩]⟩,
   -- MED_CS_RATE
   ⟨0x17000008, [(32, 0x40)], false, some (0x17000000, 31),
    [⟨7, 0, .rw, 0x1E⟩]⟩,
   -- MED_CS_BUF
   ⟨0x17000010, [(32, 0x40)], true, some (0x17000000, 31),
    [⟨47, 0, .rw, 0x0⟩]⟩,
   -- MED_CS_BUFCFG
   ⟨0x17000018, [(32, 0x40)], false, some (0x17000000, 31),
    [⟨31, 8, .rw, 0x0⟩, ⟨4, 0, .rw, 0x4⟩]⟩,
   -- MED_CS_RING
   ⟨0x17000020, [(32, 0x40)], true, some (0x17000000, 31),
    [⟨47, 0, .rw, 0x0⟩]⟩,
   -- MED_CS_RLOG2
   ⟨0x17000028, [(32, 0x40)], false, some (0x17000000, 31),
    [⟨3, 0, .rw, 0x4⟩]⟩,
   -- MED_CS_RPTR
   ⟨0x1700002C, [(32, 0x40)], false, none,
    [⟨9, 0, .rw, 0x0⟩]⟩,
   -- MED_CS_STATUS
   ⟨0x17000030, [(32, 0x40)], false, none,
    [⟨31, 16, .ro, 0x0⟩]⟩,
   -- MED_RX_CTRL
   ⟨0x17001000, [(16, 0x10)], false, none,
    [⟨31, 31, .rw, 0x0⟩, ⟨30, 30, .rw, 0x0⟩, ⟨26, 24, .rw, 0x4⟩, ⟨15, 0, .rw, 0x0⟩]⟩,
   -- MED_CX_ATTR
   ⟨0x17020000, [(64, 0x100)], false, none,
    [⟨31, 31, .rw, 0x0⟩, ⟨30, 30, .rw, 0x0⟩, ⟨29, 24, .rw, 0x0⟩, ⟨23, 23, .rw, 0x0⟩, ⟨22, 20, .rw, 0x0⟩, ⟨18, 16, .rw, 0x0⟩]⟩,
   -- MED_CX_MAX
   ⟨0x17020004, [(64, 0x100)], false, some (0x17020000, 31),
    [⟨31, 16, .rw, 0x0⟩, ⟨15, 0, .rw, 0x0⟩]⟩
  ] ++
  [
   -- MED_CX_ARENA
   ⟨0x17020008, [(64, 0x100)], true, some (0x17020000, 31),
    [⟨47, 0, .rw, 0x0⟩]⟩,
   -- MED_CX_ARENA_SIZE
   ⟨0x17020010, [(64, 0x100)], false, some (0x17020000, 31),
    [⟨31, 0, .rw, 0x0⟩]⟩,
   -- MED_CX_RING
   ⟨0x17020018, [(64, 0x100)], true, some (0x17020000, 31),
    [⟨47, 0, .rw, 0x0⟩]⟩,
   -- MED_CX_CPL
   ⟨0x17020020, [(64, 0x100)], true, some (0x17020000, 31),
    [⟨47, 0, .rw, 0x0⟩]⟩,
   -- MED_CX_SIZE
   ⟨0x17020028, [(64, 0x100)], false, some (0x17020000, 31),
    [⟨12, 8, .rw, 0x4⟩, ⟨4, 0, .rw, 0x4⟩]⟩,
   -- MED_CX_INIT
   ⟨0x1702002C, [(64, 0x100)], false, some (0x17020000, 31),
    [⟨19, 0, .rw, 0x3E8⟩]⟩,
   -- MED_CX_STATUS
   ⟨0x17020030, [(64, 0x100)], false, none,
    [⟨15, 0, .ro, 0x0⟩]⟩,
   -- MED_Q_WPTR
   ⟨0x17040000, [(64, 0x1000)], false, none,
    [⟨9, 0, .rw, 0x0⟩]⟩,
   -- MED_Q_RPTR
   ⟨0x17040004, [(64, 0x1000)], false, none,
    [⟨9, 0, .ro, 0x0⟩]⟩,
   -- MED_Q_CPL_WPTR
   ⟨0x17040008, [(64, 0x1000)], false, none,
    [⟨9, 0, .ro, 0x0⟩]⟩,
   -- MED_Q_CPL_RPTR
   ⟨0x1704000C, [(64, 0x1000)], false, none,
    [⟨9, 0, .rw, 0x0⟩]⟩,
   -- MED_Q_AVG
   ⟨0x17040010, [(64, 0x1000)], false, none,
    [⟨31, 0, .ro, 0x0⟩]⟩
  ] ++
  [
   -- MED_Q_STATUS
   ⟨0x17040014, [(64, 0x1000)], false, none,
    [⟨31, 16, .ro, 0x0⟩, ⟨1, 1, .ro, 0x0⟩, ⟨0, 0, .ro, 0x0⟩]⟩,
   -- MED_ST_CTRL
   ⟨0x17080000, [(32, 0x100)], false, none,
    [⟨31, 31, .rw, 0x0⟩, ⟨30, 30, .rw, 0x0⟩, ⟨29, 24, .rw, 0x0⟩, ⟨19, 0, .rw, 0x0⟩]⟩,
   -- MED_ST_STALE
   ⟨0x17080004, [(32, 0x100)], false, none,
    [⟨19, 0, .rw, 0x7530⟩]⟩,
   -- MED_ST_TABLE
   ⟨0x17080008, [(32, 0x100)], true, some (0x17080000, 31),
    [⟨47, 0, .rw, 0x0⟩]⟩,
   -- MED_ST_BENCH
   ⟨0x17080010, [(32, 0x100)], true, some (0x17080000, 31),
    [⟨47, 0, .rw, 0x0⟩]⟩,
   -- MED_ST_STATUS
   ⟨0x17080018, [(32, 0x100)], false, none,
    [⟨31, 16, .ro, 0x0⟩, ⟨7, 0, .w1c, 0x0⟩]⟩,
   -- MED_PBQ_WPTR
   ⟨0x17080040, [(32, 0x100), (8, 0x8)], false, none,
    [⟨3, 0, .ro, 0x0⟩]⟩,
   -- MED_PBQ_RPTR
   ⟨0x17080044, [(32, 0x100), (8, 0x8)], false, none,
    [⟨3, 0, .rw, 0x0⟩]⟩
  ]

/-- Registers of the GWY block. -/
def regTableGWY : List RegD :=
  [
   -- GWY_CAN_CTRL
   ⟨0x18001000, [(16, 0x40)], false, none,
    [⟨31, 31, .rw, 0x0⟩, ⟨30, 30, .rw, 0x0⟩, ⟨29, 29, .rw, 0x0⟩, ⟨28, 28, .rw, 0x1⟩, ⟨25, 16, .rw, 0x1F4⟩, ⟨15, 0, .rw, 0x7D0⟩]⟩,
   -- GWY_CAN_STATUS
   ⟨0x18001004, [(16, 0x40)], false, none,
    [⟨31, 16, .ro, 0x0⟩, ⟨15, 8, .ro, 0x0⟩, ⟨1, 0, .ro, 0x0⟩]⟩,
   -- GWY_GCL_CTRL
   ⟨0x18004000, [(6, 0x1000)], false, none,
    [⟨31, 31, .rw, 0x0⟩, ⟨24, 16, .rw, 0x1⟩, ⟨8, 8, .ro, 0x0⟩, ⟨1, 1, .ro, 0x0⟩, ⟨0, 0, .w1s, 0x0⟩]⟩,
   -- GWY_GCL_BASE
   ⟨0x18004008, [(6, 0x1000)], true, none,
    [⟨63, 0, .rw, 0x0⟩]⟩,
   -- GWY_CBS_SLOPE5
   ⟨0x18004010, [(6, 0x1000)], false, none,
    [⟨23, 0, .rw, 0x0⟩]⟩,
   -- GWY_CBS_SLOPE6
   ⟨0x18004014, [(6, 0x1000)], false, none,
    [⟨23, 0, .rw, 0x0⟩]⟩,
   -- GWY_GCL_STATUS
   ⟨0x18004018, [(6, 0x1000)], false, none,
    [⟨15, 0, .ro, 0x0⟩]⟩,
   -- GWY_GCL_ENTRY
   ⟨0x18004400, [(6, 0x1000), (256, 0x4)], false, none,
    [⟨31, 0, .rw, 0x0⟩]⟩,
   -- GWY_EP_RX_WPTR
   ⟨0x18020000, [(256, 0x1000)], false, none,
    [⟨11, 0, .ro, 0x0⟩]⟩,
   -- GWY_EP_RX_RPTR
   ⟨0x18020004, [(256, 0x1000)], false, none,
    [⟨11, 0, .rw, 0x0⟩]⟩,
   -- GWY_EP_TX_WPTR
   ⟨0x18020008, [(256, 0x1000)], false, none,
    [⟨11, 0, .rw, 0x0⟩]⟩,
   -- GWY_EP_TX_RPTR
   ⟨0x1802000C, [(256, 0x1000)], false, none,
    [⟨11, 0, .ro, 0x0⟩]⟩
  ] ++
  [
   -- GWY_EP_STATUS
   ⟨0x18020010, [(256, 0x1000)], false, none,
    [⟨31, 16, .ro, 0x0⟩, ⟨1, 1, .rw, 0x0⟩, ⟨0, 0, .ro, 0x0⟩]⟩
  ]

/-- Registers of the BRG block. -/
def regTableBRG : List RegD :=
  [
   -- BRG_PART_GROUP
   ⟨0x19000100, [(64, 0x4)], false, none,
    [⟨4, 4, .rw, 0x0⟩, ⟨3, 0, .rw, 0x0⟩]⟩,
   -- BRG_IW_CTRL
   ⟨0x19001000, [(16, 0x40)], false, none,
    [⟨31, 31, .rw, 0x0⟩, ⟨30, 30, .rw, 0x0⟩, ⟨29, 29, .rw, 0x0⟩, ⟨28, 28, .rw, 0x0⟩, ⟨27, 22, .rw, 0x0⟩, ⟨19, 16, .rw, 0x0⟩, ⟨5, 0, .rw, 0xC⟩]⟩,
   -- BRG_IW_OFFSET
   ⟨0x19001008, [(16, 0x40)], true, some (0x19001000, 31),
    [⟨35, 0, .rw, 0x0⟩]⟩,
   -- BRG_IW_TARGET
   ⟨0x19001010, [(16, 0x40)], true, some (0x19001000, 31),
    [⟨47, 0, .rw, 0x0⟩]⟩,
   -- BRG_IW_STATUS
   ⟨0x19001018, [(16, 0x40)], false, none,
    [⟨15, 0, .ro, 0x0⟩]⟩,
   -- BRG_FG_FENCE
   ⟨0x19010000, [(16, 0x1000)], false, none,
    [⟨31, 31, .ro, 0x0⟩, ⟨30, 30, .ro, 0x0⟩, ⟨15, 0, .ro, 0x0⟩]⟩,
   -- BRG_FG_STATUS
   ⟨0x19010004, [(16, 0x1000)], false, none,
    [⟨20, 16, .ro, 0x0⟩, ⟨15, 8, .rc, 0x0⟩, ⟨7, 4, .ro, 0x0⟩]⟩,
   -- BRG_FG_ACK
   ⟨0x19010008, [(16, 0x1000)], false, none,
    [⟨4, 0, .wo, 0x0⟩]⟩,
   -- BRG_FG_ERRS
   ⟨0x1901000C, [(16, 0x1000)], false, none,
    [⟨31, 0, .ro, 0x0⟩]⟩,
   -- BRG_FG_LOG
   ⟨0x19010040, [(16, 0x1000), (16, 0x10)], true, none,
    [⟨63, 62, .ro, 0x0⟩, ⟨55, 48, .ro, 0x0⟩, ⟨47, 0, .ro, 0x0⟩]⟩,
   -- BRG_FG_LOGCLASS
   ⟨0x19010048, [(16, 0x1000), (16, 0x10)], false, none,
    [⟨31, 16, .ro, 0x0⟩]⟩,
   -- BRG_FG_LOGTS
   ⟨0x1901004C, [(16, 0x1000), (16, 0x10)], false, none,
    [⟨31, 0, .ro, 0x0⟩]⟩
  ]

/-- Registers of the MBX block. -/
def regTableMBX : List RegD :=
  [
   -- MBX_MB_CFG
   ⟨0x1A000000, [(64, 0x40)], false, none,
    [⟨31, 31, .rw, 0x0⟩, ⟨30, 30, .rw, 0x0⟩, ⟨29, 24, .rw, 0x0⟩, ⟨7, 4, .rw, 0x4⟩, ⟨3, 0, .rw, 0x0⟩]⟩,
   -- MBX_MB_REQ_BASE
   ⟨0x1A000008, [(64, 0x40)], true, some (0x1A000000, 31),
    [⟨47, 0, .rw, 0x0⟩]⟩,
   -- MBX_MB_RPL_BASE
   ⟨0x1A000010, [(64, 0x40)], true, some (0x1A000000, 31),
    [⟨47, 0, .rw, 0x0⟩]⟩,
   -- MBX_MB_CSTATUS
   ⟨0x1A000018, [(64, 0x40)], false, none,
    [⟨15, 0, .ro, 0x0⟩]⟩,
   -- MBX_MB_REQ_WPTR
   ⟨0x1A010000, [(64, 0x1000)], false, none,
    [⟨7, 0, .rw, 0x0⟩]⟩,
   -- MBX_MB_REQ_RPTR
   ⟨0x1A010004, [(64, 0x1000)], false, none,
    [⟨7, 0, .ro, 0x0⟩]⟩,
   -- MBX_MB_RPL_WPTR
   ⟨0x1A010008, [(64, 0x1000)], false, none,
    [⟨7, 0, .ro, 0x0⟩]⟩,
   -- MBX_MB_RPL_RPTR
   ⟨0x1A01000C, [(64, 0x1000)], false, none,
    [⟨7, 0, .rw, 0x0⟩]⟩,
   -- MBX_MB_STATUS
   ⟨0x1A010010, [(64, 0x1000)], false, none,
    [⟨31, 16, .ro, 0x0⟩, ⟨0, 0, .ro, 0x0⟩]⟩,
   -- MBX_MB_VERSION
   ⟨0x1A010014, [(64, 0x1000)], false, none,
    [⟨15, 8, .ro, 0x0⟩, ⟨7, 0, .ro, 0x0⟩]⟩,
   -- MBX_HB_SUPER
   ⟨0x1A080000, [], true, none,
    [⟨63, 0, .rw, 0x0⟩]⟩,
   -- MBX_HB_KICK
   ⟨0x1A080008, [], false, none,
    [⟨31, 0, .wo, 0x0⟩]⟩
  ] ++
  [
   -- MBX_HB_ORPHAN
   ⟨0x1A080010, [], true, none,
    [⟨63, 0, .ro, 0x0⟩]⟩,
   -- MBX_VTE_CTRL
   ⟨0x1A400000, [(32, 0x100)], false, none,
    [⟨31, 31, .rw, 0x0⟩, ⟨13, 8, .rw, 0x0⟩, ⟨2, 2, .rw, 0x0⟩, ⟨1, 1, .w1s, 0x0⟩, ⟨0, 0, .w1s, 0x0⟩]⟩,
   -- MBX_VTE_SHARE
   ⟨0x1A400004, [(32, 0x100)], false, none,
    [⟨23, 16, .rw, 0x0⟩, ⟨15, 0, .rw, 0x0⟩]⟩,
   -- MBX_VTE_IMAGE
   ⟨0x1A400008, [(32, 0x100)], true, none,
    [⟨47, 0, .rw, 0x0⟩]⟩,
   -- MBX_VTE_STATUS
   ⟨0x1A400010, [(32, 0x100)], false, none,
    [⟨31, 16, .ro, 0x0⟩, ⟨2, 0, .ro, 0x0⟩]⟩,
   -- MBX_VTE_IMAGE_LEN
   ⟨0x1A400014, [(32, 0x100)], false, none,
    [⟨20, 0, .ro, 0x0⟩]⟩,
   -- MBX_Q_WPTR
   ⟨0x1A800000, [(256, 0x1000)], false, none,
    [⟨15, 0, .rw, 0x0⟩]⟩,
   -- MBX_Q_RPTR
   ⟨0x1A800004, [(256, 0x1000)], false, none,
    [⟨15, 0, .ro, 0x0⟩]⟩,
   -- MBX_Q_CPL_WPTR
   ⟨0x1A800008, [(256, 0x1000)], false, none,
    [⟨15, 0, .ro, 0x0⟩]⟩,
   -- MBX_Q_CPL_RPTR
   ⟨0x1A80000C, [(256, 0x1000)], false, none,
    [⟨15, 0, .rw, 0x0⟩]⟩,
   -- MBX_Q_CSEQ
   ⟨0x1A800010, [(256, 0x1000)], false, none,
    [⟨31, 0, .ro, 0x0⟩]⟩,
   -- MBX_Q_STATUS
   ⟨0x1A800014, [(256, 0x1000)], false, none,
    [⟨31, 16, .ro, 0x0⟩, ⟨3, 3, .ro, 0x0⟩, ⟨2, 2, .ro, 0x0⟩, ⟨1, 1, .ro, 0x0⟩, ⟨0, 0, .ro, 0x0⟩]⟩
  ] ++
  [
   -- MBX_QC_ATTR
   ⟨0x1A900000, [(256, 0x100)], false, none,
    [⟨31, 31, .rw, 0x0⟩, ⟨30, 30, .rw, 0x0⟩, ⟨26, 24, .rw, 0x0⟩, ⟨21, 21, .rw, 0x0⟩, ⟨20, 16, .rw, 0x0⟩, ⟨15, 15, .rw, 0x0⟩, ⟨13, 8, .rw, 0x0⟩]⟩,
   -- MBX_QC_RING_BASE
   ⟨0x1A900008, [(256, 0x100)], true, some (0x1A900000, 31),
    [⟨47, 0, .rw, 0x0⟩]⟩,
   -- MBX_QC_RING_SIZE
   ⟨0x1A900010, [(256, 0x100)], false, some (0x1A900000, 31),
    [⟨4, 0, .rw, 0x4⟩]⟩,
   -- MBX_QC_CPL_BASE
   ⟨0x1A900018, [(256, 0x100)], true, some (0x1A900000, 31),
    [⟨47, 0, .rw, 0x0⟩]⟩,
   -- MBX_QC_CPL_SIZE
   ⟨0x1A900020, [(256, 0x100)], false, some (0x1A900000, 31),
    [⟨4, 0, .rw, 0x4⟩]⟩,
   -- MBX_QC_TT_BASE
   ⟨0x1A900028, [(256, 0x100)], true, some (0x1A900000, 31),
    [⟨47, 0, .rw, 0x0⟩]⟩,
   -- MBX_QC_TT_COUNT
   ⟨0x1A900030, [(256, 0x100)], false, some (0x1A900000, 31),
    [⟨11, 0, .rw, 0x0⟩]⟩,
   -- MBX_QC_LIVE_BASE
   ⟨0x1A900038, [(256, 0x100)], true, some (0x1A900000, 31),
    [⟨47, 0, .rw, 0x0⟩]⟩,
   -- MBX_QC_SAVE_BASE
   ⟨0x1A900040, [(256, 0x100)], true, some (0x1A900000, 31),
    [⟨47, 0, .rw, 0x0⟩]⟩,
   -- MBX_QC_SAVE_SIZE
   ⟨0x1A900048, [(256, 0x100)], false, some (0x1A900000, 31),
    [⟨31, 0, .rw, 0x0⟩]⟩,
   -- MBX_QC_STATUS
   ⟨0x1A90004C, [(256, 0x100)], false, none,
    [⟨15, 0, .ro, 0x0⟩]⟩
  ]

/-- Registers of the DDR block. -/
def regTableDDR : List RegD :=
  [
   -- DDR_PART_LOCK
   ⟨0x1B000000, [], false, none,
    [⟨0, 0, .w1s, 0x0⟩]⟩,
   -- DDR_CMD_STATUS
   ⟨0x1B000004, [], false, none,
    [⟨15, 0, .ro, 0x0⟩]⟩,
   -- DDR_EVENTS
   ⟨0x1B000008, [], false, none,
    [⟨3, 3, .w1c, 0x0⟩, ⟨2, 2, .w1c, 0x0⟩, ⟨1, 1, .w1c, 0x0⟩, ⟨0, 0, .w1c, 0x0⟩]⟩,
   -- DDR_EVENT_EN
   ⟨0x1B00000C, [], false, none,
    [⟨3, 0, .rw, 0x0⟩]⟩,
   -- DDR_ECC_LOG
   ⟨0x1B000010, [], true, none,
    [⟨63, 63, .w1c, 0x0⟩, ⟨51, 48, .ro, 0x0⟩, ⟨47, 0, .ro, 0x0⟩]⟩,
   -- DDR_WAY_MAP
   ⟨0x1B000040, [(4, 0x4)], false, none,
    [⟨29, 24, .rw, 0x0⟩, ⟨21, 16, .rw, 0x0⟩, ⟨13, 8, .rw, 0x0⟩, ⟨5, 0, .rw, 0x0⟩]⟩,
   -- DDR_CG_CTRL
   ⟨0x1B000100, [(12, 0x10)], false, none,
    [⟨31, 31, .ro, 0x0⟩, ⟨18, 8, .rw, 0x300⟩, ⟨5, 0, .rw, 0x0⟩]⟩,
   -- DDR_CG_VIOL
   ⟨0x1B000104, [(12, 0x10)], false, none,
    [⟨31, 16, .rc, 0x0⟩, ⟨5, 0, .ro, 0x0⟩]⟩,
   -- DDR_CG_SHARE
   ⟨0x1B000108, [(12, 0x10)], true, none,
    [⟨63, 0, .rw, 0x0⟩]⟩
  ]

/-- Registers of the CRY block. -/
def regTableCRY : List RegD :=
  [
   -- CRY_SEC_STATE
   ⟨0x1C000000, [], false, none,
    [⟨31, 16, .ro, 0x0⟩, ⟨15, 8, .ro, 0x0⟩, ⟨4, 4, .ro, 0x0⟩, ⟨1, 0, .ro, 0x0⟩]⟩,
   -- CRY_SEC_SVN
   ⟨0x1C000004, [], false, none,
    [⟨15, 8, .ro, 0x0⟩, ⟨7, 0, .ro, 0x0⟩]⟩,
   -- CRY_SEC_CTRL
   ⟨0x1C000008, [], false, none,
    [⟨1, 1, .w1s, 0x0⟩, ⟨0, 0, .w1s, 0x0⟩]⟩,
   -- CRY_SWD_CTRL
   ⟨0x1C000010, [], false, none,
    [⟨31, 31, .w1s, 0x0⟩, ⟨30, 30, .rw, 0x0⟩, ⟨29, 29, .w1c, 0x0⟩, ⟨15, 0, .rw, 0x64⟩]⟩,
   -- CRY_SWD_KICK
   ⟨0x1C000014, [], false, none,
    [⟨15, 0, .wo, 0x0⟩]⟩,
   -- CRY_MEAS
   ⟨0x1C000040, [(12, 0x4)], false, none,
    [⟨31, 0, .ro, 0x0⟩]⟩,
   -- CRY_KS_CTRL
   ⟨0x1C001000, [(32, 0x40)], false, none,
    [⟨31, 31, .ro, 0x0⟩, ⟨30, 30, .w1s, 0x0⟩, ⟨29, 29, .w1s, 0x0⟩, ⟨28, 28, .w1s, 0x0⟩, ⟨27, 24, .rw, 0x0⟩, ⟨4, 4, .rw, 0x0⟩, ⟨3, 3, .rw, 0x0⟩, ⟨2, 2, .rw, 0x0⟩, ⟨1, 1, .rw, 0x0⟩, ⟨0, 0, .rw, 0x0⟩]⟩,
   -- CRY_KS_PARTS
   ⟨0x1C001008, [(32, 0x40)], true, none,
    [⟨63, 0, .rw, 0x0⟩]⟩,
   -- CRY_KS_KEY
   ⟨0x1C001010, [(32, 0x40), (8, 0x4)], false, none,
    [⟨31, 0, .wo, 0x0⟩]⟩
  ]

end Sys2Proof.Machine
end

