-- ==== Sys2Proof/Machine/Regs.lean ====
section
/-! DEFINITION. The named fields of every register of the device, as the register tables of the spec
give them (block, offset, bit range): one `Field` per table row, the register's index parameters as arguments. -/

namespace Sys2Proof.Reg
open Sys2Proof.Machine

/-- The address of SYS_DEVICE_ID. -/
def SYS_DEVICE_ID_addr : Nat := 0x10000000
def SYS_DEVICE_ID_DEVICE : Field := ⟨SYS_DEVICE_ID_addr, 31, 16⟩
def SYS_DEVICE_ID_GRADE : Field := ⟨SYS_DEVICE_ID_addr, 15, 8⟩
def SYS_DEVICE_ID_STEP_MAJOR : Field := ⟨SYS_DEVICE_ID_addr, 7, 4⟩
def SYS_DEVICE_ID_STEP_MINOR : Field := ⟨SYS_DEVICE_ID_addr, 3, 0⟩
/-- The address of SYS_UNIT_MASK. -/
def SYS_UNIT_MASK_addr : Nat := 0x10000004
def SYS_UNIT_MASK_QUAD_EN : Field := ⟨SYS_UNIT_MASK_addr, 19, 16⟩
def SYS_UNIT_MASK_CLUSTER_EN : Field := ⟨SYS_UNIT_MASK_addr, 15, 0⟩
/-- The address of SYS_STRAP. -/
def SYS_STRAP_addr : Nat := 0x10000010
def SYS_STRAP_ERR : Field := ⟨SYS_STRAP_addr, 31, 31⟩
def SYS_STRAP_XSPI_OCTAL : Field := ⟨SYS_STRAP_addr, 5, 5⟩
def SYS_STRAP_RECOVERY : Field := ⟨SYS_STRAP_addr, 4, 4⟩
def SYS_STRAP_PCIE_MODE : Field := ⟨SYS_STRAP_addr, 3, 2⟩
def SYS_STRAP_PKG_ID : Field := ⟨SYS_STRAP_addr, 1, 0⟩
/-- The address of SYS_RST_CAUSE. -/
def SYS_RST_CAUSE_addr : Nat := 0x10000014
def SYS_RST_CAUSE_CAUSE : Field := ⟨SYS_RST_CAUSE_addr, 6, 0⟩
/-- The address of SYS_RST_CTRL. -/
def SYS_RST_CTRL_addr : Nat := 0x10000018
def SYS_RST_CTRL_SYSTEM : Field := ⟨SYS_RST_CTRL_addr, 0, 0⟩
/-- The address of SYS_BOOT_STATUS. -/
def SYS_BOOT_STATUS_addr : Nat := 0x1000001C
def SYS_BOOT_STATUS_CODE : Field := ⟨SYS_BOOT_STATUS_addr, 31, 16⟩
def SYS_BOOT_STATUS_SRC : Field := ⟨SYS_BOOT_STATUS_addr, 1, 0⟩
/-- The address of SYS_PLL_STATUS. -/
def SYS_PLL_STATUS_addr : Nat := 0x10000020
def SYS_PLL_STATUS_LOSS : Field := ⟨SYS_PLL_STATUS_addr, 27, 16⟩
def SYS_PLL_STATUS_LOCK : Field := ⟨SYS_PLL_STATUS_addr, 11, 0⟩
/-- The address of SYS_CLK_EN. -/
def SYS_CLK_EN_addr : Nat := 0x10000100
def SYS_CLK_EN_EN : Field := ⟨SYS_CLK_EN_addr, 59, 0⟩
/-- The address of SYS_DBG_STATUS. -/
def SYS_DBG_STATUS_addr : Nat := 0x10000200
def SYS_DBG_STATUS_LAST : Field := ⟨SYS_DBG_STATUS_addr, 31, 16⟩
def SYS_DBG_STATUS_DISABLED : Field := ⟨SYS_DBG_STATUS_addr, 3, 3⟩
def SYS_DBG_STATUS_LOCKED_OUT : Field := ⟨SYS_DBG_STATUS_addr, 2, 2⟩
def SYS_DBG_STATUS_LEVEL : Field := ⟨SYS_DBG_STATUS_addr, 1, 0⟩
/-- The address of SYS_FWD_CTRL. -/
def SYS_FWD_CTRL_addr (n : Nat) : Nat := 0x10008000 + n * 0x10
def SYS_FWD_CTRL_EN (n : Nat) : Field := ⟨SYS_FWD_CTRL_addr n, 31, 31⟩
def SYS_FWD_CTRL_TEST (n : Nat) : Field := ⟨SYS_FWD_CTRL_addr n, 30, 30⟩
def SYS_FWD_CTRL_TIMEOUT_US (n : Nat) : Field := ⟨SYS_FWD_CTRL_addr n, 19, 0⟩
/-- The address of SYS_FWD_KICK. -/
def SYS_FWD_KICK_addr (n : Nat) : Nat := 0x10008004 + n * 0x10
def SYS_FWD_KICK_KEY (n : Nat) : Field := ⟨SYS_FWD_KICK_addr n, 15, 0⟩
/-- The address of SYS_FWD_STATUS. -/
def SYS_FWD_STATUS_addr (n : Nat) : Nat := 0x10008008 + n * 0x10
def SYS_FWD_STATUS_EXPIRIES (n : Nat) : Field := ⟨SYS_FWD_STATUS_addr n, 31, 16⟩
def SYS_FWD_STATUS_EXPIRED_TEST (n : Nat) : Field := ⟨SYS_FWD_STATUS_addr n, 2, 2⟩
def SYS_FWD_STATUS_STATE (n : Nat) : Field := ⟨SYS_FWD_STATUS_addr n, 1, 0⟩
/-- The address of MER_CTRL. -/
def MER_CTRL_addr : Nat := 0x10100000
def MER_CTRL_TABLE_LOCK : Field := ⟨MER_CTRL_addr, 3, 3⟩
def MER_CTRL_SWAP : Field := ⟨MER_CTRL_addr, 2, 2⟩
def MER_CTRL_STOP : Field := ⟨MER_CTRL_addr, 1, 1⟩
def MER_CTRL_START : Field := ⟨MER_CTRL_addr, 0, 0⟩
/-- The address of MER_STATUS. -/
def MER_STATUS_addr : Nat := 0x10100004
def MER_STATUS_DATUM_STATE : Field := ⟨MER_STATUS_addr, 6, 5⟩
def MER_STATUS_ALIGNED : Field := ⟨MER_STATUS_addr, 4, 4⟩
def MER_STATUS_LOCKED_TABLE : Field := ⟨MER_STATUS_addr, 3, 3⟩
def MER_STATUS_BANK : Field := ⟨MER_STATUS_addr, 2, 2⟩
def MER_STATUS_SWAP_PENDING : Field := ⟨MER_STATUS_addr, 1, 1⟩
def MER_STATUS_RUNNING : Field := ⟨MER_STATUS_addr, 0, 0⟩
/-- The address of MER_CMD_STATUS. -/
def MER_CMD_STATUS_addr : Nat := 0x10100008
def MER_CMD_STATUS_STATUS : Field := ⟨MER_CMD_STATUS_addr, 15, 0⟩
/-- The address of MER_TABLE_ERR. -/
def MER_TABLE_ERR_addr : Nat := 0x1010000C
def MER_TABLE_ERR_ENTRY : Field := ⟨MER_TABLE_ERR_addr, 23, 16⟩
def MER_TABLE_ERR_STATUS : Field := ⟨MER_TABLE_ERR_addr, 15, 0⟩
/-- The address of MER_TICK_PERIOD. -/
def MER_TICK_PERIOD_addr : Nat := 0x10100010
def MER_TICK_PERIOD_PERIOD_US : Field := ⟨MER_TICK_PERIOD_addr, 13, 0⟩
/-- The address of MER_HYPER_TICKS. -/
def MER_HYPER_TICKS_addr : Nat := 0x10100014
def MER_HYPER_TICKS_TICKS : Field := ⟨MER_HYPER_TICKS_addr, 11, 0⟩
/-- The address of MER_PHASE_NS. -/
def MER_PHASE_NS_addr : Nat := 0x10100018
def MER_PHASE_NS_PHASE : Field := ⟨MER_PHASE_NS_addr, 29, 0⟩
/-- The address of MER_TICK_COUNT. -/
def MER_TICK_COUNT_addr : Nat := 0x1010001C
def MER_TICK_COUNT_HYPER : Field := ⟨MER_TICK_COUNT_addr, 31, 12⟩
def MER_TICK_COUNT_TICK : Field := ⟨MER_TICK_COUNT_addr, 11, 0⟩
/-- The address of MER_EVENTS. -/
def MER_EVENTS_addr : Nat := 0x10100020
def MER_EVENTS_TABLE_SWAPPED : Field := ⟨MER_EVENTS_addr, 8, 8⟩
def MER_EVENTS_WINDOW_KILL : Field := ⟨MER_EVENTS_addr, 7, 7⟩
def MER_EVENTS_REBASED : Field := ⟨MER_EVENTS_addr, 6, 6⟩
def MER_EVENTS_LOCK_ACQUIRED : Field := ⟨MER_EVENTS_addr, 5, 5⟩
def MER_EVENTS_ALIGN_LOST : Field := ⟨MER_EVENTS_addr, 4, 4⟩
def MER_EVENTS_HOLDOVER_EXPIRED : Field := ⟨MER_EVENTS_addr, 3, 3⟩
def MER_EVENTS_HOLDOVER_ENTERED : Field := ⟨MER_EVENTS_addr, 2, 2⟩
def MER_EVENTS_JUMP_REFUSED : Field := ⟨MER_EVENTS_addr, 1, 1⟩
def MER_EVENTS_TICK : Field := ⟨MER_EVENTS_addr, 0, 0⟩
/-- The address of MER_EVENT_EN. -/
def MER_EVENT_EN_addr : Nat := 0x10100024
def MER_EVENT_EN_EN : Field := ⟨MER_EVENT_EN_addr, 8, 0⟩
/-- The address of MER_PIPE_FRAME. -/
def MER_PIPE_FRAME_addr (p : Nat) : Nat := 0x10100080 + p * 0x4
def MER_PIPE_FRAME_FRAME_TICKS (p : Nat) : Field := ⟨MER_PIPE_FRAME_addr p, 11, 0⟩
/-- The address of MER_TIME_NS. -/
def MER_TIME_NS_addr : Nat := 0x10100100
def MER_TIME_NS_NS : Field := ⟨MER_TIME_NS_addr, 29, 0⟩
/-- The address of MER_SECONDS. -/
def MER_SECONDS_addr : Nat := 0x10100108
def MER_SECONDS_SEC : Field := ⟨MER_SECONDS_addr, 47, 0⟩
/-- The address of MER_TS32. -/
def MER_TS32_addr : Nat := 0x10100110
def MER_TS32_TS32 : Field := ⟨MER_TS32_addr, 31, 0⟩
/-- The address of MER_RATE. -/
def MER_RATE_addr : Nat := 0x10100114
def MER_RATE_ADJ : Field := ⟨MER_RATE_addr, 31, 0⟩
/-- The address of MER_DATUM_CTRL. -/
def MER_DATUM_CTRL_addr : Nat := 0x10100118
def MER_DATUM_CTRL_REBASE : Field := ⟨MER_DATUM_CTRL_addr, 2, 2⟩
def MER_DATUM_CTRL_SOURCE : Field := ⟨MER_DATUM_CTRL_addr, 1, 0⟩
/-- The address of MER_OFFSET_NS. -/
def MER_OFFSET_NS_addr : Nat := 0x1010011C
def MER_OFFSET_NS_OFFSET : Field := ⟨MER_OFFSET_NS_addr, 31, 0⟩
/-- The address of MER_TOUT_CTRL. -/
def MER_TOUT_CTRL_addr (n : Nat) : Nat := 0x10100200 + n * 0x20
def MER_TOUT_CTRL_EN (n : Nat) : Field := ⟨MER_TOUT_CTRL_addr n, 31, 31⟩
def MER_TOUT_CTRL_MODE (n : Nat) : Field := ⟨MER_TOUT_CTRL_addr n, 30, 29⟩
def MER_TOUT_CTRL_POL (n : Nat) : Field := ⟨MER_TOUT_CTRL_addr n, 28, 28⟩
def MER_TOUT_CTRL_PIPE (n : Nat) : Field := ⟨MER_TOUT_CTRL_addr n, 27, 23⟩
/-- The address of MER_TO_OFFSET_NS. -/
def MER_TO_OFFSET_NS_addr (n : Nat) : Nat := 0x10100204 + n * 0x20
def MER_TO_OFFSET_NS_OFFSET_NS (n : Nat) : Field := ⟨MER_TO_OFFSET_NS_addr n, 29, 0⟩
/-- The address of MER_TO_START_SEC. -/
def MER_TO_START_SEC_addr (n : Nat) : Nat := 0x10100208 + n * 0x20
def MER_TO_START_SEC_START_SEC (n : Nat) : Field := ⟨MER_TO_START_SEC_addr n, 47, 0⟩
/-- The address of MER_TO_START_NS. -/
def MER_TO_START_NS_addr (n : Nat) : Nat := 0x10100210 + n * 0x20
def MER_TO_START_NS_START_NS (n : Nat) : Field := ⟨MER_TO_START_NS_addr n, 29, 0⟩
/-- The address of MER_TO_PERIOD_NS. -/
def MER_TO_PERIOD_NS_addr (n : Nat) : Nat := 0x10100214 + n * 0x20
def MER_TO_PERIOD_NS_PERIOD_NS (n : Nat) : Field := ⟨MER_TO_PERIOD_NS_addr n, 29, 0⟩
/-- The address of MER_TO_WIDTH_NS. -/
def MER_TO_WIDTH_NS_addr (n : Nat) : Nat := 0x10100218 + n * 0x20
def MER_TO_WIDTH_NS_WIDTH_NS (n : Nat) : Field := ⟨MER_TO_WIDTH_NS_addr n, 29, 0⟩
/-- The address of MER_TI_CTRL. -/
def MER_TI_CTRL_addr (n : Nat) : Nat := 0x10100300 + n * 0x10
def MER_TI_CTRL_EN (n : Nat) : Field := ⟨MER_TI_CTRL_addr n, 31, 31⟩
def MER_TI_CTRL_EDGE (n : Nat) : Field := ⟨MER_TI_CTRL_addr n, 30, 29⟩
def MER_TI_CTRL_MISSED (n : Nat) : Field := ⟨MER_TI_CTRL_addr n, 9, 9⟩
def MER_TI_CTRL_OVERFLOW (n : Nat) : Field := ⟨MER_TI_CTRL_addr n, 8, 8⟩
def MER_TI_CTRL_COUNT (n : Nat) : Field := ⟨MER_TI_CTRL_addr n, 4, 0⟩
/-- The address of MER_TI_NS. -/
def MER_TI_NS_addr (n : Nat) : Nat := 0x10100304 + n * 0x10
def MER_TI_NS_VALID (n : Nat) : Field := ⟨MER_TI_NS_addr n, 31, 31⟩
def MER_TI_NS_NS (n : Nat) : Field := ⟨MER_TI_NS_addr n, 29, 0⟩
/-- The address of MER_TI_SEC. -/
def MER_TI_SEC_addr (n : Nat) : Nat := 0x10100308 + n * 0x10
def MER_TI_SEC_SEC (n : Nat) : Field := ⟨MER_TI_SEC_addr n, 47, 0⟩
/-- The address of ICN_SRC_CFG. -/
def ICN_SRC_CFG_addr (i : Nat) : Nat := 0x10200000 + i * 0x4
def ICN_SRC_CFG_EN (i : Nat) : Field := ⟨ICN_SRC_CFG_addr i, 31, 31⟩
def ICN_SRC_CFG_EDGE (i : Nat) : Field := ⟨ICN_SRC_CFG_addr i, 30, 30⟩
def ICN_SRC_CFG_MULTI (i : Nat) : Field := ⟨ICN_SRC_CFG_addr i, 29, 29⟩
def ICN_SRC_CFG_PENDING (i : Nat) : Field := ⟨ICN_SRC_CFG_addr i, 28, 28⟩
def ICN_SRC_CFG_ACTIVE (i : Nat) : Field := ⟨ICN_SRC_CFG_addr i, 27, 27⟩
def ICN_SRC_CFG_LINE (i : Nat) : Field := ⟨ICN_SRC_CFG_addr i, 26, 26⟩
def ICN_SRC_CFG_OWNER (i : Nat) : Field := ⟨ICN_SRC_CFG_addr i, 13, 8⟩
def ICN_SRC_CFG_PRIO (i : Nat) : Field := ⟨ICN_SRC_CFG_addr i, 4, 0⟩
/-- The address of ICN_SRC_TGT. -/
def ICN_SRC_TGT_addr (i : Nat) : Nat := 0x10202000 + i * 0x8
def ICN_SRC_TGT_TARGETS (i : Nat) : Field := ⟨ICN_SRC_TGT_addr i, 63, 0⟩
/-- The address of ICN_PEND. -/
def ICN_PEND_addr (j : Nat) : Nat := 0x10204000 + j * 0x4
def ICN_PEND_PEND (j : Nat) : Field := ⟨ICN_PEND_addr j, 31, 0⟩
/-- The address of ICN_ACT. -/
def ICN_ACT_addr (j : Nat) : Nat := 0x10204080 + j * 0x4
def ICN_ACT_ACT (j : Nat) : Field := ⟨ICN_ACT_addr j, 31, 0⟩
/-- The address of ICN_SW_SET. -/
def ICN_SW_SET_addr : Nat := 0x10205000
def ICN_SW_SET_N : Field := ⟨ICN_SW_SET_addr, 5, 0⟩
/-- The address of ICN_CTRL. -/
def ICN_CTRL_addr : Nat := 0x10206000
def ICN_CTRL_TEST : Field := ⟨ICN_CTRL_addr, 1, 1⟩
/-- The address of ICN_FAULT. -/
def ICN_FAULT_addr : Nat := 0x10206004
def ICN_FAULT_VALID : Field := ⟨ICN_FAULT_addr, 31, 31⟩
def ICN_FAULT_TEST : Field := ⟨ICN_FAULT_addr, 30, 30⟩
def ICN_FAULT_TARGET : Field := ⟨ICN_FAULT_addr, 29, 24⟩
def ICN_FAULT_TOP_VALID : Field := ⟨ICN_FAULT_addr, 22, 22⟩
def ICN_FAULT_TOP_ID : Field := ⟨ICN_FAULT_addr, 21, 12⟩
def ICN_FAULT_ID : Field := ⟨ICN_FAULT_addr, 9, 0⟩
/-- The address of ICN_UNFREEZE. -/
def ICN_UNFREEZE_addr : Nat := 0x10206008
def ICN_UNFREEZE_TARGET : Field := ⟨ICN_UNFREEZE_addr, 5, 0⟩
/-- The address of ICN_CMD_STATUS. -/
def ICN_CMD_STATUS_addr : Nat := 0x1020600C
def ICN_CMD_STATUS_STATUS : Field := ⟨ICN_CMD_STATUS_addr, 15, 0⟩
/-- The address of ICN_TGT_THRESH. -/
def ICN_TGT_THRESH_addr (t : Nat) : Nat := 0x10210000 + t * 0x1000
def ICN_TGT_THRESH_THRESH (t : Nat) : Field := ⟨ICN_TGT_THRESH_addr t, 4, 0⟩
/-- The address of ICN_TGT_CLAIM. -/
def ICN_TGT_CLAIM_addr (t : Nat) : Nat := 0x10210004 + t * 0x1000
def ICN_TGT_CLAIM_VALID (t : Nat) : Field := ⟨ICN_TGT_CLAIM_addr t, 31, 31⟩
def ICN_TGT_CLAIM_PRIO (t : Nat) : Field := ⟨ICN_TGT_CLAIM_addr t, 20, 16⟩
def ICN_TGT_CLAIM_ID (t : Nat) : Field := ⟨ICN_TGT_CLAIM_addr t, 9, 0⟩
/-- The address of ICN_TGT_COMPLETE. -/
def ICN_TGT_COMPLETE_addr (t : Nat) : Nat := 0x10210008 + t * 0x1000
def ICN_TGT_COMPLETE_ID (t : Nat) : Field := ⟨ICN_TGT_COMPLETE_addr t, 9, 0⟩
/-- The address of ICN_TGT_STATUS. -/
def ICN_TGT_STATUS_addr (t : Nat) : Nat := 0x1021000C + t * 0x1000
def ICN_TGT_STATUS_LAST (t : Nat) : Field := ⟨ICN_TGT_STATUS_addr t, 31, 16⟩
def ICN_TGT_STATUS_FROZEN (t : Nat) : Field := ⟨ICN_TGT_STATUS_addr t, 15, 15⟩
def ICN_TGT_STATUS_EIP (t : Nat) : Field := ⟨ICN_TGT_STATUS_addr t, 14, 14⟩
def ICN_TGT_STATUS_TOP (t : Nat) : Field := ⟨ICN_TGT_STATUS_addr t, 9, 5⟩
def ICN_TGT_STATUS_DEPTH (t : Nat) : Field := ⟨ICN_TGT_STATUS_addr t, 4, 0⟩
/-- The address of ICN_TGT_STACK. -/
def ICN_TGT_STACK_addr (t k : Nat) : Nat := 0x10210040 + t * 0x1000 + k * 0x4
def ICN_TGT_STACK_VALID (t k : Nat) : Field := ⟨ICN_TGT_STACK_addr t k, 31, 31⟩
def ICN_TGT_STACK_PRIO (t k : Nat) : Field := ⟨ICN_TGT_STACK_addr t k, 20, 16⟩
def ICN_TGT_STACK_ID (t k : Nat) : Field := ⟨ICN_TGT_STACK_addr t k, 9, 0⟩
/-- The address of CAD_CTRL. -/
def CAD_CTRL_addr (k : Nat) : Nat := 0x10300000 + k * 0x1000
def CAD_CTRL_LOCK (k : Nat) : Field := ⟨CAD_CTRL_addr k, 31, 31⟩
def CAD_CTRL_TEST (k : Nat) : Field := ⟨CAD_CTRL_addr k, 1, 1⟩
/-- The address of CAD_STATUS. -/
def CAD_STATUS_addr (k : Nat) : Nat := 0x10300004 + k * 0x1000
def CAD_STATUS_LAST (k : Nat) : Field := ⟨CAD_STATUS_addr k, 31, 16⟩
def CAD_STATUS_DROPPED (k : Nat) : Field := ⟨CAD_STATUS_addr k, 15, 8⟩
def CAD_STATUS_HEAD (k : Nat) : Field := ⟨CAD_STATUS_addr k, 6, 4⟩
def CAD_STATUS_COUNT (k : Nat) : Field := ⟨CAD_STATUS_addr k, 3, 0⟩
/-- The address of CAD_VIOL. -/
def CAD_VIOL_addr (k : Nat) : Nat := 0x10300008 + k * 0x1000
def CAD_VIOL_COUNT (k : Nat) : Field := ⟨CAD_VIOL_addr k, 31, 0⟩
/-- The address of CAD_LOG_ACK. -/
def CAD_LOG_ACK_addr (k : Nat) : Nat := 0x1030000C + k * 0x1000
def CAD_LOG_ACK_N (k : Nat) : Field := ⟨CAD_LOG_ACK_addr k, 3, 0⟩
/-- The address of CAD_LOG. -/
def CAD_LOG_addr (k i : Nat) : Nat := 0x10300100 + k * 0x1000 + i * 0x10
def CAD_LOG_REGION (k i : Nat) : Field := ⟨CAD_LOG_addr k i, 62, 57⟩
def CAD_LOG_WRITE (k i : Nat) : Field := ⟨CAD_LOG_addr k i, 56, 56⟩
def CAD_LOG_ATTR (k i : Nat) : Field := ⟨CAD_LOG_addr k i, 55, 48⟩
def CAD_LOG_ADDR (k i : Nat) : Field := ⟨CAD_LOG_addr k i, 47, 0⟩
/-- The address of CAD_LOGTS. -/
def CAD_LOGTS_addr (k i : Nat) : Nat := 0x10300108 + k * 0x1000 + i * 0x10
def CAD_LOGTS_TS32 (k i : Nat) : Field := ⟨CAD_LOGTS_addr k i, 31, 0⟩
/-- The address of CAD_RG_BASE. -/
def CAD_RG_BASE_addr (k r : Nat) : Nat := 0x10300400 + k * 0x1000 + r * 0x20
def CAD_RG_BASE_BASE (k r : Nat) : Field := ⟨CAD_RG_BASE_addr k r, 47, 12⟩
/-- The address of CAD_RG_LIMIT. -/
def CAD_RG_LIMIT_addr (k r : Nat) : Nat := 0x10300408 + k * 0x1000 + r * 0x20
def CAD_RG_LIMIT_LIMIT (k r : Nat) : Field := ⟨CAD_RG_LIMIT_addr k r, 47, 12⟩
/-- The address of CAD_RG_PARTS. -/
def CAD_RG_PARTS_addr (k r : Nat) : Nat := 0x10300410 + k * 0x1000 + r * 0x20
def CAD_RG_PARTS_PARTS (k r : Nat) : Field := ⟨CAD_RG_PARTS_addr k r, 63, 0⟩
/-- The address of CAD_RG_CTRL. -/
def CAD_RG_CTRL_addr (k r : Nat) : Nat := 0x10300418 + k * 0x1000 + r * 0x20
def CAD_RG_CTRL_EN (k r : Nat) : Field := ⟨CAD_RG_CTRL_addr k r, 31, 31⟩
def CAD_RG_CTRL_SR (k r : Nat) : Field := ⟨CAD_RG_CTRL_addr k r, 3, 3⟩
def CAD_RG_CTRL_SW (k r : Nat) : Field := ⟨CAD_RG_CTRL_addr k r, 2, 2⟩
def CAD_RG_CTRL_NR (k r : Nat) : Field := ⟨CAD_RG_CTRL_addr k r, 1, 1⟩
def CAD_RG_CTRL_NW (k r : Nat) : Field := ⟨CAD_RG_CTRL_addr k r, 0, 0⟩
/-- The address of PMU_PD_STATE. -/
def PMU_PD_STATE_addr : Nat := 0x10400000
def PMU_PD_STATE_PD : Field := ⟨PMU_PD_STATE_addr, 19, 0⟩
/-- The address of PMU_EVENTS. -/
def PMU_EVENTS_addr : Nat := 0x10400010
def PMU_EVENTS_UPDATE : Field := ⟨PMU_EVENTS_addr, 5, 5⟩
def PMU_EVENTS_DROOP : Field := ⟨PMU_EVENTS_addr, 4, 4⟩
def PMU_EVENTS_RAIL_FAULT : Field := ⟨PMU_EVENTS_addr, 3, 3⟩
def PMU_EVENTS_GRANT : Field := ⟨PMU_EVENTS_addr, 2, 2⟩
def PMU_EVENTS_SHED : Field := ⟨PMU_EVENTS_addr, 1, 1⟩
def PMU_EVENTS_STATE : Field := ⟨PMU_EVENTS_addr, 0, 0⟩
/-- The address of PMU_EVENT_EN. -/
def PMU_EVENT_EN_addr : Nat := 0x10400014
def PMU_EVENT_EN_EN : Field := ⟨PMU_EVENT_EN_addr, 5, 0⟩
/-- The address of PMU_LEASE_PD. -/
def PMU_LEASE_PD_addr : Nat := 0x10408000
def PMU_LEASE_PD_PD : Field := ⟨PMU_LEASE_PD_addr, 19, 0⟩
/-- The address of PMU_LEASE_CLK. -/
def PMU_LEASE_CLK_addr : Nat := 0x10408008
def PMU_LEASE_CLK_CLK : Field := ⟨PMU_LEASE_CLK_addr, 59, 0⟩
/-- The address of SAF_STATE. -/
def SAF_STATE_addr : Nat := 0x10500000
def SAF_STATE_CAUSE : Field := ⟨SAF_STATE_addr, 31, 16⟩
def SAF_STATE_SCRUB_UNCORR : Field := ⟨SAF_STATE_addr, 13, 13⟩
def SAF_STATE_PEER_LOST : Field := ⟨SAF_STATE_addr, 12, 12⟩
def SAF_STATE_ECC_ALARM : Field := ⟨SAF_STATE_addr, 11, 11⟩
def SAF_STATE_CLUSTER_ISOLATED : Field := ⟨SAF_STATE_addr, 10, 10⟩
def SAF_STATE_BENCH_FAIL : Field := ⟨SAF_STATE_addr, 9, 9⟩
def SAF_STATE_LATENT_TIMEOUT : Field := ⟨SAF_STATE_addr, 8, 8⟩
def SAF_STATE_SS_LOW : Field := ⟨SAF_STATE_addr, 2, 2⟩
def SAF_STATE_STATE : Field := ⟨SAF_STATE_addr, 1, 0⟩
/-- The address of SAF_CTRL. -/
def SAF_CTRL_addr : Nat := 0x10500004
def SAF_CTRL_SS_REQ : Field := ⟨SAF_CTRL_addr, 2, 2⟩
def SAF_CTRL_RUN : Field := ⟨SAF_CTRL_addr, 0, 0⟩
/-- The address of SAF_CMD_STATUS. -/
def SAF_CMD_STATUS_addr : Nat := 0x10500008
def SAF_CMD_STATUS_STATUS : Field := ⟨SAF_CMD_STATUS_addr, 15, 0⟩
/-- The address of SAF_INJ_STATUS. -/
def SAF_INJ_STATUS_addr : Nat := 0x1050000C
def SAF_INJ_STATUS_CODE : Field := ⟨SAF_INJ_STATUS_addr, 31, 16⟩
def SAF_INJ_STATUS_ITEM : Field := ⟨SAF_INJ_STATUS_addr, 15, 8⟩
def SAF_INJ_STATUS_PASS : Field := ⟨SAF_INJ_STATUS_addr, 1, 1⟩
def SAF_INJ_STATUS_DONE : Field := ⟨SAF_INJ_STATUS_addr, 0, 0⟩
/-- The address of SAF_EVENTS. -/
def SAF_EVENTS_addr : Nat := 0x10500010
def SAF_EVENTS_DLOG_OVERFLOW : Field := ⟨SAF_EVENTS_addr, 10, 10⟩
def SAF_EVENTS_DISPLAY_MISMATCH : Field := ⟨SAF_EVENTS_addr, 9, 9⟩
def SAF_EVENTS_LATENT_TIMEOUT : Field := ⟨SAF_EVENTS_addr, 8, 8⟩
def SAF_EVENTS_BENCH_URGENT : Field := ⟨SAF_EVENTS_addr, 7, 7⟩
def SAF_EVENTS_BENCH_FAIL : Field := ⟨SAF_EVENTS_addr, 6, 6⟩
def SAF_EVENTS_BENCH_PASS : Field := ⟨SAF_EVENTS_addr, 5, 5⟩
def SAF_EVENTS_DEGRADED : Field := ⟨SAF_EVENTS_addr, 4, 4⟩
def SAF_EVENTS_SAFE : Field := ⟨SAF_EVENTS_addr, 3, 3⟩
def SAF_EVENTS_AGE : Field := ⟨SAF_EVENTS_addr, 2, 2⟩
def SAF_EVENTS_MISSING : Field := ⟨SAF_EVENTS_addr, 1, 1⟩
def SAF_EVENTS_DISAGREE : Field := ⟨SAF_EVENTS_addr, 0, 0⟩
/-- The address of SAF_EVENT_EN. -/
def SAF_EVENT_EN_addr : Nat := 0x10500014
def SAF_EVENT_EN_EN : Field := ⟨SAF_EVENT_EN_addr, 10, 0⟩
/-- The address of SAF_DLOG_WPTR. -/
def SAF_DLOG_WPTR_addr : Nat := 0x10500018
def SAF_DLOG_WPTR_WPTR : Field := ⟨SAF_DLOG_WPTR_addr, 5, 0⟩
/-- The address of SAF_CH_STATUS. -/
def SAF_CH_STATUS_addr (r : Nat) : Nat := 0x10500100 + r * 0x4
def SAF_CH_STATUS_REUSING (r : Nat) : Field := ⟨SAF_CH_STATUS_addr r, 31, 31⟩
def SAF_CH_STATUS_HELD (r : Nat) : Field := ⟨SAF_CH_STATUS_addr r, 30, 30⟩
def SAF_CH_STATUS_LAST (r : Nat) : Field := ⟨SAF_CH_STATUS_addr r, 29, 27⟩
def SAF_CH_STATUS_RUN (r : Nat) : Field := ⟨SAF_CH_STATUS_addr r, 19, 16⟩
def SAF_CH_STATUS_PUBSEQ (r : Nat) : Field := ⟨SAF_CH_STATUS_addr r, 15, 0⟩
/-- The address of SAF_CLOSURE. -/
def SAF_CLOSURE_addr (r w : Nat) : Nat := 0x10501000 + r * 0x40 + w * 0x4
def SAF_CLOSURE_WORD (r w : Nat) : Field := ⟨SAF_CLOSURE_addr r w, 31, 0⟩
/-- The address of SAF_BENCH. -/
def SAF_BENCH_addr (b w : Nat) : Nat := 0x10502000 + b * 0x20 + w * 0x4
def SAF_BENCH_WORD (b w : Nat) : Field := ⟨SAF_BENCH_addr b w, 31, 0⟩
/-- The address of SAF_DLOG. -/
def SAF_DLOG_addr (e w : Nat) : Nat := 0x10503000 + e * 0x20 + w * 0x4
def SAF_DLOG_WORD (e w : Nat) : Field := ⟨SAF_DLOG_addr e w, 31, 0⟩
/-- The address of TEN_RM_CFG. -/
def TEN_RM_CFG_addr (c m : Nat) : Nat := 0x1100E000 + c * 0x100000 + m * 0x10
def TEN_RM_CFG_ARMED (c m : Nat) : Field := ⟨TEN_RM_CFG_addr c m, 31, 31⟩
def TEN_RM_CFG_COMMITTED (c m : Nat) : Field := ⟨TEN_RM_CFG_addr c m, 30, 30⟩
def TEN_RM_CFG_BANK (c m : Nat) : Field := ⟨TEN_RM_CFG_addr c m, 29, 29⟩
def TEN_RM_CFG_DEFUSED (c m : Nat) : Field := ⟨TEN_RM_CFG_addr c m, 28, 28⟩
def TEN_RM_CFG_LEAD (c m : Nat) : Field := ⟨TEN_RM_CFG_addr c m, 5, 0⟩
/-- The address of TEN_RM_RANGE. -/
def TEN_RM_RANGE_addr (c m : Nat) : Nat := 0x1100E004 + c * 0x100000 + m * 0x10
def TEN_RM_RANGE_LIMIT (c m : Nat) : Field := ⟨TEN_RM_RANGE_addr c m, 31, 16⟩
def TEN_RM_RANGE_FIRST (c m : Nat) : Field := ⟨TEN_RM_RANGE_addr c m, 15, 0⟩
/-- The address of TEN_RM_DONE. -/
def TEN_RM_DONE_addr (c m : Nat) : Nat := 0x1100E008 + c * 0x100000 + m * 0x10
def TEN_RM_DONE_TAIL (c m : Nat) : Field := ⟨TEN_RM_DONE_addr c m, 21, 16⟩
def TEN_RM_DONE_HEAD (c m : Nat) : Field := ⟨TEN_RM_DONE_addr c m, 15, 0⟩
/-- The address of TEN_RM_OWNER. -/
def TEN_RM_OWNER_addr (c m : Nat) : Nat := 0x1100E00C + c * 0x100000 + m * 0x10
def TEN_RM_OWNER_JOB (c m : Nat) : Field := ⟨TEN_RM_OWNER_addr c m, 31, 16⟩
def TEN_RM_OWNER_QUEUE (c m : Nat) : Field := ⟨TEN_RM_OWNER_addr c m, 15, 8⟩
def TEN_RM_OWNER_PARTITION (c m : Nat) : Field := ⟨TEN_RM_OWNER_addr c m, 7, 2⟩
/-- The address of TEN_CL_STATUS. -/
def TEN_CL_STATUS_addr (c : Nat) : Nat := 0x1100F000 + c * 0x100000
def TEN_CL_STATUS_ISOLATED (c : Nat) : Field := ⟨TEN_CL_STATUS_addr c, 2, 2⟩
def TEN_CL_STATUS_RUNNING (c : Nat) : Field := ⟨TEN_CL_STATUS_addr c, 1, 1⟩
def TEN_CL_STATUS_FAULT (c : Nat) : Field := ⟨TEN_CL_STATUS_addr c, 0, 0⟩
/-- The address of TEN_CL_FAULT. -/
def TEN_CL_FAULT_addr (c : Nat) : Nat := 0x1100F004 + c * 0x100000
def TEN_CL_FAULT_TILE (c : Nat) : Field := ⟨TEN_CL_FAULT_addr c, 18, 16⟩
def TEN_CL_FAULT_CODE (c : Nat) : Field := ⟨TEN_CL_FAULT_addr c, 15, 0⟩
/-- The address of TEN_CL_ECC. -/
def TEN_CL_ECC_addr (c : Nat) : Nat := 0x1100F008 + c * 0x100000
def TEN_CL_ECC_UNCORR (c : Nat) : Field := ⟨TEN_CL_ECC_addr c, 31, 16⟩
def TEN_CL_ECC_CORR (c : Nat) : Field := ⟨TEN_CL_ECC_addr c, 15, 0⟩
/-- The address of TEN_CL_MEMSTAT. -/
def TEN_CL_MEMSTAT_addr (c : Nat) : Nat := 0x1100F00C + c * 0x100000
def TEN_CL_MEMSTAT_SCRUB_PASSES (c : Nat) : Field := ⟨TEN_CL_MEMSTAT_addr c, 23, 16⟩
def TEN_CL_MEMSTAT_CLEARING (c : Nat) : Field := ⟨TEN_CL_MEMSTAT_addr c, 1, 1⟩
def TEN_CL_MEMSTAT_INIT_DONE (c : Nat) : Field := ⟨TEN_CL_MEMSTAT_addr c, 0, 0⟩
/-- The address of TEN_CL_ECC_ADDR. -/
def TEN_CL_ECC_ADDR_addr (c : Nat) : Nat := 0x1100F010 + c * 0x100000
def TEN_CL_ECC_ADDR_VALID (c : Nat) : Field := ⟨TEN_CL_ECC_ADDR_addr c, 31, 31⟩
def TEN_CL_ECC_ADDR_CB (c : Nat) : Field := ⟨TEN_CL_ECC_ADDR_addr c, 30, 30⟩
def TEN_CL_ECC_ADDR_TILE (c : Nat) : Field := ⟨TEN_CL_ECC_ADDR_addr c, 29, 27⟩
def TEN_CL_ECC_ADDR_WORD (c : Nat) : Field := ⟨TEN_CL_ECC_ADDR_addr c, 22, 0⟩
/-- The address of TEN_KV_CACHE. -/
def TEN_KV_CACHE_addr (c : Nat) : Nat := 0x1100F014 + c * 0x100000
def TEN_KV_CACHE_STATUS (c : Nat) : Field := ⟨TEN_KV_CACHE_addr c, 31, 16⟩
def TEN_KV_CACHE_BANKS (c : Nat) : Field := ⟨TEN_KV_CACHE_addr c, 5, 0⟩
/-- The address of TEN_KV_STAT. -/
def TEN_KV_STAT_addr (c : Nat) : Nat := 0x1100F018 + c * 0x100000
def TEN_KV_STAT_MISS (c : Nat) : Field := ⟨TEN_KV_STAT_addr c, 31, 16⟩
def TEN_KV_STAT_HIT (c : Nat) : Field := ⟨TEN_KV_STAT_addr c, 15, 0⟩
/-- The address of PLB_Q_WPTR. -/
def PLB_Q_WPTR_addr (q : Nat) : Nat := 0x13000000 + q * 0x1000
def PLB_Q_WPTR_WPTR (q : Nat) : Field := ⟨PLB_Q_WPTR_addr q, 15, 0⟩
/-- The address of PLB_Q_RPTR. -/
def PLB_Q_RPTR_addr (q : Nat) : Nat := 0x13000004 + q * 0x1000
def PLB_Q_RPTR_RPTR (q : Nat) : Field := ⟨PLB_Q_RPTR_addr q, 15, 0⟩
/-- The address of PLB_Q_CPL_WPTR. -/
def PLB_Q_CPL_WPTR_addr (q : Nat) : Nat := 0x13000008 + q * 0x1000
def PLB_Q_CPL_WPTR_CPL_WPTR (q : Nat) : Field := ⟨PLB_Q_CPL_WPTR_addr q, 15, 0⟩
/-- The address of PLB_Q_CPL_RPTR. -/
def PLB_Q_CPL_RPTR_addr (q : Nat) : Nat := 0x1300000C + q * 0x1000
def PLB_Q_CPL_RPTR_CPL_RPTR (q : Nat) : Field := ⟨PLB_Q_CPL_RPTR_addr q, 15, 0⟩
/-- The address of PLB_Q_CSEQ. -/
def PLB_Q_CSEQ_addr (q : Nat) : Nat := 0x13000010 + q * 0x1000
def PLB_Q_CSEQ_CSEQ (q : Nat) : Field := ⟨PLB_Q_CSEQ_addr q, 31, 0⟩
/-- The address of PLB_Q_STATUS. -/
def PLB_Q_STATUS_addr (q : Nat) : Nat := 0x13000014 + q * 0x1000
def PLB_Q_STATUS_LAST (q : Nat) : Field := ⟨PLB_Q_STATUS_addr q, 31, 16⟩
def PLB_Q_STATUS_STOPPED (q : Nat) : Field := ⟨PLB_Q_STATUS_addr q, 3, 3⟩
def PLB_Q_STATUS_SAVED (q : Nat) : Field := ⟨PLB_Q_STATUS_addr q, 2, 2⟩
def PLB_Q_STATUS_ADMITTED (q : Nat) : Field := ⟨PLB_Q_STATUS_addr q, 1, 1⟩
def PLB_Q_STATUS_EN (q : Nat) : Field := ⟨PLB_Q_STATUS_addr q, 0, 0⟩
/-- The address of PLB_STATUS. -/
def PLB_STATUS_addr : Nat := 0x1300F000
def PLB_STATUS_CLK_FAULT : Field := ⟨PLB_STATUS_addr, 2, 2⟩
def PLB_STATUS_RAIL_FAULT : Field := ⟨PLB_STATUS_addr, 1, 1⟩
def PLB_STATUS_RUNNING : Field := ⟨PLB_STATUS_addr, 0, 0⟩
/-- The address of PLB_ECC. -/
def PLB_ECC_addr : Nat := 0x1300F004
def PLB_ECC_UNCORR : Field := ⟨PLB_ECC_addr, 31, 16⟩
def PLB_ECC_CORR : Field := ⟨PLB_ECC_addr, 15, 0⟩
/-- The address of PLB_QC_ATTR. -/
def PLB_QC_ATTR_addr (q : Nat) : Nat := 0x13010000 + q * 0x100
def PLB_QC_ATTR_EN (q : Nat) : Field := ⟨PLB_QC_ATTR_addr q, 31, 31⟩
def PLB_QC_ATTR_COMPAT (q : Nat) : Field := ⟨PLB_QC_ATTR_addr q, 30, 30⟩
def PLB_QC_ATTR_PRIO (q : Nat) : Field := ⟨PLB_QC_ATTR_addr q, 26, 24⟩
def PLB_QC_ATTR_VTE_EN (q : Nat) : Field := ⟨PLB_QC_ATTR_addr q, 21, 21⟩
def PLB_QC_ATTR_VTE (q : Nat) : Field := ⟨PLB_QC_ATTR_addr q, 20, 16⟩
def PLB_QC_ATTR_SECURE (q : Nat) : Field := ⟨PLB_QC_ATTR_addr q, 15, 15⟩
def PLB_QC_ATTR_PARTITION (q : Nat) : Field := ⟨PLB_QC_ATTR_addr q, 13, 8⟩
/-- The address of PLB_QC_RING_BASE. -/
def PLB_QC_RING_BASE_addr (q : Nat) : Nat := 0x13010008 + q * 0x100
def PLB_QC_RING_BASE_BASE (q : Nat) : Field := ⟨PLB_QC_RING_BASE_addr q, 47, 0⟩
/-- The address of PLB_QC_RING_SIZE. -/
def PLB_QC_RING_SIZE_addr (q : Nat) : Nat := 0x13010010 + q * 0x100
def PLB_QC_RING_SIZE_LOG2 (q : Nat) : Field := ⟨PLB_QC_RING_SIZE_addr q, 4, 0⟩
/-- The address of PLB_QC_CPL_BASE. -/
def PLB_QC_CPL_BASE_addr (q : Nat) : Nat := 0x13010018 + q * 0x100
def PLB_QC_CPL_BASE_BASE (q : Nat) : Field := ⟨PLB_QC_CPL_BASE_addr q, 47, 0⟩
/-- The address of PLB_QC_CPL_SIZE. -/
def PLB_QC_CPL_SIZE_addr (q : Nat) : Nat := 0x13010020 + q * 0x100
def PLB_QC_CPL_SIZE_CLOG2 (q : Nat) : Field := ⟨PLB_QC_CPL_SIZE_addr q, 4, 0⟩
/-- The address of PLB_QC_TT_BASE. -/
def PLB_QC_TT_BASE_addr (q : Nat) : Nat := 0x13010028 + q * 0x100
def PLB_QC_TT_BASE_BASE (q : Nat) : Field := ⟨PLB_QC_TT_BASE_addr q, 47, 0⟩
/-- The address of PLB_QC_TT_COUNT. -/
def PLB_QC_TT_COUNT_addr (q : Nat) : Nat := 0x13010030 + q * 0x100
def PLB_QC_TT_COUNT_COUNT (q : Nat) : Field := ⟨PLB_QC_TT_COUNT_addr q, 11, 0⟩
/-- The address of PLB_QC_LIVE_BASE. -/
def PLB_QC_LIVE_BASE_addr (q : Nat) : Nat := 0x13010038 + q * 0x100
def PLB_QC_LIVE_BASE_BASE (q : Nat) : Field := ⟨PLB_QC_LIVE_BASE_addr q, 47, 0⟩
/-- The address of PLB_QC_SAVE_BASE. -/
def PLB_QC_SAVE_BASE_addr (q : Nat) : Nat := 0x13010040 + q * 0x100
def PLB_QC_SAVE_BASE_BASE (q : Nat) : Field := ⟨PLB_QC_SAVE_BASE_addr q, 47, 0⟩
/-- The address of PLB_QC_SAVE_SIZE. -/
def PLB_QC_SAVE_SIZE_addr (q : Nat) : Nat := 0x13010048 + q * 0x100
def PLB_QC_SAVE_SIZE_SIZE (q : Nat) : Field := ⟨PLB_QC_SAVE_SIZE_addr q, 31, 0⟩
/-- The address of PLB_QC_STATUS. -/
def PLB_QC_STATUS_addr (q : Nat) : Nat := 0x1301004C + q * 0x100
def PLB_QC_STATUS_LAST (q : Nat) : Field := ⟨PLB_QC_STATUS_addr q, 15, 0⟩
/-- The address of TRV_CX_ATTR. -/
def TRV_CX_ATTR_addr (c : Nat) : Nat := 0x14010000 + c * 0x100
def TRV_CX_ATTR_EN (c : Nat) : Field := ⟨TRV_CX_ATTR_addr c, 31, 31⟩
def TRV_CX_ATTR_PRIO (c : Nat) : Field := ⟨TRV_CX_ATTR_addr c, 26, 24⟩
def TRV_CX_ATTR_PIPE (c : Nat) : Field := ⟨TRV_CX_ATTR_addr c, 20, 16⟩
def TRV_CX_ATTR_SECURE (c : Nat) : Field := ⟨TRV_CX_ATTR_addr c, 15, 15⟩
def TRV_CX_ATTR_PARTITION (c : Nat) : Field := ⟨TRV_CX_ATTR_addr c, 13, 8⟩
/-- The address of TRV_CX_LIB_BASE. -/
def TRV_CX_LIB_BASE_addr (c : Nat) : Nat := 0x14010008 + c * 0x100
def TRV_CX_LIB_BASE_BASE (c : Nat) : Field := ⟨TRV_CX_LIB_BASE_addr c, 47, 0⟩
/-- The address of TRV_CX_LIB_SIZE. -/
def TRV_CX_LIB_SIZE_addr (c : Nat) : Nat := 0x14010010 + c * 0x100
def TRV_CX_LIB_SIZE_SIZE (c : Nat) : Field := ⟨TRV_CX_LIB_SIZE_addr c, 31, 0⟩
/-- The address of TRV_CX_ARENA_BASE. -/
def TRV_CX_ARENA_BASE_addr (c : Nat) : Nat := 0x14010018 + c * 0x100
def TRV_CX_ARENA_BASE_BASE (c : Nat) : Field := ⟨TRV_CX_ARENA_BASE_addr c, 47, 0⟩
/-- The address of TRV_CX_ARENA_SIZE. -/
def TRV_CX_ARENA_SIZE_addr (c : Nat) : Nat := 0x14010020 + c * 0x100
def TRV_CX_ARENA_SIZE_SIZE (c : Nat) : Field := ⟨TRV_CX_ARENA_SIZE_addr c, 31, 0⟩
/-- The address of TRV_CX_REQ_BASE. -/
def TRV_CX_REQ_BASE_addr (c : Nat) : Nat := 0x14010028 + c * 0x100
def TRV_CX_REQ_BASE_BASE (c : Nat) : Field := ⟨TRV_CX_REQ_BASE_addr c, 47, 0⟩
/-- The address of TRV_CX_REQ_SIZE. -/
def TRV_CX_REQ_SIZE_addr (c : Nat) : Nat := 0x14010030 + c * 0x100
def TRV_CX_REQ_SIZE_LOG2 (c : Nat) : Field := ⟨TRV_CX_REQ_SIZE_addr c, 3, 0⟩
/-- The address of TRV_CX_CPL_BASE. -/
def TRV_CX_CPL_BASE_addr (c : Nat) : Nat := 0x14010038 + c * 0x100
def TRV_CX_CPL_BASE_BASE (c : Nat) : Field := ⟨TRV_CX_CPL_BASE_addr c, 47, 0⟩
/-- The address of TRV_CX_CPL_SIZE. -/
def TRV_CX_CPL_SIZE_addr (c : Nat) : Nat := 0x14010040 + c * 0x100
def TRV_CX_CPL_SIZE_CLOG2 (c : Nat) : Field := ⟨TRV_CX_CPL_SIZE_addr c, 3, 0⟩
/-- The address of TRV_CX_OUT_BASE. -/
def TRV_CX_OUT_BASE_addr (c : Nat) : Nat := 0x14010048 + c * 0x100
def TRV_CX_OUT_BASE_BASE (c : Nat) : Field := ⟨TRV_CX_OUT_BASE_addr c, 47, 0⟩
/-- The address of TRV_CX_FOOT_BASE. -/
def TRV_CX_FOOT_BASE_addr (c : Nat) : Nat := 0x14010050 + c * 0x100
def TRV_CX_FOOT_BASE_BASE (c : Nat) : Field := ⟨TRV_CX_FOOT_BASE_addr c, 47, 0⟩
/-- The address of TRV_CX_GRID_BASE. -/
def TRV_CX_GRID_BASE_addr (c : Nat) : Nat := 0x14010058 + c * 0x100
def TRV_CX_GRID_BASE_BASE (c : Nat) : Field := ⟨TRV_CX_GRID_BASE_addr c, 47, 0⟩
/-- The address of TRV_CX_GRID_STRIDE. -/
def TRV_CX_GRID_STRIDE_addr (c : Nat) : Nat := 0x14010060 + c * 0x100
def TRV_CX_GRID_STRIDE_STRIDE (c : Nat) : Field := ⟨TRV_CX_GRID_STRIDE_addr c, 31, 0⟩
/-- The address of TRV_CX_FLOW. -/
def TRV_CX_FLOW_addr (c : Nat) : Nat := 0x14010064 + c * 0x100
def TRV_CX_FLOW_FLOW_EN (c : Nat) : Field := ⟨TRV_CX_FLOW_addr c, 31, 31⟩
def TRV_CX_FLOW_FLOW (c : Nat) : Field := ⟨TRV_CX_FLOW_addr c, 15, 0⟩
/-- The address of TRV_CX_STATUS. -/
def TRV_CX_STATUS_addr (c : Nat) : Nat := 0x14010068 + c * 0x100
def TRV_CX_STATUS_LAST (c : Nat) : Field := ⟨TRV_CX_STATUS_addr c, 31, 16⟩
def TRV_CX_STATUS_INDEX (c : Nat) : Field := ⟨TRV_CX_STATUS_addr c, 11, 0⟩
/-- The address of TRV_Q_WPTR. -/
def TRV_Q_WPTR_addr (c : Nat) : Nat := 0x14020000 + c * 0x1000
def TRV_Q_WPTR_WPTR (c : Nat) : Field := ⟨TRV_Q_WPTR_addr c, 9, 0⟩
/-- The address of TRV_Q_RPTR. -/
def TRV_Q_RPTR_addr (c : Nat) : Nat := 0x14020004 + c * 0x1000
def TRV_Q_RPTR_RPTR (c : Nat) : Field := ⟨TRV_Q_RPTR_addr c, 9, 0⟩
/-- The address of TRV_Q_CPL_WPTR. -/
def TRV_Q_CPL_WPTR_addr (c : Nat) : Nat := 0x14020008 + c * 0x1000
def TRV_Q_CPL_WPTR_CPL_WPTR (c : Nat) : Field := ⟨TRV_Q_CPL_WPTR_addr c, 9, 0⟩
/-- The address of TRV_Q_CPL_RPTR. -/
def TRV_Q_CPL_RPTR_addr (c : Nat) : Nat := 0x1402000C + c * 0x1000
def TRV_Q_CPL_RPTR_CPL_RPTR (c : Nat) : Field := ⟨TRV_Q_CPL_RPTR_addr c, 9, 0⟩
/-- The address of TRV_Q_LATEST. -/
def TRV_Q_LATEST_addr (c : Nat) : Nat := 0x14020010 + c * 0x1000
def TRV_Q_LATEST_VALID (c : Nat) : Field := ⟨TRV_Q_LATEST_addr c, 31, 31⟩
def TRV_Q_LATEST_SLOT (c : Nat) : Field := ⟨TRV_Q_LATEST_addr c, 1, 0⟩
/-- The address of TRV_Q_HOLD. -/
def TRV_Q_HOLD_addr (c : Nat) : Nat := 0x14020014 + c * 0x1000
def TRV_Q_HOLD_HOLD (c : Nat) : Field := ⟨TRV_Q_HOLD_addr c, 3, 0⟩
/-- The address of TRV_Q_STATUS. -/
def TRV_Q_STATUS_addr (c : Nat) : Nat := 0x14020018 + c * 0x1000
def TRV_Q_STATUS_LAST (c : Nat) : Field := ⟨TRV_Q_STATUS_addr c, 31, 16⟩
def TRV_Q_STATUS_RUNNING (c : Nat) : Field := ⟨TRV_Q_STATUS_addr c, 2, 2⟩
def TRV_Q_STATUS_PUB (c : Nat) : Field := ⟨TRV_Q_STATUS_addr c, 1, 1⟩
def TRV_Q_STATUS_EN (c : Nat) : Field := ⟨TRV_Q_STATUS_addr c, 0, 0⟩
/-- The address of TRV_Q_SEQ. -/
def TRV_Q_SEQ_addr (c : Nat) : Nat := 0x1402001C + c * 0x1000
def TRV_Q_SEQ_SEQ (c : Nat) : Field := ⟨TRV_Q_SEQ_addr c, 31, 0⟩
/-- The address of GFX_CX_ATTR. -/
def GFX_CX_ATTR_addr (x : Nat) : Nat := 0x15010000 + x * 0x100
def GFX_CX_ATTR_EN (x : Nat) : Field := ⟨GFX_CX_ATTR_addr x, 31, 31⟩
def GFX_CX_ATTR_COMPOSE (x : Nat) : Field := ⟨GFX_CX_ATTR_addr x, 30, 30⟩
def GFX_CX_ATTR_KIND (x : Nat) : Field := ⟨GFX_CX_ATTR_addr x, 29, 29⟩
def GFX_CX_ATTR_PRIO (x : Nat) : Field := ⟨GFX_CX_ATTR_addr x, 26, 24⟩
def GFX_CX_ATTR_SECURE (x : Nat) : Field := ⟨GFX_CX_ATTR_addr x, 15, 15⟩
def GFX_CX_ATTR_PARTITION (x : Nat) : Field := ⟨GFX_CX_ATTR_addr x, 13, 8⟩
/-- The address of GFX_CX_RING_BASE. -/
def GFX_CX_RING_BASE_addr (x : Nat) : Nat := 0x15010008 + x * 0x100
def GFX_CX_RING_BASE_BASE (x : Nat) : Field := ⟨GFX_CX_RING_BASE_addr x, 47, 0⟩
/-- The address of GFX_CX_RING_SIZE. -/
def GFX_CX_RING_SIZE_addr (x : Nat) : Nat := 0x15010010 + x * 0x100
def GFX_CX_RING_SIZE_LOG2 (x : Nat) : Field := ⟨GFX_CX_RING_SIZE_addr x, 4, 0⟩
/-- The address of GFX_CX_CPL_BASE. -/
def GFX_CX_CPL_BASE_addr (x : Nat) : Nat := 0x15010018 + x * 0x100
def GFX_CX_CPL_BASE_BASE (x : Nat) : Field := ⟨GFX_CX_CPL_BASE_addr x, 47, 0⟩
/-- The address of GFX_CX_CPL_SIZE. -/
def GFX_CX_CPL_SIZE_addr (x : Nat) : Nat := 0x15010020 + x * 0x100
def GFX_CX_CPL_SIZE_CLOG2 (x : Nat) : Field := ⟨GFX_CX_CPL_SIZE_addr x, 4, 0⟩
/-- The address of GFX_CX_STATUS. -/
def GFX_CX_STATUS_addr (x : Nat) : Nat := 0x15010024 + x * 0x100
def GFX_CX_STATUS_LAST (x : Nat) : Field := ⟨GFX_CX_STATUS_addr x, 15, 0⟩
/-- The address of GFX_Q_WPTR. -/
def GFX_Q_WPTR_addr (x : Nat) : Nat := 0x15020000 + x * 0x1000
def GFX_Q_WPTR_WPTR (x : Nat) : Field := ⟨GFX_Q_WPTR_addr x, 15, 0⟩
/-- The address of GFX_Q_RPTR. -/
def GFX_Q_RPTR_addr (x : Nat) : Nat := 0x15020004 + x * 0x1000
def GFX_Q_RPTR_RPTR (x : Nat) : Field := ⟨GFX_Q_RPTR_addr x, 15, 0⟩
/-- The address of GFX_Q_CPL_WPTR. -/
def GFX_Q_CPL_WPTR_addr (x : Nat) : Nat := 0x15020008 + x * 0x1000
def GFX_Q_CPL_WPTR_CPL_WPTR (x : Nat) : Field := ⟨GFX_Q_CPL_WPTR_addr x, 15, 0⟩
/-- The address of GFX_Q_CPL_RPTR. -/
def GFX_Q_CPL_RPTR_addr (x : Nat) : Nat := 0x1502000C + x * 0x1000
def GFX_Q_CPL_RPTR_CPL_RPTR (x : Nat) : Field := ⟨GFX_Q_CPL_RPTR_addr x, 15, 0⟩
/-- The address of GFX_Q_SEQ. -/
def GFX_Q_SEQ_addr (x : Nat) : Nat := 0x15020010 + x * 0x1000
def GFX_Q_SEQ_SEQ (x : Nat) : Field := ⟨GFX_Q_SEQ_addr x, 31, 0⟩
/-- The address of GFX_Q_HEAP_ADD. -/
def GFX_Q_HEAP_ADD_addr (x : Nat) : Nat := 0x15020018 + x * 0x1000
def GFX_Q_HEAP_ADD_PAGE (x : Nat) : Field := ⟨GFX_Q_HEAP_ADD_addr x, 47, 0⟩
/-- The address of GFX_Q_HEAP. -/
def GFX_Q_HEAP_addr (x : Nat) : Nat := 0x15020020 + x * 0x1000
def GFX_Q_HEAP_FAULT (x : Nat) : Field := ⟨GFX_Q_HEAP_addr x, 31, 31⟩
def GFX_Q_HEAP_PAGES (x : Nat) : Field := ⟨GFX_Q_HEAP_addr x, 15, 0⟩
/-- The address of GFX_Q_STATUS. -/
def GFX_Q_STATUS_addr (x : Nat) : Nat := 0x15020024 + x * 0x1000
def GFX_Q_STATUS_LAST (x : Nat) : Field := ⟨GFX_Q_STATUS_addr x, 31, 16⟩
/-- The address of DSP_CTRL. -/
def DSP_CTRL_addr (d : Nat) : Nat := 0x16000000 + d * 0x100000
def DSP_CTRL_EN (d : Nat) : Field := ⟨DSP_CTRL_addr d, 31, 31⟩
def DSP_CTRL_LOCK_EN (d : Nat) : Field := ⟨DSP_CTRL_addr d, 30, 30⟩
def DSP_CTRL_BPC10 (d : Nat) : Field := ⟨DSP_CTRL_addr d, 29, 29⟩
def DSP_CTRL_PIPE (d : Nat) : Field := ⟨DSP_CTRL_addr d, 20, 16⟩
def DSP_CTRL_N (d : Nat) : Field := ⟨DSP_CTRL_addr d, 7, 4⟩
/-- The address of DSP_LOCK. -/
def DSP_LOCK_addr (d : Nat) : Nat := 0x16000004 + d * 0x100000
def DSP_LOCK_OFFSET_US (d : Nat) : Field := ⟨DSP_LOCK_addr d, 31, 12⟩
def DSP_LOCK_M (d : Nat) : Field := ⟨DSP_LOCK_addr d, 11, 0⟩
/-- The address of DSP_HTIMING. -/
def DSP_HTIMING_addr (d : Nat) : Nat := 0x16000010 + d * 0x100000
def DSP_HTIMING_HTOTAL (d : Nat) : Field := ⟨DSP_HTIMING_addr d, 31, 16⟩
def DSP_HTIMING_HACTIVE (d : Nat) : Field := ⟨DSP_HTIMING_addr d, 15, 0⟩
/-- The address of DSP_VTIMING. -/
def DSP_VTIMING_addr (d : Nat) : Nat := 0x16000014 + d * 0x100000
def DSP_VTIMING_VTOTAL (d : Nat) : Field := ⟨DSP_VTIMING_addr d, 31, 16⟩
def DSP_VTIMING_VACTIVE (d : Nat) : Field := ⟨DSP_VTIMING_addr d, 15, 0⟩
/-- The address of DSP_SYNC. -/
def DSP_SYNC_addr (d : Nat) : Nat := 0x16000018 + d * 0x100000
def DSP_SYNC_VSYNC_W (d : Nat) : Field := ⟨DSP_SYNC_addr d, 31, 24⟩
def DSP_SYNC_VFP (d : Nat) : Field := ⟨DSP_SYNC_addr d, 23, 16⟩
def DSP_SYNC_HSYNC_W (d : Nat) : Field := ⟨DSP_SYNC_addr d, 15, 8⟩
def DSP_SYNC_HFP (d : Nat) : Field := ⟨DSP_SYNC_addr d, 7, 0⟩
/-- The address of DSP_LINK. -/
def DSP_LINK_addr (d : Nat) : Nat := 0x1600001C + d * 0x100000
def DSP_LINK_DUAL (d : Nat) : Field := ⟨DSP_LINK_addr d, 31, 31⟩
def DSP_LINK_RATE (d : Nat) : Field := ⟨DSP_LINK_addr d, 10, 8⟩
def DSP_LINK_LANES (d : Nat) : Field := ⟨DSP_LINK_addr d, 2, 0⟩
/-- The address of DSP_PCLK. -/
def DSP_PCLK_addr (d : Nat) : Nat := 0x16000020 + d * 0x100000
def DSP_PCLK_PCLK_KHZ (d : Nat) : Field := ⟨DSP_PCLK_addr d, 19, 0⟩
/-- The address of DSP_FRAME. -/
def DSP_FRAME_addr (d : Nat) : Nat := 0x16000030 + d * 0x100000
def DSP_FRAME_FRAME (d : Nat) : Field := ⟨DSP_FRAME_addr d, 31, 0⟩
/-- The address of DSP_STATUS. -/
def DSP_STATUS_addr (d : Nat) : Nat := 0x16000034 + d * 0x100000
def DSP_STATUS_FREEZES (d : Nat) : Field := ⟨DSP_STATUS_addr d, 31, 16⟩
def DSP_STATUS_UNDERFLOWS (d : Nat) : Field := ⟨DSP_STATUS_addr d, 15, 8⟩
def DSP_STATUS_LOCKED (d : Nat) : Field := ⟨DSP_STATUS_addr d, 2, 2⟩
def DSP_STATUS_LINK_UP (d : Nat) : Field := ⟨DSP_STATUS_addr d, 1, 1⟩
def DSP_STATUS_ACTIVE (d : Nat) : Field := ⟨DSP_STATUS_addr d, 0, 0⟩
/-- The address of DSP_CMD_STATUS. -/
def DSP_CMD_STATUS_addr (d : Nat) : Nat := 0x16000038 + d * 0x100000
def DSP_CMD_STATUS_STATUS (d : Nat) : Field := ⟨DSP_CMD_STATUS_addr d, 15, 0⟩
/-- The address of DSP_PL_CTRL. -/
def DSP_PL_CTRL_addr (d p : Nat) : Nat := 0x16000100 + d * 0x100000 + p * 0x40
def DSP_PL_CTRL_EN (d p : Nat) : Field := ⟨DSP_PL_CTRL_addr d p, 31, 31⟩
def DSP_PL_CTRL_JOB (d p : Nat) : Field := ⟨DSP_PL_CTRL_addr d p, 30, 30⟩
def DSP_PL_CTRL_FMT (d p : Nat) : Field := ⟨DSP_PL_CTRL_addr d p, 29, 27⟩
def DSP_PL_CTRL_OWNER (d p : Nat) : Field := ⟨DSP_PL_CTRL_addr d p, 21, 16⟩
/-- The address of DSP_PL_ADDR. -/
def DSP_PL_ADDR_addr (d p : Nat) : Nat := 0x16000108 + d * 0x100000 + p * 0x40
def DSP_PL_ADDR_ADDR (d p : Nat) : Field := ⟨DSP_PL_ADDR_addr d p, 47, 0⟩
/-- The address of DSP_PL_STRIDE. -/
def DSP_PL_STRIDE_addr (d p : Nat) : Nat := 0x16000110 + d * 0x100000 + p * 0x40
def DSP_PL_STRIDE_STRIDE (d p : Nat) : Field := ⟨DSP_PL_STRIDE_addr d p, 17, 0⟩
/-- The address of DSP_PL_POS. -/
def DSP_PL_POS_addr (d p : Nat) : Nat := 0x16000114 + d * 0x100000 + p * 0x40
def DSP_PL_POS_Y (d p : Nat) : Field := ⟨DSP_PL_POS_addr d p, 31, 16⟩
def DSP_PL_POS_X (d p : Nat) : Field := ⟨DSP_PL_POS_addr d p, 15, 0⟩
/-- The address of DSP_PL_SIZE. -/
def DSP_PL_SIZE_addr (d p : Nat) : Nat := 0x16000118 + d * 0x100000 + p * 0x40
def DSP_PL_SIZE_H (d p : Nat) : Field := ⟨DSP_PL_SIZE_addr d p, 31, 16⟩
def DSP_PL_SIZE_W (d p : Nat) : Field := ⟨DSP_PL_SIZE_addr d p, 15, 0⟩
/-- The address of DSP_TT_CTRL. -/
def DSP_TT_CTRL_addr (d : Nat) : Nat := 0x16000200 + d * 0x100000
def DSP_TT_CTRL_EN (d : Nat) : Field := ⟨DSP_TT_CTRL_addr d, 31, 31⟩
def DSP_TT_CTRL_CLUT (d : Nat) : Field := ⟨DSP_TT_CTRL_addr d, 30, 30⟩
/-- The address of DSP_TT_ADDR. -/
def DSP_TT_ADDR_addr (d : Nat) : Nat := 0x16000208 + d * 0x100000
def DSP_TT_ADDR_ADDR (d : Nat) : Field := ⟨DSP_TT_ADDR_addr d, 47, 0⟩
/-- The address of DSP_TT_STRIDE. -/
def DSP_TT_STRIDE_addr (d : Nat) : Nat := 0x16000210 + d * 0x100000
def DSP_TT_STRIDE_STRIDE (d : Nat) : Field := ⟨DSP_TT_STRIDE_addr d, 17, 0⟩
/-- The address of DSP_TT_POS. -/
def DSP_TT_POS_addr (d : Nat) : Nat := 0x16000214 + d * 0x100000
def DSP_TT_POS_Y (d : Nat) : Field := ⟨DSP_TT_POS_addr d, 31, 16⟩
def DSP_TT_POS_X (d : Nat) : Field := ⟨DSP_TT_POS_addr d, 15, 0⟩
/-- The address of DSP_TT_SIZE. -/
def DSP_TT_SIZE_addr (d : Nat) : Nat := 0x16000218 + d * 0x100000
def DSP_TT_SIZE_H (d : Nat) : Field := ⟨DSP_TT_SIZE_addr d, 31, 16⟩
def DSP_TT_SIZE_W (d : Nat) : Field := ⟨DSP_TT_SIZE_addr d, 15, 0⟩
/-- The address of DSP_CR_CTRL. -/
def DSP_CR_CTRL_addr (d r : Nat) : Nat := 0x16000400 + d * 0x100000 + r * 0x20
def DSP_CR_CTRL_EN (d r : Nat) : Field := ⟨DSP_CR_CTRL_addr d r, 31, 31⟩
/-- The address of DSP_CR_POS. -/
def DSP_CR_POS_addr (d r : Nat) : Nat := 0x16000404 + d * 0x100000 + r * 0x20
def DSP_CR_POS_Y (d r : Nat) : Field := ⟨DSP_CR_POS_addr d r, 31, 16⟩
def DSP_CR_POS_X (d r : Nat) : Field := ⟨DSP_CR_POS_addr d r, 15, 0⟩
/-- The address of DSP_CR_SIZE. -/
def DSP_CR_SIZE_addr (d r : Nat) : Nat := 0x16000408 + d * 0x100000 + r * 0x20
def DSP_CR_SIZE_H (d r : Nat) : Field := ⟨DSP_CR_SIZE_addr d r, 31, 16⟩
def DSP_CR_SIZE_W (d r : Nat) : Field := ⟨DSP_CR_SIZE_addr d r, 15, 0⟩
/-- The address of DSP_CR_EXP. -/
def DSP_CR_EXP_addr (d r : Nat) : Nat := 0x16000410 + d * 0x100000 + r * 0x20
def DSP_CR_EXP_EXP_FRAME (d r : Nat) : Field := ⟨DSP_CR_EXP_addr d r, 63, 32⟩
def DSP_CR_EXP_EXP (d r : Nat) : Field := ⟨DSP_CR_EXP_addr d r, 31, 0⟩
/-- The address of DSP_CR_CRC. -/
def DSP_CR_CRC_addr (d r : Nat) : Nat := 0x16000418 + d * 0x100000 + r * 0x20
def DSP_CR_CRC_CRC (d r : Nat) : Field := ⟨DSP_CR_CRC_addr d r, 31, 0⟩
/-- The address of DSP_CR_STAT. -/
def DSP_CR_STAT_addr (d r : Nat) : Nat := 0x1600041C + d * 0x100000 + r * 0x20
def DSP_CR_STAT_MISMATCH (d r : Nat) : Field := ⟨DSP_CR_STAT_addr d r, 31, 16⟩
def DSP_CR_STAT_STALE (d r : Nat) : Field := ⟨DSP_CR_STAT_addr d r, 15, 0⟩
/-- The address of DSP_TT_CLUT. -/
def DSP_TT_CLUT_addr (d i : Nat) : Nat := 0x16000800 + d * 0x100000 + i * 0x4
def DSP_TT_CLUT_ARGB (d i : Nat) : Field := ⟨DSP_TT_CLUT_addr d i, 31, 0⟩
/-- The address of MED_CS_CTRL. -/
def MED_CS_CTRL_addr (s : Nat) : Nat := 0x17000000 + s * 0x40
def MED_CS_CTRL_EN (s : Nat) : Field := ⟨MED_CS_CTRL_addr s, 31, 31⟩
def MED_CS_CTRL_SECURE (s : Nat) : Field := ⟨MED_CS_CTRL_addr s, 30, 30⟩
def MED_CS_CTRL_PARTITION (s : Nat) : Field := ⟨MED_CS_CTRL_addr s, 29, 24⟩
def MED_CS_CTRL_PORT (s : Nat) : Field := ⟨MED_CS_CTRL_addr s, 23, 20⟩
def MED_CS_CTRL_VC (s : Nat) : Field := ⟨MED_CS_CTRL_addr s, 19, 16⟩
def MED_CS_CTRL_DT (s : Nat) : Field := ⟨MED_CS_CTRL_addr s, 15, 10⟩
def MED_CS_CTRL_ISP (s : Nat) : Field := ⟨MED_CS_CTRL_addr s, 9, 8⟩
def MED_CS_CTRL_OFMT (s : Nat) : Field := ⟨MED_CS_CTRL_addr s, 7, 7⟩
/-- The address of MED_CS_SIZE. -/
def MED_CS_SIZE_addr (s : Nat) : Nat := 0x17000004 + s * 0x40
def MED_CS_SIZE_H (s : Nat) : Field := ⟨MED_CS_SIZE_addr s, 31, 16⟩
def MED_CS_SIZE_W (s : Nat) : Field := ⟨MED_CS_SIZE_addr s, 15, 0⟩
/-- The address of MED_CS_RATE. -/
def MED_CS_RATE_addr (s : Nat) : Nat := 0x17000008 + s * 0x40
def MED_CS_RATE_FPS_MAX (s : Nat) : Field := ⟨MED_CS_RATE_addr s, 7, 0⟩
/-- The address of MED_CS_BUF. -/
def MED_CS_BUF_addr (s : Nat) : Nat := 0x17000010 + s * 0x40
def MED_CS_BUF_BASE (s : Nat) : Field := ⟨MED_CS_BUF_addr s, 47, 0⟩
/-- The address of MED_CS_BUFCFG. -/
def MED_CS_BUFCFG_addr (s : Nat) : Nat := 0x17000018 + s * 0x40
def MED_CS_BUFCFG_BUF_KIB (s : Nat) : Field := ⟨MED_CS_BUFCFG_addr s, 31, 8⟩
def MED_CS_BUFCFG_NBUF (s : Nat) : Field := ⟨MED_CS_BUFCFG_addr s, 4, 0⟩
/-- The address of MED_CS_RING. -/
def MED_CS_RING_addr (s : Nat) : Nat := 0x17000020 + s * 0x40
def MED_CS_RING_BASE (s : Nat) : Field := ⟨MED_CS_RING_addr s, 47, 0⟩
/-- The address of MED_CS_RLOG2. -/
def MED_CS_RLOG2_addr (s : Nat) : Nat := 0x17000028 + s * 0x40
def MED_CS_RLOG2_LOG2 (s : Nat) : Field := ⟨MED_CS_RLOG2_addr s, 3, 0⟩
/-- The address of MED_CS_RPTR. -/
def MED_CS_RPTR_addr (s : Nat) : Nat := 0x1700002C + s * 0x40
def MED_CS_RPTR_RPTR (s : Nat) : Field := ⟨MED_CS_RPTR_addr s, 9, 0⟩
/-- The address of MED_CS_STATUS. -/
def MED_CS_STATUS_addr (s : Nat) : Nat := 0x17000030 + s * 0x40
def MED_CS_STATUS_LAST (s : Nat) : Field := ⟨MED_CS_STATUS_addr s, 31, 16⟩
/-- The address of MED_RX_CTRL. -/
def MED_RX_CTRL_addr (p : Nat) : Nat := 0x17001000 + p * 0x10
def MED_RX_CTRL_EN (p : Nat) : Field := ⟨MED_RX_CTRL_addr p, 31, 31⟩
def MED_RX_CTRL_CPHY (p : Nat) : Field := ⟨MED_RX_CTRL_addr p, 30, 30⟩
def MED_RX_CTRL_LANES (p : Nat) : Field := ⟨MED_RX_CTRL_addr p, 26, 24⟩
def MED_RX_CTRL_RATE (p : Nat) : Field := ⟨MED_RX_CTRL_addr p, 15, 0⟩
/-- The address of MED_CX_ATTR. -/
def MED_CX_ATTR_addr (x : Nat) : Nat := 0x17020000 + x * 0x100
def MED_CX_ATTR_EN (x : Nat) : Field := ⟨MED_CX_ATTR_addr x, 31, 31⟩
def MED_CX_ATTR_SECURE (x : Nat) : Field := ⟨MED_CX_ATTR_addr x, 30, 30⟩
def MED_CX_ATTR_PARTITION (x : Nat) : Field := ⟨MED_CX_ATTR_addr x, 29, 24⟩
def MED_CX_ATTR_ENCODE (x : Nat) : Field := ⟨MED_CX_ATTR_addr x, 23, 23⟩
def MED_CX_ATTR_CODEC (x : Nat) : Field := ⟨MED_CX_ATTR_addr x, 22, 20⟩
def MED_CX_ATTR_PRIO (x : Nat) : Field := ⟨MED_CX_ATTR_addr x, 18, 16⟩
/-- The address of MED_CX_MAX. -/
def MED_CX_MAX_addr (x : Nat) : Nat := 0x17020004 + x * 0x100
def MED_CX_MAX_MAX_H (x : Nat) : Field := ⟨MED_CX_MAX_addr x, 31, 16⟩
def MED_CX_MAX_MAX_W (x : Nat) : Field := ⟨MED_CX_MAX_addr x, 15, 0⟩
/-- The address of MED_CX_ARENA. -/
def MED_CX_ARENA_addr (x : Nat) : Nat := 0x17020008 + x * 0x100
def MED_CX_ARENA_BASE (x : Nat) : Field := ⟨MED_CX_ARENA_addr x, 47, 0⟩
/-- The address of MED_CX_ARENA_SIZE. -/
def MED_CX_ARENA_SIZE_addr (x : Nat) : Nat := 0x17020010 + x * 0x100
def MED_CX_ARENA_SIZE_SIZE (x : Nat) : Field := ⟨MED_CX_ARENA_SIZE_addr x, 31, 0⟩
/-- The address of MED_CX_RING. -/
def MED_CX_RING_addr (x : Nat) : Nat := 0x17020018 + x * 0x100
def MED_CX_RING_BASE (x : Nat) : Field := ⟨MED_CX_RING_addr x, 47, 0⟩
/-- The address of MED_CX_CPL. -/
def MED_CX_CPL_addr (x : Nat) : Nat := 0x17020020 + x * 0x100
def MED_CX_CPL_BASE (x : Nat) : Field := ⟨MED_CX_CPL_addr x, 47, 0⟩
/-- The address of MED_CX_SIZE. -/
def MED_CX_SIZE_addr (x : Nat) : Nat := 0x17020028 + x * 0x100
def MED_CX_SIZE_CLOG2 (x : Nat) : Field := ⟨MED_CX_SIZE_addr x, 12, 8⟩
def MED_CX_SIZE_LOG2 (x : Nat) : Field := ⟨MED_CX_SIZE_addr x, 4, 0⟩
/-- The address of MED_CX_INIT. -/
def MED_CX_INIT_addr (x : Nat) : Nat := 0x1702002C + x * 0x100
def MED_CX_INIT_INIT_US (x : Nat) : Field := ⟨MED_CX_INIT_addr x, 19, 0⟩
/-- The address of MED_CX_STATUS. -/
def MED_CX_STATUS_addr (x : Nat) : Nat := 0x17020030 + x * 0x100
def MED_CX_STATUS_LAST (x : Nat) : Field := ⟨MED_CX_STATUS_addr x, 15, 0⟩
/-- The address of MED_Q_WPTR. -/
def MED_Q_WPTR_addr (x : Nat) : Nat := 0x17040000 + x * 0x1000
def MED_Q_WPTR_WPTR (x : Nat) : Field := ⟨MED_Q_WPTR_addr x, 9, 0⟩
/-- The address of MED_Q_RPTR. -/
def MED_Q_RPTR_addr (x : Nat) : Nat := 0x17040004 + x * 0x1000
def MED_Q_RPTR_RPTR (x : Nat) : Field := ⟨MED_Q_RPTR_addr x, 9, 0⟩
/-- The address of MED_Q_CPL_WPTR. -/
def MED_Q_CPL_WPTR_addr (x : Nat) : Nat := 0x17040008 + x * 0x1000
def MED_Q_CPL_WPTR_CPL_WPTR (x : Nat) : Field := ⟨MED_Q_CPL_WPTR_addr x, 9, 0⟩
/-- The address of MED_Q_CPL_RPTR. -/
def MED_Q_CPL_RPTR_addr (x : Nat) : Nat := 0x1704000C + x * 0x1000
def MED_Q_CPL_RPTR_CPL_RPTR (x : Nat) : Field := ⟨MED_Q_CPL_RPTR_addr x, 9, 0⟩
/-- The address of MED_Q_AVG. -/
def MED_Q_AVG_addr (x : Nat) : Nat := 0x17040010 + x * 0x1000
def MED_Q_AVG_AVG_NS (x : Nat) : Field := ⟨MED_Q_AVG_addr x, 31, 0⟩
/-- The address of MED_Q_STATUS. -/
def MED_Q_STATUS_addr (x : Nat) : Nat := 0x17040014 + x * 0x1000
def MED_Q_STATUS_LAST (x : Nat) : Field := ⟨MED_Q_STATUS_addr x, 31, 16⟩
def MED_Q_STATUS_SLOW (x : Nat) : Field := ⟨MED_Q_STATUS_addr x, 1, 1⟩
def MED_Q_STATUS_EN (x : Nat) : Field := ⟨MED_Q_STATUS_addr x, 0, 0⟩
/-- The address of MED_ST_CTRL. -/
def MED_ST_CTRL_addr (p : Nat) : Nat := 0x17080000 + p * 0x100
def MED_ST_CTRL_EN (p : Nat) : Field := ⟨MED_ST_CTRL_addr p, 31, 31⟩
def MED_ST_CTRL_SECURE (p : Nat) : Field := ⟨MED_ST_CTRL_addr p, 30, 30⟩
def MED_ST_CTRL_PARTITION (p : Nat) : Field := ⟨MED_ST_CTRL_addr p, 29, 24⟩
def MED_ST_CTRL_BOUND_US (p : Nat) : Field := ⟨MED_ST_CTRL_addr p, 19, 0⟩
/-- The address of MED_ST_STALE. -/
def MED_ST_STALE_addr (p : Nat) : Nat := 0x17080004 + p * 0x100
def MED_ST_STALE_STALE_US (p : Nat) : Field := ⟨MED_ST_STALE_addr p, 19, 0⟩
/-- The address of MED_ST_TABLE. -/
def MED_ST_TABLE_addr (p : Nat) : Nat := 0x17080008 + p * 0x100
def MED_ST_TABLE_BASE (p : Nat) : Field := ⟨MED_ST_TABLE_addr p, 47, 0⟩
/-- The address of MED_ST_BENCH. -/
def MED_ST_BENCH_addr (p : Nat) : Nat := 0x17080010 + p * 0x100
def MED_ST_BENCH_BASE (p : Nat) : Field := ⟨MED_ST_BENCH_addr p, 47, 0⟩
/-- The address of MED_ST_STATUS. -/
def MED_ST_STATUS_addr (p : Nat) : Nat := 0x17080018 + p * 0x100
def MED_ST_STATUS_LAST (p : Nat) : Field := ⟨MED_ST_STATUS_addr p, 31, 16⟩
def MED_ST_STATUS_LOW (p : Nat) : Field := ⟨MED_ST_STATUS_addr p, 7, 0⟩
/-- The address of MED_PBQ_WPTR. -/
def MED_PBQ_WPTR_addr (p k : Nat) : Nat := 0x17080040 + p * 0x100 + k * 0x8
def MED_PBQ_WPTR_WPTR (p k : Nat) : Field := ⟨MED_PBQ_WPTR_addr p k, 3, 0⟩
/-- The address of MED_PBQ_RPTR. -/
def MED_PBQ_RPTR_addr (p k : Nat) : Nat := 0x17080044 + p * 0x100 + k * 0x8
def MED_PBQ_RPTR_RPTR (p k : Nat) : Field := ⟨MED_PBQ_RPTR_addr p k, 3, 0⟩
/-- The address of GWY_CAN_CTRL. -/
def GWY_CAN_CTRL_addr (n : Nat) : Nat := 0x18001000 + n * 0x40
def GWY_CAN_CTRL_EN (n : Nat) : Field := ⟨GWY_CAN_CTRL_addr n, 31, 31⟩
def GWY_CAN_CTRL_FD (n : Nat) : Field := ⟨GWY_CAN_CTRL_addr n, 30, 30⟩
def GWY_CAN_CTRL_XL (n : Nat) : Field := ⟨GWY_CAN_CTRL_addr n, 29, 29⟩
def GWY_CAN_CTRL_AUTO_BO (n : Nat) : Field := ⟨GWY_CAN_CTRL_addr n, 28, 28⟩
def GWY_CAN_CTRL_NOM_KBPS (n : Nat) : Field := ⟨GWY_CAN_CTRL_addr n, 25, 16⟩
def GWY_CAN_CTRL_DATA_KBPS (n : Nat) : Field := ⟨GWY_CAN_CTRL_addr n, 15, 0⟩
/-- The address of GWY_CAN_STATUS. -/
def GWY_CAN_STATUS_addr (n : Nat) : Nat := 0x18001004 + n * 0x40
def GWY_CAN_STATUS_LAST (n : Nat) : Field := ⟨GWY_CAN_STATUS_addr n, 31, 16⟩
def GWY_CAN_STATUS_REC (n : Nat) : Field := ⟨GWY_CAN_STATUS_addr n, 15, 8⟩
def GWY_CAN_STATUS_STATE (n : Nat) : Field := ⟨GWY_CAN_STATUS_addr n, 1, 0⟩
/-- The address of GWY_GCL_CTRL. -/
def GWY_GCL_CTRL_addr (m : Nat) : Nat := 0x18004000 + m * 0x1000
def GWY_GCL_CTRL_EN (m : Nat) : Field := ⟨GWY_GCL_CTRL_addr m, 31, 31⟩
def GWY_GCL_CTRL_LEN (m : Nat) : Field := ⟨GWY_GCL_CTRL_addr m, 24, 16⟩
def GWY_GCL_CTRL_BANK (m : Nat) : Field := ⟨GWY_GCL_CTRL_addr m, 8, 8⟩
def GWY_GCL_CTRL_PENDING (m : Nat) : Field := ⟨GWY_GCL_CTRL_addr m, 1, 1⟩
def GWY_GCL_CTRL_SWAP (m : Nat) : Field := ⟨GWY_GCL_CTRL_addr m, 0, 0⟩
/-- The address of GWY_GCL_BASE. -/
def GWY_GCL_BASE_addr (m : Nat) : Nat := 0x18004008 + m * 0x1000
def GWY_GCL_BASE_BASE_NS (m : Nat) : Field := ⟨GWY_GCL_BASE_addr m, 63, 0⟩
/-- The address of GWY_CBS_SLOPE5. -/
def GWY_CBS_SLOPE5_addr (m : Nat) : Nat := 0x18004010 + m * 0x1000
def GWY_CBS_SLOPE5_SLOPE_KBPS (m : Nat) : Field := ⟨GWY_CBS_SLOPE5_addr m, 23, 0⟩
/-- The address of GWY_CBS_SLOPE6. -/
def GWY_CBS_SLOPE6_addr (m : Nat) : Nat := 0x18004014 + m * 0x1000
def GWY_CBS_SLOPE6_SLOPE_KBPS (m : Nat) : Field := ⟨GWY_CBS_SLOPE6_addr m, 23, 0⟩
/-- The address of GWY_GCL_STATUS. -/
def GWY_GCL_STATUS_addr (m : Nat) : Nat := 0x18004018 + m * 0x1000
def GWY_GCL_STATUS_LAST (m : Nat) : Field := ⟨GWY_GCL_STATUS_addr m, 15, 0⟩
/-- The address of GWY_GCL_ENTRY. -/
def GWY_GCL_ENTRY_addr (m e : Nat) : Nat := 0x18004400 + m * 0x1000 + e * 0x4
def GWY_GCL_ENTRY_ENTRY (m e : Nat) : Field := ⟨GWY_GCL_ENTRY_addr m e, 31, 0⟩
/-- The address of GWY_EP_RX_WPTR. -/
def GWY_EP_RX_WPTR_addr (e : Nat) : Nat := 0x18020000 + e * 0x1000
def GWY_EP_RX_WPTR_WPTR (e : Nat) : Field := ⟨GWY_EP_RX_WPTR_addr e, 11, 0⟩
/-- The address of GWY_EP_RX_RPTR. -/
def GWY_EP_RX_RPTR_addr (e : Nat) : Nat := 0x18020004 + e * 0x1000
def GWY_EP_RX_RPTR_RPTR (e : Nat) : Field := ⟨GWY_EP_RX_RPTR_addr e, 11, 0⟩
/-- The address of GWY_EP_TX_WPTR. -/
def GWY_EP_TX_WPTR_addr (e : Nat) : Nat := 0x18020008 + e * 0x1000
def GWY_EP_TX_WPTR_WPTR (e : Nat) : Field := ⟨GWY_EP_TX_WPTR_addr e, 11, 0⟩
/-- The address of GWY_EP_TX_RPTR. -/
def GWY_EP_TX_RPTR_addr (e : Nat) : Nat := 0x1802000C + e * 0x1000
def GWY_EP_TX_RPTR_RPTR (e : Nat) : Field := ⟨GWY_EP_TX_RPTR_addr e, 11, 0⟩
/-- The address of GWY_EP_STATUS. -/
def GWY_EP_STATUS_addr (e : Nat) : Nat := 0x18020010 + e * 0x1000
def GWY_EP_STATUS_LAST (e : Nat) : Field := ⟨GWY_EP_STATUS_addr e, 31, 16⟩
def GWY_EP_STATUS_IRQ_EN (e : Nat) : Field := ⟨GWY_EP_STATUS_addr e, 1, 1⟩
def GWY_EP_STATUS_OPEN (e : Nat) : Field := ⟨GWY_EP_STATUS_addr e, 0, 0⟩
/-- The address of BRG_PART_GROUP. -/
def BRG_PART_GROUP_addr (p : Nat) : Nat := 0x19000100 + p * 0x4
def BRG_PART_GROUP_VALID (p : Nat) : Field := ⟨BRG_PART_GROUP_addr p, 4, 4⟩
def BRG_PART_GROUP_GROUP (p : Nat) : Field := ⟨BRG_PART_GROUP_addr p, 3, 0⟩
/-- The address of BRG_IW_CTRL. -/
def BRG_IW_CTRL_addr (w : Nat) : Nat := 0x19001000 + w * 0x40
def BRG_IW_CTRL_EN (w : Nat) : Field := ⟨BRG_IW_CTRL_addr w, 31, 31⟩
def BRG_IW_CTRL_RD (w : Nat) : Field := ⟨BRG_IW_CTRL_addr w, 30, 30⟩
def BRG_IW_CTRL_WR (w : Nat) : Field := ⟨BRG_IW_CTRL_addr w, 29, 29⟩
def BRG_IW_CTRL_SECURE (w : Nat) : Field := ⟨BRG_IW_CTRL_addr w, 28, 28⟩
def BRG_IW_CTRL_PARTITION (w : Nat) : Field := ⟨BRG_IW_CTRL_addr w, 27, 22⟩
def BRG_IW_CTRL_SRC (w : Nat) : Field := ⟨BRG_IW_CTRL_addr w, 19, 16⟩
def BRG_IW_CTRL_SIZE_LOG2 (w : Nat) : Field := ⟨BRG_IW_CTRL_addr w, 5, 0⟩
/-- The address of BRG_IW_OFFSET. -/
def BRG_IW_OFFSET_addr (w : Nat) : Nat := 0x19001008 + w * 0x40
def BRG_IW_OFFSET_OFFSET (w : Nat) : Field := ⟨BRG_IW_OFFSET_addr w, 35, 0⟩
/-- The address of BRG_IW_TARGET. -/
def BRG_IW_TARGET_addr (w : Nat) : Nat := 0x19001010 + w * 0x40
def BRG_IW_TARGET_TARGET (w : Nat) : Field := ⟨BRG_IW_TARGET_addr w, 47, 0⟩
/-- The address of BRG_IW_STATUS. -/
def BRG_IW_STATUS_addr (w : Nat) : Nat := 0x19001018 + w * 0x40
def BRG_IW_STATUS_LAST (w : Nat) : Field := ⟨BRG_IW_STATUS_addr w, 15, 0⟩
/-- The address of BRG_FG_FENCE. -/
def BRG_FG_FENCE_addr (n : Nat) : Nat := 0x19010000 + n * 0x1000
def BRG_FG_FENCE_VALID (n : Nat) : Field := ⟨BRG_FG_FENCE_addr n, 31, 31⟩
def BRG_FG_FENCE_ERR (n : Nat) : Field := ⟨BRG_FG_FENCE_addr n, 30, 30⟩
def BRG_FG_FENCE_NEW (n : Nat) : Field := ⟨BRG_FG_FENCE_addr n, 15, 0⟩
/-- The address of BRG_FG_STATUS. -/
def BRG_FG_STATUS_addr (n : Nat) : Nat := 0x19010004 + n * 0x1000
def BRG_FG_STATUS_COUNT (n : Nat) : Field := ⟨BRG_FG_STATUS_addr n, 20, 16⟩
def BRG_FG_STATUS_DROPPED (n : Nat) : Field := ⟨BRG_FG_STATUS_addr n, 15, 8⟩
def BRG_FG_STATUS_HEAD (n : Nat) : Field := ⟨BRG_FG_STATUS_addr n, 7, 4⟩
/-- The address of BRG_FG_ACK. -/
def BRG_FG_ACK_addr (n : Nat) : Nat := 0x19010008 + n * 0x1000
def BRG_FG_ACK_N (n : Nat) : Field := ⟨BRG_FG_ACK_addr n, 4, 0⟩
/-- The address of BRG_FG_ERRS. -/
def BRG_FG_ERRS_addr (n : Nat) : Nat := 0x1901000C + n * 0x1000
def BRG_FG_ERRS_ERRS (n : Nat) : Field := ⟨BRG_FG_ERRS_addr n, 31, 0⟩
/-- The address of BRG_FG_LOG. -/
def BRG_FG_LOG_addr (n i : Nat) : Nat := 0x19010040 + n * 0x1000 + i * 0x10
def BRG_FG_LOG_BRIDGE (n i : Nat) : Field := ⟨BRG_FG_LOG_addr n i, 63, 62⟩
def BRG_FG_LOG_ATTR (n i : Nat) : Field := ⟨BRG_FG_LOG_addr n i, 55, 48⟩
def BRG_FG_LOG_ADDR (n i : Nat) : Field := ⟨BRG_FG_LOG_addr n i, 47, 0⟩
/-- The address of BRG_FG_LOGCLASS. -/
def BRG_FG_LOGCLASS_addr (n i : Nat) : Nat := 0x19010048 + n * 0x1000 + i * 0x10
def BRG_FG_LOGCLASS_CLASS (n i : Nat) : Field := ⟨BRG_FG_LOGCLASS_addr n i, 31, 16⟩
/-- The address of BRG_FG_LOGTS. -/
def BRG_FG_LOGTS_addr (n i : Nat) : Nat := 0x1901004C + n * 0x1000 + i * 0x10
def BRG_FG_LOGTS_TS32 (n i : Nat) : Field := ⟨BRG_FG_LOGTS_addr n i, 31, 0⟩
/-- The address of MBX_MB_CFG. -/
def MBX_MB_CFG_addr (m : Nat) : Nat := 0x1A000000 + m * 0x40
def MBX_MB_CFG_EN (m : Nat) : Field := ⟨MBX_MB_CFG_addr m, 31, 31⟩
def MBX_MB_CFG_SECURE (m : Nat) : Field := ⟨MBX_MB_CFG_addr m, 30, 30⟩
def MBX_MB_CFG_PARTITION (m : Nat) : Field := ⟨MBX_MB_CFG_addr m, 29, 24⟩
def MBX_MB_CFG_LOG2 (m : Nat) : Field := ⟨MBX_MB_CFG_addr m, 7, 4⟩
def MBX_MB_CFG_SERVER (m : Nat) : Field := ⟨MBX_MB_CFG_addr m, 3, 0⟩
/-- The address of MBX_MB_REQ_BASE. -/
def MBX_MB_REQ_BASE_addr (m : Nat) : Nat := 0x1A000008 + m * 0x40
def MBX_MB_REQ_BASE_BASE (m : Nat) : Field := ⟨MBX_MB_REQ_BASE_addr m, 47, 0⟩
/-- The address of MBX_MB_RPL_BASE. -/
def MBX_MB_RPL_BASE_addr (m : Nat) : Nat := 0x1A000010 + m * 0x40
def MBX_MB_RPL_BASE_BASE (m : Nat) : Field := ⟨MBX_MB_RPL_BASE_addr m, 47, 0⟩
/-- The address of MBX_MB_CSTATUS. -/
def MBX_MB_CSTATUS_addr (m : Nat) : Nat := 0x1A000018 + m * 0x40
def MBX_MB_CSTATUS_LAST (m : Nat) : Field := ⟨MBX_MB_CSTATUS_addr m, 15, 0⟩
/-- The address of MBX_MB_REQ_WPTR. -/
def MBX_MB_REQ_WPTR_addr (m : Nat) : Nat := 0x1A010000 + m * 0x1000
def MBX_MB_REQ_WPTR_WPTR (m : Nat) : Field := ⟨MBX_MB_REQ_WPTR_addr m, 7, 0⟩
/-- The address of MBX_MB_REQ_RPTR. -/
def MBX_MB_REQ_RPTR_addr (m : Nat) : Nat := 0x1A010004 + m * 0x1000
def MBX_MB_REQ_RPTR_RPTR (m : Nat) : Field := ⟨MBX_MB_REQ_RPTR_addr m, 7, 0⟩
/-- The address of MBX_MB_RPL_WPTR. -/
def MBX_MB_RPL_WPTR_addr (m : Nat) : Nat := 0x1A010008 + m * 0x1000
def MBX_MB_RPL_WPTR_WPTR (m : Nat) : Field := ⟨MBX_MB_RPL_WPTR_addr m, 7, 0⟩
/-- The address of MBX_MB_RPL_RPTR. -/
def MBX_MB_RPL_RPTR_addr (m : Nat) : Nat := 0x1A01000C + m * 0x1000
def MBX_MB_RPL_RPTR_RPTR (m : Nat) : Field := ⟨MBX_MB_RPL_RPTR_addr m, 7, 0⟩
/-- The address of MBX_MB_STATUS. -/
def MBX_MB_STATUS_addr (m : Nat) : Nat := 0x1A010010 + m * 0x1000
def MBX_MB_STATUS_LAST (m : Nat) : Field := ⟨MBX_MB_STATUS_addr m, 31, 16⟩
def MBX_MB_STATUS_ATTACHED (m : Nat) : Field := ⟨MBX_MB_STATUS_addr m, 0, 0⟩
/-- The address of MBX_MB_VERSION. -/
def MBX_MB_VERSION_addr (m : Nat) : Nat := 0x1A010014 + m * 0x1000
def MBX_MB_VERSION_MAJOR (m : Nat) : Field := ⟨MBX_MB_VERSION_addr m, 15, 8⟩
def MBX_MB_VERSION_MINOR (m : Nat) : Field := ⟨MBX_MB_VERSION_addr m, 7, 0⟩
/-- The address of MBX_HB_SUPER. -/
def MBX_HB_SUPER_addr : Nat := 0x1A080000
def MBX_HB_SUPER_SUPER : Field := ⟨MBX_HB_SUPER_addr, 63, 0⟩
/-- The address of MBX_HB_KICK. -/
def MBX_HB_KICK_addr : Nat := 0x1A080008
def MBX_HB_KICK_KICK : Field := ⟨MBX_HB_KICK_addr, 31, 0⟩
/-- The address of MBX_HB_ORPHAN. -/
def MBX_HB_ORPHAN_addr : Nat := 0x1A080010
def MBX_HB_ORPHAN_ORPHAN : Field := ⟨MBX_HB_ORPHAN_addr, 63, 0⟩
/-- The address of MBX_VTE_CTRL. -/
def MBX_VTE_CTRL_addr (v : Nat) : Nat := 0x1A400000 + v * 0x100
def MBX_VTE_CTRL_EN (v : Nat) : Field := ⟨MBX_VTE_CTRL_addr v, 31, 31⟩
def MBX_VTE_CTRL_PARTITION (v : Nat) : Field := ⟨MBX_VTE_CTRL_addr v, 13, 8⟩
def MBX_VTE_CTRL_IMMEDIATE (v : Nat) : Field := ⟨MBX_VTE_CTRL_addr v, 2, 2⟩
def MBX_VTE_CTRL_RESTORE (v : Nat) : Field := ⟨MBX_VTE_CTRL_addr v, 1, 1⟩
def MBX_VTE_CTRL_FREEZE (v : Nat) : Field := ⟨MBX_VTE_CTRL_addr v, 0, 0⟩
/-- The address of MBX_VTE_SHARE. -/
def MBX_VTE_SHARE_addr (v : Nat) : Nat := 0x1A400004 + v * 0x100
def MBX_VTE_SHARE_TILES (v : Nat) : Field := ⟨MBX_VTE_SHARE_addr v, 23, 16⟩
def MBX_VTE_SHARE_CLUSTERS (v : Nat) : Field := ⟨MBX_VTE_SHARE_addr v, 15, 0⟩
/-- The address of MBX_VTE_IMAGE. -/
def MBX_VTE_IMAGE_addr (v : Nat) : Nat := 0x1A400008 + v * 0x100
def MBX_VTE_IMAGE_ADDR (v : Nat) : Field := ⟨MBX_VTE_IMAGE_addr v, 47, 0⟩
/-- The address of MBX_VTE_STATUS. -/
def MBX_VTE_STATUS_addr (v : Nat) : Nat := 0x1A400010 + v * 0x100
def MBX_VTE_STATUS_CODE (v : Nat) : Field := ⟨MBX_VTE_STATUS_addr v, 31, 16⟩
def MBX_VTE_STATUS_STATE (v : Nat) : Field := ⟨MBX_VTE_STATUS_addr v, 2, 0⟩
/-- The address of MBX_VTE_IMAGE_LEN. -/
def MBX_VTE_IMAGE_LEN_addr (v : Nat) : Nat := 0x1A400014 + v * 0x100
def MBX_VTE_IMAGE_LEN_LEN (v : Nat) : Field := ⟨MBX_VTE_IMAGE_LEN_addr v, 20, 0⟩
/-- The address of MBX_Q_WPTR. -/
def MBX_Q_WPTR_addr (q : Nat) : Nat := 0x1A800000 + q * 0x1000
def MBX_Q_WPTR_WPTR (q : Nat) : Field := ⟨MBX_Q_WPTR_addr q, 15, 0⟩
/-- The address of MBX_Q_RPTR. -/
def MBX_Q_RPTR_addr (q : Nat) : Nat := 0x1A800004 + q * 0x1000
def MBX_Q_RPTR_RPTR (q : Nat) : Field := ⟨MBX_Q_RPTR_addr q, 15, 0⟩
/-- The address of MBX_Q_CPL_WPTR. -/
def MBX_Q_CPL_WPTR_addr (q : Nat) : Nat := 0x1A800008 + q * 0x1000
def MBX_Q_CPL_WPTR_CPL_WPTR (q : Nat) : Field := ⟨MBX_Q_CPL_WPTR_addr q, 15, 0⟩
/-- The address of MBX_Q_CPL_RPTR. -/
def MBX_Q_CPL_RPTR_addr (q : Nat) : Nat := 0x1A80000C + q * 0x1000
def MBX_Q_CPL_RPTR_CPL_RPTR (q : Nat) : Field := ⟨MBX_Q_CPL_RPTR_addr q, 15, 0⟩
/-- The address of MBX_Q_CSEQ. -/
def MBX_Q_CSEQ_addr (q : Nat) : Nat := 0x1A800010 + q * 0x1000
def MBX_Q_CSEQ_CSEQ (q : Nat) : Field := ⟨MBX_Q_CSEQ_addr q, 31, 0⟩
/-- The address of MBX_Q_STATUS. -/
def MBX_Q_STATUS_addr (q : Nat) : Nat := 0x1A800014 + q * 0x1000
def MBX_Q_STATUS_LAST (q : Nat) : Field := ⟨MBX_Q_STATUS_addr q, 31, 16⟩
def MBX_Q_STATUS_STOPPED (q : Nat) : Field := ⟨MBX_Q_STATUS_addr q, 3, 3⟩
def MBX_Q_STATUS_SAVED (q : Nat) : Field := ⟨MBX_Q_STATUS_addr q, 2, 2⟩
def MBX_Q_STATUS_ADMITTED (q : Nat) : Field := ⟨MBX_Q_STATUS_addr q, 1, 1⟩
def MBX_Q_STATUS_EN (q : Nat) : Field := ⟨MBX_Q_STATUS_addr q, 0, 0⟩
/-- The address of MBX_QC_ATTR. -/
def MBX_QC_ATTR_addr (q : Nat) : Nat := 0x1A900000 + q * 0x100
def MBX_QC_ATTR_EN (q : Nat) : Field := ⟨MBX_QC_ATTR_addr q, 31, 31⟩
def MBX_QC_ATTR_COMPAT (q : Nat) : Field := ⟨MBX_QC_ATTR_addr q, 30, 30⟩
def MBX_QC_ATTR_PRIO (q : Nat) : Field := ⟨MBX_QC_ATTR_addr q, 26, 24⟩
def MBX_QC_ATTR_VTE_EN (q : Nat) : Field := ⟨MBX_QC_ATTR_addr q, 21, 21⟩
def MBX_QC_ATTR_VTE (q : Nat) : Field := ⟨MBX_QC_ATTR_addr q, 20, 16⟩
def MBX_QC_ATTR_SECURE (q : Nat) : Field := ⟨MBX_QC_ATTR_addr q, 15, 15⟩
def MBX_QC_ATTR_PARTITION (q : Nat) : Field := ⟨MBX_QC_ATTR_addr q, 13, 8⟩
/-- The address of MBX_QC_RING_BASE. -/
def MBX_QC_RING_BASE_addr (q : Nat) : Nat := 0x1A900008 + q * 0x100
def MBX_QC_RING_BASE_BASE (q : Nat) : Field := ⟨MBX_QC_RING_BASE_addr q, 47, 0⟩
/-- The address of MBX_QC_RING_SIZE. -/
def MBX_QC_RING_SIZE_addr (q : Nat) : Nat := 0x1A900010 + q * 0x100
def MBX_QC_RING_SIZE_LOG2 (q : Nat) : Field := ⟨MBX_QC_RING_SIZE_addr q, 4, 0⟩
/-- The address of MBX_QC_CPL_BASE. -/
def MBX_QC_CPL_BASE_addr (q : Nat) : Nat := 0x1A900018 + q * 0x100
def MBX_QC_CPL_BASE_BASE (q : Nat) : Field := ⟨MBX_QC_CPL_BASE_addr q, 47, 0⟩
/-- The address of MBX_QC_CPL_SIZE. -/
def MBX_QC_CPL_SIZE_addr (q : Nat) : Nat := 0x1A900020 + q * 0x100
def MBX_QC_CPL_SIZE_CLOG2 (q : Nat) : Field := ⟨MBX_QC_CPL_SIZE_addr q, 4, 0⟩
/-- The address of MBX_QC_TT_BASE. -/
def MBX_QC_TT_BASE_addr (q : Nat) : Nat := 0x1A900028 + q * 0x100
def MBX_QC_TT_BASE_BASE (q : Nat) : Field := ⟨MBX_QC_TT_BASE_addr q, 47, 0⟩
/-- The address of MBX_QC_TT_COUNT. -/
def MBX_QC_TT_COUNT_addr (q : Nat) : Nat := 0x1A900030 + q * 0x100
def MBX_QC_TT_COUNT_COUNT (q : Nat) : Field := ⟨MBX_QC_TT_COUNT_addr q, 11, 0⟩
/-- The address of MBX_QC_LIVE_BASE. -/
def MBX_QC_LIVE_BASE_addr (q : Nat) : Nat := 0x1A900038 + q * 0x100
def MBX_QC_LIVE_BASE_BASE (q : Nat) : Field := ⟨MBX_QC_LIVE_BASE_addr q, 47, 0⟩
/-- The address of MBX_QC_SAVE_BASE. -/
def MBX_QC_SAVE_BASE_addr (q : Nat) : Nat := 0x1A900040 + q * 0x100
def MBX_QC_SAVE_BASE_BASE (q : Nat) : Field := ⟨MBX_QC_SAVE_BASE_addr q, 47, 0⟩
/-- The address of MBX_QC_SAVE_SIZE. -/
def MBX_QC_SAVE_SIZE_addr (q : Nat) : Nat := 0x1A900048 + q * 0x100
def MBX_QC_SAVE_SIZE_SIZE (q : Nat) : Field := ⟨MBX_QC_SAVE_SIZE_addr q, 31, 0⟩
/-- The address of MBX_QC_STATUS. -/
def MBX_QC_STATUS_addr (q : Nat) : Nat := 0x1A90004C + q * 0x100
def MBX_QC_STATUS_LAST (q : Nat) : Field := ⟨MBX_QC_STATUS_addr q, 15, 0⟩
/-- The address of DDR_PART_LOCK. -/
def DDR_PART_LOCK_addr : Nat := 0x1B000000
def DDR_PART_LOCK_LOCK : Field := ⟨DDR_PART_LOCK_addr, 0, 0⟩
/-- The address of DDR_CMD_STATUS. -/
def DDR_CMD_STATUS_addr : Nat := 0x1B000004
def DDR_CMD_STATUS_STATUS : Field := ⟨DDR_CMD_STATUS_addr, 15, 0⟩
/-- The address of DDR_EVENTS. -/
def DDR_EVENTS_addr : Nat := 0x1B000008
def DDR_EVENTS_WAY_CLEAN : Field := ⟨DDR_EVENTS_addr, 3, 3⟩
def DDR_EVENTS_ECC_UNCORR : Field := ⟨DDR_EVENTS_addr, 2, 2⟩
def DDR_EVENTS_ECC_CORR : Field := ⟨DDR_EVENTS_addr, 1, 1⟩
def DDR_EVENTS_VIOL : Field := ⟨DDR_EVENTS_addr, 0, 0⟩
/-- The address of DDR_EVENT_EN. -/
def DDR_EVENT_EN_addr : Nat := 0x1B00000C
def DDR_EVENT_EN_EN : Field := ⟨DDR_EVENT_EN_addr, 3, 0⟩
/-- The address of DDR_ECC_LOG. -/
def DDR_ECC_LOG_addr : Nat := 0x1B000010
def DDR_ECC_LOG_VALID : Field := ⟨DDR_ECC_LOG_addr, 63, 63⟩
def DDR_ECC_LOG_GROUP : Field := ⟨DDR_ECC_LOG_addr, 51, 48⟩
def DDR_ECC_LOG_ADDR : Field := ⟨DDR_ECC_LOG_addr, 47, 0⟩
/-- The address of DDR_WAY_MAP. -/
def DDR_WAY_MAP_addr (r : Nat) : Nat := 0x1B000040 + r * 0x4
def DDR_WAY_MAP_OWNER3 (r : Nat) : Field := ⟨DDR_WAY_MAP_addr r, 29, 24⟩
def DDR_WAY_MAP_OWNER2 (r : Nat) : Field := ⟨DDR_WAY_MAP_addr r, 21, 16⟩
def DDR_WAY_MAP_OWNER1 (r : Nat) : Field := ⟨DDR_WAY_MAP_addr r, 13, 8⟩
def DDR_WAY_MAP_OWNER0 (r : Nat) : Field := ⟨DDR_WAY_MAP_addr r, 5, 0⟩
/-- The address of DDR_CG_CTRL. -/
def DDR_CG_CTRL_addr (g : Nat) : Nat := 0x1B000100 + g * 0x10
def DDR_CG_CTRL_INLINE_ECC (g : Nat) : Field := ⟨DDR_CG_CTRL_addr g, 31, 31⟩
def DDR_CG_CTRL_OWNER_RES (g : Nat) : Field := ⟨DDR_CG_CTRL_addr g, 18, 8⟩
def DDR_CG_CTRL_OWNER (g : Nat) : Field := ⟨DDR_CG_CTRL_addr g, 5, 0⟩
/-- The address of DDR_CG_VIOL. -/
def DDR_CG_VIOL_addr (g : Nat) : Nat := 0x1B000104 + g * 0x10
def DDR_CG_VIOL_COUNT (g : Nat) : Field := ⟨DDR_CG_VIOL_addr g, 31, 16⟩
def DDR_CG_VIOL_LAST_PART (g : Nat) : Field := ⟨DDR_CG_VIOL_addr g, 5, 0⟩
/-- The address of DDR_CG_SHARE. -/
def DDR_CG_SHARE_addr (g : Nat) : Nat := 0x1B000108 + g * 0x10
def DDR_CG_SHARE_SHARERS (g : Nat) : Field := ⟨DDR_CG_SHARE_addr g, 63, 0⟩
/-- The address of CRY_SEC_STATE. -/
def CRY_SEC_STATE_addr : Nat := 0x1C000000
def CRY_SEC_STATE_CODE : Field := ⟨CRY_SEC_STATE_addr, 31, 16⟩
def CRY_SEC_STATE_RESTARTS : Field := ⟨CRY_SEC_STATE_addr, 15, 8⟩
def CRY_SEC_STATE_SLOT : Field := ⟨CRY_SEC_STATE_addr, 4, 4⟩
def CRY_SEC_STATE_STATE : Field := ⟨CRY_SEC_STATE_addr, 1, 0⟩
/-- The address of CRY_SEC_SVN. -/
def CRY_SEC_SVN_addr : Nat := 0x1C000004
def CRY_SEC_SVN_FUSE_SVN : Field := ⟨CRY_SEC_SVN_addr, 15, 8⟩
def CRY_SEC_SVN_IMAGE_SVN : Field := ⟨CRY_SEC_SVN_addr, 7, 0⟩
/-- The address of CRY_SEC_CTRL. -/
def CRY_SEC_CTRL_addr : Nat := 0x1C000008
def CRY_SEC_CTRL_RESTART : Field := ⟨CRY_SEC_CTRL_addr, 1, 1⟩
def CRY_SEC_CTRL_READY : Field := ⟨CRY_SEC_CTRL_addr, 0, 0⟩
/-- The address of CRY_SWD_CTRL. -/
def CRY_SWD_CTRL_addr : Nat := 0x1C000010
def CRY_SWD_CTRL_EN : Field := ⟨CRY_SWD_CTRL_addr, 31, 31⟩
def CRY_SWD_CTRL_TEST : Field := ⟨CRY_SWD_CTRL_addr, 30, 30⟩
def CRY_SWD_CTRL_EXPIRED_TEST : Field := ⟨CRY_SWD_CTRL_addr, 29, 29⟩
def CRY_SWD_CTRL_TIMEOUT_MS : Field := ⟨CRY_SWD_CTRL_addr, 15, 0⟩
/-- The address of CRY_SWD_KICK. -/
def CRY_SWD_KICK_addr : Nat := 0x1C000014
def CRY_SWD_KICK_KEY : Field := ⟨CRY_SWD_KICK_addr, 15, 0⟩
/-- The address of CRY_MEAS. -/
def CRY_MEAS_addr (i : Nat) : Nat := 0x1C000040 + i * 0x4
def CRY_MEAS_MEAS (i : Nat) : Field := ⟨CRY_MEAS_addr i, 31, 0⟩
/-- The address of CRY_KS_CTRL. -/
def CRY_KS_CTRL_addr (k : Nat) : Nat := 0x1C001000 + k * 0x40
def CRY_KS_CTRL_LOADED (k : Nat) : Field := ⟨CRY_KS_CTRL_addr k, 31, 31⟩
def CRY_KS_CTRL_LOCK (k : Nat) : Field := ⟨CRY_KS_CTRL_addr k, 30, 30⟩
def CRY_KS_CTRL_LOAD (k : Nat) : Field := ⟨CRY_KS_CTRL_addr k, 29, 29⟩
def CRY_KS_CTRL_ZERO (k : Nat) : Field := ⟨CRY_KS_CTRL_addr k, 28, 28⟩
def CRY_KS_CTRL_TYPE (k : Nat) : Field := ⟨CRY_KS_CTRL_addr k, 27, 24⟩
def CRY_KS_CTRL_USE_CRYPT (k : Nat) : Field := ⟨CRY_KS_CTRL_addr k, 4, 4⟩
def CRY_KS_CTRL_USE_IMAGE (k : Nat) : Field := ⟨CRY_KS_CTRL_addr k, 3, 3⟩
def CRY_KS_CTRL_USE_FBA (k : Nat) : Field := ⟨CRY_KS_CTRL_addr k, 2, 2⟩
def CRY_KS_CTRL_USE_VERIFY (k : Nat) : Field := ⟨CRY_KS_CTRL_addr k, 1, 1⟩
def CRY_KS_CTRL_USE_GEN (k : Nat) : Field := ⟨CRY_KS_CTRL_addr k, 0, 0⟩
/-- The address of CRY_KS_PARTS. -/
def CRY_KS_PARTS_addr (k : Nat) : Nat := 0x1C001008 + k * 0x40
def CRY_KS_PARTS_PARTS (k : Nat) : Field := ⟨CRY_KS_PARTS_addr k, 63, 0⟩
/-- The address of CRY_KS_KEY. -/
def CRY_KS_KEY_addr (k i : Nat) : Nat := 0x1C001010 + k * 0x40 + i * 0x4
def CRY_KS_KEY_KEY (k i : Nat) : Field := ⟨CRY_KS_KEY_addr k i, 31, 0⟩

end Sys2Proof.Reg
end

