-- ==== Sys2Proof/Config.lean ====
section
/-! DEFINITION. What an implementation fixes and the free values: opaque constants without a body, so that no
proof can see what they are. Each stands for a value that the spec leaves open; `free…` functions take the
model's own counter `State.freeCtr`, so that each use draws a fresh value. -/

namespace Sys2Proof.Config

/-- A free natural number (reduced to its field's width where it is used). DESIGN CHOICE: log entry 2. Safe. -/
opaque freeNat : Nat → Nat

/-- A free integer. DESIGN CHOICE: log entry 2. Safe. -/
opaque freeInt : Nat → Int

/-- A free truth value. DESIGN CHOICE: log entry 2. Safe. -/
opaque freeBool : Nat → Bool

/-- Byte `i` of the picture that the ISP makes of a raw frame (R279): a function of the settings (parameter block,
pipeline, data type, output format, width, height) and of the raw bytes. The stages are defined outside the manual.
DESIGN CHOICE: log entry 33. Safe. -/
opaque ispByte : List Nat → List Nat → Nat → Nat

/-- The address of the 23 log rings that FB 0x7600.04 reports (R397, R419). Free value (DESIGN CHOICE:
log entry 5). -/
opaque logArea : Nat

/-- What SVC_VERSION returns: major in [31:16], minor in [15:0] (R305). Free value (DESIGN CHOICE: log entry 5). -/
opaque serviceVersion : Nat

/-- How far the device's own best-master vector lies above the worst one (R47): the spec gives the device no priorities and
clock quality. DESIGN CHOICE: log entry 13. Safe. -/
opaque ownRank : Nat

/-- TILES and DST of an emitted page descriptor where the cluster controller chooses them (R140, R141): functions of the
stream's inputs (the row, the page-table entries of the layer, the command's words) and of the descriptor's cluster, direction and
page, and of nothing else. DESIGN CHOICE: log entry 2. Safe. -/
opaque pageTiles : List Nat → Nat
opaque pageDst : List Nat → Nat

/-- The numbers that Traverse's optimiser lanes produce (R235, R237, R238), which the spec does not fix: those of an initial guess
and of a finished optimisation by candidate rank, and the curvatures of a fallback. Each depends only on what R235 lists (the
request, its grid, the library, the footprints, the last published trajectory) and on the number's index. DESIGN CHOICE: log
entry 31. Safe. -/
opaque planGuess : List Nat → Nat → Nat → Nat
opaque planOptimum : List Nat → Nat → Nat → Nat
opaque stopCurve : List Nat → Nat → Nat

/-- How many interpolated poses the checkers take in one step beyond the least number that R239 asks for. DESIGN CHOICE: log
entry 31. Safe. -/
opaque morePoses : Nat → Nat

/-- What the graphics driver interface defines and the manual does not (R253): with the state that a draw packet sets, whether
a fragment passes the depth test against the stored depth and the stencil test against the stored stencil, whether it replaces
the stored depth, the stencil that follows the two outcomes, and byte `i` of the blend of its colour over the stored one.
DESIGN CHOICE: log entry 32. Safe. -/
opaque depthPass : Nat → Nat → Nat → Bool
opaque stencilPass : Nat → Nat → Bool
opaque depthWrites : Nat → Bool
opaque stencilNext : Nat → Nat → Bool → Bool → Nat
opaque blendByte : Nat → List Nat → List Nat → Nat → Nat

/-- Stavtalek's JEP106 code, IDCODE[11:1], as given in the BSDL file (R441). Free value (DESIGN CHOICE: log
entry 5). -/
opaque jep106 : Nat

end Sys2Proof.Config
end

