-- ==== Sys2Proof/Machine/Formats.lean ====
section
/-! DEFINITION. Number formats and exact arithmetic (R73–R87): values, the IEEE and MX element formats, rounding to
nearest even, the correctly rounded elementary functions, and conversions to the output formats. -/

namespace Sys2Proof.Machine
open Sys2Proof

/-! ## Values -/

/-- A value: NaN, an infinity, or the exact dyadic number (−1)^neg × m × 2^e (zero keeps its sign). -/
inductive FV where
  | nan
  | inf (neg : Bool)
  | fin (neg : Bool) (m : Nat) (e : Int)
  deriving DecidableEq, Repr

/-- The status flags of a completion record that arithmetic sets (R446). -/
structure Fl where
  ovf : Bool := false
  nan : Bool := false
  sat : Bool := false
  deriving DecidableEq, Repr

/-- The union of two flag sets. -/
def Fl.or (a b : Fl) : Fl := ⟨a.ovf || b.ovf, a.nan || b.nan, a.sat || b.sat⟩

/-- A value with the flags raised while it was computed. -/
structure FX where
  v : FV
  fl : Fl := {}
  deriving DecidableEq, Repr

def FV.isFinite : FV → Bool
  | .fin _ _ _ => true
  | _ => false
def FV.isInf : FV → Bool
  | .inf _ => true
  | _ => false
def FV.isZero : FV → Bool
  | .fin _ m _ => m = 0
  | _ => false
def FV.neg : FV → FV
  | .nan => .nan
  | .inf s => .inf (!s)
  | .fin s m e => .fin (!s) m e
def FV.sign : FV → Bool
  | .nan => false
  | .inf s => s
  | .fin s _ _ => s

/-- The integer `x` as a value. -/
def FV.ofInt (x : Int) : FV := .fin (decide (x < 0)) x.natAbs 0
def FV.zero : FV := .fin false 0 0
def FV.one : FV := .fin false 1 0

/-- An operand: consuming a NaN sets NAN (R81). -/
def FX.of (v : FV) : FX := ⟨v, { nan := v = .nan }⟩

/-- 2^k for k ≥ 0, 1 otherwise. -/
def pow2 (k : Int) : Nat := 2 ^ k.toNat

/-- The signed significand of a finite value at exponent `e0 ≤ e`. -/
def FV.atExp (v : FV) (e0 : Int) : Int :=
  match v with
  | .fin s m e => (if s then -1 else 1) * ((m * pow2 (e - e0) : Nat) : Int)
  | _ => 0

def FV.exp : FV → Int
  | .fin _ _ e => e
  | _ => 0

/-- Order of two values that are not NaN, −0 below +0. -/
def FV.lt (a b : FV) : Bool :=
  match a, b with
  | .nan, _ => false
  | _, .nan => false
  | .inf s, .inf t => s && !t
  | .inf s, _ => s
  | _, .inf t => !t
  | .fin s _ e, .fin t _ f =>
    let x := a.atExp (min e f)
    let y := b.atExp (min e f)
    decide (x < y) || (decide (x = y) && s && !t)

/-! ## Rounding -/

/-- The nearest integer to a/b, ties to even. -/
def rne (a b : Nat) : Nat :=
  let q := a / b
  let r := a % b
  if 2 * r < b then q else if 2 * r = b then q + q % 2 else q + 1

/-- ⌊log₂ (n/d)⌋ for n, d > 0. -/
def log2Q (n d : Nat) : Int :=
  let k : Int := (Nat.log2 n : Int) - (Nat.log2 d : Int)
  if n * pow2 (-k) < d * pow2 k then k - 1 else k

/-- The nearest integer multiple of 2^q to n/d × 2^e, ties to even. -/
def roundAt (q : Int) (n d : Nat) (e : Int) : Nat :=
  if q ≤ e then rne (n * pow2 (e - q)) d else rne n (d * pow2 (q - e))

/-- A binary floating-point format: exponent and fraction bits. -/
structure FpFmt where
  eb : Nat
  mb : Nat
  deriving DecidableEq, Repr

def FpFmt.bias (f : FpFmt) : Int := 2 ^ (f.eb - 1) - 1
/-- The exponent of the unit of the smallest subnormal. -/
def FpFmt.qmin (f : FpFmt) : Int := 1 - f.bias - f.mb
/-- Rounded magnitudes from 2^emax on overflow in an IEEE format. -/
def FpFmt.emax (f : FpFmt) : Int := f.bias + 1

def fp32 : FpFmt := ⟨8, 23⟩
def fp16 : FpFmt := ⟨5, 10⟩
def bf16 : FpFmt := ⟨8, 7⟩
def fpE4M3 : FpFmt := ⟨4, 3⟩
def fpE5M2 : FpFmt := ⟨5, 2⟩
def fpE3M2 : FpFmt := ⟨3, 2⟩
def fpE2M3 : FpFmt := ⟨2, 3⟩
def fpE2M1 : FpFmt := ⟨2, 1⟩

/-- (−1)^neg × n/d × 2^e rounded to the format's precision and least exponent, without an upper bound. -/
def FpFmt.roundQ (f : FpFmt) (neg : Bool) (n d : Nat) (e : Int) : FV :=
  if n = 0 then .fin neg 0 0
  else
    let q := max f.qmin (log2Q n d + e - f.mb)
    .fin neg (roundAt q n d e) q

/-- A finite rounded value beyond an IEEE format's range becomes an infinity. -/
def FpFmt.overflow (f : FpFmt) (v : FV) : FV :=
  match v with
  | .fin neg m e => if m ≠ 0 ∧ f.emax ≤ (Nat.log2 m : Int) + e then .inf neg else v
  | _ => v

/-- Round to nearest even in an IEEE format. -/
def FpFmt.round (f : FpFmt) (v : FV) : FV :=
  match v with
  | .fin neg m e => f.overflow (f.roundQ neg m 1 e)
  | _ => v

/-- The code of a rounded finite value. -/
def FpFmt.codeFin (f : FpFmt) (neg : Bool) (m : Nat) (e : Int) : Nat :=
  let s := b2n neg * 2 ^ (f.eb + f.mb)
  if m = 0 then s
  else
    let l : Int := (Nat.log2 m : Int) + e
    if l < 1 - f.bias then s + m * pow2 (e - f.qmin)
    else
      let k := Nat.log2 m
      let sig := if k ≤ f.mb then m * 2 ^ (f.mb - k) else m / 2 ^ (k - f.mb)
      s + (l + f.bias).toNat * 2 ^ f.mb + (sig - 2 ^ f.mb)

/-- The code of a value in an IEEE format; NaN is the canonical quiet NaN (R81). -/
def FpFmt.code (f : FpFmt) : FV → Nat
  | .nan => (2 ^ f.eb - 1) * 2 ^ f.mb + 2 ^ (f.mb - 1)
  | .inf neg => b2n neg * 2 ^ (f.eb + f.mb) + (2 ^ f.eb - 1) * 2 ^ f.mb
  | .fin neg m e => f.codeFin neg m e

/-- The finite reading of a code. -/
def FpFmt.fin (f : FpFmt) (c : Nat) : FV :=
  let ex := bitsOf c (f.eb + f.mb - 1) f.mb
  let fr := c % 2 ^ f.mb
  .fin (bitOf c (f.eb + f.mb)) (if ex = 0 then fr else 2 ^ f.mb + fr) ((max ex 1 : Nat) - f.bias - f.mb)

/-- The value of a code in an IEEE format. -/
def FpFmt.value (f : FpFmt) (c : Nat) : FV :=
  if bitsOf c (f.eb + f.mb - 1) f.mb = 2 ^ f.eb - 1 then
    (if c % 2 ^ f.mb = 0 then .inf (bitOf c (f.eb + f.mb)) else .nan)
  else f.fin c

/-- The value of an FP32 word. -/
def f32 (w : Nat) : FV := fp32.value w

/-- An FP32 word stands for a finite value. -/
def f32Finite (w : Nat) : Bool := (f32 w).isFinite

/-! ## Element formats (R73, R74, R76) -/

inductive Fmt where
  | int8 | int4 | mxint8 | mxE4M3 | mxE5M2 | mxE3M2 | mxE2M3 | mxE2M1 | e4m3 | e5m2 | fp16 | bf16 | fp32 | int32
  deriving DecidableEq, Repr

/-- The format with a code (R73). -/
def Fmt.ofCode : Nat → Option Fmt
  | 0 => some .int8 | 1 => some .int4 | 2 => some .mxint8 | 3 => some .mxE4M3 | 4 => some .mxE5M2
  | 5 => some .mxE3M2 | 6 => some .mxE2M3 | 7 => some .mxE2M1 | 8 => some .e4m3 | 9 => some .e5m2
  | 10 => some .fp16 | 11 => some .bf16 | 12 => some .fp32 | 13 => some .int32 | _ => none

/-- Bits per element. -/
def Fmt.bits : Fmt → Nat
  | .int8 => 8 | .int4 => 4 | .mxint8 => 8 | .mxE4M3 => 8 | .mxE5M2 => 8 | .mxE3M2 => 6 | .mxE2M3 => 6
  | .mxE2M1 => 4 | .e4m3 => 8 | .e5m2 => 8 | .fp16 => 16 | .bf16 => 16 | .fp32 => 32 | .int32 => 32

/-- A format with a block scale. -/
def Fmt.mx : Fmt → Bool
  | .mxint8 => true | .mxE4M3 => true | .mxE5M2 => true | .mxE3M2 => true | .mxE2M3 => true | .mxE2M1 => true
  | _ => false

/-- The narrow set of R78. -/
def Fmt.narrow : Fmt → Bool
  | .fp16 => false | .bf16 => false | .fp32 => false | .int32 => false | _ => true

/-- {FP16, BF16}. -/
def Fmt.half : Fmt → Bool
  | .fp16 => true | .bf16 => true | _ => false

/-- INT8 or INT4. -/
def Fmt.plainInt : Fmt → Bool
  | .int8 => true | .int4 => true | _ => false

/-- The formats that Plumb has no datapath for (R190). -/
def Fmt.fourSix : Fmt → Bool
  | .int4 => true | .mxE3M2 => true | .mxE2M3 => true | .mxE2M1 => true | _ => false

/-- The value of an element code, without its block's scale (R74). -/
def Fmt.value : Fmt → Nat → FV
  | .int8, c => FV.ofInt (signed 8 c)
  | .int4, c => FV.ofInt (signed 4 c)
  | .mxint8, c => .fin (bitOf c 7) (signed 8 c).natAbs (-6)
  | .mxE4M3, c => if c % 128 = 127 then .nan else fpE4M3.fin c
  | .e4m3, c => if c % 128 = 127 then .nan else fpE4M3.fin c
  | .mxE5M2, c => fpE5M2.value c
  | .e5m2, c => fpE5M2.value c
  | .mxE3M2, c => fpE3M2.fin c
  | .mxE2M3, c => fpE2M3.fin c
  | .mxE2M1, c => fpE2M1.fin c
  | .fp16, c => Machine.fp16.value c
  | .bf16, c => Machine.bf16.value c
  | .fp32, c => Machine.fp32.value c
  | .int32, c => FV.ofInt (signed 32 c)

/-- A value under an E8M0 scale byte (R75). -/
def FV.scaled (v : FV) (s : Nat) : FV :=
  if s = 255 then .nan
  else match v with
    | .fin neg m e => .fin neg m (e + s - 127)
    | _ => v

/-- The element value with its scale applied; formats without block scale ignore it (R75, R77). -/
def Fmt.scaledValue (f : Fmt) (c s : Nat) : FV := if f.mx then (f.value c).scaled s else f.value c

/-! ## Exact products and sums (R79–R81) -/

/-- The exact product. -/
def FV.mulExact : FV → FV → FV
  | .nan, _ => .nan
  | _, .nan => .nan
  | .inf s, .inf t => .inf (s != t)
  | .inf s, .fin t m _ => if m = 0 then .nan else .inf (s != t)
  | .fin s m _, .inf t => if m = 0 then .nan else .inf (s != t)
  | .fin s m e, .fin t n f => .fin (s != t) (m * n) (e + f)

/-- The exact sum of the finite values of a list, as significand and exponent. -/
def sumFinite : List FV → Int × Int
  | [] => (0, 0)
  | v :: vs =>
    let (a, e) := sumFinite vs
    match v with
    | .fin _ m f =>
      if m = 0 then (a, e)
      else if a = 0 then (v.atExp f, f)
      else
        let g := min e f
        (a * (pow2 (e - g) : Nat) + v.atExp g, g)
    | _ => (a, e)

/-- The mathematical sum of products, infinities and NaN as R81 says. -/
def sumExact (vs : List FV) : FV :=
  if vs.any (fun v => v = .nan) then .nan
  else
    let p := vs.any (fun v => v = .inf false)
    let n := vs.any (fun v => v = .inf true)
    if p && n then .nan
    else if p then .inf false
    else if n then .inf true
    else
      let (a, e) := sumFinite vs
      .fin (decide (a < 0)) a.natAbs e

/-! ## FP32 operations with flags (R446) -/

/-- The result of an FP32 operation: OVF where ±∞ comes from finite operands, NAN where the result is a NaN. -/
def FX.result (args : List FX) (r : FV) : FX :=
  ⟨r, (args.map FX.fl).foldl Fl.or
    { ovf := r.isInf && args.all (fun x => x.v.isFinite), nan := r = .nan }⟩

/-- Conversion of a value to FP32. -/
def FX.toF32 (x : FX) : FX := FX.result [x] (fp32.round x.v)

/-- The IEEE sum of two values, exact. -/
def FV.addExact (a b : FV) : FV :=
  match a, b with
  | .nan, _ => .nan
  | _, .nan => .nan
  | .inf s, .inf t => if s = t then .inf s else .nan
  | .inf s, _ => .inf s
  | _, .inf t => .inf t
  | .fin s _ e, .fin t _ f =>
    let g := min e f
    let x := a.atExp g + b.atExp g
    if x = 0 then .fin (s && t) 0 0 else .fin (decide (x < 0)) x.natAbs g

def FX.add (a b : FX) : FX := FX.result [a, b] (fp32.round (FV.addExact a.v b.v))
def FX.neg (a : FX) : FX := ⟨a.v.neg, a.fl⟩
def FX.sub (a b : FX) : FX := a.add b.neg
def FX.mul (a b : FX) : FX := FX.result [a, b] (fp32.round (FV.mulExact a.v b.v))

/-- IEEE division rounded to FP32. -/
def FV.div32 (a b : FV) : FV :=
  match a, b with
  | .nan, _ => .nan
  | _, .nan => .nan
  | .inf _, .inf _ => .nan
  | .inf s, .fin t _ _ => .inf (s != t)
  | .fin s _ _, .inf t => .fin (s != t) 0 0
  | .fin s m e, .fin t n f =>
    if n = 0 then (if m = 0 then .nan else .inf (s != t))
    else fp32.overflow (fp32.roundQ (s != t) m n (e - f))

def FX.div (a b : FX) : FX := FX.result [a, b] (FV.div32 a.v b.v)

/-- IEEE 754 maximum and minimum: NaN propagates, −0 is below +0 (DEDUCED: log entry 20). -/
def FV.max2 (a b : FV) : FV := if a = .nan ∨ b = .nan then .nan else if a.lt b then b else a
def FV.min2 (a b : FV) : FV := if a = .nan ∨ b = .nan then .nan else if b.lt a then b else a
def FX.max (a b : FX) : FX := FX.result [a, b] (FV.max2 a.v b.v)
def FX.min (a b : FX) : FX := FX.result [a, b] (FV.min2 a.v b.v)

/-! ## Correctly rounded exp, tanh, log and square root

The transcendental functions are evaluated in fixed point with 320 fraction bits; their values are never exactly
representable except at the points treated first, so the truncated value with a sticky bit rounds correctly. -/

/-- Fraction bits of the fixed-point evaluation. -/
def fixBits : Nat := 320

/-- ln 2 in fixed point: Σ 1 / (k 2^k). -/
def ln2Fix : Nat := ((List.range 330).map (fun k => 2 ^ fixBits / ((k + 1) * 2 ^ (k + 1)))).foldl (· + ·) 0

/-- Σ r^k / k! in fixed point, from term `k` on. -/
def expTerms : Nat → Nat → Nat → Nat → Nat
  | 0, _, _, _ => 0
  | n + 1, k, term, r =>
    let t := term * r / 2 ^ fixBits / k
    term + expTerms n (k + 1) t r

/-- A finite value in fixed point, rounded toward −∞. -/
def FV.toFix (v : FV) : Int :=
  match v with
  | .fin s m e =>
    let x : Int := (if s then -1 else 1) * (m : Int)
    if 0 ≤ e + fixBits then x * (pow2 (e + fixBits) : Nat) else x / (pow2 (-(e + fixBits)) : Nat)
  | _ => 0

/-- exp of a fixed-point number: significand and exponent of the truncated result. -/
def expFix (x : Int) : Nat × Int :=
  let k := x / (ln2Fix : Int)
  let r := (x % (ln2Fix : Int)).toNat
  (expTerms 90 1 (2 ^ fixBits) r, k - fixBits)

/-- exp, correctly rounded to FP32. -/
def FV.exp32 (v : FV) : FV :=
  match v with
  | .nan => .nan
  | .inf false => .inf false
  | .inf true => .zero
  | .fin s m e =>
    if m = 0 then .one
    else if 8 ≤ (Nat.log2 m : Int) + e then (if s then .zero else .inf false)
    else
      let (y, k) := expFix (v.toFix)
      fp32.overflow (fp32.roundQ false (2 * y + 1) 1 (k - 1))

/-- tanh, correctly rounded to FP32. Below 2⁻¹³ it rounds to its argument, from 16 on to ±1. -/
def FV.tanh32 (v : FV) : FV :=
  match v with
  | .nan => .nan
  | .inf s => .fin s 1 0
  | .fin s m e =>
    if m = 0 then v
    else
      let l : Int := (Nat.log2 m : Int) + e
      if l < -13 then v
      else if 4 ≤ l then .fin s 1 0
      else
        let (y, k) := expFix (FV.fin true m (e + 1)).toFix
        let t := y * pow2 (k + fixBits) / pow2 (-(k + fixBits))
        fp32.roundQ s (2 * (2 ^ fixBits - t) + 1) (2 * (2 ^ fixBits + t)) 0

/-- Σ z^(2k+1) / (2k+1) in fixed point, from term `k` on. -/
def atanhTerms : Nat → Nat → Nat → Nat → Nat
  | 0, _, _, _ => 0
  | n + 1, k, p, z2 => p / (2 * k + 1) + atanhTerms n (k + 1) (p * z2 / 2 ^ fixBits) z2

/-- The natural logarithm, correctly rounded to FP32. -/
def FV.log32 (v : FV) : FV :=
  match v with
  | .nan => .nan
  | .inf s => if s then .nan else .inf false
  | .fin s m e =>
    if m = 0 then .inf true
    else if s then .nan
    else
      let k := Nat.log2 m
      let l : Int := (k : Int) + e
      if m = 2 ^ k ∧ l = 0 then .zero
      else
        let z := (m - 2 ^ k) * 2 ^ fixBits / (m + 2 ^ k)
        let y : Int := l * (ln2Fix : Int) + 2 * (atanhTerms 110 0 z (z * z / 2 ^ fixBits) : Nat)
        fp32.roundQ (decide (y < 0)) (2 * y.natAbs + 1) 1 (-(fixBits : Int) - 1)

/-- ⌊√n⌋, bit by bit from bit `b`. -/
def isqrtGo : Nat → Nat → Nat → Nat
  | 0, _, r => r
  | b + 1, n, r =>
    let c := r + 2 ^ b
    isqrtGo b n (if c * c ≤ n then c else r)

/-- ⌊√n⌋. -/
def isqrt (n : Nat) : Nat := isqrtGo (Nat.log2 n / 2 + 1) n 0

/-- The square root, correctly rounded to FP32. -/
def FV.sqrt32 (v : FV) : FV :=
  match v with
  | .nan => .nan
  | .inf s => if s then .nan else .inf false
  | .fin s m e =>
    if m = 0 then v
    else if s then .nan
    else
      let odd : Nat := (e % 2).toNat
      let n := m * 2 ^ (odd + 128)
      let r := isqrt n
      let h : Int := (e - odd - 128) / 2
      if r * r = n then fp32.overflow (fp32.roundQ false r 1 h)
      else fp32.overflow (fp32.roundQ false (2 * r + 1) 1 (h - 1))

def FX.exp (a : FX) : FX := FX.result [a] a.v.exp32
def FX.tanh (a : FX) : FX := FX.result [a] a.v.tanh32
def FX.log (a : FX) : FX := FX.result [a] a.v.log32
def FX.sqrt (a : FX) : FX := FX.result [a] a.v.sqrt32

/-! ## Canonical reduction (R82, R83) -/

/-- One level of the tree: neighbours are added, an odd last node moves up. -/
def pairUp {α : Type} (add : α → α → α) : List α → List α
  | [] => []
  | [x] => [x]
  | x :: y :: t => add x y :: pairUp add t

/-- The tree's levels. -/
def reduceGo {α : Type} (add : α → α → α) : Nat → List α → List α
  | 0, l => l
  | n + 1, l => if l.length ≤ 1 then l else reduceGo add n (pairUp add l)

/-- canonical_reduce of R82; +0 for no chunk. -/
def canonicalReduce (add : FX → FX → FX) (l : List FX) : FX :=
  (reduceGo add l.length l).headD ⟨.zero, {}⟩

/-- The chunks of 1,024 positions (R79). -/
def chunksGo {α : Type} : Nat → List α → List (List α)
  | 0, _ => []
  | n + 1, l => if l.isEmpty then [] else l.take 1024 :: chunksGo n (l.drop 1024)

def chunks {α : Type} (l : List α) : List (List α) := chunksGo (l.length / 1024 + 1) l

/-- A chunk of products in FP32 accumulation (R80, R81). -/
def chunk32 (products : List FV) : FX :=
  let v := sumExact products
  FX.result ((products.filter (fun p => !p.isFinite)).map FX.of) (fp32.round v)

/-- INT32 addition: it saturates and sets SAT (R82). -/
def FX.addInt (a b : FX) : FX :=
  let x := (FV.addExact a.v b.v).atExp 0
  let fl := a.fl.or b.fl
  if x < -2147483648 then ⟨FV.ofInt (-2147483648), { fl with sat := true }⟩
  else if 2147483647 < x then ⟨FV.ofInt 2147483647, { fl with sat := true }⟩
  else ⟨FV.ofInt x, fl⟩

/-- A reduction of products over K (R79–R82). -/
def dotProducts (acc32 : Bool) (products : List FV) : FX :=
  if acc32 then canonicalReduce FX.addInt ((chunks products).map (fun c => ⟨FV.ofInt ((sumExact c).atExp 0), {}⟩))
  else canonicalReduce FX.add ((chunks products).map chunk32)

/-- A sum of FP32 values by R79 to R82. -/
def sum32 (xs : List FX) : FX :=
  let r := dotProducts false (xs.map FX.v)
  ⟨r.v, (xs.map FX.fl).foldl Fl.or r.fl⟩

/-- The least level from which [a, b) is a node of the tree over T chunks (R83). -/
def isNodeAt (a b t : Nat) : Nat → Bool
  | 0 => a % 1 = 0 && b = min (a + 1) t && decide (a < t)
  | l + 1 => isNodeAt a b t l || (a % 2 ^ (l + 1) = 0 && b = min (a + 2 ^ (l + 1)) t && decide (a < t))

/-- The chunk range [a, b) is a node of the tree over T chunks. -/
def isNode (a b t : Nat) : Bool := isNodeAt a b t 16

/-! ## Epilogue (R85, R86) -/

def fxc (w : Nat) : FX := FX.of (f32 w)
def fxOne : FX := ⟨.one, {}⟩
def fxZero : FX := ⟨.zero, {}⟩
def fxInt (n : Nat) : FX := ⟨FV.ofInt n, {}⟩

/-- The ACT functions. -/
def act (code : Nat) (x : FX) : FX :=
  match code with
  | 1 => x.max fxZero
  | 2 => (x.max fxZero).min (fxInt 6)
  | 3 =>
    let cube := (((fxc 0x3D372713).mul x).mul x).mul x
    let t := ((fxc 0x3F4C422A).mul (x.add cube)).tanh
    ((fxc 0x3F000000).mul x).mul (fxOne.add t)
  | 4 => x.mul (fxOne.div (fxOne.add x.neg.exp))
  | 5 => fxOne.div (fxOne.add x.neg.exp)
  | 6 => x.tanh
  | 7 => (x.mul (((x.add (fxInt 3)).max fxZero).min (fxInt 6))).div (fxInt 6)
  | _ => x

/-- The epilogue word and scale of a descriptor. -/
structure Epi where
  act : Nat := 0
  oscale : Nat := 0x3F800000
  deriving DecidableEq, Repr

/-- Steps 1 to 4 of R85 on a reduced value; `intOut`: INT32 accumulation with INT32 output. -/
def epilogue (e : Epi) (intOut : Bool) (bias : Option FX) (r : FX) : FX :=
  if intOut then act e.act r
  else
    let r := r.toF32
    let r := match bias with
      | some b => r.add b
      | none => r
    (act e.act r).mul (fxc e.oscale)

/-! ## Output conversion (R87) -/

/-- An integer format: round to nearest even, saturate with SAT, NaN becomes 0 with NAN. -/
def toIntCode (w : Nat) (x : FX) : Nat × Fl :=
  let lo : Int := -(2 ^ (w - 1))
  let hi : Int := 2 ^ (w - 1) - 1
  match x.v with
  | .nan => (0, x.fl.or { nan := true })
  | .inf s => (unsignedOf w (if s then lo else hi), x.fl.or { sat := true })
  | .fin s m e =>
    let n : Int := (if s then -1 else 1) * (roundAt 0 m 1 e : Nat)
    if n < lo then (unsignedOf w lo, x.fl.or { sat := true })
    else if hi < n then (unsignedOf w hi, x.fl.or { sat := true })
    else (unsignedOf w n, x.fl)

/-- An IEEE format: overflow becomes ±∞ with OVF. -/
def toIeeeCode (f : FpFmt) (x : FX) : Nat × Fl :=
  let r := f.round x.v
  (f.code r, x.fl.or { ovf := r.isInf && x.v.isFinite, nan := r = .nan })

/-- The largest finite value of an element format (R74), as significand and exponent. -/
def Fmt.largest : Fmt → Nat × Int
  | .e4m3 => (7, 6) | .mxE4M3 => (7, 6)
  | .e5m2 => (7, 13) | .mxE5M2 => (7, 13)
  | .mxE3M2 => (7, 2) | .mxE2M3 => (15, -1) | .mxE2M1 => (3, 1)
  | .mxint8 => (127, -6)
  | _ => (0, 0)

/-- The floating-point shape of an element format. -/
def Fmt.shape : Fmt → FpFmt
  | .e5m2 => fpE5M2 | .mxE5M2 => fpE5M2 | .mxE3M2 => fpE3M2 | .mxE2M3 => fpE2M3 | .mxE2M1 => fpE2M1
  | _ => fpE4M3

/-- A finite value rounded to an FP8 or MX floating-point element, saturated with OVF. -/
def toSmallCode (f : Fmt) (neg : Bool) (m : Nat) (e : Int) : Nat × Bool :=
  let (lm, le) := f.largest
  match f.shape.roundQ neg m 1 e with
  | .fin _ n q =>
    if (FV.fin false lm le).lt (.fin false n q) then (f.shape.codeFin neg lm le, true)
    else (f.shape.codeFin neg n q, false)
  | _ => (0, false)

/-- FP8 output. -/
def toFp8Code (f : Fmt) (x : FX) : Nat × Fl :=
  match x.v with
  | .nan => ((if f = .e4m3 then 0x7F else 0x7E), x.fl.or { nan := true })
  | .inf s =>
    let (lm, le) := f.largest
    (f.shape.codeFin s lm le, x.fl.or { ovf := true })
  | .fin s m e =>
    let (c, o) := toSmallCode f s m e
    (c, x.fl.or { ovf := o })

/-- The exponent that R87 subtracts for the block scale of an MX format. -/
def Fmt.mxE : Fmt → Int
  | .mxE4M3 => 8 | .mxE5M2 => 15 | .mxE3M2 => 4 | .mxE2M3 => 2 | .mxE2M1 => 2 | _ => 0

/-- ⌊log₂ |v|⌋ of the non-zero values of a block, the largest of them. -/
def maxLog2 : List FX → Option Int
  | [] => none
  | x :: xs =>
    match x.v, maxLog2 xs with
    | .fin _ m e, r =>
      if m = 0 then r
      else match r with
        | none => some ((Nat.log2 m : Int) + e)
        | some k => some (max k ((Nat.log2 m : Int) + e))
    | _, r => r

/-- An element of an MX block under scale exponent `x`. -/
def toMxElem (f : Fmt) (x : Int) (v : FX) : Nat × Bool :=
  match v.v with
  | .fin s m e =>
    if f = .mxint8 then
      let n := roundAt 0 m 1 (e - x + 6)
      (unsignedOf 8 ((if s then -1 else 1) * ((min n 127 : Nat) : Int)), decide (127 < n))
    else toSmallCode f s m (e - x)
  | _ => (0, false)

/-- An MX block: its scale byte, its element codes and the flags (R87). -/
def toMxBlock (f : Fmt) (vs : List FX) : Nat × List Nat × Fl :=
  let fl := (vs.map FX.fl).foldl Fl.or {}
  if vs.any (fun v => !v.v.isFinite) then (0xFF, vs.map (fun _ => 0), fl.or { nan := true })
  else
    match maxLog2 vs with
    | none => (0, vs.map (fun _ => 0), fl)
    | some k =>
      let x := max (-127) (min 127 (k - f.mxE))
      let cs := vs.map (toMxElem f x)
      ((x + 127).toNat, cs.map Prod.fst, fl.or { ovf := cs.any Prod.snd })

/-- Conversion to a format without block scale (R87). -/
def toCode (f : Fmt) (x : FX) : Nat × Fl :=
  match f with
  | .int8 => toIntCode 8 x
  | .int4 => toIntCode 4 x
  | .int32 => toIntCode 32 x
  | .fp16 => toIeeeCode Machine.fp16 x
  | .bf16 => toIeeeCode Machine.bf16 x
  | .fp32 => toIeeeCode Machine.fp32 x
  | .e4m3 => toFp8Code .e4m3 x
  | .e5m2 => toFp8Code .e5m2 x
  | _ => (0, x.fl)

/-! ## Packing (R76) -/

/-- The bytes of a row of element codes, in ascending element order. -/
def packCodes (bits : Nat) : List Nat → List Nat
  | [] => []
  | a :: rest =>
    if bits = 4 then
      match rest with
      | b :: rest => (a % 16 + b % 16 * 16) :: packCodes bits rest
      | [] => [a % 16]
    else if bits = 6 then
      match rest with
      | b :: c :: d :: rest =>
        leBytes 3 (a % 64 + b % 64 * 64 + c % 64 * 4096 + d % 64 * 262144) ++ packCodes bits rest
      | _ => leBytes 3 (a % 64)
    else leBytes (bits / 8) a ++ packCodes bits rest

/-! ## Sine and cosine, correctly rounded (R237) -/

/-- Bits after the point in the fixed-point numbers of sine and cosine. -/
def trigBits : Nat := 640

/-- A finite value as an exact fixed-point number (an FP32 value needs at most 149 bits after the point). -/
def FV.fix (v : FV) (k : Nat) : Int :=
  match v with
  | .fin s m e =>
    let x : Int := (if s then -1 else 1) * (m : Int)
    if 0 ≤ e + k then x * (pow2 (e + k) : Nat) else x / (pow2 (-(e + k)) : Nat)
  | _ => 0

/-- arctan(1/k) in fixed point. -/
def atanInv (k : Nat) : Int :=
  ((List.range 150).map (fun n =>
    let t : Int := (2 ^ trigBits / ((2 * n + 1) * k ^ (2 * n + 1)) : Nat)
    if n % 2 = 0 then t else -t)).foldl (· + ·) 0

/-- π in fixed point (Machin). -/
def piFix : Int := 16 * atanInv 5 - 4 * atanInv 239

/-- The alternating series Σ t · r² / ((k+1)(k+2)) … from a first term. -/
def trigTerms : Nat → Nat → Int → Int → Int
  | 0, _, _, _ => 0
  | n + 1, k, t, r2 => t + trigTerms n (k + 2) (-(t * r2 / 2 ^ trigBits / ((k + 1) * (k + 2) : Nat))) r2

/-- The nearest integer to a quotient of integers with a positive divisor, ties to even. -/
def rneInt (a b : Int) : Int := if 0 ≤ a then (rne a.toNat b.toNat : Nat) else -(rne (-a).toNat b.toNat : Nat)

/-- Sine (`q` = 0) or cosine (`q` = 1) in fixed point. -/
def trigFix (q : Int) (x : Int) : Int :=
  let k := rneInt (2 * x) piFix
  let r := x - k * piFix / 2
  let r2 := r * r / 2 ^ trigBits
  let sn := trigTerms 60 1 r r2
  let cs := trigTerms 60 0 (2 ^ trigBits) r2
  match ((k + q) % 4).toNat with
  | 0 => sn | 1 => cs | 2 => -sn | _ => -cs

def FV.ofFix (x : Int) : FV := if x = 0 then .zero else .fin (decide (x < 0)) x.natAbs (-(trigBits : Int))

def FV.sin32 (v : FV) : FV :=
  match v with
  | .fin _ 0 _ => v
  | .fin _ _ _ => fp32.round (FV.ofFix (trigFix 0 (v.fix trigBits)))
  | _ => .nan
def FV.cos32 (v : FV) : FV :=
  match v with
  | .fin _ _ _ => fp32.round (FV.ofFix (trigFix 1 (v.fix trigBits)))
  | _ => .nan

/-- FP32 operations on values. -/
def subF (a b : FV) : FV := fp32.round (FV.addExact a b.neg)
def addF (a b : FV) : FV := fp32.round (FV.addExact a b)
def mulF (a b : FV) : FV := fp32.round (FV.mulExact a b)

/-- Numeric order: +0 and −0 are equal, NaN is never below. -/
def FV.below (a b : FV) : Bool := a.lt b && !(a.isZero && b.isZero)

def FV.isNan (v : FV) : Bool := v = .nan
def FV.abs (v : FV) : FV := if v.sign then v.neg else v

end Sys2Proof.Machine
end

