-- ==== Sys2Proof/Machine/KMap.lean ====
section
/-! DEFINITION. Sparse data by key: a list of key and value pairs in one canonical form (keys strictly
rising), its lookup and its updates. Registers, the Field Book, memory and the indexed units of the device
are held this way, so that equal contents are equal data. -/

namespace Sys2Proof.Machine

/-- Values by key, ascending. -/
abbrev KMap (α : Type) := List (Nat × α)

/-- The value listed for a key, if any. -/
def KMap.find {α : Type} : KMap α → Nat → Option α
  | [], _ => none
  | (k', v) :: m, k => if k' = k then some v else KMap.find m k

/-- The value of a key, `d` where none is listed. -/
def KMap.getD {α : Type} (m : KMap α) (k : Nat) (d : α) : α := (KMap.find m k).getD d

/-- The map without a key. -/
def KMap.del {α : Type} (m : KMap α) (k : Nat) : KMap α := m.filter (fun p => p.1 != k)

/-- Insertion before the first larger key. -/
def KMap.ins {α : Type} (k : Nat) (v : α) : KMap α → KMap α
  | [] => [(k, v)]
  | (k', v') :: m => if k < k' then (k, v) :: (k', v') :: m else (k', v') :: KMap.ins k v m

/-- The map with a key set. -/
def KMap.put {α : Type} (m : KMap α) (k : Nat) (v : α) : KMap α := KMap.ins k v (KMap.del m k)

/-- The map with a key set, where `d` is what an unlisted key reads as: setting that value removes the entry. -/
def KMap.set {α : Type} [DecidableEq α] (d : α) (m : KMap α) (k : Nat) (v : α) : KMap α :=
  if v = d then KMap.del m k else KMap.put m k v

/-- Keys strictly rising. -/
def KMap.rising {α : Type} : KMap α → Bool
  | [] => true
  | [_] => true
  | (k, _) :: (k', v') :: m => decide (k < k') && KMap.rising ((k', v') :: m)

/-- The canonical form with respect to the value `d k` that an unlisted key `k` reads as: keys strictly
rising, no entry equal to that value. -/
def KMap.canon {α : Type} [DecidableEq α] (d : Nat → α) (m : KMap α) : Bool :=
  KMap.rising m && m.all (fun p => decide (p.2 ≠ d p.1))

end Sys2Proof.Machine
end

