-- ==== Sys2Proof/Machine/State.lean ====
section
/-! DEFINITION. The state of the device as plain data: its registers and Field Book as sparse maps of fields,
its memories as cells, and every machine state that the chapters name beside their registers. -/

namespace Sys2Proof.Machine
open Sys2Proof

/-- Why the machine stops. The device answers every command with a state (bus errors and status codes are part of
the state), so no meaning raises a fault; the one constructor is never used. -/
inductive Fault where
  /-- Raised by nobody. Safe. -/
  | none
  deriving DecidableEq, Repr

/-- Why a command has no meaning. -/
inductive Refusal where
  /-- A command that the model does not give a meaning to; raised by an arm of `exec` only. Safe. -/
  | notModelled (mnemonic : String)
  deriving DecidableEq, Repr

/-- World and partition of a transaction (R296). -/
structure Attr where
  secure : Bool
  partition : Nat
  deriving DecidableEq, Repr

/-- The bus response that the requester of the last access saw: read data, bus error (R9, R12, R301). -/
structure Resp where
  data : Nat := 0
  err : Bool := false
  /-- What a write reports where its register has no status field. -/
  status : Nat := 0
  deriving DecidableEq, Repr

/-- Messages of a job that spans packages (R178). -/
inductive JobMsg where
  | ready | go
  /-- KILL: of a preemption (0), or with the code of the fault or rejection it comes from. -/
  | kill (code : Nat)
  | restart | endJob | ack | killAck
  deriving DecidableEq, Repr

/-- What leaves the block: results in a hart's registers, frames, pulses, messages and pin levels. -/
inductive Output where
  /-- Results of a service call in a hart's a0 to a3 (R304). -/
  | svc (hart a0 a1 a2 a3 : Nat)
  /-- An illegal-instruction exception in a hart (R297). -/
  | illegalInstruction (hart : Nat)
  /-- A pulse on TIME_OUT pin n (R58): its Datum start, its width, and whether it is active-low. -/
  | pulse (n start width : Nat) (activeLow : Bool)
  /-- A gPTP Sync sent on a MAC (R49): one-step or two-step, with the origin timestamp that it or its Follow_Up carries. -/
  | gptpSync (mac : Nat) (oneStep : Bool) (origin : Nat)
  /-- A descriptor that a cluster controller emits for a page (R140, R141), as seen at a trace point. -/
  | pageDescriptor (words : List Nat)
  /-- Bytes sent into another package's landing slot for a collective (R179, R181). -/
  | collectiveData (package group offset : Nat) (data : List Nat)
  /-- A job message to another package (R178). -/
  | jobMessage (package group : Nat) (msg : JobMsg)
  /-- A heartbeat to another package (R177). -/
  | peerHeartbeat (package : Nat)
  /-- A safety status message (R207): on the CAN FD controller and identifier, and on the Ethernet flow. -/
  | safetyStatus (can canId flow : Nat) (bytes : List Nat)
  /-- A publication PDU handed to a gateway flow (R200). -/
  | publication (flow : Nat) (bytes : List Nat)
  /-- A heartbeat of a safety island pair to its partner (R185). -/
  | pairHeartbeat (pairA : Bool)
  /-- A record that a unit sends on a gateway flow: a Traverse completion record (R241). -/
  | flowRecord (flow : Nat) (bytes : List Nat)
  /-- Traverse tells the safety island of a library mismatch (R230). -/
  | libraryFault (context : Nat)
  /-- The safety island is told that the watchdog of a firmware processor has expired (R388). -/
  | watchdogExpiry (processor : Nat)
  /-- A graphics job's completion record as the context's driver reads it (R251, R255, R259): context, status, tag, and
  whether the pass was binned, flushed, or a dispatch resubmitted. -/
  | gfxRecord (context status tag : Nat) (binned flushed resubmitted : Bool)
  /-- A CAN frame on a controller: format (0 classical, 1 FD, 2 XL), keys in the layout of R341, data. -/
  | canFrame (can fmt key0 key1 : Nat) (data : List Nat)
  /-- A LIN header on a commander (R333), and a LIN response. -/
  | linHeader (lin id : Nat)
  | linFrame (lin id : Nat) (data : List Nat)
  /-- An Ethernet frame on a MAC, without its FCS. -/
  | ethFrame (mac : Nat) (bytes : List Nat)
  /-- A message that reports a far-side failure to a sender (R347): package, fence group, address, class. -/
  | farReport (package group addr cls : Nat)
  /-- A zero-length read to a package, for a bridge fence (R349). -/
  | zeroRead (package : Nat)
  /-- A posted write to another package over PCIe, with the sender's fence group (R347). -/
  | pcieWrite (package group addr : Nat) (data : List Nat)
  /-- A Field Book Access response in a UDP datagram (R365): MAC, IPv6 destination address, destination port, the message. -/
  | fbaDatagram (mac ip port : Nat) (bytes : List Nat)
  /-- A challenge read from the debug port (R442). -/
  | debugChallenge (bytes : List Nat)
  /-- The device identification shifted out of the TAP (R441). -/
  | idcode (value : Nat)
  deriving DecidableEq, Repr

/-! ## Interrupt Concentrator (chapter 12) -/

/-- A source: its shared pending state, its pending state for each target, the targets at which it is active, and
the level of its line (R321, R322). -/
structure IcnSrc where
  pend : Bool := false
  tpend : Nat := 0
  act : Nat := 0
  line : Bool := false
  /-- Edges merged into a pending state in one clock: the instant, and the targets (bit 0 for the shared state): a claim in the same
  clock leaves them pending (R331). -/
  mergedAt : Option Nat := none
  merged : Nat := 0
  deriving DecidableEq, Repr

/-- A target's stack of claimed sources (ID and priority, the top first) and whether it is frozen (R323, R326). -/
structure IcnTgt where
  stack : List (Nat × Nat) := []
  frozen : Bool := false
  deriving DecidableEq, Repr

/-! ## Worlds (chapter 11) -/

/-- The services that the monitor forwards (R305), with their arguments. -/
inductive Service where
  | cmac (slot addr len : Nat)
  | cmacVerify (slot addr len tagAddr : Nat)
  | random
  | attest (nonceAddr reportAddr : Nat)
  | keyLoad (slot keyAddr : Nat)
  | fwStage (addr len : Nat)
  | fwActivate (kind : Nat)
  deriving DecidableEq, Repr

/-- A forwarded call in flight (R306): its sequence number, the caller's attribute, when it was passed on, and, once
the secure world has applied its final step, the answer on its way (a0 to a3). -/
structure Call where
  seq : Nat
  service : Service
  attr : Attr
  start : Nat
  answer : Option (List Nat) := none
  deriving DecidableEq, Repr

/-- A key slot's content (R307). `uses` holds CRYPT, IMAGE, FBA, VERIFY, GEN in bits 4 to 0. -/
structure KeySlot where
  key : List Nat
  aes256 : Bool
  uses : Nat
  parts : Nat
  deriving DecidableEq, Repr

/-- A refusal that a full checker log has dropped (R302): address, attribute, write, REGION. -/
structure Dropped where
  addr : Nat
  attr : Attr
  write : Bool
  region : Nat
  deriving DecidableEq, Repr

/-- The secure world's machine state: the last forwarded sequence number and the last completed one of each hart,
the calls in flight, the key slots, the monitor's region plan (first and last page of the window delegated to a
region, by checker × 32 + region), the times of the restarts within the last 60 s, the secure watchdog's counts. -/
structure Worlds where
  mwattr : KMap Attr := []
  seq : KMap Nat := []
  done : KMap Nat := []
  calls : KMap Call := []
  keys : KMap KeySlot := []
  plan : KMap (Nat × Nat) := []
  restarts : List Nat := []
  /-- 0: no restart. 1: the loaded image is being measured. 2: the reloaded image is. 3: core 0 is released. -/
  restartPhase : Nat := 0
  /-- Where the running secure image was loaded (R308). -/
  imageLoad : Nat := 0
  swdStart : Nat := 0
  swdTest : Option Nat := none
  /-- Same-clock facts of R316: by checker, the instant of the last change of its regions with the regions enabled before it, and
  the instant at which LOCK was set; the refusals that a full log has dropped, with their instant; the instant of the last lease
  write with PMU_LEASE_PD and PMU_LEASE_CLK before it. -/
  regionWas : KMap (Nat × Nat) := []
  lockAt : KMap Nat := []
  dropped : KMap (Nat × List Dropped) := []
  leaseWas : Nat × Nat × Nat := (0, 0, 0)
  deriving DecidableEq, Repr

/-- Levels of the package pins that the chapters name: inputs RESET_N, POR_N, WAKE_N, PWR_FAIL_N, the output
THERMTRIP_N and the TIME_OUT pins (true: high). SAFE_STATE_N is `Safety.driven`. -/
structure Pins where
  resetN : Bool := true
  porN : Bool := true
  wakeN : Bool := true
  pwrFailN : Bool := true
  thermtripN : Bool := true
  timeOut : Nat := 0
  deriving DecidableEq, Repr

/-- What the fuses hold (R4, R5, R307–R309, R416, R442): the grade, the clusters and application quads present, the hashes
of the four image public keys, the revoked ones, the anti-rollback counters of kinds 0 to 2, the serial number, the hash of
the debug key and the debug-disable bit. The values that stand here are the model's (DESIGN CHOICE: log entry 5): a
PL9880-AQ with nothing else fused. -/
structure Fuses where
  grade : Nat := 0x80
  clusters : Nat := 0xFFFF
  quads : Nat := 0xF
  keyHash : List (List Nat) := []
  revoked : Nat := 0
  svn : List Nat := [0, 0, 0]
  serial : Nat := 0
  dbgKeyHash : List Nat := []
  dbgDisable : Bool := false
  deriving DecidableEq, Repr

/-! ## Datum and Meridian (chapter 2) -/

/-- The grandmaster that best master selection holds (R47): the comparison vector of its Announce, its identity, the MAC on
which it was heard, and whether its Sync has been lost, so that any Announce replaces it. -/
structure Master where
  vector : Nat
  identity : Nat
  mac : Nat
  aged : Bool := false
  deriving DecidableEq, Repr

/-- The Datum servo (R43, R50–R57): its last 8 rate updates, the offsets of the open median evaluation, the last
measured offset of Datum from its source, the last Sync or PTM exchange and the Sync interval, when HOLDOVER was
entered, whether the first median evaluation has been made, whether its step waits for a boundary, until when a
Meridian start waits for it, the peer delays by MAC, exchanges in a row above 50 ns; the slew in progress: its signed rate in
1/64 ppb beside MER_RATE's and what is left to remove, in 1/(64 × 10⁹) ns. -/
structure Servo where
  rates : List Int := []
  samples : List Int := []
  offset : Int := 0
  lastSync : Option Nat := none
  interval : Nat := 125000000
  holdoverAt : Nat := 0
  firstDone : Bool := false
  acqPending : Bool := false
  startWait : Option Nat := none
  master : Option Master := none
  peerDelay : KMap Int := []
  misaligned : Nat := 0
  slewRate : Int := 0
  slewLeft : Nat := 0
  deriving DecidableEq, Repr

/-- An open window (R67): its Datum start and end, the slack left, whether it has admitted a restart, whether its partition's
queues became admissible again while it was open (they wait for the next opening, R401). -/
structure Window where
  start : Nat
  stop : Nat
  slackLeft : Nat
  restarted : Bool := false
  held : Bool := false
  deriving DecidableEq, Repr

/-- Meridian beside its registers (R54, R61, R62, R65): the words of the shadow and of the active bank by index, the
active frame lengths, whether the gap after a step is open, whether a SAFETY window has opened since the start,
whether a swap has taken effect since reset, whether FB 0x2000.04 was 1 at boot (R70), the open windows by entry, the frame count and the start of the last
frame of each pipeline, the last pulse of each time output. -/
structure Meridian where
  shadow : KMap Nat := []
  active : KMap Nat := []
  frames : KMap Nat := []
  gap : Bool := false
  safetyOpened : Bool := false
  swapped : Bool := false
  lockAtBoot : Bool := true
  windows : KMap Window := []
  frameCount : KMap Nat := []
  frameStart : KMap Nat := []
  lastPulse : KMap Nat := []
  lastTick : Option Nat := none
  deriving DecidableEq, Repr

/-- The time inputs (R59): the captures of each FIFO, the oldest first, and the last captured edge. -/
structure TimeIn where
  fifo : List Nat := []
  last : Option Nat := none
  deriving DecidableEq, Repr

/-! ## Tensor and Plumb engines (chapters 3 to 6) -/

/-- A stripe of CONV or DWCONV in one cluster (R94, R121–R125): its rows, the rows computed and the rows that the
row mark shows, whether its row-mark copy is armed, since when it waits for an input row. -/
structure Stripe where
  first : Nat
  limit : Nat
  computed : Nat := 0
  shown : Nat := 0
  armed : Bool := false
  waitFrom : Option Nat := none
  /-- LEAD as it stood when the copy was armed. -/
  lead : Nat := 0
  deriving DecidableEq, Repr

/-- The command in the run stage of a queue (R95): its descriptor (ring index and words), the addresses of the
output records it has written, its flags, when it was dispatched, whether it waits (a FENCE, or a COMMIT that waits
for GO), its stripes where row marks order them, the optimiser's new t, p1 and p2 (R150), and the bytes of an earlier command of the
job that its staged writes replaced (R96). -/
structure Cmd where
  index : Nat
  ws : List Nat
  outs : List Nat := []
  fl : Fl := {}
  start : Nat := 0
  waiting : Bool := false
  defused : Bool := false
  rowWise : Bool := false
  stripes : KMap Stripe := []
  train : Option (Nat × Nat × Nat) := none
  undo : List (Nat × List Nat) := []
  /-- The clusters whose copies of its mark the command has read rows through (R123). -/
  readFrom : List Nat := []
  /-- The clusters that a COMMIT's optimiser pass occupies (R150). -/
  mask : Nat := 0
  deriving DecidableEq, Repr

/-- An admitted job (R160, R95–R98): the ring index of its first descriptor, its JOB number, its admission time,
bound and projected end (ns), the table entry of its window, its clusters and priority; whether this run is a
restart; the flags, de-fusion and cycles of its commands so far, the JOBOUT records written, the (row, layer) pairs
that its PAGED_ATTN commands served; whether it is to stop for a preemption at its next POINT slot and the live-range
copy in progress (1 save, 2 restore) (R165); its collective group and the READY and acknowledgement masks (R178). -/
structure Job where
  first : Nat
  num : Nat
  start : Nat
  bound : Nat
  projEnd : Nat
  window : Nat
  clusters : Nat
  prio : Nat
  restarted : Bool := false
  fl : Fl := {}
  defused : Bool := false
  cycles : Nat := 0
  written : List Nat := []
  attended : List (Nat × Nat) := []
  preempt : Bool := false
  copy : Nat := 0
  group : Option Nat := none
  ready : Nat := 0
  /-- The job has de-fused: its consumers read committed rows only (R125). -/
  barrier : Bool := false
  /-- Killed in a job that spans packages: the lead's RESTART or END decides (R178). -/
  held : Bool := false
  /-- The marks that the job's commands post and wait on (R121, R123). -/
  posts : List Nat := []
  waits : List Nat := []
  /-- The queues whose jobs preempted it: its command reruns once they have left its tiles (R164). -/
  behind : List Nat := []
  deriving DecidableEq, Repr

/-- A KV pool (R128). `free` and `spillFree` list its free pages and spill pages, ascending. -/
structure KvPool where
  partition : Nat
  secure : Bool
  fmt : Nat
  headsKv : Nat
  headDim : Nat
  layers : Nat
  ptPages : Nat
  pageCount : Nat
  base : Nat
  spillPages : Nat
  spillBase : Nat
  buckets : List Nat
  used : List Nat := []
  spillUsed : List Nat := []
  stepNo : Nat := 0
  deriving DecidableEq, Repr

/-- A row of the sequence table (R131, R132) and its page table (R133): page-table entries by
layer × PT_PAGES + logical page; an entry is (spilled, page). -/
structure SeqRow where
  state : Nat := 0
  spillable : Bool := false
  leaving : Bool := false
  bucket : Nat := 0
  pool : Nat := 0
  prio : Nat := 0
  len : Nat := 0
  pend : Nat := 0
  queue : Nat := 0
  newKv : Nat := 0
  ptBase : Nat := 0
  job : Nat := 0
  step : Nat := 0
  pt : KMap (Bool × Nat) := []
  deriving DecidableEq, Repr

/-- The open step of a pool (R144, R146, R147): its queue and JOB, its number, the rows it serves, the pages reserved
by row (row and page-table index), the joiners with their state before the step, the spill entries of restored joiners. -/
structure KvStep where
  queue : Nat
  job : Nat
  number : Nat
  served : List Nat
  reserved : List (Nat × Nat) := []
  joiners : List (Nat × SeqRow) := []
  deriving DecidableEq, Repr

/-- A training registration (R149): the arena and the engine's copies of STEP, P1, P2 and CKPT. -/
structure Training where
  arena : Nat
  step : Nat
  p1 : Nat
  p2 : Nat
  ckpt : Nat
  deriving DecidableEq, Repr

/-- A line of a KV cache (R142): pool, page, first KV head, heads, and its size in bytes. -/
structure KvLine where
  pool : Nat
  page : Nat
  head0 : Nat
  heads : Nat
  size : Nat
  deriving DecidableEq, Repr

/-- A collective group as this package registered it (R179). -/
structure Coll where
  packages : Nat
  queue : Nat
  partition : Nat
  landing : Nat
  size : Nat
  deriving DecidableEq, Repr

/-- What this package knows of a peer (R177): when its last heartbeat came, how many came in a row while it was
lost, whether it is lost. -/
structure Peer where
  last : Nat := 0
  streak : Nat := 0
  lost : Bool := false
  deriving DecidableEq, Repr

/-- A kill of a command (R97): when, the clusters and tiles that it used, whether a preemption killed it, and the completion
record that reports it, with its tile. -/
structure KillMark where
  time : Nat
  clusters : Nat
  tiles : Nat
  preempted : Bool
  record : Option Nat
  tile : Nat
  deriving DecidableEq, Repr

/-- The engines beside their registers: admitted jobs and running commands by queue (tensor q, Plumb 256 + q), the KV
pools, sequence rows and open steps, the training registrations and when the charge-time session opened, the KV cache
lines by cluster (most recently used first), collective groups, peers, the time of each tile's last E_TILE_ARITH
(R98), the corrected errors of the last second by cluster (R105), the partition of each cluster's last TENSOR window
(R107), the pages of the way owners being cleaned (R168), and the VTEs whose freeze runs (R173). -/
structure Engines where
  jobs : KMap Job := []
  cmds : KMap Cmd := []
  pools : KMap KvPool := []
  rows : KMap SeqRow := []
  steps : KMap KvStep := []
  train : KMap Training := []
  sessionStart : Nat := 0
  /-- The session has reached its time limit since the grant was given (R151). -/
  sessionSpent : Bool := false
  kvLines : KMap (List KvLine) := []
  colls : KMap Coll := []
  peers : KMap Peer := []
  tileFault : KMap Nat := []
  corrected : KMap (List Nat) := []
  lastPart : KMap Nat := []
  cleaning : List Nat := []
  freezing : List Nat := []
  plumbDead : Bool := false
  /-- By group: the packages whose commit acknowledgement the lead misses, and the window of the job (R178). -/
  acks : KMap (Nat × Nat) := []
  /-- By window: the Datum of the last fault kill of a job in it (R69). -/
  killAt : KMap Nat := []
  /-- By queue: the last kill of a command (R97). -/
  killMarks : KMap KillMark := []
  /-- By package: when a KILL was last sent to it (R177). -/
  killsOut : KMap Nat := []
  /-- The address of the secure DRAM region of the sequence table (R131): the firmware's choice (DESIGN CHOICE: log entry 48). -/
  seqBase : Nat := 0x2600000000
  deriving DecidableEq, Repr

/-! ## Safety (chapter 7) -/

/-- A result notice (R195): JOB, STATUS and the address of the published bank. -/
structure Notice where
  job : Nat
  status : Nat
  addr : Nat
  deriving DecidableEq, Repr

/-- The held result of a channel (R199): its OLDEST_NS, its SUBST bit and its payload. -/
structure Held where
  oldest : Nat
  subst : Bool
  data : List Nat
  deriving DecidableEq, Repr

/-- A pipeline's Benchmark (R211–R213): the frames since RUN or its last completion, the position of the next set
among the valid ones, the start of the frame in which it first became due, its deferrals in a row, whether it is urgent,
whether it has been injected in the present frame or its deferral counted in it, failures in a row, whether its
latent-fault timeout stands, and the statuses of the jobs of BQ_MAIN and BQ_PLUMB since the injection. -/
structure Bench where
  frames : Nat := 0
  next : Nat := 0
  due : Option Nat := none
  deferrals : Nat := 0
  urgent : Bool := false
  injected : Bool := false
  counted : Bool := false
  failures : Nat := 0
  late : Bool := false
  mainJob : Option Nat := none
  plumbJob : Option Nat := none
  deriving DecidableEq, Repr

/-- The safety island beside its registers: the safety partition read at reset (R187), the latest notices of the main
and Plumb sources by record, the held results, the Benchmarks by pipeline, the time of the last heartbeat of each
pair (0 A, 1 B), the pairs that a lockstep mismatch has stopped (bit 0 A, bit 1 B), the sequence number of the status
messages and when the last one was sent, the records that have published FRESH since power-up or wake, the entries of
the disagreement log not read yet, display events in a row by display, the last frame of each pipeline that a SAFETY
window decided (plus 1), and the level that SAFE_STATE_N is driven to (true: high). -/
structure Safety where
  partition : Nat := 1
  mainNotice : KMap Notice := []
  plumbNotice : KMap Notice := []
  held : KMap Held := []
  bench : KMap Bench := []
  heartbeat : KMap Nat := []
  stopped : Nat := 0
  seq : Nat := 0
  lastMessage : Nat := 0
  fresh : List Nat := []
  unread : List Nat := []
  display : KMap Nat := []
  decided : KMap Nat := []
  driven : Bool := false
  declaredB : Option Nat := none
  deriving DecidableEq, Repr

/-! ## Firmware and power (chapters 15 and 16) -/

/-- A mailbox beside its registers (R391–R401): its attach count; WPTR when its owner was orphaned (the requests before it
are still served); the notices that wait for a reply slot (type and payload, the oldest first); whether the request at
RPTR is with the Field Book service; whether its answer is E_RETRY (R388). -/
structure Mbox where
  epoch : Nat := 0
  before : Option Nat := none
  notices : List (Nat × List Nat) := []
  fba : Bool := false
  retry : Bool := false
  deriving DecidableEq, Repr

/-- The log of a firmware processor (R397): records written so far, and those not flushed yet, the oldest first. -/
structure FwLog where
  count : Nat := 0
  pending : List (List Nat) := []
  deriving DecidableEq, Repr

/-- An update of an image kind (R413–R416): the image to be staged, whether its slot is B, whether the image now running
is slot B's, whether the NOR word of its activation is being programmed. -/
structure Update where
  image : List Nat := []
  slotB : Bool := false
  runB : Bool := false
  writing : Bool := false
  deriving DecidableEq, Repr

/-- A firmware switch in progress (R415): its boundary, and the processors that have reported ready (bit n). -/
structure Switch where
  start : Nat
  ready : Nat := 0
  deriving DecidableEq, Repr

/-- The firmware processors beside their registers: mailboxes, the last kick of each partition, the orphaned partitions
that have kicked since (bit p), logs, when each watchdog's count was restarted and its expiries of the last 60 s, updates
by kind, and the firmware switch. -/
structure Firmware where
  mbx : KMap Mbox := []
  kick : KMap Nat := []
  kicked : Nat := 0
  logs : KMap FwLog := []
  wdStart : KMap Nat := []
  expiries : KMap (List Nat) := []
  upd : KMap Update := []
  switch : Option Switch := none
  deriving DecidableEq, Repr

/-- The PMU beside its registers (R403–R410, R429, R434): the ceiling of each partition's tensor point (6 at the top) and
graphics point (3 at the top), the tensor point of each cluster and the graphics point, the power domains whose rail is
faulted and the PLLs that are not locked again; whether the condition of THROTTLE holds; since when power has been at
210 W, since when it has been above the training limit with every training unit at point 0, since when the state has been
NORMAL, when EMERGENCY was last left; the times of the last ceiling and shed changes; the voltage trims (mV) by domain;
the sleep mode (0 suspend, 1 deep sleep) that is being entered, the one in force, and whether a wake waits for the entry. -/
structure Pmu where
  ceilT : KMap Nat := []
  ceilG : KMap Nat := []
  pointT : KMap Nat := []
  pointG : Nat := 3
  faulted : Nat := 0
  pllLost : Nat := 0
  throttling : Bool := false
  highSince : Option Nat := none
  overSince : Option Nat := none
  normalSince : Nat := 0
  leftAt : Option Nat := none
  ceilAt : Nat := 0
  shedAt : Nat := 0
  trim : KMap Int := []
  entering : Option Nat := none
  asleep : Option Nat := none
  wakeHeld : Bool := false
  /-- When WAKE_N has been seen low with no sleep entry in progress: an entry that begins in the same clock holds the wake (R437). -/
  wakeAt : Option Nat := none
  deriving DecidableEq, Repr

/-! ## Operation pools (R38) -/

/-- An access that waits for an entry of its pool (R38) or for the initialisation of a cluster's stores (R106), with the attribute
that it carries since it was issued (R297); `cached`: its
line goes into the caches of the core (R298). -/
structure HeldAccess where
  who : Agent
  attr : Attr
  addr : Nat
  acc : BusOp
  ecc : EccEvent
  cached : Bool := false
  deriving DecidableEq, Repr

/-- A line that a core's caches hold (R298): the quad (4: the secure cluster), the number of the 64-byte line, and the
attribute under which it was filled. -/
structure CacheLine where
  quad : Nat
  line : Nat
  attr : Attr
  deriving DecidableEq, Repr

/-- A pool: entries in use, and the accesses that are held back, first in first out. -/
structure PoolUse where
  used : Nat := 0
  waiting : List HeldAccess := []
  deriving DecidableEq, Repr


/-! ## Traverse (chapter 8) -/

/-- A candidate (R236, R239, R241): its FATE code, iterations, J of the state that its first primitive reaches, its
primitive chain, its controls (κ, a) as FP32 codes, and the first colliding pose of each checker (0xFFFF: none). -/
structure Cand where
  fate : Nat := 0
  iters : Nat := 0
  j : Nat := 0
  chain : List Nat := []
  controls : List (Nat × Nat) := []
  mainHit : Nat := 0xFFFF
  plumbHit : Nat := 0xFFFF
  deriving DecidableEq, Repr

/-- The admitted plan (R232): its context, the words of its request, its admission time, bound, window, stage
(0 fallback, 1 search, 2 optimisation, 3 output), flags, the fallback's controls, the candidates, the sampled slot and
the check grid's epoch, the outcome, the rank published (15: the fallback) and the candidates invalidated. -/
structure Plan where
  ctx : Nat
  req : List Nat
  start : Nat
  bound : Nat
  window : Nat
  stage : Nat := 0
  repair : Bool := false
  partially : Bool := false
  restarted : Bool := false
  fbCollides : Bool := false
  fallback : List (Nat × Nat) := []
  cands : List Cand := []
  latest : Option Nat := none
  checkEpoch : Nat := 0
  outcome : Nat := 0
  rank : Nat := 15
  invalidated : Nat := 0
  updates : Nat := 0
  deriving DecidableEq, Repr

/-- A plan context beside its registers: the grid, goal and library parameters that its valid arena was computed for,
with that plan's epoch and start, and the part of the arena's header that the search uses: the state that each J comes from;
whether a library mismatch or a refused completion record stops admission. -/
structure TrvCtx where
  arena : Option (List Nat) := none
  epoch : Nat := 0
  startX : Nat := 0
  startY : Nat := 0
  source : KMap Nat := []
  libBad : Bool := false
  stopped : Bool := false
  lastCheck : Nat := 0
  deriving DecidableEq, Repr

/-- Traverse (R224): the plan it runs and its contexts. -/
structure Traverse where
  plan : Option Plan := none
  ctx : KMap TrvCtx := []
  deriving DecidableEq, Repr


/-! ## Graphics and displays (chapter 9) -/

/-- A running pass (R251–R255): what it draws, the number of primitives that flushes have rendered, the number that the
binner has sorted into the tile lists, and its pixel-store area: depth and stencil by pixel and sample, where they differ from
the clear values. -/
structure PassRun where
  draw : Draw
  done : Nat := 0
  listed : Nat := 0
  area : KMap (Nat × Nat) := []
  deriving DecidableEq, Repr

/-- An admitted graphics job (R247, R249–R259): the ring index of its first record, its place in the order of admission, its
admission time, bound, window and PRIO; the slot of the record that has begun (with its opcode) and, once a COMMIT is decoded,
that it is; the pass that runs; the mode and flags for the completion record, FLUSHED also as it was
before the present flush; since when the binner waits or flushes and the time so spent; since when its dispatch is to yield. -/
structure GfxJob where
  first : Nat
  order : Nat := 0
  start : Nat
  bound : Nat
  window : Nat
  prio : Nat
  run : Option Nat := none
  runOp : Nat := 0
  committing : Bool := false
  pass : Option PassRun := none
  binned : Bool := false
  flushed : Bool := false
  flushedBefore : Bool := false
  faultSince : Option Nat := none
  flushSince : Option Nat := none
  spent : Nat := 0
  yieldSince : Option Nat := none
  deriving DecidableEq, Repr

/-- A graphics context beside its registers: its job, its heap pages, whether a refused completion record has stopped it,
whether a dispatch of the job at RPTR was requeued, the shader cores on which the composition job at RPTR preempts compute. -/
structure GfxCtx where
  job : Option GfxJob := none
  heap : List Nat := []
  stopped : Bool := false
  resubmitted : Bool := false
  preempts : Option Nat := none
  deriving DecidableEq, Repr

/-- A display controller beside its registers (R257, R260–R267): the pending buffers of JOB planes with the time of the
completion that made each so (the newest first), the buffers of SW planes latched at the frame start, the tell-tale buffer and
palette latched, the expected values in force by region, the value that a region's registers held before the last instant of
a write with that instant, the start of the present frame, the steps of Datum seen when it last locked, whether its link has
trained since EN; of the present frame: whether it is a display event, its late lines, and the tell-tale pixels whose fetch met
an ECC error. -/
structure Display where
  pending : KMap (List (Nat × Nat)) := []
  latched : KMap Nat := []
  ttAddr : Nat := 0
  clut : List Nat := []
  exps : KMap Nat := []
  expAt : KMap (Nat × Nat) := []
  frameAt : Nat := 0
  lockSeq : Nat := 0
  trained : Bool := false
  event : Bool := false
  late : List LateLine := []
  ttEcc : List (Nat × Nat) := []
  deriving DecidableEq, Repr

/-- Graphics contexts and displays by number, and the graphics jobs admitted since reset. -/
structure Graphics where
  ctx : KMap GfxCtx := []
  admissions : Nat := 0
  dsp : KMap Display := []
  deriving DecidableEq, Repr


/-! ## Media and staging (chapter 10) -/

/-- A sample record as the device holds it (R272), with the colour format of its picture (0 NV12, 1 RGB888, 2 P010) and
the steps of Datum seen when its picture was captured. -/
structure SampleRec where
  status : Nat
  tag : Nat
  seq : Nat
  subst : Bool
  absent : Bool
  abandoned : Bool
  w : Nat
  h : Nat
  capture : Nat
  addr : Nat
  fmt : Nat
  step : Nat
  deriving DecidableEq, Repr

/-- A good sample (R273): its picture, capture time, colour format, steps of Datum seen, and (capture) its buffer. -/
structure GoodSample where
  addr : Nat
  w : Nat
  h : Nat
  capture : Nat
  fmt : Nat
  step : Nat
  buf : Nat := 0
  deriving DecidableEq, Repr

/-- A source (R271): its newest record, the instant of that and the newest one of an earlier instant (R293), its last good
sample and the SEQ of its next record. -/
structure MedSrc where
  newest : Option SampleRec := none
  newestAt : Nat := 0
  before : Option SampleRec := none
  good : Option GoodSample := none
  seq : Nat := 0
  deriving DecidableEq, Repr

/-- A frame being captured (R276–R278): its buffer, CAPTURE_NS, when it began, the frame number, the steps of Datum
seen, the lines so far and their raw bytes, and whether an error has been met. -/
structure Capture where
  buf : Nat
  capture : Nat
  start : Nat
  tag : Nat
  step : Nat
  lines : Nat := 0
  raw : List Nat := []
  bad : Bool := false
  deriving DecidableEq, Repr

/-- An admitted ISP job with a memory input (R279): the raw frame, TAG and capture time, its output buffer, when it began, its
bound, its window, and the steps of Datum seen. -/
structure IspJob where
  raw : Nat
  tag : Nat
  capture : Nat
  buf : Nat
  start : Nat
  bound : Nat
  window : Nat
  step : Nat
  deriving DecidableEq, Repr

/-- A capture source beside its registers: the frame in progress, the buffer that comes next, its ISP job with a memory input, and
the ring slots of the records that software has not read. -/
structure CapSrc where
  frame : Option Capture := none
  next : Nat := 0
  isp : Option IspJob := none
  unread : List Nat := []
  deriving DecidableEq, Repr

/-- A sample descriptor (R283): SEQHDR, TAG, ADDR, BYTES, CAPTURE_NS, and whether its reserved bits are 0. -/
structure SampleDesc where
  seqhdr : Bool
  tag : Nat
  addr : Nat
  bytes : Nat
  capture : Nat
  clean : Bool
  deriving DecidableEq, Repr

/-- A checked sample descriptor of a context (R283): its slot, the descriptor as read, the code of the check, the steps of Datum
seen. -/
structure Checked where
  slot : Nat
  desc : SampleDesc
  code : Nat
  step : Nat
  deriving DecidableEq, Repr

/-- A media context beside its registers (R282–R286): the checked descriptors, the oldest first, the admitted sample
(start, budget and window), the declared size, whether an abandoned picture breaks what follows, the last 100 outcomes
(true: abandoned, the newest first), whether a refused record has stopped the context. -/
structure MedCtx where
  checked : List Checked := []
  admitted : Option (Nat × Nat × Nat) := none
  decl : Option (Nat × Nat) := none
  broken : Bool := false
  outcomes : List Bool := []
  stopped : Bool := false
  deriving DecidableEq, Repr

/-- A bucket record of the staging table (R289). -/
structure StBucket where
  outW : Nat
  outH : Nat
  ofmt : Nat
  foldCode : Nat
  bicubic : Nat
  csc : Nat
  depth : Nat
  low : Nat
  base : Nat
  hdr : Nat
  entry : Nat
  means : List Nat
  scales : List Nat
  deriving DecidableEq, Repr

/-- A slot record of the staging table (R289). -/
structure StSlot where
  source : Nat
  bucket : Nat
  flipH : Bool
  flipV : Bool
  rot : Nat
  cropX : Nat
  cropY : Nat
  cropW : Nat
  cropH : Nat
  angle : Int
  fill : Nat
  deriving DecidableEq, Repr

/-- What a staging job took for a slot (R288): the slot, the record that stood (if any), whether the slot is present and
whether it is substituted. -/
structure StTaken where
  slot : StSlot
  record : Option SampleRec
  present : Bool
  subst : Bool
  deriving DecidableEq, Repr

/-- A staging job (R287): its admission time, window, bound, frame and what it took. -/
structure StJob where
  start : Nat
  window : Nat
  bound : Nat
  frame : Nat
  taken : List StTaken
  deriving DecidableEq, Repr

/-- A staging context beside its registers (R287–R292): the device's copy of the table (buckets by number, valid slots in
order), the SEQ last staged by source, the running job, whether a job has been admitted in the present frame, whether a
frame has started since EN, whether the frame's job is rejected or its window has ended without it, and by bucket the last change
of its depth: the instant, the depth before that instant, LOW before it, and whether the alarm was raised in it (R293). -/
structure StCtx where
  buckets : KMap StBucket := []
  slots : List StSlot := []
  staged : KMap Nat := []
  job : Option StJob := none
  produced : Bool := false
  live : Bool := false
  rejected : Bool := false
  missed : Bool := false
  depths : KMap (Nat × Nat × Nat × Bool) := []
  deriving DecidableEq, Repr

/-- The media units: sources (capture s, context 32 + x), captures, contexts and staging contexts. -/
structure Media where
  src : KMap MedSrc := []
  cap : KMap CapSrc := []
  ctx : KMap MedCtx := []
  st : KMap StCtx := []
  deriving DecidableEq, Repr


/-! ## Gateway and bridges (chapter 13) -/

/-- What the period timer of a flow has just emitted (R352): the instant, for an endpoint its write pointer and SEQ before it, and
whether the output was dropped at the egress or at the endpoint. -/
structure TimerOut where
  time : Nat
  wptr : Nat
  seq : Nat
  lostOut : Bool
  lostEp : Bool
  deriving DecidableEq, Repr

/-- The state of a flow (R343): whether an unsent value stands, the value with its stamp, its ingress interface and keys,
the times of the last input and output, whether the timeout since the last input has been taken, and the period timer's last
output. -/
structure FlowVal where
  fresh : Bool := false
  buf : List Nat := []
  bufNs : Nat := 0
  iface : Nat := 0
  key0 : Nat := 0
  key1 : Nat := 0
  lastIn : Option Nat := none
  lastOut : Option Nat := none
  timedOut : Bool := false
  timer : Option TimerOut := none
  deriving DecidableEq, Repr

/-- Sequence recovery of IEEE 802.1CB for a flow (R335): whether any number is taken next, the last number, the history of
32 (the newest first), and when the last frame was accepted. -/
structure Recov where
  takeAny : Bool := true
  seq : Nat := 0
  hist : List Bool := []
  last : Nat := 0
  deriving DecidableEq, Repr

/-- A frame that waits at an egress (R343): its flow (65536: none), traffic class, CAN format, keys, and bytes. -/
structure EgFrame where
  flow : Nat
  tc : Nat
  fmt : Nat
  key0 : Nat
  key1 : Nat
  bytes : List Nat
  deriving DecidableEq, Repr

/-- An open endpoint (R338, R344): its owner, ring sizes and slot size as log2, flow range, ring bases, and SEQ. -/
structure Endpoint where
  owner : Attr
  rxLog : Nat
  txLog : Nat
  slotLog : Nat
  lo : Nat
  hi : Nat
  rx : Nat
  tx : Nat
  seq : Nat := 0
  deriving DecidableEq, Repr

/-- The operational gate list of a MAC (R336): LEN, BASE_NS and entries, and the gates that stood open as it came into force, of
which one frame may still be on the wire (R352). -/
structure Gate where
  len : Nat
  base : Nat
  entries : List Nat
  wire : Nat := 0
  deriving DecidableEq, Repr

/-- The gateway beside its registers: flow contexts (16 words), their state, map entries, destination entries (64 bytes),
endpoints, the waiting frames by interface, 802.1CB recovery and generation by flow, gate lists, when a pending swap was checked,
transmit error counters
of the CAN controllers, the LIN frame identifier whose response is due by controller, and the MACs whose link is up. -/
structure Gateway where
  flows : KMap (List Nat) := []
  vals : KMap FlowVal := []
  maps : KMap Nat := []
  dests : KMap (List Nat) := []
  eps : KMap Endpoint := []
  egress : KMap (List EgFrame) := []
  recov : KMap Recov := []
  genSeq : KMap Nat := []
  gates : KMap Gate := []
  swaps : KMap Nat := []
  tec : KMap Nat := []
  lin : KMap Nat := []
  ethUp : Nat := 0
  deriving DecidableEq, Repr

/-- An inbound PCIe request that waits for an entry of the inbound pool (R38, R351): the package that sends it, its fence
group, its offset, what it does and what the ECC logic finds. -/
structure Inbound where
  package : Nat
  group : Nat
  offset : Nat
  acc : BusOp
  ecc : EccEvent
  deriving DecidableEq, Repr

/-- The bridges beside their registers (R346–R352): the groups whose fence read waits, the entries logged since each
group's last fence, the packages that a group has written since then, the reads aborted whose completion has not
arrived, whether the PCIe link is down, the groups whose lost writes are logged since then, the inbound requests that
wait, the oldest first, the bytes of the completion buffer that the outbound entries hold, the oldest first (R351), the instant of the
last change of the inbound windows with those enabled before it, and the last fence read aborted: its group, the instant and
what ERRS then reads (R352). -/
structure Bridges where
  fences : List Nat := []
  fresh : KMap Nat := []
  written : KMap Nat := []
  aborted : Nat := 0
  linkDown : Bool := false
  downLogged : Nat := 0
  inbound : List Inbound := []
  buffer : List Nat := []
  windowsWas : Option (Nat × Nat) := none
  fenceAborted : Option (Nat × Nat × Nat) := none
  deriving DecidableEq, Repr

/-! ## Field Book Access and the journal (chapter 14) -/

/-- A request that waits (R371): its source, its CAN format, its bytes, and how often its session had been opened when
it arrived (R384). -/
structure FbaReq where
  source : FbaSource
  fmt : Nat
  bytes : List Nat
  epoch : Nat
  deriving DecidableEq, Repr

/-- An open session (R367, R369): the source bound to it, the session nonce, the last accepted FRESH, the device's counter,
when a request was last accepted. -/
structure FbaSession where
  source : FbaSource
  nonce : List Nat
  rx : Nat := 0
  tx : Nat := 0
  last : Nat := 0
  deriving DecidableEq, Repr

/-- The violations of a source in the present second, and until when it is muted (R375). -/
structure FbaCount where
  source : FbaSource
  count : Nat := 0
  muted : Option Nat := none
  deriving DecidableEq, Repr

/-- A copy of the journal (R377, R380): its active half, that half's generation, its next slot, whether the copy failed. -/
structure JournalCopy where
  half : Nat := 0
  gen : Nat := 0
  next : Nat := 0
  failed : Bool := true
  deriving DecidableEq, Repr

/-- The record in progress (R379): bytes 0–55, the entry and the value, the copy (0 A, 1 B) that is being programmed,
the request that it answers at its commit, the session that the commit opens (R367), and when it began (R384). -/
structure JournalRecord where
  body : List Nat
  index : Nat
  sub : Nat
  value : Nat
  copy : Nat
  request : Option FbaReq
  opens : Option FbaSession := none
  begun : Nat := 0
  deriving DecidableEq, Repr

/-- The Field Book service: requests that wait, open sessions and how often each was opened, sources with violations; the
journal's copies (0 A, 1 B), the next SEQ, the record in progress, the copy being compacted, the first SEQ of the
compaction's records, and the session that has closed idle last, with the instant (R384). -/
structure Fba where
  queue : List FbaReq := []
  sessions : KMap FbaSession := []
  epochs : KMap Nat := []
  sources : List FbaCount := []
  copies : KMap JournalCopy := []
  seq : Nat := 0
  record : Option JournalRecord := none
  compacting : Option Nat := none
  compactSeq : Option Nat := none
  idled : Option (Nat × Nat × FbaSession) := none
  deriving DecidableEq, Repr

/-- The half header of a formatted journal (R377): MAGIC, GEN 0, zeros, the CRC-32 of these. -/
def journalHeader : List Nat := [0x46, 0x42, 0x4A, 0x31] ++ List.replicate 56 0 ++ [0xA2, 0x6B, 0x81, 0x30]

/-- The flash of xSPI port 1 as fitted: both copies formatted, no records (DESIGN CHOICE, log entry 37). -/
def journalFormatted : List Host.Cell :=
  [0, 0x200000].flatMap (fun base =>
    ((List.range 64).map (fun i => ((base + i : Nat), BitVec.ofNat 8 (255 - journalHeader.getD i 255)))).filter (fun c => c.2 != 0))

/-! ## Boot and debug (chapter 16) -/

/-- The boot (R431, R433): the stage that the device has reached (0: none yet, or held in reset), whether the boot ROM stays
resident, whether the application cores are released. -/
structure Boot where
  stage : Nat := 0
  resident : Bool := false
  appCores : Bool := false
  deriving DecidableEq, Repr

/-- The debug port (R442): the challenge read last and not used yet, the refusals since power-on, the partitions that a
level 1 unlock names. -/
structure Debug where
  challenge : Option (List Nat) := none
  refusals : Nat := 0
  parts : Nat := 0
  deriving DecidableEq, Repr

/-- The instructions of the TAP (R441). -/
inductive TapInstr where
  | bypass | idcode | samplePreload | extest | clamp | highz
  deriving DecidableEq, Repr

/-- The TAP (R441): its instruction, and the bits preloaded into the boundary cells. -/
structure Tap where
  instr : TapInstr := .idcode
  cells : List Bool := []
  deriving DecidableEq, Repr

/-- The state of the device. `freeCtr` is the model's own: it counts the free values drawn (`Config`). -/
structure State where
  /-- The commands that wait, first in first out. -/
  pending : List Instr := []
  /-- Free values drawn so far (the model's own field). -/
  freeCtr : Nat := 0
  /-- Datum nanoseconds (R41). -/
  datum : Nat := 0
  /-- The part of a nanosecond that the rate has accumulated, in units of 1/(64 × 10⁹) ns (MER_RATE). -/
  datumFrac : Nat := 0
  /-- Steps of Datum so far: a stamp taken before a step is not comparable with one taken after it (R46, R54). -/
  stepSeq : Nat := 0
  /-- Register fields by key; an unlisted field holds its reset value. -/
  regs : KMap Nat := []
  /-- Field Book values by index × 256 + sub-index; an unlisted entry holds its default. -/
  fb : KMap Nat := []
  /-- Memory: boot ROM, SRAM, DRAM and PCIe far memory by physical address. -/
  mem : List Host.Cell := []
  /-- Read latches of R10 and R44, by hart and register. -/
  latch : KMap Nat := []
  /-- Held low-word writes of R10, by hart and register. -/
  held : KMap Nat := []
  /-- The bus response of the last access. -/
  resp : Resp := {}
  /-- What has left the block, oldest first. -/
  out : List Output := []
  icnSrc : KMap IcnSrc := []
  icnTgt : KMap IcnTgt := []
  worlds : Worlds := {}
  pins : Pins := {}
  fuses : Fuses := {}
  /-- The boot NOR on xSPI port 0 by flash offset (R412): the complement of each byte, so that erased flash lists nothing. -/
  nor : List Host.Cell := []
  eng : Engines := {}
  saf : Safety := {}
  pmu : Pmu := {}
  fw : Firmware := {}
  /-- Operation pools in use, by pool number (and partition, for a DRAM controller). -/
  opPools : KMap PoolUse := []
  /-- The lines in the caches of the application quads and the secure cluster (R298). -/
  cache : List CacheLine := []
  /-- GiB fitted on each DRAM channel, at most 4 (R35; DESIGN CHOICE, log entry 3: 4 GiB). -/
  dramGiB : Nat := 4
  /-- The channel groups whose inline ECC the secure firmware's plan turns off (R431): part of its image (log entry 5). -/
  eccPlan : Nat := 0
  servo : Servo := {}
  mer : Meridian := {}
  timeIn : KMap TimeIn := []
  trv : Traverse := {}
  gfx : Graphics := {}
  med : Media := {}
  gwy : Gateway := {}
  brg : Bridges := {}
  fba : Fba := {}
  /-- The journal flash on xSPI port 1 by flash offset (R377), complemented like `nor`. -/
  jrn : List Host.Cell := journalFormatted
  /-- The secure image in UFS Boot LU A from LBA 0, header first (R433). -/
  ufs : List Host.Cell := []
  boot : Boot := {}
  dbg : Debug := {}
  jtag : Tap := {}
  /-- The bytes [lo, hi) of banks that PUB does not name: their content is undefined to every reader (R91). -/
  unpub : List (Nat × Nat) := []
  deriving DecidableEq, Repr

/-- The device right after reset release: every register field at the Reset column of its table, the Field Book at
its defaults, memory with nothing listed, no work in any unit (log entries 3, 4, 5, 37 and 38 name the values chosen). -/
def State.reset : State := {}

end Sys2Proof.Machine
end

