-- ==== Sys2Proof/Machine/Ops.lean ====
section
/-! DEFINITION. The named operations over the state: register fields, the Field Book, memory, free values,
time, the transaction attribute, and the outcome of a command. -/

namespace Sys2Proof.Machine
open Sys2Proof

/-- The outcome of every meaning. -/
abbrev Out := Host.Outcome State Fault Refusal

/-- The command completes with a state. -/
def done (s : State) : Out := .next s

/-- A mask with bit `t` set, and with it cleared. -/
def setMask (m t : Nat) : Nat := if bitOf m t then m else m + 2 ^ t
def clrMask (m t : Nat) : Nat := if bitOf m t then m - 2 ^ t else m

/-! ## Register fields -/

/-- The register table of the block that holds an address (R37). -/
def blockTable (a : Nat) : List RegD :=
  if a < 0x10100000 then regTableSYS else if a < 0x10200000 then regTableMER
  else if a < 0x10300000 then regTableICN else if a < 0x10400000 then regTableCAD
  else if a < 0x10500000 then regTablePMU else if a < 0x10600000 then regTableSAF
  else if a < 0x12000000 then regTableTEN else if a < 0x14000000 then regTablePLB
  else if a < 0x15000000 then regTableTRV else if a < 0x16000000 then regTableGFX
  else if a < 0x17000000 then regTableDSP else if a < 0x18000000 then regTableMED
  else if a < 0x19000000 then regTableGWY else if a < 0x1A000000 then regTableBRG
  else if a < 0x1B000000 then regTableMBX else if a < 0x1C000000 then regTableDDR
  else regTableCRY

/-- The reset value of the field at bit `lo` in a list of fields. -/
def resetIn : List FieldD → Nat → Nat
  | [], _ => 0
  | f :: fs, lo => if f.lo = lo then f.rst else resetIn fs lo

/-- The reset value of the field with a key (R13): the register tables' Reset column. -/
def fieldReset (key : Nat) : Nat :=
  match findReg (blockTable (key / 64)) (key / 64) with
  | some h => resetIn h.reg.fields (key % 64)
  | none => 0

/-- A field's value, as many bits as the field has. -/
def State.get (s : State) (f : Field) : Nat := KMap.getD s.regs f.key (fieldReset f.key) % 2 ^ f.width

/-- The state with a field set (reduced to the field's width). -/
def State.set (s : State) (f : Field) (v : Nat) : State :=
  { s with regs := KMap.set (fieldReset f.key) s.regs f.key (v % 2 ^ f.width) }

/-- A one-bit field as a truth value. -/
def State.bit (s : State) (f : Field) : Bool := s.get f ≠ 0

/-- The state with a one-bit field set. -/
def State.setBit (s : State) (f : Field) (b : Bool) : State := s.set f (b2n b)

/-- A saturating increment of a counter field (R13). -/
def State.inc (s : State) (f : Field) : State := s.set f (satAdd f.width (s.get f) 1)

/-- A wrapping increment of a counter field. -/
def State.wrapInc (s : State) (f : Field) : State := s.set f (s.get f + 1)

/-! ## Field Book -/

/-- The table row of an entry. -/
def fbFind : List FbEntry → Nat → Nat → Option FbEntry
  | [], _, _ => none
  | e :: es, i, sub =>
    if e.index ≤ i ∧ i < e.index + e.idxCount ∧ e.subLo ≤ sub ∧ sub ≤ e.subHi then some e else fbFind es i sub

/-- The unsigned encoding of an entry's default. -/
def FbEntry.dfltNat (e : FbEntry) : Nat := unsignedOf (8 * e.size) e.dflt

/-- The default of the entry with a key (index × 256 + sub-index). -/
def fbDefault (key : Nat) : Nat :=
  match fbFind fbTable (key / 256) (key % 256) with
  | some e => e.dfltNat
  | none => 0

/-- A Field Book value (unsigned encoding). -/
def State.fbGet (s : State) (i sub : Nat) : Nat := KMap.getD s.fb (i * 256 + sub) (fbDefault (i * 256 + sub))

/-- The state with a Field Book value set. -/
def State.fbSet (s : State) (i sub v : Nat) : State :=
  { s with fb := KMap.set (fbDefault (i * 256 + sub)) s.fb (i * 256 + sub) v }

/-- A U32 counter of the Field Book counts one event; it saturates. -/
def State.fbInc (s : State) (i sub : Nat) : State := s.fbSet i sub (satAdd 32 (s.fbGet i sub) 1)

/-! ## Memory -/

/-- The byte at an address. A byte that nothing has written reads 0: SRAM is zeroed at power-up (R106); for DRAM
the spec gives no contents (DESIGN CHOICE, log entry 4). -/
def Memory.read (m : List Host.Cell) (a : Nat) : Byte := KMap.getD m a 0

/-- Memory with a byte written. -/
def Memory.write (m : List Host.Cell) (a : Nat) (b : Byte) : List Host.Cell := KMap.set 0 m a b

/-- The canonical form of memory: addresses strictly rising, no entry equal to what an unlisted address reads as. -/
def Memory.wf (m : List Host.Cell) : Bool := KMap.canon (fun _ => (0 : Byte)) m

/-- `n` bytes from an address. -/
def Memory.readBytes (m : List Host.Cell) (a : Nat) : Nat → List Nat
  | 0 => []
  | n + 1 => (Memory.read m a).toNat :: Memory.readBytes m (a + 1) n

/-- Memory with bytes written from an address. -/
def Memory.writeBytes (m : List Host.Cell) (a : Nat) : List Nat → List Host.Cell
  | [] => m
  | b :: bs => Memory.writeBytes (Memory.write m a (BitVec.ofNat 8 b)) (a + 1) bs

/-- Memory with the bytes of `[lo, hi)` zeroed. -/
def Memory.clear (m : List Host.Cell) (lo hi : Nat) : List Host.Cell := m.filter (fun c => c.1 < lo || hi ≤ c.1)

/-- `n` bytes of memory from an address, as byte values. -/
def State.rd (s : State) (a n : Nat) : List Nat := Memory.readBytes s.mem a n

/-- The little-endian value of `n` bytes of memory (R14). -/
def State.rdLe (s : State) (a n : Nat) : Nat := leValue (s.rd a n)

/-- A range without the bytes of `[lo, hi)`. -/
def cutRange (lo hi : Nat) (r : Nat × Nat) : List (Nat × Nat) :=
  [(r.1, min r.2 lo), (max r.1 hi, r.2)].filter (fun p => decide (p.1 < p.2))

/-- The bytes of `[lo, hi)` hold what they were given. -/
def State.define (s : State) (lo hi : Nat) : State := { s with unpub := s.unpub.flatMap (cutRange lo hi) }

/-- The bytes of `[lo, hi)` are undefined to every reader (R91). -/
def State.undefine (s : State) (lo hi : Nat) : State :=
  if lo < hi then { s with unpub := (lo, hi) :: s.unpub.flatMap (cutRange lo hi) } else s

/-- A byte of memory is undefined to a reader. -/
def State.hidden (s : State) (a : Nat) : Bool := s.unpub.any (fun r => decide (r.1 ≤ a) && decide (a < r.2))

/-- The state with bytes written to memory. -/
def State.wr (s : State) (a : Nat) (bs : List Nat) : State :=
  { s with mem := Memory.writeBytes s.mem a bs, unpub := s.unpub.flatMap (cutRange a (a + bs.length)) }

/-- The state with an `n`-byte little-endian value written to memory. -/
def State.wrLe (s : State) (a n v : Nat) : State := s.wr a (leBytes n v)

/-- The state with a range of memory zeroed. -/
def State.clearMem (s : State) (lo hi : Nat) : State :=
  { s with mem := Memory.clear s.mem lo hi, unpub := s.unpub.flatMap (cutRange lo hi) }

/-! ## Free values, outputs, responses -/

/-- A free number; the state that has drawn it. -/
def State.freeNat (s : State) : Nat × State := (Config.freeNat s.freeCtr, { s with freeCtr := s.freeCtr + 1 })

/-- The little-endian value of `n` bytes as a reader outside the engines sees them: an undefined byte reads as a free
value. -/
def State.seenLe (s : State) (a n : Nat) : Nat × State :=
  if (List.range n).any (fun i => s.hidden (a + i)) then
    let (x, s') := s.freeNat
    (leValue ((List.range n).map (fun i =>
      if s.hidden (a + i) then x / 256 ^ i % 256 else (Memory.read s.mem (a + i)).toNat)), s')
  else (s.rdLe a n, s)

/-- Free numbers, one after the other. -/
def State.freeNats (s : State) : Nat → List Nat × State
  | 0 => ([], s)
  | n + 1 =>
    let (x, s) := s.freeNat
    let (xs, s) := s.freeNats n
    (x :: xs, s)

/-- A failure code that the spec leaves open, from a free number: a general code or one of a block's range, never OK and
never a reserved one (R19, R20). -/
def failureCode (x : Nat) : Nat := if x % 0xA0C < 12 then x % 0xA0C + 1 else x % 0xA0C - 12 + 0x100

/-- A free integer; the state that has drawn it. -/
def State.freeInt (s : State) : Int × State := (Config.freeInt s.freeCtr, { s with freeCtr := s.freeCtr + 1 })

/-- A free truth value; the state that has drawn it. -/
def State.freeBool (s : State) : Bool × State := (Config.freeBool s.freeCtr, { s with freeCtr := s.freeCtr + 1 })

/-- Something leaves the block. -/
def State.emit (s : State) (o : Output) : State := { s with out := s.out ++ [o] }

/-- The access is answered with data. -/
def State.answer (s : State) (v : Nat) : State := { s with resp := { data := v, err := false } }

/-- The access reports a status for which its register has no field. -/
def State.report (s : State) (c : Nat) : State := { s with resp := { s.resp with status := c } }

/-- The access is answered with a bus error (data 0). -/
def State.busError (s : State) : State := { s with resp := { data := 0, err := true } }

/-! ## Time -/

/-- A slew after `n` ns of the reference clock (R50): what is left to remove, in units of 1/(64 × 10⁹) ns. -/
def Servo.slewed (v : Servo) (n : Nat) : Servo := { v with slewLeft := v.slewLeft - n * v.slewRate.natAbs }

/-- The reference clock elapses `n` nanoseconds: Datum advances by `n` adjusted by the rate, whose unit is 1/64 ppb
(R42, R43), and by the slew in progress (R50). -/
def State.elapse (s : State) (n : Nat) : State :=
  let slew : Int := s.servo.slewRate.sign * (min s.servo.slewLeft (n * s.servo.slewRate.natAbs) : Nat)
  let t : Int := (s.datumFrac : Int) + (n : Int) * (64000000000 + signed 32 (s.get Reg.MER_RATE_ADJ)) + slew
  { s with datum := ((s.datum : Int) + t / 64000000000).toNat, datumFrac := (t % 64000000000).toNat, servo := s.servo.slewed n }

/-- Time passes until Datum reads at least `t`. A slew in progress goes on for as many nanoseconds of Datum (within 0.1 % of
the reference clock's: DESIGN CHOICE, log entry 1). -/
def State.advanceTo (s : State) (t : Nat) : State :=
  if t ≤ s.datum then s else { s with datum := t, datumFrac := 0, servo := s.servo.slewed (t - s.datum) }

/-- TS32: the low 32 bits of Datum nanoseconds (R15). -/
def State.ts32 (s : State) : Nat := s.datum % 2 ^ 32

/-! ## The transaction attribute (R30, R296, R297) -/

/-- The eight attribute bits of R296. -/
def Attr.toNat (a : Attr) : Nat := b2n a.secure * 64 + a.partition

/-- The attribute with given bits. -/
def Attr.ofNat (n : Nat) : Attr := ⟨bitOf n 6, n % 64⟩

/-- mwattr of a core (application cores 0–15, secure cluster cores 16 and 17). -/
def State.mwattr (s : State) (core : Nat) : Attr :=
  let a := KMap.getD s.worlds.mwattr core ⟨true, 0⟩
  if 16 ≤ core then { a with secure := true } else a

/-- The attribute of an access in a mode (R297): M-mode accesses carry Secure, partition 0, lower modes mwattr. -/
def State.modeAttr (s : State) (core : Nat) (mode : Mode) : Attr :=
  match mode with
  | .m => ⟨true, 0⟩
  | _ => s.mwattr core

/-- The mode whose attribute a load or store takes: that of MPP while M-mode runs with MPRV = 1. -/
def effMode (mode : Mode) (mprv : Option Mode) : Mode :=
  match mode, mprv with
  | .m, some mpp => mpp
  | own, _ => own

/-- The attribute of a transaction (R30). The safety island and a firmware processor on its own account carry
Secure, partition 0; the debug port that which the debugger chooses, within its unlock (R442). -/
def State.attrOf (s : State) : Agent → Attr
  | .core n mode mprv => s.modeAttr n.val (effMode mode mprv)
  | .sec n mode mprv => s.modeAttr (16 + n.val) (effMode mode mprv)
  | .pairA => ⟨true, 0⟩
  | .pairB => ⟨true, 0⟩
  | .fw _ => ⟨true, 0⟩
  | .work _ sec p => ⟨sec, p.val⟩
  | .debug sec p => ⟨sec, p.val⟩

/-- The debug port may make an access (R442): everything at level 2; at level 1 the Normal world of the partitions that
the token names. Every other initiator may. -/
def State.debugMay (s : State) : Agent → Bool
  | .debug sec p =>
    s.get Reg.SYS_DBG_STATUS_LEVEL = 2 || (s.get Reg.SYS_DBG_STATUS_LEVEL = 1 && !sec && bitOf s.dbg.parts p.val)
  | _ => true

/-- The hart number under which R10 and R44 keep an agent's latches. -/
def hartOf : Agent → Nat
  | .core n _ _ => n.val
  | .sec n _ _ => 16 + n.val
  | .pairA => 18
  | .pairB => 19
  | .fw n => 20 + n.val
  | .debug _ _ => 43
  | .work _ sec p => 64 + b2n sec * 64 + p.val

/-! ## Enabled units (R5, R6) -/

/-- A tensor cluster is present. -/
def State.clusterOn (s : State) (c : Nat) : Bool := bitOf (s.get Reg.SYS_UNIT_MASK_CLUSTER_EN) c

/-- An application core is present: its quad is. -/
def State.coreOn (s : State) (c : Nat) : Bool := bitOf (s.get Reg.SYS_UNIT_MASK_QUAD_EN) (c / 4)

/-- A power domain is powered (R402). -/
def State.powered (s : State) (d : Nat) : Bool := bitOf (s.get Reg.PMU_PD_STATE_PD) d

end Sys2Proof.Machine
end

