-- ==== Sys2Proof/Machine/Cadastre.lean ====
section
/-! DEFINITION. The Cadastre checkers (chapter 11): which checker guards an address, the decision of R300, what a
refusal leaves (R301, R302), and the gate that every register access passes. -/

namespace Sys2Proof.Machine
open Sys2Proof

/-- The checker of a register block (R299): 48 to 64 in the order of R37. -/
def blockChecker (a : Nat) : Nat :=
  if a < 0x10100000 then 48 else if a < 0x10200000 then 49 else if a < 0x10300000 then 50
  else if a < 0x10400000 then 51 else if a < 0x10500000 then 52 else if a < 0x10600000 then 53
  else if a < 0x12000000 then 54 else if a < 0x14000000 then 55 else if a < 0x15000000 then 56
  else if a < 0x16000000 then 57 else if a < 0x17000000 then 58 else if a < 0x18000000 then 59
  else if a < 0x19000000 then 60 else if a < 0x1A000000 then 61 else if a < 0x1B000000 then 62
  else if a < 0x1C000000 then 63 else 64

/-- An address lies inside some register block (R37). -/
def inBlock (a : Nat) : Bool :=
  (0x10000000 ≤ a && a < 0x10600000) || (0x11000000 ≤ a && a < 0x12000000) ||
  (0x13000000 ≤ a && a < 0x1D000000)

/-- The checker that holds the region registers of checker `k`: the two checkers of a channel group share one set. -/
def regionOwner (k : Nat) : Nat := if k < 24 then k / 2 * 2 else k

/-- The range of addresses that a checker checks (R299), first and last. -/
def checkerRange (k : Nat) : Nat × Nat :=
  if k < 24 then (0x1000000000 + k / 2 * 0x200000000, 0x1000000000 + k / 2 * 0x200000000 + 0x1FFFFFFFF)
  else if k < 40 then (0x40000000 + (k - 24) * 0x1000000, 0x57FFFFFF)
  else if k = 40 then (0x58000000, 0x5A7FFFFF)
  else if k = 41 then (0x5C000000, 0x5CFFFFFF)
  else if k = 42 then (0x4000000000, 0x7FFFFFFFFF)
  else match k with
    | 48 => (0x10000000, 0x100FFFFF) | 49 => (0x10100000, 0x101FFFFF) | 50 => (0x10200000, 0x102FFFFF)
    | 51 => (0x10300000, 0x103FFFFF) | 52 => (0x10400000, 0x104FFFFF) | 53 => (0x10500000, 0x105FFFFF)
    | 54 => (0x11000000, 0x11FFFFFF) | 55 => (0x13000000, 0x13FFFFFF) | 56 => (0x14000000, 0x14FFFFFF)
    | 57 => (0x15000000, 0x15FFFFFF) | 58 => (0x16000000, 0x16FFFFFF) | 59 => (0x17000000, 0x17FFFFFF)
    | 60 => (0x18000000, 0x18FFFFFF) | 61 => (0x19000000, 0x19FFFFFF) | 62 => (0x1A000000, 0x1AFFFFFF)
    | 63 => (0x1B000000, 0x1BFFFFFF) | 64 => (0x1C000000, 0x1CFFFFFF)
    | _ => (1, 0)

/-- `[base, limit]` (pages) lies in the range that checker `k` checks. A cluster's checker checks two windows: the
tile memories of its tiles and its cluster buffer (R34, R299). -/
def pagesInChecker (k base limit : Nat) : Bool :=
  if 24 ≤ k ∧ k < 40 then
    let t := 0x40000 + (k - 24) * 0x1000
    let b := 0x50000 + (k - 24) * 0x800
    (t ≤ base && limit ≤ t + 0xFFF) || (b ≤ base && limit ≤ b + 0x7FF)
  else (checkerRange k).1 / 4096 ≤ base && limit ≤ (checkerRange k).2 / 4096

/-- The mask of the enabled regions of a checker. -/
def State.regionMask (s : State) (k : Nat) : Nat :=
  (List.range 32).foldl (fun m r => m + b2n (s.bit (Reg.CAD_RG_CTRL_EN k r)) * 2 ^ r) 0

/-- A region decides accesses: an access in the clock in which EN of a region is set or cleared is decided by the regions as they
were before (R316). -/
def State.regionOn (s : State) (k r : Nat) : Bool :=
  match KMap.find s.worlds.regionWas k with
  | some (t, m) => if t = s.datum then bitOf m r else s.bit (Reg.CAD_RG_CTRL_EN k r)
  | none => s.bit (Reg.CAD_RG_CTRL_EN k r)

/-- The regions of a checker are about to change. -/
def State.noteRegions (s : State) (k : Nat) : State :=
  let noted : Bool := match KMap.find s.worlds.regionWas k with | some (t, _) => t = s.datum | none => false
  if noted then s
  else { s with worlds := { s.worlds with regionWas := KMap.put s.worlds.regionWas k (s.datum, s.regionMask k) } }

/-- What the regions decide: allowed or not, and the deciding region (0x20: none covers the page). -/
def regionDecide (s : State) (k : Nat) (at' : Attr) (write : Bool) (page : Nat) : List Nat → Bool × Nat
  | [] => (at'.secure, 0x20)
  | r :: rs =>
    if s.regionOn k r && decide (s.get (Reg.CAD_RG_BASE_BASE k r) ≤ page)
        && decide (page ≤ s.get (Reg.CAD_RG_LIMIT_LIMIT k r)) then
      let perm := if at'.secure
        then s.bit (if write then Reg.CAD_RG_CTRL_SW k r else Reg.CAD_RG_CTRL_SR k r)
        else s.bit (if write then Reg.CAD_RG_CTRL_NW k r else Reg.CAD_RG_CTRL_NR k r)
      (perm && bitOf (s.get (Reg.CAD_RG_PARTS_PARTS k r)) at'.partition, r)
    else regionDecide s k at' write page rs

/-- The decision of checker `k` on an access (R299, R300): the hardwired cases first, then the regions. -/
def cadDecide (s : State) (k : Nat) (at' : Attr) (write : Bool) (a : Nat) : Bool × Nat :=
  if k = 51 then (at'.secure, 0x21)
  else if 0x1C001000 ≤ a ∧ a < 0x1C002000 then (!write || at'.secure, 0x21)
  else if 0x10408000 ≤ a ∧ a < 0x10408100 then (!write || at'.secure, 0x21)
  else regionDecide s (regionOwner k) at' write (a / 4096) (List.range 32)

/-- A refusal is written to the log of checker `k`, or dropped where it is full (R302). -/
def State.cadEntry (s : State) (k a : Nat) (at' : Attr) (write : Bool) (region : Nat) : State :=
  let count := s.get (Reg.CAD_STATUS_COUNT k)
  if count < 8 then
    let i := (s.get (Reg.CAD_STATUS_HEAD k) + count) % 8
    ((((((s.set (Reg.CAD_LOG_REGION k i) region).setBit (Reg.CAD_LOG_WRITE k i) write).set
      (Reg.CAD_LOG_ATTR k i) at'.toNat).set (Reg.CAD_LOG_ADDR k i) a).set
      (Reg.CAD_LOGTS_TS32 k i) s.ts32).set (Reg.CAD_STATUS_COUNT k) (count + 1))
  else
    let old := match KMap.find s.worlds.dropped k with | some (t, l) => if t = s.datum then l else [] | none => []
    let s := (s.inc (Reg.CAD_STATUS_DROPPED k)).fbInc 0x60A0 2
    { s with worlds := { s.worlds with dropped := KMap.put s.worlds.dropped k (s.datum, old ++ [⟨a, at', write, region⟩]) } }

/-- A refusal is counted and logged at checker `k` (R301, R302). -/
def State.cadLog (s : State) (k a : Nat) (at' : Attr) (write : Bool) (region : Nat) : State :=
  ((s.inc (Reg.CAD_VIOL_COUNT k)).fbInc 0x60A0 1).cadEntry k a at' write region

/-- A refusal that the full log has dropped in the clock of a release is logged after all (R316). -/
def State.relog (s : State) (k : Nat) : State :=
  match KMap.find s.worlds.dropped k with
  | some (t, l) =>
    if t = s.datum then
      let n := l.length
      let s := (s.set (Reg.CAD_STATUS_DROPPED k) (s.get (Reg.CAD_STATUS_DROPPED k) - n)).fbSet 0x60A0 2 (s.fbGet 0x60A0 2 - n)
      let s := { s with worlds := { s.worlds with dropped := KMap.del s.worlds.dropped k } }
      l.foldl (fun s e => s.cadEntry k e.addr e.attr e.write e.region) s
    else s
  | none => s

/-- Checker `k` decides an access: whether it passes, and the state with a refusal logged. In test mode (R214) a
refusal is logged and counted and the access passes. -/
def State.cadCheck (s : State) (k : Nat) (at' : Attr) (write : Bool) (a : Nat) : Bool × State :=
  match cadDecide s k at' write a with
  | (true, _) => (true, s)
  | (false, region) =>
    let s := s.cadLog k a at' write region
    (s.bit (Reg.CAD_CTRL_TEST k), s)

/-- A register access passes the checker of its block, or is refused with a bus error (R301). -/
def State.gate (s : State) (who : Agent) (a : Nat) (write : Bool) (k : State → State) : State :=
  if !s.debugMay who then s.busError
  else match s.cadCheck (blockChecker a) (s.attrOf who) write a with
  | (true, s) => k s
  | (false, s) => s.busError

/-- A register write of `who` at `a`: gated, then answered without error and carried out. -/
def State.gateWrite (s : State) (who : Agent) (a : Nat) (k : State → State) : State :=
  s.gate who a true (fun s => k (s.answer 0))

/-- The Normal world. -/
def State.normal (s : State) (who : Agent) : Bool := !(s.attrOf who).secure

/-! ## Memory targets -/

/-- Bytes of a channel group's aperture that are usable (R35, R36): twice the per-channel capacity, seven eighths of
it with inline ECC. -/
def groupUsable (s : State) (g : Nat) : Nat :=
  let backed := 2 * min 4 s.dramGiB * 2 ^ 30
  if s.bit (Reg.DDR_CG_CTRL_INLINE_ECC g) then backed / 8 * 7 else backed

/-- The power domain of a tensor cluster's quadrant (R402). -/
def clusterDomain (c : Nat) : Nat := 4 + c / 4

/-- A tensor cluster answers: present and not power-gated (R34). -/
def State.clusterUp (s : State) (c : Nat) : Bool := s.clusterOn c && s.powered (clusterDomain c)

/-- Where an access to an address ends (R33–R35): the checker of a memory target, or a place without one. -/
inductive Target where
  | rom
  | dram (group channel : Nat)
  | sram (checker : Nat)
  | pcie
  | reg
  | hole
  deriving DecidableEq, Repr

/-- The target of an address (R33–R37). A window of a disabled or gated unit is a hole (R34). -/
def State.target (s : State) (a : Nat) : Target :=
  if a < 0x40000 then .rom
  else if 0x10000000 ≤ a ∧ a < 0x20000000 then (if inBlock a then .reg else .hole)
  else if 0x40000000 ≤ a ∧ a < 0x50000000 then
    let c := (a - 0x40000000) / 0x1000000
    if s.clusterUp c then .sram (24 + c) else .hole
  else if 0x50000000 ≤ a ∧ a < 0x58000000 then
    let c := (a - 0x50000000) / 0x800000
    if s.clusterUp c then .sram (24 + c) else .hole
  else if 0x58000000 ≤ a ∧ a < 0x5A800000 then .sram 40
  else if 0x5C000000 ≤ a ∧ a < 0x5D000000 then .sram 41
  else if 0x1000000000 ≤ a ∧ a < 0x2800000000 then
    let g := (a - 0x1000000000) / 0x200000000
    let off := (a - 0x1000000000) % 0x200000000
    if off < groupUsable s g then .dram g (2 * g + off / 256 % 2) else .hole
  else if 0x4000000000 ≤ a ∧ a < 0x8000000000 then
    (if (a - 0x4000000000) / 0x1000000000 = s.get Reg.SYS_STRAP_PKG_ID then .hole else .pcie)
  else .hole

/-- The checker in front of a memory target. -/
def Target.checker : Target → Option Nat
  | .rom => none
  | .dram _ c => some c
  | .sram k => some k
  | .pcie => some 42
  | .reg => none
  | .hole => none

end Sys2Proof.Machine
end

