-- ==== Sys2Proof/Machine/Meridian.lean ====
section
/-! DEFINITION. The Meridian tick, its table and parameters (R60–R69), and admission under R67. -/

namespace Sys2Proof.Machine
open Sys2Proof

/-! ## Table entries (R62, R63) -/

/-- An entry of the Meridian table. -/
structure Entry where
  startUs : Nat
  lengthUs : Nat
  slackUs : Nat
  valid : Bool
  resource : Nat
  partition : Nat
  pipe : Nat
  benchmark : Bool
  units : Nat
  deriving DecidableEq, Repr

/-- Entry `e` of a bank. -/
def bankEntry (bank : KMap Nat) (e : Nat) : Entry :=
  let w := fun i => KMap.getD bank (4 * e + i) 0
  ⟨w 0 % 2 ^ 20, w 1 % 2 ^ 20, w 2 % 2 ^ 20, bitOf (w 3) 31, bitsOf (w 3) 30 28, bitsOf (w 3) 27 22,
   bitsOf (w 3) 21 17, bitOf (w 3) 16, bitsOf (w 3) 15 0⟩

/-- The resources with a unit mask (R63). -/
def hasUnits (res : Nat) : Bool := res = 0 || res = 1 || res = 3

/-- The kill margin of a resource in µs (R63). -/
def killMarginUs (res : Nat) : Nat :=
  match res with
  | 0 => 4 | 1 => 4 | 2 => 2 | 3 => 20 | 4 => 10 | 5 => 4 | _ => 2

/-- The base period and the hyperperiod in nanoseconds (R60). -/
def State.periodNs (s : State) : Nat := s.get Reg.MER_TICK_PERIOD_PERIOD_US * 1000
def State.hyperNs (s : State) : Nat := s.get Reg.MER_HYPER_TICKS_TICKS * s.periodNs

/-- The least instant at or after `t` that is congruent to MER_PHASE_NS modulo `m`. -/
def State.nextInstant (s : State) (m t : Nat) : Nat :=
  if m = 0 then t
  else
    let ph := s.get Reg.MER_PHASE_NS_PHASE % m
    t + (m + ph - t % m) % m

/-- The start of the hyperperiod in progress at instant `t`. -/
def State.hyperStart (s : State) (t : Nat) : Nat :=
  let m := s.hyperNs
  if m = 0 then t else t - (t + m - s.get Reg.MER_PHASE_NS_PHASE % m) % m

/-! ## Swap validation (R64) -/

/-- The shadow and the active frame length of a pipeline, in ticks. -/
def State.shadowFrame (s : State) (p : Nat) : Nat := s.get (Reg.MER_PIPE_FRAME_FRAME_TICKS p)
def State.activeFrame (s : State) (p : Nat) : Nat := KMap.getD s.mer.frames p 0

/-- Two windows overlap on their resource with intersecting units, or on a resource without units. -/
def overlaps (a b : Entry) : Bool :=
  a.resource = b.resource && (!hasUnits a.resource || (a.units &&& b.units) != 0) &&
  decide (a.startUs < b.startUs + b.lengthUs) && decide (b.startUs < a.startUs + a.lengthUs)

/-- The checks of R64 on one valid entry, given the valid entries of lower index. -/
def State.entryCheck (s : State) (lower : List Entry) (e : Entry) : Nat :=
  let hyperUs := s.get Reg.MER_HYPER_TICKS_TICKS * s.get Reg.MER_TICK_PERIOD_PERIOD_US
  let ticks := s.shadowFrame e.pipe
  let frameUs := ticks * s.get Reg.MER_TICK_PERIOD_PERIOD_US
  if e.resource = 7 then Code.eIllegal
  else if !hasUnits e.resource && e.units != 0 then Code.eIllegal
  else if hasUnits e.resource && e.units = 0 then Code.eIllegal
  else if ticks = 0 then Code.eIllegal
  else if s.get Reg.MER_HYPER_TICKS_TICKS % ticks ≠ 0 then Code.eIllegal
  else if e.lengthUs = 0 ∨ e.lengthUs = 0xFFFFF then Code.eLength
  else if hyperUs < e.startUs + e.lengthUs then Code.eBounds
  else if e.startUs / frameUs ≠ (e.startUs + e.lengthUs - 1) / frameUs then Code.eBounds
  else if e.lengthUs < e.slackUs + killMarginUs e.resource then Code.eBounds
  else if lower.any (fun l => overlaps l e) then Code.eBounds
  else if e.resource = 0 && (List.range 16).any (fun c => bitOf e.units c && !s.clusterOn c) then Code.eUnavailable
  else Code.ok

/-- Validation in index order: the first failing entry and its code. -/
def State.validateGo (s : State) : List Nat → List Entry → Option (Nat × Nat)
  | [], _ => none
  | e :: es, lower =>
    let en := bankEntry s.mer.shadow e
    if en.valid then
      let c := s.entryCheck lower en
      if c = Code.ok then s.validateGo es (en :: lower) else some (e, c)
    else s.validateGo es lower

/-- The shadow bank validated (R64). -/
def State.validate (s : State) : Option (Nat × Nat) := s.validateGo (List.range 256) []

/-! ## Swap, start and stop -/

/-- The status of the last write to a MER register. -/
def State.merStatus (s : State) (c : Nat) : State := s.set Reg.MER_CMD_STATUS_STATUS c

/-- Meridian runs. -/
def State.running (s : State) : Bool := s.bit Reg.MER_STATUS_RUNNING

/-- The shadow bank and the shadow frame lengths become active (R65); the first swap after reset sets TABLE_LOCK if
FB 0x2000.04 = 1. What stood there at boot counts (R70). The shadow bank keeps its words, which now equal the active bank's. -/
def State.applySwap (s : State) : State :=
  let frames := (List.range 32).foldl (fun m p => KMap.set 0 m p (s.shadowFrame p)) []
  let s := { s with mer := { s.mer with active := s.mer.shadow, frames := frames } }
  let s := (((s.set Reg.MER_STATUS_BANK (1 - s.get Reg.MER_STATUS_BANK)).set Reg.MER_STATUS_SWAP_PENDING 0).set
    Reg.MER_CTRL_SWAP 0).set Reg.MER_EVENTS_TABLE_SWAPPED 1
  let s := if !s.mer.swapped && s.mer.lockAtBoot then
      (s.set Reg.MER_CTRL_TABLE_LOCK 1).set Reg.MER_STATUS_LOCKED_TABLE 1 else s
  { s with mer := { s.mer with swapped := true } }

/-- A SWAP request (R64, R65). With TABLE_LOCK set while a swap is pending the lock's E_STATE is answered, not E_BUSY: R65 gives
both and no order (DESIGN CHOICE: log entry 47). -/
def State.swapRequest (s : State) : State :=
  if s.bit Reg.MER_CTRL_TABLE_LOCK then s.merStatus Code.eState
  else if s.bit Reg.MER_STATUS_SWAP_PENDING then s.merStatus Code.eBusy
  else
    match s.validate with
    | some (e, c) => ((s.set Reg.MER_TABLE_ERR_ENTRY e).set Reg.MER_TABLE_ERR_STATUS c).merStatus c
    | none =>
      let s := ((s.set Reg.MER_TABLE_ERR_ENTRY 0).set Reg.MER_TABLE_ERR_STATUS Code.ok).merStatus Code.ok
      if s.running then (s.set Reg.MER_STATUS_SWAP_PENDING 1).set Reg.MER_CTRL_SWAP 1 else s.applySwap

/-- TABLE_LOCK is set (R65, R66). -/
def State.tableLock (s : State) : State :=
  (s.set Reg.MER_CTRL_TABLE_LOCK 1).set Reg.MER_STATUS_LOCKED_TABLE 1

/-- A START request (R66). While stopped it waits for a boundary, and for a first acquisition up to the acquisition
wait (R54); while running it cancels a pending STOP. -/
def State.startRequest (s : State) : State :=
  if s.running then s.set Reg.MER_CTRL_STOP 0
  else if s.bit Reg.MER_CTRL_START then s
  else
    let s := s.set Reg.MER_CTRL_START 1
    let wait := s.fbGet 0x2010 3
    if s.get Reg.MER_DATUM_CTRL_SOURCE ≠ 0 ∧ !s.servo.firstDone ∧ s.fbGet 0x2010 0xA ≠ 2 ∧ wait ≠ 0 then
      { s with servo := { s.servo with startWait := some (s.datum + wait * 1000000) } }
    else s

/-- A STOP request (R66). -/
def State.stopRequest (s : State) : State :=
  if s.running then s.set Reg.MER_CTRL_STOP 1
  else
    let s := s.set Reg.MER_CTRL_START 0
    { s with servo := { s.servo with startWait := none } }

/-- A write of MER_CTRL (R66): the bits act in the order SWAP, TABLE_LOCK, then STOP or START; START and STOP
together are rejected. The status is that of the SWAP request, if one was made. -/
def State.merCtrl (s : State) (start stop swap lock : Bool) : State :=
  if start && stop then s.merStatus Code.eIllegal
  else
    let s := if swap then s.swapRequest else s.merStatus Code.ok
    let s := if lock then s.tableLock else s
    if stop then s.stopRequest else if start then s.startRequest else s

/-! ## Parameters (R66) -/

/-- The bounds that the three parameters keep together. -/
def paramsFit (periodUs ticks phase : Nat) : Bool :=
  decide (ticks * periodUs ≤ 1000000) && decide (phase < ticks * periodUs * 1000)

/-- A write of a Meridian parameter after its own value check: bounds, then E_STATE while Meridian runs. -/
def State.paramWrite (s : State) (f : Field) (own : Nat) (fits : Bool) (v : Nat) : State :=
  if own ≠ Code.ok then s.merStatus own
  else if !fits then s.merStatus Code.eBounds
  else if s.running then s.merStatus Code.eState
  else (s.set f v).merStatus Code.ok

def State.writeTickPeriod (s : State) (v : Nat) : State :=
  s.paramWrite Reg.MER_TICK_PERIOD_PERIOD_US (if 250 ≤ v ∧ v ≤ 10000 then Code.ok else Code.eIllegal)
    (paramsFit v (s.get Reg.MER_HYPER_TICKS_TICKS) (s.get Reg.MER_PHASE_NS_PHASE)) v

def State.writeHyperTicks (s : State) (v : Nat) : State :=
  s.paramWrite Reg.MER_HYPER_TICKS_TICKS
    (if v = 0 ∨ v = 0xFFF then Code.eLength else if 4000 < v then Code.eIllegal else Code.ok)
    (paramsFit (s.get Reg.MER_TICK_PERIOD_PERIOD_US) v (s.get Reg.MER_PHASE_NS_PHASE)) v

def State.writePhase (s : State) (v : Nat) : State :=
  s.paramWrite Reg.MER_PHASE_NS_PHASE Code.ok
    (paramsFit (s.get Reg.MER_TICK_PERIOD_PERIOD_US) (s.get Reg.MER_HYPER_TICKS_TICKS) v) v

/-- The bits of a table word that are not reserved (R62). -/
def wordMask (w v : Nat) : Nat := if w = 3 then v % 2 ^ 32 else v % 2 ^ 20

/-- A write of a shadow bank word; refused with E_BUSY while a swap is pending (R65). -/
def State.writeShadow (s : State) (e w v : Nat) : State :=
  if s.bit Reg.MER_STATUS_SWAP_PENDING then s.merStatus Code.eBusy
  else
    { s with mer := { s.mer with shadow := KMap.set 0 s.mer.shadow (4 * e + w) (wordMask w v) } }.merStatus Code.ok

/-- A write of MER_PIPE_FRAMEp. -/
def State.writePipeFrame (s : State) (p v : Nat) : State :=
  if v = 0xFFF then s.merStatus Code.eLength
  else if 4000 < v then s.merStatus Code.eIllegal
  else if s.bit Reg.MER_STATUS_SWAP_PENDING then s.merStatus Code.eBusy
  else (s.set (Reg.MER_PIPE_FRAME_FRAME_TICKS p) v).merStatus Code.ok

/-! ## Windows and admission (R67) -/

/-- An open window with its table entry. -/
structure OpenWindow where
  index : Nat
  entry : Entry
  win : Window
  deriving DecidableEq, Repr

/-- The open windows. -/
def State.openWindows (s : State) : List OpenWindow :=
  s.mer.windows.map (fun p => ⟨p.1, bankEntry s.mer.active p.1, p.2⟩)

/-- The open ordinary or Benchmark window of a partition on a resource. -/
def State.windowOf (s : State) (res part : Nat) : Option OpenWindow :=
  s.openWindows.find? (fun w => w.entry.resource = res && w.entry.partition = part && !w.entry.benchmark)

/-- The close of a window: its end less the kill margin. -/
def OpenWindow.close (w : OpenWindow) : Nat := w.win.stop - killMarginUs w.entry.resource * 1000

/-- What R67 decides about a unit of work. -/
inductive Verdict where
  | admitted | reject | endJob | defer
  deriving DecidableEq, Repr

/-- The rule of R67 for a bound of `b` ns. -/
def verdict (now b : Nat) (restart : Bool) (w : OpenWindow) : Verdict :=
  let margin := killMarginUs w.entry.resource * 1000
  if w.entry.lengthUs * 1000 < b + margin + w.entry.slackUs * 1000 then .reject
  else if restart then (if !w.win.restarted && decide (now + b ≤ w.close) then .admitted else .endJob)
  else if now + b + w.win.slackLeft ≤ w.close then .admitted
  else .defer

/-- The state with a window's record changed. -/
def State.setWindow (s : State) (i : Nat) (w : Window) : State :=
  { s with mer := { s.mer with windows := KMap.put s.mer.windows i w } }

/-- A restart has been admitted in a window: its slack is spent (R67). -/
def State.spendRestart (s : State) (w : OpenWindow) : State :=
  s.setWindow w.index { w.win with slackLeft := 0, restarted := true }

/-- A window opens: its record starts with SLACK_US (R67); a SAFETY window is remembered (R53). -/
def State.openWindow (s : State) (e : Nat) : State :=
  let en := bankEntry s.mer.active e
  let base := s.hyperStart s.datum
  let start := base + en.startUs * 1000
  let s := s.advanceTo start
  let s := s.setWindow e ⟨start, start + en.lengthUs * 1000, en.slackUs * 1000, false, false⟩
  if en.resource = 6 then { s with mer := { s.mer with safetyOpened := true } } else s

/-- An entry of the active table whose window is due to open: Meridian runs outside a gap, the entry is valid, its
window is not open and the present hyperperiod has not passed its close. -/
def State.mayOpen (s : State) (e : Nat) : Bool :=
  let en := bankEntry s.mer.active e
  s.running && !s.mer.gap && en.valid && (KMap.find s.mer.windows e).isNone &&
  decide (s.datum < s.hyperStart s.datum + (en.startUs + en.lengthUs - killMarginUs en.resource) * 1000)

/-- The window's record is removed at its close. -/
def State.dropWindow (s : State) (e : Nat) : State :=
  { s with mer := { s.mer with windows := KMap.del s.mer.windows e } }

/-! ## Ticks (R60, R61) -/

/-- At every Meridian stop and every step the held results are discarded (R202). -/
def State.discardHeld (s : State) : State :=
  let s := { s with saf := { s.saf with held := [] } }
  (List.range 64).foldl (fun s r => s.set (Reg.SAF_CH_STATUS_HELD r) 0) s

/-- The pipelines whose frame starts at the tick in TICK: their frame counts advance (R61, R196). -/
def State.frameStarts (s : State) : State :=
  let tick := s.get Reg.MER_TICK_COUNT_TICK
  (List.range 32).foldl (fun s p =>
    let n := s.activeFrame p
    if n ≠ 0 ∧ tick % n = 0 then
      { s with mer := { s.mer with
          frameCount := KMap.put s.mer.frameCount p (KMap.getD s.mer.frameCount p 0 + 1),
          frameStart := KMap.put s.mer.frameStart p s.datum } }
    else s) s

/-- A package that follows no other (R56): package 0, or one whose straps are illegal, which goes on as a single package
(R430; DEDUCED: log entry 44). -/
def State.ownTime (s : State) : Bool := s.get Reg.SYS_STRAP_PKG_ID = 0 || s.bit Reg.SYS_STRAP_ERR

/-- A pending START takes effect at a boundary (R66): HYPER and TICK start at 0. -/
def State.applyStart (s : State) : State :=
  let s := ((((s.set Reg.MER_CTRL_START 0).set Reg.MER_STATUS_RUNNING 1).set Reg.MER_TICK_COUNT_HYPER 0).set
    Reg.MER_TICK_COUNT_TICK 0).set Reg.MER_EVENTS_TICK 1
  let s := { s with mer := { s.mer with safetyOpened := false, gap := false, frameCount := [] }, saf := { s.saf with decided := [] } }
  let s := if s.ownTime then s.set Reg.MER_STATUS_ALIGNED 1 else s
  s.frameStarts

/-- A pending STOP takes effect at a boundary. ALIGNED of package 0 clears with RUNNING; ALIGN_LOST, which R56 gives for exchanges
and HOLDOVER, is not set then (DESIGN CHOICE: log entry 47). -/
def State.applyStop (s : State) : State :=
  let s := (((s.set Reg.MER_CTRL_STOP 0).set Reg.MER_STATUS_RUNNING 0).set Reg.MER_TICK_COUNT_TICK 0)
  let s := if s.ownTime then s.set Reg.MER_STATUS_ALIGNED 0 else s
  { s with mer := { s.mer with gap := false, windows := [], lastTick := none } }.discardHeld

/-! ## Meanings of the register writes -/

/-- MER_START (R66). -/
def execMerStart (who : Agent) (s : State) : Out :=
  done (s.gateWrite who Reg.MER_CTRL_addr (fun s => s.merCtrl true false false false))

/-- MER_STOP (R66). -/
def execMerStop (who : Agent) (s : State) : Out :=
  done (s.gateWrite who Reg.MER_CTRL_addr (fun s => s.merCtrl false true false false))

/-- MER_SWAP (R64, R65). -/
def execMerSwap (who : Agent) (s : State) : Out :=
  done (s.gateWrite who Reg.MER_CTRL_addr (fun s => s.merCtrl false false true false))

/-- MER_TABLE_LOCK (R65). -/
def execMerTableLock (who : Agent) (s : State) : Out :=
  done (s.gateWrite who Reg.MER_CTRL_addr (fun s => s.merCtrl false false false true))

/-- TICK_PERIOD_WRITE (R66). -/
def execTickPeriodWrite (who : Agent) (value : BitVec 14) (s : State) : Out :=
  done (s.gateWrite who Reg.MER_TICK_PERIOD_addr (fun s => s.writeTickPeriod value.toNat))

/-- HYPER_TICKS_WRITE (R66). -/
def execHyperTicksWrite (who : Agent) (value : BitVec 12) (s : State) : Out :=
  done (s.gateWrite who Reg.MER_HYPER_TICKS_addr (fun s => s.writeHyperTicks value.toNat))

/-- PHASE_WRITE (R66). -/
def execPhaseWrite (who : Agent) (value : BitVec 30) (s : State) : Out :=
  done (s.gateWrite who Reg.MER_PHASE_NS_addr (fun s => s.writePhase value.toNat))

/-- SHADOW_ENTRY_WRITE (R65). -/
def execShadowEntryWrite (who : Agent) (entry : Fin 256) (word : Fin 4) (value : BitVec 32) (s : State) : Out :=
  done (s.gateWrite who (0x10101000 + 16 * entry.val + 4 * word.val)
    (fun s => s.writeShadow entry.val word.val value.toNat))

/-- PIPE_FRAME_WRITE (R65). -/
def execPipeFrameWrite (who : Agent) (pipe : Fin 32) (value : BitVec 12) (s : State) : Out :=
  done (s.gateWrite who (Reg.MER_PIPE_FRAME_addr pipe.val) (fun s => s.writePipeFrame pipe.val value.toNat))

end Sys2Proof.Machine
end

