-- ==== Sys2Proof/Machine/Datum.lean ====
section
/-! DEFINITION. Datum (R41–R57): its states, the servo, steps, gPTP and PTM, and the time outputs and inputs
(R58, R59). -/

namespace Sys2Proof.Machine
open Sys2Proof

/-! ## States of Datum (R43) -/

/-- The gateway controller, which runs the gPTP servo, runs (R389). -/
def State.gatewayUp (s : State) : Bool := s.get (Reg.SYS_FWD_STATUS_STATE 21) = 0

/-- DATUM_STATE: 0 FREE, 1 LOCKED, 2 HOLDOVER, 3 HOLDOVER_EXPIRED. -/
def State.datumState (s : State) : Nat := s.get Reg.MER_STATUS_DATUM_STATE

/-- The state with the servo's record changed. -/
def State.setServo (s : State) (v : Servo) : State := { s with servo := v }

/-- The mean of the servo's last updates, toward zero (R43). -/
def meanRate (rs : List Int) : Int := if rs.length = 0 then 0 else (rs.foldl (· + ·) 0).tdiv rs.length

/-- ALIGNED clears on a follower (R56): ALIGN_LOST, FB 0x6020.06. -/
def State.loseAlign (s : State) : State :=
  if !s.ownTime && s.bit Reg.MER_STATUS_ALIGNED then
    ((s.set Reg.MER_STATUS_ALIGNED 0).set Reg.MER_EVENTS_ALIGN_LOST 1).fbInc 0x6020 6
  else s

/-- Datum enters HOLDOVER (R43, R50, R52): the rate is held at the mean of the last 8 servo updates; of those there are, while
they are fewer, and with none MER_RATE stays (DESIGN CHOICE: log entry 1). A slew in progress ends. -/
def State.enterHoldover (s : State) : State :=
  let s := (s.set Reg.MER_STATUS_DATUM_STATE 2).set Reg.MER_EVENTS_HOLDOVER_ENTERED 1
  let s := if s.servo.rates.length = 0 then s
    else s.set Reg.MER_RATE_ADJ (unsignedOf 32 (meanRate s.servo.rates))
  (s.setServo { s.servo with holdoverAt := s.datum, samples := [], misaligned := 0, slewRate := 0, slewLeft := 0 }).loseAlign

/-- Datum enters LOCKED. -/
def State.enterLocked (s : State) : State :=
  (s.set Reg.MER_STATUS_DATUM_STATE 1).set Reg.MER_EVENTS_LOCK_ACQUIRED 1

/-- The new time is refused (R51, R53): JUMP_REFUSED, FB 0x6020.01. -/
def State.refuseJump (s : State) : State := (s.set Reg.MER_EVENTS_JUMP_REFUSED 1).fbInc 0x6020 1

/-- An offset inside the jump threshold, FB 0x2010.04. The spec does not say on which side an offset equal to the threshold lies:
here inside (DESIGN CHOICE: log entry 1). -/
def State.inside (s : State) (d : Int) : Bool := decide (d.natAbs ≤ s.fbGet 0x2010 4)

/-- A servo update (R50) on an offset of Datum. The rate that tracks the source is a free value within ±FB 0x2010.07 (64,000
units of 1/64 ppb to the ppm); beside it Datum slews against the offset, until it is removed, at a free rate of at most
FB 0x2010.07 that keeps the sum within ±500 ppm (R42). The last 8 tracking rates are kept (R43). The spec fixes no control
law (DESIGN CHOICE: log entry 1). -/
def State.servoUpdate (s : State) (d : Int) : State :=
  let (r, s) := s.freeInt
  let (x, s) := s.freeNat
  let lim := s.fbGet 0x2010 7 * 64000
  let r : Int := max (-(lim : Int)) (min lim r)
  let dir := -d.sign
  let m : Int := min (lim - x % lim : Nat) (32000000 - dir * r)
  (s.set Reg.MER_RATE_ADJ (unsignedOf 32 r)).setServo
    { s.servo with rates := (r :: s.servo.rates).take 8, slewRate := dir * m, slewLeft := d.natAbs * 64000000000 }

/-- What MER_RATE reads: the servo's rate with the slew in progress. -/
def State.rateNow (s : State) : Nat :=
  unsignedOf 32 (signed 32 (s.get Reg.MER_RATE_ADJ) + (if s.servo.slewLeft = 0 then 0 else s.servo.slewRate))

/-- Insertion into an ascending list. -/
def insertInt (x : Int) : List Int → List Int
  | [] => [x]
  | y :: ys => if x ≤ y then x :: y :: ys else y :: insertInt x ys

/-- The median of 4 offsets (R51): the mean of the second and third in ascending order, truncated toward zero. -/
def median4 (l : List Int) : Int :=
  match l.foldr insertInt [] with
  | [_, b, c, _] => (b + c).tdiv 2
  | _ => 0

/-- MER_OFFSET_NS after a measurement: it saturates at ±(2³¹ − 1). -/
def State.setOffset (s : State) (d : Int) : State :=
  (s.set Reg.MER_OFFSET_NS_OFFSET (unsignedOf 32 (max (-(2 ^ 31 - 1)) (min (2 ^ 31 - 1) d)))).setServo
    { s.servo with offset := d }

/-- The loss limit of the source (R52, R55): 3 Sync intervals, or 10 ms with PTM. -/
def State.lossLimit (s : State) : Nat :=
  if s.get Reg.MER_DATUM_CTRL_SOURCE = 2 then 10000000 else 3 * s.servo.interval

/-- Source time is available (R53). -/
def State.sourceAvailable (s : State) : Bool :=
  s.get Reg.MER_DATUM_CTRL_SOURCE ≠ 0 &&
  match s.servo.lastSync with
  | some t => decide (s.datum ≤ t + s.lossLimit)
  | none => false

/-! ## Steps (R53, R54) -/

/-- An instant moved by a step of Datum. -/
def shifted (d : Int) (t : Nat) : Nat := ((t : Int) + d).toNat

/-- Instants by key moved by a step. -/
def shiftedAll (d : Int) (m : KMap Nat) : KMap Nat := m.map (fun p => (p.1, shifted d p.2))

def Job.shift (d : Int) (j : Job) : Job := { j with start := shifted d j.start, projEnd := shifted d j.projEnd }
def Stripe.shift (d : Int) (t : Stripe) : Stripe := { t with waitFrom := t.waitFrom.map (shifted d) }
def Cmd.shift (d : Int) (c : Cmd) : Cmd :=
  { c with start := shifted d c.start, stripes := c.stripes.map (fun p => (p.1, p.2.shift d)) }
def Engines.shift (d : Int) (e : Engines) : Engines :=
  { e with
    jobs := e.jobs.map (fun p => (p.1, p.2.shift d)), cmds := e.cmds.map (fun p => (p.1, p.2.shift d))
    sessionStart := shifted d e.sessionStart, peers := e.peers.map (fun p => (p.1, { p.2 with last := shifted d p.2.last }))
    tileFault := shiftedAll d e.tileFault, corrected := e.corrected.map (fun p => (p.1, p.2.map (shifted d)))
    killAt := shiftedAll d e.killAt, killsOut := shiftedAll d e.killsOut
    killMarks := e.killMarks.map (fun p => (p.1, { p.2 with time := shifted d p.2.time })) }
def Safety.shift (d : Int) (f : Safety) : Safety :=
  { f with
    bench := f.bench.map (fun p => (p.1, { p.2 with due := p.2.due.map (shifted d) }))
    declaredB := none, heartbeat := shiftedAll d f.heartbeat, lastMessage := shifted d f.lastMessage }
def Pmu.shift (d : Int) (p : Pmu) : Pmu :=
  { p with
    highSince := p.highSince.map (shifted d), overSince := p.overSince.map (shifted d), normalSince := shifted d p.normalSince
    leftAt := p.leftAt.map (shifted d), wakeAt := p.wakeAt.map (shifted d), ceilAt := shifted d p.ceilAt, shedAt := shifted d p.shedAt }
def Firmware.shift (d : Int) (f : Firmware) : Firmware :=
  { f with
    kick := shiftedAll d f.kick, wdStart := shiftedAll d f.wdStart
    expiries := f.expiries.map (fun p => (p.1, p.2.map (shifted d)))
    switch := f.switch.map (fun w => { w with start := shifted d w.start }) }
def Worlds.shift (d : Int) (w : Worlds) : Worlds :=
  { w with
    calls := w.calls.map (fun p => (p.1, { p.2 with start := shifted d p.2.start })), restarts := w.restarts.map (shifted d)
    swdStart := shifted d w.swdStart, swdTest := w.swdTest.map (shifted d)
    regionWas := w.regionWas.map (fun p => (p.1, (shifted d p.2.1, p.2.2))), lockAt := w.lockAt.map (fun p => (p.1, shifted d p.2))
    dropped := w.dropped.map (fun p => (p.1, (shifted d p.2.1, p.2.2))), leaseWas := (shifted d w.leaseWas.1, w.leaseWas.2) }
def GfxJob.shift (d : Int) (j : GfxJob) : GfxJob :=
  { j with
    start := shifted d j.start, faultSince := j.faultSince.map (shifted d), flushSince := j.flushSince.map (shifted d)
    yieldSince := j.yieldSince.map (shifted d) }
def Graphics.shift (d : Int) (g : Graphics) : Graphics :=
  { g with
    ctx := g.ctx.map (fun p => (p.1, { p.2 with job := p.2.job.map (GfxJob.shift d) }))
    dsp := g.dsp.map (fun p => (p.1, { p.2 with
      frameAt := shifted d p.2.frameAt
      pending := p.2.pending.map (fun q => (q.1, q.2.map (fun e => (e.1, shifted d e.2))))
      expAt := p.2.expAt.map (fun q => (q.1, (q.2.1, shifted d q.2.2))) })) }
def Media.shift (d : Int) (m : Media) : Media :=
  { m with
    src := m.src.map (fun p => (p.1, { p.2 with newestAt := shifted d p.2.newestAt }))
    cap := m.cap.map (fun p => (p.1, { p.2 with
      frame := p.2.frame.map (fun f => { f with start := shifted d f.start })
      isp := p.2.isp.map (fun j => { j with start := shifted d j.start }) }))
    ctx := m.ctx.map (fun p => (p.1, { p.2 with admitted := p.2.admitted.map (fun a => (shifted d a.1, a.2)) }))
    st := m.st.map (fun p => (p.1, { p.2 with
      job := p.2.job.map (fun j => { j with start := shifted d j.start })
      depths := p.2.depths.map (fun q => (q.1, (shifted d q.2.1, q.2.2))) })) }
def FlowVal.shift (d : Int) (v : FlowVal) : FlowVal :=
  { v with
    lastIn := v.lastIn.map (shifted d), lastOut := v.lastOut.map (shifted d)
    timer := v.timer.map (fun o => { o with time := shifted d o.time }) }
def Gateway.shift (d : Int) (g : Gateway) : Gateway :=
  { g with
    vals := g.vals.map (fun p => (p.1, p.2.shift d))
    swaps := g.swaps.map (fun p => (p.1, shifted d p.2))
    recov := g.recov.map (fun p => (p.1, { p.2 with last := shifted d p.2.last })) }
def Bridges.shift (d : Int) (b : Bridges) : Bridges :=
  { b with
    windowsWas := b.windowsWas.map (fun p => (shifted d p.1, p.2))
    fenceAborted := b.fenceAborted.map (fun p => (p.1, shifted d p.2.1, p.2.2)) }
def Fba.shift (d : Int) (f : Fba) : Fba :=
  { f with
    sessions := f.sessions.map (fun p => (p.1, { p.2 with last := shifted d p.2.last }))
    sources := f.sources.map (fun c => { c with muted := c.muted.map (shifted d) })
    record := f.record.map (fun j => { j with begun := shifted d j.begun })
    idled := f.idled.map (fun p => (p.1, shifted d p.2.1, { p.2.2 with last := shifted d p.2.2.last })) }

/-- The instants from which the device measures time move with a step, so that no interval in progress grows or shrinks: timers
run on the reference clock, which does not step (DEDUCED: log entry 1). Stamps stay on the old timeline (R46). -/
def State.shiftTimes (s : State) (d : Int) : State :=
  { s with
    servo := { s.servo with lastSync := s.servo.lastSync.map (shifted d), holdoverAt := shifted d s.servo.holdoverAt }
    icnSrc := s.icnSrc.map (fun p => (p.1, { p.2 with mergedAt := p.2.mergedAt.map (shifted d) }))
    timeIn := s.timeIn.map (fun p => (p.1, { p.2 with last := p.2.last.map (shifted d) }))
    eng := s.eng.shift d, saf := s.saf.shift d, pmu := s.pmu.shift d, fw := s.fw.shift d, worlds := s.worlds.shift d
    trv := { s.trv with plan := s.trv.plan.map (fun p => { p with start := shifted d p.start }) }
    gfx := s.gfx.shift d, med := s.med.shift d, gwy := s.gwy.shift d, fba := s.fba.shift d
    brg := s.brg.shift d }

/-- Datum steps to the source's time (R53). While Meridian runs a gap opens (R54). Samples captured but not yet staged
are dropped by capture time: chapter 10 takes no sample older than the last step. MER_OFFSET_NS reads 0 from then on, the offset
of a Datum set to its source's time, though no measurement is made (DEDUCED: log entry 1). -/
def State.step (s : State) : State :=
  let t := ((s.datum : Int) - s.servo.offset).toNat
  let s : State := { s.shiftTimes ((t : Int) - s.datum) with datum := t, datumFrac := 0, stepSeq := s.stepSeq + 1 }
  let s := if s.datumState = 1 then s else s.enterLocked
  let s := (((s.setOffset 0).set Reg.MER_EVENTS_REBASED 1).fbInc 0x6020 2).set Reg.MER_DATUM_CTRL_REBASE 0
  let s := s.setServo { s.servo with samples := [], acqPending := false, startWait := none, firstDone := true,
                                      slewRate := 0, slewLeft := 0 }
  { s with mer := { s.mer with gap := s.running, windows := [], lastPulse := [],
                               frameStart := [], lastTick := none } }.discardHeld.set Reg.MER_TICK_COUNT_TICK
    (if s.running then 0 else s.get Reg.MER_TICK_COUNT_TICK)

/-- The active table has a window on SAFETY. -/
def State.hasSafetyWindow (s : State) : Bool :=
  (List.range 256).any (fun e => let en := bankEntry s.mer.active e; en.valid && en.resource = 6)

/-- A step may apply at a boundary while Meridian runs (R53), judged on the table active before it. -/
def State.stepAllowed (s : State) : Bool := !s.hasSafetyWindow || !s.mer.safetyOpened

/-- A first acquisition or rebase that waits for the boundary is applied or refused (R53). `allowed` is the judgement
of the table before the boundary. -/
def State.boundaryStep (s : State) (allowed : Bool) : State :=
  if s.bit Reg.MER_DATUM_CTRL_REBASE || s.servo.acqPending then
    let rebase := s.bit Reg.MER_DATUM_CTRL_REBASE
    let s := s.set Reg.MER_DATUM_CTRL_REBASE 0
    let s := s.setServo { s.servo with acqPending := false }
    if !allowed then (s.refuseJump).merStatus (if rebase then Code.eState else s.get Reg.MER_CMD_STATUS_STATUS)
    else if s.sourceAvailable then s.step
    else s.refuseJump
  else s

/-- A rebase request (R53): its status, and the state. -/
def State.rebaseRequest (s : State) : Nat × State :=
  if !s.sourceAvailable then (Code.eState, s)
  else if s.running then (Code.ok, s.set Reg.MER_DATUM_CTRL_REBASE 1)
  else (Code.ok, s.step)

/-- A measured offset is taken by the servo (R50, R51, R53); nothing is evaluated while a first acquisition waits for its
boundary. -/
def State.takeOffset (s : State) (d : Int) : State :=
  let s := s.setOffset d
  if s.datumState = 1 then
    if s.inside d then s.servoUpdate d else s.enterHoldover
  else if s.servo.acqPending then s
  else
    let s := s.setServo { s.servo with samples := s.servo.samples ++ [d] }
    if s.servo.samples.length < 4 then s
    else
      let m := median4 s.servo.samples
      let s := s.setServo { s.servo with samples := [] }
      if s.datumState = 0 && !s.servo.firstDone then
        let s := s.setServo { s.servo with firstDone := true, startWait := none, offset := m }
        if s.running then s.setServo { s.servo with acqPending := true } else s.step
      else if s.inside m then s.enterLocked.servoUpdate m
      else s.refuseJump

/-- The source's time must be evaluated afresh (R51): after a master change, a return from loss, or a change of
SOURCE. A LOCKED Datum moves to HOLDOVER. -/
def State.sourceChanged (s : State) : State :=
  let s := s.setServo { s.servo with samples := [], lastSync := none }
  if s.datumState = 1 then s.enterHoldover else s

/-! ## Register writes -/

/-- A write of MER_DATUM_CTRL.SOURCE (R52); 3 is illegal. -/
def State.writeSource (s : State) (v : Nat) : Nat × State :=
  if v = 3 then (Code.eIllegal, s)
  else if v = s.get Reg.MER_DATUM_CTRL_SOURCE then (Code.ok, s)
  else (Code.ok, (s.sourceChanged).set Reg.MER_DATUM_CTRL_SOURCE v)

/-- A write of MER_RATE: out of range, then refused while SOURCE is not 0. -/
def State.writeRate (s : State) (v : Nat) : State :=
  if 32000000 < (signed 32 v).natAbs then s.merStatus Code.eIllegal
  else if s.get Reg.MER_DATUM_CTRL_SOURCE ≠ 0 then s.merStatus Code.eState
  else (s.set Reg.MER_RATE_ADJ v).merStatus Code.ok

/-- DATUM_SOURCE_WRITE (R52). -/
def execDatumSourceWrite (who : Agent) (source : BitVec 2) (s : State) : Out :=
  done (s.gateWrite who Reg.MER_DATUM_CTRL_addr (fun s =>
    let r := s.writeSource source.toNat
    r.2.merStatus r.1))

/-- REBASE (R53): a write of MER_DATUM_CTRL.REBASE. -/
def execRebase (who : Agent) (s : State) : Out :=
  done (s.gateWrite who Reg.MER_DATUM_CTRL_addr (fun s =>
    let r := s.rebaseRequest
    r.2.merStatus r.1))

/-- A hart's read latch of a 64-bit register is set. -/
def State.setLatch (s : State) (who : Agent) (a v : Nat) : State :=
  { s with latch := KMap.put s.latch (hartOf who * 2 ^ 48 + a) v }

/-- A read of MER_TIME_NS: Datum nanoseconds within the second; MER_SECONDS is latched for the reading hart. -/
def State.readTimeNs (s : State) (who : Agent) : State :=
  (s.setLatch who Reg.MER_SECONDS_addr (s.datum / 1000000000)).answer (s.datum % 1000000000)

/-- TIME_NS_READ (R44). -/
def execTimeNsRead (who : Agent) (s : State) : Out :=
  done (s.gate who Reg.MER_TIME_NS_addr false (fun s => s.readTimeNs who))

/-! ## gPTP and PTM -/

/-- A gPTP message of another domain is dropped and counted (R47). -/
def State.dropDomain (s : State) : State := s.fbInc 0x6020 8

/-- A MAC takes part in gPTP (FB 0x2010.02) and gPTP is the source or may become it. -/
def State.gptpMac (s : State) (mac : Nat) : Bool := bitOf (s.fbGet 0x2010 2) mac

/-- The ingress and egress corrections of a MAC (R48). -/
def State.ingress (s : State) (mac : Nat) : Int := signed 16 (s.fbGet 0x2011 (mac + 1))
def State.egress (s : State) (mac : Nat) : Int := signed 16 (s.fbGet 0x2012 (mac + 1))

/-- SYNC_RECEIVED (R50): a Sync (with `age` ns since its reception, when a Follow_Up carries its time) of a
grandmaster. `origin` is the corrected origin time in Datum nanoseconds; the offset is the receive timestamp less
that time and the path delay. -/
def execSyncReceived (mac : Fin 6) (domain : BitVec 8) (identity : BitVec 64) (origin : BitVec 80)
    (age : BitVec 32) (logInterval : Fin 6) (s : State) : Out :=
  if domain.toNat ≠ 0 then done s.dropDomain
  else if !s.gptpMac mac.val || !s.gatewayUp || s.get Reg.MER_DATUM_CTRL_SOURCE ≠ 1 || s.fbGet 0x2010 0xA = 2 then done s
  else
    match s.servo.master, KMap.find s.servo.peerDelay mac.val with
    | some m, some delay =>
      if m.identity = identity.toNat ∧ m.mac = mac.val then
        let s := s.setServo { s.servo with lastSync := some s.datum, interval := 31250000 * 2 ^ logInterval.val }
        done (s.takeOffset ((s.datum : Int) - age.toNat + s.ingress mac.val - (origin.toNat + delay)))
      else done s
    | _, _ => done s

/-- Best master selection is the device's port configuration (FB 0x2010.0A = 0); 1 is external, slave; 2 external, grandmaster. -/
def State.portConfig (s : State) : Nat := s.fbGet 0x2010 0xA

/-- The comparison vector of an Announce: priority1, clock quality, priority2, identity, steps removed. -/
def announceVector (p1 q p2 id steps : Nat) : Nat :=
  (((p1 * 2 ^ 32 + q) * 2 ^ 8 + p2) * 2 ^ 64 + id) * 2 ^ 16 + steps

/-- The device's own vector in best master selection; the spec gives it no priorities, so it is a free value (log entry 13). -/
def ownVector : Nat := 2 ^ 136 - 1 - Config.ownRank % 2 ^ 136

/-- The device is the grandmaster: in external grandmaster configuration, or under best master selection while no other clock
with a better vector is heard (PRESUMED, IEEE 802.1AS: log entry 13). -/
def State.grandmaster (s : State) : Bool :=
  s.portConfig = 2 || (s.portConfig = 0 && (match s.servo.master with | some m => m.aged | none => true))

/-- The grandmaster that a follower holds changes. A change of its identity is counted (FB 0x6020.07) and, while gPTP is the
source, starts R51; the first one after reset is none (DESIGN CHOICE: log entry 13). -/
def State.takeMaster (s : State) (m : Master) : State :=
  let t := s.setServo { s.servo with master := some m }
  match s.servo.master with
  | none => t
  | some old =>
    if old.identity = m.identity then t
    else
      let t := t.fbInc 0x6020 7
      if s.get Reg.MER_DATUM_CTRL_SOURCE = 1 then t.sourceChanged else t

/-- ANNOUNCE_RECEIVED (R47): under best master selection the better vector wins, the selected grandmaster's own Announce replaces
its vector, and one whose Sync was lost gives way to any other that is better than the device's own (PRESUMED, IEEE 802.1AS: log
entry 13); in external slave configuration the sender is the grandmaster without a comparison. -/
def execAnnounceReceived (mac : Fin 6) (domain priority1 : BitVec 8) (quality : BitVec 32)
    (priority2 : BitVec 8) (identity : BitVec 64) (steps : BitVec 16) (s : State) : Out :=
  if domain.toNat ≠ 0 then done s.dropDomain
  else if !s.gptpMac mac.val || !s.gatewayUp || s.portConfig = 2 then done s
  else
    let v := announceVector priority1.toNat quality.toNat priority2.toNat identity.toNat steps.toNat
    let m : Master := { vector := v, identity := identity.toNat, mac := mac.val }
    let better := match s.servo.master with
      | none => decide (v < ownVector)
      | some old => (old.identity = m.identity && old.mac = m.mac) || (decide (v < ownVector) && (old.aged || decide (v < old.vector)))
    if s.portConfig = 1 || better then done (s.takeMaster m) else done s

/-- PEER_DELAY_EXCHANGE (R47): half of the round trip less the responder's residence, with the MAC's corrections
(R48). -/
def execPeerDelayExchange (mac : Fin 6) (domain : BitVec 8) (t1 t2 t3 t4 : BitVec 80) (s : State) : Out :=
  if domain.toNat ≠ 0 then done s.dropDomain
  else if !s.gptpMac mac.val || !s.gatewayUp then done s
  else
    let round : Int := ((t4.toNat : Int) + s.ingress mac.val) - ((t1.toNat : Int) + s.egress mac.val)
    let d : Int := (round - ((t3.toNat : Int) - t2.toNat)).tdiv 2
    done (s.setServo { s.servo with peerDelay := KMap.put s.servo.peerDelay mac.val d })

/-- SYNC_TRANSMIT (R49): as grandmaster the device sends a Sync on a gPTP MAC; the origin is the egress timestamp, in the frame
itself on a one-step MAC (FB 0x2010.08). -/
def execSyncTransmit (mac : Fin 6) (s : State) : Out :=
  if s.gptpMac mac.val && s.gatewayUp && s.grandmaster then
    done (s.emit (.gptpSync mac.val (bitOf (s.fbGet 0x2010 8) mac.val) ((s.datum : Int) + s.egress mac.val).toNat))
  else done s

/-- The follower's ALIGNED after an exchange (R56). -/
def State.alignExchange (s : State) (d : Int) : State :=
  if d.natAbs ≤ 50 ∧ s.datumState = 1 then
    (s.set Reg.MER_STATUS_ALIGNED 1).setServo { s.servo with misaligned := 0 }
  else
    let s := s.setServo { s.servo with misaligned := s.servo.misaligned + 1 }
    if 3 ≤ s.servo.misaligned then s.loseAlign else s

/-- PTM_EXCHANGE (R55): a follower's exchange with P0 completes; `t1`, `t4` are its own stamps, `t2`, `t3` the
root's. R50 and R51 apply with PTM in place of Sync. -/
def execPtmExchange (t1 t2 t3 t4 : BitVec 80) (s : State) : Out :=
  if s.get Reg.MER_DATUM_CTRL_SOURCE ≠ 2 then done s
  else
    let d : Int := (((t1.toNat : Int) + t4.toNat) - ((t2.toNat : Int) + t3.toNat)).tdiv 2
    let s := s.setServo { s.servo with lastSync := some s.datum }
    let s := s.takeOffset d
    if s.ownTime then done s else done (s.alignExchange d)

/-- The source is lost at its limit: a LOCKED Datum enters HOLDOVER, an open evaluation starts afresh. -/
def State.sourceLost (s : State) : State :=
  match s.servo.lastSync with
  | some t =>
    let s := s.advanceTo (t + s.lossLimit)
    let s := s.setServo { s.servo with samples := [], lastSync := none,
                                        master := s.servo.master.map (fun m => { m with aged := true }) }
    if s.datumState = 1 then s.enterHoldover else s
  | none => s

/-- SYNC_LOSS (R52). -/
def execSyncLoss (s : State) : Out :=
  if s.get Reg.MER_DATUM_CTRL_SOURCE = 1 then done s.sourceLost else done s

/-- PTM_LOSS (R55). -/
def execPtmLoss (s : State) : Out :=
  if s.get Reg.MER_DATUM_CTRL_SOURCE = 2 then done s.sourceLost else done s

/-- HOLDOVER_EXPIRY (R43): the holdover limit FB 0x2010.06 runs from the entry to HOLDOVER. -/
def execHoldoverExpiry (s : State) : Out :=
  if s.datumState = 2 then
    let s := s.advanceTo (s.servo.holdoverAt + s.fbGet 0x2010 6 * 1000000000)
    done ((s.set Reg.MER_STATUS_DATUM_STATE 3).set Reg.MER_EVENTS_HOLDOVER_EXPIRED 1)
  else done s

/-- ACQUISITION_WAIT_EXPIRY (R53, R54): a pending Meridian start no longer waits for a first acquisition. -/
def execAcquisitionWaitExpiry (s : State) : Out :=
  match s.servo.startWait with
  | some t =>
    let s := s.advanceTo t
    done (s.setServo { s.servo with startWait := none })
  | none => done s

/-! ## Time outputs and inputs -/

/-- The next pulse of a time output (R58): mode 1 at the last frame start of its pipeline plus OFFSET_NS, mode 2 at
START and every PERIOD_NS after it; at or after the present, and after its last pulse. -/
def State.nextPulse (s : State) (n : Nat) : Option Nat :=
  let from' := match KMap.find s.mer.lastPulse n with
    | some t => max s.datum (t + 1)
    | none => s.datum
  if !s.bit (Reg.MER_TOUT_CTRL_EN n) then none
  else if s.get (Reg.MER_TOUT_CTRL_MODE n) = 1 then
    match KMap.find s.mer.frameStart (s.get (Reg.MER_TOUT_CTRL_PIPE n)) with
    | some f =>
      let t := f + s.get (Reg.MER_TO_OFFSET_NS_OFFSET_NS n)
      if !s.mer.gap && decide (from' ≤ t) then some t else none
    | none => none
  else if s.get (Reg.MER_TOUT_CTRL_MODE n) = 2 then
    let start := s.get (Reg.MER_TO_START_SEC_START_SEC n) * 1000000000 + s.get (Reg.MER_TO_START_NS_START_NS n)
    let p := s.get (Reg.MER_TO_PERIOD_NS_PERIOD_NS n)
    if from' ≤ start then some start
    else if p = 0 then none
    else some (start + (from' - start + p - 1) / p * p)
  else none

/-- TIME_OUT_PULSE (R58). -/
def execTimeOutPulse (n : Fin 8) (s : State) : Out :=
  match s.nextPulse n.val with
  | some t =>
    let s := s.advanceTo t
    let s := { s with mer := { s.mer with lastPulse := KMap.put s.mer.lastPulse n.val t } }
    done (s.emit (.pulse n.val t (s.get (Reg.MER_TO_WIDTH_NS_WIDTH_NS n.val)) (s.bit (Reg.MER_TOUT_CTRL_POL n.val))))
  | none => done s

/-- A time input's record. -/
def State.tin (s : State) (n : Nat) : TimeIn := KMap.getD s.timeIn n {}

/-- The state with a time input's record set; COUNT follows its FIFO. -/
def State.setTin (s : State) (n : Nat) (r : TimeIn) : State :=
  { s with timeIn := KMap.set {} s.timeIn n r }.set (Reg.MER_TI_CTRL_COUNT n) r.fifo.length

/-- TIME_IN_EDGE (R59): a selected edge is captured; within 100 ns of the last capture it is MISSED, with a full
FIFO it sets OVERFLOW. An edge dropped for a full FIFO is no capture for the edges after it (DESIGN CHOICE: log entry 47). -/
def execTimeInEdge (n : Fin 8) (rising : Bool) (s : State) : Out :=
  let sel := if rising then bitOf (s.get (Reg.MER_TI_CTRL_EDGE n.val)) 0 else bitOf (s.get (Reg.MER_TI_CTRL_EDGE n.val)) 1
  if !s.bit (Reg.MER_TI_CTRL_EN n.val) || !sel then done s
  else
    let r := s.tin n.val
    let near := match r.last with
      | some t => decide (s.datum < t + 100)
      | none => false
    if near then done (s.set (Reg.MER_TI_CTRL_MISSED n.val) 1)
    else if 16 ≤ r.fifo.length then done (s.set (Reg.MER_TI_CTRL_OVERFLOW n.val) 1)
    else done (s.setTin n.val ⟨r.fifo ++ [s.datum], some s.datum⟩)

/-- A read of the NS register of a time input pops the oldest capture and latches its seconds for the hart. -/
def State.popTin (s : State) (who : Agent) (n : Nat) : State :=
  match (s.tin n).fifo with
  | [] => s.answer 0
  | t :: rest =>
    ((s.setTin n { s.tin n with fifo := rest }).setLatch who (Reg.MER_TI_SEC_addr n) (t / 1000000000)).answer
      (2 ^ 31 + t % 1000000000)

/-- TIME_IN_POP (R59). -/
def execTimeInPop (who : Agent) (n : Fin 8) (s : State) : Out :=
  done (s.gate who (Reg.MER_TI_NS_addr n.val) false (fun s => s.popTin who n.val))

/-- The frame length of the pipeline that a time output follows, in ns. -/
def State.toutFrameNs (s : State) (n : Nat) : Nat := s.activeFrame (s.get (Reg.MER_TOUT_CTRL_PIPE n)) * s.periodNs

/-- TIME_OUT pin `n` holds the inactive level: low, or high where the pulse is active-low (R58). -/
def State.toutIdle (s : State) (n : Nat) : State :=
  { s with pins := { s.pins with timeOut :=
      (if s.bit (Reg.MER_TOUT_CTRL_POL n) then setMask s.pins.timeOut n else clrMask s.pins.timeOut n) } }

/-- A write of the CTRL register of time output `n` (R58): MODE 3 is illegal. Between pulses, and with EN = 0 or MODE = 0, the
pin holds the inactive level. -/
def State.writeToutCtrl (s : State) (n v : Nat) : State :=
  if bitsOf v 30 29 = 3 then s.merStatus Code.eIllegal
  else (((((s.set (Reg.MER_TOUT_CTRL_EN n) (bitsOf v 31 31)).set (Reg.MER_TOUT_CTRL_MODE n) (bitsOf v 30 29)).set
    (Reg.MER_TOUT_CTRL_POL n) (bitsOf v 28 28)).set (Reg.MER_TOUT_CTRL_PIPE n) (bitsOf v 27 23)).toutIdle n).merStatus Code.ok

/-- A write of another register of time output `n` after its check. -/
def State.writeTout (s : State) (f : Field) (check v : Nat) : State :=
  if check = Code.ok then (s.set f v).merStatus Code.ok else s.merStatus check

/-- The checks of OFFSET_NS (below the frame length), PERIOD_NS and WIDTH_NS (their ranges). OFFSET_NS is checked while MODE = 1,
the mode in which R58 gives it a meaning, and not again when MODE or PIPE changes (DESIGN CHOICE: log entry 47). -/
def State.toutOffsetCheck (s : State) (n v : Nat) : Nat :=
  if s.get (Reg.MER_TOUT_CTRL_MODE n) = 1 && !(v < s.toutFrameNs n : Bool) then Code.eBounds else Code.ok

def State.toutPeriodCheck (v : Nat) : Nat :=
  if 1000 ≤ v ∧ v ≤ 1000000000 then Code.ok else Code.eIllegal

def State.toutWidthCheck (s : State) (n v : Nat) : Nat :=
  if 10 ≤ v ∧ v + 10 ≤ s.get (Reg.MER_TO_PERIOD_NS_PERIOD_NS n) then Code.ok else Code.eIllegal

/-- A write of the CTRL register of time input `n` (R59): EDGE 0 is illegal. -/
def State.writeTinCtrl (s : State) (n v : Nat) : State :=
  if bitsOf v 30 29 = 0 then s.merStatus Code.eIllegal
  else
    let s := (s.set (Reg.MER_TI_CTRL_EN n) (bitsOf v 31 31)).set (Reg.MER_TI_CTRL_EDGE n) (bitsOf v 30 29)
    let s := if bitOf v 9 then s.set (Reg.MER_TI_CTRL_MISSED n) 0 else s
    let s := if bitOf v 8 then s.set (Reg.MER_TI_CTRL_OVERFLOW n) 0 else s
    s.merStatus Code.ok

end Sys2Proof.Machine
end

