-- ==== Sys2Proof/Machine/Fabric.lean ====
section
/-! DEFINITION. Accesses to memory over the fabric (R33–R36, R166, R169, R299–R301): what a single access of an
attribute may do at an address, and a range of memory that an engine reads or writes for a queue or context. -/

namespace Sys2Proof.Machine
open Sys2Proof

/-- The channel group's own check (R166): its owner may read and write, its sharers may read. -/
def groupAllows (s : State) (g : Nat) (at' : Attr) (write : Bool) : Bool :=
  s.get (Reg.DDR_CG_CTRL_OWNER g) = at'.partition ||
  (!write && bitOf (s.get (Reg.DDR_CG_SHARE_SHARERS g)) at'.partition)

/-- A channel group refuses an access (R166): counted in DDR_CG_VIOL and FB 0x6050.01, DDR_EVENTS.VIOL set. -/
def State.groupRefuse (s : State) (g : Nat) (at' : Attr) : State :=
  (((s.inc (Reg.DDR_CG_VIOL_COUNT g)).set (Reg.DDR_CG_VIOL_LAST_PART g) at'.partition).fbInc 0x6050 1).set
    Reg.DDR_EVENTS_VIOL 1

/-- Why an access does not reach its target. -/
inductive Reach where
  | ok
  /-- Nothing is there: a bus error (R33–R36). -/
  | hole
  /-- The Cadastre checker or the channel group refuses it. -/
  | refused
  /-- The PCIe link is down (R347, R447). -/
  | link
  deriving DecidableEq, Repr

/-- The PCIe link is down, or PCIe is off: PCIE_MODE 0, or straps that are illegal (R430). What an access to the far side
does while PCIe is off is taken from the link's loss (DEDUCED: log entry 44). -/
def State.pcieDown (s : State) : Bool :=
  s.brg.linkDown || s.get Reg.SYS_STRAP_PCIE_MODE = 0 || s.bit Reg.SYS_STRAP_ERR

/-- Bytes of the KV cache of a cluster: BANKS banks of 256 KiB (R142). -/
def State.kvCapacity (s : State) (c : Nat) : Nat := s.get (Reg.TEN_KV_CACHE_BANKS c) * 0x40000

/-- The cluster of an address in the tile memory or cluster buffer windows. -/
def sramCluster (a : Nat) : Nat := if a < 0x50000000 then (a - 0x40000000) / 0x1000000 else (a - 0x50000000) / 0x800000

/-- The address lies in a cluster's KV cache area (R142). -/
def State.inKvArea (s : State) (a : Nat) : Bool :=
  0x50000000 ≤ a && decide (a < 0x58000000) && decide (0x800000 ≤ a % 0x800000 + s.kvCapacity (sramCluster a))

/-- One access at address `a` (R300: judged at its first byte), and the state with a refusal recorded. -/
def State.reach1 (s : State) (at' : Attr) (write : Bool) (a : Nat) : Reach × State :=
  match s.target a with
  | .hole => (.hole, s)
  | .reg => (.hole, s)
  | .rom => (if at'.secure && !write then .ok else .refused, s)
  | .dram g c =>
    match s.cadCheck c at' write a with
    | (false, s) => (.refused, s)
    | (true, s) => if groupAllows s g at' write then (.ok, s) else (.refused, s.groupRefuse g at')
  | .sram k =>
    match s.cadCheck k at' write a with
    | (false, s) => (.refused, s)
    | (true, s) => (if s.inKvArea a then .hole else .ok, s)
  | .pcie =>
    match s.cadCheck 42 at' write a with
    | (false, s) => (.refused, s)
    | (true, s) => (if s.pcieDown then .link else .ok, s)

/-- The number of accesses that cover `[a, a + len)`: no access crosses a 4 KiB boundary (R300). -/
def pageCount (a len : Nat) : Nat := if len = 0 then 0 else (a + len - 1) / 4096 - a / 4096 + 1

/-- Accesses from address `a`, each of the others at the next 4 KiB boundary; the first that fails ends them. -/
def State.reachPages (s : State) (at' : Attr) (write : Bool) : Nat → Nat → Reach × State
  | 0, _ => (.ok, s)
  | n + 1, a =>
    match s.reach1 at' write a with
    | (.ok, s) => s.reachPages at' write n ((a / 4096 + 1) * 4096)
    | (r, s) => (r, s)

/-- An engine's accesses to `[a, a + len)` under an attribute. -/
def State.reach (s : State) (at' : Attr) (write : Bool) (a len : Nat) : Reach × State :=
  s.reachPages at' write (pageCount a len) a

/-- The range can be accessed as it stands (no refusal is recorded): used where the spec asks whether a buffer lies
inside its partition's memory. -/
def State.canReach (s : State) (at' : Attr) (write : Bool) (a len : Nat) : Bool :=
  (s.reach at' write a len).1 = .ok

/-- The status with which a service or engine reports an access that did not reach its target: E_ACCESS for a
refusal, E_BOUNDS where nothing is there, E_LINK where the link is down (R447). -/
def Reach.code : Reach → Nat
  | .ok => Code.ok
  | .hole => Code.eBounds
  | .refused => Code.eAccess
  | .link => Code.eLink

/-- A range to be read or written under an attribute. -/
structure Span where
  attr : Attr
  write : Bool
  addr : Nat
  len : Nat
  deriving DecidableEq, Repr

/-- Ranges are reached one after the other; the first that cannot be gives its status. -/
def State.reachSpans (s : State) : List Span → Nat × State
  | [] => (Code.ok, s)
  | x :: xs =>
    match s.reach x.attr x.write x.addr x.len with
    | (.ok, s) => s.reachSpans xs
    | (r, s) => (r.code, s)

end Sys2Proof.Machine
end

