-- ==== Sys2Proof/Machine/EnWrite.lean ====
section
/-! DEFINITION. The EN rule of R445: a register with an enable bit, fields writable only while EN = 0 and fields that
stay writable. -/

namespace Sys2Proof.Machine
open Sys2Proof

/-- A register with an enable bit (R445): its EN field, the field that reports the status of a write, the fields of
the write that are taken only while EN = 0 and those always taken, each with its new value; the check that setting EN
makes on the new values and the reads that it takes, the refusal of a clear, and what enabling and disabling do. -/
structure EnReg where
  en : Field
  status : Field
  locked : List (Field × Nat)
  free : List (Field × Nat)
  check : State → Nat
  mayClear : State → Nat
  onEnable : State → State
  onDisable : State → State
  reads : State → List Span := fun _ => []

/-- Fields are set in order. -/
def State.setAll (s : State) (l : List (Field × Nat)) : State := l.foldl (fun s p => s.set p.1 p.2) s

/-- A field of the write would change. -/
def State.changes (s : State) (l : List (Field × Nat)) : Bool := l.any (fun p => s.get p.1 != p.2 % 2 ^ p.1.width)

/-- The write is refused whole: the check that setting EN makes fails, or EN may not clear. -/
def State.enRefused (s : State) (r : EnReg) (newEn : Bool) : Bool :=
  if s.bit r.en then !newEn && r.mayClear s != Code.ok
  else newEn && r.check ((s.setAll r.locked).setAll r.free) != Code.ok

/-- The write of a register with EN under R445. Where the check ends with E_ACCESS the refused read is counted and logged (R301). -/
def State.enWrite (s : State) (r : EnReg) (newEn : Bool) : State :=
  if s.bit r.en then
    let report := if s.changes r.locked then Code.eState else Code.ok
    if newEn then (s.setAll r.free).set r.status report
    else
      let c := r.mayClear s
      if c = Code.ok then (r.onDisable ((s.setAll r.free).set r.en 0)).set r.status report
      else s.set r.status c
  else
    let s' := (s.setAll r.locked).setAll r.free
    if newEn then
      let c := r.check s'
      if c = Code.ok then (r.onEnable (s'.set r.en 1)).set r.status Code.ok
      else (if c = Code.eAccess then (s.reachSpans (r.reads s')).2 else s).set r.status c
    else s'.set r.status Code.ok

end Sys2Proof.Machine
end

