-- ==== Sys2Proof/Machine/Crypto.lean ====
section
/-! DEFINITION. The cryptographic functions that the spec names by their standards: AES-128 and AES-256 (FIPS 197),
AES-CMAC (NIST SP 800-38B, R305, R368), SHA-384 (FIPS 180-4, R308), ECDSA over P-384 (R308), and the CRC-32 that
the chapters use. Bytes are numbers below 256, in the byte order of the standards. -/

namespace Sys2Proof.Crypto

/-- Byte-wise exclusive or. -/
def xorBytes (a b : List Nat) : List Nat := List.zipWith (fun x y => x ^^^ y) a b

/-- The AES S-box as one number, entry x at bits [8x+7:8x]. -/
def sboxWord : Nat :=
  0x16BB54B00F2D99416842E6BF0D89A18CDF2855CEE9871E9B948ED9691198F8E19E1DC186B95735610EF6034866B53E708A8BBD4B1F74DDE8C6B4A61C2E2578BA08AE7A65EAF4566CA94ED58D6D37C8E779E4959162ACD3C25C2406490A3A32E0DB0B5EDE14B8EE4688902A22DC4F816073195D643D7EA7C41744975FEC130CCDD2F3FF1021DAB6BCF5389D928F40A351A89F3C507F02F94585334D43FBAAEFD0CF584C4A39BECB6A5BB1FC20ED00D153842FE329B3D63B52A05A6E1B1A2C830975B227EBE28012079A059618C323C7041531D871F1E5A534CCF73F362693FDB7C072A49CAFA2D4ADF04759FA7DC982CA76ABD7FE2B670130C56F6BF27B777C63

/-- The AES S-box. -/
def sbox (x : Nat) : Nat := (sboxWord >>> (8 * x)) % 256

/-- Multiplication by x in GF(2⁸). -/
def xtime (a : Nat) : Nat := if a < 128 then 2 * a else (2 * a) ^^^ 0x11B

/-- Element `i` of a list of bytes. -/
def byteAt (l : List Nat) (i : Nat) : Nat := l.getD i 0

/-- The words of the expanded key, the last first: `n` more words after those in `acc` (`nk` key words). -/
def expandGo (nk : Nat) : Nat → Nat → Nat → List (List Nat) → List (List Nat)
  | 0, _, _, acc => acc
  | n + 1, i, rcon, acc =>
    let prev := acc.headD []
    let back := acc.getD (nk - 1) []
    if i % nk = 0 then
      let t := ((prev.drop 1 ++ prev.take 1).map sbox)
      let t := match t with
        | b :: bs => (b ^^^ rcon) :: bs
        | [] => []
      expandGo nk n (i + 1) (xtime rcon) (xorBytes back t :: acc)
    else if nk > 6 && i % nk = 4 then
      expandGo nk n (i + 1) rcon (xorBytes back (prev.map sbox) :: acc)
    else expandGo nk n (i + 1) rcon (xorBytes back prev :: acc)

/-- Lists of four. -/
def quads : List Nat → List (List Nat)
  | a :: b :: c :: d :: rest => [a, b, c, d] :: quads rest
  | _ => []

/-- The round keys of an AES key of 16 or 32 bytes, 16 bytes each. -/
def roundKeys (key : List Nat) : List (List Nat) :=
  let nk := key.length / 4
  let words := (expandGo nk (4 * (nk + 7) - nk) nk 1 (quads key).reverse).reverse
  (List.range (nk + 7)).map (fun r => ((words.drop (4 * r)).take 4).flatten)

/-- ShiftRows on the 16 bytes in column order. -/
def shiftRows (s : List Nat) : List Nat :=
  (List.range 16).map (fun i => byteAt s ((i + 4 * (i % 4)) % 16))

/-- MixColumns of one column. -/
def mixColumn : List Nat → List Nat
  | [a, b, c, d] =>
    let all := a ^^^ b ^^^ c ^^^ d
    [a ^^^ all ^^^ xtime (a ^^^ b), b ^^^ all ^^^ xtime (b ^^^ c),
     c ^^^ all ^^^ xtime (c ^^^ d), d ^^^ all ^^^ xtime (d ^^^ a)]
  | l => l

/-- The rounds after the first key addition. -/
def aesRounds : List (List Nat) → List Nat → List Nat
  | [], s => s
  | [k], s => xorBytes (shiftRows (s.map sbox)) k
  | k :: ks, s => aesRounds ks (xorBytes ((quads (shiftRows (s.map sbox))).map mixColumn).flatten k)

/-- AES encryption of one block. -/
def aes (key block : List Nat) : List Nat :=
  match roundKeys key with
  | [] => block
  | k :: ks => aesRounds ks (xorBytes block k)

/-- Doubling in GF(2¹²⁸) for the CMAC subkeys. -/
def cmacDouble (b : List Nat) : List Nat :=
  let v := beValue b
  let d := if v < 2 ^ 127 then 2 * v else (2 * v - 2 ^ 128) ^^^ 0x87
  beBytes 16 d

/-- Blocks of `n` bytes; the last may be short. The first argument bounds the count. -/
def blocksOf (n : Nat) : Nat → List Nat → List (List Nat)
  | 0, _ => []
  | _, [] => []
  | k + 1, l => l.take n :: blocksOf n k (l.drop n)

/-- AES-CMAC. -/
def cmac (key msg : List Nat) : List Nat :=
  let k1 := cmacDouble (aes key (List.replicate 16 0))
  let bs := blocksOf 16 (msg.length / 16 + 1) msg
  let last := bs.getLastD []
  let final :=
    if last.length = 16 then xorBytes last k1
    else xorBytes (last ++ 0x80 :: List.replicate (15 - last.length) 0) (cmacDouble k1)
  aes key (xorBytes ((bs.dropLast).foldl (fun c b => aes key (xorBytes c b)) (List.replicate 16 0)) final)

/-! ## SHA-384 -/

/-- The round constants of SHA-512 and SHA-384. -/
def shaK : List Nat :=
  [0x428A2F98D728AE22, 0x7137449123EF65CD, 0xB5C0FBCFEC4D3B2F, 0xE9B5DBA58189DBBC,
   0x3956C25BF348B538, 0x59F111F1B605D019, 0x923F82A4AF194F9B, 0xAB1C5ED5DA6D8118,
   0xD807AA98A3030242, 0x12835B0145706FBE, 0x243185BE4EE4B28C, 0x550C7DC3D5FFB4E2,
   0x72BE5D74F27B896F, 0x80DEB1FE3B1696B1, 0x9BDC06A725C71235, 0xC19BF174CF692694,
   0xE49B69C19EF14AD2, 0xEFBE4786384F25E3, 0x0FC19DC68B8CD5B5, 0x240CA1CC77AC9C65,
   0x2DE92C6F592B0275, 0x4A7484AA6EA6E483, 0x5CB0A9DCBD41FBD4, 0x76F988DA831153B5,
   0x983E5152EE66DFAB, 0xA831C66D2DB43210, 0xB00327C898FB213F, 0xBF597FC7BEEF0EE4,
   0xC6E00BF33DA88FC2, 0xD5A79147930AA725, 0x06CA6351E003826F, 0x142929670A0E6E70,
   0x27B70A8546D22FFC, 0x2E1B21385C26C926, 0x4D2C6DFC5AC42AED, 0x53380D139D95B3DF,
   0x650A73548BAF63DE, 0x766A0ABB3C77B2A8, 0x81C2C92E47EDAEE6, 0x92722C851482353B] ++
  [0xA2BFE8A14CF10364, 0xA81A664BBC423001, 0xC24B8B70D0F89791, 0xC76C51A30654BE30,
   0xD192E819D6EF5218, 0xD69906245565A910, 0xF40E35855771202A, 0x106AA07032BBD1B8,
   0x19A4C116B8D2D0C8, 0x1E376C085141AB53, 0x2748774CDF8EEB99, 0x34B0BCB5E19B48A8,
   0x391C0CB3C5C95A63, 0x4ED8AA4AE3418ACB, 0x5B9CCA4F7763E373, 0x682E6FF3D6B2B8A3,
   0x748F82EE5DEFB2FC, 0x78A5636F43172F60, 0x84C87814A1F0AB72, 0x8CC702081A6439EC,
   0x90BEFFFA23631E28, 0xA4506CEBDE82BDE9, 0xBEF9A3F7B2C67915, 0xC67178F2E372532B,
   0xCA273ECEEA26619C, 0xD186B8C721C0C207, 0xEADA7DD6CDE0EB1E, 0xF57D4F7FEE6ED178,
   0x06F067AA72176FBA, 0x0A637DC5A2C898A6, 0x113F9804BEF90DAE, 0x1B710B35131C471B,
   0x28DB77F523047D84, 0x32CAAB7B40C72493, 0x3C9EBE0A15C9BEBC, 0x431D67C49C100D4C,
   0x4CC5D4BECB3E42B6, 0x597F299CFC657E2A, 0x5FCB6FAB3AD6FAEC, 0x6C44198C4A475817]

/-- The initial hash value of SHA-384. -/
def shaH0 : List Nat :=
  [0xCBBB9D5DC1059ED8, 0x629A292A367CD507, 0x9159015A3070DD17, 0x152FECD8F70E5939,
   0x67332667FFC00B31, 0x8EB44A8768581511, 0xDB0C2E0D64F98FA7, 0x47B5481DBEFA4FA4]

/-- Rotation of a 64-bit word to the right. -/
def rotr (x n : Nat) : Nat := (x >>> n) ||| ((x <<< (64 - n)) % 2 ^ 64)

/-- The message schedule, the last word first: `n` more words. -/
def shaSchedule : Nat → List Nat → List Nat
  | 0, w => w
  | n + 1, w =>
    let g := fun i => w.getD i 0
    let s0 := rotr (g 14) 1 ^^^ rotr (g 14) 8 ^^^ (g 14 >>> 7)
    let s1 := rotr (g 1) 19 ^^^ rotr (g 1) 61 ^^^ (g 1 >>> 6)
    shaSchedule n ((g 15 + s0 + g 6 + s1) % 2 ^ 64 :: w)

/-- One round on the working variables a to h. -/
def shaRound (st : List Nat) (kw : Nat × Nat) : List Nat :=
  match st with
  | [a, b, c, d, e, f, g, h] =>
    let t1 := h + (rotr e 14 ^^^ rotr e 18 ^^^ rotr e 41) + ((e &&& f) ^^^ ((2 ^ 64 - 1 - e) &&& g)) + kw.1 + kw.2
    let t2 := (rotr a 28 ^^^ rotr a 34 ^^^ rotr a 39) + ((a &&& b) ^^^ (a &&& c) ^^^ (b &&& c))
    [(t1 + t2) % 2 ^ 64, a, b, c, (d + t1) % 2 ^ 64, e, f, g]
  | l => l

/-- The compression of one 128-byte block. -/
def shaBlock (h : List Nat) (block : List Nat) : List Nat :=
  let w := (shaSchedule 64 ((blocksOf 8 16 block).map beValue).reverse).reverse
  List.zipWith (fun x y => (x + y) % 2 ^ 64) h ((shaK.zip w).foldl shaRound h)

/-- SHA-384 of a message: 48 bytes. -/
def sha384 (msg : List Nat) : List Nat :=
  let pad := (239 - msg.length % 128) % 128
  let m := msg ++ 0x80 :: List.replicate pad 0 ++ beBytes 16 (8 * msg.length)
  (((blocksOf 128 (m.length / 128 + 1) m).foldl shaBlock shaH0).map (beBytes 8)).flatten.take 48

/-! ## ECDSA over P-384 -/

/-- The prime, the order, the coefficient b and the base point of P-384 (SEC 2). -/
def p384p : Nat := 2 ^ 384 - 2 ^ 128 - 2 ^ 96 + 2 ^ 32 - 1
def p384n : Nat := 0xFFFFFFFFFFFFFFFFFFFFFFFFFFFFFFFFFFFFFFFFFFFFFFFFC7634D81F4372DDF581A0DB248B0A77AECEC196ACCC52973
def p384b : Nat := 0xB3312FA7E23EE7E4988E056BE3F82D19181D9C6EFE8141120314088F5013875AC656398D8A2ED19D2A85C8EDD3EC2AEF
def p384gx : Nat := 0xAA87CA22BE8B05378EB1C71EF320AD746E1D3B628BA79B9859F741E082542A385502F25DBF55296C3A545E3872760AB7
def p384gy : Nat := 0x3617DE4A96262C6F5D9E98BF9292DC29F8F41DBD289A147CE9DA3113B5F0B8C00A60B1CE1D7E819D7A431D7C90EA0E5F

/-- Modular exponentiation, `k` bits of exponent from the most significant. -/
def powMod (m b e : Nat) : Nat → Nat
  | 0 => 1 % m
  | k + 1 =>
    let r := powMod m b e k
    let r2 := r * r % m
    if bitOf e (383 - k) then r2 * b % m else r2

/-- The inverse modulo a prime below 2³⁸⁴. -/
def invMod (m a : Nat) : Nat := powMod m (a % m) (m - 2) 384

/-- A point of the curve; none is the point at infinity. -/
abbrev Point := Option (Nat × Nat)

/-- Subtraction modulo p. -/
def subMod (a b : Nat) : Nat := (a + p384p - b % p384p) % p384p

/-- Addition of points. -/
def pointAdd : Point → Point → Point
  | none, q => q
  | p, none => p
  | some (x1, y1), some (x2, y2) =>
    if x1 = x2 ∧ (y1 + y2) % p384p = 0 then none
    else
      let l := if x1 = x2 then subMod (3 * x1 * x1) 3 * invMod p384p (2 * y1) % p384p
               else subMod y2 y1 * invMod p384p (subMod x2 x1) % p384p
      let x3 := subMod (subMod (l * l) x1) x2
      some (x3, subMod (l * subMod x1 x3) y1)

/-- Multiplication of a point by a scalar, `k` bits from the most significant. -/
def pointMul (e : Nat) (p : Point) : Nat → Point
  | 0 => none
  | k + 1 =>
    let r := pointMul e p k
    let r2 := pointAdd r r
    if bitOf e (383 - k) then pointAdd r2 p else r2

/-- Verification of an ECDSA P-384 signature (r, s) of a SHA-384 digest under the public key (x, y). -/
def ecdsaVerify (digest pub sig : List Nat) : Bool :=
  let x := beValue (pub.take 48)
  let y := beValue (pub.drop 48)
  let r := beValue (sig.take 48)
  let s := beValue (sig.drop 48)
  if x < p384p && y < p384p && (y * y) % p384p = (x * x % p384p * x + subMod p384b (3 * x)) % p384p
      && 0 < r && r < p384n && 0 < s && s < p384n then
    let w := invMod p384n s
    match pointAdd (pointMul (beValue digest * w % p384n) (some (p384gx, p384gy)) 384)
        (pointMul (r * w % p384n) (some (x, y)) 384) with
    | none => false
    | some (px, _) => px % p384n = r
  else false

/-! ## CRC-32 -/

/-- Eight steps of the reflected CRC-32 register with the reflected polynomial `poly`. -/
def crcStep (poly : Nat) : Nat → Nat → Nat
  | 0, c => c
  | n + 1, c => crcStep poly n (if c % 2 = 1 then (c / 2) ^^^ poly else c / 2)

/-- The CRC-32 register after the bytes of a message. The match on the register's value leaves it as it is; it lets the
kernel evaluate the register byte by byte. -/
def crcBytes (poly : Nat) : List Nat → Nat → Nat
  | [], c => c
  | b :: bs, c =>
    match crcStep poly 8 (c ^^^ b) with
    | 0 => crcBytes poly bs 0
    | n + 1 => crcBytes poly bs (n + 1)

/-- A reflected CRC-32 over bytes with initial value and final exclusive or of all ones. -/
def crc32 (poly : Nat) (msg : List Nat) : Nat := crcBytes poly msg 0xFFFFFFFF ^^^ 0xFFFFFFFF

end Sys2Proof.Crypto
end

