-- ==== Sys2Proof/Machine/Flows.lean ====
section
/-! DEFINITION. Gateway flows (R337–R344): the flow contexts, classification, signal mapping, the latest-value rule, the
egress queues and the delivery to endpoints. -/

namespace Sys2Proof.Machine
open Sys2Proof

/-! ## Flow contexts (R337) -/

/-- The value at an index, 0 beyond the end. -/
def natAt : List Nat → Nat → Nat
  | [], _ => 0
  | x :: _, 0 => x
  | _ :: xs, n + 1 => natAt xs n

/-- A flow context: its number and 16 words. -/
structure Flow where
  num : Nat
  ws : List Nat
  deriving DecidableEq, Repr

def Flow.f (f : Flow) (w hi lo : Nat) : Nat := bitsOf (natAt f.ws w) hi lo
def Flow.valid (f : Flow) : Bool := f.f 0 31 31 = 1
def Flow.kind (f : Flow) : Nat := f.f 0 30 29
def Flow.mapped (f : Flow) : Bool := f.f 0 28 28 = 1
def Flow.cb (f : Flow) : Bool := f.f 0 27 27 = 1
def Flow.tc (f : Flow) : Nat := f.f 0 26 24
def Flow.inFmt (f : Flow) : Nat := f.f 0 23 22
def Flow.outFmt (f : Flow) : Nat := f.f 0 21 20
def Flow.producer (f : Flow) : Nat := f.f 0 19 18
def Flow.endpoint (f : Flow) : Nat := f.f 0 7 0
def Flow.inIf (f : Flow) : Nat := f.f 1 7 0
def Flow.outIf (f : Flow) : Nat := f.f 1 15 8
def Flow.key0 (f : Flow) : Nat := natAt f.ws 2
def Flow.key1 (f : Flow) : Nat := natAt f.ws 3
def Flow.outKey0 (f : Flow) : Nat := natAt f.ws 4
def Flow.outKey1 (f : Flow) : Nat := natAt f.ws 5
def Flow.mapIndex (f : Flow) : Nat := f.f 6 15 0
def Flow.mapCount (f : Flow) : Nat := f.f 6 23 16
def Flow.outLen (f : Flow) : Nat := f.f 7 13 0
/-- MIN_GAP_US, OUT_PERIOD_US and TIMEOUT_US in ns. -/
def Flow.minGap (f : Flow) : Nat := f.f 8 19 0 * 1000
def Flow.period (f : Flow) : Nat := f.f 9 19 0 * 1000
def Flow.timeout (f : Flow) : Nat := f.f 10 19 0 * 1000

def State.flow (s : State) (n : Nat) : Flow := ⟨n, KMap.getD s.gwy.flows n []⟩
def State.flowVal (s : State) (n : Nat) : FlowVal := KMap.getD s.gwy.vals n {}
def State.setFlowVal (s : State) (n : Nat) (v : FlowVal) : State := { s with gwy := { s.gwy with vals := KMap.put s.gwy.vals n v } }
def State.ep (s : State) (e : Nat) : Option Endpoint := KMap.find s.gwy.eps e
def State.setEp (s : State) (e : Nat) (p : Endpoint) : State := { s with gwy := { s.gwy with eps := KMap.put s.gwy.eps e p } }

/-- Interface numbers: CAN, LIN, MAC. -/
def isCan (i : Nat) : Bool := decide (i < 16)
def isLin (i : Nat) : Bool := decide (16 ≤ i) && decide (i < 24)
def isMac (i : Nat) : Bool := decide (0x20 ≤ i) && decide (i < 0x26)
def isLink (i : Nat) : Bool := isCan i || isLin i || isMac i

/-- The largest payload of an egress (R338). -/
def egressMax (outIf outFmt : Nat) : Nat :=
  if isMac outIf then 8192
  else if isCan outIf then (match outFmt with | 0 => 8 | 1 => 64 | _ => 2048)
  else if isLin outIf then 8
  else 16384

/-! ## Signal mapping (R342) -/

/-- Bit `j` (from the most significant) of a field: byte and bit of it. -/
def fieldBit (pos width : Nat) (be : Bool) (j : Nat) : Nat × Nat :=
  if be then
    let lin := pos / 8 * 8 + (7 - pos % 8) + j
    (lin / 8, 7 - lin % 8)
  else
    let lin := pos + (width - 1 - j)
    (lin / 8, lin % 8)

/-- A byte of a list with a bit set to a value. -/
def putBit (bs : List Nat) (p : Nat × Nat) (v : Bool) : List Nat :=
  let x := natAt bs p.1
  let y := if bitOf x p.2 then x - 2 ^ p.2 else x
  bs.set p.1 (if v then y + 2 ^ p.2 else y)

/-- One map entry copies its field; none if the input is too short. Bits beyond the output are dropped. -/
def mapEntry (e : Nat) (src : List Nat) (out : List Nat) : Option (List Nat) :=
  let w := bitsOf e 38 32
  let from' := (List.range w).map (fieldBit (bitsOf e 15 0) w (bitOf e 39))
  let to' := (List.range w).map (fieldBit (bitsOf e 31 16) w (bitOf e 40))
  if from'.any (fun p => decide (src.length ≤ p.1)) then none
  else some ((List.zip from' to').foldl (fun o p => putBit o p.2 (bitOf (natAt src p.1.1) p.1.2)) out)

/-- Map entries in order. -/
def mapAll (src : List Nat) : List Nat → List Nat → Option (List Nat)
  | [], out => some out
  | e :: es, out =>
    match mapEntry e src out with
    | some o => mapAll src es o
    | none => none

/-- The output of a flow for an input value; none where the payload is too short. -/
def State.mapValue (s : State) (f : Flow) (v : List Nat) : Option (List Nat) :=
  if f.mapped then
    mapAll v ((List.range f.mapCount).map (fun i => KMap.getD s.gwy.maps (f.mapIndex + i) 0)) (List.replicate f.outLen 0)
  else some v

/-! ## Egress (R341, R343) -/

def State.egressOf (s : State) (i : Nat) : List EgFrame := KMap.getD s.gwy.egress i []
def State.setEgress (s : State) (i : Nat) (l : List EgFrame) : State :=
  { s with gwy := { s.gwy with egress := KMap.set [] s.gwy.egress i l } }

/-- A frame is handed to an interface: a newer frame of the same flow replaces a waiting one; a class of a MAC holds up to 256
frames of no flow (R343). -/
def State.enqueue (s : State) (i : Nat) (fr : EgFrame) : State :=
  let q := s.egressOf i
  if fr.flow < 65536 && q.any (fun x => x.flow = fr.flow) then
    (s.fbInc 0x60C0 4).setEgress i (q.map (fun x => if x.flow = fr.flow then fr else x))
  else if isMac i && decide (65536 ≤ fr.flow) && decide (256 ≤ (q.filter (fun x => x.flow = fr.flow && x.tc = fr.tc)).length) then
    s.fbInc 0x60C0 6
  else s.setEgress i (q ++ [fr])

/-- The 16-bit one's complement sum of bytes. -/
def onesSum : List Nat → Nat
  | a :: b :: rest => let x := a * 256 + b + onesSum rest; x % 65536 + x / 65536
  | [a] => a * 256
  | [] => 0

/-- The IPv6 UDP datagram of a PDU with the addresses of a destination entry (R340, R341), in an Ethernet frame. -/
def pduFrame (d : List Nat) (cbSeq : Option Nat) (pduId : Nat) (payload : List Nat) : List Nat :=
  let le := fun (o n : Nat) => leValue ((d.drop o).take n)
  let src := (d.drop 0x10).take 16
  let dst := (d.drop 0x20).take 16
  let data := beBytes 4 pduId ++ beBytes 4 payload.length ++ payload
  let ports := beBytes 2 (le 4 2) ++ beBytes 2 (le 6 2)
  let len := 8 + data.length
  let sum := onesSum (src ++ dst ++ beBytes 4 len ++ [0, 0, 0, 17] ++ ports ++ beBytes 2 len ++ [0, 0] ++ data)
  let sum := sum % 65536 + sum / 65536
  let ck := 65535 - sum
  let tag := if bitOf (natAt d 1) 0 then
      [0x81, 0x00] ++ beBytes 2 (bitsOf (le 0 2) 11 9 * 8192 + bitsOf (le 0 4) 27 16) else []
  let rtag := match cbSeq with | some q => [0xF1, 0xC1, 0, 0] ++ beBytes 2 q | none => []
  (d.drop 8).take 6 ++ (d.drop 0x38).take 6 ++ tag ++ rtag ++ [0x86, 0xDD] ++
    beBytes 4 (0x60000000 + natAt d 0x31 * 0x100000) ++ beBytes 2 len ++ [17, natAt d 0x30] ++ src ++ dst ++
    ports ++ beBytes 2 len ++ beBytes 2 (if ck = 0 then 65535 else ck) ++ data

/-- A value leaves on Ethernet: without a destination entry it is dropped; with CB = 1 it takes a sequence number and
leaves on MAC 0 and MAC 1 (R335, R340). -/
def State.sendPdu (s : State) (f : Flow) (v : List Nat) : State :=
  match KMap.find s.gwy.dests (f.outKey1 % 256) with
  | none => s.fbInc 0x60C0 6
  | some d =>
    let fr := fun (q : Option Nat) => (⟨f.num, f.tc, 0, f.outKey0, f.outKey1, pduFrame d q f.outKey0 v⟩ : EgFrame)
    if f.cb then
      let q := KMap.getD s.gwy.genSeq f.num 0
      let s := { s with gwy := { s.gwy with genSeq := KMap.put s.gwy.genSeq f.num ((q + 1) % 65536) } }
      (s.enqueue 0x20 (fr (some q))).enqueue 0x21 (fr (some q))
    else s.enqueue f.outIf (fr none)

/-! ## Endpoints (R344) -/

/-- A record for an endpoint's receive ring: header fields and payload. -/
structure RxRec where
  flow : Nat
  iface : Nat
  timeout : Bool
  ns : Nat
  key0 : Nat
  key1 : Nat
  data : List Nat
  deriving DecidableEq, Repr

/-- A record is delivered to an endpoint: dropped if the endpoint is closed or its ring is full. -/
def State.deliver (s : State) (e : Nat) (r : RxRec) : State :=
  match s.ep e with
  | none => s
  | some p =>
    let n := 2 ^ p.rxLog
    let i := s.get (Reg.GWY_EP_RX_WPTR_WPTR e)
    if (i + 1) % n = s.get (Reg.GWY_EP_RX_RPTR_RPTR e) then s.fbInc 0x60C0 8
    else
      let room := 2 ^ p.slotLog - 32
      let data := r.data.take room
      let a := p.rx + 2 ^ p.slotLog * i
      let bytes := leBytes 2 r.flow ++ [r.iface, b2n (decide (room < r.data.length)) + 2 * b2n r.timeout] ++ leBytes 4 data.length ++
        leBytes 8 r.ns ++ leBytes 4 r.key0 ++ leBytes 4 r.key1 ++ leBytes 4 p.seq ++ [0, 0, 0, 0] ++ data
      let s := s.setEp e { p with seq := (p.seq + 1) % 2 ^ 32 }
      match s.reach p.owner true a bytes.length with
      | (.ok, s) => (s.wr a bytes).set (Reg.GWY_EP_RX_WPTR_WPTR e) ((i + 1) % n)
      | (_, s) => s

/-! ## The latest value (R343) -/

/-- The value is handed to the egress. A copied payload that the egress cannot carry is dropped. -/
def State.emitFlow (s : State) (f : Flow) : State :=
  let v := s.flowVal f.num
  let s := s.setFlowVal f.num { v with fresh := false, lastOut := some s.datum }
  if f.outIf = 0x40 then s.deliver f.endpoint ⟨f.num, v.iface, false, v.bufNs, v.key0, v.key1, v.buf⟩
  else if egressMax f.outIf f.outFmt < v.buf.length then s.fbInc 0x60C0 6
  else if isMac f.outIf then s.sendPdu f v.buf
  else s.enqueue f.outIf ⟨f.num, f.tc, f.outFmt, f.outKey0, f.outKey1, v.buf⟩

/-- The period timer of a flow emits its value; what it did is noted for an input of the same clock (R352). -/
def State.timerEmit (s : State) (f : Flow) : State :=
  let t := s.emitFlow f
  let o : TimerOut :=
    { time := s.datum, wptr := s.get (Reg.GWY_EP_RX_WPTR_WPTR f.endpoint)
      seq := match s.ep f.endpoint with | some p => p.seq | none => 0
      lostOut := decide (s.fbGet 0x60C0 6 < t.fbGet 0x60C0 6), lostEp := decide (s.fbGet 0x60C0 8 < t.fbGet 0x60C0 8) }
  t.setFlowVal f.num { t.flowVal f.num with timer := some o }

/-- An output of the period timer is taken back: an input of the same clock goes first (R352). A frame that it handed to an
interface waits there and is replaced. -/
def State.takeBack (s : State) (f : Flow) (o : TimerOut) : State :=
  let s := if o.lostOut then s.fbSet 0x60C0 6 (s.fbGet 0x60C0 6 - 1) else s
  let s := if o.lostEp then s.fbSet 0x60C0 8 (s.fbGet 0x60C0 8 - 1) else s
  if f.outIf = 0x40 then
    match s.ep f.endpoint with
    | some p => (s.setEp f.endpoint { p with seq := o.seq }).set (Reg.GWY_EP_RX_WPTR_WPTR f.endpoint) o.wptr
    | none => s
  else if f.cb then { s with gwy := { s.gwy with genSeq := KMap.put s.gwy.genSeq f.num ((KMap.getD s.gwy.genSeq f.num 0 + 65535) % 65536) } }
  else s

/-- A flow takes an input value with its stamp, ingress interface and keys (R343). An input in the clock in which the period timer
has emitted is taken first: it overwrites that value and leaves in its place (R352). -/
def State.flowInput (s : State) (f : Flow) (v : List Nat) (t iface key0 key1 : Nat) : State :=
  let x := s.flowVal f.num
  let tooSoon := match x.lastIn with | some l => f.minGap != 0 && decide (t < l + f.minGap) | none => false
  if tooSoon then s.fbInc 0x60C0 3
  else
    match s.mapValue f v with
    | none => s.fbInc 0x60C0 2
    | some buf =>
      let again := match x.timer with | some o => if o.time = s.datum && !x.fresh then some o else none | none => none
      let s := match again with | some o => s.takeBack f o | none => s
      let s := if x.fresh || again.isSome then s.fbInc 0x60C0 4 else s
      let s := s.setFlowVal f.num { x with fresh := true, buf := buf, bufNs := t, iface := iface, key0 := key0, key1 := key1,
                                           lastIn := some t, timedOut := false, timer := none }
      match again, x.lastOut with
      | some _, _ => (s.emitFlow f).fbSet 0x60C0 4 (s.fbGet 0x60C0 4)
      | none, none => s.emitFlow f
      | none, some l => if l + f.period ≤ t then s.emitFlow f else s

/-- A device producer (1 safety island, 2 Traverse) hands a value to a flow; a flow that is not a SEND flow of that
producer takes nothing. -/
def State.producerInput (s : State) (producer flow : Nat) (v : List Nat) : State :=
  let f := s.flow flow
  if f.valid ∧ f.kind = 2 ∧ f.inIf = 0x41 ∧ f.producer = producer then s.flowInput f v s.datum 0x41 0 0 else s

/-- The safety island's frame on a CAN FD controller (R207). -/
def State.canMessage (s : State) (can id : Nat) (data : List Nat) : State :=
  s.enqueue (can % 16) ⟨65536, 0, 1, id, 0, data⟩

end Sys2Proof.Machine
end

