-- ==== Sys2Proof/Machine/Records.lean ====
section
/-! DEFINITION. Tensor records (R89–R91, R110–R114): their fields, their own checks, and how the elements of a bank
are read and written. -/

namespace Sys2Proof.Machine
open Sys2Proof

/-- A tensor record (R89) at its address. -/
structure Rec where
  addr : Nat
  base : Nat
  fmtCode : Nat
  frc : Nat
  stage : Bool
  pub : Nat
  jobOut : Bool
  extent : Nat
  scaleBase : Nat
  scaleExtent : Nat
  d0 : Nat
  d1 : Nat
  d2 : Nat
  d3 : Nat
  s1 : Nat
  s2 : Nat
  s3 : Nat
  /-- No reserved bit is set. -/
  clean : Bool
  deriving DecidableEq, Repr

/-- The record in 64 bytes at an address. -/
def readRec (s : State) (a : Nat) : Rec :=
  let w := fun o n => s.rdLe (a + o) n
  let w0 := w 0 8
  { addr := a, base := w0 % 2 ^ 48, fmtCode := bitsOf w0 51 48, frc := bitsOf w0 54 52, stage := bitOf w0 55,
    pub := bitsOf w0 56 56, jobOut := bitOf w0 57, extent := w 8 6, scaleBase := w 0x10 6, scaleExtent := w 0x18 4,
    d0 := w 0x20 2, d1 := w 0x22 2, d2 := w 0x24 2, d3 := w 0x26 2, s1 := w 0x28 4, s2 := w 0x2C 4, s3 := w 0x30 4,
    clean := bitsOf w0 63 58 = 0 && w 0x0E 2 = 0 && w 0x16 2 = 0 && w 0x1C 4 = 0 && w 0x34 8 = 0 && w 0x3C 4 = 0 }

/-- The format of a record whose code is legal (the checks of R90 come first). -/
def Rec.fmt (r : Rec) : Fmt := (Fmt.ofCode r.fmtCode).getD .int8

/-- Code width, payload and unit size of an FRC mode (R110). -/
def frcBits (frc : Nat) : Nat := match frc with | 1 => 6 | 2 => 4 | _ => 3
def frcPayload (frc : Nat) : Nat := 8 * frcBits frc
def frcUnit (frc : Nat) : Nat := 64 + 32 * frcPayload frc

/-- Bytes of a row of DIM0 elements. -/
def Rec.rowBytes (r : Rec) : Nat := (r.d0 * r.fmt.bits + 7) / 8

/-- The footprint of one bank (R90, R112). -/
def Rec.footprint (r : Rec) : Nat :=
  if r.frc ≠ 0 then
    (r.d3 - 1) * r.s3 + (r.d2 / 8 - 1) * r.s2 + (r.d1 / 8 - 1) * r.s1 + r.d0 / 32 * frcUnit r.frc
  else (r.d3 - 1) * r.s3 + (r.d2 - 1) * r.s2 + (r.d1 - 1) * r.s1 + r.rowBytes

/-- The scale footprint of one bank. -/
def Rec.scaleFoot (r : Rec) : Nat := if r.fmt.mx then r.d1 * r.d2 * r.d3 * r.d0 / 32 else 0

/-- A step of an ordered list of checks: the first failing one gives its code. -/
def firstCode : List (Bool × Nat) → Nat
  | [] => Code.ok
  | (fails, c) :: cs => if fails then c else firstCode cs

/-- A dimension outside its count (R22). -/
def badDim (d : Nat) : Bool := d = 0 || d = 0xFFFF

/-- The record's E_ILLEGAL, E_LENGTH, E_ALIGN and E_BOUNDS checks as failures (R90, R112), in the order of R25. -/
def Rec.illegal (r : Rec) : Bool :=
  (Fmt.ofCode r.fmtCode).isNone || decide (3 < r.frc) || (r.frc != 0 && r.fmtCode != 0) || !r.clean ||
  (!r.fmt.mx && r.scaleBase != 0)
def Rec.badLength (r : Rec) : Bool := badDim r.d0 || badDim r.d1 || badDim r.d2 || badDim r.d3
def Rec.misaligned (r : Rec) : Bool :=
  r.base % 64 != 0 || r.s1 % 64 != 0 || r.s2 % 64 != 0 || r.s3 % 64 != 0 || (r.stage && r.extent % 64 != 0) ||
  (r.fmt.mx && r.d0 % 32 != 0) || (r.fmt = .int4 && r.d0 % 2 != 0) ||
  (r.frc != 0 && (r.d0 % 32 != 0 || r.d1 % 8 != 0 || r.d2 % 8 != 0))
def Rec.outOfBounds (r : Rec) : Bool :=
  decide (r.extent < r.footprint) || decide (r.scaleExtent < r.scaleFoot) ||
  (r.frc != 0 && decide (r.s1 < r.d0 / 32 * frcUnit r.frc))

/-- Base and scale base of a bank (R89). -/
def Rec.bankBase (r : Rec) (bank : Nat) : Nat := r.base + bank * r.extent
def Rec.bankScale (r : Rec) (bank : Nat) : Nat := r.scaleBase + bank * r.scaleExtent

/-- The bank that PUB names, and the bank that a command writes. -/
def Rec.pubBank (r : Rec) : Nat := if r.stage then r.pub else 0
def Rec.stagedBank (r : Rec) : Nat := 1 - r.pubBank

/-! ## Elements -/

/-- A bank of a record. -/
structure View where
  r : Rec
  base : Nat
  sbase : Nat
  deriving DecidableEq, Repr

def Rec.view (r : Rec) (bank : Nat) : View := ⟨r, r.bankBase bank, r.bankScale bank⟩

/-- The address of a row. -/
def View.rowAddr (v : View) (i1 i2 i3 : Nat) : Nat := v.base + i1 * v.r.s1 + i2 * v.r.s2 + i3 * v.r.s3

/-- The code of an element of a record without FRC (R76). -/
def View.code (s : State) (v : View) (i0 i1 i2 i3 : Nat) : Nat :=
  let a := v.rowAddr i1 i2 i3
  match v.r.fmt.bits with
  | 4 => (s.rdLe (a + i0 / 2) 1) / 16 ^ (i0 % 2) % 16
  | 6 => (s.rdLe (a + i0 / 4 * 3) 3) / 64 ^ (i0 % 4) % 64
  | b => s.rdLe (a + i0 * (b / 8)) (b / 8)

/-- The scale byte of the block of an element (R75, R89); 0x7F for formats without block scale (R77). -/
def View.scale (s : State) (v : View) (i0 i1 i2 i3 : Nat) : Nat :=
  if v.r.fmt.mx then s.rdLe (v.sbase + ((i3 * v.r.d2 + i2) * v.r.d1 + i1) * v.r.d0 / 32 + i0 / 32) 1 else 0x7F

/-- The unit of an FRC element (R112). -/
def View.frcUnitAddr (v : View) (c x y n : Nat) : Nat :=
  v.base + n * v.r.s3 + y / 8 * v.r.s2 + x / 8 * v.r.s1 + c / 32 * frcUnit v.r.frc

/-- The exact value of an FRC element (R112, R114). -/
def View.frcValue (s : State) (v : View) (c x y n : Nat) : FV :=
  let b := frcBits v.r.frc
  let unit := v.frcUnitAddr c x y n
  let m := signed 8 (s.rdLe (unit + 2 * (c % 32)) 1)
  let r := s.rdLe (unit + 2 * (c % 32) + 1) 1
  let bit := b * (y % 8 * 8 + x % 8)
  let q := s.rdLe (unit + 64 + c % 32 * frcPayload v.r.frc + bit / 8) 2 / 2 ^ (bit % 8) % 2 ^ b
  let k : Int := m * 2 ^ (b + 1) + (2 * q + 1 : Nat) * (r : Int)
  .fin (decide (k < 0)) k.natAbs (-((b : Int) + 1))

/-- The exact value of an element. -/
def View.at (s : State) (v : View) (i0 i1 i2 i3 : Nat) : FV :=
  if v.r.frc ≠ 0 then v.frcValue s i0 i1 i2 i3
  else v.r.fmt.scaledValue (v.code s i0 i1 i2 i3) (v.scale s i0 i1 i2 i3)

/-- An element as an operand. -/
def View.fx (s : State) (v : View) (i0 i1 i2 i3 : Nat) : FX := FX.of (v.at s i0 i1 i2 i3)

/-! ## Rows -/

/-- An element to be written: a value to be converted, or the code (and scale) that stands already. -/
inductive Elem where
  | val (x : FX)
  | raw (code scale : Nat)
  deriving DecidableEq, Repr

/-- A row of output: its indices and its elements. -/
structure RowOut where
  i1 : Nat
  i2 : Nat
  i3 : Nat
  elems : List Elem
  deriving DecidableEq, Repr

/-- The value behind an element of format `f`. -/
def Elem.fx (f : Fmt) : Elem → FX
  | .val x => x
  | .raw c sc => FX.of (f.scaledValue c sc)

def Elem.isRaw : Elem → Bool
  | .raw _ _ => true
  | .val _ => false

/-- The flag of an element whose code stands as it is: a NaN is produced all the same (R81). -/
def rawFl (f : Fmt) (code scale : Nat) : Fl := { nan := f.scaledValue code scale = .nan }

/-- The codes of a row without block scale, and the flags of its conversions. -/
def plainCodes (f : Fmt) : List Elem → List Nat × Fl
  | [] => ([], {})
  | e :: es =>
    let (cs, fl) := plainCodes f es
    match e with
    | .raw c sc => (c :: cs, (rawFl f c sc).or fl)
    | .val x => let (c, fl') := toCode f x; (c :: cs, fl'.or fl)

/-- The blocks of 32 of an MX row: codes, scale bytes and flags. A block that nothing changes keeps its bits. -/
def mxCodes (f : Fmt) : Nat → List Elem → List Nat × List Nat × Fl
  | 0, _ => ([], [], {})
  | n + 1, es =>
    if es.isEmpty then ([], [], {})
    else
      let b := es.take 32
      let (cs, ss, fl) := mxCodes f n (es.drop 32)
      if b.all Elem.isRaw then
        (b.map (fun e => match e with | .raw c _ => c | .val _ => 0) ++ cs,
         (match b.head? with | some (.raw _ sc) => sc | _ => 0) :: ss,
         (b.map (fun e => match e with | .raw c sc => rawFl f c sc | .val _ => {})).foldl Fl.or fl)
      else
        let (sc, cs', fl') := toMxBlock f (b.map (Elem.fx f))
        (cs' ++ cs, sc :: ss, fl'.or fl)

/-- A row is written to a bank; the flags of its conversions. -/
def State.writeRow (s : State) (v : View) (row : RowOut) : State × Fl :=
  let f := v.r.fmt
  if f.mx then
    let (cs, ss, fl) := mxCodes f (row.elems.length / 32 + 1) row.elems
    let s := s.wr (v.rowAddr row.i1 row.i2 row.i3) (packCodes f.bits cs)
    (s.wr (v.sbase + ((row.i3 * v.r.d2 + row.i2) * v.r.d1 + row.i1) * v.r.d0 / 32) ss, fl)
  else
    let (cs, fl) := plainCodes f row.elems
    (s.wr (v.rowAddr row.i1 row.i2 row.i3) (packCodes f.bits cs), fl)

/-- Rows are written in order. -/
def State.writeRowsPlain (s : State) (v : View) : List RowOut → State × Fl
  | [] => (s, {})
  | r :: rs =>
    let (s, fl) := s.writeRow v r
    let (s, fl') := s.writeRowsPlain v rs
    (s, fl.or fl')

/-! ### FRC output (R113) -/

/-- Element `i` of a list of elements. -/
def nthElem : List Elem → Nat → Elem
  | [], _ => .val fxZero
  | e :: _, 0 => e
  | _ :: es, n + 1 => nthElem es n

/-- The payload bytes of a block's codes, one little-endian bit string (R111). -/
def frcPayloadBytes (b : Nat) (qs : List Nat) : List Nat :=
  leBytes (8 * b) (qs.foldr (fun q acc => q % 2 ^ b + acc * 2 ^ b) 0)

/-- The code of an element (R113). -/
def frcCode (b : Nat) (mn range x : Int) : Nat :=
  if range = 0 then 0 else min (((x - mn) * 2 ^ b / range).toNat) (2 ^ b - 1)

/-- A block's header bytes and payload from its 64 INT8 values. -/
def frcBlock (b : Nat) (xs : List Int) : List Nat × List Nat :=
  let mn := xs.foldl min (xs.headD 0)
  let mx := xs.foldl max (xs.headD 0)
  ([unsignedOf 8 mn, (mx - mn).toNat], frcPayloadBytes b (xs.map (frcCode b mn (mx - mn))))

/-- The rows by their index ((n × DIM2 + y) × DIM1 + x). -/
def rowMap (v : View) (rows : List RowOut) : KMap (List Elem) :=
  rows.foldl (fun m r => KMap.put m ((r.i3 * v.r.d2 + r.i2) * v.r.d1 + r.i1) r.elems) []

/-- The block of channel `c` in the patch at (8 px, 8 py) of image `n` is encoded and written. -/
def State.writeFrcBlock (s : State) (v : View) (m : KMap (List Elem)) (c px py n : Nat) : State × Fl :=
  let cells := (List.range 64).map (fun e =>
    let key := (n * v.r.d2 + 8 * py + e / 8) * v.r.d1 + 8 * px + e % 8
    toIntCode 8 ((nthElem (KMap.getD m key []) c).fx .int8))
  let (hdr, pay) := frcBlock (frcBits v.r.frc) (cells.map (fun p => signed 8 p.1))
  let unit := v.frcUnitAddr c (8 * px) (8 * py) n
  let s := s.wr (unit + 2 * (c % 32)) hdr
  (s.wr (unit + 64 + c % 32 * frcPayload v.r.frc) pay, (cells.map Prod.snd).foldl Fl.or {})

/-- Every block of the patches whose first row and column are among the rows given. -/
def State.writeRowsFrc (s : State) (v : View) (rows : List RowOut) : State × Fl :=
  let m := rowMap v rows
  let corners := rows.filter (fun r => r.i1 % 8 = 0 && r.i2 % 8 = 0)
  corners.foldl (fun acc r => (List.range v.r.d0).foldl (fun acc c =>
    let (s, fl) := acc.1.writeFrcBlock v m c (r.i1 / 8) (r.i2 / 8) r.i3
    (s, acc.2.or fl)) acc) (s, {})

/-- A bank, and its scales, become defined or undefined to readers. -/
def State.defineBank (s : State) (v : View) : State :=
  let s := s.define v.base (v.base + v.r.extent)
  if v.r.fmt.mx then s.define v.sbase (v.sbase + v.r.scaleExtent) else s
def State.undefineBank (s : State) (v : View) : State :=
  let s := s.undefine v.base (v.base + v.r.extent)
  if v.r.fmt.mx then s.undefine v.sbase (v.sbase + v.r.scaleExtent) else s

/-- Output rows are written to a staged bank, converted under R87 and R113; PUB does not name it (R91). -/
def State.writeRows (s : State) (v : View) (rows : List RowOut) : State × Fl :=
  let (s, fl) := if v.r.frc ≠ 0 then s.writeRowsFrc v rows else s.writeRowsPlain v rows
  (s.undefineBank v, fl)

/-- Every index triple of DIM1, DIM2 and DIM3. -/
def rowIndices (d1 d2 d3 : Nat) : List (Nat × Nat × Nat) :=
  (List.range d3).flatMap (fun i3 => (List.range d2).flatMap (fun i2 => (List.range d1).map (fun i1 => (i1, i2, i3))))

/-- The row that a function of its elements gives. -/
def mkRow (d0 i1 i2 i3 : Nat) (f : Nat → Elem) : RowOut := ⟨i1, i2, i3, (List.range d0).map f⟩

end Sys2Proof.Machine
end

