-- ==== Sys2Proof/Machine/SafetyCore.lean ====
section
/-! DEFINITION. The safety island's shared operations (chapter 7): status messages, the declaration of the safe state,
degraded conditions, and the result notices of R195. -/

namespace Sys2Proof.Machine
open Sys2Proof

/-- The DEGR flags of SAF_STATE[15:8]. -/
def State.degrFlags (s : State) : Nat :=
  s.get Reg.SAF_STATE_LATENT_TIMEOUT + 2 * s.get Reg.SAF_STATE_BENCH_FAIL +
  4 * s.get Reg.SAF_STATE_CLUSTER_ISOLATED + 8 * s.get Reg.SAF_STATE_ECC_ALARM +
  16 * s.get Reg.SAF_STATE_PEER_LOST + 32 * s.get Reg.SAF_STATE_SCRUB_UNCORR

/-- The CRC-32 of R200 over DATA_ID as two big-endian bytes and the bytes given. -/
def crcOf (dataId : Nat) (bytes : List Nat) : Nat := Crypto.crc32 0xEDB88320 (beBytes 2 dataId ++ bytes)

/-- The safety status message is sent (R207). -/
def State.statusMessage (s : State) : State :=
  let body := [s.get Reg.SAF_STATE_STATE, s.degrFlags] ++ beBytes 2 (s.get Reg.SAF_STATE_CAUSE) ++
    beBytes 2 (s.saf.seq % 65536) ++ [0, 0] ++ beBytes 4 s.ts32
  let bytes := body ++ beBytes 4 (crcOf (s.fbGet 0x3040 5) body)
  let s := s.emit (.safetyStatus (s.fbGet 0x3040 1) (s.fbGet 0x3040 2) (s.fbGet 0x3040 3) bytes)
  let s := (s.canMessage (s.fbGet 0x3040 1) (s.fbGet 0x3040 2) bytes).producerInput 1 (s.fbGet 0x3040 3) bytes
  { s with saf := { s.saf with seq := (s.saf.seq + 1) % 65536, lastMessage := s.datum } }

/-- SAFE_STATE_N is driven to a level; the pad follows (SS_LOW). -/
def State.driveSafe (s : State) (high : Bool) : State :=
  { s.setBit Reg.SAF_STATE_SS_LOW (!high) with saf := { s.saf with driven := high } }

/-- STATE as SAF_STATE and FB 0x3050.01 report it (R186). -/
def State.setSafState (s : State) (v : Nat) : State := (s.set Reg.SAF_STATE_STATE v).fbSet 0x3050 1 v

/-- The safe state is declared with a cause (R204, R205) by pair A, or by pair B alone (`byB`). A second declaration changes
nothing, but that of two in one clock the cause recorded by pair A stands (R203; the one status message has left by then: DESIGN
CHOICE, log entry 30). -/
def State.declareSafe (s : State) (cause : Nat) (byB : Bool := false) : State :=
  if s.get Reg.SAF_STATE_STATE = 3 then
    if !byB && s.saf.declaredB = some s.datum then
      { s.set Reg.SAF_STATE_CAUSE cause with saf := { s.saf with declaredB := none } }
    else s
  else
    let s := (s.setSafState 3).set Reg.SAF_STATE_CAUSE cause
    let s := (s.fbInc 0x6060 0xB).set Reg.SAF_EVENTS_SAFE 1
    let s := { s with saf := { s.saf with declaredB := if byB then some s.datum else none } }
    (s.driveSafe false).statusMessage

/-- A degraded condition arises (R208). In SAFE the declaration's cause stands. -/
def State.degrade (s : State) (flag : Field) (code : Nat) : State :=
  let s := s.set flag 1
  if s.get Reg.SAF_STATE_STATE = 3 then s.statusMessage
  else
    let s := (s.set Reg.SAF_STATE_CAUSE code).set Reg.SAF_EVENTS_DEGRADED 1
    (if s.get Reg.SAF_STATE_STATE = 1 then s.setSafState 2 else s).statusMessage

/-- A degraded condition ends (R208). -/
def State.undegrade (s : State) (flag : Field) : State :=
  if s.bit flag then
    let s := s.set flag 0
    (if s.get Reg.SAF_STATE_STATE = 2 ∧ s.degrFlags = 0 then s.setSafState 1 else s).statusMessage
  else s

/-! ## Closure records (R193) -/

/-- Word `w` (offset 4w) of Closure record `r`, and a bit range of it. -/
def State.clo (s : State) (r w hi lo : Nat) : Nat := bitsOf (s.get (Reg.SAF_CLOSURE_WORD r w)) hi lo

def State.cloValid (s : State) (r : Nat) : Bool := s.clo r 0 31 31 = 1
def State.cloKind (s : State) (r : Nat) : Nat := s.clo r 0 14 13

/-- The Closure records in use, ascending. -/
def State.cloRecords (s : State) : List Nat := (List.range 64).filter s.cloValid

/-- The address of a queue's tensor record. -/
def ttAddr (base h : Nat) : Nat := base + 64 * h

/-- A notice is stored for the main side of record `r`, or for its Plumb side. -/
def State.noteMain (s : State) (r : Nat) (n : Notice) : State :=
  { s with saf := { s.saf with mainNotice := KMap.put s.saf.mainNotice r n } }
def State.notePlumb (s : State) (r : Nat) (n : Notice) : State :=
  { s with saf := { s.saf with plumbNotice := KMap.put s.saf.plumbNotice r n } }

/-- The published bank's address of a record. -/
def publishedAddr (s : State) (a : Nat) : Nat :=
  let r := readRec s a
  r.bankBase r.pubBank

/-! ## The Benchmark table (R210) -/

def State.benchSet (s : State) (b w hi lo : Nat) : Nat := bitsOf (s.get (Reg.SAF_BENCH_WORD b w)) hi lo

/-- The Benchmark sets in use. -/
def State.benchSets (s : State) : List Nat := (List.range 16).filter (fun b => s.benchSet b 0 31 31 = 1)

/-- After RUN, the sets in use with a value in a field. -/
def State.benchSetsWith (s : State) (w hi lo v : Nat) : List Nat :=
  if s.bit Reg.SAF_CTRL_RUN then s.benchSets.filter (fun b => s.benchSet b w hi lo = v) else []

def State.benchAt (s : State) (p : Nat) : Bench := KMap.getD s.saf.bench p {}
def State.setBench (s : State) (p : Nat) (b : Bench) : State :=
  { s with saf := { s.saf with bench := KMap.put s.saf.bench p b } }

/-- The sets of a pipeline, ascending, and the one whose turn it is. -/
def State.pipeSets (s : State) (p : Nat) : List Nat := s.benchSetsWith 0 4 0 p
def State.turnSet (s : State) (p : Nat) : Option Nat :=
  let l := s.pipeSets p
  l[(s.benchAt p).next % l.length]?

/-- A job of a Benchmark queue has ended: its status is kept for the comparison of R213. -/
def State.benchMain (s : State) (q status : Nat) : State :=
  (s.benchSetsWith 1 7 0 q).foldl (fun s b =>
    let p := s.benchSet b 0 4 0
    let bn := s.benchAt p
    if bn.injected then s.setBench p { bn with mainJob := some status } else s) s
def State.benchPlumb (s : State) (q status : Nat) : State :=
  (s.benchSetsWith 1 10 8 q).foldl (fun s b =>
    let p := s.benchSet b 0 4 0
    let bn := s.benchAt p
    if bn.injected then s.setBench p { bn with plumbJob := some status } else s) s

/-- The result notices of a tensor queue's job completion record (R195). -/
def State.noticeTensor (s : State) (q job status : Nat) : State :=
  let s := s.benchMain q status
  s.cloRecords.foldl (fun s r =>
    if s.cloKind r = 0 ∧ s.clo r 1 7 0 = q then
      s.noteMain r ⟨job, status, publishedAddr s (ttAddr (s.get (Reg.MBX_QC_TT_BASE_BASE q)) (s.clo r 1 27 16))⟩
    else s) s

/-- The result notices of a Plumb queue's job completion record. -/
def State.noticePlumb (s : State) (q job status : Nat) : State :=
  let s := s.benchPlumb q status
  s.cloRecords.foldl (fun s r =>
    if s.cloKind r = 0 ∧ s.clo r 2 2 0 = q then
      s.notePlumb r ⟨job, status, publishedAddr s (ttAddr (s.get (Reg.PLB_QC_TT_BASE_BASE q)) (s.clo r 2 27 16))⟩
    else s) s

/-- The result notices of a Traverse context's completion: both results lie in its output record. -/
def State.noticeTraverse (s : State) (c job status mainAddr plumbAddr : Nat) : State :=
  s.cloRecords.foldl (fun s r =>
    if s.cloKind r = 1 ∧ s.clo r 1 7 0 = c then
      (s.noteMain r ⟨job, status, mainAddr⟩).notePlumb r ⟨job, status, plumbAddr⟩
    else s) s

end Sys2Proof.Machine
end

