-- ==== Sys2Proof/Machine/Icn.lean ====
section
/-! DEFINITION. The Interrupt Concentrator (chapter 12): the gateways of its 1,024 sources, the routing rules, the
claim stacks of its 64 targets, and the meanings of its commands. -/

namespace Sys2Proof.Machine
open Sys2Proof

/-! ## Sources -/

/-- A source is an edge source (R319, R354, R443). -/
def isEdge (i : Nat) : Bool :=
  i < 304 || (336 ≤ i && i < 432) || (464 ≤ i && i < 528) || i = 611 || i = 698 ||
  (704 ≤ i && i < 727) || (960 ≤ i && i < 1024)

/-- A source number that is assigned (R319, R354, R443). -/
def sourceExists (i : Nat) : Bool :=
  isEdge i || (304 ≤ i && i < 336) || (432 ≤ i && i < 464) || (528 ≤ i && i < 623) ||
  (640 ≤ i && i < 698) || i = 699

/-- A source's record. -/
def State.src (s : State) (i : Nat) : IcnSrc := KMap.getD s.icnSrc i {}

/-- The state with a source's record set. -/
def State.setSrc (s : State) (i : Nat) (r : IcnSrc) : State := { s with icnSrc := KMap.set {} s.icnSrc i r }

/-- A target's stack. -/
def State.tgt (s : State) (t : Nat) : IcnTgt := KMap.getD s.icnTgt t {}

/-- The state with a target's stack set. -/
def State.setTgt (s : State) (t : Nat) (r : IcnTgt) : State := { s with icnTgt := KMap.set {} s.icnTgt t r }

/-- A target exists (R320): 59–63 are illegal; those of a disabled core or cluster are absent. -/
def State.targetOn (s : State) (t : Nat) : Bool :=
  if t < 32 then s.coreOn (t / 2)
  else if t < 36 then true
  else if t < 52 then s.clusterOn (t - 36)
  else t < 59

/-- The mask of the M-mode targets of every enabled application core and of safety island pair A (source 612). -/
def State.mask612 (s : State) : Nat :=
  (List.range 16).foldl (fun acc c => if s.coreOn c then acc + 2 ^ (2 * c) else acc) (2 ^ 34)

/-- The routing of a source (R321): enabled, priority, MULTI, mask. Source 612 is routed by hardware. -/
def State.srcEn (s : State) (i : Nat) : Bool := i = 612 || s.bit (Reg.ICN_SRC_CFG_EN i)
def State.srcPrio (s : State) (i : Nat) : Nat := if i = 612 then 31 else s.get (Reg.ICN_SRC_CFG_PRIO i)
def State.srcMulti (s : State) (i : Nat) : Bool := i = 612 || s.bit (Reg.ICN_SRC_CFG_MULTI i)
def State.srcMask (s : State) (i : Nat) : Nat := if i = 612 then s.mask612 else s.get (Reg.ICN_SRC_TGT_TARGETS i)

/-- The targets of a mask. -/
def maskBits (m : Nat) : List Nat := (List.range 64).filter (fun t => bitOf m t)

/-! ## The gateway (R322) -/

/-- An edge merges into the pending state of a gateway (bit `t`; 0 for the shared state), counted in FB 0x60B0.02 (R322). -/
def State.mergeEdge (s : State) (i t : Nat) : State :=
  let r := s.src i
  (s.setSrc i { r with mergedAt := some s.datum, merged := setMask (if r.mergedAt = some s.datum then r.merged else 0) t }).fbInc 0x60B0 2

/-- An edge merged in this clock (R331). -/
def State.mergedNow (s : State) (i t : Nat) : Bool :=
  (s.src i).mergedAt = some s.datum && bitOf (s.src i).merged t

/-- An edge at one gateway: pending already, it merges (counted in FB 0x60B0.02). -/
def State.edge1 (s : State) (i t : Nat) : State :=
  let r := s.src i
  if bitOf r.tpend t then s.mergeEdge i t else s.setSrc i { r with tpend := setMask r.tpend t }

/-- A rising edge of an edge source (R321, R322): recorded in the shared state, or with MULTI = 1 and a mask in the
state of every target of the mask. -/
def State.raiseEdge (s : State) (i : Nat) : State :=
  if s.srcMulti i && s.srcMask i != 0 then (maskBits (s.srcMask i)).foldl (fun s t => s.edge1 i t) s
  else if (s.src i).pend then s.mergeEdge i 0
  else s.setSrc i { s.src i with pend := true }

/-- A level source's gateway follows its line (R322): pending while the line is high and the source is not active. -/
def State.followLine (s : State) (i : Nat) (line : Bool) : State :=
  let r := { s.src i with line := line }
  if s.srcMulti i && s.srcMask i != 0 then
    s.setSrc i { r with tpend := (maskBits (s.srcMask i)).foldl (fun m t =>
      if bitOf r.act t then m else if line then setMask m t else clrMask m t) r.tpend }
  else if r.act = 0 then s.setSrc i { r with pend := line }
  else s.setSrc i r

/-- The value of a register as its fields stand. -/
def State.regVal (s : State) (a : Nat) : Nat :=
  match findReg (blockTable a) a with
  | some h => h.reg.fields.foldl (fun acc f => acc + s.get (h.field f) * 2 ^ f.lo) 0
  | none => 0

/-- The line of a level source that the device itself drives (R319, R354, R443); none for a line driven from
outside the state. -/
def State.levelNow (s : State) (i : Nat) : Option Bool :=
  if 304 ≤ i ∧ i < 336 then some (s.bit (Reg.GFX_Q_HEAP_FAULT (i - 304)))
  else if 432 ≤ i ∧ i < 464 then some (s.get (Reg.MED_ST_STATUS_LOW (i - 432)) ≠ 0)
  else if 528 ≤ i ∧ i < 544 then some (s.bit (Reg.TEN_CL_STATUS_FAULT (i - 528)))
  else if 544 ≤ i ∧ i < 609 then
    some (!(587 ≤ i && i < 592) && s.get (Reg.CAD_STATUS_COUNT (i - 544)) ≠ 0)
  else if i = 609 then some (s.regVal Reg.MER_EVENTS_addr &&& s.regVal Reg.MER_EVENT_EN_addr ≠ 0)
  else if i = 610 then some (s.regVal Reg.SAF_EVENTS_addr &&& s.regVal Reg.SAF_EVENT_EN_addr ≠ 0)
  else if i = 612 then some (s.bit Reg.ICN_FAULT_VALID)
  else if 613 ≤ i ∧ i < 621 then some (s.get (Reg.MER_TI_CTRL_COUNT (i - 613)) ≠ 0)
  else if i = 621 then some (s.regVal Reg.PMU_EVENTS_addr &&& s.regVal Reg.PMU_EVENT_EN_addr ≠ 0)
  else if i = 622 then some (s.regVal Reg.DDR_EVENTS_addr &&& s.regVal Reg.DDR_EVENT_EN_addr ≠ 0)
  else if 640 ≤ i ∧ i < 656 then some (s.get (Reg.BRG_FG_STATUS_COUNT (i - 640)) ≠ 0)
  else if 686 ≤ i ∧ i < 694 then
    some ((List.range 32).any (fun j =>
      s.bit (Reg.GWY_EP_STATUS_IRQ_EN (32 * (i - 686) + j)) &&
      s.get (Reg.GWY_EP_RX_WPTR_WPTR (32 * (i - 686) + j)) != s.get (Reg.GWY_EP_RX_RPTR_RPTR (32 * (i - 686) + j))))
  else if i = 697 then some (s.get Reg.SYS_PLL_STATUS_LOSS ≠ 0)
  else if i = 699 then some (!s.pins.pwrFailN)
  else none

/-- The line of a level source as it stands. -/
def State.lineOf (s : State) (i : Nat) : Bool := (s.levelNow i).getD (s.src i).line

/-! ## Routing changes (R321) -/

/-- Pending states carried over a change of MULTI and mask. -/
def carry (r : IcnSrc) (multi multi' : Bool) (mask mask' : Nat) : IcnSrc :=
  match multi, multi' with
  | false, false => r
  | false, true =>
    if mask' = 0 then r
    else if r.pend then { r with pend := false, tpend := mask' } else { r with tpend := 0 }
  | true, false => { r with pend := r.pend || r.tpend != 0, tpend := 0 }
  | true, true =>
    if mask = 0 && mask' != 0 then
      if r.pend then { r with pend := false, tpend := mask' } else r
    else { r with tpend := r.tpend &&& mask' }

/-! ## Claim and completion (R323–R327) -/

/-- TOP of a target: the priority on top of its stack, 0 when it is empty. -/
def State.top (s : State) (t : Nat) : Nat := ((s.tgt t).stack.head?.map (fun e => e.2)).getD 0

/-- A source is pending for a target. -/
def State.pendingFor (s : State) (i t : Nat) : Bool :=
  if s.srcMulti i then bitOf (s.src i).tpend t else (s.src i).pend

/-- A source is claimable by a target (R323). -/
def State.claimable (s : State) (t i : Nat) : Bool :=
  !(s.tgt t).frozen && decide ((s.tgt t).stack.length < 16) && s.srcEn i && bitOf (s.srcMask i) t &&
  s.pendingFor i t && decide (max (s.get (Reg.ICN_TGT_THRESH_THRESH t)) (s.top t) < s.srcPrio i)

/-- The claimable source with the highest priority, and among equals the lowest ID (R324). -/
def State.bestSource (s : State) (t : Nat) : Option Nat :=
  s.icnSrc.foldl (fun best p =>
    if s.claimable t p.1 then
      match best with
      | none => some p.1
      | some b => if s.srcPrio b < s.srcPrio p.1 then some p.1 else some b
    else best) none

/-- The target's external interrupt signal (R320, R323). -/
def State.eip (s : State) (t : Nat) : Bool := (s.bestSource t).isSome

/-- Target `t` claims source `i`: active for `t`, its pending state cleared, pushed onto the stack (R324). An edge that merged in
the same clock leaves the source active and pending, and did not merge after all (R331). -/
def State.claimSource (s : State) (t i : Nat) : State :=
  let late := s.mergedNow i (if s.srcMulti i then t else 0)
  let r := s.src i
  let r := if s.srcMulti i then { r with tpend := if late then r.tpend else clrMask r.tpend t, act := setMask r.act t }
           else { r with pend := late, act := setMask r.act t }
  let s := if late then s.fbSet 0x60B0 2 (s.fbGet 0x60B0 2 - 1) else s
  let r := if late then { r with merged := clrMask r.merged (if s.srcMulti i then t else 0) } else r
  (s.setSrc i r).setTgt t { s.tgt t with stack := (i, s.srcPrio i) :: (s.tgt t).stack }

/-- Source `i` ends its active state for `t`; a level source re-samples its line (R322, the completion rows). -/
def State.endActive (s : State) (t i : Nat) : State :=
  let r := s.src i
  let s := s.setSrc i { r with act := clrMask r.act t }
  if isEdge i then s
  else
    let line := s.lineOf i
    let r := { s.src i with line := line }
    if s.srcMulti i then
      if bitOf (s.srcMask i) t then
        s.setSrc i { r with tpend := if line then setMask r.tpend t else clrMask r.tpend t }
      else s.setSrc i r
    else if r.act = 0 then s.setSrc i { r with pend := line }
    else s.setSrc i r

/-- Target `t`'s stack is emptied: every active state it holds ends, the freeze clears (R327). -/
def State.emptyStack (s : State) (t : Nat) : State :=
  ((s.tgt t).stack.foldl (fun s e => s.endActive t e.1) s).setTgt t {}

/-- A block check of checker 50 refuses an access (R327–R329). -/
def State.icnRefuse (s : State) (who : Agent) (a : Nat) (write : Bool) : State :=
  s.cadLog 50 a (s.attrOf who) write 0x21

/-- Who may reach target `t`'s page (R328): its own processor in the matching mode. -/
def ownsTarget (t : Nat) : Agent → Bool
  | .core n mode _ =>
    if t = 2 * n.val then mode = .m
    else t = 2 * n.val + 1 && (mode = .s || mode = .hs || mode = .m)
  | .sec n _ _ => t = 32 + n.val
  | .pairA => t = 34
  | .pairB => t = 35
  | .fw n => t = 36 + n.val
  | .work _ _ _ => false
  | .debug _ _ => false

/-- An access to target `t`'s page at `a`: refused to every other initiator (reads 0, no effect, logged, FB 0x60B0.03),
else carried out; the pages of absent targets follow R12. -/
def State.pageOwn (s : State) (who : Agent) (t a : Nat) (write : Bool) (k : State → State) : State :=
  if !s.targetOn t then s.answer 0
  else if ownsTarget t who then k s
  else ((s.icnRefuse who a write).fbInc 0x60B0 3).answer 0

/-- The access behind the gate of the register block. -/
def State.page (s : State) (who : Agent) (t a : Nat) (write : Bool) (k : State → State) : State :=
  s.gate who a write (fun s => s.pageOwn who t a write k)

/-- ICN_TGT_CLAIM is read by target `t`: the response carries VALID, the priority and the ID, or 0. -/
def State.claim (s : State) (t : Nat) : State :=
  match s.bestSource t with
  | none => s.answer 0
  | some i => (s.claimSource t i).answer (2 ^ 31 + s.srcPrio i * 2 ^ 16 + i)

/-- A stack fault of targets 34 to 58 makes the safety island declare the safe state (R326, R204). -/
def stackFaultSafe (t : Nat) : Bool := 34 ≤ t && t ≤ 58

/-- ICN_FAULT logs an out-of-order completion if none is logged yet (R326). -/
def State.icnLogFault (s : State) (t id top : Nat) : State :=
  if s.bit Reg.ICN_FAULT_VALID then s
  else (((((s.set Reg.ICN_FAULT_VALID 1).set Reg.ICN_FAULT_TARGET t).set Reg.ICN_FAULT_ID id).set
    Reg.ICN_FAULT_TOP_ID top).set Reg.ICN_FAULT_TOP_VALID 1)

/-- ICN_TGT_COMPLETE is written by target `t` (R325, R326, R330). -/
def State.complete (s : State) (t id : Nat) : State :=
  match (s.tgt t).frozen, (s.tgt t).stack with
  | true, _ => s.set (Reg.ICN_TGT_STATUS_LAST t) Code.eState
  | false, [] => s.set (Reg.ICN_TGT_STATUS_LAST t) Code.eState
  | false, (top, p) :: rest =>
    if id = top then
      ((s.setTgt t { stack := rest, frozen := false }).endActive t top).set (Reg.ICN_TGT_STATUS_LAST t) Code.ok
    else if s.bit Reg.ICN_CTRL_TEST then
      (s.set Reg.ICN_FAULT_TEST 1).set (Reg.ICN_TGT_STATUS_LAST t) Code.eState
    else
      let s := (s.setTgt t { stack := (top, p) :: rest, frozen := true }).set (Reg.ICN_TGT_STATUS_LAST t) Code.eState
      let s := (s.icnLogFault t id top).fbInc 0x60B0 1
      let s := s.followLine 612 true
      if stackFaultSafe t then s.declareSafe Code.eStack else s

/-! ## Register writes -/

/-- The status of the last write to a source or global register. -/
def State.icnStatus (s : State) (c : Nat) : State := s.set Reg.ICN_CMD_STATUS_STATUS c

/-- The mask of a source is checked (R321): bits 59–63 illegal, absent targets unavailable. -/
def State.maskCheck (s : State) (m : Nat) : Nat :=
  if (List.range 5).any (fun j => bitOf m (59 + j)) then Code.eIllegal
  else if (maskBits m).any (fun t => !s.targetOn t) then Code.eUnavailable
  else Code.ok

/-- A write of ICN_SRC_TGTi. -/
def State.writeSrcTgt (s : State) (i m : Nat) : State :=
  if i = 612 then s.icnStatus Code.eState
  else if !sourceExists i then s
  else if s.maskCheck m = Code.ok then
    let r := carry (s.src i) (s.srcMulti i) (s.srcMulti i) (s.srcMask i) m
    let s := ((s.setSrc i r).set (Reg.ICN_SRC_TGT_TARGETS i) m).icnStatus Code.ok
    if isEdge i then s else s.followLine i (s.lineOf i)
  else s.icnStatus (s.maskCheck m)

/-- A write of ICN_SRC_CFGi. -/
def State.writeSrcCfg (s : State) (i v : Nat) : State :=
  if i = 612 then s.icnStatus Code.eState
  else if !sourceExists i then s
  else
    let r := carry (s.src i) (s.srcMulti i) (bitOf v 29) (s.srcMask i) (s.srcMask i)
    let s := (((s.setSrc i r).set (Reg.ICN_SRC_CFG_EN i) (bitsOf v 31 31)).set
      (Reg.ICN_SRC_CFG_MULTI i) (bitsOf v 29 29)).set (Reg.ICN_SRC_CFG_PRIO i) (bitsOf v 4 0)
    let s := if 960 ≤ i then s.set (Reg.ICN_SRC_CFG_OWNER i) (bitsOf v 13 8) else s
    let s := s.icnStatus Code.ok
    if isEdge i then s else s.followLine i (s.lineOf i)

/-- A write of ICN_UNFREEZE (R327). -/
def State.unfreeze (s : State) (who : Agent) (t : Nat) : State :=
  if 59 ≤ t then s.icnStatus Code.eIllegal
  else if s.normal who then (s.icnRefuse who Reg.ICN_UNFREEZE_addr true).icnStatus Code.eAccess
  else if !s.targetOn t then s.icnStatus Code.eUnavailable
  else (s.emptyStack t).icnStatus Code.ok

/-- A write of ICN_SW_SET (R329). -/
def State.swSet (s : State) (who : Agent) (n : Nat) : State :=
  let at' := s.attrOf who
  if !(at'.secure || at'.partition = s.get (Reg.ICN_SRC_CFG_OWNER (960 + n))) then
    ((s.icnRefuse who Reg.ICN_SW_SET_addr true).fbInc 0x60B0 3).icnStatus Code.eAccess
  else if !s.srcEn (960 + n) then s.icnStatus Code.eState
  else (s.raiseEdge (960 + n)).icnStatus Code.ok

/-- A write of ICN_CTRL.TEST (R330): pair B alone; clearing it empties every stack and ICN_FAULT. -/
def State.icnTest (s : State) (who : Agent) (v : Bool) : State :=
  if who ≠ .pairB then s
  else if v then s.set Reg.ICN_CTRL_TEST 1
  else if s.bit Reg.ICN_CTRL_TEST then
    let s := (List.range 59).foldl (fun s t => s.emptyStack t) (s.set Reg.ICN_CTRL_TEST 0)
    ((((((s.set Reg.ICN_FAULT_VALID 0).set Reg.ICN_FAULT_TEST 0).set Reg.ICN_FAULT_TARGET 0).set
      Reg.ICN_FAULT_TOP_VALID 0).set Reg.ICN_FAULT_TOP_ID 0).set Reg.ICN_FAULT_ID 0).followLine 612 false
  else s

/-! ## Meanings -/

/-- LEVEL_LINE_CHANGE (R322): the line of a level source changes: to what the device's own condition now says, or for
a line driven from outside to `ext`. -/
def execLevelLineChange (source : Fin 1024) (ext : Bool) (s : State) : Out :=
  if isEdge source.val || !sourceExists source.val then done s
  else done (s.followLine source.val ((s.levelNow source.val).getD ext))

/-- EDGE_EVENT (R322). -/
def execEdgeEvent (source : Fin 1024) (s : State) : Out :=
  if isEdge source.val then done (s.raiseEdge source.val) else done s

/-- SOURCE_CONFIG_WRITE (R321): a write of ICN_SRC_CFGi, or with `tgt` of ICN_SRC_TGTi. -/
def execSourceConfigWrite (who : Agent) (source : Fin 1024) (tgt : Bool) (value : BitVec 64) (s : State) : Out :=
  if tgt then
    done (s.gateWrite who (Reg.ICN_SRC_TGT_addr source.val) (fun s => s.writeSrcTgt source.val value.toNat))
  else
    done (s.gateWrite who (Reg.ICN_SRC_CFG_addr source.val)
      (fun s => s.writeSrcCfg source.val (value.toNat % 2 ^ 32)))

/-- CLAIM (R324). -/
def execClaim (who : Agent) (target : Fin 64) (s : State) : Out :=
  done (s.page who target.val (Reg.ICN_TGT_CLAIM_addr target.val) false (fun s => s.claim target.val))

/-- COMPLETE (R325, R326). -/
def execComplete (who : Agent) (target : Fin 64) (id : BitVec 10) (s : State) : Out :=
  done (s.page who target.val (Reg.ICN_TGT_COMPLETE_addr target.val) true
    (fun s => (s.answer 0).complete target.val id.toNat))

/-- UNFREEZE (R327). -/
def execUnfreeze (who : Agent) (target : BitVec 6) (s : State) : Out :=
  done (s.gateWrite who Reg.ICN_UNFREEZE_addr (fun s => s.unfreeze who target.toNat))

/-- SW_SET (R329). -/
def execSwSet (who : Agent) (n : Fin 64) (s : State) : Out :=
  done (s.gateWrite who Reg.ICN_SW_SET_addr (fun s => s.swSet who n.val))

/-- ICN_TEST_WRITE (R330). -/
def execIcnTestWrite (who : Agent) (test : Bool) (s : State) : Out :=
  done (s.gateWrite who Reg.ICN_CTRL_addr (fun s => s.icnTest who test))

end Sys2Proof.Machine
end

