-- ==== Sys2Proof/Machine/Kernels.lean ====
section
/-! DEFINITION. What the tensor opcodes compute (R79–R87, R93, R94, R117, R118): for the input views of a command,
the rows of its output. -/

namespace Sys2Proof.Machine
open Sys2Proof

/-- A descriptor: its ring index, the queue's attribute bits are not part of it; its sixteen words (R92). -/
structure Desc where
  index : Nat
  ws : List Nat
  deriving DecidableEq, Repr

def nthNat : List Nat → Nat → Nat
  | [], _ => 0
  | x :: _, 0 => x
  | _ :: xs, n + 1 => nthNat xs n

/-- Word `i` (offset 4i) and a bit range of it. -/
def Desc.w (d : Desc) (i : Nat) : Nat := nthNat d.ws i
def Desc.f (d : Desc) (i hi lo : Nat) : Nat := bitsOf (d.w i) hi lo
def Desc.b (d : Desc) (i k : Nat) : Bool := bitOf (d.w i) k

def Desc.opcode (d : Desc) : Nat := d.f 0 7 0
def Desc.cpl (d : Desc) : Bool := d.b 0 8
def Desc.irq (d : Desc) : Bool := d.b 0 9
def Desc.tag (d : Desc) : Nat := d.f 0 31 16
def Desc.clusters (d : Desc) : Nat := d.f 1 15 0
def Desc.tiles (d : Desc) : Nat := d.f 1 23 16
def Desc.bound (d : Desc) : Nat := d.w 2
def Desc.job (d : Desc) : Nat := d.f 3 15 0
def Desc.epi (d : Desc) : Epi := ⟨d.f 6 3 0, d.w 7⟩
def Desc.acc32 (d : Desc) : Bool := d.b 6 5
def Desc.part (d : Desc) : Bool := d.b 6 4

/-- ⌈a / b⌉. -/
def ceilDiv (a b : Nat) : Nat := (a + b - 1) / b

/-- The bias of output channel `n`. -/
def biasAt (s : State) (aux : Option View) (n : Nat) : Option FX := aux.map (fun v => v.fx s n 0 0 0)

/-- INT32 accumulation with INT32 output (R85). -/
def intOut (d : Desc) (out : Rec) : Bool := d.acc32 && out.fmt = .int32

/-- GEMM. -/
def gemmRows (s : State) (d : Desc) (a b : View) (aux : Option View) (out : Rec) : List RowOut :=
  (rowIndices out.d1 out.d2 1).map (fun (m, n2, _) =>
    mkRow out.d0 m n2 0 (fun n =>
      let ps := (List.range a.r.d0).map (fun k =>
        (a.at s k m n2 0).mulExact (b.at s k n (if b.r.d2 = 1 then 0 else n2) 0))
      .val (epilogue d.epi (intOut d out) (biasAt s aux n) (dotProducts d.acc32 ps))))

/-! ## CONV, DWCONV and POOL -/

/-- The window fields of CONV, DWCONV and POOL. -/
structure Win where
  sh : Nat
  sw : Nat
  dh : Nat
  dw : Nat
  kh : Nat
  kw : Nat
  pt : Nat
  pb : Nat
  pl : Nat
  pr : Nat
  row0 : Nat
  rows : Nat
  deriving DecidableEq, Repr

def convWin (d : Desc) (b : Rec) : Win :=
  ⟨d.f 8 3 0, d.f 8 7 4, d.f 8 11 8, d.f 8 15 12, b.d2, b.d1, d.f 9 7 0, d.f 9 15 8, d.f 9 23 16, d.f 9 31 24,
   d.f 10 15 0, d.f 10 31 16⟩

def poolWin (d : Desc) : Win :=
  ⟨d.f 8 3 0, d.f 8 7 4, 1, 1, d.f 8 11 8, d.f 8 15 12, d.f 9 7 0, d.f 9 15 8, d.f 9 23 16, d.f 9 31 24,
   d.f 10 15 0, d.f 10 31 16⟩

/-- ⌊(n + p + q − dil × (k − 1) − 1) / stride⌋ + 1 is `o`. -/
def outDim (n p q dil k stride o : Nat) : Bool :=
  decide (dil * (k - 1) + 1 ≤ n + p + q) && (n + p + q - (dil * (k - 1) + 1)) / stride + 1 = o

/-- A position in the input, none in the padding. -/
def inPos (o stride k dil pad n : Nat) : Option Nat :=
  let p := o * stride + k * dil
  if pad ≤ p ∧ p < pad + n then some (p - pad) else none

/-- The value at a position of the input, whose row `y` stands in the view `a y` (R123): padding is 0. -/
def paddedRow (s : State) (a : Nat → View) (c : Nat) (x y : Option Nat) (n : Nat) : FV :=
  match x, y with
  | some x, some y => (a y).at s c x y n
  | _, _ => .zero

/-- The products of an output element of CONV in the order k = (ky × KW + kx) × C_in + c. -/
def convProducts (s : State) (w : Win) (a : Nat → View) (b : View) (co x y n : Nat) : List FV :=
  let r := (a 0).r
  (List.range w.kh).flatMap (fun ky => (List.range w.kw).flatMap (fun kx => (List.range r.d0).map (fun c =>
    (paddedRow s a c (inPos x w.sw kx w.dw w.pl r.d1) (inPos y w.sh ky w.dh w.pt r.d2) n).mulExact
      (b.at s c kx ky co))))

/-- The products of an output element of DWCONV in the order k = ky × KW + kx. -/
def dwProducts (s : State) (w : Win) (a : Nat → View) (b : View) (c x y n : Nat) : List FV :=
  let r := (a 0).r
  (List.range w.kh).flatMap (fun ky => (List.range w.kw).map (fun kx =>
    (paddedRow s a c (inPos x w.sw kx w.dw w.pl r.d1) (inPos y w.sh ky w.dh w.pt r.d2) n).mulExact
      (b.at s c kx ky 0)))

/-- Output row `y` of CONV or DWCONV, every column and image; input row `i` stands in the view `a i`. -/
def convRow (s : State) (d : Desc) (a : Nat → View) (b : View) (aux : Option View) (out : Rec) (y : Nat) : List RowOut :=
  let w := convWin d b.r
  (rowIndices out.d1 1 out.d3).map (fun (x, _, n) =>
    mkRow out.d0 x y n (fun co =>
      let ps := if d.opcode = 2 then convProducts s w a b co x y n else dwProducts s w a b co x y n
      .val (epilogue d.epi (intOut d out) (biasAt s aux co) (dotProducts d.acc32 ps))))

def convRows (s : State) (d : Desc) (a b : View) (aux : Option View) (out : Rec) : List RowOut :=
  let w := convWin d b.r
  (List.range w.rows).flatMap (fun j => convRow s d (fun _ => a) b aux out (w.row0 + j))

/-- The in-bounds values of a pooling window, row-major. -/
def poolVals (s : State) (w : Win) (a : View) (c x y n : Nat) : List FV :=
  (List.range w.kh).flatMap (fun ky => (List.range w.kw).filterMap (fun kx =>
    match inPos x w.sw kx 1 w.pl a.r.d1, inPos y w.sh ky 1 w.pt a.r.d2 with
    | some ix, some iy => some (a.at s c ix iy n)
    | _, _ => none))

/-- A pooled value before the epilogue. -/
def poolValue (avg countPad : Bool) (w : Win) (vs : List FV) : FX :=
  match vs with
  | [] => fxZero
  | v :: rest =>
    let ops := vs.map FX.of
    if avg then
      match sumExact vs with
      | .fin s m e =>
        FX.result ops (fp32.overflow (fp32.roundQ s m (if countPad then w.kh * w.kw else vs.length) e))
      | r => FX.result ops r
    else FX.result ops (rest.foldl FV.max2 v)

def poolRows (s : State) (d : Desc) (a : View) (out : Rec) : List RowOut :=
  let w := poolWin d
  (List.range w.rows).flatMap (fun j => (rowIndices out.d1 1 out.d3).map (fun (x, _, n) =>
    mkRow out.d0 x (w.row0 + j) n (fun c =>
      .val (epilogue d.epi false none (poolValue (d.b 8 16) (d.b 8 17) w (poolVals s w a c x (w.row0 + j) n))))))

/-! ## ELTWISE -/

/-- The index of a broadcast operand. -/
def bIdx (dim i : Nat) : Nat := if dim = 1 then 0 else i

/-- The element operation with OP code `op`. -/
def eltOp (op : Nat) (a b : FX) : FX :=
  match op with
  | 0 => a.add b | 1 => a.sub b | 2 => a.mul b | 3 => a.max b | 4 => a.min b | _ => a

def eltRows (s : State) (d : Desc) (a : View) (b : Option View) (out : Rec) : List RowOut :=
  (rowIndices out.d1 out.d2 out.d3).map (fun (i1, i2, i3) =>
    mkRow out.d0 i1 i2 i3 (fun i0 =>
      let x := (a.fx s i0 i1 i2 i3).toF32
      let y := match b with
        | some v => (v.fx s (bIdx v.r.d0 i0) (bIdx v.r.d1 i1) (bIdx v.r.d2 i2) (bIdx v.r.d3 i3)).toF32
        | none => fxZero
      .val (epilogue d.epi false none (eltOp (d.f 8 3 0) x y))))

/-! ## REDUCE, SOFTMAX and NORM -/

/-- The size of dimension `ax`. -/
def Rec.dim (r : Rec) (ax : Nat) : Nat := match ax with | 0 => r.d0 | 1 => r.d1 | 2 => r.d2 | _ => r.d3

/-- The FP32 value of an element with index `k` along axis `ax`. -/
def alongAxis (s : State) (v : View) (ax k i0 i1 i2 i3 : Nat) : FX :=
  (match ax with
    | 0 => v.fx s k i1 i2 i3
    | 1 => v.fx s i0 k i2 i3
    | 2 => v.fx s i0 i1 k i3
    | _ => v.fx s i0 i1 i2 k).toF32

/-- The values along an axis. -/
def axisVals (s : State) (v : View) (ax i0 i1 i2 i3 : Nat) : List FX :=
  (List.range (v.r.dim ax)).map (fun k => alongAxis s v ax k i0 i1 i2 i3)

/-- The fold of a non-empty list. -/
def fold1 (f : FX → FX → FX) : List FX → FX
  | [] => fxZero
  | x :: xs => xs.foldl f x

/-- A reduction of the values along the axis. -/
def reduceValue (op : Nat) (tree : Bool) (xs : List FX) : FX :=
  if tree then canonicalReduce FX.add xs
  else match op with
    | 0 => sum32 xs
    | 1 => fold1 FX.max xs
    | 2 => fold1 FX.min xs
    | _ => (sum32 xs).div (fxInt xs.length)

def reduceRows (s : State) (d : Desc) (a : View) (out : Rec) : List RowOut :=
  (rowIndices out.d1 out.d2 out.d3).map (fun (i1, i2, i3) =>
    mkRow out.d0 i1 i2 i3 (fun i0 =>
      .val (reduceValue (d.f 8 5 4) (d.b 8 8) (axisVals s a (d.f 8 1 0) i0 i1 i2 i3))))

/-- SOFTMAX over one vector of x′. -/
def softmaxVec (log : Bool) (xs : List FX) : List FX :=
  let m := fold1 FX.max xs
  if m.v = .inf true then xs.map (fun x => ⟨if log then .inf true else .zero, x.fl⟩)
  else
    let es := xs.map (fun x => (x.sub m).exp)
    let sum := sum32 es
    if log then xs.map (fun x => (x.sub m).sub sum.log) else es.map (fun e => e.div sum)

/-- Element `i` of a list of FP32 values. -/
def nthFX : List FX → Nat → FX
  | [], _ => fxZero
  | x :: _, 0 => x
  | _ :: xs, n + 1 => nthFX xs n

/-- x′ = x × SCALE + mask along the axis. -/
def softmaxArgs (s : State) (d : Desc) (a : View) (mask : Option View) (i0 i1 i2 i3 : Nat) : List FX :=
  let ax := d.f 8 1 0
  (List.range (a.r.dim ax)).map (fun k =>
    let x := (alongAxis s a ax k i0 i1 i2 i3).mul (fxc (d.w 9))
    match mask with
    | some v =>
      let at' := fun j i => if ax = j then k else i
      x.add (v.fx s (bIdx v.r.d0 (at' 0 i0)) (bIdx v.r.d1 (at' 1 i1)) (bIdx v.r.d2 (at' 2 i2))
        (bIdx v.r.d3 (at' 3 i3))).toF32
    | none => x)

/-- The index along an axis. -/
def axIdx (ax i0 i1 i2 i3 : Nat) : Nat := match ax with | 0 => i0 | 1 => i1 | 2 => i2 | _ => i3

def softmaxRows (s : State) (d : Desc) (a : View) (mask : Option View) (out : Rec) : List RowOut :=
  let ax := d.f 8 1 0
  (rowIndices out.d1 out.d2 out.d3).map (fun (i1, i2, i3) =>
    mkRow out.d0 i1 i2 i3 (fun i0 =>
      .val (nthFX (softmaxVec (d.b 8 4) (softmaxArgs s d a mask i0 i1 i2 i3)) (axIdx ax i0 i1 i2 i3))))

/-- The normalised value of element `x` among the values `xs` along the axis; γ and β where AUX names them. -/
def normValue (kind : Nat) (eps : FX) (xs : List FX) (gamma beta : Option FX) (x : FX) : FX :=
  let n := fxInt xs.length
  let y := match kind with
    | 0 =>
      let mu := (sum32 xs).div n
      let var := (sum32 (xs.map (fun x => (x.sub mu).mul (x.sub mu)))).div n
      (x.sub mu).div ((var.add eps).sqrt)
    | 1 =>
      let ms := (sum32 (xs.map (fun x => x.mul x))).div n
      x.div ((ms.add eps).sqrt)
    | _ => x
  let y := match gamma with
    | some g => y.mul g
    | none => y
  match beta with
  | some b => if kind = 1 then y else y.add b
  | none => y

def normRows (s : State) (d : Desc) (a : View) (aux : Option View) (out : Rec) : List RowOut :=
  let ax := d.f 8 1 0
  (rowIndices out.d1 out.d2 out.d3).map (fun (i1, i2, i3) =>
    mkRow out.d0 i1 i2 i3 (fun i0 =>
      let k := axIdx ax i0 i1 i2 i3
      .val (epilogue d.epi false none (normValue (d.f 8 5 4) (fxc (d.w 9)) (axisVals s a ax i0 i1 i2 i3)
        (aux.map (fun v => (v.fx s k 0 0 0).toF32)) (aux.map (fun v => (v.fx s k 1 0 0).toF32))
        (alongAxis s a ax k i0 i1 i2 i3)))))

/-! ## GATHER and SCATTER -/

def Rec.count (r : Rec) : Nat := r.d0 * r.d1 * r.d2 * r.d3

/-- The indices in ascending position of the index tensor. -/
def indices (s : State) (v : View) : List Int :=
  (List.range v.r.count).map (fun p =>
    signed 32 (v.code s (p % v.r.d0) (p / v.r.d0 % v.r.d1) (p / v.r.d0 / v.r.d1 % v.r.d2)
      (p / v.r.d0 / v.r.d1 / v.r.d2)))

def nthInt : List Int → Nat → Int
  | [], _ => 0
  | x :: _, 0 => x
  | _ :: xs, n + 1 => nthInt xs n

/-- An index is out of the range of a dimension. -/
def oob (n : Nat) (i : Int) : Bool := decide (i < 0) || decide ((n : Int) ≤ i)

/-- The exact value with index `k` along axis `ax`. -/
def exactAxis (s : State) (v : View) (ax k i0 i1 i2 i3 : Nat) : FX :=
  match ax with
  | 0 => v.fx s k i1 i2 i3
  | 1 => v.fx s i0 k i2 i3
  | 2 => v.fx s i0 i1 k i3
  | _ => v.fx s i0 i1 i2 k

def gatherRows (s : State) (d : Desc) (a aux : View) (out : Rec) : List RowOut :=
  let ax := d.f 8 1 0
  let idx := indices s aux
  (rowIndices out.d1 out.d2 out.d3).map (fun (i1, i2, i3) =>
    mkRow out.d0 i1 i2 i3 (fun i0 =>
      let i := nthInt idx (axIdx ax i0 i1 i2 i3)
      if oob (a.r.dim ax) i then .val fxZero else .val (exactAxis s a ax i.toNat i0 i1 i2 i3)))

/-- The positions of the index tensor that name `k`, ascending. -/
def hits (idx : List Int) (k : Nat) : List Nat :=
  (List.range idx.length).filter (fun p => nthInt idx p = (k : Int))

/-- An element that SCATTER leaves: its bits stand, but for a NaN of FP32, FP16 or BF16, which is written as the canonical one
(R81). -/
def keptElem (s : State) (old : View) (i0 i1 i2 i3 : Nat) : Elem :=
  let c := old.code s i0 i1 i2 i3
  if (old.r.fmt.half || old.r.fmt = .fp32) && (old.r.fmt.value c).isNan then .val (FX.of .nan)
  else .raw c (old.scale s i0 i1 i2 i3)

def scatterRows (s : State) (d : Desc) (a aux old : View) (out : Rec) : List RowOut :=
  let ax := d.f 8 1 0
  let idx := indices s aux
  (rowIndices out.d1 out.d2 out.d3).map (fun (i1, i2, i3) =>
    mkRow out.d0 i1 i2 i3 (fun i0 =>
      let hs := hits idx (axIdx ax i0 i1 i2 i3)
      if d.b 8 5 then
        if hs.isEmpty then keptElem s old i0 i1 i2 i3
        else .val (hs.foldl (fun acc p => acc.add (exactAxis s a ax p i0 i1 i2 i3).toF32)
          (old.fx s i0 i1 i2 i3).toF32)
      else match hs.getLast? with
        | none => keptElem s old i0 i1 i2 i3
        | some p => .val (exactAxis s a ax p i0 i1 i2 i3)))

/-! ## FOLD, UNFOLD and TDMA -/

def foldF (d : Desc) : Nat := if d.f 8 1 0 = 0 then 2 else 4

def foldRows (s : State) (d : Desc) (a : View) (out : Rec) : List RowOut :=
  let f := foldF d
  (rowIndices out.d1 out.d2 out.d3).map (fun (x, y, n) =>
    mkRow out.d0 x y n (fun k => .raw (a.code s (k / (f * f)) (x * f + k % f) (y * f + k / f % f) n) 0x7F))

def unfoldRows (s : State) (d : Desc) (a : View) (out : Rec) : List RowOut :=
  let f := foldF d
  (rowIndices out.d1 out.d2 out.d3).map (fun (x, y, n) =>
    mkRow out.d0 x y n (fun c => .raw (a.code s ((c * f + y % f) * f + x % f) (x / f) (y / f) n) 0x7F))

def tdmaRows (s : State) (a : View) (out : Rec) : List RowOut :=
  (rowIndices out.d1 out.d2 out.d3).map (fun (i1, i2, i3) =>
    mkRow out.d0 i1 i2 i3 (fun i0 => .val (a.fx s i0 i1 i2 i3)))

end Sys2Proof.Machine
end

