-- ==== Sys2Proof/Machine/Jobs.lean ====
section
/-! DEFINITION. Queues and jobs of the tensor and Plumb engines (chapters 3, 5, 6): the queue registers, completion
records (R158, R448), kills, restarts and job ends (R96, R124, R147), and job messages between packages (R178). -/

namespace Sys2Proof.Machine
open Sys2Proof

/-! ## Queue registers (R157, R189)

A queue is named by `k`: tensor queue q is k = q, Plumb queue q is k = 256 + q. -/

def isPlumb (k : Nat) : Bool := 256 ≤ k

/-- The queue's number within its engine. -/
def qNum (k : Nat) : Nat := if isPlumb k then k - 256 else k

/-- The queue that an engine and a number name. -/
def qKey : Engine → Nat → Nat
  | .tensor, q => q
  | .plumb, q => 256 + q % 8

def qSel (k : Nat) (t p : Nat → Field) : Field := if isPlumb k then p (k - 256) else t k

def qWptr (k : Nat) : Field := qSel k Reg.MBX_Q_WPTR_WPTR Reg.PLB_Q_WPTR_WPTR
def qRptr (k : Nat) : Field := qSel k Reg.MBX_Q_RPTR_RPTR Reg.PLB_Q_RPTR_RPTR
def qCplWptr (k : Nat) : Field := qSel k Reg.MBX_Q_CPL_WPTR_CPL_WPTR Reg.PLB_Q_CPL_WPTR_CPL_WPTR
def qCplRptr (k : Nat) : Field := qSel k Reg.MBX_Q_CPL_RPTR_CPL_RPTR Reg.PLB_Q_CPL_RPTR_CPL_RPTR
def qCseq (k : Nat) : Field := qSel k Reg.MBX_Q_CSEQ_CSEQ Reg.PLB_Q_CSEQ_CSEQ
def qLast (k : Nat) : Field := qSel k Reg.MBX_Q_STATUS_LAST Reg.PLB_Q_STATUS_LAST
def qStopped (k : Nat) : Field := qSel k Reg.MBX_Q_STATUS_STOPPED Reg.PLB_Q_STATUS_STOPPED
def qSaved (k : Nat) : Field := qSel k Reg.MBX_Q_STATUS_SAVED Reg.PLB_Q_STATUS_SAVED
def qAdmitted (k : Nat) : Field := qSel k Reg.MBX_Q_STATUS_ADMITTED Reg.PLB_Q_STATUS_ADMITTED
def qEnCopy (k : Nat) : Field := qSel k Reg.MBX_Q_STATUS_EN Reg.PLB_Q_STATUS_EN
def qEn (k : Nat) : Field := qSel k Reg.MBX_QC_ATTR_EN Reg.PLB_QC_ATTR_EN
def qPrioF (k : Nat) : Field := qSel k Reg.MBX_QC_ATTR_PRIO Reg.PLB_QC_ATTR_PRIO
def qSecureF (k : Nat) : Field := qSel k Reg.MBX_QC_ATTR_SECURE Reg.PLB_QC_ATTR_SECURE
def qPartF (k : Nat) : Field := qSel k Reg.MBX_QC_ATTR_PARTITION Reg.PLB_QC_ATTR_PARTITION
def qRingBase (k : Nat) : Field := qSel k Reg.MBX_QC_RING_BASE_BASE Reg.PLB_QC_RING_BASE_BASE
def qLog2 (k : Nat) : Field := qSel k Reg.MBX_QC_RING_SIZE_LOG2 Reg.PLB_QC_RING_SIZE_LOG2
def qCplBase (k : Nat) : Field := qSel k Reg.MBX_QC_CPL_BASE_BASE Reg.PLB_QC_CPL_BASE_BASE
def qCLog2 (k : Nat) : Field := qSel k Reg.MBX_QC_CPL_SIZE_CLOG2 Reg.PLB_QC_CPL_SIZE_CLOG2
def qTtBase (k : Nat) : Field := qSel k Reg.MBX_QC_TT_BASE_BASE Reg.PLB_QC_TT_BASE_BASE
def qTtCount (k : Nat) : Field := qSel k Reg.MBX_QC_TT_COUNT_COUNT Reg.PLB_QC_TT_COUNT_COUNT

/-- A queue is in compatibility mode; Plumb queues never are. -/
def State.qCompat (s : State) (k : Nat) : Bool := !isPlumb k && s.bit (Reg.MBX_QC_ATTR_COMPAT k)

/-- The VTE of a queue, if it belongs to one. -/
def State.qVte (s : State) (k : Nat) : Option Nat :=
  if !isPlumb k && s.bit (Reg.MBX_QC_ATTR_VTE_EN k) then some (s.get (Reg.MBX_QC_ATTR_VTE k)) else none

/-- The queue's attribute (R157). -/
def State.qAttr (s : State) (k : Nat) : Attr := ⟨s.bit (qSecureF k), s.get (qPartF k)⟩

/-- Slots of the ring, and of the completion ring. -/
def State.qSlots (s : State) (k : Nat) : Nat := 2 ^ s.get (qLog2 k)
def State.qCplSlots (s : State) (k : Nat) : Nat := 2 ^ s.get (qCLog2 k)

/-- The resource of the queue's engine: TENSOR or PLUMB (R63). -/
def qResource (k : Nat) : Nat := if isPlumb k then 1 else 0

/-- The completion source of the queue at the ICN (R319). -/
def qSource (k : Nat) : Nat := k

def State.job (s : State) (k : Nat) : Option Job := KMap.find s.eng.jobs k
def State.cmd (s : State) (k : Nat) : Option Cmd := KMap.find s.eng.cmds k
def State.setJob (s : State) (k : Nat) (j : Job) : State := { s with eng := { s.eng with jobs := KMap.put s.eng.jobs k j } }
def State.setCmd (s : State) (k : Nat) (c : Cmd) : State := { s with eng := { s.eng with cmds := KMap.put s.eng.cmds k c } }
def State.delJob (s : State) (k : Nat) : State := { s with eng := { s.eng with jobs := KMap.del s.eng.jobs k } }
def State.delCmd (s : State) (k : Nat) : State := { s with eng := { s.eng with cmds := KMap.del s.eng.cmds k } }

/-! ## Descriptors -/

/-- Sixteen little-endian words. -/
def wordsOf : Nat → List Nat → List Nat
  | 0, _ => []
  | n + 1, bs => leValue (bs.take 4) :: wordsOf n (bs.drop 4)

/-- The descriptor in slot `i` of a queue's ring. -/
def State.desc (s : State) (k i : Nat) : Desc := ⟨i, wordsOf 16 (s.rd (s.get (qRingBase k) + 64 * i) 64)⟩

/-- The slots from `i` up to WPTR. -/
def State.slotsFrom (s : State) (k i : Nat) : List Nat :=
  let n := s.qSlots k
  (List.range ((s.get (qWptr k) + n - i) % n)).map (fun j => (i + j) % n)

/-- Descriptors up to and including the first COMMIT; none if there is no COMMIT. -/
def uptoCommit : List Desc → Option (List Desc)
  | [] => none
  | d :: ds => if d.opcode = 0x11 then some [d] else (uptoCommit ds).map (fun l => d :: l)

/-- The job whose first descriptor lies in slot `i`: a run of descriptors up to its COMMIT (R160); RPTR may have passed some
of them, whose commands have committed. -/
def State.jobFrom (s : State) (k i : Nat) : Option (List Desc) :=
  uptoCommit ((s.slotsFrom k i).map (s.desc k))

/-- The job at RPTR. -/
def State.jobAtRptr (s : State) (k : Nat) : Option (List Desc) := s.jobFrom k (s.get (qRptr k))

/-! ## Completion records -/

/-- What a completion record says. -/
structure Record where
  status : Nat
  desc : Desc
  fl : Fl
  defused : Bool
  restart : Bool
  jobEnd : Bool
  tile : Nat := 0
  pkg : Nat := 0
  start : Nat
  cycles : Nat
  deriving DecidableEq, Repr

/-- The record's 32 bytes. -/
def Record.bytes (r : Record) (seq endTs : Nat) : List Nat :=
  let w2 := r.desc.opcode + 2 ^ 8 * b2n r.fl.ovf + 2 ^ 9 * b2n r.fl.nan + 2 ^ 10 * b2n r.fl.sat +
    2 ^ 11 * b2n r.defused + 2 ^ 12 * b2n r.restart + 2 ^ 13 * b2n r.jobEnd + 2 ^ 16 * r.desc.job
  leBytes 4 (r.status + 2 ^ 16 * r.desc.tag) ++ leBytes 4 seq ++ leBytes 4 w2 ++
    leBytes 4 (r.tile + 2 ^ 8 * r.pkg) ++ leBytes 4 (r.start % 2 ^ 32) ++ leBytes 4 endTs ++
    leBytes 4 (r.cycles % 2 ^ 32) ++ leBytes 4 r.desc.index

/-- A completion record is written at CPL_WPTR, which then advances (R158); a refused one stops the queue (R448). -/
def State.writeRecord (s : State) (k : Nat) (r : Record) : State :=
  let i := s.get (qCplWptr k)
  let a := s.get (qCplBase k) + 32 * i
  match s.reach (s.qAttr k) true a 32 with
  | (.ok, s) =>
    let s := (s.wr a (r.bytes (s.get (qCseq k)) s.ts32)).set (qCplWptr k) ((i + 1) % s.qCplSlots k)
    if r.desc.irq then s.raiseEdge (qSource k) else s
  | (_, s) => (s.set (qStopped k) 1).set (qLast k) Code.eAccess

/-! ## Row marks of a command (R121) -/

/-- The clusters of a mask. -/
def clusterList (m : Nat) : List Nat := (List.range 16).filter (fun c => bitOf m c)

/-- The copies that a command armed and that have not committed are released when the command is killed
(DEDUCED: log entry 24). -/
def State.disarm (s : State) (d : Desc) (c : Cmd) : State :=
  (clusterList d.clusters).foldl (fun s cl =>
    match KMap.find c.stripes cl with
    | some st => if st.armed then s.set (Reg.TEN_RM_CFG_ARMED cl (d.f 11 15 8)) 0 else s
    | none => s) s

/-- A command waits on, or posts, a row mark. -/
def Desc.waits (d : Desc) : Bool := (d.opcode = 2 || d.opcode = 3) && d.b 8 17
def Desc.posts (d : Desc) : Bool := (d.opcode = 2 || d.opcode = 3) && d.b 8 18
def Desc.waitMark (d : Desc) : Nat := d.f 11 7 0
def Desc.postMark (d : Desc) : Nat := d.f 11 15 8

def Cmd.desc (c : Cmd) : Desc := ⟨c.index, c.ws⟩

/-- RUNNING of the clusters and of Plumb follows the commands in the run stage. -/
def State.refreshRunning (s : State) : State :=
  let mask := s.eng.cmds.foldl (fun m p => if isPlumb p.1 then m else m ||| p.2.desc.clusters ||| p.2.mask) 0
  let s := (List.range 16).foldl (fun s c => s.setBit (Reg.TEN_CL_STATUS_RUNNING c) (bitOf mask c)) s
  s.setBit Reg.PLB_STATUS_RUNNING (s.eng.cmds.any (fun p => isPlumb p.1))

/-- The staged writes of a command are discarded: what an earlier command of the job had staged there stands again. -/
def State.unwrite (s : State) (c : Cmd) : State :=
  c.undo.foldl (fun s p => (s.wr p.1 p.2).undefine p.1 (p.1 + p.2.length)) s

/-- The running command of a queue is stopped before its commit point and its staged writes discarded (R96). -/
def State.dropCmd (s : State) (k : Nat) : State :=
  match s.cmd k with
  | none => s
  | some c => (((s.disarm c.desc c).unwrite c).delCmd k).refreshRunning

/-! ## KV steps (R146, R147) -/

/-- Free a list of page-table entries of a row (pool pages and spill pages). -/
def KvPool.release (p : KvPool) (es : List (Bool × Nat)) : KvPool :=
  { p with used := p.used.filter (fun x => !es.any (fun e => !e.1 && e.2 = x)),
           spillUsed := p.spillUsed.filter (fun x => !es.any (fun e => e.1 && e.2 = x)) }

def State.setPool (s : State) (i : Nat) (p : KvPool) : State :=
  { s with eng := { s.eng with pools := KMap.put s.eng.pools i p } }
def State.row (s : State) (r : Nat) : SeqRow := KMap.getD s.eng.rows r {}

/-- The 32 bytes of a row (R131). -/
def SeqRow.bytes (r : SeqRow) : List Nat :=
  leBytes 4 (r.state + 8 * b2n r.spillable + 16 * b2n r.leaving + 2 ^ 5 * r.bucket + 2 ^ 8 * r.pool + 2 ^ 16 * r.prio) ++
    leBytes 4 r.len ++ leBytes 4 r.pend ++ leBytes 4 (r.queue + 2 ^ 8 * r.newKv) ++ leBytes 8 r.ptBase ++
    leBytes 4 r.job ++ leBytes 4 r.step

/-- A page-table entry (R133): VALID, SPILLED and the page. -/
def pageEntry (e : Bool × Nat) : Nat := 2 ^ 31 + 2 ^ 30 * b2n e.1 + e.2

/-- A row's page table in memory follows the table that the engine holds: entries that go are zeroed, new ones written. -/
def State.putTable (s : State) (old new : SeqRow) : State :=
  let gone := old.pt.filter (fun e => (KMap.find new.pt e.1).isNone)
  let come := new.pt.filter (fun e => KMap.find old.pt e.1 != some e.2 || old.ptBase != new.ptBase)
  let s := gone.foldl (fun s e => s.wr (old.ptBase + 4 * e.1) (leBytes 4 0)) s
  come.foldl (fun s e => s.wr (new.ptBase + 4 * e.1) (leBytes 4 (pageEntry e.2))) s

/-- A row changes, and with it the sequence region in DRAM (R131, R133). The engine works from the rows it holds; the
region, whose place is the firmware's, shows them (DESIGN CHOICE: log entry 48). -/
def State.setRow (s : State) (r : Nat) (v : SeqRow) : State :=
  let old := s.row r
  let s := { s with eng := { s.eng with rows := KMap.set {} s.eng.rows r v } }
  (s.wr (s.eng.seqBase + 32 * r) v.bytes).putTable old v
def State.delStep (s : State) (p : Nat) : State := { s with eng := { s.eng with steps := KMap.del s.eng.steps p } }

/-- KV cache lines of pages of a pool are invalidated (R142). -/
def State.dropLines (s : State) (pool : Nat) (pages : List Nat) : State :=
  let keep := fun (l : KvLine) => !(l.pool = pool && pages.contains l.page)
  { s with eng := { s.eng with kvLines := s.eng.kvLines.map (fun p => (p.1, p.2.filter keep)) } }

/-- Pages of a pool are freed: the pool's lists and the cache lines follow. -/
def State.freePages (s : State) (pool : Nat) (es : List (Bool × Nat)) : State :=
  match KMap.find s.eng.pools pool with
  | none => s
  | some p => (s.setPool pool (p.release es)).dropLines pool ((es.filter (fun e => !e.1)).map Prod.snd)

/-- The step of pool `i` rolls back (R147). -/
def State.rollback (s : State) (i : Nat) (st : KvStep) : State :=
  let pages := st.reserved.filterMap (fun (r, e) => KMap.find (s.row r).pt e)
  let s := s.freePages i pages
  let s := st.reserved.foldl (fun s (r, e) => s.setRow r { s.row r with pt := KMap.del (s.row r).pt e }) s
  let s := st.joiners.foldl (fun s (r, old) => s.setRow r old) s
  let s := st.served.foldl (fun s r => s.setRow r { s.row r with pend := 0, leaving := false }) s
  (s.delStep i).fbInc 0x6040 2

/-- The open steps, of one pool each, whose job is `num` of queue `k`, with their pools. -/
def State.stepsOf (s : State) (k num : Nat) : KMap KvStep :=
  if isPlumb k then [] else s.eng.steps.filter (fun p => p.2.queue = k && p.2.job = num)

/-- The steps of a job that ends without success roll back. -/
def State.rollbackJob (s : State) (k num : Nat) : State :=
  (s.stepsOf k num).foldl (fun s p => s.rollback p.1 p.2) s

/-- The step closes at its job's commit (R134, R146): LEN advances and STEP is set, leaving rows free their pages and
become IDLE, the spill pages of restored joiners are freed. -/
def State.closeStep (s : State) (i : Nat) (st : KvStep) : State :=
  let s := st.served.foldl (fun s r =>
    let row := s.row r
    if row.leaving then
      (s.freePages i (row.pt.map Prod.snd)).setRow r
        { row with state := 1, leaving := false, len := 0, pend := 0, step := st.number, pt := [] }
    else s.setRow r { row with len := row.len + row.pend, pend := 0, step := st.number }) s
  let s := st.joiners.foldl (fun s (_, old) => s.freePages i ((old.pt.map Prod.snd).filter Prod.fst)) s
  (s.delStep i).fbInc 0x6040 1

/-! ## Training session (R151) -/

/-- The queue is registered for training. -/
def State.training (s : State) (k : Nat) : Option Training := if isPlumb k then none else KMap.find s.eng.train k

/-- FB 0x7100.03, the session's state. -/
def State.session (s : State) : Nat := s.fbGet 0x7100 3

/-- CLOSING ends when no training job is admitted. -/
def State.sessionSettle (s : State) : State :=
  if s.session = 2 ∧ !(s.eng.train.any (fun p => (s.job p.1).isSome)) then s.fbSet 0x7100 3 0 else s

/-- The session enters CLOSING. -/
def State.sessionClose (s : State) : State := (if s.session = 1 then s.fbSet 0x7100 3 2 else s).sessionSettle

/-! ## Job ends -/

/-- The slot after the COMMIT of the job that starts at slot `i`. -/
def State.afterJob (s : State) (k i : Nat) : Nat :=
  match s.jobFrom k i with
  | some ds => (match ds.getLast? with | some d => (d.index + 1) % s.qSlots k | none => s.get (qRptr k))
  | none => s.get (qRptr k)

/-- The job's result notices (R195). -/
def State.notice (s : State) (k num status : Nat) : State :=
  if isPlumb k then s.noticePlumb (qNum k) num status else s.noticeTensor k num status

/-- The job of a queue ends with a status other than OK: its record is written, RPTR moves past its COMMIT, the open
step rolls back and saved ranges are discarded (R96, R147, R165). -/
def State.endJob (s : State) (k : Nat) (j : Job) (status : Nat) (d : Desc) (tile pkg cycles : Nat) : State :=
  let fl := match s.cmd k with | some c => j.fl.or c.fl | none => j.fl
  let df := match s.cmd k with | some c => j.defused || c.defused | none => j.defused
  let next := s.afterJob k j.first
  let s := (s.dropCmd k).rollbackJob k j.num
  let s := s.writeRecord k ⟨status, d, fl, df, j.restarted, true, tile, pkg, j.start, j.cycles + cycles⟩
  let s := ((s.set (qRptr k) next).set (qAdmitted k) 0).set (qSaved k) 0
  ((s.delJob k).notice k j.num status).sessionSettle

/-- The descriptor that a job's failure concerns: that of the command in the run stage, or the one at RPTR. -/
def State.concern (s : State) (k : Nat) : Desc :=
  match s.cmd k with
  | some c => c.desc
  | none => s.desc k (s.get (qRptr k))

/-- The active cycles that a killed command had run (R98): no command row names them, so they are a free value; none
where no command is in the run stage, or a FENCE or COMMIT, which count none. -/
def State.activeCycles (s : State) (k : Nat) : Nat × State :=
  match s.cmd k with
  | some c => if c.desc.opcode = 0x10 ∨ c.desc.opcode = 0x11 then (0, s) else s.freeNat
  | none => (0, s)

/-- The job of a queue ends while its command may be running: its active cycles count in the record. -/
def State.endRunning (s : State) (k : Nat) (j : Job) (status : Nat) (d : Desc) (pkg : Nat) : State :=
  let (n, s) := s.activeCycles k
  s.endJob k j status d 0 pkg n

/-! ## Kill and restart (R96, R67) -/

/-- Codes that allow a restart (R99). -/
def restartable (c : Nat) : Bool :=
  c = Code.eTileArith || c = Code.eEccUncorr || c = Code.eCmdOverrun || c = Code.eLink || c = Code.eFwWatchdog

/-- The open window that a job was admitted in. -/
def State.jobWindow (s : State) (j : Job) : Option OpenWindow := s.openWindows.find? (fun w => w.index = j.window)

/-- The VTE of the queue is frozen or freezing. -/
def State.vteFreezing (s : State) (k : Nat) : Bool :=
  match s.qVte k with
  | some v => s.get (Reg.MBX_VTE_STATUS_STATE v) = 2 || s.get (Reg.MBX_VTE_STATUS_STATE v) = 3
  | none => false

/-- R160's "now": the later of the present and the projected ends, on clusters of a mask, of the jobs admitted in a window
at equal or higher PRIO, but for those of the queues `ks`. -/
def State.admitNow (s : State) (ks : List Nat) (plumb : Bool) (mask prio window : Nat) : Nat :=
  (s.eng.jobs.filter (fun p => !ks.contains p.1 && isPlumb p.1 = plumb && p.2.window = window && decide (prio ≤ p.2.prio) &&
    (p.2.clusters &&& mask) != 0)).foldl (fun t p => max t p.2.projEnd) s.datum

/-- The restart test of R67 for the killed job of queue `k`, made for the jobs of `ks` at once. -/
def State.mayRestart (s : State) (ks : List Nat) (k : Nat) : Bool :=
  match s.job k with
  | some j =>
    (match s.jobWindow j with
      | some w => verdict (s.admitNow ks (isPlumb k) j.clusters j.prio j.window) j.bound true w = .admitted
      | none => false)
  | none => true

/-- The job restarts: RPTR returns to its first descriptor (R96). -/
def State.restartJob (s : State) (k : Nat) (j : Job) (w : OpenWindow) : State :=
  let s := ((s.dropCmd k).spendRestart w).set (qRptr k) j.first
  let s := (s.set (qSaved k) 0).fbInc 0x6030 4
  s.setJob k { j with restarted := true, fl := {}, defused := false, cycles := 0, written := [], attended := [],
                      preempt := false, copy := 0, ready := 0, barrier := false, held := false, projEnd := s.datum + j.bound }

/-! ### Packages (R178) -/

def State.package (s : State) : Nat := s.get Reg.SYS_STRAP_PKG_ID

/-- The packages of a mask other than this one. -/
def State.others (s : State) (mask : Nat) : List Nat :=
  (List.range 4).filter (fun p => bitOf mask p && p != s.package)

def State.tell (s : State) (mask group : Nat) (m : JobMsg) : State :=
  (s.others mask).foldl (fun s p => s.emit (.jobMessage p group m)) s

def State.coll (s : State) (g : Nat) : Option Coll := KMap.find s.eng.colls g

/-- The lowest package of a mask. -/
def leadOf (mask : Nat) : Nat := ((List.range 4).find? (fun p => bitOf mask p)).getD 0

/-- The job's group with its packages. -/
def State.jobGroup (s : State) (j : Job) : Option (Nat × Coll) :=
  match j.group with
  | some g => (s.coll g).map (fun c => (g, c))
  | none => none

/-- KILL goes from this package to the others of a job that spans packages; their acknowledgements are awaited (R177, R178). -/
def State.tellKill (s : State) (k code : Nat) : State :=
  match (s.job k).bind s.jobGroup with
  | some (g, c) =>
    let s := (s.tell c.packages g (.kill code)).fbInc 0x6030 0xA
    { s with eng := { s.eng with killsOut := (s.others c.packages).foldl (fun m p => KMap.put m p s.datum) s.eng.killsOut } }
  | none => s

/-- The job of queue `k` spans packages and another one leads it. -/
def State.ledElsewhere (s : State) (k : Nat) : Bool :=
  match (s.job k).bind s.jobGroup with
  | some (_, c) => leadOf c.packages != s.package
  | none => false

/-! ### Kills -/

/-- A kill of the command of queue `k` is noted (R97), with the record that reports it. -/
def State.noteKill (s : State) (k : Nat) (c : Cmd) (preempted : Bool) (record : Option Nat) (tile : Nat) : State :=
  let mark : KillMark := ⟨s.datum, c.desc.clusters, c.desc.tiles, preempted, record, tile⟩
  { s with eng := { s.eng with killMarks := KMap.put s.eng.killMarks k mark } }

/-- The job of queue `k` ends with a fault's code; its record is noted. -/
def State.endKilled (s : State) (k : Nat) (j : Job) (code : Nat) (tile pkg cycles : Nat) : State :=
  let i := s.get (qCplWptr k)
  let a := s.get (qCplBase k) + 32 * i
  let t := s.endJob k j code (s.concern k) tile pkg cycles
  match s.cmd k with
  | some c => t.noteKill k c false (if t.get (qCplWptr k) = i then none else some a) tile
  | none => t

/-- A kill of work of window `w` is noted with its instant: R69 counts one at the window's close. -/
def State.markKill (s : State) (w : Nat) : State := { s with eng := { s.eng with killAt := KMap.put s.eng.killAt w s.datum } }

/-- One job is killed by a fault (R96). `restart`: the decision of R67 is to restart it; `wait`: the lead package decides
(R178). -/
def State.killOne (s : State) (k : Nat) (code : Nat) (restart wait : Bool) (tile pkg cycles : Nat) : State :=
  match s.job k with
  | none => s
  | some j =>
    let s := (s.fbInc 0x6030 3).markKill j.window
    let note := fun (t : State) => match s.cmd k with
      | some c => t.noteKill k c false none tile
      | none => t
    if wait then note ((s.dropCmd k).setJob k { j with held := true })
    else
      let say := fun (t : State) (m : JobMsg) => match s.jobGroup j with
        | some (g, c) => t.tell c.packages g m
        | none => t
      match (if restart then s.jobWindow j else none) with
      | some w => say (note (s.restartJob k j w)) .restart
      | none => say (s.endKilled k j code tile pkg cycles) .endJob

/-- Two jobs are linked by a row mark (R124). -/
def linked (a b : Job) : Bool :=
  a.num = b.num && (a.posts.any b.waits.contains || b.posts.any a.waits.contains)

/-- The queues whose jobs are linked to those of a list, in one more step: jobs of one partition that carry the same JOB. -/
def State.linkStep (s : State) (ks : List Nat) : List Nat :=
  let more := s.eng.jobs.filter (fun p => !ks.contains p.1 && !isPlumb p.1 &&
    ks.any (fun k => match s.job k with
      | some j => (s.qAttr k).partition = (s.qAttr p.1).partition && linked j p.2
      | none => false))
  ks ++ more.map Prod.fst

def State.linkGo (s : State) : Nat → List Nat → List Nat
  | 0, ks => ks
  | n + 1, ks => s.linkGo n (s.linkStep ks)

/-- The queues whose jobs are one job with that of queue `k` (R124). -/
def State.linkedQueues (s : State) (k : Nat) : List Nat :=
  if isPlumb k then [k] else s.linkGo s.eng.jobs.length [k]

/-- The jobs that are one job with that of queue `k` are killed: that of `k` with the code `own`, the others with
E_JOB_KILLED; `code`, the fault's, says whether they may restart. R67 decides once for all of them (R96, R124). -/
def State.killAll (s : State) (k own code tile pkg cycles : Nat) : State :=
  let ks := s.linkedQueues k
  let wait := ks.any s.ledElsewhere
  let restart := restartable code && ks.all (s.mayRestart ks)
  let s := s.killOne k own restart wait tile pkg cycles
  (ks.filter (· != k)).foldl (fun s q =>
    let (n, s) := s.activeCycles q
    s.killOne q Code.eJobKilled restart wait tile pkg n) s

/-- A fault kills the whole job (R96, R124); the other packages are told (R178). -/
def State.killJob (s : State) (k code tile cycles : Nat) : State :=
  (s.tellKill k code).killAll k code code tile s.package cycles

/-- A fault whose event names no cycles: those that the command had run are free (R98). -/
def State.killFree (s : State) (k code : Nat) : State :=
  let (n, s) := s.activeCycles k
  s.killJob k code 0 n

/-- A rejection ends the job without restart (R96). -/
def State.rejectJob (s : State) (k : Nat) (code : Nat) : State :=
  match s.job k with
  | none => s
  | some j => (s.tellKill k code).endJob k j code (s.concern k) 0 0 0

/-! ### Preemption (R164) -/

/-- The queues whose running commands have read a row through a copy that command `c` of queue `k` armed (R124). -/
def State.readersOf (s : State) (k : Nat) (c : Cmd) : List Nat :=
  (s.eng.cmds.filter (fun p => p.1 != k && c.desc.posts && p.2.desc.waits && c.desc.postMark = p.2.desc.waitMark &&
    c.desc.job = p.2.desc.job && (s.qAttr k).partition = (s.qAttr p.1).partition &&
    p.2.readFrom.any (fun cl => match KMap.find c.stripes cl with | some st => st.armed | none => false))).map Prod.fst

/-- The commands of a list of queues are killed for a preemption, and with each the consumers that have read through its
marks. `n` bounds the kills. -/
def State.preemptGo (s : State) : Nat → List Nat → State
  | 0, _ => s
  | _ + 1, [] => s
  | n + 1, k :: ks =>
    match s.cmd k with
    | none => s.preemptGo n ks
    | some c => (((s.dropCmd k).noteKill k c true none 0).fbInc 0x6030 5).preemptGo n (ks ++ s.readersOf k c)

/-- A command is killed for a preemption (R164), with its readers (R124). -/
def State.preemptCmd (s : State) (k : Nat) : State := s.preemptGo ((s.eng.cmds.length + 1) * (s.eng.cmds.length + 1)) [k]

/-- A preemption of this package's own: KILL goes to the others of a job that spans packages (R178). -/
def State.preemptOwn (s : State) (k : Nat) : State :=
  if (s.cmd k).isSome then (s.tellKill k 0).preemptCmd k else s

end Sys2Proof.Machine
end

