-- ==== Sys2Proof/Machine/Decoding.lean ====
section
/-! DEFINITION. The decode stage of a tensor or Plumb command (R90–R93, R95, R99, R101, R108, R109, R112, R116, R121,
R138, R142, R162, R165, R181, R190): every check before any write, in the order of R25 and R99. -/

namespace Sys2Proof.Machine
open Sys2Proof

/-- The failing checks of a command by their code, in the order in which they are reported. -/
structure Chk where
  illegal : Bool := false
  length : Bool := false
  align : Bool := false
  bounds : Bool := false
  access : Bool := false
  unavailable : Bool := false
  state : Bool := false
  fmtPair : Bool := false
  shape : Bool := false
  split : Bool := false
  cmdBound : Bool := false
  deriving DecidableEq, Repr

def Chk.or (a b : Chk) : Chk :=
  ⟨a.illegal || b.illegal, a.length || b.length, a.align || b.align, a.bounds || b.bounds, a.access || b.access,
   a.unavailable || b.unavailable, a.state || b.state, a.fmtPair || b.fmtPair, a.shape || b.shape,
   a.split || b.split, a.cmdBound || b.cmdBound⟩

def Chk.all (l : List Chk) : Chk := l.foldl Chk.or {}

/-- The first failed check (R25, R99). -/
def Chk.code (c : Chk) : Nat :=
  firstCode [(c.illegal, Code.eIllegal), (c.length, Code.eLength), (c.align, Code.eAlign), (c.bounds, Code.eBounds),
    (c.access, Code.eAccess), (c.unavailable, Code.eUnavailable), (c.state, Code.eState), (c.fmtPair, Code.eFmtPair),
    (c.shape, Code.eShape), (c.split, Code.eSplit), (c.cmdBound, Code.eCmdBound)]

/-! ## Shape of a descriptor (R92, R93) -/

/-- Which handles an opcode takes: 0 absent, 1 required, 2 optional (A, B, OUT, AUX). -/
def handleRule (op : Nat) : List Nat :=
  match op with
  | 1 => [1, 1, 1, 2] | 2 => [1, 1, 1, 2] | 3 => [1, 1, 1, 2] | 4 => [1, 0, 1, 0] | 5 => [1, 2, 1, 0]
  | 6 => [1, 0, 1, 0] | 7 => [1, 0, 1, 2] | 8 => [1, 0, 1, 2] | 9 => [1, 0, 1, 1] | 10 => [1, 0, 1, 1]
  | _ => [1, 0, 1, 0]

/-- The opcode has an epilogue, and may set PART or ACC32. -/
def hasEpilogue (op : Nat) : Bool := (1 ≤ op && op ≤ 5) || op = 8
def mayPart (op : Nat) : Bool := op = 1
def mayAcc32 (op : Nat) : Bool := 1 ≤ op && op ≤ 3

/-- Reserved-bit masks: the bits that words 8 to 15 of an opcode may set. -/
def wordMasks (op : Nat) : List Nat :=
  match op with
  | 0x01 => [0xFFFFFFFF]
  | 0x02 => [0x7FFFF, 0xFFFFFFFF, 0xFFFFFFFF, 0xFFFF]
  | 0x03 => [0x6FFFF, 0xFFFFFFFF, 0xFFFFFFFF, 0xFFFF]
  | 0x04 => [0x3FFFF, 0xFFFFFFFF, 0xFFFFFFFF]
  | 0x05 => [0x1F]
  | 0x06 => [0x133]
  | 0x07 => [0x13, 0xFFFFFFFF]
  | 0x08 => [0x33, 0xFFFFFFFF]
  | 0x09 => [0x13]
  | 0x0A => [0x33]
  | 0x0B => [0xFFF, 0xFFFFFFFF, 0xFFFFFF, 0xFFFFFFFF, 1]
  | 0x0C => [3]
  | 0x0D => [3]
  | 0x0E => [1, 0xFFFFFFFF, 0xFFFFFFFF, 0xFFFFFFFF]
  | 0x0F => [0xFFF1]
  | 0x10 => [0xFF, 0xFFFFFFFF]
  | _ => []

/-- A word sets a bit outside a mask. -/
def outside (v mask : Nat) : Bool := v &&& mask != v

/-- The opcode is one of the table's. -/
def knownOp (op : Nat) : Bool := 1 ≤ op && op ≤ 0x11

/-- FENCE and COMMIT. -/
def noTensors (op : Nat) : Bool := op = 0x10 || op = 0x11

/-- Handle `i` of a descriptor: A, B, OUT, AUX. -/
def Desc.handle (d : Desc) (i : Nat) : Nat :=
  match i with | 0 => d.f 4 11 0 | 1 => d.f 4 27 16 | 2 => d.f 5 11 0 | _ => d.f 5 27 16

def Desc.names (d : Desc) (i : Nat) : Bool := !noTensors d.opcode && d.handle i != 0xFFF

/-- Header and handle checks (R92, R93). -/
def headerChk (d : Desc) : Chk :=
  let op := d.opcode
  let words := (List.range 8).any (fun i => outside (d.w (8 + i)) (nthNat (wordMasks op) i))
  if !knownOp op then { illegal := true }
  else if noTensors op then
    { illegal := d.f 0 15 10 != 0 || (d.irq && !d.cpl) || d.w 1 != 0 || d.w 2 != 0 || d.f 3 31 16 != 0 ||
        d.w 4 != 0 || d.w 5 != 0 || d.w 6 != 0 || d.w 7 != 0 || words }
  else
    let rule := handleRule op
    { illegal := d.f 0 15 10 != 0 || (d.irq && !d.cpl) || d.f 1 31 24 != 0 || d.f 3 31 16 != 0 ||
        d.clusters = 0 || d.tiles = 0 || outside (d.w 4) 0x0FFF0FFF || outside (d.w 5) 0x0FFF0FFF || words ||
        (List.range 4).any (fun i => (nthNat rule i = 0 && d.names i) || (nthNat rule i = 1 && !d.names i)) ||
        (if hasEpilogue op then
          outside (d.w 6) 0x3F || decide (7 < d.f 6 3 0) || !f32Finite (d.w 7) || (f32 (d.w 7)).isZero ||
          (d.part && !mayPart op) || (d.acc32 && !mayAcc32 op)
        else d.w 6 != 0 || d.w 7 != 0)
      length := d.bound = 0 || d.bound = 0xFFFFFFFF }

/-! ## Records -/

/-- The records that a command names: A, B, OUT, AUX. -/
structure Recs where
  a : Option Rec
  b : Option Rec
  out : Option Rec
  aux : Option Rec
  deriving DecidableEq, Repr

/-- The record of handle `i`, if it is named and within the table. -/
def State.handleRec (s : State) (k : Nat) (d : Desc) (i : Nat) : Option Rec :=
  if d.names i && decide (d.handle i < s.get (qTtCount k)) then
    some (readRec s (ttAddr (s.get (qTtBase k)) (d.handle i)))
  else none

def State.recs (s : State) (k : Nat) (d : Desc) : Recs :=
  ⟨s.handleRec k d 0, s.handleRec k d 1, s.handleRec k d 2, s.handleRec k d 3⟩

/-- A test of a record that is absent passes. -/
def opt (r : Option Rec) (f : Rec → Bool) : Bool := match r with | some r => f r | none => false

/-- Where FRC records may stand (R108, R109). -/
def frcAllowed (plumb : Bool) (op i : Nat) : Bool :=
  !plumb && ((i = 0 && (op = 2 || op = 3 || op = 4 || op = 5 || op = 14)) || (i = 1 && op = 5) ||
    (i = 2 && (op = 2 || op = 3 || op = 4 || op = 5 || op = 14)))

/-- The bytes of both banks of a record, and of its scale arrays. -/
def Rec.span (r : Rec) : Nat × Nat := (r.base, r.base + (if r.stage then 2 else 1) * r.extent)
def Rec.scaleSpan (r : Rec) : Nat × Nat :=
  (r.scaleBase, r.scaleBase + (if r.stage then 2 else 1) * r.scaleExtent)

/-- The tiles in whose memory a range `[lo, hi)` lies, at most one beside the first (R101). -/
def tilesOf (lo hi : Nat) : List Nat :=
  if lo < 0x50000000 ∧ 0x40000000 < hi then
    let a := (max lo 0x40000000 - 0x40000000) / 0x200000
    let b := (min hi 0x50000000 - 1 - 0x40000000) / 0x200000
    if a ≤ b then (if a = b then [a] else [a, b]) else []
  else []

/-- The tiles whose memory a record reaches: with BASE, with either bank, with its scales. R101 speaks of BASE; what else the
record reaches belongs to the tile's own memory as much (DEDUCED: log entry 23). -/
def Rec.tiles (r : Rec) : List Nat :=
  tilesOf r.base (max (r.base + 1) r.span.2) ++ (if r.fmt.mx then tilesOf r.scaleSpan.1 r.scaleSpan.2 else [])

/-- The command selects tile `n` alone. -/
def Desc.selectsOnly (d : Desc) (n : Nat) : Bool := d.clusters = 2 ^ (n / 8) && d.tiles = 2 ^ (n % 8)

/-- A range reaches into the KV cache area of some cluster buffer (R142: banks 32 − BANKS to 31, of 256 KiB each). -/
def State.inKvCache (s : State) (lo hi : Nat) : Bool :=
  (List.range 16).any (fun c =>
    let top := 0x50000000 + (c + 1) * 0x800000
    decide (lo < top) && decide (top - s.get (Reg.TEN_KV_CACHE_BANKS c) * 0x40000 < hi) &&
    s.get (Reg.TEN_KV_CACHE_BANKS c) != 0 && decide (lo < hi))

/-- The checks of one record, named in place `i` (R90, R91, R101, R108, R142, R190). -/
def State.recChk (s : State) (k : Nat) (d : Desc) (i : Nat) (r : Rec) : Chk :=
  { illegal := r.illegal || (r.frc != 0 && !frcAllowed (isPlumb k) d.opcode i) || (i = 2 && !r.stage) ||
      r.tiles.any (fun n => isPlumb k || (d.opcode != 14 && !d.selectsOnly n))
    length := r.badLength
    align := r.misaligned
    bounds := r.outOfBounds || s.inKvCache r.span.1 r.span.2 || (r.fmt.mx && s.inKvCache r.scaleSpan.1 r.scaleSpan.2)
    fmtPair := isPlumb k && r.fmt.fourSix && !(d.opcode = 14 && d.b 8 0) }

/-- The checks of every record named, and of the handles. -/
def State.recsChk (s : State) (k : Nat) (d : Desc) : Chk :=
  Chk.all ((List.range 4).map (fun i =>
    if !d.names i then {}
    else match s.handleRec k d i with
      | none => { bounds := true }
      | some r => s.recChk k d i r))

/-! ## Opcode checks -/

/-- An allowed operand pair (R78). -/
def pairAllowed (a b : Fmt) : Bool := (a.narrow && b.narrow) || (a.half && b.half)

/-- GEMM-class format checks. -/
def arrayPair (d : Desc) (a b : Rec) : Bool :=
  pairAllowed a.fmt b.fmt && (!d.acc32 || (a.fmt.plainInt && b.fmt.plainInt && a.frc = 0 && b.frc = 0))

/-- The bias of `n` outputs (R85). -/
def biasChk (aux : Option Rec) (n : Nat) : Chk :=
  match aux with
  | none => {}
  | some r => { fmtPair := r.fmt != .fp32, shape := r.d0 != n || r.d1 != 1 || r.d2 != 1 || r.d3 != 1 }

/-- INT32 output of an INT32 accumulation allows ACT 0 to 2 only (R85). -/
def actChk (d : Desc) (out : Rec) : Chk := { illegal := intOut d out && decide (2 < d.f 6 3 0) }

def gemmChk (d : Desc) (a b out : Rec) (aux : Option Rec) : Chk :=
  let n := ceilDiv a.d0 1024
  let c0 := d.f 8 15 0
  let tot := d.f 8 31 16
  Chk.all [actChk d out, biasChk aux b.d1,
    { length := tot = 0 || tot = 0xFFFF
      fmtPair := !arrayPair d a b
      shape := a.d0 != b.d0 || out.d0 != b.d1 || out.d1 != a.d1 || a.d2 != out.d2 ||
        (b.d2 != a.d2 && b.d2 != 1) || a.d3 != 1 || b.d3 != 1 || out.d3 != 1 ||
        (if d.part then
          out.fmt != .fp32 || d.f 6 3 0 != 0 || d.w 7 != 0x3F800000 || aux.isSome ||
          (a.d0 % 1024 != 0 && c0 + n != tot)
        else c0 != 0 || tot != n)
      split := d.part && !isNode c0 (c0 + n) tot }]

/-- Stride and dilation outside 1 to 8. -/
def badStride (x : Nat) : Bool := x = 0 || decide (8 < x)

/-- ROW0 and ROWS. -/
def rowsChk (w : Win) (out : Rec) : Chk :=
  { length := w.rows = 0 || w.rows = 0xFFFF, bounds := decide (out.d2 < w.row0 + w.rows) }

/-- FRC output in stripes (R116). -/
def frcRowsChk (d : Desc) (w : Win) (out : Rec) : Chk :=
  { align := out.frc != 0 && (w.row0 % 8 != 0 || w.rows % (8 * (clusterList d.clusters).length) != 0) }

/-- Row-mark checks of a producer in each of its clusters (R121). -/
def State.markChk (s : State) (k : Nat) (d : Desc) (out : Rec) : Chk :=
  if !d.posts then {}
  else
    let m := d.postMark
    Chk.all ((clusterList d.clusters).map (fun c =>
      let held := s.bit (Reg.TEN_RM_CFG_ARMED c m) && !s.bit (Reg.TEN_RM_CFG_COMMITTED c m)
      let mine := s.get (Reg.TEN_RM_OWNER_PARTITION c m) = (s.qAttr k).partition
      { access := held && !mine
        state := held && mine && !(s.get (Reg.TEN_RM_OWNER_QUEUE c m) = qNum k && s.get (Reg.TEN_RM_OWNER_JOB c m) = d.job)
        align := out.frc != 0 && s.get (Reg.TEN_RM_CFG_LEAD c m) % 8 != 0 }))

def State.convChk (s : State) (k : Nat) (d : Desc) (a b out : Rec) (aux : Option Rec) : Chk :=
  let w := convWin d b
  let dw := d.opcode = 3
  Chk.all [actChk d out, biasChk aux out.d0, rowsChk w out, frcRowsChk d w out, s.markChk k d out,
    { illegal := badStride w.sh || badStride w.sw || badStride w.dh || badStride w.dw ||
        (!d.b 8 17 && d.f 11 7 0 != 0) || (!d.b 8 18 && d.f 11 15 8 != 0) ||
        ((isPlumb k || s.qCompat k) && (d.b 8 17 || d.b 8 18))
      fmtPair := !arrayPair d a b
      shape := b.d0 != a.d0 || (if dw then b.d3 != 1 || out.d0 != a.d0 else out.d0 != b.d3) || out.d3 != a.d3 ||
        !outDim a.d1 w.pl w.pr w.dw w.kw w.sw out.d1 || !outDim a.d2 w.pt w.pb w.dh w.kh w.sh out.d2 }]

def poolChk (d : Desc) (a out : Rec) : Chk :=
  let w := poolWin d
  Chk.all [rowsChk w out, frcRowsChk d w out,
    { illegal := badStride w.sh || badStride w.sw || w.kh = 0 || w.kw = 0
      shape := out.d0 != a.d0 || out.d3 != a.d3 || !outDim a.d1 w.pl w.pr 1 w.kw w.sw out.d1 ||
        !outDim a.d2 w.pt w.pb 1 w.kh w.sh out.d2 }]

def sameDims (a b : Rec) : Bool := a.d0 = b.d0 && a.d1 = b.d1 && a.d2 = b.d2 && a.d3 = b.d3
/-- Each dimension of `b` equals that of `a` or is 1. -/
def bcastDims (a b : Rec) : Bool :=
  (b.d0 = a.d0 || b.d0 = 1) && (b.d1 = a.d1 || b.d1 = 1) && (b.d2 = a.d2 || b.d2 = 1) && (b.d3 = a.d3 || b.d3 = 1)

def eltChk (d : Desc) (a : Rec) (b : Option Rec) (out : Rec) : Chk :=
  let op := d.f 8 3 0
  { illegal := decide (5 < op) || (op = 5 && d.names 1) || (op != 5 && !d.names 1) || (d.b 8 4 && !d.names 1)
    shape := !sameDims a out || opt b (fun b => if d.b 8 4 then !bcastDims a b else !sameDims a b) }

/-- The dimensions of `out` are those of `a` but for axis `ax`, where it has `n`. -/
def axisDims (a out : Rec) (ax n : Nat) : Bool :=
  (List.range 4).all (fun i => out.dim i = (if i = ax then n else a.dim i))

def reduceChk (d : Desc) (a out : Rec) : Chk :=
  { illegal := d.b 8 8 && d.f 8 5 4 != 0
    fmtPair := d.b 8 8 && a.fmt != .fp32
    shape := !axisDims a out (d.f 8 1 0) 1 }

def softmaxChk (d : Desc) (a out : Rec) (aux : Option Rec) : Chk :=
  { illegal := !f32Finite (d.w 9) || (f32 (d.w 9)).isZero
    shape := !sameDims a out || opt aux (fun m => !bcastDims a m) }

/-- γ in row 0 and β in row 1 of AUX (R93), one element per position of the axis (DEDUCED: log entry 21). -/
def normChk (d : Desc) (a out : Rec) (aux : Option Rec) : Chk :=
  { illegal := d.f 8 5 4 = 3 || !f32Finite (d.w 9) || (f32 (d.w 9)).isZero || (f32 (d.w 9)).sign
    shape := !sameDims a out || opt aux (fun g => g.d0 != a.dim (d.f 8 1 0) ||
      decide (g.d1 < (if d.f 8 5 4 = 1 then 1 else 2)) || g.d2 != 1 || g.d3 != 1) }

/-- GATHER and SCATTER: the indexed dimension of the other record counts the indices (DEDUCED: log entry 21). -/
def State.indexChk (s : State) (d : Desc) (a out aux : Rec) (idx : View) : Chk :=
  let ax := d.f 8 1 0
  let n := if d.opcode = 9 then a.dim ax else out.dim ax
  { bounds := !d.b 8 4 && aux.fmt = .int32 && (indices s idx).any (oob n)
    fmtPair := aux.fmt != .int32
    shape := if d.opcode = 9 then !axisDims a out ax aux.count else !axisDims out a ax aux.count }

def foldChk (d : Desc) (a out : Rec) : Chk :=
  let f := foldF d
  { illegal := decide (1 < d.f 8 1 0)
    fmtPair := a.fmt != out.fmt || a.fmt.mx
    shape := a.d3 != out.d3 ||
      (if d.opcode = 0x0C then
        a.d1 % f != 0 || a.d2 % f != 0 || out.d0 != a.d0 * f * f || out.d1 * f != a.d1 || out.d2 * f != a.d2
      else a.d0 % (f * f) != 0 || out.d0 * f * f != a.d0 || out.d1 != a.d1 * f || out.d2 != a.d2 * f) }

def tdmaChk (d : Desc) (a out : Rec) : Chk :=
  if d.b 8 0 then
    { length := d.w 9 = 0xFFFFFFFF
      align := d.w 9 % 64 != 0 || d.w 10 % 64 != 0 || d.w 11 % 64 != 0
      bounds := decide (a.extent < d.w 10 + d.w 9) || decide (out.extent < d.w 11 + d.w 9) }
  else { illegal := d.w 9 != 0 || d.w 10 != 0 || d.w 11 != 0, shape := !sameDims a out }

/-! ### COLLECTIVE (R93, R179, R181) -/

def Desc.collGroup (d : Desc) : Nat := d.f 8 15 8
def Desc.collPackages (d : Desc) : Nat := d.f 8 7 4

/-- Set bits of a 4-bit mask. -/
def popcount4 (m : Nat) : Nat := ((List.range 4).filter (fun p => bitOf m p)).length

/-- The rank of package `p` in a mask. -/
def rankOf (mask p : Nat) : Nat := ((List.range p).filter (fun q => bitOf mask q)).length

/-- The first row and the number of rows of rank `i` of `n` (R94, R181). -/
def shareStart (m n i : Nat) : Nat := i * (m / n) + min i (m % n)
def shareRows (m n i : Nat) : Nat := m / n + (if i < m % n then 1 else 0)

/-- What the group and its peers allow: `active` says whether every package has registered the group. -/
def State.collChk (s : State) (k : Nat) (d : Desc) (active : Bool) (a out : Rec) : Chk :=
  let mask := d.collPackages
  let n := popcount4 mask
  let rank := rankOf mask s.package
  let lost := (s.others mask).any (fun p => (KMap.getD s.eng.peers p {}).lost)
  let others := sameDims { a with d1 := 1 } { out with d1 := 1 }
  match s.coll d.collGroup with
  | none => { illegal := decide (n < 2) || !bitOf mask s.package, state := true, unavailable := lost }
  | some g =>
    let slot := g.size / max n 1
    { illegal := decide (n < 2) || !bitOf mask s.package
      access := g.partition != (s.qAttr k).partition
      unavailable := lost
      state := !active || g.packages != mask
      fmtPair := if d.b 8 0 then a.fmt != out.fmt else a.fmt != .fp32
      shape := !others || (if d.b 8 0 then a.d1 != shareRows out.d1 n rank else out.d1 != shareRows a.d1 n rank)
      bounds := decide (slot < (if d.b 8 0 then shareRows out.d1 n 0 else shareRows a.d1 n 0) *
        (a.d2 * a.d3 * (a.rowBytes + (if a.fmt.mx then a.d0 / 32 else 0)))) }

/-! ### PAGED_ATTN (R138) -/

/-- Bytes of K (or V) elements of a head block, scale bytes, head block and page (R129). -/
def KvPool.width (p : KvPool) : Nat := ((Fmt.ofCode p.fmt).getD .int8).bits
def KvPool.isMx (p : KvPool) : Bool := ((Fmt.ofCode p.fmt).getD .int8).mx
def KvPool.kd (p : KvPool) : Nat := 2 * p.headDim * p.width
def KvPool.ks (p : KvPool) : Nat := if p.isMx then p.headDim / 2 else 0
def KvPool.hb (p : KvPool) : Nat := ceilDiv (p.kd * 2 + p.ks * 2) 64 * 64
def KvPool.pageBytes (p : KvPool) : Nat := p.headsKv * p.hb

def State.pool (s : State) (i : Nat) : Option KvPool := KMap.find s.eng.pools i

/-- The record of the new K and V (R131, R138). -/
def State.newKvRec (s : State) (k : Nat) (row : SeqRow) : Rec := readRec s (ttAddr (s.get (qTtBase k)) row.newKv)

/-- The row of a PAGED_ATTN is RUNNING in an open step whose QUEUE and JOB match the descriptor. -/
def State.inStep (s : State) (k : Nat) (d : Desc) (row : SeqRow) : Bool :=
  row.state = 2 && row.queue = k &&
  (match KMap.find s.eng.steps row.pool with
    | some st => st.served.contains (d.f 8 11 0) && st.queue = k && st.job = d.job
    | none => false)

/-- The checks of PAGED_ATTN (R138); NEWKV, which the row names, is checked as a record (R90). That "ACC32 would be needed"
never arises: no field of the command asks for it, and every allowed pair may accumulate in FP32 (R78) (DEDUCED: log entry
21). -/
def State.attnChk (s : State) (k : Nat) (d : Desc) (a out : Rec) : Chk :=
  let row := s.row (d.f 8 11 0)
  let hq := d.f 9 7 0
  let hkv := d.f 9 15 8
  let hd := d.f 9 31 16
  let qt := d.f 10 15 0
  let basic : Chk :=
    { illegal := hd % 32 != 0 || decide (hd < 32) || decide (256 < hd) || s.qCompat k ||
        (hkv != 0 && hq % hkv != 0)
      length := badDim qt || hq = 0 || hq = 0xFF || hkv = 0 || hkv = 0xFF }
  match s.pool row.pool, row.state with
  | _, 0 => basic.or { state := true }
  | none, _ => basic.or { state := true }
  | some p, _ =>
    let nk := s.newKvRec k row
    (if s.get (qTtCount k) ≤ row.newKv then basic.or { bounds := true } else basic.or (s.recChk k d 4 nk)).or
      { bounds := decide (p.layers ≤ d.f 10 23 16)
        access := p.partition != (s.qAttr k).partition
        state := !s.inStep k d row
        fmtPair := !pairAllowed a.fmt ((Fmt.ofCode p.fmt).getD .int8)
        shape := hkv != p.headsKv || hd != p.headDim || qt != row.pend ||
          a.d0 != hd || a.d1 != hq || a.d2 != qt || a.d3 != 1 || out.d0 != hd || out.d1 != hq || out.d2 != qt ||
          out.d3 != 1 || nk.d0 != hd || nk.d1 != 2 * hkv || nk.d2 != row.pend || nk.d3 != p.layers ||
          nk.fmtCode != p.fmt || decide (hkv < (clusterList d.clusters).length) }

/-! ### The optimiser table (R149) -/

/-- An entry of the optimiser table. -/
structure Group where
  w : Nat
  m : Nat
  v : Nat
  g : Nat
  wc : Nat
  count : Nat
  lr : Nat
  beta1 : Nat
  beta2 : Nat
  eps : Nat
  lambda : Nat
  deriving DecidableEq, Repr

/-- Entry `i` of the table of an arena. -/
def State.trainGroup (s : State) (arena i : Nat) : Group :=
  let a := arena + 0x100 + 64 * i
  let w := fun o => s.rdLe (a + o) 4
  ⟨bitsOf (w 0) 11 0, bitsOf (w 0) 27 16, bitsOf (w 4) 11 0, bitsOf (w 4) 27 16, bitsOf (w 8) 11 0, w 0xC,
   w 0x10, w 0x14, w 0x18, w 0x1C, w 0x20⟩

def State.trainGroups (s : State) (arena : Nat) : List Group :=
  (List.range (s.rdLe (arena + 2) 2)).map (s.trainGroup arena)

/-- The records that the pass writes, and all that it names. -/
def Group.written (g : Group) : List Nat := [g.w, g.m, g.v] ++ (if g.wc = 0xFFF then [] else [g.wc])
def Group.handles (g : Group) : List Nat := g.written ++ [g.g]

/-- A descriptor that names no cluster and no tile: that of a COMMIT. -/
def commitDesc : Desc := ⟨0, [0x11]⟩

/-- The checks of the records that an entry names, as those of a command that is no FRC place and selects no tile (R90, R91,
R101, R108, R142). -/
def State.groupRecChk (s : State) (k : Nat) (g : Group) : Chk :=
  Chk.all (g.handles.map (fun h =>
    if s.get (qTtCount k) ≤ h then { bounds := true }
    else
      let r := readRec s (ttAddr (s.get (qTtBase k)) h)
      (s.recChk k commitDesc 4 r).or { illegal := g.written.contains h && !r.stage }))

/-- The groups of a training queue. -/
def State.optGroups (s : State) (k : Nat) : List Group :=
  match s.training k with
  | some t => s.trainGroups t.arena
  | none => []

/-- The COMMIT of a training queue: the records that its optimiser pass names. -/
def State.commitChk (s : State) (k : Nat) : Chk := Chk.all ((s.optGroups k).map (s.groupRecChk k))

/-! ### FENCE -/

/-- The queue that a FENCE names. -/
def fenceKey (k : Nat) (d : Desc) : Nat := if isPlumb k then 256 + d.f 8 7 0 else d.f 8 7 0

def State.fenceChk (s : State) (k : Nat) (d : Desc) : Chk :=
  if isPlumb k ∧ 8 ≤ d.f 8 7 0 then { illegal := true }
  else { access := s.qAttr (fenceKey k d) != s.qAttr k }

/-! ## The whole decode -/

/-- The opcodes of a Plumb queue (R190). -/
def plumbOp (d : Desc) : Bool :=
  (d.opcode = 1 && !d.part) || (2 ≤ d.opcode && d.opcode ≤ 9) || d.opcode = 0x0E || noTensors d.opcode

/-- Checks of the queue's engine, VTE and mode (R98, R162, R165, R190); `reached`: the status of the reads of decoding. -/
def State.queueChk (s : State) (k : Nat) (d : Desc) (j : Job) (reached : Nat) : Chk :=
  let absent := !isPlumb k && (clusterList d.clusters).any (fun c =>
    !s.clusterOn c || s.bit (Reg.TEN_CL_STATUS_ISOLATED c))
  { illegal := (isPlumb k && (!plumbOp d || (!noTensors d.opcode && d.tiles != 1))) ||
      (s.qCompat k && d.opcode = 0x0F)
    bounds := reached = Code.eBounds
    access := (reached != Code.ok && reached != Code.eBounds) ||
      (match s.qVte k with
        | some v => !noTensors d.opcode &&
            (outside d.clusters (s.get (Reg.MBX_VTE_SHARE_CLUSTERS v)) || outside d.tiles (s.get (Reg.MBX_VTE_SHARE_TILES v)))
        | none => false)
    unavailable := absent
    state := d.job != j.num
    cmdBound := decide (s.fbGet 0x7010 1 * (if isPlumb k then 1200 else 1500) < d.bound) }

/-- A record of the queue's tensor table, as a span that is read under the queue's attribute (R157). -/
def State.recSpan (s : State) (k h : Nat) : Span := ⟨s.qAttr k, false, ttAddr (s.get (qTtBase k)) h, 64⟩

/-- The handles of the records that decoding reads beside A, B, OUT and AUX: NEWKV of the row that a PAGED_ATTN names. -/
def State.rowHandles (s : State) (d : Desc) : List Nat :=
  if d.opcode = 0x0B ∧ (s.row (d.f 8 11 0)).state ≠ 0 then [(s.row (d.f 8 11 0)).newKv] else []

/-- The arena's header and optimiser table, which the COMMIT of a training queue reads (R149). -/
def State.arenaSpan (s : State) (k : Nat) (d : Desc) : List Span :=
  match s.training k with
  | some t => if d.opcode = 0x11 then [⟨s.qAttr k, false, t.arena, 0x100 + 64 * s.rdLe (t.arena + 2) 2⟩] else []
  | none => []

/-- What decoding reads: the descriptor and the records within the table. Where they cannot be read the command is rejected
(DESIGN CHOICE: log entry 23). -/
def State.tableSpans (s : State) (k : Nat) (d : Desc) : List Span :=
  let hs := ((List.range 4).filter d.names).map d.handle ++ s.rowHandles d ++
    (if d.opcode = 0x11 then (s.optGroups k).flatMap Group.handles else [])
  [⟨s.qAttr k, false, s.get (qRingBase k) + 64 * d.index, 64⟩] ++ s.arenaSpan k d ++
    (hs.filter (fun h => decide (h < s.get (qTtCount k)))).map (s.recSpan k)

/-- The bank of a record that a command of the job reads: the published one, or the staged one of a JOBOUT record
already written in the job (R95). -/
def Job.inView (j : Job) (r : Rec) : View :=
  if r.jobOut && j.written.contains r.addr then r.view r.stagedBank else r.view r.pubBank

/-- Checks of the opcode on its records. -/
def State.opChk (s : State) (k : Nat) (d : Desc) (j : Job) (active : Bool) : Chk :=
  let r := s.recs k d
  match d.opcode, r.a, r.b, r.out, r.aux with
  | 0x01, some a, some b, some o, x => gemmChk d a b o x
  | 0x02, some a, some b, some o, x => s.convChk k d a b o x
  | 0x03, some a, some b, some o, x => s.convChk k d a b o x
  | 0x04, some a, _, some o, _ => poolChk d a o
  | 0x05, some a, b, some o, _ => eltChk d a b o
  | 0x06, some a, _, some o, _ => reduceChk d a o
  | 0x07, some a, _, some o, x => softmaxChk d a o x
  | 0x08, some a, _, some o, x => normChk d a o x
  | 0x09, some a, _, some o, some x => s.indexChk d a o x (j.inView x)
  | 0x0A, some a, _, some o, some x => s.indexChk d a o x (j.inView x)
  | 0x0B, some a, _, some o, _ => s.attnChk k d a o
  | 0x0C, some a, _, some o, _ => foldChk d a o
  | 0x0D, some a, _, some o, _ => foldChk d a o
  | 0x0E, some a, _, some o, _ => tdmaChk d a o
  | 0x0F, some a, _, some o, _ => s.collChk k d active a o
  | 0x10, _, _, _, _ => s.fenceChk k d
  | 0x11, _, _, _, _ => s.commitChk k
  | _, _, _, _, _ => {}

/-- The status of the decode stage of descriptor `d` of the job `j` of queue `k`, after reads with status `reached`. -/
def State.decodeCode (s : State) (k : Nat) (d : Desc) (j : Job) (active : Bool) (reached : Nat) : Nat :=
  (Chk.all [headerChk d, s.recsChk k d, s.queueChk k d j reached, s.opChk k d j active]).code

/-- The decode stage: its status, and the state with the refusals of its reads recorded. -/
def State.decodeCmd (s : State) (k : Nat) (d : Desc) (j : Job) (active : Bool) : Nat × State :=
  let (c, s) := s.reachSpans (s.tableSpans k d)
  (s.decodeCode k d j active c, s)

end Sys2Proof.Machine
end

