-- ==== Sys2Proof/Machine/Admission.lean ====
section
/-! DEFINITION. Admission of tensor and Plumb jobs (R67, R160–R165, R151, R152, R211): which job is considered in an
open window, its bound, and what its admission preempts. -/

namespace Sys2Proof.Machine
open Sys2Proof

/-! ## What keeps work from being admitted -/

/-- A partition is protected (R406). -/
def State.protected (s : State) (p : Nat) : Bool := bitOf (s.fbGet 0x4010 1) p

/-- A partition is orphaned (R399). -/
def State.orphaned (s : State) (p : Nat) : Bool := bitOf (s.get Reg.MBX_HB_ORPHAN_ORPHAN) p

/-- The safety partition after a failed injection (R215). -/
def State.injHeld (s : State) (p : Nat) : Bool :=
  p = s.saf.partition && s.bit Reg.SAF_INJ_STATUS_DONE && !s.bit Reg.SAF_INJ_STATUS_PASS

/-- Shedding step 1 holds a partition that is neither protected nor the cockpit's (R408). -/
def State.shedHeld (s : State) (p : Nat) : Bool :=
  decide (1 ≤ s.fbGet 0x4000 6) && !s.protected p && p != s.fbGet 0x4010 2

/-- Nothing new of a window's partition is admitted to queues and contexts (R215, R400, R401, R408). -/
def State.windowHeld (s : State) (w : OpenWindow) : Bool :=
  s.orphaned w.entry.partition || w.win.held || s.injHeld w.entry.partition || s.shedHeld w.entry.partition

/-- Firmware processor `n` is not running (R388, R390), or has failed for good. -/
def State.fwDown (s : State) (n : Nat) : Bool := s.get (Reg.SYS_FWD_STATUS_STATE n) != 0
def State.fwFailed (s : State) (n : Nat) : Bool := s.get (Reg.SYS_FWD_STATUS_STATE n) = 2

/-- The home scheduler of a tensor queue restarts (R156, R389), or has failed (R390). Plumb's queues are pair B's (R185),
which a lockstep mismatch stops (R185). -/
def State.homeDown (s : State) (k : Nat) : Bool :=
  if isPlumb k then bitOf s.saf.stopped 1 else s.get (Reg.SYS_FWD_STATUS_STATE (16 + k / 128)) = 1
def State.homeFailed (s : State) (k : Nat) : Bool := !isPlumb k && s.fwFailed (16 + k / 128)

/-- A unit is off: its power domain or the rail of it (R402, R403), its clock domain (R427) or the PLL that feeds it
(R429). -/
def State.unitOff (s : State) (pd clk pll : Nat) : Bool :=
  !s.powered pd || bitOf s.pmu.faulted pd || !bitOf (s.get Reg.SYS_CLK_EN_EN) clk || bitOf s.pmu.pllLost pll

/-- A tensor cluster takes no job now (R106, R107, R389, R403). -/
def State.clusterHeld (s : State) (c : Nat) : Bool :=
  !s.clusterUp c || !s.bit (Reg.TEN_CL_MEMSTAT_INIT_DONE c) || s.bit (Reg.TEN_CL_MEMSTAT_CLEARING c) ||
  s.unitOff (clusterDomain c) c (c / 8) || s.fwDown c

/-- A cluster of a TENSOR window is still cleared: admission in the window starts after the clear (R107). -/
def State.windowClears (s : State) (w : OpenWindow) : Bool :=
  (clusterList w.entry.units).any (fun c => s.bit (Reg.TEN_CL_MEMSTAT_CLEARING c))

/-- The tile clock of a cluster in MHz (R404). -/
def State.tileMhz (s : State) (c : Nat) : Nat := 600 + 150 * KMap.getD s.pmu.pointT c 6

/-- The clock of R160 for a mask of clusters. -/
def State.boundMhz (s : State) (k mask : Nat) : Nat :=
  if isPlumb k then 1200 else ((clusterList mask).map s.tileMhz).foldl min 1500

/-! ## The job considered -/

def clusterMask (ds : List Desc) : Nat := ds.foldl (fun m d => m ||| d.clusters) 0
def cplCount (ds : List Desc) : Nat := (ds.filter Desc.cpl).length

/-- OPT_CYCLES of the arena's header (R149). -/
def State.optCycles (s : State) (k : Nat) : Nat :=
  match s.training k with
  | some t => s.rdLe (t.arena + 4) 4
  | none => 0

/-- The bound b of R160 in ns. -/
def State.jobBound (s : State) (k : Nat) (ds : List Desc) : Nat :=
  ceilDiv (((ds.map Desc.bound).foldl (· + ·) 0 + s.optCycles k) * 1000) (s.boundMhz k (clusterMask ds))

/-- Free slots of the completion ring. -/
def State.cplFree (s : State) (k : Nat) : Nat :=
  let n := s.qCplSlots k
  (s.get (qCplRptr k) + n - s.get (qCplWptr k) - 1) % n

/-- The group of a job's COLLECTIVE command. -/
def collOf (ds : List Desc) : Option Nat := (ds.find? (fun d => d.opcode = 0x0F)).map Desc.collGroup

/-! ### Compatibility mode (R165) -/

/-- A live-table entry: POINT, COUNT and LIST of slot `i`. -/
structure Live where
  point : Bool
  count : Nat
  list : Nat
  clean : Bool
  deriving DecidableEq, Repr

def State.live (s : State) (k i : Nat) : Live :=
  let a := s.get (Reg.MBX_QC_LIVE_BASE_BASE k) + 16 * i
  let w := s.rdLe a 4
  ⟨bitOf w 0, bitsOf w 31 16, s.rdLe (a + 8) 6, bitsOf w 15 1 = 0 && s.rdLe (a + 4) 4 = 0 && s.rdLe (a + 14) 2 = 0⟩

/-- The range records of an entry: tile, first line, lines. -/
def State.ranges (s : State) (l : Live) : List (Nat × Nat × Nat) :=
  (List.range l.count).map (fun i =>
    let w := s.rdLe (l.list + 8 * i) 8
    (bitsOf w 6 0, bitsOf w 22 8, bitsOf w 47 32))

/-- Bits of the range records outside their fields. -/
def State.rangesClean (s : State) (l : Live) : Bool :=
  (List.range l.count).all (fun i => !outside (s.rdLe (l.list + 8 * i) 8) 0x0000FFFF007FFF7F)

/-- A tile within the share of the queue's VTE, if it has one. -/
def State.tileShared (s : State) (k t : Nat) : Bool :=
  match s.qVte k with
  | some v => bitOf (s.get (Reg.MBX_VTE_SHARE_CLUSTERS v)) (t / 8) && bitOf (s.get (Reg.MBX_VTE_SHARE_TILES v)) (t % 8)
  | none => true

/-- BOUND_CYCLES of the commands from one POINT slot to the next: the longest such run. What follows the last POINT slot of
the job lies between no two of them. -/
def State.pointSpacing (s : State) (k : Nat) : List Desc → Nat → Nat
  | [], _ => 0
  | d :: ds, run =>
    if (s.live k d.index).point then max run (s.pointSpacing k ds d.bound) else s.pointSpacing k ds (run + d.bound)

/-- The live entries of a job and their range lists, as spans that the home scheduler reads under the queue's attribute (R30). -/
def State.liveSpans (s : State) (k : Nat) (ds : List Desc) : List Span :=
  ds.map (fun d => ⟨s.qAttr k, false, s.get (Reg.MBX_QC_LIVE_BASE_BASE k) + 16 * d.index, 16⟩)
def State.listSpans (s : State) (k : Nat) (ds : List Desc) : List Span :=
  ds.map (fun d => let l := s.live k d.index; ⟨s.qAttr k, false, l.list, 8 * l.count⟩)

/-- Bytes of an entry's ranges in the save area. -/
def rangeBytes (rs : List (Nat × Nat × Nat)) : Nat := (rs.map (fun r => r.2.2 * 64)).foldl (· + ·) 0

/-- The checks on the live entries of a compatibility-mode job, in the order of R25; `reached`: its tables can be read. -/
def State.compatCode (s : State) (k : Nat) (ds : List Desc) (reached : Bool) : Nat :=
  let ls := ds.map (fun d => s.live k d.index)
  let anyRange := fun (f : Nat × Nat × Nat → Bool) => ls.any (fun l => (s.ranges l).any f)
  firstCode
    [(ls.any (fun l => !l.clean || !s.rangesClean l || (decide (4095 < l.count) && l.count != 0xFFFF)) ||
        anyRange (fun r => decide (32768 < r.2.2) && r.2.2 != 0xFFFF) || !(ls.head?.map Live.point).getD true, Code.eIllegal),
     (ls.any (fun l => l.count = 0xFFFF) || anyRange (fun r => r.2.2 = 0 || r.2.2 = 0xFFFF), Code.eLength),
     (ls.any (fun l => l.count != 0 && l.list % 8 != 0), Code.eAlign),
     (ls.any (fun l => decide (s.get (Reg.MBX_QC_SAVE_SIZE_SIZE k) < rangeBytes (s.ranges l))) ||
        anyRange (fun r => decide (32768 < r.2.1 + r.2.2)), Code.eBounds),
     (!reached || anyRange (fun r => !s.tileShared k r.1), Code.eAccess),
     (anyRange (fun r => !s.clusterOn (r.1 / 8)), Code.eUnavailable),
     (decide (s.fbGet 0x7010 2 * 1500 < s.pointSpacing k ds 0), Code.eCmdBound)]

/-- The admission checks of a compatibility-mode job (R165): the live table is read first, then the range lists that its
entries name. -/
def State.compatChk (s : State) (k : Nat) (ds : List Desc) : Nat × State :=
  match s.reachSpans (s.liveSpans k ds) with
  | (0, s) =>
    let c := s.compatCode k ds true
    if c ≠ Code.ok then (c, s)
    else match s.reachSpans (s.listSpans k ds) with
      | (0, s) => (Code.ok, s)
      | (_, s) => (s.compatCode k ds false, s)
  | (c, s) => (c, s)

/-! ### Benchmark queues (R210–R212) -/

/-- The sets that queue `k` runs. -/
def State.benchSetsOf (s : State) (k : Nat) : List Nat :=
  if isPlumb k then s.benchSetsWith 1 10 8 (qNum k) else s.benchSetsWith 1 7 0 k

/-- The Benchmark of set `b`, while its batch is present: its pipeline's set in turn has been injected. In SAFE Benchmark
frames have stopped (R205). -/
def State.presentBench (s : State) (b : Nat) : Option Bench :=
  let p := s.benchSet b 0 4 0
  let bn := s.benchAt p
  if bn.injected && s.turnSet p = some b && s.get Reg.SAF_STATE_STATE != 3 then some bn else none

/-- The queue runs an urgent Benchmark. -/
def State.urgentQueue (s : State) (k : Nat) : Bool :=
  (s.benchSetsOf k).any (fun b => match s.presentBench b with | some bn => bn.urgent | none => false)

/-- A window serves a queue: Benchmark sub-windows serve Benchmark queues while their batch is present; an urgent
Benchmark may also use the partition's other windows (R211, R212). -/
def State.windowServes (s : State) (k : Nat) (w : OpenWindow) : Bool :=
  match s.benchSetsOf k with
  | [] => !w.entry.benchmark
  | l => l.any (fun b => match s.presentBench b with | some bn => w.entry.benchmark || bn.urgent | none => false)

/-! ## Admission -/

/-- Two commands use a common tile. -/
def tilesMeet (a b : Desc) : Bool := (a.clusters &&& b.clusters) != 0 && (a.tiles &&& b.tiles) != 0

/-- A command in the run stage uses a tile of `d`: the tiles that it names, or, for a COMMIT, those of the clusters that its
optimiser pass occupies (R150). -/
def Cmd.meets (c : Cmd) (d : Desc) : Bool := tilesMeet c.desc d || (c.mask &&& d.clusters) != 0

/-- A request of queue `k` to preempt the running command of queue `q` (R163): a native command is killed, a compatibility
queue stops at its next POINT slot (R165); both go on once the job of `k` has left their tiles (R164). -/
def State.preemptRequest (s : State) (k q : Nat) : State :=
  match s.job q with
  | none => s
  | some j =>
    let j := { j with behind := k :: j.behind }
    if s.qCompat q then s.setJob q { j with preempt := true } else (s.setJob q j).preemptOwn q

/-- A queue named by a valid Closure record: its jobs are those of a safety pipeline. -/
def State.closureQueue (s : State) (k : Nat) : Bool :=
  s.cloRecords.any (fun r => s.cloKind r = 0 &&
    (if isPlumb k then s.clo r 2 2 0 = qNum k else s.clo r 1 7 0 = k))

/-- An admitted job preempts running commands of lower PRIO on its tiles (R163); an urgent Benchmark's spares the jobs of
safety pipelines (R212). -/
def State.preemptFor (s : State) (k prio : Nat) (ds : List Desc) : State :=
  (s.eng.cmds.filter (fun p => p.1 != k && isPlumb p.1 = isPlumb k && ds.any p.2.meets &&
    (match s.job p.1 with | some j => decide (j.prio < prio) | none => false) &&
    !(s.urgentQueue k && s.closureQueue p.1))).foldl
    (fun s p => s.preemptRequest k p.1) s

/-- The job at RPTR is admitted. One that belongs with a de-fused job (R124) starts in barrier mode (R125). -/
def State.admitJob (s : State) (k : Nat) (ds : List Desc) (b : Nat) (w : OpenWindow) : State :=
  let prio := s.get (qPrioF k)
  let first := (ds.head?.map Desc.index).getD 0
  let num := (ds.head?.map Desc.job).getD 0
  let s := s.setJob k { first := first, num := num, start := s.datum, bound := b, projEnd := s.datum + b,
                        window := w.index, clusters := clusterMask ds, prio := prio, group := collOf ds,
                        posts := (ds.filter Desc.posts).map Desc.postMark, waits := (ds.filter Desc.waits).map Desc.waitMark }
  let fused := (s.linkedQueues k).any (fun q => match s.job q with | some j => j.barrier | none => false)
  let s := match s.job k with
    | some j => s.setJob k { j with barrier := fused }
    | none => s
  (s.set (qAdmitted k) 1).preemptFor k prio ds

/-- The admitted work of a window that an urgent Benchmark may preempt, the lowest PRIO first: never a job of a safety
pipeline (R212). -/
def State.urgentVictims (s : State) (k w : Nat) : List Nat :=
  let js := s.eng.jobs.filter (fun p => p.1 != k && isPlumb p.1 = isPlumb k && p.2.window = w && !s.closureQueue p.1)
  (List.range 8).flatMap (fun prio => (js.filter (fun p => p.2.prio = prio)).map Prod.fst)

/-- As many of them as an urgent Benchmark's job of bound `b` needs to preempt for room; none where all are not enough. -/
def State.urgentRoom (s : State) (k mask b : Nat) (w : OpenWindow) : List Nat → List Nat → Option (List Nat)
  | [], _ => none
  | v :: vs, chosen =>
    let chosen := v :: chosen
    if verdict (s.admitNow (k :: chosen) (isPlumb k) mask (s.get (qPrioF k)) w.index) b false w = .admitted then some chosen
    else s.urgentRoom k mask b w vs chosen

/-- The stream is rejected at admission (R67): its job record carries the code. -/
def State.rejectStream (s : State) (k : Nat) (ds : List Desc) (code : Nat) : State :=
  match ds with
  | [] => s
  | d :: _ =>
    let j : Job := { first := d.index, num := d.job, start := s.datum, bound := 0, projEnd := 0, window := 0,
                     clusters := 0, prio := 0 }
    (s.fbInc 0x6020 5).endJob k j code d 0 0 0

/-- The home scheduler has failed: the job ends with E_UNAVAILABLE (R390). -/
def State.refuseStream (s : State) (k : Nat) : List Desc → State
  | [] => s
  | d :: _ => s.endJob k { first := d.index, num := d.job, start := s.datum, bound := 0, projEnd := 0, window := 0,
                           clusters := 0, prio := 0 } Code.eUnavailable d 0 0 0

def State.deferred (s : State) : State := s.fbInc 0x6020 4

/-- The queue may have a job considered at all. -/
def State.queueReady (s : State) (k : Nat) (w : OpenWindow) : Bool :=
  s.bit (qEn k) && !s.bit (qStopped k) && (s.job k).isNone && !s.vteFreezing k &&
  s.get (qPartF k) = w.entry.partition && qResource k = w.entry.resource && !(isPlumb k && s.eng.plumbDead) &&
  !s.orphaned w.entry.partition && !w.win.held && !s.injHeld w.entry.partition &&
  (!s.shedHeld w.entry.partition || (s.training k).isSome) && !s.homeDown k &&
  s.windowServes k w && s.get (qRptr k) != s.get (qWptr k)

/-- A training job waits for its session and its checkpoint (R151, R152). -/
def State.trainingWaits (s : State) (k : Nat) : Bool :=
  match s.training k with
  | some t => s.session != 1 || t.ckpt != t.step
  | none => false

/-- The submitted slots that the home scheduler reads to find the job at RPTR: up to its COMMIT, or all of them. -/
def State.scanSpans (s : State) (k : Nat) : List Span :=
  let slots := match s.jobAtRptr k with
    | some ds => ds.map Desc.index
    | none => s.slotsFrom k (s.get (qRptr k))
  slots.map (fun i => ⟨s.qAttr k, false, s.get (qRingBase k) + 64 * i, 64⟩)

/-- A job whose descriptors have been read is considered in window `w` (R160, R67). -/
def State.considerJob (s : State) (k : Nat) (ds : List Desc) (w : OpenWindow) : State :=
  let mask := clusterMask ds
  if s.homeFailed k then s.refuseStream k ds
  else if outside mask w.entry.units || (!isPlumb k && ((clusterList mask).any s.clusterHeld || s.windowClears w)) then s
  else if s.cplFree k < 2 * (cplCount ds + 1) then s.deferred
  else if s.trainingWaits k then s.deferred
  else if (collOf ds).isSome && !s.bit Reg.MER_STATUS_ALIGNED then s.deferred
  else
    let (cc, s) := if s.qCompat k then s.compatChk k ds else (Code.ok, s)
    if cc ≠ Code.ok then s.rejectStream k ds cc
    else
      let b := s.jobBound k ds
      match verdict (s.admitNow [k] (isPlumb k) mask (s.get (qPrioF k)) w.index) b false w with
      | .admitted => s.admitJob k ds b w
      | .reject => s.rejectStream k ds Code.eBounds
      | _ =>
        if s.urgentQueue k then
          match s.urgentRoom k mask b w (s.urgentVictims k w.index) [] with
          | some qs => (qs.foldl (fun s q => s.preemptRequest k q) s).admitJob k ds b w
          | none => s.deferred
        else s.deferred

/-- The job at RPTR of queue `k` is considered in window `w` (R160). The ring is read under the queue's attribute (R157);
where that is refused, no COMMIT is seen before WPTR and the job is deferred (DESIGN CHOICE: log entry 23). -/
def State.consider (s : State) (k : Nat) (w : OpenWindow) : State :=
  if !s.queueReady k w then s
  else
    match s.reachSpans (s.scanSpans k) with
    | (0, s) =>
      (match s.jobAtRptr k with
        | none => s.deferred
        | some ds => s.considerJob k ds w)
    | (_, s) => s.deferred

/-- Queues of an engine by descending PRIO, then ascending number. -/
def State.queueOrder (s : State) (plumb : Bool) : List Nat :=
  let ks := (if plumb then (List.range 8).map (· + 256) else List.range 256).filter (fun k => s.bit (qEn k))
  [7, 6, 5, 4, 3, 2, 1, 0].flatMap (fun p => ks.filter (fun k => s.get (qPrioF k) = p))

/-- The job of queue `k` is considered in window number `w`, if that is open; the flag says that a stream has ended. -/
def State.considerIn (s : State) (w k : Nat) : State × Bool :=
  match s.openWindows.find? (fun x => x.index = w) with
  | some w =>
    let t := s.consider k w
    (t, t.get (qRptr k) != s.get (qRptr k))
  | none => (s, false)

/-- Admission in one open window. -/
def State.admitWindow (s : State) (w : OpenWindow) : State × Bool :=
  if w.entry.resource = 0 ∨ w.entry.resource = 1 then
    (s.queueOrder (w.entry.resource = 1)).foldl (fun p k =>
      let q := p.1.considerIn w.index k
      (q.1, p.2 || q.2)) (s, false)
  else (s, false)

/-- One pass over the open TENSOR and PLUMB windows. -/
def State.admitPass (s : State) : State × Bool :=
  s.openWindows.foldl (fun p w => let q := p.1.admitWindow w; (q.1, p.2 || q.2)) (s, false)

/-- Passes as long as a rejection completes a stream: a completion is a point of R67, too. -/
def State.admitLoop : Nat → State → State
  | 0, s => s
  | n + 1, s => let p := s.admitPass; if p.2 then p.1.admitLoop n else p.1

/-- Admission wherever R67 applies. Each further pass needs a stream of a ring slot: 264 queues of fewer than 2^16. -/
def State.admitJobs (s : State) : State := s.admitLoop 17301504

/-- What has happened since `before` may have ended a job: its completion is a point of R67. -/
def State.readmit (s before : State) : State :=
  if before.eng.jobs.any (fun p => (s.job p.1).isNone) then s.admitJobs else s

end Sys2Proof.Machine
end

