-- ==== Sys2Proof/Machine/Attention.lean ====
section
/-! DEFINITION. Attention (R129, R130, R134, R137–R142): the append of new K and V to the pages of a sequence, the
page walk with its emitted descriptors and the KV cache, and the attention values. -/

namespace Sys2Proof.Machine
open Sys2Proof

/-- The pool page of logical page `i` of layer `l` of a row. -/
def SeqRow.page (r : SeqRow) (p : KvPool) (l i : Nat) : Nat := (KMap.getD r.pt (l * p.ptPages + i) (false, 0)).2

/-- The address of head block `h` of a page. -/
def KvPool.headAddr (p : KvPool) (page h : Nat) : Nat := p.base + page * p.pageBytes + h * p.hb

/-- The attribute of the pool's areas (R128). -/
def KvPool.attr (p : KvPool) : Attr := ⟨p.secure, p.partition⟩

/-- A K (v = false) or V element of a token position (R129, R133). -/
def State.kvValue (s : State) (p : KvPool) (r : SeqRow) (l : Nat) (v : Bool) (h pos d : Nat) : FV :=
  let f := (Fmt.ofCode p.fmt).getD .int8
  let a := p.headAddr (r.page p l (pos / 16)) h + (if v then p.kd else 0)
  let t := pos % 16
  let e := t * p.headDim + d
  let code := match f.bits with
    | 4 => (s.rdLe (a + e / 2) 1) / 16 ^ (e % 2) % 16
    | 6 => (s.rdLe (a + e / 4 * 3) 3) / 64 ^ (e % 4) % 64
    | b => s.rdLe (a + e * (b / 8)) (b / 8)
  let sc := if f.mx then
      s.rdLe (p.headAddr (r.page p l (pos / 16)) h + 2 * p.kd + (if v then p.ks else 0) + t * p.headDim / 32 + d / 32) 1
    else 0x7F
  f.scaledValue code sc

/-- The bytes of one head vector of the new K and V record, and of its scales (R138). -/
def State.newHead (s : State) (v : View) (h n l : Nat) : List Nat × List Nat :=
  (s.rd (v.rowAddr h n l) v.r.rowBytes,
   if v.r.fmt.mx then s.rd (v.sbase + ((l * v.r.d2 + n) * v.r.d1 + h) * v.r.d0 / 32) (v.r.d0 / 32) else [])

/-- New token `n` of layer `l` is appended for KV head `h` (R134). -/
def State.appendHead (s : State) (p : KvPool) (r : SeqRow) (v : View) (l h n : Nat) : State :=
  let pos := r.len + n
  let a := p.headAddr (r.page p l (pos / 16)) h
  let t := pos % 16
  let rowB := p.headDim * p.width / 8
  let (kb, ks) := s.newHead v h n l
  let (vb, vs) := s.newHead v (p.headsKv + h) n l
  let s := (s.wr (a + t * rowB) kb).wr (a + p.kd + t * rowB) vb
  (s.wr (a + 2 * p.kd + t * p.headDim / 32) ks).wr (a + 2 * p.kd + p.ks + t * p.headDim / 32) vs

/-- Every new token of the layer is appended. -/
def State.appendAll (s : State) (p : KvPool) (r : SeqRow) (v : View) (l : Nat) : State :=
  (List.range r.pend).foldl (fun s n =>
    (List.range p.headsKv).foldl (fun s h => s.appendHead p r v l h n) s) s

/-! ## The page stream (R140–R142) -/

/-- The most recently used lines that fit. -/
def fitLines : Nat → List KvLine → List KvLine
  | _, [] => []
  | cap, l :: ls => if l.size ≤ cap then l :: fitLines (cap - l.size) ls else []

/-- A fetch looks its segment up in the cache and fills it (R142). -/
def State.kvFetch (s : State) (c : Nat) (line : KvLine) : State :=
  if s.kvCapacity c = 0 then s.set (Reg.TEN_KV_STAT_MISS c) (satAdd 16 (s.get (Reg.TEN_KV_STAT_MISS c)) 1)
  else
    let old := KMap.getD s.eng.kvLines c []
    let s := if old.contains line then s.inc (Reg.TEN_KV_STAT_HIT c) else s.inc (Reg.TEN_KV_STAT_MISS c)
    let ls := fitLines (s.kvCapacity c) (line :: old.filter (· != line))
    { s with eng := { s.eng with kvLines := KMap.put s.eng.kvLines c ls } }

/-- What a command's page stream depends on (R140): the row, the page-table entries of its LAYER, and the command's words. -/
structure PageStream where
  d : Desc
  row : SeqRow
  pool : KvPool
  newKv : View

def PageStream.layer (x : PageStream) : Nat := x.d.f 10 23 16
def PageStream.tokens (x : PageStream) : Nat := x.row.len + x.row.pend

/-- The page of logical page `i`. -/
def PageStream.page (x : PageStream) (i : Nat) : Nat := x.row.page x.pool x.layer i

/-- The inputs of the stream, as numbers. -/
def PageStream.key (x : PageStream) : List Nat :=
  x.row.bytes ++ (List.range (ceilDiv x.tokens 16)).map x.page ++ x.d.ws

/-- The receiving tiles: some of the command's TILES, the cluster controller's choice. -/
def PageStream.tiles (x : PageStream) (c lp : Nat) (append : Bool) : Nat :=
  let t := Config.pageTiles (x.key ++ [c, lp, b2n append]) &&& x.d.tiles
  if t = 0 then x.d.tiles else t

/-- DST: for an append whose NEWKV record lies in tile memory the offset of its first source row; else the offset of a buffer that
the cluster controller chooses. -/
def PageStream.dst (x : PageStream) (c lp : Nat) (append : Bool) (head0 token : Nat) : Nat :=
  let a := x.newKv.rowAddr head0 token x.layer
  if append && decide (0x40000000 ≤ a) && decide (a < 0x50000000) then (a - 0x40000000) % 0x200000
  else Config.pageDst (x.key ++ [c, lp, b2n append]) % 0x200000

/-- An emitted descriptor leaves as a trace point (R141). -/
def State.emitPage (s : State) (x : PageStream) (c : Nat) (append : Bool) (lp head0 heads slot0 tokens : Nat) : State :=
  let addr := x.pool.headAddr (x.page lp) head0
  s.emit (.pageDescriptor
    [0x0E + 2 ^ 10 + 2 ^ 11 * b2n append + 2 ^ 16 * lp, 2 ^ c + 2 ^ 16 * x.tiles c lp append,
     x.page lp + 2 ^ 20 * x.row.pool, head0 + 2 ^ 8 * heads + 2 ^ 16 * slot0 + 2 ^ 21 * tokens, addr % 2 ^ 32, addr / 2 ^ 32,
     heads * x.pool.hb, x.dst c lp append head0 (16 * lp + slot0 - x.row.len), 0, 0, 0, 0, 0, 0, 0, 0])

/-- The stream of one cluster: appends by ascending page, then fetches of every page of the context. -/
def State.pageStream (s : State) (x : PageStream) (c head0 heads : Nat) : State :=
  let last := x.tokens
  let firstPage := x.row.len / 16
  let s := (List.range (ceilDiv last 16 - firstPage)).foldl (fun s i =>
    let lp := firstPage + i
    let slot0 := max x.row.len (16 * lp) - 16 * lp
    let stop := min last (16 * (lp + 1)) - 16 * lp
    s.emitPage x c true lp head0 heads slot0 (stop - slot0)) s
  (List.range (ceilDiv last 16)).foldl (fun s lp =>
    let s := s.emitPage x c false lp head0 heads 0 (min 16 (last - 16 * lp))
    s.kvFetch c ⟨x.row.pool, x.page lp, head0, heads, heads * x.pool.hb⟩) s

/-- The streams of every cluster of the mask (R137). -/
def State.pageStreams (s : State) (x : PageStream) : State :=
  let cs := clusterList x.d.clusters
  let n := cs.length
  (List.range n).foldl (fun s i =>
    s.pageStream x (nthNat cs i) (shareStart x.pool.headsKv n i) (shareRows x.pool.headsKv n i)) s

/-! ## Attention values (R139) -/

/-- P in the pool's FMT if that is FP16 or BF16, else in MXFP8 E4M3 by blocks of 32 positions. -/
def convertP (f : Fmt) : Nat → List FX → List FX
  | 0, _ => []
  | n + 1, ps =>
    if ps.isEmpty then []
    else if f.half then
      (ps.map (fun x => let (c, fl) := toCode f x; (⟨f.value c, fl⟩ : FX)))
    else
      let (sc, cs, fl) := toMxBlock .mxE4M3 (ps.take 32)
      (cs.map (fun c => (⟨Fmt.mxE4M3.scaledValue c sc, fl⟩ : FX))) ++ convertP f n (ps.drop 32)

/-- Positions of the context of new token `n`. -/
def contextLen (causal : Bool) (r : SeqRow) (n : Nat) : Nat := if causal then r.len + n + 1 else r.len + r.pend

/-- P for query head `h` and new token `n`. -/
def State.attnP (s : State) (d : Desc) (a : View) (p : KvPool) (r : SeqRow) (h n : Nat) : List FX :=
  let l := d.f 10 23 16
  let kvh := h * p.headsKv / d.f 9 7 0
  let xs := (List.range (contextLen (d.b 12 0) r n)).map (fun pos =>
    let ps := (List.range p.headDim).map (fun i => (a.at s i h n 0).mulExact (s.kvValue p r l false kvh pos i))
    (dotProducts false ps).mul (fxc (d.w 11)))
  let soft := softmaxVec false xs
  convertP ((Fmt.ofCode p.fmt).getD .int8) soft.length soft

/-- The output rows of PAGED_ATTN. -/
def State.attnRows (s : State) (d : Desc) (a : View) (p : KvPool) (r : SeqRow) (out : Rec) : List RowOut :=
  let l := d.f 10 23 16
  (rowIndices out.d1 out.d2 1).map (fun (h, n, _) =>
    let ps := s.attnP d a p r h n
    let fl := (ps.map FX.fl).foldl Fl.or {}
    let kvh := h * p.headsKv / d.f 9 7 0
    mkRow out.d0 h n 0 (fun i =>
      let prods := (List.range ps.length).map (fun pos => (nthFX ps pos).v.mulExact (s.kvValue p r l true kvh pos i))
      let x := dotProducts false prods
      .val ⟨x.v, x.fl.or fl⟩))

end Sys2Proof.Machine
end

