-- ==== Sys2Proof/Machine/Commands.lean ====
section
/-! DEFINITION. The run and commit stages of tensor and Plumb commands (R95, R96, R101, R121–R126, R146, R150, R165,
R178, R181), and the meanings of the opcode rows. -/

namespace Sys2Proof.Machine
open Sys2Proof

/-! ## Memory that a command reaches (R447) -/

/-- The spans of a view: its footprint and its scale bytes. -/
def View.spans (v : View) (at' : Attr) (write : Bool) : List Span :=
  [⟨at', write, v.base, v.r.footprint⟩] ++ (if v.r.fmt.mx then [⟨at', write, v.sbase, v.r.scaleFoot⟩] else [])

/-- The view that a command writes. -/
def Rec.outView (r : Rec) : View := r.view r.stagedBank

/-! ## Faults of clusters -/

/-- A fault is raised in a cluster (TEN_CL_STATUS, TEN_CL_FAULT); its ICN line follows. -/
def State.clusterFault (s : State) (tile code : Nat) : State :=
  let c := tile / 8
  ((s.set (Reg.TEN_CL_STATUS_FAULT c) 1).set (Reg.TEN_CL_FAULT_TILE c) (tile % 8)).set (Reg.TEN_CL_FAULT_CODE c) code

/-- The lowest tile that a descriptor selects. -/
def Desc.firstTile (d : Desc) : Nat :=
  8 * (((List.range 16).find? (fun c => bitOf d.clusters c)).getD 0) +
    ((List.range 8).find? (fun t => bitOf d.tiles t)).getD 0

/-- A data access of the command of queue `k` fails in the run stage: the job is killed (R447). -/
def State.accessKill (s : State) (k : Nat) (d : Desc) (code : Nat) : State :=
  let s := if isPlumb k then s else s.clusterFault d.firstTile code
  s.killJob k code d.firstTile 0

/-! ## Row marks of a running command (R94, R121, R123) -/

/-- The stripes of a descriptor, one per cluster (R94). -/
def stripesOf (d : Desc) (row0 rows : Nat) : KMap Stripe :=
  let cs := clusterList d.clusters
  let n := cs.length
  (List.range n).foldl (fun m i =>
    let a := row0 + shareStart rows n i
    KMap.put m (nthNat cs i) { first := a, limit := a + shareRows rows n i }) []

/-- The row computed after `i` rows of a stripe: lead rows first where the command posts a mark (R121). -/
def Stripe.rowAt (st : Stripe) (lead i : Nat) : Nat :=
  let l := min lead (st.limit - st.first)
  if i < l then st.limit - l + i else st.first + (i - l)

/-! ## Running -/

/-- The command enters the run stage. -/
def State.startCmd (s : State) (k : Nat) (d : Desc) (c : Cmd) : State :=
  (s.setCmd k { c with index := d.index, ws := d.ws, start := s.datum }).refreshRunning

/-- The bytes that a command which works in place on a JOBOUT record of its job replaces. -/
def State.undoOf (s : State) (k : Nat) (r : Rec) : List (Nat × List Nat) :=
  match s.job k with
  | some j =>
    if j.written.contains r.addr then
      let v := r.outView
      [(v.base, s.rd v.base r.footprint), (v.sbase, s.rd v.sbase r.scaleFoot)]
    else []
  | none => []

/-- Output rows are written to the staged bank of OUT; `sts`: the stripes that the clusters compute. -/
def State.runRows (s : State) (k : Nat) (d : Desc) (out : Rec) (rows : List RowOut) (sts : KMap Stripe := []) : State :=
  let undo := s.undoOf k out
  let (s, fl) := s.writeRows out.outView rows
  s.startCmd k d { index := 0, ws := [], outs := [out.addr], fl := fl, undo := undo, stripes := sts }

/-- Inputs are read and the output written as one run, if every byte can be reached. -/
def State.runOp (s : State) (k : Nat) (d : Desc) (ins : List View) (out : Rec) (rows : List RowOut) (sts : KMap Stripe := []) :
    State :=
  let at' := s.qAttr k
  match s.reachSpans (ins.flatMap (fun v => v.spans at' false) ++ out.outView.spans at' true) with
  | (0, s) => s.runRows k d out rows sts
  | (c, s) => s.accessKill k d c

/-- Stripes whose rows have all been computed. -/
def computedStripes (sts : KMap Stripe) : KMap Stripe := sts.map (fun p => (p.1, { p.2 with computed := p.2.limit - p.2.first }))

/-- CONV or DWCONV. A consumer computes its rows one by one as their inputs become ready (R123), a producer of a mark those of
a stripe once it has armed the copy (R121); any other computes its stripes at once. -/
def State.runConv (s : State) (k : Nat) (d : Desc) (a b : View) (aux : Option View) (out : Rec) : State :=
  let w := convWin d b.r
  let at' := s.qAttr k
  let ins := if d.waits then [b] ++ aux.toList else [a, b] ++ aux.toList
  let sts := stripesOf d w.row0 w.rows
  if d.waits || d.posts then
    match s.reachSpans (ins.flatMap (fun v => v.spans at' false) ++ out.outView.spans at' true) with
    | (0, s) => s.startCmd k d { index := 0, ws := [], outs := [out.addr], rowWise := d.waits, stripes := sts, undo := s.undoOf k out }
    | (c, s) => s.accessKill k d c
  else s.runOp k d ins out (convRows s d a b aux out) (computedStripes sts)

/-- TDMA with RAW = 1 copies bytes (R93). -/
def State.runRaw (s : State) (k : Nat) (d : Desc) (a : View) (out : Rec) : State :=
  let at' := s.qAttr k
  let len := d.w 9
  match s.reachSpans [⟨at', false, a.base + d.w 10, len⟩, ⟨at', true, out.outView.base + d.w 11, len⟩] with
  | (0, s) =>
    let undo := s.undoOf k out
    ((s.wr (out.outView.base + d.w 11) (s.rd (a.base + d.w 10) len)).undefineBank out.outView).startCmd k d
      { index := 0, ws := [], outs := [out.addr], undo := undo }
  | (c, s) => s.accessKill k d c

/-! ### PAGED_ATTN -/

/-- The spans of a row's pages of a layer. -/
def pageSpans (p : KvPool) (r : SeqRow) (l : Nat) : List Span :=
  (List.range (ceilDiv (r.len + r.pend) 16)).map (fun i =>
    ⟨p.attr, decide (r.len / 16 ≤ i), p.headAddr (r.page p l i) 0, p.pageBytes⟩)

def State.runAttn (s : State) (k : Nat) (d : Desc) (j : Job) (a : View) (out : Rec) : State :=
  let rn := d.f 8 11 0
  let r := s.row rn
  let l := d.f 10 23 16
  match s.pool r.pool with
  | none => s
  | some p =>
    let nk := j.inView (s.newKvRec k r)
    let at' := s.qAttr k
    match s.reachSpans (a.spans at' false ++ nk.spans at' false ++ out.outView.spans at' true ++ pageSpans p r l) with
    | (0, s) =>
      let s := s.appendAll p r nk l
      let s := s.pageStreams ⟨d, r, p, nk⟩
      let s := s.runRows k d out (s.attnRows d a p r out)
      match s.job k with
      | some j => s.setJob k { j with attended := (rn, l) :: j.attended }
      | none => s
    | (c, s) => s.accessKill k d c

/-! ### COLLECTIVE (R181) -/

/-- A dense area of `rows` rows of a record's shape, as a landing slot holds it (DESIGN CHOICE: log entry 25). -/
def slotView (r : Rec) (base rows : Nat) : View :=
  let rb := r.rowBytes
  { r := { r with frc := 0, d1 := rows, s1 := rb, s2 := rb * rows, s3 := rb * rows * r.d2 }, base := base,
    sbase := base + rb * rows * r.d2 * r.d3 }

/-- The bytes of rows [lo, lo + n) of a view, dense, with their scales behind. -/
def State.shareBytes (s : State) (v : View) (lo n : Nat) : List Nat :=
  let idx := rowIndices n v.r.d2 v.r.d3
  idx.flatMap (fun (i1, i2, i3) => s.rd (v.rowAddr (lo + i1) i2 i3) v.r.rowBytes) ++
    (if v.r.fmt.mx then
      idx.flatMap (fun (i1, i2, i3) => s.rd (v.sbase + ((i3 * v.r.d2 + i2) * v.r.d1 + lo + i1) * v.r.d0 / 32) (v.r.d0 / 32))
    else [])

/-- The packages of a mask in ascending order. -/
def ranks (mask : Nat) : List Nat := (List.range 4).filter (fun p => bitOf mask p)

/-- The contribution of rank `i` to this package: its landing slot, or this package's own rows. -/
def State.contribution (s : State) (g : Coll) (mask i lo n : Nat) (a : View) : View × Nat :=
  let me := rankOf mask s.package
  if i = me then (a, lo)
  else (slotView a.r (g.landing + i * (g.size / (ranks mask).length)) n, 0)

/-- The rows of a collective's output on this package. -/
def State.collRows (s : State) (d : Desc) (g : Coll) (a : View) (out : Rec) : List RowOut :=
  let mask := d.collPackages
  let n := (ranks mask).length
  let me := rankOf mask s.package
  if d.b 8 0 then
    (rowIndices out.d1 out.d2 out.d3).map (fun (i1, i2, i3) =>
      let i := ((List.range n).find? (fun i => decide (i1 < shareStart out.d1 n i + shareRows out.d1 n i))).getD 0
      let (v, lo) := s.contribution g mask i 0 (shareRows out.d1 n i) a
      let r1 := i1 - shareStart out.d1 n i + lo
      mkRow out.d0 i1 i2 i3 (fun i0 => .raw (v.code s i0 r1 i2 i3) (v.scale s i0 r1 i2 i3)))
  else
    let lo := shareStart a.r.d1 n me
    (rowIndices out.d1 out.d2 out.d3).map (fun (i1, i2, i3) =>
      mkRow out.d0 i1 i2 i3 (fun i0 =>
        .val (canonicalReduce FX.add ((List.range n).map (fun i =>
          let (v, off) := s.contribution g mask i lo (shareRows a.r.d1 n me) a
          v.fx s i0 (off + i1) i2 i3)))))

/-- This package's contributions leave for the landing slots of the others. -/
def State.collSend (s : State) (d : Desc) (g : Coll) (a : View) : State :=
  let mask := d.collPackages
  let n := (ranks mask).length
  let me := rankOf mask s.package
  (s.others mask).foldl (fun s p =>
    let i := rankOf mask p
    let data := if d.b 8 0 then s.shareBytes a 0 a.r.d1
      else s.shareBytes a (shareStart a.r.d1 n i) (shareRows a.r.d1 n i)
    s.emit (.collectiveData p d.collGroup (me * (g.size / n)) data)) s

def State.runColl (s : State) (k : Nat) (d : Desc) (a : View) (out : Rec) : State :=
  match s.coll d.collGroup with
  | none => s
  | some g =>
    let at' := s.qAttr k
    match s.reachSpans (a.spans at' false ++ out.outView.spans at' true ++ [⟨at', false, g.landing, g.size⟩]) with
    | (0, s) => (s.collSend d g a).runRows k d out (s.collRows d g a out)
    | (c, s) => s.accessKill k d c

/-! ### The optimiser pass (R149, R150) -/

/-- Every element of a view in memory order. -/
def State.allElems (s : State) (v : View) : List FX :=
  (rowIndices v.r.d1 v.r.d2 v.r.d3).flatMap (fun (i1, i2, i3) =>
    (List.range v.r.d0).map (fun i0 => v.fx s i0 i1 i2 i3))

/-- The new m, v and w of one element. -/
def adam (gr : Group) (p1 p2 : FX) (w m v g : FX) : FX × FX × FX :=
  let b1 := fxc gr.beta1
  let b2 := fxc gr.beta2
  let m := (b1.mul m).add ((fxOne.sub b1).mul g)
  let v := (b2.mul v).add ((fxOne.sub b2).mul (g.mul g))
  let mh := m.div (fxOne.sub p1)
  let vh := v.div (fxOne.sub p2)
  let w := w.sub ((fxc gr.lr).mul ((mh.div (vh.sqrt.add (fxc gr.eps))).add ((fxc gr.lambda).mul w)))
  (m, v, w)

/-- Element `e` of a view in memory order. -/
def State.elemNo (s : State) (v : View) (e : Nat) : FX :=
  v.fx s (e % v.r.d0) (e / v.r.d0 % v.r.d1) (e / v.r.d0 / v.r.d1 % v.r.d2) (e / v.r.d0 / v.r.d1 / v.r.d2)

/-- The rows of a record whose elements, in memory order, a function gives. -/
def rowsByNo (r : Rec) (f : Nat → FX) : List RowOut :=
  (rowIndices r.d1 r.d2 r.d3).map (fun (i1, i2, i3) =>
    mkRow r.d0 i1 i2 i3 (fun i0 => .val ⟨(f (((i3 * r.d2 + i2) * r.d1 + i1) * r.d0 + i0)).v, {}⟩))

/-- The record of a handle of queue `k`. -/
def State.ttRec (s : State) (k h : Nat) : Rec := readRec s (ttAddr (s.get (qTtBase k)) h)

/-- One group's pass: the staged banks of W, M, V and WC are written; the records written and the flags of WC. Element e of each
record goes with element e of the others, in memory order: only their counts need agree (R149). -/
def State.optGroup (s : State) (k : Nat) (j : Job) (p1 p2 : FX) (gr : Group) : State × List Nat × Fl :=
  let rw := s.ttRec k gr.w
  let rm := s.ttRec k gr.m
  let rv := s.ttRec k gr.v
  let rg := s.ttRec k gr.g
  let step := fun (e : Nat) =>
    adam gr p1 p2 (s.elemNo (rw.view rw.pubBank) e) (s.elemNo (rm.view rm.pubBank) e) (s.elemNo (rv.view rv.pubBank) e)
      (s.elemNo (j.inView rg) e)
  let rowsW := rowsByNo rw (fun e => (step e).2.2)
  let rowsM := rowsByNo rm (fun e => (step e).1)
  let rowsV := rowsByNo rv (fun e => (step e).2.1)
  let rc := s.ttRec k gr.wc
  let rowsC := rowsByNo rc (fun e => (step e).2.2)
  let (s, _) := s.writeRows rm.outView rowsM
  let (s, _) := s.writeRows rv.outView rowsV
  let (s, _) := s.writeRows rw.outView rowsW
  if gr.wc = 0xFFF then (s, [rw.addr, rm.addr, rv.addr], {})
  else
    let (s, fl) := s.writeRows rc.outView rowsC
    (s, [rw.addr, rm.addr, rv.addr, rc.addr], fl)

/-- What a group's pass reads and writes. -/
def State.optSpans (s : State) (k : Nat) (j : Job) (gr : Group) : List Span :=
  let at' := s.qAttr k
  ([gr.w, gr.m, gr.v].flatMap (fun h => let r := s.ttRec k h; (r.view r.pubBank).spans at' false)) ++
    (j.inView (s.ttRec k gr.g)).spans at' false ++ gr.written.flatMap (fun h => (s.ttRec k h).outView.spans at' true)

/-- Some gradient element is NaN or infinite. -/
def State.gradBad (s : State) (k : Nat) (j : Job) (gs : List Group) : Bool :=
  gs.any (fun gr => (s.allElems (j.inView (s.ttRec k gr.g))).any (fun x => !x.v.isFinite))

/-- The optimiser pass of the COMMIT of a training queue, on the clusters that the job's commands named; p1 and p2 advance with
the first group's betas (DEDUCED: log entry 26). -/
def State.runPass (s : State) (k : Nat) (d : Desc) (j : Job) (t : Training) : State :=
  let gs := s.trainGroups t.arena
  match s.reachSpans (gs.flatMap (s.optSpans k j)) with
  | (0, s) =>
    if s.gradBad k j gs then (s.fbInc 0x6040 0xA).killJob k Code.eTrainNonfinite 0 0
    else
      let b1 := (gs.head?.map Group.beta1).getD 0x3F800000
      let b2 := (gs.head?.map Group.beta2).getD 0x3F800000
      let p1 := (fxc t.p1).mul (fxc b1)
      let p2 := (fxc t.p2).mul (fxc b2)
      let (s, outs, fl) := gs.foldl (fun acc gr =>
        let (s, o, f) := acc.1.optGroup k j p1 p2 gr
        (s, acc.2.1 ++ o, acc.2.2.or f)) (s, [], {})
      s.startCmd k d { index := 0, ws := [], outs := outs, fl := fl, mask := j.clusters,
                       train := some ((t.step + 1) % 2 ^ 32, fp32.code p1.v, fp32.code p2.v) }
  | (c, s) => s.accessKill k d c

/-- The COMMIT command runs. -/
def State.runCommit (s : State) (k : Nat) (d : Desc) (j : Job) : State :=
  match s.training k with
  | none => s.startCmd k d { index := 0, ws := [] }
  | some t => s.runPass k d j t

/-- Every served row of the job's steps was named by a PAGED_ATTN for every layer (R146). -/
def State.stepServed (s : State) (k : Nat) (j : Job) : Bool :=
  (s.stepsOf k j.num).all (fun x =>
    match s.pool x.1 with
    | none => true
    | some p => x.2.served.all (fun r => (s.row r).pend = 0 || (List.range p.layers).all (fun l => j.attended.contains (r, l))))

/-! ### FENCE -/

/-- (int32_t)(commit sequence − SEQ) ≥ 0. -/
def State.fenceMet (s : State) (k : Nat) (d : Desc) : Bool :=
  let q := fenceKey k d
  let cs := if s.bit (qEn q) then s.get (qCseq q) else 0
  decide (0 ≤ signed 32 ((cs + 2 ^ 32 - d.w 9) % 2 ^ 32))

/-! ## Dispatch of the command at RPTR -/

/-- The clusters that the optimiser pass of a COMMIT of queue `k` occupies (R150). -/
def State.passMask (s : State) (k : Nat) (d : Desc) : Nat :=
  match s.training k, s.job k with
  | some _, some j => if d.opcode = 0x11 then j.clusters else 0
  | _, _ => 0

/-- The tiles of a descriptor, or the clusters of its optimiser pass, are free of other running commands. -/
def State.tilesFree (s : State) (k : Nat) (d : Desc) : Bool :=
  s.eng.cmds.all (fun p => p.1 = k || isPlumb p.1 != isPlumb k ||
    !(p.2.meets d || ((p.2.desc.clusters ||| p.2.mask) &&& s.passMask k d) != 0))

/-- A job that preempted the one of queue `k` has yet to leave the tiles of `d` (R164): some command of it, from RPTR on, names
one of them. -/
def State.preemptedBy (s : State) (k : Nat) (d : Desc) : Bool :=
  match s.job k with
  | some j => j.behind.any (fun q => (s.job q).isSome && ((s.jobAtRptr q).getD []).any (tilesMeet d))
  | none => false

/-- A decoded command runs. -/
def State.runCmd (s : State) (k : Nat) (d : Desc) (j : Job) : State :=
  let r := s.recs k d
  let iv := fun r => j.inView r
  match d.opcode, r.a, r.b, r.out, r.aux with
  | 0x01, some a, some b, some o, x =>
    s.runOp k d ([iv a, iv b] ++ (x.map iv).toList) o (gemmRows s d (iv a) (iv b) (x.map iv) o)
  | 0x02, some a, some b, some o, x => s.runConv k d (iv a) (iv b) (x.map iv) o
  | 0x03, some a, some b, some o, x => s.runConv k d (iv a) (iv b) (x.map iv) o
  | 0x04, some a, _, some o, _ =>
    s.runOp k d [iv a] o (poolRows s d (iv a) o) (computedStripes (stripesOf d (poolWin d).row0 (poolWin d).rows))
  | 0x05, some a, b, some o, _ => s.runOp k d ([iv a] ++ (b.map iv).toList) o (eltRows s d (iv a) (b.map iv) o)
  | 0x06, some a, _, some o, _ => s.runOp k d [iv a] o (reduceRows s d (iv a) o)
  | 0x07, some a, _, some o, x => s.runOp k d ([iv a] ++ (x.map iv).toList) o (softmaxRows s d (iv a) (x.map iv) o)
  | 0x08, some a, _, some o, x => s.runOp k d ([iv a] ++ (x.map iv).toList) o (normRows s d (iv a) (x.map iv) o)
  | 0x09, some a, _, some o, some x => s.runOp k d [iv a, iv x] o (gatherRows s d (iv a) (iv x) o)
  | 0x0A, some a, _, some o, some x => s.runOp k d [iv a, iv x, iv o] o (scatterRows s d (iv a) (iv x) (iv o) o)
  | 0x0B, some a, _, some o, _ => s.runAttn k d j (iv a) o
  | 0x0C, some a, _, some o, _ => s.runOp k d [iv a] o (foldRows s d (iv a) o)
  | 0x0D, some a, _, some o, _ => s.runOp k d [iv a] o (unfoldRows s d (iv a) o)
  | 0x0E, some a, _, some o, _ =>
    if d.b 8 0 then s.runRaw k d (iv a) o else s.runOp k d [iv a] o (tdmaRows s (iv a) o)
  | 0x0F, some a, _, some o, _ => s.runColl k d (iv a) o
  | 0x10, _, _, _, _ => s.startCmd k d { index := 0, ws := [], waiting := !s.fenceMet k d }
  | 0x11, _, _, _, _ => if s.stepServed k j then s.runCommit k d j else s.rejectJob k Code.eState
  | _, _, _, _, _ => s

/-- The opcode has a row for the queue's engine: FOLD, UNFOLD, PAGED_ATTN, SCATTER and COLLECTIVE have none for Plumb. -/
def servedOp (k : Nat) (d : Desc) : Bool :=
  knownOp d.opcode && !(isPlumb k && decide (0x0A ≤ d.opcode) && d.opcode != 0x0E && !noTensors d.opcode)

/-- The command at RPTR of the queue's admitted job starts, if its opcode is `op` (or one that no row has), its tiles
are free and nothing of the queue is in the run stage. Saved live ranges are first copied back (R165). -/
def State.dispatch (s : State) (k op : Nat) (active : Bool) : State :=
  match s.job k, s.cmd k with
  | some j, none =>
    let d := s.desc k (s.get (qRptr k))
    if j.held || j.copy != 0 || (servedOp k d && d.opcode != op) || !s.tilesFree k d || s.preemptedBy k d then s
    else if s.bit (qSaved k) then s.setJob k { j with copy := 2 }
    else
      let (code, s) := s.decodeCmd k d j active
      if code = Code.ok then s.runCmd k d j else s.rejectJob k code
  | _, _ => s

/-! ## Commit (R95) -/

/-- PUB of a record is flipped (bit 56 of its first word): the staged bank is published, the other one is undefined from
now on (R91). -/
def State.flipPub (s : State) (a : Nat) : State :=
  let r := readRec s a
  let b := s.rdLe (a + 7) 1
  ((s.defineBank (r.view r.stagedBank)).undefineBank (r.view r.pubBank)).wr (a + 7) [if b % 2 = 1 then b - 1 else b + 1]

/-- A record is named an output of the job (bit 57). -/
def State.recJobOut (s : State) (a : Nat) : Bool := bitOf (s.rdLe (a + 7) 1) 1

/-- COMMITTED is set in every copy that the command armed (R121). -/
def State.commitMarks (s : State) (d : Desc) (c : Cmd) : State :=
  c.stripes.foldl (fun s p => if p.2.armed then s.set (Reg.TEN_RM_CFG_COMMITTED p.1 d.postMark) 1 else s) s

/-- The next slot of the ring. -/
def State.advanceRptr (s : State) (k : Nat) : State := s.set (qRptr k) ((s.get (qRptr k) + 1) % s.qSlots k)

/-- The copies that a consumer read through have committed (R123). -/
def State.readCommitted (s : State) (c : Cmd) : Bool :=
  c.readFrom.all (fun cl => s.bit (Reg.TEN_RM_CFG_COMMITTED cl c.desc.waitMark))

/-- The command has reached its commit point: it does not wait, its stripes are complete, its cycles are in bound. -/
def State.atCommitPoint (s : State) (k cycles : Nat) (c : Cmd) : Bool :=
  let d := c.desc
  !c.waiting && c.stripes.all (fun p => p.2.limit - p.2.first ≤ p.2.computed &&
    (!d.posts || p.2.limit - p.2.first ≤ p.2.shown)) && s.readCommitted c &&
  (if d.opcode = 0x11 then decide (cycles ≤ s.optCycles k) else noTensors d.opcode || decide (cycles ≤ d.bound))

/-- A compatibility queue that is to stop saves its live ranges at the next POINT slot (R165). -/
def State.compatStop (s : State) (k : Nat) : State :=
  match s.job k with
  | some j =>
    if j.preempt && (s.live k (s.get (qRptr k))).point then s.setJob k { j with preempt := false, copy := 1 } else s
  | none => s

/-- The commit of a command that is not a COMMIT. -/
def State.commitCmd (s : State) (k : Nat) (j : Job) (c : Cmd) (cycles : Nat) : State :=
  let d := c.desc
  let s := (c.outs.filter (fun a => !s.recJobOut a)).foldl State.flipPub s
  let s := (s.commitMarks d c).wrapInc (qCseq k)
  let s := if d.cpl then
      s.writeRecord k ⟨Code.ok, d, c.fl, c.defused, j.restarted, false, 0, 0, c.start, cycles⟩ else s
  let s := (s.delCmd k).refreshRunning.advanceRptr k
  let s := s.setJob k { j with fl := j.fl.or c.fl, defused := j.defused || c.defused, cycles := j.cycles + cycles,
                               written := c.outs.filter s.recJobOut ++ j.written }
  s.compatStop k

/-- The engine's copies after a training commit, mirrored into the arena's header (R149). -/
def State.commitTraining (s : State) (k : Nat) (c : Cmd) : State :=
  match s.training k, c.train with
  | some t, some (n, p1, p2) =>
    let s := s.wr (t.arena + 8) (leBytes 4 n ++ leBytes 4 p1 ++ leBytes 4 p2 ++ leBytes 4 t.ckpt)
    let t' : Training := { t with step := n, p1 := p1, p2 := p2 }
    { s with eng := { s.eng with train := KMap.put s.eng.train k t' } }.fbInc 0x6040 8
  | _, _ => s

/-- The job commit (R95, R134, R146): JOBOUT records publish, the step closes, the job record is written. -/
def State.commitJob (s : State) (k : Nat) (j : Job) (c : Cmd) (cycles : Nat) : State :=
  let d := c.desc
  let fl := j.fl.or c.fl
  let s := ((c.outs ++ j.written).eraseDups).foldl State.flipPub s
  let s := (s.stepsOf k j.num).foldl (fun s p => s.closeStep p.1 p.2) s
  let s := (s.commitTraining k c).wrapInc (qCseq k)
  let s := if d.cpl then
      s.writeRecord k ⟨Code.ok, d, c.fl, c.defused, j.restarted, false, 0, 0, c.start, cycles⟩ else s
  let s := s.writeRecord k ⟨Code.ok, d, fl, j.defused || c.defused, j.restarted, true, 0, 0, j.start, j.cycles + cycles⟩
  let s := ((s.delCmd k).refreshRunning.advanceRptr k).set (qAdmitted k) 0
  ((s.delJob k).notice k j.num Code.ok).sessionSettle

/-- The COMMIT of a job that spans packages reaches its commit point (R178): READY goes to the lead. -/
def State.reportReady (s : State) (k : Nat) (j : Job) (c : Cmd) (g : Nat) (grp : Coll) : State :=
  let s := s.setCmd k { c with waiting := true }
  if leadOf grp.packages = s.package then s.setJob k { j with ready := j.ready ||| 2 ^ s.package }
  else s.emit (.jobMessage (leadOf grp.packages) g .ready)

/-- The lead commits once it holds READY from every package: GO goes out and acknowledgements are awaited. -/
def State.leadGo (s : State) (k g cycles : Nat) : State :=
  match s.job k, s.cmd k, s.coll g with
  | some j, some c, some grp =>
    if outside grp.packages j.ready || !c.waiting then s
    else
      let s := s.tell grp.packages g .go
      let miss := grp.packages - 2 ^ s.package
      let s := { s with eng := { s.eng with acks := KMap.put s.eng.acks g (miss, j.window) } }
      (s.commitJob k j c cycles).admitJobs
  | _, _, _ => s

/-- What a commit writes beside the completion record: the PUB bits of the records published, and the header of a training
queue's arena (R95, R149), under the queue's attribute (R30). -/
def State.commitSpans (s : State) (k : Nat) (j : Job) (c : Cmd) : List Span :=
  let recs := if c.desc.opcode = 0x11 then (c.outs ++ j.written).eraseDups else c.outs.filter (fun a => !s.recJobOut a)
  recs.map (fun a => ⟨s.qAttr k, true, a, 8⟩) ++
    (match s.training k, c.train with
      | some t, some _ => [⟨s.qAttr k, true, t.arena + 8, 16⟩]
      | _, _ => [])

/-- The commit of a command that has reached its commit point. -/
def State.commitNow (s : State) (k : Nat) (j : Job) (c : Cmd) (cycles : Nat) : State :=
  if c.desc.opcode = 0x11 then
    match s.jobGroup j with
    | some (g, grp) => (s.reportReady k j c g grp).leadGo k g cycles
    | none => (s.commitJob k j c cycles).admitJobs
  else s.commitCmd k j c cycles

/-- The command of queue `k` reaches its commit point after `cycles` active cycles; a commit whose writes are refused kills the
job (R99). -/
def State.commitPoint (s : State) (k cycles : Nat) : State :=
  match s.job k, s.cmd k with
  | some j, some c =>
    if !s.atCommitPoint k cycles c then s
    else
      match s.reachSpans (s.commitSpans k j c) with
      | (0, s) => s.commitNow k j c cycles
      | (e, t) => ((if isPlumb k then t else t.clusterFault c.desc.firstTile e).killJob k e c.desc.firstTile cycles).readmit s
  | _, _ => s

/-- A dispatch, and the admission that follows where it ends the job (R67). -/
def State.dispatched (s : State) (k op : Nat) (active : Bool) : State := (s.dispatch k op active).readmit s

/-! ## Meanings of the opcode rows -/

/-- GEMM (R93). -/
def execGemm (eng : Engine) (queue : Fin 256) (s : State) : Out := done (s.dispatched (qKey eng queue.val) 0x01 false)
/-- CONV (R93, R94). -/
def execConv (eng : Engine) (queue : Fin 256) (s : State) : Out := done (s.dispatched (qKey eng queue.val) 0x02 false)
/-- DWCONV (R93, R94). -/
def execDwconv (eng : Engine) (queue : Fin 256) (s : State) : Out := done (s.dispatched (qKey eng queue.val) 0x03 false)
/-- POOL (R93). -/
def execPool (eng : Engine) (queue : Fin 256) (s : State) : Out := done (s.dispatched (qKey eng queue.val) 0x04 false)
/-- ELTWISE (R93). -/
def execEltwise (eng : Engine) (queue : Fin 256) (s : State) : Out := done (s.dispatched (qKey eng queue.val) 0x05 false)
/-- REDUCE (R93). -/
def execReduce (eng : Engine) (queue : Fin 256) (s : State) : Out := done (s.dispatched (qKey eng queue.val) 0x06 false)
/-- SOFTMAX (R93). -/
def execSoftmax (eng : Engine) (queue : Fin 256) (s : State) : Out := done (s.dispatched (qKey eng queue.val) 0x07 false)
/-- NORM (R93). -/
def execNorm (eng : Engine) (queue : Fin 256) (s : State) : Out := done (s.dispatched (qKey eng queue.val) 0x08 false)
/-- GATHER (R93). -/
def execGather (eng : Engine) (queue : Fin 256) (s : State) : Out := done (s.dispatched (qKey eng queue.val) 0x09 false)
/-- SCATTER (R93). -/
def execScatter (eng : Engine) (queue : Fin 256) (s : State) : Out := done (s.dispatched (qKey eng queue.val) 0x0A false)
/-- PAGED_ATTN (R134, R137–R142). -/
def execPagedAttn (queue : Fin 256) (s : State) : Out := done (s.dispatched queue.val 0x0B false)
/-- FOLD (R117). -/
def execFold (queue : Fin 256) (s : State) : Out := done (s.dispatched queue.val 0x0C false)
/-- UNFOLD (R118). -/
def execUnfold (queue : Fin 256) (s : State) : Out := done (s.dispatched queue.val 0x0D false)
/-- TDMA (R93). -/
def execTdma (eng : Engine) (queue : Fin 256) (s : State) : Out := done (s.dispatched (qKey eng queue.val) 0x0E false)
/-- COLLECTIVE (R178–R181). `active`: every package of the group has registered it (R179). -/
def execCollective (queue : Fin 256) (active : Bool) (s : State) : Out := done (s.dispatched queue.val 0x0F active)
/-- FENCE (R93). -/
def execFence (eng : Engine) (queue : Fin 256) (s : State) : Out := done (s.dispatched (qKey eng queue.val) 0x10 false)
/-- COMMIT (R95, R146, R150). -/
def execCommit (eng : Engine) (queue : Fin 256) (s : State) : Out := done (s.dispatched (qKey eng queue.val) 0x11 false)

/-- FENCE_RELEASE (R93): the fence of the queue ends once the named commit sequence reaches its SEQ. -/
def execFenceRelease (eng : Engine) (queue : Fin 256) (s : State) : Out :=
  let k := qKey eng queue.val
  match s.cmd k with
  | some c =>
    if c.desc.opcode = 0x10 ∧ c.waiting ∧ s.fenceMet k c.desc then done (s.setCmd k { c with waiting := false })
    else done s
  | none => done s

/-- COMMAND_COMMIT (R95): the command of the queue reaches its commit point after `cycles` active cycles. -/
def execCommandCommit (eng : Engine) (queue : Fin 256) (cycles : BitVec 32) (s : State) : Out :=
  done (s.commitPoint (qKey eng queue.val) cycles.toNat)

end Sys2Proof.Machine
end

