-- ==== Sys2Proof/Machine/Faults.lean ====
section
/-! DEFINITION. Faults of running commands, ECC and scrubbing, store initialisation and clears, row marks and
de-fusion (R88, R96–R98, R104–R107, R120–R126, R142, R165, R191, R447). -/

namespace Sys2Proof.Machine
open Sys2Proof

/-! ## ECC of tile memory and cluster buffers (R104, R105) -/

/-- The corrected-error alarm (R105): more than FB 0x7020.02 corrected errors of a cluster within one second. -/
def State.eccCorrected (s : State) (c : Nat) : State :=
  let s := s.inc (Reg.TEN_CL_ECC_CORR c)
  let ts := (s.datum :: KMap.getD s.eng.corrected c []).filter (fun t => decide (s.datum < t + 1000000000))
  let s := { s with eng := { s.eng with corrected := KMap.put s.eng.corrected c ts } }
  if s.fbGet 0x7020 2 < ts.length ∧ !s.bit Reg.SAF_STATE_ECC_ALARM then
    s.degrade Reg.SAF_STATE_ECC_ALARM Code.eDegrEcc else s

/-- An uncorrectable word is counted and logged in TEN_CL_ECC and TEN_CL_ECC_ADDR. -/
def State.eccLogged (s : State) (tile : Nat) (buffer : Bool) (word : Nat) : State :=
  let c := tile / 8
  let s := (s.inc (Reg.TEN_CL_ECC_UNCORR c)).set (Reg.TEN_CL_ECC_ADDR_VALID c) 1
  ((s.setBit (Reg.TEN_CL_ECC_ADDR_CB c) buffer).set (Reg.TEN_CL_ECC_ADDR_TILE c) (if buffer then 0 else tile % 8)).set
    (Reg.TEN_CL_ECC_ADDR_WORD c) word

/-- A word of a cluster buffer lies in its KV cache area: the line that holds it is invalidated (R142). The layout of lines in
the area is not given, so which line it is, if the word lies in any, is free. -/
def State.kvLineError (s : State) (c word : Nat) : State :=
  let ls := KMap.getD s.eng.kvLines c []
  if 0x800000 - s.kvCapacity c ≤ 8 * word ∧ !ls.isEmpty then
    let (n, s) := s.freeNat
    { s with eng := { s.eng with kvLines := KMap.put s.eng.kvLines c (ls.take (n % ls.length) ++ ls.drop (n % ls.length + 1)) } }
  else s

/-! ## Faults of a running command (R88, R96, R97, R104, R447) -/

/-- The kill of the command of queue `k` in this very clock, if there was one (R97). -/
def State.killedNow (s : State) (k : Nat) : Option KillMark :=
  match KMap.find s.eng.killMarks k with
  | some m => if m.time = s.datum then some m else none
  | none => none

/-- The command of queue `k` can meet a fault now: it runs, or it has been killed in this very clock. -/
def State.mayFault (s : State) (k : Nat) : Bool := (s.cmd k).isSome || (s.killedNow k).isSome

/-- The command of queue `k`, running or killed in this very clock, uses a tile. -/
def State.usesTile (s : State) (k tile : Nat) : Bool :=
  match s.cmd k, s.killedNow k with
  | some c, _ => bitOf c.desc.clusters (tile / 8) && bitOf c.desc.tiles (tile % 8)
  | none, some m => bitOf m.clusters (tile / 8) && bitOf m.tiles (tile % 8)
  | none, none => false

/-- Of faults in one clock the lowest tile is reported (R97): a further one in a lower tile replaces status and tile in the
completion record that the first has written. Whether the job restarted was decided at the first (DESIGN CHOICE: log entry
24). -/
def State.reportLower (s : State) (k : Nat) (m : KillMark) (code tile : Nat) : State :=
  match m.record with
  | some a =>
    if tile < m.tile then
      let s := (s.wr a (leBytes 2 code)).wr (a + 0xC) [tile]
      { s with eng := { s.eng with killMarks := KMap.put s.eng.killMarks k { m with tile := tile } } }
    else s
  | none => s

/-- A counted fault kills the job. After a preemption in the same clock it still does, since the fault governs; after another
fault it is only reported (R97). -/
def State.faultKill (s : State) (k code tile cycles : Nat) : State :=
  match s.cmd k, s.killedNow k with
  | none, some m => if m.preempted then (s.killJob k code tile cycles).readmit s else s.reportLower k m code tile
  | _, _ => (s.killJob k code tile cycles).readmit s

/-- A second E_TILE_ARITH of a tile within 1 s isolates its cluster; the time of this one is kept (R98). -/
def State.tileArith (s : State) (tile : Nat) : State :=
  let c := tile / 8
  let again := match KMap.find s.eng.tileFault tile with
    | some t => decide (s.datum ≤ t + 1000000000)
    | none => false
  let s := (s.clusterFault tile Code.eTileArith).fbInc 0x6030 1
  let s := { s with eng := { s.eng with tileFault := KMap.put s.eng.tileFault tile s.datum } }
  if again && !s.bit (Reg.TEN_CL_STATUS_ISOLATED c) then
    ((s.set (Reg.TEN_CL_STATUS_ISOLATED c) 1).fbInc 0x6030 6).degrade Reg.SAF_STATE_CLUSTER_ISOLATED Code.eDegrCluster
  else s

/-- TILE_ARITH_FAULT (R88, R98): the job is killed; a second fault of the tile within 1 s isolates its cluster. -/
def execTileArithFault (queue : Fin 256) (tile : Fin 128) (cycles : BitVec 32) (s : State) : Out :=
  if s.usesTile queue.val tile.val then
    done ((s.tileArith tile.val).faultKill queue.val Code.eTileArith tile.val cycles.toNat)
  else done s

/-- ECC_UNCORRECTABLE (R104): a command reads a word with an ECC error. A double-bit error kills the job; a single-bit one, which no
other command row carries, is corrected and counted (DESIGN CHOICE: log entry 24). -/
def execEccUncorrectable (queue : Fin 256) (tile : Fin 128) (buffer : Bool) (word : BitVec 20) (found : EccEvent)
    (cycles : BitVec 32) (s : State) : Out :=
  if !s.mayFault queue.val then done s
  else
    match found with
    | .none => done s
    | .corrected => done (s.eccCorrected (tile.val / 8))
    | .uncorrectable =>
      let s := ((s.eccLogged tile.val buffer word.toNat).clusterFault tile.val Code.eEccUncorr).fbInc 0x6030 2
      let s := if buffer then s.kvLineError (tile.val / 8) word.toNat else s
      done (s.faultKill queue.val Code.eEccUncorr tile.val cycles.toNat)

/-- PLUMB_ECC_UNCORRECTABLE (R191). -/
def execPlumbEccUncorrectable (queue : Fin 8) (cycles : BitVec 32) (s : State) : Out :=
  let k := 256 + queue.val
  if s.mayFault k then done (((s.inc Reg.PLB_ECC_UNCORR).fbInc 0x6030 2).faultKill k Code.eEccUncorr 0 cycles.toNat)
  else done s

/-- The cycle bound of a running command: BOUND_CYCLES, or OPT_CYCLES for a COMMIT (R98, R150). -/
def State.cycleBound (s : State) (k : Nat) (c : Cmd) : Nat :=
  if c.desc.opcode = 0x11 then s.optCycles k else c.desc.bound

/-- CMD_OVERRUN (R98): the count passes the bound. A FENCE counts no cycles. -/
def execCmdOverrun (eng : Engine) (queue : Fin 256) (cycles : BitVec 32) (s : State) : Out :=
  let k := qKey eng queue.val
  match s.cmd k with
  | some c =>
    if c.desc.opcode = 0x10 ∨ cycles.toNat ≤ s.cycleBound k c then done s
    else
      let s := if isPlumb k then s else s.clusterFault c.desc.firstTile Code.eCmdOverrun
      done ((s.killJob k Code.eCmdOverrun c.desc.firstTile cycles.toNat).readmit s)
  | none => done s

/-- An uncorrectable inline ECC error at a DRAM address is logged (R169). -/
def State.inlineEcc (s : State) (a : Nat) : State :=
  let s := s.set Reg.DDR_EVENTS_ECC_UNCORR 1
  if s.bit Reg.DDR_ECC_LOG_VALID then s
  else ((s.set Reg.DDR_ECC_LOG_VALID 1).set Reg.DDR_ECC_LOG_GROUP ((a - 0x1000000000) / 0x200000000)).set
    Reg.DDR_ECC_LOG_ADDR (a / 64 * 64)

/-- The status of R447 for a cause. -/
def busCode : BusCause → Nat
  | .refused => Code.eAccess
  | .unbacked => Code.eBounds
  | .inlineEcc => Code.eEccUncorr
  | .link => Code.eLink

/-- DATA_BUS_ERROR (R447): a data access of the running command at `addr` meets a bus error. A refusal by a channel group is one of an address in DRAM (R166). -/
def execDataBusError (eng : Engine) (queue : Fin 256) (cause : BusCause) (addr : BitVec 48) (tile : Fin 128)
    (cycles : BitVec 32) (s : State) : Out :=
  let k := qKey eng queue.val
  if !s.mayFault k then done s
  else
    let s := match cause with
      | .refused => (match s.target addr.toNat with
        | .dram g _ => s.groupRefuse g (s.qAttr k)
        | _ => s)
      | .inlineEcc => (s.inlineEcc addr.toNat).fbInc 0x6030 2
      | _ => s
    let s := if isPlumb k then s else s.clusterFault tile.val (busCode cause)
    done (s.faultKill k (busCode cause) tile.val cycles.toNat)

/-- SCRUB_PASS (R104, R105): the scrubber reads a word of a tile memory or cluster buffer; `lastWord` ends a pass. -/
def execScrubPass (tile : Fin 128) (buffer : Bool) (word : BitVec 20) (found : EccEvent) (lastWord : Bool) (s : State) :
    Out :=
  let c := tile.val / 8
  if !s.clusterUp c then done s
  else
    let s := match found with
      | .none => s
      | .corrected => s.eccCorrected c
      | .uncorrectable =>
        let s := (s.eccLogged tile.val buffer word.toNat).fbInc 0x6030 9
        s.degrade Reg.SAF_STATE_SCRUB_UNCORR Code.eDegrScrub
    done (if lastWord then s.inc (Reg.TEN_CL_MEMSTAT_SCRUB_PASSES c) else s)

/-! ## Initialisation and clears (R106, R107) -/

/-- The stores of a cluster are zeroed. -/
def State.zeroStores (s : State) (c : Nat) : State :=
  (s.clearMem (0x40000000 + c * 0x1000000) (0x40000000 + (c + 1) * 0x1000000)).clearMem
    (0x50000000 + c * 0x800000) (0x50000000 + (c + 1) * 0x800000)

/-- Every row mark of a cluster is cleared. -/
def State.clearMarks (s : State) (c : Nat) : State :=
  let lo := 0x1100E000 + c * 0x100000
  { s with regs := s.regs.filter (fun p => p.1 / 64 < lo || lo + 0x1000 ≤ p.1 / 64) }

/-- The KV cache lines of a cluster are invalidated. -/
def State.clearLines (s : State) (c : Nat) : State :=
  { s with eng := { s.eng with kvLines := KMap.del s.eng.kvLines c } }

/-- A cluster's stores lose their contents as their domain is gated (R106): they are undefined until the zeroing at the next
power-up is complete. -/
def State.loseStores (s : State) (c : Nat) : State :=
  ((s.zeroStores c).undefine (0x40000000 + c * 0x1000000) (0x40000000 + (c + 1) * 0x1000000)).undefine
    (0x50000000 + c * 0x800000) (0x50000000 + (c + 1) * 0x800000)

/-- The stores of a cluster that comes up are zero, and its commands may be admitted (R106). -/
def State.memoryInit (s : State) (c : Nat) : State := ((s.zeroStores c).set (Reg.TEN_CL_MEMSTAT_INIT_DONE c) 1).admitJobs

/-- PARTITION_CLEAR_DONE (R107): the clear completes and admission in the window may start. -/
def execPartitionClearDone (cluster : Fin 16) (s : State) : Out :=
  if s.bit (Reg.TEN_CL_MEMSTAT_CLEARING cluster.val) then
    let s := ((s.zeroStores cluster.val).clearMarks cluster.val).clearLines cluster.val
    done ((s.set (Reg.TEN_CL_MEMSTAT_CLEARING cluster.val) 0).fbInc 0x6030 8).admitJobs
  else done s

/-! ## Row marks (R120–R126) -/

/-- A running command reads through copy `c` of mark `m` on behalf of its present owner (R121). -/
def State.copyRead (s : State) (k c m : Nat) : Bool :=
  s.bit (Reg.TEN_RM_CFG_ARMED c m) && s.eng.cmds.any (fun p => p.1 != k && p.2.desc.waits && p.2.desc.waitMark = m &&
    p.2.desc.job = s.get (Reg.TEN_RM_OWNER_JOB c m) &&
    (s.qAttr p.1).partition = s.get (Reg.TEN_RM_OWNER_PARTITION c m))

/-- The state with a stripe of a running command changed. -/
def State.setStripe (s : State) (k c : Nat) (cmd : Cmd) (st : Stripe) : State :=
  s.setCmd k { cmd with stripes := KMap.put cmd.stripes c st }

/-- A running command of queue `k` with its stripe in cluster `c`. -/
def State.stripe (s : State) (k c : Nat) : Option (Cmd × Stripe) :=
  match s.cmd k with
  | some cmd => (KMap.find cmd.stripes c).map (fun st => (cmd, st))
  | none => none

/-- The output record of a running command. -/
def State.outRec (s : State) (k : Nat) (d : Desc) : Rec := readRec s (ttAddr (s.get (qTtBase k)) (d.handle 2))

/-- The registers of copy `c` of mark `m` as a producer stripe arms it (R121). -/
def State.armCopy (s : State) (k c : Nat) (d : Desc) (st : Stripe) : State :=
  let m := d.postMark
  let s := (s.set (Reg.TEN_RM_RANGE_FIRST c m) st.first).set (Reg.TEN_RM_RANGE_LIMIT c m) st.limit
  let s := (s.set (Reg.TEN_RM_DONE_HEAD c m) 0).set (Reg.TEN_RM_DONE_TAIL c m) 0
  let s := ((s.set (Reg.TEN_RM_OWNER_JOB c m) d.job).set (Reg.TEN_RM_OWNER_QUEUE c m) k).set
    (Reg.TEN_RM_OWNER_PARTITION c m) (s.qAttr k).partition
  let s := s.set (Reg.TEN_RM_CFG_BANK c m) (s.outRec k d).stagedBank
  ((s.set (Reg.TEN_RM_CFG_COMMITTED c m) 0).set (Reg.TEN_RM_CFG_DEFUSED c m) 0).set (Reg.TEN_RM_CFG_ARMED c m) 1

/-- The rows of a producer's stripe that waits on no mark are computed. -/
def State.computeStripe (s : State) (k c : Nat) (cmd : Cmd) (st : Stripe) (j : Job) : State :=
  let d := cmd.desc
  let r := s.recs k d
  match r.a, r.b, r.out with
  | some a, some b, some o =>
    let n := st.limit - st.first
    let rows := (List.range n).flatMap (fun i =>
      convRow s d (fun _ => j.inView a) (j.inView b) (r.aux.map j.inView) o (st.rowAt st.lead i))
    let (s, fl) := s.writeRows o.outView rows
    s.setStripe k c { cmd with fl := cmd.fl.or fl } { st with computed := n }
  | _, _, _ => s

/-- ROW_MARK_ARM (R121): the stripe of a producer starts: it arms its copy once no command reads through it for its previous
owner, and then computes its rows, the LEAD rows first. -/
def execRowMarkArm (queue : Fin 256) (cluster : Fin 16) (s : State) : Out :=
  let k := queue.val
  let c := cluster.val
  match s.stripe k c, s.job k with
  | some (cmd, st), some j =>
    let d := cmd.desc
    if !d.posts || st.armed || s.copyRead k c d.postMark then done s
    else
      let st := { st with armed := true, lead := s.get (Reg.TEN_RM_CFG_LEAD c d.postMark) }
      let s := s.armCopy k c d st
      done (if cmd.rowWise then s.setStripe k c cmd st else s.computeStripe k c cmd st j)
  | _, _ => done s

/-- ROW_MARK_ADVANCE (R121): the next completed row (8 rows of an FRC output) becomes visible in TAIL or HEAD. -/
def execRowMarkAdvance (queue : Fin 256) (cluster : Fin 16) (s : State) : Out :=
  let k := queue.val
  let c := cluster.val
  match s.stripe k c with
  | some (cmd, st) =>
    let d := cmd.desc
    let m := d.postMark
    let n := if (s.outRec k d).frc ≠ 0 then 8 else 1
    if !d.posts || !st.armed || decide (st.computed < st.shown + n) then done s
    else
      let lead := min st.lead (st.limit - st.first)
      let s := if st.shown < lead then s.set (Reg.TEN_RM_DONE_TAIL c m) (st.shown + n)
        else s.set (Reg.TEN_RM_DONE_HEAD c m) (st.shown + n - lead)
      done (s.setStripe k c cmd { st with shown := st.shown + n })
  | none => done s

/-- The cluster whose copy of mark `m` covers row `y` for a job of a partition. -/
def State.coveringCopy (s : State) (m y job part : Nat) : Option Nat :=
  (List.range 16).find? (fun c => s.bit (Reg.TEN_RM_CFG_ARMED c m) && s.get (Reg.TEN_RM_OWNER_JOB c m) = job &&
    s.get (Reg.TEN_RM_OWNER_PARTITION c m) = part && decide (s.get (Reg.TEN_RM_RANGE_FIRST c m) ≤ y) &&
    decide (y < s.get (Reg.TEN_RM_RANGE_LIMIT c m)))

/-- row_ready of R122. -/
def State.rowReady (s : State) (m y job part : Nat) (barrier : Bool) : Bool :=
  match s.coveringCopy m y job part with
  | none => false
  | some c =>
    let first := s.get (Reg.TEN_RM_RANGE_FIRST c m)
    let limit := s.get (Reg.TEN_RM_RANGE_LIMIT c m)
    let l := min (s.get (Reg.TEN_RM_CFG_LEAD c m)) (limit - first)
    if s.bit (Reg.TEN_RM_CFG_COMMITTED c m) then true
    else if barrier then false
    else decide (y < first + s.get (Reg.TEN_RM_DONE_HEAD c m)) ||
      (decide (limit - l ≤ y) && decide (y < limit - l + s.get (Reg.TEN_RM_DONE_TAIL c m)))

/-- The rows of the input that output row `y` needs, padding left out. -/
def inputRows (w : Win) (h y : Nat) : List Nat :=
  (List.range w.kh).filterMap (fun ky => inPos y w.sh ky w.dh w.pt h)

/-- The next output rows of a consumer stripe: one, or the 8 of a patch row of an FRC output. -/
def nextRows (st : Stripe) (frc : Bool) : List Nat :=
  if frc then (List.range 8).map (fun i => st.rowAt st.lead st.computed + i) else [st.rowAt st.lead st.computed]

/-- The copies that cover some input rows of a consumer of queue `k`, and the view of each row: in the bank that its own copy
names (R123). -/
def State.coversOf (s : State) (k : Nat) (d : Desc) (ys : List Nat) : List Nat :=
  (ys.filterMap (fun y => s.coveringCopy d.waitMark y d.job (s.qAttr k).partition)).eraseDups
def State.rowView (s : State) (k : Nat) (d : Desc) (a : Rec) (y : Nat) : View :=
  match s.coveringCopy d.waitMark y d.job (s.qAttr k).partition with
  | some c => a.view (s.get (Reg.TEN_RM_CFG_BANK c d.waitMark))
  | none => a.view a.pubBank

/-- The rows of a consumer are computed from the banks that the covering copies name (R123). -/
def State.computeRows (s : State) (k c : Nat) (cmd : Cmd) (st : Stripe) (j : Job) (ys need : List Nat) : State :=
  let d := cmd.desc
  let r := s.recs k d
  match r.a, r.b, r.out with
  | some a, some b, some o =>
    match s.reachSpans ((need.map (s.rowView k d a)).eraseDups.flatMap (fun v => v.spans (s.qAttr k) false)) with
    | (0, s) =>
      let rows := ys.flatMap (fun y => convRow s d (s.rowView k d a) (j.inView b) (r.aux.map (fun x => j.inView x)) o y)
      let from' := (cmd.readFrom ++ s.coversOf k d need).eraseDups
      let (s, fl) := s.writeRows o.outView rows
      s.setStripe k c { cmd with fl := cmd.fl.or fl, readFrom := from' }
        { st with computed := st.computed + ys.length, waitFrom := none }
    | (e, s) => s.accessKill k d e
  | _, _, _ => s

/-- The next rows of a consumer stripe with the input rows that they need, and whether every one of these is ready (R122,
R123); none where the stripe has no row left, or has yet to arm the copy that it posts to (R121). -/
def State.nextReady (s : State) (k : Nat) (cmd : Cmd) (st : Stripe) (j : Job) : Option (List Nat × List Nat × Bool) :=
  let d := cmd.desc
  if !cmd.rowWise || (d.posts && !st.armed) || decide (st.limit - st.first ≤ st.computed) then none
  else
    let r := s.recs k d
    match r.a, r.b, r.out with
    | some a, some b, some o =>
      let ys := nextRows st (o.frc != 0)
      let need := ys.flatMap (inputRows (convWin d b) a.d2)
      some (ys, need, need.all (fun y => s.rowReady d.waitMark y d.job (s.qAttr k).partition j.barrier))
    | _, _, _ => none

/-- CONSUMER_ROW_START (R123): the next row of the stripe starts if every input row it needs is ready; otherwise the
stripe waits. -/
def execConsumerRowStart (queue : Fin 256) (cluster : Fin 16) (s : State) : Out :=
  let k := queue.val
  let c := cluster.val
  match s.stripe k c, s.job k with
  | some (cmd, st), some j =>
    match s.nextReady k cmd st j with
    | none => done s
    | some (ys, need, ready) =>
      if ready then done (s.computeRows k c cmd st j ys need)
      else if st.waitFrom.isSome then done s
      else done (s.setStripe k c { cmd with defused := cmd.defused || j.barrier } { st with waitFrom := some s.datum })
  | _, _ => done s

/-- The marks that the jobs of a list of queues use. -/
def State.marksOf (s : State) (ks : List Nat) : List Nat :=
  (ks.flatMap (fun k => match s.job k with
    | some j => j.posts ++ j.waits
    | none => [])).eraseDups

/-- The jobs that are one job with that of queue `k` de-fuse (R125): DEFUSED in every copy of their marks, barrier mode until
they end, and DEFUSED in the record of each command that waits. -/
def State.defuse (s : State) (k : Nat) (j : Job) : State :=
  let s := s.fbInc 0x6030 7
  let ks := s.linkedQueues k
  let s := (s.marksOf ks).foldl (fun s m => (List.range 16).foldl (fun s c =>
    if s.bit (Reg.TEN_RM_CFG_ARMED c m) && s.get (Reg.TEN_RM_OWNER_JOB c m) = j.num &&
        s.get (Reg.TEN_RM_OWNER_PARTITION c m) = (s.qAttr k).partition then
      s.set (Reg.TEN_RM_CFG_DEFUSED c m) 1 else s) s) s
  let s := ks.foldl (fun s q => match s.job q with
    | some jq => s.setJob q { jq with barrier := true }
    | none => s) s
  ks.foldl (fun s q => match s.cmd q with
    | some c => s.setCmd q { c with defused := c.defused || c.stripes.any (fun p => p.2.waitFrom.isSome) }
    | none => s) s

/-- DEFUSION (R125): a continuous wait longer than FB 0x7020.03 de-fuses the job, unless the row is ready as the limit expires:
then it is read (R126). -/
def execDefusion (queue : Fin 256) (cluster : Fin 16) (s : State) : Out :=
  let k := queue.val
  match s.stripe k cluster.val, s.job k with
  | some (cmd, st), some j =>
    match st.waitFrom with
    | none => done s
    | some t =>
      if j.barrier then done s
      else
        let s := s.advanceTo (t + s.fbGet 0x7020 3 * 1000)
        match s.nextReady k cmd st j with
        | some (ys, need, true) => done (s.computeRows k cluster.val cmd st j ys need)
        | _ => done (s.defuse k j)
  | _, _ => done s

/-! ## The KV cache register and the training session -/

/-- A write of TEN_KV_CACHE. -/
def State.writeKvCache (s : State) (c banks : Nat) : State :=
  if !s.clusterOn c then s
  else if 16 < banks then s.set (Reg.TEN_KV_CACHE_STATUS c) Code.eIllegal
  else if s.bit (Reg.TEN_CL_STATUS_RUNNING c) then s.set (Reg.TEN_KV_CACHE_STATUS c) Code.eBusy
  else ((s.set (Reg.TEN_KV_CACHE_BANKS c) banks).set (Reg.TEN_KV_CACHE_STATUS c) Code.ok).clearLines c

/-- KV_CACHE_WRITE (R142). -/
def execKvCacheWrite (who : Agent) (cluster : Fin 16) (banks : BitVec 6) (s : State) : Out :=
  done (s.gateWrite who (Reg.TEN_KV_CACHE_addr cluster.val) (fun s => s.writeKvCache cluster.val banks.toNat))

/-- TRAINING_SESSION_LIMIT (R151). -/
def execTrainingSessionLimit (s : State) : Out :=
  if s.session = 1 then
    let s := s.advanceTo (s.eng.sessionStart + s.fbGet 0x7100 2 * 60000000000)
    done { s with eng := { s.eng with sessionSpent := true } }.sessionClose
  else done s

/-! ## Live ranges of compatibility queues (R165) -/

/-- The memory address of a range's first line. -/
def rangeAddr (r : Nat × Nat × Nat) : Nat := 0x40000000 + r.1 * 0x200000 + r.2.1 * 64

/-- Ranges are copied, packed in order, from tile memory to the save area or back. -/
def State.copyRanges (s : State) (save : Bool) (a : Nat) : List (Nat × Nat × Nat) → State
  | [] => s
  | r :: rs =>
    let n := r.2.2 * 64
    let s := if save then s.wr a (s.rd (rangeAddr r) n) else s.wr (rangeAddr r) (s.rd a n)
    s.copyRanges save (a + n) rs

/-- The area that a save writes or a restore reads, as a span. -/
def State.saveSpan (s : State) (k : Nat) (write : Bool) (rs : List (Nat × Nat × Nat)) : Span :=
  ⟨s.qAttr k, write, s.get (Reg.MBX_QC_SAVE_BASE_BASE k), (rs.map (fun r => r.2.2 * 64)).foldl (· + ·) 0⟩

/-- LIVE_RANGE_COPY_DONE (R165): the save sets SAVED, the copy back clears it. -/
def execLiveRangeCopyDone (queue : Fin 256) (s : State) : Out :=
  let k := queue.val
  match s.job k with
  | none => done s
  | some j =>
    if j.copy = 0 then done s
    else
      let rs := s.ranges (s.live k (s.get (qRptr k)))
      let base := s.get (Reg.MBX_QC_SAVE_BASE_BASE k)
      match s.reachSpans [s.saveSpan k (j.copy = 1) rs] with
      | (0, s) =>
        let s := (s.copyRanges (j.copy = 1) base rs).setJob k { j with copy := 0 }
        if j.copy = 1 then done (((s.set (qSaved k) 1).fbInc 0x6030 0xE))
        else done (s.set (qSaved k) 0)
      | (e, s) => done ((s.killJob k e 0 0).readmit s)

end Sys2Proof.Machine
end

