-- ==== Sys2Proof/Machine/Worlds.lean ====
section
/-! DEFINITION. Secure and Normal worlds (chapter 11): mwattr, the programming of the Cadastre checkers, key slots,
the measured secure image, the secure restart and watchdog, and leases. The service calls are in Services. -/

namespace Sys2Proof.Machine
open Sys2Proof

/-! ## mwattr (R297) -/

/-- MWATTR_WRITE: a CSR write of mwattr on a core (16 and 17: secure cluster cores). Below M-mode it raises an
illegal-instruction exception. -/
def execMwattrWrite (core : Fin 18) (mode : Mode) (value : BitVec 64) (s : State) : Out :=
  if mode = .m then
    let v := value.toNat
    let at' : Attr := ⟨bitOf v 8 || 16 ≤ core.val, v % 64⟩
    done { s with worlds := { s.worlds with mwattr := KMap.put s.worlds.mwattr core.val at' } }
  else done (s.emit (.illegalInstruction core.val))

/-! ## Programming the checkers (R302, R303) -/

/-- The status of the last write to a checker. -/
def State.cadStatus (s : State) (k c : Nat) : State := s.set (Reg.CAD_STATUS_LAST k) c

/-- A checker number with registers (R299); the CAD block's own checker has no region registers. -/
def checkerExists (k : Nat) : Bool := k < 43 || (48 ≤ k && k < 65)

/-- The regions of checker `k` are frozen: LOCK is shared by the two checkers of a channel group. A region write in the clock in
which LOCK is set still applies (R316). -/
def State.cadLocked (s : State) (k : Nat) : Bool :=
  s.bit (Reg.CAD_CTRL_LOCK (regionOwner k)) && KMap.find s.worlds.lockAt (regionOwner k) != some s.datum

/-- A write of CAD_LOG_ACK (R302). -/
def State.cadAck (s : State) (k n : Nat) : State :=
  if n = 0 ∨ n = 15 then s.cadStatus k Code.eLength
  else if s.get (Reg.CAD_STATUS_COUNT k) < n then s.cadStatus k Code.eBounds
  else
    ((((s.set (Reg.CAD_STATUS_HEAD k) ((s.get (Reg.CAD_STATUS_HEAD k) + n) % 8)).set
      (Reg.CAD_STATUS_COUNT k) (s.get (Reg.CAD_STATUS_COUNT k) - n)).relog k).cadStatus k Code.ok)

/-- The permission bits of a region as NW, NR, SW, SR in bits 0 to 3. -/
def State.regionPerms (s : State) (k r : Nat) : Nat :=
  s.get (Reg.CAD_RG_CTRL_NW k r) + 2 * s.get (Reg.CAD_RG_CTRL_NR k r) + 4 * s.get (Reg.CAD_RG_CTRL_SW k r) +
  8 * s.get (Reg.CAD_RG_CTRL_SR k r)

/-- The permission bits of a region set. -/
def State.setRegionPerms (s : State) (k r p : Nat) : State :=
  (((s.set (Reg.CAD_RG_CTRL_NW k r) (bitsOf p 0 0)).set (Reg.CAD_RG_CTRL_NR k r) (bitsOf p 1 1)).set
    (Reg.CAD_RG_CTRL_SW k r) (bitsOf p 2 2)).set (Reg.CAD_RG_CTRL_SR k r) (bitsOf p 3 3)

/-- A region may be enabled: LIMIT ≥ BASE, the whole region in the checker's range (R303). -/
def State.regionOk (s : State) (k r : Nat) : Bool :=
  decide (s.get (Reg.CAD_RG_BASE_BASE k r) ≤ s.get (Reg.CAD_RG_LIMIT_LIMIT k r)) &&
  pagesInChecker k (s.get (Reg.CAD_RG_BASE_BASE k r)) (s.get (Reg.CAD_RG_LIMIT_LIMIT k r))

/-- A write of CAD_RG_CTRLr under R303 and R445; `p` carries the permission bits. Checker numbers without region
registers follow R12. -/
def State.regionCtrl (s : State) (k r : Nat) (en : Bool) (p : Nat) : State :=
  let o := regionOwner k
  if !checkerExists k || k = 51 then s
  else if s.cadLocked k then s.cadStatus k Code.eState
  else if s.bit (Reg.CAD_RG_CTRL_EN o r) then
    ((s.noteRegions o).setBit (Reg.CAD_RG_CTRL_EN o r) en).cadStatus k (if s.regionPerms o r = p then Code.ok else Code.eState)
  else if en && !s.regionOk o r then s.cadStatus k Code.eBounds
  else (((s.noteRegions o).setRegionPerms o r p).setBit (Reg.CAD_RG_CTRL_EN o r) en).cadStatus k Code.ok

/-- A write of CAD_RG_BASEr, LIMITr or PARTSr (`f` the field of the region's register): only while EN = 0. -/
def State.regionField (s : State) (k r : Nat) (f : Field) (v : Nat) : State :=
  if !checkerExists k || k = 51 then s
  else if s.cadLocked k || s.bit (Reg.CAD_RG_CTRL_EN (regionOwner k) r) then s.cadStatus k Code.eState
  else (s.set f v).cadStatus k Code.ok

/-- Setting CAD_CTRL.LOCK (R303): the shared regions of a channel group freeze for both checkers. -/
def State.cadLock (s : State) (k : Nat) : State :=
  if checkerExists k then
    let o := regionOwner k
    let s := if s.bit (Reg.CAD_CTRL_LOCK o) then s
      else { s with worlds := { s.worlds with lockAt := KMap.put s.worlds.lockAt o s.datum } }
    (s.set (Reg.CAD_CTRL_LOCK o) 1).cadStatus k Code.ok
  else s

/-- LOG_ACK (R302). -/
def execLogAck (who : Agent) (checker : Fin 65) (count : BitVec 4) (s : State) : Out :=
  done (s.gateWrite who (Reg.CAD_LOG_ACK_addr checker.val) (fun s =>
    if checkerExists checker.val then s.cadAck checker.val count.toNat else s))

/-- REGION_ENABLE (R303): a write of CAD_RG_CTRLr with EN = 1. -/
def execRegionEnable (who : Agent) (checker : Fin 65) (region : Fin 32) (perms : BitVec 4) (s : State) : Out :=
  done (s.gateWrite who (Reg.CAD_RG_CTRL_addr checker.val region.val)
    (fun s => s.regionCtrl checker.val region.val true perms.toNat))

/-- REGION_DISABLE (R303): a write of CAD_RG_CTRLr with EN = 0. -/
def execRegionDisable (who : Agent) (checker : Fin 65) (region : Fin 32) (perms : BitVec 4) (s : State) : Out :=
  done (s.gateWrite who (Reg.CAD_RG_CTRL_addr checker.val region.val)
    (fun s => s.regionCtrl checker.val region.val false perms.toNat))

/-- CADASTRE_LOCK (R303). -/
def execCadastreLock (who : Agent) (checker : Fin 65) (s : State) : Out :=
  done (s.gateWrite who (Reg.CAD_CTRL_addr checker.val) (fun s => s.cadLock checker.val))

/-! ## Key slots (R307) -/

/-- The key bytes of the first `n` words of a slot's KEY registers; word 0 holds the first four bytes,
little-endian as in CRY_MEAS (DEDUCED, log entry 12). -/
def State.keyRegBytes (s : State) (k n : Nat) : List Nat :=
  ((List.range n).map (fun i => leBytes 4 (s.get (Reg.CRY_KS_KEY_KEY k i)))).flatten

/-- The USE bits of a slot: CRYPT, IMAGE, FBA, VERIFY, GEN in bits 4 to 0. -/
def State.setUses (s : State) (k u : Nat) : State :=
  ((((s.set (Reg.CRY_KS_CTRL_USE_GEN k) (bitsOf u 0 0)).set (Reg.CRY_KS_CTRL_USE_VERIFY k) (bitsOf u 1 1)).set
    (Reg.CRY_KS_CTRL_USE_FBA k) (bitsOf u 2 2)).set (Reg.CRY_KS_CTRL_USE_IMAGE k) (bitsOf u 3 3)).set
    (Reg.CRY_KS_CTRL_USE_CRYPT k) (bitsOf u 4 4)

/-- A slot's content set or removed. -/
def State.setKey (s : State) (k : Nat) (c : Option KeySlot) : State :=
  let keys := match c with
    | some c => KMap.put s.worlds.keys k c
    | none => KMap.del s.worlds.keys k
  { s with worlds := { s.worlds with keys := keys } }

/-- LOAD: KEY, TYPE, USE and PARTS become the slot's content in one step. -/
def State.keyLoad (s : State) (k type uses : Nat) : State :=
  let c : KeySlot := ⟨s.keyRegBytes k (if type = 1 then 8 else 4), type = 1, uses, s.get (Reg.CRY_KS_PARTS_PARTS k)⟩
  (((s.setKey k (some c)).set (Reg.CRY_KS_CTRL_TYPE k) type).setUses k uses).set (Reg.CRY_KS_CTRL_LOADED k) 1

/-- ZERO: the key is zeroised and LOADED clears. -/
def State.keyZero (s : State) (k : Nat) : State :=
  let s := (List.range 8).foldl (fun s i => s.set (Reg.CRY_KS_KEY_KEY k i) 0) (s.setKey k none)
  s.set (Reg.CRY_KS_CTRL_LOADED k) 0

/-- A write of CRY_KS_CTRL (R307): nothing while LOCK is set; an illegal TYPE at LOAD is rejected whole (R21). -/
def State.keyCtrl (s : State) (k v : Nat) : State :=
  let type := bitsOf v 27 24
  let uses := bitsOf v 4 0
  if s.bit (Reg.CRY_KS_CTRL_LOCK k) then s
  else if bitOf v 29 && decide (1 < type) then s.report Code.eIllegal
  else
    let s := (s.set (Reg.CRY_KS_CTRL_TYPE k) type).setUses k uses
    let s := if bitOf v 29 then s.keyLoad k type uses else s
    let s := if bitOf v 28 then s.keyZero k else s
    if bitOf v 30 then s.set (Reg.CRY_KS_CTRL_LOCK k) 1 else s

/-- A slot that a request of partition `p` may use for `use` (bit number), with the key of `n` bytes at least; the
worlds code E_KEY_USE otherwise (R307). -/
def State.useKey (s : State) (k use p : Nat) : Option KeySlot :=
  match KMap.find s.worlds.keys k with
  | some c => if bitOf c.uses use && bitOf c.parts p then some c else none
  | none => none

/-- The bits of TYPE and USE as they stand in a slot's control register. -/
def State.keyCtrlNow (s : State) (k : Nat) : Nat :=
  s.get (Reg.CRY_KS_CTRL_TYPE k) * 2 ^ 24 + s.get (Reg.CRY_KS_CTRL_USE_GEN k) +
  2 * s.get (Reg.CRY_KS_CTRL_USE_VERIFY k) + 4 * s.get (Reg.CRY_KS_CTRL_USE_FBA k) +
  8 * s.get (Reg.CRY_KS_CTRL_USE_IMAGE k) + 16 * s.get (Reg.CRY_KS_CTRL_USE_CRYPT k)

/-- KEY_SLOT_LOAD (R307): a write of CRY_KS_CTRL with LOAD = 1, the given TYPE and USE bits. -/
def execKeySlotLoad (who : Agent) (slot : Fin 32) (type : BitVec 4) (uses : BitVec 5) (s : State) : Out :=
  done (s.gateWrite who (Reg.CRY_KS_CTRL_addr slot.val)
    (fun s => s.keyCtrl slot.val (2 ^ 29 + type.toNat * 2 ^ 24 + uses.toNat)))

/-- KEY_SLOT_ZERO (R307): a write of CRY_KS_CTRL with ZERO = 1 that repeats TYPE and USE. -/
def execKeySlotZero (who : Agent) (slot : Fin 32) (s : State) : Out :=
  done (s.gateWrite who (Reg.CRY_KS_CTRL_addr slot.val)
    (fun s => s.keyCtrl slot.val (2 ^ 28 + s.keyCtrlNow slot.val)))

/-- KEY_SLOT_LOCK (R307): a write of CRY_KS_CTRL with LOCK = 1 that repeats TYPE and USE. -/
def execKeySlotLock (who : Agent) (slot : Fin 32) (s : State) : Out :=
  done (s.gateWrite who (Reg.CRY_KS_CTRL_addr slot.val)
    (fun s => s.keyCtrl slot.val (2 ^ 30 + s.keyCtrlNow slot.val)))

/-! ## The secure image (R308, R309) -/

/-- The fields of an image header of 256 bytes (R308). -/
structure ImageHeader where
  magic : Nat
  version : Nat
  svn : Nat
  length : Nat
  load : Nat
  entry : Nat
  keyIndex : Nat
  pub : List Nat
  sig : List Nat
  deriving DecidableEq, Repr

/-- Bytes `[a, a + n)` of a list. -/
def slice (l : List Nat) (a n : Nat) : List Nat := (l.drop a).take n

/-- An image header read from its bytes. -/
def parseHeader (b : List Nat) : ImageHeader :=
  ⟨leValue (slice b 0 4), leValue (slice b 4 2), leValue (slice b 8 4), leValue (slice b 0xC 4),
   leValue (slice b 0x10 8), leValue (slice b 0x18 4), leValue (slice b 0x20 1), slice b 0x40 96, slice b 0xA0 96⟩

/-- The measurement (R308): SHA-384 over header bytes 0x00 to 0x9F followed by the body. -/
def measure (header body : List Nat) : List Nat := Crypto.sha384 (header.take 0xA0 ++ body)

/-- The range `[a, a + n)` lies in usable DRAM of one group. -/
def State.inDram (s : State) (a n : Nat) : Bool :=
  match s.target a, s.target (a + n - 1) with
  | .dram g _, .dram g' _ => g = g'
  | _, _ => false

/-- The kinds of image (R412): MAGIC, the flash offsets of slots A and B, and the slot size. -/
def kindMagic : Nat → Nat
  | 0 => 0x49534C50 | 1 => 0x46574C50 | _ => 0x53414650
def kindOffset (k : Nat) (b : Bool) : Nat :=
  match k, b with
  | 0, false => 0x100000 | 0, true => 0x1100000
  | 1, false => 0x2100000 | 1, true => 0x3100000
  | _, false => 0x4100000 | _, true => 0x4200000
def kindSize : Nat → Nat
  | 0 => 16 * 2 ^ 20 | 1 => 16 * 2 ^ 20 | _ => 2 ^ 20

/-- The checks of R309 on a header and body of an image kind, against the kind's own fused counter (R412), in their
order; OK when all pass. -/
def State.imageCheck (s : State) (k : Nat) (header body : List Nat) : Nat :=
  let h := parseHeader header
  if h.magic ≠ kindMagic k ∨ h.version ≠ 1 then Code.eVersion
  else if h.length = 0 ∨ h.length = 2 ^ 32 - 1 then Code.eLength
  else if h.load % 4096 ≠ 0 ∨ h.length % 4096 ≠ 0 then Code.eAlign
  else if kindSize k - 4096 < h.length ∨ !s.inDram h.load (h.length + 256) then Code.eBounds
  else if bitOf s.fuses.revoked h.keyIndex ∨ s.fuses.keyHash.getD h.keyIndex [] ≠ Crypto.sha384 h.pub then
    Code.eMeasure
  else if h.svn < s.fuses.svn.getD k 0 then Code.eRollback
  else if !Crypto.ecdsaVerify (measure header body) h.pub h.sig then Code.eMeasure
  else Code.ok

/-- `n` bytes of a flash from an offset. A flash is held as the complement of its bytes, so that erased flash (all
ones) lists nothing. -/
def flashBytes (f : List Host.Cell) (a n : Nat) : List Nat := (Memory.readBytes f a n).map (fun b => 255 - b)

/-- A flash programmed from an offset. -/
def flashProgram (f : List Host.Cell) (a : Nat) (bs : List Nat) : List Host.Cell :=
  Memory.writeBytes f a (bs.map (fun b => 255 - b % 256))

/-- `n` bytes of the boot NOR from an offset. -/
def State.norBytes (s : State) (a n : Nat) : List Nat := flashBytes s.nor a n

/-- The bytes of body that belong to a header: LENGTH, and none where the header's MAGIC, version or LENGTH already fails the
checks of R309, which then read no body. -/
def bodyLength (k : Nat) (header : List Nat) : Nat :=
  let h := parseHeader header
  if h.magic = kindMagic k ∧ h.version = 1 ∧ h.length ≤ kindSize k - 4096 then h.length else 0

/-- The header and the body of the image of a kind in a slot. -/
def State.slotImage (s : State) (k : Nat) (b : Bool) : List Nat × List Nat :=
  let header := s.norBytes (kindOffset k b) 256
  (header, s.norBytes (kindOffset k b + 256) (bodyLength k header))

/-- CRY_MEAS as bytes: word 0 holds the first four bytes of the digest, little-endian. -/
def State.measBytes (s : State) : List Nat :=
  ((List.range 12).map (fun i => leBytes 4 (s.get (Reg.CRY_MEAS_MEAS i)))).flatten

/-- A digest written into CRY_MEAS. -/
def State.setMeas (s : State) (d : List Nat) : State :=
  (List.range 12).foldl (fun s i => s.set (Reg.CRY_MEAS_MEAS i) (leValue (slice d (4 * i) 4))) s

/-- An image stored in memory at its load address (the boot security controller's own writes are unchecked, R311). -/
def State.loadImage (s : State) (header body : List Nat) : State :=
  let l := (parseHeader header).load
  { (s.wr l header).wr (l + 256) body with worlds := { s.worlds with imageLoad := l } }

/-- The image in memory measures as recorded at boot, and its signature verifies (R311 step 3). -/
def State.loadedImageOk (s : State) : Bool :=
  let header := s.rd s.worlds.imageLoad 256
  let h := parseHeader header
  let m := measure header (s.rd (s.worlds.imageLoad + 256) h.length)
  m = s.measBytes && Crypto.ecdsaVerify m h.pub h.sig

/-! ## Secure restart (R310, R311) -/

/-- Every forwarded call in flight returns E_UNAVAILABLE with its sequence number (R311 step 2). -/
def State.endCalls (s : State) : State :=
  let s' := s.worlds.calls.foldl (fun s c =>
    let (a2, s) := s.freeNat
    let (a3, s) := s.freeNat
    s.emit (.svc c.1 Code.eUnavailable c.2.seq (a2 % 2 ^ 64) (a3 % 2 ^ 64))) s
  { s' with worlds := { s'.worlds with calls := [] } }

/-- The secure cluster enters FAILED (R311). -/
def State.secureFailed (s : State) (code : Nat) : State :=
  let s := ((s.set Reg.CRY_SEC_STATE_STATE 3).set Reg.CRY_SEC_STATE_CODE code).fbInc 0x60A0 4
  { s with worlds := { s.worlds with restartPhase := 0 } }

/-- The restarts of the last 60 s. -/
def State.recentRestarts (s : State) : List Nat :=
  s.worlds.restarts.filter (fun t => s.datum < t + 60000000000)

/-- A restart of the secure cluster alone begins (R310, R311 steps 1 and 2): its ICN stacks are cleared without a
fault, the source 611 is raised, calls in flight end. One restart too many within 60 s enters FAILED instead; the
spec gives that failure no code, so the code is a free one of R19 or R20 (log entry 2). The cluster's caches are reset
(R310). -/
def State.secureRestart (s : State) : State :=
  let s := { ((s.emptyStack 32).emptyStack 33).endCalls with cache := s.cache.filter (fun l => l.quad != 4) }
  if s.recentRestarts.length < s.fbGet 0x7500 5 then
    let s := (((s.set Reg.CRY_SEC_STATE_STATE 2).inc Reg.CRY_SEC_STATE_RESTARTS).fbInc 0x60A0 3).raiseEdge 611
    { s with worlds := { s.worlds with restarts := s.datum :: s.recentRestarts, restartPhase := 1 } }
  else
    let (code, s) := s.freeNat
    s.secureFailed (failureCode code)

/-- The agent is a secure cluster core. -/
def isSec : Agent → Bool
  | .sec _ _ _ => true
  | _ => false

/-- CRY_SEC_CTRL.RESTART is set: from the secure cluster only. -/
def State.restartRequest (s : State) (who : Agent) : State :=
  if isSec who && s.get Reg.CRY_SEC_STATE_STATE = 1 then s.secureRestart else s

/-- SECURE_RESTART (R310): a write of CRY_SEC_CTRL.RESTART. -/
def execSecureRestart (who : Agent) (s : State) : Out :=
  done (s.gateWrite who Reg.CRY_SEC_CTRL_addr (fun s => s.restartRequest who))

/-- RESTART_MEASUREMENT_DONE (R311 steps 3 to 5): the measurement and the signature of the image in memory are
checked; a failure reloads it from the slot recorded at boot, a second one enters FAILED. -/
def execRestartMeasurementDone (s : State) : Out :=
  if s.get Reg.CRY_SEC_STATE_STATE ≠ 2 then done s
  else if s.worlds.restartPhase = 1 ∨ s.worlds.restartPhase = 2 then
    if s.loadedImageOk then done { s with worlds := { s.worlds with restartPhase := 3 } }
    else if s.worlds.restartPhase = 1 then
      let img := s.slotImage 0 (s.bit Reg.CRY_SEC_STATE_SLOT)
      let s := s.loadImage img.1 img.2
      done { s with worlds := { s.worlds with restartPhase := 2 } }
    else done (s.secureFailed Code.eMeasure)
  else done s

/-- CRY_SEC_CTRL.READY is set by the secure firmware; ignored outside RESTARTING. -/
def State.readyRequest (s : State) (who : Agent) : State :=
  if isSec who && s.get Reg.CRY_SEC_STATE_STATE = 2 && s.worlds.restartPhase = 3 then
    let s := s.set Reg.CRY_SEC_STATE_STATE 1
    { s with worlds := { s.worlds with restartPhase := 0 } }
  else s

/-- SECURE_READY (R311 step 6): a write of CRY_SEC_CTRL.READY. -/
def execSecureReady (who : Agent) (s : State) : Out :=
  done (s.gateWrite who Reg.CRY_SEC_CTRL_addr (fun s => s.readyRequest who))

/-- A write of CRY_SWD_KICK: 0xA5C3 from the secure cluster restarts the operational count. -/
def State.swdKick (s : State) (who : Agent) (key : Nat) : State :=
  if isSec who && key = 0xA5C3 then { s with worlds := { s.worlds with swdStart := s.datum } } else s

/-- SWD_KICK (R315). -/
def execSwdKick (who : Agent) (key : BitVec 16) (s : State) : Out :=
  done (s.gateWrite who Reg.CRY_SWD_KICK_addr (fun s => s.swdKick who key.toNat))

/-- SECURE_WATCHDOG_EXPIRY (R310): the operational count of TIMEOUT_MS runs out while EN = 1 and the cluster runs. -/
def execSecureWatchdogExpiry (s : State) : Out :=
  if s.bit Reg.CRY_SWD_CTRL_EN && s.get Reg.CRY_SEC_STATE_STATE = 1 then
    let s := s.advanceTo (s.worlds.swdStart + s.get Reg.CRY_SWD_CTRL_TIMEOUT_MS * 1000000)
    let s := s.secureRestart
    done { s with worlds := { s.worlds with swdStart := s.datum } }
  else done s

/-- SECURE_WATCHDOG_TEST_EXPIRY (R315): the 1 ms test count runs out; EXPIRED_TEST is set and nothing restarts. -/
def execSecureWatchdogTestExpiry (s : State) : Out :=
  match s.worlds.swdTest, s.bit Reg.CRY_SWD_CTRL_TEST with
  | some t, true =>
    let s := (s.advanceTo (t + 1000000)).set Reg.CRY_SWD_CTRL_EXPIRED_TEST 1
    done { s with worlds := { s.worlds with swdTest := none } }
  | _, _ => done s

/-- A write of CRY_SWD_CTRL (R315, R13, R445): EN by setting, TEST from pair B only, TIMEOUT_MS only while EN = 0. -/
def State.writeSwdCtrl (s : State) (who : Agent) (v : Nat) : State :=
  let s := s.report (if s.bit Reg.CRY_SWD_CTRL_EN && s.get Reg.CRY_SWD_CTRL_TIMEOUT_MS != bitsOf v 15 0 then Code.eState else Code.ok)
  let s := if s.bit Reg.CRY_SWD_CTRL_EN then s else s.set Reg.CRY_SWD_CTRL_TIMEOUT_MS (bitsOf v 15 0)
  let s := if bitOf v 29 then s.set Reg.CRY_SWD_CTRL_EXPIRED_TEST 0 else s
  let s := if who = .pairB then
      let started := bitOf v 30 && !s.bit Reg.CRY_SWD_CTRL_TEST
      let s := s.setBit Reg.CRY_SWD_CTRL_TEST (bitOf v 30)
      { s with worlds := { s.worlds with
          swdTest := if !bitOf v 30 then none else if started then some s.datum else s.worlds.swdTest } }
    else s
  if bitOf v 31 && !s.bit Reg.CRY_SWD_CTRL_EN then
    let s := s.set Reg.CRY_SWD_CTRL_EN 1
    { s with worlds := { s.worlds with swdStart := s.datum } }
  else s

/-! ## Leases (R313) -/

/-- The leases about to change are in force until the end of the clock (R316). -/
def State.noteLeases (s : State) : State :=
  if s.worlds.leaseWas.1 = s.datum ∧ 0 < s.datum then s
  else { s with worlds := { s.worlds with leaseWas := (s.datum, s.get Reg.PMU_LEASE_PD_PD, s.get Reg.PMU_LEASE_CLK_CLK) } }

/-- The leased power domains and clock domains, those whose lease is cleared in this clock included. -/
def State.leasedPd (s : State) : Nat :=
  s.get Reg.PMU_LEASE_PD_PD ||| (if s.worlds.leaseWas.1 = s.datum then s.worlds.leaseWas.2.1 else 0)
def State.leasedClk (s : State) : Nat :=
  s.get Reg.PMU_LEASE_CLK_CLK ||| (if s.worlds.leaseWas.1 = s.datum then s.worlds.leaseWas.2.2 else 0)

/-- LEASE_WRITE (R313): a write of PMU_LEASE_PD, or with `clk` of PMU_LEASE_CLK; the Secure world's only (R299). -/
def execLeaseWrite (who : Agent) (clk : Bool) (value : BitVec 64) (s : State) : Out :=
  if clk then done (s.gateWrite who Reg.PMU_LEASE_CLK_addr (fun s => s.noteLeases.set Reg.PMU_LEASE_CLK_CLK value.toNat))
  else done (s.gateWrite who Reg.PMU_LEASE_PD_addr (fun s => s.noteLeases.set Reg.PMU_LEASE_PD_PD value.toNat))

end Sys2Proof.Machine
end

