-- ==== Sys2Proof/Machine/Queues.lean ====
section
/-! DEFINITION. Queue configuration (R157–R159, R189), memory channels and cache ways (R166–R169), virtual tensor
engines with freeze and restore (R171–R175), and jobs and collectives over several packages (R176–R181). -/

namespace Sys2Proof.Machine
open Sys2Proof

/-! ## Queue configuration -/

def qStatusF (k : Nat) : Field := qSel k Reg.MBX_QC_STATUS_LAST Reg.PLB_QC_STATUS_LAST
def qCompatF (k : Nat) : Field := qSel k Reg.MBX_QC_ATTR_COMPAT Reg.PLB_QC_ATTR_COMPAT
def qVteEnF (k : Nat) : Field := qSel k Reg.MBX_QC_ATTR_VTE_EN Reg.PLB_QC_ATTR_VTE_EN
def qVteF (k : Nat) : Field := qSel k Reg.MBX_QC_ATTR_VTE Reg.PLB_QC_ATTR_VTE
def qLiveBase (k : Nat) : Field := qSel k Reg.MBX_QC_LIVE_BASE_BASE Reg.PLB_QC_LIVE_BASE_BASE
def qSaveBase (k : Nat) : Field := qSel k Reg.MBX_QC_SAVE_BASE_BASE Reg.PLB_QC_SAVE_BASE_BASE
def qSaveSize (k : Nat) : Field := qSel k Reg.MBX_QC_SAVE_SIZE_SIZE Reg.PLB_QC_SAVE_SIZE_SIZE
def qAttrAddr (k : Nat) : Nat := if isPlumb k then Reg.PLB_QC_ATTR_addr (k - 256) else Reg.MBX_QC_ATTR_addr k

/-- The enabled queues of a VTE. -/
def State.vteQueues (s : State) (v : Nat) : List Nat :=
  (List.range 256).filter (fun q => s.bit (Reg.MBX_QC_ATTR_EN q) && s.bit (Reg.MBX_QC_ATTR_VTE_EN q) &&
    s.get (Reg.MBX_QC_ATTR_VTE q) = v)

def badLog2 (x : Nat) : Bool := decide (x < 4) || decide (16 < x)

/-- The check that setting EN of a queue makes (R157, R158, R171, R189), in the order of R25. -/
def State.queueCheck (s : State) (k : Nat) : Nat :=
  let v := s.get (qVteF k)
  let vte := s.bit (qVteEnF k)
  let live := s.get (qLiveBase k)
  firstCode
    [(badLog2 (s.get (qLog2 k)) || badLog2 (s.get (qCLog2 k)) || (!s.bit (qCompatF k) && live != 0) ||
        (isPlumb k && (s.bit (qCompatF k) || vte || v != 0 || live != 0 || s.get (qSaveBase k) != 0 ||
          s.get (qSaveSize k) != 0)), Code.eIllegal),
     (s.get (qTtCount k) = 0 || s.get (qTtCount k) = 0xFFF || s.get (qSaveSize k) = 0xFFFFFFFF, Code.eLength),
     (s.get (qRingBase k) % 4096 != 0 || s.get (qCplBase k) % 4096 != 0 || s.get (qTtBase k) % 64 != 0 ||
        s.get (qSaveBase k) % 64 != 0 || s.get (qSaveSize k) % 64 != 0, Code.eAlign),
     (!isPlumb k && vte && decide (8 ≤ ((s.vteQueues v).filter (· != k)).length), Code.eBounds),
     (!isPlumb k && vte && s.get (Reg.MBX_VTE_CTRL_PARTITION v) != s.get (qPartF k), Code.eAccess),
     (!isPlumb k && vte && !s.bit (Reg.MBX_VTE_CTRL_EN v), Code.eState)]

/-- A queue is enabled: its pointers and its commit sequence start at 0. -/
def State.queueStart (s : State) (k : Nat) : State :=
  let s := ((s.set (qRptr k) 0).set (qWptr k) 0).set (qCplWptr k) 0
  let s := ((s.set (qCplRptr k) 0).set (qCseq k) 0).set (qStopped k) 0
  s.set (qEnCopy k) 1

/-- The EN register of a queue with the fields of a written value. -/
def queueReg (k value : Nat) : EnReg :=
  { en := qEn k, status := qStatusF k
    locked := [(qCompatF k, bitsOf value 30 30), (qVteEnF k, bitsOf value 21 21), (qVteF k, bitsOf value 20 16),
      (qSecureF k, bitsOf value 15 15), (qPartF k, bitsOf value 13 8)]
    free := [(qPrioF k, bitsOf value 26 24)]
    check := fun s => s.queueCheck k
    mayClear := fun s => if (s.job k).isSome then Code.eBusy else Code.ok
    onEnable := fun s => s.queueStart k
    onDisable := fun s => s.set (qEnCopy k) 0 }

/-- QUEUE_ENABLE: a write of the ATTR register with EN = 1 (R445). -/
def execQueueEnable (who : Agent) (eng : Engine) (queue : Fin 256) (value : BitVec 32) (s : State) : Out :=
  let k := qKey eng queue.val
  done (s.gateWrite who (qAttrAddr k) (fun s => s.enWrite (queueReg k value.toNat) true))

/-- QUEUE_DISABLE: a write of the ATTR register with EN = 0. -/
def execQueueDisable (who : Agent) (eng : Engine) (queue : Fin 256) (value : BitVec 32) (s : State) : Out :=
  let k := qKey eng queue.val
  done (s.gateWrite who (qAttrAddr k) (fun s => s.enWrite (queueReg k value.toNat) false))

/-! ## Channel groups and cache ways (R166–R168) -/

def State.ddrStatus (s : State) (c : Nat) : State := s.set Reg.DDR_CMD_STATUS_STATUS c

/-- The pool number of a DRAM controller's entries of a partition. -/
def dramPool (channel part : Nat) : Nat := 1000 + channel * 64 + part

/-- A group's controllers hold entries of a partition. -/
def State.groupHolds (s : State) (g p : Nat) : Bool :=
  (KMap.getD s.opPools (dramPool (2 * g) p) {}).used != 0 || (KMap.getD s.opPools (dramPool (2 * g + 1) p) {}).used != 0

/-- The partitions that a group serves: its owner and sharers. -/
def groupMask (owner sharers : Nat) : Nat := sharers ||| 2 ^ owner

/-- The group's controllers hold entries of a partition that a change removes. -/
def State.removesHeld (s : State) (g owner sharers : Nat) : Bool :=
  let old := groupMask (s.get (Reg.DDR_CG_CTRL_OWNER g)) (s.get (Reg.DDR_CG_SHARE_SHARERS g))
  (List.range 64).any (fun p => bitOf old p && !bitOf (groupMask owner sharers) p && s.groupHolds g p)

/-- A write of DDR_CG_CTRLg (R168). -/
def State.writeGroup (s : State) (g owner reserve : Nat) : State :=
  if reserve < 512 ∨ 1024 < reserve ∨ bitOf (s.get (Reg.DDR_CG_SHARE_SHARERS g)) owner then s.ddrStatus Code.eIllegal
  else if s.bit Reg.DDR_PART_LOCK_LOCK then s.ddrStatus Code.eState
  else if s.removesHeld g owner (s.get (Reg.DDR_CG_SHARE_SHARERS g)) then s.ddrStatus Code.eBusy
  else ((s.set (Reg.DDR_CG_CTRL_OWNER g) owner).set (Reg.DDR_CG_CTRL_OWNER_RES g) reserve).ddrStatus Code.ok

/-- A write of DDR_CG_SHAREg. -/
def State.writeShare (s : State) (g sharers : Nat) : State :=
  if bitOf sharers (s.get (Reg.DDR_CG_CTRL_OWNER g)) then s.ddrStatus Code.eIllegal
  else if s.bit Reg.DDR_PART_LOCK_LOCK then s.ddrStatus Code.eState
  else if s.removesHeld g (s.get (Reg.DDR_CG_CTRL_OWNER g)) sharers then s.ddrStatus Code.eBusy
  else (s.set (Reg.DDR_CG_SHARE_SHARERS g) sharers).ddrStatus Code.ok

/-- The owner field of cache way `w`. -/
def wayOwner (w : Nat) : Field :=
  match w % 4 with
  | 0 => Reg.DDR_WAY_MAP_OWNER0 (w / 4) | 1 => Reg.DDR_WAY_MAP_OWNER1 (w / 4)
  | 2 => Reg.DDR_WAY_MAP_OWNER2 (w / 4) | _ => Reg.DDR_WAY_MAP_OWNER3 (w / 4)

/-- A write of DDR_WAY_MAPr: a way whose owner changes is written back and invalidated before it serves the new one;
further writes are busy until then. -/
def State.writeWays (s : State) (r v : Nat) : State :=
  if s.bit Reg.DDR_PART_LOCK_LOCK then s.ddrStatus Code.eState
  else if !s.eng.cleaning.isEmpty then s.ddrStatus Code.eBusy
  else
    let ways := (List.range 4).map (fun i => 4 * r + i)
    let moved := ways.filter (fun w => s.get (wayOwner w) != bitsOf v (8 * (w % 4) + 5) (8 * (w % 4)))
    let s := ways.foldl (fun s w => s.set (wayOwner w) (bitsOf v (8 * (w % 4) + 5) (8 * (w % 4)))) s
    { s with eng := { s.eng with cleaning := moved } }.ddrStatus Code.ok

/-- PARTITION_LOCK (R168). -/
def execPartitionLock (who : Agent) (s : State) : Out :=
  done (s.gateWrite who Reg.DDR_PART_LOCK_addr (fun s => s.set Reg.DDR_PART_LOCK_LOCK 1))

/-- CHANNEL_GROUP_OWNER_WRITE (R168). -/
def execChannelGroupOwnerWrite (who : Agent) (group : Fin 12) (owner : BitVec 6) (reserve : BitVec 11) (s : State) : Out :=
  done (s.gateWrite who (Reg.DDR_CG_CTRL_addr group.val) (fun s => s.writeGroup group.val owner.toNat reserve.toNat))

/-- CHANNEL_GROUP_SHARE_WRITE (R168). -/
def execChannelGroupShareWrite (who : Agent) (group : Fin 12) (sharers : BitVec 64) (s : State) : Out :=
  done (s.gateWrite who (Reg.DDR_CG_SHARE_addr group.val) (fun s => s.writeShare group.val sharers.toNat))

/-- WAY_MAP_WRITE (R167, R168). -/
def execWayMapWrite (who : Agent) (register : Fin 4) (value : BitVec 32) (s : State) : Out :=
  done (s.gateWrite who (Reg.DDR_WAY_MAP_addr register.val) (fun s => s.writeWays register.val value.toNat))

/-- WAY_CLEAN_DONE (R167): a reassigned way has been cleaned. -/
def execWayCleanDone (way : Fin 16) (s : State) : Out :=
  if s.eng.cleaning.contains way.val then
    done ({ s with eng := { s.eng with cleaning := s.eng.cleaning.filter (· != way.val) } }.set Reg.DDR_EVENTS_WAY_CLEAN 1)
  else done s

/-! ## Virtual tensor engines (R171–R175) -/

def State.vteState (s : State) (v : Nat) : Nat := s.get (Reg.MBX_VTE_STATUS_STATE v)
def State.vteCode (s : State) (v c : Nat) : State := s.set (Reg.MBX_VTE_STATUS_CODE v) c

/-- The sequence rows of a VTE's queues. -/
def State.vteRows (s : State) (qs : List Nat) : List Nat :=
  (s.eng.rows.filter (fun p => p.2.state != 0 && qs.contains p.2.queue)).map Prod.fst

/-- The pools that rows belong to. -/
def State.poolsOf (s : State) (rows : List Nat) : List Nat :=
  (List.range 16).filter (fun i => (s.pool i).isSome && rows.any (fun r => (s.row r).pool = i))

/-- Clearing EN in FROZEN releases the VTE's queues, rows and pools. -/
def State.vteRelease (s : State) (v : Nat) : State :=
  let qs := s.vteQueues v
  let rows := s.vteRows qs
  let pools := s.poolsOf rows
  let s := rows.foldl (fun s r => s.setRow r {}) s
  let s := { s with eng := { s.eng with
      pools := s.eng.pools.filter (fun p => !pools.contains p.1),
      train := s.eng.train.filter (fun p => !qs.contains p.1) } }
  qs.foldl (fun s q => (s.set (qEn q) 0).set (qEnCopy q) 0) s

/-- The EN register of a VTE. -/
def vteReg (v value : Nat) : EnReg :=
  { en := Reg.MBX_VTE_CTRL_EN v, status := Reg.MBX_VTE_STATUS_CODE v
    locked := [(Reg.MBX_VTE_CTRL_PARTITION v, bitsOf value 13 8)]
    free := [(Reg.MBX_VTE_CTRL_IMMEDIATE v, bitsOf value 2 2)]
    check := fun s =>
      if (clusterList (s.get (Reg.MBX_VTE_SHARE_CLUSTERS v))).any (fun c => !s.clusterOn c) then Code.eUnavailable
      else Code.ok
    mayClear := fun s =>
      if s.vteState v = 2 ∨ s.vteState v = 4 then Code.eBusy
      else if s.vteState v != 3 && !(s.vteQueues v).isEmpty then Code.eBusy
      else Code.ok
    onEnable := fun s => s.set (Reg.MBX_VTE_STATUS_STATE v) 1
    onDisable := fun s =>
      (if s.vteState v = 3 then s.vteRelease v else s).set (Reg.MBX_VTE_STATUS_STATE v) 0 }

/-- An admitted job of a VTE that freezes at once is preempted (R173): its command is killed without a save and the
job leaves admission; in compatibility mode RPTR returns to its first descriptor; its open step rolls back. -/
def State.freezeJob (s : State) (k : Nat) : State :=
  match s.job k with
  | none => s
  | some j =>
    let s := ((s.tellKill k 0).preemptCmd k).rollbackJob k j.num
    let s := if s.qCompat k then (s.set (qRptr k) j.first).set (qSaved k) 0 else s
    (s.delJob k).set (qAdmitted k) 0

/-- FREEZE (R173). -/
def State.freeze (s : State) (v : Nat) : State :=
  match s.vteState v with
  | 1 =>
    let s := (s.set (Reg.MBX_VTE_STATUS_STATE v) 2).vteCode v Code.ok
    if s.bit (Reg.MBX_VTE_CTRL_IMMEDIATE v) then (s.vteQueues v).foldl State.freezeJob s else s
  | 2 => s.vteCode v Code.eBusy
  | 4 => s.vteCode v Code.eBusy
  | _ => s.vteCode v Code.eState

/-! ### The save image (R174) -/

/-- A queue's record (128 bytes). -/
def State.queueRecord (s : State) (q : Nat) : List Nat :=
  let attr := 2 ^ 31 * s.get (qEn q) + 2 ^ 30 * s.get (qCompatF q) + 2 ^ 24 * s.get (qPrioF q) +
    2 ^ 21 * s.get (qVteEnF q) + 2 ^ 16 * s.get (qVteF q) + 2 ^ 15 * s.get (qSecureF q) + 2 ^ 8 * s.get (qPartF q)
  let t := (s.training q).getD ⟨0, 0, 0, 0, 0⟩
  leBytes 4 q ++ leBytes 4 attr ++ leBytes 8 (s.get (qRingBase q)) ++ leBytes 8 (s.get (qCplBase q)) ++
    leBytes 8 (s.get (qTtBase q)) ++ leBytes 8 (s.get (qLiveBase q)) ++ leBytes 8 (s.get (qSaveBase q)) ++
    leBytes 4 (s.get (qLog2 q) + 2 ^ 8 * s.get (qCLog2 q) + 2 ^ 16 * s.get (qTtCount q)) ++
    leBytes 4 (s.get (qSaveSize q)) ++ leBytes 4 (s.get (qRptr q)) ++ leBytes 4 (s.get (qWptr q)) ++
    leBytes 4 (s.get (qCplWptr q)) ++ leBytes 4 (s.get (qCplRptr q)) ++ leBytes 4 (s.get (qCseq q)) ++ leBytes 4 0 ++
    leBytes 8 t.arena ++ leBytes 4 t.step ++ leBytes 4 t.p1 ++ leBytes 4 t.p2 ++ leBytes 4 t.ckpt ++
    List.replicate 24 0

/-- A pool's record (64 bytes): the fields of R128 in table order, each in its least number of bytes, the pool number
and the free counts. The spec's 64 bytes do not hold them at 4-byte alignment (DESIGN CHOICE: log entry 27). -/
def poolRecord (i : Nat) (p : KvPool) : List Nat :=
  [p.partition, p.fmt, p.headsKv] ++ leBytes 2 p.headDim ++ [p.layers] ++ leBytes 2 p.ptPages ++
    leBytes 3 p.pageCount ++ leBytes 6 p.base ++ leBytes 3 p.spillPages ++ leBytes 6 p.spillBase ++
    (List.range 8).flatMap (fun b => leBytes 3 (nthNat p.buckets b)) ++ [i + 16 * b2n p.secure] ++
    leBytes 3 (p.pageCount - p.used.length) ++ leBytes 3 (p.spillPages - p.spillUsed.length) ++ List.replicate 7 0

/-- A row's page-table entries: layer by layer, logical pages 0 to ⌈LEN / 16⌉ − 1. -/
def SeqRow.entries (r : SeqRow) (p : KvPool) : List Nat :=
  (List.range p.layers).flatMap (fun l => (List.range (ceilDiv r.len 16)).map (fun i =>
    match KMap.find r.pt (l * p.ptPages + i) with
    | some e => pageEntry e
    | none => 0))

def State.rowEntries (s : State) (r : Nat) : List Nat :=
  match s.pool (s.row r).pool with
  | some p => (s.row r).entries p
  | none => []

/-- The image without its MAC. -/
def State.imageBody (s : State) (v : Nat) : List Nat :=
  let qs := s.vteQueues v
  let rows := s.vteRows qs
  let pools := s.poolsOf rows
  let ptes := rows.flatMap s.rowEntries
  let qoff := 256
  let poff := qoff + 128 * qs.length
  let roff := poff + 64 * pools.length
  let ptoff := roff + 40 * rows.length
  let len := ptoff + 4 * ptes.length
  let dev := s.regVal Reg.SYS_DEVICE_ID_addr
  let hdr := leBytes 4 1 ++ leBytes 4 (0x9880 + 2 ^ 16 * (dev % 256) + 2 ^ 24 * s.package) ++
    leBytes 4 (v + 2 ^ 8 * s.get (Reg.MBX_VTE_CTRL_PARTITION v) + 2 ^ 16 * qs.length + 2 ^ 20 * pools.length) ++
    leBytes 4 len ++
    leBytes 8 (s.get (Reg.MBX_VTE_SHARE_CLUSTERS v) + 2 ^ 16 * s.get (Reg.MBX_VTE_SHARE_TILES v)) ++
    leBytes 8 s.datum ++ leBytes 4 rows.length ++ leBytes 4 ptes.length ++
    leBytes 4 qoff ++ leBytes 4 poff ++ leBytes 4 roff ++ leBytes 4 ptoff
  hdr ++ List.replicate (256 - hdr.length) 0 ++ qs.flatMap s.queueRecord ++
    pools.flatMap (fun i => match s.pool i with | some p => poolRecord i p | none => []) ++
    rows.flatMap (fun r => leBytes 4 r ++ leBytes 4 (s.rowEntries r).length ++ (s.row r).bytes) ++
    ptes.flatMap (leBytes 4)

/-- The key of the image MAC: the slot of FB 0x7003.01, which must carry USE_IMAGE (R312). -/
def State.imageKey (s : State) : Option (List Nat) :=
  match KMap.find s.worlds.keys (s.fbGet 0x7003 1) with
  | some c => if bitOf c.uses 3 then some c.key else none
  | none => none

/-- The first 8 bytes of the CMAC over an image with bytes 0xF8–0xFF as zero. -/
def imageMac (key img : List Nat) : List Nat :=
  (Crypto.cmac key (img.take 0xF8 ++ List.replicate 8 0 ++ img.drop 0x100)).take 8

/-- VTE_FREEZE_COMPLETE (R173, R174): no job of the VTE is admitted any more; open steps roll back, the image is
written and the VTE is FROZEN. -/
def State.freezeComplete (s : State) (v : Nat) : State :=
  let qs := s.vteQueues v
  if s.vteState v ≠ 2 ∨ qs.any (fun q => (s.job q).isSome) then s
  else
    let s := (s.eng.steps.filter (fun p => qs.contains p.2.queue)).foldl (fun s p => s.rollback p.1 p.2) s
    let body := s.imageBody v
    let back := fun (s : State) (c : Nat) => (s.set (Reg.MBX_VTE_STATUS_STATE v) 1).vteCode v c
    if 0x100000 < body.length then back s Code.eBounds
    else match s.imageKey with
      | none => back s Code.eKeyUse
      | some key =>
        let a := s.get (Reg.MBX_VTE_IMAGE_ADDR v)
        match s.reach ⟨true, 0⟩ true a body.length with
        | (.ok, s) =>
          let s := s.wr a (body.take 0xF8 ++ imageMac key body ++ body.drop 0x100)
          let s := (s.set (Reg.MBX_VTE_IMAGE_LEN_LEN v) body.length).set (Reg.MBX_VTE_STATUS_STATE v) 3
          (s.vteCode v Code.ok).fbInc 0x6030 0xC
        | (r, s) => back s r.code

/-! ### Restore (R175) -/

/-- The image's fields that a restore reads: queue, pool and row numbers. -/
def State.imageRows (s : State) (a : Nat) : List Nat :=
  (List.range (s.rdLe (a + 0x20) 2 % 8192)).map (fun i => s.rdLe (a + s.rdLe (a + 0x30) 4 + 40 * i) 4 % 4096)
def State.imageQueues (s : State) (a : Nat) : List Nat :=
  (List.range (s.rdLe (a + 0xA) 1 % 16)).map (fun i => s.rdLe (a + s.rdLe (a + 0x28) 4 + 128 * i) 4 % 256)
def State.imagePoolCount (s : State) (a : Nat) : Nat := s.rdLe (a + 8) 4 / 2 ^ 20 % 32
def State.imagePool (s : State) (a i : Nat) : Nat × KvPool :=
  let b := a + s.rdLe (a + 0x2C) 4 + 64 * i
  let f := fun o n => s.rdLe (b + o) n
  (f 50 1 % 16,
   { partition := f 0 1, fmt := f 1 1, headsKv := f 2 1, headDim := f 3 2, layers := f 5 1, ptPages := f 6 2,
     pageCount := f 8 3, base := f 11 6, spillPages := f 17 3, spillBase := f 20 6,
     buckets := (List.range 8).map (fun j => f (26 + 3 * j) 3), secure := bitOf (f 50 1) 4 })

/-- The row of a 32-byte image. -/
def State.rowAt (s : State) (a : Nat) : SeqRow :=
  let w := s.rdLe a 4
  { state := w % 8, spillable := bitOf w 3, leaving := bitOf w 4, bucket := bitsOf w 7 5, pool := bitsOf w 11 8,
    prio := bitsOf w 23 16, len := s.rdLe (a + 4) 4, pend := s.rdLe (a + 8) 4, queue := s.rdLe (a + 0xC) 1,
    newKv := bitsOf (s.rdLe (a + 0xC) 4) 19 8, ptBase := s.rdLe (a + 0x10) 6, job := s.rdLe (a + 0x18) 2,
    step := s.rdLe (a + 0x1C) 4 }

/-- Row record `i` with its entries from entry `e` on; entries of a row without pages in the image are none. -/
def State.restoreRow (s : State) (a i e : Nat) : State × Nat :=
  let b := a + s.rdLe (a + 0x30) 4 + 40 * i
  let n := s.rdLe (b + 4) 4
  let row := s.rowAt (b + 8)
  match s.pool row.pool with
  | none => (s, e + n)
  | some p =>
    let perLayer := ceilDiv row.len 16
    let ents := (List.range n).map (fun j =>
      let x := s.rdLe (a + s.rdLe (a + 0x34) 4 + 4 * (e + j)) 4
      ((if perLayer = 0 then 0 else j / perLayer * p.ptPages + j % perLayer), (bitOf x 30, x % 2 ^ 20), bitOf x 31))
    let live := ents.filter (fun x => x.2.2)
    let pt := live.foldl (fun m x => KMap.put m x.1 x.2.1) []
    let p := { p with used := p.used ++ (live.filter (fun x => !x.2.1.1)).map (fun x => x.2.1.2),
                      spillUsed := p.spillUsed ++ (live.filter (fun x => x.2.1.1)).map (fun x => x.2.1.2) }
    ((s.setPool row.pool p).setRow (s.rdLe b 4 % 4096) { row with pt := pt }, e + n)

/-- Queue record `i` of an image is taken back. -/
def State.restoreQueue (s : State) (a i : Nat) : State :=
  let b := a + s.rdLe (a + 0x28) 4 + 128 * i
  let f := fun o n => s.rdLe (b + o) n
  let q := f 0 4 % 256
  let at' := f 4 4
  let s := (((((s.set (qEn q) (bitsOf at' 31 31)).set (qEnCopy q) (bitsOf at' 31 31)).set (qCompatF q) (bitsOf at' 30 30)).set
    (qPrioF q) (bitsOf at' 26 24)).set (qVteEnF q) (bitsOf at' 21 21)).set (qVteF q) (bitsOf at' 20 16)
  let s := (s.set (qSecureF q) (bitsOf at' 15 15)).set (qPartF q) (bitsOf at' 13 8)
  let s := ((((s.set (qRingBase q) (f 8 8)).set (qCplBase q) (f 0x10 8)).set (qTtBase q) (f 0x18 8)).set
    (qLiveBase q) (f 0x20 8)).set (qSaveBase q) (f 0x28 8)
  let s := ((s.set (qLog2 q) (f 0x30 4)).set (qCLog2 q) (f 0x31 1)).set (qTtCount q) (f 0x32 2)
  let s := (((s.set (qSaveSize q) (f 0x34 4)).set (qRptr q) (f 0x38 4)).set (qWptr q) (f 0x3C 4)).set (qCplWptr q) (f 0x40 4)
  let s := (s.set (qCplRptr q) (f 0x44 4)).set (qCseq q) (f 0x48 4)
  let s := ((s.set (qStopped q) 0).set (qSaved q) 0).set (qAdmitted q) 0
  if f 0x50 8 = 0 then s
  else { s with eng := { s.eng with train := KMap.put s.eng.train q ⟨f 0x50 6, f 0x58 4, f 0x5C 4, f 0x60 4, f 0x64 4⟩ } }

/-- The checks of a restore from an image (R175). -/
def State.imageChk (s : State) (v a : Nat) : Nat :=
  let len := s.rdLe (a + 0xC) 4 % 2 ^ 21
  let img := s.rd a len
  let mask := s.rdLe (a + 0x10) 2
  let macOk := match s.imageKey with
    | some key => decide (0x100 ≤ len) && decide (len ≤ 0x100000) && imageMac key img = (img.drop 0xF8).take 8
    | none => false
  firstCode
    [(s.rdLe a 2 != 1 || s.rdLe (a + 4) 2 != 0x9880, Code.eVersion),
     (!macOk, Code.eImage),
     ((clusterList mask).any (fun c => !s.clusterOn c), Code.eUnavailable),
     (s.rdLe (a + 8) 1 % 32 != v || (s.imageQueues a).any (fun q => s.bit (qEn q)) ||
        (List.range (s.imagePoolCount a)).any (fun i => (s.pool (s.imagePool a i).1).isSome) ||
        (s.imageRows a).any (fun r => (s.row r).state != 0), Code.eBusy)]

/-- Everything in an image is taken back. -/
def State.restoreImage (s : State) (v a : Nat) : State :=
  let s := (List.range (s.imagePoolCount a)).foldl (fun s i =>
    let (n, p) := s.imagePool a i
    s.setPool n p) s
  let s := ((List.range (s.imageRows a).length).foldl (fun acc i => acc.1.restoreRow a i acc.2) (s, 0)).1
  let s := (List.range (s.imageQueues a).length).foldl (fun s i => s.restoreQueue a i) s
  let s := ((s.set (Reg.MBX_VTE_CTRL_EN v) 1).set (Reg.MBX_VTE_CTRL_PARTITION v) (s.rdLe (a + 9) 1)).set
    (Reg.MBX_VTE_SHARE_CLUSTERS v) (s.rdLe (a + 0x10) 2)
  ((s.set (Reg.MBX_VTE_SHARE_TILES v) (s.rdLe (a + 0x12) 1)).set (Reg.MBX_VTE_STATUS_STATE v) 1).fbInc 0x6030 0xD

/-- RESTORE (R175). -/
def State.restore (s : State) (v : Nat) : State :=
  match s.vteState v with
  | 3 => ((s.set (Reg.MBX_VTE_STATUS_STATE v) 1).vteCode v Code.ok).admitJobs
  | 0 =>
    let a := s.get (Reg.MBX_VTE_IMAGE_ADDR v)
    if a % 4096 ≠ 0 then s.vteCode v Code.eAlign
    else match s.reach ⟨true, 0⟩ false a 0x100000 with
      | (.ok, s) =>
        let c := s.imageChk v a
        if c = Code.ok then ((s.restoreImage v a).vteCode v Code.ok).admitJobs else s.vteCode v c
      | (r, s) => s.vteCode v r.code
  | 1 => s.vteCode v Code.eState
  | _ => s.vteCode v Code.eBusy

/-- A write of MBX_VTE_CTRL: EN and its fields first, then FREEZE or RESTORE, unless the write is refused whole (R445). -/
def State.vteCtrl (s : State) (v value : Nat) (newEn freeze restore : Bool) : State :=
  let refused := s.enRefused (vteReg v value) newEn
  let s := s.enWrite (vteReg v value) newEn
  if refused then s else if freeze then s.freeze v else if restore then s.restore v else s

/-- A write of MBX_VTE_SHARE: while EN = 1 a share that names a disabled cluster is refused (R6); while EN = 0 setting EN
checks it (R172). -/
def State.vteShare (s : State) (v value : Nat) : State :=
  if s.bit (Reg.MBX_VTE_CTRL_EN v) && (clusterList (value % 65536)).any (fun c => !s.clusterOn c) then
    s.vteCode v Code.eUnavailable
  else ((s.set (Reg.MBX_VTE_SHARE_CLUSTERS v) (value % 65536)).set (Reg.MBX_VTE_SHARE_TILES v) (bitsOf value 23 16)).vteCode v Code.ok

/-- VTE_ENABLE (R172). -/
def execVteEnable (who : Agent) (vte : Fin 32) (value : BitVec 32) (s : State) : Out :=
  done (s.gateWrite who (Reg.MBX_VTE_CTRL_addr vte.val) (fun s => s.vteCtrl vte.val value.toNat true false false))

/-- VTE_DISABLE (R172). -/
def execVteDisable (who : Agent) (vte : Fin 32) (value : BitVec 32) (s : State) : Out :=
  done (s.gateWrite who (Reg.MBX_VTE_CTRL_addr vte.val) (fun s => s.vteCtrl vte.val value.toNat false false false))

/-- The control word as it stands, with IMMEDIATE as given. -/
def State.vteWord (s : State) (v : Nat) (immediate : Bool) : Nat :=
  2 ^ 8 * s.get (Reg.MBX_VTE_CTRL_PARTITION v) + 4 * b2n immediate

/-- VTE_FREEZE (R173): FREEZE is set with EN kept. -/
def execVteFreeze (who : Agent) (vte : Fin 32) (immediate : Bool) (s : State) : Out :=
  let v := vte.val
  done (s.gateWrite who (Reg.MBX_VTE_CTRL_addr v)
    (fun s => s.vteCtrl v (s.vteWord v immediate) (s.bit (Reg.MBX_VTE_CTRL_EN v)) true false))

/-- VTE_FREEZE_COMPLETE (R174). -/
def execVteFreezeComplete (vte : Fin 32) (s : State) : Out := done (s.freezeComplete vte.val)

/-- VTE_RESTORE (R175): RESTORE is set with EN kept. -/
def execVteRestore (who : Agent) (vte : Fin 32) (immediate : Bool) (s : State) : Out :=
  let v := vte.val
  done (s.gateWrite who (Reg.MBX_VTE_CTRL_addr v)
    (fun s => s.vteCtrl v (s.vteWord v immediate) (s.bit (Reg.MBX_VTE_CTRL_EN v)) false true))

/-! ## Packages (R177, R178) -/

def State.peer (s : State) (p : Nat) : Peer := KMap.getD s.eng.peers p {}
def State.setPeer (s : State) (p : Nat) (x : Peer) : State :=
  { s with eng := { s.eng with peers := KMap.set {} s.eng.peers p x } }

/-- The packages that exchange heartbeats: those of FB 0x7004.02. -/
def State.present (s : State) : Nat := s.fbGet 0x7004 2

/-- HEARTBEAT_SEND (R177). -/
def execHeartbeatSend (s : State) : Out :=
  done ((s.others s.present).foldl (fun s p => s.emit (.peerHeartbeat p)) s)

/-- HEARTBEAT_RECEIVED (R177): the third in a row returns a lost peer. One that comes 2 ms or more after the one before does not
follow it in a row (DEDUCED: log entry 25). -/
def execHeartbeatReceived (peer : Fin 4) (s : State) : Out :=
  let p := peer.val
  if !bitOf s.present p || p = s.package then done s
  else
    let x := s.peer p
    let streak := if s.datum < x.last + 2000000 then x.streak + 1 else 1
    if x.lost && decide (streak < 3) then done (s.setPeer p { last := s.datum, streak := streak, lost := true })
    else
      let t := s.setPeer p { last := s.datum }
      done (if !x.lost || (List.range 4).any (fun q => (t.peer q).lost) then t else t.undegrade Reg.SAF_STATE_PEER_LOST)

/-- The queues whose admitted jobs belong to a group with package `p`. -/
def State.jobsNaming (s : State) (p : Nat) : List Nat :=
  (s.eng.jobs.filter (fun e => match s.jobGroup e.2 with
    | some (_, c) => bitOf c.packages p
    | none => false)).map Prod.fst

/-- A peer is lost (R177): its jobs end with E_LINK, the safety island is told. -/
def State.losePeer (s : State) (p : Nat) : State :=
  if !bitOf s.present p || p = s.package || (s.peer p).lost then s
  else
    let s := (s.setPeer p { (s.peer p) with lost := true, streak := 0 }).fbInc 0x6030 0xF
    let s := (s.jobsNaming p).foldl (fun s k => match s.job k with
      | some j => s.endRunning k j Code.eLink (s.concern k) p
      | none => s) s
    s.degrade Reg.SAF_STATE_PEER_LOST Code.eDegrPeer

/-- PEER_LOST (R177): 3 heartbeats missed. -/
def execPeerLost (peer : Fin 4) (s : State) : Out :=
  if !bitOf s.present peer.val || peer.val = s.package then done s
  else done (((s.advanceTo ((s.peer peer.val).last + 3000000)).losePeer peer.val).readmit s)

/-- KILL_ACK_TIMEOUT (R177): a peer has not acknowledged the KILL last sent to it within FB 0x7004.03. That an acknowledgement
has come shows in that this command does not (log entry 25). -/
def execKillAckTimeout (peer : Fin 4) (s : State) : Out :=
  match KMap.find s.eng.killsOut peer.val with
  | none => done s
  | some t =>
    let s := s.advanceTo (t + s.fbGet 0x7004 3 * 1000)
    let s := { s with eng := { s.eng with killsOut := KMap.del s.eng.killsOut peer.val } }
    done ((s.losePeer peer.val).readmit s)

/-- The admitted job of a collective group. -/
def State.groupJob (s : State) (g : Nat) : Option (Nat × Job) := s.eng.jobs.find? (fun p => p.2.group = some g)

/-- COLL_READY (R178): a package's READY reaches the lead, which sends GO and commits once it holds all. -/
def execCollReady (group : BitVec 8) (peer : Fin 4) (cycles : BitVec 32) (s : State) : Out :=
  match s.groupJob group.toNat, s.coll group.toNat with
  | some (k, j), some c =>
    if leadOf c.packages ≠ s.package ∨ !bitOf c.packages peer.val then done s
    else done ((s.setJob k { j with ready := j.ready ||| 2 ^ peer.val }).leadGo k group.toNat cycles.toNat)
  | _, _ => done s

/-- COLL_GO (R178): this package commits its part and acknowledges. -/
def execCollGo (group : BitVec 8) (cycles : BitVec 32) (s : State) : Out :=
  let g := group.toNat
  match s.groupJob g, s.coll g with
  | some (k, j), some c =>
    match s.cmd k with
    | some cmd =>
      if cmd.desc.opcode = 0x11 ∧ cmd.waiting ∧ leadOf c.packages ≠ s.package then
        done ((s.commitJob k j cmd cycles.toNat).emit (.jobMessage (leadOf c.packages) g .ack)).admitJobs
      else done s
    | none => done s
  | _, _ => done s

/-- COLL_KILL (R178): this package's part is killed because another participant was preempted (`code` 0), faulted, or rejected a
command (its code), and acknowledges the KILL. The lead decides on a restart, which the fault's code must allow (R99). -/
def execCollKill (group : BitVec 8) (peer : Fin 4) (code : BitVec 16) (s : State) : Out :=
  let g := group.toNat
  match s.groupJob g, s.coll g with
  | some (k, j), some _ =>
    let s := s.emit (.jobMessage peer.val g .killAck)
    if code = 0 then done ((s.preemptCmd k).setJob k { j with ready := 0 })
    else
      let (n, s') := s.activeCycles k
      done ((s'.killAll k Code.eJobKilled code.toNat 0 peer.val n).readmit s)
  | _, _ => done s

/-- The jobs of some queues that wait for the lead's decision. -/
def State.heldJobs (s : State) (ks : List Nat) : List Nat :=
  ks.filter (fun q => match s.job q with | some j => j.held | none => false)

/-- COLL_RESTART (R178): the lead's decision; this package reruns its part, and the jobs that are one job with it (R124). -/
def execCollRestart (group : BitVec 8) (s : State) : Out :=
  match s.groupJob group.toNat with
  | some (k, _) =>
    done (((k :: s.heldJobs ((s.linkedQueues k).filter (· != k))).foldl (fun s q => match s.job q with
      | some j => (match s.jobWindow j with
        | some w => s.restartJob q j w
        | none => s.endRunning q j Code.eTimeout (s.concern q) 0)
      | none => s) s).readmit s)
  | none => done s

/-- COLL_END (R178): the lead ends the job; the faulted package reports its own code, the others E_JOB_KILLED. -/
def execCollEnd (group : BitVec 8) (code : BitVec 16) (peer : Fin 4) (s : State) : Out :=
  match s.groupJob group.toNat with
  | some (k, j) =>
    let c := if peer.val = s.package then code.toNat else Code.eJobKilled
    let t := s.endRunning k j c (s.concern k) peer.val
    done (((s.heldJobs ((s.linkedQueues k).filter (· != k))).foldl (fun t q => match t.job q with
      | some jq => t.endRunning q jq Code.eJobKilled (t.concern q) peer.val
      | none => t) t).readmit s)
  | none => done s

/-- COLL_COMMIT_ACK (R178). -/
def execCollCommitAck (group : BitVec 8) (peer : Fin 4) (s : State) : Out :=
  match KMap.find s.eng.acks group.toNat with
  | some (miss, w) =>
    let left := clrMask miss peer.val
    let acks := if left = 0 then KMap.del s.eng.acks group.toNat else KMap.put s.eng.acks group.toNat (left, w)
    done { s with eng := { s.eng with acks := acks } }
  | none => done s

end Sys2Proof.Machine
end

