-- ==== Sys2Proof/Machine/Raster.lean ====
section
/-! DEFINITION. The rasterisers (R251–R253, R255): the tests and the blend of a fragment, the order of the fragments in
immediate and in binned mode, and what a pass cut short leaves. -/

namespace Sys2Proof.Machine
open Sys2Proof

/-- Bytes per pixel and sample of a DS_FMT, and DS of a PASS (R250). -/
def dsBytes (f : Nat) : Nat := match f with | 1 => 2 | 2 => 4 | 3 => 4 | 4 => 5 | _ => 0
def passDs (d : Desc) : Nat := d.f 1 15 0 * d.f 1 31 16 * 2 ^ d.f 0 12 10 * dsBytes (d.f 0 15 13)

/-- Bytes of the pixel store. -/
def pixelStore : Nat := 41943040

/-- The mode of a PASS (R251). -/
def passBinned (d : Desc) : Bool := d.f 0 9 8 = 1 || d.f 0 12 10 != 0 || decide (pixelStore < passDs d)
def passFlushable (d : Desc) : Bool := decide (passDs d ≤ pixelStore)

/-- What a pass draws with: its record, its context's attribute, its clear values. -/
structure PassEnv where
  pass : Desc
  attr : Attr
  clear : Nat × Nat

/-- A DS_FMT has stencil. -/
def PassEnv.stencil (e : PassEnv) : Bool := e.pass.f 0 15 13 = 2 || e.pass.f 0 15 13 = 4

/-- The 32 × 32-pixel tile of a fragment, in row-major order (R251). -/
def PassEnv.tile (e : PassEnv) (f : Fragment) : Nat := f.y.toNat / 32 * ceilDiv (e.pass.f 1 15 0) 32 + f.x.toNat / 32

/-- The quad of 2 × 2 pixels of a fragment, and its place in the pixel-store area. -/
def fragQuad (f : Fragment) : Nat × Nat := (f.x.toNat / 2, f.y.toNat / 2)
def fragPlace (f : Fragment) : Nat := (f.y.toNat * 8192 + f.x.toNat) * 8 + f.sample.toNat

/-- A fragment survives clipping: it lies in the pass's rectangle and names one of its samples. -/
def PassEnv.visible (e : PassEnv) (f : Fragment) : Bool :=
  decide (f.x.toNat < e.pass.f 1 15 0) && decide (f.y.toNat < e.pass.f 1 31 16) && decide (f.sample.toNat < 2 ^ e.pass.f 0 12 10)

/-- The visible fragments of primitives, in ascending primitive number. -/
def PassEnv.frags (e : PassEnv) (prims : List (List Fragment)) : List Fragment := prims.flatten.filter e.visible

/-- A pass at work: the machine, and the pass's area of depth and stencil. -/
structure Raster where
  s : State
  area : KMap (Nat × Nat)

/-- The bytes of a fragment blended over those that its target holds. -/
def fragBlended (f : Fragment) (old : List Nat) : List Nat :=
  (List.range f.colour.length).map (fun i =>
    Config.blendByte f.state.toNat old (f.colour.map BitVec.toNat) i % 256)

/-- A fragment is depth-tested, stencil-tested and blended (R253), under the context's attribute; a refused target keeps its
bytes. -/
def Raster.fragment (e : PassEnv) (r : Raster) (f : Fragment) : Raster :=
  let st := f.state.toNat
  let (depth, stencil) := KMap.getD r.area (fragPlace f) e.clear
  let depthOk := e.pass.f 0 15 13 = 0 || Config.depthPass st depth f.depth.toNat
  let stencilOk := !e.stencil || Config.stencilPass st stencil
  let depth' := if depthOk && stencilOk && Config.depthWrites st then f.depth.toNat else depth
  let stencil' := if e.stencil then Config.stencilNext st stencil stencilOk depthOk % 256 else stencil
  let area := if e.pass.f 0 15 13 = 0 then r.area else KMap.put r.area (fragPlace f) (depth', stencil')
  if depthOk && stencilOk then
    match r.s.reachSpans [⟨e.attr, false, f.target.toNat, f.colour.length⟩, ⟨e.attr, true, f.target.toNat, f.colour.length⟩] with
    | (0, s) => ⟨s.wr f.target.toNat (fragBlended f (s.rd f.target.toNat f.colour.length)), area⟩
    | (_, s) => ⟨s, area⟩
  else ⟨r.s, area⟩

/-! ## Immediate mode -/

/-- How many of the fragments in flight, oldest first, complete before a fragment of quad `q` enters the scoreboard: those up
to the last one of the same quad, or one where its 1,024 entries are taken. -/
def boardWait (board : List Fragment) (q : Nat × Nat) : Nat :=
  match (board.reverse.findIdx? (fun g => fragQuad g = q)) with
  | some i => board.length - i
  | none => if 1024 ≤ board.length then 1 else 0

/-- A rasteriser takes its fragments in order through its scoreboard: it stalls, and never reorders. -/
def Raster.scoreboard (e : PassEnv) : List Fragment → List Fragment → Raster → Raster
  | [], board, r => board.foldl (Raster.fragment e) r
  | f :: fs, board, r =>
    let n := boardWait board (fragQuad f)
    Raster.scoreboard e fs (board.drop n ++ [f]) ((board.take n).foldl (Raster.fragment e) r)

/-- The fragments of rasteriser `k`: those of the tiles t with t mod 4 = k. -/
def PassEnv.share (e : PassEnv) (fs : List Fragment) (k : Nat) : List Fragment := fs.filter (fun f => e.tile f % 4 = k)

/-- The four rasterisers run; `cut` tells how many of its fragments each of them finishes. -/
def Raster.immediate (e : PassEnv) (fs : List Fragment) (cut : Nat → Nat) (r : Raster) : Raster :=
  [0, 1, 2, 3].foldl (fun r k => Raster.scoreboard e ((e.share fs k).take (cut k)) [] r) r

/-! ## Binned mode -/

/-- The tiles that fragments touch, in ascending index. -/
def PassEnv.tiles (e : PassEnv) (fs : List Fragment) : List Nat :=
  (fs.foldl (fun (m : KMap Unit) f => KMap.put m (e.tile f) ()) []).map Prod.fst

/-- The lists built so far are rendered tile by tile in ascending index, `n` tiles of them; a tile's fragments come in
submission order. -/
def Raster.binned (e : PassEnv) (fs : List Fragment) (n : Nat) (r : Raster) : Raster :=
  ((e.tiles fs).take n).foldl (fun r t => (fs.filter (fun f => e.tile f = t)).foldl (Raster.fragment e) r) r

end Sys2Proof.Machine
end

