-- ==== Sys2Proof/Machine/Closure.lean ====
section
/-! DEFINITION. The safety island (chapter 7): the writes of its tables, RUN, Closure's comparison, decision and
publication, the Benchmarks, the release of SAFE_STATE_N and the causes of the safe state. -/

namespace Sys2Proof.Machine
open Sys2Proof

/-! ## Writes of the SAF tables and of SAF_CTRL (R187, R194) -/

def State.safStatus (s : State) (c : Nat) : State := s.set Reg.SAF_CMD_STATUS_STATUS c

/-- Only the safety partition and the Secure world write: another write is ignored, reports E_ACCESS and is logged with
REGION 0x21 at checker 53. -/
def State.safOwn (s : State) (who : Agent) (a : Nat) (k : State → State) : State :=
  let at' := s.attrOf who
  if at'.secure ∨ at'.partition = s.saf.partition then k s
  else (s.cadLog 53 a at' true 0x21).safStatus Code.eAccess

/-- A word of the Closure or the Benchmark table is written: only in INIT and before RUN. -/
def State.writeSafTable (s : State) (who : Agent) (f : Field) (v : Nat) : State :=
  s.safOwn who f.addr (fun s =>
    if s.bit Reg.SAF_CTRL_RUN ∨ s.get Reg.SAF_STATE_STATE ≠ 0 then s.safStatus Code.eState
    else (s.set f v).safStatus Code.ok)

/-! ## Closure records (R193) -/

def State.cloMethod (s : State) (r : Nat) : Nat := s.clo r 0 27 24
def State.cloPipe (s : State) (r : Nat) : Nat := s.clo r 0 19 15
def State.cloLength (s : State) (r : Nat) : Nat := s.clo r 3 31 0
def State.cloFmt (s : State) (r : Nat) : Fmt := (Fmt.ofCode (s.clo r 0 23 20)).getD .int8

/-- Bytes of one payload unit of a method. -/
def State.cloUnit (s : State) (r : Nat) : Nat :=
  match s.cloMethod r with
  | 0 => 1
  | 1 => (s.cloFmt r).bits / 8
  | 2 => (s.cloFmt r).bits / 8
  | 5 => 16
  | _ => 32

/-- Payload bytes. -/
def State.cloBytes (s : State) (r : Nat) : Nat := s.cloLength r * s.cloUnit r

/-- The age limit of a record in ns (R193). -/
def State.ageLimit (s : State) (r : Nat) : Nat :=
  let us := s.clo r 7 19 0
  if us ≠ 0 then us * 1000 else s.fbGet 0x3030 (1 + s.cloKind r) * 1000000

/-! ## RUN (R194) -/

/-- Formats that METHOD 1 and 2 allow: INT8, FP16, BF16, FP32, INT32. -/
def compareFmt (code : Nat) : Bool := code = 0 || code = 10 || code = 11 || code = 12 || code = 13

/-- Bits of record words 0 to 10 that R193 lists. -/
def cloMasks : List Nat :=
  [0x8FFFE000, 0x0FFF00FF, 0x0FFF0007, 0xFFFFFFFF, 0xFFFFFFFF, 0xFFFFFFFF, 0xFFFFFFFF, 0xFFFFF, 0xFFFF, 0xFFFFFFFF,
   0xFFFFFFFF, 0, 0, 0, 0, 0]

def State.cloIllegal (s : State) (r : Nat) : Bool :=
  let m := s.cloMethod r
  decide (5 < m) || decide (1 < s.cloKind r) ||
  (if m = 1 ∨ m = 2 then !compareFmt (s.clo r 0 23 20) else s.clo r 0 23 20 != 0) ||
  (s.cloKind r = 1 && (m != 5 || s.clo r 1 27 16 != 0 || s.clo r 2 2 0 != 0 || s.clo r 2 27 16 != 0)) ||
  (List.range 16).any (fun w => outside (s.get (Reg.SAF_CLOSURE_WORD r w)) (nthNat cloMasks w))

/-- Bits of Benchmark set words that R210 lists. -/
def benchMasks : List Nat := [0x8000001F, 0x7FF, 0xFFFFFFFF, 0xFFFF, 0xFFFFFFFF, 0xFFFFFFFF, 0, 0]

def State.benchIllegal (s : State) (b : Nat) : Bool :=
  (List.range 8).any (fun w => outside (s.get (Reg.SAF_BENCH_WORD b w)) (nthNat benchMasks w))

def State.benchBase (s : State) (b : Nat) : Nat := s.benchSet b 2 31 0 + 2 ^ 32 * s.benchSet b 3 15 0

/-- Four times the Closure bound of a pipeline in ns: 5 µs for each valid record and 0.25 ns for each payload byte of
both results, counted twice when the pipeline has a Benchmark set. -/
def State.closureBound4 (s : State) (p : Nat) : Nat :=
  let b := ((s.cloRecords.filter (fun r => s.cloPipe r = p)).map (fun r => 20000 + 2 * s.cloBytes r)).foldl (· + ·) 0
  if s.benchSets.any (fun x => s.benchSet x 0 4 0 = p) then 2 * b else b

/-- Some SAFETY window of a pipeline is too short for its Closure bound. -/
def State.safetyTooShort (s : State) : Bool :=
  (List.range 256).any (fun e =>
    let en := bankEntry s.mer.active e
    en.valid && en.resource = 6 && s.cloRecords.any (fun r => s.cloPipe r = en.pipe) &&
    decide ((en.lengthUs - 2) * 4000 < s.closureBound4 en.pipe))

/-- The queue, context and pipeline that a record names are enabled. -/
def State.cloAvailable (s : State) (r : Nat) : Bool :=
  s.activeFrame (s.cloPipe r) != 0 &&
  (if s.cloKind r = 1 then s.bit (Reg.TRV_CX_ATTR_EN (s.clo r 1 7 0)) && decide (s.clo r 1 7 0 < 8)
   else s.bit (qEn (s.clo r 1 7 0)) && s.bit (qEn (256 + s.clo r 2 2 0)))

def State.benchAvailable (s : State) (b : Nat) : Bool :=
  s.activeFrame (s.benchSet b 0 4 0) != 0 && s.bit (qEn (s.benchSet b 1 7 0)) && s.bit (qEn (256 + s.benchSet b 1 10 8))

/-- The bytes of the Closure table, then of the Benchmark table. -/
def State.safTableBytes (s : State) : List Nat :=
  (List.range 64).flatMap (fun r => (List.range 16).flatMap (fun w => leBytes 4 (s.get (Reg.SAF_CLOSURE_WORD r w)))) ++
  (List.range 16).flatMap (fun b => (List.range 8).flatMap (fun w => leBytes 4 (s.get (Reg.SAF_BENCH_WORD b w))))

/-- The checks of RUN, in the order of R25. -/
def State.runChk (s : State) : Nat :=
  let rs := s.cloRecords
  let bs := s.benchSets
  firstCode
    [(rs.any s.cloIllegal || bs.any s.benchIllegal, Code.eIllegal),
     (rs.any (fun r => s.cloLength r = 0 || s.cloLength r = 0xFFFFFFFF) ||
        bs.any (fun b => s.benchSet b 4 31 0 = 0 || s.benchSet b 4 31 0 = 0xFFFFFFFF), Code.eLength),
     (bs.any (fun b => s.benchBase b % 4096 != 0), Code.eAlign),
     (rs.any (fun r => decide (262144 < s.cloBytes r)) || s.safetyTooShort, Code.eBounds),
     (rs.any (fun r => !s.cloAvailable r) || bs.any (fun b => !s.benchAvailable b), Code.eUnavailable),
     (Crypto.crc32 0xEDB88320 s.safTableBytes != s.fbGet 0x3000 1, Code.eCfgCrc)]

/-- SAFE_STATE_N is released and STATE leaves INIT (R206): Closure runs, start-up injection has passed and every valid
record has published with FRESH. A degraded condition that is already present makes the state DEGRADED (R208). -/
def State.tryRelease (s : State) : State :=
  if s.get Reg.SAF_STATE_STATE = 0 ∧ s.bit Reg.SAF_CTRL_RUN ∧ s.bit Reg.SAF_INJ_STATUS_PASS ∧
      s.cloRecords.all (fun r => s.saf.fresh.contains r) then
    let s := s.driveSafe true
    (if s.degrFlags = 0 then s.setSafState 1
     else (s.setSafState 2).set Reg.SAF_EVENTS_DEGRADED 1).statusMessage
  else s

/-- RUN is set by software (R194). -/
def State.safRun (s : State) : State :=
  if s.bit Reg.SAF_CTRL_RUN ∨ s.get Reg.SAF_STATE_STATE ≠ 0 then s.safStatus Code.eState
  else
    let c := s.runChk
    if c = Code.ok then ((s.set Reg.SAF_CTRL_RUN 1).safStatus Code.ok).tryRelease else s.safStatus c

/-- SS_REQ is set (R204). -/
def State.ssReq (s : State) : State := ((s.set Reg.SAF_CTRL_SS_REQ 1).safStatus Code.ok).declareSafe Code.eSsRequest

/-- A write of SAF_CTRL: RUN first, then SS_REQ. -/
def State.safCtrl (s : State) (run req : Bool) : State :=
  let s := if run then s.safRun else s
  if req then s.ssReq else s

/-! ## Comparison (R197) -/

/-- The FP32 value at an offset of a payload. -/
def f32At (bs : List Nat) (o : Nat) : FV := f32 (leValue ((bs.drop o).take 4))

/-- Element `i` of a payload, converted to FP32. -/
def elemAt (f : Fmt) (bs : List Nat) (i : Nat) : FV :=
  fp32.round (f.value (leValue ((bs.drop (i * (f.bits / 8))).take (f.bits / 8))))

/-- An object (R197): CLASS and the FP32 fields used. -/
structure Obj where
  cls : Nat
  x0 : FV
  y0 : FV
  x1 : FV
  y1 : FV
  range : FV
  deriving DecidableEq, Repr

def objAt (bs : List Nat) (i : Nat) : Obj :=
  let b := bs.drop (32 * i)
  ⟨leValue (b.take 2), f32At b 8, f32At b 12, f32At b 16, f32At b 20, f32At b 24⟩

/-- IoU of two boxes; NaN where a coordinate is NaN or a box is inverted. The order of the FP32 operations is the plain
one (DEDUCED: log entry 30). -/
def iou (a b : Obj) : FV :=
  if [a.x0, a.y0, a.x1, a.y1, b.x0, b.y0, b.x1, b.y1].any FV.isNan || a.x1.below a.x0 || a.y1.below a.y0 ||
      b.x1.below b.x0 || b.y1.below b.y0 then .nan
  else
    let w := FV.max2 .zero (subF (FV.min2 a.x1 b.x1) (FV.max2 a.x0 b.x0))
    let h := FV.max2 .zero (subF (FV.min2 a.y1 b.y1) (FV.max2 a.y0 b.y0))
    let inter := mulF w h
    let area := fun (o : Obj) => mulF (subF o.x1 o.x0) (subF o.y1 o.y0)
    let union := subF (addF (area a) (area b)) inter
    if union.isZero then .one else FV.div32 inter union

/-- A pair of boxes fails: the classes differ, or the IoU is below the tolerance or NaN. -/
def boxFails (tol : FV) (a b : Obj) : Bool := a.cls != b.cls || (iou a b).isNan || (iou a b).below tol

/-- π and 2π as FP32 values. -/
def piF : FV := f32 0x40490FDB
def twoPiF : FV := f32 0x40C90FDB

/-- A heading difference wrapped to [−π, π] (the multiple of 2π nearest to it is subtracted; DEDUCED: log entry 30). -/
def wrapF (d : FV) : FV :=
  if piF.below d.abs then
    match FV.div32 d twoPiF with
    | .fin s m e =>
      let n := if 0 ≤ e then m * 2 ^ e.toNat else rne m (2 ^ (-e).toNat)
      subF d (mulF (FV.ofInt (if s then -(n : Int) else n)) twoPiF)
    | _ => .nan
  else d

/-- Insertion by descending IoU, after equal ones. -/
def insertPair (p : FV × Nat × Nat) : List (FV × Nat × Nat) → List (FV × Nat × Nat)
  | [] => [p]
  | q :: qs => if q.1.below p.1 then p :: q :: qs else q :: insertPair p qs

/-- Greedy matching of the sorted pairs. -/
def matchPairs : List (FV × Nat × Nat) → List Nat × List Nat → List Nat × List Nat
  | [], m => m
  | (_, i, j) :: ps, (mi, mj) =>
    if mi.contains i || mj.contains j then matchPairs ps (mi, mj) else matchPairs ps (i :: mi, j :: mj)

/-- The unmatched objects inside the domain of OBJECT_SET: those that fail it. -/
def setFails (tol range margin : FV) (ma mb : List Obj) : Nat :=
  let pairs := (List.range ma.length).flatMap (fun i => (List.range mb.length).filterMap (fun j =>
    match ma[i]?, mb[j]? with
    | some a, some b => if boxFails tol a b then none else some (iou a b, i, j)
    | _, _ => none))
  let (mi, mj) := matchPairs (pairs.foldl (fun l p => insertPair p l) []) ([], [])
  let lim := subF range margin
  let bad := fun (os : List Obj) (m : List Nat) =>
    ((List.range os.length).filter (fun i => !m.contains i &&
      (match os[i]? with | some o => !(lim.below o.range) | none => false))).length
  bad ma mi + bad mb mj

/-- What pair A holds of one result: the header fields and the payload. -/
structure Result where
  frame : Nat
  count : Nat
  subst : Bool
  oldest : Nat
  data : List Nat
  deriving DecidableEq, Repr

def sumBool (l : List Bool) : Nat := (l.filter id).length

/-- The failing elements or pairs of record `r`, and whether the comparison passes (R197). -/
def State.compareResults (s : State) (r : Nat) (m p : Result) : Nat × Bool :=
  let n := s.cloLength r
  let allow := s.clo r 6 15 0
  let tol := f32 (s.clo r 4 31 0)
  let tol2 := f32 (s.clo r 5 31 0)
  match s.cloMethod r with
  | 0 =>
    if m.count ≠ n ∨ p.count ≠ n then (0, false)
    else let bad := sumBool (List.zipWith (fun a b => a != b) m.data p.data); (bad, bad = 0)
  | 3 =>
    if m.count ≠ p.count ∨ n < m.count then (0, false)
    else
      let bad := sumBool ((List.range m.count).map (fun i => boxFails tol (objAt m.data i) (objAt p.data i)))
      (bad, decide (bad ≤ allow))
  | 4 =>
    if n < m.count ∨ n < p.count then (0, false)
    else
      let bad := setFails tol (f32 (s.clo r 9 31 0)) (f32 (s.clo r 10 31 0))
        ((List.range m.count).map (objAt m.data)) ((List.range p.count).map (objAt p.data))
      (bad, bad = 0)
  | 5 =>
    if m.count ≠ p.count ∨ n < m.count then (0, false)
    else
      let bad := sumBool ((List.range m.count).map (fun i =>
        let v := fun (x : Result) (o : Nat) => f32At x.data (16 * i + o)
        let dx := subF (v m 0) (v p 0)
        let dy := subF (v m 4) (v p 4)
        let dist := (addF (mulF dx dx) (mulF dy dy)).sqrt32
        let dh := (wrapF (subF (v m 8) (v p 8))).abs
        [v m 0, v p 0, v m 4, v p 4, v m 8, v p 8, dist, dh].any FV.isNan || tol.below dist || tol2.below dh))
      (bad, bad = 0)
  | k =>
    if m.count ≠ n ∨ p.count ≠ n then (0, false)
    else
      let f := s.cloFmt r
      let bad := sumBool ((List.range n).map (fun i =>
        let a := elemAt f m.data i
        let b := elemAt f p.data i
        let lim := if k = 1 then tol else addF (mulF tol (FV.max2 a.abs b.abs)) tol2
        a.isNan || b.isNan || lim.below (subF a b).abs))
      (bad, decide (bad ≤ allow))

/-! ## The frame decision (R195, R196, R198, R201) -/

/-- The frame count of a pipeline: 0 in the first frame after Meridian start, 32 bits (R196). -/
def State.frameOf (s : State) (p : Nat) : Nat := (KMap.getD s.mer.frameCount p 0 - 1) % 2 ^ 32

/-- The attribute under which pair A reads the results of a record: that of the queue or context. -/
def State.cloAttr (s : State) (r : Nat) (plumb : Bool) : Attr :=
  if s.cloKind r = 1 then ⟨s.bit (Reg.TRV_CX_ATTR_SECURE (s.clo r 1 7 0)), s.get (Reg.TRV_CX_ATTR_PARTITION (s.clo r 1 7 0))⟩
  else s.qAttr (if plumb then 256 + s.clo r 2 2 0 else s.clo r 1 7 0)

/-- A result of record `r` as it stands at an address; none where it cannot be read. -/
def State.readResult (s : State) (r : Nat) (at' : Attr) (a : Nat) : Option Result × State :=
  match s.reach at' false a (32 + s.cloBytes r) with
  | (.ok, s) =>
    (some ⟨s.rdLe a 4, s.rdLe (a + 4) 2, bitOf (s.rdLe (a + 6) 1) 0, s.rdLe (a + 8) 8, s.rd (a + 32) (s.cloBytes r)⟩, s)
  | (_, s) => (none, s)

/-- Pair A's copy of a result: none without an OK notice, or where the result cannot be read. -/
def State.copyResult (s : State) (r : Nat) (plumb : Bool) : Option Result × State :=
  match KMap.find (if plumb then s.saf.plumbNotice else s.saf.mainNotice) r with
  | none => (none, s)
  | some n =>
    if n.status ≠ Code.ok then (none, s) else s.readResult r (s.cloAttr r plumb) n.addr

/-- The outcomes of R196, numbered as SAF_CH_STATUS.LAST numbers them. -/
inductive Verd where
  | agree | disagree | missing | age
  deriving DecidableEq, Repr

def Verd.code : Verd → Nat
  | .agree => 0 | .disagree => 1 | .missing => 2 | .age => 3

/-- The decision of R196 on the two copies, with the count of failing elements. -/
def State.decide196 (s : State) (r frame : Nat) (m p : Option Result) : Verd × Nat :=
  match m, p with
  | some m, some p =>
    if m.frame ≠ frame ∨ p.frame ≠ frame then (.missing, 0)
    else
      let (bad, pass) := s.compareResults r m p
      if m.oldest ≠ p.oldest ∨ m.subst ≠ p.subst ∨ !pass then (.disagree, bad)
      else if s.datum < m.oldest ∨ s.ageLimit r < s.datum - m.oldest then (.age, 0)
      else (.agree, 0)
  | _, _ => (.missing, 0)

/-- The outcome is counted (R198): AGREE clears the non-agreement count, any other adds 1 and, at the threshold,
declares the safe state with the cause of the outcome. -/
def State.account (s : State) (r : Nat) (v : Verd) : State :=
  let s := s.set (Reg.SAF_CH_STATUS_LAST r) v.code
  let bad := fun (s : State) (event : Field) (cause : Nat) =>
    let s := ((s.inc (Reg.SAF_CH_STATUS_RUN r)).fbInc 0x6060 v.code).set event 1
    if s.fbGet 0x3010 2 ≤ s.get (Reg.SAF_CH_STATUS_RUN r) then s.declareSafe cause else s
  match v with
  | .agree => s.set (Reg.SAF_CH_STATUS_RUN r) 0
  | .disagree => bad s Reg.SAF_EVENTS_DISAGREE Code.eDisagree
  | .missing => bad s Reg.SAF_EVENTS_MISSING Code.eMissing
  | .age => bad s Reg.SAF_EVENTS_AGE Code.eAge

/-- An entry of the disagreement log (R201). -/
def State.disagreeLog (s : State) (r frame : Nat) (m p : Result) (bad : Nat) : State :=
  let e := s.get Reg.SAF_DLOG_WPTR_WPTR
  let s := if s.saf.unread.contains e then (s.set Reg.SAF_EVENTS_DLOG_OVERFLOW 1).fbInc 0x6060 0xA else s
  let ws := [r + 2 ^ 8 * s.cloMethod r, frame, s.datum % 2 ^ 32, s.datum / 2 ^ 32, Crypto.crc32 0xEDB88320 m.data,
    Crypto.crc32 0xEDB88320 p.data, bad, 0]
  let s := (List.range 8).foldl (fun s w => s.set (Reg.SAF_DLOG_WORD e w) (nthNat ws w)) s
  let s := { s with saf := { s.saf with unread := e :: s.saf.unread.filter (· != e) } }
  s.set Reg.SAF_DLOG_WPTR_WPTR (e + 1)

/-! ## Publication (R199, R200) -/

/-- The held result of a record, if its age is within the limit. -/
def State.heldFresh (s : State) (r : Nat) : Option Held :=
  match KMap.find s.saf.held r with
  | some h => if s.datum - h.oldest ≤ s.ageLimit r then some h else none
  | none => none

/-- The PDU of R200. -/
def State.pdu (s : State) (r flags seq frame oldest : Nat) (data : List Nat) : List Nat :=
  let body := [r, flags] ++ beBytes 2 seq ++ beBytes 4 frame ++ beBytes 8 oldest ++ beBytes 4 data.length ++ data
  body ++ beBytes 4 (crcOf (s.clo r 6 31 16) body)

/-- Record `r` publishes. `fresh` is the agreed main result. -/
def State.publish (s : State) (r frame : Nat) (fresh : Option Held) : State :=
  let s := match fresh with
    | some h => (({ s with saf := { s.saf with held := KMap.put s.saf.held r h } }).set (Reg.SAF_CH_STATUS_HELD r) 1)
    | none => s
  let safe := s.get Reg.SAF_STATE_STATE = 3
  let carried := if safe then none else match fresh with
    | some h => some h
    | none => s.heldFresh r
  let isFresh := fresh.isSome && !safe
  let flags := b2n carried.isSome + 2 * b2n isFresh + 4 * b2n safe +
    (match carried with | some h => 8 * b2n h.subst | none => 0)
  let seq := (s.get (Reg.SAF_CH_STATUS_PUBSEQ r) + 1) % 65536
  let (oldest, data) := match carried with | some h => (h.oldest, h.data) | none => (0, [])
  let pdu := s.pdu r flags seq frame oldest data
  let s := (s.emit (.publication (s.clo r 8 15 0) pdu)).producerInput 1 (s.clo r 8 15 0) pdu
  let s := (s.set (Reg.SAF_CH_STATUS_PUBSEQ r) seq).setBit (Reg.SAF_CH_STATUS_REUSING r) (carried.isSome && !isFresh)
  if isFresh then
    ({ s with saf := { s.saf with fresh := r :: s.saf.fresh.filter (· != r) } }).tryRelease
  else s

/-- The payload that a publication carries: COUNT objects or poses for METHOD 3 to 5, else the whole payload. -/
def State.carriedData (s : State) (r : Nat) (m : Result) : List Nat :=
  if 3 ≤ s.cloMethod r then m.data.take (m.count * s.cloUnit r) else m.data

/-- Record `r` is decided and published in a SAFETY window, on the copies made at its opening. -/
def State.decideRecord (s : State) (r frame : Nat) (m p : Option Result) : State :=
  let (v, bad) := s.decide196 r frame m p
  let s := match v, m, p with
    | .disagree, some m, some p => s.disagreeLog r frame m p bad
    | _, _, _ => s
  let s := s.account r v
  s.publish r frame (match v, m with
    | .agree, some m => some ⟨m.oldest, m.subst, s.carriedData r m⟩
    | _, _ => none)

/-- Closure in a SAFETY window of pipeline `p`: both results of every record are copied at the opening, then each
record is decided and published, in ascending order. Pair A must run. -/
def State.closure (s : State) (p : Nat) : State :=
  let frame := s.frameOf p
  if !s.bit Reg.SAF_CTRL_RUN ∨ bitOf s.saf.stopped 0 then s
  else
    let s := { s with saf := { s.saf with decided := KMap.put s.saf.decided p (frame + 1) } }
    let (copies, s) := (s.cloRecords.filter (fun r => s.cloPipe r = p)).foldl
      (fun (acc : List (Nat × Option Result × Option Result) × State) r =>
        let (m, s) := acc.2.copyResult r false
        let (q, s) := s.copyResult r true
        (acc.1 ++ [(r, m, q)], s)) ([], s)
    copies.foldl (fun s c => s.decideRecord c.1 frame c.2.1 c.2.2) s

/-- The frame of pipeline `p` that ends had no SAFETY window: MISSING for each of its records (R196). `frame` is the
count of the frame that ended. -/
def State.missedFrame (s : State) (p frame : Nat) : State :=
  if !s.bit Reg.SAF_CTRL_RUN ∨ bitOf s.saf.stopped 0 ∨ KMap.getD s.saf.decided p 0 = frame + 1 then s
  else
    let s := { s with saf := { s.saf with decided := KMap.put s.saf.decided p (frame + 1) } }
    (s.cloRecords.filter (fun r => s.cloPipe r = p)).foldl (fun s r => s.account r .missing) s

/-! ## Benchmarks (R210–R213) -/

/-- A Benchmark defers to the next frame; the eighth deferral in a row makes it urgent (R211, R212). -/
def State.benchDefer (s : State) (p : Nat) : State :=
  let b := s.benchAt p
  let s := s.fbInc 0x6060 6
  let now := !b.urgent && decide (8 ≤ b.deferrals + 1)
  let s := s.setBench p { b with deferrals := b.deferrals + 1, counted := true, injected := false,
                                 urgent := b.urgent || now }
  if now then (s.set Reg.SAF_EVENTS_BENCH_URGENT 1).fbInc 0x6060 7 else s

/-- A Benchmark of pipeline `p` failed with the code for CAUSE (R213). -/
def State.benchFail (s : State) (p code : Nat) : State :=
  let b := s.benchAt p
  let s := (s.set Reg.SAF_EVENTS_BENCH_FAIL 1).fbInc 0x6060 5
  let s := s.setBench p { b with failures := b.failures + 1, due := none, frames := s.fbGet 0x3020 1 - 1,
                                 injected := false, counted := true, deferrals := 0, urgent := false }
  if 1 ≤ b.failures then s.declareSafe Code.eBench true else s.degrade Reg.SAF_STATE_BENCH_FAIL code

/-- A Benchmark of pipeline `p` passed: the pipeline's conditions end (R208, R213). -/
def State.benchPass (s : State) (p : Nat) : State :=
  let b := s.benchAt p
  let s := (s.set Reg.SAF_EVENTS_BENCH_PASS 1).fbInc 0x6060 4
  let s := s.setBench p { next := b.next + 1, counted := true }
  let s := if s.saf.bench.any (fun x => x.2.failures != 0) then s else s.undegrade Reg.SAF_STATE_BENCH_FAIL
  if s.saf.bench.any (fun x => x.2.late) then s else s.undegrade Reg.SAF_STATE_LATENT_TIMEOUT

/-- A pipeline's frame starts: a Benchmark injected but not compared defers; a Benchmark falls due (R211). -/
def State.benchFrame (s : State) (p : Nat) : State :=
  if s.pipeSets p = [] ∨ s.get Reg.SAF_STATE_STATE = 3 ∨ bitOf s.saf.stopped 1 then s
  else
    let b := s.benchAt p
    let s := if b.due.isSome && !b.counted then s.benchDefer p else s
    let b := s.benchAt p
    let b := { b with injected := false, counted := false, frames := b.frames + 1 }
    s.setBench p (if b.due.isNone && decide (s.fbGet 0x3020 1 ≤ b.frames) then { b with due := some s.datum } else b)

/-- The Benchmark sub-windows on TENSOR or PLUMB for a set, inside the pipeline's present frame. -/
def State.benchWindows (s : State) (p b res : Nat) : List Nat :=
  let k := if res = 0 then s.benchSet b 1 7 0 else 256 + s.benchSet b 1 10 8
  let base := s.hyperStart s.datum
  let start := KMap.getD s.mer.frameStart p s.datum
  let stop := start + s.activeFrame p * s.periodNs
  (List.range 256).filter (fun e =>
    let en := bankEntry s.mer.active e
    en.valid && en.benchmark && en.resource = res && en.partition = s.get (qPartF k) &&
    decide (start ≤ base + en.startUs * 1000) && decide (base + en.startUs * 1000 < stop))

/-- A lower-numbered pipeline's Benchmark uses some of these sub-windows in its frame. -/
def State.benchTaken (s : State) (p : Nat) (ws : List Nat) : Bool :=
  (List.range p).any (fun q => (s.benchAt q).injected && (match s.turnSet q with
    | some b => (s.benchWindows q b 0 ++ s.benchWindows q b 1).any (fun e => ws.contains e)
    | none => false))

/-- Pair B tries to inject the Benchmark of pipeline `p` in an open STAGING window (R211). `now`: the later of the present and
the projected end of the window's real work. The Benchmark's staging bound stands in the set image, whose layout the spec does
not give: a free value. -/
def State.benchInject (s : State) (p now : Nat) (w : OpenWindow) : State :=
  let b := s.benchAt p
  match s.turnSet p with
  | none => s
  | some x =>
    if b.due.isNone ∨ b.injected ∨ b.counted ∨ s.get Reg.SAF_STATE_STATE = 3 ∨ bitOf s.saf.stopped 1 then s
    else
      let subs := s.benchWindows p x 0 ++ s.benchWindows p x 1
      let (bound, s) := s.freeNat
      let room := b.urgent || verdict now bound false w = .admitted
      let both := !(s.benchWindows p x 0).isEmpty && !(s.benchWindows p x 1).isEmpty
      if !room || (!both && !b.urgent) || s.benchTaken p subs then s.benchDefer p
      else
        let img := s.rd (s.benchBase x) (s.benchSet x 4 31 0)
        if Crypto.crc32 0xEDB88320 img ≠ s.benchSet x 5 31 0 then s.benchFail p Code.eBenchStore
        else s.setBench p { b with injected := true, mainJob := none, plumbJob := none }

/-- The result of record `r` that a Benchmark queue `k` has left: in the record of the same handle of its own tensor table
(DEDUCED: log entry 30). -/
def State.benchResult (s : State) (r k : Nat) : Option Result × State :=
  let h := s.clo r (if isPlumb k then 2 else 1) 27 16
  s.readResult r (s.qAttr k) (publishedAddr s (ttAddr (s.get (qTtBase k)) h))

/-- The main and the Plumb result of record `r` agree by the record's METHOD (R213). -/
def State.benchAgrees (s : State) (set r : Nat) : Bool × State :=
  let (m, s) := s.benchResult r (s.benchSet set 1 7 0)
  let (q, s) := s.benchResult r (256 + s.benchSet set 1 10 8)
  (match m, q with
    | some m, some q => (s.compareResults r m q).2
    | _, _ => false, s)

/-- Every tensor channel of pipeline `p` agrees in the Benchmark of a set. -/
def State.benchAgree (s : State) (p set : Nat) : Bool × State :=
  (s.cloRecords.filter (fun r => s.cloPipe r = p && s.cloKind r = 0)).foldl (fun acc r =>
    let (ok, s) := acc.2.benchAgrees set r
    (acc.1 && ok, s)) (true, s)

/-- The Benchmark's results are compared in the SAFETY window, after the real records (R213): main against Plumb by METHOD, and
each with the expected results. These stand in the set image, whose layout the spec does not give: whether those comparisons
pass is a free value. A job of the set that did not end OK leaves no result to pass. -/
def State.benchCompare (s : State) (p : Nat) : State :=
  let b := s.benchAt p
  if !b.injected ∨ s.get Reg.SAF_STATE_STATE = 3 ∨ bitOf s.saf.stopped 0 then s
  else
    let (expected, s) := s.freeBool
    let (same, s) := match s.turnSet p with
      | some set => s.benchAgree p set
      | none => (true, s)
    if b.mainJob = some Code.ok ∧ b.plumbJob = some Code.ok ∧ expected = true ∧ same = true then s.benchPass p
    else s.benchFail p Code.eDegrBench

/-! ## Meanings -/

/-- SAF_RUN (R194). -/
def execSafRun (who : Agent) (s : State) : Out :=
  done (s.gateWrite who Reg.SAF_CTRL_addr (fun s => s.safOwn who Reg.SAF_CTRL_addr (fun s => s.safCtrl true false)))

/-- SS_REQ (R204). -/
def execSsReq (who : Agent) (s : State) : Out :=
  done (s.gateWrite who Reg.SAF_CTRL_addr (fun s => s.safOwn who Reg.SAF_CTRL_addr (fun s => s.safCtrl false true)))

def pairBit (pairA : Bool) : Nat := if pairA then 0 else 1

/-- PAIR_HEARTBEAT (R185): sent 100 µs after the pair's last one, by a pair that runs. -/
def execPairHeartbeat (pairA : Bool) (s : State) : Out :=
  let i := pairBit pairA
  if bitOf s.saf.stopped i then done s
  else
    let s := s.advanceTo (KMap.getD s.saf.heartbeat i 0 + 100000)
    done (({ s with saf := { s.saf with heartbeat := KMap.put s.saf.heartbeat i s.datum } }).emit (.pairHeartbeat pairA))

/-- PAIR_HEARTBEAT_LOSS (R185): the pair `pairA` has missed 3 heartbeats of its partner. -/
def execPairHeartbeatLoss (pairA : Bool) (s : State) : Out :=
  if bitOf s.saf.stopped (pairBit pairA) then done s
  else done ((s.advanceTo (KMap.getD s.saf.heartbeat (pairBit (!pairA)) 0 + 300000)).declareSafe Code.eLockstep (!pairA))

/-- LOCKSTEP_MISMATCH (R185): the pair stops and its partner declares the safe state. -/
def execLockstepMismatch (pairA : Bool) (s : State) : Out :=
  done (({ s with saf := { s.saf with stopped := s.saf.stopped ||| 2 ^ pairBit pairA } }).declareSafe Code.eLockstep pairA)

/-- LATENT_TIMEOUT (R212): a Benchmark of the pipeline has been due for 1 s. In SAFE Benchmarks have stopped (R205). -/
def execLatentTimeout (pipe : Fin 32) (s : State) : Out :=
  let b := s.benchAt pipe.val
  match b.due with
  | none => done s
  | some t =>
    if b.late ∨ s.get Reg.SAF_STATE_STATE = 3 then done s
    else
      let s := (s.advanceTo (t + 1000000000)).setBench pipe.val { b with late := true }
      done (((s.set Reg.SAF_EVENTS_LATENT_TIMEOUT 1).fbInc 0x6060 8).degrade Reg.SAF_STATE_LATENT_TIMEOUT
        Code.eLatentTimeout)

/-- SAFETY_STATUS_MESSAGE (R207): each status period. -/
def execSafetyStatusMessage (s : State) : Out :=
  done ((s.advanceTo (s.saf.lastMessage + s.fbGet 0x3040 4 * 1000000)).statusMessage)

/-- SAFE_STATE_READBACK (R206): the pad level is compared with the driven level; a difference declares the safe state. -/
def execSafeStateReadback (padHigh : Bool) (s : State) : Out :=
  let s := s.setBit Reg.SAF_STATE_SS_LOW (!padHigh)
  done (if padHigh = s.saf.driven then s.tryRelease else s.declareSafe Code.eMonitor true)

/-- Every admitted Plumb job is killed with a code, without restart. -/
def State.killPlumb (s : State) (code : Nat) : State :=
  (List.range 8).foldl (fun s q => 
    let (n, s) := s.activeCycles (256 + q)
    s.killOne (256 + q) code false false 0 0 n) s

/-- SAFETY_ISLAND_WATCHDOG (R204): the watchdog expires, or its SRAM reports an uncorrectable error. Either pair detects it; the
row names none, and the declaration counts as pair A's (DESIGN CHOICE: log entry 30). -/
def execSafetyIslandWatchdog (s : State) : Out := done (s.declareSafe Code.eIsland)

/-- DATUM_RATE_FAULT (R204). -/
def execDatumRateFault (s : State) : Out := done (s.declareSafe Code.eMonitor true)

end Sys2Proof.Machine
end

