-- ==== Sys2Proof/Machine/Planning.lean ====
section
/-! DEFINITION. Traverse: grids, the primitive library, footprints, the search, trajectories and the two collision
checkers (R226, R229–R239), as functions of memory. -/

namespace Sys2Proof.Machine
open Sys2Proof

/-! ## Grids (R226) -/

/-- A grid slot's header. -/
structure Grid where
  base : Nat
  version : Nat
  subst : Bool
  w : Nat
  h : Nat
  cell : Nat
  epoch : Nat
  ox : Nat
  oy : Nat
  oldest : Nat
  deriving DecidableEq, Repr

def State.readGrid (s : State) (a : Nat) : Grid :=
  let w := fun o => s.rdLe (a + o) 4
  ⟨a, w 0 % 65536, bitOf (w 0) 16, w 4 % 65536, w 4 / 65536, w 8 % 65536, w 0xC, w 0x10, w 0x14, s.rdLe (a + 0x18) 8⟩

/-- The cost of a cell: an unknown cell is lethal, or costs 253 (R226). -/
def State.cellCost (s : State) (g : Grid) (unk : Bool) (x y : Nat) : Nat :=
  let c := s.rdLe (g.base + 0x40 + y * g.w + x) 1
  if c = 254 then (if unk then 255 else 253) else c

def State.lethal (s : State) (g : Grid) (unk : Bool) (x y : Nat) : Bool := s.cellCost g unk x y = 255

/-- Dimensions that R226 allows. -/
def Grid.dimsOk (g : Grid) (stride : Nat) : Bool :=
  decide (16 ≤ g.w) && decide (g.w ≤ 1024) && g.w % 16 = 0 && decide (16 ≤ g.h) && decide (g.h ≤ 1024) && g.h % 16 = 0 &&
  decide (50 ≤ g.cell) && decide (g.cell ≤ 500) && decide (0x40 + g.w * g.h ≤ stride)

/-! ### Positions in fixed point -/

/-- An FP32 code as an exact fixed-point number. -/
def fxOf (code : Nat) : Int := (f32 code).fix trigBits
def oneFix : Int := 2 ^ trigBits

/-- The cell index of a coordinate: none outside the grid. -/
def cellOf (origin cell n : Nat) (p : Int) : Option Nat :=
  let i := (p - fxOf origin) * 1000 / (oneFix * (cell : Int))
  if 0 ≤ i ∧ i < n then some i.toNat else none

/-- The cell of a position. -/
def Grid.cellAt (g : Grid) (x y : Int) : Option (Nat × Nat) :=
  match cellOf g.ox g.cell g.w x, cellOf g.oy g.cell g.h y with
  | some a, some b => some (a, b)
  | _, _ => none

/-- The heading index of an angle: nearest, ties to even, modulo 64 (R234). -/
def headingIndex (code : Nat) : Nat := (rneInt (fxOf code * 32) piFix % 64).toNat

/-! ## The library (R229, R230) -/

/-- A primitive record. -/
structure Prim where
  h0 : Nat
  h1 : Nat
  band : Nat
  reverse : Bool
  dx : Int
  dy : Int
  len : Nat
  ns : Nat
  costW : Nat
  sweepOff : Nat
  sweepN : Nat
  sampleOff : Nat
  deriving DecidableEq, Repr

/-- Primitive `k` of a library. -/
def State.prim (s : State) (lib k : Nat) : Prim :=
  let a := lib + 0x240 + 32 * k
  let w := fun o => s.rdLe (a + o) 4
  ⟨w 0 % 64, bitsOf (w 0) 11 6, bitsOf (w 0) 15 12, bitOf (w 0) 16, signed 16 (w 4 % 65536), signed 16 (w 4 / 65536),
   w 8 % 65536, bitsOf (w 8) 23 16, w 0xC % 65536, w 0x10, w 0x14 % 65536, w 0x18⟩

/-- Primitives of a library. -/
def State.libCount (s : State) (lib : Nat) : Nat := s.rdLe (lib + 2) 2
def State.libCell (s : State) (lib : Nat) : Nat := s.rdLe (lib + 4) 2
def State.libBands (s : State) (lib : Nat) : Nat := s.rdLe (lib + 6) 2

/-- FP32 word `o` of band record `k`. -/
def State.band (s : State) (lib k o : Nat) : Nat := s.rdLe (lib + 0x40 + 32 * k + o) 4

/-- The swept cells of a primitive, relative to its start cell. -/
def State.sweep (s : State) (lib : Nat) (p : Prim) : List (Int × Int) :=
  (List.range p.sweepN).map (fun i =>
    (signed 16 (s.rdLe (lib + p.sweepOff + 4 * i) 2), signed 16 (s.rdLe (lib + p.sweepOff + 4 * i + 2) 2)))

/-- Word `o` (0 x, 4 y, 8 heading, 12 κ) of sample `i`. -/
def State.sample (s : State) (lib : Nat) (p : Prim) (i o : Nat) : Int := fxOf (s.rdLe (lib + p.sampleOff + 16 * i + o) 4)

/-- Some FP32 word of the samples is not finite. -/
def State.samplesFinite (s : State) (lib : Nat) (p : Prim) : Bool :=
  (List.range (4 * p.ns)).all (fun j => f32Finite (s.rdLe (lib + p.sampleOff + 4 * j) 4))

def sq (x : Int) : Int := x * x

/-- A fixed-point number lies above a limit given as an FP32 code; an infinite limit is passed only where it is negative. -/
def aboveF (x : Int) (limit : Nat) : Bool := if f32Finite limit then decide (fxOf limit < x) else (f32 limit).sign

/-- V_MAX² × KAPPA_MAX of a band exceeds A_LAT. -/
def State.latBad (s : State) (lib k : Nat) : Bool :=
  let v := s.band lib k 4
  let κ := s.band lib k 8
  let a := s.band lib k 0x1C
  if !f32Finite a then (f32 a).sign
  else if f32Finite v && f32Finite κ then decide (fxOf a * sq oneFix < fxOf v * fxOf v * fxOf κ)
  else !(f32 v).isZero && !(f32 κ).isZero && !(f32 κ).sign

/-- A primitive breaks a rule of R230. -/
def State.primBad (s : State) (lib k : Nat) : Bool :=
  let p := s.prim lib k
  let κ := fun i => s.sample lib p i 12
  let kmax := s.band lib p.band 8
  let dkc := s.band lib p.band 0xC
  let dk := fxOf dkc
  let cell := (s.libCell lib : Int)
  let last := p.ns - 1
  let ex := s.sample lib p last 0 * 1000 - p.dx * cell * oneFix
  let ey := s.sample lib p last 4 * 1000 - p.dy * cell * oneFix
  let eh := s.sample lib p last 8 * 32 - ((p.h1 : Int) - p.h0) * piFix
  let ew := eh - rneInt eh (64 * piFix) * (64 * piFix)
  let steep := fun i =>
    let d2 := sq (s.sample lib p (i + 1) 0 - s.sample lib p i 0) + sq (s.sample lib p (i + 1) 4 - s.sample lib p i 4)
    if f32Finite dkc && decide (0 ≤ dk) then decide (sq dk * d2 < sq (κ (i + 1) - κ i) * sq oneFix)
    else (f32 dkc).sign && decide (0 < d2)
  !bitOf (s.libBands lib) p.band || (k != 0 && decide (p.h0 < (s.prim lib (k - 1)).h0)) || !s.samplesFinite lib p ||
  κ 0 != 0 || κ last != 0 || (List.range p.ns).any (fun i => aboveF (κ i).natAbs kmax) || (List.range last).any steep ||
  decide (sq oneFix < sq ex + sq ey) || decide (32 * oneFix < (ew.natAbs : Int) * 1000) || s.latBad lib p.band

/-- The first primitive that breaks a rule. -/
def State.firstBadPrim (s : State) (lib : Nat) : Option Nat := (List.range (s.libCount lib)).find? (s.primBad lib)

/-- Some table, sample or sweep list extends beyond SIZE. -/
def State.libTooLong (s : State) (lib size : Nat) : Bool :=
  let n := s.libCount lib
  decide (size < 0x240 + 32 * n) || (List.range n).any (fun k =>
    let p := s.prim lib k
    decide (size < p.sweepOff + 4 * p.sweepN) || decide (size < p.sampleOff + 16 * p.ns))

/-- CRC-32 over bytes 0x0C to SIZE − 1. -/
def State.libCrc (s : State) (lib size : Nat) : Nat := Crypto.crc32 0xEDB88320 (s.rd (lib + 0xC) (size - 0xC))

/-- A present band's values lie outside R229's ranges: 0 ≤ V_MIN < V_MAX, A_MAX and D_MAX positive. A NaN lies outside every
range (DEDUCED: log entry 31). -/
def State.bandBad (s : State) (lib k : Nat) : Bool :=
  let w := fun o => f32 (s.band lib k o)
  (List.range 8).any (fun i => (w (4 * i)).isNan) || (w 0).below .zero || !(w 0).below (w 4) ||
  !FV.zero.below (w 0x10) || !FV.zero.below (w 0x14)

/-- Values of a primitive record outside R229's ranges (R21): E_ILLEGAL, and lengths of 0 or all ones: E_LENGTH. -/
def State.primIllegal (s : State) (lib k : Nat) : Bool :=
  let p := s.prim lib k
  let data := 0x240 + 32 * s.libCount lib
  p.ns = 1 || (decide (64 < p.ns) && p.ns != 255) || (decide (4096 < p.sweepN) && p.sweepN != 0xFFFF) ||
  decide (p.sweepOff < data) || decide (p.sampleOff < data) || s.rdLe (lib + 0x240 + 32 * k + 0x1C) 4 != 0
def State.primLength (s : State) (lib k : Nat) : Bool :=
  let p := s.prim lib k
  p.ns = 0 || p.ns = 255 || p.len = 0 || p.len = 0xFFFF || p.sweepN = 0 || p.sweepN = 0xFFFF

/-- The library checks of R230 in its order, with the ranges of R229 in the order of R25 between its steps (DEDUCED: log
entry 31). -/
def State.libChk (s : State) (lib size : Nat) : Nat :=
  let n := s.libCount lib
  if s.rdLe lib 2 ≠ 1 then Code.eVersion
  else if 4096 < n ∧ n ≠ 0xFFFF then Code.eIllegal
  else if n = 0 ∨ n = 0xFFFF then Code.eLength
  else if size < 0x240 + 32 * n then Code.eBounds
  else if (List.range 16).any (fun k => bitOf (s.libBands lib) k && s.bandBad lib k) || (List.range n).any (s.primIllegal lib)
    then Code.eIllegal
  else if (List.range n).any (s.primLength lib) then Code.eLength
  else if s.libTooLong lib size then Code.eBounds
  else if s.libCrc lib size ≠ s.rdLe (lib + 8) 4 then Code.eLibCrc
  else if (s.firstBadPrim lib).isSome then Code.ePrimLimit
  else Code.ok

/-! ## Footprints (R231) -/

/-- The vertices of the polygon. -/
def State.polygon (s : State) (foot : Nat) : List (Int × Int) :=
  (List.range (s.rdLe (foot + 0x400) 4 % 32)).map (fun i =>
    (fxOf (s.rdLe (foot + 0x408 + 8 * i) 4), fxOf (s.rdLe (foot + 0x40C + 8 * i) 4)))

/-- The circles: X, Y, R. -/
def State.circles (s : State) (foot : Nat) : List (Int × Int × Int) :=
  (List.range 64).map (fun i =>
    let a := foot + 16 * i
    (fxOf (s.rdLe a 4), fxOf (s.rdLe (a + 4) 4), fxOf (s.rdLe (a + 8) 4)))

/-- Twice the area of a closed polygon, positive when it runs counterclockwise. -/
def area2 (l : List (Int × Int)) : Int :=
  (List.zipWith (fun a b => a.1 * b.2 - a.2 * b.1) l (l.drop 1 ++ l.take 1)).foldl (· + ·) 0

/-- Convex and counterclockwise: the area is positive and every vertex lies on the left of every edge. -/
def convexCcw (l : List (Int × Int)) : Bool :=
  decide (0 < area2 l) && (List.zipWith Prod.mk l (l.drop 1 ++ l.take 1)).all (fun (a, b) =>
    l.all (fun c => decide (0 ≤ (b.1 - a.1) * (c.2 - a.2) - (b.2 - a.2) * (c.1 - a.1))))

/-- The footprint check. -/
def State.footBad (s : State) (foot : Nat) : Bool :=
  let nv := s.rdLe (foot + 0x400) 4 % 32
  (List.range 64).any (fun i => !f32Finite (s.rdLe (foot + 16 * i + 8) 4) || decide (fxOf (s.rdLe (foot + 16 * i + 8) 4) ≤ 0)) ||
  decide (nv < 3) || decide (16 < nv) || (List.range (2 * nv)).any (fun i => !f32Finite (s.rdLe (foot + 0x408 + 4 * i) 4)) ||
  !convexCcw (s.polygon foot)

/-! ## The search (R234–R236) -/

/-- What a search runs on. -/
structure SearchEnv where
  g : Grid
  unk : Bool
  lib : Nat
  prims : List (Nat × Prim × List (Int × Int))
  cellW : Nat
  start : Nat
  margin : Nat
  deriving DecidableEq, Repr

def unreached : Nat := 0xFFFFFF
def sat24 (x : Nat) : Nat := min x 0xFFFFFF

/-- The index of a lattice state. -/
def Grid.index (g : Grid) (x y h : Nat) : Nat := (y * g.w + x) * 64 + h

/-- The cost of the edge of a primitive out of a cell; none where the edge is absent (R234). -/
def State.edge (s : State) (e : SearchEnv) (x y : Nat) (p : Prim) (sw : List (Int × Int)) : Option Nat :=
  let cells := sw.map (fun d => ((x : Int) + d.1, (y : Int) + d.2))
  let inside := fun (c : Int × Int) => decide (0 ≤ c.1) && decide (c.1 < e.g.w) && decide (0 ≤ c.2) && decide (c.2 < e.g.h)
  if cells.any (fun c => !inside c || s.lethal e.g e.unk c.1.toNat c.2.toNat) ||
      !inside ((x : Int) + p.dx, (y : Int) + p.dy) ||
      (e.g.index x y p.h0 = e.start && s.lethal e.g e.unk x y) then none
  else
    let sum := cells.foldl (fun t c => sat24 (t + s.cellCost e.g e.unk c.1.toNat c.2.toNat)) 0
    some (max 1 (sat24 (p.len * p.costW + e.cellW * sum) / 256))

/-- The states with an edge into a state, with the edge's cost. -/
def State.into (s : State) (e : SearchEnv) (i : Nat) : List (Nat × Nat) :=
  let x := i / 64 % e.g.w
  let y := i / 64 / e.g.w
  e.prims.filterMap (fun (_, p, sw) =>
    let px := (x : Int) - p.dx
    let py := (y : Int) - p.dy
    if p.h1 = i % 64 ∧ 0 ≤ px ∧ px < e.g.w ∧ 0 ≤ py ∧ py < e.g.h then
      (s.edge e px.toNat py.toNat p sw).map (fun c => (e.g.index px.toNat py.toNat p.h0, c))
    else none)

/-- The search's settled states and frontier, both J by state index, and for each the state that its J comes from (none for a
goal state). -/
structure Search where
  settled : KMap Nat
  front : KMap Nat
  source : KMap Nat
  deriving DecidableEq, Repr

/-- The frontier state settled next: least J, then least index. -/
def leastJ : KMap Nat → Option (Nat × Nat)
  | [] => none
  | (i, j) :: m =>
    match leastJ m with
    | some (i', j') => if j' < j then some (i', j') else some (i, j)
    | none => some (i, j)

/-- A settled state's J passes on to its predecessors: those not settled join the frontier, and one that a repair has kept with a
greater J is restarted. -/
def State.passOn (s : State) (e : SearchEnv) (q : Search) (i j : Nat) : Search :=
  (s.into e i).foldl (fun q (k, c) =>
    let nj := sat24 (j + c)
    let old := match KMap.find q.settled k with
      | some v => v
      | none => KMap.getD q.front k unreached
    if nj < old then ⟨KMap.del q.settled k, KMap.put q.front k nj, KMap.put q.source k i⟩ else q) q

/-- One state is settled. -/
def State.settle (s : State) (e : SearchEnv) (q : Search) (i j : Nat) : Search :=
  s.passOn e { q with settled := KMap.put q.settled i j, front := KMap.del q.front i } i j

/-- The search is complete: the start is settled and every frontier state lies beyond the margin. -/
def Search.complete (q : Search) (e : SearchEnv) : Bool :=
  match KMap.find q.settled e.start with
  | some j => q.front.all (fun p => decide (sat24 (j + e.margin) < p.2))
  | none => false

/-- At most `n` states are settled. -/
def State.searchGo (s : State) (e : SearchEnv) : Nat → Search → Search
  | 0, q => q
  | n + 1, q =>
    if q.complete e then q
    else match leastJ q.front with
      | none => q
      | some (i, j) => s.searchGo e n (s.settle e q i j)

/-- The goal states (R234). -/
def State.goals (s : State) (e : SearchEnv) (gx gy gh radius tol : Nat) : List Nat :=
  (List.range e.g.h).flatMap (fun (y : Nat) => (List.range e.g.w).flatMap (fun (x : Nat) =>
    if decide (sq ((x : Int) - gx) + sq ((y : Int) - gy) ≤ sq radius) && !s.lethal e.g e.unk x y then
      (List.range 64).filterMap (fun h =>
        let d := (h + 64 - gh) % 64
        if d ≤ tol ∨ 64 - d ≤ tol then some (e.g.index x y h) else none)
    else []))

def Search.begin (goals : List Nat) : Search := ⟨[], goals.foldl (fun m i => KMap.put m i 0) [], []⟩

/-! ### Repair (R233, R234) -/

/-- State `i` and every state that its J comes from are good. `n` bounds the chain. -/
def rooted (source : KMap Nat) (bad : Nat → Bool) : Nat → Nat → Bool
  | 0, _ => false
  | n + 1, i => !bad i && (match KMap.find source i with
    | some k => rooted source bad n k
    | none => true)

/-- An outgoing edge of a state crosses a listed cell. -/
def SearchEnv.crosses (e : SearchEnv) (listed : List (Nat × Nat)) (i : Nat) : Bool :=
  let x := i / 64 % e.g.w
  let y := i / 64 / e.g.w
  e.prims.any (fun (_, p, sw) => p.h0 = i % 64 &&
    sw.any (fun d => listed.any (fun c => (c.1 : Int) = x + d.1 && (c.2 : Int) = y + d.2)))

/-- The start of a repair: of the states that the arena holds as settled, those are restarted whose outgoing edges cross a listed
cell, goal states that are none any more, and all whose J depended on these; the others stand, and pass their J on. -/
def State.repairBegin (s : State) (e : SearchEnv) (goals : List Nat) (held source : KMap Nat) (listed : List (Nat × Nat)) : Search :=
  let bad := fun i => e.crosses listed i || ((KMap.find source i).isNone && !goals.contains i) || (KMap.find held i).isNone
  let kept := held.filter (fun p => rooted source bad held.length p.1)
  let fresh := goals.filter (fun i => (KMap.find kept i).isNone)
  let q : Search := ⟨kept, fresh.foldl (fun m i => KMap.put m i 0) [],
    source.filter (fun p => (KMap.find kept p.1).isSome)⟩
  kept.foldl (fun q p => s.passOn e q p.1 p.2) q

/-- A search that is complete has settled exactly the states within the margin (R235): those that a repair kept beyond it return to
the frontier. -/
def Search.trim (q : Search) (e : SearchEnv) : Search :=
  match KMap.find q.settled e.start with
  | none => q
  | some j =>
    let lim := sat24 (j + e.margin)
    let far := q.settled.filter (fun p => decide (lim < p.2))
    { q with settled := q.settled.filter (fun p => decide (p.2 ≤ lim)), front := far.foldl (fun m p => KMap.put m p.1 p.2) q.front }

/-- The primitives out of a state with a settled end, ranked by total cost, then index: (total, primitive, end). -/
def State.outOf (s : State) (e : SearchEnv) (q : Search) (i : Nat) : List (Nat × Nat × Nat) :=
  let x := i / 64 % e.g.w
  let y := i / 64 / e.g.w
  let l := e.prims.filterMap (fun (k, p, sw) =>
    if p.h0 = i % 64 then
      match s.edge e x y p sw with
      | some c =>
        let j := e.g.index ((x : Int) + p.dx).toNat ((y : Int) + p.dy).toNat p.h1
        (KMap.find q.settled j).map (fun v => (sat24 (c + v), k, j))
      | none => none
    else none)
  l.foldl (fun acc t =>
    acc.takeWhile (fun u => decide (u.1 ≤ t.1)) ++ [t] ++ acc.dropWhile (fun u => decide (u.1 ≤ t.1))) []

/-- The greedy descent from a state to a goal: the primitives taken. -/
def State.descend (s : State) (e : SearchEnv) (q : Search) (goals : List Nat) : Nat → Nat → List Nat
  | 0, _ => []
  | n + 1, i =>
    if goals.contains i then []
    else match s.outOf e q i with
      | [] => []
      | (_, k, j) :: _ => k :: s.descend e q goals n j

/-- The candidates (R236): chain and J of the state that the first primitive reaches. -/
def State.candidates (s : State) (e : SearchEnv) (q : Search) (goals : List Nat) (ncand : Nat) : List Cand :=
  match KMap.find q.settled e.start with
  | none => []
  | some j0 =>
    (((s.outOf e q e.start).filter (fun t => decide (t.1 ≤ sat24 (j0 + e.margin)))).take ncand).map (fun t =>
      { j := KMap.getD q.settled t.2.2 0, chain := t.2.1 :: s.descend e q goals q.settled.length t.2.2 })

/-! ## Trajectories (R237) -/

/-- A pose. -/
structure Pose where
  x : FV
  y : FV
  h : FV
  v : FV
  deriving DecidableEq, Repr

/-- One step of the replay model, each operation correctly rounded FP32. -/
def Pose.next (p : Pose) (κ a dt : FV) : Pose :=
  let v1 := addF p.v (mulF a dt)
  let half := FV.fin false 1 (-1)
  let st := mulF (mulF (addF p.v v1) half) dt
  let ks := mulF κ st
  let c := addF p.h (mulF ks half)
  ⟨addF p.x (mulF st c.cos32), addF p.y (mulF st c.sin32), addF p.h ks, v1⟩

/-- The poses of a control list. -/
def replay (dt : FV) : Pose → List (Nat × Nat) → List Pose
  | p, [] => [p]
  | p, (κ, a) :: cs => p :: replay dt (p.next (f32 κ) (f32 a) dt) cs

/-- The 16 bytes of a pose. -/
def Pose.bytes (p : Pose) : List Nat :=
  leBytes 4 (fp32.code p.x) ++ leBytes 4 (fp32.code p.y) ++ leBytes 4 (fp32.code p.h) ++ leBytes 4 (fp32.code p.v)

/-- The last pose with another speed. -/
def endSpeed (v : FV) : List Pose → List Pose
  | [] => []
  | [p] => [{ p with v := v }]
  | p :: ps => p :: endSpeed v ps

/-! ## The checkers (R239) -/

/-- Sine and cosine of a heading, in fixed point. -/
def sinFix (h : FV) : Int := trigFix 0 (h.fix trigBits)
def cosFix (h : FV) : Int := trigFix 1 (h.fix trigBits)

/-- A point of the vehicle frame at a pose, in fixed point. -/
def place (p : Pose) (x y : Int) : Int × Int :=
  (p.x.fix trigBits + (x * cosFix p.h - y * sinFix p.h) / oneFix, p.y.fix trigBits + (x * sinFix p.h + y * cosFix p.h) / oneFix)

/-- The lethal cells of a grid. -/
def State.lethalCells (s : State) (g : Grid) (unk : Bool) : List (Nat × Nat) :=
  (List.range g.h).flatMap (fun y => ((List.range g.w).filter (fun x => s.lethal g unk x y)).map (fun x => (x, y)))

/-- A cell edge in fixed point, times 1000: edge `i` along an axis. -/
def cellEdge (origin cell i : Nat) : Int := fxOf origin * 1000 + (i : Int) * cell * oneFix

/-- The main checker at one pose: a lethal cell's centre lies within R of a circle's centre. -/
def mainMeets (g : Grid) (cs : List (Int × Int × Int)) (cells : List (Nat × Nat)) (p : Pose) : Bool :=
  let centres := cs.map (fun (x, y, r) => (place p x y, r))
  cells.any (fun (x, y) =>
    let cx := (cellEdge g.ox g.cell x + cellEdge g.ox g.cell (x + 1)) / 2
    let cy := (cellEdge g.oy g.cell y + cellEdge g.oy g.cell (y + 1)) / 2
    centres.any (fun (c, r) => decide (sq (c.1 * 1000 - cx) + sq (c.2 * 1000 - cy) ≤ sq (r * 1000))))

/-- Two convex shapes are separated along an axis. -/
def separated (a b : List (Int × Int)) (n : Int × Int) : Bool :=
  let proj := fun (l : List (Int × Int)) => l.map (fun p => p.1 * n.1 + p.2 * n.2)
  (proj a).all (fun x => (proj b).all (fun y => decide (x < y))) || (proj a).all (fun x => (proj b).all (fun y => decide (y < x)))

/-- The Plumb-side checker at one pose: a lethal cell's square meets the polygon. -/
def plumbMeets (g : Grid) (poly : List (Int × Int)) (cells : List (Nat × Nat)) (p : Pose) : Bool :=
  let vs := poly.map (fun v => let q := place p v.1 v.2; (q.1 * 1000, q.2 * 1000))
  let axes := (1, 0) :: (0, 1) :: List.zipWith (fun a b => (a.2 - b.2, b.1 - a.1)) vs (vs.drop 1 ++ vs.take 1)
  cells.any (fun (x, y) =>
    let x0 := cellEdge g.ox g.cell x
    let x1 := cellEdge g.ox g.cell (x + 1)
    let y0 := cellEdge g.oy g.cell y
    let y1 := cellEdge g.oy g.cell (y + 1)
    !axes.any (separated vs [(x0, y0), (x1, y0), (x1, y1), (x0, y1)]))

/-! ### Interpolation -/

/-- The poses inside the step of a control from a pose: the replay model over equal parts of the step, so many that two poses lie
at most CELL_MM / 2 apart (R239; how the poses lie, and how many more there are, is the checkers': DESIGN CHOICE, log entry 31). -/
def between (cell : Nat) (dt : FV) (p : Pose) (c : Nat × Nat) : List Pose :=
  let v1 := addF p.v (mulF (f32 c.2) dt)
  let far := (mulF (FV.max2 p.v.abs v1.abs) dt).fix trigBits
  let least := ((far * 2000 + cell * oneFix - 1) / (cell * oneFix)).toNat
  let n := least + Config.morePoses least
  (List.range (n - 1)).map (fun (i : Nat) => p.next (f32 c.1) (f32 c.2) (FV.div32 (mulF dt (FV.ofInt (i + 1))) (FV.ofInt n)))

/-- The poses of a control list, each with the interpolated ones that follow it. -/
def traced (cell : Nat) (dt : FV) : Pose → List (Nat × Nat) → List (Pose × List Pose)
  | p, [] => [(p, [])]
  | p, c :: cs => (p, between cell dt p c) :: traced cell dt (p.next (f32 c.1) (f32 c.2) dt) cs

/-- The first pose of a list at which, or in the step after which, a test holds. -/
def firstPose (t : Pose → Bool) : List (Pose × List Pose) → Nat → Option Nat
  | [], _ => none
  | x :: xs, i => if t x.1 || x.2.any t then some i else firstPose t xs (i + 1)

/-- A checker's verdict on the poses of a control list: its first colliding pose. Without a lethal cell there is none. -/
def checker (cells : List (Nat × Nat)) (t : List (Nat × Nat) → Pose → Bool) (ps : List (Pose × List Pose)) : Option Nat :=
  if cells.isEmpty then none else firstPose (t cells) ps 0

/-- Both verdicts on a control list, and whether a pose leaves the grid. -/
def State.checkBoth (s : State) (g : Grid) (unk : Bool) (foot : Nat) (dt : FV) (start : Pose) (cs : List (Nat × Nat)) :
    Option Nat × Option Nat × Bool :=
  let cells := s.lethalCells g unk
  let ps := traced g.cell dt start cs
  (checker cells (mainMeets g (s.circles foot)) ps, checker cells (plumbMeets g (s.polygon foot)) ps,
    ps.any (fun q => (g.cellAt (q.1.x.fix trigBits) (q.1.y.fix trigBits)).isNone))

end Sys2Proof.Machine
end

