-- ==== Sys2Proof/Machine/Traverse.lean ====
section
/-! DEFINITION. Traverse's contexts and plans (chapter 8): enabling, admission, the stages of a plan, its commit and its
faults. -/

namespace Sys2Proof.Machine
open Sys2Proof

/-! ## Contexts (R224, R225) -/

def State.cx (s : State) (c : Nat) : TrvCtx := KMap.getD s.trv.ctx c {}
def State.setCx (s : State) (c : Nat) (x : TrvCtx) : State := { s with trv := { s.trv with ctx := KMap.put s.trv.ctx c x } }
def State.setPlan (s : State) (p : Option Plan) : State := { s with trv := { s.trv with plan := p } }
def State.cxAttr (s : State) (c : Nat) : Attr := ⟨s.bit (Reg.TRV_CX_ATTR_SECURE c), s.get (Reg.TRV_CX_ATTR_PARTITION c)⟩

def cxBad (x : Nat) : Bool := decide (x < 2) || decide (10 < x)

/-- The library and the footprints of a context, as reads. -/
def State.cxTables (s : State) (c : Nat) : List Span :=
  [⟨s.cxAttr c, false, s.get (Reg.TRV_CX_LIB_BASE_BASE c), s.get (Reg.TRV_CX_LIB_SIZE_SIZE c)⟩,
   ⟨s.cxAttr c, false, s.get (Reg.TRV_CX_FOOT_BASE_BASE c), 0x488⟩]

/-- The checks of EN: the ring sizes, the lengths of library and arena, the alignments, that library and footprints can be read,
then R230 and R231. -/
def State.cxCheck (s : State) (c : Nat) : Nat :=
  let bytes := [s.get (Reg.TRV_CX_LIB_SIZE_SIZE c), s.get (Reg.TRV_CX_ARENA_SIZE_SIZE c)]
  let lib := s.get (Reg.TRV_CX_LIB_BASE_BASE c)
  let foot := s.get (Reg.TRV_CX_FOOT_BASE_BASE c)
  let size := s.get (Reg.TRV_CX_LIB_SIZE_SIZE c)
  if cxBad (s.get (Reg.TRV_CX_REQ_SIZE_LOG2 c)) || cxBad (s.get (Reg.TRV_CX_CPL_SIZE_CLOG2 c)) then Code.eIllegal
  else if bytes.any (fun n => n = 0 || n = 0xFFFFFFFF) then Code.eLength
  else if [lib, s.get (Reg.TRV_CX_ARENA_BASE_BASE c), s.get (Reg.TRV_CX_REQ_BASE_BASE c), s.get (Reg.TRV_CX_CPL_BASE_BASE c),
      s.get (Reg.TRV_CX_OUT_BASE_BASE c), s.get (Reg.TRV_CX_GRID_BASE_BASE c), s.get (Reg.TRV_CX_GRID_STRIDE_STRIDE c)].any
      (fun a => a % 4096 != 0) || foot % 64 != 0 then Code.eAlign
  else if (s.reachSpans (s.cxTables c)).1 ≠ Code.ok then Code.eAccess
  else
    let l := s.libChk lib size
    if l ≠ Code.ok then l else if s.footBad foot then Code.eFootprint else Code.ok

/-- A context starts: pointers and SEQ at 0, the arena invalid, no grid published. -/
def State.cxStart (s : State) (c : Nat) : State :=
  let s := (((s.set (Reg.TRV_Q_RPTR_RPTR c) 0).set (Reg.TRV_Q_WPTR_WPTR c) 0).set (Reg.TRV_Q_CPL_WPTR_CPL_WPTR c) 0)
  let s := ((s.set (Reg.TRV_Q_CPL_RPTR_CPL_RPTR c) 0).set (Reg.TRV_Q_SEQ_SEQ c) 0).set (Reg.TRV_Q_LATEST_VALID c) 0
  (s.set (Reg.TRV_Q_STATUS_EN c) 1).setCx c { lastCheck := s.datum }

/-- The context whose plan is admitted. -/
def State.planOf (s : State) (c : Nat) : Option Plan :=
  match s.trv.plan with
  | some p => if p.ctx = c then some p else none
  | none => none

def trvReg (c value : Nat) : EnReg :=
  { en := Reg.TRV_CX_ATTR_EN c, status := Reg.TRV_CX_STATUS_LAST c
    locked := [(Reg.TRV_CX_ATTR_PIPE c, bitsOf value 20 16), (Reg.TRV_CX_ATTR_SECURE c, bitsOf value 15 15),
      (Reg.TRV_CX_ATTR_PARTITION c, bitsOf value 13 8)]
    free := [(Reg.TRV_CX_ATTR_PRIO c, bitsOf value 26 24)]
    check := fun s => s.cxCheck c
    mayClear := fun s => if (s.planOf c).isSome then Code.eBusy else Code.ok
    onEnable := fun s => s.cxStart c
    onDisable := fun s => s.set (Reg.TRV_Q_STATUS_EN c) 0
    reads := fun s => s.cxTables c }

/-- A write of TRV_CX_ATTR; INDEX names the primitive of an E_PRIM_LIMIT. -/
def State.trvCtrl (s : State) (c value : Nat) (en : Bool) : State :=
  let was := s.bit (Reg.TRV_CX_ATTR_EN c)
  let s := s.enWrite (trvReg c value) en
  if !was ∧ s.get (Reg.TRV_CX_STATUS_LAST c) = Code.ePrimLimit then
    s.set (Reg.TRV_CX_STATUS_INDEX c) ((s.firstBadPrim (s.get (Reg.TRV_CX_LIB_BASE_BASE c))).getD 0)
  else s

/-! ## Completion records (R241, R448) -/

/-- A completion record's fields that a plan gives; where no bank or candidate stands behind a field, it is free. -/
structure PlanRec where
  status : Nat
  tag : Nat
  seq : Nat
  rank : Nat
  cands : Nat
  invalidated : Nat
  flags : Nat
  bank : Nat
  epoch : Nat
  check : Nat
  admitted : Nat
  updates : Nat
  deriving DecidableEq, Repr

def PlanRec.bytes (r : PlanRec) (now : Nat) : List Nat :=
  leBytes 4 (r.status + 2 ^ 16 * r.tag) ++ leBytes 4 r.seq ++
    leBytes 4 (r.rank % 16 + 2 ^ 4 * r.cands + 2 ^ 8 * r.invalidated + 2 ^ 12 * r.flags + 2 ^ 16 * (r.bank % 2)) ++
    leBytes 4 r.epoch ++ leBytes 4 (r.check % 2 ^ 32) ++ leBytes 4 (r.admitted % 2 ^ 32) ++ leBytes 4 now ++
    leBytes 4 (r.updates % 2 ^ 32)

/-- A record is written at CPL_WPTR, raises the context's source and is sent on FLOW; a refused one stops the context. -/
def State.planRecord (s : State) (c : Nat) (r : PlanRec) : State :=
  let i := s.get (Reg.TRV_Q_CPL_WPTR_CPL_WPTR c)
  let a := s.get (Reg.TRV_CX_CPL_BASE_BASE c) + 32 * i
  let bs := r.bytes s.ts32
  let s := match s.reach (s.cxAttr c) true a 32 with
    | (.ok, s) =>
      ((s.wr a bs).set (Reg.TRV_Q_CPL_WPTR_CPL_WPTR c) ((i + 1) % 2 ^ s.get (Reg.TRV_CX_CPL_SIZE_CLOG2 c))).raiseEdge (264 + c)
    | (_, s) => (s.setCx c { s.cx c with stopped := true }).set (Reg.TRV_Q_STATUS_LAST c) Code.eAccess
  if s.bit (Reg.TRV_CX_FLOW_FLOW_EN c) then
    (s.emit (.flowRecord (s.get (Reg.TRV_CX_FLOW_FLOW c)) bs)).producerInput 2 (s.get (Reg.TRV_CX_FLOW_FLOW c)) bs else s

/-- The oldest request leaves the ring. -/
def State.nextRequest (s : State) (c : Nat) : State :=
  s.set (Reg.TRV_Q_RPTR_RPTR c) ((s.get (Reg.TRV_Q_RPTR_RPTR c) + 1) % 2 ^ s.get (Reg.TRV_CX_REQ_SIZE_LOG2 c))

/-! ## Requests (R232) -/

/-- The words of the oldest request. -/
def State.request (s : State) (c : Nat) : List Nat :=
  wordsOf 32 (s.rd (s.get (Reg.TRV_CX_REQ_BASE_BASE c) + 128 * s.get (Reg.TRV_Q_RPTR_RPTR c)) 128)

/-- Bits of word `i` of a request. -/
def rq (ws : List Nat) (i hi lo : Nat) : Nat := bitsOf (nthNat ws i) hi lo
def rqSlot (ws : List Nat) : Nat := rq ws 0 11 10
def rqUnk (ws : List Nat) : Bool := rq ws 0 12 12 = 1
def rqDelta (ws : List Nat) : Bool := rq ws 0 9 9 = 1
def rqDeltaAddr (ws : List Nat) : Nat := nthNat ws 4 + 2 ^ 32 * rq ws 5 15 0
def rqDeltaCount (ws : List Nat) : Nat := if rqDelta ws then rq ws 6 15 0 else 0
def rqNcand (ws : List Nat) : Nat := rq ws 3 19 16
def rqPoses (ws : List Nat) : Nat := rq ws 18 24 16
def rqDt (ws : List Nat) : FV := FV.div32 (FV.ofInt (rq ws 18 7 0)) (FV.ofInt 1000)

/-- The bound b in ns. -/
def rqBound (ws : List Nat) : Nat := (20 + rq ws 16 19 0 + rq ws 17 19 0 + 4 * (rqNcand ws + 1) + 2) * 1000

/-- The bits that a request may set, word by word. -/
def rqMasks : List Nat :=
  [0xFFFF1FFF, 0xFFFFFFFF, 0xFFFFFFFF, 0x07FFFFFF, 0xFFFFFFFF, 0xFFFF, 0xFFFF, 0xFFFFFFFF, 0xFFFFFFFF, 0xFFFFFFFF,
   0xFFFFFFFF, 0xFFFFFFFF, 0xFFFFFFFF, 0xFFFFFFFF, 0xFFFFFFFF, 0x3FFF, 0xFFFFF, 0xFFFFF, 0x01FF00FF, 0xFFFFFFFF,
   0xFFFF, 0xFFFFFFFF, 0xFFFFFFFF]

/-- Delta entry `i`. -/
def State.delta (s : State) (ws : List Nat) (i : Nat) : Nat := s.rdLe (rqDeltaAddr ws + 4 * i) 4

/-- A grid slot of a context. -/
def State.slotAddr (s : State) (c i : Nat) : Nat :=
  s.get (Reg.TRV_CX_GRID_BASE_BASE c) + i * s.get (Reg.TRV_CX_GRID_STRIDE_STRIDE c)
def State.planGrid (s : State) (c : Nat) (ws : List Nat) : Grid := s.readGrid (s.slotAddr c (rqSlot ws))

def inRange (x lo hi : Nat) : Bool := decide (lo ≤ x) && decide (x ≤ hi)

/-- What a plan reads and writes for its request: the grid, the delta list, the arena and both output banks. -/
def State.requestSpans (s : State) (c : Nat) (ws : List Nat) : List Span :=
  let g := s.planGrid c ws
  let at' := s.cxAttr c
  let sized := if g.dimsOk (s.get (Reg.TRV_CX_GRID_STRIDE_STRIDE c)) then
      [⟨at', false, g.base, 0x40 + g.w * g.h⟩, ⟨at', true, s.get (Reg.TRV_CX_ARENA_BASE_BASE c), 4096 + g.w * g.h * 256⟩]
    else []
  [⟨at', false, g.base, 0x40⟩] ++ sized ++
    [⟨at', false, rqDeltaAddr ws, 4 * rqDeltaCount ws⟩, ⟨at', true, s.get (Reg.TRV_CX_OUT_BASE_BASE c), 0x6000⟩]

/-- The decode of a request (R232, R21–R25) whose reads ended with `reached`. A count of 0 or of all ones is E_LENGTH, another
value outside its range E_ILLEGAL. -/
def State.requestChk (s : State) (c : Nat) (ws : List Nat) (reached : Nat) : Nat :=
  let lib := s.get (Reg.TRV_CX_LIB_BASE_BASE c)
  let g := s.planGrid c ws
  let cnt := fun (x ones : Nat) => x = 0 || x = ones
  let n := rqDeltaCount ws
  let seen := decide (reached = Code.ok)
  firstCode
    [(rq ws 0 7 0 != 1 || (List.range 32).any (fun i => outside (nthNat ws i) (nthNat rqMasks i)) ||
        [8, 9, 10, 11, 12, 13, 14, 21, 22].any (fun i => !f32Finite (nthNat ws i)) ||
        rq ws 3 15 0 = 0 || outside (rq ws 3 15 0) (s.libBands lib) || decide (8 < rqNcand ws) && rqNcand ws != 15 ||
        decide (64 < rq ws 3 26 20) && rq ws 3 26 20 != 127 || decide (64 < rq ws 15 7 0) || decide (31 < rq ws 15 13 8) ||
        !inRange (rq ws 16 19 0) 1 1000000 || decide (1000000 < rq ws 17 19 0) || !inRange (rq ws 18 7 0) 10 200 ||
        !(inRange (rqPoses ws) 2 256 || cnt (rqPoses ws) 511) || decide (fxOf (nthNat ws 21) ≤ 0) ||
        (!rqDelta ws && rqDeltaAddr ws != 0) ||
        seen && (List.range n).any (fun i => bitsOf (s.delta ws i) 23 20 != 0), Code.eIllegal),
     (cnt (rqNcand ws) 15 || cnt (rq ws 3 26 20) 127 || cnt (rqPoses ws) 511 || rq ws 6 15 0 = 0xFFFF, Code.eLength),
     (rqDeltaAddr ws % 4 != 0, Code.eAlign),
     (reached = Code.eBounds || seen && ((g.cellAt (fxOf (nthNat ws 8)) (fxOf (nthNat ws 9))).isNone ||
        (g.cellAt (fxOf (nthNat ws 12)) (fxOf (nthNat ws 13))).isNone ||
        decide (s.get (Reg.TRV_CX_ARENA_SIZE_SIZE c) < 4096 + g.w * g.h * 256) ||
        (List.range n).any (fun i => decide (g.w ≤ bitsOf (s.delta ws i) 9 0) || decide (g.h ≤ bitsOf (s.delta ws i) 19 10))),
        Code.eBounds),
     (!seen, Code.eAccess),
     (g.version != 1 || !g.dimsOk (s.get (Reg.TRV_CX_GRID_STRIDE_STRIDE c)) || g.epoch != nthNat ws 2 || g.cell != s.libCell lib,
        Code.eGrid)]

/-! ## Ends of plans -/

/-- Both results' addresses in the output bank named. -/
def State.planNotice (s : State) (c tag status bank : Nat) : State :=
  let a := s.get (Reg.TRV_CX_OUT_BASE_BASE c) + bank * 0x3000
  s.noticeTraverse c tag status (a + 0x100) (a + 0x1200)

/-- A request completes without an output record. -/
def State.failRecord (s : State) (c status : Nat) (ws : List Nat) (p : Option Plan) : State :=
  let (rank, s) := s.freeNat
  let (bank, s) := s.freeNat
  let (check, s) := s.freeNat
  let flags := match p with | some p => b2n p.repair + 2 * b2n p.partially + 4 * b2n p.restarted + 8 * b2n p.fbCollides | none => 0
  let s := s.planRecord c
    { status := status, tag := rq ws 0 31 16, seq := s.get (Reg.TRV_Q_SEQ_SEQ c), rank := rank,
      cands := (match p with | some p => p.cands.length | none => 0),
      invalidated := (match p with | some p => p.invalidated | none => 0), flags := flags, bank := bank,
      epoch := nthNat ws 2, check := check, admitted := (match p with | some p => p.start | none => s.datum),
      updates := (match p with | some p => p.updates | none => 0) }
  (s.nextRequest c).planNotice c (rq ws 0 31 16) status (s.get (Reg.TRV_Q_STATUS_PUB c))

/-- The running plan ends: its slots are released. -/
def State.clearPlan (s : State) (c : Nat) : State :=
  ((s.setPlan none).set (Reg.TRV_Q_HOLD_HOLD c) 0).set (Reg.TRV_Q_STATUS_RUNNING c) 0

/-- The running plan is killed with a code and leaves no trace; the arena becomes invalid (R243). -/
def State.killPlan (s : State) (code : Nat) : State :=
  match s.trv.plan with
  | none => s
  | some p =>
    let s := ((s.markKill p.window).clearPlan p.ctx).setCx p.ctx { s.cx p.ctx with arena := none }
    s.failRecord p.ctx code p.req (some p)

/-- Work of the running plan that accesses memory under its context's attribute (R224): an access that fails ends the plan with its
code (R301). -/
def State.planWith (s : State) (spans : List Span) (work : State → State) : State :=
  match s.reachSpans spans with
  | (0, s) => work s
  | (c, s) => s.killPlan c

/-- The reads of the plan's stages: grid, library and footprints. -/
def State.planReads (s : State) (p : Plan) : List Span :=
  let g := s.planGrid p.ctx p.req
  ⟨s.cxAttr p.ctx, false, g.base, 0x40 + g.w * g.h⟩ :: s.cxTables p.ctx

/-! ## Admission (R224, R232) -/

/-- Plumb shows a clock or rail fault (R244). -/
def State.plumbFault (s : State) : Bool := s.bit Reg.PLB_STATUS_CLK_FAULT || s.bit Reg.PLB_STATUS_RAIL_FAULT

/-- A context may have its oldest request considered in a window. -/
def State.cxReady (s : State) (c : Nat) (w : OpenWindow) : Bool :=
  w.entry.resource = 2 && s.bit (Reg.TRV_CX_ATTR_EN c) && !(s.cx c).stopped && !(s.cx c).libBad && !s.plumbFault &&
  s.get (Reg.TRV_CX_ATTR_PARTITION c) = w.entry.partition && !w.entry.benchmark &&
  !s.windowHeld w && !s.unitOff 16 31 10 && s.get (Reg.SYS_FWD_STATUS_STATE 22) != 1 && s.get (Reg.TRV_Q_RPTR_RPTR c) != s.get (Reg.TRV_Q_WPTR_WPTR c)

/-- Room for one more completion record. -/
def State.cxRoom (s : State) (c : Nat) : Bool :=
  (s.get (Reg.TRV_Q_CPL_WPTR_CPL_WPTR c) + 1) % 2 ^ s.get (Reg.TRV_CX_CPL_SIZE_CLOG2 c) != s.get (Reg.TRV_Q_CPL_RPTR_CPL_RPTR c)

/-- The context's oldest request is considered in a window: rejected, admitted or deferred. -/
def State.considerPlan (s : State) (c : Nat) (w : OpenWindow) : State :=
  if s.trv.plan.isSome ∨ !s.cxReady c w then s
  else if !s.cxRoom c then s.deferred
  else
    let a := s.get (Reg.TRV_CX_REQ_BASE_BASE c) + 128 * s.get (Reg.TRV_Q_RPTR_RPTR c)
    match s.reach (s.cxAttr c) false a 128 with
    | (.ok, s) =>
      let ws := s.request c
      let (reached, s) := s.reachSpans (s.requestSpans c ws)
      let code := s.requestChk c ws reached
      if code ≠ Code.ok then s.failRecord c code ws none
      else if s.fwFailed 22 then s.failRecord c Code.eUnavailable ws none
      else match verdict s.datum (rqBound ws) false w with
        | .admitted =>
          let s := s.setPlan (some { ctx := c, req := ws, start := s.datum, bound := rqBound ws, window := w.index })
          (s.set (Reg.TRV_Q_HOLD_HOLD c) (2 ^ rqSlot ws)).set (Reg.TRV_Q_STATUS_RUNNING c) 1
        | .reject => (s.fbInc 0x6020 5).failRecord c Code.eBounds ws none
        | _ => s.deferred
    | (_, s) => s.failRecord c Code.eAccess (List.replicate 32 0) none

/-- Contexts in the order of R224: descending PRIO, then ascending number. -/
def State.cxOrder (s : State) : List Nat :=
  [7, 6, 5, 4, 3, 2, 1, 0].flatMap (fun p => (List.range 8).filter (fun c => s.get (Reg.TRV_CX_ATTR_PRIO c) = p))

/-- Plan admission in an open window. -/
def State.admitPlansIn (s : State) (w : OpenWindow) : State := s.cxOrder.foldl (fun s c => s.considerPlan c w) s

/-- Plan admission wherever R67 applies. -/
def State.admitPlans (s : State) : State := s.openWindows.foldl State.admitPlansIn s

/-- PLAN (R232): the request of a context that comes first in the order of R224 is decoded and considered. -/
def execPlan (context : Fin 8) (s : State) : Out :=
  done (s.openWindows.foldl (fun s w =>
    if s.cxOrder.find? (fun c => s.cxReady c w) = some context.val then s.considerPlan context.val w else s) s)

/-! ## Register commands -/

/-- TRV_CONTEXT_ENABLE (R225). -/
def execTrvContextEnable (who : Agent) (context : Fin 8) (value : BitVec 32) (s : State) : Out :=
  done (s.gateWrite who (Reg.TRV_CX_ATTR_addr context.val) (fun s => s.trvCtrl context.val value.toNat true))

/-- TRV_CONTEXT_DISABLE (R225). -/
def execTrvContextDisable (who : Agent) (context : Fin 8) (value : BitVec 32) (s : State) : Out :=
  done (s.gateWrite who (Reg.TRV_CX_ATTR_addr context.val) (fun s => s.trvCtrl context.val value.toNat false))

/-- A write of TRV_Q_LATEST (R227). -/
def State.publishGrid (s : State) (c slot : Nat) : State :=
  if bitOf (s.get (Reg.TRV_Q_HOLD_HOLD c)) slot then s.set (Reg.TRV_Q_STATUS_LAST c) Code.eBusy
  else ((s.set (Reg.TRV_Q_LATEST_SLOT c) slot).set (Reg.TRV_Q_LATEST_VALID c) 1).set (Reg.TRV_Q_STATUS_LAST c) Code.ok

/-- GRID_PUBLISH (R227). -/
def execGridPublish (who : Agent) (context : Fin 8) (slot : BitVec 2) (s : State) : Out :=
  done (s.gateWrite who (Reg.TRV_Q_LATEST_addr context.val) (fun s => s.publishGrid context.val slot.toNat))

/-- LIBRARY_CRC_CHECK (R230): every 100 ms while the context is enabled; a mismatch stops admission, kills the context's plan and is
told to the safety island. A library that cannot be read reads 0 (R301) and does not match. -/
def execLibraryCrcCheck (context : Fin 8) (s : State) : Out :=
  let c := context.val
  if !s.bit (Reg.TRV_CX_ATTR_EN c) then done s
  else
    let s := s.advanceTo ((s.cx c).lastCheck + 100000000)
    let s := s.setCx c { s.cx c with lastCheck := s.datum }
    let lib := s.get (Reg.TRV_CX_LIB_BASE_BASE c)
    let (r, s) := s.reachSpans ((s.cxTables c).take 1)
    if r = Code.ok ∧ s.libCrc lib (s.get (Reg.TRV_CX_LIB_SIZE_SIZE c)) = s.rdLe (lib + 8) 4 then done s
    else
      let s := (s.setCx c { s.cx c with libBad := true }).emit (.libraryFault c)
      done (if (s.planOf c).isSome then (s.killPlan Code.eLibCrc).admitPlans else s)

/-! ## The fallback (R238) -/

/-- Pose 0 of a plan. -/
def startPose (ws : List Nat) : Pose := ⟨f32 (nthNat ws 8), f32 (nthNat ws 9), f32 (nthNat ws 10), f32 (nthNat ws 11)⟩

/-- The squared distance of two points is at most FB 0x7200.02 (mm). -/
def State.withinLimit (s : State) (x0 y0 x1 y1 : Int) : Bool :=
  decide ((sq (x0 - x1) + sq (y0 - y1)) * 1000000 ≤ sq (s.fbGet 0x7200 2 * oneFix))

/-- A segment of a path: its end points in fixed point, its length and its curvature. -/
structure PathSeg where
  x0 : Int
  y0 : Int
  x1 : Int
  y1 : Int
  κ : FV

def PathSeg.dot (g : PathSeg) (x y : Int) : Int := (x - g.x0) * (g.x1 - g.x0) + (y - g.y0) * (g.y1 - g.y0)
def PathSeg.len2 (g : PathSeg) : Int := sq (g.x1 - g.x0) + sq (g.y1 - g.y0)
def PathSeg.len (g : PathSeg) : Int := Nat.sqrt g.len2.toNat

/-- The squared distance of a point from the segment. -/
def PathSeg.dist2 (g : PathSeg) (x y : Int) : Int :=
  let d := g.dot x y
  if d ≤ 0 then sq (x - g.x0) + sq (y - g.y0)
  else if g.len2 ≤ d then sq (x - g.x1) + sq (y - g.y1)
  else sq ((x - g.x0) * (g.y1 - g.y0) - (y - g.y0) * (g.x1 - g.x0)) / g.len2

/-- The path of the context's last published trajectory: the chords between its poses, with the controls' curvatures (that its path
is these chords is DEDUCED: log entry 31). -/
def State.lastPath (s : State) (c : Nat) : List PathSeg :=
  let b := s.get (Reg.TRV_CX_OUT_BASE_BASE c) + s.get (Reg.TRV_Q_STATUS_PUB c) * 0x3000
  let at' := fun (i o : Nat) => fxOf (s.rdLe (b + 0x120 + 16 * i + o) 4)
  if s.get (Reg.TRV_Q_SEQ_SEQ c) = 0 then []
  else (List.range (min 256 (s.rdLe (b + 0x104) 2) - 1)).map (fun i =>
    ⟨at' i 0, at' i 4, at' (i + 1) 0, at' (i + 1) 4, f32 (s.rdLe (b + 0x2400 + 8 * i) 4)⟩)

/-- The reads of the last published bank. -/
def State.lastSpan (s : State) (c : Nat) : Span :=
  ⟨s.cxAttr c, false, s.get (Reg.TRV_CX_OUT_BASE_BASE c) + s.get (Reg.TRV_Q_STATUS_PUB c) * 0x3000, 0x3000⟩

/-- The nearest segment to a point, as its index and the squared distance. -/
def nearest (x y : Int) : List PathSeg → Nat → Option (Nat × Int)
  | [], _ => none
  | g :: gs, i =>
    match nearest x y gs (i + 1) with
    | some (k, d) => if d < g.dist2 x y then some (k, d) else some (i, g.dist2 x y)
    | none => some (i, g.dist2 x y)

/-- The rest of the path from the point of it nearest to (x, y), if that lies within FB 0x7200.02 (R238): segments with the length
left of each. -/
def State.restOfPath (s : State) (c : Nat) (x y : Int) : Option (List (Int × FV)) :=
  let path := s.lastPath c
  match nearest x y path 0 with
  | some (i, d) =>
    if d * 1000000 ≤ sq (s.fbGet 0x7200 2 * oneFix) then
      match path.drop i with
      | g :: gs =>
        let done := max 0 (min g.len (g.dot x y / max 1 g.len))
        some ((g.len - done, g.κ) :: gs.map (fun h => (h.len, h.κ)))
      | [] => none
    else none
  | none => none

/-- The largest D_MAX of the request's bands. -/
def State.maxDecel (s : State) (c : Nat) (ws : List Nat) : FV :=
  let lib := s.get (Reg.TRV_CX_LIB_BASE_BASE c)
  ((List.range 16).filter (fun k => bitOf (rq ws 3 15 0) k)).foldl (fun m k => FV.max2 m (f32 (s.band lib k 0x14))) .zero

/-- Steps to standstill at a deceleration. -/
def stopSteps (v d dt : FV) : Nat :=
  let q := (FV.div32 v.abs (mulF d dt)).fix trigBits
  ((q + oneFix - 1) / oneFix).toNat

def clampF (lo hi v : FV) : FV :=
  match v with
  | .nan => .zero
  | _ => FV.max2 lo (FV.min2 hi v)

/-- The curvatures of a path over its stretch from arc `lo` to arc `hi`. -/
def stretch : List (Int × FV) → Int → Int → List FV
  | [], _, _ => []
  | (l, κ) :: gs, lo, hi =>
    (if lo < l ∧ (0 < hi ∨ lo ≤ 0) then [κ] else []) ++ (if l < hi then stretch gs (lo - l) (hi - l) else [])

/-- A curvature that follows a path from arc `lo` to arc `hi`: a free value between the least and the greatest there; past the
path's end nothing bounds it. -/
def followκ (path : List (Int × FV)) (lo hi : Int) (free : Nat) : Nat :=
  match stretch path lo hi with
  | [] => free % 2 ^ 32
  | κ :: κs => fp32.code (clampF (κs.foldl FV.min2 κ) (κs.foldl FV.max2 κ) (f32 (free % 2 ^ 32)))

/-- The distance run in one step, in fixed point. -/
def stepRun (p : Pose) (a dt : FV) : Int :=
  (mulF (mulF (addF p.v (addF p.v (mulF a dt))) (FV.fin false 1 (-1))) dt).abs.fix trigBits

/-- The control list of a stop from arc `run` of a path (none: straight on): the last step ends at standstill. -/
def stopControls (key : List Nat) (d dt : FV) (path : Option (List (Int × FV))) : Nat → Pose → Int → List (Nat × Nat)
  | 0, _, _ => []
  | n + 1, p, run =>
    let a := if n = 0 then (FV.div32 p.v dt).neg else if p.v.sign then d else d.neg
    let code := fp32.code a
    let next := run + stepRun p (f32 code) dt
    let κ := match path with
      | some g => followκ g run next (Config.stopCurve key n)
      | none => 0
    (κ, code) :: stopControls key d dt path n (p.next (f32 κ) (f32 code) dt) next

/-- What a plan's numbers may depend on (R235): the request, its grid, the library, the footprints and the last published
trajectory. -/
def State.planKey (s : State) (p : Plan) : List Nat :=
  let g := s.planGrid p.ctx p.req
  p.req ++ s.rd g.base (0x40 + g.w * g.h) ++
    s.rd (s.get (Reg.TRV_CX_LIB_BASE_BASE p.ctx)) (s.get (Reg.TRV_CX_LIB_SIZE_SIZE p.ctx)) ++
    s.rd (s.get (Reg.TRV_CX_FOOT_BASE_BASE p.ctx)) 0x488 ++
    (if s.get (Reg.TRV_Q_SEQ_SEQ p.ctx) = 0 then []
      else s.rd (s.get (Reg.TRV_CX_OUT_BASE_BASE p.ctx) + s.get (Reg.TRV_Q_STATUS_PUB p.ctx) * 0x3000) 0x3000)

/-- The controls of a stop at deceleration `d`: along the last published path where the start lies near it, or straight on. -/
def State.stopAt (s : State) (p : Plan) (d : FV) : List (Nat × Nat) :=
  let ws := p.req
  let q := startPose ws
  let path := s.restOfPath p.ctx (q.x.fix trigBits) (q.y.fix trigBits)
  let n := stopSteps q.v d (rqDt ws)
  let m := min n (rqPoses ws - 1)
  let key := if path.isSome then s.planKey p else []
  if n ≤ m then stopControls key d (rqDt ws) path n q 0 else (stopControls key d (rqDt ws) path (m + 1) q 0).take m

/-- The poses of the fallback: they end at standstill when POSES allows it. -/
def stopPoses (ws : List Nat) (cs : List (Nat × Nat)) : List Pose :=
  let ps := replay (rqDt ws) (startPose ws) cs
  if ps.length < rqPoses ws ∨ cs = [] then endSpeed .zero ps else ps

/-- The fallback stop of a plan, with whether the main checker finds a collision of it on the request's grid. -/
def State.fallbackOf (s : State) (p : Plan) (d : FV) : List (Nat × Nat) × Bool :=
  let ws := p.req
  let g := s.planGrid p.ctx ws
  let cs := s.stopAt p d
  (cs, (checker (s.lethalCells g (rqUnk ws)) (mainMeets g (s.circles (s.get (Reg.TRV_CX_FOOT_BASE_BASE p.ctx))))
    (traced g.cell (rqDt ws) (startPose ws) cs)).isSome)

/-- The reads of the fallback: the plan's, and the last published bank. -/
def State.fallbackReads (s : State) (p : Plan) : List Span :=
  s.planReads p ++ (if s.get (Reg.TRV_Q_SEQ_SEQ p.ctx) = 0 then [] else [s.lastSpan p.ctx])

/-- FALLBACK_DONE (R238): within 20 µs of admission. -/
def execFallbackDone (s : State) : Out :=
  match s.trv.plan with
  | none => done s
  | some p =>
    if p.stage ≠ 0 then done s
    else
      let top := s.maxDecel p.ctx p.req
      done ((s.planWith (s.fallbackReads p) (fun s =>
        match s.fallbackOf p (FV.min2 (f32 (nthNat p.req 21)) top) with
        | (cs, false) => s.setPlan (some { p with stage := 1, fallback := cs })
        | (_, true) =>
          let (cs, hit) := s.fallbackOf p top
          let s := if hit then s.fbInc 0x6070 0xC else s
          s.setPlan (some { p with stage := 1, fallback := cs, fbCollides := hit }))).admitPlans)

/-! ## Search (R233–R236) -/

/-- What the arena was computed for. -/
def arenaKey (g : Grid) (ws : List Nat) : List Nat :=
  [g.w, g.h, g.cell, g.ox, g.oy, nthNat ws 12, nthNat ws 13, nthNat ws 14, nthNat ws 15, nthNat ws 22, rq ws 3 15 0,
   rq ws 20 15 0, b2n (rqUnk ws)]

/-- Some delta entry disagrees with the request grid (R228). -/
def State.deltaMismatch (s : State) (ws : List Nat) (g : Grid) : Bool :=
  (List.range (rqDeltaCount ws)).any (fun i =>
    let e := s.delta ws i
    s.rdLe (g.base + 0x40 + bitsOf e 19 10 * g.w + bitsOf e 9 0) 1 != bitsOf e 31 24)

/-- The plan may repair the arena (R233), apart from delta mismatches. -/
def State.mayRepair (s : State) (p : Plan) (g : Grid) : Bool :=
  let x := s.cx p.ctx
  let ws := p.req
  rq ws 0 8 8 = 0 && rqDelta ws && !p.restarted && x.arena = some (arenaKey g ws) &&
  nthNat ws 2 = (x.epoch + 1) % 2 ^ 32 && decide (rqDeltaCount ws * 1000 ≤ g.w * g.h * s.fbGet 0x7200 1) &&
  s.withinLimit (fxOf (nthNat ws 8)) (fxOf (nthNat ws 9)) (fxOf x.startX) (fxOf x.startY)

/-- What the plan's search runs on. -/
def State.searchEnv (s : State) (p : Plan) : SearchEnv :=
  let ws := p.req
  let g := s.planGrid p.ctx ws
  let lib := s.get (Reg.TRV_CX_LIB_BASE_BASE p.ctx)
  let (x, y) := (g.cellAt (fxOf (nthNat ws 8)) (fxOf (nthNat ws 9))).getD (0, 0)
  { g := g, unk := rqUnk ws, lib := lib, cellW := rq ws 20 15 0, start := g.index x y (headingIndex (nthNat ws 10)),
    margin := nthNat ws 19,
    prims := ((List.range (s.libCount lib)).map (fun k => let q := s.prim lib k; (k, q, s.sweep lib q))).filter
      (fun t => bitOf (rq ws 3 15 0) t.2.1.band) }

/-- The plan's goal states. -/
def State.planGoals (s : State) (p : Plan) (e : SearchEnv) : List Nat :=
  let ws := p.req
  let (x, y) := (e.g.cellAt (fxOf (nthNat ws 12)) (fxOf (nthNat ws 13))).getD (0, 0)
  s.goals e x y (headingIndex (nthNat ws 14)) (rq ws 15 7 0) (rq ws 15 13 8)

/-- The states that the arena's words show as settled, with their J. -/
def State.heldArena (s : State) (c : Nat) (g : Grid) : KMap Nat :=
  let a := s.get (Reg.TRV_CX_ARENA_BASE_BASE c) + 0x1000
  (List.range (g.w * g.h * 64)).filterMap (fun i =>
    let w := s.rdLe (a + 4 * i) 4
    if bitOf w 24 then some (i, w % 2 ^ 24) else none)

/-- The cells that a delta list names. -/
def State.listed (s : State) (ws : List Nat) : List (Nat × Nat) :=
  (List.range (rqDeltaCount ws)).map (fun i => (bitsOf (s.delta ws i) 9 0, bitsOf (s.delta ws i) 19 10))

/-- Where the search begins: a repair from the arena, a full replan from the goal states (R233). -/
def State.searchBegin (s : State) (p : Plan) (e : SearchEnv) (goals : List Nat) (repair : Bool) : Search :=
  if repair then s.repairBegin e goals (s.heldArena p.ctx e.g) (s.cx p.ctx).source (s.listed p.req) else Search.begin goals

/-- The arena after a search: its header (which only Traverse interprets: free bytes) and the words of R233. -/
def State.writeArena (s : State) (c : Nat) (g : Grid) (q : Search) : State :=
  let a := s.get (Reg.TRV_CX_ARENA_BASE_BASE c)
  let (hd, s) := s.freeNats 4096
  let word := fun i => match KMap.find q.settled i with
    | some j => j + 2 ^ 24
    | none => KMap.getD q.front i unreached
  (s.wr a (hd.map (fun x => x % 256))).wr (a + 0x1000) ((List.range (g.w * g.h * 64)).flatMap (fun i => leBytes 4 (word i)))

/-- The search has ended with a result: repair or full replan is settled, the arena is written, the candidates are
extracted and the outcome so far is known. `n` bounds the states settled, `deadline` tells that the deadline ended it. A delta
mismatch is counted in whatever plan it is found (R228). -/
def State.endSearch (s : State) (p : Plan) (n : Nat) (deadline : Bool) : State :=
  let e := s.searchEnv p
  let bad := rqDelta p.req && s.deltaMismatch p.req e.g
  let repair := s.mayRepair p e.g && !bad
  let s := if bad then s.fbInc 0x6070 0xA else s
  let goals := s.planGoals p e
  let q := (s.searchGo e n (s.searchBegin p e goals repair))
  let q := if q.complete e then q.trim e else q
  let found := (KMap.find q.settled e.start).isSome
  let cands := s.candidates e q goals (rqNcand p.req)
  let (u, s) := s.freeNat
  let s := (s.writeArena p.ctx e.g q).setCx p.ctx { s.cx p.ctx with source := q.source }
  s.setPlan (some { p with stage := 2, repair := repair, partially := deadline && found, cands := cands, updates := u,
                           outcome := if found then Code.ok else if deadline then Code.noPathInTime else Code.noPath })

/-- The search's accesses: the plan's reads, the delta list, and the arena. -/
def State.searchSpans (s : State) (p : Plan) : List Span :=
  let g := s.planGrid p.ctx p.req
  s.planReads p ++ [⟨s.cxAttr p.ctx, false, rqDeltaAddr p.req, 4 * rqDeltaCount p.req⟩,
    ⟨s.cxAttr p.ctx, true, s.get (Reg.TRV_CX_ARENA_BASE_BASE p.ctx), 4096 + g.w * g.h * 256⟩]

def planSearchDeadline (p : Plan) : Nat := p.start + (20 + rq p.req 16 19 0) * 1000
def planOptDeadline (p : Plan) : Nat := planSearchDeadline p + rq p.req 17 19 0 * 1000

/-- SEARCH_END (R234): the search ends complete or exhausted. -/
def execSearchEnd (s : State) : Out :=
  match s.trv.plan with
  | none => done s
  | some p =>
    if p.stage ≠ 1 then done s
    else
      let g := s.planGrid p.ctx p.req
      done ((s.planWith (s.searchSpans p) (fun s => s.endSearch p (g.w * g.h * 64 + 1) false)).admitPlans)

/-- SEARCH_DEADLINE (R234): how many states the search has settled by then is free. -/
def execSearchDeadline (s : State) : Out :=
  match s.trv.plan with
  | none => done s
  | some p =>
    if p.stage ≠ 1 then done s
    else
      let (n, s) := (s.advanceTo (planSearchDeadline p)).freeNat
      done ((s.planWith (s.searchSpans p) (fun s => s.endSearch p n true)).admitPlans)

/-! ## Optimisation and output (R237, R239, R240) -/

/-- A leg of a candidate's chain: its length in fixed point, direction, the curvatures between which its samples lie (driven
backwards, of either sign) and its band's limits. -/
structure Leg where
  len : Int
  reverse : Bool
  κlo : FV
  κhi : FV
  κmax : FV
  dκ : FV
  vmin : FV
  vmax : FV
  amax : FV
  dmax : FV
  jmax : FV

/-- The legs of a chain. -/
def State.legs (s : State) (lib : Nat) (chain : List Nat) : List Leg :=
  chain.map (fun k =>
    let p := s.prim lib k
    let w := fun o => f32 (s.band lib p.band o)
    let κs := (List.range p.ns).map (fun i => f32 (s.rdLe (lib + p.sampleOff + 16 * i + 12) 4))
    let κs := if p.reverse then κs ++ κs.map FV.neg else κs
    ⟨p.len * oneFix / 1000, p.reverse, κs.foldl FV.min2 .zero, κs.foldl FV.max2 .zero, w 8, w 0xC, w 0, w 4, w 0x10, w 0x14, w 0x18⟩)

/-- The governing leg at an arc of a chain, and the arc at which it ends. -/
def legAt : List Leg → Int → Int → Option (Leg × Int)
  | [], _, _ => none
  | g :: gs, base, run => if run < base + g.len then some (g, base + g.len) else legAt gs (base + g.len) run

/-- The initial guess (R237): the chain, timed. In each step curvature lies within the leg's, the acceleration within the band's box
and the jerk limit of the step before, and the speed within the band's top speed in the leg's direction; the numbers themselves
are free. Speed is 0 where the direction changes, and the guess ends where the chain does. -/
def guessGo (key : List Nat) (rank : Nat) (legs : List Leg) (dt : FV) : Nat → Pose → Option FV → Int → List (Nat × Nat)
  | 0, _, _, _ => []
  | n + 1, p, prev, run =>
    match legAt legs 0 run with
    | none => []
    | some (g, stop) =>
      let draw := fun i => f32 (Config.planGuess key rank (2 * n + i) % 2 ^ 32)
      let jerk := mulF g.jmax dt
      let (lo, hi) := match prev with
        | some a => (FV.max2 g.dmax.neg (subF a jerk), FV.min2 g.amax (addF a jerk))
        | none => (g.dmax.neg, g.amax)
      let a := clampF lo hi (draw 0)
      let v1 := addF p.v (mulF a dt)
      let v1 := if g.reverse then clampF g.vmax.neg .zero v1 else clampF .zero g.vmax v1
      let a := FV.div32 (subF v1 p.v) dt
      let next := run + stepRun p a dt
      let turns := match legAt legs 0 next with
        | some (h, _) => h.reverse != g.reverse
        | none => false
      let (a, next) := if turns then ((FV.div32 p.v dt).neg, stop) else (a, next)
      let c := (fp32.code (clampF g.κlo g.κhi (draw 1)), fp32.code a)
      c :: guessGo key rank legs dt n (p.next (f32 c.1) (f32 c.2) dt) (some a) next

/-- A finished optimisation (R237): controls in the boxes of the governing primitive's band; the numbers are free. -/
def optimumGo (draw : Nat → Nat) (legs : List Leg) (dt : FV) : Nat → Pose → Int → List (Nat × Nat)
  | 0, _, _ => []
  | n + 1, p, run =>
    match ((legAt legs 0 run).map Prod.fst).or legs.getLast? with
    | none => []
    | some g =>
      let c := (fp32.code (clampF g.κmax.neg g.κmax (f32 (draw (2 * n + 2) % 2 ^ 32))),
                fp32.code (clampF g.dmax.neg g.amax (f32 (draw (2 * n + 3) % 2 ^ 32))))
      c :: optimumGo draw legs dt n (p.next (f32 c.1) (f32 c.2) dt) (run + stepRun p (f32 c.2) dt)

/-- A control list breaks a rate limit, the speed range or the jerk limit of the governing band (R237), judged at the poses. -/
def breaksGo (legs : List Leg) (dt : FV) : Pose → Option (Nat × Nat) → Int → List (Nat × Nat) → Bool
  | _, _, _, [] => false
  | p, prev, run, c :: cs =>
    match ((legAt legs 0 run).map Prod.fst).or legs.getLast? with
    | none => false
    | some g =>
      let q := p.next (f32 c.1) (f32 c.2) dt
      let far := (mulF (mulF (addF p.v q.v) (FV.fin false 1 (-1))) dt).abs
      let rate := match prev with
        | some b => (mulF g.dκ far).below (subF (f32 c.1) (f32 b.1)).abs || (mulF g.jmax dt).below (subF (f32 c.2) (f32 b.2)).abs
        | none => false
      rate || g.vmax.below q.v.abs || q.v.abs.below g.vmin || breaksGo legs dt q (some c) (run + stepRun p (f32 c.2) dt) cs

/-- A candidate after optimisation. `i`: its rank; `n`: how many were started; `cut`: the last of these was still in progress and
keeps its last accepted iterate, which is free. One that breaks a limit reverts to its initial guess; one not started is dropped;
without an optimiser budget each keeps its guess (R237). -/
def State.optimiseOne (s : State) (p : Plan) (key : List Nat) (n : Nat) (cut : Option Nat) (i : Nat) (c : Cand) : Cand :=
  let ws := p.req
  let legs := s.legs (s.get (Reg.TRV_CX_LIB_BASE_BASE p.ctx)) c.chain
  let start := startPose ws
  let off := rq ws 17 19 0 = 0
  let inputs := match cut with
    | some x => if i + 1 = n then x :: key else key
    | none => key
  let draw := Config.planOptimum inputs i
  let cs := optimumGo draw legs (rqDt ws) (draw 0 % rqPoses ws) start 0
  let guess := guessGo key i legs (rqDt ws) (rqPoses ws - 1) start none 0
  let back := off || breaksGo legs (rqDt ws) start none 0 cs
  let keep := off || decide (i < n)
  { c with controls := if back then guess else cs, iters := if keep && !off then draw 1 % (rq ws 3 26 20 + 1) else 0,
           fate := if !keep then 1 else if back then 2 else 3 }

/-- The candidates after optimisation. -/
def State.optimise (s : State) (p : Plan) (n : Nat) (cut : Option Nat) : List Cand :=
  let key := if p.cands.isEmpty then [] else s.planKey p
  (List.zip (List.range p.cands.length) p.cands).map (fun (i, c) => s.optimiseOne p key n cut i c)

/-- The poses of a candidate: one that reaches its goal before POSES ends there with speed GOAL_V. -/
def candPoses (ws : List Nat) (cs : List (Nat × Nat)) : List Pose :=
  let ps := replay (rqDt ws) (startPose ws) cs
  if ps.length < rqPoses ws then endSpeed (f32 (nthNat ws 22)) ps else ps

def hitCode (h : Option Nat) : Nat := h.getD 0xFFFF

/-- Candidates are checked in rank order up to the first that passes: the checked list, the rank published and the
candidates invalidated. -/
def State.checkCands (s : State) (p : Plan) (g : Grid) : List Cand → Nat → Option Nat → (List Cand × Option Nat × Nat) × State
  | [], _, pub => (([], pub, 0), s)
  | c :: cs, i, pub =>
    let ((l, r, n), c', s') :=
      if pub.isSome ∨ c.fate = 1 then
        let (x, s) := s.checkCands p g cs (i + 1) pub
        (x, (if c.fate = 1 then c else { c with fate := 6 }), s)
      else
        let foot := s.get (Reg.TRV_CX_FOOT_BASE_BASE p.ctx)
        let (m, q, out) := s.checkBoth g (rqUnk p.req) foot (rqDt p.req) (startPose p.req) c.controls
        let pass := m.isNone && q.isNone && !out
        let s := if pass then s else s.fbInc 0x6070 6
        let s := if m.isSome != q.isSome then s.fbInc 0x6070 8 else s
        let c := { c with mainHit := hitCode m, plumbHit := hitCode q, fate := if pass then 5 else 4 }
        let ((l, r, n), s) := s.checkCands p g cs (i + 1) (if pass then some i else none)
        ((l, r, if pass then n else n + 1), c, s)
    ((c' :: l, r, n), s')

/-- The check grid (R239): the sampled slot's if its epoch is later than the request's. -/
def State.checkGrid (s : State) (p : Plan) : Grid :=
  let g := s.planGrid p.ctx p.req
  let lg := s.readGrid (s.slotAddr p.ctx (s.get (Reg.TRV_Q_LATEST_SLOT p.ctx)))
  if s.bit (Reg.TRV_Q_LATEST_VALID p.ctx) && decide (0 < signed 32 (lg.epoch + 2 ^ 32 - g.epoch)) then lg else g

/-- The checks of the output stage on the candidates, and the outcome (R239, R240). -/
def State.outputChecks (s : State) (p : Plan) (n : Nat) (cut : Option Nat) : State :=
  let c := p.ctx
  let ws := p.req
  let g := s.checkGrid p
  let latest := s.get (Reg.TRV_Q_LATEST_SLOT c)
  let s := s.set (Reg.TRV_Q_HOLD_HOLD c) (2 ^ rqSlot ws ||| 2 ^ latest)
  let (m, q, out) := s.checkBoth g (rqUnk ws) (s.get (Reg.TRV_CX_FOOT_BASE_BASE c)) (rqDt ws) (startPose ws) p.fallback
  let ((cands, rank, inv), s) := s.checkCands p g (s.optimise p n cut) 0 none
  let outcome := if p.outcome ≠ Code.ok then p.outcome else if rank.isNone && !cands.isEmpty then Code.allInvalid else Code.ok
  s.setPlan (some { p with stage := 3, cands := cands, latest := some latest, checkEpoch := g.epoch, rank := rank.getD 15,
                           invalidated := inv, fbCollides := p.fbCollides || m.isSome || q.isSome || out,
                           outcome := outcome })

/-- The reads of the output stage: the plan's, the sampled slot's header, and the check grid. -/
def State.outputReads (s : State) (p : Plan) : List Span :=
  let at' := s.cxAttr p.ctx
  let head : List Span := if s.bit (Reg.TRV_Q_LATEST_VALID p.ctx) then
      [⟨at', false, s.slotAddr p.ctx (s.get (Reg.TRV_Q_LATEST_SLOT p.ctx)), 0x40⟩] else []
  let g := s.checkGrid p
  let cells : Span := ⟨at', false, g.base, 0x40 + min (g.w * g.h) (s.get (Reg.TRV_CX_GRID_STRIDE_STRIDE p.ctx))⟩
  s.planReads p ++ head ++ [cells]

/-- The output stage (R239, R240). -/
def State.outputStage (s : State) (p : Plan) (n : Nat) (cut : Option Nat) : State :=
  s.planWith (s.outputReads p) (fun s => s.outputChecks p n cut)

/-- OPTIMISATION_END (R237): every candidate is finished. -/
def execOptimisationEnd (s : State) : Out :=
  match s.trv.plan with
  | none => done s
  | some p => done (if p.stage = 2 then (s.outputStage p p.cands.length none).admitPlans else s)

/-- OPTIMISATION_DEADLINE (R237): how many candidates were started by then is free, and so is the last accepted iterate of the one in
progress. -/
def execOptimisationDeadline (s : State) : Out :=
  match s.trv.plan with
  | none => done s
  | some p =>
    if p.stage ≠ 2 then done s
    else
      let (n, s) := (s.advanceTo (planOptDeadline p)).freeNat
      let (x, s) := s.freeNat
      done ((s.outputStage p n (some x)).admitPlans)

/-! ## Commit (R241, R242) -/

/-- TS32 extended against a reference (R45). -/
def extendTs (ts ref : Nat) : Nat := ((ref : Int) + signed 32 (ts + 2 ^ 32 - ref % 2 ^ 32)).toNat

/-- The result header of R192. -/
def resultHeader (frame count : Nat) (subst : Bool) (oldest : Nat) : List Nat :=
  leBytes 4 frame ++ leBytes 4 (count + 2 ^ 16 * b2n subst) ++ leBytes 8 oldest ++ List.replicate 16 0

/-- A candidate's 16 bytes in the output bank. -/
def Cand.bytes (c : Cand) : List Nat :=
  leBytes 4 (c.fate + 2 ^ 8 * c.iters) ++ leBytes 4 c.j ++ leBytes 2 c.mainHit ++ leBytes 2 c.plumbHit ++ leBytes 4 0

/-- Where FATE is "not found", the rest of the entry stands for nothing: zero. -/
def noCand : List Nat := leBytes 4 0 ++ leBytes 4 0 ++ leBytes 4 0xFFFFFFFF ++ leBytes 4 0

/-- PLAN_COMMIT (R241): the bank, PUB, SEQ and the record in one step; the context's arena is valid unless PARTIAL. -/
def State.commitPlan (s : State) (p : Plan) : State :=
  let c := p.ctx
  let ws := p.req
  let g := s.planGrid c ws
  let bank := 1 - s.get (Reg.TRV_Q_STATUS_PUB c)
  let a := s.get (Reg.TRV_CX_OUT_BASE_BASE c) + bank * 0x3000
  let controls := match p.cands[p.rank]? with | some k => (if p.rank = 15 then p.fallback else k.controls) | none => p.fallback
  let isFallback := p.rank = 15
  let main := if isFallback then stopPoses ws controls else candPoses ws controls
  let plumb := replay (rqDt ws) (startPose ws) controls
  let hdr := resultHeader (nthNat ws 1) main.length g.subst (min g.oldest (extendTs (nthNat ws 7) p.start))
  let seq := (s.get (Reg.TRV_Q_SEQ_SEQ c) + 1) % 2 ^ 32
  let r : PlanRec :=
    { status := p.outcome, tag := rq ws 0 31 16, seq := seq, rank := p.rank, cands := p.cands.length,
      invalidated := p.invalidated, bank := bank,
      flags := b2n p.repair + 2 * b2n p.partially + 4 * b2n p.restarted + 8 * b2n p.fbCollides,
      epoch := g.epoch, check := p.checkEpoch, admitted := p.start, updates := p.updates }
  let s := s.wr a (r.bytes s.ts32)
  let s := s.wr (a + 0x40) (p.cands.flatMap Cand.bytes ++ (List.replicate (8 - p.cands.length) noCand).flatten)
  let s := s.wr (a + 0x100) (hdr ++ main.flatMap Pose.bytes)
  let s := s.wr (a + 0x1200) (hdr ++ plumb.flatMap Pose.bytes)
  let s := s.wr (a + 0x2400) (controls.flatMap (fun k => leBytes 4 k.1 ++ leBytes 4 k.2))
  let s := (s.set (Reg.TRV_Q_STATUS_PUB c) bank).set (Reg.TRV_Q_SEQ_SEQ c) seq
  let s := (s.fbInc 0x6070 1).fbInc 0x6070 (if p.repair then 3 else 2)
  let s := if p.outcome = Code.noPath then s.fbInc 0x6070 4 else if p.outcome = Code.noPathInTime then s.fbInc 0x6070 5
    else if p.outcome = Code.allInvalid then s.fbInc 0x6070 7 else s
  let s := if p.partially then s.fbInc 0x6070 0xB else s
  let s := s.setCx c { s.cx c with arena := if p.partially then none else some (arenaKey g ws), epoch := g.epoch,
                                   startX := nthNat ws 8, startY := nthNat ws 9 }
  let s := (s.clearPlan c).planRecord c r
  (s.nextRequest c).planNotice c (rq ws 0 31 16) Code.ok bank

/-- PLAN_COMMIT (R241). -/
def execPlanCommit (s : State) : Out :=
  match s.trv.plan with
  | none => done s
  | some p =>
    if p.stage ≠ 3 then done s
    else
      let bank := s.get (Reg.TRV_CX_OUT_BASE_BASE p.ctx) + (1 - s.get (Reg.TRV_Q_STATUS_PUB p.ctx)) * 0x3000
      done ((s.planWith [⟨s.cxAttr p.ctx, true, bank, 0x3000⟩] (fun s => s.commitPlan p)).admitPlans)

/-! ## Faults (R191, R243, R244) -/

/-- TRAVERSE_FAULT (R243): an uncorrectable ECC error in data from DRAM, or a parity error in the engine, whose code the
spec does not name. The plan restarts as a full replan where R67 admits it. -/
def execTraverseFault (parity : Bool) (addr : BitVec 48) (s : State) : Out :=
  match s.trv.plan with
  | none => done s
  | some p =>
    let s := if parity then s else s.inlineEcc addr.toNat
    let (x, s) := s.freeNat
    let code := if parity then failureCode x else Code.eEccUncorr
    match s.openWindows.find? (fun w => w.index = p.window) with
    | some w =>
      if verdict s.datum p.bound true w = .admitted then
        let s := ((s.markKill p.window).spendRestart w).setCx p.ctx { s.cx p.ctx with arena := none }
        let s := s.set (Reg.TRV_Q_HOLD_HOLD p.ctx) (2 ^ rqSlot p.req)
        done (s.setPlan (some { ctx := p.ctx, req := p.req, start := s.datum, bound := p.bound, window := p.window,
                                restarted := true }))
      else done ((s.killPlan code).admitPlans)
    | none => done ((s.killPlan code).admitPlans)

/-- The TRAVERSE window of the running plan closes (R68, R243). -/
def State.closePlans (s : State) (w : Nat) : State :=
  match s.trv.plan with
  | none => s
  | some p => if p.window = w then (s.fbInc 0x6070 9).killPlan Code.eTimeout else s

/-- PLUMB_CLOCK_RAIL_FAULT (R191, R204, R244). -/
def execPlumbClockRailFault (rail : Bool) (s : State) : Out :=
  let s := s.set (if rail then Reg.PLB_STATUS_RAIL_FAULT else Reg.PLB_STATUS_CLK_FAULT) 1
  let s := ({ s with eng := { s.eng with plumbDead := true } }).killPlumb Code.eUnavailable
  done ((s.killPlan Code.eUnavailable).declareSafe Code.eMonitor true)

end Sys2Proof.Machine
end

