-- ==== Sys2Proof/Machine/Graphics.lean ====
section
/-! DEFINITION. The graphics front-end (R247–R259, R268): contexts, admission, the records of a job, the tile-list heap,
faults, and compute preemption for composition. -/

namespace Sys2Proof.Machine
open Sys2Proof

/-! ## Contexts (R248) -/

def State.gx (s : State) (x : Nat) : GfxCtx := KMap.getD s.gfx.ctx x {}
def State.setGx (s : State) (x : Nat) (v : GfxCtx) : State := { s with gfx := { s.gfx with ctx := KMap.put s.gfx.ctx x v } }
def State.gxAttr (s : State) (x : Nat) : Attr := ⟨s.bit (Reg.GFX_CX_ATTR_SECURE x), s.get (Reg.GFX_CX_ATTR_PARTITION x)⟩
def State.setGxJob (s : State) (x : Nat) (j : Option GfxJob) : State := s.setGx x { s.gx x with job := j }
def State.gxSlots (s : State) (x : Nat) : Nat := 2 ^ s.get (Reg.GFX_CX_RING_SIZE_LOG2 x)
def State.gxCplSlots (s : State) (x : Nat) : Nat := 2 ^ s.get (Reg.GFX_CX_CPL_SIZE_CLOG2 x)

/-- The check that setting EN makes (R248, R157, R158). -/
def State.gxCheck (s : State) (x : Nat) : Nat :=
  firstCode
    [(badLog2 (s.get (Reg.GFX_CX_RING_SIZE_LOG2 x)) || badLog2 (s.get (Reg.GFX_CX_CPL_SIZE_CLOG2 x)), Code.eIllegal),
     (s.get (Reg.GFX_CX_RING_BASE_BASE x) % 4096 != 0 || s.get (Reg.GFX_CX_CPL_BASE_BASE x) % 4096 != 0, Code.eAlign)]

/-- An enabled context starts its pointers and SEQ at 0, as a queue does. -/
def State.gxStart (s : State) (x : Nat) : State :=
  let s := (((s.set (Reg.GFX_Q_RPTR_RPTR x) 0).set (Reg.GFX_Q_WPTR_WPTR x) 0).set (Reg.GFX_Q_CPL_WPTR_CPL_WPTR x) 0)
  ((s.set (Reg.GFX_Q_CPL_RPTR_CPL_RPTR x) 0).set (Reg.GFX_Q_SEQ_SEQ x) 0).setGx x { s.gx x with stopped := false }

/-- Clearing EN returns the heap pages to software (R254). -/
def State.gxStop (s : State) (x : Nat) : State :=
  (s.set (Reg.GFX_Q_HEAP_PAGES x) 0).setGx x { s.gx x with heap := [], resubmitted := false }

def gfxReg (x value : Nat) : EnReg :=
  { en := Reg.GFX_CX_ATTR_EN x, status := Reg.GFX_CX_STATUS_LAST x
    locked := [(Reg.GFX_CX_ATTR_COMPOSE x, bitsOf value 30 30), (Reg.GFX_CX_ATTR_KIND x, bitsOf value 29 29),
      (Reg.GFX_CX_ATTR_SECURE x, bitsOf value 15 15), (Reg.GFX_CX_ATTR_PARTITION x, bitsOf value 13 8)]
    free := [(Reg.GFX_CX_ATTR_PRIO x, bitsOf value 26 24)]
    check := fun s => s.gxCheck x
    mayClear := fun s => if (s.gx x).job.isSome then Code.eBusy else Code.ok
    onEnable := fun s => s.gxStart x
    onDisable := fun s => s.gxStop x }

/-- GFX_CONTEXT_ENABLE (R248). -/
def execGfxContextEnable (who : Agent) (context : Fin 32) (value : BitVec 32) (s : State) : Out :=
  done (s.gateWrite who (Reg.GFX_CX_ATTR_addr context.val) (fun s => s.enWrite (gfxReg context.val value.toNat) true))

/-- GFX_CONTEXT_DISABLE (R248). -/
def execGfxContextDisable (who : Agent) (context : Fin 32) (value : BitVec 32) (s : State) : Out :=
  done (s.gateWrite who (Reg.GFX_CX_ATTR_addr context.val) (fun s => s.enWrite (gfxReg context.val value.toNat) false))

/-! ## Records (R249, R250) -/

def State.gxRec (s : State) (x i : Nat) : Desc :=
  ⟨i, wordsOf 16 (s.rd (s.get (Reg.GFX_CX_RING_BASE_BASE x) + 64 * i) 64)⟩

/-- The ring is read under the context's attribute (R157, R248). -/
def State.gxSpan (s : State) (x i : Nat) : Span := ⟨s.gxAttr x, false, s.get (Reg.GFX_CX_RING_BASE_BASE x) + 64 * i, 64⟩

/-- The submitted slots of a context. -/
def State.gxSubmitted (s : State) (x : Nat) : List Nat :=
  let n := s.gxSlots x
  (List.range ((s.get (Reg.GFX_Q_WPTR_WPTR x) + n - s.get (Reg.GFX_Q_RPTR_RPTR x)) % n)).map
    (fun i => (s.get (Reg.GFX_Q_RPTR_RPTR x) + i) % n)

/-- The job at RPTR: the records up to the first COMMIT. -/
def State.gxJobAt (s : State) (x : Nat) : Option (List Desc) := uptoCommit ((s.gxSubmitted x).map (s.gxRec x))

/-- The slots that the front-end reads to find the job at RPTR: up to its COMMIT, or all of them. -/
def State.gxScan (s : State) (x : Nat) : List Span :=
  (match s.gxJobAt x with
    | some ds => ds.map Desc.index
    | none => s.gxSubmitted x).map (s.gxSpan x)

/-- BOUND_CYCLES of a record. -/
def gxBound (d : Desc) : Nat := if d.opcode = 1 then d.w 5 else if d.opcode = 2 then d.w 6 else 0

def gxMasks (op : Nat) : List Nat :=
  match op with
  | 0x01 => [0xFFFFFFFF, 0xFFFFFFFF, 0xFFFFFFFF, 0xFFFF, 0xFFFFFFFF, 0xFFFFFFFF]
  | 0x02 => [0xFFFF00FF, 0, 0xFFFFFFFF, 0xFFFF, 0xFFFFFFFF, 0xFFFF, 0xFFFFFFFF]
  | 0x10 => [0xFFFF00FF, 0x1F, 0xFFFFFFFF]
  | _ => [0xFFFF00FF, 0x80000033, 0xFFFFFFFF, 0xFFFF]

def gxKnown (op : Nat) : Bool := op = 1 || op = 2 || op = 0x10 || op = 0x11

def lenBad (x ones : Nat) : Bool := x = 0 || x = ones

def gxAddr (d : Desc) : Nat := d.w 2 + 2 ^ 32 * d.f 3 15 0
def flipOf (d : Desc) : Bool := d.b 1 31
def flipDisplay (d : Desc) : Nat := d.f 1 5 4
def flipPlane (d : Desc) : Nat := d.f 1 1 0

/-- The decode of a record in the order of R25. -/
def State.gxChk (s : State) (x : Nat) (d : Desc) : Nat :=
  let op := d.opcode
  let kind := s.get (Reg.GFX_CX_ATTR_KIND x)
  firstCode
    [(!gxKnown op || (List.range 16).any (fun i => outside (d.w i) (nthNat (gxMasks op) i)) || (op = 1 && kind = 1) ||
        (op = 1 && (decide (1 < d.f 0 9 8) || decide (3 < d.f 0 12 10) || decide (4 < d.f 0 15 13) ||
          (decide (8192 < d.f 1 15 0) && d.f 1 15 0 != 0xFFFF) || (decide (8192 < d.f 1 31 16) && d.f 1 31 16 != 0xFFFF))) ||
        (op = 0x11 && flipOf d && flipPlane d = 3), Code.eIllegal),
     ((op = 1 && (lenBad (d.f 1 15 0) 0xFFFF || lenBad (d.f 1 31 16) 0xFFFF || lenBad (d.w 4) 0xFFFFFFFF ||
          lenBad (d.w 5) 0xFFFFFFFF)) ||
        (op = 2 && (lenBad (d.f 4 15 0) 0xFFFF || lenBad (d.f 4 31 16) 0xFFFF || lenBad (d.f 5 15 0) 0xFFFF ||
          lenBad (d.w 6) 0xFFFFFFFF)), Code.eLength),
     ((op = 1 && gxAddr d % 64 != 0) || (op = 2 && gxAddr d % 256 != 0) || (op = 0x11 && flipOf d && gxAddr d % 256 != 0),
        Code.eAlign),
     ((op = 1 && !s.canReach (s.gxAttr x) false (gxAddr d) (d.w 4)) || (op = 2 && !s.canReach (s.gxAttr x) false (gxAddr d) 1) ||
        (op = 0x10 && s.get (Reg.GFX_CX_ATTR_PARTITION (d.f 1 4 0)) != s.get (Reg.GFX_CX_ATTR_PARTITION x)) ||
        (op = 0x11 && flipOf d && (!s.bit (Reg.GFX_CX_ATTR_COMPOSE x) ||
          s.get (Reg.DSP_PL_CTRL_OWNER (flipDisplay d) (flipPlane d)) != s.get (Reg.GFX_CX_ATTR_PARTITION x))), Code.eAccess)]

/-- The code of a decoded record; a read that is refused is recorded by the checker (R301). -/
def State.gxDecode (s : State) (x : Nat) (d : Desc) : Nat × State :=
  let c := s.gxChk x d
  if c = Code.eAccess ∧ (d.opcode = 1 ∨ d.opcode = 2) then
    (c, (s.reachSpans [⟨s.gxAttr x, false, gxAddr d, if d.opcode = 1 then d.w 4 else 1⟩]).2)
  else (c, s)

/-- A FENCE is met (R249): the signed difference of the sequence numbers is not negative. -/
def State.gxFenceMet (s : State) (d : Desc) : Bool :=
  decide (0 ≤ signed 32 (s.get (Reg.GFX_Q_SEQ_SEQ (d.f 1 4 0)) + 2 ^ 32 - d.w 2))

/-! ## Ends of jobs -/

/-- The job's completion record: STATUS and TAG in the first word; the layout of the rest is not given (free bytes). A
refused record stops the context (R448). -/
def State.gxRecord (s : State) (x status : Nat) (d : Desc) (j : GfxJob) : State :=
  let i := s.get (Reg.GFX_Q_CPL_WPTR_CPL_WPTR x)
  let a := s.get (Reg.GFX_CX_CPL_BASE_BASE x) + 32 * i
  let (fr, s) := s.freeNats 28
  match s.reach (s.gxAttr x) true a 32 with
  | (.ok, s) =>
    let s := s.wr a (leBytes 4 (status + 2 ^ 16 * d.tag) ++ fr.map (fun b => b % 256))
    let s := (s.set (Reg.GFX_Q_CPL_WPTR_CPL_WPTR x) ((i + 1) % s.gxCplSlots x)).raiseEdge (272 + x)
    s.emit (.gfxRecord x status d.tag j.binned j.flushed (s.gx x).resubmitted)
  | (_, s) => (s.setGx x { s.gx x with stopped := true }).set (Reg.GFX_Q_STATUS_LAST x) Code.eAccess

/-- The slot after the COMMIT of the job at RPTR. -/
def State.gxAfter (s : State) (x : Nat) : Nat :=
  match s.gxJobAt x with
  | some ds => (match ds.getLast? with | some d => (d.index + 1) % s.gxSlots x | none => s.get (Reg.GFX_Q_RPTR_RPTR x))
  | none => s.get (Reg.GFX_Q_RPTR_RPTR x)

/-- The shader cores of the open window in which a job runs. -/
def State.gxUnits (s : State) (w : Nat) : Nat :=
  match s.openWindows.find? (fun x => x.index = w) with | some x => x.entry.units | none => 0

/-- A composition job of another context preempts compute on some of the shader cores `units` (R258). -/
def State.coresTaken (s : State) (x units : Nat) : Bool :=
  (List.range 32).any (fun y => y != x && (match (s.gx y).preempts with | some u => u &&& units != 0 | none => false))

/-- When a composition job completes, the compute resumes that no other composition job preempts (R258). -/
def State.resumeCompute (s : State) : State :=
  (List.range 32).foldl (fun s x => match (s.gx x).job with
    | some k => if k.yieldSince.isSome && !s.coresTaken x (s.gxUnits k.window) then s.setGxJob x (some { k with yieldSince := none })
        else s
    | none => s) s

/-- The job of a context ends with a status: its record is written and RPTR moves past its COMMIT. -/
def State.endGfx (s : State) (x status : Nat) (d : Desc) (j : GfxJob) : State :=
  let next := s.gxAfter x
  let s := ((s.gxRecord x status d j).set (Reg.GFX_Q_RPTR_RPTR x) next).set (Reg.GFX_Q_HEAP_FAULT x) 0
  (s.setGx x { s.gx x with job := none, resubmitted := false, preempts := none }).resumeCompute

/-- The descriptor that an end concerns: the record that has begun, else the one at RPTR. -/
def State.gxConcern (s : State) (x : Nat) (j : GfxJob) : Desc := s.gxRec x (j.run.getD (s.get (Reg.GFX_Q_RPTR_RPTR x)))

/-! ## The pass that runs (R251–R255) -/

def State.passEnv (s : State) (x : Nat) (j : GfxJob) (p : PassRun) : PassEnv :=
  ⟨s.gxConcern x j, s.gxAttr x, (p.draw.clearDepth.toNat, p.draw.clearStencil.toNat)⟩

/-- The primitives from number `a` to number `b`, exclusive. -/
def PassRun.prims (p : PassRun) (a b : Nat) : List (List Fragment) := (p.draw.prims.take b).drop a

/-- A pass completes: what its flushes have not rendered is rendered in the mode of the pass; its pixel-store area and its tile
lists are given up. -/
def State.passEnd (s : State) (x : Nat) (j : GfxJob) : State :=
  match j.pass with
  | none => s
  | some p =>
    let e := s.passEnv x j p
    let fs := e.frags (p.prims p.done p.draw.prims.length)
    let r := if passBinned e.pass then Raster.binned e fs fs.length ⟨s, p.area⟩
      else Raster.immediate e fs (fun _ => fs.length) ⟨s, p.area⟩
    r.s.setGxJob x (some { j with pass := none })

/-- A pass is cut short: how far each rasteriser has come is free (R256: its buffers are incomplete); a flush renders its
lists only. -/
def State.passCut (s : State) (x : Nat) (j : GfxJob) : State :=
  match j.pass with
  | none => s
  | some p =>
    let e := s.passEnv x j p
    let fs := e.frags (p.prims p.done (if j.flushSince.isSome then p.listed else p.draw.prims.length))
    let (ns, s) := s.freeNats 4
    (if passBinned e.pass then Raster.binned e fs (nthNat ns 0 % (fs.length + 1)) ⟨s, p.area⟩
      else Raster.immediate e fs (nthNat ns) ⟨s, p.area⟩).s

/-- A flush completes (R255): the tile lists built so far have been rendered, depth and stencil stay in the pixel store, and
the lists hold no page any more. -/
def State.flushPass (s : State) (x : Nat) (j : GfxJob) (p : PassRun) : State × PassRun :=
  let e := s.passEnv x j p
  let fs := e.frags (p.prims p.done p.listed)
  let r := Raster.binned e fs fs.length ⟨s, p.area⟩
  (r.s, { p with done := p.listed, area := r.area })

/-- The job ends with a failure: no flip is armed. -/
def State.failGfx (s : State) (x code : Nat) : State :=
  match (s.gx x).job with
  | none => s
  | some j => ((s.passCut x j).markKill j.window).endGfx x code (s.gxConcern x j) j

/-! ## Admission (R247, R67, R160) -/

/-- The shader clock in MHz (R405). -/
def State.shaderMhz (s : State) : Nat := match s.pmu.pointG with | 0 => 500 | 1 => 800 | 2 => 1050 | _ => 1300

def State.gxJobBound (s : State) (ds : List Desc) : Nat := ceilDiv ((ds.map gxBound).foldl (· + ·) 0 * 1000) s.shaderMhz

/-- The projected end of a job: its admission, bound and the time spent in bin faults and flushes (R258). -/
def GfxJob.projEnd (j : GfxJob) : Nat := j.start + j.bound + j.spent

/-- R160's now: the later of the present and the projected ends of admitted jobs of the same kind and window at equal or
higher PRIO. -/
def State.gxNow (s : State) (x w : Nat) : Nat :=
  (List.range 32).foldl (fun t y => match (s.gx y).job with
    | some j => if j.window = w ∧ s.get (Reg.GFX_CX_ATTR_KIND y) = s.get (Reg.GFX_CX_ATTR_KIND x) ∧
        s.get (Reg.GFX_CX_ATTR_PRIO x) ≤ j.prio then max t j.projEnd else t
    | none => t) s.datum

def State.gxReady (s : State) (x : Nat) (w : OpenWindow) : Bool :=
  w.entry.resource = 3 && s.bit (Reg.GFX_CX_ATTR_EN x) && !(s.gx x).stopped && (s.gx x).job.isNone && !w.entry.benchmark &&
  s.get (Reg.GFX_CX_ATTR_PARTITION x) = w.entry.partition && !s.windowHeld w && !s.unitOff 12 32 8 && s.get (Reg.SYS_FWD_STATUS_STATE 18) != 1 &&
  s.get (Reg.GFX_Q_RPTR_RPTR x) != s.get (Reg.GFX_Q_WPTR_WPTR x)

/-- Free completion slots of a context. -/
def State.gxCplFree (s : State) (x : Nat) : Nat :=
  let n := s.gxCplSlots x
  (s.get (Reg.GFX_Q_CPL_RPTR_CPL_RPTR x) + 2 * n - s.get (Reg.GFX_Q_CPL_WPTR_CPL_WPTR x) - 1) % n

/-- A job is admitted; a compute job whose cores a composition job preempts starts with a request to yield (R258, R259). -/
def State.startGfx (s : State) (x : Nat) (j : GfxJob) (units : Nat) : State :=
  let held := s.get (Reg.GFX_CX_ATTR_KIND x) = 1 && s.coresTaken x units
  let j := { j with order := s.gfx.admissions, yieldSince := if held then some s.datum else none }
  let s := s.setGxJob x (some j)
  { s with gfx := { s.gfx with admissions := s.gfx.admissions + 1 } }

/-- A job whose records have been read is considered in a window: the completion ring has slots for twice its one record
(R160), and the bound fits (R67). -/
def State.considerRead (s : State) (x : Nat) (w : OpenWindow) (ds : List Desc) : State :=
  if s.gxCplFree x < 2 then s.deferred
  else
    let b := s.gxJobBound ds
    let first := s.get (Reg.GFX_Q_RPTR_RPTR x)
    let j : GfxJob := { first := first, start := s.datum, bound := b, window := w.index, prio := s.get (Reg.GFX_CX_ATTR_PRIO x) }
    if s.fwFailed 18 then s.endGfx x Code.eUnavailable (s.gxRec x first) j
    else match verdict (s.gxNow x w.index) b false w with
    | .admitted => s.startGfx x j w.entry.units
    | .reject => (s.fbInc 0x6020 5).endGfx x Code.eBounds (s.gxRec x first) j
    | _ => s.deferred

/-- The job at RPTR of a context is considered in a window. Where the context's attribute may not read its ring, no COMMIT is
seen before WPTR and the job is deferred (DESIGN CHOICE: log entry 23). -/
def State.considerGfx (s : State) (x : Nat) (w : OpenWindow) : State :=
  if !s.gxReady x w then s
  else match s.reachSpans (s.gxScan x) with
  | (0, s) => (match s.gxJobAt x with | none => s.deferred | some ds => s.considerRead x w ds)
  | (_, s) => s.deferred

def State.gxOrder (s : State) : List Nat :=
  [7, 6, 5, 4, 3, 2, 1, 0].flatMap (fun p => (List.range 32).filter (fun x => s.get (Reg.GFX_CX_ATTR_PRIO x) = p))

/-- One pass over the open GFX windows; the flag says that a job has ended. -/
def State.gfxPass (s : State) : State × Bool :=
  s.openWindows.foldl (fun p w => s.gxOrder.foldl (fun p x =>
    let t := p.1.considerGfx x w
    (t, p.2 || t.get (Reg.GFX_Q_RPTR_RPTR x) != p.1.get (Reg.GFX_Q_RPTR_RPTR x))) p) (s, false)

/-- Passes as long as a rejection completes a job: a completion is a point of R67, too. -/
def State.gfxLoop : Nat → State → State
  | 0, s => s
  | n + 1, s => let p := s.gfxPass; if p.2 then p.1.gfxLoop n else p.1

/-- Admission wherever R67 applies. Each further pass needs a job of a ring slot: 32 contexts of fewer than 2^16. -/
def State.admitGfx (s : State) : State := s.gfxLoop 2097152 

/-! ## The records of an admitted job -/

/-- The records of an admitted job that have not completed hold a PASS. -/
def State.passAhead (s : State) (y : Nat) : Bool := ((s.gxJobAt y).getD []).any (fun d => d.opcode = 1)

/-- A PASS of a job waits: passes run one at a time, in the order in which their jobs are admitted (R247). -/
def State.passWaits (s : State) (x : Nat) (j : GfxJob) : Bool :=
  s.unitOff 12 33 8 || (List.range 32).any (fun y => y != x && (match (s.gx y).job with
    | some k => (k.run.isSome && k.runOp = 1) || (decide (k.order < j.order) && s.passAhead y)
    | none => false))

/-- The record that has begun is over, as far as its own rules say: a FENCE is met, no bin fault waits, no flush runs. -/
def State.gxRunOver (s : State) (x : Nat) (j : GfxJob) : Bool :=
  match j.run with
  | none => true
  | some i => !j.committing && j.faultSince.isNone && j.flushSince.isNone && (j.runOp != 0x10 || s.gxFenceMet (s.gxRec x i))

/-- The stores of a draw stream or shader, which the driver interface defines and the command therefore names, are made
under the context's attribute; a refused one is dropped (R30, R301). -/
def State.gxStores (s : State) (x : Nat) (l : List (BitVec 48 × BitVec 8)) : State :=
  l.foldl (fun s p => match s.reach1 (s.gxAttr x) true p.1.toNat with
    | (.ok, s) => s.wr p.1.toNat [p.2.toNat]
    | (_, s) => s) s

/-- The slot of the next record of a job. -/
def State.gxNext (s : State) (x : Nat) (j : GfxJob) : Nat :=
  match j.run with | some i => (i + 1) % s.gxSlots x | none => s.get (Reg.GFX_Q_RPTR_RPTR x)

/-- The record at slot `i` has been read: it is decoded, and begins or ends its job, after which admission runs (R67). -/
def State.gxStartRec (s : State) (x i op : Nat) (draw : Option Draw) (j : GfxJob) : State :=
  let d := s.gxRec x i
  match s.gxDecode x d with
  | (0, s) => s.setGxJob x (some { j with
      run := some i, runOp := op, committing := op = 0x11, binned := j.binned || (op = 1 && passBinned d)
      pass := draw.map (fun w => { draw := w }) })
  | (c, s) => (s.endGfx x c d j).admitGfx

/-- The next record of a context's admitted job, if it has the opcode of the command (or no opcode of R249), is read, decoded
and begins; the record before it has completed and RPTR passes it. A record that the context's attribute may not read ends the
job with E_ACCESS. -/
def State.gxBegin (s : State) (x op : Nat) (draw : Option Draw) (stores : List (BitVec 48 × BitVec 8)) : State :=
  match (s.gx x).job with
  | none => s
  | some j =>
    let i := s.gxNext x j
    let d := s.gxRec x i
    if !s.gxRunOver x j || (gxKnown d.opcode && d.opcode != op) || (op = 1 && s.passWaits x j) ||
        (op = 2 && j.yieldSince.isSome) then s
    else
      let s := (s.passEnd x j).set (Reg.GFX_Q_RPTR_RPTR x) i
      let j := { j with pass := none }
      match s.reachSpans [s.gxSpan x i] with
      | (0, s) => (s.gxStartRec x i op draw j).gxStores x stores
      | (c, s) => (s.endGfx x c d j).admitGfx

/-- PASS (R250–R253): it renders by the time its job goes on to the next record. -/
def execPass (context : Fin 32) (draw : Draw) (stores : List (BitVec 48 × BitVec 8)) (s : State) : Out :=
  done (s.gxBegin context.val 1 (some draw) stores)

/-- DISPATCH (R249). -/
def execDispatch (context : Fin 32) (stores : List (BitVec 48 × BitVec 8)) (s : State) : Out :=
  done (s.gxBegin context.val 2 none stores)

/-- GFX_FENCE (R249). -/
def execGfxFence (context : Fin 32) (s : State) : Out := done (s.gxBegin context.val 0x10 none [])

/-- GFX_COMMIT (R257). -/
def execGfxCommit (context : Fin 32) (s : State) : Out := done (s.gxBegin context.val 0x11 none [])

def State.dp (s : State) (d : Nat) : Display := KMap.getD s.gfx.dsp d {}
def State.setDp (s : State) (d : Nat) (v : Display) : State := { s with gfx := { s.gfx with dsp := KMap.put s.gfx.dsp d v } }

/-- A buffer becomes the pending buffer of a plane: it replaces one that has not yet latched; one of an earlier instant stays
for a frame start of this instant (R257, R268). -/
def State.armFlip (s : State) (d p a : Nat) : State :=
  let x := s.dp d
  let older := (KMap.getD x.pending p []).filter (fun e => decide (e.2 < s.datum))
  s.setDp d { x with pending := KMap.put x.pending p ((a, s.datum) :: older.take 1) }

/-- GFX_JOB_COMPLETE (R257): SEQ counts the job, the record is written, and a flip's buffer becomes the pending buffer of
its plane. -/
def execGfxJobComplete (context : Fin 32) (s : State) : Out :=
  let x := context.val
  match (s.gx x).job with
  | none => done s
  | some j =>
    if !j.committing then done s
    else
      let d := s.gxConcern x j
      let s := s.wrapInc (Reg.GFX_Q_SEQ_SEQ x)
      let s := if flipOf d then s.armFlip (flipDisplay d) (flipPlane d) (gxAddr d) else s
      done (s.endGfx x Code.ok d j).admitGfx

/-! ## The tile-list heap (R254, R255) -/

/-- The wait or flush that began at `t` is over: its time counts into the projected end. -/
def GfxJob.spend (j : GfxJob) (now t : Nat) : GfxJob := { j with spent := j.spent + (now - t) }

/-- A page added in the clock in which the deadline expired is used, and no flush occurs (R268). -/
def State.takeBackFlush (s : State) (x : Nat) (j : GfxJob) : State :=
  (s.setGxJob x (some { j with flushSince := none, flushed := j.flushedBefore })).fbSet 0x6080 2 (s.fbGet 0x6080 2 - 1)

/-- A write of GFX_Q_HEAP_ADD. -/
def State.heapAdd (s : State) (x page : Nat) : State :=
  let c := s.gx x
  if page % 65536 ≠ 0 then s.set (Reg.GFX_Q_STATUS_LAST x) Code.eAlign
  else if 4096 ≤ c.heap.length then s.set (Reg.GFX_Q_STATUS_LAST x) Code.eBounds
  else
    let s := s.setGx x { c with heap := c.heap ++ [page] }
    let s := (s.set (Reg.GFX_Q_HEAP_PAGES x) (c.heap.length + 1)).set (Reg.GFX_Q_STATUS_LAST x) Code.ok
    match c.job with
    | some j => (match j.faultSince with
      | some t => (s.setGxJob x (some { j.spend s.datum t with faultSince := none })).set (Reg.GFX_Q_HEAP_FAULT x) 0
      | none => if j.flushSince = some s.datum then s.takeBackFlush x j else s)
    | none => s

/-- HEAP_ADD (R254). -/
def execHeapAdd (who : Agent) (context : Fin 32) (page : BitVec 48) (s : State) : Out :=
  done (s.gateWrite who (Reg.GFX_Q_HEAP_ADD_addr context.val) (fun s => s.heapAdd context.val page.toNat))

/-- The context's job runs a binned pass that neither waits nor flushes. -/
def State.binning (s : State) (x : Nat) (j : GfxJob) : Bool :=
  j.runOp = 1 && j.run.isSome && passBinned (s.gxConcern x j) && j.faultSince.isNone && j.flushSince.isNone

/-- The lists hold the primitives up to number `n`. -/
def GfxJob.listTo (j : GfxJob) (n : Nat) : GfxJob :=
  { j with pass := j.pass.map (fun p => { p with listed := min (max p.done n) p.draw.prims.length }) }

/-- BIN_FAULT (R254): `listed` primitives of the pass are in the tile lists, and the next one needs a page. -/
def execBinFault (context : Fin 32) (listed : Nat) (s : State) : Out :=
  let x := context.val
  match (s.gx x).job with
  | none => done s
  | some j =>
    if !s.binning x j then done s
    else
      let s := (s.set (Reg.GFX_Q_HEAP_FAULT x) 1).fbInc 0x6080 1
      done (s.setGxJob x (some { j.listTo listed with faultSince := some s.datum }))

/-- BIN_FAULT_DEADLINE (R255): a flushable pass flushes, another costs the job. -/
def execBinFaultDeadline (context : Fin 32) (s : State) : Out :=
  let x := context.val
  match (s.gx x).job with
  | none => done s
  | some j =>
    match j.faultSince with
    | none => done s
    | some t =>
      let s := s.advanceTo (t + s.fbGet 0x7300 1 * 1000)
      if passFlushable (s.gxConcern x j) then
        let j := { j.spend s.datum t with
          faultSince := none, flushSince := some s.datum, flushed := true, flushedBefore := j.flushed }
        done (((s.setGxJob x (some j)).set (Reg.GFX_Q_HEAP_FAULT x) 0).fbInc 0x6080 2)
      else done (((s.fbInc 0x6080 6).failGfx x Code.eBinHeap).admitGfx)

/-- FLUSH_DONE (R255): the tiles are rendered, the heap pages are free again and binning resumes with the next primitive. -/
def execFlushDone (context : Fin 32) (s : State) : Out :=
  let x := context.val
  match (s.gx x).job with
  | none => done s
  | some j =>
    match j.flushSince with
    | none => done s
    | some t =>
      let j' := { j.spend s.datum t with flushSince := none }
      match j.pass with
      | none => done (s.setGxJob x (some j'))
      | some p =>
        let q := s.flushPass x j p
        done (q.1.setGxJob x (some { j' with pass := some q.2 }))

/-! ## Faults (R256) -/

def gfxCode : GfxCause → Nat
  | .ecc => Code.eEccUncorr
  | .shader => Code.eShader
  | .overrun => Code.eCmdOverrun

/-- GFX_FAULT (R256): the job ends without restart. -/
def execGfxFault (context : Fin 32) (cause : GfxCause) (s : State) : Out :=
  match (s.gx context.val).job with
  | none => done s
  | some _ => done ((s.failGfx context.val (gfxCode cause)).admitGfx)

/-- A dispatch is killed and its context's job waits for the partition's next GFX window: the dispatch reruns from its
first workgroup (R256, R259). -/
def State.requeue (s : State) (x : Nat) : State :=
  (s.setGx x { s.gx x with job := none, resubmitted := true }).fbInc 0x6080 4

/-- A dispatch of the job has been killed and has not begun again. -/
def State.awaitsRerun (s : State) (x : Nat) (j : GfxJob) : Bool := (s.gx x).resubmitted && j.run.isNone

/-- A GFX window closes (R68, R256): a compute dispatch is requeued, one that is requeued already stays so, and any other job
ends with E_TIMEOUT. -/
def State.closeGfx (s : State) (w : Nat) : State :=
  (List.range 32).foldl (fun s x => match (s.gx x).job with
    | some j =>
      if j.window ≠ w then s
      else if j.run.isSome ∧ j.runOp = 2 then s.requeue x
      else if s.awaitsRerun x j then s.setGxJob x none
      else s.failGfx x Code.eTimeout
    | none => s) s

end Sys2Proof.Machine
end

