-- ==== Sys2Proof/Machine/Displays.lean ====
section
/-! DEFINITION. The display controllers (R258–R268, R216): enabling, frame starts, planes, the tell-tale plane, the
checked regions, and the composition deadline. -/

namespace Sys2Proof.Machine
open Sys2Proof

def State.dspStatus (s : State) (d c : Nat) : State := s.set (Reg.DSP_CMD_STATUS_STATUS d) c

/-! ## Enabling (R261, R262) -/

/-- Pixels of a display frame, blanking included. -/
def State.framePixels (s : State) (d : Nat) : Nat := s.get (Reg.DSP_HTIMING_HTOTAL d) * s.get (Reg.DSP_VTIMING_VTOTAL d)

/-- The pixel clock as a fraction in Hz: locked to Meridian, or PCLK_KHZ. -/
def State.pixelClock (s : State) (d : Nat) : Nat × Nat :=
  if s.bit (Reg.DSP_CTRL_LOCK_EN d) then
    (s.framePixels d * s.get (Reg.DSP_CTRL_N d) * 1000000, max 1 (s.get (Reg.DSP_LOCK_M d) * s.get Reg.MER_TICK_PERIOD_PERIOD_US))
  else (s.get (Reg.DSP_PCLK_PCLK_KHZ d) * 1000, 1)

/-- Kilobits per second that a link's lanes carry after coding: the DisplayPort rates by RATE (PRESUMED: log entry 32),
or 4.5 Gb/s for each DSI lane. -/
def State.linkKbps (s : State) (d : Nat) : Nat :=
  let lanes := s.get (Reg.DSP_LINK_LANES d)
  if d < 2 then
    lanes * (match s.get (Reg.DSP_LINK_RATE d) with
      | 0 => 1296000 | 1 => 2160000 | 2 => 4320000 | 3 => 6480000 | _ => 9696969)
  else lanes * (1 + s.get (Reg.DSP_LINK_DUAL d)) * 4500000

/-- The pixel clock exceeds a limit in kHz. -/
def overKhz (c : Nat × Nat) (khz : Nat) : Bool := decide (khz * 1000 * c.2 < c.1)

/-- The sum of the pixel clocks of the enabled controllers and of `d`, in Hz, rounded up each. -/
def State.clockSum (s : State) (d : Nat) : Nat :=
  ((List.range 4).filter (fun e => e = d || s.bit (Reg.DSP_CTRL_EN e))).foldl (fun t e =>
    let c := s.pixelClock e
    t + ceilDiv c.1 c.2) 0

/-- The check that setting EN makes (R261, R262), in the order of R25. -/
def State.dspCheck (s : State) (d : Nat) : Nat :=
  let n := s.get (Reg.DSP_CTRL_N d)
  let m := s.get (Reg.DSP_LOCK_M d)
  let lanes := s.get (Reg.DSP_LINK_LANES d)
  let ha := s.get (Reg.DSP_HTIMING_HACTIVE d)
  let va := s.get (Reg.DSP_VTIMING_VACTIVE d)
  let lock := s.bit (Reg.DSP_CTRL_LOCK_EN d)
  let clock := s.pixelClock d
  let bpp := if s.bit (Reg.DSP_CTRL_BPC10 d) then 30 else 24
  let total := [s.get (Reg.DSP_HTIMING_HTOTAL d), ha, s.get (Reg.DSP_VTIMING_VTOTAL d), va]
  firstCode
    [(!(lanes = 1 || lanes = 2 || lanes = 4) || (if d < 2 then decide (4 < s.get (Reg.DSP_LINK_RATE d)) || s.bit (Reg.DSP_LINK_DUAL d)
        else s.get (Reg.DSP_LINK_RATE d) != 0) || (decide (4000 < m) && m != 0xFFF), Code.eIllegal),
     (n = 0 || n = 15 || m = 0 || m = 0xFFF || total.any (fun x => lenBad x 0xFFFF), Code.eLength),
     (decide (5120 < ha) || decide (2160 < va) || decide (8294400 < ha * va) || overKhz clock 600000 ||
        decide (s.get (Reg.DSP_HTIMING_HTOTAL d) < ha + 8) || decide (s.get (Reg.DSP_VTIMING_VTOTAL d) < va + 8) ||
        decide (2400000000 < s.clockSum d) || overKhz (clock.1 * bpp, clock.2) (s.linkKbps d) || clock.1 = 0 ||
        (lock && (s.activeFrame (s.get (Reg.DSP_CTRL_PIPE d)) != m ||
          decide (m * s.get Reg.MER_TICK_PERIOD_PERIOD_US ≤ s.get (Reg.DSP_LOCK_OFFSET_US d)))), Code.eTiming)]

/-- A controller starts to scan. -/
def State.dspStart (s : State) (d : Nat) : State :=
  ((s.set (Reg.DSP_FRAME_FRAME d) 0).set (Reg.DSP_STATUS_ACTIVE d) 1).setDp d
    { s.dp d with frameAt := s.datum, lockSeq := s.stepSeq, trained := false, event := false, late := [], ttEcc := [] }

def State.dspStop (s : State) (d : Nat) : State :=
  ((s.set (Reg.DSP_STATUS_ACTIVE d) 0).set (Reg.DSP_STATUS_LINK_UP d) 0).set (Reg.DSP_STATUS_LOCKED d) 0

def dspReg (d value : Nat) : EnReg :=
  { en := Reg.DSP_CTRL_EN d, status := Reg.DSP_CMD_STATUS_STATUS d
    locked := [(Reg.DSP_CTRL_LOCK_EN d, bitsOf value 30 30), (Reg.DSP_CTRL_BPC10 d, bitsOf value 29 29),
      (Reg.DSP_CTRL_PIPE d, bitsOf value 20 16), (Reg.DSP_CTRL_N d, bitsOf value 7 4)]
    free := []
    check := fun s => s.dspCheck d
    mayClear := fun _ => Code.ok
    onEnable := fun s => s.dspStart d
    onDisable := fun s => s.dspStop d }

/-- DISPLAY_ENABLE (R261). -/
def execDisplayEnable (who : Agent) (display : Fin 4) (value : BitVec 32) (s : State) : Out :=
  done (s.gateWrite who (Reg.DSP_CTRL_addr display.val) (fun s => s.enWrite (dspReg display.val value.toNat) true))

/-- LINK_TRAINED (R261): a training after the first one since EN is a retraining. -/
def execLinkTrained (display : Fin 4) (s : State) : Out :=
  let d := display.val
  if !s.bit (Reg.DSP_CTRL_EN d) then done s
  else
    let s := if (s.dp d).trained then s.fbInc 0x6080 7 else s
    done ((s.set (Reg.DSP_STATUS_LINK_UP d) 1).setDp d { s.dp d with trained := true })

/-- DISPLAY_LINK_LOSS (R261): the link is no longer trained. -/
def execDisplayLinkLoss (display : Fin 4) (s : State) : Out := done (s.set (Reg.DSP_STATUS_LINK_UP display.val) 0)

/-! ## Frame times (R262) -/

/-- The pipeline's frame start on the present timeline, if the controller can lock to it. -/
def State.lockBase (s : State) (d : Nat) : Option Nat :=
  if s.bit (Reg.DSP_CTRL_LOCK_EN d) && s.running && !s.mer.gap then KMap.find s.mer.frameStart (s.get (Reg.DSP_CTRL_PIPE d))
  else none

/-- Nanoseconds of a display frame. -/
def State.dspFrameNs (s : State) (d : Nat) : Nat :=
  let c := s.pixelClock d
  if c.1 = 0 then 0 else s.framePixels d * 1000000000 * c.2 / c.1

/-- The first display frame start after instant `t`: on the lock's grid, or a frame length after the present one. -/
def State.nextVsync (s : State) (d t : Nat) : Nat :=
  match s.lockBase d with
  | some f =>
    let n := max 1 (s.get (Reg.DSP_CTRL_N d))
    let span := s.get (Reg.DSP_LOCK_M d) * s.periodNs
    let base := f + s.get (Reg.DSP_LOCK_OFFSET_US d) * 1000
    let base := if span = 0 ∨ base ≤ t then base else base - (base - t + span - 1) / span * span
    let from0 := if span = 0 then base else base + (t - base) / span * span
    ((List.range (n + 1)).map (fun k => from0 + k * span / n)).foldl (fun m x => if t < x ∧ x < m then x else m) (from0 + 2 * span + 1)
  | none =>
    let len := max 1 (s.dspFrameNs d)
    let base := (s.dp d).frameAt
    if t < base then base else base + ((t - base) / len + 1) * len

/-! ## Display events (R216) -/

/-- A display event of the frame: counted once, with the safe state at the threshold. -/
def State.displayEvent (s : State) (d : Nat) : State :=
  if (s.dp d).event then s
  else
    let s := (s.setDp d { s.dp d with event := true }).fbInc 0x6060 9
    let s := s.set Reg.SAF_EVENTS_DISPLAY_MISMATCH 1
    let n := KMap.getD s.saf.display d 0 + 1
    let s := { s with saf := { s.saf with display := KMap.put s.saf.display d n } }
    if s.fbGet 0x3010 4 ≤ n ∧ s.fbGet 0x3010 5 = 1 then s.declareSafe Code.eDisplay else s

/-- The frame that ends had no event: the count of events in a row returns to 0. -/
def State.endDisplayFrame (s : State) (d : Nat) : State :=
  if (s.dp d).event then s else { s with saf := { s.saf with display := KMap.put s.saf.display d 0 } }

/-! ## Frame start (R260, R262–R265, R267) -/

/-- A general plane at a frame start: a JOB plane latches its pending buffer or freezes, a SW plane latches ADDR. A buffer that
became pending in the clock of the frame start is for the next one (R268). -/
def State.latchPlane (s : State) (d p : Nat) : State :=
  if !s.bit (Reg.DSP_PL_CTRL_EN d p) then s
  else if s.bit (Reg.DSP_PL_CTRL_JOB d p) then
    let x := s.dp d
    let l := KMap.getD x.pending p []
    match l.find? (fun e => decide (e.2 < s.datum)) with
    | some a => (s.set (Reg.DSP_PL_ADDR_ADDR d p) a.1).setDp d
        { x with pending := KMap.put x.pending p (l.filter (fun e => decide (s.datum ≤ e.2))) }
    | none => (s.inc (Reg.DSP_STATUS_FREEZES d)).fbInc 0x6080 5
  else
    let x := s.dp d
    s.setDp d { x with latched := KMap.put x.latched p (s.get (Reg.DSP_PL_ADDR_ADDR d p)) }

/-- The controller locks at a frame start; a relock after a step changes the frame's length (R262). -/
def State.relock (s : State) (d : Nat) : State :=
  let x := s.dp d
  match s.lockBase d with
  | some _ =>
    let s := if x.lockSeq ≠ s.stepSeq ∧ s.get (Reg.DSP_FRAME_FRAME d) ≠ 0 then s.fbInc 0x6080 8 else s
    (s.set (Reg.DSP_STATUS_LOCKED d) 1).setDp d { x with lockSeq := s.stepSeq }
  | none => if x.lockSeq = s.stepSeq ∧ s.running then s else s.set (Reg.DSP_STATUS_LOCKED d) 0

/-- The expected value of a region that a frame start latches: a write in its own clock waits for the next one (R268). -/
def State.expLatched (s : State) (d r : Nat) : Nat :=
  let now := s.get (Reg.DSP_CR_EXP_EXP d r) + 2 ^ 32 * s.get (Reg.DSP_CR_EXP_EXP_FRAME d r)
  match KMap.find (s.dp d).expAt r with
  | some (old, t) => if s.datum ≤ t then old else now
  | none => now

/-- DISPLAY_FRAME_START (R260): `late` lists the lines of the frame whose fetch runs late, `ttEcc` the pixels of the tell-tale
plane whose fetch meets an uncorrectable error. -/
def execDisplayFrameStart (display : Fin 4) (late : List LateLine) (ttEcc : List (BitVec 16 × BitVec 16)) (s : State) : Out :=
  let d := display.val
  if !s.bit (Reg.DSP_CTRL_EN d) || s.unitOff 13 (34 + d) 9 then done s
  else
    let s := s.advanceTo (s.nextVsync d (s.dp d).frameAt)
    let s := s.endDisplayFrame d
    let s := ((s.relock d).wrapInc (Reg.DSP_FRAME_FRAME d))
    let s := s.setDp d { s.dp d with
      frameAt := s.datum, event := false, late := late, ttEcc := ttEcc.map (fun p => (p.1.toNat, p.2.toNat)),
      ttAddr := s.get (Reg.DSP_TT_ADDR_ADDR d), clut := (List.range 256).map (fun i => s.get (Reg.DSP_TT_CLUT_ARGB d i)),
      exps := (List.range 16).foldl (fun m r => KMap.put m r (s.expLatched d r)) [] }
    let s := [0, 1, 2].foldl (fun s p => s.latchPlane d p) s
    let s := s.set (Reg.DSP_STATUS_UNDERFLOWS d) (satAdd 8 (s.get (Reg.DSP_STATUS_UNDERFLOWS d))
      (late.map LateLine.line).eraseDups.length)
    done (if ttEcc.isEmpty then s else s.displayEvent d)

/-! ## Scan-out (R263–R266) -/

/-- A pixel as it is composed: alpha as a fraction, and red, green, blue at 10 bits; none is a value that the spec does not fix
(a format without a stated conversion, or a blend whose rounding is not stated). -/
structure Pixel where
  a : Option (Nat × Nat)
  r : Option Nat
  g : Option Nat
  b : Option Nat

def to10 (c : Nat) : Nat := c * 4 + c / 64

def argb8 (w : Nat) : Pixel :=
  ⟨some (bitsOf w 31 24, 255), some (to10 (bitsOf w 23 16)), some (to10 (bitsOf w 15 8)), some (to10 (bitsOf w 7 0))⟩

def argb10 (w : Nat) : Pixel :=
  ⟨some (bitsOf w 31 30, 3), some (bitsOf w 29 20), some (bitsOf w 19 10), some (bitsOf w 9 0)⟩

/-- NV12 has no alpha; FP16 RGBA has one. The conversions are not stated. -/
def unstated (fmt : Nat) : Pixel := ⟨if fmt = 2 then some (1, 1) else none, none, none, none⟩

/-- The pixel last fetched when a plane's pixel `i` of its line `n` is shown (R262): its own, or, where the fetch of the line runs
late, the last one before the fetch fell behind; none where nothing has been fetched. `w` is the plane's width. -/
def lastFetched (late : Nat → Option Nat) (w : Nat) : Nat → Nat → Option (Nat × Nat)
  | n, i =>
    match late n with
    | none => some (i, n)
    | some f =>
      if i < f then some (i, n)
      else if 0 < f then some (f - 1, n)
      else match n with
        | 0 => none
        | n + 1 => if w = 0 then none else lastFetched late w n (w - 1)

/-- Where plane `p` begins to fetch late, in pixels of the plane, by line of the plane. -/
def Display.lateAt (x : Display) (p px py n : Nat) : Option Nat :=
  (x.late.find? (fun l => l.plane.val = p && l.line.toNat = py + n)).map (fun l => l.pixel.toNat - px)

/-- A word of a plane fetched under its owner's attribute; what is refused reads as 0. -/
def State.fetchWord (s : State) (owner a : Nat) : Nat := if s.canReach ⟨false, owner⟩ false a 4 then s.rdLe a 4 else 0

/-- Pixel `i` of line `n` of the tell-tale plane as fetched: opaque 0xFFFF_0000 where its fetch met an uncorrectable error
(R265). -/
def State.telltale (s : State) (d i n : Nat) : Pixel :=
  let dp := s.dp d
  let row := dp.ttAddr + n * s.get (Reg.DSP_TT_STRIDE_STRIDE d)
  let owner := s.fbGet 0x7300 0x10
  if (i, n) ∈ dp.ttEcc then argb8 0xFFFF0000
  else if s.bit (Reg.DSP_TT_CTRL_CLUT d) then argb8 (nthNat dp.clut (s.fetchWord owner (row + i) % 256))
  else argb8 (s.fetchWord owner (row + 4 * i))

/-- Pixel `i` of line `n` of a general plane as fetched. -/
def State.general (s : State) (d p i n : Nat) : Pixel :=
  let base := if s.bit (Reg.DSP_PL_CTRL_JOB d p) then s.get (Reg.DSP_PL_ADDR_ADDR d p) else KMap.getD (s.dp d).latched p 0
  let w := s.fetchWord (s.get (Reg.DSP_PL_CTRL_OWNER d p)) (base + n * s.get (Reg.DSP_PL_STRIDE_STRIDE d p) + 4 * i)
  match s.get (Reg.DSP_PL_CTRL_FMT d p) with
  | 0 => argb8 w
  | 1 => argb10 w
  | f => unstated f

/-- A plane's place: whether it is enabled, its position and its size. -/
def State.planeRect (s : State) (d p : Nat) : Bool × (Nat × Nat) × (Nat × Nat) :=
  if p = 3 then
    (s.bit (Reg.DSP_TT_CTRL_EN d), (s.get (Reg.DSP_TT_POS_X d), s.get (Reg.DSP_TT_POS_Y d)),
      (s.get (Reg.DSP_TT_SIZE_W d), s.get (Reg.DSP_TT_SIZE_H d)))
  else
    (s.bit (Reg.DSP_PL_CTRL_EN d p), (s.get (Reg.DSP_PL_POS_X d p), s.get (Reg.DSP_PL_POS_Y d p)),
      (s.get (Reg.DSP_PL_SIZE_W d p), s.get (Reg.DSP_PL_SIZE_H d p)))

/-- A pixel of plane `p` (3: the tell-tale plane) at a position of the active area; none: the plane does not cover it. -/
def State.planePixel (s : State) (d p x y : Nat) : Option Pixel :=
  let (en, (px, py), (w, h)) := s.planeRect d p
  if !en ∨ x < px ∨ y < py ∨ px + w ≤ x ∨ py + h ≤ y then none
  else
    match lastFetched ((s.dp d).lateAt p px py) w (y - py) (x - px) with
    | none => some (unstated 3)
    | some (i, n) => some (if p = 3 then s.telltale d i n else s.general d p i n)

/-- Source-over of one component with premultiplied alpha: c + below · (1 − a), where that is a whole number of the 10-bit scale;
the rounding and the overflow of other sums are not stated. -/
def sourceOver (a : Option (Nat × Nat)) (c below : Option Nat) : Option Nat :=
  match a, c with
  | some (n, m), some c =>
    if n = m then some c
    else (match below with
      | some b => if b * (m - n) % m = 0 ∧ c + b * (m - n) / m < 1024 then some (c + b * (m - n) / m) else none
      | none => none)
  | _, _ => none

/-- A plane's pixel over the opaque pixel below it (R263). -/
def blend (top below : Pixel) : Pixel :=
  ⟨some (1, 1), sourceOver top.a top.r below.r, sourceOver top.a top.g below.g, sourceOver top.a top.b below.b⟩

/-- The composed pixel, over black where no plane covers it (DEDUCED: log entry 32). -/
def State.scanPixel (s : State) (d x y : Nat) : Pixel :=
  [0, 1, 2, 3].foldl (fun acc p => match s.planePixel d p x y with
    | some px => blend px acc
    | none => acc) ⟨some (1, 1), some 0, some 0, some 0⟩

/-- The word of a pixel in the CRC; a component that the spec does not fix is free. -/
def State.pixelWord (s : State) (p : Pixel) : Nat × State :=
  match p.r, p.g, p.b with
  | some r, some g, some b => (r * 2 ^ 20 + g * 2 ^ 10 + b, s)
  | _, _, _ =>
    let (ns, s) := s.freeNats 3
    let comp := fun (c : Option Nat) (i : Nat) => c.getD (nthNat ns i % 1024)
    (comp p.r 0 * 2 ^ 20 + comp p.g 1 * 2 ^ 10 + comp p.b 2, s)

/-- The CRC-32 of a region over the composed pixels, rows from the top, pixels from the left (R266). -/
def State.regionCrc (s : State) (d r : Nat) : Nat × State :=
  let x0 := s.get (Reg.DSP_CR_POS_X d r)
  let y0 := s.get (Reg.DSP_CR_POS_Y d r)
  let pts := (List.range (s.get (Reg.DSP_CR_SIZE_H d r))).flatMap (fun j =>
    (List.range (s.get (Reg.DSP_CR_SIZE_W d r))).map (fun i => (x0 + i, y0 + j)))
  let (bytes, s) := pts.foldl (fun (acc : List Nat × State) p =>
    let (w, s) := acc.2.pixelWord (acc.2.scanPixel d p.1 p.2)
    (acc.1 ++ leBytes 4 w, s)) ([], s)
  (Crypto.crc32 0xEDB88320 bytes, s)

/-- CHECKED_REGION_COMPARE (R266). -/
def execCheckedRegionCompare (display : Fin 4) (region : Fin 16) (s : State) : Out :=
  let d := display.val
  let r := region.val
  if !s.bit (Reg.DSP_CTRL_EN d) || !s.bit (Reg.DSP_CR_CTRL_EN d r) then done s
  else
    let (crc, s) := s.regionCrc d r
    let s := s.set (Reg.DSP_CR_CRC_CRC d r) crc
    let f := s.get (Reg.DSP_FRAME_FRAME d)
    let e := KMap.getD (s.dp d).exps r 0
    let fresh := decide (e / 2 ^ 32 ≤ f) && decide (f - e / 2 ^ 32 < s.fbGet 0x7300 0x11)
    let y0 := s.get (Reg.DSP_CR_POS_Y d r)
    let late := (s.dp d).late.any (fun l => decide (y0 ≤ l.line.toNat) && decide (l.line.toNat < y0 + s.get (Reg.DSP_CR_SIZE_H d r)))
    let mismatch := late || (fresh && crc != e % 2 ^ 32)
    let s := if fresh then s else s.inc (Reg.DSP_CR_STAT_STALE d r)
    let s := if mismatch then s.inc (Reg.DSP_CR_STAT_MISMATCH d r) else s
    done (if mismatch || !fresh then s.displayEvent d else s)

/-! ## Writes of planes and regions (R263, R264, R267) -/

/-- The tell-tale registers, the palette and the region registers take writes from the owner's partition only. -/
def State.ttOwn (s : State) (who : Agent) (d a : Nat) (k : State → State) : State :=
  let at' := s.attrOf who
  if at'.partition = s.fbGet 0x7300 0x10 then k s
  else (s.cadLog 58 a at' true 0x21).dspStatus d Code.eAccess

/-- A rectangle of a plane or region lies inside the active area. -/
def State.insideActive (s : State) (d x y w h : Nat) : Bool :=
  decide (x + w ≤ s.get (Reg.DSP_HTIMING_HACTIVE d)) && decide (y + h ≤ s.get (Reg.DSP_VTIMING_VACTIVE d))

/-- The check of a position or size: a size written as 0 or all ones is E_LENGTH (R22, R23); a rectangle that reaches outside the
active area is E_BOUNDS, whichever of the two writes makes it so (DEDUCED: log entry 32). A rectangle without a size yet has no
pixel outside. -/
def State.rectChk (s : State) (d x y w h : Nat) (size : Bool) : Nat :=
  firstCode [(size && (lenBad w 0xFFFF || lenBad h 0xFFFF), Code.eLength),
    (w != 0 && h != 0 && !s.insideActive d x y w h, Code.eBounds)]

/-- The check of a value for a plane, tell-tale or region register of controller `d`, by its offset (R263–R267). -/
def State.dspValueChk (s : State) (d off v : Nat) : Nat :=
  if 0x100 ≤ off ∧ off < 0x1C0 then
    let p := (off - 0x100) / 0x40
    match (off - 0x100) % 0x40 with
    | 0 => if 3 < bitsOf v 29 27 then Code.eIllegal else Code.ok
    | 8 => if v % 256 ≠ 0 then Code.eAlign else Code.ok
    | 0x10 => if v % 256 ≠ 0 then Code.eAlign else Code.ok
    | 0x14 => s.rectChk d (v % 65536) (v / 65536) (s.get (Reg.DSP_PL_SIZE_W d p)) (s.get (Reg.DSP_PL_SIZE_H d p)) false
    | 0x18 => s.rectChk d (s.get (Reg.DSP_PL_POS_X d p)) (s.get (Reg.DSP_PL_POS_Y d p)) (v % 65536) (v / 65536) true
    | _ => Code.ok
  else if off = 0x208 ∨ off = 0x210 then (if v % 256 ≠ 0 then Code.eAlign else Code.ok)
  else if off = 0x214 then
    s.rectChk d (v % 65536) (v / 65536) (s.get (Reg.DSP_TT_SIZE_W d)) (s.get (Reg.DSP_TT_SIZE_H d)) false
  else if off = 0x218 then
    firstCode [(lenBad (v % 65536) 0xFFFF || lenBad (v / 65536) 0xFFFF, Code.eLength),
      (decide (1024 < v % 65536) || decide (512 < v / 65536) ||
        !s.insideActive d (s.get (Reg.DSP_TT_POS_X d)) (s.get (Reg.DSP_TT_POS_Y d)) (v % 65536) (v / 65536), Code.eBounds)]
  else if 0x400 ≤ off ∧ off < 0x600 then
    let r := (off - 0x400) / 0x20
    match (off - 0x400) % 0x20 with
    | 4 => s.rectChk d (v % 65536) (v / 65536) (s.get (Reg.DSP_CR_SIZE_W d r)) (s.get (Reg.DSP_CR_SIZE_H d r)) false
    | 8 => s.rectChk d (s.get (Reg.DSP_CR_POS_X d r)) (s.get (Reg.DSP_CR_POS_Y d r)) (v % 65536) (v / 65536) true
    | _ => Code.ok
  else Code.ok

/-- A write of a field group of a plane, tell-tale or region register: the owner's check, the value's check, then `k`. -/
def State.dspWrite (s : State) (who : Agent) (d off v : Nat) (k : State → State) : State :=
  let a := 0x16000000 + d * 0x100000 + off
  let body := fun (s : State) =>
    let c := s.dspValueChk d off v
    if c = Code.ok then (k s).dspStatus d Code.ok else s.dspStatus d c
  if 0x200 ≤ off then s.ttOwn who d a body else body s

/-- A write of DSP_CR_EXP; the value takes effect at the next frame start. -/
def State.writeExp (s : State) (who : Agent) (d r v : Nat) : State :=
  s.dspWrite who d (0x410 + r * 0x20) v (fun s =>
    let x := s.dp d
    let s := s.setDp d { x with expAt := KMap.put x.expAt r (s.expLatched d r, s.datum) }
    (s.set (Reg.DSP_CR_EXP_EXP d r) v).set (Reg.DSP_CR_EXP_EXP_FRAME d r) (v / 2 ^ 32))

/-- EXP_WRITE (R267). -/
def execExpWrite (who : Agent) (display : Fin 4) (region : Fin 16) (value : BitVec 64) (s : State) : Out :=
  done (s.gateWrite who (Reg.DSP_CR_EXP_addr display.val region.val) (fun s =>
    s.writeExp who display.val region.val value.toNat))

/-! ## The composition deadline (R258, R259) -/

/-- The composition job of a context: the descriptor of its COMMIT with FLIP for a display with a JOB plane. -/
def State.flipCommit (s : State) (x : Nat) : Option Desc :=
  match s.gxJobAt x with
  | none => none
  | some ds => ds.find? (fun d => d.opcode = 0x11 && flipOf d &&
      [0, 1, 2].any (fun p => s.bit (Reg.DSP_PL_CTRL_EN (flipDisplay d) p) && s.bit (Reg.DSP_PL_CTRL_JOB (flipDisplay d) p)))

/-- The slack of a context's composition job in window `w` falls below FB 0x7300.02. Before admission the projected end is now plus
the bound; t_L is the next frame start after the opening of the window. -/
def State.slackLow (s : State) (x : Nat) (d : Desc) (w : OpenWindow) : Bool :=
  let stop := match (s.gx x).job with
    | some j => j.projEnd + (match j.faultSince with | some t => s.datum - t | none => 0) +
        (match j.flushSince with | some t => s.datum - t | none => 0)
    | none => s.datum + (match s.gxJobAt x with | some ds => s.gxJobBound ds | none => 0)
  decide (s.nextVsync (flipDisplay d) w.win.start < stop + s.fbGet 0x7300 2 * 1000)

/-- The compute jobs that run on shader cores `units` begin to yield. -/
def State.preemptCompute (s : State) (x : Nat) (units : Nat) : State :=
  (List.range 32).foldl (fun s y => match (s.gx y).job with
    | some k =>
      if y ≠ x ∧ s.get (Reg.GFX_CX_ATTR_KIND y) = 1 ∧ k.yieldSince.isNone ∧ (s.gxUnits k.window &&& units) ≠ 0 then
        s.setGxJob y (some { k with yieldSince := some s.datum })
      else s
    | none => s) s

/-- The open window of a context's composition job: the one that admitted it, or the GFX window of its partition. -/
def State.composeWindow (s : State) (x : Nat) : Option OpenWindow :=
  match (s.gx x).job with
  | some j => s.openWindows.find? (fun w => w.index = j.window)
  | none => s.windowOf 3 (s.get (Reg.GFX_CX_ATTR_PARTITION x))

/-- COMPOSITION_SLACK_LOW (R258): compute is preempted, once for each composition job, which may still wait for its
admission. -/
def execCompositionSlackLow (context : Fin 32) (s : State) : Out :=
  let x := context.val
  match s.flipCommit x, s.composeWindow x with
  | some d, some w =>
    if !s.slackLow x d w || (s.gx x).preempts.isSome then done s
    else done (((s.setGx x { s.gx x with preempts := some w.entry.units }).fbInc 0x6080 3).preemptCompute x w.entry.units)
  | _, _ => done s

/-- YIELD_LIMIT (R259): workgroups that remain are killed and the dispatch is requeued. -/
def execYieldLimit (context : Fin 32) (remaining : Bool) (s : State) : Out :=
  let x := context.val
  match (s.gx x).job with
  | none => done s
  | some j =>
    match j.yieldSince with
    | none => done s
    | some t =>
      let s := s.advanceTo (t + s.fbGet 0x7300 3 * 1000)
      if !remaining || j.runOp != 2 || j.run.isNone then done s
      else
        let s := (s.setGxJob x (some { j with run := none, runOp := 0 })).fbInc 0x6080 4
        done (s.setGx x { s.gx x with resubmitted := true })

end Sys2Proof.Machine
end

