-- ==== Sys2Proof/Machine/Media.lean ====
section
/-! DEFINITION. Sample records, CSI-2 capture, the ISP, and decode and encode contexts (R271–R286). -/

namespace Sys2Proof.Machine
open Sys2Proof

/-! ## Sources and sample records (R271–R273) -/

def State.msrc (s : State) (i : Nat) : MedSrc := KMap.getD s.med.src i {}
def State.setMsrc (s : State) (i : Nat) (v : MedSrc) : State := { s with med := { s.med with src := KMap.put s.med.src i v } }
def State.capSrc (s : State) (i : Nat) : CapSrc := KMap.getD s.med.cap i {}
def State.setCap (s : State) (i : Nat) (v : CapSrc) : State := { s with med := { s.med with cap := KMap.put s.med.cap i v } }
def State.mx (s : State) (x : Nat) : MedCtx := KMap.getD s.med.ctx x {}
def State.setMx (s : State) (x : Nat) (v : MedCtx) : State := { s with med := { s.med with ctx := KMap.put s.med.ctx x v } }
def State.stx (s : State) (p : Nat) : StCtx := KMap.getD s.med.st p {}
def State.setStx (s : State) (p : Nat) (v : StCtx) : State := { s with med := { s.med with st := KMap.put s.med.st p v } }

/-- The attribute of a source's work (R30). -/
def State.srcAttr (s : State) (i : Nat) : Attr :=
  if i < 32 then ⟨s.bit (Reg.MED_CS_CTRL_SECURE i), s.get (Reg.MED_CS_CTRL_PARTITION i)⟩
  else ⟨s.bit (Reg.MED_CX_ATTR_SECURE (i - 32)), s.get (Reg.MED_CX_ATTR_PARTITION (i - 32))⟩

/-- The 32 bytes of a record. -/
def SampleRec.bytes (r : SampleRec) : List Nat :=
  leBytes 2 r.status ++ leBytes 2 r.tag ++ leBytes 4 r.seq ++
  leBytes 4 (b2n r.subst + 2 * b2n r.absent + 4 * b2n r.abandoned) ++ leBytes 2 r.w ++ leBytes 2 r.h ++
  leBytes 8 r.capture ++ leBytes 8 (r.addr % 2 ^ 48)

/-- A record is written to a capture source's ring: at SEQ mod 2^LOG2, unless the ring is full. It is full where the next index
would meet RPTR, or the slot holds a record that software has not read (after an overflow SEQ runs ahead of the ring). -/
def State.ringCapture (s : State) (i : Nat) (r : SampleRec) : State :=
  let n := 2 ^ s.get (Reg.MED_CS_RLOG2_LOG2 i)
  let k := r.seq % n
  let c := s.capSrc i
  if (k + 1) % n = s.get (Reg.MED_CS_RPTR_RPTR i) % n ∨ k ∈ c.unread then s.fbInc 0x6090 0xC
  else
    let a := s.get (Reg.MED_CS_RING_BASE i) + 32 * k
    match s.reach (s.srcAttr i) true a 32 with
    | (.ok, s) => ((s.wr a r.bytes).setCap i { c with unread := k :: c.unread }).raiseEdge (400 + i)
    | (_, s) => s

/-- A write of MED_CS_RPTR frees the slots that it passes. -/
def State.freeRecords (s : State) (i v : Nat) : State :=
  let n := 2 ^ s.get (Reg.MED_CS_RLOG2_LOG2 i)
  let old := s.get (Reg.MED_CS_RPTR_RPTR i) % n
  let c := s.capSrc i
  s.setCap i { c with unread := c.unread.filter (fun k => decide ((v % n + n - old) % n ≤ (k + n - old) % n)) }

/-- A record is written to a media context's ring at CPL_WPTR, unless the ring is full; a refused write stops the context
(R448). -/
def State.ringContext (s : State) (x : Nat) (r : SampleRec) : State :=
  let n := 2 ^ s.get (Reg.MED_CX_SIZE_CLOG2 x)
  let i := s.get (Reg.MED_Q_CPL_WPTR_CPL_WPTR x)
  if (i + 1) % n = s.get (Reg.MED_Q_CPL_RPTR_CPL_RPTR x) then s.fbInc 0x6090 0xC
  else
    let a := s.get (Reg.MED_CX_CPL_BASE x) + 32 * i
    match s.reach (s.srcAttr (32 + x)) true a 32 with
    | (.ok, s) => ((s.wr a r.bytes).set (Reg.MED_Q_CPL_WPTR_CPL_WPTR x) ((i + 1) % n)).raiseEdge (336 + x)
    | (_, s) => (s.setMx x { s.mx x with stopped := true }).set (Reg.MED_Q_STATUS_LAST x) Code.eAccess

/-- The last good sample of a source that may still be used: none was captured before a step (R273, R288). -/
def State.goodOf (s : State) (i : Nat) : Option GoodSample :=
  match (s.msrc i).good with
  | some g => if g.step = s.stepSeq then some g else none
  | none => none

/-- The record of a sample, with the source's substitution where the sample failed. The size of an absent sample is not
stated (free values). -/
def State.makeRecord (s : State) (i status tag : Nat) (aband : Bool) (good : Option GoodSample) : SampleRec × State :=
  let q := (s.msrc i).seq
  match good with
  | some g => (⟨status, tag, q, false, false, aband, g.w, g.h, g.capture, g.addr, g.fmt, g.step⟩, s)
  | none =>
    match s.goodOf i with
    | some g => (⟨status, tag, q, true, false, aband, g.w, g.h, g.capture, g.addr, g.fmt, g.step⟩, s.fbInc 0x6090 5)
    | none =>
      let (w, s) := s.freeNat
      let (h, s) := s.freeNat
      (⟨status, tag, q, false, true, aband, w % 65536, h % 65536, 0, 0, 0, s.stepSeq⟩, s.fbInc 0x6090 6)

/-- A sample ends: its record is made, held as the source's newest, and written to its ring; a good sample becomes the
last good one (R271, R273). -/
def State.sampleRecord (s : State) (i status tag : Nat) (aband : Bool) (good : Option GoodSample) : State :=
  let (r, s) := s.makeRecord i status tag aband good
  let v := s.msrc i
  let s := s.setMsrc i
    { newest := some r, newestAt := s.datum, before := if v.newestAt < s.datum then v.newest else v.before
      good := if good.isSome then good else v.good, seq := (v.seq + 1) % 2 ^ 32 }
  if i < 32 then s.ringCapture i r else s.ringContext (i - 32) r

/-- Bytes of a picture: NV12, RGB888 or P010, lines without padding (PRESUMED: log entry 33). -/
def pictureBytes (fmt w h : Nat) : Nat :=
  let yuv := w * h + 2 * ((w + 1) / 2) * ((h + 1) / 2)
  match fmt with
  | 0 => yuv
  | 1 => 3 * w * h
  | _ => 2 * yuv

/-- The pictures that running staging jobs hold: source and address (R288). -/
def State.heldPictures (s : State) : List (Nat × SampleRec) :=
  s.med.st.flatMap (fun p => match p.2.job with
    | some j => j.taken.filterMap (fun t => if t.present then t.record.map (fun r => (t.slot.source, r)) else none)
    | none => [])

/-! ## Receivers and capture sources (R274–R278) -/

/-- Bits per pixel of the captured data types, by CSI-2 code (PRESUMED: the codes of MIPI CSI-2, log entry 33). -/
def csiBits : Nat → Option Nat
  | 0x2A => some 8 | 0x2B => some 10 | 0x2C => some 12 | 0x2D => some 14 | 0x2E => some 16 | 0x1E => some 16 | 0x24 => some 24
  | _ => none

/-- Bytes of a line. -/
def lineBytes (dt w : Nat) : Nat := (w * (csiBits dt).getD 0 + 7) / 8

def State.csW (s : State) (i : Nat) : Nat := s.get (Reg.MED_CS_SIZE_W i)
def State.csH (s : State) (i : Nat) : Nat := s.get (Reg.MED_CS_SIZE_H i)
def State.csPicture (s : State) (i : Nat) : Nat := pictureBytes (s.get (Reg.MED_CS_CTRL_OFMT i)) (s.csW i) (s.csH i)
def State.csRate (s : State) (i : Nat) : Nat := s.csW i * s.csH i * s.get (Reg.MED_CS_RATE_FPS_MAX i)

/-- The enabled sources. -/
def State.csOn (s : State) : List Nat := (List.range 32).filter (fun i => s.bit (Reg.MED_CS_CTRL_EN i))

def State.csBind (s : State) (i : Nat) : Nat × Nat × Nat :=
  (s.get (Reg.MED_CS_CTRL_PORT i), s.get (Reg.MED_CS_CTRL_VC i), s.get (Reg.MED_CS_CTRL_DT i))

def lenRange (v ones lo hi : Nat) : Bool := v != 0 && v != ones && (decide (v < lo) || decide (hi < v))

/-- The check that setting EN makes (R276, R280), in the order of R25. -/
def State.csCheck (s : State) (i : Nat) : Nat :=
  let fps := s.get (Reg.MED_CS_RATE_FPS_MAX i)
  let nbuf := s.get (Reg.MED_CS_BUFCFG_NBUF i)
  let kib := s.get (Reg.MED_CS_BUFCFG_BUF_KIB i)
  let lg := s.get (Reg.MED_CS_RLOG2_LOG2 i)
  let others := s.csOn.filter (fun j => j != i)
  let isp := s.get (Reg.MED_CS_CTRL_ISP i)
  let rate := ((others.filter (fun j => s.get (Reg.MED_CS_CTRL_ISP j) = isp)).map s.csRate).foldl (· + ·) (s.csRate i)
  firstCode
    [((csiBits (s.get (Reg.MED_CS_CTRL_DT i))).isNone || lenRange (s.csW i) 0xFFFF 16 8192 || lenRange (s.csH i) 0xFFFF 16 8192 ||
        s.csW i % 2 != 0 && s.csW i != 0xFFFF || decide (fps < 1) || decide (120 < fps) || lenRange nbuf 0x1F 3 16 ||
        decide (lg < 4) || decide (10 < lg), Code.eIllegal),
     (s.csW i = 0 || s.csW i = 0xFFFF || s.csH i = 0 || s.csH i = 0xFFFF || nbuf = 0 || nbuf = 0x1F || kib = 0 || kib = 0xFFFFFF,
        Code.eLength),
     (s.get (Reg.MED_CS_BUF_BASE i) % 4096 != 0 || s.get (Reg.MED_CS_RING_BASE i) % 4096 != 0, Code.eAlign),
     (decide (kib * 1024 < s.csPicture i) || decide (1000000000 < rate), Code.eBounds),
     (others.any (fun j => s.csBind j = s.csBind i), Code.eBusy)]

/-- A source starts without samples: no SEQ of it counts as staged. -/
def State.freshSource (s : State) (i : Nat) : State :=
  let s := s.setMsrc i {}
  { s with med := { s.med with st := s.med.st.map (fun p => (p.1, { p.2 with staged := KMap.del p.2.staged i })) } }

/-- An enabled source starts without samples, its record ring at 0. -/
def State.csStart (s : State) (i : Nat) : State := ((s.freshSource i).setCap i {}).set (Reg.MED_CS_RPTR_RPTR i) 0

def capReg (i value : Nat) : EnReg :=
  { en := Reg.MED_CS_CTRL_EN i, status := Reg.MED_CS_STATUS_LAST i
    locked := [(Reg.MED_CS_CTRL_SECURE i, bitsOf value 30 30), (Reg.MED_CS_CTRL_PARTITION i, bitsOf value 29 24),
      (Reg.MED_CS_CTRL_PORT i, bitsOf value 23 20), (Reg.MED_CS_CTRL_VC i, bitsOf value 19 16),
      (Reg.MED_CS_CTRL_DT i, bitsOf value 15 10), (Reg.MED_CS_CTRL_ISP i, bitsOf value 9 8),
      (Reg.MED_CS_CTRL_OFMT i, bitsOf value 7 7)]
    free := []
    check := fun s => s.csCheck i
    mayClear := fun s => if s.heldPictures.any (fun p => p.1 = i) || (s.capSrc i).isp.isSome then Code.eBusy else Code.ok
    onEnable := fun s => s.csStart i
    onDisable := fun s => (s.freshSource i).setCap i {} }

/-- CAPTURE_SOURCE_ENABLE (R276). -/
def execCaptureSourceEnable (who : Agent) (source : Fin 32) (value : BitVec 32) (s : State) : Out :=
  done (s.gateWrite who (Reg.MED_CS_CTRL_addr source.val) (fun s => s.enWrite (capReg source.val value.toNat) true))

/-- CAPTURE_SOURCE_DISABLE (R276). -/
def execCaptureSourceDisable (who : Agent) (source : Fin 32) (value : BitVec 32) (s : State) : Out :=
  done (s.gateWrite who (Reg.MED_CS_CTRL_addr source.val) (fun s => s.enWrite (capReg source.val value.toNat) false))

/-- The buffer address of a number. -/
def State.csBuffer (s : State) (i b : Nat) : Nat :=
  s.get (Reg.MED_CS_BUF_BASE i) + b * s.get (Reg.MED_CS_BUFCFG_BUF_KIB i) * 1024

/-- A buffer may not be written now: it is the last good one, or a job holds it (R276). -/
def State.csTaken (s : State) (i b : Nat) : Bool :=
  (match (s.msrc i).good with | some g => g.buf = b | none => false) ||
  s.heldPictures.any (fun p => p.1 = i && p.2.addr = s.csBuffer i b) ||
  (match (s.capSrc i).frame with | some f => f.buf = b | none => false) ||
  (match (s.capSrc i).isp with | some j => j.buf = b | none => false)

/-- The next free buffer, round robin. -/
def State.csNext (s : State) (i : Nat) : Option Nat :=
  let n := s.get (Reg.MED_CS_BUFCFG_NBUF i)
  ((List.range n).map (fun k => ((s.capSrc i).next + k) % n)).find? (fun b => !s.csTaken i b)

/-- A frame of a source ends corrupt (R278). -/
def State.csCorrupt (s : State) (i tag : Nat) : State :=
  ((s.setCap i { s.capSrc i with frame := none }).fbInc 0x6090 2).sampleRecord i Code.eCorrupt tag false none

/-- A picture is written to a buffer: the bytes that the ISP makes of the raw frame (R279). -/
def State.ispWrite (s : State) (i params a : Nat) (raw : List Nat) : State :=
  let cfg := [params, s.get (Reg.MED_CS_CTRL_ISP i), s.get (Reg.MED_CS_CTRL_DT i), s.get (Reg.MED_CS_CTRL_OFMT i), s.csW i, s.csH i]
  match s.reach (s.srcAttr i) true a (s.csPicture i) with
  | (.ok, s) => s.wr a ((List.range (s.csPicture i)).map (fun k => Config.ispByte cfg raw k % 256))
  | (_, s) => s

/-- A good picture of a capture source is complete: its buffer, record and count. -/
def State.csGood (s : State) (i params buf tag capture step : Nat) (raw : List Nat) : State :=
  let a := s.csBuffer i buf
  let g : GoodSample := ⟨a, s.csW i, s.csH i, capture, s.get (Reg.MED_CS_CTRL_OFMT i), step, buf⟩
  ((s.ispWrite i params a raw).fbInc 0x6090 1).sampleRecord i Code.ok tag false (some g)

/-- CAPTURE_NS is Datum at the receiver's PHY, accurate to ±20 ns (R277): the error is a free value. -/
def State.captureNs (s : State) : Nat × State :=
  let (e, s) := s.freeNat
  (s.datum + e % 41 - 20, s)

/-- A frame of source `i` starts: an unended one is corrupt; without a free buffer the new one is dropped. -/
def State.csFrameStart (s : State) (number : Nat) (i : Nat) : State :=
  let s := match (s.capSrc i).frame with
    | some f => s.csCorrupt i f.tag
    | none => s
  match s.csNext i with
  | none => (s.fbInc 0x6090 3).sampleRecord i Code.eNoBuffer number false none
  | some b =>
    let (t, s) := s.captureNs
    s.setCap i { s.capSrc i with
      frame := some { buf := b, capture := t, start := s.datum, tag := number, step := s.stepSeq }
      next := (b + 1) % s.get (Reg.MED_CS_BUFCFG_NBUF i) }

/-- The enabled sources of a receiver and virtual channel, while the ISP runs. -/
def State.csOf (s : State) (port vc : Nat) : List Nat :=
  if s.unitOff 14 43 10 then [] else s.csOn.filter (fun i => s.get (Reg.MED_CS_CTRL_PORT i) = port && s.get (Reg.MED_CS_CTRL_VC i) = vc)

/-- Receiver `port` is enabled and its byte clock domain runs (R275, R427). -/
def State.rxOn (s : State) (port : Nat) : Bool :=
  s.bit (Reg.MED_RX_CTRL_EN port) && s.powered 14 && bitOf (s.get Reg.SYS_CLK_EN_EN) (45 + port / 4)

/-- A packet reaches a receiver that is on with a header that can be used; another one is
discarded and counted (R274). -/
def State.csHeader (s : State) (port : Nat) (header : EccEvent) (k : State → State) : State :=
  if !s.rxOn port then s
  else if header = .uncorrectable then s.fbInc 0x6090 0xB
  else k s

/-- CSI2_FRAME_START (R277, R276, R278). -/
def execCsi2FrameStart (port vc : Fin 16) (number : BitVec 16) (header : EccEvent) (s : State) : Out :=
  done (s.csHeader port.val header (fun s =>
    (s.csOf port.val vc.val).foldl (fun s i => s.csFrameStart number.toNat i) s))

/-- A long packet is a line of the frame that source `i` captures (R278). -/
def State.csLine (s : State) (dt : Nat) (crcOk : Bool) (payload : List Nat) (i : Nat) : State :=
  match (s.capSrc i).frame with
  | none => s
  | some f =>
    if s.get (Reg.MED_CS_CTRL_DT i) ≠ dt then s
    else
      let bad := f.bad || !crcOk || payload.length != lineBytes dt (s.csW i)
      s.setCap i { s.capSrc i with frame := some { f with lines := f.lines + 1, raw := f.raw ++ payload, bad := bad } }

/-- CSI2_PACKET (R274): embedded data and synchronisation packets pass unseen; an unsupported data type is discarded. -/
def execCsi2Packet (port vc : Fin 16) (dt : BitVec 6) (header : EccEvent) (crcOk : Bool) (payload : List Byte) (s : State) : Out :=
  done (s.csHeader port.val header (fun s =>
    if dt.toNat = 0x12 ∨ dt.toNat < 4 then s
    else if (csiBits dt.toNat).isNone then s.fbInc 0x6090 0xB
    else (s.csOf port.val vc.val).foldl (fun s i => s.csLine dt.toNat crcOk (payload.map BitVec.toNat) i) s))

/-- A frame end reaches source `i`. -/
def State.csFrameEnd (s : State) (isp : EccEvent) (params i : Nat) : State :=
  match (s.capSrc i).frame with
  | none => s
  | some f =>
    if f.bad || f.lines != s.csH i || isp = .uncorrectable then s.csCorrupt i f.tag
    else (s.setCap i { s.capSrc i with frame := none }).csGood i params f.buf f.tag f.capture f.step f.raw

/-- CSI2_FRAME_END (R278). -/
def execCsi2FrameEnd (port vc : Fin 16) (header isp : EccEvent) (params : Nat) (s : State) : Out :=
  done (s.csHeader port.val header (fun s =>
    (s.csOf port.val vc.val).foldl (fun s i => s.csFrameEnd isp params i) s))

/-- FRAME_END_TIMEOUT (R278): no frame end within 2 / FPS_MAX of the frame start. -/
def execFrameEndTimeout (source : Fin 32) (s : State) : Out :=
  match (s.capSrc source.val).frame with
  | none => done s
  | some f =>
    done ((s.advanceTo (f.start + 2000000000 / s.get (Reg.MED_CS_RATE_FPS_MAX source.val))).csCorrupt source.val f.tag)

/-! ## ISP memory input (R279) -/

/-- Bytes of the raw frame of a source. -/
def State.rawBytes (s : State) (i : Nat) : Nat := s.csH i * lineBytes (s.get (Reg.MED_CS_CTRL_DT i)) (s.csW i)

/-- An ISP job of source `i` is admitted in window `w`: it takes the next free buffer and holds it until it ends. -/
def State.ispStart (s : State) (i raw tag captured bound : Nat) (w : OpenWindow) : State :=
  match s.csNext i with
  | none => (s.fbInc 0x6090 3).sampleRecord i Code.eNoBuffer tag false none
  | some b =>
    s.setCap i { s.capSrc i with
      next := (b + 1) % s.get (Reg.MED_CS_BUFCFG_NBUF i)
      isp := some ⟨raw, tag, captured, b, s.datum, bound, w.index, s.stepSeq⟩ }

/-- An ISP job is offered: it is admitted under R67 with its bound in an open STAGING window of the source's partition, one job of
a source at a time; else it is deferred. -/
def State.ispOffer (s : State) (i raw tag captured bound : Nat) : State :=
  if !s.bit (Reg.MED_CS_CTRL_EN i) then s
  else
    match s.windowOf 5 (s.get (Reg.MED_CS_CTRL_PARTITION i)) with
    | none => s.deferred
    | some w =>
      if s.windowHeld w || s.unitOff 14 43 10 || s.fwDown 19 || (s.capSrc i).isp.isSome then s.deferred
      else match verdict s.datum bound false w with
      | .admitted => s.ispStart i raw tag captured bound w
      | .reject => (s.fbInc 0x6020 5).sampleRecord i Code.eBounds tag false none
      | _ => s.deferred

/-- An ISP job ends without a picture. -/
def State.ispFail (s : State) (i code : Nat) : State :=
  match (s.capSrc i).isp with
  | none => s
  | some j => (s.setCap i { s.capSrc i with isp := none }).sampleRecord i code j.tag false none

/-- An admitted ISP job finishes: the raw frame is read under the source's attribute, and the picture is written as the live path
writes it. A job whose running time has passed its bound does not finish: it waits for its window's close. -/
def State.ispFinish (s : State) (i : Nat) (isp : EccEvent) (params : Nat) : State :=
  match (s.capSrc i).isp with
  | none => s
  | some j =>
    if j.start + j.bound < s.datum then s
    else if isp = .uncorrectable then (s.fbInc 0x6090 2).ispFail i Code.eCorrupt
    else
      let n := s.rawBytes i
      match s.reach (s.srcAttr i) false j.raw n with
      | (.ok, s) => (s.setCap i { s.capSrc i with isp := none }).csGood i params j.buf j.tag j.capture j.step (s.rd j.raw n)
      | (r, s) => s.ispFail i r.code

/-- ISP_MEMORY_INPUT (R279): a raw frame in DRAM is processed as a live one. -/
def execIspMemoryInput (source : Fin 32) (input : IspInput) (s : State) : Out :=
  match input with
  | .offer raw tag captured bound => done (s.ispOffer source.val raw.toNat tag.toNat captured.toNat bound.toNat)
  | .finish isp params => done (s.ispFinish source.val isp params)

/-- A STAGING window closes: the ISP jobs in it are killed (R68). -/
def State.closeIsp (s : State) (w : Nat) : State :=
  (List.range 32).foldl (fun s i => match (s.capSrc i).isp with
    | some j => if j.window = w then s.ispFail i Code.eTimeout else s
    | none => s) s

/-! ## Media contexts (R281, R282) -/

/-- The check that setting EN makes (R281, R282), in the order of R25. -/
def State.mxCheck (s : State) (x : Nat) : Nat :=
  let codec := s.get (Reg.MED_CX_ATTR_CODEC x)
  let ini := s.get (Reg.MED_CX_INIT_INIT_US x)
  let w := s.get (Reg.MED_CX_MAX_MAX_W x)
  let h := s.get (Reg.MED_CX_MAX_MAX_H x)
  let size := s.get (Reg.MED_CX_ARENA_SIZE_SIZE x)
  let bad := fun l => decide (l < 4) || decide (10 < l)
  firstCode
    [(decide (3 < codec) || (s.bit (Reg.MED_CX_ATTR_ENCODE x) && decide (2 ≤ codec)) || lenRange w 0xFFFF 16 8192 ||
        lenRange h 0xFFFF 16 8192 || lenRange ini 0xFFFFF 1 1000000 || bad (s.get (Reg.MED_CX_SIZE_LOG2 x)) ||
        bad (s.get (Reg.MED_CX_SIZE_CLOG2 x)), Code.eIllegal),
     (w = 0 || w = 0xFFFF || h = 0 || h = 0xFFFF || ini = 0 || ini = 0xFFFFF || size = 0 || size = 0xFFFFFFFF, Code.eLength),
     (s.get (Reg.MED_CX_ARENA_BASE x) % 4096 != 0 || size % 4096 != 0 || s.get (Reg.MED_CX_RING_BASE x) % 4096 != 0 ||
        s.get (Reg.MED_CX_CPL_BASE x) % 4096 != 0, Code.eAlign)]

/-- SLOW and its Field Book copy (R286). -/
def State.setSlow (s : State) (x : Nat) (b : Bool) : State :=
  (s.setBit (Reg.MED_Q_STATUS_SLOW x) b).fbSet 0x6091 (x + 1) (b2n b)

/-- An enabled context: pointers and SEQ at 0, AVG_NS from INIT_US, no history. -/
def State.mxStart (s : State) (x : Nat) : State :=
  let s := (((s.set (Reg.MED_Q_WPTR_WPTR x) 0).set (Reg.MED_Q_RPTR_RPTR x) 0).set (Reg.MED_Q_CPL_WPTR_CPL_WPTR x) 0)
  let s := (s.set (Reg.MED_Q_CPL_RPTR_CPL_RPTR x) 0).set (Reg.MED_Q_AVG_AVG_NS x) (s.get (Reg.MED_CX_INIT_INIT_US x) * 1000)
  (((s.setSlow x false).set (Reg.MED_Q_STATUS_EN x) 1).freshSource (32 + x)).setMx x {}

def mxReg (x value : Nat) : EnReg :=
  { en := Reg.MED_CX_ATTR_EN x, status := Reg.MED_CX_STATUS_LAST x
    locked := [(Reg.MED_CX_ATTR_SECURE x, bitsOf value 30 30), (Reg.MED_CX_ATTR_PARTITION x, bitsOf value 29 24),
      (Reg.MED_CX_ATTR_ENCODE x, bitsOf value 23 23), (Reg.MED_CX_ATTR_CODEC x, bitsOf value 22 20)]
    free := [(Reg.MED_CX_ATTR_PRIO x, bitsOf value 18 16)]
    check := fun s => s.mxCheck x
    mayClear := fun s => if (s.mx x).admitted.isSome then Code.eBusy else Code.ok
    onEnable := fun s => s.mxStart x
    onDisable := fun s => ((s.set (Reg.MED_Q_STATUS_EN x) 0).freshSource (32 + x)).setMx x {} }

/-- MEDIA_CONTEXT_ENABLE (R282). -/
def execMediaContextEnable (who : Agent) (context : Fin 64) (value : BitVec 32) (s : State) : Out :=
  done (s.gateWrite who (Reg.MED_CX_ATTR_addr context.val) (fun s => s.enWrite (mxReg context.val value.toNat) true))

/-- MEDIA_CONTEXT_DISABLE (R282). -/
def execMediaContextDisable (who : Agent) (context : Fin 64) (value : BitVec 32) (s : State) : Out :=
  done (s.gateWrite who (Reg.MED_CX_ATTR_addr context.val) (fun s => s.enWrite (mxReg context.val value.toNat) false))

/-! ## Samples (R283) -/

def State.mxSlots (s : State) (x : Nat) : Nat := 2 ^ s.get (Reg.MED_CX_SIZE_LOG2 x)

def State.sampleDesc (s : State) (x i : Nat) : SampleDesc :=
  let a := s.get (Reg.MED_CX_RING_BASE x) + 32 * i
  let w0 := s.rdLe a 4
  ⟨bitOf w0 0, bitsOf w0 31 16, s.rdLe (a + 8) 6, s.rdLe (a + 0x10) 4, s.rdLe (a + 0x18) 8,
   bitsOf w0 15 1 = 0 && s.rdLe (a + 4) 4 = 0 && s.rdLe (a + 14) 2 = 0 && s.rdLe (a + 0x14) 4 = 0⟩

/-- The check of a descriptor (R283). -/
def State.sampleChk (s : State) (x : Nat) (d : SampleDesc) : Nat :=
  let enc := s.bit (Reg.MED_CX_ATTR_ENCODE x)
  firstCode
    [(!d.clean || (enc && d.bytes != 0), Code.eIllegal),
     (!enc && (d.bytes = 0 || d.bytes = 0xFFFFFFFF), Code.eLength)]

/-- The oldest sample of a context has its record: RPTR passes it, and the rejected ones behind it get theirs. -/
def State.mxNext (s : State) (x : Nat) : Nat → State
  | 0 => s
  | n + 1 =>
    match (s.mx x).checked with
    | [] => s
    | c :: cs =>
      if c.code = Code.ok ∨ (s.mx x).stopped then s
      else
        let s := s.sampleRecord (32 + x) c.code c.desc.tag false none
        ((s.setMx x { s.mx x with checked := cs }).set (Reg.MED_Q_RPTR_RPTR x) ((c.slot + 1) % s.mxSlots x)).mxNext x n

/-- A descriptor is read under the context's attribute (R157, R282) and checked; one that it may not read fails with the code of
the access. -/
def State.checkSample (s : State) (x i : Nat) : Checked × State :=
  let d := s.sampleDesc x i
  match s.reach (s.srcAttr (32 + x)) false (s.get (Reg.MED_CX_RING_BASE x) + 32 * i) 32 with
  | (.ok, s) => (⟨i, d, s.sampleChk x d, s.stepSeq⟩, s)
  | (r, s) => (⟨i, d, r.code, s.stepSeq⟩, s)

/-- SAMPLE_DESCRIPTOR (R283): the next submitted descriptor that is not checked yet. -/
def execSampleDescriptor (context : Fin 64) (s : State) : Out :=
  let x := context.val
  let c := s.mx x
  let n := s.mxSlots x
  let i := (s.get (Reg.MED_Q_RPTR_RPTR x) + c.checked.length) % n
  if !s.bit (Reg.MED_CX_ATTR_EN x) ∨ c.stopped ∨ i = s.get (Reg.MED_Q_WPTR_WPTR x) ∨ n ≤ c.checked.length then done s
  else
    let (e, s) := s.checkSample x i
    done ((s.setMx x { c with checked := c.checked ++ [e] }).mxNext x (n + 1))

/-! ## The end of a sample (R284–R286) -/

/-- The running average of R285. -/
def avgStep (avg t : Nat) : Nat := ((avg : Int) + ((t : Int) - avg) / 16).toNat

/-- The outcome of an admitted sample joins the last 100 (R286). -/
def State.mxOutcome (s : State) (x : Nat) (abandoned : Bool) : State :=
  let o := (abandoned :: (s.mx x).outcomes).take 100
  let s := s.setMx x { s.mx x with outcomes := o }
  let n := (o.filter id).length
  if 3 ≤ n then s.setSlow x true else if n = 0 then s.setSlow x false else s

/-- The context's oldest sample gets its record: RPTR passes it, and the rejected samples behind it get theirs. -/
def State.mxRecord (s : State) (x status : Nat) (aband : Bool) (good : Option GoodSample) : State :=
  match (s.mx x).checked with
  | [] => s
  | c :: cs =>
    let s := s.setMx x { s.mx x with checked := cs, admitted := none }
    let s := s.sampleRecord (32 + x) status c.desc.tag aband good
    (s.set (Reg.MED_Q_RPTR_RPTR x) ((c.slot + 1) % s.mxSlots x)).mxNext x (s.mxSlots x)

/-- An admitted sample completes or is abandoned after `t` ns: average, history, record. -/
def State.mxEnd (s : State) (x status t : Nat) (aband : Bool) (good : Option GoodSample) : State :=
  let s := s.set (Reg.MED_Q_AVG_AVG_NS x) (min (avgStep (s.get (Reg.MED_Q_AVG_AVG_NS x)) t) 0xFFFFFFFF)
  (s.mxOutcome x aband).mxRecord x status aband good

/-- A context's admitted sample is abandoned (R285): its reference state returns to what it was before the sample. -/
def State.mxAbandon (s : State) (x t : Nat) : State :=
  match (s.mx x).admitted with
  | none => s
  | some _ => ((s.setMx x { s.mx x with broken := true }).fbInc 0x6090 8).mxEnd x Code.eBudget t true none

/-- A context's admitted sample is abandoned as the media controller or its power fails (R389, R403): the average, which is of
decode times, stays (DEDUCED: log entry 33). -/
def State.mxFail (s : State) (x code : Nat) : State :=
  match (s.mx x).admitted with
  | none => s
  | some _ => ((s.setMx x { s.mx x with broken := true }).mxOutcome x true).mxRecord x code false none

/-! ## Admission (R285) -/

/-- The budget of R285. -/
def State.mxBudget (s : State) (x : Nat) (w : OpenWindow) : Int :=
  min (8 * (s.get (Reg.MED_Q_AVG_AVG_NS x) : Int)) ((w.close : Int) - w.win.slackLeft - s.datum)

def State.mxReady (s : State) (x : Nat) (w : OpenWindow) : Bool :=
  let c := s.mx x
  w.entry.resource = 4 && !w.entry.benchmark && s.bit (Reg.MED_CX_ATTR_EN x) && !c.stopped && c.admitted.isNone &&
  s.get (Reg.MED_CX_ATTR_PARTITION x) = w.entry.partition && !s.windowHeld w && !s.unitOff 14 42 10 && s.get (Reg.SYS_FWD_STATUS_STATE 19) != 1 && !c.checked.isEmpty

/-- A context's oldest sample is considered in a MEDIA window. -/
def State.considerMedia (s : State) (w : OpenWindow) (x : Nat) : State :=
  if !s.mxReady x w then s
  else if s.fwFailed 19 then s.mxRecord x Code.eUnavailable false none
  else
    let b := s.mxBudget x w
    if b < (s.fbGet 0x7400 1 * 1000 : Nat) then s.deferred
    else s.setMx x { s.mx x with admitted := some (s.datum, b.toNat, w.index) }

/-- Contexts by descending PRIO, then ascending number. -/
def State.mxOrder (s : State) : List Nat :=
  [7, 6, 5, 4, 3, 2, 1, 0].flatMap (fun p => (List.range 64).filter (fun x => s.get (Reg.MED_CX_ATTR_PRIO x) = p))

def State.admitMedia (s : State) : State :=
  s.openWindows.foldl (fun s w => s.mxOrder.foldl (fun s x => s.considerMedia w x) s) s

/-- The checks of R284 on a declared size. -/
def State.dimsBad (s : State) (x w h bytes : Nat) : Bool :=
  w = 0 || h = 0 || decide (8192 < w) || decide (8192 < h) || decide (s.get (Reg.MED_CX_MAX_MAX_W x) < w) ||
  decide (s.get (Reg.MED_CX_MAX_MAX_H x) < h) ||
  (!s.bit (Reg.MED_CX_ATTR_ENCODE x) && decide (bytes < ceilDiv (w * h) 4096))

/-- Two ranges meet. -/
def meets (a n b m : Nat) : Bool := decide (a < b + m) && decide (b < a + n)

/-- The decoder never writes over the last good picture nor over one that a staging job holds (R273, R288). -/
def State.arenaTaken (s : State) (x a n : Nat) : Bool :=
  (match (s.msrc (32 + x)).good with | some g => meets a n g.addr (pictureBytes g.fmt g.w g.h) | none => false) ||
  s.heldPictures.any (fun p => p.1 = 32 + x && meets a n p.2.addr (pictureBytes p.2.fmt p.2.w p.2.h))

/-- DECODE_COMPLETE (R284, R285): the admitted sample finishes `time` ns after its admission, unless its budget has run out
by then. The bitstream is the business of the codec standards, so the command says what it holds: the size that its
header declares, whether the pictures that this size needs fit in the arena, whether it depends on an abandoned picture,
how it ends, and the picture (or, from an encoder, the bitstream) with its place in the arena. -/
def execDecodeComplete (context : Fin 64) (time : BitVec 32) (width height : BitVec 16) (fits depends : Bool) (outcome : MediaOutcome)
    (tenBit : Bool) (offset : BitVec 32) (data : List Byte) (s : State) : Out :=
  let x := context.val
  match (s.mx x).admitted, (s.mx x).checked with
  | some (start, budget, _), c :: _ =>
    let stop := max s.datum (start + time.toNat)
    if start + budget < stop then done s
    else
      let s := s.advanceTo stop
      let d := c.desc
      let enc := s.bit (Reg.MED_CX_ATTR_ENCODE x)
      let decl := if d.seqhdr || enc then some (width.toNat, height.toNat) else (s.mx x).decl
      let broken := (s.mx x).broken && !d.seqhdr
      let (w, h) := decl.getD (0, 0)
      let fmt := if tenBit && s.get (Reg.MED_CX_ATTR_CODEC x) < 2 then 2 else 0
      let a := s.get (Reg.MED_CX_ARENA_BASE x) + offset.toNat
      let n := if enc then data.length else pictureBytes fmt w h
      if s.arenaTaken x a n then done s
      else
        let s := s.setMx x { s.mx x with decl := decl, broken := broken }
        let fail := fun (s : State) (code : Nat) => done ((s.mxEnd x code (stop - start) false none).admitMedia)
        if s.dimsBad x w h d.bytes || !fits || decide (s.get (Reg.MED_CX_ARENA_SIZE_SIZE x) < offset.toNat + n) then
          fail (s.fbInc 0x6090 7) Code.eDimBound
        else
          match s.reach (s.srcAttr (32 + x)) false d.addr (if enc then pictureBytes fmt w h else d.bytes) with
          | (.ok, s) =>
            if broken && depends || outcome = .corrupt then fail s Code.eCorrupt
            else if outcome = .ecc then fail s Code.eEccUncorr
            else
              match s.reach (s.srcAttr (32 + x)) true a n with
              | (.ok, s) =>
                let s := s.wr a ((data.take n).map BitVec.toNat)
                done ((s.mxEnd x Code.ok (stop - start) false (some ⟨a, w, h, d.capture, fmt, c.step, 0⟩)).admitMedia)
              | (r, s) => fail s r.code
          | (r, s) => fail s r.code
  | _, _ => done s

/-- DECODE_BUDGET_EXPIRY (R285). -/
def execDecodeBudgetExpiry (context : Fin 64) (s : State) : Out :=
  match (s.mx context.val).admitted with
  | none => done s
  | some (start, budget, _) =>
    done (((s.advanceTo (start + budget)).mxAbandon context.val budget).admitMedia)

/-- A MEDIA window closes: what it still runs has spent its budget (R285, R293). -/
def State.closeMedia (s : State) (w : Nat) : State :=
  (List.range 64).foldl (fun s x => match (s.mx x).admitted with
    | some (_, budget, v) => if v = w then s.mxAbandon x budget else s
    | none => s) s

end Sys2Proof.Machine
end

