-- ==== Sys2Proof/Machine/Staging.lean ====
section
/-! DEFINITION. The staging engine (R287–R293): its table, what a job takes for each slot, the processing of a slot, the
prepared batch queues. -/

namespace Sys2Proof.Machine
open Sys2Proof

/-! ## The staging table (R289) -/

def State.stBase (s : State) (p : Nat) : Nat := s.get (Reg.MED_ST_TABLE_BASE p)
def State.stAttr (s : State) (p : Nat) : Attr := ⟨s.bit (Reg.MED_ST_CTRL_SECURE p), s.get (Reg.MED_ST_CTRL_PARTITION p)⟩

def State.readBucket (s : State) (p k : Nat) : StBucket :=
  let a := s.stBase p + 0x40 + 64 * k
  let w0 := s.rdLe a 4
  let w1 := s.rdLe (a + 4) 4
  { outW := w0 % 65536, outH := w0 / 65536, ofmt := bitsOf w1 3 0, foldCode := bitsOf w1 5 4, bicubic := bitsOf w1 7 6,
    csc := bitsOf w1 10 8, depth := bitsOf w1 15 12, low := bitsOf w1 19 16, base := s.rdLe (a + 8) 6, hdr := s.rdLe (a + 0x10) 6,
    entry := s.rdLe (a + 0x18) 4, means := (List.range 3).map (fun i => s.rdLe (a + 0x20 + 4 * i) 4),
    scales := (List.range 3).map (fun i => s.rdLe (a + 0x30 + 4 * i) 4) }

def State.readSlot (s : State) (p i : Nat) : StSlot :=
  let a := s.stBase p + 0x240 + 32 * i
  let w0 := s.rdLe a 4
  { source := bitsOf w0 6 0, bucket := bitsOf w0 10 8, flipH := bitOf w0 11, flipV := bitOf w0 12, rot := bitsOf w0 14 13,
    cropX := s.rdLe (a + 4) 2, cropY := s.rdLe (a + 6) 2, cropW := s.rdLe (a + 8) 2, cropH := s.rdLe (a + 10) 2,
    angle := signed 16 (s.rdLe (a + 12) 2), fill := s.rdLe (a + 16) 1 }

def State.slotValid (s : State) (p i : Nat) : Bool := bitOf (s.rdLe (s.stBase p + 0x240 + 32 * i) 1) 7

def State.stBuckets (s : State) (p : Nat) : List Nat := (List.range 8).filter (fun k => bitOf (s.rdLe (s.stBase p + 2) 1) k)
def State.stSlots (s : State) (p : Nat) : List Nat := (List.range 16).filter (s.slotValid p)

/-- The fold factor F of a bucket. -/
def StBucket.fold (b : StBucket) : Nat := match b.foldCode with | 1 => 2 | 2 => 4 | _ => 1

/-- The output format of a bucket. -/
def StBucket.fmt (b : StBucket) : Fmt := (Fmt.ofCode b.ofmt).getD .int8

/-- DIM0 and the strides of an entry (R291). -/
def StBucket.dim0 (b : StBucket) : Nat := 3 * b.fold * b.fold
def StBucket.stride1 (b : StBucket) : Nat := ceilDiv (b.dim0 * (b.fmt.bits / 8)) 64 * 64
def StBucket.stride2 (b : StBucket) : Nat := b.outW / b.fold * b.stride1
def StBucket.stride3 (b : StBucket) : Nat := b.outH / b.fold * b.stride2

def stFmt (c : Nat) : Bool := c = 0 || c = 0xA || c = 0xB

/-- Violations of R289 in a bucket and in a slot: E_ILLEGAL and E_LENGTH. -/
def StBucket.illegal (b : StBucket) : Bool :=
  lenRange b.outW 0xFFFF 8 8192 || lenRange b.outH 0xFFFF 8 8192 || !stFmt b.ofmt || b.foldCode = 3 || decide (1 < b.bicubic) ||
  decide (4 < b.csc) || b.depth = 1 || decide (b.depth ≤ b.low && b.depth != 0) || b.means.any (fun w => !f32Finite w) ||
  b.scales.any (fun w => !f32Finite w || (f32 w).isZero) || (b.foldCode != 3 && (b.outW % b.fold != 0 || b.outH % b.fold != 0))
def StBucket.badLength (b : StBucket) : Bool :=
  b.outW = 0 || b.outW = 0xFFFF || b.outH = 0 || b.outH = 0xFFFF || b.depth = 0 || b.depth = 15 || b.entry = 0 || b.entry = 0xFFFFFFFF
def StSlot.illegal (t : StSlot) (buckets : List Nat) : Bool :=
  decide (96 ≤ t.source) || !buckets.contains t.bucket || t.cropX % 2 != 0 || t.cropY % 2 != 0 ||
  lenRange t.cropW 0xFFFF 2 8192 || lenRange t.cropH 0xFFFF 2 8192 || (t.cropW % 2 != 0 && t.cropW != 0xFFFF) ||
  (t.cropH % 2 != 0 && t.cropH != 0xFFFF) || decide (t.angle < -4500) || decide (4500 < t.angle)
def StSlot.badLength (t : StSlot) : Bool := t.cropW = 0 || t.cropW = 0xFFFF || t.cropH = 0 || t.cropH = 0xFFFF

/-- The check that setting EN makes, in the order of R25. -/
def State.stCheck (s : State) (p : Nat) : Nat :=
  let bs := (s.stBuckets p).map (fun k => (k, s.readBucket p k))
  let ts := (s.stSlots p).map (s.readSlot p)
  let bound := s.get (Reg.MED_ST_CTRL_BOUND_US p)
  let stale := s.get (Reg.MED_ST_STALE_STALE_US p)
  let reach := s.canReach (s.stAttr p) false (s.stBase p) 0x440
  firstCode
    [(lenRange bound 0xFFFFF 1 1000000 || lenRange stale 0xFFFFF 1 1000000 ||
        (reach && ((s.stBuckets p).isEmpty || bs.any (fun b => b.2.illegal) || ts.any (fun t => t.illegal (s.stBuckets p)))),
        Code.eIllegal),
     (bound = 0 || bound = 0xFFFFF || stale = 0 || stale = 0xFFFFF ||
        (reach && (bs.any (fun b => b.2.badLength) || ts.any StSlot.badLength)), Code.eLength),
     (s.stBase p % 64 != 0 || s.get (Reg.MED_ST_BENCH_BASE p) % 4096 != 0 ||
        (reach && bs.any (fun b => b.2.base % 4096 != 0 || b.2.hdr % 64 != 0)), Code.eAlign),
     (reach && bs.any (fun b => b.2.entry % 4096 != 0 ||
        decide (b.2.entry < (ts.filter (fun t => t.bucket = b.1)).length * b.2.stride3)), Code.eBounds),
     (!reach || ts.any (fun t => (s.srcAttr t.source).partition != (s.stAttr p).partition), Code.eAccess),
     (s.rdLe (s.stBase p) 2 != 1, Code.eVersion)]

/-- EN loads the device's own copy of the table and starts the queues at 0. -/
def State.stStart (s : State) (p : Nat) : State :=
  let s := s.setStx p { buckets := (s.stBuckets p).map (fun k => (k, s.readBucket p k)),
                        slots := (s.stSlots p).map (s.readSlot p) }
  (List.range 8).foldl (fun s k => (s.set (Reg.MED_PBQ_WPTR_WPTR p k) 0).set (Reg.MED_PBQ_RPTR_RPTR p k) 0) s

def stReg (p value : Nat) : EnReg :=
  { en := Reg.MED_ST_CTRL_EN p, status := Reg.MED_ST_STATUS_LAST p
    locked := [(Reg.MED_ST_CTRL_SECURE p, bitsOf value 30 30), (Reg.MED_ST_CTRL_PARTITION p, bitsOf value 29 24),
      (Reg.MED_ST_CTRL_BOUND_US p, bitsOf value 19 0)]
    free := []
    check := fun s => s.stCheck p
    reads := fun s => [⟨s.stAttr p, false, s.stBase p, 0x440⟩]
    mayClear := fun s => if (s.stx p).job.isSome then Code.eBusy else Code.ok
    onEnable := fun s => s.stStart p
    onDisable := fun s => s.setStx p {} }

/-- STAGING_ENABLE (R289). -/
def execStagingEnable (who : Agent) (context : Fin 32) (value : BitVec 32) (s : State) : Out :=
  done (s.gateWrite who (Reg.MED_ST_CTRL_addr context.val) (fun s => s.enWrite (stReg context.val value.toNat) true))

/-- STAGING_DISABLE (R292). -/
def execStagingDisable (who : Agent) (context : Fin 32) (value : BitVec 32) (s : State) : Out :=
  done (s.gateWrite who (Reg.MED_ST_CTRL_addr context.val) (fun s => s.enWrite (stReg context.val value.toNat) false))

/-! ## What a job takes (R288) -/

/-- The newest record of a source that a job takes: one written in the clock of its admission is not used (R293). -/
def State.newestFor (s : State) (i : Nat) : Option SampleRec :=
  if (s.msrc i).newestAt < s.datum then (s.msrc i).newest else (s.msrc i).before

/-- The verdict on a slot: present, substituted, and which counter counts an absence (R288, R289). -/
def State.takeSlot (s : State) (p : Nat) (t : StSlot) : StTaken × State :=
  match s.newestFor t.source with
  | none => (⟨t, none, false, false⟩, s)
  | some r =>
    let absent : StTaken := ⟨t, some r, false, false⟩
    if r.absent ∨ r.step ≠ s.stepSeq then (absent, s)
    else if s.get (Reg.MED_ST_STALE_STALE_US p) * 1000 < s.datum - r.capture then (absent, s.fbInc 0x6090 4)
    else if r.w < t.cropX + t.cropW ∨ r.h < t.cropY + t.cropH then (absent, s)
    else
      let csc := match KMap.find (s.stx p).buckets t.bucket with | some b => b.csc | none => 0
      if csc = 0 ↔ r.fmt ≠ 1 then (absent, s.fbInc 0x6090 0xF)
      else (⟨t, some r, true, KMap.find (s.stx p).staged t.source = some r.seq || r.subst⟩, s)

def State.takeSlots (s : State) (p : Nat) : List StSlot → List StTaken × State
  | [] => ([], s)
  | t :: ts =>
    let (x, s) := s.takeSlot p t
    let (xs, s) := s.takeSlots p ts
    (x :: xs, s)

/-- The staging job of pipeline `p` is offered in a window: once a frame, with b = BOUND_US (R287). A rejected job, which has no
record to complete, is over for its frame and leaves no batch (R67). -/
def State.considerStaging (s : State) (w : OpenWindow) : State :=
  let p := w.entry.pipe
  let c := s.stx p
  if w.entry.resource ≠ 5 ∨ w.entry.benchmark ∨ !s.bit (Reg.MED_ST_CTRL_EN p) ∨ c.job.isSome ∨ c.produced ∨ c.rejected ∨ c.missed ∨
      w.entry.partition ≠ s.get (Reg.MED_ST_CTRL_PARTITION p) ∨ s.injHeld w.entry.partition ∨ s.shedHeld w.entry.partition ∨ s.fwDown 19 ∨ s.unitOff 14 44 10 then s
  else
    let b := s.get (Reg.MED_ST_CTRL_BOUND_US p) * 1000
    match verdict s.datum b false w with
    | .admitted =>
      let (taken, s) := s.takeSlots p c.slots
      s.setStx p { s.stx p with produced := true, job := some ⟨s.datum, w.index, b, s.frameOf p, taken⟩ }
    | .reject => (s.fbInc 0x6020 5).setStx p { c with rejected := true }
    | _ => s.deferred

def State.admitStaging (s : State) : State := s.openWindows.foldl State.considerStaging s

/-- A frame of pipeline `p` starts: a frame that ended without a job produced no batch (R287). -/
def State.stagingFrame (s : State) (p : Nat) : State :=
  if s.bit (Reg.MED_ST_CTRL_EN p) then
    let c := s.stx p
    (if c.live && !c.produced && !c.missed then s.fbInc 0x6090 0xD else s).setStx p
      { c with live := true, produced := false, rejected := false, missed := false }
  else s

/-! ## Processing a slot (R290) -/

/-- The samples of a picture: the luma sample at (x, y), and a chroma sample of it (0: Cb, 1: Cr), or a component. -/
def State.lumaAt (s : State) (r : SampleRec) (x y : Nat) : Nat :=
  if r.fmt = 2 then s.rdLe (r.addr + 2 * (y * r.w + x)) 2 / 64 else s.rdLe (r.addr + y * r.w + x) 1
def State.chromaAt (s : State) (r : SampleRec) (x y c : Nat) : Nat :=
  let i := r.w * r.h + y / 2 * (2 * ((r.w + 1) / 2)) + 2 * (x / 2) + c
  if r.fmt = 2 then s.rdLe (r.addr + 2 * i) 2 / 64 else s.rdLe (r.addr + i) 1

/-- The largest component value of a picture. -/
def compMax (fmt : Nat) : Int := if fmt = 2 then 1023 else 255

/-- The nearest integer to n × 4096 / d. -/
def coef (n d : Int) : Int := (2 * 4096 * n + d) / (2 * d)

/-- The coefficients of a CSC code in units of 2⁻¹²: luma, Cr to R, Cb to G, Cr to G, Cb to B. -/
def cscCoefs (csc fmt : Nat) : Int × Int × Int × Int × Int :=
  let kr : Int := if csc ≤ 2 then 2990 else 2126
  let kb : Int := if csc ≤ 2 then 1140 else 722
  let kg := 10000 - kr - kb
  let limited := csc = 1 || csc = 3
  let (yn, yd, cn, cd) : Int × Int × Int × Int :=
    if limited then (if fmt = 2 then (1023, 876, 1023, 896) else (255, 219, 255, 224)) else (1, 1, 1, 1)
  (coef yn yd, coef (2 * (10000 - kr) * cn) (10000 * cd), coef (-2 * (10000 - kb) * kb * cn) (10000 * kg * cd),
   coef (-2 * (10000 - kr) * kr * cn) (10000 * kg * cd), coef (2 * (10000 - kb) * cn) (10000 * cd))

def clampTo (hi x : Int) : Int := max 0 (min x hi)

/-- Component `c` (0 R, 1 G, 2 B) of the picture's pixel (x, y) after colour conversion. -/
def State.compAt (s : State) (r : SampleRec) (csc x y c : Nat) : Int :=
  if r.fmt = 1 then s.rdLe (r.addr + 3 * (y * r.w + x) + c) 1
  else
    let (oy, oc) : Int × Int := if r.fmt = 2 then (64, 512) else (16, 128)
    let (ky, crR, cbG, crG, cbB) := cscCoefs csc r.fmt
    let l := ky * ((s.lumaAt r x y : Int) - oy)
    let cb : Int := (s.chromaAt r x y 0 : Int) - oc
    let cr : Int := (s.chromaAt r x y 1 : Int) - oc
    let v := match c with
      | 0 => l + crR * cr
      | 1 => l + cbG * cb + crG * cr
      | _ => l + cbB * cb
    clampTo (compMax r.fmt) ((v + 2048) / 4096)

/-- The size of the turned image. -/
def StSlot.wc (t : StSlot) : Nat := if t.rot % 2 = 1 then t.cropH else t.cropW
def StSlot.hc (t : StSlot) : Nat := if t.rot % 2 = 1 then t.cropW else t.cropH

/-- Component `c` of the cropped, flipped and turned image. -/
def State.turnedAt (s : State) (r : SampleRec) (t : StSlot) (csc x y c : Nat) : Int :=
  let (fx, fy) := match t.rot with
    | 0 => (x, y)
    | 1 => (y, t.cropH - 1 - x)
    | 2 => (t.cropW - 1 - x, t.cropH - 1 - y)
    | _ => (t.cropW - 1 - y, x)
  let px := if t.flipH then t.cropW - 1 - fx else fx
  let py := if t.flipV then t.cropH - 1 - fy else fy
  s.compAt r csc (t.cropX + px) (t.cropY + py) c

/-- `rnd` of R290. -/
def rndShift (v : Int) (n : Nat) : Int := (v + 2 ^ (n - 1)) / 2 ^ n

/-- The nearest integer to a quotient with a positive divisor, ties away from zero. -/
def roundAway (a b : Int) : Int := if 0 ≤ a then (2 * a + b) / (2 * b) else -((-2 * a + b) / (2 * b))

/-- Cosine and sine of the slot's angle in Q16. -/
def angleQ16 (angle : Int) : Int × Int :=
  let x := angle * piFix / 18000
  (roundAway (trigFix 1 x * 65536) oneFix, roundAway (trigFix 0 x * 65536) oneFix)

/-- A tap of the turned image: clamped to the edge, or FILL outside it when the slot is turned by an angle. -/
def State.tap (s : State) (r : SampleRec) (t : StSlot) (csc c : Nat) (x y : Int) : Int :=
  let inside := decide (0 ≤ x) && decide (x < t.wc) && decide (0 ≤ y) && decide (y < t.hc)
  if inside || t.angle = 0 then
    s.turnedAt r t csc (clampTo ((t.wc : Int) - 1) x).toNat (clampTo ((t.hc : Int) - 1) y).toNat c
  else t.fill

/-- The weights of the taps (first tap and weights) for a fraction `f` of 256: bilinear or Catmull-Rom. -/
def tapWeights (bicubic : Bool) (f : Int) : Int × List Int :=
  if bicubic then
    let d : Int := 2 * 256 * 256
    let a := roundAway (-(f * f * f) + 2 * 256 * f * f - 256 * 256 * f) d
    let c := roundAway (-3 * f * f * f + 4 * 256 * f * f + 256 * 256 * f) d
    let e := roundAway (f * f * f - 256 * f * f) d
    (-1, [a, 256 - a - c - e, c, e])
  else (0, [256 - f, f])

/-- The resampled component at output pixel (u, v). -/
def State.resample (s : State) (r : SampleRec) (t : StSlot) (b : StBucket) (cs : Int × Int) (u v c : Nat) : Int :=
  let wc : Int := t.wc
  let hc : Int := t.hc
  let sx : Int := (2 * (u : Int) + 1) * wc * 65536 / (2 * (b.outW : Int)) - 32768
  let sy : Int := (2 * (v : Int) + 1) * hc * 65536 / (2 * (b.outH : Int)) - 32768
  let cx := (wc - 1) * 32768
  let cy := (hc - 1) * 32768
  let rx := cx + rndShift (cs.1 * (sx - cx) + cs.2 * (sy - cy)) 16
  let ry := cy + rndShift (cs.1 * (sy - cy) - cs.2 * (sx - cx)) 16
  let (ox, wx) := tapWeights (b.bicubic = 1) (rx / 256 % 256)
  let (oy, wy) := tapWeights (b.bicubic = 1) (ry / 256 % 256)
  let ix := rx / 65536
  let iy := ry / 65536
  let sum := (List.range wy.length).foldl (fun acc (j : Nat) => (List.range wx.length).foldl (fun acc (i : Nat) =>
    acc + wx.getD i 0 * wy.getD j 0 * s.tap r t b.csc c (ix + ox + i) (iy + oy + j)) acc) 0
  clampTo (compMax r.fmt) (rndShift sum 16)

/-- The code of channel `k` of the folded image at (x, y): the channel is the most significant part of k, then the row,
then the column (R117). -/
def State.stagedCode (s : State) (r : SampleRec) (t : StSlot) (b : StBucket) (cs : Int × Int) (x y k : Nat) : Nat :=
  let f := b.fold
  let c := k / (f * f)
  let v := s.resample r t b cs (x * f + k % f) (y * f + k % (f * f) / f) c
  let n := (fxInt v.toNat).sub (fxc (nthNat b.means c))
  (toCode b.fmt (n.mul (fxc (nthNat b.scales c)))).1

/-- The bytes of a slot: rows of DIM0 elements by address offset from its start. -/
def State.slotRows (s : State) (r : SampleRec) (t : StSlot) (b : StBucket) : List (Nat × List Nat) :=
  let cs := angleQ16 t.angle
  (List.range (b.outH / b.fold)).flatMap (fun y => (List.range (b.outW / b.fold)).map (fun x =>
    (y * b.stride2 + x * b.stride1, packCodes b.fmt.bits ((List.range b.dim0).map (s.stagedCode r t b cs x y)))))

/-- A picture as the engine reads it: what cannot be read reads 0 (R301). -/
def State.readable (s : State) (p : Nat) (r : SampleRec) : Bool × State :=
  match s.reach (s.stAttr p) false r.addr (pictureBytes r.fmt r.w r.h) with
  | (.ok, s) => (true, s)
  | (_, s) => (false, s)

/-- Position `i` of a batch is written: a present slot's data, or zero bytes. -/
def State.writePosition (s : State) (p a : Nat) (b : StBucket) (t : StTaken) : State :=
  let s := s.clearMem a (a + b.stride3)
  match t.record with
  | some r =>
    if t.present then
      let (ok, s) := s.readable p r
      let seen : State := if ok then s else { s with mem := [] }
      (seen.slotRows r t.slot b).foldl (fun s x => s.wr (a + x.1) x.2) s
    else s
  | none => s

/-! ## Batches (R291, R292) -/

/-- A header's 16 bytes for a position. What an absent position carries beyond its source is not stated (free values). -/
def State.positionBytes (s : State) (t : StTaken) : List Nat × State :=
  match t.record, t.present with
  | some r, true =>
    (leBytes 4 (t.slot.source + 65536 * r.status) ++ leBytes 4 r.seq ++ leBytes 8 r.capture, s)
  | some r, false =>
    let (c, s) := s.freeNat
    (leBytes 4 (t.slot.source + 65536 * r.status) ++ leBytes 4 r.seq ++ leBytes 8 c, s)
  | none, _ =>
    let (st, s) := s.freeNat
    let (q, s) := s.freeNat
    let (c, s) := s.freeNat
    (leBytes 4 (t.slot.source + 65536 * (st % 65536)) ++ leBytes 4 q ++ leBytes 8 c, s)

def State.positionsBytes (s : State) : List StTaken → List Nat × State
  | [] => ([], s)
  | t :: ts =>
    let (b, s) := s.positionBytes t
    let (bs, s) := s.positionsBytes ts
    (b ++ bs, s)

/-- Bit i of a mask for each position. -/
def maskOf (l : List Bool) : Nat := ((List.range l.length).map (fun i => if l.getD i false then 2 ^ i else 0)).foldl (· + ·) 0

/-- The smallest CAPTURE_NS of the present positions, 0 when none is present. -/
def oldestOf (ts : List StTaken) : Nat :=
  match ts.filterMap (fun t => if t.present then t.record.map SampleRec.capture else none) with
  | [] => 0
  | c :: cs => cs.foldl min c

/-- The 512 bytes of a batch header (R291). -/
def State.batchHeader (s : State) (k : Nat) (j : StJob) (ts : List StTaken) : List Nat × State :=
  let (pos, s) := s.positionsBytes ts
  let head := leBytes 4 j.frame ++ leBytes 4 (k + 16 * ts.length) ++
    leBytes 2 (maskOf (ts.map StTaken.present)) ++ leBytes 2 (maskOf (ts.map (fun t => t.present && t.subst))) ++ [0, 0, 0, 0] ++
    leBytes 8 (oldestOf ts) ++ leBytes 8 j.start
  (head ++ List.replicate 32 0 ++ pos ++ List.replicate (448 - 16 * ts.length) 0, s)

/-- The number of batches in a bucket's queue. -/
def State.pbDepth (s : State) (p k depth : Nat) : Nat :=
  (s.get (Reg.MED_PBQ_WPTR_WPTR p k) + depth - s.get (Reg.MED_PBQ_RPTR_RPTR p k)) % depth

/-- The low-water comparison after a change of a bucket's depth (R292). An RPTR write and a job end of one clock are compared once,
after both (R293): the second comparison of an instant replaces the first. -/
def State.lowWater (s : State) (p k before : Nat) (b : StBucket) : State :=
  let c := s.stx p
  let low := s.get (Reg.MED_ST_STATUS_LOW p)
  let (before, low0, raised) : Nat × Nat × Bool := match KMap.find c.depths k with
    | some (t, d, l, r) => if t = s.datum then (d, l, r) else (before, low, false)
    | none => (before, low, false)
  let alarm := decide (b.low ≤ before) && decide (s.pbDepth p k b.depth < b.low)
  let s := s.setStx p { c with depths := KMap.put c.depths k (s.datum, before, low0, alarm) }
  match raised, alarm with
  | false, true => (s.set (Reg.MED_ST_STATUS_LOW p) (low ||| 2 ^ k)).fbInc 0x6090 0xA
  | true, false =>
    let s := if bitOf low0 k then s else s.set (Reg.MED_ST_STATUS_LOW p) (clrMask low k)
    s.fbSet 0x6090 0xA (s.fbGet 0x6090 0xA - 1)
  | _, _ => s

/-- The data of a bucket's batch are written from an address, position by position. -/
def State.writePositions (s : State) (p : Nat) (b : StBucket) : Nat → List StTaken → State
  | _, [] => s
  | a, t :: ts => (s.writePosition p a b t).writePositions p b (a + b.stride3) ts

/-- A bucket's batch is written and published, or discarded on a full queue. -/
def State.publishBatch (s : State) (p : Nat) (j : StJob) (k : Nat) (b : StBucket) : State :=
  let wp := s.get (Reg.MED_PBQ_WPTR_WPTR p k)
  let before := s.pbDepth p k b.depth
  if (wp + 1) % b.depth = s.get (Reg.MED_PBQ_RPTR_RPTR p k) then (s.fbInc 0x6090 9).lowWater p k before b
  else
    let ts := j.taken.filter (fun t => t.slot.bucket = k)
    let a := b.base + wp * b.entry
    let s := match s.reach (s.stAttr p) true a (ts.length * b.stride3) with
      | (.ok, s) => s.writePositions p b a ts
      | (_, s) => s
    let (hdr, s) := s.batchHeader k j ts
    let h := b.hdr + wp * 0x200
    let s := match s.reach (s.stAttr p) true h 512 with
      | (.ok, s) => s.wr h hdr
      | (_, s) => s
    (s.set (Reg.MED_PBQ_WPTR_WPTR p k) ((wp + 1) % b.depth)).lowWater p k before b

/-- STAGING_JOB_END (R292). -/
def execStagingJobEnd (context : Fin 32) (s : State) : Out :=
  let p := context.val
  match (s.stx p).job with
  | none => done s
  | some j =>
    if j.start + j.bound < s.datum then done s
    else
      let s := (s.stx p).buckets.foldl (fun s b => s.publishBatch p j b.1 b.2) s
      let staged := j.taken.foldl (fun m t => match t.record with
        | some r => if t.present then KMap.put m t.slot.source r.seq else m
        | none => m) (s.stx p).staged
      done (s.setStx p { s.stx p with job := none, staged := staged }).admitStaging

/-- A staging job is killed: nothing of it is visible (R287). -/
def State.killStaging (s : State) (p : Nat) : State :=
  match (s.stx p).job with
  | none => s
  | some _ => (s.fbInc 0x6090 0xE).setStx p { s.stx p with job := none }

/-- STAGING_OVERRUN (R287): the running time passes BOUND_US. -/
def execStagingOverrun (context : Fin 32) (s : State) : Out :=
  match (s.stx context.val).job with
  | none => done s
  | some j => done (((s.advanceTo (j.start + j.bound + 1)).killStaging context.val).admitStaging)

/-- The STAGING window of pipeline `p` ends: a frame whose job was deferred to that end has no batch (R287). -/
def State.missStaging (s : State) (p : Nat) : State :=
  let c := s.stx p
  if s.bit (Reg.MED_ST_CTRL_EN p) && c.live && !c.produced && !c.missed then (s.fbInc 0x6090 0xD).setStx p { c with missed := true }
  else s

/-- A STAGING window closes (R68, R287). -/
def State.closeStaging (s : State) (w : Nat) : State :=
  let s := (List.range 32).foldl (fun s p => match (s.stx p).job with
    | some j => if j.window = w then s.killStaging p else s
    | none => s) s
  match s.openWindows.find? (fun x => x.index = w) with
  | some x => if x.entry.resource = 5 ∧ !x.entry.benchmark then (s.closeIsp w).missStaging x.entry.pipe else s
  | none => s

/-- A write of a page by another partition or world than its owner is refused with E_ACCESS and logged at the block's
checker with REGION 0x21 (R159). -/
def State.ownPage (s : State) (who : Agent) (owner : Attr) (k a : Nat) (status : Field) (f : State → State) : State :=
  if s.attrOf who = owner then f s
  else (s.cadLog k a (s.attrOf who) true 0x21).set status Code.eAccess

/-- A write of MED_PBQ_RPTRk (R292, R159). -/
def State.writePbRptr (s : State) (who : Agent) (p k v : Nat) : State :=
  let st := Reg.MED_ST_STATUS_LAST p
  s.ownPage who (s.stAttr p) 59 (Reg.MED_PBQ_RPTR_addr p k) st (fun s =>
    match KMap.find (s.stx p).buckets k with
    | none => s.set st (if s.bit (Reg.MED_ST_CTRL_EN p) then Code.eBounds else Code.eState)
    | some b =>
      let old := s.get (Reg.MED_PBQ_RPTR_RPTR p k)
      let before := s.pbDepth p k b.depth
      if b.depth ≤ v ∨ before < (v + b.depth - old) % b.depth then s.set st Code.eBounds
      else ((s.set (Reg.MED_PBQ_RPTR_RPTR p k) v).set st Code.ok).lowWater p k before b)

/-- BATCH_RELEASE (R292). -/
def execBatchRelease (who : Agent) (context : Fin 32) (bucket : Fin 8) (value : BitVec 4) (s : State) : Out :=
  done (s.gateWrite who (Reg.MED_PBQ_RPTR_addr context.val bucket.val)
    (fun s => s.writePbRptr who context.val bucket.val value.toNat))

/-- The header of a Benchmark batch: BENCH = 1, the frame count, the bucket's positions and the staging time. The stored input's
format is not given, so what the positions hold is free. -/
def State.benchHeader (s : State) (p k : Nat) : List Nat × State :=
  let n := ((s.stx p).slots.filter (fun t => t.bucket = k)).length
  let (present, s) := s.freeNat
  let (subst, s) := s.freeNat
  let (oldest, s) := s.freeNat
  let (pos, s) := s.freeNats (16 * n)
  (leBytes 4 (s.frameOf p) ++ leBytes 4 (k + 8 + 16 * n) ++ leBytes 2 (present % 2 ^ n) ++ leBytes 2 (subst % 2 ^ n) ++ [0, 0, 0, 0] ++
    leBytes 8 oldest ++ leBytes 8 s.datum ++ List.replicate 32 0 ++ pos.map (fun b => b % 256) ++ List.replicate (448 - 16 * n) 0, s)

/-- The Benchmark batch of a pipeline is written to MED_ST_BENCH (R292): for each bucket the entry data, then the header (the order
in the area is DEDUCED: log entry 33). -/
def State.benchBuckets (s : State) (p : Nat) : Nat → List (Nat × StBucket) → State
  | _, [] => s
  | a, (k, b) :: bs =>
    match s.reach (s.stAttr p) true a (b.entry + 0x200) with
    | (.ok, s) =>
      let (fr, s) := s.freeNats b.entry
      let (hdr, s) := s.benchHeader p k
      (s.wr a (fr.map (fun x => x % 256) ++ hdr)).benchBuckets p (a + b.entry + 0x200) bs
    | (_, s) => s

def State.benchBatch (s : State) (p : Nat) : State :=
  if s.bit (Reg.MED_ST_CTRL_EN p) then s.benchBuckets p (s.get (Reg.MED_ST_BENCH_BASE p)) (s.stx p).buckets else s

/-- The media work in progress ends (R389, R403): samples are abandoned with a code, staging jobs killed. -/
def State.failMedia (s : State) (code : Nat) : State :=
  let s := (List.range 64).foldl (fun s x => match (s.mx x).admitted with
    | some _ => s.mxFail x code
    | none => s) s
  (List.range 32).foldl (fun s i => (s.ispFail i code).killStaging i) s

end Sys2Proof.Machine
end

