-- ==== Sys2Proof/Machine/Gateway.lean ====
section
/-! DEFINITION. The gateway (R333–R345): controllers, reception and classification, the flow timers, transmission, gate
lists, and the requests that change flows, maps, destinations and endpoints. -/

namespace Sys2Proof.Machine
open Sys2Proof

/-! ## CAN controllers (R333, R345) -/

def State.canTec (s : State) (n : Nat) : Nat := KMap.getD s.gwy.tec n 0
def State.setTec (s : State) (n v : Nat) : State := { s with gwy := { s.gwy with tec := KMap.set 0 s.gwy.tec n v } }

/-- Fault confinement of ISO 11898-1: the controller's STATE follows its error counters. -/
def State.canConfine (s : State) (n : Nat) : State :=
  if s.get (Reg.GWY_CAN_STATUS_STATE n) = 2 then s
  else if 255 < s.canTec n then s.set (Reg.GWY_CAN_STATUS_STATE n) 2
  else if 127 < s.canTec n ∨ 127 < s.get (Reg.GWY_CAN_STATUS_REC n) then s.set (Reg.GWY_CAN_STATUS_STATE n) 1
  else s.set (Reg.GWY_CAN_STATUS_STATE n) 0

/-- The controller takes part in traffic: on the bus and not bus-off. -/
def State.canOn (s : State) (n : Nat) : Bool := s.bit (Reg.GWY_CAN_CTRL_EN n) && decide (s.get (Reg.GWY_CAN_STATUS_STATE n) < 2)

/-- A state change or an error of a controller raises its level source (R354); it falls with LEVEL_LINE_CHANGE (the spec names no
register that clears it: log entry 34). -/
def State.canEvent (s : State) (n : Nat) : State := s.followLine (656 + n) true

/-- A receive error adds 1, or 8 where the controller signals first; an error-passive controller stays above 127. -/
def State.canRxError (s : State) (n k : Nat) : State :=
  (((s.set (Reg.GWY_CAN_STATUS_REC n) (min 255 (s.get (Reg.GWY_CAN_STATUS_REC n) + k))).fbInc 0x60C0 7).canConfine n).canEvent n

/-- A frame received well: REC falls by 1, from above 127 to 127. -/
def State.canRxOk (s : State) (n : Nat) : State :=
  let r := s.get (Reg.GWY_CAN_STATUS_REC n)
  let t := (s.set (Reg.GWY_CAN_STATUS_REC n) (if 127 < r then 127 else r - 1)).canConfine n
  if t.get (Reg.GWY_CAN_STATUS_STATE n) = s.get (Reg.GWY_CAN_STATUS_STATE n) then t else t.canEvent n

/-- The rate fields of a write of GWY_CAN_CTRLn, and the check of the whole write (R333). -/
def canRates (n value : Nat) : List (Field × Nat) :=
  [(Reg.GWY_CAN_CTRL_NOM_KBPS n, bitsOf value 25 16), (Reg.GWY_CAN_CTRL_DATA_KBPS n, bitsOf value 15 0)]

def State.canCheck (s : State) (n : Nat) : Nat :=
  let nom := s.get (Reg.GWY_CAN_CTRL_NOM_KBPS n)
  firstCode
    [(decide (nom < 125) || decide (1000 < nom) ||
        decide ((if s.bit (Reg.GWY_CAN_CTRL_XL n) then 20000 else 8000) < s.get (Reg.GWY_CAN_CTRL_DATA_KBPS n)), Code.eIllegal)]

def canReg (n value : Nat) : EnReg :=
  { en := Reg.GWY_CAN_CTRL_EN n, status := Reg.GWY_CAN_STATUS_LAST n
    locked := canRates n value
    free := [(Reg.GWY_CAN_CTRL_FD n, bitsOf value 30 30), (Reg.GWY_CAN_CTRL_XL n, bitsOf value 29 29),
      (Reg.GWY_CAN_CTRL_AUTO_BO n, bitsOf value 28 28)]
    check := fun s => s.canCheck n
    mayClear := fun _ => Code.ok
    onEnable := fun s => (((s.set (Reg.GWY_CAN_STATUS_STATE n) 0).set (Reg.GWY_CAN_STATUS_REC n) 0).setTec n 0).canEvent n
    onDisable := fun s => (s.set (Reg.GWY_CAN_STATUS_STATE n) 3).canEvent n }

/-- A write of GWY_CAN_CTRLn: XL is refused with E_UNAVAILABLE on controllers 8–15. -/
def State.canCtrl (s : State) (n value : Nat) : State :=
  if 8 ≤ n ∧ bitOf value 29 = true then s.set (Reg.GWY_CAN_STATUS_LAST n) Code.eUnavailable
  else s.enWrite (canReg n value) (bitOf value 31)

/-- CAN_BUS_OFF_RECOVERY (R345). -/
def execCanBusOffRecovery (can : Fin 16) (s : State) : Out :=
  let n := can.val
  if s.bit (Reg.GWY_CAN_CTRL_EN n) ∧ s.get (Reg.GWY_CAN_STATUS_STATE n) = 2 ∧ s.bit (Reg.GWY_CAN_CTRL_AUTO_BO n) then
    done ((((s.set (Reg.GWY_CAN_STATUS_STATE n) 0).set (Reg.GWY_CAN_STATUS_REC n) 0).setTec n 0).canEvent n)
  else done s

/-! ## Reception (R334, R341) -/

/-- The valid flow of an ingress tuple. -/
def State.flowFor (s : State) (iface fmt key0 key1 : Nat) : Option Flow :=
  ((s.gwy.flows.map (fun p => (⟨p.1, p.2⟩ : Flow))).find? (fun f =>
    f.valid && f.kind != 2 && f.inIf = iface && f.inFmt = fmt && f.key0 = key0 && f.key1 = key1))

/-- A frame of a link without its own containers: to its flow, or dropped and counted. -/
def State.classify (s : State) (iface fmt key0 key1 : Nat) (data : List Nat) : State :=
  match s.flowFor iface fmt key0 key1 with
  | some f => s.flowInput f data s.datum iface key0 key1
  | none => s.fbInc 0x60C0 1

/-- A CAN frame is an FBA request (R364): its keys name the request identifier; in an XL frame the priority identifier and the SDT. -/
def State.fbaCanMatch (s : State) (fmt key0 : Nat) : Bool :=
  if fmt = 2 then key0 % 2 ^ 11 = s.fbGet 0x1100 2 % 2 ^ 11 && key0 / 2 ^ 24 % 256 = s.fbGet 0x1100 6
  else key0 % 2 ^ 30 = s.fbGet 0x1100 2

/-- FBA takes a frame before classification (R341, R364). -/
def State.fbaCan (s : State) (n fmt key0 : Nat) : Bool := bitOf (s.fbGet 0x1100 1) n && s.fbaCanMatch fmt key0

/-- CAN_FRAME_RX (R334, R345): a frame of a format that the controller is not set to allow is an error on its bus. -/
def execCanFrameRx (can : Fin 16) (fmt : Fin 3) (key0 key1 : BitVec 32) (event : CanError) (data : List Byte) (s : State) : Out :=
  let n := can.val
  if !s.canOn n then done s
  else
    match event with
    | .error => done (s.canRxError n 1)
    | .first => done (s.canRxError n 8)
    | .none =>
      if (fmt.val = 1 ∧ !s.bit (Reg.GWY_CAN_CTRL_FD n)) ∨ (fmt.val = 2 ∧ !s.bit (Reg.GWY_CAN_CTRL_XL n)) then done (s.canRxError n 1)
      else if s.fbaCan n fmt.val key0.toNat then done (s.canRxOk n)
      else done ((s.canRxOk n).classify n fmt.val key0.toNat key1.toNat (data.map BitVec.toNat))

/-- The LIN response of a controller is not awaited any more. -/
def State.linClear (s : State) (n : Nat) : State := { s with gwy := { s.gwy with lin := KMap.del s.gwy.lin n } }

/-- LIN_FRAME_RX (R334, R345). -/
def execLinFrameRx (lin : Fin 8) (id : BitVec 6) (checksumOk : Bool) (data : List Byte) (s : State) : Out :=
  let s := s.linClear lin.val
  if checksumOk then done (s.classify (16 + lin.val) 0 id.toNat 0 (data.map BitVec.toNat)) else done ((s.fbInc 0x60C0 9).followLine (672 + lin.val) true)

/-- LIN_RESPONSE_TIMEOUT (R345). -/
def execLinResponseTimeout (lin : Fin 8) (s : State) : Out :=
  match KMap.find s.gwy.lin lin.val with
  | some _ => done (((s.linClear lin.val).fbInc 0x60C0 9).followLine (672 + lin.val) true)
  | none => done s

/-- LIN_SCHEDULE_SLOT (R333): the next table entry's header is sent. The tables are the gateway controller's own; the
command names the identifier of the entry. If the device publishes it, a waiting frame answers; else a response is
awaited. The schedule pauses while the gateway controller is down
(R389). -/
def execLinScheduleSlot (lin : Fin 8) (id : BitVec 6) (s : State) : Out :=
  let n := lin.val
  if s.get (Reg.SYS_FWD_STATUS_STATE 21) ≠ 0 then done s
  else
  let s := s.emit (.linHeader n id.toNat)
  let q := s.egressOf (16 + n)
  match q.find? (fun f => f.key0 % 64 = id.toNat) with
  | some f => done ((s.setEgress (16 + n) (q.erase f)).emit (.linFrame n id.toNat f.bytes))
  | none => done { s with gwy := { s.gwy with lin := KMap.put s.gwy.lin n id.toNat } }

/-! ### IEEE 802.1CB (R335) -/

def State.recovOf (s : State) (f : Nat) : Recov := KMap.getD s.gwy.recov f {}
def State.setRecov (s : State) (f : Nat) (r : Recov) : State := { s with gwy := { s.gwy with recov := KMap.put s.gwy.recov f r } }

/-- The vector recovery algorithm with a history of 32: whether a sequence number is accepted (none: a number outside the
window, which is dropped), and the new state. -/
def Recov.take (r : Recov) (q now : Nat) : Option Bool × Recov :=
  if r.takeAny then (some true, ⟨false, q, true :: List.replicate 31 false, now⟩)
  else
    let d := signed 16 ((q + 65536 - r.seq) % 65536)
    if 32 ≤ d ∨ d ≤ -32 then (none, r)
    else if 0 < d then (some true, ⟨false, q, (true :: (List.replicate (d.toNat - 1) false ++ r.hist)).take 32, now⟩)
    else
      let i := (-d).toNat
      if r.hist.getD i false then (some false, r) else (some true, { r with hist := r.hist.set i true, last := now })

/-- CB_RESET_TIME_EXPIRY (R335). -/
def execCbResetTimeExpiry (flow : Fin 65536) (s : State) : Out :=
  let r := s.recovOf flow.val
  if r.takeAny then done s
  else done ((s.advanceTo (r.last + s.fbGet 0x5000 4 * 1000000)).setRecov flow.val {})

/-! ### Ethernet -/

/-- What a frame's headers say: VLAN key, R-TAG sequence number, UDP destination port (with the UDP payload). -/
structure EthView where
  vlan : Nat
  seq : Option Nat
  ethType : Nat
  rest : List Nat
  deriving DecidableEq, Repr

/-- Big-endian value of `n` bytes at an offset. -/
def beAt (bs : List Nat) (o n : Nat) : Nat := leValue ((bs.drop o).take n).reverse

/-- The R-TAG, if one stands, is taken off. -/
def afterVlan (vlan : Nat) (t : Nat) (bs : List Nat) : EthView :=
  if t = 0xF1C1 then ⟨vlan, some (beAt bs 2 2), beAt bs 4 2, bs.drop 6⟩ else ⟨vlan, none, t, bs⟩

/-- A frame from its destination address on. -/
def ethView (fr : List Nat) : EthView :=
  let t := beAt fr 12 2
  if t = 0x8100 then afterVlan (beAt fr 14 2 % 4096) (beAt fr 16 2) (fr.drop 18) else afterVlan 0xFFF t (fr.drop 14)

/-- The UDP payload and destination port of an IPv6 packet; none where a header is malformed or there is no UDP. -/
def udpOf (ip : List Nat) : Option (Nat × List Nat) :=
  let len := beAt ip 4 2
  let u := ip.drop 40
  let ul := beAt u 4 2
  if ip.length < 48 ∨ natAt ip 0 / 16 ≠ 6 ∨ natAt ip 6 ≠ 17 ∨ ip.length < 40 + len ∨ ul < 8 ∨ len < ul then none
  else some (beAt u 2 2, (u.drop 8).take (ul - 8))

/-- The PDUs of a datagram in order (identifier and bytes), and whether a container length exceeds the datagram. -/
def pdusOf : Nat → List Nat → List (Nat × List Nat) × Bool
  | 0, _ => ([], false)
  | n + 1, bs =>
    if bs.isEmpty then ([], false)
    else
      let len := beAt bs 4 4
      if bs.length < 8 ∨ bs.length < 8 + len then ([], true)
      else
        let (ps, bad) := pdusOf n (bs.drop (8 + len))
        ((beAt bs 0 4, (bs.drop 8).take len) :: ps, bad)

/-- The flow of a PDU: on MAC 0 and 1, a frame with an R-TAG belongs to a flow with CB = 1 of either. -/
def State.pduFlow (s : State) (mac : Nat) (v : EthView) (id : Nat) : Option Flow :=
  match s.flowFor (0x20 + mac) 0 v.vlan id with
  | some f => some f
  | none =>
    if mac < 2 ∧ v.seq.isSome then
      match s.flowFor (0x21 - mac) 0 v.vlan id with
      | some f => if f.cb then some f else none
      | none => none
    else none

/-- The stamp of a frame at reception (R334, R48): Datum with the MAC's ingress correction. -/
def State.rxNs (s : State) (mac : Nat) : Nat := ((s.datum : Int) + s.ingress mac).toNat

/-- A PDU reaches its flow; with CB = 1 a duplicate is eliminated. -/
def State.pduInput (s : State) (mac : Nat) (v : EthView) (p : Nat × List Nat) : State :=
  match s.pduFlow mac v p.1 with
  | none => s
  | some f =>
    match f.cb, v.seq with
    | true, some q =>
      let (verdict, r) := (s.recovOf f.num).take q s.datum
      let s := s.setRecov f.num r
      match verdict with
      | some true => s.flowInput f p.2 (s.rxNs mac) (0x20 + mac) v.vlan p.1
      | some false => s.fbInc 0x60C0 0xC
      | none => s
    | _, _ => s.flowInput f p.2 (s.rxNs mac) (0x20 + mac) v.vlan p.1

/-- A frame that matches no flow goes to the MAC's default endpoint, or is dropped. Its keys are not stated (free). -/
def State.defaultFrame (s : State) (mac : Nat) (fr : List Nat) : State :=
  let e := s.fbGet 0x5000 (0x10 + mac)
  if e < 256 ∧ (s.ep e).isSome then
    let (k0, s) := s.freeNat
    let (k1, s) := s.freeNat
    s.deliver e ⟨0xFFFF, 0x20 + mac, false, s.rxNs mac, k0 % 2 ^ 32, k1 % 2 ^ 32, fr⟩
  else s.fbInc 0x60C0 1

/-- A good frame is classified (R341). PAUSE and priority flow control frames are discarded; FBA datagrams belong to
FBA_REQUEST_RECEIVED. -/
def State.ethInput (s : State) (mac : Nat) (fr : List Nat) : State :=
  let v := ethView fr
  if v.ethType = 0x8808 then s
  else if v.ethType ≠ 0x86DD then s.defaultFrame mac fr
  else
    match udpOf v.rest with
    | none => if natAt v.rest 6 = 17 ∨ natAt v.rest 0 / 16 ≠ 6 then s.fbInc 0x60C0 0xB else s.defaultFrame mac fr
    | some (port, data) =>
      if port = s.fbGet 0x1100 4 ∧ bitOf (s.fbGet 0x1100 5) mac then s
      else if port ≠ s.fbGet 0x5000 3 then s.defaultFrame mac fr
      else
        let (ps, bad) := pdusOf data.length data
        let s := if bad then s.fbInc 0x60C0 0xB else s
        if ps.any (fun p => (s.pduFlow mac v p.1).isSome) then ps.foldl (fun s p => s.pduInput mac v p) s
        else if bad then s
        else s.defaultFrame mac fr

/-- ETHERNET_FRAME_RX (R341, R345): the frame without its FCS. -/
def execEthernetFrameRx (mac : Fin 6) (fcsOk : Bool) (frame : List Byte) (s : State) : Out :=
  if !fcsOk ∨ frame.length < 60 ∨ 9212 < frame.length then done ((s.fbInc 0x60C0 0xA).followLine (680 + mac.val) true)
  else done (s.ethInput mac.val (frame.map BitVec.toNat))

/-- ETHERNET_LINK_CHANGE (R354): the MAC's source rises. -/
def execEthernetLinkChange (mac : Fin 6) (up : Bool) (s : State) : Out :=
  let m := if bitOf s.gwy.ethUp mac.val then s.gwy.ethUp - 2 ^ mac.val else s.gwy.ethUp
  done ({ s with gwy := { s.gwy with ethUp := if up then m + 2 ^ mac.val else m } }.followLine (680 + mac.val) true)

/-! ## Flow timers (R343) -/

/-- FLOW_PERIOD_TIMER (R343). -/
def execFlowPeriodTimer (flow : Fin 65536) (s : State) : Out :=
  let f := s.flow flow.val
  let v := s.flowVal flow.val
  match v.lastOut with
  | some l => if f.valid ∧ v.fresh then done ((s.advanceTo (l + f.period)).timerEmit f) else done s
  | none => done s

/-- The notice of an input timeout: the stamp of a notice is not stated (a free value). -/
def State.timeoutNotice (s : State) (f : Flow) (v : FlowVal) : State :=
  let (t, s) := s.freeNat
  s.deliver f.endpoint ⟨f.num, v.iface, true, t, v.key0, v.key1, []⟩

/-- FLOW_TIMEOUT (R343). -/
def execFlowTimeout (flow : Fin 65536) (s : State) : Out :=
  let f := s.flow flow.val
  let v := s.flowVal flow.val
  match v.lastIn with
  | some l =>
    if f.valid ∧ f.timeout ≠ 0 ∧ !v.timedOut then
      let s := ((s.advanceTo (l + f.timeout)).fbInc 0x60C0 5).setFlowVal f.num { v with timedOut := true }
      done (if f.kind = 1 then s.timeoutNotice f v else s)
    else done s
  | none => done s

/-! ## Gate lists (R336) -/

def State.gclOf (s : State) (m : Nat) : Option Gate := KMap.find s.gwy.gates m
def State.setGcl (s : State) (m : Nat) (g : Gate) : State := { s with gwy := { s.gwy with gates := KMap.put s.gwy.gates m g } }

def entryNs (e : Nat) : Nat := e % 2 ^ 24
def Gate.cycle (g : Gate) : Nat := ((g.entries.take g.len).map entryNs).foldl (· + ·) 0

/-- The shadow list of a MAC. -/
def State.shadowGate (s : State) (m : Nat) : Gate :=
  { len := s.get (Reg.GWY_GCL_CTRL_LEN m), base := s.get (Reg.GWY_GCL_BASE_BASE_NS m),
    entries := (List.range 256).map (fun e => s.get (Reg.GWY_GCL_ENTRY_ENTRY m e)) }

/-- The first cycle start of a list after an instant. -/
def Gate.nextStart (g : Gate) (t : Nat) : Nat :=
  if t < g.base ∨ g.cycle = 0 then g.base else g.base + ((t - g.base) / g.cycle + 1) * g.cycle

def State.gclStatus (s : State) (m c : Nat) : State := s.set (Reg.GWY_GCL_STATUS_LAST m) c

/-- A shadow field is written; E_BUSY while a swap is pending. -/
def State.gclShadow (s : State) (m : Nat) (f : Field) (v : Nat) : State :=
  if s.bit (Reg.GWY_GCL_CTRL_PENDING m) then s.gclStatus m Code.eBusy else (s.set f v).gclStatus m Code.ok

/-- A write of GWY_GCL_ENTRYe: the interval lies in 64–0xFF_FFFE. -/
def State.gclEntry (s : State) (m e v : Nat) : State :=
  if entryNs v = 0 ∨ entryNs v = 0xFFFFFF then s.gclStatus m Code.eLength
  else if entryNs v < 64 then s.gclStatus m Code.eIllegal
  else s.gclShadow m (Reg.GWY_GCL_ENTRY_ENTRY m e) v

/-- The check of SWAP (R336) in the order of R25. An entry in use that nothing has written has an interval of 0, which no entry may have
(R23). -/
def gclChk (g : Gate) (pending : Bool) : Nat :=
  firstCode
    [(decide (256 < g.len) && g.len != 511, Code.eIllegal),
     (g.len = 0 || g.len = 511 || (g.entries.take g.len).any (fun e => entryNs e = 0), Code.eLength),
     (decide (1000000000 < g.cycle), Code.eBounds), (pending, Code.eBusy)]

/-- SWAP checks the shadow list and sets the swap pending. -/
def State.gclSwap (s : State) (m : Nat) : State :=
  let c := gclChk (s.shadowGate m) (s.bit (Reg.GWY_GCL_CTRL_PENDING m))
  let t := s.gclStatus m c
  if c = Code.ok then
    { (t.set (Reg.GWY_GCL_CTRL_PENDING m) 1).set (Reg.GWY_GCL_CTRL_SWAP m) 1 with
      gwy := { t.gwy with swaps := KMap.put t.gwy.swaps m t.datum } }
  else t

/-- A write of GWY_GCL_CTRL: EN, the shadow LEN, then SWAP. -/
def State.gclCtrl (s : State) (m value : Nat) : State :=
  let s := s.set (Reg.GWY_GCL_CTRL_EN m) (bitsOf value 31 31)
  let s := if s.get (Reg.GWY_GCL_CTRL_LEN m) = bitsOf value 24 16 then s.gclStatus m Code.ok
    else s.gclShadow m (Reg.GWY_GCL_CTRL_LEN m) (bitsOf value 24 16)
  if bitOf value 0 then s.gclSwap m else s

/-- GATE_LIST_SWAP (R336): a write of GWY_GCL_CTRL with SWAP set. -/
def execGateListSwap (who : Agent) (mac : Fin 6) (value : BitVec 32) (s : State) : Out :=
  done (s.gateWrite who (Reg.GWY_GCL_CTRL_addr mac.val) (fun s => s.gclCtrl mac.val (value.toNat / 2 * 2 + 1)))

/-- The entry in force at an instant, and when its interval ends: cycles start at BASE_NS and every cycle after it (R336). -/
def entryAt : List Nat → Nat → Nat → Nat × Nat
  | [], _, e => (0xFF000000, e)
  | x :: xs, t, e => if t < e + entryNs x then (x, e + entryNs x) else entryAt xs t (e + entryNs x)

def Gate.now (g : Gate) (t : Nat) : Nat × Nat :=
  if g.cycle = 0 ∨ t < g.base then (0xFF000000, g.base)
  else entryAt (g.entries.take g.len) t (g.base + (t - g.base) / g.cycle * g.cycle)

/-- The gates that are open: all of them while EN = 0 or no list is in force. -/
def State.gatesOpen (s : State) (m : Nat) : Nat :=
  if s.bit (Reg.GWY_GCL_CTRL_EN m) then
    match s.gclOf m with
    | some g => (g.now s.datum).1 / 2 ^ 24
    | none => 0xFF
  else 0xFF

/-- GATE_CYCLE_START (R336): a pending swap takes effect at the first cycle start of the new list after its check, and a frame on the
wire completes (R352); else the next cycle of the list in force starts. -/
def execGateCycleStart (mac : Fin 6) (s : State) : Out :=
  let m := mac.val
  if s.bit (Reg.GWY_GCL_CTRL_PENDING m) then
    let g := s.shadowGate m
    let wire := s.gatesOpen m
    let s := (s.advanceTo (g.nextStart (KMap.getD s.gwy.swaps m s.datum))).setGcl m { g with wire := wire }
    done (((s.set (Reg.GWY_GCL_CTRL_PENDING m) 0).set (Reg.GWY_GCL_CTRL_SWAP m) 0).set (Reg.GWY_GCL_CTRL_BANK m)
      (1 - s.get (Reg.GWY_GCL_CTRL_BANK m)))
  else
    match s.gclOf m with
    | some g => done (s.advanceTo (g.nextStart s.datum))
    | none => done s

/-- GATE_ENTRY_CHANGE (R336): the interval in force ends and the next entry of the cycle applies. -/
def execGateEntryChange (mac : Fin 6) (s : State) : Out :=
  let m := mac.val
  match s.gclOf m with
  | some g => done (s.advanceTo (g.now s.datum).2)
  | none => done s

/-! ## Transmission (R343, R345) -/

/-- The arbitration value of a waiting CAN frame: the lower wins; a standard identifier wins over an extended one that
begins with it. -/
def canPriority (f : EgFrame) : Nat :=
  if f.fmt != 2 && bitOf f.key0 29 then f.key0 % 2 ^ 29 * 2 + 1 else f.key0 % 2 ^ 11 * 2 ^ 19

/-- The frame that wins among those waiting in a CAN controller. -/
def canWinner (q : List EgFrame) : Option EgFrame :=
  q.find? (fun f => q.all (fun g => decide (canPriority f ≤ canPriority g)))

/-- A CAN frame is on the bus: sent well, TEC falls by 1; with an error TEC rises by 8 and the frame is kept. -/
def State.canTransmit (s : State) (n : Nat) (failed : Bool) : State :=
  match canWinner (s.egressOf n) with
  | none => s
  | some f =>
    if !s.canOn n then s
    else if failed then (((s.setTec n (s.canTec n + 8)).fbInc 0x60C0 7).canConfine n).canEvent n
    else
      let t := (((s.setEgress n ((s.egressOf n).erase f)).emit (.canFrame n f.fmt f.key0 f.key1 f.bytes)).setTec n (s.canTec n - 1)).canConfine n
      if t.get (Reg.GWY_CAN_STATUS_STATE n) = s.get (Reg.GWY_CAN_STATUS_STATE n) then t else t.canEvent n

/-- The gates of a MAC through which a frame may finish: those open now, and for one frame those open as a new list came into force
(R336, R352). -/
def State.mayFinish (s : State) (m : Nat) : Nat :=
  s.gatesOpen m ||| (match s.gclOf m with | some g => if s.bit (Reg.GWY_GCL_CTRL_EN m) then g.wire else 0 | none => 0)

/-- A frame has left a MAC: no frame of an earlier list is on its wire any more. -/
def State.wireDone (s : State) (m : Nat) : State :=
  match s.gclOf m with
  | some g => s.setGcl m { g with wire := 0 }
  | none => s

/-- FRAME_TRANSMIT_DONE (R343, R336): on a CAN controller the frame that wins arbitration; on LIN, as a responder, the frame
with identifier `pick`; on a MAC the oldest frame of class `pick`, whose gate is open (shaping decides when, which is
timing). -/
def execFrameTransmitDone (iface pick : BitVec 8) (failed : Bool) (s : State) : Out :=
  let i := iface.toNat
  let q := s.egressOf i
  if isCan i then done (s.canTransmit i failed)
  else if isLin i then
    match q.find? (fun f => f.key0 % 64 = pick.toNat % 64) with
    | some f =>
      if failed then done (s.fbInc 0x60C0 9)
      else done ((s.setEgress i (q.erase f)).emit (.linFrame (i - 16) (f.key0 % 64) f.bytes))
    | none => done s
  else if isMac i then
    match q.find? (fun f => f.tc = pick.toNat % 8) with
    | some f =>
      if bitOf (s.mayFinish (i - 0x20)) f.tc ∧ !failed then
        done (((s.wireDone (i - 0x20)).setEgress i (q.erase f)).emit (.ethFrame (i - 0x20) f.bytes))
      else done s
    | none => done s
  else done s

/-! ## Endpoint records (R344) -/

/-- A transmit record's check: its flow is a SEND flow of the endpoint, and its length fits. -/
def txChk (e : Nat) (p : Endpoint) (f : Flow) (len : Nat) : Nat :=
  firstCode
    [(!f.valid || f.kind != 2 || f.inIf != 0x40 || f.endpoint != e, Code.eIllegal),
     (len = 0 || len = 0xFFFFFFFF, Code.eLength),
     (decide (2 ^ p.slotLog - 32 < len) || (!f.mapped && decide (egressMax f.outIf f.outFmt < len)), Code.eBounds)]

/-- ENDPOINT_TX_RECORD (R344). -/
def execEndpointTxRecord (endpoint : Fin 256) (s : State) : Out :=
  let e := endpoint.val
  match s.ep e with
  | none => done s
  | some p =>
    let i := s.get (Reg.GWY_EP_TX_RPTR_RPTR e)
    if i = s.get (Reg.GWY_EP_TX_WPTR_WPTR e) then done s
    else
      let a := p.tx + 2 ^ p.slotLog * i
      let s := s.set (Reg.GWY_EP_TX_RPTR_RPTR e) ((i + 1) % 2 ^ p.txLog)
      let skip := fun (s : State) (c : Nat) => (s.set (Reg.GWY_EP_STATUS_LAST e) c).fbInc 0x60C0 8
      match s.reach p.owner false a (2 ^ p.slotLog) with
      | (.ok, s) =>
        let f := s.flow (s.rdLe a 2)
        let len := s.rdLe (a + 4) 4
        let c := txChk e p f len
        done (if c = Code.ok then s.flowInput f (s.rd (a + 32) len) s.datum 0x40 0 0 else skip s c)
      | (r, s) => done (skip s r.code)

/-! ## Requests to the gateway controller (R338–R341) -/

/-- A field of a request's payload. -/
def payLe (pl : List Nat) (o n : Nat) : Nat := leValue ((pl.drop o).take n)

/-- The requester may change flows, maps and destinations. -/
def State.gwyMay (s : State) (at' : Attr) : Bool := at'.secure || at'.partition = s.fbGet 0x5000 1

def knownIf (i : Nat) (input : Bool) : Bool := isLink i || i = 0x40 || (input && i = 0x41)

/-- The E_ILLEGAL checks of FLOW_SET. -/
def flowIllegal (f : Flow) : Bool :=
  let side := fun (i fmt : Nat) => (if isCan i then fmt = 3 || (fmt = 2 && decide (8 ≤ i)) else fmt != 0)
  f.kind = 3 || !knownIf f.inIf true || !knownIf f.outIf false || side f.inIf f.inFmt || side f.outIf f.outFmt ||
  (f.kind = 0 && !(isLink f.inIf && isLink f.outIf)) || (f.kind = 1 && !(isLink f.inIf && f.outIf = 0x40)) ||
  (f.kind = 2 && !((f.inIf = 0x40 || f.inIf = 0x41) && isLink f.outIf)) ||
  (f.inIf = 0x41 && (f.producer = 0 || f.producer = 3)) || (f.kind = 2 && (f.key0 != 0 || f.key1 != 0)) ||
  (f.cb && !(f.inIf = 0x20 || f.inIf = 0x21 || f.outIf = 0x20 || f.outIf = 0x21)) ||
  (!f.mapped && (f.mapIndex != 0 || f.mapCount != 0)) ||
  f.f 0 17 8 != 0 || f.f 1 31 16 != 0 || f.f 6 31 24 != 0 || f.f 7 31 14 != 0 || f.f 8 31 20 != 0 || f.f 9 31 20 != 0 ||
  f.f 10 31 20 != 0 || (List.range 5).any (fun i => natAt f.ws (11 + i) != 0)

/-- The endpoint that a flow names, if it names one. -/
def Flow.ep (f : Flow) : Option Nat := if f.inIf = 0x40 ∨ f.outIf = 0x40 then some f.endpoint else none

/-- The checks of FLOW_SET in order (R338). -/
def State.flowChk (s : State) (at' : Attr) (f : Flow) : Nat :=
  let e := match f.ep with | some e => s.ep e | none => none
  firstCode
    [(flowIllegal f, Code.eIllegal),
     (f.mapped && (f.mapCount = 0 || f.mapCount = 0xFF || f.outLen = 0 || f.outLen = 0x3FFF), Code.eLength),
     (f.mapped && (decide (65536 < f.mapIndex + f.mapCount) || decide (egressMax f.outIf f.outFmt < f.outLen)), Code.eBounds),
     (!s.gwyMay at' || (match e with | some p => decide (f.num < p.lo) || decide (p.hi < f.num) | none => false), Code.eAccess),
     (f.ep.isSome && e.isNone, Code.eEpClosed),
     (f.valid && f.kind != 2 && (match s.flowFor f.inIf f.inFmt f.key0 f.key1 with | some g => g.num != f.num | none => false),
        Code.eKeyConflict)]

/-- FLOW_SET: the context is written to the flow table and taken; the flow's latest value is reset (R337). -/
def State.reqFlowSet (s : State) (at' : Attr) (pl : List Nat) : Nat × State :=
  let n := payLe pl 0 2
  let ctx := (pl.drop 8).take 64
  let f : Flow := ⟨n, (List.range 16).map (fun i => payLe ctx (4 * i) 4)⟩
  let c := s.flowChk at' f
  if c ≠ Code.ok then (c, s)
  else
    let a := s.fbGet 0x5000 2 + 64 * n
    match s.reach ⟨true, 0⟩ true a 64 with
    | (.ok, s) =>
      let s := s.wr a ctx
      (Code.ok, { s with gwy := { s.gwy with flows := KMap.put s.gwy.flows n f.ws, vals := KMap.del s.gwy.vals n } })
    | (r, s) => (r.code, s)

/-- The bits of a map entry, and whether its WIDTH is legal (R342). -/
def mapBad (e : Nat) : Bool := bitsOf e 38 32 = 0 || decide (64 < bitsOf e 38 32) || decide (2 ^ 41 ≤ e)

/-- MAP_SET. -/
def State.reqMapSet (s : State) (at' : Attr) (pl : List Nat) : Nat × State :=
  let first := payLe pl 0 2
  let n := payLe pl 4 1
  let es := (List.range n).map (fun i => payLe pl (8 + 8 * i) 8)
  let c := firstCode
    [(es.any mapBad || (decide (29 < n) && n != 0xFF), Code.eIllegal), (n = 0 || n = 0xFF || pl.length != 8 + 8 * n, Code.eLength),
     (decide (65536 < first + n), Code.eBounds), (!s.gwyMay at', Code.eAccess)]
  if c ≠ Code.ok then (c, s)
  else (c, { s with gwy := { s.gwy with
    maps := (List.range n).foldl (fun m i => KMap.put m (first + i) (natAt es i)) s.gwy.maps } })

/-- A destination entry that DEST_SET rejects (R340). -/
def destBad (d : List Nat) : Bool :=
  let w0 := payLe d 0 4
  let vid := bitsOf w0 27 16
  decide (5 < bitsOf w0 2 0) || natAt d 0x30 = 0 || payLe d 4 2 = 0 || payLe d 6 2 = 0 ||
  (bitOf w0 8 && (vid = 0 || vid = 0xFFF)) || bitsOf w0 7 3 != 0 || bitsOf w0 15 12 != 0 || bitsOf w0 31 28 != 0 ||
  payLe d 0x0E 2 != 0 || payLe d 0x32 2 != 0 || payLe d 0x34 4 != 0 || payLe d 0x3E 2 != 0

/-- DEST_SET. -/
def State.reqDestSet (s : State) (at' : Attr) (pl : List Nat) : Nat × State :=
  let d := (pl.drop 8).take 64
  let c := firstCode [(destBad d, Code.eIllegal), (!s.gwyMay at', Code.eAccess)]
  if c ≠ Code.ok then (c, s)
  else (c, { s with gwy := { s.gwy with dests := KMap.put s.gwy.dests (payLe pl 0 1) d } })

/-- EP_OPEN: the requester's partition and world become the owner. -/
def State.reqEpOpen (s : State) (at' : Attr) (pl : List Nat) : Nat × State :=
  let w0 := payLe pl 0 4
  let e := bitsOf w0 7 0
  let p : Endpoint := ⟨at', bitsOf w0 11 8, bitsOf w0 15 12, bitsOf w0 19 16, payLe pl 4 2, payLe pl 6 2, payLe pl 8 6,
    payLe pl 0x10 6, 0⟩
  let lg := fun (x : Nat) => decide (x < 4) || decide (12 < x)
  let c := firstCode
    [(lg p.rxLog || lg p.txLog || decide (p.slotLog < 6) || decide (14 < p.slotLog) || w0 / 2 ^ 20 != 0 ||
        payLe pl 14 2 != 0 || payLe pl 22 2 != 0, Code.eIllegal),
     (p.rx % 4096 != 0 || p.tx % 4096 != 0, Code.eAlign), (decide (p.hi < p.lo), Code.eBounds),
     ((s.ep e).isSome, Code.eBusy)]
  if c ≠ Code.ok then (c, s)
  else
    let s := (((s.set (Reg.GWY_EP_RX_WPTR_WPTR e) 0).set (Reg.GWY_EP_RX_RPTR_RPTR e) 0).set (Reg.GWY_EP_TX_WPTR_WPTR e) 0).set
      (Reg.GWY_EP_TX_RPTR_RPTR e) 0
    (c, (s.setEp e p).set (Reg.GWY_EP_STATUS_OPEN e) 1)

/-- EP_CLOSE: the owner only. -/
def State.reqEpClose (s : State) (at' : Attr) (pl : List Nat) : Nat × State :=
  let e := payLe pl 0 1
  match s.ep e with
  | none => (Code.eEpClosed, s)
  | some p =>
    if p.owner ≠ at' then (Code.eAccess, s)
    else (Code.ok, { s.set (Reg.GWY_EP_STATUS_OPEN e) 0 with gwy := { s.gwy with eps := KMap.del s.gwy.eps e } })

end Sys2Proof.Machine
end

