-- ==== Sys2Proof/Machine/Bridges.lean ====
section
/-! DEFINITION. The bridges (R346–R352): read holding, late failures of posted writes, fence groups and the bridge fence,
inbound translation, and the state of the PCIe link. -/

namespace Sys2Proof.Machine
open Sys2Proof

/-! ## Fence groups (R348) -/

/-- The fence group of a partition. -/
def State.groupOf (s : State) (p : Nat) : Nat :=
  if s.bit (Reg.BRG_PART_GROUP_VALID p) then s.get (Reg.BRG_PART_GROUP_GROUP p) else 0

/-- Entries logged since the last fence of a group (saturating at 16 bits). -/
def State.fenceNew (s : State) (n : Nat) : Nat := KMap.getD s.brg.fresh n 0

/-- A failure is logged in a group: the 16 oldest entries are kept. -/
def State.fenceLog (s : State) (n bridge attr addr cls : Nat) : State :=
  let s := ((s.inc (Reg.BRG_FG_ERRS_ERRS n)).fbInc 0x60C0 0x12)
  let s := { s with brg := { s.brg with fresh := KMap.put s.brg.fresh n (satAdd 16 (s.fenceNew n) 1) } }
  let c := s.get (Reg.BRG_FG_STATUS_COUNT n)
  if c < 16 then
    let i := (s.get (Reg.BRG_FG_STATUS_HEAD n) + c) % 16
    ((((s.set (Reg.BRG_FG_LOG_BRIDGE n i) bridge).set (Reg.BRG_FG_LOG_ATTR n i) attr).set (Reg.BRG_FG_LOG_ADDR n i) addr).set
      (Reg.BRG_FG_LOGCLASS_CLASS n i) cls).set (Reg.BRG_FG_LOGTS_TS32 n i) s.ts32 |>.set (Reg.BRG_FG_STATUS_COUNT n) (c + 1)
  else s.inc (Reg.BRG_FG_STATUS_DROPPED n)

/-- An access of a group's page: from a partition bound to it, or of group 0 from the Secure world; another one reads 0,
has no effect and is logged (R328). -/
def State.fencePage (s : State) (who : Agent) (n a : Nat) (write : Bool) (f : State → State) : State :=
  let at' := s.attrOf who
  let bound := s.bit (Reg.BRG_PART_GROUP_VALID at'.partition) && s.get (Reg.BRG_PART_GROUP_GROUP at'.partition) = n
  if (if n = 0 then at'.secure else bound) then f s else s.cadLog 61 a at' write 0x21

/-- BRG_FG_ACK releases the N oldest entries; other values of N are refused (R348, R302, R23). -/
def State.fenceAck (s : State) (n k : Nat) : State :=
  let c := s.get (Reg.BRG_FG_STATUS_COUNT n)
  if k = 0 ∨ k = 31 then s.report Code.eLength
  else if c < k then s.report Code.eBounds
  else ((s.report Code.ok).set (Reg.BRG_FG_STATUS_HEAD n) ((s.get (Reg.BRG_FG_STATUS_HEAD n) + k) % 16)).set (Reg.BRG_FG_STATUS_COUNT n) (c - k)

/-- FENCE_LOG_ACK (R348). -/
def execFenceLogAck (who : Agent) (group : Fin 16) (count : BitVec 5) (s : State) : Out :=
  done (s.gateWrite who (Reg.BRG_FG_ACK_addr group.val) (fun s =>
    s.fencePage who group.val (Reg.BRG_FG_ACK_addr group.val) true (fun s => s.fenceAck group.val count.toNat)))

/-! ## Reads across a bridge (R346) -/

/-- A fence read aborted in this clock whose data arrive in it is not aborted after all (R352): its log entry, the newest, and the
counts go back. -/
def State.unabort (s : State) (n : Nat) : State :=
  match s.brg.fenceAborted with
  | some (g, t, errs) =>
    if g = n && t = s.datum && s.get (Reg.BRG_FG_ERRS_ERRS n) = errs then
      let dropped := s.get (Reg.BRG_FG_STATUS_DROPPED n)
      let s := if 0 < dropped then s.set (Reg.BRG_FG_STATUS_DROPPED n) (dropped - 1)
        else s.set (Reg.BRG_FG_STATUS_COUNT n) (s.get (Reg.BRG_FG_STATUS_COUNT n) - 1)
      let s := ((s.set (Reg.BRG_FG_ERRS_ERRS n) (errs - 1)).fbSet 0x60C0 0x12 (s.fbGet 0x60C0 0x12 - 1)).fbSet 0x60C0 0x10 (s.fbGet 0x60C0 0x10 - 1)
      { s with brg := { s.brg with
        fresh := KMap.put s.brg.fresh n (s.fenceNew n - 1), aborted := s.brg.aborted - 1, fences := n :: s.brg.fences, fenceAborted := none } }
    else s
  | none => s

def Bridges.dropFence (b : Bridges) (n : Nat) : Bridges := { b with fences := b.fences.filter (fun x => x != n) }

/-- A read is aborted: the initiator sees an error, the abort is logged in its fence group and its completion may still
come. An aborted fence read leaves its writes tracked. -/
def State.abortRead (s : State) (at' : Attr) (bridge addr : Nat) : State :=
  let s := (s.busError.fenceLog (s.groupOf at'.partition) bridge at'.toNat addr Code.eRetry).fbInc 0x60C0 0x10
  let b := { s.brg with aborted := s.brg.aborted + 1 }
  let n := (addr - 0x19010000) / 0x1000
  if 0x19010000 ≤ addr ∧ addr < 0x19020000 ∧ addr % 0x1000 = 0 then
    { s with brg := { b.dropFence n with fenceAborted := some (n, s.datum, s.get (Reg.BRG_FG_ERRS_ERRS n)) } }
  else { s with brg := b }

/-- LATE_COMPLETION (R346): the completion of an aborted read is discarded. -/
def execLateCompletion (s : State) : Out :=
  if s.brg.aborted = 0 then done s
  else done ({ s with brg := { s.brg with aborted := s.brg.aborted - 1 } }.fbInc 0x60C0 0x11)

/-! ## Posted writes (R347) -/

def farCode : FarClass → Nat
  | .unsupported => Code.eFarUr
  | .refused => Code.eFarAccess
  | .data => Code.eFarData

/-- FAR_FAILURE_REPORT (R347, R352): logged in the group that the write carried; a report from PCIe carries no attribute. -/
def execFarFailureReport (bridge : Fin 4) (group : Fin 16) (attr : BitVec 8) (addr : BitVec 48) (cls : FarClass) (s : State) : Out :=
  done (s.fenceLog group.val bridge.val (if bridge.val = 0 then 0 else attr.toNat) addr.toNat (farCode cls))

/-- A group has written to a package since its last fence (R349). -/
def State.noteWritten (s : State) (n p : Nat) : State :=
  let m := KMap.getD s.brg.written n 0
  { s with brg := { s.brg with written := KMap.put s.brg.written n (if bitOf m p then m else m + 2 ^ p) } }

/-! ## The bridge fence (R349) -/

/-- A read of BRG_FG_FENCE: a zero-length read goes to each package that the group has written. -/
def State.fenceStart (s : State) (n : Nat) : State :=
  let s := ((List.range 4).filter (fun p => bitOf (KMap.getD s.brg.written n 0) p)).foldl (fun s p => s.emit (.zeroRead p)) s
  if s.brg.fences.contains n then s else { s with brg := { s.brg with fences := n :: s.brg.fences } }

/-- BRIDGE_FENCE (R349). -/
def execBridgeFence (who : Agent) (group : Fin 16) (s : State) : Out :=
  let a := Reg.BRG_FG_FENCE_addr group.val
  done (s.gate who a false (fun s => (s.answer 0).fencePage who group.val a false (fun s => s.fenceStart group.val)))

/-- BRIDGE_FENCE_DONE (R349): the read returns VALID, ERR and the count of entries logged since the previous fence. -/
def execBridgeFenceDone (group : Fin 16) (s : State) : Out :=
  let n := group.val
  let s := s.unabort n
  if s.brg.fences.contains n then
    let k := s.fenceNew n
    let s := s.answer (2 ^ 31 + (if k = 0 then 0 else 2 ^ 30) + k)
    let b := s.brg.dropFence n
    done { s with brg := { b with fresh := KMap.put b.fresh n 0, written := KMap.put b.written n 0 } }
  else done s

/-! ## Inbound translation (R350) -/

def State.iwSize (s : State) (w : Nat) : Nat := 2 ^ s.get (Reg.BRG_IW_CTRL_SIZE_LOG2 w)

/-- The check that setting EN makes. -/
def State.iwCheck (s : State) (w : Nat) : Nat :=
  let lg := s.get (Reg.BRG_IW_CTRL_SIZE_LOG2 w)
  let off := s.get (Reg.BRG_IW_OFFSET_OFFSET w)
  let tgt := s.get (Reg.BRG_IW_TARGET_TARGET w)
  firstCode
    [(decide (lg < 12) || decide (36 < lg), Code.eIllegal),
     (off % s.iwSize w != 0 || tgt % s.iwSize w != 0, Code.eAlign),
     (decide (2 ^ 36 < off + s.iwSize w) || decide (tgt < 0x1000000000) || decide (0x2800000000 < tgt + s.iwSize w), Code.eBounds)]

def iwReg (w value : Nat) : EnReg :=
  { en := Reg.BRG_IW_CTRL_EN w, status := Reg.BRG_IW_STATUS_LAST w
    locked := [(Reg.BRG_IW_CTRL_RD w, bitsOf value 30 30), (Reg.BRG_IW_CTRL_WR w, bitsOf value 29 29),
      (Reg.BRG_IW_CTRL_SECURE w, bitsOf value 28 28), (Reg.BRG_IW_CTRL_PARTITION w, bitsOf value 27 22),
      (Reg.BRG_IW_CTRL_SRC w, bitsOf value 19 16), (Reg.BRG_IW_CTRL_SIZE_LOG2 w, bitsOf value 5 0)]
    free := []
    check := fun s => s.iwCheck w
    mayClear := fun _ => Code.ok
    onEnable := id
    onDisable := id }

/-- The enabled inbound windows. -/
def State.iwMask (s : State) : Nat := (List.range 16).foldl (fun m w => m + b2n (s.bit (Reg.BRG_IW_CTRL_EN w)) * 2 ^ w) 0

/-- A window decides a request: one in the clock in which EN changes is decided by the window as it stood before (R352). -/
def State.iwOn (s : State) (w : Nat) : Bool :=
  match s.brg.windowsWas with
  | some (t, m) => if t = s.datum then bitOf m w else s.bit (Reg.BRG_IW_CTRL_EN w)
  | none => s.bit (Reg.BRG_IW_CTRL_EN w)

/-- A write of BRG_IW_CTRLw: the windows enabled before the clock are noted. -/
def State.iwWrite (s : State) (w value : Nat) (en : Bool) : State :=
  let noted : Bool := match s.brg.windowsWas with | some (t, _) => t = s.datum | none => false
  let t := s.enWrite (iwReg w value) en
  if noted || t.bit (Reg.BRG_IW_CTRL_EN w) = s.bit (Reg.BRG_IW_CTRL_EN w) then t
  else { t with brg := { t.brg with windowsWas := some (s.datum, s.iwMask) } }

/-- INBOUND_WINDOW_ENABLE (R350): a write of BRG_IW_CTRLw with EN set. -/
def execInboundWindowEnable (who : Agent) (window : Fin 16) (value : BitVec 32) (s : State) : Out :=
  done (s.gateWrite who (Reg.BRG_IW_CTRL_addr window.val) (fun s => s.iwWrite window.val value.toNat true))

/-- The lowest enabled window that covers an offset. -/
def State.iwFor (s : State) (off : Nat) : Option Nat :=
  (List.range 16).find? (fun w => s.iwOn w && decide (s.get (Reg.BRG_IW_OFFSET_OFFSET w) ≤ off) &&
    decide (off < s.get (Reg.BRG_IW_OFFSET_OFFSET w) + s.iwSize w))

def State.iwAttr (s : State) (w : Nat) : Attr := ⟨s.bit (Reg.BRG_IW_CTRL_SECURE w), s.get (Reg.BRG_IW_CTRL_PARTITION w)⟩

/-- An inbound posted write fails: logged here in a group, and reported to the sender (R347). -/
def State.inboundFail (s : State) (pkg group here addr cls : Nat) : State :=
  (s.fenceLog here 0 0 addr cls).emit (.farReport pkg group addr cls)

/-- An inbound request with the window that decides it. -/
def State.inbound (s : State) (w pkg group addr target : Nat) (acc : BusOp) (ecc : EccEvent) : State :=
  let at' := s.iwAttr w
  let here := s.groupOf at'.partition
  match acc with
  | .read len =>
    if !s.bit (Reg.BRG_IW_CTRL_RD w) then s.busError
    else
      match s.reach1 at' false target with
      | (.ok, s) => if ecc = .uncorrectable then s.busError else (let (x, s) := s.seenLe target len; s.answer x)
      | (_, s) => s.busError
  | .write _ data =>
    if !s.bit (Reg.BRG_IW_CTRL_WR w) then s.inboundFail pkg group here addr Code.eFarUr
    else
      match s.reach1 at' true target with
      | (.ok, s) =>
        if ecc = .uncorrectable then s.inboundFail pkg group here addr Code.eFarData
        else s.wr target (data.map BitVec.toNat)
      | (.refused, s) => s.inboundFail pkg group here addr Code.eFarAccess
      | (_, s) => s.inboundFail pkg group here addr Code.eFarUr

/-- An inbound request of another package with its fence group, at an offset of the 64 GiB (R350, R347). -/
def State.serveInbound (s : State) (r : Inbound) : State :=
  let addr := 0x4000000000 + s.get Reg.SYS_STRAP_PKG_ID * 0x1000000000 + r.offset
  match s.iwFor r.offset with
  | some w =>
    if bitOf (s.get (Reg.BRG_IW_CTRL_SRC w)) r.package then
      s.inbound w r.package r.group addr
        (s.get (Reg.BRG_IW_TARGET_TARGET w) + (r.offset - s.get (Reg.BRG_IW_OFFSET_OFFSET w))) r.acc r.ecc
    else
      match r.acc with
      | .read _ => s.busError
      | .write _ _ => s.inboundFail r.package r.group (s.groupOf (s.iwAttr w).partition) addr Code.eFarUr
  | none =>
    match r.acc with
    | .read _ => s.busError
    | .write _ _ => s.inboundFail r.package r.group 0 addr Code.eFarUr

/-! ## The PCIe link (R352) -/

/-- The link goes down (R352, R347): the fence reads in progress abort at once; the groups with posted writes
not yet sent (`unsent`) each get one entry with ADDR 0. -/
def State.linkGoesDown (s : State) (unsent : BitVec 16) : State :=
  let s := s.brg.fences.foldl (fun s n => (s.busError.fenceLog n 0 0 (Reg.BRG_FG_FENCE_addr n) Code.eRetry).fbInc 0x60C0 0x10) s
  let s := ((List.range 16).filter (fun n => bitOf unsent.toNat n)).foldl (fun s n => s.fenceLog n 0 0 0 Code.eLinkDown) s
  { s with brg := { s.brg with fences := [], linkDown := true, downLogged := unsent.toNat } }

/-- PCIE_LINK_UP (R352). -/
def execPcieLinkUp (s : State) : Out := done { s with brg := { s.brg with linkDown := false, downLogged := 0 } }

end Sys2Proof.Machine
end

