-- ==== Sys2Proof/Machine/Mailbox.lean ====
section
/-! DEFINITION. Mailboxes (R391–R396): configuration, the service of the request at RPTR, replies and notices; the log of
a firmware processor (R397, R398); orphaned partitions (R399–R401). -/

namespace Sys2Proof.Machine
open Sys2Proof

def State.mbox (s : State) (m : Nat) : Mbox := KMap.getD s.fw.mbx m {}
def State.setMbox (s : State) (m : Nat) (v : Mbox) : State := { s with fw := { s.fw with mbx := KMap.put s.fw.mbx m v } }

/-- The owner of a mailbox, which its ring accesses carry (R391). -/
def State.mbAttr (s : State) (m : Nat) : Attr := ⟨s.bit (Reg.MBX_MB_CFG_SECURE m), s.get (Reg.MBX_MB_CFG_PARTITION m)⟩
def State.mbSlots (s : State) (m : Nat) : Nat := 2 ^ s.get (Reg.MBX_MB_CFG_LOG2 m)

/-- The firmware processor of a SERVER code (R391). -/
def serverFw : Nat → Nat
  | 0 => 16 | 1 => 17 | 2 => 21 | 3 => 20 | 4 => 19 | 5 => 22 | _ => 18

/-! ## Logs (R397, R398) -/

def State.fwLogOf (s : State) (n : Nat) : FwLog := KMap.getD s.fw.logs n {}

/-- The processor flushes its pending records into its ring of 4,096 records (R397); a refused write loses them. -/
def State.flushLog (s : State) (n : Nat) : State :=
  let l := s.fwLogOf n
  let first := l.count - l.pending.length
  let s := { s with fw := { s.fw with logs := KMap.put s.fw.logs n { l with pending := [] } } }
  (List.range l.pending.length).foldl (fun s i =>
    let a := Config.logArea + 65536 * n + 16 * ((first + i) % 4096)
    match s.reach ⟨true, 0⟩ true a 16 with
    | (.ok, s) => s.wr a (l.pending.getD i [])
    | (_, s) => s) s

/-- A record of one of the points 0–15, which are always enabled (R398). Which of the 16 points stands for which event,
and the arguments, the spec does not say: free values. At 128 pending records the processor flushes. -/
def State.fwLog (s : State) (n : Nat) : State :=
  let (point, s) := s.freeNat
  let (a0, s) := s.freeNat
  let (a1, s) := s.freeNat
  let l := s.fwLogOf n
  let r := leBytes 4 s.ts32 ++ leBytes 2 (l.count % 65536) ++ leBytes 2 (point % 16) ++ leBytes 4 a0 ++ leBytes 4 a1
  let l' : FwLog := ⟨l.count + 1, l.pending ++ [r]⟩
  let s := { s with fw := { s.fw with logs := KMap.put s.fw.logs n l' } }
  if 128 ≤ l'.pending.length then s.flushLog n else s

/-- LOG_FLUSH (R397). -/
def execLogFlush (processor : Fin 23) (s : State) : Out := done (s.flushLog processor.val)

/-! ## The reply ring (R158, R391, R392) -/

/-- One step of CRC-16 with polynomial 0x1021, no reflection. -/
def crc16Byte (c b : Nat) : Nat :=
  (List.range 8).foldl (fun c i =>
    let t := c / 32768 % 2 != b / 2 ^ (7 - i) % 2
    let c := c * 2 % 65536
    if t then c ^^^ 0x1021 else c) c

/-- The CRC-16 of R392. -/
def crc16 (bs : List Nat) : Nat := bs.foldl crc16Byte 0xFFFF

/-- A message (R392). -/
def mbMessage (version type flags seq status : Nat) (payload : List Nat) : List Nat :=
  let w0 := leBytes 2 version ++ [type, flags]
  let tail := leBytes 4 seq ++ leBytes 4 status
  let crc := crc16 (w0 ++ leBytes 2 payload.length ++ [0, 0] ++ tail ++ payload)
  w0 ++ leBytes 2 payload.length ++ leBytes 2 crc ++ tail ++ payload

/-- The version that a message from the server carries: the negotiated one, 1.0 where none is. -/
def State.mbVersion (s : State) (m : Nat) : Nat :=
  if s.bit (Reg.MBX_MB_STATUS_ATTACHED m) then 256 * s.get (Reg.MBX_MB_VERSION_MAJOR m) + s.get (Reg.MBX_MB_VERSION_MINOR m)
  else 256

/-- A free slot of the reply ring. -/
def State.replyRoom (s : State) (m : Nat) : Bool :=
  (s.get (Reg.MBX_MB_RPL_WPTR_WPTR m) + 1) % s.mbSlots m != s.get (Reg.MBX_MB_RPL_RPTR_RPTR m)

/-- ATTACHED clears. -/
def State.mbDetach (s : State) (m : Nat) : State :=
  ((s.set (Reg.MBX_MB_STATUS_ATTACHED m) 0).set (Reg.MBX_MB_VERSION_MAJOR m) 0).set (Reg.MBX_MB_VERSION_MINOR m) 0

/-- A message is written into the next reply slot; a refused write detaches the mailbox (R448). -/
def State.mbWrite (s : State) (m : Nat) (bytes : List Nat) : State :=
  let i := s.get (Reg.MBX_MB_RPL_WPTR_WPTR m)
  let a := s.get (Reg.MBX_MB_RPL_BASE_BASE m) + 256 * i
  match s.reach (s.mbAttr m) true a bytes.length with
  | (.ok, s) => ((s.wr a bytes).set (Reg.MBX_MB_RPL_WPTR_WPTR m) ((i + 1) % s.mbSlots m)).raiseEdge (464 + m)
  | (_, s) => (s.mbDetach m).set (Reg.MBX_MB_STATUS_LAST m) Code.eAccess

/-- The notices that wait are written while slots are free. -/
def State.flushNotices (s : State) (m : Nat) : Nat → State
  | 0 => s
  | n + 1 =>
    match (s.mbox m).notices with
    | [] => s
    | (t, p) :: rest =>
      if s.replyRoom m then
        ((s.setMbox m { s.mbox m with notices := rest }).mbWrite m (mbMessage (s.mbVersion m) t 3 0 0 p)).flushNotices m n
      else s

/-- A notice is due on a mailbox; it waits for a free slot (R417). A disabled mailbox takes none. -/
def State.mbNotice (s : State) (m type : Nat) (payload : List Nat) : State :=
  if s.bit (Reg.MBX_MB_CFG_EN m) then
    let b := s.mbox m
    (s.setMbox m { b with notices := b.notices ++ [(type, payload)] }).flushNotices m (b.notices.length + 1)
  else s

/-! ## Orphaned partitions (R399–R401) -/

/-- The enabled mailboxes of a partition. -/
def State.mailboxesOf (s : State) (p : Nat) : List Nat :=
  (List.range 64).filter (fun m => s.bit (Reg.MBX_MB_CFG_EN m) && s.get (Reg.MBX_MB_CFG_PARTITION m) = p)

/-- The ORPHAN notice goes to the mailbox that FB 0x7600.02 names (R395). -/
def State.orphanNotice (s : State) (p cause : Nat) : State :=
  let m := s.fbGet 0x7600 2
  if m < 64 then s.mbNotice m 5 (leBytes 4 (p + 256 * cause)) else s

/-- WPTR, where requests are in the ring. -/
def State.mbWaiting (s : State) (m : Nat) : Option Nat :=
  let w := s.get (Reg.MBX_MB_REQ_WPTR_WPTR m)
  if s.get (Reg.MBX_MB_REQ_RPTR_RPTR m) = w then none else some w

/-- A supervised partition becomes orphaned (R399, R400): an open step whose job is not admitted rolls back; the requests
already in its rings are still served. -/
def State.orphan (s : State) (p cause : Nat) : State :=
  if s.orphaned p then s
  else
    let s := s.set Reg.MBX_HB_ORPHAN_ORPHAN (s.get Reg.MBX_HB_ORPHAN_ORPHAN ||| 2 ^ p)
    let s := (s.mailboxesOf p).foldl (fun s m => s.setMbox m { s.mbox m with before := s.mbWaiting m }) s
    let open' := s.eng.steps.filter (fun x => (match s.pool x.1 with | some q => q.partition = p | none => false) &&
      !(match s.job x.2.queue with | some j => j.num = x.2.job | none => false))
    let s := open'.foldl (fun s x => s.rollback x.1 x.2) s
    let s := { s with fw := { s.fw with kicked := s.fw.kicked &&& (2 ^ 64 - 1 - 2 ^ p) } }
    (s.fbInc 0x60E0 3).orphanNotice p cause

/-- A supervised partition all of whose mailboxes are detached is orphaned (R399). A partition without an enabled mailbox
has had none detached. -/
def State.checkDetached (s : State) (p : Nat) : State :=
  if bitOf (s.get Reg.MBX_HB_SUPER_SUPER) p && (s.mailboxesOf p).all (fun m => !s.bit (Reg.MBX_MB_STATUS_ATTACHED m)) then s.orphan p 1
  else s

/-- An ATTACH after a kick ends the orphaned state (R401): whether it does. The partition's open windows hold its queues
until their next opening. -/
def State.resume (s : State) (p : Nat) : Bool × State :=
  if s.orphaned p && bitOf s.fw.kicked p then
    let s := s.set Reg.MBX_HB_ORPHAN_ORPHAN (s.get Reg.MBX_HB_ORPHAN_ORPHAN &&& (2 ^ 64 - 1 - 2 ^ p))
    let s := s.openWindows.foldl (fun s w => if w.entry.partition = p then s.setWindow w.index { w.win with held := true } else s) s
    let s := (s.mailboxesOf p).foldl (fun s m => s.setMbox m { s.mbox m with before := none }) s
    (true, (s.fbInc 0x60E0 4).orphanNotice p 2)
  else (false, s)

/-- A write of MBX_HB_KICK records the writer's partition; the value is ignored. -/
def State.hbKick (s : State) (who : Agent) : State :=
  let p := (s.attrOf who).partition
  { s with fw := { s.fw with kick := KMap.put s.fw.kick p s.datum,
                             kicked := if s.orphaned p then s.fw.kicked ||| 2 ^ p else s.fw.kicked } }

/-- HEARTBEAT_KICK (R399). -/
def execHeartbeatKick (who : Agent) (s : State) : Out :=
  done (s.gateWrite who Reg.MBX_HB_KICK_addr (fun s => s.hbKick who))

/-- HEARTBEAT_LAPSE (R399): a supervised partition's last kick is older than the limit. -/
def execHeartbeatLapse (partition : Fin 64) (s : State) : Out :=
  let p := partition.val
  if bitOf (s.get Reg.MBX_HB_SUPER_SUPER) p && !s.orphaned p then
    done ((s.advanceTo (KMap.getD s.fw.kick p 0 + s.fbGet 0x7600 1 * 1000000 + 1)).orphan p 0)
  else done s

/-- A write of MBX_HB_SUPER, of the Secure world: supervision of a partition starts with a kick. -/
def State.writeSuper (s : State) (v : Nat) : State :=
  let new := (List.range 64).filter (fun p => bitOf v p && !bitOf (s.get Reg.MBX_HB_SUPER_SUPER) p)
  let s := { s with fw := { s.fw with kick := new.foldl (fun k p => KMap.put k p s.datum) s.fw.kick } }
  s.set Reg.MBX_HB_SUPER_SUPER v

/-! ## Configuration (R391) -/

/-- The check of a mailbox's configuration under R25. -/
def State.mbCheck (s : State) (m : Nat) : Nat :=
  let lg := s.get (Reg.MBX_MB_CFG_LOG2 m)
  firstCode
    [(decide (6 < s.get (Reg.MBX_MB_CFG_SERVER m)) || decide (lg < 4) || decide (8 < lg), Code.eIllegal),
     (s.get (Reg.MBX_MB_REQ_BASE_BASE m) % 4096 != 0 || s.get (Reg.MBX_MB_RPL_BASE_BASE m) % 4096 != 0, Code.eAlign)]

/-- An enabled mailbox starts with its pointers at 0. -/
def State.mbStart (s : State) (m : Nat) : State :=
  let s := (((s.set (Reg.MBX_MB_REQ_WPTR_WPTR m) 0).set (Reg.MBX_MB_REQ_RPTR_RPTR m) 0).set (Reg.MBX_MB_RPL_WPTR_WPTR m) 0).set
    (Reg.MBX_MB_RPL_RPTR_RPTR m) 0
  s.setMbox m { epoch := (s.mbox m).epoch }

/-- Clearing EN detaches the mailbox. -/
def State.mbStop (s : State) (m : Nat) : State :=
  ((s.setMbox m { epoch := (s.mbox m).epoch }).mbDetach m).checkDetached (s.get (Reg.MBX_MB_CFG_PARTITION m))

def mbxReg (m value : Nat) : EnReg :=
  { en := Reg.MBX_MB_CFG_EN m, status := Reg.MBX_MB_CSTATUS_LAST m
    locked := [(Reg.MBX_MB_CFG_SECURE m, bitsOf value 30 30), (Reg.MBX_MB_CFG_PARTITION m, bitsOf value 29 24),
      (Reg.MBX_MB_CFG_LOG2 m, bitsOf value 7 4), (Reg.MBX_MB_CFG_SERVER m, bitsOf value 3 0)]
    free := []
    check := fun s => s.mbCheck m
    mayClear := fun _ => Code.ok
    onEnable := fun s => s.mbStart m
    onDisable := fun s => s.mbStop m }

/-- MAILBOX_ENABLE (R391): a write of MBX_MB_CFG with EN = 1. -/
def execMailboxEnable (who : Agent) (mailbox : Fin 64) (value : BitVec 32) (s : State) : Out :=
  done (s.gateWrite who (Reg.MBX_MB_CFG_addr mailbox.val) (fun s => s.enWrite (mbxReg mailbox.val value.toNat) true))

/-- MAILBOX_DISABLE (R391): a write of MBX_MB_CFG with EN = 0. -/
def execMailboxDisable (who : Agent) (mailbox : Fin 64) (value : BitVec 32) (s : State) : Out :=
  done (s.gateWrite who (Reg.MBX_MB_CFG_addr mailbox.val) (fun s => s.enWrite (mbxReg mailbox.val value.toNat) false))

/-! ## Requests (R393, R396) -/

/-- The payload of a type: for each 32-bit word, the bits that are not reserved. -/
def payWords : Nat → List Nat
  | 0x01 => [0xFFFF, 0xFFFF, 0xFFFF, 0xFFFF]
  | 0x02 => []
  | 0x07 => [0x1F, 0xFFFF, 0xF]
  | 0x40 => [0xF3F0F, 0xFFFFFFFF, 0xFFFF, 0xFFFFF, 0xFFFFF, 0, 0xFFFFFFFF, 0xFFFF, 0xFFFFFFFF, 0xFFFF] ++
      List.replicate 8 0xFFFFFFFF
  | 0x41 => [0xF]
  | 0x42 => [0xFFFF1F, 0xFFF]
  | 0x43 => [0xFFF]
  | 0x44 => [0xFFF]
  | 0x45 => [0xF, 0, 0xFFFFFFFF, 0xFFFF]
  | 0x46 => [0xFFF]
  | 0x47 => [0xFF, 0, 0xFFFFFFFF, 0xFFFF]
  | 0x48 => [0xFF, 0xFFFFFFFF]
  | 0x49 => [0xFF]
  | 0x4A => [0xFF0FFF, 0, 0xFFFFFFFF, 0xFFFF, 0xFFFFFFFF, 0]
  | 0x4B => [0xFF]
  | 0x50 => [0xFFFF, 0] ++ List.replicate 16 0xFFFFFFFF
  | 0x51 => [0xFFFF, 0xFF]
  | 0x52 => [0xFF, 0] ++ List.replicate 16 0xFFFFFFFF
  | 0x53 => [0xFFFFF, 0xFFFFFFFF, 0xFFFFFFFF, 0xFFFF, 0xFFFFFFFF, 0xFFFF]
  | 0x54 => [0xFF]
  | 0x60 => [0x11F]
  | 0x61 => [0x13F]
  | 0x62 => [1]
  | _ => []

/-- The length that a request of a type must have (R396). -/
def payLength (type : Nat) (payload : List Nat) : Nat :=
  if type = 0x51 then 8 + 8 * payLe payload 4 1 else 4 * (payWords type).length

/-- LENGTH or a reserved bit breaks R396. -/
def payIllegal (type : Nat) (payload : List Nat) : Bool :=
  payload.length != payLength type payload ||
  (List.range (payWords type).length).any (fun i => payLe payload (4 * i) 4 &&& (0xFFFFFFFF - natAt (payWords type) i) != 0)

/-- A server serves a type (R391). -/
def serves (server type : Nat) : Bool :=
  type = 1 || type = 2 ||
  (match server with
    | 0 => decide (0x40 ≤ type) && decide (type ≤ 0x4B)
    | 2 => type = 0x30 || (decide (0x50 ≤ type) && decide (type ≤ 0x54))
    | 3 => type = 7 || (decide (0x60 ≤ type) && decide (type ≤ 0x63))
    | _ => false)

/-- A type that has a row of the command table. -/
def typeKnown (t : Nat) : Bool := serves 0 t || serves 2 t || serves 3 t

/-- A request as it stands in its slot. -/
structure MbRequest where
  version : Nat
  type : Nat
  flags : Nat
  length : Nat
  seq : Nat
  bytes : List Nat
  deriving DecidableEq, Repr

def MbRequest.payload (r : MbRequest) : List Nat := slice r.bytes 16 r.length

/-- The request in the slot at RPTR. -/
def State.mbRequest (s : State) (m : Nat) : MbRequest :=
  let b := s.rd (s.get (Reg.MBX_MB_REQ_BASE_BASE m) + 256 * s.get (Reg.MBX_MB_REQ_RPTR_RPTR m)) 256
  ⟨payLe b 0 2, natAt b 2, natAt b 3, payLe b 4 2, payLe b 8 4, b⟩

/-- Step 1 of R393: the CRC, LENGTH above 240, reserved header bits (REPLY and NOTICE belong to replies and notices,
STATUS to replies). -/
def MbRequest.malformed (r : MbRequest) : Bool :=
  decide (240 < r.length) || r.flags != 0 || payLe r.bytes 12 4 != 0 ||
  payLe r.bytes 6 2 != crc16 (slice r.bytes 0 6 ++ [0, 0] ++ slice r.bytes 8 8 ++ r.payload)

/-- What a type's handler answers: the status and the reply's payload. -/
abbrev Answer := Nat × List Nat × State

/-- A handler without a reply payload. -/
def plainAnswer (r : Nat × State) : Answer := (r.1, [], r.2)

/-- The request at RPTR of a mailbox may be served now: EN, a submitted slot, a running server, room for the reply, and
the request not with the Field Book service already (R391). -/
def State.mbReady (s : State) (m : Nat) : Bool :=
  s.bit (Reg.MBX_MB_CFG_EN m) && s.get (Reg.MBX_MB_REQ_RPTR_RPTR m) != s.get (Reg.MBX_MB_REQ_WPTR_WPTR m) &&
  !s.fwDown (serverFw (s.get (Reg.MBX_MB_CFG_SERVER m))) && s.replyRoom m && !(s.mbox m).fba

/-- The request was submitted before its owner was orphaned (R400). -/
def State.mbBefore (s : State) (m : Nat) : Bool :=
  (s.mbox m).before.isSome

/-- RPTR passes the request; the slots submitted before the owner was orphaned run out. -/
def State.mbPass (s : State) (m : Nat) : State :=
  let r := (s.get (Reg.MBX_MB_REQ_RPTR_RPTR m) + 1) % s.mbSlots m
  let s := s.set (Reg.MBX_MB_REQ_RPTR_RPTR m) r
  if (s.mbox m).before = some r then s.setMbox m { s.mbox m with before := none } else s

/-- The checks of R393 up to its step 4's general rules; the code of the first failure. -/
def State.mbCode (s : State) (m : Nat) (r : MbRequest) : Nat :=
  let orphan := s.orphaned (s.mbAttr m).partition && !s.mbBefore m
  let ver := 256 * s.get (Reg.MBX_MB_VERSION_MAJOR m)
  firstCode
    [(r.malformed, Code.eProto),
     (r.type != 1 && (!s.bit (Reg.MBX_MB_STATUS_ATTACHED m) || orphan), Code.eState),
     (r.type != 1 && (r.version / 256 * 256 != ver || decide (s.get (Reg.MBX_MB_VERSION_MINOR m) < r.version % 256)), Code.eVersion),
     (!serves (s.get (Reg.MBX_MB_CFG_SERVER m)) r.type, Code.eIllegal),
     (r.type != 0x30 && payIllegal r.type r.payload, Code.eIllegal)]

/-- The failure payload of KV_STEP and TRAIN_OPEN for a failure of step 4 that belongs to no single entry (R136). -/
def failPayload (m : State) (mb : Nat) (r : MbRequest) (c : Nat) : List Nat :=
  if (r.type = 0x45 || r.type = 0x47) && c = Code.eIllegal && serves (m.get (Reg.MBX_MB_CFG_SERVER mb)) r.type &&
      !r.malformed then leBytes 4 0xFFFF else []

/-- The reply of a request: its version, its SEQ, the status and the payload. -/
def State.mbReply (s : State) (m : Nat) (r : MbRequest) (status : Nat) (payload : List Nat) : State :=
  let n := (s.mbox m).notices.length
  (s.mbWrite m (mbMessage (s.mbVersion m) r.type 1 r.seq status payload)).flushNotices m n

/-- A refused request is counted (R393) and logged by the server (R398). -/
def State.mbCount (s : State) (m c : Nat) : State :=
  let s := if c = Code.eProto then s.fbInc 0x60E0 0xB else if c = Code.eVersion then s.fbInc 0x60E0 0xC else s
  if c = Code.ok then s else s.fwLog (serverFw (s.get (Reg.MBX_MB_CFG_SERVER m)))

/-- The request at RPTR of a mailbox is served if its TYPE is the row's, or one that no row has (R393): the first failed
check is answered; else the type's handler runs and RPTR passes the slot. A slot that cannot be read is passed. -/
def State.mbServe (s : State) (m type : Nat) (handler : State → Attr → List Nat → Answer) : State :=
  if !s.mbReady m then s
  else match s.reach (s.mbAttr m) false (s.get (Reg.MBX_MB_REQ_BASE_BASE m) + 256 * s.get (Reg.MBX_MB_REQ_RPTR_RPTR m)) 256 with
  | (.ok, s) =>
    let r := s.mbRequest m
    if r.type != type && typeKnown r.type then s
    else
      let c := s.mbCode m r
      if c ≠ Code.ok then (((s.mbCount m c).mbPass m).mbReply m r c (failPayload s m r c))
      else
        let (st, pl, s) := handler s (s.mbAttr m) r.payload
        ((s.mbCount m st).mbPass m).mbReply m r st pl
  | (_, s) => s.mbPass m

/-! ## ATTACH and DETACH (R394) -/

/-- The best offer of a served major (1), with MINOR = min(offered, 0): the firmware serves version 1.0. -/
def offersOne (pl : List Nat) : Bool := (List.range 4).any (fun i => payLe pl (4 * i + 1) 1 = 1)

/-- ATTACH. -/
def State.reqAttach (m : Nat) (s : State) (at' : Attr) (pl : List Nat) : Answer :=
  if !offersOne pl then (Code.eVersion, [], s)
  else
    let s := ((s.set (Reg.MBX_MB_STATUS_ATTACHED m) 1).set (Reg.MBX_MB_VERSION_MAJOR m) 1).set (Reg.MBX_MB_VERSION_MINOR m) 0
    let e := (s.mbox m).epoch + 1
    let (res, s) := (s.setMbox m { s.mbox m with epoch := e }).resume at'.partition
    (Code.ok, leBytes 4 256 ++ leBytes 4 e ++ leBytes 4 (b2n res), s)

/-- ATTACH (R394). -/
def execAttach (mailbox : Fin 64) (s : State) : Out := done (s.mbServe mailbox.val 1 (State.reqAttach mailbox.val))

/-- DETACH (R394): answered OK; ATTACHED clears. -/
def execDetach (mailbox : Fin 64) (s : State) : Out :=
  let m := mailbox.val
  let s' := s.mbServe m 2 (fun s _ _ => (Code.ok, [], s.mbDetach m))
  done (if s.bit (Reg.MBX_MB_STATUS_ATTACHED m) && !s'.bit (Reg.MBX_MB_STATUS_ATTACHED m)
    then s'.checkDetached (s.mbAttr m).partition else s')

/-! ## LOG_READ (R395–R397) -/

/-- The Secure world or the hypervisor partition. -/
def State.superUser (s : State) (at' : Attr) : Bool := at'.secure || at'.partition = s.fbGet 0x7500 1

/-- The processor's ring is read under the firmware's own attribute (R387) where a record stands there. -/
def State.ringReach (s : State) (n i k : Nat) : Reach × State :=
  let l := s.fwLogOf n
  if k = 0 ∨ l.count - l.pending.length ≤ i then (.ok, s) else s.reach ⟨true, 0⟩ false (Config.logArea + 65536 * n) 65536

/-- Log record `i` of a processor: in its buffer, or in its ring. -/
def State.logRecord (s : State) (n i : Nat) : List Nat :=
  let l := s.fwLogOf n
  let first := l.count - l.pending.length
  if first ≤ i then l.pending.getD (i - first) [] else s.rd (Config.logArea + 65536 * n + 16 * (i % 4096)) 16

/-- The number of the record from which a LOG_READ starts: the record with the first SEQ, or the oldest that stands. -/
def FwLog.from (l : FwLog) (seq : Nat) : Nat :=
  let back := (l.count + 65536 - seq) % 65536
  let oldest := (l.count - l.pending.length) - 4096
  if l.count < 65536 ∧ l.count ≤ seq then l.count else max oldest (l.count - back)

/-- LOG_READ. -/
def State.reqLogRead (s : State) (at' : Attr) (pl : List Nat) : Answer :=
  let n := payLe pl 0 4
  let k := payLe pl 8 4
  let c := firstCode [(decide (22 < n), Code.eIllegal), (k = 0, Code.eLength), (!s.superUser at', Code.eAccess)]
  if c ≠ Code.ok then (c, [], s)
  else
    let l := s.fwLogOf n
    let i := l.from (payLe pl 4 4)
    let k := min k (l.count - i)
    match s.ringReach n i k with
    | (.ok, s) => (c, (List.range k).flatMap (fun j => s.logRecord n (i + j)), s)
    | (r, s) => (r.code, [], s)

/-- LOG_READ (R396, R397). -/
def execLogRead (mailbox : Fin 64) (s : State) : Out := done (s.mbServe mailbox.val 7 State.reqLogRead)

/-! ## Requests to the gateway controller (R338) -/

/-- FLOW_SET. -/
def execFlowSet (mailbox : Fin 64) (s : State) : Out :=
  done (s.mbServe mailbox.val 0x50 (fun s a p => plainAnswer (s.reqFlowSet a p)))
/-- MAP_SET. -/
def execMapSet (mailbox : Fin 64) (s : State) : Out :=
  done (s.mbServe mailbox.val 0x51 (fun s a p => plainAnswer (s.reqMapSet a p)))
/-- DEST_SET. -/
def execDestSet (mailbox : Fin 64) (s : State) : Out :=
  done (s.mbServe mailbox.val 0x52 (fun s a p => plainAnswer (s.reqDestSet a p)))
/-- EP_OPEN. -/
def execEpOpen (mailbox : Fin 64) (s : State) : Out :=
  done (s.mbServe mailbox.val 0x53 (fun s a p => plainAnswer (s.reqEpOpen a p)))
/-- EP_CLOSE. -/
def execEpClose (mailbox : Fin 64) (s : State) : Out :=
  done (s.mbServe mailbox.val 0x54 (fun s a p => plainAnswer (s.reqEpClose a p)))

end Sys2Proof.Machine
end

