-- ==== Sys2Proof/Machine/Kv.lean ====
section
/-! DEFINITION. The requests to engine scheduler 0: KV pools, sequences and steps (R128–R136, R143–R145), training
registrations (R149, R152) and collective groups (R179, R180). -/

namespace Sys2Proof.Machine
open Sys2Proof

/-! ## Pools (R128, R135) -/

/-- The pool that a KV_POOL request describes. -/
def poolOf (at' : Attr) (pl : List Nat) : KvPool :=
  { partition := bitsOf (payLe pl 0 4) 13 8, secure := at'.secure, fmt := bitsOf (payLe pl 0 4) 19 16,
    headsKv := payLe pl 4 1, layers := payLe pl 5 1, headDim := payLe pl 6 2, ptPages := payLe pl 8 2,
    pageCount := payLe pl 0xC 4, spillPages := payLe pl 0x10 4, base := payLe pl 0x18 6, spillBase := payLe pl 0x20 6,
    buckets := (List.range 8).map (fun i => payLe pl (0x28 + 4 * i) 4) }

/-- The request's partition does not own the pool. -/
def foreign (at' : Attr) : Option KvPool → Bool
  | some p => p.partition != at'.partition
  | none => false

/-- The bucket limits: ascending from 1, the last one 16 × PT_PAGES where PT_PAGES is a legal count (R22, R23). -/
def KvPool.bucketsOk (p : KvPool) : Bool :=
  decide (0 < natAt p.buckets 0) && (List.range 7).all (fun i => decide (natAt p.buckets i < natAt p.buckets (i + 1))) &&
  (p.ptPages = 0 || p.ptPages = 0xFFFF || natAt p.buckets 7 = 16 * p.ptPages)

/-- The checks of KV_POOL in the order of R25. A page count of all ones is rejected by R23, though the range of R128 takes it
in (DEDUCED: log entry 48). -/
def State.poolChk (s : State) (at' : Attr) (i : Nat) (p : KvPool) : Nat :=
  let total := s.eng.pools.foldl (fun n q => n + q.2.pageCount + q.2.spillPages) 0
  firstCode
    [(decide (0xB < p.fmt) || decide (p.headDim < 32) || decide (256 < p.headDim) || p.headDim % 32 != 0 || !p.bucketsOk ||
        (p.spillPages = 0 && p.spillBase != 0), Code.eIllegal),
     (p.headsKv = 0 || p.headsKv = 0xFF || p.layers = 0 || p.layers = 0xFF || p.ptPages = 0 || p.ptPages = 0xFFFF ||
        p.pageCount = 0 || p.pageCount = 2 ^ 20 - 1 || p.spillPages = 2 ^ 20 - 1, Code.eLength),
     (p.base % 4096 != 0 || p.spillBase % 4096 != 0, Code.eAlign),
     (decide (1048576 < total + p.pageCount + p.spillPages), Code.eBounds),
     (p.partition != at'.partition || foreign at' (s.pool i), Code.eAccess),
     ((s.pool i).isSome, Code.eState)]

/-- KV_POOL. -/
def State.reqKvPool (s : State) (at' : Attr) (pl : List Nat) : Answer :=
  let p := poolOf at' pl
  let i := payLe pl 0 1 % 16
  let c := s.poolChk at' i p
  if c = Code.ok then (c, [], s.setPool i p) else (c, [], s)

/-- Row `r` is of pool `i`. -/
def State.inPool (s : State) (i r : Nat) : Bool := (s.row r).state != 0 && (s.row r).pool = i

/-- KV_POOL_CLOSE. -/
def State.reqPoolClose (s : State) (at' : Attr) (pl : List Nat) : Answer :=
  let i := payLe pl 0 1 % 16
  let c := firstCode [(foreign at' (s.pool i), Code.eAccess),
    ((s.pool i).isNone || s.eng.rows.any (fun r => s.inPool i r.1), Code.eState)]
  if c ≠ Code.ok then (c, [], s)
  else
    let lines := s.eng.kvLines.map (fun p => (p.1, p.2.filter (fun l => l.pool != i)))
    (c, [], { s with eng := { s.eng with pools := KMap.del s.eng.pools i, kvLines := lines } })

/-! ## Rows (R131, R132, R135) -/

/-- The lowest FREE row. -/
def State.freeRow (s : State) : Option Nat := (List.range 4096).find? (fun r => (s.row r).state = 0)

/-- Bytes of the sequence region (R131). -/
def State.seqBytes (s : State) : Nat := s.fbGet 0x7110 1 * 2 ^ 20

/-- The place that firmware gives a row's page table: a free value within the sequence region, after the rows (R131; DESIGN
CHOICE: log entry 48). -/
def State.tablePlace (s : State) (free : Nat) : Nat := s.eng.seqBase + 0x20000 + 4 * (free % ((s.seqBytes - 0x20000) / 4))

/-- SEQ_OPEN. The address of the row's page table is the firmware's. -/
def State.reqSeqOpen (s : State) (at' : Attr) (pl : List Nat) : Answer :=
  let w := payLe pl 0 4
  let i := w % 16
  let c := firstCode [(foreign at' (s.pool i), Code.eAccess), (s.freeRow.isNone, Code.eBusy), ((s.pool i).isNone, Code.eState)]
  match c, s.freeRow with
  | 0, some r =>
    let (pt, s) := s.freeNat
    (c, leBytes 4 r, s.setRow r { state := 1, spillable := bitOf w 4, pool := i, prio := bitsOf w 15 8, queue := bitsOf w 23 16,
                                  newKv := payLe pl 4 4, ptBase := s.tablePlace pt })
  | c, _ => (c, [], s)

/-- A row of another partition. -/
def State.foreignRow (s : State) (at' : Attr) (r : Nat) : Bool :=
  (s.row r).state != 0 && foreign at' (s.pool (s.row r).pool)

/-- SEQ_CLOSE. -/
def State.reqSeqClose (s : State) (at' : Attr) (pl : List Nat) : Answer :=
  let r := payLe pl 0 4
  let st := (s.row r).state
  let c := firstCode [(s.foreignRow at' r, Code.eAccess), (st != 1 && st != 4, Code.eState)]
  if c = Code.ok then (c, [], s.setRow r {}) else (c, [], s)

/-- SEQ_READ. -/
def State.reqSeqRead (s : State) (at' : Attr) (pl : List Nat) : Answer :=
  let r := payLe pl 0 4
  if s.foreignRow at' r then (Code.eAccess, [], s) else (Code.ok, (s.row r).bytes, s)

/-- SPILL_FREE. -/
def State.reqSpillFree (s : State) (at' : Attr) (pl : List Nat) : Answer :=
  let r := payLe pl 0 4
  let row := s.row r
  let c := firstCode [(s.foreignRow at' r, Code.eAccess), (row.state != 3, Code.eState)]
  if c = Code.ok then
    (c, [], (s.freePages row.pool (row.pt.map Prod.snd)).setRow r { row with state := 4, len := 0, pt := [] })
  else (c, [], s)

/-! ## Steps (R143–R145) -/

/-- An entry of the step buffer. -/
structure StepEntry where
  row : Nat
  leave : Bool
  bad : Bool
  q : Nat
  deriving DecidableEq, Repr

/-- The entries of a step buffer. -/
def State.stepEntries (s : State) (a : Nat) : List StepEntry :=
  (List.range (s.rdLe (a + 8) 2)).map (fun i =>
    let w := s.rdLe (a + 16 + 8 * i) 4
    ⟨bitsOf w 11 0, bitsOf w 13 12 = 1, decide (2 ^ 13 ≤ w), s.rdLe (a + 20 + 8 * i) 4⟩)

/-- Pages that a sequence of `n` tokens takes. -/
def KvPool.pages (p : KvPool) (n : Nat) : Nat := p.layers * ceilDiv n 16

/-- The RUNNING rows of a pool, ascending. -/
def State.batchRows (s : State) (i : Nat) : List Nat :=
  (s.eng.rows.filter (fun r => s.inPool i r.1 && r.2.state = 2)).map Prod.fst

/-- The first entry that fails a check, by index. -/
def firstEntry (es : List StepEntry) (f : Nat → StepEntry → Bool) : Option Nat :=
  (List.range es.length).find? (fun i => match es[i]? with | some e => f i e | none => false)

/-- The pool or the step's queue is of a VTE that is FREEZING (R175). -/
def State.stepFrozen (s : State) (i queue : Nat) : Bool :=
  (List.range 32).any (fun v => s.vteState v = 2 &&
    (((s.vteQueues v).contains queue) || (s.poolsOf (s.vteRows (s.vteQueues v))).contains i))

/-- The checks of KV_STEP on header and entries in the order of R25, then the chapter's: the code, and the index of the
first failing entry (0xFFFF: none). -/
def State.stepChk (s : State) (at' : Attr) (i a : Nat) : Nat × Nat :=
  let es := s.stepEntries a
  let qRun := s.rdLe (a + 4) 4
  let n := s.rdLe (a + 8) 2
  let pool := s.pool i
  let cap := match pool with | some p => 16 * p.ptPages | none => 0
  let leavers := (es.filter StepEntry.leave).map StepEntry.row
  let tooLong := fun (_ : Nat) (e : StepEntry) => decide (cap < (s.row e.row).len + (if e.leave then qRun else e.q))
  let wrong := fun (_ : Nat) (e : StepEntry) =>
    let r := s.row e.row
    if e.leave then r.state != 2 || r.pool != i else r.state = 0 || r.pool != i || r.state = 2
  let checks : List (Option Nat × Nat) :=
    [(if s.rdLe (a + 1) 1 ≠ 0 ∨ (65534 < qRun ∧ qRun ≠ 2 ^ 32 - 1) ∨ (4096 < n ∧ n ≠ 0xFFFF) then some 0xFFFF else none, Code.eIllegal),
     (firstEntry es (fun k e => e.bad || (e.leave && e.q != 0) || (decide (65534 < e.q) && e.q != 2 ^ 32 - 1) ||
        (es.take k).any (fun f => f.row = e.row)), Code.eIllegal),
     (if qRun = 2 ^ 32 - 1 ∨ n = 0xFFFF then some 0xFFFF else none, Code.eLength),
     (firstEntry es (fun _ e => !e.leave && (e.q = 0 || e.q = 2 ^ 32 - 1)), Code.eLength),
     (if pool.isSome then firstEntry es tooLong else none, Code.eBounds),
     (if pool.isSome && (s.batchRows i).any (fun r => !leavers.contains r && decide (cap < (s.row r).len + qRun)) then some 0xFFFF
      else none, Code.eBounds),
     (if foreign at' pool then some 0xFFFF else none, Code.eAccess),
     (firstEntry es (fun _ e => s.foreignRow at' e.row), Code.eAccess),
     (if (KMap.find s.eng.steps i).isSome then some 0xFFFF else none, Code.eBusy),
     (if pool.isNone || s.stepFrozen i (s.rdLe a 1) then some 0xFFFF else none, Code.eState),
     (firstEntry es wrong, Code.eState)]
  match checks.find? (fun c => c.1.isSome) with
  | some (k, c) => (c, k.getD 0xFFFF)
  | none => (Code.ok, 0xFFFF)

/-- The lowest free indexes of an area of `count` pages. -/
def lowestFree (count : Nat) (used : List Nat) (n : Nat) : List Nat :=
  ((List.range count).filter (fun p => !used.contains p)).take n

/-- A page's content is copied under the pool's attribute. -/
def State.copyPage (s : State) (p : KvPool) (src dst : Nat) : State :=
  match s.reach p.attr false src p.pageBytes with
  | (.ok, s) => (match s.reach p.attr true dst p.pageBytes with
    | (.ok, s) => s.wr dst (s.rd src p.pageBytes)
    | (_, s) => s)
  | (_, s) => s

def KvPool.pageAddr (p : KvPool) (e : Bool × Nat) : Nat := (if e.1 then p.spillBase else p.base) + e.2 * p.pageBytes

/-- Row `r` is evicted (R145): to spill pages in page-table order where it may and they suffice, else dropped. -/
def State.evict (s : State) (i r : Nat) : State :=
  match s.pool i with
  | none => s
  | some p =>
    let row := s.row r
    let held := row.pt.length
    let sp := lowestFree p.spillPages p.spillUsed held
    if row.spillable && sp.length = held then
      let pairs := row.pt.zip sp
      let s := pairs.foldl (fun s x => s.copyPage p (p.pageAddr x.1.2) (p.pageAddr (true, x.2))) s
      let s := s.setPool i { p with spillUsed := p.spillUsed ++ sp }
      let s := s.freePages i (row.pt.map Prod.snd)
      (s.setRow r { row with state := 3, pend := 0, pt := pairs.map (fun x => (x.1.1, (true, x.2))) }).fbInc 0x6040 4
    else ((s.freePages i (row.pt.map Prod.snd)).setRow r { row with state := 4, pend := 0, len := 0, pt := [] }).fbInc 0x6040 5

/-- The row that R144 evicts next: the lowest PRIO of the batch that does not leave, among equals the highest number. -/
def State.victim (s : State) (run : List Nat) : Option Nat :=
  run.foldl (fun best r =>
    if (s.row r).leaving then best
    else match best with
      | none => some r
      | some b => if (s.row r).prio ≤ (s.row b).prio then some r else best) none

/-- Free pages of a pool. -/
def State.poolFree (s : State) (i : Nat) : Nat :=
  match s.pool i with
  | some p => p.pageCount - p.used.length
  | none => 0

/-- Pages that a row still needs for its new tokens. -/
def State.growth (s : State) (i r : Nat) : Nat :=
  match s.pool i with
  | some p => p.pages ((s.row r).len + (s.row r).pend) - (s.row r).pt.length
  | none => 0

/-- Rows are evicted until the growth fits: the batch that is left and the rows evicted; none where it cannot fit. -/
def State.evictLoop (s : State) (i : Nat) : Nat → List Nat → List Nat → Option (List Nat × List Nat × State)
  | 0, run, ev => if (run.map (s.growth i)).foldl (· + ·) 0 ≤ s.poolFree i then some (run, ev, s) else none
  | n + 1, run, ev =>
    if (run.map (s.growth i)).foldl (· + ·) 0 ≤ s.poolFree i then some (run, ev, s)
    else match s.victim run with
      | none => none
      | some v => (s.evict i v).evictLoop i n (run.filter (· != v)) (ev ++ [v])

/-- Pages are reserved for logical pages `lo` to `hi` − 1 of every layer of a row, the lowest free ones; the page-table
indexes reserved. -/
def State.reserve (s : State) (i r lo hi : Nat) : List (Nat × Nat) × State :=
  match s.pool i with
  | none => ([], s)
  | some p =>
    let idx := (List.range p.layers).flatMap (fun l => (List.range (hi - lo)).map (fun k => l * p.ptPages + lo + k))
    let pages := lowestFree p.pageCount p.used idx.length
    let pairs := idx.zip pages
    let s := s.setPool i { p with used := p.used ++ pages }
    let row := s.row r
    (idx.map (fun e => (r, e)), s.setRow r { row with pt := pairs.foldl (fun m x => KMap.put m x.1 (false, x.2)) row.pt })

/-- The smallest bucket that holds a token count. -/
def KvPool.bucketOf (p : KvPool) (n : Nat) : Nat := ((List.range 8).find? (fun b => decide (n ≤ natAt p.buckets b))).getD 7

/-- A joiner that fits is admitted (R144): its pages reserved, its spill pages restored into them. -/
def State.join (s : State) (i : Nat) (e : StepEntry) (job : Nat) : List (Nat × Nat) × State :=
  match s.pool i with
  | none => ([], s)
  | some p =>
    let old := s.row e.row
    let s := s.setRow e.row { old with state := 2, pend := e.q, pt := [], job := job, bucket := p.bucketOf (old.len + e.q) }
    let (res, s) := s.reserve i e.row 0 (ceilDiv (old.len + e.q) 16)
    if old.state = 3 then
      let s := old.pt.foldl (fun s x =>
        match KMap.find (s.row e.row).pt x.1 with
        | some n => s.copyPage p (p.pageAddr x.2) (p.pageAddr n)
        | none => s) s
      (res, s.fbInc 0x6040 6)
    else (res, s)

/-- Joiners in their order: those admitted (with their rows as they stood), the pages reserved; the first that does not
fit and all later ones are deferred. -/
def State.joinAll (s : State) (i job : Nat) : List StepEntry → List (Nat × SeqRow) × List (Nat × Nat) × List Nat × State
  | [] => ([], [], [], s)
  | e :: es =>
    let n := match s.pool i with | some p => p.pages ((s.row e.row).len + e.q) | none => 0
    if s.poolFree i < n then ([], [], e.row :: es.map StepEntry.row, s)
    else
      let old := s.row e.row
      let (res, s) := s.join i e job
      let (js, rs, ds, s) := s.joinAll i job es
      ((e.row, old) :: js, res ++ rs, ds, s)

/-- Joiners by descending PRIO, then entry order. -/
def State.joinOrder (s : State) (es : List StepEntry) : List StepEntry :=
  let js := es.filter (fun e => !e.leave)
  (List.range 256).reverse.flatMap (fun p => js.filter (fun e => (s.row e.row).prio = p))

/-- The growth pages of the batch are reserved. -/
def State.reserveRun (s : State) (i : Nat) (run : List Nat) : List (Nat × Nat) × State :=
  run.foldl (fun acc r =>
    let row := acc.2.row r
    let (res, s) := acc.2.reserve i r (ceilDiv row.len 16) (ceilDiv (row.len + row.pend) 16)
    (acc.1 ++ res, s)) ([], s)

/-- The step transaction (R144): the state with the step open and the outcome records (row, outcome), or none where the
batch cannot be served. -/
def State.stepRun (s : State) (i a : Nat) : Option (List (Nat × Nat) × State) :=
  match s.pool i with
  | none => none
  | some p =>
    let es := s.stepEntries a
    let queue := s.rdLe a 1
    let job := s.rdLe (a + 2) 2
    let leavers := (es.filter StepEntry.leave).map StepEntry.row
    let run := s.batchRows i
    let s := run.foldl (fun s r => s.setRow r { s.row r with pend := s.rdLe (a + 4) 4, leaving := leavers.contains r }) s
    match s.evictLoop i run.length run [] with
    | none => none
    | some (run, ev, s) =>
      let s := run.foldl (fun s r => s.setRow r { s.row r with job := job, bucket := p.bucketOf ((s.row r).len + (s.row r).pend) }) s
      let (res, s) := s.reserveRun i run
      let (js, res', ds, s) := s.joinAll i job (s.joinOrder es)
      let joined := js.map Prod.fst
      let number := (match s.pool i with | some p => p.stepNo | none => 0) + 1
      let s := match s.pool i with | some p => s.setPool i { p with stepNo := number } | none => s
      let st : KvStep := { queue := queue, job := job, number := number, served := run ++ joined, reserved := res ++ res', joiners := js }
      let s := { s with eng := { s.eng with steps := KMap.put s.eng.steps i st } }
      let s := ds.foldl (fun s _ => s.fbInc 0x6040 3) s
      let out : List (Nat × Nat) := run.map (fun r => (r, if (s.row r).leaving then 5 else 0)) ++ joined.map (fun r => (r, 1)) ++
        ds.map (fun r => (r, 2)) ++ ev.map (fun r => (r, if (s.row r).state == 3 then 3 else 4))
      some (out, s)

/-- A row's bucket: the smallest that holds LEN + PEND (R143). -/
def KvPool.rowBucket (p : KvPool) (r : SeqRow) : Nat := p.bucketOf (r.len + r.pend)

/-- The outcome records of pool `p` in ascending bucket, then row (R143). -/
def State.outcome (s : State) (p : KvPool) (out : List (Nat × Nat)) : List Nat :=
  let touched := (List.range 4096).filter (fun r => out.any (fun o => o.1 = r))
  let rows := (List.range 8).flatMap (fun b => touched.filter (fun r => p.rowBucket (s.row r) = b))
  rows.flatMap (fun r =>
    let code := ((out.find? (fun o => o.1 = r)).map Prod.snd).getD 0
    leBytes 4 (r + 2 ^ 12 * code + 2 ^ 16 * p.rowBucket (s.row r)) ++ leBytes 4 (s.row r).pend)

/-- KV_STEP. -/
def State.reqKvStep (s : State) (at' : Attr) (pl : List Nat) : Answer :=
  let i := payLe pl 0 1 % 16
  let a := payLe pl 8 8
  if a % 16 ≠ 0 then (Code.eAlign, leBytes 4 0xFFFF, s)
  else match s.reach at' false a 16 with
  | (.ok, s) => (match s.reach at' false a (16 + 8 * min 4096 (s.rdLe (a + 8) 2)) with
    | (.ok, s) =>
      let (c, k) := s.stepChk at' i a
      if c ≠ Code.ok then (c, leBytes 4 k, s)
      else match s.stepRun i a with
      | none => (Code.eKvExhausted, leBytes 4 0xFFFF, s.fbInc 0x6040 7)
      | some (out, t) =>
        match s.reach at' true a (16 + 8 * out.length) with
        | (.ok, _) =>
          let number := match KMap.find t.eng.steps i with | some st => st.number | none => 0
          let records := match t.pool i with | some p => t.outcome p out | none => []
          (Code.ok, [], ((t.wr (a + 0xA) (leBytes 2 out.length)).wr (a + 0xC) (leBytes 4 number)).wr (a + 16) records)
        | (r, s) => (r.code, leBytes 4 0xFFFF, s)
    | (r, s) => (r.code, leBytes 4 0xFFFF, s))
  | (r, s) => (r.code, leBytes 4 0xFFFF, s)

/-! ## Training (R149, R152) -/

/-- FP32 codes: between 0 and 1; positive; finite and not negative. -/
def inUnit (c : Nat) : Bool := decide (0 < c) && decide (c < 0x3F800000)
def positive (c : Nat) : Bool := decide (0 < c) && decide (c ≤ 0x7F800000)
def finiteNonneg (c : Nat) : Bool := decide (c < 0x7F800000) || c = 0x80000000

/-- Elements of a record. -/
def Rec.elements (r : Rec) : Nat := r.d0 * r.d1 * r.d2 * r.d3

/-- The failures of an optimiser entry (R149) with a queue's tensor table: those of the entry, of its records, and of
handles outside the table, whose records are not judged. -/
def State.groupChk (s : State) (k : Nat) (gr : Group) : Chk :=
  let there := fun h => decide (h < s.get (qTtCount k))
  let tt := fun h => readRec s (ttAddr (s.get (qTtBase k)) h)
  let inTable := gr.handles.filter there
  (s.groupRecChk k gr).or
    { illegal := inTable.any (fun h => gr.written.contains h && !((tt h).stage && (tt h).jobOut)) ||
        ([gr.w, gr.m, gr.v, gr.g].filter there).any (fun h => (tt h).fmtCode != 12) ||
        !inUnit gr.beta1 || !inUnit gr.beta2 || !positive gr.eps || !finiteNonneg gr.lr || !finiteNonneg gr.lambda,
      length := gr.count = 0 || gr.count = 2 ^ 32 - 1 || inTable.any (fun h => (tt h).elements != gr.count) }

/-- The checks of TRAIN_OPEN: the code and the first failing group. The header comes first, then the entries in order, each
in the order of R25. -/
def State.trainChk (s : State) (at' : Attr) (k a : Nat) : Nat × Nat :=
  let n := s.rdLe (a + 2) 2
  let c := firstCode
    [(decide (1024 < n) && n != 0xFFFF, Code.eIllegal), (n = 0 || n = 0xFFFF, Code.eLength),
     (s.get (qPartF k) != at'.partition, Code.eAccess), (s.rdLe a 2 != 1, Code.eVersion), ((s.training k).isSome, Code.eState)]
  if c ≠ Code.ok then (c, 0xFFFF)
  else
    let cs := (s.trainGroups a).map (fun g => (s.groupChk k g).code)
    match cs.find? (· != Code.ok) with
    | some c => (c, cs.findIdx (· != Code.ok))
    | none => (Code.ok, 0xFFFF)

/-- TRAIN_OPEN: the engine takes STEP, P1, P2 and CKPT from the header. -/
def State.reqTrainOpen (s : State) (at' : Attr) (pl : List Nat) : Answer :=
  let k := payLe pl 0 1
  let a := payLe pl 8 8
  if a % 4096 ≠ 0 then (Code.eAlign, leBytes 4 0xFFFF, s)
  else match s.reach at' false a 256 with
  | (.ok, s) => (match s.reach at' false a (256 + 64 * min 1024 (s.rdLe (a + 2) 2)) with
    | (.ok, s) =>
      let (c, g) := s.trainChk at' k a
      if c ≠ Code.ok then (c, leBytes 4 g, s)
      else
        let t : Training := ⟨a, s.rdLe (a + 8) 4, s.rdLe (a + 0xC) 4, s.rdLe (a + 0x10) 4, s.rdLe (a + 0x14) 4⟩
        (c, [], { s with eng := { s.eng with train := KMap.put s.eng.train k t } })
    | (r, s) => (r.code, leBytes 4 0xFFFF, s))
  | (r, s) => (r.code, leBytes 4 0xFFFF, s)

/-- TRAIN_CKPT: the checkpoint of step t is complete (R152). -/
def State.reqTrainCkpt (s : State) (at' : Attr) (pl : List Nat) : Answer :=
  let k := payLe pl 0 1
  if s.get (qPartF k) ≠ at'.partition then (Code.eAccess, [], s)
  else match s.training k with
  | none => (Code.eState, [], s)
  | some t => (Code.ok, [], { s with eng := { s.eng with train := KMap.put s.eng.train k { t with ckpt := payLe pl 4 4 } } })

/-- TRAIN_CLOSE. -/
def State.reqTrainClose (s : State) (at' : Attr) (pl : List Nat) : Answer :=
  let k := payLe pl 0 1
  let c := firstCode [(s.get (qPartF k) != at'.partition, Code.eAccess), ((s.job k).isSome, Code.eBusy),
    ((s.training k).isNone, Code.eState)]
  if c = Code.ok then (c, [], { s with eng := { s.eng with train := KMap.del s.eng.train k } }.sessionSettle) else (c, [], s)

/-! ## Collective groups (R179, R180) -/

/-- COLL_GROUP. -/
def State.reqCollGroup (s : State) (at' : Attr) (pl : List Nat) : Answer :=
  let w := payLe pl 0 4
  let g := w % 256
  let packages := bitsOf w 11 8
  let k := bitsOf w 23 16
  let landing := payLe pl 8 8
  let size := payLe pl 0x10 4
  let n := ((List.range 4).filter (bitOf packages)).length
  let c := firstCode
    [(decide (n < 2), Code.eIllegal), (size = 0 || size = 2 ^ 32 - 1, Code.eLength), (landing % 4096 != 0 || size % (4096 * n) != 0, Code.eAlign),
     (!s.inDram landing size, Code.eBounds),
     (s.get (qPartF k) != at'.partition || !s.canReach at' true landing size ||
        (match s.coll g with | some c => c.partition != at'.partition | none => false), Code.eAccess),
     ((s.groupJob g).isSome, Code.eBusy)]
  if c = Code.ok then
    (c, [], { s with eng := { s.eng with colls := KMap.put s.eng.colls g ⟨packages, k, at'.partition, landing, size⟩ } })
  else (c, [], s)

/-- COLL_CLOSE. -/
def State.reqCollClose (s : State) (at' : Attr) (pl : List Nat) : Answer :=
  let g := payLe pl 0 1
  let c := firstCode
    [((match s.coll g with | some c => c.partition != at'.partition | none => false), Code.eAccess),
     ((s.groupJob g).isSome, Code.eBusy), ((s.coll g).isNone, Code.eState)]
  if c = Code.ok then (c, [], { s with eng := { s.eng with colls := KMap.del s.eng.colls g } }) else (c, [], s)

/-! ## Rows of the command table -/

/-- KV_POOL (R128, R135). -/
def execKvPool (mailbox : Fin 64) (s : State) : Out := done (s.mbServe mailbox.val 0x40 State.reqKvPool)
/-- KV_POOL_CLOSE (R135). -/
def execKvPoolClose (mailbox : Fin 64) (s : State) : Out := done (s.mbServe mailbox.val 0x41 State.reqPoolClose)
/-- SEQ_OPEN (R135). -/
def execSeqOpen (mailbox : Fin 64) (s : State) : Out := done (s.mbServe mailbox.val 0x42 State.reqSeqOpen)
/-- SEQ_CLOSE (R135). -/
def execSeqClose (mailbox : Fin 64) (s : State) : Out := done (s.mbServe mailbox.val 0x43 State.reqSeqClose)
/-- SEQ_READ (R135). -/
def execSeqRead (mailbox : Fin 64) (s : State) : Out := done (s.mbServe mailbox.val 0x44 State.reqSeqRead)
/-- KV_STEP (R144). -/
def execKvStep (mailbox : Fin 64) (s : State) : Out := done (s.mbServe mailbox.val 0x45 State.reqKvStep)
/-- SPILL_FREE (R135). -/
def execSpillFree (mailbox : Fin 64) (s : State) : Out := done (s.mbServe mailbox.val 0x46 State.reqSpillFree)
/-- TRAIN_OPEN (R149). -/
def execTrainOpen (mailbox : Fin 64) (s : State) : Out := done (s.mbServe mailbox.val 0x47 State.reqTrainOpen)
/-- TRAIN_CKPT (R152). -/
def execTrainCkpt (mailbox : Fin 64) (s : State) : Out := done (s.mbServe mailbox.val 0x48 State.reqTrainCkpt)
/-- TRAIN_CLOSE (R135). -/
def execTrainClose (mailbox : Fin 64) (s : State) : Out := done (s.mbServe mailbox.val 0x49 State.reqTrainClose)
/-- COLL_GROUP (R179). -/
def execCollGroup (mailbox : Fin 64) (s : State) : Out := done (s.mbServe mailbox.val 0x4A State.reqCollGroup)
/-- COLL_CLOSE (R179). -/
def execCollClose (mailbox : Fin 64) (s : State) : Out := done (s.mbServe mailbox.val 0x4B State.reqCollClose)

end Sys2Proof.Machine
end

