-- ==== Sys2Proof/Machine/Power.lean ====
section
/-! DEFINITION. The PMU controller: its loop and states, ceilings, shedding, the training grant (R403–R410), rails, and the
requests that switch power and clock domains or enter sleep (R395, R396, R402, R428, R434). -/

namespace Sys2Proof.Machine
open Sys2Proof

def State.setPmu (s : State) (p : Pmu) : State := { s with pmu := p }

/-- The PMU state of R407: 0 NORMAL, 1 THROTTLE, 2 EMERGENCY, 3 FAILED. -/
def State.pmuState (s : State) : Nat := s.fbGet 0x4000 5
def State.shedLevel (s : State) : Nat := s.fbGet 0x4000 6
def State.granted (s : State) : Bool := s.fbGet 0x4000 7 = 1

/-! ## The training grant (R410, R151) -/

def State.withdrawGrant (s : State) : State :=
  if s.granted then
    let s := ((s.fbSet 0x4000 7 0).fbInc 0x60E0 7).set Reg.PMU_EVENTS_GRANT 1
    { s with eng := { s.eng with sessionSpent := false } }.sessionClose
  else s

/-- The session opens while the grant stands and FB 0x7100.01 is 1, but not again after its time limit (R151). -/
def State.openSession (s : State) : State :=
  if s.granted && s.fbGet 0x7100 1 = 1 && s.session = 0 && !s.eng.sessionSpent then
    { s.fbSet 0x7100 3 1 with eng := { s.eng with sessionStart := s.datum } }
  else s

/-- The grant is given when FB 0x7100.01 is 1, the state has been NORMAL for 1 s and step 2 of shedding does not stand. -/
def State.tryGrant (s : State) : State :=
  if !s.granted && s.fbGet 0x7100 1 = 1 && s.pmuState = 0 && decide (s.pmu.normalSince + 1000000000 ≤ s.datum) &&
      decide (s.shedLevel < 2) then (s.fbSet 0x4000 7 1).set Reg.PMU_EVENTS_GRANT 1
  else s

/-! ## Points and ceilings (R404–R407) -/

/-- The ceiling of a partition: the top for a protected one, point 0 where shedding says so (R406, R408). -/
def State.ceilingT (s : State) (p : Nat) : Nat :=
  if s.protected p then 6 else if s.shedHeld p then 0 else KMap.getD s.pmu.ceilT p 6
def State.ceilingG (s : State) (p : Nat) : Nat :=
  if s.protected p then 3
  else if s.shedHeld p || (decide (3 ≤ s.shedLevel) && p = s.fbGet 0x4010 2) then 0
  else KMap.getD s.pmu.ceilG p 3

/-- A cluster runs an admitted job. -/
def State.clusterBusy (s : State) (c : Nat) : Bool := s.eng.jobs.any (fun p => !isPlumb p.1 && bitOf p.2.clusters c)

def State.setPointT (s : State) (c v : Nat) : State := s.setPmu { s.pmu with pointT := KMap.set 6 s.pmu.pointT c v }

/-- At the opening of a window the PMU sets its units to the ceiling of its partition (R406); a cluster on which a job
runs is not lowered (R161). -/
def State.operatingPoint (s : State) (w : OpenWindow) : State :=
  if s.fwDown 20 then s
  else if w.entry.resource = 0 then
    (clusterList w.entry.units).foldl (fun s c =>
      let v := s.ceilingT w.entry.partition
      if v < KMap.getD s.pmu.pointT c 6 && s.clusterBusy c then s else s.setPointT c v) s
  else if w.entry.resource = 3 then
    let v := s.ceilingG w.entry.partition
    if decide (v < s.pmu.pointG) && (List.range 32).any (fun x => (s.gx x).job.isSome) then s else s.setPmu { s.pmu with pointG := v }
  else s

/-- The partitions that are not protected. -/
def State.unprotected (s : State) : List Nat := (List.range 64).filter (fun p => !s.protected p)

/-- CEILING_LOWER (R407): in THROTTLE, while its condition lasts, every 10 ms. -/
def execCeilingLower (s : State) : Out :=
  if s.pmuState = 1 && s.pmu.throttling && !s.fwDown 20 then
    let s := s.advanceTo (s.pmu.ceilAt + 10000000)
    let t := s.unprotected.foldl (fun m p => KMap.set 6 m p (KMap.getD m p 6 - 1)) s.pmu.ceilT
    let g := s.unprotected.foldl (fun m p => KMap.set 3 m p (KMap.getD m p 3 - 1)) s.pmu.ceilG
    done (s.setPmu { s.pmu with ceilT := t, ceilG := g, ceilAt := s.datum })
  else done s

/-- CEILING_RAISE (R407): in NORMAL, one point per 100 ms up to the top. -/
def execCeilingRaise (s : State) : Out :=
  if s.pmuState = 0 && !s.fwDown 20 && !(s.pmu.ceilT.isEmpty && s.pmu.ceilG.isEmpty) then
    let s := s.advanceTo (s.pmu.ceilAt + 100000000)
    let t := s.pmu.ceilT.foldl (fun m p => KMap.set 6 m p.1 (min 6 (p.2 + 1))) s.pmu.ceilT
    let g := s.pmu.ceilG.foldl (fun m p => KMap.set 3 m p.1 (min 3 (p.2 + 1))) s.pmu.ceilG
    done (s.setPmu { s.pmu with ceilT := t, ceilG := g, ceilAt := s.datum })
  else done s

/-! ## Shedding (R408) -/

/-- A protected partition's graphics job is admitted: the shader cores, which run its work, are not lowered (R406). -/
def State.gfxGuarded (s : State) : Bool :=
  (List.range 32).any (fun x => (s.gx x).job.isSome && s.protected (s.get (Reg.GFX_CX_ATTR_PARTITION x)))

/-- Step 1: the running tensor commands of the shed partitions are preempted (R164), and the units of their windows go to
point 0, but for clusters on which a protected partition's job runs. -/
def State.shedOne (s : State) : State :=
  let ks := (s.eng.jobs.filter (fun p => !isPlumb p.1 && s.shedHeld (s.get (qPartF p.1)) && (s.training p.1).isNone)).map Prod.fst
  let s := ks.foldl State.preemptOwn s
  let guarded := fun (s : State) (c : Nat) => s.eng.jobs.any (fun p => !isPlumb p.1 && s.protected (s.get (qPartF p.1)) && bitOf p.2.clusters c)
  s.openWindows.foldl (fun s w =>
    if !s.shedHeld w.entry.partition then s
    else if w.entry.resource = 0 then
      (clusterList w.entry.units).foldl (fun s c => if guarded s c then s else s.setPointT c 0) s
    else if w.entry.resource = 3 && !s.gfxGuarded then s.setPmu { s.pmu with pointG := 0 }
    else s) s

/-- Step 2: the grant is withdrawn and the running training job is killed (R151). -/
def State.shedTwo (s : State) : State :=
  let ks := (s.eng.train.filter (fun p => (s.job p.1).isSome)).map Prod.fst
  (ks.foldl (fun s k => (s.fbInc 0x6040 9).killFree k Code.eUnavailable) s.withdrawGrant).readmit s

/-- A shed step is taken. Step 3 lowers the shader cores, under running jobs of the cockpit too, but not under a protected
partition's (R40, R406). -/
def State.shedTo (s : State) (n : Nat) : State :=
  let s := ((s.fbSet 0x4000 6 n).set Reg.PMU_EVENTS_SHED 1)
  let s := s.setPmu { s.pmu with shedAt := s.datum }
  match n with
  | 1 => s.shedOne
  | 2 => s.shedTwo
  | 3 => if s.gfxGuarded then s else s.setPmu { s.pmu with pointG := 0 }
  | _ => s

/-- SHED_STEP (R408): 10 ms after the step before, while EMERGENCY holds. -/
def execShedStep (s : State) : Out :=
  if s.pmuState = 2 && decide (s.shedLevel < 3) && !s.fwDown 20 then
    done ((s.advanceTo (s.pmu.shedAt + 10000000)).shedTo (s.shedLevel + 1))
  else done s

/-- SHED_UNDO (R408): from 1 s after EMERGENCY, one step every 100 ms, in reverse order. -/
def execShedUndo (s : State) : Out :=
  match s.pmu.leftAt with
  | some t =>
    if s.pmuState < 2 && decide (0 < s.shedLevel) && !s.fwDown 20 then
      let s := s.advanceTo (if s.pmu.shedAt ≤ t then t + 1000000000 else s.pmu.shedAt + 100000000)
      let s := (s.fbSet 0x4000 6 (s.shedLevel - 1)).set Reg.PMU_EVENTS_SHED 1
      done (s.setPmu { s.pmu with shedAt := s.datum })
    else done s
  | none => done s

/-! ## States (R407) -/

/-- The sustained budget, or the lower of it and the training budget while training is granted (W). -/
def State.powerLimit (s : State) : Nat :=
  if s.granted then min (s.fbGet 0x4000 1) (s.fbGet 0x4000 2) else s.fbGet 0x4000 1

/-- The hottest junction, and a threshold of FB 0x4020 less `d` °C, in 0.1 °C. -/
def State.hottest (s : State) : Int := signed 16 (s.fbGet 0x4000 4)
def State.threshold (s : State) (sub d : Nat) : Int := 10 * (signed 16 (s.fbGet 0x4020 sub) - d)

/-- What enters EMERGENCY, and what lets it end. -/
def State.emergencyCond (s : State) : Bool :=
  decide (s.threshold 2 0 ≤ s.hottest) || !s.pins.pwrFailN ||
  (match s.pmu.highSince with | some t => decide (t + 1000000 ≤ s.datum) | none => false)
def State.emergencyOver (s : State) : Bool :=
  decide (s.hottest < s.threshold 2 (s.fbGet 0x4020 3)) && s.pins.pwrFailN && s.pmu.highSince.isNone

/-- What enters THROTTLE, and what lets it end. -/
def State.throttleCond (s : State) : Bool :=
  decide (s.threshold 1 0 ≤ s.hottest) || decide (10 * s.powerLimit < s.fbGet 0x4000 3)
def State.throttleOver (s : State) : Bool :=
  decide (s.hottest < s.threshold 1 (s.fbGet 0x4020 3)) && decide (s.fbGet 0x4000 3 + 50 ≤ 10 * s.powerLimit)

/-- The state that follows. -/
def State.pmuNext (s : State) : Nat :=
  let c := s.pmuState
  if c = 3 then 3
  else if s.emergencyCond || (c = 2 && !s.emergencyOver) then 2
  else if s.throttleCond || (c = 1 && !s.throttleOver) then 1
  else 0

/-- The PMU state changes: its entry is counted, and the first shed step is taken on entry of EMERGENCY. The training grant is
withdrawn at that entry, as R410 says, where R408 names it in step 2 (DEDUCED: log entry 36). -/
def State.pmuEnter (s : State) (n : Nat) : State :=
  let old := s.pmuState
  if n = old then s
  else
    let s := (s.fbSet 0x4000 5 n).set Reg.PMU_EVENTS_STATE 1
    let s := if old = 2 then s.setPmu { s.pmu with leftAt := some s.datum } else s
    match n with
    | 0 => s.setPmu { s.pmu with normalSince := s.datum, ceilAt := s.datum }
    | 1 => (s.fbInc 0x60E0 5).setPmu { s.pmu with ceilAt := s.datum }
    | 2 =>
      let s := (s.fbInc 0x60E0 6).withdrawGrant
      if s.shedLevel = 0 then s.shedTo 1 else s.setPmu { s.pmu with shedAt := s.datum }
    | _ => s.withdrawGrant

/-- Every training unit stands at point 0. -/
def State.trainingLow (s : State) : Bool :=
  s.eng.train.all (fun p => match s.job p.1 with
    | some j => (clusterList j.clusters).all (fun c => KMap.getD s.pmu.pointT c 6 = 0)
    | none => true)

/-- Since when a condition has held. -/
def since (now : Nat) (holds : Bool) (old : Option Nat) : Option Nat :=
  if holds then some (old.getD now) else none

/-- PMU_LOOP (R403, R407, R410): the hottest sensor (0.1 °C), the package power (0.1 W), and the power domains whose rails
are inside their windows. -/
def execPmuLoop (hot power : BitVec 16) (rails : BitVec 20) (s : State) : Out :=
  if s.fwDown 20 || s.pmu.asleep.isSome then done s
  else
    let s := (s.fbSet 0x4000 4 hot.toNat).fbSet 0x4000 3 power.toNat
    let s := s.setPmu { s.pmu with
      faulted := s.pmu.faulted &&& (2 ^ 20 - 1 - rails.toNat)
      highSince := since s.datum (decide (2100 ≤ power.toNat)) s.pmu.highSince
      overSince := since s.datum (s.granted && decide (10 * s.fbGet 0x4000 2 < power.toNat) && s.trainingLow) s.pmu.overSince }
    let s := s.setPmu { s.pmu with throttling := s.throttleCond }
    let s := s.pmuEnter s.pmuNext
    let s := match s.pmu.overSince with
      | some t => if t + 100000000 ≤ s.datum then s.withdrawGrant else s
      | none => s
    done (s.tryGrant.openSession)

/-- AVS_TRIM (R403): the trim of a domain's voltage in mV, held within ±50 mV. -/
def execAvsTrim (domain : Fin 20) (mv : Int) (s : State) : Out :=
  if s.fwDown 20 then done s
  else done (s.setPmu { s.pmu with trim := KMap.put s.pmu.trim domain.val (max (-50) (min 50 mv)) })

/-! ## Rails (R403) -/

/-- RAIL_DROOP. -/
def execRailDroop (s : State) : Out := done ((s.fbInc 0x60E0 0xD).set Reg.PMU_EVENTS_DROOP 1)

/-- The work of a power domain is killed. -/
def State.killDomain (s : State) (d code : Nat) : State :=
  if 4 ≤ d ∧ d < 8 then
    let ks := (s.eng.jobs.filter (fun p => !isPlumb p.1 && (List.range 4).any (fun i => bitOf p.2.clusters (4 * (d - 4) + i)))).map Prod.fst
    ks.foldl (fun s k => s.killFree k code) s
  else if d = 12 then (List.range 32).foldl (fun s x => s.failGfx x code) s
  else if d = 14 then s.failMedia code
  else if d = 16 then s.killPlan code
  else s

/-- Plumb stops for good, as for its clock and rail faults (R191). -/
def State.plumbStop (s : State) : State :=
  let s := (s.set Reg.PLB_STATUS_RAIL_FAULT 1)
  (({ s with eng := { s.eng with plumbDead := true } }).killPlumb Code.eUnavailable).killPlan Code.eUnavailable

/-- RAIL_FAULT (R403): the power domains on the rail. Plumb's (15) and the safety island's (1) declare the safe state
(R204). -/
def execRailFault (domains : BitVec 20) (s : State) : Out :=
  let m := domains.toNat
  let s := s.set Reg.PMU_EVENTS_RAIL_FAULT 1
  let s := if bitOf m 15 then s.plumbStop else s
  let s := if bitOf m 15 || bitOf m 1 then s.declareSafe Code.eMonitor true else s
  let s := s.setPmu { s.pmu with faulted := s.pmu.faulted ||| m }
  done (((List.range 20).foldl (fun s d => if bitOf m d then s.killDomain d Code.eUnavailable else s) s).readmit s)

/-! ## Requests (R395, R396, R314) -/

/-- The PMU never gates a domain (R402). -/
def neverGated (d : Nat) : Bool := d = 0 || d = 1 || d = 3 || d = 15

/-- Clock domains whose enable is fixed at 1 (R428). -/
def clockFixed (n : Nat) : Bool := (decide (18 ≤ n) && decide (n ≤ 22)) || (decide (28 ≤ n) && decide (n ≤ 30)) || n = 53 || n = 58 || n = 59

/-- A request of the Normal world meets a lease: E_LEASED, counted (R314). -/
def State.leaseCount (s : State) (c : Nat) : State := if c = Code.eLeased then s.fbInc 0x60A0 5 else s

/-- A power domain is switched; the stores of a tensor quadrant lose their contents with its power and are initialised anew at
power-up (R106). -/
def State.switchDomain (s : State) (d : Nat) (on : Bool) : State :=
  if s.powered d = on then s
  else
    let old := s.get Reg.PMU_PD_STATE_PD
    let s := s.set Reg.PMU_PD_STATE_PD (if on then old ||| 2 ^ d else old &&& (2 ^ 20 - 1 - 2 ^ d))
    if 4 ≤ d ∧ d < 8 then (List.range 4).foldl (fun s i =>
      let s := s.set (Reg.TEN_CL_MEMSTAT_INIT_DONE (4 * (d - 4) + i)) 0
      if on then s else s.loseStores (4 * (d - 4) + i)) s
    else s

/-- PD_SET. -/
def State.reqPdSet (s : State) (at' : Attr) (pl : List Nat) : Answer :=
  let w := payLe pl 0 4
  let d := w % 32
  let on := bitOf w 8
  let c := firstCode
    [(decide (19 < d), Code.eIllegal), (!s.superUser at', Code.eAccess),
     (!on && !at'.secure && bitOf s.leasedPd d, Code.eLeased), (!on && neverGated d, Code.eState)]
  if c = Code.ok then (c, [], s.switchDomain d on) else (c, [], s.leaseCount c)

/-- A clock domain is gated or runs. -/
def State.switchClock (s : State) (n : Nat) (on : Bool) : State :=
  let old := s.get Reg.SYS_CLK_EN_EN
  s.set Reg.SYS_CLK_EN_EN (if on then old ||| 2 ^ n else old &&& (2 ^ 60 - 1 - 2 ^ n))

/-- CLK_SET. -/
def State.reqClkSet (s : State) (at' : Attr) (pl : List Nat) : Answer :=
  let w := payLe pl 0 4
  let n := w % 64
  let on := bitOf w 8
  let c := firstCode
    [(decide (59 < n), Code.eIllegal), (!s.superUser at', Code.eAccess),
     (!on && !at'.secure && bitOf s.leasedClk n, Code.eLeased), (!on && clockFixed n, Code.eState)]
  if c = Code.ok then (c, [], s.switchClock n on) else (c, [], s.leaseCount c)

/-- A sleep mode would include a leased domain: all but domains 0 and 1 (suspend) or 0 (deep sleep), and the clocks but
those of the always-on domain (53, 59) and, in suspend, of the safety island (28). -/
def State.sleepLeased (s : State) (mode : Nat) : Bool :=
  (List.range 20).any (fun d => bitOf s.leasedPd d && d != 0 && !(mode = 0 && d = 1)) ||
  (List.range 60).any (fun n => bitOf s.leasedClk n && n != 53 && n != 59 && !(mode = 0 && n = 28))

/-- Some queue or context has admitted work. -/
def State.anyAdmitted (s : State) : Bool :=
  !s.eng.jobs.isEmpty || s.trv.plan.isSome || (List.range 32).any (fun x => (s.gx x).job.isSome) ||
  (List.range 64).any (fun x => (s.mx x).admitted.isSome) || (List.range 32).any (fun p => (s.stx p).job.isSome)

/-- SLEEP (R434): entry begins. -/
def State.reqSleep (s : State) (at' : Attr) (pl : List Nat) : Answer :=
  let mode := payLe pl 0 4
  let c := firstCode
    [(!s.superUser at', Code.eAccess), (!at'.secure && s.sleepLeased mode, Code.eLeased),
     (s.running || s.anyAdmitted || s.pmu.entering.isSome, Code.eState)]
  if c = Code.ok then (c, [], s.setPmu { s.pmu with entering := some mode, wakeHeld := !s.pins.wakeN || s.pmu.wakeAt = some s.datum }) else (c, [], s.leaseCount c)

/-- POWER_STATUS. -/
def State.reqPowerStatus (s : State) (_ : Attr) (_ : List Nat) : Answer :=
  (Code.ok, leBytes 8 (s.get Reg.PMU_PD_STATE_PD) ++ leBytes 8 (s.get Reg.SYS_CLK_EN_EN) ++ leBytes 8 (s.get Reg.PMU_LEASE_PD_PD) ++
    leBytes 8 (s.get Reg.PMU_LEASE_CLK_CLK) ++ leBytes 4 (s.pmuState + 2 ^ 8 * s.shedLevel + 2 ^ 16 * b2n s.granted) ++
    leBytes 4 (s.fbGet 0x4000 3), s)

/-- PD_SET (R395, R402). -/
def execPdSet (mailbox : Fin 64) (s : State) : Out := done (s.mbServe mailbox.val 0x60 State.reqPdSet)
/-- CLK_SET (R395, R428). -/
def execClkSet (mailbox : Fin 64) (s : State) : Out := done (s.mbServe mailbox.val 0x61 State.reqClkSet)
/-- SLEEP (R434). -/
def execSleep (mailbox : Fin 64) (s : State) : Out := done (s.mbServe mailbox.val 0x62 State.reqSleep)
/-- POWER_STATUS (R396). -/
def execPowerStatus (mailbox : Fin 64) (s : State) : Out := done (s.mbServe mailbox.val 0x63 State.reqPowerStatus)

end Sys2Proof.Machine
end

