-- ==== Sys2Proof/Machine/Update.lean ====
section
/-! DEFINITION. Firmware update (R412–R416): staging, activation, the firmware switch and the rollback commit. -/

namespace Sys2Proof.Machine
open Sys2Proof

def State.update (s : State) (k : Nat) : Update := KMap.getD s.fw.upd k {}
def State.setUpdate (s : State) (k : Nat) (u : Update) : State := { s with fw := { s.fw with upd := KMap.put s.fw.upd k u } }

/-- FB 0x8001: 0 NONE, 1 STAGING, 2 STAGED, 3 PENDING, 4 SWITCHING, 5 ACTIVE, 6 FAILED; a change is an event (R411). -/
def State.updState (s : State) (k : Nat) : Nat := s.fbGet 0x8001 (k + 1)
def State.setUpd (s : State) (k v : Nat) : State :=
  if s.updState k = v then s else (s.fbSet 0x8001 (k + 1) v).set Reg.PMU_EVENTS_UPDATE 1

/-- The running image of a kind is slot B's. -/
def State.runsB (s : State) (k : Nat) : Bool := if k = 0 then s.bit Reg.CRY_SEC_STATE_SLOT else (s.update k).runB

/-! ## Staging (R413) -/

/-- The kind whose MAGIC a header has. -/
def magicKind (header : List Nat) : Option Nat := (List.range 3).find? (fun k => kindMagic k = (parseHeader header).magic)

/-- The kind that a header's MAGIC names, for the length of body that is read with it. -/
def stagedBody (header : List Nat) : Nat :=
  match magicKind header with
  | none => 0
  | some k => bodyLength k header

/-- The check of an image of `n` bytes, header and body, to be staged, and its kind. -/
def State.stageCheck (s : State) (header body : List Nat) (n : Nat) : Nat × Nat :=
  match magicKind header with
  | none => (Code.eVersion, 0)
  | some k =>
    let c := s.imageCheck k header body
    if c = Code.ok ∧ n < 256 + (parseHeader header).length then (Code.eBounds, k)
    else if c = Code.ok ∧ (s.updState k = 1 ∨ s.updState k = 3 ∨ s.updState k = 4) then (Code.eBusy, k)
    else (c, k)

/-- A passed image is to be written, in the background, into the slot of its kind that does not run; the slot is erased
first. -/
def State.stage (s : State) (k : Nat) (image : List Nat) : State :=
  let b := !s.runsB k
  let n := 256 + (parseHeader image).length
  let a := kindOffset k b
  let s := { s with nor := Memory.clear s.nor a (a + kindSize k) }
  (s.setUpdate k { s.update k with image := image.take n, slotB := b, writing := false }).setUpd k 1

/-- STAGE_WRITE_DONE (R413): the slot has been written and read back, well or not. In slot A the MAGIC word stays
erased. -/
def execStageWriteDone (kind : Fin 3) (good : Bool) (s : State) : Out :=
  let k := kind.val
  if s.updState k ≠ 1 then done s
  else
    let u := s.update k
    let a := kindOffset k u.slotB
    let nor := if u.slotB then flashProgram s.nor a u.image else flashProgram s.nor (a + 4) (u.image.drop 4)
    let s := ({ s with nor := nor }).setUpdate k { u with image := [] }
    if good then done ((s.fbSet 0x8002 (k + 1) (parseHeader u.image).svn).setUpd k 2) else done (s.setUpd k 6)

/-! ## Activation (R414) -/

/-- The activation request: accepted in state STAGED only. -/
def State.activate (s : State) (k : Nat) : Nat × State :=
  if s.updState k = 2 then (Code.ok, s.setUpd k 3) else (Code.eState, s)

/-- No EMERGENCY has existed for the quiet time. -/
def State.quiet (s : State) : Bool :=
  s.pmuState != 2 &&
  (match s.pmu.leftAt with | some t => decide (t + s.fbGet 0x8005 1 * 1000000 ≤ s.datum) | none => true)

/-- The NOR program of an activation begins. -/
def State.beginWrite (s : State) (k : Nat) : State := s.setUpdate k { s.update k with writing := true }

/-- The firmware switch begins (R415): FW_SWITCHED on every attached mailbox, which is then detached; the 22 processors
other than the PMU controller are reset onto their new images. -/
def State.beginSwitch (s : State) : State :=
  let body := leBytes 4 1 ++ leBytes 4 (s.fbGet 0x8002 2)
  let s := (List.range 64).foldl (fun s m =>
    if s.bit (Reg.MBX_MB_STATUS_ATTACHED m) then (s.mbNotice m 6 body).mbDetach m else s) s
  let s := (List.range 23).foldl (fun s n =>
    if n = 20 ∨ s.fwDown n ∨ (n < 16 ∧ !s.clusterOn n) then s else s.set (Reg.SYS_FWD_STATUS_STATE n) 1) s
  { (s.setUpd 1 4) with fw := { (s.setUpd 1 4).fw with switch := some ⟨s.datum, 0⟩ } }

/-- At a hyperperiod boundary each pending activation takes place, or is passed because of an emergency (R414). -/
def State.activations (s : State) : State :=
  (List.range 3).foldl (fun s k =>
    if s.updState k ≠ 3 ∨ (s.update k).writing then s
    else if !s.quiet then s.fbInc 0x60E0 8
    else if k = 1 then s.beginSwitch
    else s.beginWrite k) s

/-- ACTIVATION_WRITE_DONE (R414, R415): slot A's MAGIC is programmed for an image staged in A, or programmed to zero for
one in B; the state becomes ACTIVE. A switched firmware bundle now runs from its slot. -/
def execActivationWriteDone (kind : Fin 3) (s : State) : Out :=
  let k := kind.val
  let u := s.update k
  if !u.writing then done s
  else
    let s := { s with nor := flashProgram s.nor (kindOffset k false) (leBytes 4 (if u.slotB then 0 else kindMagic k)) }
    let s := (s.setUpdate k { u with writing := false, runB := if k = 1 then u.slotB else u.runB }).setUpd k 5
    if k = 1 then done ((s.fbInc 0x60E0 9).fbSet 0x8003 2 (s.fbGet 0x8002 2)) else done s

/-- The switch fails (R415): every processor returns to the old image, the NOR stands. -/
def State.failSwitch (s : State) : State :=
  match s.fw.switch with
  | none => s
  | some _ =>
    let s := (List.range 23).foldl (fun s n =>
      if s.get (Reg.SYS_FWD_STATUS_STATE n) = 1 then s.set (Reg.SYS_FWD_STATUS_STATE n) 0 else s) s
    let s := (s.setUpd 1 6).fbInc 0x60E0 0xA
    { s with fw := { s.fw with switch := none } }

/-- FW_SWITCH_READY_TIMEOUT (R415): 300 µs after the boundary a processor has not reported ready. -/
def execFwSwitchReadyTimeout (s : State) : Out :=
  match s.fw.switch with
  | some w => done ((s.advanceTo (w.start + 300000)).failSwitch)
  | none => done s

/-! ## Rollback commit (R416) -/

/-- The slot that the NOR now selects for a kind: A where its MAGIC stands, else B. -/
def State.norSelects (s : State) (k : Nat) : Bool := leValue (s.norBytes (kindOffset k false) 4) != kindMagic k

/-- FB 0x8000.02: the kind's fused counter advances to the SVN of its running image. -/
def State.rollbackCommit (s : State) (k : Nat) : Nat × State :=
  if s.pmuState = 2 ∨ s.updState k = 3 ∨ s.updState k = 4 ∨ s.runsB k ≠ s.norSelects k then (Code.eState, s)
  else
    let v := max (s.fuses.svn.getD k 0) (s.fbGet 0x8003 (k + 1))
    let s := { s with fuses := { s.fuses with svn := (List.range 3).map (fun i => if i = k then v else s.fuses.svn.getD i 0) } }
    (Code.ok, s.fbSet 0x8004 (k + 1) v)

end Sys2Proof.Machine
end

