-- ==== Sys2Proof/Machine/Fba.lean ====
section
/-! DEFINITION. Field Book Access (R356–R375): messages and their carriers, violations and muting, sessions and
authentication, the service of the operations; the journal of persistent entries (R376–R384). -/

namespace Sys2Proof.Machine
open Sys2Proof

def State.setFba (s : State) (f : Fba) : State := { s with fba := f }

/-! ## Entries (R356–R360, R376) -/

/-- An index exists: some row of the tables assigns it. -/
def fbIndexExists (i : Nat) : Bool := fbTable.any (fun e => decide (e.index ≤ i) && decide (i < e.index + e.idxCount))

/-- The highest sub-index of an index. -/
def fbHighest (i : Nat) : Nat :=
  fbTable.foldl (fun h e => if e.index ≤ i ∧ i < e.index + e.idxCount then max h e.subHi else h) 0

/-- The row of an entry; sub-index 0 of every index that exists is an RO U8 at level 0 (R356). -/
def fbRow (i sub : Nat) : Option FbEntry :=
  if sub = 0 then
    if fbIndexExists i then some ⟨i, 1, 0, 0, .u8, 1, .ro, 0, (fbHighest i : Nat), [], 0⟩ else none
  else fbFind fbTable i sub

/-- Type codes of R357. -/
def FbType.code : FbType → Nat
  | .u8 => 1 | .u16 => 2 | .u32 => 3 | .u64 => 4 | .i8 => 5 | .i16 => 6 | .i32 => 7 | .i64 => 8 | .f32 => 9 | .oct => 10 | .str => 11

/-- Types whose value is in two's complement. -/
def FbType.isSigned : FbType → Bool
  | .i8 => true | .i16 => true | .i32 => true | .i64 => true | _ => false

/-- Access codes of R363. -/
def FbAcc.code : FbAcc → Nat
  | .ro => 0 | .rw => 1 | .wo => 2

/-- R376: RW and WO entries of 0x1000–0x5FFF and 0x7000–0x8FFF but the volatile ones; and the open counters of R367. -/
def fbPersistent (e : FbEntry) (i sub : Nat) : Bool :=
  (e.acc != .ro && ((decide (0x1000 ≤ i) && decide (i ≤ 0x5FFF)) || (decide (0x7000 ≤ i) && decide (i ≤ 0x8FFF))) &&
    !(i = 0x2010 && sub = 5) && !(i = 0x7100 && sub = 1) && !(decide (0x8000 ≤ i) && e.acc = .wo)) ||
  (decide (0x1210 ≤ i) && decide (i ≤ 0x121E) && sub = 5)

/-- The keys (index × 256 + sub-index) of the persistent entries, ascending. -/
def fbPersistentKeys : List Nat :=
  (fbTable.foldl (fun (m : KMap Unit) e =>
    (List.range e.idxCount).foldl (fun m i =>
      (List.range (e.subHi + 1 - e.subLo)).foldl (fun m j =>
        if fbPersistent e (e.index + i) (e.subLo + j) then KMap.put m ((e.index + i) * 256 + e.subLo + j) () else m) m) m) []).map Prod.fst

/-- An entry's value (unsigned encoding): RO entries that show a register, the fuses or a fixed place, the others as kept. -/
def State.fbView (s : State) (i sub : Nat) : Nat :=
  if sub = 0 then fbHighest i
  else match i * 256 + sub with
    | 0x100001 => 2 ^ 16 * s.get Reg.SYS_DEVICE_ID_DEVICE + 2 ^ 8 * s.get Reg.SYS_DEVICE_ID_GRADE +
        2 ^ 4 * s.get Reg.SYS_DEVICE_ID_STEP_MAJOR + s.get Reg.SYS_DEVICE_ID_STEP_MINOR
    | 0x100002 => s.get Reg.SYS_UNIT_MASK_CLUSTER_EN + 2 ^ 16 * s.get Reg.SYS_UNIT_MASK_QUAD_EN
    | 0x100003 => s.fuses.serial
    | 0x100004 => s.get Reg.CRY_SEC_SVN_IMAGE_SVN
    | 0x201009 => s.get Reg.MER_STATUS_DATUM_STATE
    | 0x700401 => s.get Reg.SYS_STRAP_PKG_ID
    | 0x60F010 => s.get Reg.SYS_RST_CAUSE_CAUSE
    | 0x760004 => Config.logArea
    | 0x800401 => s.fuses.svn.getD 0 0
    | 0x800402 => s.fuses.svn.getD 1 0
    | 0x800403 => s.fuses.svn.getD 2 0
    | _ => s.fbGet i sub

/-- The bit set of partition 0 and the safety partition. -/
def State.safetyBits (s : State) : Nat := 1 ||| 2 ^ s.saf.partition

/-- A value (unsigned encoding) lies in its entry's range. -/
def State.fbInRange (s : State) (e : FbEntry) (i sub v : Nat) : Bool :=
  let x : Int := if e.type.isSigned then signed (8 * e.size) v else (v : Nat)
  (e.type != .f32 || v / 2 ^ 23 % 256 != 255) &&
  (e.ranges.isEmpty || e.ranges.any (fun r => decide (r.1 ≤ x) && decide (x ≤ r.2))) &&
  (match e.special with
    | 2 => v &&& s.safetyBits = 0
    | 3 => !bitOf (s.fbGet 0x7001 (sub + 0x10)) v
    | 4 => !bitOf v (s.fbGet 0x7001 (sub - 0x10))
    | 5 => v % 4096 = 0
    | 6 => v &&& s.safetyBits = s.safetyBits
    | 7 => bitOf v 29 || decide (v % 2 ^ 29 ≤ 0x7FF)
    | _ => true) &&
  (if i = 0x2000 ∧ sub ≤ 3 then
    let val := fun k => if k = sub then v else s.fbGet 0x2000 k
    decide (val 1 * val 2 ≤ 1000000) && decide (val 3 < val 1 * val 2 * 1000)
  else true)

/-- The bounds that a DESCRIBE gives: those of the ranges, the type's whole range where the range is given in words, 0
where the table shows none; sizes for OCT and STR. -/
def fbBounds (e : FbEntry) : Int × Int :=
  match e.type with
  | .oct => ((e.size : Nat), (e.size : Nat))
  | .str => (0, (e.size : Nat))
  | _ =>
    match e.ranges with
    | [] =>
      if e.special = 0 then (0, 0)
      else if e.type.isSigned then (-(2 : Int) ^ (8 * e.size - 1), (2 : Int) ^ (8 * e.size - 1) - 1)
      else (0, (2 : Int) ^ (8 * e.size) - 1)
    | r :: rs => (rs.foldl (fun a x => min a x.1) r.1, rs.foldl (fun a x => max a x.2) r.2)

/-- The description of R363. -/
def fbDescribe (e : FbEntry) (i sub : Nat) : List Nat :=
  let q : Int → List Nat := fun x => beBytes 8 (unsignedOf 64 x)
  let (lo, hi) := fbBounds e
  let d : Int := match e.type with | .oct => 0 | .str => 0 | _ => e.dflt
  [e.type.code, e.acc.code, e.auth, b2n (fbPersistent e i sub), e.size, 0, 0, 0] ++ q lo ++ q hi ++ q d

/-! ## Messages (R361, R362, R374) -/

def FbaReq.op (r : FbaReq) : Nat := natAt r.bytes 0 % 16
def FbaReq.auth (r : FbaReq) : Bool := bitOf (natAt r.bytes 1) 0
def FbaReq.session (r : FbaReq) : Nat := natAt r.bytes 2
def FbaReq.index (r : FbaReq) : Nat := beAt r.bytes 4 2
def FbaReq.sub (r : FbaReq) : Nat := natAt r.bytes 6
def FbaReq.len (r : FbaReq) : Nat := natAt r.bytes 7
def FbaReq.value (r : FbaReq) : List Nat := slice r.bytes 8 r.len
def FbaReq.fresh (r : FbaReq) : Nat := beAt r.bytes (8 + r.len) 4
/-- The bytes under the MAC, and the MAC. -/
def FbaReq.covered (r : FbaReq) : List Nat := r.bytes.take (12 + r.len)
def FbaReq.mac (r : FbaReq) : List Nat := slice r.bytes (12 + r.len) 8

/-- The source is a mailbox. -/
def isMailbox : FbaSource → Bool
  | .mailbox _ => true
  | _ => false

/-- LEN as R362 demands it for the operation; a WRITE's is checked against its entry. -/
def fbaLenOk (op len : Nat) : Bool := if op = 2 then true else if op = 4 then len = 8 else len = 0

/-- The violations of R374 (and R366): E_VERSION, E_PROTO, or OK. -/
def FbaReq.form (r : FbaReq) : Nat :=
  let flags := natAt r.bytes 1
  let need := 8 + r.len + (if r.auth then 12 else 0)
  let mb := isMailbox r.source
  let exact := match r.source with | .can _ => false | _ => true
  if decide (1 ≤ r.bytes.length) && natAt r.bytes 0 / 16 != 1 then Code.eVersion
  else if r.bytes.length < 8 then Code.eProto
  else if flags / 2 != 0 || r.op = 0 || decide (5 < r.op) || decide (32 < r.len) || !fbaLenOk r.op r.len ||
      decide (r.bytes.length < need) || (exact && decide (need < r.bytes.length)) || decide (15 < r.session) ||
      (r.auth && (mb || (r.session = 0 && decide (r.op ≤ 3)))) || (!r.auth && decide (4 ≤ r.op)) ||
      (mb && r.session != 0) || (r.auth && (r.fresh = 0 || r.fresh = 0xFFFFFFFF)) ||
      (match r.source with | .can _ => r.fmt = 0 | _ => false) then Code.eProto
  else Code.ok

/-! ## Sources (R375) -/

def State.fbaCount (s : State) (src : FbaSource) : FbaCount := (s.fba.sources.find? (fun c => c.source = src)).getD ⟨src, 0, none⟩

/-- The source is muted. -/
def State.fbaMuted (s : State) (src : FbaSource) : Bool :=
  match (s.fbaCount src).muted with
  | some t => decide (s.datum < t)
  | none => false

def isUdp (c : FbaCount) : Bool := match c.source with | .udp _ _ _ => true | _ => false

/-- The sources that stay when a further one is to be tracked: beyond 32 UDP sources the one with the lowest count goes. -/
def fbaRoom (l : List FbaCount) : List FbaCount :=
  let u := l.filter isUdp
  match u with
  | [] => l
  | x :: xs =>
    if 32 ≤ u.length then
      let low := xs.foldl (fun (m : FbaCount) c => if c.count < m.count then c else m) x
      l.filter (fun c => c.source != low.source)
    else l

/-- A violation of a source is counted; the 65th within a second mutes it for 1 s. Mailboxes are not sources. -/
def State.strike (s : State) (src : FbaSource) : State :=
  if isMailbox src then s
  else
    let c := s.fbaCount src
    let known := s.fba.sources.any (fun x => x.source = src)
    let kept := (if known then s.fba.sources else match src with | .udp _ _ _ => fbaRoom s.fba.sources | _ => s.fba.sources).filter
      (fun x => x.source != src)
    let n := c.count + 1
    let c' : FbaCount := ⟨src, n, if n = 65 then some (s.datum + 1000000000) else c.muted⟩
    let s := s.setFba { s.fba with sources := kept ++ [c'] }
    if n = 65 then s.fbInc 0x60D0 3 else s

/-- MUTE_EXPIRY (R375). -/
def execMuteExpiry (source : FbaSource) (s : State) : Out :=
  match (s.fbaCount source).muted with
  | some t =>
    let s := s.advanceTo t
    done (s.setFba { s.fba with sources := s.fba.sources.map (fun c => if c.source = source then { c with muted := none } else c) })
  | none => done s

/-- VIOLATION_COUNT_CLEAR (R375): MER_SECONDS changes, at the present instant where Datum stands at the start of a second,
else at the next one. -/
def execViolationCountClear (s : State) : Out :=
  let s := s.advanceTo ((s.datum + 999999999) / 1000000000 * 1000000000)
  done (s.setFba { s.fba with sources := s.fba.sources.map (fun c => { c with count := 0 }) })

/-! ## Sessions (R367–R370) -/

def State.fbaSession (s : State) (n : Nat) : Option FbaSession := KMap.find s.fba.sessions n
def State.setFbaSession (s : State) (n : Nat) (x : FbaSession) : State := s.setFba { s.fba with sessions := KMap.put s.fba.sessions n x }
def State.fbaEpoch (s : State) (n : Nat) : Nat := KMap.getD s.fba.epochs n 0

/-- A session closes. -/
def State.fbaClose (s : State) (n : Nat) : State :=
  (s.setFba { s.fba with sessions := KMap.del s.fba.sessions n }).fbSet 0x1200 1 (s.fbGet 0x1200 1 &&& (0xFFFF - 2 ^ n))

/-- The key of a session's principal: its slot holds an AES-128 key with USE_FBA (R368). -/
def State.fbaKey (s : State) (n : Nat) : Option (List Nat) :=
  match KMap.find s.worlds.keys (s.fbGet (0x1210 + n - 1) 2) with
  | some k => if !k.aes256 && bitOf k.uses 2 then some k.key else none
  | none => none

/-- The MAC of R368. -/
def fbaMac (key nonce msg : List Nat) : List Nat := (Crypto.cmac key (nonce ++ msg)).take 8

/-- A request of a session is accepted: the idle time starts anew. -/
def State.fbaTouch (s : State) (n : Nat) : State :=
  match s.fbaSession n with
  | some x => s.setFbaSession n { x with last := s.datum }
  | none => s

/-- SESSION_IDLE_TIMEOUT (R367). -/
def execSessionIdleTimeout (session : Fin 16) (s : State) : Out :=
  match s.fbaSession session.val with
  | some x =>
    let t := (s.advanceTo (x.last + s.fbGet 0x1200 2 * 1000000000)).fbaClose session.val
    done (t.setFba { t.fba with idled := some (session.val, t.datum, x) })
  | none => done s

/-! ## Responses (R361, R364–R366, R369) -/

/-- A CAN FD data field holds 12, 16, 20, 24, 32, 48 or 64 bytes beyond 8. -/
def fdLength (n : Nat) : Nat := ([8, 12, 16, 20, 24, 32, 48, 64].find? (fun l => decide (n ≤ l))).getD 64

/-- A response leaves on its request's carrier. The bytes that pad a CAN FD field carry any value: free values. -/
def State.fbaSend (s : State) (r : FbaReq) (msg : List Nat) : State :=
  match r.source with
  | .can n =>
    let id := s.fbGet 0x1100 3
    if r.fmt = 2 then s.emit (.canFrame n.val 2 (id % 2 ^ 11 + 2 ^ 24 * s.fbGet 0x1100 6) 0 msg)
    else
      let (pad, s) := s.freeNats (fdLength msg.length - msg.length)
      s.emit (.canFrame n.val r.fmt id 0 (msg ++ pad.map (· % 256)))
  | .udp mac ip port => s.emit (.fbaDatagram mac.val ip.toNat port.toNat msg)
  | .mailbox m =>
    let q := s.mbRequest m.val
    let s := s.setMbox m.val { s.mbox m.val with fba := false }
    (s.mbPass m.val).mbReply m.val q Code.ok msg

/-- The head of a response: bytes 0–6 copied where present, FLAGS, LEN and STATUS, then VALUE. -/
def fbaMessage (r : FbaReq) (auth : Bool) (status : Nat) (value : List Nat) : List Nat :=
  [natAt r.bytes 0, 2 + b2n auth] ++ (List.range 5).map (fun i => natAt r.bytes (2 + i)) ++
    [value.length] ++ beBytes 2 status ++ value

/-- The answers that R386 counts. -/
def State.fbaTally (s : State) (status : Nat) : State :=
  if status = Code.ok then s.fbInc 0x60D0 1
  else if status = Code.eAuth then s.fbInc 0x60D0 4
  else if status = Code.eReplay then s.fbInc 0x60D0 5
  else s

/-- A request is answered. The answer to an authenticated request of an open session is authenticated with the device's
counter, but E_PROTO and E_VERSION answers and refused OPENs are not. -/
def State.fbaRespond (s : State) (r : FbaReq) (status : Nat) (value : List Nat) : State :=
  let s := s.fbaTally status
  let plain := s.fbaSend r (fbaMessage r false status value)
  if !r.auth || r.op = 4 || status = Code.eProto || status = Code.eVersion then plain
  else
    match s.fbaSession r.session, s.fbaKey r.session with
    | some x, some key =>
      let t := x.tx + 1
      let msg := fbaMessage r true status value ++ beBytes 4 t
      let s := (s.setFbaSession r.session { x with tx := t }).fbaSend r (msg ++ fbaMac key x.nonce msg)
      if 0xFFFFFFFE ≤ t then s.fbaClose r.session else s
    | _, _ => plain

/-! ## Reception (R364–R366, R371, R374) -/

/-- A message is taken in: a violation is answered, counted and logged; else it joins the queue, or is answered E_BUSY. -/
def State.fbaTake (s : State) (r : FbaReq) : State :=
  let c := r.form
  if c ≠ Code.ok then (((s.fbInc 0x60D0 2).fwLog 21).fbaRespond r c []).strike r.source
  else if 64 ≤ s.fba.queue.length then (if r.op = 2 then s.fbInc 0x60D0 0xB else s).fbaRespond r Code.eBusy []
  else
    let s := match r.source with | .mailbox m => s.setMbox m.val { s.mbox m.val with fba := true } | _ => s
    s.setFba { s.fba with queue := s.fba.queue ++ [{ r with epoch := s.fbaEpoch r.session }] }

/-- The gateway controller takes messages: it runs, and PWR_FAIL_N is high (R382). -/
def State.fbaListening (s : State) : Bool := !s.fwDown 21 && s.pins.pwrFailN

/-- A message on CAN or UDP; a muted source's is discarded. -/
def State.fbaArrive (s : State) (src : FbaSource) (fmt : Nat) (bytes : List Nat) : State :=
  if s.fbaMuted src then s else s.fbaTake ⟨src, fmt, bytes, 0⟩

/-- A request of type 0x30 at a mailbox's RPTR goes to the Field Book service (R366, R393). -/
def State.fbaMailbox (s : State) (m : Fin 64) : State :=
  if !s.mbReady m.val then s
  else match s.reach (s.mbAttr m.val) false (s.get (Reg.MBX_MB_REQ_BASE_BASE m.val) + 256 * s.get (Reg.MBX_MB_REQ_RPTR_RPTR m.val)) 256 with
  | (.ok, s) =>
    let q := s.mbRequest m.val
    if q.type != 0x30 then s
    else
      let c := s.mbCode m.val q
      if c ≠ Code.ok then ((s.mbCount m.val c).mbPass m.val).mbReply m.val q c []
      else s.fbaTake ⟨.mailbox m, 0, q.payload, 0⟩
  | (_, s) => s.mbPass m.val

/-- FBA_REQUEST_RECEIVED (R364–R366, R371). For a mailbox the message stands in the slot at RPTR. -/
def execFbaRequestReceived (carrier : FbaCarrier) (bytes : List Byte) (s : State) : Out :=
  if !s.fbaListening then done s
  else match carrier with
  | .can n fmt key0 =>
    if bitOf (s.fbGet 0x1100 1) n.val && s.fbaCanMatch fmt.val key0.toNat then
      done (s.fbaArrive (.can n) fmt.val (bytes.map BitVec.toNat))
    else done s
  | .udp mac ip port dport =>
    if bitOf (s.fbGet 0x1100 5) mac.val && dport.toNat = s.fbGet 0x1100 4 then
      done (s.fbaArrive (.udp mac ip port) 0 (bytes.map BitVec.toNat))
    else done s
  | .mailbox m => done (s.fbaMailbox m)

/-! ## The journal (R377–R381) -/

def State.jCopy (s : State) (c : Nat) : JournalCopy := KMap.getD s.fba.copies c {}
def State.setJCopy (s : State) (c : Nat) (v : JournalCopy) : State := s.setFba { s.fba with copies := KMap.put s.fba.copies c v }

/-- Slots of a half. -/
def journalSlots : Nat := 16383

def halfOffset (c h : Nat) : Nat := 0x200000 * c + 0x100000 * h
def slotOffset (c h k : Nat) : Nat := halfOffset c h + 64 + 64 * k

def State.jProgram (s : State) (a : Nat) (bs : List Nat) : State := { s with jrn := flashProgram s.jrn a bs }
def State.jBytes (s : State) (a n : Nat) : List Nat := flashBytes s.jrn a n

/-- Bytes 0–55 of a record (R378). -/
def recordBody (seq i sub type : Nat) (value : List Nat) : List Nat :=
  let b := beBytes 8 seq ++ beBytes 2 i ++ [sub, type, value.length, 0, 0, 0] ++ value ++ List.replicate (36 - value.length) 0xFF
  b ++ beBytes 4 (Crypto.crc32 0xEDB88320 b)

/-- A half header (R377). -/
def halfHeader (gen : Nat) : List Nat :=
  let b := [0x46, 0x42, 0x4A, 0x31] ++ beBytes 4 gen ++ List.replicate 52 0
  b ++ beBytes 4 (Crypto.crc32 0xEDB88320 b)

/-- The generation of a half with a valid header. -/
def State.halfGen (s : State) (c h : Nat) : Option Nat :=
  let b := s.jBytes (halfOffset c h) 64
  let g := beAt b 4 4
  if b = halfHeader g then some g else none

/-- What stands in a slot: an abandoned record (0), a corrupt one (1) or a complete one (2), with SEQ, the entry's key
and the value. -/
structure JournalSlot where
  kind : Nat
  seq : Nat
  key : Nat
  value : Nat
  bytes : List Nat
  deriving DecidableEq, Repr

/-- The slot's record. -/
def journalSlot (b : List Nat) : JournalSlot :=
  let ok := beAt b 52 4 = Crypto.crc32 0xEDB88320 (b.take 52)
  ⟨if natAt b 56 ≠ 0 then 0 else if ok then 2 else 1, beAt b 0 8, beAt b 8 2 * 256 + natAt b 10,
    beAt b 16 (natAt b 12), b⟩

/-- The slots of a half that have been programmed. -/
def State.usedSlots (s : State) (c h : Nat) : Nat :=
  let lo := slotOffset c h 0
  s.jrn.foldl (fun n cell => if lo ≤ cell.1 ∧ cell.1 < halfOffset c h + 0x100000 then max n ((cell.1 - lo) / 64 + 1) else n) 0

/-- A copy as boot finds it: its active half, or failed. -/
def State.findCopy (s : State) (c : Nat) : JournalCopy :=
  match s.halfGen c 0, s.halfGen c 1 with
  | none, none => {}
  | some g, none => ⟨0, g, s.usedSlots c 0, false⟩
  | none, some g => ⟨1, g, s.usedSlots c 1, false⟩
  | some g, some g' => if g < g' then ⟨1, g', s.usedSlots c 1, false⟩ else ⟨0, g, s.usedSlots c 0, false⟩

/-- The records of a copy's active half. -/
def State.copySlots (s : State) (c : Nat) : List JournalSlot :=
  let j := s.jCopy c
  if j.failed then []
  else ((List.range j.next).map (fun k => s.jBytes (slotOffset c j.half k) 64)).filterMap
    (fun b => if b.all (· = 255) then none else some (journalSlot b))

/-- A complete record is appended to a copy that lacks it. -/
def State.repair (s : State) (c : Nat) (x : JournalSlot) : State :=
  let j := s.jCopy c
  if j.failed ∨ journalSlots ≤ j.next then s
  else ((s.jProgram (slotOffset c j.half j.next) (x.bytes.take 57)).setJCopy c { j with next := j.next + 1 }).fbInc 0x60D0 8

/-- Complete records by SEQ. -/
def completeOf (l : List JournalSlot) : KMap JournalSlot := l.foldl (fun m x => if x.kind = 2 then KMap.put m x.seq x else m) []

/-- A complete record is applied to its entry, if that is a persistent one. -/
def State.applyRecord (s : State) (x : JournalSlot) : State :=
  match fbFind fbTable (x.key / 256) (x.key % 256) with
  | some e => if fbPersistent e (x.key / 256) (x.key % 256) then s.fbSet (x.key / 256) (x.key % 256) x.value else s
  | none => s

/-- The gateway controller reads the journal (R380). -/
def State.journalScan (s : State) : State :=
  let s := (s.setJCopy 0 (s.findCopy 0)).setJCopy 1 (s.findCopy 1)
  let a := s.copySlots 0
  let b := s.copySlots 1
  let s := (a ++ b).foldl (fun s x => if x.kind = 0 then s.fbInc 0x60D0 7 else if x.kind = 1 then s.fbInc 0x60D0 9 else s) s
  let ca := completeOf a
  let cb := completeOf b
  let s := ca.foldl (fun s x => if (KMap.find cb x.1).isSome then s else s.repair 1 x.2) s
  let s := cb.foldl (fun s x => if (KMap.find ca x.1).isSome then s else s.repair 0 x.2) s
  let all := cb.foldl (fun m x => KMap.put m x.1 x.2) ca
  let s := all.foldl (fun s x => s.applyRecord x.2) s
  let next := (a ++ b).foldl (fun n x => max n (x.seq + 1)) 0
  s.setFba { s.fba with seq := next, record := none, compacting := none, compactSeq := none }

/-- No copy is writable. -/
def State.journalFailed (s : State) : Bool := (s.jCopy 0).failed && (s.jCopy 1).failed

/-- A record begins (R379): bytes 0–55 in copy A's next slot, or in copy B's where copy A has failed. -/
def State.beginRecord (s : State) (r : FbaReq) (i sub type size v : Nat) (opens : Option FbaSession) : State :=
  let body := recordBody s.fba.seq i sub type (beBytes size v)
  let c := b2n (s.jCopy 0).failed
  let j := s.jCopy c
  let s := s.jProgram (slotOffset c j.half j.next) body
  s.setFba { s.fba with seq := s.fba.seq + 1, record := some ⟨body, i, sub, v, c, some r, opens, s.datum⟩ }

/-- A copy of the record is complete: COMMIT is programmed. -/
def State.commitCopy (s : State) (c : Nat) : State :=
  let j := s.jCopy c
  (s.jProgram (slotOffset c j.half j.next + 56) [0]).setJCopy c { j with next := j.next + 1 }

/-- A session opens at the commit of its open counter (R367); the response echoes FRESH. -/
def State.fbaOpened (s : State) (r : FbaReq) (x : FbaSession) : State :=
  let n := r.session
  let s := (s.fbaClose n).setFbaSession n { x with last := s.datum }
  let s := s.setFba { s.fba with epochs := KMap.put s.fba.epochs n (s.fbaEpoch n + 1) }
  let s := (s.fbSet 0x1200 1 (s.fbGet 0x1200 1 ||| 2 ^ n)).fbaTally Code.ok
  let msg := fbaMessage r true Code.ok (x.nonce.drop 8) ++ beBytes 4 r.fresh
  match s.fbaKey n with
  | some key => s.fbaSend r (msg ++ fbaMac key x.nonce msg)
  | none => s.fbaSend r (fbaMessage r false Code.ok (x.nonce.drop 8))

/-- The write commits: the value takes effect and the response is sent. -/
def State.commitRecord (s : State) (j : JournalRecord) : State :=
  let s := (s.fbSet j.index j.sub j.value).fbInc 0x60D0 6
  match j.request, j.opens with
  | some r, some x => s.fbaOpened r x
  | some r, none => s.fbaRespond r Code.ok []
  | none, _ => s

/-- A copy has fewer than 1,024 free slots. -/
def State.compactionDue (s : State) (c : Nat) : Bool := !(s.jCopy c).failed && decide (journalSlots - (s.jCopy c).next < 1024)

/-- The record is finished; a compaction that is due starts, copy A's first. -/
def State.endRecord (s : State) : State :=
  let s := s.setFba { s.fba with record := none }
  if !s.pins.pwrFailN then s
  else if s.compactionDue 0 then s.setFba { s.fba with compacting := some 0 }
  else if s.compactionDue 1 then s.setFba { s.fba with compacting := some 1 }
  else s

/-- Copy A's COMMIT programming completes; the write commits, and copy B's programming begins. -/
def State.copyADone (s : State) : State :=
  match s.fba.record with
  | some j =>
    if j.copy = 0 then
      let s := (s.commitCopy 0).commitRecord j
      if (s.jCopy 1).failed then s.endRecord
      else
        let b := s.jCopy 1
        let s := s.jProgram (slotOffset 1 b.half b.next) j.body
        s.setFba { s.fba with record := some { j with copy := 1, request := none, opens := none } }
    else s
  | none => s

/-- The record is complete in copy B. -/
def State.copyBDone (s : State) : State :=
  match s.fba.record with
  | some j =>
    if j.copy = 1 then
      let s := s.commitCopy 1
      (if j.request.isSome then s.commitRecord j else s).endRecord
    else s
  | none => s

/-- JOURNAL_COPY_A_COMMIT (R379). -/
def execJournalCopyACommit (s : State) : Out := done s.copyADone

/-- JOURNAL_COPY_B_DONE (R379). -/
def execJournalCopyBDone (s : State) : Out := done s.copyBDone

/-- COMPACTION_DONE (R381): a record of every persistent entry in the other half, its header, the old half erased. After a
fall of PWR_FAIL_N no compaction ends. -/
def execCompactionDone (s : State) : Out :=
  match s.fba.compacting with
  | some c =>
    if !s.pins.pwrFailN then done s
    else
      let j := s.jCopy c
      let h := 1 - j.half
      let base := if c = 1 then s.fba.compactSeq.getD s.fba.seq else s.fba.seq
      let s := { s with jrn := Memory.clear s.jrn (halfOffset c h) (halfOffset c h + 0x100000) }
      let keys := fbPersistentKeys
      let s := (List.range keys.length).foldl (fun s k =>
        let key := keys.getD k 0
        match fbFind fbTable (key / 256) (key % 256) with
        | some e =>
          s.jProgram (slotOffset c h k)
            (recordBody (base + k) (key / 256) (key % 256) e.type.code (beBytes e.size (s.fbGet (key / 256) (key % 256))) ++ [0])
        | none => s) s
      let s := s.jProgram (halfOffset c h) (halfHeader (j.gen + 1))
      let s := { s with jrn := Memory.clear s.jrn (halfOffset c j.half) (halfOffset c j.half + 0x100000) }
      let s := (s.setJCopy c ⟨h, j.gen + 1, keys.length, false⟩).fbInc 0x60D0 0xA
      let more := c = 0 && s.compactionDue 1
      done (s.setFba { s.fba with
        seq := max s.fba.seq (base + keys.length), compacting := if more then some 1 else none, compactSeq := if more then some base else none })
  | none => done s

/-! ## Service (R371, R372) -/

/-- The service of a request waits for the record in progress: until its answer, and, where the request needs a record
itself, until copy B is complete. -/
def State.fbaBlocked (s : State) (r : FbaReq) : Bool :=
  match s.fba.record with
  | some j =>
    j.request.isSome || r.op = 4 ||
    (r.op = 2 && (match fbRow r.index r.sub with | some e => fbPersistent e r.index r.sub | none => false))
  | none => false

/-- An OPEN's preconditions (R367), in the order of R372. -/
def State.fbaOpenCode (s : State) (r : FbaReq) : Nat :=
  let n := r.session
  let car := s.fbGet (0x1210 + n - 1) 4
  let allowed := car = 0 || (match r.source with | .can _ => car = 1 | .udp _ _ _ => car = 2 | .mailbox _ => false)
  if n = 0 || s.fbGet (0x1210 + n - 1) 1 = 0 || !allowed then Code.eSession
  else match s.fbaKey n with
    | none => Code.eSession
    | some key =>
      if fbaMac key (r.value ++ List.replicate 8 0) r.covered ≠ r.mac then Code.eAuth
      else if r.fresh ≤ s.fbGet (0x1210 + n - 1) 5 then Code.eReplay
      else Code.ok

/-- Step 2 of R372 for the other operations: the code, the level of R359 and R370, and the state with FRESH consumed. -/
def State.fbaAdmit (s : State) (r : FbaReq) : Nat × Nat × State :=
  let n := r.session
  if r.auth then
    match s.fbaSession n, s.fbaKey n with
    | some x, some key =>
      if r.epoch ≠ s.fbaEpoch n then (Code.eSession, 0, s)
      else if fbaMac key x.nonce r.covered ≠ r.mac then (Code.eAuth, 0, s.strike r.source)
      else if r.fresh ≤ x.rx then (Code.eReplay, 0, s)
      else (Code.ok, if s.fbGet (0x1210 + n - 1) 3 = 2 then 2 else 1, s.setFbaSession n { x with rx := r.fresh, last := s.datum })
    | _, _ => (Code.eSession, 0, s)
  else
    match r.source with
    | .mailbox m =>
      let a := s.mbAttr m.val
      (Code.ok, if a.secure then 2 else s.fbGet 0x1201 (a.partition + 1), s)
    | src =>
      if n = 0 then (Code.ok, 0, s)
      else match s.fbaSession n with
        | some x => if x.source = src ∧ r.epoch = s.fbaEpoch n then (Code.ok, 1, s.fbaTouch n) else (Code.eSession, 0, s)
        | none => (Code.eSession, 0, s)

/-- A session that has closed idle in this clock stays open for a request of it that is accepted in the same clock (R384). -/
def State.fbaRevive (s : State) (n : Nat) : State :=
  match s.fba.idled with
  | some (m, t, x) =>
    if m = n && t = s.datum && (s.fbaSession n).isNone then
      let s := (s.setFbaSession n x).fbSet 0x1200 1 (s.fbGet 0x1200 1 ||| 2 ^ n)
      s.setFba { s.fba with idled := none }
    else s
  | none => s

/-- Step 2 of R372, with a session that has closed idle in this clock. -/
def State.fbaSessionStep (s : State) (r : FbaReq) : Nat × Nat × State :=
  let again := (s.fbaRevive r.session).fbaAdmit r
  if again.1 = Code.ok then again else s.fbaAdmit r

/-- The requester is the partition that owns the battery results (R358). -/
def State.resultsOwner (s : State) (r : FbaReq) : Bool :=
  match r.source with
  | .mailbox m => decide (0x6A00 ≤ r.index) && decide (r.index ≤ 0x6AFF) && r.sub != 0 && (s.mbAttr m.val).partition = s.fbGet 0x1220 1
  | _ => false

/-- Steps 3 and 4 of R372 for READ and WRITE, up to the codes of the entry's chapter. -/
def State.fbaEntryCode (s : State) (r : FbaReq) (level : Nat) : Nat :=
  match fbRow r.index r.sub with
  | none => if fbIndexExists r.index then Code.eSubindex else Code.eIndex
  | some e =>
    let write := r.op = 2
    let refused := (!write && e.acc = .wo) || (write && e.acc = .ro && !s.resultsOwner r)
    let sizeBad := if e.type = .str then decide (e.size < r.len) else decide (r.len ≠ e.size)
    let restart := decide (0x8000 ≤ r.index) && decide (r.index ≤ 0x8FFF) && decide (2 ≤ s.get Reg.CRY_SEC_STATE_STATE)
    firstCode
      [(refused, Code.eAccess), (decide (level < e.auth), Code.eAuth), (write && sizeBad, Code.eType),
       (write && !s.fbInRange e r.index r.sub (beValue r.value), Code.eRange), (restart, Code.eUnavailable)]

/-- A volatile write's effect: its code and the state. -/
def State.fbaVolatile (s : State) (i sub v : Nat) : Nat × State :=
  match i * 256 + sub with
  | 0x201005 => s.rebaseRequest
  | 0x710001 =>
    let s := s.fbSet 0x7100 1 v
    (Code.ok, if v = 0 then s.withdrawGrant.sessionClose else s.tryGrant.openSession)
  | 0x800001 => s.activate v
  | 0x800002 => s.rollbackCommit v
  | _ => (Code.ok, s.fbSet i sub v)

/-- A WRITE whose checks have passed: a persistent one begins its record, or is refused during a compaction or without a
journal. -/
def State.fbaWrite (s : State) (r : FbaReq) : State :=
  let v := beValue r.value
  match fbRow r.index r.sub with
  | some e =>
    if fbPersistent e r.index r.sub then
      if s.fba.compacting.isSome then (s.fbInc 0x60D0 0xB).fbaRespond r Code.eBusy []
      else if s.journalFailed then s.fbaRespond r Code.eJournal []
      else s.beginRecord r r.index r.sub e.type.code e.size v none
    else
      let (c, s) := s.fbaVolatile r.index r.sub v
      s.fbaRespond r c []
  | none => s

/-- An OPEN whose checks have passed: the device nonce is drawn, and the open counter's record begins. -/
def State.fbaOpen (s : State) (r : FbaReq) : State :=
  if s.fba.compacting.isSome then s.fbaRespond r Code.eBusy []
  else if s.journalFailed then s.fbaRespond r Code.eJournal []
  else
    let (dn, s) := s.freeNats 8
    s.beginRecord r (0x1210 + r.session - 1) 5 3 4 r.fresh (some { source := r.source, nonce := r.value ++ dn.map (· % 256) })

/-- The operation of a request whose session step has passed. -/
def State.fbaOperate (s : State) (r : FbaReq) (level : Nat) : State :=
  if r.op = 5 then (s.fbaRespond r Code.ok []).fbaClose r.session
  else if r.op = 3 then
    match fbRow r.index r.sub with
    | some e => s.fbaRespond r Code.ok (fbDescribe e r.index r.sub)
    | none => s.fbaRespond r (if fbIndexExists r.index then Code.eSubindex else Code.eIndex) []
  else
    let c := s.fbaEntryCode r level
    if c ≠ Code.ok then s.fbaRespond r c []
    else if r.op = 2 then s.fbaWrite r
    else
      match fbRow r.index r.sub with
      | some e => s.fbaRespond r Code.ok (beBytes e.size (s.fbView r.index r.sub))
      | none => s

/-- The request at the head of the queue is served if its operation is the row's and nothing holds it. -/
def State.fbaServe (s : State) (op : Nat) : State :=
  match s.fba.queue with
  | [] => s
  | r :: rest =>
    if r.op ≠ op || s.fwDown 21 || s.fbaBlocked r then s
    else
      let s := s.setFba { s.fba with queue := rest }
      if r.op = 4 then
        let c := s.fbaOpenCode r
        if c = Code.ok then s.fbaOpen r
        else if c = Code.eAuth then (s.strike r.source).fbaRespond r c []
        else s.fbaRespond r c []
      else
        let (c, level, s) := s.fbaSessionStep r
        if c ≠ Code.ok then s.fbaRespond r c [] else s.fbaOperate r level

/-- FBA_READ (R362). -/
def execFbaRead (s : State) : Out := done (s.fbaServe 1)
/-- FBA_WRITE (R362, R379). -/
def execFbaWrite (s : State) : Out := done (s.fbaServe 2)
/-- FBA_DESCRIBE (R363). -/
def execFbaDescribe (s : State) : Out := done (s.fbaServe 3)
/-- FBA_OPEN (R367). -/
def execFbaOpen (s : State) : Out := done (s.fbaServe 4)
/-- FBA_CLOSE (R367). -/
def execFbaClose (s : State) : Out := done (s.fbaServe 5)

end Sys2Proof.Machine
end

