-- ==== Sys2Proof/Machine/Firmware.lean ====
section
/-! DEFINITION. The watchdogs of the firmware processors (R387–R390): the kick, the expiry and what it ends, the restart. -/

namespace Sys2Proof.Machine
open Sys2Proof

/-- Watchdog `n` belongs to a processor that is there: not to a fuse-disabled cluster's (R388, R6). -/
def State.fwThere (s : State) (n : Nat) : Bool := decide (16 ≤ n) || s.clusterOn n

/-- The count of watchdog `n` starts anew. -/
def State.fwRestartCount (s : State) (n : Nat) : State :=
  { s with fw := { s.fw with wdStart := KMap.put s.fw.wdStart n s.datum } }

/-- When the count of watchdog `n` reaches zero. -/
def State.fwDue (s : State) (n : Nat) : Nat := KMap.getD s.fw.wdStart n 0 + s.get (Reg.SYS_FWD_CTRL_TIMEOUT_US n) * 1000

/-- The agent is firmware processor `n`. -/
def isFw (n : Nat) : Agent → Bool
  | .fw m => m.val = n
  | _ => false

/-- A write of SYS_FWD_KICK: only processor `n` itself, with the key, restarts the count; another initiator's write is
logged. -/
def State.fwKick (s : State) (who : Agent) (n key : Nat) : State :=
  let a := Reg.SYS_FWD_KICK_addr n
  if isFw n who then (if key = 0x5A3C then s.fwRestartCount n else s)
  else s.cadLog (blockChecker a) a (s.attrOf who) true 0x21

/-- FW_WATCHDOG_KICK (R388). -/
def execFwWatchdogKick (who : Agent) (n : Fin 23) (key : BitVec 16) (s : State) : Out :=
  done (s.gateWrite who (Reg.SYS_FWD_KICK_addr n.val) (fun s => s.fwKick who n.val key.toNat))

/-- A write of SYS_FWD_CTRL (R388, R214, R445): EN by setting, TEST by pair B only, TIMEOUT_US only while EN = 0. A
TIMEOUT_US out of range refuses the write (R21). -/
def State.writeFwdCtrl (s : State) (who : Agent) (n v : Nat) : State :=
  let en := s.bit (Reg.SYS_FWD_CTRL_EN n)
  let t := bitsOf v 19 0
  let test := fun (s : State) => if who = .pairB then s.setBit (Reg.SYS_FWD_CTRL_TEST n) (bitOf v 30) else s
  if en then (test s).report (if t = s.get (Reg.SYS_FWD_CTRL_TIMEOUT_US n) then Code.ok else Code.eState)
  else if t < 100 ∨ 1000000 < t then s.report Code.eIllegal
  else
    let s := (test (s.set (Reg.SYS_FWD_CTRL_TIMEOUT_US n) t)).report Code.ok
    if bitOf v 31 then (s.set (Reg.SYS_FWD_CTRL_EN n) 1).fwRestartCount n else s

/-- A watchdog that counts for a running processor. -/
def State.fwCounts (s : State) (n : Nat) : Bool := s.fwThere n && s.bit (Reg.SYS_FWD_CTRL_EN n) && !s.fwDown n

/-- FW_WATCHDOG_TEST_EXPIRY (R214): in test mode an expiry sets EXPIRED_TEST without reset. -/
def execFwWatchdogTestExpiry (n : Fin 23) (s : State) : Out :=
  if s.fwCounts n.val && s.bit (Reg.SYS_FWD_CTRL_TEST n.val) then
    done (((s.advanceTo (s.fwDue n.val)).set (Reg.SYS_FWD_STATUS_EXPIRED_TEST n.val) 1).fwRestartCount n.val)
  else done s

/-! ## What an expiry ends (R389) -/

/-- The jobs with a running command that a test picks are killed with E_FW_WATCHDOG. -/
def State.killFw (s : State) (test : Nat → Nat → Bool) : State :=
  s.eng.jobs.foldl (fun s p =>
    if (s.job p.1).isSome && !isPlumb p.1 && test p.1 (match s.cmd p.1 with | some c => c.desc.clusters | none => 0) then
      s.killFree p.1 Code.eFwWatchdog
    else s) s

/-- The record in progress is abandoned; its request is answered E_RETRY after the restart if it came through a mailbox
(R388). -/
def State.abandonRecord (s : State) : State :=
  let s := match s.fba.record with
    | some j => (match j.request with
      | some r => (match r.source with
        | .mailbox m => s.setMbox m.val { s.mbox m.val with fba := false, retry := true }
        | _ => s)
      | none => s)
    | none => s
  s.setFba { s.fba with record := none, compacting := none, compactSeq := none }

/-- The running plan is killed; a restart that R67 admits is a full replan (R389). -/
def State.replan (s : State) : State :=
  match s.trv.plan with
  | none => s
  | some p =>
    match s.openWindows.find? (fun w => w.index = p.window) with
    | some w =>
      if verdict s.datum p.bound true w = .admitted then
        let s := (s.spendRestart w).setCx p.ctx { s.cx p.ctx with arena := none }
        let s := s.set (Reg.TRV_Q_HOLD_HOLD p.ctx) (2 ^ rqSlot p.req)
        s.setPlan (some { ctx := p.ctx, req := p.req, start := s.datum, bound := p.bound, window := p.window, restarted := true })
      else s.killPlan Code.eFwWatchdog
    | none => s.killPlan Code.eFwWatchdog

/-- The work in progress of processor `n` ends (R389). -/
def State.fwEnds (s : State) (n : Nat) : State :=
  if n < 16 then s.killFw (fun _ m => bitOf m n)
  else match n with
    | 16 => s.killFw (fun k m => decide (k < 128) || m % 256 != 0)
    | 17 => s.killFw (fun k m => decide (128 ≤ k) || m / 256 != 0)
    | 18 => (List.range 32).foldl (fun s x => s.failGfx x Code.eFwWatchdog) s
    | 19 => s.failMedia Code.eFwWatchdog
    | 21 => s.abandonRecord
    | 22 => s.replan
    | _ => s

/-- The third expiry within 60 s: the processor is held in reset (R390); a failed cluster controller's cluster is
isolated, a failed PMU controller enters FAILED (R407). -/
def State.fwFail (s : State) (n : Nat) : State :=
  let s := (s.set (Reg.SYS_FWD_STATUS_STATE n) 2).fbInc 0x60E0 2
  if n < 16 then
    if s.bit (Reg.TEN_CL_STATUS_ISOLATED n) then s
    else ((s.set (Reg.TEN_CL_STATUS_ISOLATED n) 1).fbInc 0x6030 6).degrade Reg.SAF_STATE_CLUSTER_ISOLATED Code.eDegrCluster
  else if n = 20 then s.pmuEnter 3
  else s

/-- FW_WATCHDOG_EXPIRY (R388–R390, R417). -/
def execFwWatchdogExpiry (n : Fin 23) (s : State) : Out :=
  let k := n.val
  if s.fwCounts k && !s.bit (Reg.SYS_FWD_CTRL_TEST k) then
    let s := s.advanceTo (s.fwDue k)
    let s := (s.set (Reg.SYS_FWD_STATUS_STATE k) 1).inc (Reg.SYS_FWD_STATUS_EXPIRIES k)
    let s := (((s.raiseEdge (704 + k)).fbInc 0x60E0 1).emit (.watchdogExpiry k)).fwLog k
    let times := s.datum :: (KMap.getD s.fw.expiries k []).filter (fun t => decide (s.datum < t + 60000000000))
    let s := { s with fw := { s.fw with expiries := KMap.put s.fw.expiries k times } }
    let t := s.fwEnds k
    let t := if t.fw.switch.isSome then t.failSwitch.set (Reg.SYS_FWD_STATUS_STATE k) 1 else t
    done ((if 3 ≤ times.length then t.fwFail k else t).readmit s)
  else done s

/-! ## The restart (R388, R415) -/

/-- The requests that a restart of the gateway controller interrupted are answered E_RETRY (R388). -/
def State.answerRetries (s : State) : State :=
  (List.range 64).foldl (fun s m =>
    if (s.mbox m).retry then
      let q := s.mbRequest m
      ((s.setMbox m { s.mbox m with retry := false }).mbPass m).mbReply m q Code.eRetry []
    else s) s

/-- The processors that a firmware switch resets: the 22 other than the PMU controller, as far as they are there. -/
def State.switchMask (s : State) : Nat :=
  (List.range 23).foldl (fun m n => if n = 20 ∨ !s.fwThere n ∨ s.fwFailed n then m else m + 2 ^ n) 0

/-- A processor has reported ready during a firmware switch; once all have, the switch is complete and the NOR write
begins. -/
def State.switchReady (s : State) (n : Nat) : State :=
  match s.fw.switch with
  | none => s
  | some w =>
    let ready := w.ready ||| 2 ^ n
    if ready &&& s.switchMask = s.switchMask then { s with fw := { s.fw with switch := none } }.beginWrite 1
    else { s with fw := { s.fw with switch := some { w with ready := ready } } }

/-- FW_PROCESSOR_READY (R388, R389, R415): a processor that was reset runs again, its watchdog with it. The gateway
controller scans the journal first. -/
def execFwProcessorReady (n : Fin 23) (s : State) : Out :=
  if s.get (Reg.SYS_FWD_STATUS_STATE n.val) ≠ 1 then done s
  else
    let s := (s.set (Reg.SYS_FWD_STATUS_STATE n.val) 0).fwRestartCount n.val
    let s := if n.val = 21 then s.journalScan.answerRetries else s
    done (s.switchReady n.val)

end Sys2Proof.Machine
end

