-- ==== Sys2Proof/Machine/Boot.lean ====
section
/-! DEFINITION. Resets (R421, R422), the boot stages (R430–R433, R309), sleep and wake (R434), power failure and the thermal
trip (R435, R436), PLLs and clock enables (R428, R429), debug access and the TAP (R441, R442). -/

namespace Sys2Proof.Machine
open Sys2Proof

/-! ## What a reset keeps -/

/-- A field key lies in `[lo, hi)` by address. -/
def keyIn (k lo hi : Nat) : Bool := decide (lo * 64 ≤ k) && decide (k < hi * 64)

/-- Fields that every reset but power-on keeps: identification, straps, reset cause; the debug port's lock-out; key slots. -/
def keptKey (k : Nat) : Bool :=
  keyIn k Reg.SYS_DEVICE_ID_addr (Reg.SYS_RST_CAUSE_addr + 4) || k = (Reg.SYS_DBG_STATUS_LOCKED_OUT).key ||
  k = (Reg.SYS_DBG_STATUS_DISABLED).key || keyIn k (Reg.CRY_KS_CTRL_addr 0) (Reg.CRY_KS_CTRL_addr 32)

/-- Fields of Datum: its rate, state and source. -/
def datumKey (k : Nat) : Bool :=
  k = (Reg.MER_RATE_ADJ).key || k = (Reg.MER_STATUS_DATUM_STATE).key || k = (Reg.MER_DATUM_CTRL_SOURCE).key

/-- Fields kept in suspend to RAM besides: leases, the safety island's, the record of the boot, and the inline ECC of the
groups, whose DRAM keeps its data (R36). -/
def suspendKey (k : Nat) : Bool :=
  keyIn k 0x10408000 0x10408100 || keyIn k 0x10500000 0x10600000 || keyIn k 0x1C000000 0x1C001000 ||
  (List.range 12).any (fun g => k = (Reg.DDR_CG_CTRL_INLINE_ECC g).key)

/-- The fields that fuses give (R4, R5, R309, R442): the grade, the units present, the secure counter, the debug bit. -/
def State.loadFuses (s : State) : State :=
  let s := ((s.set Reg.SYS_DEVICE_ID_GRADE s.fuses.grade).set Reg.SYS_UNIT_MASK_CLUSTER_EN s.fuses.clusters).set
    Reg.SYS_UNIT_MASK_QUAD_EN s.fuses.quads
  (s.set Reg.CRY_SEC_SVN_FUSE_SVN (s.fuses.svn.getD 0 0)).setBit Reg.SYS_DBG_STATUS_DISABLED s.fuses.dbgDisable

/-- The device after a reset of every domain but domain 0: what a reset never touches (the model's own fields, pins, fuses
and the flashes), the key slots, the count of debug refusals, the TAP, and the fields that a test keeps. Fuse values are
loaded before the reset is released (R13). -/
def State.cleared (s : State) (keep : Nat → Bool) : State :=
  State.loadFuses
  { pending := s.pending, freeCtr := s.freeCtr, out := s.out, pins := { s.pins with timeOut := 0 }, fuses := s.fuses,
    eccPlan := s.eccPlan, dramGiB := s.dramGiB, nor := s.nor, jrn := s.jrn, ufs := s.ufs, jtag := s.jtag, dbg := { refusals := s.dbg.refusals },
    worlds := { keys := s.worlds.keys }, regs := s.regs.filter (fun p => keep p.1) }

/-! ## Boot (R309, R431, R433) -/

/-- Stage 1, up to the images: PLLs locked, the secure watchdog runs, DRAM trained with inline ECC on every group. -/
def State.bootRom (s : State) : State :=
  let s := (s.set Reg.SYS_PLL_STATUS_LOCK 0xFFF).set Reg.CRY_SWD_CTRL_EN 1
  let s := (List.range 12).foldl (fun s g => s.set (Reg.DDR_CG_CTRL_INLINE_ECC g) 1) s
  { s with worlds := { s.worlds with swdStart := s.datum }, boot := { s.boot with stage := 1 } }

/-- The image at LBA 0 of UFS Boot LU A. -/
def State.ufsImage (s : State) : List Nat × List Nat :=
  let header := Memory.readBytes s.ufs 0 256
  (header, Memory.readBytes s.ufs 256 (bodyLength 0 header))

/-- The first boot failure stands in SYS_BOOT_STATUS.CODE. -/
def State.bootFailure (s : State) (c : Nat) : State :=
  if s.get Reg.SYS_BOOT_STATUS_CODE = 0 then s.set Reg.SYS_BOOT_STATUS_CODE c else s

/-- The secure image starts: loaded, measured, recorded with its SVN and source (0 A, 1 B, 2 UFS). -/
def State.startSecure (s : State) (img : List Nat × List Nat) (src : Nat) : State :=
  let s := (s.loadImage img.1 img.2).setMeas (measure img.1 img.2)
  let s := ((s.setBit Reg.CRY_SEC_STATE_SLOT (src = 1)).set Reg.CRY_SEC_STATE_STATE 1).set Reg.SYS_BOOT_STATUS_SRC src
  let n := (parseHeader img.1).svn
  (s.set Reg.CRY_SEC_SVN_IMAGE_SVN n).fbSet 0x8003 1 n

/-- The recovery path (R433): the image in UFS, or the boot ROM stays resident. -/
def State.bootRecovery (s : State) : Bool × State :=
  let img := s.ufsImage
  let c := s.imageCheck 0 img.1 img.2
  if c = Code.ok then (true, s.startSecure img 2)
  else (false, { (s.bootFailure c).set Reg.SYS_BOOT_STATUS_SRC 3 with boot := { s.boot with resident := true } })

/-- The secure image is found and started: slot A, slot B, the recovery path (R309, R433): whether one started. -/
def State.bootSecure (s : State) : Bool × State :=
  if s.bit Reg.SYS_STRAP_RECOVERY then s.bootRecovery
  else if s.imageCheck 0 (s.slotImage 0 false).1 (s.slotImage 0 false).2 = Code.ok then (true, s.startSecure (s.slotImage 0 false) 0)
  else
    let c := s.imageCheck 0 (s.slotImage 0 true).1 (s.slotImage 0 true).2
    if c = Code.ok then (true, s.startSecure (s.slotImage 0 true) 1)
    else ((s.set Reg.CRY_SEC_STATE_CODE c).bootFailure c).bootRecovery

/-- An image of kind 1 or 2 is loaded from slot A or B: the code of slot B's failure, or OK. -/
def State.bootKind (s : State) (k : Nat) : Nat × State :=
  let load := fun (s : State) (b : Bool) =>
    let img := s.slotImage k b
    let l := (parseHeader img.1).load
    (((s.wr l img.1).wr (l + 256) img.2).setUpdate k { s.update k with runB := b }).fbSet 0x8003 (k + 1) (parseHeader img.1).svn
  if s.imageCheck k (s.slotImage k false).1 (s.slotImage k false).2 = Code.ok then (Code.ok, load s false)
  else
    let c := s.imageCheck k (s.slotImage k true).1 (s.slotImage k true).2
    if c = Code.ok then (c, load s true) else (c, s)

/-- Stages 2 and 3: inline ECC off on the groups that the secure firmware's plan lists, every power domain on, the safety
island image and the bundle loaded. A failed one leaves the device in stage 2; else the safety island is released and
runs start-up injection. -/
def State.bootImages (s : State) : State :=
  let s := ((List.range 12).filter (fun g => bitOf s.eccPlan g)).foldl (fun s g => s.set (Reg.DDR_CG_CTRL_INLINE_ECC g) 0) s
  let s := { s.set Reg.PMU_PD_STATE_PD (2 ^ 20 - 1) with boot := { s.boot with stage := 2 } }
  match s.bootKind 2 with
  | (c, s) =>
    if c ≠ Code.ok then s.bootFailure c
    else match s.bootKind 1 with
      | (c, s) => if c ≠ Code.ok then s.bootFailure c else { s with boot := { s.boot with stage := 3 } }

/-- The boot from stage 1 to the start of injection. -/
def State.bootUp (s : State) : State :=
  match s.bootRom.bootSecure with
  | (true, s) => s.bootImages
  | (false, s) => s

/-- The persistent entries are loaded into their registers (R376, R70, R168, R187). -/
def State.loadEntries (s : State) : State :=
  let s := ((s.set Reg.MER_TICK_PERIOD_PERIOD_US (s.fbGet 0x2000 1)).set Reg.MER_HYPER_TICKS_TICKS (s.fbGet 0x2000 2)).set
    Reg.MER_PHASE_NS_PHASE (s.fbGet 0x2000 3)
  let s := (s.set Reg.MER_DATUM_CTRL_SOURCE (s.fbGet 0x2010 1)).set Reg.CRY_SWD_CTRL_TIMEOUT_MS (s.fbGet 0x7500 3)
  let s := (List.range 12).foldl (fun s g =>
    ((s.set (Reg.DDR_CG_CTRL_OWNER g) (s.fbGet 0x7001 (g + 1))).set (Reg.DDR_CG_CTRL_OWNER_RES g) (s.fbGet 0x7001 (0x21 + g))).set
      (Reg.DDR_CG_SHARE_SHARERS g) (s.fbGet 0x7001 (0x11 + g))) s
  let s := (List.range 16).foldl (fun s w => s.set (wayOwner w) (s.fbGet 0x7002 (w + 1))) s
  let s := if s.fbGet 0x7001 0x30 = 1 then s.set Reg.DDR_PART_LOCK_LOCK 1 else s
  let s := (List.range 23).foldl (fun s n => s.set (Reg.SYS_FWD_CTRL_TIMEOUT_US n) (s.fbGet 0x7600 3)) s
  { s with saf := { s.saf with partition := s.fbGet 0x3000 2 }, mer := { s.mer with lockAtBoot := s.fbGet 0x2000 4 = 1 } }

/-- Stages 4 and 5: the firmware processors are released with their watchdogs, the journal is scanned, the entries are
loaded, the application cores are released. -/
def State.bootRelease (s : State) : State :=
  let s := s.journalScan.loadEntries
  let s := (List.range 23).foldl (fun s n =>
    if s.fwThere n then (s.set (Reg.SYS_FWD_CTRL_EN n) 1).fwRestartCount n else s) s
  let s := s.setPmu { s.pmu with normalSince := s.datum }
  { s with boot := { s.boot with stage := 5, appCores := true } }

/-! ## Start-up injection (R214, R215)

The responses are what the run leaves in registers that only software clears; the counters of items 4 and 5 are cleared by
pair B's own reads of them (DEDUCED: log entry 45). -/

/-- The Cadastre checkers of the units present (R299). -/
def State.checkersOn (s : State) : List Nat :=
  (List.range 65).filter (fun k => !(43 ≤ k && k < 48) && (!(24 ≤ k && k < 40) || s.clusterOn (k - 24)))

/-- Item 8: the forbidden write that pair B makes at a checker's test region; the spec gives neither its address nor the
region, which are free values. -/
def State.forbiddenWrite (s : State) (k : Nat) : State :=
  let (x, s) := s.freeNat
  s.cadLog k ((checkerRange k).1 + x / 32 % ((checkerRange k).2 - (checkerRange k).1 + 1)) ⟨true, 0⟩ true (x % 32)

/-- The responses of an item. -/
def State.injected (s : State) : Nat → State
  | 5 => (s.set Reg.DDR_EVENTS_ECC_CORR 1).set Reg.DDR_EVENTS_ECC_UNCORR 1
  | 6 => ((List.range 23).filter s.fwThere).foldl (fun s n => s.set (Reg.SYS_FWD_STATUS_EXPIRED_TEST n) 1)
      (s.set Reg.CRY_SWD_CTRL_EXPIRED_TEST 1)
  | 7 => s.set Reg.ICN_FAULT_TEST 1
  | 8 => s.checkersOn.foldl State.forbiddenWrite s
  | _ => s

/-- The items before `n` have responded. -/
def State.injectedUpTo (s : State) (n : Nat) : State := (List.range n).foldl State.injected s

/-- INJECTION_COMPLETE (R214, R215, R431): the run has ended; 0: every item responded, else the first failing item, at which
the run ends (DESIGN CHOICE: log entry 45). A pass releases the processors; a failure is latched until the next run, leaves
STATE in INIT and is reported. -/
def execInjectionComplete (failItem : Fin 10) (s : State) : Out :=
  if s.boot.stage ≠ 3 ∨ s.bit Reg.SAF_INJ_STATUS_DONE then done s
  else
    let s := s.set Reg.SAF_INJ_STATUS_DONE 1
    if failItem.val = 0 then done ((s.injectedUpTo 10).set Reg.SAF_INJ_STATUS_PASS 1).bootRelease
    else
      let s := ((s.injectedUpTo failItem.val).set Reg.SAF_INJ_STATUS_ITEM failItem.val).set Reg.SAF_INJ_STATUS_CODE Code.eInject
      done (s.set Reg.SAF_STATE_CAUSE Code.eInject).statusMessage

/-! ## Resets (R421, R422, R430) -/

/-- A journal record in progress is completed in both copies first (R422, R379). -/
def State.finishRecord (s : State) : State := s.copyADone.copyBDone

/-- A system reset with a cause bit of SYS_RST_CAUSE. -/
def State.systemReset (s : State) (cause : Nat) : State :=
  (s.finishRecord.cleared keptKey).set Reg.SYS_RST_CAUSE_CAUSE cause

/-- The boot follows a reset unless the thermal trip holds the device. -/
def State.reboot (s : State) : State := if s.pins.thermtripN then s.bootUp else s

/-- SYSTEM_RESET (R421, R422): RESET_N has been low for at least 1 µs. `held`: it stays low; else it has risen again, and
the boot follows. -/
def execSystemReset (held : Bool) (s : State) : Out :=
  let s := s.systemReset 1
  let s := { s with pins := { s.pins with resetN := !held } }
  done (if held then s else s.reboot)

/-- SYS_RST_CTRL.SYSTEM is set: of the Secure world only. -/
def State.softwareReset (s : State) (who : Agent) : State :=
  if s.normal who then s.report Code.eAccess else (s.systemReset 2).reboot

/-- SOFTWARE_RESET (R421): a write of SYS_RST_CTRL.SYSTEM. -/
def execSoftwareReset (who : Agent) (s : State) : Out :=
  done (s.gateWrite who Reg.SYS_RST_CTRL_addr (fun s => s.softwareReset who))

/-- The strap combinations of R430 that are legal. -/
def strapsLegal (pkg mode : Nat) : Bool := if pkg = 0 then decide (mode ≤ 1) else mode = 2

/-- POWER_ON_RESET (R421, R430): POR_N rises; everything is reset, the key slots are zeroised, the straps latched
(XSPI_OCTAL, RECOVERY, PCIE_MODE, PKG_ID from bit 5 down), and the boot runs. -/
def execPowerOnReset (straps : BitVec 6) (s : State) : Out :=
  let v := straps.toNat
  let s := s.cleared (fun _ => false)
  let s := { s with worlds := {}, dbg := {}, jtag := {}, pins := { s.pins with porN := true, resetN := true, thermtripN := true } }
  let s := ((s.set Reg.SYS_STRAP_XSPI_OCTAL (bitsOf v 5 5)).set Reg.SYS_STRAP_RECOVERY (bitsOf v 4 4)).set
    Reg.SYS_STRAP_PCIE_MODE (bitsOf v 3 2)
  let s := (s.set Reg.SYS_STRAP_PKG_ID (bitsOf v 1 0)).setBit Reg.SYS_STRAP_ERR (!strapsLegal (bitsOf v 1 0) (bitsOf v 3 2))
  done (s.set Reg.SYS_RST_CAUSE_CAUSE 0x40).bootUp

/-! ## PLLs and clocks (R428, R429) -/

/-- The power domains with work whose clocks come from a PLL of R426. -/
def pllDomains : Nat → List Nat
  | 0 => [4, 5] | 1 => [6, 7] | 8 => [12] | 10 => [14, 16] | _ => []

/-- PLL_LOSS (R429): PLL 0–11, or the reference (12), loses lock or frequency. -/
def execPllLoss (pll : Fin 13) (s : State) : Out :=
  let k := pll.val
  let s := s.fbInc 0x60F0 1
  let s := if k < 12 then
      (s.set Reg.SYS_PLL_STATUS_LOSS (s.get Reg.SYS_PLL_STATUS_LOSS ||| 2 ^ k)).set Reg.SYS_PLL_STATUS_LOCK
        (s.get Reg.SYS_PLL_STATUS_LOCK &&& (0xFFF - 2 ^ k))
    else s
  if k = 7 then
    let s := { s.set Reg.PLB_STATUS_CLK_FAULT 1 with eng := { s.eng with plumbDead := true } }
    done (((s.killPlumb Code.eUnavailable).killPlan Code.eUnavailable).declareSafe Code.eMonitor true)
  else if k = 11 ∨ k = 12 then done (s.declareSafe Code.eMonitor true)
  else if 2 ≤ k ∧ k ≤ 5 then done (s.systemReset 8).reboot
  else
    let s := s.setPmu { s.pmu with pllLost := s.pmu.pllLost ||| 2 ^ k }
    done (((pllDomains k).foldl (fun s d => s.killDomain d Code.eUnavailable) s).readmit s)

/-- PLL_RELOCK (R429): LOCK returns, and admission on the PLL's domains resumes. -/
def execPllRelock (pll : Fin 12) (s : State) : Out :=
  let k := pll.val
  let s := s.set Reg.SYS_PLL_STATUS_LOCK (s.get Reg.SYS_PLL_STATUS_LOCK ||| 2 ^ k)
  done (s.setPmu { s.pmu with pllLost := s.pmu.pllLost &&& (0xFFF - (2 ^ k &&& 0xFFF)) })

/-- The fixed bits of SYS_CLK_EN (R428). -/
def fixedClocks : Nat := (List.range 60).foldl (fun m n => if clockFixed n then m + 2 ^ n else m) 0

/-- A write of SYS_CLK_EN (R428, R314): fixed bits stay 1, reported E_STATE; a Normal-world change of a leased bit is
ignored, reported E_LEASED, logged with REGION 0x22 and counted. -/
def State.writeClkEn (s : State) (who : Agent) (v : Nat) : State :=
  let old := s.get Reg.SYS_CLK_EN_EN
  let leased := if s.normal who then s.leasedClk else 0
  let hit := (v ^^^ old) &&& leased
  let new := (((v &&& (2 ^ 60 - 1 - leased)) ||| (old &&& leased)) ||| fixedClocks)
  let s := s.set Reg.SYS_CLK_EN_EN new
  let s := if v &&& fixedClocks = fixedClocks then s else s.report Code.eState
  if hit ≠ 0 then
    ((s.cadLog (blockChecker Reg.SYS_CLK_EN_addr) Reg.SYS_CLK_EN_addr (s.attrOf who) true 0x22).fbInc 0x60A0 6).report Code.eLeased
  else s

/-- CLOCK_ENABLE_WRITE (R428). -/
def execClockEnableWrite (who : Agent) (value : BitVec 60) (s : State) : Out :=
  done (s.gateWrite who Reg.SYS_CLK_EN_addr (fun s => s.writeClkEn who value.toNat))

/-! ## Sleep (R434) -/

/-- DRAM and far memory, which a suspend keeps. -/
def State.dramCells (s : State) : List Host.Cell := s.mem.filter (fun c => decide (0x1000000000 ≤ c.1))

/-- The device asleep: suspend keeps domains 0 and 1 and DRAM, deep sleep domain 0. In suspend the safety island returns to
INIT and reports it at once (R207); a declared safe state stands until a reset (R186, which R434 does not set aside:
DEDUCED, log entry 38). -/
def State.sleepState (s : State) (mode : Nat) : State :=
  let st := s.get Reg.SAF_STATE_STATE
  let s := if mode = 0 && (st = 1 || st = 2) then ((s.setSafState 0).driveSafe false).statusMessage else s
  let z := s.finishRecord.cleared (fun k => keptKey k || datumKey k || (mode = 0 && suspendKey k))
  let z := { z with datum := s.datum, datumFrac := s.datumFrac, stepSeq := s.stepSeq, servo := s.servo,
                    pmu := { z.pmu with asleep := some mode } }.set Reg.PMU_PD_STATE_PD (if mode = 0 then 3 else 1)
  if mode = 0 then
    let z := { z with mem := s.dramCells, worlds := { z.worlds with imageLoad := s.worlds.imageLoad, swdStart := s.worlds.swdStart },
                      saf := { s.saf with fresh := [], heartbeat := [] } }
    (z.setSafState (z.get Reg.SAF_STATE_STATE)).driveSafe false
  else z

/-- The wake (R434): from suspend every power domain is switched on as at a boot (DESIGN CHOICE: log entry 38), the secure image in DRAM is measured again (reloaded from its slot if that fails) and the
firmware resumes without injection; the safety partition read at the last reset stands (R187). From deep sleep the device
boots from stage 1. -/
def State.wakeUp (s : State) (mode : Nat) : State :=
  let s := { s.set Reg.SYS_RST_CAUSE_CAUSE 0x20 with pmu := { s.pmu with asleep := none } }
  if mode = 0 then
    let s := (s.set Reg.SYS_PLL_STATUS_LOCK 0xFFF).set Reg.PMU_PD_STATE_PD (2 ^ 20 - 1)
    let s := if s.loadedImageOk then s
      else s.loadImage (s.slotImage 0 (s.bit Reg.CRY_SEC_STATE_SLOT)).1 (s.slotImage 0 (s.bit Reg.CRY_SEC_STATE_SLOT)).2
    if s.loadedImageOk then
      let z := (s.set Reg.CRY_SEC_STATE_STATE 1).bootRelease
      { z with saf := { z.saf with partition := s.saf.partition } }
    else s.secureFailed Code.eMeasure
  else s.bootUp

/-- SLEEP_ENTRY_DONE (R434): the entry completes; a held wake follows at once. -/
def execSleepEntryDone (s : State) : Out :=
  match s.pmu.entering with
  | some m => done (if s.pmu.wakeHeld then (s.sleepState m).wakeUp m else s.sleepState m)
  | none => done s

/-- WAKE (R434, R437): WAKE_N low for at least 1 µs; held while an entry is in progress. -/
def execWake (s : State) : Out :=
  match s.pmu.asleep with
  | some m => done (s.wakeUp m)
  | none =>
    done (s.setPmu (if s.pmu.entering.isSome then { s.pmu with wakeHeld := true } else { s.pmu with wakeAt := some s.datum }))

/-! ## Power failure and thermal trip (R435, R436, R382) -/

/-- Requests that a fall of PWR_FAIL_N discards: writes not begun, and OPENs, which need a record. -/
def FbaReq.writes (r : FbaReq) : Bool := r.op = 2 || r.op = 4

/-- The queued writes are discarded without answer; a mailbox's slot is passed. -/
def State.discardWrites (s : State) : State :=
  let gone := s.fba.queue.filter FbaReq.writes
  let s := s.setFba { s.fba with queue := s.fba.queue.filter (fun r => !r.writes) }
  gone.foldl (fun s r => match r.source with
    | .mailbox m => (s.setMbox m.val { s.mbox m.val with fba := false }).mbPass m.val
    | _ => s) s

/-- A record whose first copy's programming would begin in the clock in which PWR_FAIL_N falls is not begun, and its write has no effect
(R384). -/
def State.unbegin (s : State) : State :=
  match s.fba.record with
  | some j =>
    if j.begun = s.datum && j.request.isSome && j.copy = b2n (s.jCopy 0).failed then
      let c := s.jCopy j.copy
      let a := slotOffset j.copy c.half c.next
      let s := { s with jrn := Memory.clear s.jrn a (a + 64) }
      let s := s.setFba { s.fba with seq := s.fba.seq - 1, record := none }
      match j.request.map FbaReq.source with
      | some (.mailbox m) => (s.setMbox m.val { s.mbox m.val with fba := false }).mbPass m.val
      | _ => s
    else s
  | none => s

/-- PWR_FAIL (R435): EMERGENCY, ICN source 699, the journal rules of R382. -/
def execPwrFail (s : State) : Out :=
  if !s.pins.pwrFailN then done s
  else
    let s := { s with pins := { s.pins with pwrFailN := false } }
    let s := (if s.pmuState = 3 then s else s.pmuEnter 2).unbegin
    done (s.discardWrites.followLine 699 true)

/-- PWR_FAIL_RETURN (R435): the pin is high again; EMERGENCY ends under R407, journalling resumes, and a compaction that
fell due starts. -/
def execPwrFailReturn (s : State) : Out :=
  if s.pins.pwrFailN then done s
  else
    let s := { s with pins := { s.pins with pwrFailN := true } }.followLine 699 false
    done (if s.fba.record.isNone && s.fba.compacting.isNone then s.endRecord else s)

/-- THERMAL_TRIP (R436): THERMTRIP_N latches low, and the device enters system reset and stays in it. -/
def execThermalTrip (s : State) : Out :=
  let s := s.systemReset 4
  done { s with pins := { s.pins with thermtripN := false } }

/-! ## Debug access (R442) -/

/-- DEBUG_CHALLENGE_READ (R442): 32 random bytes. -/
def execDebugChallengeRead (s : State) : Out :=
  let (c, s) := s.freeNats 32
  let c := c.map (fun b => b % 256)
  done ({ s with dbg := { s.dbg with challenge := some c } }.emit (.debugChallenge c))

/-- A token passes the checks of R442: the challenge read last, the fused key hash, the signature, a level. -/
def State.tokenGood (s : State) (t : List Nat) : Bool :=
  t.length = 240 && (natAt t 0 = 1 || natAt t 0 = 2) && (slice t 1 7).all (· = 0) && s.dbg.challenge = some (slice t 16 32) &&
  Crypto.sha384 (slice t 48 96) = s.fuses.dbgKeyHash && !s.fuses.dbgDisable && !s.bit Reg.SYS_DBG_STATUS_LOCKED_OUT &&
  Crypto.ecdsaVerify (Crypto.sha384 (t.take 48)) (slice t 48 96) (slice t 144 96)

/-- A token is refused with a code; the third refusal locks the port out. -/
def State.tokenRefused (s : State) (c : Nat) : State :=
  let n := s.dbg.refusals + 1
  let s := { (s.fbInc 0x60F0 3).set Reg.SYS_DBG_STATUS_LAST c with dbg := { s.dbg with refusals := n, challenge := none } }
  if 3 ≤ n then s.set Reg.SYS_DBG_STATUS_LOCKED_OUT 1 else s

/-- DEBUG_TOKEN (R442). The spec names the code of one refusal only, E_STATE; the others' code is a free value. -/
def execDebugToken (token : List Byte) (s : State) : Out :=
  let t := token.map BitVec.toNat
  let level := natAt t 0
  let parts := leValue (slice t 8 8)
  if !s.tokenGood t then
    let (c, s) := s.freeNat
    done (s.tokenRefused (failureCode c))
  else if (level = 2 || bitOf parts s.saf.partition) && s.get Reg.SAF_STATE_STATE != 0 && s.get Reg.SAF_STATE_STATE != 3 then
    done (s.tokenRefused Code.eState)
  else
    let s := ((s.set Reg.SYS_DBG_STATUS_LEVEL level).set Reg.SYS_DBG_STATUS_LAST Code.ok).fbInc 0x60F0 2
    done ({ s with dbg := { s.dbg with parts := parts, challenge := none } }.raiseEdge 698)

/-! ## The TAP (R441) -/

/-- An instruction enters the TAP; the restricted ones behave as BYPASS unless RESET_N is low. -/
def State.tapSet (s : State) (i : TapInstr) : State := { s with jtag := { s.jtag with instr := i } }

/-- BYPASS (R441). -/
def execBypass (s : State) : Out := done (s.tapSet .bypass)

/-- The device identification: stepping, part number, JEP106 code, 1. -/
def State.idcodeValue (s : State) : Nat :=
  2 ^ 28 * s.get Reg.SYS_DEVICE_ID_STEP_MINOR + 2 ^ 12 * 0x9880 + 2 * (Config.jep106 % 2048) + 1

/-- IDCODE (R441). -/
def execIdcode (s : State) : Out := done ((s.tapSet .idcode).emit (.idcode s.idcodeValue))

/-- SAMPLE/PRELOAD (R441): the boundary cells take the bits shifted in. -/
def execSamplePreload (cells : List Bool) (s : State) : Out :=
  done { s with jtag := { instr := .samplePreload, cells := cells } }

/-- EXTEST (R441): the pins take the boundary cells' values while RESET_N is low. -/
def execExtest (s : State) : Out := done (if s.pins.resetN then s.tapSet .bypass else s.tapSet .extest)

/-- CLAMP (R441). -/
def execClamp (s : State) : Out := done (if s.pins.resetN then s.tapSet .bypass else s.tapSet .clamp)

/-- HIGHZ (R441). -/
def execHighz (s : State) : Out := done (if s.pins.resetN then s.tapSet .bypass else s.tapSet .highz)

end Sys2Proof.Machine
end

