-- ==== Sys2Proof/Machine/Schedule.lean ====
section
/-! DEFINITION. The Meridian schedule (R60–R69): base ticks and hyperperiod boundaries, the opening and the close of
windows, and what every unit does at them. -/

namespace Sys2Proof.Machine
open Sys2Proof

/-- Admission wherever R67 applies: in every open window of every resource. -/
def State.admitAll (s : State) : State := s.admitStaging.admitMedia.admitGfx.admitPlans.admitJobs

/-! ## The close of a window (R68) -/

/-- The job of a queue is still running at the close of its window: a job that spans packages and waits for GO ends with
E_LINK, one killed already with E_JOB_KILLED (R178), any other with E_TIMEOUT (R68, R97). -/
def State.closeJob (s : State) (k : Nat) (j : Job) : State :=
  let waits := j.group.isSome && (match s.cmd k with | some c => c.desc.opcode = 0x11 && c.waiting | none => false)
  let code := if waits then Code.eLink else if j.held then Code.eJobKilled else Code.eTimeout
  s.endRunning k j code (s.concern k) 0

/-- The jobs of a window, and the acknowledgements that its lead still misses (FB 0x6030.0B). -/
def State.closeJobs (s : State) (w : Nat) : State :=
  let s := s.eng.jobs.foldl (fun s p => match s.job p.1 with
    | some j => if j.window = w then s.closeJob p.1 j else s
    | none => s) s
  let late := s.eng.acks.filter (fun p => p.2.2 = w)
  let s := late.foldl (fun s _ => s.fbInc 0x6030 0xB) s
  { s with eng := { s.eng with acks := s.eng.acks.filter (fun p => p.2.2 != w) } }

/-- Work runs in a window. -/
def State.busyIn (s : State) (w : Nat) : Bool :=
  s.eng.jobs.any (fun p => p.2.window = w) ||
  (match s.trv.plan with | some p => p.window = w | none => false) ||
  (List.range 32).any (fun x => match (s.gx x).job with | some j => j.window = w | none => false) ||
  (List.range 64).any (fun x => match (s.mx x).admitted with | some (_, _, v) => v = w | none => false) ||
  (List.range 32).any (fun p => match (s.stx p).job with | some j => j.window = w | none => false) ||
  (List.range 32).any (fun i => match (s.capSrc i).isp with | some j => j.window = w | none => false)

/-- A fault killed a job of the window at the instant of its close (R69). -/
def State.killedAtClose (s : State) (w : OpenWindow) : Bool := KMap.find s.eng.killAt w.index = some w.close

/-- A window closes: everything that it still runs is killed (R68); a fault kill at the close counts as well (R69). -/
def State.closeWindow (s : State) (w : OpenWindow) : State :=
  let s := s.advanceTo w.close
  let s := if s.busyIn w.index || s.killedAtClose w then (s.set Reg.MER_EVENTS_WINDOW_KILL 1).fbInc 0x6020 3 else s
  ((((s.closeJobs w.index).closePlans w.index).closeGfx w.index).closeMedia w.index |>.closeStaging w.index).dropWindow w.index

/-- WINDOW_CLOSE (R68). -/
def execWindowClose (entry : Fin 256) (s : State) : Out :=
  match s.openWindows.find? (fun w => w.index = entry.val) with
  | some w => done (s.closeWindow w)
  | none => done s

/-- The windows whose close has come by an instant. -/
def State.closeDue (s : State) (t : Nat) : State :=
  s.openWindows.foldl (fun s w => if w.close ≤ t then s.closeWindow w else s) s

/-! ## The opening of a window (R67) -/

/-- At the opening of a TENSOR window each of its clusters whose previous one was another partition's starts to clear its
stores (R107). -/
def State.partitionClear (s : State) (w : OpenWindow) : State :=
  (clusterList w.entry.units).foldl (fun s c =>
    let old := KMap.find s.eng.lastPart c
    let s := { s with eng := { s.eng with lastPart := KMap.put s.eng.lastPart c w.entry.partition } }
    if s.clusterUp c && old.isSome && old != some w.entry.partition then s.set (Reg.TEN_CL_MEMSTAT_CLEARING c) 1 else s) s

/-- The Benchmark of a STAGING window's pipeline is injected, where it can be, and its batch stands. -/
def State.injectIn (s : State) (w : OpenWindow) : State :=
  let p := w.entry.pipe
  let now := (List.range 32).foldl (fun t q => match (s.stx q).job with
    | some j => if j.window = w.index then max t (j.start + j.bound) else t
    | none => t) s.datum
  let s' := s.benchInject p now w
  if (s'.benchAt p).injected && !(s.benchAt p).injected then s'.benchBatch p else s'

/-- What the resource of a window does at its opening: operating points and clears for TENSOR, Closure and the comparison of
the Benchmark in SAFETY, an urgent Benchmark's injection in STAGING. -/
def State.openingWork (s : State) (w : OpenWindow) : State :=
  let s := s.operatingPoint w
  match w.entry.resource with
  | 0 => s.partitionClear w
  | 5 => if (s.benchAt w.entry.pipe).urgent then s.injectIn w else s
  | 6 => (s.closure w.entry.pipe).benchCompare w.entry.pipe
  | _ => s

/-- WINDOW_OPEN (R67, R107, R196, R211, R406): the window of an entry of the active table opens. A Benchmark that is not urgent
is injected after the frame's real work has been admitted. -/
def execWindowOpen (entry : Fin 256) (s : State) : Out :=
  if !s.mayOpen entry.val then done s
  else
    let s := s.openWindow entry.val
    match s.openWindows.find? (fun w => w.index = entry.val) with
    | some w =>
      let s := (s.openingWork w).admitAll
      done (if w.entry.resource = 5 then s.injectIn w else s)
    | none => done s

/-! ## Ticks and boundaries (R60, R61, R65, R66, R53, R54) -/

/-- The pipelines whose frame starts at the tick in TICK. -/
def State.starting (s : State) : List Nat :=
  (List.range 32).filter (fun p => s.activeFrame p != 0 && s.get Reg.MER_TICK_COUNT_TICK % s.activeFrame p = 0)

/-- The present frames of pipelines end: one without a decision is MISSING (R196). -/
def State.endFrames (s : State) (ps : List Nat) : State :=
  ps.foldl (fun s p =>
    let n := KMap.getD s.mer.frameCount p 0
    if n = 0 then s else s.missedFrame p (n - 1)) s

/-- Frames start: those before them end; then the counts advance, and the Benchmarks and the staging engine take note. -/
def State.beginFrames (s : State) : State :=
  let ps := s.starting
  let s := (s.endFrames ps).frameStarts
  ps.foldl (fun s p => (s.benchFrame p).stagingFrame p) s

/-- A tick within the hyperperiod. -/
def State.plainTick (s : State) : State :=
  (((s.set Reg.MER_TICK_COUNT_TICK (s.get Reg.MER_TICK_COUNT_TICK + 1)).set Reg.MER_EVENTS_TICK 1).beginFrames).admitAll

/-- A hyperperiod starts: TICK 0, HYPER advances. -/
def State.newHyper (s : State) : State :=
  let s := { s with mer := { s.mer with gap := false } }
  let s := (s.set Reg.MER_TICK_COUNT_TICK 0).set Reg.MER_TICK_COUNT_HYPER (s.get Reg.MER_TICK_COUNT_HYPER + 1)
  ((s.set Reg.MER_EVENTS_TICK 1).beginFrames).admitAll

/-- A boundary while Meridian runs: every frame ends; a pending swap takes effect, then a pending step (judged on the table
before), then a pending STOP; else a hyperperiod starts, unless the step has opened a gap. -/
def State.boundary (s : State) : State :=
  let allowed := s.stepAllowed
  let s := s.endFrames ((List.range 32).filter (fun p => s.activeFrame p != 0))
  let n := s.stepSeq
  let s := if s.bit Reg.MER_STATUS_SWAP_PENDING then s.applySwap else s
  let s := s.boundaryStep allowed
  let s := if s.bit Reg.MER_CTRL_STOP then s.applyStop else if s.stepSeq = n then s.newHyper else s
  s.activations

/-- A pending START takes effect. In external grandmaster configuration Datum is LOCKED from then on (R52). -/
def State.start (s : State) : State :=
  let s := s.applyStart
  let s := if s.fbGet 0x2010 0xA = 2 && s.datumState != 1 then s.enterLocked else s
  s.starting.foldl (fun s p => (s.benchFrame p).stagingFrame p) s

/-- The instant of the next tick: while Meridian runs one period after the last one; while it is stopped the next hyperperiod
boundary; in a gap the first one of the new timeline, which may be the stepped Datum itself (R54). -/
def State.tickDue (s : State) : Nat :=
  if s.running && !s.mer.gap then
    match s.mer.lastTick with
    | some t => t + s.periodNs
    | none => s.nextInstant s.periodNs (s.datum + 1)
  else s.nextInstant s.hyperNs (if s.running then s.datum else s.datum + 1)

/-- An instant is a hyperperiod boundary. -/
def State.isBoundary (s : State) (t : Nat) : Bool := s.nextInstant s.hyperNs t = t

/-- BASE_TICK (R60): the next base tick, or, while none occurs, the next hyperperiod boundary, at which a pending START takes
effect. -/
def execBaseTick (s : State) : Out :=
  let t := s.tickDue
  let s := (s.closeDue t).advanceTo t
  if s.running then
    let n := s.stepSeq
    let s' := if s.mer.gap || s.isBoundary t then s.boundary else s.plainTick
    done { s' with mer := { s'.mer with lastTick := if s'.running && s'.stepSeq = n then some t else none } }
  else if s.bit Reg.MER_CTRL_START && s.servo.startWait.isNone then
    let s := s.start
    done { s.activations with mer := { s.activations.mer with lastTick := some t } }
  else done s.activations

end Sys2Proof.Machine
end

