-- ==== Sys2Proof/Machine/Services.lean ====
section
/-! DEFINITION. The services of the monitor and of the secure world (R304–R306, R312, R413, R414). -/

namespace Sys2Proof.Machine
open Sys2Proof

/-! ## Results -/

/-- The results a0 to a3 of a call; those that the spec does not name are free values. -/
def State.svcReturn (s : State) (core : Nat) (l : List Nat) : State :=
  let (fr, s) := s.freeNats (4 - l.length)
  let r := l ++ fr.map (· % 2 ^ 64)
  s.emit (.svc core (natAt r 0) (natAt r 1) (natAt r 2) (natAt r 3))

def State.setWorlds (s : State) (w : Worlds) : State := { s with worlds := w }

/-- The caller's attribute: mwattr at the moment of the ECALL (R304). -/
def State.caller (s : State) (core : Nat) : Attr := s.mwattr core

/-- The hypervisor partition, and the switch set (FB 0x7500.01 and .02). -/
def State.hypervisor (s : State) (p : Nat) : Bool := p = s.fbGet 0x7500 1
def State.switchable (s : State) (p : Nat) : Bool := s.hypervisor p || bitOf (s.fbGet 0x7500 2) p

/-! ## Services of the monitor (R305) -/

/-- SVC_VERSION. -/
def execSvcVersion (core : Fin 16) (_mode : Mode) (s : State) : Out :=
  done (s.svcReturn core.val [Code.ok, Config.serviceVersion % 2 ^ 32])

/-- SVC_ATTR_GET. -/
def execSvcAttrGet (core : Fin 16) (_mode : Mode) (s : State) : Out :=
  done (s.svcReturn core.val [Code.ok, (s.caller core.val).toNat])

/-- SVC_PART_SWITCH. -/
def execSvcPartSwitch (core : Fin 16) (mode : Mode) (partition : BitVec 64) (s : State) : Out :=
  let c := core.val
  let p := partition.toNat
  if mode = .hs && s.switchable (s.caller c).partition && decide (p < 64) && s.switchable p then
    done ((s.setWorlds { s.worlds with mwattr := KMap.put s.worlds.mwattr c { s.caller c with partition := p } }).svcReturn c [Code.ok])
  else done (s.svcReturn c [Code.eAccess])

/-- SVC_SECURE_STATUS. -/
def execSvcSecureStatus (core : Fin 16) (_mode : Mode) (s : State) : Out :=
  done (s.svcReturn core.val [Code.ok, s.get Reg.CRY_SEC_STATE_STATE, s.get Reg.CRY_SEC_STATE_RESTARTS,
    KMap.getD s.worlds.done core.val 0])

/-- A delegated region is reprogrammed (R305, R303): its code, and the state. -/
def State.regionSet (s : State) (c checker region base limit parts perms : Nat) : Nat × State :=
  let inPlan := match KMap.find s.worlds.plan (checker * 32 + region) with
    | some (lo, hi) => decide (lo ≤ base / 4096) && decide (limit / 4096 ≤ hi)
    | none => false
  let legal := s.hypervisor (s.caller c).partition && decide (checker < 65) && checkerExists checker && checker != 51 &&
    decide (24 ≤ region) && decide (region ≤ 31) && inPlan && (parts &&& s.fbGet 0x7500 2 = parts)
  if !legal then (Code.eAccess, s)
  else if s.cadLocked checker then (Code.eState, s)
  else if perms != 0 && (decide (limit / 4096 < base / 4096) || !pagesInChecker checker (base / 4096) (limit / 4096)) then
    (Code.eBounds, s)
  else
    let o := regionOwner checker
    let s := ((((s.noteRegions o).set (Reg.CAD_RG_BASE_BASE o region) (base / 4096)).set (Reg.CAD_RG_LIMIT_LIMIT o region) (limit / 4096)).set
      (Reg.CAD_RG_PARTS_PARTS o region) parts).setRegionPerms o region (perms % 4)
    (Code.ok, s.setBit (Reg.CAD_RG_CTRL_EN o region) (perms != 0))

/-- SVC_REGION_SET. -/
def execSvcRegionSet (core : Fin 16) (_mode : Mode) (checker region base limit parts perms : BitVec 64) (s : State) : Out :=
  let r := s.regionSet core.val checker.toNat region.toNat base.toNat limit.toNat parts.toNat perms.toNat
  done (r.2.svcReturn core.val [r.1])

/-- ECALL_UNKNOWN_SERVICE (R304): an ID of the range that R305 does not list. -/
def execEcallUnknownService (core : Fin 16) (_mode : Mode) (id : BitVec 64) (s : State) : Out :=
  let n := id.toNat
  let listed := [0x53000000, 0x53000001, 0x53000002, 0x53000003, 0x53000004, 0x53010001, 0x53010002, 0x53010003, 0x53010010,
    0x53010020, 0x53010030, 0x53010031].contains n
  if decide (0x53000000 ≤ n) && decide (n ≤ 0x53FFFFFF) && !listed then done (s.svcReturn core.val [Code.eIllegal]) else done s

/-! ## Services of the secure world (R305) -/

/-- A buffer of the caller is read with its attribute: the code, and the state with a refusal recorded. -/
def State.svcReach (s : State) (at' : Attr) (a n : Nat) : Nat × State :=
  match s.reach at' false a n with
  | (.ok, s) => (Code.ok, s)
  | (_, s) => (Code.eAccess, s)

/-- A length that R23 refuses. -/
def svcLenBad (n : Nat) : Bool := n = 0 || n = 2 ^ 64 - 1

/-- The final step of SVC_CMAC: the MAC, its first eight bytes in a1, little-endian. -/
def State.svcCmac (s : State) (at' : Attr) (slot a n : Nat) : List Nat × State :=
  if 31 < slot then ([Code.eIllegal], s)
  else if svcLenBad n then ([Code.eLength], s)
  else match s.svcReach at' a n with
  | (c, s) =>
    if c ≠ Code.ok then ([c], s)
    else match s.useKey slot 0 at'.partition with
      | none => ([Code.eKeyUse], s)
      | some k =>
        let m := Crypto.cmac k.key (s.rd a n)
        ([Code.ok, leValue (m.take 8), leValue (m.drop 8)], s)

/-- The final step of SVC_CMAC_VERIFY. -/
def State.svcVerify (s : State) (at' : Attr) (slot a n tag : Nat) : List Nat × State :=
  if 31 < slot then ([Code.eIllegal], s)
  else if svcLenBad n then ([Code.eLength], s)
  else match s.svcReach at' a n with
  | (c, s) =>
    if c ≠ Code.ok then ([c], s)
    else match s.svcReach at' tag 16 with
      | (c, s) =>
        if c ≠ Code.ok then ([c], s)
        else match s.useKey slot 1 at'.partition with
          | none => ([Code.eKeyUse], s)
          | some k => ([if Crypto.cmac k.key (s.rd a n) = s.rd tag 16 then Code.ok else Code.eAccess], s)

/-- The final step of SVC_ATTEST: CRY_MEAS, SVN, slot, nonce, and a signature, which is a free value. -/
def State.svcAttest (s : State) (at' : Attr) (nonce report : Nat) : List Nat × State :=
  match s.svcReach at' nonce 32 with
  | (c, s) =>
    if c ≠ Code.ok then ([c], s)
    else
      let (sig, s) := s.freeNats 96
      let body := s.measBytes ++ leBytes 4 (s.get Reg.CRY_SEC_SVN_IMAGE_SVN) ++ leBytes 4 (s.get Reg.CRY_SEC_STATE_SLOT) ++ s.rd nonce 32 ++
        sig.map (· % 256)
      match s.reach at' true report body.length with
      | (.ok, s) => ([Code.ok], s.wr report body)
      | (_, s) => ([Code.eAccess], s)

/-- The final step of SVC_KEY_LOAD. The wrapping is not given: the slot's key is a free value; TYPE and USE are those of its
control register, PARTS that of its own. -/
def State.svcKeyLoad (s : State) (at' : Attr) (slot a : Nat) : List Nat × State :=
  if slot < 16 ∨ 31 < slot then ([Code.eIllegal], s)
  else match s.reach at' false a 1 with
  | (.ok, s) =>
    if !bitOf (s.get (Reg.CRY_KS_PARTS_PARTS slot)) at'.partition then ([Code.eKeyUse], s)
    else if s.bit (Reg.CRY_KS_CTRL_LOCK slot) then ([Code.eState], s)
    else
      let type := s.get (Reg.CRY_KS_CTRL_TYPE slot)
      let (k, s) := s.freeNats (if type = 1 then 32 else 16)
      let c : KeySlot := ⟨k.map (· % 256), type = 1, s.keyCtrlNow slot % 32, s.get (Reg.CRY_KS_PARTS_PARTS slot)⟩
      ([Code.ok], (s.setKey slot (some c)).set (Reg.CRY_KS_CTRL_LOADED slot) 1)
  | (_, s) => ([Code.eAccess], s)

/-- The final step of SVC_FW_STAGE (R413): the kind in a1. -/
def State.svcStage (s : State) (at' : Attr) (a n : Nat) : List Nat × State :=
  if svcLenBad n ∨ n < 256 then ([Code.eLength], s)
  else match s.svcReach at' a n with
  | (c, s) =>
    if c ≠ Code.ok then ([c], s)
    else
      let header := s.rd a 256
      let body := s.rd (a + 256) (stagedBody header)
      let r := s.stageCheck header body n
      if r.1 = Code.ok then ([Code.ok, r.2], s.stage r.2 (header ++ body)) else ([r.1], s)

/-- The final step of SVC_FW_ACTIVATE (R414). -/
def State.svcActivate (s : State) (kind : Nat) : List Nat × State :=
  if 2 < kind then ([Code.eIllegal], s)
  else
    let r := s.activate kind
    ([r.1], r.2)

/-- The final step of a forwarded service: its results a0 onward, and the state. -/
def State.serve (s : State) (c : Call) : List Nat × State :=
  match c.service with
  | .cmac slot a n => s.svcCmac c.attr slot a n
  | .cmacVerify slot a n t => s.svcVerify c.attr slot a n t
  | .random =>
    let (x, s) := s.freeNat
    ([Code.ok, x % 2 ^ 64], s)
  | .attest n r => s.svcAttest c.attr n r
  | .keyLoad slot a => s.svcKeyLoad c.attr slot a
  | .fwStage a n => s.svcStage c.attr a n
  | .fwActivate k => s.svcActivate k

/-- The secure world applies a call in one final step; its answer is on its way (R306). -/
def State.serveCall (s : State) (core : Nat) (c : Call) : State :=
  let (answer, s) := s.serve c
  s.setWorlds { s.worlds with calls := KMap.put s.worlds.calls core { c with answer := some answer },
                              done := KMap.put s.worlds.done core c.seq }

/-- A call is forwarded with the hart's next sequence number, or refused while the secure cluster restarts or has failed
(R312). A hart has one call in flight. `served`: the secure world has applied it already. -/
def State.forward (s : State) (core : Nat) (v : Service) (served : Bool) : State :=
  if (KMap.find s.worlds.calls core).isSome then s
  else if 2 ≤ s.get Reg.CRY_SEC_STATE_STATE then (s.fbInc 0x60A0 7).svcReturn core [Code.eUnavailable]
  else
    let n := (KMap.getD s.worlds.seq core 0 + 1) % 2 ^ 32
    let c : Call := { seq := n, service := v, attr := s.caller core, start := s.datum }
    let s := s.setWorlds { s.worlds with seq := KMap.put s.worlds.seq core n, calls := KMap.put s.worlds.calls core c }
    if served then s.serveCall core c else s

/-- SVC_CMAC. -/
def execSvcCmac (core : Fin 16) (_mode : Mode) (slot addr len : BitVec 64) (served : Bool) (s : State) : Out :=
  done (s.forward core.val (.cmac slot.toNat addr.toNat len.toNat) served)
/-- SVC_CMAC_VERIFY. -/
def execSvcCmacVerify (core : Fin 16) (_mode : Mode) (slot addr len tagAddr : BitVec 64) (served : Bool) (s : State) : Out :=
  done (s.forward core.val (.cmacVerify slot.toNat addr.toNat len.toNat tagAddr.toNat) served)
/-- SVC_RANDOM. -/
def execSvcRandom (core : Fin 16) (_mode : Mode) (served : Bool) (s : State) : Out := done (s.forward core.val .random served)
/-- SVC_ATTEST. -/
def execSvcAttest (core : Fin 16) (_mode : Mode) (nonceAddr reportAddr : BitVec 64) (served : Bool) (s : State) : Out :=
  done (s.forward core.val (.attest nonceAddr.toNat reportAddr.toNat) served)
/-- SVC_KEY_LOAD. -/
def execSvcKeyLoad (core : Fin 16) (_mode : Mode) (slot keyAddr : BitVec 64) (served : Bool) (s : State) : Out :=
  done (s.forward core.val (.keyLoad slot.toNat keyAddr.toNat) served)
/-- SVC_FW_STAGE. -/
def execSvcFwStage (core : Fin 16) (_mode : Mode) (addr len : BitVec 64) (served : Bool) (s : State) : Out :=
  done (s.forward core.val (.fwStage addr.toNat len.toNat) served)
/-- SVC_FW_ACTIVATE. -/
def execSvcFwActivate (core : Fin 16) (_mode : Mode) (kind : BitVec 64) (served : Bool) (s : State) : Out :=
  done (s.forward core.val (.fwActivate kind.toNat) served)

/-- A call in flight ends: it leaves the monitor, and its results return. -/
def State.endCall (s : State) (core : Nat) (results : List Nat) : State :=
  (s.setWorlds { s.worlds with calls := KMap.del s.worlds.calls core }).svcReturn core results

/-- SERVICE_ANSWER (R306): the answer reaches the monitor; a call not applied yet is applied first. -/
def execServiceAnswer (core : Fin 16) (s : State) : Out :=
  match KMap.find s.worlds.calls core.val with
  | none => done s
  | some c =>
    let s := if c.answer.isSome then s else s.serveCall core.val c
    match KMap.find s.worlds.calls core.val with
    | some c => done (s.endCall core.val (c.answer.getD []))
    | none => done s

/-- SERVICE_CALL_TIMEOUT (R306): E_TIMEOUT with the sequence number in a1. -/
def execServiceCallTimeout (core : Fin 16) (s : State) : Out :=
  match KMap.find s.worlds.calls core.val with
  | none => done s
  | some c => done ((s.advanceTo (c.start + s.fbGet 0x7500 4 * 1000000)).endCall core.val [Code.eTimeout, c.seq])

end Sys2Proof.Machine
end

