-- ==== Sys2Proof/Machine/Doorbell.lean ====
section
/-! DEFINITION. Doorbells and the other ring pointers that software writes (R157–R159, R189, R225, R248, R282, R344, R391). -/

namespace Sys2Proof.Machine
open Sys2Proof

/-- What a doorbell needs: its pointer fields, its page's status field, log2 of the slots, the owner (none: nobody owns the
page), whether the ring is enabled, and the checker and address of the page's register. -/
structure Door where
  wptr : Field
  rptr : Field
  last : Field
  log2 : Nat
  owner : Option Attr
  en : Bool
  checker : Nat
  addr : Nat

/-- The doorbell of a queue key. -/
def State.queueDoor (s : State) (k : Nat) : Door :=
  { wptr := qWptr k, rptr := qRptr k, last := qLast k, log2 := s.get (qLog2 k), owner := some (s.qAttr k), en := s.bit (qEn k)
    checker := if isPlumb k then 55 else 62, addr := (qWptr k).addr }

def State.door (s : State) : Ring → Door
  | .tensor q => s.queueDoor q.val
  | .plumb q => s.queueDoor (256 + q.val)
  | .traverse c =>
    { wptr := Reg.TRV_Q_WPTR_WPTR c.val, rptr := Reg.TRV_Q_RPTR_RPTR c.val, last := Reg.TRV_Q_STATUS_LAST c.val
      log2 := s.get (Reg.TRV_CX_REQ_SIZE_LOG2 c.val)
      owner := some ⟨s.bit (Reg.TRV_CX_ATTR_SECURE c.val), s.get (Reg.TRV_CX_ATTR_PARTITION c.val)⟩
      en := s.bit (Reg.TRV_CX_ATTR_EN c.val), checker := 56, addr := Reg.TRV_Q_WPTR_addr c.val }
  | .graphics x =>
    { wptr := Reg.GFX_Q_WPTR_WPTR x.val, rptr := Reg.GFX_Q_RPTR_RPTR x.val, last := Reg.GFX_Q_STATUS_LAST x.val
      log2 := s.get (Reg.GFX_CX_RING_SIZE_LOG2 x.val), owner := some (s.gxAttr x.val), en := s.bit (Reg.GFX_CX_ATTR_EN x.val)
      checker := 57, addr := Reg.GFX_Q_WPTR_addr x.val }
  | .media x =>
    { wptr := Reg.MED_Q_WPTR_WPTR x.val, rptr := Reg.MED_Q_RPTR_RPTR x.val, last := Reg.MED_Q_STATUS_LAST x.val
      log2 := s.get (Reg.MED_CX_SIZE_LOG2 x.val)
      owner := some ⟨s.bit (Reg.MED_CX_ATTR_SECURE x.val), s.get (Reg.MED_CX_ATTR_PARTITION x.val)⟩
      en := s.bit (Reg.MED_CX_ATTR_EN x.val), checker := 59, addr := Reg.MED_Q_WPTR_addr x.val }
  | .mailbox m =>
    { wptr := Reg.MBX_MB_REQ_WPTR_WPTR m.val, rptr := Reg.MBX_MB_REQ_RPTR_RPTR m.val, last := Reg.MBX_MB_STATUS_LAST m.val
      log2 := s.get (Reg.MBX_MB_CFG_LOG2 m.val), owner := some (s.mbAttr m.val), en := s.bit (Reg.MBX_MB_CFG_EN m.val)
      checker := 62, addr := Reg.MBX_MB_REQ_WPTR_addr m.val }
  | .endpoint e =>
    { wptr := Reg.GWY_EP_TX_WPTR_WPTR e.val, rptr := Reg.GWY_EP_TX_RPTR_RPTR e.val, last := Reg.GWY_EP_STATUS_LAST e.val
      log2 := match s.ep e.val with | some p => p.txLog | none => 0
      owner := (s.ep e.val).map Endpoint.owner, en := (s.ep e.val).isSome
      checker := 60, addr := Reg.GWY_EP_TX_WPTR_addr e.val }

/-- The checks of R159 after the owner's, in their order. -/
def Door.check (d : Door) (s : State) (v : Nat) : Nat :=
  let n := 2 ^ d.log2
  let old := s.get d.wptr
  if n ≤ v then Code.eBounds
  else if (s.get d.rptr + 2 * n - old - 1) % n < (v + n - old) % n then Code.eBounds
  else if !d.en then Code.eState
  else Code.ok

/-- A write of a doorbell behind the gate: a refusal by the owner check is logged at the block's checker and sets LAST. What
is submitted is considered at the next point of admission (R67, R160); a mailbox's server and the gateway take their slots in
rows of their own. -/
def State.ring (s : State) (who : Agent) (r : Ring) (value : Nat) : State :=
  let d := s.door r
  let v := value % 2 ^ d.wptr.width
  if d.owner = some (s.attrOf who) then
    let c := d.check s v
    if c = Code.ok then (s.set d.wptr v).set d.last Code.ok else s.set d.last c
  else (s.cadLog d.checker d.addr (s.attrOf who) true 0x21).set d.last Code.eAccess

/-- DOORBELL_WRITE (R159). -/
def execDoorbellWrite (who : Agent) (ring : Ring) (value : BitVec 32) (s : State) : Out :=
  done (s.gateWrite who (s.door ring).addr (fun s => s.ring who ring value.toNat))

/-- A read pointer that software advances: a value of 2^LOG2 or more is ignored, with E_BOUNDS in LAST (R159, R158). -/
def State.writeReadPtr (s : State) (f last : Field) (log2 v : Nat) : State :=
  let v := v % 2 ^ f.width
  if 2 ^ log2 ≤ v then s.set last Code.eBounds else (s.set f v).set last Code.ok

/-- A page that answers its owner alone: any other access reads 0, has no effect and is logged with REGION 0x21
(R344, R391). -/
def State.ownerPage (s : State) (who : Agent) (owner : Option Attr) (k a : Nat) (write : Bool) (f : State → State) : State :=
  if owner = some (s.attrOf who) then f s else (s.cadLog k a (s.attrOf who) write 0x21).answer 0

end Sys2Proof.Machine
end

