-- ==== Sys2Proof/Machine/Bus.lean ====
section
/-! DEFINITION. Register accesses (R9–R13, R445): the generic effect of a write by the fields' access codes, the blocks'
own registers, the two halves of a 64-bit register, and the reads with their views and side effects. -/

namespace Sys2Proof.Machine
open Sys2Proof

/-! ## Writes by access code (R13, R445) -/

/-- A field takes its part of a written value by its access code. -/
def State.writeField (s : State) (f : Field) (acc : Acc) (v : Nat) : State :=
  let new := bitsOf v f.hi f.lo
  match acc with
  | .rw => s.set f new
  | .w1c => s.set f (s.get f &&& (2 ^ f.width - 1 - new))
  | .w1s => s.set f (s.get f ||| new)
  | .ro => s
  | .wo => s
  | .rc => s

/-- Every field of a register takes its part. -/
def State.writeFields (s : State) (h : RegHit) (v : Nat) : State :=
  h.reg.fields.foldl (fun s f => s.writeField (h.field f) f.acc v) s

/-- A written value would change an RW field. -/
def State.fieldsChange (s : State) (h : RegHit) (v : Nat) : Bool :=
  h.reg.fields.any (fun f => f.acc = .rw && s.get (h.field f) != bitsOf v f.hi f.lo)

/-- The field that reports the status of a write to a register at an address, where its page or block has one. -/
def statusField (a : Nat) : Option Field :=
  if 0x10100000 ≤ a ∧ a < 0x10200000 then some Reg.MER_CMD_STATUS_STATUS
  else if 0x10200000 ≤ a ∧ a < 0x10210000 then some Reg.ICN_CMD_STATUS_STATUS
  else if 0x10210000 ≤ a ∧ a < 0x10300000 then some (Reg.ICN_TGT_STATUS_LAST ((a - 0x10210000) / 0x1000))
  else if 0x10300000 ≤ a ∧ a < 0x10400000 then some (Reg.CAD_STATUS_LAST ((a - 0x10300000) / 0x1000))
  else if 0x10500000 ≤ a ∧ a < 0x10600000 then some Reg.SAF_CMD_STATUS_STATUS
  else if 0x13000000 ≤ a ∧ a < 0x13008000 then some (Reg.PLB_Q_STATUS_LAST ((a - 0x13000000) / 0x1000))
  else if 0x13010000 ≤ a ∧ a < 0x13010800 then some (Reg.PLB_QC_STATUS_LAST ((a - 0x13010000) / 0x100))
  else if 0x14010000 ≤ a ∧ a < 0x14010800 then some (Reg.TRV_CX_STATUS_LAST ((a - 0x14010000) / 0x100))
  else if 0x14020000 ≤ a ∧ a < 0x14028000 then some (Reg.TRV_Q_STATUS_LAST ((a - 0x14020000) / 0x1000))
  else if 0x15010000 ≤ a ∧ a < 0x15012000 then some (Reg.GFX_CX_STATUS_LAST ((a - 0x15010000) / 0x100))
  else if 0x15020000 ≤ a ∧ a < 0x15040000 then some (Reg.GFX_Q_STATUS_LAST ((a - 0x15020000) / 0x1000))
  else if 0x16000000 ≤ a ∧ a < 0x16400000 then some (Reg.DSP_CMD_STATUS_STATUS ((a - 0x16000000) / 0x100000))
  else if 0x17000000 ≤ a ∧ a < 0x17000800 then some (Reg.MED_CS_STATUS_LAST ((a - 0x17000000) / 0x40))
  else if 0x17020000 ≤ a ∧ a < 0x17024000 then some (Reg.MED_CX_STATUS_LAST ((a - 0x17020000) / 0x100))
  else if 0x17040000 ≤ a ∧ a < 0x17080000 then some (Reg.MED_Q_STATUS_LAST ((a - 0x17040000) / 0x1000))
  else if 0x17080000 ≤ a ∧ a < 0x17082000 then some (Reg.MED_ST_STATUS_LAST ((a - 0x17080000) / 0x100))
  else if 0x18001000 ≤ a ∧ a < 0x18001400 then some (Reg.GWY_CAN_STATUS_LAST ((a - 0x18001000) / 0x40))
  else if 0x18004000 ≤ a ∧ a < 0x1800A000 then some (Reg.GWY_GCL_STATUS_LAST ((a - 0x18004000) / 0x1000))
  else if 0x18020000 ≤ a ∧ a < 0x18120000 then some (Reg.GWY_EP_STATUS_LAST ((a - 0x18020000) / 0x1000))
  else if 0x19001000 ≤ a ∧ a < 0x19001400 then some (Reg.BRG_IW_STATUS_LAST ((a - 0x19001000) / 0x40))
  else if 0x1A000000 ≤ a ∧ a < 0x1A001000 then some (Reg.MBX_MB_CSTATUS_LAST ((a - 0x1A000000) / 0x40))
  else if 0x1A010000 ≤ a ∧ a < 0x1A050000 then some (Reg.MBX_MB_STATUS_LAST ((a - 0x1A010000) / 0x1000))
  else if 0x1A400000 ≤ a ∧ a < 0x1A402000 then some (Reg.MBX_VTE_STATUS_CODE ((a - 0x1A400000) / 0x100))
  else if 0x1A800000 ≤ a ∧ a < 0x1A900000 then some (Reg.MBX_Q_STATUS_LAST ((a - 0x1A800000) / 0x1000))
  else if 0x1A900000 ≤ a ∧ a < 0x1A910000 then some (Reg.MBX_QC_STATUS_LAST ((a - 0x1A900000) / 0x100))
  else none

/-- The status of a write is reported: in its register's field, or in the response where there is none. -/
def State.writeStatus (s : State) (a c : Nat) : State :=
  match statusField a with
  | some f => s.set f c
  | none => s.report c

/-- The EN field that locks a register, under the same indices. -/
def RegHit.lockField (h : RegHit) : Option Field := h.reg.lock.map (fun l => ⟨l.1 + h.off, l.2, l.2⟩)

/-- The write of a register without a rule of its own: fields that accept writes only while EN = 0 are ignored while
EN = 1, with E_STATE where one would have changed (R445). -/
def State.plainWrite (s : State) (h : RegHit) (v : Nat) : State :=
  match h.lockField with
  | some en =>
    if s.bit en then s.writeStatus h.addr (if s.fieldsChange h v then Code.eState else Code.ok)
    else (s.writeFields h v).writeStatus h.addr Code.ok
  | none => (s.writeFields h v).writeStatus h.addr Code.ok

/-! ## The blocks -/

/-- Writes in SYS. -/
def State.writeSys (s : State) (who : Agent) (h : RegHit) (v : Nat) : State :=
  let a := h.addr
  let n := (a - 0x10008000) / 16
  if a = Reg.SYS_RST_CTRL_addr then (if bitOf v 0 then s.softwareReset who else s)
  else if a = Reg.SYS_CLK_EN_addr then s.writeClkEn who (v % 2 ^ 60)
  else if 0x10008000 ≤ a then
    if !s.fwThere n then s
    else if a = Reg.SYS_FWD_CTRL_addr n then s.writeFwdCtrl who n v
    else if a = Reg.SYS_FWD_KICK_addr n then s.fwKick who n (v % 65536)
    else s.plainWrite h v
  else s.plainWrite h v

/-- Writes in MER (the table banks apart). -/
def State.writeMer (s : State) (h : RegHit) (v : Nat) : State :=
  let a := h.addr
  let n := (a - 0x10100200) / 0x20
  let i := (a - 0x10100300) / 0x10
  if a = Reg.MER_CTRL_addr then s.merCtrl (bitOf v 0) (bitOf v 1) (bitOf v 2) (bitOf v 3)
  else if a = Reg.MER_TICK_PERIOD_addr then s.writeTickPeriod (v % 2 ^ 14)
  else if a = Reg.MER_HYPER_TICKS_addr then s.writeHyperTicks (v % 2 ^ 12)
  else if a = Reg.MER_PHASE_NS_addr then s.writePhase (v % 2 ^ 30)
  else if a = Reg.MER_RATE_addr then s.writeRate (v % 2 ^ 32)
  else if a = Reg.MER_DATUM_CTRL_addr then
    let r := s.writeSource (v % 4)
    if r.1 ≠ Code.ok then s.merStatus r.1
    else if bitOf v 2 then (let q := r.2.rebaseRequest; q.2.merStatus q.1) else r.2.merStatus r.1
  else if 0x10100080 ≤ a ∧ a < 0x10100100 then s.writePipeFrame ((a - 0x10100080) / 4) (v % 2 ^ 12)
  else if 0x10100200 ≤ a ∧ a < 0x10100300 then
    if a = Reg.MER_TOUT_CTRL_addr n then s.writeToutCtrl n v
    else if a = Reg.MER_TO_OFFSET_NS_addr n then
      s.writeTout (Reg.MER_TO_OFFSET_NS_OFFSET_NS n) (s.toutOffsetCheck n (v % 2 ^ 30)) v
    else if a = Reg.MER_TO_PERIOD_NS_addr n then
      s.writeTout (Reg.MER_TO_PERIOD_NS_PERIOD_NS n) (State.toutPeriodCheck (v % 2 ^ 30)) v
    else if a = Reg.MER_TO_WIDTH_NS_addr n then
      s.writeTout (Reg.MER_TO_WIDTH_NS_WIDTH_NS n) (s.toutWidthCheck n (v % 2 ^ 30)) v
    else s.plainWrite h v
  else if 0x10100300 ≤ a ∧ a = Reg.MER_TI_CTRL_addr i then s.writeTinCtrl i v
  else s.plainWrite h v

/-- Writes in ICN. Clearing ICN_FAULT.VALID drops line 612. -/
def State.writeIcn (s : State) (who : Agent) (h : RegHit) (v : Nat) : State :=
  let a := h.addr
  let t := (a - 0x10210000) / 0x1000
  if a < 0x10201000 then s.writeSrcCfg ((a - 0x10200000) / 4) v
  else if a < 0x10204000 then s.writeSrcTgt ((a - 0x10202000) / 8) v
  else if a = Reg.ICN_SW_SET_addr then s.swSet who (v % 64)
  else if a = Reg.ICN_CTRL_addr then (s.icnTest who (bitOf v 1)).icnStatus Code.ok
  else if a = Reg.ICN_UNFREEZE_addr then s.unfreeze who (v % 64)
  else if a = Reg.ICN_FAULT_addr then
    let s := s.plainWrite h v
    if bitOf v 31 then s.followLine 612 false else s
  else if 0x10210000 ≤ a then
    s.pageOwn who t a true (fun s =>
      if a = Reg.ICN_TGT_COMPLETE_addr t then s.complete t (v % 1024) else s.plainWrite h v)
  else s.plainWrite h v

/-- Writes in CAD (R302, R303). TEST is written by safety island pair B alone. -/
def State.writeCad (s : State) (who : Agent) (h : RegHit) (v : Nat) : State :=
  let a := h.addr
  let k := (a - 0x10300000) / 0x1000
  let off := a % 0x1000
  let r := (off - 0x400) / 0x20
  let o := regionOwner k
  if !checkerExists k then s
  else if off = 0 then
    let s := if who = .pairB then s.set (Reg.CAD_CTRL_TEST k) (bitsOf v 1 1) else s
    if bitOf v 31 then s.cadLock k else s.cadStatus k Code.ok
  else if off = 0xC then s.cadAck k (v % 16)
  else if 0x400 ≤ off then
    match off % 0x20 with
    | 0 => s.regionField k r (Reg.CAD_RG_BASE_BASE o r) (bitsOf v 47 12)
    | 8 => s.regionField k r (Reg.CAD_RG_LIMIT_LIMIT o r) (bitsOf v 47 12)
    | 0x10 => s.regionField k r (Reg.CAD_RG_PARTS_PARTS o r) v
    | _ => s.regionCtrl k r (bitOf v 31) (v % 16)
  else s.plainWrite h v

/-- Writes in SAF (R187, R194). -/
def State.writeSaf (s : State) (who : Agent) (h : RegHit) (v : Nat) : State :=
  let a := h.addr
  if a = Reg.SAF_CTRL_addr then
    s.safOwn who a (fun s => if bitOf v 0 || bitOf v 2 then s.safCtrl (bitOf v 0) (bitOf v 2) else s.safStatus Code.ok)
  else if 0x10501000 ≤ a ∧ a < 0x10503000 then s.writeSafTable who ⟨a, 31, 0⟩ v
  else s.plainWrite h v

/-- Writes in TEN: a row mark's LEAD is ignored while the copy is armed and not committed (R120); a disabled cluster
follows R12. -/
def State.writeTen (s : State) (h : RegHit) (v : Nat) : State :=
  let a := h.addr
  let c := (a - 0x11000000) / 0x100000
  let m := (a % 0x100000 - 0xE000) / 0x10
  if !s.clusterOn c then s
  else if a % 0x100000 < 0xF000 then
    if a % 0x10 = 0 ∧ s.bit (Reg.TEN_RM_CFG_ARMED c m) = true ∧ s.bit (Reg.TEN_RM_CFG_COMMITTED c m) = false then s
    else s.plainWrite h v
  else if a = Reg.TEN_KV_CACHE_addr c then s.writeKvCache c (v % 64)
  else s.plainWrite h v

/-- A queue's completion read pointer. -/
def State.writeCplRptr (s : State) (k v : Nat) : State := s.writeReadPtr (qCplRptr k) (qLast k) (s.get (qCLog2 k)) v

/-- Writes in PLB (R189). -/
def State.writePlb (s : State) (who : Agent) (h : RegHit) (v : Nat) : State :=
  let a := h.addr
  let q : Fin 8 := Fin.ofNat 8 ((a - 0x13000000) / 0x1000)
  let k := 256 + (a - 0x13010000) / 0x100
  if a < 0x13008000 then
    match a % 0x1000 with
    | 0 => s.ring who (.plumb q) v
    | 0xC => s.writeCplRptr (256 + q.val) v
    | _ => s.plainWrite h v
  else if 0x13010000 ≤ a ∧ a % 0x100 = 0 then s.enWrite (queueReg k v) (bitOf v 31)
  else s.plainWrite h v

/-- Writes in TRV (R225, R227). -/
def State.writeTrv (s : State) (who : Agent) (h : RegHit) (v : Nat) : State :=
  let a := h.addr
  let c : Fin 8 := Fin.ofNat 8 ((a - 0x14020000) / 0x1000)
  if 0x14020000 ≤ a then
    match a % 0x1000 with
    | 0 => s.ring who (.traverse c) v
    | 0xC => s.writeReadPtr (Reg.TRV_Q_CPL_RPTR_CPL_RPTR c.val) (Reg.TRV_Q_STATUS_LAST c.val) (s.get (Reg.TRV_CX_CPL_SIZE_CLOG2 c.val)) v
    | 0x10 => s.publishGrid c.val (v % 4)
    | _ => s.plainWrite h v
  else if a % 0x100 = 0 then s.trvCtrl ((a - 0x14010000) / 0x100) v (bitOf v 31)
  else s.plainWrite h v

/-- Writes in GFX (R248, R254). -/
def State.writeGfx (s : State) (who : Agent) (h : RegHit) (v : Nat) : State :=
  let a := h.addr
  let x : Fin 32 := Fin.ofNat 32 ((a - 0x15020000) / 0x1000)
  if 0x15020000 ≤ a then
    match a % 0x1000 with
    | 0 => s.ring who (.graphics x) v
    | 0xC => s.writeReadPtr (Reg.GFX_Q_CPL_RPTR_CPL_RPTR x.val) (Reg.GFX_Q_STATUS_LAST x.val) (s.get (Reg.GFX_CX_CPL_SIZE_CLOG2 x.val)) v
    | 0x18 => s.heapAdd x.val (v % 2 ^ 48)
    | _ => s.plainWrite h v
  else if a % 0x100 = 0 then s.enWrite (gfxReg ((a - 0x15010000) / 0x100) v) (bitOf v 31)
  else s.plainWrite h v

/-- Writes in DSP (R261–R267). A plane's ADDR is read-only in JOB mode. -/
def State.writeDsp (s : State) (who : Agent) (h : RegHit) (v : Nat) : State :=
  let a := h.addr
  let d := (a - 0x16000000) / 0x100000
  let off := a % 0x100000
  if off = 0 then s.enWrite (dspReg d v) (bitOf v 31)
  else if off < 0x100 then s.plainWrite h v
  else if off < 0x1C0 ∧ off % 0x40 = 8 ∧ s.bit (Reg.DSP_PL_CTRL_JOB d ((off - 0x100) / 0x40)) = true then s.dspStatus d Code.ok
  else if 0x400 ≤ off ∧ off < 0x600 ∧ off % 0x20 = 0x10 then s.writeExp who d ((off - 0x400) / 0x20) v
  else s.dspWrite who d off v (fun s => s.writeFields h v)

/-- Receiver `p`'s settings are legal (R274, R275). -/
def rxLegal (v : Nat) : Bool :=
  let lanes := bitsOf v 26 24
  let rate := v % 65536
  if bitOf v 30 then decide (1 ≤ lanes) && decide (lanes ≤ 3) && decide (80 ≤ rate) && decide (rate ≤ 6000)
  else (lanes = 1 || lanes = 2 || lanes = 4) && decide (80 ≤ rate) && decide (rate ≤ 4500)

/-- A write of MED_RX_CTRL (R275, R445). -/
def State.writeRx (s : State) (h : RegHit) (v : Nat) : State :=
  let p := (h.addr - 0x17001000) / 0x10
  let en := Reg.MED_RX_CTRL_EN p
  if s.bit en then
    let changes := s.get (Reg.MED_RX_CTRL_CPHY p) != bitsOf v 30 30 || s.get (Reg.MED_RX_CTRL_LANES p) != bitsOf v 26 24 ||
      s.get (Reg.MED_RX_CTRL_RATE p) != v % 65536
    (s.set en (bitsOf v 31 31)).report (if changes then Code.eState else Code.ok)
  else if rxLegal v then (s.writeFields h v).report Code.ok
  else s.report Code.eIllegal

/-- A write of MED_ST_STALE (R288). -/
def State.writeStale (s : State) (h : RegHit) (v : Nat) : State :=
  let t := v % 2 ^ 20
  if t = 0 ∨ t = 0xFFFFF then s.writeStatus h.addr Code.eLength
  else if 1000000 < t then s.writeStatus h.addr Code.eIllegal
  else s.plainWrite h v

/-- Writes in MED (R275, R276, R282, R289, R292). -/
def State.writeMed (s : State) (who : Agent) (h : RegHit) (v : Nat) : State :=
  let a := h.addr
  let x : Fin 64 := Fin.ofNat 64 ((a - 0x17040000) / 0x1000)
  let p := (a - 0x17080000) / 0x100
  if a < 0x17001000 then
    if a % 0x40 = 0 then s.enWrite (capReg ((a - 0x17000000) / 0x40) v) (bitOf v 31)
    else if a % 0x40 = 0x2C then (s.freeRecords ((a - 0x17000000) / 0x40) (v % 1024)).plainWrite h v
    else s.plainWrite h v
  else if a < 0x17020000 then s.writeRx h v
  else if a < 0x17040000 then
    if a % 0x100 = 0 then s.enWrite (mxReg ((a - 0x17020000) / 0x100) v) (bitOf v 31) else s.plainWrite h v
  else if a < 0x17080000 then
    match a % 0x1000 with
    | 0 => s.ring who (.media x) v
    | 0xC => s.writeReadPtr (Reg.MED_Q_CPL_RPTR_CPL_RPTR x.val) (Reg.MED_Q_STATUS_LAST x.val) (s.get (Reg.MED_CX_SIZE_CLOG2 x.val)) v
    | _ => s.plainWrite h v
  else if a % 0x100 = 0 then s.enWrite (stReg p v) (bitOf v 31)
  else if a % 0x100 = 4 then s.writeStale h v
  else if 0x40 ≤ a % 0x100 ∧ a % 8 = 4 then s.writePbRptr who p ((a % 0x100 - 0x40) / 8) (v % 16)
  else s.plainWrite h v

/-- The line rate of a MAC in kbit/s: 10 Gbit/s on MACs 0 and 1, 2.5 Gbit/s on the others (R333). -/
def lineKbps (m : Nat) : Nat := if m < 2 then 10000000 else 2500000

/-- Writes in GWY (R333, R336, R344). -/
def State.writeGwy (s : State) (who : Agent) (h : RegHit) (v : Nat) : State :=
  let a := h.addr
  let m := (a - 0x18004000) / 0x1000
  let e : Fin 256 := Fin.ofNat 256 ((a - 0x18020000) / 0x1000)
  if a < 0x18004000 then
    if a % 0x40 = 0 then s.canCtrl ((a - 0x18001000) / 0x40) v else s.plainWrite h v
  else if a < 0x18020000 then
    match a % 0x1000 with
    | 0 => s.gclCtrl m v
    | 8 => s.gclShadow m (Reg.GWY_GCL_BASE_BASE_NS m) v
    | 0x10 => if lineKbps m < v % 2 ^ 24 then s.gclStatus m Code.eBounds else s.plainWrite h v
    | 0x14 => if lineKbps m < v % 2 ^ 24 then s.gclStatus m Code.eBounds else s.plainWrite h v
    | 0x18 => s.plainWrite h v
    | off => s.gclEntry m ((off - 0x400) / 4) v
  else if a % 0x1000 = 8 then s.ring who (.endpoint e) v
  else
    s.ownerPage who ((s.ep e.val).map Endpoint.owner) 60 a true (fun s =>
      if a % 0x1000 = 4 then
        s.writeReadPtr (Reg.GWY_EP_RX_RPTR_RPTR e.val) (Reg.GWY_EP_STATUS_LAST e.val)
          (match s.ep e.val with | some p => p.rxLog | none => 0) v
      else s.plainWrite h v)

/-- Writes in BRG (R348, R350): BRG_PART_GROUP by the Secure world alone. -/
def State.writeBrg (s : State) (who : Agent) (h : RegHit) (v : Nat) : State :=
  let a := h.addr
  let n := (a - 0x19010000) / 0x1000
  if a < 0x19001000 then (if s.normal who then s else s.plainWrite h v)
  else if a < 0x19010000 then
    if a % 0x40 = 0 then s.iwWrite ((a - 0x19001000) / 0x40) v (bitOf v 31) else s.plainWrite h v
  else s.fencePage who n a true (fun s => if a % 0x1000 = 8 then s.fenceAck n (v % 32) else s)

/-- Writes in MBX (R159, R171, R391, R399). -/
def State.writeMbx (s : State) (who : Agent) (h : RegHit) (v : Nat) : State :=
  let a := h.addr
  let m : Fin 64 := Fin.ofNat 64 ((a - 0x1A010000) / 0x1000)
  let q : Fin 256 := Fin.ofNat 256 ((a - 0x1A800000) / 0x1000)
  let b := (a - 0x1A400000) / 0x100
  if a < 0x1A010000 then
    if a % 0x40 = 0 then s.enWrite (mbxReg ((a - 0x1A000000) / 0x40) v) (bitOf v 31) else s.plainWrite h v
  else if a < 0x1A080000 then
    if a % 0x1000 = 0 then s.ring who (.mailbox m) v
    else
      s.ownerPage who (some (s.mbAttr m.val)) 62 a true (fun s =>
        if a % 0x1000 = 0xC then
          (s.writeReadPtr (Reg.MBX_MB_RPL_RPTR_RPTR m.val) (Reg.MBX_MB_STATUS_LAST m.val) (s.get (Reg.MBX_MB_CFG_LOG2 m.val)) v).flushNotices
            m.val (s.mbox m.val).notices.length
        else s.plainWrite h v)
  else if a = Reg.MBX_HB_SUPER_addr then (if s.normal who then s else s.writeSuper v)
  else if a = Reg.MBX_HB_KICK_addr then s.hbKick who
  else if a < 0x1A400000 then s.plainWrite h v
  else if a < 0x1A800000 then
    if a % 0x100 = 0 then s.vteCtrl b v (bitOf v 31) (bitOf v 0) (bitOf v 1)
    else if a % 0x100 = 4 then s.vteShare b v
    else s.plainWrite h v
  else if a < 0x1A900000 then
    match a % 0x1000 with
    | 0 => s.ring who (.tensor q) v
    | 0xC => s.writeCplRptr q.val v
    | _ => s.plainWrite h v
  else if a % 0x100 = 0 then s.enWrite (queueReg ((a - 0x1A900000) / 0x100) v) (bitOf v 31)
  else s.plainWrite h v

/-- Writes in DDR (R166–R169). -/
def State.writeDdr (s : State) (h : RegHit) (v : Nat) : State :=
  let a := h.addr
  let g := (a - 0x1B000100) / 0x10
  if 0x1B000040 ≤ a ∧ a < 0x1B000100 then s.writeWays ((a - 0x1B000040) / 4) v
  else if 0x1B000100 ≤ a then
    match a % 0x10 with
    | 0 => s.writeGroup g (v % 64) (bitsOf v 18 8)
    | 8 => s.writeShare g v
    | _ => s
  else s.writeFields h v

/-- Writes in CRY (R307, R310, R315): nothing to a key slot whose LOCK is set. -/
def State.writeCry (s : State) (who : Agent) (h : RegHit) (v : Nat) : State :=
  let a := h.addr
  let k := (a - 0x1C001000) / 0x40
  if a = Reg.CRY_SEC_CTRL_addr then
    let s := if bitOf v 1 then s.restartRequest who else s
    if bitOf v 0 then s.readyRequest who else s
  else if a = Reg.CRY_SWD_CTRL_addr then s.writeSwdCtrl who v
  else if a = Reg.CRY_SWD_KICK_addr then s.swdKick who (v % 65536)
  else if 0x1C001000 ≤ a then
    if s.bit (Reg.CRY_KS_CTRL_LOCK k) then s
    else if a % 0x40 = 0 then s.keyCtrl k v
    else if a % 0x40 = 8 then s.writeFields h v
    else s.set ⟨a, 31, 0⟩ v
  else s

/-- A register takes a whole value written. -/
def State.writeReg (s : State) (who : Agent) (h : RegHit) (v : Nat) : State :=
  let a := h.addr
  if a < 0x10100000 then s.writeSys who h v
  else if a < 0x10200000 then s.writeMer h v
  else if a < 0x10300000 then s.writeIcn who h v
  else if a < 0x10400000 then s.writeCad who h v
  else if a < 0x10500000 then s.writeFields h v
  else if a < 0x10600000 then s.writeSaf who h v
  else if a < 0x12000000 then s.writeTen h v
  else if a < 0x14000000 then s.writePlb who h v
  else if a < 0x15000000 then s.writeTrv who h v
  else if a < 0x16000000 then s.writeGfx who h v
  else if a < 0x17000000 then s.writeDsp who h v
  else if a < 0x18000000 then s.writeMed who h v
  else if a < 0x19000000 then s.writeGwy who h v
  else if a < 0x1A000000 then s.writeBrg who h v
  else if a < 0x1B000000 then s.writeMbx who h v
  else if a < 0x1C000000 then s.writeDdr h v
  else s.writeCry who h v

/-! ## Reads: what a register shows -/

/-- Bits of a mask word `j` of 32 sources. -/
def State.sourceWord (s : State) (j : Nat) (p : IcnSrc → Bool) : Nat :=
  (List.range 32).foldl (fun m b => m + b2n (p (s.src (32 * j + b))) * 2 ^ b) 0

def IcnSrc.pending (r : IcnSrc) : Bool := r.pend || r.tpend != 0
def IcnSrc.active (r : IcnSrc) : Bool := r.act != 0

/-- ICN_SRC_CFGi as read (R319, R321). -/
def State.srcCfgView (s : State) (i : Nat) : Nat :=
  if !sourceExists i then 0
  else
    2 ^ 31 * b2n (s.srcEn i) + 2 ^ 30 * b2n (isEdge i) + 2 ^ 29 * b2n (s.srcMulti i) + 2 ^ 28 * b2n (s.src i).pending +
      2 ^ 27 * b2n (s.src i).active + 2 ^ 26 * (if isEdge i then 0 else b2n (s.lineOf i)) +
      2 ^ 8 * s.get (Reg.ICN_SRC_CFG_OWNER i) + s.srcPrio i

/-- ICN_TGT_STATUS of a target as read. -/
def State.targetView (s : State) (t : Nat) : Nat :=
  2 ^ 16 * s.get (Reg.ICN_TGT_STATUS_LAST t) + 2 ^ 15 * b2n (s.tgt t).frozen + 2 ^ 14 * b2n (s.eip t) + 2 ^ 5 * s.top t +
    (s.tgt t).stack.length

/-- ICN_TGT_STACKk of a target as read; k = 0 is the bottom. -/
def State.stackView (s : State) (t k : Nat) : Nat :=
  match (s.tgt t).stack.reverse[k]? with
  | some e => 2 ^ 31 + 2 ^ 16 * e.2 + e.1
  | none => 0

/-- The fields of a register as they read: a WO field reads 0. -/
def State.fieldsView (s : State) (h : RegHit) : Nat :=
  h.reg.fields.foldl (fun acc f => acc + (if f.acc = .wo then 0 else s.get (h.field f)) * 2 ^ f.lo) 0

/-- A hart's latch of a register. -/
def State.latchOf (s : State) (who : Agent) (a : Nat) : Option Nat := KMap.find s.latch (hartOf who * 2 ^ 48 + a)

/-- The value that a register shows to a hart. -/
def State.view (s : State) (who : Agent) (h : RegHit) : Nat :=
  let a := h.addr
  if a = Reg.MER_SECONDS_addr then (s.latchOf who a).getD (s.datum / 1000000000)
  else if a = Reg.MER_TS32_addr then s.ts32
  else if a = Reg.MER_RATE_addr then s.rateNow
  else if 0x10100300 ≤ a ∧ a < 0x10100380 ∧ a % 0x10 = 8 then (s.latchOf who a).getD 0
  else if 0x10200000 ≤ a ∧ a < 0x10201000 then s.srcCfgView ((a - 0x10200000) / 4)
  else if 0x10202000 ≤ a ∧ a < 0x10204000 then s.srcMask ((a - 0x10202000) / 8)
  else if 0x10204000 ≤ a ∧ a < 0x10204080 then s.sourceWord ((a - 0x10204000) / 4) IcnSrc.pending
  else if 0x10204080 ≤ a ∧ a < 0x10204100 then s.sourceWord ((a - 0x10204080) / 4) IcnSrc.active
  else if 0x10210000 ≤ a ∧ a < 0x10300000 ∧ a % 0x1000 = 0xC then s.targetView ((a - 0x10210000) / 0x1000)
  else if 0x10210000 ≤ a ∧ a < 0x10300000 ∧ 0x40 ≤ a % 0x1000 then s.stackView ((a - 0x10210000) / 0x1000) (a % 0x40 / 4)
  else if 0x10300000 ≤ a ∧ a < 0x10400000 then
    let k := (a - 0x10300000) / 0x1000
    let o := regionOwner k
    if !checkerExists k then 0
    else if a % 0x1000 = 0 then 2 ^ 31 * s.get (Reg.CAD_CTRL_LOCK o) + 2 * s.get (Reg.CAD_CTRL_TEST k)
    else if 0x400 ≤ a % 0x1000 then (if k = 51 then 0 else s.fieldsView { h with off := h.off - k * 0x1000 + o * 0x1000 })
    else s.fieldsView h
  else if 0x10008000 ≤ a ∧ a < 0x10100000 then (if s.fwThere ((a - 0x10008000) / 16) then s.fieldsView h else 0)
  else if 0x11000000 ≤ a ∧ a < 0x12000000 then (if s.clusterOn ((a - 0x11000000) / 0x100000) then s.fieldsView h else 0)
  else s.fieldsView h

/-- RC fields clear when they are read (R13). -/
def State.readClear (s : State) (h : RegHit) : State :=
  h.reg.fields.foldl (fun s f => if f.acc = .rc then s.set (h.field f) 0 else s) s

/-- A read of a whole register behind the gate: its value is answered, RC fields clear; CLAIM, the time registers, the
capture FIFOs, the bridge fence and the disagreement log have the effects of their own rules. -/
def State.readReg (s : State) (who : Agent) (h : RegHit) : State :=
  let a := h.addr
  let plain := fun (s : State) => (s.readClear h).answer (s.view who h)
  if a = Reg.MER_TIME_NS_addr then s.readTimeNs who
  else if 0x10100300 ≤ a ∧ a < 0x10100380 ∧ a % 0x10 = 4 then s.popTin who ((a - 0x10100300) / 0x10)
  else if 0x10210000 ≤ a ∧ a < 0x10300000 then
    let t := (a - 0x10210000) / 0x1000
    s.pageOwn who t a false (fun s => if a % 0x1000 = 4 then s.claim t else plain s)
  else if 0x10503000 ≤ a ∧ a < 0x10504000 then
    let e := (a - 0x10503000) / 0x20
    plain { s with saf := { s.saf with unread := s.saf.unread.filter (· != e) } }
  else if 0x18020000 ≤ a ∧ a < 0x18120000 then
    s.ownerPage who ((s.ep ((a - 0x18020000) / 0x1000)).map Endpoint.owner) 60 a false plain
  else if 0x19010000 ≤ a ∧ a < 0x19020000 then
    let n := (a - 0x19010000) / 0x1000
    (s.answer 0).fencePage who n a false (fun s => if a % 0x1000 = 0 then s.fenceStart n else plain s)
  else if 0x1A010000 ≤ a ∧ a < 0x1A050000 then
    s.ownerPage who (some (s.mbAttr ((a - 0x1A010000) / 0x1000))) 62 a false plain
  else plain s

/-! ## Accesses by address and width (R9, R10, R12) -/

/-- The words of the two Meridian table banks (R62): shadow at 0x1000, active at 0x2000. -/
def inTable (a : Nat) : Bool := 0x10101000 ≤ a && a < 0x10103000

/-- The held low word of a hart, and the state without it. -/
def State.takeHeld (s : State) (who : Agent) (a : Nat) : Option Nat × State :=
  let k := hartOf who * 2 ^ 48 + a
  (KMap.find s.held k, { s with held := KMap.del s.held k })

/-- A write of `width` bytes behind the gate. An offset without a register ignores a write of any width and alignment: R12 names
neither (DESIGN CHOICE: log entry 39). -/
def State.busWriteIn (s : State) (who : Agent) (a width v : Nat) : State :=
  if inTable a then
    if width ≠ 4 ∨ a % 4 ≠ 0 then s.busError
    else if a < 0x10102000 then s.writeShadow ((a - 0x10101000) / 16) (a % 16 / 4) (v % 2 ^ 32)
    else s.merStatus Code.ok
  else
    match findReg (blockTable a) a with
    | none => s
    | some h =>
      if !h.reg.wide then
        if width = 4 ∧ a = h.addr then s.writeReg who h (v % 2 ^ 32) else s.busError
      else if width = 8 ∧ a = h.addr then (s.takeHeld who a).2.writeReg who h (v % 2 ^ 64)
      else if width = 4 ∧ a = h.addr then
        { s with held := KMap.put s.held (hartOf who * 2 ^ 48 + a) (v % 2 ^ 32) }
      else if width = 4 ∧ a = h.addr + 4 then
        match s.takeHeld who h.addr with
        | (some lo, s) => s.writeReg who h (v % 2 ^ 32 * 2 ^ 32 + lo)
        | (none, s) => s.writeReg who h (v % 2 ^ 32 * 2 ^ 32 + s.view who h % 2 ^ 32)
      else s.busError

/-- A register write of an initiator: an address outside every block is a bus error (R12), the checker decides, then the
block. -/
def State.busWrite (s : State) (who : Agent) (a width v : Nat) : State :=
  if inBlock a then s.gateWrite who a (fun s => s.busWriteIn who a width v) else s.busError

/-- The registers whose 64-bit reads take no latch of R10: they show a latch of their own rules. -/
def ownLatch (a : Nat) : Bool := a = Reg.MER_SECONDS_addr || (0x10100300 ≤ a && a < 0x10100380)

/-- A read of `width` bytes behind the gate. An offset without a register reads 0 whatever the width and alignment of the access:
R12 names neither (DESIGN CHOICE: log entry 39). -/
def State.busReadIn (s : State) (who : Agent) (a width : Nat) : State :=
  if inTable a then
    if width ≠ 4 ∨ a % 4 ≠ 0 then s.busError
    else s.answer (KMap.getD (if a < 0x10102000 then s.mer.shadow else s.mer.active) (a % 0x1000 / 4) 0)
  else
    match findReg (blockTable a) a with
    | none => s.answer 0
    | some h =>
      if !h.reg.wide then (if width = 4 ∧ a = h.addr then s.readReg who h else s.busError)
      else if width = 8 ∧ a = h.addr then s.readReg who h
      else if width = 4 ∧ a = h.addr then
        let s := s.readReg who h
        let s := if s.resp.err || ownLatch a then s else s.setLatch who a (s.resp.data / 2 ^ 32)
        s.answer (s.resp.data % 2 ^ 32)
      else if width = 4 ∧ a = h.addr + 4 then
        let s := s.readReg who h
        s.answer (if ownLatch h.addr then s.resp.data / 2 ^ 32 else (s.latchOf who h.addr).getD (s.resp.data / 2 ^ 32))
      else s.busError

/-- A register read of an initiator. -/
def State.busRead (s : State) (who : Agent) (a width : Nat) : State :=
  if inBlock a then s.gate who a false (fun s => s.busReadIn who a width) else s.busError

/-! ## Meanings -/

/-- Hardware sets bits of W1C fields in the clock of a write: the set wins, and the bits stay 1 (R13). An RW field, where the
software write wins, needs no event: the write's value stands. -/
def State.hwSets (s : State) (a m : Nat) : State :=
  if m = 0 then s
  else
    match findReg (blockTable a) a with
    | some h => h.reg.fields.foldl (fun s f =>
        if f.acc = .w1c then s.set (h.field f) (s.get (h.field f) ||| bitsOf m f.hi f.lo) else s) s
    | none => s

/-- REGISTER_WRITE (R445, R13): a write of `width` bytes, with the W1C bits `hwSet` of the register set by hardware in the same
clock. -/
def execRegisterWrite (who : Agent) (addr : BitVec 48) (width : Nat) (value hwSet : BitVec 64) (s : State) : Out :=
  done ((s.busWrite who addr.toNat width value.toNat).hwSets addr.toNat hwSet.toNat)

/-- Events that hit an RC field in the clock of a read stay recorded. -/
def State.rcEvents (s : State) (a lo n : Nat) : State :=
  match findReg (blockTable a) a with
  | some h =>
    match h.reg.fields.find? (fun f => f.lo = lo && f.acc = .rc) with
    | some f => s.set (h.field f) (satAdd (h.field f).width (s.get (h.field f)) n)
    | none => s
  | none => s

/-- READ_CLEAR (R13): a register read of `width` bytes, with `evCount` hardware events in the same clock at the RC field whose
low bit is `evLo`. -/
def execReadClear (who : Agent) (addr : BitVec 48) (width evLo evCount : Nat) (s : State) : Out :=
  done ((s.busRead who addr.toNat width).rcEvents addr.toNat evLo evCount)

/-- LOW_WORD_READ_LATCH (R10): a 32-bit read. -/
def execLowWordReadLatch (who : Agent) (addr : BitVec 48) (s : State) : Out := done (s.busRead who addr.toNat 4)

end Sys2Proof.Machine
end

