-- ==== Sys2Proof/Machine/Access.lean ====
section
/-! DEFINITION. Memory accesses over the fabric and through the SRAM windows (R30, R33–R36, R103, R104, R166, R169,
R299–R301, R346, R347), and the operation pools that hold them back (R38, R106, R166, R351). -/

namespace Sys2Proof.Machine
open Sys2Proof

/-! ## Answers -/

def opWrite : BusOp → Bool
  | .read _ => false
  | .write _ _ => true

/-- Bytes of an access. -/
def opLen : BusOp → Nat
  | .read n => n
  | .write _ d => d.length

/-- An access fails: a bus error with data 0, but no response to a posted write (R301). -/
def State.failAccess (s : State) : BusOp → State
  | .write true _ => s
  | .write false _ => s.busError
  | .read _ => s.busError

/-- An access to memory completes. -/
def State.doAccess (s : State) (a : Nat) : BusOp → State
  | .read n => let (x, s) := s.seenLe a n; s.answer x
  | .write true d => s.wr a (d.map BitVec.toNat)
  | .write false d => (s.answer 0).wr a (d.map BitVec.toNat)

/-! ## SRAM windows (R34, R103, R104, R142) -/

/-- The tile number under which errors at an address are logged, and the word within its store. -/
def sramTile (a : Nat) : Nat := if a < 0x50000000 then (a - 0x40000000) / 0x200000 else 8 * sramCluster a
def sramWord (a : Nat) : Nat := (if a < 0x50000000 then a % 0x200000 else a % 0x800000) / 8

/-- An access that R103 allows: 8, 16, 32 or 64 bits wide and naturally aligned. -/
def sramAligned (a n : Nat) : Bool := (n = 1 || n = 2 || n = 4 || n = 8) && a % n = 0

/-- An access to tile memory or a cluster buffer that its checker has passed. A 64-bit write reads nothing; a narrower one
is a read-modify-write of its word. -/
def State.sramDo (s : State) (a : Nat) (op : BusOp) (ecc : EccEvent) : State :=
  if !sramAligned a (opLen op) || s.inKvArea a then s.failAccess op
  else if opWrite op && opLen op = 8 then s.doAccess a op
  else
    match ecc with
    | .none => s.doAccess a op
    | .corrected => (s.eccCorrected (sramCluster a)).doAccess a op
    | .uncorrectable => (s.eccLogged (sramTile a) (0x50000000 ≤ a) (sramWord a)).failAccess op

/-- An access to Plumb SRAM or the pixel store; errors in Plumb SRAM count in PLB_ECC. -/
def State.storeDo (s : State) (k a : Nat) (op : BusOp) (ecc : EccEvent) : State :=
  match op, ecc with
  | .read n, .corrected => (if k = 41 then s.inc Reg.PLB_ECC_CORR else s).doAccess a (.read n)
  | .read n, .uncorrectable => (if k = 41 then s.inc Reg.PLB_ECC_UNCORR else s).failAccess (.read n)
  | op, _ => s.doAccess a op

/-! ## DRAM (R166, R169) and PCIe (R346, R347) -/

/-- An access to a channel group; inline ECC finds errors only where it is in force. -/
def State.dramDo (s : State) (g a : Nat) (op : BusOp) (ecc : EccEvent) : State :=
  if s.bit (Reg.DDR_CG_CTRL_INLINE_ECC g) && !opWrite op then
    match ecc with
    | .none => s.doAccess a op
    | .corrected => (s.set Reg.DDR_EVENTS_ECC_CORR 1).doAccess a op
    | .uncorrectable => (s.inlineEcc a).failAccess op
  else s.doAccess a op

/-- A write that the link cannot take is logged once per group, with ADDR 0 (R347). -/
def State.lostWrite (s : State) (n : Nat) : State :=
  if bitOf s.brg.downLogged n then s
  else
    let s := s.fenceLog n 0 0 0 Code.eLinkDown
    { s with brg := { s.brg with downLogged := setMask s.brg.downLogged n } }

/-- An access to another package over PCIe. Memory writes are posted: the bridge accepts them at once. The data of a read are
the far side's: a free value. -/
def State.pcieDo (s : State) (at' : Attr) (a : Nat) (op : BusOp) : State :=
  let p := (a - 0x4000000000) / 0x1000000000
  let n := s.groupOf at'.partition
  match op with
  | .read len =>
    if s.pcieDown then s.abortRead at' 0 a
    else
      let (x, s) := s.freeNat
      s.answer (x % 2 ^ (8 * len))
  | .write posted d =>
    let s := if posted then s else s.answer 0
    if s.pcieDown then s.lostWrite n
    else (s.noteWritten n p).emit (.pcieWrite p n a (d.map BitVec.toNat))

/-! ## A transaction (R300, R301) -/

/-- mwattr of the core behind an agent. -/
def coreOf : Agent → Option Nat
  | .core n _ _ => some n.val
  | .sec n _ _ => some (16 + n.val)
  | .pairA => none
  | .pairB => none
  | .fw _ => none
  | .work _ _ _ => none
  | .debug _ _ => none

/-- A transaction carries the attribute with which it was issued, whatever its core's mwattr has become (R297). -/
def State.asIssued (s : State) (h : HeldAccess) (f : State → State) : State :=
  match coreOf h.who with
  | none => f s
  | some c =>
    if s.attrOf h.who = h.attr then f s
    else
      let t := f { s with worlds := { s.worlds with mwattr := KMap.put s.worlds.mwattr c h.attr } }
      { t with worlds := { t.worlds with mwattr := s.worlds.mwattr } }

/-- A register access over the fabric: a posted write gets no response (R301). -/
def State.registerAccess (s : State) (h : HeldAccess) : State :=
  s.asIssued h (fun s => match h.acc with
    | .read n => s.busRead h.who h.addr n
    | .write posted d =>
      let t := s.busWrite h.who h.addr d.length (leValue (d.map BitVec.toNat))
      if posted then { t with resp := s.resp } else t)

/-- A transaction reaches its target. An access that crosses a 4 KiB boundary does not occur (R300). -/
def State.access (s : State) (h : HeldAccess) : State :=
  let at' := h.attr
  let n := opLen h.acc
  if 4096 < h.addr % 4096 + n then s
  else if !s.debugMay h.who then s.failAccess h.acc
  else
    match s.target h.addr with
    | .reg => s.registerAccess h
    | t =>
      match s.reach1 at' (opWrite h.acc) h.addr with
      | (.ok, s) =>
        (match t with
        | .dram g _ => s.dramDo g h.addr h.acc h.ecc
        | .sram k => if k < 40 then s.sramDo h.addr h.acc h.ecc else s.storeDo k h.addr h.acc h.ecc
        | .pcie => s.pcieDo at' h.addr h.acc
        | .rom => s.doAccess h.addr h.acc
        | .reg => s
        | .hole => s)
      | (_, s) => s.failAccess h.acc

/-! ## The cores' caches (R298)

A line is 64 bytes of memory, filled by a read that its core caches; what it holds is what memory holds (the spec describes
neither the lines' size, their number and replacement, nor a write-back policy: DESIGN CHOICE, log entry 46). -/

/-- The quad whose caches an agent uses (4: the secure cluster). -/
def agentQuad : Agent → Option Nat
  | .core n _ _ => some (n.val / 4)
  | .sec _ _ _ => some 4
  | .pairA => none
  | .pairB => none
  | .fw _ => none
  | .work _ _ _ => none
  | .debug _ _ => none

/-- The lines that an access touches. -/
def linesOf (h : HeldAccess) : List Nat :=
  (List.range (if opLen h.acc = 0 then 0 else (h.addr + opLen h.acc - 1) / 64 - h.addr / 64 + 1)).map (fun i => h.addr / 64 + i)

/-- Memory, whose lines a core can cache. -/
def Target.cacheable : Target → Bool
  | .rom => true
  | .dram _ _ => true
  | .sram _ => true
  | .pcie => true
  | .reg => false
  | .hole => false

/-- A lookup hits only lines with an equal attribute. -/
def State.cacheHit (s : State) (q : Nat) (h : HeldAccess) : Bool :=
  h.cached && !opWrite h.acc && !(linesOf h).isEmpty &&
  (linesOf h).all (fun l => s.cache.contains ⟨q, l, h.attr⟩)

/-- The lines of an access are filled under its attribute. -/
def State.fill (s : State) (q : Nat) (h : HeldAccess) : State :=
  (linesOf h).foldl (fun s l =>
    let e : CacheLine := ⟨q, l, h.attr⟩
    if s.cache.contains e then s else { s with cache := e :: s.cache }) s

/-- A write invalidates the lines of its address under every other attribute in the quad. -/
def State.invalidateOthers (s : State) (q : Nat) (h : HeldAccess) : State :=
  { s with cache := s.cache.filter (fun e => !(e.quad == q && (linesOf h).contains e.line && e.attr != h.attr)) }

/-- An access that its pool has let through: a cached read that memory answers fills its lines. -/
def State.accessFill (s : State) (h : HeldAccess) : State :=
  let t := s.access h
  match agentQuad h.who with
  | some q => if h.cached && !opWrite h.acc && (s.target h.addr).cacheable && !t.resp.err then t.fill q h else t
  | none => t

/-! ## Operation pools (R38, R166, R351) -/

/-- The pool of an initiator's requests. The spec names no pool for cores, for the safety island and for each firmware
processor: they take Cheotte's, but for the graphics, media and gateway processors, which take their units' (DESIGN CHOICE:
log entry 39). -/
def initiatorPool : Agent → Nat
  | .fw n => if n.val = 18 then 202 else if n.val = 19 then 203 else if n.val = 21 then 204 else 200
  | .debug _ _ => 204
  | .core _ _ _ => 200
  | .sec _ _ _ => 200
  | .pairA => 200
  | .pairB => 200
  | .work (.tile n) _ _ => n.val
  | .work .fabric _ _ => 200
  | .work .graphics _ _ => 202
  | .work .media _ _ => 203
  | .work .peripherals _ _ => 204

/-- The number of a pool. -/
def poolNumber : Pool → Nat
  | .tile n => n.val
  | .dram c p => dramPool c.val p.val
  | .cheotte => 200
  | .pcie => 201
  | .graphics => 202
  | .media => 203
  | .peripherals => 204
  | .pcieInbound => 205

/-- The accesses held while a cluster's stores are initialised (R106). -/
def initHold (c : Nat) : Nat := 300 + c

/-- The pool whose entry a transaction takes: the controller's for DRAM, the outbound half of the PCIe pool, else its
initiator's. Whether a request to DRAM or PCIe also holds an entry of its initiator's own pool the spec does not say: here it
holds none (DESIGN CHOICE: log entry 39). -/
def State.poolFor (s : State) (h : HeldAccess) : Nat :=
  match s.target h.addr with
  | .dram _ c => dramPool c h.attr.partition
  | .pcie => 201
  | _ => initiatorPool h.who

def State.opPool (s : State) (k : Nat) : PoolUse := KMap.getD s.opPools k {}
def State.setOpPool (s : State) (k : Nat) (u : PoolUse) : State := { s with opPools := KMap.set {} s.opPools k u }

/-- Entries of a controller that all partitions use, and those of a group's sharers. -/
def State.dramUsed (s : State) (c : Nat) (ps : List Nat) : Nat :=
  ps.foldl (fun n p => n + (s.opPool (dramPool c p)).used) 0

/-- A free entry of a DRAM controller for a partition (R166). A partition that is neither owner nor sharer takes none: its
group refuses it. -/
def State.dramRoom (s : State) (c p : Nat) : Bool :=
  let g := c / 2
  let owner := s.get (Reg.DDR_CG_CTRL_OWNER g)
  let sharers := (List.range 64).filter (fun q => bitOf (s.get (Reg.DDR_CG_SHARE_SHARERS g)) q)
  let free := 1024 - s.get (Reg.DDR_CG_CTRL_OWNER_RES g)
  if p = owner then decide (s.dramUsed c (List.range 64) < 1024)
  else if sharers.contains p then
    decide (s.dramUsed c sharers < free) && decide ((s.opPool (dramPool c p)).used < free / max 1 sharers.length) &&
      decide (s.dramUsed c (List.range 64) < 1024)
  else true

/-- Capacity of the other pools (R38, R351). -/
def poolCapacity (k : Nat) : Nat :=
  if k < 128 then 512 else if k = 200 then 16384 else if k = 201 then 4096 else if k = 202 then 8192 else 4096

/-- A pool has a free entry. -/
def State.poolRoom (s : State) (k : Nat) : Bool :=
  if 1000 ≤ k then s.dramRoom ((k - 1000) / 64) ((k - 1000) % 64) else decide ((s.opPool k).used < poolCapacity k)

/-- Bytes of the completion buffer that an outbound access reserves: a read's data (R351). -/
def bufferOf (k : Nat) (h : HeldAccess) : Nat := if k = 201 && !opWrite h.acc then opLen h.acc else 0

/-- An access finds room: an entry of its pool, and for an outbound read space for its data in the bridge's 256 KiB completion
buffer (R38, R351). -/
def State.roomFor (s : State) (k : Nat) (h : HeldAccess) : Bool :=
  s.poolRoom k && (bufferOf k h = 0 || decide (s.brg.buffer.foldl (· + ·) 0 + bufferOf k h ≤ 0x40000))

/-- An access waits in a pool, and the oldest finds room. -/
def State.mayProceed (s : State) (k : Nat) : Bool :=
  match (s.opPool k).waiting with
  | [] => false
  | h :: _ => s.roomFor k h

/-- A partition that a channel group serves, or a pool of another kind: its accesses take entries. -/
def State.takesEntry (s : State) (k : Nat) : Bool :=
  if 1000 ≤ k then bitOf (groupMask (s.get (Reg.DDR_CG_CTRL_OWNER ((k - 1000) / 128))) (s.get (Reg.DDR_CG_SHARE_SHARERS ((k - 1000) / 128))))
    ((k - 1000) % 64)
  else true

/-- An access waits in a pool. -/
def State.hold (s : State) (k : Nat) (h : HeldAccess) : State :=
  let u := s.opPool k
  s.setOpPool k { u with waiting := u.waiting ++ [h] }

/-- An access takes an entry of pool `k` and goes on. -/
def State.enter (s : State) (k : Nat) (h : HeldAccess) : State :=
  let u := s.opPool k
  let s := if s.takesEntry k then s.setOpPool k { u with used := u.used + 1 } else s
  let s := if k = 201 then { s with brg := { s.brg with buffer := s.brg.buffer ++ [bufferOf k h] } } else s
  s.accessFill h

/-- The stores that an access names are being initialised (R106). -/
def State.initHolds (s : State) (a : Nat) : Bool :=
  match s.target a with
  | .sram k => k < 40 && !s.bit (Reg.TEN_CL_MEMSTAT_INIT_DONE (k - 24))
  | _ => false

/-- A transaction is issued: held back while its pool is full, behind those that already wait (R38). -/
def State.issue (s : State) (h : HeldAccess) : State :=
  if s.initHolds h.addr then s.hold (initHold (sramCluster h.addr)) h
  else
    let k := s.poolFor h
    if (s.opPool k).waiting.isEmpty && s.roomFor k h then s.enter k h else s.hold k h

/-- A core's access passes its caches first: a hit is answered from the line and goes no further; a write goes on to memory. -/
def State.coreAccess (s : State) (h : HeldAccess) : State :=
  match agentQuad h.who with
  | some q =>
    if s.cacheHit q h then s.doAccess h.addr h.acc
    else if opWrite h.acc then (s.invalidateOthers q h).issue h
    else s.issue h
  | none => s.issue h

/-- The oldest access that waits in pool `k` proceeds, if the pool has room. -/
def State.proceed (s : State) (k : Nat) : State :=
  match (s.opPool k).waiting with
  | [] => s
  | h :: rest => if s.roomFor k h then (s.setOpPool k { s.opPool k with waiting := rest }).enter k h else s

/-- The pools whose waiting accesses a freed entry of pool `k` may serve: its own, then the other partitions' of the same
controller. -/
def poolMates (k : Nat) : List Nat :=
  if 1000 ≤ k then k :: ((List.range 64).map (fun p => dramPool ((k - 1000) / 64) p)).filter (· != k) else [k]

/-- The first pool of a list with a waiting access that finds room serves it. -/
def State.proceedOne (s : State) : List Nat → State
  | [] => s
  | k :: ks => if s.mayProceed k then s.proceed k else s.proceedOne ks

/-! ## Meanings -/

/-- FABRIC_ACCESS (R300); `cached`: a core's access to a cacheable location (R298). -/
def execFabricAccess (who : Agent) (addr : BitVec 48) (acc : BusOp) (ecc : EccEvent) (cached : Bool) (s : State) : Out :=
  done (s.coreAccess ⟨who, s.attrOf who, addr.toNat, acc, ecc, cached⟩)

/-- SRAM_WINDOW_ACCESS (R103): a transaction to the windows of R34. -/
def execSramWindowAccess (who : Agent) (addr : BitVec 48) (acc : BusOp) (ecc : EccEvent) (s : State) : Out :=
  done (s.coreAccess ⟨who, s.attrOf who, addr.toNat, acc, ecc, false⟩)

/-- An inbound request takes an entry of the inbound half of the PCIe pool, or waits for one (R38, R351). -/
def State.enterInbound (s : State) (r : Inbound) : State :=
  let u := s.opPool 205
  if s.brg.inbound.isEmpty && s.poolRoom 205 then (s.setOpPool 205 { u with used := u.used + 1 }).serveInbound r
  else { s with brg := { s.brg with inbound := s.brg.inbound ++ [r] } }

/-- PCIE_INBOUND_REQUEST (R350, R351). -/
def execPcieInboundRequest (package : Fin 4) (group : Fin 16) (offset : BitVec 36) (acc : BusOp) (ecc : EccEvent) (s : State) : Out :=
  if s.pcieDown then done s else done (s.enterInbound ⟨package.val, group.val, offset.toNat, acc, ecc⟩)

/-- The inbound request that has waited longest proceeds. -/
def State.proceedInbound (s : State) : State :=
  match s.brg.inbound with
  | [] => s
  | r :: rest =>
    let s := { s with brg := { s.brg with inbound := [] } }.enterInbound r
    { s with brg := { s.brg with inbound := s.brg.inbound ++ rest } }

/-- POOL_ENTRY_FREED (R38). -/
def execPoolEntryFreed (pool : Pool) (s : State) : Out :=
  let k := poolNumber pool
  let u := s.opPool k
  if u.used = 0 then done s
  else
    let s := s.setOpPool k { u with used := u.used - 1 }
    let s := if k = 201 then { s with brg := { s.brg with buffer := s.brg.buffer.drop 1 } } else s
    done (if k = 205 then s.proceedInbound else s.proceedOne (poolMates k))

/-- The oldest read of an initiator at an address that waits for a pool entry or for buffer space waits no longer. -/
def State.dropWaiting (s : State) (who : Agent) (a : Nat) : State :=
  let u := s.opPool 201
  match u.waiting.find? (fun h => h.who = who && h.addr = a && !opWrite h.acc) with
  | some h => s.setOpPool 201 { u with waiting := u.waiting.erase h }
  | none => s

/-- READ_HOLD_TIMEOUT (R346): no data have returned after FB 0x5100.01; the wait for completion buffer space counts toward it (R351). -/
def execReadHoldTimeout (who : Agent) (bridge : Fin 4) (addr : BitVec 48) (s : State) : Out :=
  done (((s.elapse (s.fbGet 0x5100 1 * 1000)).abortRead (s.attrOf who) bridge.val addr.toNat).dropWaiting who addr.toNat)

/-- PCIE_LINK_DOWN (R352, R347): the outstanding reads abort at once, those that still wait on the near side too; posted writes not yet
sent are reported. -/
def execPcieLinkDown (unsent : BitVec 16) (s : State) : Out :=
  if s.brg.linkDown then done s
  else
    let held := (s.opPool 201).waiting
    let s := s.linkGoesDown unsent
    done (held.foldl State.access (s.setOpPool 201 { s.opPool 201 with waiting := [] }))

/-- MEMORY_INIT_DONE (R106): admission starts, and the accesses held until now proceed in their order. -/
def execMemoryInitDone (cluster : Fin 16) (s : State) : Out :=
  let c := cluster.val
  if s.clusterUp c && !s.bit (Reg.TEN_CL_MEMSTAT_INIT_DONE c) then
    let held := (s.opPool (initHold c)).waiting
    done (held.foldl State.issue ((s.setOpPool (initHold c) {}).memoryInit c))
  else done s

end Sys2Proof.Machine
end

