-- ==== Sys2Proof/Machine/Dispatch.lean ====
section
/-! DEFINITION. The dispatch of a command to its meaning: one arm per constructor of `Instr`. -/

namespace Sys2Proof.Machine
open Sys2Proof

def exec (i : Instr) (s : State) : Host.Outcome State Fault Refusal :=
  match i with
  | .registerWrite who addr width value hwSet => Sys2Proof.Machine.execRegisterWrite who addr width value hwSet s
  | .readClear who addr width evLo evCount => Sys2Proof.Machine.execReadClear who addr width evLo evCount s
  | .lowWordReadLatch who addr => Sys2Proof.Machine.execLowWordReadLatch who addr s
  | .poolEntryFreed pool => Sys2Proof.Machine.execPoolEntryFreed pool s
  | .fabricAccess who addr acc ecc cached => Sys2Proof.Machine.execFabricAccess who addr acc ecc cached s
  | .sramWindowAccess who addr acc ecc => Sys2Proof.Machine.execSramWindowAccess who addr acc ecc s
  | .timeNsRead who => Sys2Proof.Machine.execTimeNsRead who s
  | .timeInPop who n => Sys2Proof.Machine.execTimeInPop who n s
  | .datumSourceWrite who source => Sys2Proof.Machine.execDatumSourceWrite who source s
  | .rebase who => Sys2Proof.Machine.execRebase who s
  | .syncReceived mac domain identity origin age logInterval => Sys2Proof.Machine.execSyncReceived mac domain identity origin age logInterval s
  | .announceReceived mac domain priority1 quality priority2 identity steps => Sys2Proof.Machine.execAnnounceReceived mac domain priority1 quality priority2 identity steps s
  | .peerDelayExchange mac domain t1 t2 t3 t4 => Sys2Proof.Machine.execPeerDelayExchange mac domain t1 t2 t3 t4 s
  | .syncTransmit mac => Sys2Proof.Machine.execSyncTransmit mac s
  | .ptmExchange t1 t2 t3 t4 => Sys2Proof.Machine.execPtmExchange t1 t2 t3 t4 s
  | .syncLoss => Sys2Proof.Machine.execSyncLoss s
  | .ptmLoss => Sys2Proof.Machine.execPtmLoss s
  | .holdoverExpiry => Sys2Proof.Machine.execHoldoverExpiry s
  | .acquisitionWaitExpiry => Sys2Proof.Machine.execAcquisitionWaitExpiry s
  | .baseTick => Sys2Proof.Machine.execBaseTick s
  | .merStart who => Sys2Proof.Machine.execMerStart who s
  | .merStop who => Sys2Proof.Machine.execMerStop who s
  | .merSwap who => Sys2Proof.Machine.execMerSwap who s
  | .merTableLock who => Sys2Proof.Machine.execMerTableLock who s
  | .tickPeriodWrite who value => Sys2Proof.Machine.execTickPeriodWrite who value s
  | .hyperTicksWrite who value => Sys2Proof.Machine.execHyperTicksWrite who value s
  | .phaseWrite who value => Sys2Proof.Machine.execPhaseWrite who value s
  | .shadowEntryWrite who entry word value => Sys2Proof.Machine.execShadowEntryWrite who entry word value s
  | .pipeFrameWrite who pipe value => Sys2Proof.Machine.execPipeFrameWrite who pipe value s
  | .timeOutPulse n => Sys2Proof.Machine.execTimeOutPulse n s
  | .timeInEdge n rising => Sys2Proof.Machine.execTimeInEdge n rising s
  | .windowOpen entry => Sys2Proof.Machine.execWindowOpen entry s
  | .windowClose entry => Sys2Proof.Machine.execWindowClose entry s
  | .doorbellWrite who ring value => Sys2Proof.Machine.execDoorbellWrite who ring value s
  | .gemm eng queue => Sys2Proof.Machine.execGemm eng queue s
  | .conv eng queue => Sys2Proof.Machine.execConv eng queue s
  | .dwconv eng queue => Sys2Proof.Machine.execDwconv eng queue s
  | .pool eng queue => Sys2Proof.Machine.execPool eng queue s
  | .eltwise eng queue => Sys2Proof.Machine.execEltwise eng queue s
  | .reduce eng queue => Sys2Proof.Machine.execReduce eng queue s
  | .softmax eng queue => Sys2Proof.Machine.execSoftmax eng queue s
  | .norm eng queue => Sys2Proof.Machine.execNorm eng queue s
  | .gather eng queue => Sys2Proof.Machine.execGather eng queue s
  | .scatter eng queue => Sys2Proof.Machine.execScatter eng queue s
  | .pagedAttn queue => Sys2Proof.Machine.execPagedAttn queue s
  | .fold queue => Sys2Proof.Machine.execFold queue s
  | .unfold queue => Sys2Proof.Machine.execUnfold queue s
  | .tdma eng queue => Sys2Proof.Machine.execTdma eng queue s
  | .collective queue active => Sys2Proof.Machine.execCollective queue active s
  | .fence eng queue => Sys2Proof.Machine.execFence eng queue s
  | .fenceRelease eng queue => Sys2Proof.Machine.execFenceRelease eng queue s
  | .commit eng queue => Sys2Proof.Machine.execCommit eng queue s
  | .commandCommit eng queue cycles => Sys2Proof.Machine.execCommandCommit eng queue cycles s
  | .tileArithFault queue tile cycles => Sys2Proof.Machine.execTileArithFault queue tile cycles s
  | .eccUncorrectable queue tile buffer word found cycles => Sys2Proof.Machine.execEccUncorrectable queue tile buffer word found cycles s
  | .plumbEccUncorrectable queue cycles => Sys2Proof.Machine.execPlumbEccUncorrectable queue cycles s
  | .cmdOverrun eng queue cycles => Sys2Proof.Machine.execCmdOverrun eng queue cycles s
  | .dataBusError eng queue cause addr tile cycles => Sys2Proof.Machine.execDataBusError eng queue cause addr tile cycles s
  | .scrubPass tile buffer word found lastWord => Sys2Proof.Machine.execScrubPass tile buffer word found lastWord s
  | .memoryInitDone cluster => Sys2Proof.Machine.execMemoryInitDone cluster s
  | .partitionClearDone cluster => Sys2Proof.Machine.execPartitionClearDone cluster s
  | .rowMarkArm queue cluster => Sys2Proof.Machine.execRowMarkArm queue cluster s
  | .rowMarkAdvance queue cluster => Sys2Proof.Machine.execRowMarkAdvance queue cluster s
  | .consumerRowStart queue cluster => Sys2Proof.Machine.execConsumerRowStart queue cluster s
  | .defusion queue cluster => Sys2Proof.Machine.execDefusion queue cluster s
  | .kvPool mailbox => Sys2Proof.Machine.execKvPool mailbox s
  | .kvPoolClose mailbox => Sys2Proof.Machine.execKvPoolClose mailbox s
  | .seqOpen mailbox => Sys2Proof.Machine.execSeqOpen mailbox s
  | .seqClose mailbox => Sys2Proof.Machine.execSeqClose mailbox s
  | .seqRead mailbox => Sys2Proof.Machine.execSeqRead mailbox s
  | .kvStep mailbox => Sys2Proof.Machine.execKvStep mailbox s
  | .spillFree mailbox => Sys2Proof.Machine.execSpillFree mailbox s
  | .trainOpen mailbox => Sys2Proof.Machine.execTrainOpen mailbox s
  | .trainCkpt mailbox => Sys2Proof.Machine.execTrainCkpt mailbox s
  | .trainClose mailbox => Sys2Proof.Machine.execTrainClose mailbox s
  | .kvCacheWrite who cluster banks => Sys2Proof.Machine.execKvCacheWrite who cluster banks s
  | .trainingSessionLimit => Sys2Proof.Machine.execTrainingSessionLimit s
  | .queueEnable who eng queue value => Sys2Proof.Machine.execQueueEnable who eng queue value s
  | .queueDisable who eng queue value => Sys2Proof.Machine.execQueueDisable who eng queue value s
  | .partitionLock who => Sys2Proof.Machine.execPartitionLock who s
  | .channelGroupOwnerWrite who group owner reserve => Sys2Proof.Machine.execChannelGroupOwnerWrite who group owner reserve s
  | .channelGroupShareWrite who group sharers => Sys2Proof.Machine.execChannelGroupShareWrite who group sharers s
  | .wayMapWrite who register value => Sys2Proof.Machine.execWayMapWrite who register value s
  | .wayCleanDone way => Sys2Proof.Machine.execWayCleanDone way s
  | .vteEnable who vte value => Sys2Proof.Machine.execVteEnable who vte value s
  | .vteDisable who vte value => Sys2Proof.Machine.execVteDisable who vte value s
  | .vteFreeze who vte immediate => Sys2Proof.Machine.execVteFreeze who vte immediate s
  | .vteFreezeComplete vte => Sys2Proof.Machine.execVteFreezeComplete vte s
  | .vteRestore who vte immediate => Sys2Proof.Machine.execVteRestore who vte immediate s
  | .heartbeatSend => Sys2Proof.Machine.execHeartbeatSend s
  | .heartbeatReceived peer => Sys2Proof.Machine.execHeartbeatReceived peer s
  | .peerLost peer => Sys2Proof.Machine.execPeerLost peer s
  | .killAckTimeout peer => Sys2Proof.Machine.execKillAckTimeout peer s
  | .collReady group peer cycles => Sys2Proof.Machine.execCollReady group peer cycles s
  | .collGo group cycles => Sys2Proof.Machine.execCollGo group cycles s
  | .collKill group peer code => Sys2Proof.Machine.execCollKill group peer code s
  | .collRestart group => Sys2Proof.Machine.execCollRestart group s
  | .collEnd group code peer => Sys2Proof.Machine.execCollEnd group code peer s
  | .collGroup mailbox => Sys2Proof.Machine.execCollGroup mailbox s
  | .collClose mailbox => Sys2Proof.Machine.execCollClose mailbox s
  | .pairHeartbeat pairA => Sys2Proof.Machine.execPairHeartbeat pairA s
  | .pairHeartbeatLoss pairA => Sys2Proof.Machine.execPairHeartbeatLoss pairA s
  | .lockstepMismatch pairA => Sys2Proof.Machine.execLockstepMismatch pairA s
  | .safRun who => Sys2Proof.Machine.execSafRun who s
  | .ssReq who => Sys2Proof.Machine.execSsReq who s
  | .latentTimeout pipe => Sys2Proof.Machine.execLatentTimeout pipe s
  | .safetyStatusMessage => Sys2Proof.Machine.execSafetyStatusMessage s
  | .safeStateReadback padHigh => Sys2Proof.Machine.execSafeStateReadback padHigh s
  | .plumbClockRailFault rail => Sys2Proof.Machine.execPlumbClockRailFault rail s
  | .safetyIslandWatchdog => Sys2Proof.Machine.execSafetyIslandWatchdog s
  | .datumRateFault => Sys2Proof.Machine.execDatumRateFault s
  | .injectionComplete failItem => Sys2Proof.Machine.execInjectionComplete failItem s
  | .trvContextEnable who context value => Sys2Proof.Machine.execTrvContextEnable who context value s
  | .trvContextDisable who context value => Sys2Proof.Machine.execTrvContextDisable who context value s
  | .plan context => Sys2Proof.Machine.execPlan context s
  | .gridPublish who context slot => Sys2Proof.Machine.execGridPublish who context slot s
  | .libraryCrcCheck context => Sys2Proof.Machine.execLibraryCrcCheck context s
  | .fallbackDone => Sys2Proof.Machine.execFallbackDone s
  | .searchEnd => Sys2Proof.Machine.execSearchEnd s
  | .searchDeadline => Sys2Proof.Machine.execSearchDeadline s
  | .optimisationEnd => Sys2Proof.Machine.execOptimisationEnd s
  | .optimisationDeadline => Sys2Proof.Machine.execOptimisationDeadline s
  | .planCommit => Sys2Proof.Machine.execPlanCommit s
  | .traverseFault parity addr => Sys2Proof.Machine.execTraverseFault parity addr s
  | .gfxContextEnable who context value => Sys2Proof.Machine.execGfxContextEnable who context value s
  | .gfxContextDisable who context value => Sys2Proof.Machine.execGfxContextDisable who context value s
  | .pass context draw stores => Sys2Proof.Machine.execPass context draw stores s
  | .dispatch context stores => Sys2Proof.Machine.execDispatch context stores s
  | .gfxFence context => Sys2Proof.Machine.execGfxFence context s
  | .gfxCommit context => Sys2Proof.Machine.execGfxCommit context s
  | .gfxJobComplete context => Sys2Proof.Machine.execGfxJobComplete context s
  | .heapAdd who context page => Sys2Proof.Machine.execHeapAdd who context page s
  | .binFault context listed => Sys2Proof.Machine.execBinFault context listed s
  | .binFaultDeadline context => Sys2Proof.Machine.execBinFaultDeadline context s
  | .flushDone context => Sys2Proof.Machine.execFlushDone context s
  | .gfxFault context cause => Sys2Proof.Machine.execGfxFault context cause s
  | .compositionSlackLow context => Sys2Proof.Machine.execCompositionSlackLow context s
  | .yieldLimit context remaining => Sys2Proof.Machine.execYieldLimit context remaining s
  | .displayEnable who display value => Sys2Proof.Machine.execDisplayEnable who display value s
  | .linkTrained display => Sys2Proof.Machine.execLinkTrained display s
  | .displayFrameStart display late ttEcc => Sys2Proof.Machine.execDisplayFrameStart display late ttEcc s
  | .expWrite who display region value => Sys2Proof.Machine.execExpWrite who display region value s
  | .checkedRegionCompare display region => Sys2Proof.Machine.execCheckedRegionCompare display region s
  | .csi2Packet port vc dt header crcOk payload => Sys2Proof.Machine.execCsi2Packet port vc dt header crcOk payload s
  | .csi2FrameStart port vc number header => Sys2Proof.Machine.execCsi2FrameStart port vc number header s
  | .csi2FrameEnd port vc header isp params => Sys2Proof.Machine.execCsi2FrameEnd port vc header isp params s
  | .frameEndTimeout source => Sys2Proof.Machine.execFrameEndTimeout source s
  | .captureSourceEnable who source value => Sys2Proof.Machine.execCaptureSourceEnable who source value s
  | .captureSourceDisable who source value => Sys2Proof.Machine.execCaptureSourceDisable who source value s
  | .mediaContextEnable who context value => Sys2Proof.Machine.execMediaContextEnable who context value s
  | .mediaContextDisable who context value => Sys2Proof.Machine.execMediaContextDisable who context value s
  | .sampleDescriptor context => Sys2Proof.Machine.execSampleDescriptor context s
  | .decodeComplete context time width height fits depends outcome tenBit offset data => Sys2Proof.Machine.execDecodeComplete context time width height fits depends outcome tenBit offset data s
  | .decodeBudgetExpiry context => Sys2Proof.Machine.execDecodeBudgetExpiry context s
  | .ispMemoryInput source input => Sys2Proof.Machine.execIspMemoryInput source input s
  | .stagingJobEnd context => Sys2Proof.Machine.execStagingJobEnd context s
  | .stagingOverrun context => Sys2Proof.Machine.execStagingOverrun context s
  | .stagingEnable who context value => Sys2Proof.Machine.execStagingEnable who context value s
  | .stagingDisable who context value => Sys2Proof.Machine.execStagingDisable who context value s
  | .batchRelease who context bucket value => Sys2Proof.Machine.execBatchRelease who context bucket value s
  | .mwattrWrite core mode value => Sys2Proof.Machine.execMwattrWrite core mode value s
  | .logAck who checker count => Sys2Proof.Machine.execLogAck who checker count s
  | .regionEnable who checker region perms => Sys2Proof.Machine.execRegionEnable who checker region perms s
  | .regionDisable who checker region perms => Sys2Proof.Machine.execRegionDisable who checker region perms s
  | .cadastreLock who checker => Sys2Proof.Machine.execCadastreLock who checker s
  | .svcVersion core mode => Sys2Proof.Machine.execSvcVersion core mode s
  | .svcAttrGet core mode => Sys2Proof.Machine.execSvcAttrGet core mode s
  | .svcPartSwitch core mode partition => Sys2Proof.Machine.execSvcPartSwitch core mode partition s
  | .svcSecureStatus core mode => Sys2Proof.Machine.execSvcSecureStatus core mode s
  | .svcRegionSet core mode checker region base limit parts perms => Sys2Proof.Machine.execSvcRegionSet core mode checker region base limit parts perms s
  | .svcCmac core mode slot addr len served => Sys2Proof.Machine.execSvcCmac core mode slot addr len served s
  | .svcCmacVerify core mode slot addr len tagAddr served => Sys2Proof.Machine.execSvcCmacVerify core mode slot addr len tagAddr served s
  | .svcRandom core mode served => Sys2Proof.Machine.execSvcRandom core mode served s
  | .svcAttest core mode nonceAddr reportAddr served => Sys2Proof.Machine.execSvcAttest core mode nonceAddr reportAddr served s
  | .svcKeyLoad core mode slot keyAddr served => Sys2Proof.Machine.execSvcKeyLoad core mode slot keyAddr served s
  | .svcFwStage core mode addr len served => Sys2Proof.Machine.execSvcFwStage core mode addr len served s
  | .svcFwActivate core mode kind served => Sys2Proof.Machine.execSvcFwActivate core mode kind served s
  | .ecallUnknownService core mode id => Sys2Proof.Machine.execEcallUnknownService core mode id s
  | .serviceAnswer core => Sys2Proof.Machine.execServiceAnswer core s
  | .serviceCallTimeout core => Sys2Proof.Machine.execServiceCallTimeout core s
  | .keySlotLoad who slot type uses => Sys2Proof.Machine.execKeySlotLoad who slot type uses s
  | .keySlotZero who slot => Sys2Proof.Machine.execKeySlotZero who slot s
  | .keySlotLock who slot => Sys2Proof.Machine.execKeySlotLock who slot s
  | .secureWatchdogExpiry => Sys2Proof.Machine.execSecureWatchdogExpiry s
  | .secureRestart who => Sys2Proof.Machine.execSecureRestart who s
  | .secureReady who => Sys2Proof.Machine.execSecureReady who s
  | .swdKick who key => Sys2Proof.Machine.execSwdKick who key s
  | .secureWatchdogTestExpiry => Sys2Proof.Machine.execSecureWatchdogTestExpiry s
  | .leaseWrite who clk value => Sys2Proof.Machine.execLeaseWrite who clk value s
  | .levelLineChange source ext => Sys2Proof.Machine.execLevelLineChange source ext s
  | .edgeEvent source => Sys2Proof.Machine.execEdgeEvent source s
  | .sourceConfigWrite who source tgt value => Sys2Proof.Machine.execSourceConfigWrite who source tgt value s
  | .claim who target => Sys2Proof.Machine.execClaim who target s
  | .complete who target id => Sys2Proof.Machine.execComplete who target id s
  | .unfreeze who target => Sys2Proof.Machine.execUnfreeze who target s
  | .swSet who n => Sys2Proof.Machine.execSwSet who n s
  | .icnTestWrite who test => Sys2Proof.Machine.execIcnTestWrite who test s
  | .canFrameRx can fmt key0 key1 event data => Sys2Proof.Machine.execCanFrameRx can fmt key0 key1 event data s
  | .linFrameRx lin id checksumOk data => Sys2Proof.Machine.execLinFrameRx lin id checksumOk data s
  | .ethernetFrameRx mac fcsOk frame => Sys2Proof.Machine.execEthernetFrameRx mac fcsOk frame s
  | .flowPeriodTimer flow => Sys2Proof.Machine.execFlowPeriodTimer flow s
  | .flowTimeout flow => Sys2Proof.Machine.execFlowTimeout flow s
  | .linScheduleSlot lin id => Sys2Proof.Machine.execLinScheduleSlot lin id s
  | .gateListSwap who mac value => Sys2Proof.Machine.execGateListSwap who mac value s
  | .gateCycleStart mac => Sys2Proof.Machine.execGateCycleStart mac s
  | .gateEntryChange mac => Sys2Proof.Machine.execGateEntryChange mac s
  | .flowSet mailbox => Sys2Proof.Machine.execFlowSet mailbox s
  | .mapSet mailbox => Sys2Proof.Machine.execMapSet mailbox s
  | .destSet mailbox => Sys2Proof.Machine.execDestSet mailbox s
  | .epOpen mailbox => Sys2Proof.Machine.execEpOpen mailbox s
  | .epClose mailbox => Sys2Proof.Machine.execEpClose mailbox s
  | .endpointTxRecord endpoint => Sys2Proof.Machine.execEndpointTxRecord endpoint s
  | .readHoldTimeout who bridge addr => Sys2Proof.Machine.execReadHoldTimeout who bridge addr s
  | .lateCompletion => Sys2Proof.Machine.execLateCompletion s
  | .farFailureReport bridge group attr addr cls => Sys2Proof.Machine.execFarFailureReport bridge group attr addr cls s
  | .bridgeFence who group => Sys2Proof.Machine.execBridgeFence who group s
  | .bridgeFenceDone group => Sys2Proof.Machine.execBridgeFenceDone group s
  | .fenceLogAck who group count => Sys2Proof.Machine.execFenceLogAck who group count s
  | .pcieInboundRequest package group offset acc ecc => Sys2Proof.Machine.execPcieInboundRequest package group offset acc ecc s
  | .pcieLinkDown unsent => Sys2Proof.Machine.execPcieLinkDown unsent s
  | .inboundWindowEnable who window value => Sys2Proof.Machine.execInboundWindowEnable who window value s
  | .fbaRequestReceived carrier bytes => Sys2Proof.Machine.execFbaRequestReceived carrier bytes s
  | .fbaRead => Sys2Proof.Machine.execFbaRead s
  | .fbaWrite => Sys2Proof.Machine.execFbaWrite s
  | .fbaDescribe => Sys2Proof.Machine.execFbaDescribe s
  | .fbaOpen => Sys2Proof.Machine.execFbaOpen s
  | .fbaClose => Sys2Proof.Machine.execFbaClose s
  | .sessionIdleTimeout session => Sys2Proof.Machine.execSessionIdleTimeout session s
  | .muteExpiry source => Sys2Proof.Machine.execMuteExpiry source s
  | .violationCountClear => Sys2Proof.Machine.execViolationCountClear s
  | .journalCopyACommit => Sys2Proof.Machine.execJournalCopyACommit s
  | .journalCopyBDone => Sys2Proof.Machine.execJournalCopyBDone s
  | .compactionDone => Sys2Proof.Machine.execCompactionDone s
  | .fwWatchdogKick who n key => Sys2Proof.Machine.execFwWatchdogKick who n key s
  | .fwWatchdogExpiry n => Sys2Proof.Machine.execFwWatchdogExpiry n s
  | .fwWatchdogTestExpiry n => Sys2Proof.Machine.execFwWatchdogTestExpiry n s
  | .mailboxEnable who mailbox value => Sys2Proof.Machine.execMailboxEnable who mailbox value s
  | .mailboxDisable who mailbox value => Sys2Proof.Machine.execMailboxDisable who mailbox value s
  | .attach mailbox => Sys2Proof.Machine.execAttach mailbox s
  | .detach mailbox => Sys2Proof.Machine.execDetach mailbox s
  | .logRead mailbox => Sys2Proof.Machine.execLogRead mailbox s
  | .pdSet mailbox => Sys2Proof.Machine.execPdSet mailbox s
  | .clkSet mailbox => Sys2Proof.Machine.execClkSet mailbox s
  | .sleep mailbox => Sys2Proof.Machine.execSleep mailbox s
  | .powerStatus mailbox => Sys2Proof.Machine.execPowerStatus mailbox s
  | .logFlush processor => Sys2Proof.Machine.execLogFlush processor s
  | .heartbeatKick who => Sys2Proof.Machine.execHeartbeatKick who s
  | .heartbeatLapse partition => Sys2Proof.Machine.execHeartbeatLapse partition s
  | .pmuLoop hot power rails => Sys2Proof.Machine.execPmuLoop hot power rails s
  | .avsTrim domain mv => Sys2Proof.Machine.execAvsTrim domain mv s
  | .railDroop => Sys2Proof.Machine.execRailDroop s
  | .railFault domains => Sys2Proof.Machine.execRailFault domains s
  | .ceilingLower => Sys2Proof.Machine.execCeilingLower s
  | .ceilingRaise => Sys2Proof.Machine.execCeilingRaise s
  | .shedStep => Sys2Proof.Machine.execShedStep s
  | .shedUndo => Sys2Proof.Machine.execShedUndo s
  | .thermalTrip => Sys2Proof.Machine.execThermalTrip s
  | .stageWriteDone kind good => Sys2Proof.Machine.execStageWriteDone kind good s
  | .fwSwitchReadyTimeout => Sys2Proof.Machine.execFwSwitchReadyTimeout s
  | .powerOnReset straps => Sys2Proof.Machine.execPowerOnReset straps s
  | .systemReset held => Sys2Proof.Machine.execSystemReset held s
  | .softwareReset who => Sys2Proof.Machine.execSoftwareReset who s
  | .pllLoss pll => Sys2Proof.Machine.execPllLoss pll s
  | .pllRelock pll => Sys2Proof.Machine.execPllRelock pll s
  | .clockEnableWrite who value => Sys2Proof.Machine.execClockEnableWrite who value s
  | .wake => Sys2Proof.Machine.execWake s
  | .sleepEntryDone => Sys2Proof.Machine.execSleepEntryDone s
  | .pwrFail => Sys2Proof.Machine.execPwrFail s
  | .pwrFailReturn => Sys2Proof.Machine.execPwrFailReturn s
  | .debugChallengeRead => Sys2Proof.Machine.execDebugChallengeRead s
  | .debugToken token => Sys2Proof.Machine.execDebugToken token s
  | .bypass => Sys2Proof.Machine.execBypass s
  | .idcode => Sys2Proof.Machine.execIdcode s
  | .samplePreload cells => Sys2Proof.Machine.execSamplePreload cells s
  | .extest => Sys2Proof.Machine.execExtest s
  | .clamp => Sys2Proof.Machine.execClamp s
  | .highz => Sys2Proof.Machine.execHighz s
  | .fwProcessorReady n => Sys2Proof.Machine.execFwProcessorReady n s
  | .restartMeasurementDone => Sys2Proof.Machine.execRestartMeasurementDone s
  | .activationWriteDone kind => Sys2Proof.Machine.execActivationWriteDone kind s
  | .displayLinkLoss display => Sys2Proof.Machine.execDisplayLinkLoss display s
  | .ethernetLinkChange mac up => Sys2Proof.Machine.execEthernetLinkChange mac up s
  | .pcieLinkUp => Sys2Proof.Machine.execPcieLinkUp s
  | .frameTransmitDone iface pick failed => Sys2Proof.Machine.execFrameTransmitDone iface pick failed s
  | .canBusOffRecovery can => Sys2Proof.Machine.execCanBusOffRecovery can s
  | .linResponseTimeout lin => Sys2Proof.Machine.execLinResponseTimeout lin s
  | .cbResetTimeExpiry flow => Sys2Proof.Machine.execCbResetTimeExpiry flow s
  | .collCommitAck group peer => Sys2Proof.Machine.execCollCommitAck group peer s
  | .liveRangeCopyDone queue => Sys2Proof.Machine.execLiveRangeCopyDone queue s

end Sys2Proof.Machine
end

