-- ==== Sys2Proof/Safety.lean ====
section
/-! DEFINITION. The terms that the statements use: the invariants of the state, what it is for a command to complete, when
a register access passes its checker, and what a command leaves unchanged. -/

namespace Sys2Proof.Safety
open Sys2Proof Sys2Proof.Machine

/-- Memory is in its canonical form: addresses strictly rising, no entry equal to what an unlisted address reads as. -/
def MemOk (s : State) : Prop := Memory.wf s.mem = true

/-- The command completes: it answers a next state, of which `P` holds. -/
def Does (c : Instr) (s : State) (P : State → Prop) : Prop := ∃ t, exec c s = .next t ∧ P t

/-- A register access of `who` at `a` passes the checker of its block by the regions (R300), and the debugger's unlock
covers it (R442). -/
abbrev Passes (s : State) (who : Agent) (a : Nat) (write : Bool) : Prop :=
  s.debugMay who = true ∧ (cadDecide s (blockChecker a) (s.attrOf who) write a).1 = true

/-- Every register field but those of `fs` reads as before. -/
def RegsKept (fs : List Field) (s t : State) : Prop := ∀ f : Field, f.key ∉ fs.map Field.key → t.get f = s.get f

/-- Every Field Book value but those of `ks` (index, sub-index) reads as before. -/
def FbKept (ks : List (Nat × Nat)) (s t : State) : Prop :=
  ∀ i j : Nat, i * 256 + j ∉ ks.map (fun k => k.1 * 256 + k.2) → t.fbGet i j = s.fbGet i j

/-- Every byte of memory outside `[lo, hi)` reads as before. -/
def MemKept (lo hi : Nat) (s t : State) : Prop :=
  ∀ a : Nat, a < lo ∨ hi ≤ a → Memory.read t.mem a = Memory.read s.mem a

/-- Every byte of memory outside the ranges `rs` (first, one past the last) reads as before. -/
def MemKeptOff (rs : List (Nat × Nat)) (s t : State) : Prop :=
  ∀ a : Nat, (∀ r ∈ rs, a < r.1 ∨ r.2 ≤ a) → Memory.read t.mem a = Memory.read s.mem a

/-- Every byte of `[lo, hi)` reads 0. -/
def MemZero (lo hi : Nat) (t : State) : Prop := ∀ a : Nat, lo ≤ a → a < hi → Memory.read t.mem a = 0

/-- Of the whole state only the register fields `fs`, the Field Book values `ks` and the bus response may differ: memory,
queues, engines, time and every unit are as before. -/
def OnlyRegs (fs : List Field) (ks : List (Nat × Nat)) (s t : State) : Prop :=
  t = { s with regs := t.regs, fb := t.fb, resp := t.resp } ∧ RegsKept fs s t ∧ FbKept ks s t

/-- The command at RPTR of queue `k`, whose admitted job is `j`, can start with opcode `op` (R95, R99): nothing of the queue
is in the run stage, its tiles are free and left by those that preempted the job, no live range waits to be copied back, and its decode stage finds no fault. -/
abbrev Ready (s : State) (k op : Nat) (active : Bool) (j : Job) : Prop :=
  s.job k = some j ∧ s.cmd k = none ∧ j.held = false ∧ j.copy = 0 ∧ s.bit (qSaved k) = false ∧
    (s.desc k (s.get (qRptr k))).opcode = op ∧ s.tilesFree k (s.desc k (s.get (qRptr k))) = true ∧
    s.preemptedBy k (s.desc k (s.get (qRptr k))) = false ∧ s.decodeCmd k (s.desc k (s.get (qRptr k))) j active = (Code.ok, s)

/-- The command at RPTR has entered the run stage of queue `k`, having written `rows` to the staged bank of `out`, with its stripes. Jobs,
pointers, time and every other unit are as before. -/
abbrev Ran (s t : State) (k : Nat) (out : Rec) (rows : List RowOut) (stripes : KMap Stripe := []) : Prop :=
  t.mem = (s.writeRows out.outView rows).1.mem ∧
    t.cmd k = some { index := s.get (qRptr k), ws := (s.desc k (s.get (qRptr k))).ws, outs := [out.addr],
                     fl := (s.writeRows out.outView rows).2, start := s.datum, undo := s.undoOf k out,
                     stripes := stripes } ∧
    RegsKept (Reg.PLB_STATUS_RUNNING :: (List.range 16).map Reg.TEN_CL_STATUS_RUNNING) s t ∧
    t = { s with mem := t.mem, unpub := t.unpub, regs := t.regs, eng := { s.eng with cmds := t.eng.cmds } }

/-- Every byte of the views `ins` may be read, and the view that `out` writes written, by queue `k`, with nothing logged. -/
abbrev Reaches (s : State) (k : Nat) (ins : List View) (out : Rec) : Prop :=
  s.reachSpans (ins.flatMap (fun v => v.spans (s.qAttr k) false) ++ out.outView.spans (s.qAttr k) true) = (Code.ok, s)

/-- Where the next reply of mailbox `m` is written. -/
def replySlot (s : State) (m : Nat) : Nat :=
  s.get (Reg.MBX_MB_RPL_BASE_BASE m) + 256 * s.get (Reg.MBX_MB_RPL_WPTR_WPTR m)

/-- The request `r` at RPTR of mailbox `m`, of type `type`, passes the general checks of R393 and can be answered: its slot
can be read, the reply slot written, and no notice waits. -/
abbrev Asked (s : State) (m type : Nat) (r : MbRequest) : Prop :=
  s.mbReady m = true ∧ (s.mbox m).notices = [] ∧ r = s.mbRequest m ∧ r.type = type ∧ s.mbCode m r = Code.ok ∧
    s.reach (s.mbAttr m) false (s.get (Reg.MBX_MB_REQ_BASE_BASE m) + 256 * s.get (Reg.MBX_MB_REQ_RPTR_RPTR m)) 256 = (.ok, s) ∧
    s.reach (s.mbAttr m) true (replySlot s m) 256 = (.ok, s)

/-- The request `r` of mailbox `m` has been answered with a status and a payload: the reply stands in its slot, RPTR has
passed the request and the reply ring's WPTR the reply. -/
abbrev Answered (s t : State) (m : Nat) (r : MbRequest) (status : Nat) (payload : List Nat) : Prop :=
  t.rd (replySlot s m) (16 + payload.length) = mbMessage (t.mbVersion m) r.type 1 r.seq status payload ∧
    t.get (Reg.MBX_MB_REQ_RPTR_RPTR m) = (s.get (Reg.MBX_MB_REQ_RPTR_RPTR m) + 1) % s.mbSlots m % 256 ∧
    t.get (Reg.MBX_MB_RPL_WPTR_WPTR m) = (s.get (Reg.MBX_MB_RPL_WPTR_WPTR m) + 1) % s.mbSlots m % 256

/-- A service has returned to core `c` with a0 and a1 as `p` says; what it emitted before stays. -/
abbrev Returned (s t : State) (c : Nat) (p : Nat → Nat → Bool) : Prop :=
  (t.out.drop s.out.length).any (fun o => match o with | .svc k a b _ _ => k == c && p a b | _ => false) = true

/-- Core `c` has no call in flight and the secure cluster takes calls (R304, R311). -/
abbrev MayForward (s : State) (c : Nat) : Prop :=
  KMap.find s.worlds.calls c = none ∧ s.get Reg.CRY_SEC_STATE_STATE < 2

/-- The sequence number of core `c`'s next forwarded call (R306). -/
abbrev nextCall (s : State) (c : Nat) : Nat := (KMap.getD s.worlds.seq c 0 + 1) % 2 ^ 32

/-- The call of core `c` is in flight with the next number, the caller's attribute and the time, and nothing else has changed. -/
abbrev Forwarded (s t : State) (c : Nat) (v : Service) : Prop :=
  KMap.find t.worlds.calls c = some { seq := nextCall s c, service := v, attr := s.mwattr c, start := s.datum } ∧
    KMap.find t.worlds.seq c = some (nextCall s c) ∧
    t = { s with worlds := { s.worlds with seq := t.worlds.seq, calls := t.worlds.calls } }

/-- The call of core `c` has its answer and is the last that the secure world has completed for it. -/
abbrev Served (s t : State) (c : Nat) : Prop :=
  (KMap.find t.worlds.calls c).any (fun k => k.seq == nextCall s c && k.answer.isSome) = true ∧
    KMap.find t.worlds.done c = some (nextCall s c) ∧ t.out = s.out ∧ t.datum = s.datum

/-- Fence group `n` has taken an entry for a failure into its next place, counted and stamped (R348); every other register is as before. -/
abbrev FenceLogged (s t : State) (n bridge attr addr cls : Nat) : Prop :=
  let c := s.get (Reg.BRG_FG_STATUS_COUNT n)
  let i := (s.get (Reg.BRG_FG_STATUS_HEAD n) + c) % 16
  t.get (Reg.BRG_FG_STATUS_COUNT n) = c + 1 ∧ t.get (Reg.BRG_FG_LOG_BRIDGE n i) = bridge ∧
    t.get (Reg.BRG_FG_LOG_ATTR n i) = attr ∧ t.get (Reg.BRG_FG_LOG_ADDR n i) = addr ∧
    t.get (Reg.BRG_FG_LOGCLASS_CLASS n i) = cls ∧ t.get (Reg.BRG_FG_LOGTS_TS32 n i) = t.ts32 ∧
    t.get (Reg.BRG_FG_ERRS_ERRS n) = satAdd 32 (s.get (Reg.BRG_FG_ERRS_ERRS n)) 1 ∧
    t.fbGet 0x60C0 0x12 = satAdd 32 (s.fbGet 0x60C0 0x12) 1 ∧ t.fenceNew n = satAdd 16 (s.fenceNew n) 1 ∧
    RegsKept [Reg.BRG_FG_STATUS_COUNT n, Reg.BRG_FG_LOG_ADDR n i, Reg.BRG_FG_LOG_BRIDGE n i, Reg.BRG_FG_LOG_ATTR n i,
      Reg.BRG_FG_LOGCLASS_CLASS n i, Reg.BRG_FG_LOGTS_TS32 n i, Reg.BRG_FG_ERRS_ERRS n] s t

/-- An inbound request is taken at once: the link is up, none waits, and the pool has an entry (R38, R351). -/
abbrev InboundTaken (s : State) : Prop := s.pcieDown = false ∧ s.brg.inbound = [] ∧ s.poolRoom 205 = true

/-- The bytes of the safety status message that reports the state `t` with a sequence number (R207). -/
def statusBytes (t : State) (seq : Nat) : List Nat :=
  let body := [t.get Reg.SAF_STATE_STATE, t.degrFlags] ++ beBytes 2 (t.get Reg.SAF_STATE_CAUSE) ++ beBytes 2 seq ++
    [0, 0] ++ beBytes 4 t.ts32
  body ++ beBytes 4 (crcOf (t.fbGet 0x3040 5) body)

/-- A safety status message that reports `t` has left on the CAN controller and the flow of FB 0x3040 (R207). -/
abbrev Messaged (s t : State) : Prop :=
  Output.safetyStatus (s.fbGet 0x3040 1) (s.fbGet 0x3040 2) (s.fbGet 0x3040 3) (statusBytes t (s.saf.seq % 65536)) ∈ t.out ∧
    t.saf.seq = (s.saf.seq + 1) % 65536

/-- The safe state has been declared with a cause (R204, R205): STATE and its copy in the Field Book, CAUSE, the count,
the event, the pin and the message. -/
abbrev Declared (s t : State) (cause : Nat) : Prop :=
  t.get Reg.SAF_STATE_STATE = 3 ∧ t.fbGet 0x3050 1 = 3 ∧ t.get Reg.SAF_STATE_CAUSE = cause ∧
    t.fbGet 0x6060 0xB = satAdd 32 (s.fbGet 0x6060 0xB) 1 ∧ t.bit Reg.SAF_EVENTS_SAFE = true ∧
    t.saf.driven = false ∧ t.bit Reg.SAF_STATE_SS_LOW = true ∧ Messaged s t

end Sys2Proof.Safety
end

