-- ==== Sys2Proof/Certificates/Slice0/Obligations.lean ====
section
/-! DEFINITION. The statements for the provers. `Does c s P` says that the command completes in `s` with a next state of
which `P` holds; `Passes s who a write` that a register access passes its checker; `OnlyRegs fs ks` that only the named
register fields and Field Book values, and the bus response, may differ. -/

open Sys2Proof Sys2Proof.Machine Sys2Proof.Safety

/-- A step takes the command at the front of the queue and runs its meaning on the state with the queue's rest
(95_what_each_step_holds.md, 98_reader.md). -/
def Obligations.StepRunsFrontCommand : Prop :=
  ∀ (c : Instr) (rest : List Instr) (s : State), s.pending = c :: rest → step s = exec c { s with pending := rest }

/-- With an empty queue the block idles for one nanosecond of the reference clock (the model's choice, log entry 1)
(R41, R42, R43). -/
def Obligations.IdleStepElapsesOneNanosecond : Prop :=
  ∀ s : State, s.pending = [] → ∃ t : State, step s = .next t ∧
    t = { s with datum := t.datum, datumFrac := t.datumFrac, servo := { s.servo with slewLeft := t.servo.slewLeft } } ∧
    t.servo.slewLeft = s.servo.slewLeft - s.servo.slewRate.natAbs ∧
    (let slew : Int := s.servo.slewRate.sign * (min s.servo.slewLeft s.servo.slewRate.natAbs : Nat)
     let ns : Int := s.datumFrac + 64000000000 + signed 32 (s.get Reg.MER_RATE_ADJ) + slew
     t.datum = ((s.datum : Int) + ns / 64000000000).toNat ∧ t.datumFrac = (ns % 64000000000).toNat)

/-- No command ends in a fault or a refusal: every command on every state answers a next state (R13, R21, R448). -/
def Obligations.EveryCommandAnswersANextState : Prop :=
  (∀ (c : Instr) (s : State), ∃ t : State, exec c s = .next t) ∧ (∀ s : State, ∃ t : State, step s = .next t)

/-- Every step keeps memory in its canonical form (R33, R34, R35, R106). -/
def Obligations.MemoryStaysCanonical : Prop :=
  ∀ s t : State, MemOk s → step s = .next t → MemOk t

/-- A step removes exactly the front command: no command adds, drops or reorders the commands that wait
(95_what_each_step_holds.md, 98_reader.md). -/
def Obligations.QueueRestIsKept : Prop :=
  (∀ (c : Instr) (s t : State), exec c s = .next t → t.pending = s.pending) ∧
  (∀ s t : State, step s = .next t → t.pending = s.pending.tail)

/-- Right after reset: nothing waits, memory is canonical and reads zero, Datum is FREE at 0, Meridian is stopped
(R13, R41, R43, R106). -/
def Obligations.ResetStateOfTheBlock : Prop :=
  State.reset.pending = [] ∧ MemOk State.reset ∧ (∀ a : Nat, Memory.read State.reset.mem a = 0) ∧
  State.reset.datum = 0 ∧ State.reset.datumState = 0 ∧ State.reset.running = false ∧
  State.reset.get Reg.MER_TICK_PERIOD_PERIOD_US = 1000 ∧ State.reset.get Reg.MER_HYPER_TICKS_TICKS = 1000 ∧
  (∀ f : Field, State.reset.get f = fieldReset f.key % 2 ^ f.width) ∧
  (∀ i j : Nat, State.reset.fbGet i j = fbDefault (i * 256 + j))

/-- Register accesses of Datum complete: SOURCE, REBASE, the read of MER_TIME_NS and the pop of a time input (R44,
R52, R53, R59). -/
def Obligations.DatumRegisterAccesses : Prop :=
  (∀ (who : Agent) (s : State), Passes s who Reg.MER_DATUM_CTRL_addr true →
    Does (.datumSourceWrite who 3) s (fun t => t.get Reg.MER_CMD_STATUS_STATUS = Code.eIllegal ∧
    OnlyRegs [Reg.MER_CMD_STATUS_STATUS] [] s t)) ∧
  (∀ (who : Agent) (v : BitVec 2) (s : State), Passes s who Reg.MER_DATUM_CTRL_addr true → v.toNat ≠ 3 →
    v.toNat ≠ s.get Reg.MER_DATUM_CTRL_SOURCE →
    Does (.datumSourceWrite who v) s (fun t => t.get Reg.MER_CMD_STATUS_STATUS = Code.ok ∧
    t.get Reg.MER_DATUM_CTRL_SOURCE = v.toNat ∧ t.servo.samples = [] ∧ t.servo.lastSync = none ∧ t.datum = s.datum ∧
    t.mem = s.mem ∧ (s.datumState = 1 → t.datumState = 2 ∧ t.servo.holdoverAt = s.datum) ∧ (s.datumState ≠ 1 →
    t.datumState = s.datumState))) ∧
  (∀ (who : Agent) (v : BitVec 2) (s : State), Passes s who Reg.MER_DATUM_CTRL_addr true → v.toNat ≠ 3 →
    v.toNat = s.get Reg.MER_DATUM_CTRL_SOURCE →
    Does (.datumSourceWrite who v) s (fun t => t.get Reg.MER_CMD_STATUS_STATUS = Code.ok ∧
    OnlyRegs [Reg.MER_CMD_STATUS_STATUS] [] s t)) ∧
  (∀ (who : Agent) (s : State), Passes s who Reg.MER_DATUM_CTRL_addr true → s.sourceAvailable = false →
    Does (.rebase who) s (fun t => t.get Reg.MER_CMD_STATUS_STATUS = Code.eState ∧
    OnlyRegs [Reg.MER_CMD_STATUS_STATUS] [] s t)) ∧
  (∀ (who : Agent) (s : State), Passes s who Reg.MER_DATUM_CTRL_addr true → s.sourceAvailable = true →
    s.running = true → Does (.rebase who) s (fun t => t.get Reg.MER_CMD_STATUS_STATUS = Code.ok ∧
    t.bit Reg.MER_DATUM_CTRL_REBASE = true ∧ OnlyRegs [Reg.MER_CMD_STATUS_STATUS, Reg.MER_DATUM_CTRL_REBASE] [] s t)) ∧
  (∀ (who : Agent) (s : State), Passes s who Reg.MER_DATUM_CTRL_addr true → s.sourceAvailable = true →
    s.running = false → Does (.rebase who) s (fun t => t.get Reg.MER_CMD_STATUS_STATUS = Code.ok ∧
    t.datum = ((s.datum : Int) - s.servo.offset).toNat ∧ t.datumState = 1 ∧ t.stepSeq = s.stepSeq + 1 ∧
    t.fbGet 0x6020 2 = satAdd 32 (s.fbGet 0x6020 2) 1)) ∧
  (∀ (who : Agent) (s : State), Passes s who Reg.MER_TIME_NS_addr false →
    Does (.timeNsRead who) s (fun t => t.resp.data = s.datum % 1000000000 ∧ t.resp.err = false ∧
    KMap.find t.latch (hartOf who * 2 ^ 48 + Reg.MER_SECONDS_addr) = some (s.datum / 1000000000) ∧
    t = { s with latch := t.latch, resp := t.resp })) ∧
  (∀ (who : Agent) (n : Fin 8) (s : State), Passes s who (Reg.MER_TI_NS_addr n.val) false → ∀ c rest,
    (s.tin n.val).fifo = c :: rest → Does (.timeInPop who n) s (fun t => t.resp.data = 2 ^ 31 + c % 1000000000 ∧
    (t.tin n.val).fifo = rest ∧
    KMap.find t.latch (hartOf who * 2 ^ 48 + Reg.MER_TI_SEC_addr n.val) = some (c / 1000000000) ∧
    RegsKept [Reg.MER_TI_CTRL_COUNT n.val] s t ∧
    t = { s with latch := t.latch, resp := t.resp, regs := t.regs, timeIn := t.timeIn })) ∧
  (∀ (who : Agent) (n : Fin 8) (s : State), Passes s who (Reg.MER_TI_NS_addr n.val) false → (s.tin n.val).fifo = [] →
    Does (.timeInPop who n) s (fun t => t.resp.data = 0 ∧ t = { s with resp := t.resp }))

/-- gPTP and PTM messages complete with their effect on the servo; messages of another domain are only counted (R47,
R48, R49, R50, R51, R55, R56). -/
def Obligations.TimeSynchronisationMessages : Prop :=
  (∀ (mac : Fin 6) (ident : BitVec 64) (org : BitVec 80) (age : BitVec 32) (lg : Fin 6) (s : State),
    s.gptpMac mac.val = true → s.gatewayUp = true → s.get Reg.MER_DATUM_CTRL_SOURCE = 1 → s.fbGet 0x2010 0xA ≠ 2 →
    s.datumState = 1 → ∀ m, s.servo.master = some m → m.identity = ident.toNat → m.mac = mac.val → ∀ d,
    KMap.find s.servo.peerDelay mac.val = some d →
    Does (.syncReceived mac 0 ident org age lg) s (fun t => t.servo.offset = (s.datum : Int) - age.toNat + s.ingress mac.val - (org.toNat + d) ∧
    t.servo.lastSync = some s.datum ∧ t.servo.interval = 31250000 * 2 ^ lg.val ∧ t.datum = s.datum ∧ t.mem = s.mem ∧
    (s.inside ((s.datum : Int) - age.toNat + s.ingress mac.val - (org.toNat + d)) = true → t.datumState = 1) ∧
    (s.inside ((s.datum : Int) - age.toNat + s.ingress mac.val - (org.toNat + d)) = false → t.datumState = 2))) ∧
  (∀ (mac : Fin 6) (ident : BitVec 64) (org : BitVec 80) (age : BitVec 32) (lg : Fin 6) (s : State),
    s.gptpMac mac.val = true → s.gatewayUp = true → s.get Reg.MER_DATUM_CTRL_SOURCE = 1 → s.fbGet 0x2010 0xA ≠ 2 →
    s.datumState = 2 → s.servo.acqPending = false → ∀ m, s.servo.master = some m → m.identity = ident.toNat →
    m.mac = mac.val → ∀ d, KMap.find s.servo.peerDelay mac.val = some d →
    let o := (s.datum : Int) - age.toNat + s.ingress mac.val - (org.toNat + d); s.servo.samples.length = 3 →
    Does (.syncReceived mac 0 ident org age lg) s (fun t => t.servo.samples = [] ∧
    (s.inside (median4 (s.servo.samples ++ [o])) = true → t.datumState = 1 ∧
    t.bit Reg.MER_EVENTS_LOCK_ACQUIRED = true) ∧ (s.inside (median4 (s.servo.samples ++ [o])) = false →
    t.datumState = 2 ∧ t.bit Reg.MER_EVENTS_JUMP_REFUSED = true ∧
    t.fbGet 0x6020 1 = satAdd 32 (s.fbGet 0x6020 1) 1) ∧ t.datum = s.datum ∧ t.mem = s.mem)) ∧
  (∀ (mac : Fin 6) (p1 : BitVec 8) (q : BitVec 32) (p2 : BitVec 8) (ident : BitVec 64) (steps : BitVec 16) (s : State),
    s.gptpMac mac.val = true → s.gatewayUp = true → s.servo.master = none →
    s.fbGet 0x2010 0xA = 1 ∨ (s.fbGet 0x2010 0xA = 0 ∧
    announceVector p1.toNat q.toNat p2.toNat ident.toNat steps.toNat < ownVector) →
    Does (.announceReceived mac 0 p1 q p2 ident steps) s (fun t => t = { s with servo := { s.servo with master := some { vector := announceVector p1.toNat q.toNat p2.toNat ident.toNat steps.toNat, identity := ident.toNat, mac := mac.val } } })) ∧
  (∀ (mac : Fin 6) (p1 : BitVec 8) (q : BitVec 32) (p2 : BitVec 8) (ident : BitVec 64) (steps : BitVec 16) (s : State),
    s.gptpMac mac.val = true → s.gatewayUp = true → ∀ m, s.servo.master = some m → m.identity ≠ ident.toNat →
    let v := announceVector p1.toNat q.toNat p2.toNat ident.toNat steps.toNat; s.fbGet 0x2010 0xA = 1 ∨ (s.fbGet 0x2010 0xA = 0 ∧
    v < ownVector ∧ (m.aged = true ∨ v < m.vector)) →
    Does (.announceReceived mac 0 p1 q p2 ident steps) s (fun t => t.servo.master = some { vector := announceVector p1.toNat q.toNat p2.toNat ident.toNat steps.toNat, identity := ident.toNat, mac := mac.val } ∧
    t.fbGet 0x6020 7 = satAdd 32 (s.fbGet 0x6020 7) 1 ∧ (s.get Reg.MER_DATUM_CTRL_SOURCE = 1 →
    t.servo.lastSync = none ∧ t.servo.samples = []) ∧ (s.get Reg.MER_DATUM_CTRL_SOURCE = 1 ∧ s.datumState = 1 →
    t.datumState = 2) ∧ (s.get Reg.MER_DATUM_CTRL_SOURCE ≠ 1 → t = { s with servo := t.servo, fb := t.fb }) ∧
    t.datum = s.datum)) ∧
  (∀ (mac : Fin 6) (p1 : BitVec 8) (q : BitVec 32) (p2 : BitVec 8) (ident : BitVec 64) (steps : BitVec 16) (s : State),
    s.fbGet 0x2010 0xA = 0 → ∀ m, s.servo.master = some m → m.identity ≠ ident.toNat → m.aged = false →
    m.vector ≤ announceVector p1.toNat q.toNat p2.toNat ident.toNat steps.toNat →
    Does (.announceReceived mac 0 p1 q p2 ident steps) s (fun t => t = s)) ∧
  (∀ (mac : Fin 6) (t1 t2 t3 t4 : BitVec 80) (s : State), s.gptpMac mac.val = true → s.gatewayUp = true →
    Does (.peerDelayExchange mac 0 t1 t2 t3 t4) s (fun t => KMap.find t.servo.peerDelay mac.val = some ((((t4.toNat : Int) + s.ingress mac.val - (t1.toNat + s.egress mac.val)) - ((t3.toNat : Int) - t2.toNat)).tdiv 2) ∧
    t = { s with servo := { s.servo with peerDelay := t.servo.peerDelay } })) ∧
  (∀ (mac : Fin 6) (s : State), s.gptpMac mac.val = true → s.gatewayUp = true → s.grandmaster = true →
    Does (.syncTransmit mac) s (fun t => t = { s with out := s.out ++ [.gptpSync mac.val (bitOf (s.fbGet 0x2010 8) mac.val) ((s.datum : Int) + s.egress mac.val).toNat] })) ∧
  (∀ (mac : Fin 6) (dom : BitVec 8) (ident : BitVec 64) (org : BitVec 80) (age : BitVec 32) (lg : Fin 6) (s : State),
    dom.toNat ≠ 0 →
    Does (.syncReceived mac dom ident org age lg) s (fun t => t.fbGet 0x6020 8 = satAdd 32 (s.fbGet 0x6020 8) 1 ∧
    OnlyRegs [] [(0x6020, 8)] s t)) ∧
  (∀ (mac : Fin 6) (dom p1 : BitVec 8) (q : BitVec 32) (p2 : BitVec 8) (ident : BitVec 64) (steps : BitVec 16) (s : State),
    dom.toNat ≠ 0 →
    Does (.announceReceived mac dom p1 q p2 ident steps) s (fun t => t.fbGet 0x6020 8 = satAdd 32 (s.fbGet 0x6020 8) 1 ∧
    OnlyRegs [] [(0x6020, 8)] s t)) ∧
  (∀ (mac : Fin 6) (dom : BitVec 8) (t1 t2 t3 t4 : BitVec 80) (s : State), dom.toNat ≠ 0 →
    Does (.peerDelayExchange mac dom t1 t2 t3 t4) s (fun t => t.fbGet 0x6020 8 = satAdd 32 (s.fbGet 0x6020 8) 1 ∧
    OnlyRegs [] [(0x6020, 8)] s t)) ∧
  (∀ (t1 t2 t3 t4 : BitVec 80) (s : State), s.get Reg.MER_DATUM_CTRL_SOURCE = 2 → s.datumState = 1 →
    s.ownTime = false →
    Does (.ptmExchange t1 t2 t3 t4) s (fun t => t.servo.offset = (((t1.toNat : Int) + t4.toNat) - ((t2.toNat : Int) + t3.toNat)).tdiv 2 ∧
    t.servo.lastSync = some s.datum ∧ t.datum = s.datum ∧
    (((((t1.toNat : Int) + t4.toNat) - ((t2.toNat : Int) + t3.toNat)).tdiv 2).natAbs ≤ min 50 (s.fbGet 0x2010 4) →
    t.bit Reg.MER_STATUS_ALIGNED = true ∧ t.datumState = 1))) ∧
  (∀ (t1 t2 t3 t4 : BitVec 80) (s : State), s.get Reg.MER_DATUM_CTRL_SOURCE ≠ 2 →
    Does (.ptmExchange t1 t2 t3 t4) s (fun t => t = s))

/-- Loss of the source, holdover expiry, the acquisition wait, time outputs and time inputs complete as the rules say
(R43, R52, R54, R55, R58, R59). -/
def Obligations.DatumTimedEvents : Prop :=
  (∀ (s : State), s.get Reg.MER_DATUM_CTRL_SOURCE = 1 → ∀ l, s.servo.lastSync = some l →
    Does .syncLoss s (fun t => t.datum = max s.datum (l + s.lossLimit) ∧ t.servo.lastSync = none ∧
    t.servo.samples = [] ∧ t.servo.master = s.servo.master.map (fun m => { m with aged := true }) ∧
    (s.datumState = 1 → t.datumState = 2 ∧ t.servo.holdoverAt = t.datum) ∧ (s.datumState ≠ 1 →
    t.datumState = s.datumState) ∧ t.mem = s.mem)) ∧
  (∀ (s : State), s.get Reg.MER_DATUM_CTRL_SOURCE = 2 → ∀ l, s.servo.lastSync = some l →
    Does .ptmLoss s (fun t => t.datum = max s.datum (l + s.lossLimit) ∧ t.servo.lastSync = none ∧
    t.servo.samples = [] ∧ t.servo.master = s.servo.master.map (fun m => { m with aged := true }) ∧
    (s.datumState = 1 → t.datumState = 2 ∧ t.servo.holdoverAt = t.datum) ∧ (s.datumState ≠ 1 →
    t.datumState = s.datumState))) ∧
  (∀ (s : State), s.datumState = 2 → Does .holdoverExpiry s (fun t => t.datumState = 3 ∧
    t.bit Reg.MER_EVENTS_HOLDOVER_EXPIRED = true ∧
    t.datum = max s.datum (s.servo.holdoverAt + s.fbGet 0x2010 6 * 1000000000) ∧
    RegsKept [Reg.MER_STATUS_DATUM_STATE, Reg.MER_EVENTS_HOLDOVER_EXPIRED] s t ∧
    t = { s.advanceTo (s.servo.holdoverAt + s.fbGet 0x2010 6 * 1000000000) with regs := t.regs })) ∧
  (∀ (s : State), ∀ l, s.servo.startWait = some l →
    Does .acquisitionWaitExpiry s (fun t => t.servo.startWait = none ∧ t.datum = max s.datum l ∧
    t = { s.advanceTo l with servo := { (s.advanceTo l).servo with startWait := none } })) ∧
  (∀ (n : Fin 8) (s : State), ∀ l, s.nextPulse n.val = some l →
    Does (.timeOutPulse n) s (fun t => t.out = s.out ++ [.pulse n.val l (s.get (Reg.MER_TO_WIDTH_NS_WIDTH_NS n.val)) (s.bit (Reg.MER_TOUT_CTRL_POL n.val))] ∧
    t.datum = max s.datum l ∧ KMap.find t.mer.lastPulse n.val = some l ∧
    t = { s.advanceTo l with out := t.out, mer := { s.mer with lastPulse := t.mer.lastPulse } })) ∧
  (∀ (n : Fin 8) (rising : Bool) (s : State), s.bit (Reg.MER_TI_CTRL_EN n.val) = true →
    bitOf (s.get (Reg.MER_TI_CTRL_EDGE n.val)) (if rising then 0 else 1) = true →
    ((s.tin n.val).last.all (fun l => l + 100 ≤ s.datum)) = true → (s.tin n.val).fifo.length < 16 →
    Does (.timeInEdge n rising) s (fun t => (t.tin n.val) = ⟨(s.tin n.val).fifo ++ [s.datum], some s.datum⟩ ∧
    t.get (Reg.MER_TI_CTRL_COUNT n.val) = (s.tin n.val).fifo.length + 1 ∧
    RegsKept [Reg.MER_TI_CTRL_COUNT n.val] s t ∧ t = { s with regs := t.regs, timeIn := t.timeIn })) ∧
  (∀ (n : Fin 8) (rising : Bool) (s : State), s.bit (Reg.MER_TI_CTRL_EN n.val) = true →
    bitOf (s.get (Reg.MER_TI_CTRL_EDGE n.val)) (if rising then 0 else 1) = true →
    ((s.tin n.val).last.all (fun l => l + 100 ≤ s.datum)) = true → 16 ≤ (s.tin n.val).fifo.length →
    Does (.timeInEdge n rising) s (fun t => t.bit (Reg.MER_TI_CTRL_OVERFLOW n.val) = true ∧
    OnlyRegs [Reg.MER_TI_CTRL_OVERFLOW n.val] [] s t)) ∧
  (∀ (n : Fin 8) (rising : Bool) (s : State), s.bit (Reg.MER_TI_CTRL_EN n.val) = true →
    bitOf (s.get (Reg.MER_TI_CTRL_EDGE n.val)) (if rising then 0 else 1) = true → ∀ l, (s.tin n.val).last = some l →
    s.datum < l + 100 → Does (.timeInEdge n rising) s (fun t => t.bit (Reg.MER_TI_CTRL_MISSED n.val) = true ∧
    OnlyRegs [Reg.MER_TI_CTRL_MISSED n.val] [] s t)) ∧
  (∀ (n : Fin 8) (rising : Bool) (s : State), s.bit (Reg.MER_TI_CTRL_EN n.val) = false →
    Does (.timeInEdge n rising) s (fun t => t = s))

/-- START, STOP, SWAP and TABLE_LOCK requests complete with the bits and the status the rules give them (R64, R65,
R66). -/
def Obligations.MeridianControl : Prop :=
  (∀ (who : Agent) (s : State), Passes s who Reg.MER_CTRL_addr true → s.running = true →
    Does (.merStart who) s (fun t => t.get Reg.MER_CMD_STATUS_STATUS = Code.ok ∧ t.bit Reg.MER_CTRL_STOP = false ∧
    OnlyRegs [Reg.MER_CMD_STATUS_STATUS, Reg.MER_CTRL_STOP] [] s t)) ∧
  (∀ (who : Agent) (s : State), Passes s who Reg.MER_CTRL_addr true → s.running = false →
    s.bit Reg.MER_CTRL_START = false →
    s.fbGet 0x2010 3 = 0 ∨ s.get Reg.MER_DATUM_CTRL_SOURCE = 0 ∨ s.servo.firstDone = true ∨ s.fbGet 0x2010 0xA = 2 →
    Does (.merStart who) s (fun t => t.get Reg.MER_CMD_STATUS_STATUS = Code.ok ∧ t.bit Reg.MER_CTRL_START = true ∧
    OnlyRegs [Reg.MER_CMD_STATUS_STATUS, Reg.MER_CTRL_START] [] s t)) ∧
  (∀ (who : Agent) (s : State), Passes s who Reg.MER_CTRL_addr true → s.running = false →
    s.bit Reg.MER_CTRL_START = false → s.get Reg.MER_DATUM_CTRL_SOURCE ≠ 0 → s.servo.firstDone = false →
    s.fbGet 0x2010 0xA ≠ 2 → s.fbGet 0x2010 3 ≠ 0 →
    Does (.merStart who) s (fun t => t.get Reg.MER_CMD_STATUS_STATUS = Code.ok ∧ t.bit Reg.MER_CTRL_START = true ∧
    t.servo.startWait = some (s.datum + s.fbGet 0x2010 3 * 1000000) ∧ RegsKept [Reg.MER_CMD_STATUS_STATUS,
    Reg.MER_CTRL_START] s t ∧
    t = { s with regs := t.regs, resp := t.resp, servo := { s.servo with startWait := t.servo.startWait } })) ∧
  (∀ (who : Agent) (s : State), Passes s who Reg.MER_CTRL_addr true → s.running = true →
    Does (.merStop who) s (fun t => t.get Reg.MER_CMD_STATUS_STATUS = Code.ok ∧ t.bit Reg.MER_CTRL_STOP = true ∧
    OnlyRegs [Reg.MER_CMD_STATUS_STATUS, Reg.MER_CTRL_STOP] [] s t)) ∧
  (∀ (who : Agent) (s : State), Passes s who Reg.MER_CTRL_addr true → s.running = false →
    Does (.merStop who) s (fun t => t.get Reg.MER_CMD_STATUS_STATUS = Code.ok ∧ t.bit Reg.MER_CTRL_START = false ∧
    t.servo.startWait = none ∧ RegsKept [Reg.MER_CMD_STATUS_STATUS, Reg.MER_CTRL_START] s t ∧
    t = { s with regs := t.regs, resp := t.resp, servo := { s.servo with startWait := none } })) ∧
  (∀ (who : Agent) (s : State), Passes s who Reg.MER_CTRL_addr true → s.bit Reg.MER_CTRL_TABLE_LOCK = true →
    Does (.merSwap who) s (fun t => t.get Reg.MER_CMD_STATUS_STATUS = Code.eState ∧
    OnlyRegs [Reg.MER_CMD_STATUS_STATUS] [] s t)) ∧
  (∀ (who : Agent) (s : State), Passes s who Reg.MER_CTRL_addr true → s.bit Reg.MER_CTRL_TABLE_LOCK = false →
    s.bit Reg.MER_STATUS_SWAP_PENDING = true →
    Does (.merSwap who) s (fun t => t.get Reg.MER_CMD_STATUS_STATUS = Code.eBusy ∧
    OnlyRegs [Reg.MER_CMD_STATUS_STATUS] [] s t)) ∧
  (∀ (who : Agent) (s : State), Passes s who Reg.MER_CTRL_addr true → s.bit Reg.MER_CTRL_TABLE_LOCK = false →
    s.bit Reg.MER_STATUS_SWAP_PENDING = false → ∀ e c, s.validate = some (e, c) →
    Does (.merSwap who) s (fun t => t.get Reg.MER_CMD_STATUS_STATUS = c ∧ t.get Reg.MER_TABLE_ERR_STATUS = c ∧
    t.get Reg.MER_TABLE_ERR_ENTRY = e ∧ OnlyRegs [Reg.MER_CMD_STATUS_STATUS, Reg.MER_TABLE_ERR_STATUS,
    Reg.MER_TABLE_ERR_ENTRY] [] s t)) ∧
  (∀ (who : Agent) (s : State), Passes s who Reg.MER_CTRL_addr true → s.bit Reg.MER_CTRL_TABLE_LOCK = false →
    s.bit Reg.MER_STATUS_SWAP_PENDING = false → s.running = true → s.validate = none →
    Does (.merSwap who) s (fun t => t.get Reg.MER_CMD_STATUS_STATUS = Code.ok ∧
    t.bit Reg.MER_STATUS_SWAP_PENDING = true ∧ t.bit Reg.MER_CTRL_SWAP = true ∧ OnlyRegs [Reg.MER_CMD_STATUS_STATUS,
    Reg.MER_TABLE_ERR_STATUS, Reg.MER_TABLE_ERR_ENTRY, Reg.MER_STATUS_SWAP_PENDING, Reg.MER_CTRL_SWAP] [] s t)) ∧
  (∀ (who : Agent) (s : State), Passes s who Reg.MER_CTRL_addr true → s.bit Reg.MER_CTRL_TABLE_LOCK = false →
    s.bit Reg.MER_STATUS_SWAP_PENDING = false → s.running = false → s.validate = none →
    Does (.merSwap who) s (fun t => t.get Reg.MER_CMD_STATUS_STATUS = Code.ok ∧ t.mer.active = s.mer.shadow ∧
    t.mer.shadow = s.mer.shadow ∧ (∀ p : Fin 32, t.activeFrame p.val = s.shadowFrame p.val) ∧
    t.get Reg.MER_STATUS_BANK = 1 - s.get Reg.MER_STATUS_BANK ∧ t.bit Reg.MER_EVENTS_TABLE_SWAPPED = true ∧
    t.bit Reg.MER_CTRL_TABLE_LOCK = (!s.mer.swapped && s.mer.lockAtBoot) ∧
    t.bit Reg.MER_STATUS_SWAP_PENDING = false ∧ RegsKept [Reg.MER_CMD_STATUS_STATUS, Reg.MER_TABLE_ERR_STATUS,
    Reg.MER_TABLE_ERR_ENTRY, Reg.MER_STATUS_BANK, Reg.MER_STATUS_SWAP_PENDING, Reg.MER_CTRL_SWAP,
    Reg.MER_EVENTS_TABLE_SWAPPED, Reg.MER_CTRL_TABLE_LOCK, Reg.MER_STATUS_LOCKED_TABLE] s t ∧
    t = { s with regs := t.regs, resp := t.resp, mer := { s.mer with active := s.mer.shadow, frames := t.mer.frames, swapped := true } })) ∧
  (∀ (who : Agent) (s : State), Passes s who Reg.MER_CTRL_addr true →
    Does (.merTableLock who) s (fun t => t.get Reg.MER_CMD_STATUS_STATUS = Code.ok ∧
    t.bit Reg.MER_CTRL_TABLE_LOCK = true ∧ t.bit Reg.MER_STATUS_LOCKED_TABLE = true ∧
    OnlyRegs [Reg.MER_CMD_STATUS_STATUS, Reg.MER_CTRL_TABLE_LOCK, Reg.MER_STATUS_LOCKED_TABLE] [] s t))

/-- Writes of the Meridian parameters and of the shadow bank complete: the value taken, or the status of the check
that fails (R9, R62, R65, R66). -/
def Obligations.MeridianParameters : Prop :=
  (∀ (who : Agent) (v : BitVec 14) (s : State), Passes s who Reg.MER_TICK_PERIOD_addr true → s.running = false →
    250 ≤ v.toNat → v.toNat ≤ 10000 → v.toNat * s.get Reg.MER_HYPER_TICKS_TICKS ≤ 1000000 →
    s.get Reg.MER_PHASE_NS_PHASE < v.toNat * s.get Reg.MER_HYPER_TICKS_TICKS * 1000 →
    Does (.tickPeriodWrite who v) s (fun t => t.get Reg.MER_TICK_PERIOD_PERIOD_US = v.toNat ∧
    t.get Reg.MER_CMD_STATUS_STATUS = Code.ok ∧ OnlyRegs [Reg.MER_CMD_STATUS_STATUS,
    Reg.MER_TICK_PERIOD_PERIOD_US] [] s t)) ∧
  (∀ (who : Agent) (v : BitVec 14) (s : State), Passes s who Reg.MER_TICK_PERIOD_addr true → s.running = true →
    250 ≤ v.toNat → v.toNat ≤ 10000 → v.toNat * s.get Reg.MER_HYPER_TICKS_TICKS ≤ 1000000 →
    s.get Reg.MER_PHASE_NS_PHASE < v.toNat * s.get Reg.MER_HYPER_TICKS_TICKS * 1000 →
    Does (.tickPeriodWrite who v) s (fun t => t.get Reg.MER_CMD_STATUS_STATUS = Code.eState ∧
    OnlyRegs [Reg.MER_CMD_STATUS_STATUS] [] s t)) ∧
  (∀ (who : Agent) (v : BitVec 14) (s : State), Passes s who Reg.MER_TICK_PERIOD_addr true →
    v.toNat < 250 ∨ 10000 < v.toNat →
    Does (.tickPeriodWrite who v) s (fun t => t.get Reg.MER_CMD_STATUS_STATUS = Code.eIllegal ∧
    OnlyRegs [Reg.MER_CMD_STATUS_STATUS] [] s t)) ∧
  (∀ (who : Agent) (v : BitVec 14) (s : State), Passes s who Reg.MER_TICK_PERIOD_addr true → 250 ≤ v.toNat →
    v.toNat ≤ 10000 →
    1000000 < v.toNat * s.get Reg.MER_HYPER_TICKS_TICKS ∨ v.toNat * s.get Reg.MER_HYPER_TICKS_TICKS * 1000 ≤ s.get Reg.MER_PHASE_NS_PHASE →
    Does (.tickPeriodWrite who v) s (fun t => t.get Reg.MER_CMD_STATUS_STATUS = Code.eBounds ∧
    OnlyRegs [Reg.MER_CMD_STATUS_STATUS] [] s t)) ∧
  (∀ (who : Agent) (v : BitVec 12) (s : State), Passes s who Reg.MER_HYPER_TICKS_addr true → s.running = false →
    0 < v.toNat → v.toNat ≤ 4000 → v.toNat * s.get Reg.MER_TICK_PERIOD_PERIOD_US ≤ 1000000 →
    s.get Reg.MER_PHASE_NS_PHASE < v.toNat * s.get Reg.MER_TICK_PERIOD_PERIOD_US * 1000 →
    Does (.hyperTicksWrite who v) s (fun t => t.get Reg.MER_HYPER_TICKS_TICKS = v.toNat ∧
    t.get Reg.MER_CMD_STATUS_STATUS = Code.ok ∧ OnlyRegs [Reg.MER_CMD_STATUS_STATUS,
    Reg.MER_HYPER_TICKS_TICKS] [] s t)) ∧
  (∀ (who : Agent) (v : BitVec 12) (s : State), Passes s who Reg.MER_HYPER_TICKS_addr true → 0 < v.toNat →
    v.toNat ≤ 4000 → v.toNat * s.get Reg.MER_TICK_PERIOD_PERIOD_US ≤ 1000000 →
    s.get Reg.MER_PHASE_NS_PHASE < v.toNat * s.get Reg.MER_TICK_PERIOD_PERIOD_US * 1000 → s.running = true →
    Does (.hyperTicksWrite who v) s (fun t => t.get Reg.MER_CMD_STATUS_STATUS = Code.eState ∧
    OnlyRegs [Reg.MER_CMD_STATUS_STATUS] [] s t)) ∧
  (∀ (who : Agent) (v : BitVec 12) (s : State), Passes s who Reg.MER_HYPER_TICKS_addr true → 0 < v.toNat →
    v.toNat ≤ 4000 →
    1000000 < v.toNat * s.get Reg.MER_TICK_PERIOD_PERIOD_US ∨ v.toNat * s.get Reg.MER_TICK_PERIOD_PERIOD_US * 1000 ≤ s.get Reg.MER_PHASE_NS_PHASE →
    Does (.hyperTicksWrite who v) s (fun t => t.get Reg.MER_CMD_STATUS_STATUS = Code.eBounds ∧
    OnlyRegs [Reg.MER_CMD_STATUS_STATUS] [] s t)) ∧
  (∀ (who : Agent) (v : BitVec 12) (s : State), Passes s who Reg.MER_HYPER_TICKS_addr true →
    v.toNat = 0 ∨ v.toNat = 0xFFF →
    Does (.hyperTicksWrite who v) s (fun t => t.get Reg.MER_CMD_STATUS_STATUS = Code.eLength ∧
    OnlyRegs [Reg.MER_CMD_STATUS_STATUS] [] s t)) ∧
  (∀ (who : Agent) (v : BitVec 12) (s : State), Passes s who Reg.MER_HYPER_TICKS_addr true → 4000 < v.toNat →
    v.toNat < 0xFFF → Does (.hyperTicksWrite who v) s (fun t => t.get Reg.MER_CMD_STATUS_STATUS = Code.eIllegal ∧
    OnlyRegs [Reg.MER_CMD_STATUS_STATUS] [] s t)) ∧
  (∀ (who : Agent) (v : BitVec 30) (s : State), Passes s who Reg.MER_PHASE_NS_addr true → s.running = false →
    s.get Reg.MER_HYPER_TICKS_TICKS * s.get Reg.MER_TICK_PERIOD_PERIOD_US ≤ 1000000 →
    v.toNat < s.get Reg.MER_TICK_PERIOD_PERIOD_US * s.get Reg.MER_HYPER_TICKS_TICKS * 1000 →
    Does (.phaseWrite who v) s (fun t => t.get Reg.MER_PHASE_NS_PHASE = v.toNat ∧
    t.get Reg.MER_CMD_STATUS_STATUS = Code.ok ∧ OnlyRegs [Reg.MER_CMD_STATUS_STATUS, Reg.MER_PHASE_NS_PHASE] [] s t)) ∧
  (∀ (who : Agent) (v : BitVec 30) (s : State), Passes s who Reg.MER_PHASE_NS_addr true → s.running = true →
    s.get Reg.MER_HYPER_TICKS_TICKS * s.get Reg.MER_TICK_PERIOD_PERIOD_US ≤ 1000000 →
    v.toNat < s.get Reg.MER_TICK_PERIOD_PERIOD_US * s.get Reg.MER_HYPER_TICKS_TICKS * 1000 →
    Does (.phaseWrite who v) s (fun t => t.get Reg.MER_CMD_STATUS_STATUS = Code.eState ∧
    OnlyRegs [Reg.MER_CMD_STATUS_STATUS] [] s t)) ∧
  (∀ (who : Agent) (v : BitVec 30) (s : State), Passes s who Reg.MER_PHASE_NS_addr true →
    s.get Reg.MER_TICK_PERIOD_PERIOD_US * s.get Reg.MER_HYPER_TICKS_TICKS * 1000 ≤ v.toNat →
    Does (.phaseWrite who v) s (fun t => t.get Reg.MER_CMD_STATUS_STATUS = Code.eBounds ∧
    OnlyRegs [Reg.MER_CMD_STATUS_STATUS] [] s t)) ∧
  (∀ (who : Agent) (e : Fin 256) (w : Fin 4) (v : BitVec 32) (s : State),
    Passes s who (0x10101000 + 16 * e.val + 4 * w.val) true → s.bit Reg.MER_STATUS_SWAP_PENDING = false →
    Does (.shadowEntryWrite who e w v) s (fun t => KMap.getD t.mer.shadow (4 * e.val + w.val) 0 = (if w.val = 3 then v.toNat else v.toNat % 2 ^ 20) ∧
    (∀ e' : Fin 256, e' ≠ e → bankEntry t.mer.shadow e'.val = bankEntry s.mer.shadow e'.val) ∧
    t.mer.active = s.mer.active ∧ t.get Reg.MER_CMD_STATUS_STATUS = Code.ok ∧
    RegsKept [Reg.MER_CMD_STATUS_STATUS] s t ∧
    t = { s with regs := t.regs, resp := t.resp, mer := { s.mer with shadow := t.mer.shadow } })) ∧
  (∀ (who : Agent) (e : Fin 256) (w : Fin 4) (v : BitVec 32) (s : State),
    Passes s who (0x10101000 + 16 * e.val + 4 * w.val) true → s.bit Reg.MER_STATUS_SWAP_PENDING = true →
    Does (.shadowEntryWrite who e w v) s (fun t => t.get Reg.MER_CMD_STATUS_STATUS = Code.eBusy ∧
    OnlyRegs [Reg.MER_CMD_STATUS_STATUS] [] s t)) ∧
  (∀ (who : Agent) (p : Fin 32) (v : BitVec 12) (s : State), Passes s who (Reg.MER_PIPE_FRAME_addr p.val) true →
    s.bit Reg.MER_STATUS_SWAP_PENDING = false → v.toNat ≤ 4000 →
    Does (.pipeFrameWrite who p v) s (fun t => t.shadowFrame p.val = v.toNat ∧
    t.get Reg.MER_CMD_STATUS_STATUS = Code.ok ∧ OnlyRegs [Reg.MER_CMD_STATUS_STATUS,
    Reg.MER_PIPE_FRAME_FRAME_TICKS p.val] [] s t)) ∧
  (∀ (who : Agent) (p : Fin 32) (v : BitVec 12) (s : State), Passes s who (Reg.MER_PIPE_FRAME_addr p.val) true →
    s.bit Reg.MER_STATUS_SWAP_PENDING = true → v.toNat ≤ 4000 →
    Does (.pipeFrameWrite who p v) s (fun t => t.get Reg.MER_CMD_STATUS_STATUS = Code.eBusy ∧
    OnlyRegs [Reg.MER_CMD_STATUS_STATUS] [] s t)) ∧
  (∀ (who : Agent) (p : Fin 32) (v : BitVec 12) (s : State), Passes s who (Reg.MER_PIPE_FRAME_addr p.val) true →
    4000 < v.toNat →
    Does (.pipeFrameWrite who p v) s (fun t => t.get Reg.MER_CMD_STATUS_STATUS = (if v.toNat = 0xFFF then Code.eLength else Code.eIllegal) ∧
    OnlyRegs [Reg.MER_CMD_STATUS_STATUS] [] s t))

/-- Base ticks, boundaries, the opening and the close of windows complete as the schedule says (R60, R61, R66, R67,
R68, R107). -/
def Obligations.TicksAndWindows : Prop :=
  (∀ (s : State), s.running = true → s.mer.gap = false → s.mer.windows = [] → s.mer.frames = [] →
    s.isBoundary s.tickDue = false →
    Does .baseTick s (fun t => t.get Reg.MER_TICK_COUNT_TICK = (s.get Reg.MER_TICK_COUNT_TICK + 1) % 2 ^ Reg.MER_TICK_COUNT_TICK.width ∧
    t.bit Reg.MER_EVENTS_TICK = true ∧ t.datum = max s.datum s.tickDue ∧ t.mer.lastTick = some s.tickDue ∧
    RegsKept [Reg.MER_TICK_COUNT_TICK, Reg.MER_EVENTS_TICK] s t ∧
    t = { s.advanceTo s.tickDue with regs := t.regs, mer := { s.mer with lastTick := t.mer.lastTick } })) ∧
  (∀ (s : State), s.running = true → s.mer.gap = false → s.mer.windows = [] → s.mer.frames = [] →
    s.isBoundary s.tickDue = true → s.bit Reg.MER_STATUS_SWAP_PENDING = false → s.bit Reg.MER_CTRL_STOP = false →
    s.bit Reg.MER_DATUM_CTRL_REBASE = false → s.servo.acqPending = false → (∀ k : Fin 3, s.updState k.val ≠ 3) →
    Does .baseTick s (fun t => t.get Reg.MER_TICK_COUNT_TICK = 0 ∧
    t.get Reg.MER_TICK_COUNT_HYPER = (s.get Reg.MER_TICK_COUNT_HYPER + 1) % 2 ^ Reg.MER_TICK_COUNT_HYPER.width ∧
    t.bit Reg.MER_EVENTS_TICK = true ∧ t.datum = max s.datum s.tickDue ∧ t.running = true ∧ t.mem = s.mem)) ∧
  (∀ (s : State), s.running = false → s.bit Reg.MER_CTRL_START = false → s.mer.windows = [] → (∀ k : Fin 3,
    s.updState k.val ≠ 3) → Does .baseTick s (fun t => t = s.advanceTo s.tickDue)) ∧
  (∀ (s : State), s.running = false → s.bit Reg.MER_CTRL_START = true → s.servo.startWait = none →
    s.mer.windows = [] → (∀ k : Fin 3, s.updState k.val ≠ 3) → Does .baseTick s (fun t => t.running = true ∧
    t.bit Reg.MER_CTRL_START = false ∧ t.get Reg.MER_TICK_COUNT_TICK = 0 ∧ t.get Reg.MER_TICK_COUNT_HYPER = 0 ∧
    t.bit Reg.MER_EVENTS_TICK = true ∧ t.datum = max s.datum s.tickDue ∧ t.mer.lastTick = some s.tickDue)) ∧
  (∀ (e : Fin 256) (s : State), s.mayOpen e.val = true → s.mer.windows = [] →
    let en := bankEntry s.mer.active e.val; en.resource ≠ 5 → en.resource ≠ 6 → (∀ k : Fin 264,
    s.bit (qEn k.val) = false) → (∀ k : Fin 8, s.bit (Reg.TRV_CX_ATTR_EN k.val) = false) → (∀ k : Fin 32,
    s.bit (Reg.GFX_CX_ATTR_EN k.val) = false) → (∀ k : Fin 64, s.bit (Reg.MED_CX_ATTR_EN k.val) = false) →
    Does (.windowOpen e) s (fun t => (KMap.find t.mer.windows e.val).map (fun w => (w.start, w.stop, w.slackLeft,
    w.restarted)) = some (s.hyperStart s.datum + en.startUs * 1000,
    s.hyperStart s.datum + en.startUs * 1000 + en.lengthUs * 1000, en.slackUs * 1000, false) ∧
    t.datum = max s.datum (s.hyperStart s.datum + en.startUs * 1000) ∧ (∀ c : Fin 16, en.resource = 0 →
    bitOf en.units c.val = true → KMap.find t.eng.lastPart c.val = some en.partition) ∧ t.mem = s.mem)) ∧
  (∀ (e : Fin 256) (s : State), s.mayOpen e.val = false → Does (.windowOpen e) s (fun t => t = s)) ∧
  (∀ (e : Fin 256) (s : State), ∀ w, s.openWindows.find? (fun w => w.index = e.val) = some w →
    s.busyIn e.val = false → w.entry.resource ≠ 5 ∨ w.entry.benchmark = true → s.killedAtClose w = false →
    s.eng.acks = [] →
    Does (.windowClose e) s (fun t => t = { s.advanceTo w.close with mer := { s.mer with windows := KMap.del s.mer.windows e.val } })) ∧
  (∀ (e : Fin 256) (s : State), ∀ w, s.openWindows.find? (fun w => w.index = e.val) = some w →
    s.busyIn e.val = false → w.entry.resource = 5 → w.entry.benchmark = false → s.killedAtClose w = false →
    s.eng.acks = [] →
    Does (.windowClose e) s (fun t => t.mer = { s.mer with windows := KMap.del s.mer.windows e.val } ∧
    t.datum = max s.datum w.close ∧
    t.fbGet 0x6090 0xD = (if s.bit (Reg.MED_ST_CTRL_EN w.entry.pipe) && (s.stx w.entry.pipe).live && !(s.stx w.entry.pipe).produced && !(s.stx w.entry.pipe).missed then satAdd 32 (s.fbGet 0x6090 0xD) 1 else s.fbGet 0x6090 0xD) ∧
    RegsKept [] s t ∧ FbKept [(0x6090, 0xD)] s t ∧ t.mem = s.mem)) ∧
  (∀ (e : Fin 256) (s : State), s.openWindows.find? (fun w => w.index = e.val) = none →
    Does (.windowClose e) s (fun t => t = s))

/-- An offset not assigned to a register reads 0 and ignores writes; an address in the register range outside every
block is a bus error (R12). -/
def Obligations.UnassignedOffsetsAndAddresses : Prop :=
  (∀ (who : Agent) (addr : BitVec 48) (width : Nat) (v : BitVec 64) (s : State), Passes s who addr.toNat true →
    inBlock addr.toNat = true → inTable addr.toNat = false → findReg (blockTable addr.toNat) addr.toNat = none →
    Does (.registerWrite who addr width v 0) s (fun t => t.resp.err = false ∧ t = { s with resp := t.resp })) ∧
  (∀ (who : Agent) (addr : BitVec 48) (width lo n : Nat) (s : State), Passes s who addr.toNat false →
    inBlock addr.toNat = true → inTable addr.toNat = false → findReg (blockTable addr.toNat) addr.toNat = none →
    Does (.readClear who addr width lo n) s (fun t => t.resp.data = 0 ∧ t.resp.err = false ∧
    t = { s with resp := t.resp })) ∧
  (∀ (who : Agent) (addr : BitVec 48) (s : State), Passes s who addr.toNat false → inBlock addr.toNat = true →
    inTable addr.toNat = false → findReg (blockTable addr.toNat) addr.toNat = none →
    Does (.lowWordReadLatch who addr) s (fun t => t.resp.data = 0 ∧ t.resp.err = false ∧
    t = { s with resp := t.resp })) ∧
  (∀ (who : Agent) (addr : BitVec 48) (width : Nat) (v : BitVec 64) (s : State), 0x10000000 ≤ addr.toNat →
    addr.toNat < 0x20000000 → inBlock addr.toNat = false →
    Does (.registerWrite who addr width v 0) s (fun t => t.resp.err = true ∧ t = { s with resp := t.resp })) ∧
  (∀ (who : Agent) (addr : BitVec 48) (width lo n : Nat) (s : State), 0x10000000 ≤ addr.toNat →
    addr.toNat < 0x20000000 → inBlock addr.toNat = false →
    Does (.readClear who addr width lo n) s (fun t => t.resp.data = 0 ∧ t.resp.err = true ∧
    t = { s with resp := t.resp }))

/-- A 32-bit register answers a naturally aligned 32-bit access alone; any other width or alignment is a bus error
without effect (R9). -/
def Obligations.RegisterWidthAndAlignment : Prop :=
  (∀ (who : Agent) (addr : BitVec 48) (width : Nat) (v : BitVec 64) (s : State), Passes s who addr.toNat true →
    inBlock addr.toNat = true → inTable addr.toNat = false → ∀ h,
    findReg (blockTable addr.toNat) addr.toNat = some h → h.reg.wide = false → ¬ (width = 4 ∧ addr.toNat = h.addr) →
    Does (.registerWrite who addr width v 0) s (fun t => t.resp.err = true ∧ t.resp.data = 0 ∧
    t = { s with resp := t.resp })) ∧
  (∀ (who : Agent) (addr : BitVec 48) (width : Nat) (v : BitVec 64) (s : State), Passes s who addr.toNat true →
    inTable addr.toNat = true → ¬ (width = 4 ∧ addr.toNat % 4 = 0) →
    Does (.registerWrite who addr width v 0) s (fun t => t.resp.err = true ∧ t.resp.data = 0 ∧
    t = { s with resp := t.resp })) ∧
  (∀ (who : Agent) (addr : BitVec 48) (width : Nat) (s : State), Passes s who addr.toNat false →
    inBlock addr.toNat = true → inTable addr.toNat = false → ∀ h,
    findReg (blockTable addr.toNat) addr.toNat = some h → h.reg.wide = false →
    (h.reg.fields.any (fun f => f.lo = 63)) = false → ¬ (width = 4 ∧ addr.toNat = h.addr) →
    Does (.readClear who addr width 63 0) s (fun t => t.resp.err = true ∧ t.resp.data = 0 ∧
    t = { s with resp := t.resp })) ∧
  (∀ (who : Agent) (addr : BitVec 48) (s : State), Passes s who addr.toNat false → 0x10400000 ≤ addr.toNat →
    addr.toNat < 0x10500000 → ∀ h, findReg (blockTable addr.toNat) addr.toNat = some h → h.reg.wide = false →
    addr.toNat = h.addr → Does (.lowWordReadLatch who addr) s (fun t => t.resp.err = false))

/-- Accesses to plain registers follow the fields' access codes; a low-word read latches the high word; RC fields
clear but keep new events (R10, R13). -/
def Obligations.RegisterAccessCodes : Prop :=
  (∀ (who : Agent) (addr : BitVec 48) (v hw : BitVec 64) (s : State), Passes s who addr.toNat true →
    0x10400000 ≤ addr.toNat → addr.toNat < 0x10500000 → ∀ h, findReg (blockTable addr.toNat) addr.toNat = some h →
    h.reg.wide = false → addr.toNat = h.addr →
    Does (.registerWrite who addr 4 v hw) s (fun t => h.reg.fields.all (fun f => f.acc != .rw || t.get (h.field f) == bitsOf v.toNat f.hi f.lo) = true ∧
    h.reg.fields.all (fun f => f.acc != .w1c || t.get (h.field f) == (s.get (h.field f) &&& (2 ^ (h.field f).width - 1 - bitsOf v.toNat f.hi f.lo)) ||| bitsOf hw.toNat f.hi f.lo) = true ∧
    h.reg.fields.all (fun f => f.acc != .ro || t.get (h.field f) == s.get (h.field f)) = true ∧
    OnlyRegs (h.reg.fields.map h.field) [] s t)) ∧
  (∀ (who : Agent) (addr : BitVec 48) (v : BitVec 64) (s : State), Passes s who addr.toNat true →
    inBlock addr.toNat = true → inTable addr.toNat = false → ∀ h,
    findReg (blockTable addr.toNat) addr.toNat = some h → h.reg.wide = true → addr.toNat = h.addr →
    Does (.registerWrite who addr 4 v 0) s (fun t => KMap.find t.held (hartOf who * 2 ^ 48 + addr.toNat) = some (v.toNat % 2 ^ 32) ∧
    t.resp.err = false ∧ t = { s with held := t.held, resp := t.resp })) ∧
  (∀ (who : Agent) (addr : BitVec 48) (s : State), Passes s who addr.toNat false → 0x10400000 ≤ addr.toNat →
    addr.toNat < 0x10500000 → ∀ h, findReg (blockTable addr.toNat) addr.toNat = some h → h.reg.wide = false →
    addr.toNat = h.addr → (h.reg.fields.any (fun f => f.acc = .rc)) = false →
    Does (.lowWordReadLatch who addr) s (fun t => t.resp.data = s.fieldsView h ∧ t = { s with resp := t.resp })) ∧
  (∀ (who : Agent) (addr : BitVec 48) (s : State), Passes s who addr.toNat false → 0x1C000000 ≤ addr.toNat →
    addr.toNat < 0x1D000000 → ∀ h, findReg (blockTable addr.toNat) addr.toNat = some h → h.reg.wide = true →
    addr.toNat = h.addr → (h.reg.fields.any (fun f => f.acc = .rc)) = false →
    Does (.lowWordReadLatch who addr) s (fun t => t.resp.data = s.fieldsView h % 2 ^ 32 ∧
    KMap.find t.latch (hartOf who * 2 ^ 48 + addr.toNat) = some (s.fieldsView h / 2 ^ 32) ∧
    t = { s with latch := t.latch, resp := t.resp })) ∧
  (∀ (who : Agent) (addr : BitVec 48) (lo n : Nat) (s : State), Passes s who addr.toNat false →
    0x13000000 ≤ addr.toNat → addr.toNat < 0x14000000 → ∀ h, findReg (blockTable addr.toNat) addr.toNat = some h →
    h.reg.wide = false → addr.toNat = h.addr → (h.reg.fields.any (fun f => f.acc = .rc && f.lo = lo)) = true →
    Does (.readClear who addr 4 lo n) s (fun t => t.resp.data = s.fieldsView h ∧
    h.reg.fields.all (fun f => f.acc != .rc || t.get (h.field f) == (if f.lo = lo then satAdd (h.field f).width 0 n else 0)) = true ∧
    OnlyRegs ((h.reg.fields.filter (fun f => f.acc = .rc)).map h.field) [] s t))

/-- Fabric accesses complete: reads and writes of DRAM, refusals and holes; a full pool holds an access back; a freed
entry lets it proceed (R30, R33, R36, R38, R106, R166, R298, R300, R301, R302). -/
def Obligations.FabricAccesses : Prop :=
  (∀ (who : Agent) (addr : BitVec 48) (n : Nat) (ecc : EccEvent) (s : State), addr.toNat % 4096 + n ≤ 4096 →
    s.debugMay who = true → ∀ g c, s.target addr.toNat = .dram g c →
    (cadDecide s c (s.attrOf who) false addr.toNat).1 = true → groupAllows s g (s.attrOf who) false = true →
    s.bit (Reg.DDR_CG_CTRL_INLINE_ECC g) = false → (s.opPool (dramPool c (s.attrOf who).partition)).waiting = [] →
    s.poolRoom (dramPool c (s.attrOf who).partition) = true → s.unpub = [] →
    Does (.fabricAccess who addr (.read n) ecc false) s (fun t => t.resp.data = s.rdLe addr.toNat n ∧
    t.resp.err = false ∧ t = { s with resp := t.resp, opPools := t.opPools })) ∧
  (∀ (who : Agent) (addr : BitVec 48) (d : List Byte) (ecc : EccEvent) (s : State),
    addr.toNat % 4096 + d.length ≤ 4096 → s.debugMay who = true → ∀ g c, s.target addr.toNat = .dram g c →
    (cadDecide s c (s.attrOf who) true addr.toNat).1 = true → groupAllows s g (s.attrOf who) true = true →
    (s.opPool (dramPool c (s.attrOf who).partition)).waiting = [] →
    s.poolRoom (dramPool c (s.attrOf who).partition) = true →
    Does (.fabricAccess who addr (.write true d) ecc false) s (fun t => t.rd addr.toNat d.length = d.map BitVec.toNat ∧
    MemKept addr.toNat (addr.toNat + d.length) s t ∧
    t.cache = ((agentQuad who).map (fun q => (s.invalidateOthers q ⟨who, s.attrOf who, addr.toNat, .write true d,
    ecc, false⟩).cache)).getD s.cache ∧
    t = { s with mem := t.mem, unpub := t.unpub, opPools := t.opPools, cache := t.cache })) ∧
  (∀ (who : Agent) (addr : BitVec 48) (n : Nat) (ecc : EccEvent) (s : State), addr.toNat % 4096 + n ≤ 4096 →
    s.debugMay who = true → ∀ g c, s.target addr.toNat = .dram g c →
    (cadDecide s c (s.attrOf who) false addr.toNat).1 = false → s.bit (Reg.CAD_CTRL_TEST c) = false →
    (s.opPool (dramPool c (s.attrOf who).partition)).waiting = [] →
    s.poolRoom (dramPool c (s.attrOf who).partition) = true →
    Does (.fabricAccess who addr (.read n) ecc false) s (fun t => t.resp.data = 0 ∧ t.resp.err = true ∧
    t.get (Reg.CAD_VIOL_COUNT c) = satAdd (Reg.CAD_VIOL_COUNT c).width (s.get (Reg.CAD_VIOL_COUNT c)) 1 ∧
    t.fbGet 0x60A0 1 = satAdd 32 (s.fbGet 0x60A0 1) 1 ∧
    t = { s with regs := t.regs, fb := t.fb, resp := t.resp, opPools := t.opPools })) ∧
  (∀ (who : Agent) (addr : BitVec 48) (n : Nat) (ecc : EccEvent) (s : State), addr.toNat % 4096 + n ≤ 4096 →
    s.target addr.toNat = .hole → (s.opPool (initiatorPool who)).waiting = [] →
    s.poolRoom (initiatorPool who) = true →
    Does (.fabricAccess who addr (.read n) ecc false) s (fun t => t.resp.data = 0 ∧ t.resp.err = true ∧
    t = { s with resp := t.resp, opPools := t.opPools })) ∧
  (∀ (who : Agent) (addr : BitVec 48) (n : Nat) (ecc : EccEvent) (cached : Bool) (s : State),
    s.target addr.toNat = .hole → s.poolRoom (initiatorPool who) = false →
    (agentQuad who).all (fun q => !s.cacheHit q ⟨who, s.attrOf who, addr.toNat, .read n, ecc, cached⟩) = true →
    Does (.fabricAccess who addr (.read n) ecc cached) s (fun t => (t.opPool (initiatorPool who)).waiting = (s.opPool (initiatorPool who)).waiting ++ [⟨who,
    s.attrOf who, addr.toNat, .read n, ecc, cached⟩] ∧
    (t.opPool (initiatorPool who)).used = (s.opPool (initiatorPool who)).used ∧ t = { s with opPools := t.opPools })) ∧
  (∀ (pool : Pool) (s : State), (s.opPool (poolNumber pool)).used ≠ 0 →
    (poolMates (poolNumber pool)).all (fun k => (s.opPool k).waiting.isEmpty) = true →
    pool ≠ .pcieInbound ∨ s.brg.inbound = [] →
    Does (.poolEntryFreed pool) s (fun t => (t.opPool (poolNumber pool)).used = (s.opPool (poolNumber pool)).used - 1 ∧
    t.brg = { s.brg with buffer := if pool = .pcie then s.brg.buffer.drop 1 else s.brg.buffer } ∧
    t = { s with opPools := t.opPools, brg := t.brg })) ∧
  (∀ (pool : Pool) (s : State), (s.opPool (poolNumber pool)).used = 0 →
    Does (.poolEntryFreed pool) s (fun t => t = s)) ∧
  (∀ (s : State), ∀ h rest, (s.opPool 200).waiting = h :: rest → s.target h.addr = .hole →
    h.addr % 4096 + opLen h.acc ≤ 4096 → (match h.acc with | .read _ => true | .write p _ => !p) = true →
    (s.opPool 200).used ≠ 0 → (s.opPool 200).used ≤ 16384 →
    Does (.poolEntryFreed (.cheotte)) s (fun t => t.resp.err = true ∧ t.resp.data = 0 ∧
    (t.opPool 200).waiting = rest ∧ (t.opPool 200).used = (s.opPool 200).used ∧
    t = { s with resp := t.resp, opPools := t.opPools })) ∧
  (∀ (c : Fin 16) (s : State), s.clusterUp c.val = true → s.bit (Reg.TEN_CL_MEMSTAT_INIT_DONE c.val) = false →
    (s.opPool (initHold c.val)).waiting = [] →
    Does (.memoryInitDone c) s (fun t => t.bit (Reg.TEN_CL_MEMSTAT_INIT_DONE c.val) = true ∧ t.datum = s.datum)) ∧
  (∀ (c : Fin 16) (s : State), s.bit (Reg.TEN_CL_MEMSTAT_INIT_DONE c.val) = true →
    Does (.memoryInitDone c) s (fun t => t = s)) ∧
  (∀ (c : Fin 16) (s : State), s.clusterUp c.val = true → s.bit (Reg.TEN_CL_MEMSTAT_INIT_DONE c.val) = false →
    (s.opPool (initHold c.val)).waiting = [] → s.mer.windows = [] →
    Does (.memoryInitDone c) s (fun t => MemZero (0x40000000 + c.val * 0x1000000) (0x40000000 + (c.val + 1) * 0x1000000) t ∧
    MemZero (0x50000000 + c.val * 0x800000) (0x50000000 + (c.val + 1) * 0x800000) t ∧
    RegsKept [Reg.TEN_CL_MEMSTAT_INIT_DONE c.val] s t)) ∧
  (∀ (who : Agent) (addr : BitVec 48) (n : Nat) (ecc : EccEvent) (s : State), addr.toNat % 4096 + n ≤ 4096 → ∀ q,
    agentQuad who = some q → let h := (⟨who, s.attrOf who, addr.toNat, .read n, ecc,
    true⟩ : HeldAccess); s.cacheHit q h = false → ∀ g c, s.target addr.toNat = .dram g c →
    (cadDecide s c (s.attrOf who) false addr.toNat).1 = true → groupAllows s g (s.attrOf who) false = true →
    s.bit (Reg.DDR_CG_CTRL_INLINE_ECC g) = false → (s.opPool (dramPool c (s.attrOf who).partition)).waiting = [] →
    s.poolRoom (dramPool c (s.attrOf who).partition) = true → s.unpub = [] →
    Does (.fabricAccess who addr (.read n) ecc true) s (fun t => t.resp.data = s.rdLe addr.toNat n ∧
    t.resp.err = false ∧ (linesOf h).all (fun l => t.cache.contains ⟨q, l, s.attrOf who⟩) = true ∧
    t = { s with resp := t.resp, opPools := t.opPools, cache := t.cache })) ∧
  (∀ (who : Agent) (addr : BitVec 48) (n : Nat) (ecc : EccEvent) (s : State), ∀ q, agentQuad who = some q →
    s.cacheHit q ⟨who, s.attrOf who, addr.toNat, .read n, ecc, true⟩ = true → s.unpub = [] →
    Does (.fabricAccess who addr (.read n) ecc true) s (fun t => t.resp.data = s.rdLe addr.toNat n ∧
    t.resp.err = false ∧ t = { s with resp := t.resp }))

/-- SRAM window accesses are 8 to 64 bits wide and aligned; narrow writes are read-modify-writes, dropped when the
read half fails (R103). -/
def Obligations.SramWindowAccesses : Prop :=
  (∀ (who : Agent) (addr : BitVec 48) (n : Nat) (ecc : EccEvent) (s : State), addr.toNat % 4096 + n ≤ 4096 →
    s.debugMay who = true → (s.opPool (initiatorPool who)).waiting = [] → s.poolRoom (initiatorPool who) = true →
    ∀ k, s.target addr.toNat = .sram k → k < 40 → s.bit (Reg.TEN_CL_MEMSTAT_INIT_DONE (k - 24)) = true →
    (cadDecide s k (s.attrOf who) false addr.toNat).1 = true → ¬ ((n = 1 ∨ n = 2 ∨ n = 4 ∨ n = 8) ∧
    addr.toNat % n = 0) → Does (.sramWindowAccess who addr (.read n) ecc) s (fun t => t.resp.err = true ∧
    t = { s with resp := t.resp, opPools := t.opPools, cache := t.cache })) ∧
  (∀ (who : Agent) (addr : BitVec 48) (p : Bool) (d : List Byte) (ecc : EccEvent) (s : State),
    addr.toNat % 4096 + d.length ≤ 4096 → s.debugMay who = true → (s.opPool (initiatorPool who)).waiting = [] →
    s.poolRoom (initiatorPool who) = true → ∀ k, s.target addr.toNat = .sram k → k < 40 →
    s.bit (Reg.TEN_CL_MEMSTAT_INIT_DONE (k - 24)) = true → (cadDecide s k (s.attrOf who) true addr.toNat).1 = true →
    ¬ ((d.length = 1 ∨ d.length = 2 ∨ d.length = 4 ∨ d.length = 8) ∧ addr.toNat % d.length = 0) →
    Does (.sramWindowAccess who addr (.write p d) ecc) s (fun t => (p = false → t.resp.err = true) ∧
    t = { s with resp := t.resp, opPools := t.opPools, cache := t.cache })) ∧
  (∀ (who : Agent) (addr : BitVec 48) (n : Nat) (s : State), addr.toNat % 4096 + n ≤ 4096 → s.debugMay who = true →
    (s.opPool (initiatorPool who)).waiting = [] → s.poolRoom (initiatorPool who) = true → ∀ k,
    s.target addr.toNat = .sram k → k < 40 → s.bit (Reg.TEN_CL_MEMSTAT_INIT_DONE (k - 24)) = true →
    (cadDecide s k (s.attrOf who) false addr.toNat).1 = true → n = 1 ∨ n = 2 ∨ n = 4 ∨ n = 8 → addr.toNat % n = 0 →
    s.inKvArea addr.toNat = false → s.unpub = [] →
    Does (.sramWindowAccess who addr (.read n) .none) s (fun t => t.resp.data = s.rdLe addr.toNat n ∧
    t.resp.err = false ∧ t = { s with resp := t.resp, opPools := t.opPools, cache := t.cache })) ∧
  (∀ (who : Agent) (addr : BitVec 48) (p : Bool) (d : List Byte) (ecc : EccEvent) (s : State),
    addr.toNat % 4096 + d.length ≤ 4096 → s.debugMay who = true → (s.opPool (initiatorPool who)).waiting = [] →
    s.poolRoom (initiatorPool who) = true → ∀ k, s.target addr.toNat = .sram k → k < 40 →
    s.bit (Reg.TEN_CL_MEMSTAT_INIT_DONE (k - 24)) = true → (cadDecide s k (s.attrOf who) true addr.toNat).1 = true →
    d.length = 1 ∨ d.length = 2 ∨ d.length = 4 ∨ d.length = 8 → addr.toNat % d.length = 0 →
    s.inKvArea addr.toNat = false → ecc = .none ∨ d.length = 8 →
    Does (.sramWindowAccess who addr (.write p d) ecc) s (fun t => t.rd addr.toNat d.length = d.map BitVec.toNat ∧
    MemKept addr.toNat (addr.toNat + d.length) s t ∧
    t = { s with mem := t.mem, unpub := t.unpub, resp := t.resp, opPools := t.opPools, cache := t.cache })) ∧
  (∀ (who : Agent) (addr : BitVec 48) (p : Bool) (d : List Byte) (s : State), addr.toNat % 4096 + d.length ≤ 4096 →
    s.debugMay who = true → (s.opPool (initiatorPool who)).waiting = [] → s.poolRoom (initiatorPool who) = true →
    ∀ k, s.target addr.toNat = .sram k → k < 40 → s.bit (Reg.TEN_CL_MEMSTAT_INIT_DONE (k - 24)) = true →
    (cadDecide s k (s.attrOf who) true addr.toNat).1 = true → d.length = 1 ∨ d.length = 2 ∨ d.length = 4 →
    addr.toNat % d.length = 0 → s.inKvArea addr.toNat = false →
    Does (.sramWindowAccess who addr (.write p d) (.uncorrectable)) s (fun t => (p = false → t.resp.err = true) ∧
    t.mem = s.mem))

/-- A doorbell write of any ring is refused by the first failing check, with its status in LAST, or submits its slots
(R159, R189, R225, R248, R282, R344, R391). -/
def Obligations.DoorbellWrites : Prop :=
  (∀ (who : Agent) (ring : Ring) (value : BitVec 32) (s : State), let d := s.door ring; Passes s who d.addr true →
    d.owner ≠ some (s.attrOf who) → Does (.doorbellWrite who ring value) s (fun t => t.get d.last = Code.eAccess ∧
    t.get d.wptr = s.get d.wptr ∧ t.mem = s.mem)) ∧
  (∀ (who : Agent) (ring : Ring) (value : BitVec 32) (s : State), let d := s.door ring; Passes s who d.addr true →
    d.owner = some (s.attrOf who) → 2 ^ d.log2 ≤ value.toNat % 2 ^ d.wptr.width →
    Does (.doorbellWrite who ring value) s (fun t => t.get d.last = Code.eBounds ∧ OnlyRegs [d.last] [] s t)) ∧
  (∀ (who : Agent) (ring : Ring) (value : BitVec 32) (s : State), let d := s.door ring; Passes s who d.addr true →
    d.owner = some (s.attrOf who) → let n := 2 ^ d.log2; let v := value.toNat % 2 ^ d.wptr.width; v < n →
    (s.get d.rptr + 2 * n - s.get d.wptr - 1) % n < (v + n - s.get d.wptr) % n →
    Does (.doorbellWrite who ring value) s (fun t => t.get d.last = Code.eBounds ∧ OnlyRegs [d.last] [] s t)) ∧
  (∀ (who : Agent) (ring : Ring) (value : BitVec 32) (s : State), let d := s.door ring; Passes s who d.addr true →
    d.owner = some (s.attrOf who) → d.en = false →
    let n := 2 ^ d.log2; let v := value.toNat % 2 ^ d.wptr.width; v < n →
    (v + n - s.get d.wptr) % n ≤ (s.get d.rptr + 2 * n - s.get d.wptr - 1) % n →
    Does (.doorbellWrite who ring value) s (fun t => t.get d.last = Code.eState ∧ OnlyRegs [d.last] [] s t)) ∧
  (∀ (who : Agent) (ring : Ring) (value : BitVec 32) (s : State), let d := s.door ring; Passes s who d.addr true →
    d.owner = some (s.attrOf who) → d.en = true →
    let n := 2 ^ d.log2; let v := value.toNat % 2 ^ d.wptr.width; v < n →
    (v + n - s.get d.wptr) % n ≤ (s.get d.rptr + 2 * n - s.get d.wptr - 1) % n →
    Does (.doorbellWrite who ring value) s (fun t => t.get d.wptr = v ∧ t.get d.last = Code.ok ∧ OnlyRegs [d.wptr,
    d.last] [] s t))

/-- GEMM, CONV, DWCONV and POOL enter the run stage with their rows in the staged bank of OUT (R91, R93, R94, R95,
R121). -/
def Obligations.TensorArrayCommands : Prop :=
  (∀ (eng : Engine) (q : Fin 256) (s : State), let k := qKey eng q.val; ∀ j, s.job k = some j →
    Ready s k 0x01 false j → let d := s.desc k (s.get (qRptr k)); ∀ a, (s.recs k d).a = some a → ∀ b,
    (s.recs k d).b = some b → ∀ o, (s.recs k d).out = some o → let x := (s.recs k d).aux; Reaches s k ([j.inView a,
    j.inView b] ++ (x.map j.inView).toList) o →
    Does (.gemm eng q) s (fun t => Ran s t k o (gemmRows s d (j.inView a) (j.inView b) (x.map j.inView) o))) ∧
  (∀ (eng : Engine) (q : Fin 256) (s : State), let k := qKey eng q.val; ∀ j, s.job k = some j →
    Ready s k 0x02 false j → let d := s.desc k (s.get (qRptr k)); ∀ a, (s.recs k d).a = some a → ∀ b,
    (s.recs k d).b = some b → ∀ o, (s.recs k d).out = some o → let x := (s.recs k d).aux; d.waits = false →
    d.posts = false → Reaches s k ([j.inView a, j.inView b] ++ (x.map j.inView).toList) o →
    Does (.conv eng q) s (fun t => t.mem = (s.writeRows o.outView (convRows s d (j.inView a) (j.inView b) (x.map j.inView) o)).1.mem ∧
    (t.cmd k).map (fun c => (c.desc, c.outs, c.rowWise, c.waiting, c.start)) = some (d, [o.addr], false, false,
    s.datum) ∧ (t.cmd k).map (fun c => c.stripes.map (fun p => (p.1, p.2.first, p.2.limit,
    p.2.computed))) = some ((stripesOf d (convWin d b).row0 (convWin d b).rows).map (fun p => (p.1, p.2.first,
    p.2.limit, p.2.limit - p.2.first))) ∧
    t = { s with mem := t.mem, unpub := t.unpub, regs := t.regs, eng := { s.eng with cmds := t.eng.cmds } } ∧
    RegsKept (Reg.PLB_STATUS_RUNNING :: (List.range 16).map Reg.TEN_CL_STATUS_RUNNING) s t)) ∧
  (∀ (eng : Engine) (q : Fin 256) (s : State), let k := qKey eng q.val; ∀ j, s.job k = some j →
    Ready s k 0x02 false j → let d := s.desc k (s.get (qRptr k)); ∀ a, (s.recs k d).a = some a → ∀ b,
    (s.recs k d).b = some b → ∀ o, (s.recs k d).out = some o → let x := (s.recs k d).aux; d.waits = true →
    d.posts = false → Reaches s k ([j.inView b] ++ (x.map j.inView).toList) o →
    Does (.conv eng q) s (fun t => t.mem = s.mem ∧ (t.cmd k).map (fun c => (c.desc, c.outs, c.rowWise,
    c.start)) = some (d, [o.addr], true, s.datum) ∧
    (t.cmd k).map (fun c => c.stripes) = some (stripesOf d (convWin d b).row0 (convWin d b).rows) ∧
    t = { s with mem := t.mem, unpub := t.unpub, regs := t.regs, eng := { s.eng with cmds := t.eng.cmds } } ∧
    RegsKept (Reg.PLB_STATUS_RUNNING :: (List.range 16).map Reg.TEN_CL_STATUS_RUNNING) s t)) ∧
  (∀ (eng : Engine) (q : Fin 256) (s : State), let k := qKey eng q.val; ∀ j, s.job k = some j →
    Ready s k 0x02 false j → let d := s.desc k (s.get (qRptr k)); ∀ a, (s.recs k d).a = some a → ∀ b,
    (s.recs k d).b = some b → ∀ o, (s.recs k d).out = some o → let x := (s.recs k d).aux; d.waits = false →
    d.posts = true → Reaches s k ([j.inView a, j.inView b] ++ (x.map j.inView).toList) o →
    Does (.conv eng q) s (fun t => t.mem = s.mem ∧ (t.cmd k).map (fun c => (c.desc, c.outs, c.rowWise,
    c.start)) = some (d, [o.addr], false, s.datum) ∧
    (t.cmd k).map (fun c => c.stripes) = some (stripesOf d (convWin d b).row0 (convWin d b).rows) ∧
    t = { s with mem := t.mem, unpub := t.unpub, regs := t.regs, eng := { s.eng with cmds := t.eng.cmds } } ∧
    RegsKept (Reg.PLB_STATUS_RUNNING :: (List.range 16).map Reg.TEN_CL_STATUS_RUNNING) s t)) ∧
  (∀ (eng : Engine) (q : Fin 256) (s : State), let k := qKey eng q.val; ∀ j, s.job k = some j →
    Ready s k 0x03 false j → let d := s.desc k (s.get (qRptr k)); ∀ a, (s.recs k d).a = some a → ∀ b,
    (s.recs k d).b = some b → ∀ o, (s.recs k d).out = some o → let x := (s.recs k d).aux; d.waits = false →
    d.posts = false → Reaches s k ([j.inView a, j.inView b] ++ (x.map j.inView).toList) o →
    Does (.dwconv eng q) s (fun t => t.mem = (s.writeRows o.outView (convRows s d (j.inView a) (j.inView b) (x.map j.inView) o)).1.mem ∧
    (t.cmd k).map (fun c => (c.desc, c.outs, c.rowWise, c.waiting, c.start)) = some (d, [o.addr], false, false,
    s.datum) ∧ (t.cmd k).map (fun c => c.stripes.map (fun p => (p.1, p.2.first, p.2.limit,
    p.2.computed))) = some ((stripesOf d (convWin d b).row0 (convWin d b).rows).map (fun p => (p.1, p.2.first,
    p.2.limit, p.2.limit - p.2.first))) ∧
    t = { s with mem := t.mem, unpub := t.unpub, regs := t.regs, eng := { s.eng with cmds := t.eng.cmds } } ∧
    RegsKept (Reg.PLB_STATUS_RUNNING :: (List.range 16).map Reg.TEN_CL_STATUS_RUNNING) s t)) ∧
  (∀ (eng : Engine) (q : Fin 256) (s : State), let k := qKey eng q.val; ∀ j, s.job k = some j →
    Ready s k 0x03 false j → let d := s.desc k (s.get (qRptr k)); ∀ a, (s.recs k d).a = some a → ∀ b,
    (s.recs k d).b = some b → ∀ o, (s.recs k d).out = some o → let x := (s.recs k d).aux; d.waits = true →
    d.posts = false → Reaches s k ([j.inView b] ++ (x.map j.inView).toList) o →
    Does (.dwconv eng q) s (fun t => t.mem = s.mem ∧ (t.cmd k).map (fun c => (c.desc, c.outs, c.rowWise,
    c.start)) = some (d, [o.addr], true, s.datum) ∧
    (t.cmd k).map (fun c => c.stripes) = some (stripesOf d (convWin d b).row0 (convWin d b).rows) ∧
    t = { s with mem := t.mem, unpub := t.unpub, regs := t.regs, eng := { s.eng with cmds := t.eng.cmds } } ∧
    RegsKept (Reg.PLB_STATUS_RUNNING :: (List.range 16).map Reg.TEN_CL_STATUS_RUNNING) s t)) ∧
  (∀ (eng : Engine) (q : Fin 256) (s : State), let k := qKey eng q.val; ∀ j, s.job k = some j →
    Ready s k 0x03 false j → let d := s.desc k (s.get (qRptr k)); ∀ a, (s.recs k d).a = some a → ∀ b,
    (s.recs k d).b = some b → ∀ o, (s.recs k d).out = some o → let x := (s.recs k d).aux; d.waits = false →
    d.posts = true → Reaches s k ([j.inView a, j.inView b] ++ (x.map j.inView).toList) o →
    Does (.dwconv eng q) s (fun t => t.mem = s.mem ∧ (t.cmd k).map (fun c => (c.desc, c.outs, c.rowWise,
    c.start)) = some (d, [o.addr], false, s.datum) ∧
    (t.cmd k).map (fun c => c.stripes) = some (stripesOf d (convWin d b).row0 (convWin d b).rows) ∧
    t = { s with mem := t.mem, unpub := t.unpub, regs := t.regs, eng := { s.eng with cmds := t.eng.cmds } } ∧
    RegsKept (Reg.PLB_STATUS_RUNNING :: (List.range 16).map Reg.TEN_CL_STATUS_RUNNING) s t)) ∧
  (∀ (eng : Engine) (q : Fin 256) (s : State), let k := qKey eng q.val; ∀ j, s.job k = some j →
    Ready s k 0x04 false j → let d := s.desc k (s.get (qRptr k)); ∀ a, (s.recs k d).a = some a → ∀ o,
    (s.recs k d).out = some o → Reaches s k [j.inView a] o →
    Does (.pool eng q) s (fun t => Ran s t k o (poolRows s d (j.inView a) o) (computedStripes (stripesOf d (poolWin d).row0 (poolWin d).rows))))

/-- ELTWISE, REDUCE, SOFTMAX, NORM, GATHER and SCATTER enter the run stage with their rows in the staged bank of OUT
(R91, R93, R95, R98). -/
def Obligations.TensorElementCommands : Prop :=
  (∀ (eng : Engine) (q : Fin 256) (s : State), let k := qKey eng q.val; ∀ j, s.job k = some j →
    Ready s k 0x05 false j → let d := s.desc k (s.get (qRptr k)); ∀ a, (s.recs k d).a = some a →
    let b := (s.recs k d).b; ∀ o, (s.recs k d).out = some o →
    Reaches s k ([j.inView a] ++ (b.map j.inView).toList) o →
    Does (.eltwise eng q) s (fun t => Ran s t k o (eltRows s d (j.inView a) (b.map j.inView) o))) ∧
  (∀ (eng : Engine) (q : Fin 256) (s : State), let k := qKey eng q.val; ∀ j, s.job k = some j →
    Ready s k 0x06 false j → let d := s.desc k (s.get (qRptr k)); ∀ a, (s.recs k d).a = some a → ∀ o,
    (s.recs k d).out = some o → Reaches s k [j.inView a] o →
    Does (.reduce eng q) s (fun t => Ran s t k o (reduceRows s d (j.inView a) o))) ∧
  (∀ (eng : Engine) (q : Fin 256) (s : State), let k := qKey eng q.val; ∀ j, s.job k = some j →
    Ready s k 0x07 false j → let d := s.desc k (s.get (qRptr k)); ∀ a, (s.recs k d).a = some a → ∀ o,
    (s.recs k d).out = some o → let x := (s.recs k d).aux; Reaches s k ([j.inView a] ++ (x.map j.inView).toList) o →
    Does (.softmax eng q) s (fun t => Ran s t k o (softmaxRows s d (j.inView a) (x.map j.inView) o))) ∧
  (∀ (eng : Engine) (q : Fin 256) (s : State), let k := qKey eng q.val; ∀ j, s.job k = some j →
    Ready s k 0x08 false j → let d := s.desc k (s.get (qRptr k)); ∀ a, (s.recs k d).a = some a → ∀ o,
    (s.recs k d).out = some o → let x := (s.recs k d).aux; Reaches s k ([j.inView a] ++ (x.map j.inView).toList) o →
    Does (.norm eng q) s (fun t => Ran s t k o (normRows s d (j.inView a) (x.map j.inView) o))) ∧
  (∀ (eng : Engine) (q : Fin 256) (s : State), let k := qKey eng q.val; ∀ j, s.job k = some j →
    Ready s k 0x09 false j → let d := s.desc k (s.get (qRptr k)); ∀ a, (s.recs k d).a = some a → ∀ o,
    (s.recs k d).out = some o → ∀ x, (s.recs k d).aux = some x → Reaches s k [j.inView a, j.inView x] o →
    Does (.gather eng q) s (fun t => Ran s t k o (gatherRows s d (j.inView a) (j.inView x) o))) ∧
  (∀ (eng : Engine) (q : Fin 256) (s : State), let k := qKey eng q.val; ∀ j, s.job k = some j →
    Ready s k 0x0A false j → let d := s.desc k (s.get (qRptr k)); ∀ a, (s.recs k d).a = some a → ∀ o,
    (s.recs k d).out = some o → ∀ x, (s.recs k d).aux = some x → Reaches s k [j.inView a, j.inView x, j.inView o] o →
    Does (.scatter eng q) s (fun t => Ran s t k o (scatterRows s d (j.inView a) (j.inView x) (j.inView o) o)))

/-- FOLD, UNFOLD and TDMA enter the run stage with their rows, or their raw bytes, in the staged bank of OUT (R91,
R93, R95, R117, R118). -/
def Obligations.TensorMoveCommands : Prop :=
  (∀ (q : Fin 256) (s : State), let k := q.val; ∀ j, s.job k = some j → Ready s k 0x0C false j →
    let d := s.desc k (s.get (qRptr k)); ∀ a, (s.recs k d).a = some a → ∀ o, (s.recs k d).out = some o →
    Reaches s k [j.inView a] o → Does (.fold q) s (fun t => Ran s t k o (foldRows s d (j.inView a) o))) ∧
  (∀ (q : Fin 256) (s : State), let k := q.val; ∀ j, s.job k = some j → Ready s k 0x0D false j →
    let d := s.desc k (s.get (qRptr k)); ∀ a, (s.recs k d).a = some a → ∀ o, (s.recs k d).out = some o →
    Reaches s k [j.inView a] o → Does (.unfold q) s (fun t => Ran s t k o (unfoldRows s d (j.inView a) o))) ∧
  (∀ (eng : Engine) (q : Fin 256) (s : State), let k := qKey eng q.val; ∀ j, s.job k = some j →
    Ready s k 0x0E false j → let d := s.desc k (s.get (qRptr k)); ∀ a, (s.recs k d).a = some a → ∀ o,
    (s.recs k d).out = some o → d.b 8 0 = false → Reaches s k [j.inView a] o →
    Does (.tdma eng q) s (fun t => Ran s t k o (tdmaRows s (j.inView a) o))) ∧
  (∀ (eng : Engine) (q : Fin 256) (s : State), let k := qKey eng q.val; ∀ j, s.job k = some j →
    Ready s k 0x0E false j → let d := s.desc k (s.get (qRptr k)); d.b 8 0 = true → ∀ a, (s.recs k d).a = some a →
    ∀ o, (s.recs k d).out = some o →
    let src := (j.inView a).base + d.w 10; let dst := o.outView.base + d.w 11; s.reachSpans [⟨s.qAttr k, false, src,
    d.w 9⟩, ⟨s.qAttr k, true, dst, d.w 9⟩] = (Code.ok, s) →
    Does (.tdma eng q) s (fun t => t.rd dst (d.w 9) = s.rd src (d.w 9) ∧ MemKept dst (dst + d.w 9) s t ∧
    (t.cmd k).map (fun c => (c.desc, c.outs, c.start)) = some (d, [o.addr], s.datum) ∧
    t = { s with mem := t.mem, unpub := t.unpub, regs := t.regs, eng := { s.eng with cmds := t.eng.cmds } }))

/-- PAGED_ATTN and COLLECTIVE enter the run stage: keys and values appended and rows attended; contributions sent and
reduced (R93, R134, R138, R178, R181). -/
def Obligations.AttentionAndCollectives : Prop :=
  (∀ (q : Fin 256) (s : State), let k := q.val; ∀ j, s.job k = some j → Ready s k 0x0B false j →
    let d := s.desc k (s.get (qRptr k)); ∀ a, (s.recs k d).a = some a → ∀ o, (s.recs k d).out = some o →
    let rn := d.f 8 11 0; let r := s.row rn; let l := d.f 10 23 16; ∀ p, s.pool r.pool = some p →
    let nk := j.inView (s.newKvRec k r); s.reachSpans ((j.inView a).spans (s.qAttr k) false ++ nk.spans (s.qAttr k) false ++ o.outView.spans (s.qAttr k) true ++ pageSpans p r l) = (Code.ok,
    s) → let u := (s.appendAll p r nk l).pageStreams ⟨d, r, p,
    nk⟩; Does (.pagedAttn q) s (fun t => t.mem = (u.writeRows o.outView (u.attnRows d (j.inView a) p r o)).1.mem ∧
    (t.job k).map (fun j => j.attended) = some ((rn, l) :: j.attended) ∧ (t.cmd k).map (fun c => (c.desc, c.outs,
    c.start)) = some (d, [o.addr], s.datum) ∧ t.get (qRptr k) = s.get (qRptr k) ∧ t.datum = s.datum)) ∧
  (∀ (q : Fin 256) (s : State), let k := q.val; ∀ j, s.job k = some j → Ready s k 0x0F true j →
    let d := s.desc k (s.get (qRptr k)); ∀ a, (s.recs k d).a = some a → ∀ o, (s.recs k d).out = some o → ∀ g,
    s.coll d.collGroup = some g →
    s.reachSpans ((j.inView a).spans (s.qAttr k) false ++ o.outView.spans (s.qAttr k) true ++ [⟨s.qAttr k, false,
    g.landing, g.size⟩]) = (Code.ok, s) →
    Does (.collective q true) s (fun t => t.mem = (s.writeRows o.outView (s.collRows d g (j.inView a) o)).1.mem ∧
    t.out = (s.collSend d g (j.inView a)).out ∧ t.out.length = s.out.length + (s.others d.collPackages).length ∧
    (t.cmd k).map (fun c => (c.desc, c.outs, c.start)) = some (d, [o.addr], s.datum) ∧ t.eng.jobs = s.eng.jobs ∧
    t.get (qRptr k) = s.get (qRptr k) ∧ t.datum = s.datum))

/-- FENCE, its release, COMMIT and the commit of commands and jobs complete; a descriptor that fails a check ends its
job unrun (R93, R95, R96, R101, R158). -/
def Obligations.FenceAndCommit : Prop :=
  (∀ (eng : Engine) (q : Fin 256) (s : State), let k := qKey eng q.val; ∀ j, s.job k = some j →
    Ready s k 0x10 false j →
    let d := s.desc k (s.get (qRptr k)); Does (.fence eng q) s (fun t => t.cmd k = some { index := s.get (qRptr k), ws := d.ws, start := s.datum, waiting := !s.fenceMet k d } ∧
    RegsKept (Reg.PLB_STATUS_RUNNING :: (List.range 16).map Reg.TEN_CL_STATUS_RUNNING) s t ∧
    t = { s with regs := t.regs, eng := { s.eng with cmds := t.eng.cmds } })) ∧
  (∀ (eng : Engine) (q : Fin 256) (s : State), let k := qKey eng q.val; ∀ c, s.cmd k = some c →
    c.desc.opcode = 0x10 → c.waiting = true → s.fenceMet k c.desc = true →
    Does (.fenceRelease eng q) s (fun t => t.cmd k = some { c with waiting := false } ∧
    t = { s with eng := { s.eng with cmds := t.eng.cmds } })) ∧
  (∀ (eng : Engine) (q : Fin 256) (s : State), let k := qKey eng q.val; ∀ c, s.cmd k = some c →
    s.fenceMet k c.desc = false → Does (.fenceRelease eng q) s (fun t => t = s)) ∧
  (∀ (eng : Engine) (q : Fin 256) (s : State), let k := qKey eng q.val; ∀ j, s.job k = some j →
    Ready s k 0x11 false j → s.training k = none → s.stepServed k j = true →
    Does (.commit eng q) s (fun t => t.cmd k = some { index := s.get (qRptr k), ws := (s.desc k (s.get (qRptr k))).ws, start := s.datum } ∧
    RegsKept (Reg.PLB_STATUS_RUNNING :: (List.range 16).map Reg.TEN_CL_STATUS_RUNNING) s t ∧
    t = { s with regs := t.regs, eng := { s.eng with cmds := t.eng.cmds } })) ∧
  (∀ (eng : Engine) (q : Fin 256) (cyc : BitVec 32) (s : State), let k := qKey eng q.val; ∀ j, s.job k = some j →
    ∀ c, s.cmd k = some c → s.atCommitPoint k cyc.toNat c = true → s.reachSpans (s.commitSpans k j c) = (Code.ok,
    s) → c.desc.opcode ≠ 0x11 → c.desc.cpl = false → ∀ a rest, c.outs = a :: rest → rest = [] →
    s.recJobOut a = false → j.preempt = false → Does (.commandCommit eng q cyc) s (fun t => t.cmd k = none ∧
    t.get (qCseq k) = (s.get (qCseq k) + 1) % 2 ^ 32 ∧
    t.get (qRptr k) = ((s.get (qRptr k) + 1) % s.qSlots k) % 2 ^ (qRptr k).width ∧
    t.rdLe (a + 7) 1 = (if s.rdLe (a + 7) 1 % 2 = 1 then s.rdLe (a + 7) 1 - 1 else s.rdLe (a + 7) 1 + 1) ∧
    MemKept (a + 7) (a + 8) s t ∧ (t.job k).map (fun j => j.cycles) = some (j.cycles + cyc.toNat) ∧
    t.datum = s.datum)) ∧
  (∀ (eng : Engine) (q : Fin 256) (cyc : BitVec 32) (s : State), let k := qKey eng q.val; ∀ j, s.job k = some j →
    ∀ c, s.cmd k = some c → s.atCommitPoint k cyc.toNat c = true → s.reachSpans (s.commitSpans k j c) = (Code.ok,
    s) → c.desc.opcode = 0x11 → c.desc.cpl = false → c.outs = [] → j.written = [] → s.jobGroup j = none →
    s.stepsOf k j.num = [] → s.training k = none → s.mer.windows = [] →
    let a := s.get (qCplBase k) + 32 * s.get (qCplWptr k); s.reach (s.qAttr k) true a 32 = (.ok, s) →
    Does (.commandCommit eng q cyc) s (fun t => t.cmd k = none ∧ t.job k = none ∧ t.bit (qAdmitted k) = false ∧
    t.get (qCseq k) = (s.get (qCseq k) + 1) % 2 ^ 32 ∧
    t.get (qRptr k) = ((s.get (qRptr k) + 1) % s.qSlots k) % 2 ^ (qRptr k).width ∧
    t.get (qCplWptr k) = ((s.get (qCplWptr k) + 1) % s.qCplSlots k) % 2 ^ (qCplWptr k).width ∧
    t.rd a 32 = Record.bytes ⟨Code.ok, c.desc, j.fl.or c.fl, j.defused || c.defused, j.restarted, true, 0, 0,
    j.start, j.cycles + cyc.toNat⟩ ((s.get (qCseq k) + 1) % 2 ^ 32) s.ts32 ∧ MemKept a (a + 32) s t)) ∧
  (∀ (eng : Engine) (q : Fin 256) (cyc : BitVec 32) (s : State), let k := qKey eng q.val; ∀ c, s.cmd k = some c →
    s.atCommitPoint k cyc.toNat c = false → Does (.commandCommit eng q cyc) s (fun t => t = s))

/-- Faults of a running command are recorded and, where no window lets the job restart, end it with the fault's code
in its record (R88, R96, R98, R104, R158, R160, R169, R191, R447). -/
def Obligations.FaultsKillJobs : Prop :=
  (∀ (q : Fin 256) (tile : Fin 128) (cyc : BitVec 32) (s : State), (s.cmd q.val).isSome = true →
    s.usesTile q.val tile.val = true → ∀ j, s.job q.val = some j → s.jobGroup j = none →
    s.linkedQueues q.val = [q.val] → s.mer.windows = [] → KMap.find s.eng.tileFault tile.val = none →
    Does (.tileArithFault q tile cyc) s (fun t => t.bit (Reg.TEN_CL_STATUS_FAULT (tile.val / 8)) = true ∧
    t.get (Reg.TEN_CL_FAULT_TILE (tile.val / 8)) = tile.val % 8 ∧
    t.get (Reg.TEN_CL_FAULT_CODE (tile.val / 8)) = Code.eTileArith ∧
    t.fbGet 0x6030 1 = satAdd 32 (s.fbGet 0x6030 1) 1 ∧ t.fbGet 0x6030 3 = satAdd 32 (s.fbGet 0x6030 3) 1 ∧
    KMap.find t.eng.tileFault tile.val = some s.datum ∧ t.job q.val = none ∧ t.cmd q.val = none ∧
    t.bit (qAdmitted q.val) = false ∧ t.datum = s.datum)) ∧
  (∀ (q : Fin 256) (tile : Fin 128) (cyc : BitVec 32) (s : State), (s.cmd q.val).isSome = true →
    (s.job q.val).isSome = true → s.usesTile q.val tile.val = true → ∀ u,
    KMap.find s.eng.tileFault tile.val = some u → s.datum ≤ u + 1000000000 → s.mer.windows = [] →
    Does (.tileArithFault q tile cyc) s (fun t => t.bit (Reg.TEN_CL_STATUS_ISOLATED (tile.val / 8)) = true ∧
    t.get (Reg.TEN_CL_FAULT_CODE (tile.val / 8)) = Code.eTileArith ∧ t.cmd q.val = none)) ∧
  (∀ (q : Fin 256) (tile : Fin 128) (buf : Bool) (word : BitVec 20) (found : EccEvent) (cyc : BitVec 32) (s : State),
    ∀ c, s.cmd q.val = some c → ∀ j, s.job q.val = some j → s.jobGroup j = none → s.linkedQueues q.val = [q.val] →
    found = .uncorrectable → s.mer.windows = [] →
    Does (.eccUncorrectable q tile buf word found cyc) s (fun t => t.get (Reg.TEN_CL_ECC_UNCORR (tile.val / 8)) = satAdd (Reg.TEN_CL_ECC_UNCORR (tile.val / 8)).width (s.get (Reg.TEN_CL_ECC_UNCORR (tile.val / 8))) 1 ∧
    t.bit (Reg.TEN_CL_ECC_ADDR_VALID (tile.val / 8)) = true ∧
    t.get (Reg.TEN_CL_ECC_ADDR_WORD (tile.val / 8)) = word.toNat ∧
    t.get (Reg.TEN_CL_FAULT_CODE (tile.val / 8)) = Code.eEccUncorr ∧
    t.bit (Reg.TEN_CL_STATUS_FAULT (tile.val / 8)) = true ∧ t.fbGet 0x6030 2 = satAdd 32 (s.fbGet 0x6030 2) 1 ∧
    t.fbGet 0x6030 3 = satAdd 32 (s.fbGet 0x6030 3) 1 ∧ t.job q.val = none ∧ t.cmd q.val = none ∧
    t.bit (qAdmitted q.val) = false)) ∧
  (∀ (q : Fin 8) (cyc : BitVec 32) (s : State), ∀ c, s.cmd (256 + q.val) = some c → ∀ j,
    s.job (256 + q.val) = some j → s.jobGroup j = none → s.mer.windows = [] →
    Does (.plumbEccUncorrectable q cyc) s (fun t => t.get Reg.PLB_ECC_UNCORR = satAdd Reg.PLB_ECC_UNCORR.width (s.get Reg.PLB_ECC_UNCORR) 1 ∧
    t.fbGet 0x6030 2 = satAdd 32 (s.fbGet 0x6030 2) 1 ∧ t.fbGet 0x6030 3 = satAdd 32 (s.fbGet 0x6030 3) 1 ∧
    t.job (256 + q.val) = none ∧ t.cmd (256 + q.val) = none ∧ t.bit (qAdmitted (256 + q.val)) = false)) ∧
  (∀ (eng : Engine) (q : Fin 256) (cyc : BitVec 32) (s : State), let k := qKey eng q.val; ∀ c, s.cmd k = some c →
    ∀ j, s.job k = some j → c.desc.opcode ≠ 0x10 → s.cycleBound k c < cyc.toNat → s.jobGroup j = none →
    s.linkedQueues k = [k] → s.mer.windows = [] → Does (.cmdOverrun eng q cyc) s (fun t => (isPlumb k = false →
    t.get (Reg.TEN_CL_FAULT_CODE (c.desc.firstTile / 8)) = Code.eCmdOverrun ∧
    t.bit (Reg.TEN_CL_STATUS_FAULT (c.desc.firstTile / 8)) = true) ∧
    t.fbGet 0x6030 3 = satAdd 32 (s.fbGet 0x6030 3) 1 ∧ t.job k = none ∧ t.cmd k = none ∧
    t.bit (qAdmitted k) = false)) ∧
  (∀ (eng : Engine) (q : Fin 256) (cyc : BitVec 32) (s : State), ∀ c, s.cmd (qKey eng q.val) = some c →
    c.desc.opcode = 0x10 ∨ cyc.toNat ≤ s.cycleBound (qKey eng q.val) c →
    Does (.cmdOverrun eng q cyc) s (fun t => t = s)) ∧
  (∀ (eng : Engine) (q : Fin 256) (cause : BusCause) (addr : BitVec 48) (tile : Fin 128) (cyc : BitVec 32) (s : State),
    let k := qKey eng q.val; ∀ c, s.cmd k = some c → ∀ j, s.job k = some j → s.jobGroup j = none →
    s.linkedQueues k = [k] → s.mer.windows = [] →
    Does (.dataBusError eng q cause addr tile cyc) s (fun t => (isPlumb k = false →
    t.get (Reg.TEN_CL_FAULT_CODE (tile.val / 8)) = busCode cause ∧
    t.bit (Reg.TEN_CL_STATUS_FAULT (tile.val / 8)) = true) ∧ (cause = .inlineEcc →
    t.bit Reg.DDR_EVENTS_ECC_UNCORR = true) ∧ (cause = .refused →
    (match s.target addr.toNat with | .dram g _ => t.bit Reg.DDR_EVENTS_VIOL && t.get (Reg.DDR_CG_VIOL_COUNT g) == satAdd (Reg.DDR_CG_VIOL_COUNT g).width (s.get (Reg.DDR_CG_VIOL_COUNT g)) 1 && t.fbGet 0x6050 1 == satAdd 32 (s.fbGet 0x6050 1) 1 | _ => true) = true) ∧
    t.fbGet 0x6030 3 = satAdd 32 (s.fbGet 0x6030 3) 1 ∧ t.job k = none ∧ t.cmd k = none ∧
    t.bit (qAdmitted k) = false)) ∧
  (∀ (eng : Engine) (q : Fin 256) (cause : BusCause) (addr : BitVec 48) (tile : Fin 128) (cyc : BitVec 32) (s : State),
    s.cmd (qKey eng q.val) = none → s.killedNow (qKey eng q.val) = none →
    Does (.dataBusError eng q cause addr tile cyc) s (fun t => t = s)) ∧
  (∀ (eng : Engine) (q : Fin 256) (cyc : BitVec 32) (s : State), let k := qKey eng q.val; ∀ c, s.cmd k = some c →
    ∀ j, s.job k = some j → c.desc.opcode ≠ 0x10 → c.desc.irq = false → c.undo = [] → s.cycleBound k c < cyc.toNat →
    s.jobGroup j = none → s.linkedQueues k = [k] → s.stepsOf k j.num = [] → s.mer.windows = [] →
    let a := s.get (qCplBase k) + 32 * s.get (qCplWptr k); s.reach (s.qAttr k) true a 32 = (.ok, s) →
    Does (.cmdOverrun eng q cyc) s (fun t => t.rd a 32 = Record.bytes ⟨Code.eCmdOverrun, c.desc, j.fl.or c.fl,
    j.defused || c.defused, j.restarted, true, c.desc.firstTile, s.package, j.start,
    j.cycles + cyc.toNat⟩ (s.get (qCseq k)) s.ts32 ∧
    t.get (qCplWptr k) = ((s.get (qCplWptr k) + 1) % s.qCplSlots k) % 2 ^ (qCplWptr k).width ∧
    t.get (qRptr k) = s.afterJob k j.first % 2 ^ (qRptr k).width ∧ t.get (qCseq k) = s.get (qCseq k) ∧
    MemKept a (a + 32) s t))

/-- Scrub passes, partition clears, the KV cache register, the session limit and live-range copies complete (R104,
R105, R106, R107, R142, R151, R165). -/
def Obligations.ScrubbingAndClears : Prop :=
  (∀ (tile : Fin 128) (buf : Bool) (word : BitVec 20) (last : Bool) (s : State), s.clusterUp (tile.val / 8) = true →
    Does (.scrubPass tile buf word .none last) s (fun t => t.get (Reg.TEN_CL_MEMSTAT_SCRUB_PASSES (tile.val / 8)) = (if last then satAdd (Reg.TEN_CL_MEMSTAT_SCRUB_PASSES (tile.val / 8)).width (s.get (Reg.TEN_CL_MEMSTAT_SCRUB_PASSES (tile.val / 8))) 1 else s.get (Reg.TEN_CL_MEMSTAT_SCRUB_PASSES (tile.val / 8))) ∧
    OnlyRegs [Reg.TEN_CL_MEMSTAT_SCRUB_PASSES (tile.val / 8)] [] s t)) ∧
  (∀ (tile : Fin 128) (buf : Bool) (word : BitVec 20) (last : Bool) (s : State), s.clusterUp (tile.val / 8) = true →
    Does (.scrubPass tile buf word .uncorrectable last) s (fun t => t.get (Reg.TEN_CL_ECC_UNCORR (tile.val / 8)) = satAdd (Reg.TEN_CL_ECC_UNCORR (tile.val / 8)).width (s.get (Reg.TEN_CL_ECC_UNCORR (tile.val / 8))) 1 ∧
    t.bit (Reg.TEN_CL_ECC_ADDR_VALID (tile.val / 8)) = true ∧
    t.get (Reg.TEN_CL_ECC_ADDR_WORD (tile.val / 8)) = word.toNat ∧
    t.fbGet 0x6030 9 = satAdd 32 (s.fbGet 0x6030 9) 1 ∧ t.bit Reg.SAF_STATE_SCRUB_UNCORR = true ∧ t.eng = s.eng ∧
    t.mem = s.mem)) ∧
  (∀ (tile : Fin 128) (buf : Bool) (word : BitVec 20) (found : EccEvent) (last : Bool) (s : State),
    s.clusterUp (tile.val / 8) = false → Does (.scrubPass tile buf word found last) s (fun t => t = s)) ∧
  (∀ (c : Fin 16) (s : State), s.bit (Reg.TEN_CL_MEMSTAT_CLEARING c.val) = true → s.mer.windows = [] →
    Does (.partitionClearDone c) s (fun t => t.bit (Reg.TEN_CL_MEMSTAT_CLEARING c.val) = false ∧
    t.fbGet 0x6030 8 = satAdd 32 (s.fbGet 0x6030 8) 1 ∧
    MemZero (0x40000000 + c.val * 0x1000000) (0x40000000 + (c.val + 1) * 0x1000000) t ∧
    MemZero (0x50000000 + c.val * 0x800000) (0x50000000 + (c.val + 1) * 0x800000) t ∧
    MemKeptOff [(0x40000000 + c.val * 0x1000000, 0x40000000 + (c.val + 1) * 0x1000000),
    (0x50000000 + c.val * 0x800000, 0x50000000 + (c.val + 1) * 0x800000)] s t ∧
    KMap.find t.eng.kvLines c.val = none ∧ (∀ m : Fin 256, t.bit (Reg.TEN_RM_CFG_ARMED c.val m.val) = false) ∧
    t.eng.jobs = s.eng.jobs)) ∧
  (∀ (c : Fin 16) (s : State), s.bit (Reg.TEN_CL_MEMSTAT_CLEARING c.val) = false →
    Does (.partitionClearDone c) s (fun t => t = s)) ∧
  (∀ (who : Agent) (c : Fin 16) (banks : BitVec 6) (s : State), Passes s who (Reg.TEN_KV_CACHE_addr c.val) true →
    s.clusterOn c.val = true → banks.toNat ≤ 16 → s.bit (Reg.TEN_CL_STATUS_RUNNING c.val) = false →
    Does (.kvCacheWrite who c banks) s (fun t => t.get (Reg.TEN_KV_CACHE_BANKS c.val) = banks.toNat ∧
    t.get (Reg.TEN_KV_CACHE_STATUS c.val) = Code.ok ∧ KMap.find t.eng.kvLines c.val = none ∧
    RegsKept [Reg.TEN_KV_CACHE_BANKS c.val, Reg.TEN_KV_CACHE_STATUS c.val] s t ∧
    t = { s with regs := t.regs, resp := t.resp, eng := { s.eng with kvLines := t.eng.kvLines } })) ∧
  (∀ (who : Agent) (c : Fin 16) (banks : BitVec 6) (s : State), Passes s who (Reg.TEN_KV_CACHE_addr c.val) true →
    s.clusterOn c.val = true → 16 < banks.toNat →
    Does (.kvCacheWrite who c banks) s (fun t => t.get (Reg.TEN_KV_CACHE_STATUS c.val) = Code.eIllegal ∧
    OnlyRegs [Reg.TEN_KV_CACHE_STATUS c.val] [] s t)) ∧
  (∀ (who : Agent) (c : Fin 16) (banks : BitVec 6) (s : State), Passes s who (Reg.TEN_KV_CACHE_addr c.val) true →
    s.clusterOn c.val = true → banks.toNat ≤ 16 → s.bit (Reg.TEN_CL_STATUS_RUNNING c.val) = true →
    Does (.kvCacheWrite who c banks) s (fun t => t.get (Reg.TEN_KV_CACHE_STATUS c.val) = Code.eBusy ∧
    OnlyRegs [Reg.TEN_KV_CACHE_STATUS c.val] [] s t)) ∧
  (∀ (s : State), s.session = 1 →
    Does .trainingSessionLimit s (fun t => t.session = (if s.eng.train.any (fun p => (s.job p.1).isSome) then 2 else 0) ∧
    t.eng.sessionSpent = true ∧ t.datum = max s.datum (s.eng.sessionStart + s.fbGet 0x7100 2 * 60000000000) ∧
    t = { s.advanceTo (s.eng.sessionStart + s.fbGet 0x7100 2 * 60000000000) with fb := t.fb, eng := { s.eng with sessionSpent := true } })) ∧
  (∀ (s : State), s.session ≠ 1 → Does .trainingSessionLimit s (fun t => t = s)) ∧
  (∀ (q : Fin 256) (s : State), ∀ j, s.job q.val = some j → j.copy = 1 →
    s.ranges (s.live q.val (s.get (qRptr q.val))) = [] → s.reachSpans [s.saveSpan q.val true []] = (Code.ok, s) →
    Does (.liveRangeCopyDone q) s (fun t => t.bit (qSaved q.val) = true ∧ t.job q.val = some { j with copy := 0 } ∧
    t.fbGet 0x6030 0xE = satAdd 32 (s.fbGet 0x6030 0xE) 1 ∧ t.mem = s.mem ∧ RegsKept [qSaved q.val] s t)) ∧
  (∀ (q : Fin 256) (s : State), ∀ j, s.job q.val = some j → j.copy = 2 →
    s.ranges (s.live q.val (s.get (qRptr q.val))) = [] → s.reachSpans [s.saveSpan q.val false []] = (Code.ok, s) →
    Does (.liveRangeCopyDone q) s (fun t => t.bit (qSaved q.val) = false ∧ t.job q.val = some { j with copy := 0 } ∧
    t.mem = s.mem ∧ OnlyRegs [qSaved q.val] [] { s with eng := t.eng } t))

/-- Row marks are armed, advanced, waited on and de-fused as the rules say (R120, R121, R122, R123, R125). -/
def Obligations.RowMarks : Prop :=
  (∀ (q : Fin 256) (c : Fin 16) (s : State), ∀ cmd st, s.stripe q.val c.val = some (cmd, st) →
    (s.job q.val).isSome = true → let m := cmd.desc.postMark; cmd.desc.posts = true → st.armed = false →
    cmd.rowWise = true → s.copyRead q.val c.val m = false →
    Does (.rowMarkArm q c) s (fun t => t.bit (Reg.TEN_RM_CFG_ARMED c.val m) = true ∧
    t.bit (Reg.TEN_RM_CFG_COMMITTED c.val m) = false ∧ t.get (Reg.TEN_RM_RANGE_FIRST c.val m) = st.first % 2 ^ 16 ∧
    t.get (Reg.TEN_RM_RANGE_LIMIT c.val m) = st.limit % 2 ^ 16 ∧ t.get (Reg.TEN_RM_DONE_HEAD c.val m) = 0 ∧
    t.get (Reg.TEN_RM_DONE_TAIL c.val m) = 0 ∧ t.get (Reg.TEN_RM_OWNER_JOB c.val m) = cmd.desc.job ∧
    t.get (Reg.TEN_RM_OWNER_QUEUE c.val m) = q.val ∧
    t.get (Reg.TEN_RM_OWNER_PARTITION c.val m) = s.get (qPartF q.val) % 64 ∧
    (t.stripe q.val c.val).map (fun p => (p.2.armed, p.2.lead, p.2.computed)) = some (true,
    s.get (Reg.TEN_RM_CFG_LEAD c.val m), st.computed) ∧ RegsKept [Reg.TEN_RM_CFG_ARMED c.val m,
    Reg.TEN_RM_CFG_COMMITTED c.val m, Reg.TEN_RM_CFG_DEFUSED c.val m, Reg.TEN_RM_CFG_BANK c.val m,
    Reg.TEN_RM_RANGE_FIRST c.val m, Reg.TEN_RM_RANGE_LIMIT c.val m, Reg.TEN_RM_DONE_HEAD c.val m,
    Reg.TEN_RM_DONE_TAIL c.val m, Reg.TEN_RM_OWNER_JOB c.val m, Reg.TEN_RM_OWNER_QUEUE c.val m,
    Reg.TEN_RM_OWNER_PARTITION c.val m] s t ∧
    t = { s with regs := t.regs, eng := { s.eng with cmds := t.eng.cmds } })) ∧
  (∀ (q : Fin 256) (c : Fin 16) (s : State), ∀ cmd st, s.stripe q.val c.val = some (cmd, st) → ∀ j,
    s.job q.val = some j → cmd.desc.posts = true → cmd.rowWise = false → st.armed = false →
    s.copyRead q.val c.val cmd.desc.postMark = false → let d := cmd.desc; ∀ a, (s.recs q.val d).a = some a → ∀ b,
    (s.recs q.val d).b = some b → ∀ o, (s.recs q.val d).out = some o →
    let u := s.armCopy q.val c.val d st; let lead := s.get (Reg.TEN_RM_CFG_LEAD c.val d.postMark); Does (.rowMarkArm q c) s (fun t => t.mem = (u.writeRows o.outView ((List.range (st.limit - st.first)).flatMap (fun i => convRow u d (fun _ => j.inView a) (j.inView b) ((u.recs q.val d).aux.map (fun x => j.inView x)) o (({ st with armed := true, lead := lead } : Stripe).rowAt lead i)))).1.mem ∧
    (t.stripe q.val c.val).map (fun p => (p.2.armed, p.2.lead, p.2.computed)) = some (true, lead,
    st.limit - st.first) ∧ t.regs = u.regs)) ∧
  (∀ (q : Fin 256) (c : Fin 16) (s : State), ∀ cmd st, s.stripe q.val c.val = some (cmd, st) →
    let m := cmd.desc.postMark; let n := if (s.outRec q.val cmd.desc).frc ≠ 0 then 8 else 1; let lead := min st.lead (st.limit - st.first); cmd.desc.posts = true →
    st.armed = true → st.shown + n ≤ st.computed →
    Does (.rowMarkAdvance q c) s (fun t => (t.stripe q.val c.val).map (fun p => p.2.shown) = some (st.shown + n) ∧
    (st.shown < lead → t.get (Reg.TEN_RM_DONE_TAIL c.val m) = (st.shown + n) % 2 ^ 16 ∧
    t.get (Reg.TEN_RM_DONE_HEAD c.val m) = s.get (Reg.TEN_RM_DONE_HEAD c.val m)) ∧ (lead ≤ st.shown →
    t.get (Reg.TEN_RM_DONE_HEAD c.val m) = (st.shown + n - lead) % 2 ^ 16 ∧
    t.get (Reg.TEN_RM_DONE_TAIL c.val m) = s.get (Reg.TEN_RM_DONE_TAIL c.val m)) ∧
    RegsKept [Reg.TEN_RM_DONE_HEAD c.val m, Reg.TEN_RM_DONE_TAIL c.val m] s t ∧
    t = { s with regs := t.regs, eng := { s.eng with cmds := t.eng.cmds } })) ∧
  (∀ (q : Fin 256) (c : Fin 16) (s : State), ∀ cmd st, s.stripe q.val c.val = some (cmd, st) → ∀ j,
    s.job q.val = some j → cmd.rowWise = true → st.computed < st.limit - st.first → let d := cmd.desc; ∀ a,
    (s.recs q.val d).a = some a → ∀ b, (s.recs q.val d).b = some b → ∀ o, (s.recs q.val d).out = some o →
    let ys := nextRows st (o.frc != 0); let need := ys.flatMap (inputRows (convWin d b) a.d2); (d.posts && !st.armed) = false →
    (need.all (fun y => s.rowReady d.waitMark y d.job (s.qAttr q.val).partition j.barrier)) = true →
    s.reachSpans ((need.map (s.rowView q.val d a)).eraseDups.flatMap (fun v => v.spans (s.qAttr q.val) false)) = (Code.ok,
    s) →
    Does (.consumerRowStart q c) s (fun t => t.mem = (s.writeRows o.outView (ys.flatMap (fun y => convRow s d (s.rowView q.val d a) (j.inView b) ((s.recs q.val d).aux.map (fun x => j.inView x)) o y))).1.mem ∧
    (t.stripe q.val c.val).map (fun p => (p.2.computed, p.2.waitFrom)) = some (st.computed + ys.length, none) ∧
    t.job q.val = some j ∧ t = { s with mem := t.mem, unpub := t.unpub, eng := { s.eng with cmds := t.eng.cmds } })) ∧
  (∀ (q : Fin 256) (c : Fin 16) (s : State), ∀ cmd st, s.stripe q.val c.val = some (cmd, st) → ∀ j,
    s.job q.val = some j → cmd.rowWise = true → st.computed < st.limit - st.first → st.waitFrom = none →
    let d := cmd.desc; ∀ a, (s.recs q.val d).a = some a → ∀ b, (s.recs q.val d).b = some b → ∀ o,
    (s.recs q.val d).out = some o →
    let ys := nextRows st (o.frc != 0); let need := ys.flatMap (inputRows (convWin d b) a.d2); (d.posts && !st.armed) = false →
    (need.all (fun y => s.rowReady d.waitMark y d.job (s.qAttr q.val).partition j.barrier)) = false →
    Does (.consumerRowStart q c) s (fun t => (t.stripe q.val c.val).map (fun p => (p.2.computed,
    p.2.waitFrom)) = some (st.computed, some s.datum) ∧ t = { s with eng := { s.eng with cmds := t.eng.cmds } })) ∧
  (∀ (q : Fin 256) (c : Fin 16) (s : State), ∀ cmd st, s.stripe q.val c.val = some (cmd, st) → ∀ j,
    s.job q.val = some j → j.barrier = false → ∀ w, st.waitFrom = some w →
    (match s.nextReady q.val cmd st j with | some (_, _, true) => false | _ => true) = true →
    Does (.defusion q c) s (fun t => t.datum = max s.datum (w + s.fbGet 0x7020 3 * 1000) ∧
    t.fbGet 0x6030 7 = satAdd 32 (s.fbGet 0x6030 7) 1 ∧ (t.job q.val).map (fun j => j.barrier) = some true ∧
    (t.cmd q.val).map (fun c => c.defused) = some true ∧ t.mem = s.mem ∧ t.get (qRptr q.val) = s.get (qRptr q.val))) ∧
  (∀ (q : Fin 256) (c : Fin 16) (s : State), ∀ cmd st, s.stripe q.val c.val = some (cmd, st) → ∀ j,
    s.job q.val = some j → j.barrier = false → ∀ w, st.waitFrom = some w →
    (match s.nextReady q.val cmd st j with | some (_, _, ready) => ready | none => false) = true →
    let u := s.advanceTo (w + s.fbGet 0x7020 3 * 1000); let d := cmd.desc; ∀ a, (s.recs q.val d).a = some a → ∀ b,
    (s.recs q.val d).b = some b → ∀ o, (s.recs q.val d).out = some o →
    let ys := nextRows st (o.frc != 0); let need := ys.flatMap (inputRows (convWin d b) a.d2); u.reachSpans ((need.map (u.rowView q.val d a)).eraseDups.flatMap (fun v => v.spans (u.qAttr q.val) false)) = (Code.ok,
    u) →
    Does (.defusion q c) s (fun t => t.mem = (u.writeRows o.outView (ys.flatMap (fun y => convRow u d (u.rowView q.val d a) (j.inView b) ((u.recs q.val d).aux.map (fun x => j.inView x)) o y))).1.mem ∧
    (t.stripe q.val c.val).map (fun p => (p.2.computed, p.2.waitFrom)) = some (st.computed + ys.length, none) ∧
    t.job q.val = some j ∧ t = { u with mem := t.mem, unpub := t.unpub, eng := { s.eng with cmds := t.eng.cmds } }))

/-- KV_POOL, KV_POOL_CLOSE, SEQ_OPEN, SEQ_CLOSE, SEQ_READ and SPILL_FREE are served: state changed and reply written
(R128, R131, R132, R135, R391, R392, R393, R396). -/
def Obligations.KvPoolsAndSequences : Prop :=
  (∀ (m : Fin 64) (s : State), let r := s.mbRequest m.val; Asked s m.val 0x40 r →
    let p := poolOf (s.mbAttr m.val) r.payload; let i := payLe r.payload 0 1 % 16; s.poolChk (s.mbAttr m.val) i p = Code.ok →
    Does (.kvPool m) s (fun t => t.pool i = some p ∧ Answered s t m.val r Code.ok [] ∧
    MemKept (replySlot s m.val) (replySlot s m.val + 256) s t ∧ t.eng.rows = s.eng.rows ∧ t.eng.jobs = s.eng.jobs)) ∧
  (∀ (m : Fin 64) (s : State), let r := s.mbRequest m.val; Asked s m.val 0x40 r →
    let p := poolOf (s.mbAttr m.val) r.payload; let c := s.poolChk (s.mbAttr m.val) (payLe r.payload 0 1 % 16) p; c ≠ Code.ok →
    Does (.kvPool m) s (fun t => Answered s t m.val r c [] ∧ t.eng = s.eng)) ∧
  (∀ (m : Fin 64) (s : State), let r := s.mbRequest m.val; s.mbReady m.val = true → (s.mbox m.val).notices = [] →
    r.malformed = true → r.type = 0x40 →
    s.reach (s.mbAttr m.val) false (s.get (Reg.MBX_MB_REQ_BASE_BASE m.val) + 256 * s.get (Reg.MBX_MB_REQ_RPTR_RPTR m.val)) 256 = (.ok,
    s) → s.reach (s.mbAttr m.val) true (replySlot s m.val) 256 = (.ok, s) →
    (s.fwLogOf (serverFw (s.get (Reg.MBX_MB_CFG_SERVER m.val)))).pending = [] →
    Does (.kvPool m) s (fun t => Answered s t m.val r Code.eProto [] ∧
    t.fbGet 0x60E0 0xB = satAdd 32 (s.fbGet 0x60E0 0xB) 1 ∧ t.eng = s.eng)) ∧
  (∀ (m : Fin 64) (s : State), let r := s.mbRequest m.val; Asked s m.val 0x41 r →
    let i := payLe r.payload 0 1 % 16; ∀ p, s.pool i = some p → p.partition = (s.mbAttr m.val).partition →
    (s.eng.rows.any (fun x => s.inPool i x.1)) = false → Does (.kvPoolClose m) s (fun t => t.pool i = none ∧
    Answered s t m.val r Code.ok [] ∧ MemKept (replySlot s m.val) (replySlot s m.val + 256) s t ∧
    t.eng.rows = s.eng.rows)) ∧
  (∀ (m : Fin 64) (s : State), let r := s.mbRequest m.val; Asked s m.val 0x42 r → let w := payLe r.payload 0 4; ∀ p,
    s.pool (w % 16) = some p → p.partition = (s.mbAttr m.val).partition → ∀ n, s.freeRow = some n →
    (s.row n).pt = [] →
    replySlot s m.val + 256 ≤ s.eng.seqBase + 32 * n ∨ s.eng.seqBase + 32 * n + 32 ≤ replySlot s m.val →
    Does (.seqOpen m) s (fun t => ((t.row n).state, (t.row n).pool, (t.row n).prio, (t.row n).queue, (t.row n).newKv,
    (t.row n).len) = (1, w % 16, bitsOf w 15 8, bitsOf w 23 16, payLe r.payload 4 4, 0) ∧
    t.rd (s.eng.seqBase + 32 * n) 32 = (t.row n).bytes ∧ Answered s t m.val r Code.ok (leBytes 4 n) ∧
    MemKeptOff [(replySlot s m.val, replySlot s m.val + 256), (s.eng.seqBase + 32 * n,
    s.eng.seqBase + 32 * n + 32)] s t ∧ t.eng.pools = s.eng.pools)) ∧
  (∀ (m : Fin 64) (s : State), let r := s.mbRequest m.val; Asked s m.val 0x43 r →
    let n := payLe r.payload 0 4; s.foreignRow (s.mbAttr m.val) n = false →
    (s.row n).state = 1 ∨ (s.row n).state = 4 → (s.row n).pt = [] → Does (.seqClose m) s (fun t => t.row n = {} ∧
    Answered s t m.val r Code.ok [] ∧ MemKeptOff [(replySlot s m.val, replySlot s m.val + 256),
    (s.eng.seqBase + 32 * n, s.eng.seqBase + 32 * n + 32)] s t ∧ t.eng.pools = s.eng.pools)) ∧
  (∀ (m : Fin 64) (s : State), let r := s.mbRequest m.val; Asked s m.val 0x44 r →
    let n := payLe r.payload 0 4; s.foreignRow (s.mbAttr m.val) n = false → (s.row n).bytes.length ≤ 240 →
    Does (.seqRead m) s (fun t => Answered s t m.val r Code.ok (s.row n).bytes ∧
    MemKept (replySlot s m.val) (replySlot s m.val + 256) s t ∧ t.eng = s.eng)) ∧
  (∀ (m : Fin 64) (s : State), let r := s.mbRequest m.val; Asked s m.val 0x46 r →
    let n := payLe r.payload 0 4; s.foreignRow (s.mbAttr m.val) n = false → (s.row n).state = 3 →
    Does (.spillFree m) s (fun t => ((t.row n).state, (t.row n).len, (t.row n).pt) = (4, 0, []) ∧
    Answered s t m.val r Code.ok [] ∧ MemKeptOff ((replySlot s m.val,
    replySlot s m.val + 256) :: (s.eng.seqBase + 32 * n,
    s.eng.seqBase + 32 * n + 32) :: (s.row n).pt.map (fun e => ((s.row n).ptBase + 4 * e.1,
    (s.row n).ptBase + 4 * e.1 + 4))) s t ∧ t.eng.jobs = s.eng.jobs))

/-- KV_STEP opens the step of the transaction, writes the outcome and answers; a batch that cannot be served changes
nothing (R134, R143, R144, R145, R146). -/
def Obligations.KvStepTransaction : Prop :=
  (∀ (m : Fin 64) (s : State), let r := s.mbRequest m.val; Asked s m.val 0x45 r →
    let i := payLe r.payload 0 1 % 16; let a := payLe r.payload 8 8; a % 16 = 0 →
    s.reach (s.mbAttr m.val) false a 16 = (.ok, s) →
    s.reach (s.mbAttr m.val) false a (16 + 8 * min 4096 (s.rdLe (a + 8) 2)) = (.ok, s) →
    (s.stepChk (s.mbAttr m.val) i a).1 = Code.ok → ∀ out u, s.stepRun i a = some (out, u) →
    (s.reach (s.mbAttr m.val) true a (16 + 8 * out.length)).1 = .ok →
    a + 16 + 8 * out.length ≤ replySlot s m.val ∨ replySlot s m.val + 256 ≤ a → u.regs = s.regs →
    Does (.kvStep m) s (fun t => t.eng = u.eng ∧ (KMap.find t.eng.steps i).map (fun x => (x.queue,
    x.job)) = some (s.rdLe a 1, s.rdLe (a + 2) 2) ∧ t.rdLe (a + 0xA) 2 = out.length % 65536 ∧
    t.rdLe (a + 0xC) 4 = ((KMap.find u.eng.steps i).map KvStep.number).getD 0 % 2 ^ 32 ∧
    t.get (Reg.MBX_MB_REQ_RPTR_RPTR m.val) = (s.get (Reg.MBX_MB_REQ_RPTR_RPTR m.val) + 1) % s.mbSlots m.val % 256)) ∧
  (∀ (m : Fin 64) (s : State), let r := s.mbRequest m.val; Asked s m.val 0x45 r →
    let i := payLe r.payload 0 1 % 16; let a := payLe r.payload 8 8; a % 16 = 0 →
    s.reach (s.mbAttr m.val) false a 16 = (.ok, s) →
    s.reach (s.mbAttr m.val) false a (16 + 8 * min 4096 (s.rdLe (a + 8) 2)) = (.ok, s) →
    let q := s.stepChk (s.mbAttr m.val) i a; q.1 ≠ Code.ok →
    Does (.kvStep m) s (fun t => Answered s t m.val r q.1 (leBytes 4 q.2) ∧ t.eng = s.eng)) ∧
  (∀ (m : Fin 64) (s : State), let r := s.mbRequest m.val; Asked s m.val 0x45 r →
    let i := payLe r.payload 0 1 % 16; let a := payLe r.payload 8 8; a % 16 = 0 →
    s.reach (s.mbAttr m.val) false a 16 = (.ok, s) →
    s.reach (s.mbAttr m.val) false a (16 + 8 * min 4096 (s.rdLe (a + 8) 2)) = (.ok, s) →
    (s.stepChk (s.mbAttr m.val) i a).1 = Code.ok → s.stepRun i a = none →
    Does (.kvStep m) s (fun t => Answered s t m.val r Code.eKvExhausted (leBytes 4 0xFFFF) ∧
    t.fbGet 0x6040 7 = satAdd 32 (s.fbGet 0x6040 7) 1 ∧ t.eng = s.eng))

/-- TRAIN_OPEN, TRAIN_CKPT, TRAIN_CLOSE, COLL_GROUP and COLL_CLOSE are served: registrations made, moved and removed
(R149, R152, R179, R180, R393, R396). -/
def Obligations.TrainingAndGroupRequests : Prop :=
  (∀ (m : Fin 64) (s : State), let r := s.mbRequest m.val; Asked s m.val 0x47 r →
    let k := payLe r.payload 0 1; let a := payLe r.payload 8 8; a % 4096 = 0 →
    s.reach (s.mbAttr m.val) false a 256 = (.ok, s) →
    s.reach (s.mbAttr m.val) false a (256 + 64 * min 1024 (s.rdLe (a + 2) 2)) = (.ok, s) →
    (s.trainChk (s.mbAttr m.val) k a).1 = Code.ok →
    Does (.trainOpen m) s (fun t => KMap.find t.eng.train k = some ⟨a, s.rdLe (a + 8) 4, s.rdLe (a + 0xC) 4,
    s.rdLe (a + 0x10) 4, s.rdLe (a + 0x14) 4⟩ ∧ Answered s t m.val r Code.ok [] ∧
    MemKept (replySlot s m.val) (replySlot s m.val + 256) s t ∧ t.eng = { s.eng with train := t.eng.train })) ∧
  (∀ (m : Fin 64) (s : State), let r := s.mbRequest m.val; Asked s m.val 0x48 r →
    let k := payLe r.payload 0 1; s.get (qPartF k) = (s.mbAttr m.val).partition → ∀ g, s.training k = some g →
    Does (.trainCkpt m) s (fun t => KMap.find t.eng.train k = some { g with ckpt := payLe r.payload 4 4 } ∧
    Answered s t m.val r Code.ok [] ∧ MemKept (replySlot s m.val) (replySlot s m.val + 256) s t ∧
    t.eng = { s.eng with train := t.eng.train })) ∧
  (∀ (m : Fin 64) (s : State), let r := s.mbRequest m.val; Asked s m.val 0x49 r →
    let k := payLe r.payload 0 1; s.get (qPartF k) = (s.mbAttr m.val).partition → s.job k = none → ∀ g,
    s.training k = some g → Does (.trainClose m) s (fun t => KMap.find t.eng.train k = none ∧
    Answered s t m.val r Code.ok [] ∧ MemKept (replySlot s m.val) (replySlot s m.val + 256) s t ∧
    t.eng = { s.eng with train := t.eng.train })) ∧
  (∀ (m : Fin 64) (s : State), let r := s.mbRequest m.val; Asked s m.val 0x4A r →
    let w := payLe r.payload 0 4; let landing := payLe r.payload 8 8; let size := payLe r.payload 0x10 4; let n := ((List.range 4).filter (bitOf (bitsOf w 11 8))).length; 2 ≤ n →
    size ≠ 0 → size ≠ 2 ^ 32 - 1 → landing % 4096 = 0 → size % (4096 * n) = 0 → s.inDram landing size = true →
    s.get (qPartF (bitsOf w 23 16)) = (s.mbAttr m.val).partition →
    s.canReach (s.mbAttr m.val) true landing size = true → s.coll (w % 256) = none → s.groupJob (w % 256) = none →
    Does (.collGroup m) s (fun t => t.coll (w % 256) = some ⟨bitsOf w 11 8, bitsOf w 23 16,
    (s.mbAttr m.val).partition, landing, size⟩ ∧ Answered s t m.val r Code.ok [] ∧
    MemKept (replySlot s m.val) (replySlot s m.val + 256) s t ∧ t.eng = { s.eng with colls := t.eng.colls })) ∧
  (∀ (m : Fin 64) (s : State), let r := s.mbRequest m.val; Asked s m.val 0x4B r → let g := payLe r.payload 0 1; ∀ c,
    s.coll g = some c → c.partition = (s.mbAttr m.val).partition → s.groupJob g = none →
    Does (.collClose m) s (fun t => t.coll g = none ∧ Answered s t m.val r Code.ok [] ∧
    MemKept (replySlot s m.val) (replySlot s m.val + 256) s t ∧ t.eng = { s.eng with colls := t.eng.colls }))

/-- ATTACH, DETACH, LOG_READ, mailbox enable and disable, log flushes and heartbeats complete (R391, R393, R394, R395,
R396, R397, R399, R445). -/
def Obligations.MailboxRows : Prop :=
  (∀ (m : Fin 64) (s : State), let r := s.mbRequest m.val; Asked s m.val 1 r → offersOne r.payload = true →
    s.orphaned (s.mbAttr m.val).partition = false →
    Does (.attach m) s (fun t => t.bit (Reg.MBX_MB_STATUS_ATTACHED m.val) = true ∧
    t.get (Reg.MBX_MB_VERSION_MAJOR m.val) = 1 ∧ t.get (Reg.MBX_MB_VERSION_MINOR m.val) = 0 ∧
    (t.mbox m.val).epoch = (s.mbox m.val).epoch + 1 ∧
    Answered s t m.val r Code.ok (leBytes 4 256 ++ leBytes 4 ((s.mbox m.val).epoch + 1) ++ leBytes 4 0) ∧
    MemKept (replySlot s m.val) (replySlot s m.val + 256) s t)) ∧
  (∀ (m : Fin 64) (s : State), let r := s.mbRequest m.val; Asked s m.val 1 r → offersOne r.payload = false →
    (s.fwLogOf (serverFw (s.get (Reg.MBX_MB_CFG_SERVER m.val)))).pending = [] →
    Does (.attach m) s (fun t => Answered s t m.val r Code.eVersion [] ∧
    t.bit (Reg.MBX_MB_STATUS_ATTACHED m.val) = s.bit (Reg.MBX_MB_STATUS_ATTACHED m.val) ∧
    t.fbGet 0x60E0 0xC = satAdd 32 (s.fbGet 0x60E0 0xC) 1)) ∧
  (∀ (m : Fin 64) (s : State), let r := s.mbRequest m.val; Asked s m.val 2 r →
    bitOf (s.get Reg.MBX_HB_SUPER_SUPER) (s.mbAttr m.val).partition = false →
    Does (.detach m) s (fun t => t.bit (Reg.MBX_MB_STATUS_ATTACHED m.val) = false ∧ Answered s t m.val r Code.ok [] ∧
    MemKept (replySlot s m.val) (replySlot s m.val + 256) s t)) ∧
  (∀ (m : Fin 64) (s : State), let r := s.mbRequest m.val; Asked s m.val 7 r → s.superUser (s.mbAttr m.val) = true →
    let n := payLe r.payload 0 4; let k := payLe r.payload 8 4; n ≤ 22 → 0 < k →
    let i := (s.fwLogOf n).from (payLe r.payload 4 4); s.ringReach n i (min k ((s.fwLogOf n).count - i)) = (.ok, s) →
    let body := (List.range (min k ((s.fwLogOf n).count - i))).flatMap (fun j => s.logRecord n (i + j)); body.length ≤ 240 →
    body.all (fun b => b < 256) = true → Does (.logRead m) s (fun t => Answered s t m.val r Code.ok body ∧
    MemKept (replySlot s m.val) (replySlot s m.val + 256) s t ∧ t.fw.logs = s.fw.logs)) ∧
  (∀ (m : Fin 64) (s : State), let r := s.mbRequest m.val; Asked s m.val 7 r → s.superUser (s.mbAttr m.val) = false →
    payLe r.payload 0 4 ≤ 22 → 0 < payLe r.payload 8 4 →
    (s.fwLogOf (serverFw (s.get (Reg.MBX_MB_CFG_SERVER m.val)))).pending = [] →
    Does (.logRead m) s (fun t => Answered s t m.val r Code.eAccess [] ∧
    MemKept (replySlot s m.val) (replySlot s m.val + 256) s t)) ∧
  (∀ (who : Agent) (m : Fin 64) (v : BitVec 32) (s : State), Passes s who (Reg.MBX_MB_CFG_addr m.val) true →
    s.bit (Reg.MBX_MB_CFG_EN m.val) = false → bitsOf v.toNat 3 0 ≤ 6 → 4 ≤ bitsOf v.toNat 7 4 →
    bitsOf v.toNat 7 4 ≤ 8 → s.get (Reg.MBX_MB_REQ_BASE_BASE m.val) % 4096 = 0 →
    s.get (Reg.MBX_MB_RPL_BASE_BASE m.val) % 4096 = 0 →
    Does (.mailboxEnable who m v) s (fun t => t.bit (Reg.MBX_MB_CFG_EN m.val) = true ∧
    t.get (Reg.MBX_MB_CFG_PARTITION m.val) = bitsOf v.toNat 29 24 ∧
    t.get (Reg.MBX_MB_CFG_SERVER m.val) = bitsOf v.toNat 3 0 ∧
    t.get (Reg.MBX_MB_CFG_LOG2 m.val) = bitsOf v.toNat 7 4 ∧ t.get (Reg.MBX_MB_CSTATUS_LAST m.val) = Code.ok ∧
    t.get (Reg.MBX_MB_REQ_WPTR_WPTR m.val) = 0 ∧ t.get (Reg.MBX_MB_REQ_RPTR_RPTR m.val) = 0 ∧
    (t.mbox m.val).notices = [] ∧ t.mem = s.mem ∧ t.datum = s.datum)) ∧
  (∀ (who : Agent) (m : Fin 64) (v : BitVec 32) (s : State), Passes s who (Reg.MBX_MB_CFG_addr m.val) true →
    s.bit (Reg.MBX_MB_CFG_EN m.val) = false →
    6 < bitsOf v.toNat 3 0 ∨ bitsOf v.toNat 7 4 < 4 ∨ 8 < bitsOf v.toNat 7 4 →
    Does (.mailboxEnable who m v) s (fun t => t.get (Reg.MBX_MB_CSTATUS_LAST m.val) = Code.eIllegal ∧
    OnlyRegs [Reg.MBX_MB_CSTATUS_LAST m.val] [] s t)) ∧
  (∀ (who : Agent) (m : Fin 64) (v : BitVec 32) (s : State), Passes s who (Reg.MBX_MB_CFG_addr m.val) true →
    s.bit (Reg.MBX_MB_CFG_EN m.val) = true → s.get Reg.MBX_HB_SUPER_SUPER = 0 →
    Does (.mailboxDisable who m v) s (fun t => t.bit (Reg.MBX_MB_CFG_EN m.val) = false ∧
    t.bit (Reg.MBX_MB_STATUS_ATTACHED m.val) = false ∧
    t.get (Reg.MBX_MB_CFG_PARTITION m.val) = s.get (Reg.MBX_MB_CFG_PARTITION m.val) ∧ t.mem = s.mem ∧
    t.datum = s.datum)) ∧
  (∀ (n : Fin 23) (s : State), ∀ l, KMap.find s.fw.logs n.val = some l →
    Does (.logFlush n) s (fun t => (t.fwLogOf n.val).pending = [] ∧ (t.fwLogOf n.val).count = l.count ∧
    t.eng = s.eng ∧ t.datum = s.datum)) ∧
  (∀ (who : Agent) (s : State), Passes s who Reg.MBX_HB_KICK_addr true →
    s.orphaned (s.attrOf who).partition = false →
    Does (.heartbeatKick who) s (fun t => KMap.find t.fw.kick (s.attrOf who).partition = some s.datum ∧
    t = { s with resp := t.resp, fw := { s.fw with kick := t.fw.kick } })) ∧
  (∀ (p : Fin 64) (s : State), bitOf (s.get Reg.MBX_HB_SUPER_SUPER) p.val = true → s.orphaned p.val = false →
    Does (.heartbeatLapse p) s (fun t => t.orphaned p.val = true ∧
    t.datum = max s.datum (KMap.getD s.fw.kick p.val 0 + s.fbGet 0x7600 1 * 1000000 + 1) ∧
    t.fbGet 0x60E0 3 = satAdd 32 (s.fbGet 0x60E0 3) 1 ∧ bitOf t.fw.kicked p.val = false)) ∧
  (∀ (p : Fin 64) (s : State), bitOf (s.get Reg.MBX_HB_SUPER_SUPER) p.val = false →
    Does (.heartbeatLapse p) s (fun t => t = s))

/-- QUEUE_ENABLE and QUEUE_DISABLE follow the EN rule: checked as a whole, pointers start at 0, a clear with an
admitted job is busy (R158, R171, R173, R189, R445). -/
def Obligations.QueueEnableRule : Prop :=
  (∀ (who : Agent) (eng : Engine) (q : Fin 256) (v : BitVec 32) (s : State),
    let k := qKey eng q.val; Passes s who (qAttrAddr k) true → s.bit (qEn k) = false →
    ((s.setAll (queueReg k v.toNat).locked).setAll (queueReg k v.toNat).free).queueCheck k = Code.ok →
    Does (.queueEnable who eng q v) s (fun t => t.bit (qEn k) = true ∧ t.bit (qEnCopy k) = true ∧ [qRptr k, qWptr k,
    qCplWptr k, qCplRptr k, qCseq k].all (fun f => t.get f == 0) = true ∧ t.get (qPrioF k) = bitsOf v.toNat 26 24 ∧
    t.get (qPartF k) = bitsOf v.toNat 13 8 ∧ t.get (qSecureF k) = bitsOf v.toNat 15 15 ∧
    t.get (qCompatF k) = bitsOf v.toNat 30 30 ∧ t.get (qStatusF k) = Code.ok ∧ OnlyRegs [qEn k, qEnCopy k, qRptr k,
    qWptr k, qCplWptr k, qCplRptr k, qCseq k, qStopped k, qPrioF k, qPartF k, qSecureF k, qCompatF k, qVteEnF k,
    qVteF k, qStatusF k] [] s t)) ∧
  (∀ (who : Agent) (eng : Engine) (q : Fin 256) (v : BitVec 32) (s : State),
    let k := qKey eng q.val; Passes s who (qAttrAddr k) true → s.bit (qEn k) = false →
    let c := ((s.setAll (queueReg k v.toNat).locked).setAll (queueReg k v.toNat).free).queueCheck k; c ≠ Code.ok →
    Does (.queueEnable who eng q v) s (fun t => t.get (qStatusF k) = c ∧ t.bit (qEn k) = false ∧
    OnlyRegs [qStatusF k] [] s t)) ∧
  (∀ (who : Agent) (eng : Engine) (q : Fin 256) (v : BitVec 32) (s : State),
    let k := qKey eng q.val; Passes s who (qAttrAddr k) true → s.bit (qEn k) = true →
    Does (.queueEnable who eng q v) s (fun t => t.get (qPrioF k) = bitsOf v.toNat 26 24 ∧
    t.get (qStatusF k) = (if s.get (qPartF k) = bitsOf v.toNat 13 8 ∧ s.get (qSecureF k) = bitsOf v.toNat 15 15 ∧
    s.get (qCompatF k) = bitsOf v.toNat 30 30 ∧ s.get (qVteEnF k) = bitsOf v.toNat 21 21 ∧
    s.get (qVteF k) = bitsOf v.toNat 20 16 then Code.ok else Code.eState) ∧ OnlyRegs [qPrioF k, qStatusF k] [] s t)) ∧
  (∀ (who : Agent) (eng : Engine) (q : Fin 256) (v : BitVec 32) (s : State),
    let k := qKey eng q.val; Passes s who (qAttrAddr k) true → s.bit (qEn k) = true → s.job k = none →
    Does (.queueDisable who eng q v) s (fun t => t.bit (qEn k) = false ∧ t.bit (qEnCopy k) = false ∧
    t.get (qPrioF k) = bitsOf v.toNat 26 24 ∧ OnlyRegs [qEn k, qEnCopy k, qPrioF k, qStatusF k] [] s t)) ∧
  (∀ (who : Agent) (eng : Engine) (q : Fin 256) (v : BitVec 32) (s : State),
    let k := qKey eng q.val; Passes s who (qAttrAddr k) true → s.bit (qEn k) = true → ∀ j, s.job k = some j →
    Does (.queueDisable who eng q v) s (fun t => t.bit (qEn k) = true ∧ t.get (qStatusF k) = Code.eBusy ∧
    OnlyRegs [qStatusF k] [] s t)) ∧
  (∀ (who : Agent) (eng : Engine) (q : Fin 256) (v : BitVec 32) (s : State),
    let k := qKey eng q.val; Passes s who (qAttrAddr k) true → s.bit (qEn k) = false →
    Does (.queueDisable who eng q v) s (fun t => t.get (qPrioF k) = bitsOf v.toNat 26 24 ∧
    t.get (qPartF k) = bitsOf v.toNat 13 8 ∧ t.get (qStatusF k) = Code.ok ∧ OnlyRegs [qPrioF k, qPartF k, qSecureF k,
    qCompatF k, qVteEnF k, qVteF k, qStatusF k] [] s t))

/-- Channel groups and cache ways are reassigned only unlocked and idle; the lock freezes them; a cleaned way sets its
event (R166, R167, R168). -/
def Obligations.MemoryPartitionRegisters : Prop :=
  (∀ (who : Agent) (s : State), Passes s who Reg.DDR_PART_LOCK_addr true →
    Does (.partitionLock who) s (fun t => t.bit Reg.DDR_PART_LOCK_LOCK = true ∧
    OnlyRegs [Reg.DDR_PART_LOCK_LOCK] [] s t)) ∧
  (∀ (who : Agent) (g : Fin 12) (o : BitVec 6) (r : BitVec 11) (s : State),
    Passes s who (Reg.DDR_CG_CTRL_addr g.val) true → s.bit Reg.DDR_PART_LOCK_LOCK = true → 512 ≤ r.toNat →
    r.toNat ≤ 1024 → bitOf (s.get (Reg.DDR_CG_SHARE_SHARERS g.val)) o.toNat = false →
    Does (.channelGroupOwnerWrite who g o r) s (fun t => t.get Reg.DDR_CMD_STATUS_STATUS = Code.eState ∧
    OnlyRegs [Reg.DDR_CMD_STATUS_STATUS] [] s t)) ∧
  (∀ (who : Agent) (g : Fin 12) (o : BitVec 6) (r : BitVec 11) (s : State),
    Passes s who (Reg.DDR_CG_CTRL_addr g.val) true → s.bit Reg.DDR_PART_LOCK_LOCK = false → 512 ≤ r.toNat →
    r.toNat ≤ 1024 → bitOf (s.get (Reg.DDR_CG_SHARE_SHARERS g.val)) o.toNat = false →
    s.removesHeld g.val o.toNat (s.get (Reg.DDR_CG_SHARE_SHARERS g.val)) = false →
    Does (.channelGroupOwnerWrite who g o r) s (fun t => t.get (Reg.DDR_CG_CTRL_OWNER g.val) = o.toNat ∧
    t.get (Reg.DDR_CG_CTRL_OWNER_RES g.val) = r.toNat ∧ t.get Reg.DDR_CMD_STATUS_STATUS = Code.ok ∧
    OnlyRegs [Reg.DDR_CG_CTRL_OWNER g.val, Reg.DDR_CG_CTRL_OWNER_RES g.val, Reg.DDR_CMD_STATUS_STATUS] [] s t)) ∧
  (∀ (who : Agent) (g : Fin 12) (o : BitVec 6) (r : BitVec 11) (s : State),
    Passes s who (Reg.DDR_CG_CTRL_addr g.val) true →
    r.toNat < 512 ∨ 1024 < r.toNat ∨ bitOf (s.get (Reg.DDR_CG_SHARE_SHARERS g.val)) o.toNat = true →
    Does (.channelGroupOwnerWrite who g o r) s (fun t => t.get Reg.DDR_CMD_STATUS_STATUS = Code.eIllegal ∧
    OnlyRegs [Reg.DDR_CMD_STATUS_STATUS] [] s t)) ∧
  (∀ (who : Agent) (g : Fin 12) (o : BitVec 6) (r : BitVec 11) (s : State),
    Passes s who (Reg.DDR_CG_CTRL_addr g.val) true → s.bit Reg.DDR_PART_LOCK_LOCK = false → 512 ≤ r.toNat →
    r.toNat ≤ 1024 → bitOf (s.get (Reg.DDR_CG_SHARE_SHARERS g.val)) o.toNat = false →
    s.removesHeld g.val o.toNat (s.get (Reg.DDR_CG_SHARE_SHARERS g.val)) = true →
    Does (.channelGroupOwnerWrite who g o r) s (fun t => t.get Reg.DDR_CMD_STATUS_STATUS = Code.eBusy ∧
    OnlyRegs [Reg.DDR_CMD_STATUS_STATUS] [] s t)) ∧
  (∀ (who : Agent) (g : Fin 12) (m : BitVec 64) (s : State), Passes s who (Reg.DDR_CG_SHARE_addr g.val) true →
    s.bit Reg.DDR_PART_LOCK_LOCK = false → bitOf m.toNat (s.get (Reg.DDR_CG_CTRL_OWNER g.val)) = false →
    s.removesHeld g.val (s.get (Reg.DDR_CG_CTRL_OWNER g.val)) m.toNat = false →
    Does (.channelGroupShareWrite who g m) s (fun t => t.get (Reg.DDR_CG_SHARE_SHARERS g.val) = m.toNat ∧
    t.get Reg.DDR_CMD_STATUS_STATUS = Code.ok ∧ OnlyRegs [Reg.DDR_CG_SHARE_SHARERS g.val,
    Reg.DDR_CMD_STATUS_STATUS] [] s t)) ∧
  (∀ (who : Agent) (g : Fin 12) (m : BitVec 64) (s : State), Passes s who (Reg.DDR_CG_SHARE_addr g.val) true →
    bitOf m.toNat (s.get (Reg.DDR_CG_CTRL_OWNER g.val)) = true →
    Does (.channelGroupShareWrite who g m) s (fun t => t.get Reg.DDR_CMD_STATUS_STATUS = Code.eIllegal ∧
    OnlyRegs [Reg.DDR_CMD_STATUS_STATUS] [] s t)) ∧
  (∀ (who : Agent) (g : Fin 12) (m : BitVec 64) (s : State), Passes s who (Reg.DDR_CG_SHARE_addr g.val) true →
    s.bit Reg.DDR_PART_LOCK_LOCK = true → bitOf m.toNat (s.get (Reg.DDR_CG_CTRL_OWNER g.val)) = false →
    Does (.channelGroupShareWrite who g m) s (fun t => t.get Reg.DDR_CMD_STATUS_STATUS = Code.eState ∧
    OnlyRegs [Reg.DDR_CMD_STATUS_STATUS] [] s t)) ∧
  (∀ (who : Agent) (r : Fin 4) (v : BitVec 32) (s : State), Passes s who (Reg.DDR_WAY_MAP_addr r.val) true →
    s.bit Reg.DDR_PART_LOCK_LOCK = false → s.eng.cleaning = [] →
    Does (.wayMapWrite who r v) s (fun t => (List.range 4).all (fun i => t.get (wayOwner (4 * r.val + i)) == bitsOf v.toNat (8 * i + 5) (8 * i)) = true ∧
    (List.range 16).all (fun w => t.eng.cleaning.contains w == (s.get (wayOwner w) != t.get (wayOwner w))) = true ∧
    t.get Reg.DDR_CMD_STATUS_STATUS = Code.ok ∧
    RegsKept (Reg.DDR_CMD_STATUS_STATUS :: (List.range 4).map (fun i => wayOwner (4 * r.val + i))) s t ∧
    t = { s with regs := t.regs, resp := t.resp, eng := { s.eng with cleaning := t.eng.cleaning } })) ∧
  (∀ (who : Agent) (r : Fin 4) (v : BitVec 32) (s : State), Passes s who (Reg.DDR_WAY_MAP_addr r.val) true →
    s.bit Reg.DDR_PART_LOCK_LOCK = false → s.eng.cleaning ≠ [] →
    Does (.wayMapWrite who r v) s (fun t => t.get Reg.DDR_CMD_STATUS_STATUS = Code.eBusy ∧
    OnlyRegs [Reg.DDR_CMD_STATUS_STATUS] [] s t)) ∧
  (∀ (who : Agent) (r : Fin 4) (v : BitVec 32) (s : State), Passes s who (Reg.DDR_WAY_MAP_addr r.val) true →
    s.bit Reg.DDR_PART_LOCK_LOCK = true →
    Does (.wayMapWrite who r v) s (fun t => t.get Reg.DDR_CMD_STATUS_STATUS = Code.eState ∧
    OnlyRegs [Reg.DDR_CMD_STATUS_STATUS] [] s t)) ∧
  (∀ (w : Fin 16) (s : State), s.eng.cleaning.contains w.val = true →
    Does (.wayCleanDone w) s (fun t => t.eng.cleaning.contains w.val = false ∧
    (List.range 16).all (fun x => x == w.val || t.eng.cleaning.contains x == s.eng.cleaning.contains x) = true ∧
    t.bit Reg.DDR_EVENTS_WAY_CLEAN = true ∧ RegsKept [Reg.DDR_EVENTS_WAY_CLEAN] s t ∧
    t = { s with regs := t.regs, eng := { s.eng with cleaning := t.eng.cleaning } })) ∧
  (∀ (w : Fin 16) (s : State), s.eng.cleaning.contains w.val = false → Does (.wayCleanDone w) s (fun t => t = s))

/-- A VTE enables with its share present, freezes to its image, and restores; wrong states are refused (R6, R171,
R172, R173, R174, R175). -/
def Obligations.VirtualEngines : Prop :=
  (∀ (who : Agent) (v : Fin 32) (val : BitVec 32) (s : State), Passes s who (Reg.MBX_VTE_CTRL_addr v.val) true →
    s.bit (Reg.MBX_VTE_CTRL_EN v.val) = false →
    (clusterList (s.get (Reg.MBX_VTE_SHARE_CLUSTERS v.val))).all (fun c => s.clusterOn c) = true →
    Does (.vteEnable who v val) s (fun t => t.bit (Reg.MBX_VTE_CTRL_EN v.val) = true ∧
    t.get (Reg.MBX_VTE_CTRL_PARTITION v.val) = bitsOf val.toNat 13 8 ∧ t.vteState v.val = 1 ∧
    t.get (Reg.MBX_VTE_STATUS_CODE v.val) = Code.ok ∧ OnlyRegs [Reg.MBX_VTE_CTRL_EN v.val,
    Reg.MBX_VTE_CTRL_PARTITION v.val, Reg.MBX_VTE_CTRL_IMMEDIATE v.val, Reg.MBX_VTE_STATUS_STATE v.val,
    Reg.MBX_VTE_STATUS_CODE v.val] [] s t)) ∧
  (∀ (who : Agent) (v : Fin 32) (val : BitVec 32) (s : State), Passes s who (Reg.MBX_VTE_CTRL_addr v.val) true →
    s.bit (Reg.MBX_VTE_CTRL_EN v.val) = false →
    (clusterList (s.get (Reg.MBX_VTE_SHARE_CLUSTERS v.val))).any (fun c => !s.clusterOn c) = true →
    Does (.vteEnable who v val) s (fun t => t.bit (Reg.MBX_VTE_CTRL_EN v.val) = false ∧
    t.get (Reg.MBX_VTE_STATUS_CODE v.val) = Code.eUnavailable ∧ OnlyRegs [Reg.MBX_VTE_STATUS_CODE v.val] [] s t)) ∧
  (∀ (who : Agent) (v : Fin 32) (val : BitVec 32) (s : State), Passes s who (Reg.MBX_VTE_CTRL_addr v.val) true →
    s.bit (Reg.MBX_VTE_CTRL_EN v.val) = true → s.get (Reg.MBX_VTE_STATUS_STATE v.val) = 1 → s.vteQueues v.val = [] →
    Does (.vteDisable who v val) s (fun t => t.bit (Reg.MBX_VTE_CTRL_EN v.val) = false ∧ t.vteState v.val = 0 ∧
    OnlyRegs [Reg.MBX_VTE_CTRL_EN v.val, Reg.MBX_VTE_CTRL_IMMEDIATE v.val, Reg.MBX_VTE_STATUS_STATE v.val,
    Reg.MBX_VTE_STATUS_CODE v.val] [] s t)) ∧
  (∀ (who : Agent) (v : Fin 32) (val : BitVec 32) (s : State), Passes s who (Reg.MBX_VTE_CTRL_addr v.val) true →
    s.bit (Reg.MBX_VTE_CTRL_EN v.val) = true → s.get (Reg.MBX_VTE_STATUS_STATE v.val) = 1 → s.vteQueues v.val ≠ [] →
    Does (.vteDisable who v val) s (fun t => t.bit (Reg.MBX_VTE_CTRL_EN v.val) = true ∧
    t.get (Reg.MBX_VTE_STATUS_CODE v.val) = Code.eBusy ∧ OnlyRegs [Reg.MBX_VTE_STATUS_CODE v.val] [] s t)) ∧
  (∀ (who : Agent) (v : Fin 32) (imm : Bool) (s : State), Passes s who (Reg.MBX_VTE_CTRL_addr v.val) true →
    s.bit (Reg.MBX_VTE_CTRL_EN v.val) = true → s.get (Reg.MBX_VTE_STATUS_STATE v.val) = 1 → imm = false →
    Does (.vteFreeze who v imm) s (fun t => t.vteState v.val = 2 ∧ t.get (Reg.MBX_VTE_STATUS_CODE v.val) = Code.ok ∧
    OnlyRegs [Reg.MBX_VTE_CTRL_IMMEDIATE v.val, Reg.MBX_VTE_STATUS_STATE v.val,
    Reg.MBX_VTE_STATUS_CODE v.val] [] s t)) ∧
  (∀ (who : Agent) (v : Fin 32) (imm : Bool) (s : State), Passes s who (Reg.MBX_VTE_CTRL_addr v.val) true →
    s.bit (Reg.MBX_VTE_CTRL_EN v.val) = true → s.vteState v.val = 2 ∨ s.vteState v.val = 4 →
    Does (.vteFreeze who v imm) s (fun t => t.vteState v.val = s.vteState v.val ∧
    t.get (Reg.MBX_VTE_STATUS_CODE v.val) = Code.eBusy ∧ OnlyRegs [Reg.MBX_VTE_CTRL_IMMEDIATE v.val,
    Reg.MBX_VTE_STATUS_CODE v.val] [] s t)) ∧
  (∀ (who : Agent) (v : Fin 32) (imm : Bool) (s : State), Passes s who (Reg.MBX_VTE_CTRL_addr v.val) true →
    s.vteState v.val = 0 ∨ s.vteState v.val = 3 →
    Does (.vteFreeze who v imm) s (fun t => t.vteState v.val = s.vteState v.val ∧
    t.get (Reg.MBX_VTE_STATUS_CODE v.val) = Code.eState ∧ t = { s with regs := t.regs, resp := t.resp })) ∧
  (∀ (v : Fin 32) (s : State), s.get (Reg.MBX_VTE_STATUS_STATE v.val) = 2 →
    (s.vteQueues v.val).all (fun q => (s.job q).isNone) = true →
    s.eng.steps.filter (fun p => (s.vteQueues v.val).contains p.2.queue) = [] →
    let body := s.imageBody v.val; body.length ≤ 0x100000 → ∀ key, s.imageKey = some key →
    let a := s.get (Reg.MBX_VTE_IMAGE_ADDR v.val); s.reach ⟨true, 0⟩ true a body.length = (.ok, s) →
    Does (.vteFreezeComplete v) s (fun t => t.vteState v.val = 3 ∧
    t.get (Reg.MBX_VTE_IMAGE_LEN_LEN v.val) = body.length ∧ t.get (Reg.MBX_VTE_STATUS_CODE v.val) = Code.ok ∧
    t.fbGet 0x6030 0xC = satAdd 32 (s.fbGet 0x6030 0xC) 1 ∧ MemKept a (a + body.length) s t ∧
    t.rd a body.length = (body.take 0xF8 ++ imageMac key body ++ body.drop 0x100).map (fun x => x % 256) ∧
    t.eng = s.eng)) ∧
  (∀ (v : Fin 32) (s : State), s.vteState v.val ≠ 2 → Does (.vteFreezeComplete v) s (fun t => t = s)) ∧
  (∀ (v : Fin 32) (s : State), s.get (Reg.MBX_VTE_STATUS_STATE v.val) = 2 →
    (s.vteQueues v.val).all (fun q => (s.job q).isNone) = true →
    s.eng.steps.filter (fun p => (s.vteQueues v.val).contains p.2.queue) = [] →
    0x100000 < (s.imageBody v.val).length ∨ s.imageKey = none →
    Does (.vteFreezeComplete v) s (fun t => t.vteState v.val = 1 ∧
    t.get (Reg.MBX_VTE_STATUS_CODE v.val) = (if 0x100000 < (s.imageBody v.val).length then Code.eBounds else Code.eKeyUse) ∧
    OnlyRegs [Reg.MBX_VTE_STATUS_STATE v.val, Reg.MBX_VTE_STATUS_CODE v.val] [] s t)) ∧
  (∀ (who : Agent) (v : Fin 32) (imm : Bool) (s : State), Passes s who (Reg.MBX_VTE_CTRL_addr v.val) true →
    s.get (Reg.MBX_VTE_STATUS_STATE v.val) = 0 → s.bit (Reg.MBX_VTE_CTRL_EN v.val) = false →
    let a := s.get (Reg.MBX_VTE_IMAGE_ADDR v.val); a % 4096 = 0 → s.canReach ⟨true, 0⟩ false a 0x100000 = true →
    s.imageChk v.val a ≠ Code.ok → Does (.vteRestore who v imm) s (fun t => t.vteState v.val = 0 ∧
    t.bit (Reg.MBX_VTE_CTRL_EN v.val) = false ∧ t.get (Reg.MBX_VTE_STATUS_CODE v.val) = s.imageChk v.val a ∧
    t.mem = s.mem ∧ t.eng = s.eng)) ∧
  (∀ (who : Agent) (v : Fin 32) (imm : Bool) (s : State), Passes s who (Reg.MBX_VTE_CTRL_addr v.val) true →
    s.get (Reg.MBX_VTE_STATUS_STATE v.val) = 0 → s.bit (Reg.MBX_VTE_CTRL_EN v.val) = false →
    let a := s.get (Reg.MBX_VTE_IMAGE_ADDR v.val); a % 4096 = 0 → s.canReach ⟨true, 0⟩ false a 0x100000 = true →
    s.imageChk v.val a = Code.ok → s.mer.windows = [] →
    Does (.vteRestore who v imm) s (fun t => t.vteState v.val = 1 ∧ t.bit (Reg.MBX_VTE_CTRL_EN v.val) = true ∧
    t.get (Reg.MBX_VTE_STATUS_CODE v.val) = Code.ok ∧
    t.get (Reg.MBX_VTE_CTRL_PARTITION v.val) = s.rdLe (a + 9) 1 % 64 ∧
    t.get (Reg.MBX_VTE_SHARE_CLUSTERS v.val) = s.rdLe (a + 0x10) 2 ∧
    t.get (Reg.MBX_VTE_SHARE_TILES v.val) = s.rdLe (a + 0x12) 1 ∧
    t.fbGet 0x6030 0xD = satAdd 32 (s.fbGet 0x6030 0xD) 1 ∧ t.eng.jobs = s.eng.jobs)) ∧
  (∀ (who : Agent) (v : Fin 32) (imm : Bool) (s : State), Passes s who (Reg.MBX_VTE_CTRL_addr v.val) true →
    s.get (Reg.MBX_VTE_STATUS_STATE v.val) = 1 → s.bit (Reg.MBX_VTE_CTRL_EN v.val) = true →
    Does (.vteRestore who v imm) s (fun t => t.vteState v.val = 1 ∧
    t.get (Reg.MBX_VTE_STATUS_CODE v.val) = Code.eState ∧ t = { s with regs := t.regs, resp := t.resp })) ∧
  (∀ (who : Agent) (v : Fin 32) (imm : Bool) (s : State), Passes s who (Reg.MBX_VTE_CTRL_addr v.val) true →
    s.get (Reg.MBX_VTE_STATUS_STATE v.val) = 3 → s.bit (Reg.MBX_VTE_CTRL_EN v.val) = true → s.mer.windows = [] →
    Does (.vteRestore who v imm) s (fun t => t.vteState v.val = 1 ∧ t.get (Reg.MBX_VTE_STATUS_CODE v.val) = Code.ok ∧
    t.mem = s.mem))

/-- Heartbeats, lost peers and the messages of a job over several packages (R177, R178). -/
def Obligations.PeersAndCollectives : Prop :=
  (∀ (s : State), Does .heartbeatSend s (fun t => t.out = s.out ++ (s.others s.present).map Output.peerHeartbeat ∧
    t = { s with out := t.out })) ∧
  (∀ (p : Fin 4) (s : State), bitOf s.present p.val = true → p.val ≠ s.package → (s.peer p.val).lost = false →
    Does (.heartbeatReceived p) s (fun t => t.peer p.val = { last := s.datum } ∧
    t = { s with eng := { s.eng with peers := t.eng.peers } })) ∧
  (∀ (p : Fin 4) (s : State), bitOf s.present p.val = true → p.val ≠ s.package → (s.peer p.val).lost = true →
    (s.peer p.val).streak < 2 ∨ (s.peer p.val).last + 2000000 ≤ s.datum →
    Does (.heartbeatReceived p) s (fun t => t.peer p.val = { last := s.datum, streak := if s.datum < (s.peer p.val).last + 2000000 then (s.peer p.val).streak + 1 else 1, lost := true } ∧
    t = { s with eng := { s.eng with peers := t.eng.peers } })) ∧
  (∀ (p : Fin 4) (s : State), bitOf s.present p.val = true → p.val ≠ s.package → (s.peer p.val).lost = true →
    2 ≤ (s.peer p.val).streak → s.datum < (s.peer p.val).last + 2000000 →
    Does (.heartbeatReceived p) s (fun t => t.peer p.val = { last := s.datum } ∧ t.mem = s.mem ∧ t.datum = s.datum)) ∧
  (∀ (p : Fin 4) (s : State), bitOf s.present p.val = false ∨ p.val = s.package →
    Does (.heartbeatReceived p) s (fun t => t = s)) ∧
  (∀ (p : Fin 4) (s : State), bitOf s.present p.val = true → p.val ≠ s.package → (s.peer p.val).lost = false →
    s.eng.jobs = [] → s.mer.windows = [] → Does (.peerLost p) s (fun t => (t.peer p.val).lost = true ∧
    t.fbGet 0x6030 0xF = satAdd 32 (s.fbGet 0x6030 0xF) 1 ∧ t.bit Reg.SAF_STATE_PEER_LOST = true ∧
    t.datum = max s.datum ((s.peer p.val).last + 3000000) ∧ t.mem = s.mem)) ∧
  (∀ (p : Fin 4) (s : State), KMap.find s.eng.killsOut p.val = none → Does (.killAckTimeout p) s (fun t => t = s)) ∧
  (∀ (p : Fin 4) (s : State), ∀ k, KMap.find s.eng.killsOut p.val = some k → bitOf s.present p.val = true →
    p.val ≠ s.package → (s.peer p.val).lost = false → s.eng.jobs = [] → s.mer.windows = [] →
    Does (.killAckTimeout p) s (fun t => (t.peer p.val).lost = true ∧
    t.fbGet 0x6030 0xF = satAdd 32 (s.fbGet 0x6030 0xF) 1 ∧ t.bit Reg.SAF_STATE_PEER_LOST = true ∧
    t.datum = max s.datum (k + s.fbGet 0x7004 3 * 1000) ∧ KMap.find t.eng.killsOut p.val = none ∧ t.mem = s.mem)) ∧
  (∀ (g : BitVec 8) (p : Fin 4) (cyc : BitVec 32) (s : State), ∀ k j, s.groupJob g.toNat = some (k, j) → ∀ c,
    s.coll g.toNat = some c → leadOf c.packages = s.package → bitOf c.packages p.val = true → (s.cmd k).isNone →
    Does (.collReady g p cyc) s (fun t => KMap.find t.eng.jobs k = some { j with ready := j.ready ||| 2 ^ p.val } ∧
    t.mem = s.mem ∧ t.datum = s.datum)) ∧
  (∀ (g : BitVec 8) (p : Fin 4) (cyc : BitVec 32) (s : State), s.coll g.toNat = none →
    Does (.collReady g p cyc) s (fun t => t = s)) ∧
  (∀ (g : BitVec 8) (cyc : BitVec 32) (s : State), ∀ k j, s.groupJob g.toNat = some (k, j) → ∀ c,
    s.coll g.toNat = some c → ∀ cmd, s.cmd k = some cmd → cmd.desc.opcode = 0x11 → cmd.waiting = true →
    leadOf c.packages ≠ s.package → s.mer.windows = [] → Does (.collGo g cyc) s (fun t => t.job k = none ∧
    t.cmd k = none ∧ t.bit (qAdmitted k) = false ∧ Output.jobMessage (leadOf c.packages) g.toNat .ack ∈ t.out)) ∧
  (∀ (g : BitVec 8) (p : Fin 4) (code : BitVec 16) (s : State), ∀ k j, s.groupJob g.toNat = some (k, j) → ∀ c,
    s.coll g.toNat = some c → code = 0 →
    Does (.collKill g p code) s (fun t => KMap.find t.eng.jobs k = some { j with ready := 0 } ∧ t.cmd k = none ∧
    t.datum = s.datum)) ∧
  (∀ (g : BitVec 8) (p : Fin 4) (code : BitVec 16) (s : State), ∀ k j, s.groupJob g.toNat = some (k, j) → ∀ c,
    s.coll g.toNat = some c → code ≠ 0 → s.linkedQueues k = [k] → leadOf c.packages ≠ s.package →
    Does (.collKill g p code) s (fun t => KMap.find t.eng.jobs k = some { j with ready := 0, held := true } ∧
    t.cmd k = none ∧ t.fbGet 0x6030 3 = satAdd 32 (s.fbGet 0x6030 3) 1 ∧ t.datum = s.datum)) ∧
  (∀ (g : BitVec 8) (s : State), ∀ k j, s.groupJob g.toNat = some (k, j) → s.mer.windows = [] →
    Does (.collRestart g) s (fun t => t.job k = none ∧ t.cmd k = none ∧ t.bit (qAdmitted k) = false)) ∧
  (∀ (g : BitVec 8) (s : State), ∀ k j, s.groupJob g.toNat = some (k, j) → ∀ w, s.jobWindow j = some w →
    Does (.collRestart g) s (fun t => t.get (qRptr k) = j.first % 2 ^ (qRptr k).width ∧
    (KMap.find t.eng.jobs k).any (fun x => x.restarted && !x.held && x.ready == 0 && x.cycles == 0) = true ∧
    t.cmd k = none ∧ t.fbGet 0x6030 4 = satAdd 32 (s.fbGet 0x6030 4) 1)) ∧
  (∀ (g : BitVec 8) (code : BitVec 16) (p : Fin 4) (s : State), ∀ k j, s.groupJob g.toNat = some (k, j) →
    s.mer.windows = [] → Does (.collEnd g code p) s (fun t => t.job k = none ∧ t.cmd k = none ∧
    t.bit (qAdmitted k) = false)) ∧
  (∀ (g : BitVec 8) (code : BitVec 16) (p : Fin 4) (s : State), s.groupJob g.toNat = none →
    Does (.collEnd g code p) s (fun t => t = s)) ∧
  (∀ (g : BitVec 8) (p : Fin 4) (s : State), ∀ miss w, KMap.find s.eng.acks g.toNat = some (miss, w) →
    clrMask miss p.val ≠ 0 →
    Does (.collCommitAck g p) s (fun t => KMap.find t.eng.acks g.toNat = some (clrMask miss p.val, w) ∧
    t = { s with eng := { s.eng with acks := t.eng.acks } })) ∧
  (∀ (g : BitVec 8) (p : Fin 4) (s : State), ∀ miss w, KMap.find s.eng.acks g.toNat = some (miss, w) →
    clrMask miss p.val = 0 → Does (.collCommitAck g p) s (fun t => KMap.find t.eng.acks g.toNat = none ∧
    t = { s with eng := { s.eng with acks := t.eng.acks } }))

/-- Each cause of R204 declares the safe state: STATE, CAUSE, the pin low, the count and the message; a second
declaration changes nothing (R185, R203, R204, R205, R206, R207). -/
def Obligations.SafeStateDeclaration : Prop :=
  (∀ (a : Bool) (s : State), s.get Reg.SAF_STATE_STATE ≠ 3 → bitOf s.saf.stopped (pairBit a) = false →
    Does (.pairHeartbeatLoss a) s (fun t => Declared s t Code.eLockstep ∧
    t.datum = max s.datum (KMap.getD s.saf.heartbeat (pairBit (!a)) 0 + 300000) ∧ t.eng = s.eng ∧ t.mer = s.mer)) ∧
  (∀ (a : Bool) (s : State), bitOf s.saf.stopped (pairBit a) = true → Does (.pairHeartbeatLoss a) s (fun t => t = s)) ∧
  (∀ (a : Bool) (s : State), s.get Reg.SAF_STATE_STATE ≠ 3 →
    Does (.lockstepMismatch a) s (fun t => Declared s t Code.eLockstep ∧ bitOf t.saf.stopped (pairBit a) = true ∧
    t.datum = s.datum ∧ t.eng = s.eng)) ∧
  (∀ (a : Bool) (s : State), s.get Reg.SAF_STATE_STATE = 3 → s.saf.declaredB ≠ some s.datum →
    Does (.lockstepMismatch a) s (fun t => bitOf t.saf.stopped (pairBit a) = true ∧
    t = { s with saf := { s.saf with stopped := t.saf.stopped } })) ∧
  (∀ (who : Agent) (s : State), Passes s who Reg.SAF_CTRL_addr true →
    (s.attrOf who).secure = true ∨ (s.attrOf who).partition = s.saf.partition → s.get Reg.SAF_STATE_STATE ≠ 3 →
    Does (.ssReq who) s (fun t => Declared s t Code.eSsRequest ∧ t.bit Reg.SAF_CTRL_SS_REQ = true ∧
    t.get Reg.SAF_CMD_STATUS_STATUS = Code.ok ∧ t.eng = s.eng)) ∧
  (∀ (who : Agent) (s : State), Passes s who Reg.SAF_CTRL_addr true →
    ¬ ((s.attrOf who).secure = true ∨ (s.attrOf who).partition = s.saf.partition) →
    Does (.ssReq who) s (fun t => t.get Reg.SAF_CMD_STATUS_STATUS = Code.eAccess ∧
    t.get Reg.SAF_STATE_STATE = s.get Reg.SAF_STATE_STATE ∧ t.fbGet 0x60A0 1 = satAdd 32 (s.fbGet 0x60A0 1) 1 ∧
    t = { s with regs := t.regs, fb := t.fb, resp := t.resp })) ∧
  (∀ (high : Bool) (s : State), s.get Reg.SAF_STATE_STATE ≠ 3 → high ≠ s.saf.driven →
    Does (.safeStateReadback high) s (fun t => Declared s t Code.eMonitor ∧ t.eng = s.eng)) ∧
  (∀ (rail : Bool) (s : State), s.get Reg.SAF_STATE_STATE ≠ 3 →
    Does (.plumbClockRailFault rail) s (fun t => t.get Reg.SAF_STATE_STATE = 3 ∧ t.fbGet 0x3050 1 = 3 ∧
    t.get Reg.SAF_STATE_CAUSE = Code.eMonitor ∧ t.saf.driven = false ∧
    t.bit (if rail then Reg.PLB_STATUS_RAIL_FAULT else Reg.PLB_STATUS_CLK_FAULT) = true ∧ t.eng.plumbDead = true ∧
    ((List.range 8).all (fun q => (t.job (256 + q)).isNone)) = true)) ∧
  (∀ (s : State), s.get Reg.SAF_STATE_STATE ≠ 3 → Does .safetyIslandWatchdog s (fun t => Declared s t Code.eIsland ∧
    t.datum = s.datum ∧ t.eng = s.eng)) ∧
  (∀ (s : State), s.get Reg.SAF_STATE_STATE = 3 → s.saf.declaredB ≠ some s.datum →
    Does .safetyIslandWatchdog s (fun t => t = s)) ∧
  (∀ (s : State), s.get Reg.SAF_STATE_STATE = 3 → s.saf.declaredB = some s.datum →
    Does .safetyIslandWatchdog s (fun t => t.get Reg.SAF_STATE_CAUSE = Code.eIsland ∧
    OnlyRegs [Reg.SAF_STATE_CAUSE] [] { s with saf := t.saf } t)) ∧
  (∀ (s : State), s.get Reg.SAF_STATE_STATE ≠ 3 → Does .datumRateFault s (fun t => Declared s t Code.eMonitor ∧
    t.datum = s.datum ∧ t.eng = s.eng)) ∧
  (∀ (s : State), s.get Reg.SAF_STATE_STATE = 3 → Does .datumRateFault s (fun t => t = s))

/-- Heartbeats, RUN, the latent-fault timeout, status messages, the readback, and the end of start-up injection (R185,
R186, R187, R194, R206, R207, R208, R212, R214, R215). -/
def Obligations.SafetySupervision : Prop :=
  (∀ (a : Bool) (s : State), bitOf s.saf.stopped (pairBit a) = false →
    Does (.pairHeartbeat a) s (fun t => t.datum = max s.datum (KMap.getD s.saf.heartbeat (pairBit a) 0 + 100000) ∧
    KMap.find t.saf.heartbeat (pairBit a) = some t.datum ∧ t.out = s.out ++ [.pairHeartbeat a] ∧
    t = { s.advanceTo (KMap.getD s.saf.heartbeat (pairBit a) 0 + 100000) with saf := { s.saf with heartbeat := t.saf.heartbeat }, out := t.out })) ∧
  (∀ (a : Bool) (s : State), bitOf s.saf.stopped (pairBit a) = true → Does (.pairHeartbeat a) s (fun t => t = s)) ∧
  (∀ (who : Agent) (s : State), Passes s who Reg.SAF_CTRL_addr true →
    (s.attrOf who).secure = true ∨ (s.attrOf who).partition = s.saf.partition → s.bit Reg.SAF_CTRL_RUN = false →
    s.get Reg.SAF_STATE_STATE = 0 → s.bit Reg.SAF_INJ_STATUS_PASS = false → s.runChk = Code.ok →
    Does (.safRun who) s (fun t => t.bit Reg.SAF_CTRL_RUN = true ∧ t.get Reg.SAF_CMD_STATUS_STATUS = Code.ok ∧
    OnlyRegs [Reg.SAF_CTRL_RUN, Reg.SAF_CMD_STATUS_STATUS] [] s t)) ∧
  (∀ (who : Agent) (s : State), Passes s who Reg.SAF_CTRL_addr true →
    (s.attrOf who).secure = true ∨ (s.attrOf who).partition = s.saf.partition → s.bit Reg.SAF_CTRL_RUN = false →
    s.get Reg.SAF_STATE_STATE = 0 → s.runChk ≠ Code.ok →
    Does (.safRun who) s (fun t => t.get Reg.SAF_CMD_STATUS_STATUS = s.runChk ∧ t.bit Reg.SAF_CTRL_RUN = false ∧
    OnlyRegs [Reg.SAF_CMD_STATUS_STATUS] [] s t)) ∧
  (∀ (who : Agent) (s : State), Passes s who Reg.SAF_CTRL_addr true →
    (s.attrOf who).secure = true ∨ (s.attrOf who).partition = s.saf.partition → s.bit Reg.SAF_CTRL_RUN = true →
    Does (.safRun who) s (fun t => t.get Reg.SAF_CMD_STATUS_STATUS = Code.eState ∧
    OnlyRegs [Reg.SAF_CMD_STATUS_STATUS] [] s t)) ∧
  (∀ (p : Fin 32) (s : State), ∀ u, (s.benchAt p.val).due = some u → (s.benchAt p.val).late = false →
    s.get Reg.SAF_STATE_STATE ≠ 3 → Does (.latentTimeout p) s (fun t => (t.benchAt p.val).late = true ∧
    t.datum = max s.datum (u + 1000000000) ∧ t.bit Reg.SAF_STATE_LATENT_TIMEOUT = true ∧
    t.bit Reg.SAF_EVENTS_LATENT_TIMEOUT = true ∧ t.fbGet 0x6060 8 = satAdd 32 (s.fbGet 0x6060 8) 1 ∧
    t.get Reg.SAF_STATE_STATE = (if s.get Reg.SAF_STATE_STATE = 1 then 2 else s.get Reg.SAF_STATE_STATE) ∧
    t.get Reg.SAF_STATE_CAUSE = Code.eLatentTimeout ∧ Messaged s t)) ∧
  (∀ (p : Fin 32) (s : State), (s.benchAt p.val).due = none → Does (.latentTimeout p) s (fun t => t = s)) ∧
  (∀ (p : Fin 32) (s : State), s.get Reg.SAF_STATE_STATE = 3 → Does (.latentTimeout p) s (fun t => t = s)) ∧
  (∀ (s : State), Does .safetyStatusMessage s (fun t => Messaged s t ∧
    t.datum = max s.datum (s.saf.lastMessage + s.fbGet 0x3040 4 * 1000000) ∧ t.saf.lastMessage = t.datum ∧
    t.get Reg.SAF_STATE_STATE = s.get Reg.SAF_STATE_STATE ∧ t.get Reg.SAF_STATE_CAUSE = s.get Reg.SAF_STATE_CAUSE ∧
    t.eng = s.eng)) ∧
  (∀ (high : Bool) (s : State), high = s.saf.driven → s.get Reg.SAF_STATE_STATE ≠ 0 →
    Does (.safeStateReadback high) s (fun t => t.bit Reg.SAF_STATE_SS_LOW = !high ∧
    OnlyRegs [Reg.SAF_STATE_SS_LOW] [] s t)) ∧
  (∀ (item : Fin 10) (s : State), s.boot.stage = 3 → s.bit Reg.SAF_INJ_STATUS_DONE = false → item.val ≠ 0 →
    Does (.injectionComplete item) s (fun t => t.bit Reg.SAF_INJ_STATUS_DONE = true ∧
    t.get Reg.SAF_INJ_STATUS_ITEM = item.val ∧ t.get Reg.SAF_INJ_STATUS_CODE = Code.eInject ∧
    t.get Reg.SAF_INJ_STATUS_PASS = s.get Reg.SAF_INJ_STATUS_PASS ∧ Messaged s t ∧ t.boot = s.boot)) ∧
  (∀ (item : Fin 10) (s : State), s.boot.stage = 3 → s.bit Reg.SAF_INJ_STATUS_DONE = false → item.val = 0 →
    Does (.injectionComplete item) s (fun t => t.bit Reg.SAF_INJ_STATUS_DONE = true ∧
    t.bit Reg.SAF_INJ_STATUS_PASS = true ∧ t.get Reg.SAF_INJ_STATUS_ITEM = s.get Reg.SAF_INJ_STATUS_ITEM)) ∧
  (∀ (item : Fin 10) (s : State), s.boot.stage ≠ 3 ∨ s.bit Reg.SAF_INJ_STATUS_DONE = true →
    Does (.injectionComplete item) s (fun t => t = s))

/-- Traverse contexts: enabling checks library and footprints, disabling waits for the plan, a held grid slot is busy,
a bad library stops admission (R21, R224, R225, R227, R230, R445). -/
def Obligations.TraverseContexts : Prop :=
  (∀ (who : Agent) (c : Fin 8) (v : BitVec 32) (s : State), Passes s who (Reg.TRV_CX_ATTR_addr c.val) true →
    s.bit (Reg.TRV_CX_ATTR_EN c.val) = false →
    let e := ((s.setAll (trvReg c.val v.toNat).locked).setAll (trvReg c.val v.toNat).free).cxCheck c.val; e ≠ Code.ok →
    e ≠ Code.eAccess → Does (.trvContextEnable who c v) s (fun t => t.bit (Reg.TRV_CX_ATTR_EN c.val) = false ∧
    t.get (Reg.TRV_CX_STATUS_LAST c.val) = e ∧ OnlyRegs [Reg.TRV_CX_STATUS_LAST c.val,
    Reg.TRV_CX_STATUS_INDEX c.val] [] s t)) ∧
  (∀ (who : Agent) (c : Fin 8) (v : BitVec 32) (s : State), Passes s who (Reg.TRV_CX_ATTR_addr c.val) true →
    s.bit (Reg.TRV_CX_ATTR_EN c.val) = false →
    ((s.setAll (trvReg c.val v.toNat).locked).setAll (trvReg c.val v.toNat).free).cxCheck c.val = Code.eAccess →
    Does (.trvContextEnable who c v) s (fun t => t.bit (Reg.TRV_CX_ATTR_EN c.val) = false ∧
    t.get (Reg.TRV_CX_STATUS_LAST c.val) = Code.eAccess ∧ t.mem = s.mem ∧ t.trv = s.trv)) ∧
  (∀ (who : Agent) (c : Fin 8) (v : BitVec 32) (s : State), Passes s who (Reg.TRV_CX_ATTR_addr c.val) true →
    s.bit (Reg.TRV_CX_ATTR_EN c.val) = false →
    ((s.setAll (trvReg c.val v.toNat).locked).setAll (trvReg c.val v.toNat).free).cxCheck c.val = Code.ok →
    Does (.trvContextEnable who c v) s (fun t => t.bit (Reg.TRV_CX_ATTR_EN c.val) = true ∧
    t.get (Reg.TRV_CX_ATTR_PARTITION c.val) = bitsOf v.toNat 13 8 ∧
    t.get (Reg.TRV_CX_ATTR_PRIO c.val) = bitsOf v.toNat 26 24 ∧ [Reg.TRV_Q_RPTR_RPTR c.val,
    Reg.TRV_Q_WPTR_WPTR c.val, Reg.TRV_Q_CPL_WPTR_CPL_WPTR c.val, Reg.TRV_Q_CPL_RPTR_CPL_RPTR c.val,
    Reg.TRV_Q_SEQ_SEQ c.val, Reg.TRV_Q_LATEST_VALID c.val].all (fun f => t.get f == 0) = true ∧
    (t.cx c.val).arena = none ∧ t.get (Reg.TRV_CX_STATUS_LAST c.val) = Code.ok ∧ t.mem = s.mem ∧
    t.trv.plan = s.trv.plan)) ∧
  (∀ (who : Agent) (c : Fin 8) (v : BitVec 32) (s : State), Passes s who (Reg.TRV_CX_ATTR_addr c.val) true →
    s.bit (Reg.TRV_CX_ATTR_EN c.val) = true → s.planOf c.val = none →
    Does (.trvContextDisable who c v) s (fun t => t.bit (Reg.TRV_CX_ATTR_EN c.val) = false ∧
    t.bit (Reg.TRV_Q_STATUS_EN c.val) = false ∧ OnlyRegs [Reg.TRV_CX_ATTR_EN c.val, Reg.TRV_Q_STATUS_EN c.val,
    Reg.TRV_CX_ATTR_PRIO c.val, Reg.TRV_CX_STATUS_LAST c.val] [] s t)) ∧
  (∀ (who : Agent) (c : Fin 8) (v : BitVec 32) (s : State), Passes s who (Reg.TRV_CX_ATTR_addr c.val) true →
    s.bit (Reg.TRV_CX_ATTR_EN c.val) = true → ∀ p, s.planOf c.val = some p →
    Does (.trvContextDisable who c v) s (fun t => t.bit (Reg.TRV_CX_ATTR_EN c.val) = true ∧
    t.get (Reg.TRV_CX_STATUS_LAST c.val) = Code.eBusy ∧ OnlyRegs [Reg.TRV_CX_STATUS_LAST c.val] [] s t)) ∧
  (∀ (who : Agent) (c : Fin 8) (slot : BitVec 2) (s : State), Passes s who (Reg.TRV_Q_LATEST_addr c.val) true →
    bitOf (s.get (Reg.TRV_Q_HOLD_HOLD c.val)) slot.toNat = false →
    Does (.gridPublish who c slot) s (fun t => t.get (Reg.TRV_Q_LATEST_SLOT c.val) = slot.toNat ∧
    t.bit (Reg.TRV_Q_LATEST_VALID c.val) = true ∧ t.get (Reg.TRV_Q_STATUS_LAST c.val) = Code.ok ∧
    OnlyRegs [Reg.TRV_Q_LATEST_SLOT c.val, Reg.TRV_Q_LATEST_VALID c.val, Reg.TRV_Q_STATUS_LAST c.val] [] s t)) ∧
  (∀ (who : Agent) (c : Fin 8) (slot : BitVec 2) (s : State), Passes s who (Reg.TRV_Q_LATEST_addr c.val) true →
    bitOf (s.get (Reg.TRV_Q_HOLD_HOLD c.val)) slot.toNat = true →
    Does (.gridPublish who c slot) s (fun t => t.get (Reg.TRV_Q_STATUS_LAST c.val) = Code.eBusy ∧
    OnlyRegs [Reg.TRV_Q_STATUS_LAST c.val] [] s t)) ∧
  (∀ (c : Fin 8) (s : State), s.bit (Reg.TRV_CX_ATTR_EN c.val) = true →
    let u := s.advanceTo ((s.cx c.val).lastCheck + 100000000); let lib := s.get (Reg.TRV_CX_LIB_BASE_BASE c.val); u.reachSpans ((u.cxTables c.val).take 1) = (Code.ok,
    u) → s.libCrc lib (s.get (Reg.TRV_CX_LIB_SIZE_SIZE c.val)) = s.rdLe (lib + 8) 4 →
    Does (.libraryCrcCheck c) s (fun t => t.datum = max s.datum ((s.cx c.val).lastCheck + 100000000) ∧
    t.cx c.val = { s.cx c.val with lastCheck := t.datum } ∧ t = { u with trv := { s.trv with ctx := t.trv.ctx } })) ∧
  (∀ (c : Fin 8) (s : State), s.bit (Reg.TRV_CX_ATTR_EN c.val) = true →
    let u := s.advanceTo ((s.cx c.val).lastCheck + 100000000); let lib := s.get (Reg.TRV_CX_LIB_BASE_BASE c.val); u.reachSpans ((u.cxTables c.val).take 1) = (Code.ok,
    u) → s.libCrc lib (s.get (Reg.TRV_CX_LIB_SIZE_SIZE c.val)) ≠ s.rdLe (lib + 8) 4 → s.planOf c.val = none →
    Does (.libraryCrcCheck c) s (fun t => t.cx c.val = { s.cx c.val with lastCheck := t.datum, libBad := true } ∧
    t = { u with trv := { s.trv with ctx := t.trv.ctx }, out := s.out ++ [Output.libraryFault c.val] })) ∧
  (∀ (c : Fin 8) (s : State), s.bit (Reg.TRV_CX_ATTR_EN c.val) = true →
    let lib := s.get (Reg.TRV_CX_LIB_BASE_BASE c.val); s.libCrc lib (s.get (Reg.TRV_CX_LIB_SIZE_SIZE c.val)) ≠ s.rdLe (lib + 8) 4 →
    ∀ p, s.planOf c.val = some p → s.mer.windows = [] →
    let u := s.advanceTo ((s.cx c.val).lastCheck + 100000000); u.reachSpans ((u.cxTables c.val).take 1) = (Code.ok,
    u) → Does (.libraryCrcCheck c) s (fun t => t.trv.plan = none ∧ Output.libraryFault c.val ∈ t.out ∧
    (t.cx c.val).libBad = true ∧ (t.cx c.val).arena = none ∧ t.get (Reg.TRV_Q_STATUS_RUNNING c.val) = 0)) ∧
  (∀ (c : Fin 8) (s : State), s.bit (Reg.TRV_CX_ATTR_EN c.val) = false →
    Does (.libraryCrcCheck c) s (fun t => t = s))

/-- A plan is admitted, passes fallback, search, optimisation and output, and commits its bank, PUB, SEQ and record;
faults kill or restart it (R67, R227, R232, R233, R234, R237, R238, R239, R240, R241, R243). -/
def Obligations.TraversePlans : Prop :=
  (∀ (c : Fin 8) (s : State), ∀ w ws, s.openWindows = w :: ws → ws = [] →
    s.cxOrder.find? (fun c => s.cxReady c w) = some c.val → s.trv.plan = none → s.cxRoom c.val = true →
    s.reach (s.cxAttr c.val) false (s.get (Reg.TRV_CX_REQ_BASE_BASE c.val) + 128 * s.get (Reg.TRV_Q_RPTR_RPTR c.val)) 128 = (.ok,
    s) → s.reachSpans (s.requestSpans c.val (s.request c.val)) = (Code.ok, s) →
    s.requestChk c.val (s.request c.val) Code.ok = Code.ok → s.fwFailed 22 = false →
    verdict s.datum (rqBound (s.request c.val)) false w = .admitted →
    Does (.plan c) s (fun t => t.trv.plan = some { ctx := c.val, req := s.request c.val, start := s.datum, bound := rqBound (s.request c.val), window := w.index } ∧
    t.get (Reg.TRV_Q_HOLD_HOLD c.val) = 2 ^ rqSlot (s.request c.val) ∧
    t.bit (Reg.TRV_Q_STATUS_RUNNING c.val) = true ∧ RegsKept [Reg.TRV_Q_HOLD_HOLD c.val,
    Reg.TRV_Q_STATUS_RUNNING c.val] s t ∧ t = { s with regs := t.regs, trv := { s.trv with plan := t.trv.plan } })) ∧
  (∀ (c : Fin 8) (s : State), ∀ w ws, s.openWindows = w :: ws → ws = [] →
    s.cxOrder.find? (fun c => s.cxReady c w) = some c.val → s.trv.plan = none → s.cxRoom c.val = true →
    s.reach (s.cxAttr c.val) false (s.get (Reg.TRV_CX_REQ_BASE_BASE c.val) + 128 * s.get (Reg.TRV_Q_RPTR_RPTR c.val)) 128 = (.ok,
    s) → s.requestChk c.val (s.request c.val) (s.reachSpans (s.requestSpans c.val (s.request c.val))).1 ≠ Code.ok →
    s.bit (Reg.TRV_CX_FLOW_FLOW_EN c.val) = false → Does (.plan c) s (fun t => t.trv.plan = none ∧
    t.get (Reg.TRV_Q_RPTR_RPTR c.val) = (s.get (Reg.TRV_Q_RPTR_RPTR c.val) + 1) % 2 ^ s.get (Reg.TRV_CX_REQ_SIZE_LOG2 c.val) % 2 ^ (Reg.TRV_Q_RPTR_RPTR c.val).width ∧
    MemKept (s.get (Reg.TRV_CX_CPL_BASE_BASE c.val) + 32 * s.get (Reg.TRV_Q_CPL_WPTR_CPL_WPTR c.val)) (s.get (Reg.TRV_CX_CPL_BASE_BASE c.val) + 32 * s.get (Reg.TRV_Q_CPL_WPTR_CPL_WPTR c.val) + 32) s t ∧
    t.datum = s.datum)) ∧
  (∀ (c : Fin 8) (s : State), s.mer.windows = [] → Does (.plan c) s (fun t => t = s)) ∧
  (∀ (s : State), ∀ p, s.trv.plan = some p → p.stage = 0 → s.reachSpans (s.fallbackReads p) = (Code.ok, s) →
    Does .fallbackDone s (fun t => (t.trv.plan.map (fun q => (q.stage, q.ctx, q.req, q.start, q.outcome,
    q.window))) = some (1, p.ctx, p.req, p.start, p.outcome, p.window) ∧ t.mem = s.mem ∧ t.datum = s.datum ∧
    t.regs = s.regs)) ∧
  (∀ (s : State), s.trv.plan = none → Does .fallbackDone s (fun t => t = s)) ∧
  (∀ (s : State), ∀ p, s.trv.plan = some p → p.stage = 1 → s.reachSpans (s.searchSpans p) = (Code.ok, s) →
    let a := s.get (Reg.TRV_CX_ARENA_BASE_BASE p.ctx); let g := s.planGrid p.ctx p.req; Does .searchEnd s (fun t => (t.trv.plan.map (fun q => (q.stage,
    q.ctx, q.req, q.start, q.partially))) = some (2, p.ctx, p.req, p.start, false) ∧
    (t.trv.plan.any (fun q => q.outcome == Code.ok || q.outcome == Code.noPath)) = true ∧
    MemKept a (a + 0x1000 + 256 * (g.w * g.h)) s t ∧ t.regs = s.regs ∧ t.datum = s.datum)) ∧
  (∀ (s : State), ∀ p, s.trv.plan = some p → p.stage ≠ 1 → Does .searchEnd s (fun t => t = s)) ∧
  (∀ (s : State), ∀ p, s.trv.plan = some p → p.stage = 1 →
    let u := (s.advanceTo (planSearchDeadline p)).freeNat.2; u.reachSpans (u.searchSpans p) = (Code.ok, u) →
    let a := s.get (Reg.TRV_CX_ARENA_BASE_BASE p.ctx); let g := s.planGrid p.ctx p.req; Does .searchDeadline s (fun t => (t.trv.plan.map (fun q => (q.stage,
    q.ctx, q.req, q.start))) = some (2, p.ctx, p.req, p.start) ∧
    (t.trv.plan.any (fun q => if q.partially then q.outcome == Code.ok else q.outcome == Code.noPathInTime)) = true ∧
    MemKept a (a + 0x1000 + 256 * (g.w * g.h)) s t ∧ t.datum = max s.datum (planSearchDeadline p) ∧ t.regs = s.regs)) ∧
  (∀ (s : State), ∀ p, s.trv.plan = some p → p.stage = 2 → s.reachSpans (s.outputReads p) = (Code.ok, s) →
    Does .optimisationEnd s (fun t => (t.trv.plan.map (fun q => (q.stage, q.ctx, q.cands.length))) = some (3, p.ctx,
    p.cands.length) ∧ (t.trv.plan.any (fun q => q.req == p.req && q.fallback == p.fallback)) = true ∧
    (t.trv.plan.any (fun q => q.rank == 15 || decide (q.rank < q.cands.length))) = true ∧
    t.get (Reg.TRV_Q_HOLD_HOLD p.ctx) = 2 ^ rqSlot p.req ||| 2 ^ s.get (Reg.TRV_Q_LATEST_SLOT p.ctx) ∧
    RegsKept [Reg.TRV_Q_HOLD_HOLD p.ctx] s t ∧ t.mem = s.mem ∧ t.datum = s.datum)) ∧
  (∀ (s : State), s.trv.plan = none → Does .optimisationEnd s (fun t => t = s)) ∧
  (∀ (s : State), ∀ p, s.trv.plan = some p → p.stage = 2 →
    let u := (s.advanceTo (planOptDeadline p)).freeNat.2.freeNat.2; u.reachSpans (u.outputReads p) = (Code.ok, u) →
    Does .optimisationDeadline s (fun t => (t.trv.plan.map (fun q => (q.stage, q.ctx, q.cands.length))) = some (3,
    p.ctx, p.cands.length) ∧ (t.trv.plan.any (fun q => q.req == p.req && q.fallback == p.fallback)) = true ∧
    (t.trv.plan.any (fun q => q.rank == 15 || decide (q.rank < q.cands.length))) = true ∧
    t.get (Reg.TRV_Q_HOLD_HOLD p.ctx) = 2 ^ rqSlot p.req ||| 2 ^ s.get (Reg.TRV_Q_LATEST_SLOT p.ctx) ∧
    t.datum = max s.datum (planOptDeadline p) ∧ RegsKept [Reg.TRV_Q_HOLD_HOLD p.ctx] s t ∧ t.mem = s.mem)) ∧
  (∀ (s : State), ∀ p, s.trv.plan = some p → p.stage = 3 → s.mer.windows = [] →
    s.bit (Reg.TRV_CX_FLOW_FLOW_EN p.ctx) = false →
    let bank := 1 - s.get (Reg.TRV_Q_STATUS_PUB p.ctx); let a := s.get (Reg.TRV_CX_OUT_BASE_BASE p.ctx) + bank * 0x3000; let r := s.get (Reg.TRV_CX_CPL_BASE_BASE p.ctx) + 32 * s.get (Reg.TRV_Q_CPL_WPTR_CPL_WPTR p.ctx); s.reachSpans [⟨s.cxAttr p.ctx,
    true, a, 0x3000⟩] = (Code.ok, s) → p.cands.length ≤ 8 → rqPoses p.req ≤ 256 → p.fallback.length < 256 →
    (p.cands.all (fun k => decide (k.controls.length < 256))) = true →
    Does .planCommit s (fun t => t.trv.plan = none ∧ t.get (Reg.TRV_Q_STATUS_PUB p.ctx) = bank ∧
    t.get (Reg.TRV_Q_SEQ_SEQ p.ctx) = (s.get (Reg.TRV_Q_SEQ_SEQ p.ctx) + 1) % 2 ^ 32 ∧
    t.get (Reg.TRV_Q_HOLD_HOLD p.ctx) = 0 ∧ t.get (Reg.TRV_Q_STATUS_RUNNING p.ctx) = 0 ∧
    t.get (Reg.TRV_Q_RPTR_RPTR p.ctx) = (s.get (Reg.TRV_Q_RPTR_RPTR p.ctx) + 1) % 2 ^ s.get (Reg.TRV_CX_REQ_SIZE_LOG2 p.ctx) % 2 ^ (Reg.TRV_Q_RPTR_RPTR p.ctx).width ∧
    MemKeptOff [(a, a + 0x3000), (r, r + 32)] s t ∧ t.datum = s.datum)) ∧
  (∀ (s : State), s.trv.plan = none → Does .planCommit s (fun t => t = s)) ∧
  (∀ (par : Bool) (addr : BitVec 48) (s : State), ∀ p, s.trv.plan = some p → s.mer.windows = [] →
    Does (.traverseFault par addr) s (fun t => t.trv.plan = none ∧ (t.cx p.ctx).arena = none ∧
    t.get (Reg.TRV_Q_STATUS_RUNNING p.ctx) = 0 ∧ t.get (Reg.TRV_Q_SEQ_SEQ p.ctx) = s.get (Reg.TRV_Q_SEQ_SEQ p.ctx))) ∧
  (∀ (par : Bool) (addr : BitVec 48) (s : State), ∀ p, s.trv.plan = some p → ∀ w,
    s.openWindows.find? (fun w => w.index = p.window) = some w → verdict s.datum p.bound true w = .admitted →
    Does (.traverseFault par addr) s (fun t => t.trv.plan = some { ctx := p.ctx, req := p.req, start := s.datum, bound := p.bound, window := p.window, restarted := true } ∧
    t.get (Reg.TRV_Q_HOLD_HOLD p.ctx) = 2 ^ rqSlot p.req ∧ (t.cx p.ctx).arena = none ∧ t.mem = s.mem)) ∧
  (∀ (par : Bool) (addr : BitVec 48) (s : State), s.trv.plan = none →
    Does (.traverseFault par addr) s (fun t => t = s))

/-- Graphics contexts and their heaps: enabling, disabling, heap pages, bin faults, flushes and faults (R248, R251,
R254, R255, R256, R445). -/
def Obligations.GraphicsContexts : Prop :=
  (∀ (who : Agent) (x : Fin 32) (v : BitVec 32) (s : State), Passes s who (Reg.GFX_CX_ATTR_addr x.val) true →
    s.bit (Reg.GFX_CX_ATTR_EN x.val) = false → s.gxCheck x.val = Code.ok →
    Does (.gfxContextEnable who x v) s (fun t => t.bit (Reg.GFX_CX_ATTR_EN x.val) = true ∧
    t.get (Reg.GFX_CX_ATTR_PARTITION x.val) = bitsOf v.toNat 13 8 ∧
    t.get (Reg.GFX_CX_ATTR_KIND x.val) = bitsOf v.toNat 29 29 ∧
    t.get (Reg.GFX_CX_ATTR_PRIO x.val) = bitsOf v.toNat 26 24 ∧ [Reg.GFX_Q_RPTR_RPTR x.val,
    Reg.GFX_Q_WPTR_WPTR x.val, Reg.GFX_Q_CPL_WPTR_CPL_WPTR x.val, Reg.GFX_Q_CPL_RPTR_CPL_RPTR x.val,
    Reg.GFX_Q_SEQ_SEQ x.val].all (fun f => t.get f == 0) = true ∧ t.get (Reg.GFX_CX_STATUS_LAST x.val) = Code.ok ∧
    t.mem = s.mem)) ∧
  (∀ (who : Agent) (x : Fin 32) (v : BitVec 32) (s : State), Passes s who (Reg.GFX_CX_ATTR_addr x.val) true →
    s.bit (Reg.GFX_CX_ATTR_EN x.val) = false → s.gxCheck x.val ≠ Code.ok →
    Does (.gfxContextEnable who x v) s (fun t => t.bit (Reg.GFX_CX_ATTR_EN x.val) = false ∧
    t.get (Reg.GFX_CX_STATUS_LAST x.val) = s.gxCheck x.val ∧ OnlyRegs [Reg.GFX_CX_STATUS_LAST x.val] [] s t)) ∧
  (∀ (who : Agent) (x : Fin 32) (v : BitVec 32) (s : State), Passes s who (Reg.GFX_CX_ATTR_addr x.val) true →
    s.bit (Reg.GFX_CX_ATTR_EN x.val) = true → (s.gx x.val).job = none →
    Does (.gfxContextDisable who x v) s (fun t => t.bit (Reg.GFX_CX_ATTR_EN x.val) = false ∧
    t.get (Reg.GFX_Q_HEAP_PAGES x.val) = 0 ∧ (t.gx x.val).heap = [] ∧ RegsKept [Reg.GFX_CX_ATTR_EN x.val,
    Reg.GFX_CX_ATTR_PRIO x.val, Reg.GFX_Q_HEAP_PAGES x.val, Reg.GFX_CX_STATUS_LAST x.val] s t ∧ t.mem = s.mem)) ∧
  (∀ (who : Agent) (x : Fin 32) (v : BitVec 32) (s : State), Passes s who (Reg.GFX_CX_ATTR_addr x.val) true →
    s.bit (Reg.GFX_CX_ATTR_EN x.val) = true → ∀ j, (s.gx x.val).job = some j →
    Does (.gfxContextDisable who x v) s (fun t => t.bit (Reg.GFX_CX_ATTR_EN x.val) = true ∧
    t.get (Reg.GFX_CX_STATUS_LAST x.val) = Code.eBusy ∧ OnlyRegs [Reg.GFX_CX_STATUS_LAST x.val] [] s t)) ∧
  (∀ (who : Agent) (x : Fin 32) (page : BitVec 48) (s : State), Passes s who (Reg.GFX_Q_HEAP_ADD_addr x.val) true →
    page.toNat % 65536 = 0 → (s.gx x.val).heap.length < 4096 → (s.gx x.val).job = none →
    Does (.heapAdd who x page) s (fun t => (t.gx x.val).heap = (s.gx x.val).heap ++ [page.toNat] ∧
    t.get (Reg.GFX_Q_HEAP_PAGES x.val) = (s.gx x.val).heap.length + 1 ∧
    t.get (Reg.GFX_Q_STATUS_LAST x.val) = Code.ok ∧ RegsKept [Reg.GFX_Q_HEAP_PAGES x.val,
    Reg.GFX_Q_STATUS_LAST x.val] s t ∧ t.mem = s.mem)) ∧
  (∀ (who : Agent) (x : Fin 32) (page : BitVec 48) (s : State), Passes s who (Reg.GFX_Q_HEAP_ADD_addr x.val) true →
    page.toNat % 65536 = 0 → (s.gx x.val).heap.length < 4096 → ∀ j, (s.gx x.val).job = some j → ∀ u,
    j.faultSince = some u →
    Does (.heapAdd who x page) s (fun t => (t.gx x.val).job = some { j with spent := j.spent + (s.datum - u), faultSince := none } ∧
    t.get (Reg.GFX_Q_HEAP_FAULT x.val) = 0 ∧ t.get (Reg.GFX_Q_STATUS_LAST x.val) = Code.ok ∧ t.mem = s.mem)) ∧
  (∀ (who : Agent) (x : Fin 32) (page : BitVec 48) (s : State), Passes s who (Reg.GFX_Q_HEAP_ADD_addr x.val) true →
    page.toNat % 65536 = 0 → (s.gx x.val).heap.length < 4096 → ∀ j, (s.gx x.val).job = some j → j.faultSince = none →
    j.flushSince = some s.datum →
    Does (.heapAdd who x page) s (fun t => (t.gx x.val).job = some { j with flushSince := none, flushed := j.flushedBefore } ∧
    t.fbGet 0x6080 2 = s.fbGet 0x6080 2 - 1 ∧ t.get (Reg.GFX_Q_STATUS_LAST x.val) = Code.ok ∧ t.mem = s.mem)) ∧
  (∀ (who : Agent) (x : Fin 32) (page : BitVec 48) (s : State), Passes s who (Reg.GFX_Q_HEAP_ADD_addr x.val) true →
    page.toNat % 65536 ≠ 0 →
    Does (.heapAdd who x page) s (fun t => t.get (Reg.GFX_Q_STATUS_LAST x.val) = Code.eAlign ∧
    OnlyRegs [Reg.GFX_Q_STATUS_LAST x.val] [] s t)) ∧
  (∀ (who : Agent) (x : Fin 32) (page : BitVec 48) (s : State), Passes s who (Reg.GFX_Q_HEAP_ADD_addr x.val) true →
    page.toNat % 65536 = 0 → 4096 ≤ (s.gx x.val).heap.length →
    Does (.heapAdd who x page) s (fun t => t.get (Reg.GFX_Q_STATUS_LAST x.val) = Code.eBounds ∧
    OnlyRegs [Reg.GFX_Q_STATUS_LAST x.val] [] s t)) ∧
  (∀ (x : Fin 32) (n : Nat) (s : State), ∀ j, (s.gx x.val).job = some j → s.binning x.val j = true →
    Does (.binFault x n) s (fun t => (t.gx x.val).job = some { j.listTo n with faultSince := some s.datum } ∧
    t.bit (Reg.GFX_Q_HEAP_FAULT x.val) = true ∧ t.fbGet 0x6080 1 = satAdd 32 (s.fbGet 0x6080 1) 1 ∧
    RegsKept [Reg.GFX_Q_HEAP_FAULT x.val] s t ∧ t.mem = s.mem)) ∧
  (∀ (x : Fin 32) (n : Nat) (s : State), (s.gx x.val).job = none → Does (.binFault x n) s (fun t => t = s)) ∧
  (∀ (x : Fin 32) (s : State), ∀ j, (s.gx x.val).job = some j → ∀ u, j.faultSince = some u →
    passFlushable (s.gxConcern x.val j) = true →
    Does (.binFaultDeadline x) s (fun t => t.datum = max s.datum (u + s.fbGet 0x7300 1 * 1000) ∧
    (t.gx x.val).job = some { j with spent := j.spent + (t.datum - u), faultSince := none, flushSince := some t.datum, flushed := true, flushedBefore := j.flushed } ∧
    t.get (Reg.GFX_Q_HEAP_FAULT x.val) = 0 ∧ t.fbGet 0x6080 2 = satAdd 32 (s.fbGet 0x6080 2) 1 ∧ t.mem = s.mem)) ∧
  (∀ (x : Fin 32) (s : State), ∀ j, (s.gx x.val).job = some j → ∀ u, j.faultSince = some u →
    passFlushable (s.gxConcern x.val j) = false → s.mer.windows = [] →
    Does (.binFaultDeadline x) s (fun t => (t.gx x.val).job = none ∧
    t.fbGet 0x6080 6 = satAdd 32 (s.fbGet 0x6080 6) 1 ∧ t.get (Reg.GFX_Q_HEAP_FAULT x.val) = 0)) ∧
  (∀ (x : Fin 32) (s : State), ∀ j, (s.gx x.val).job = some j → ∀ u, j.flushSince = some u → j.pass = none →
    Does (.flushDone x) s (fun t => (t.gx x.val).job = some { j with spent := j.spent + (s.datum - u), flushSince := none } ∧
    t = { s with gfx := t.gfx })) ∧
  (∀ (x : Fin 32) (s : State), ∀ j, (s.gx x.val).job = some j → ∀ u, j.flushSince = some u → ∀ p, j.pass = some p →
    Does (.flushDone x) s (fun t => (t.gx x.val).job = some { j with spent := j.spent + (s.datum - u), flushSince := none, pass := some { p with done := p.listed, area := (s.flushPass x.val j p).2.area } } ∧
    t.mem = (s.flushPass x.val j p).1.mem ∧ t.datum = s.datum)) ∧
  (∀ (x : Fin 32) (s : State), (s.gx x.val).job = none → Does (.flushDone x) s (fun t => t = s)) ∧
  (∀ (x : Fin 32) (cause : GfxCause) (s : State), ∀ j, (s.gx x.val).job = some j → s.mer.windows = [] →
    Does (.gfxFault x cause) s (fun t => (t.gx x.val).job = none ∧
    t.get (Reg.GFX_Q_SEQ_SEQ x.val) = s.get (Reg.GFX_Q_SEQ_SEQ x.val) ∧ (∀ d : Fin 4,
    (t.dp d.val).pending = (s.dp d.val).pending))) ∧
  (∀ (x : Fin 32) (cause : GfxCause) (s : State), ∀ j, (s.gx x.val).job = some j → j.pass = none →
    s.mer.windows = [] → Does (.gfxFault x cause) s (fun t => (t.gx x.val).job = none ∧
    MemKept (s.get (Reg.GFX_CX_CPL_BASE_BASE x.val) + 32 * s.get (Reg.GFX_Q_CPL_WPTR_CPL_WPTR x.val)) (s.get (Reg.GFX_CX_CPL_BASE_BASE x.val) + 32 * s.get (Reg.GFX_Q_CPL_WPTR_CPL_WPTR x.val) + 32) s t)) ∧
  (∀ (x : Fin 32) (cause : GfxCause) (s : State), (s.gx x.val).job = none →
    Does (.gfxFault x cause) s (fun t => t = s))

/-- The records of a graphics job begin in order and are decoded; its completion counts SEQ and arms the flip; compute
yields to composition (R247, R249, R250, R251, R252, R257, R258, R259). -/
def Obligations.GraphicsJobs : Prop :=
  (∀ (x : Fin 32) (draw : Draw) (st : List (BitVec 48 × BitVec 8)) (s : State), ∀ j, (s.gx x.val).job = some j →
    s.gxRunOver x.val j = true → let i := s.gxNext x.val j; let d := s.gxRec x.val i; d.opcode = 1 →
    s.passWaits x.val j = false → j.pass = none →
    let u := s.set (Reg.GFX_Q_RPTR_RPTR x.val) i; u.reachSpans [u.gxSpan x.val i] = (Code.ok, u) →
    u.gxChk x.val d = Code.ok →
    Does (.pass x draw st) s (fun t => (t.gx x.val).job = some { j with run := some i, runOp := 1, committing := false, binned := j.binned || passBinned d, pass := some { draw := draw } } ∧
    t.get (Reg.GFX_Q_RPTR_RPTR x.val) = i % 2 ^ (Reg.GFX_Q_RPTR_RPTR x.val).width ∧
    t.get (Reg.GFX_Q_SEQ_SEQ x.val) = s.get (Reg.GFX_Q_SEQ_SEQ x.val) ∧ MemKeptOff (st.map (fun p => (p.1.toNat,
    p.1.toNat + 1))) s t ∧ t.datum = s.datum)) ∧
  (∀ (x : Fin 32) (st : List (BitVec 48 × BitVec 8)) (s : State), ∀ j, (s.gx x.val).job = some j →
    s.gxRunOver x.val j = true → let i := s.gxNext x.val j; let d := s.gxRec x.val i; d.opcode = 2 →
    j.yieldSince = none → j.pass = none →
    let u := s.set (Reg.GFX_Q_RPTR_RPTR x.val) i; u.reachSpans [u.gxSpan x.val i] = (Code.ok, u) →
    u.gxChk x.val d = Code.ok →
    Does (.dispatch x st) s (fun t => (t.gx x.val).job = some { j with run := some i, runOp := 2, committing := false, binned := j.binned || false } ∧
    t.get (Reg.GFX_Q_RPTR_RPTR x.val) = i % 2 ^ (Reg.GFX_Q_RPTR_RPTR x.val).width ∧
    t.get (Reg.GFX_Q_SEQ_SEQ x.val) = s.get (Reg.GFX_Q_SEQ_SEQ x.val) ∧ MemKeptOff (st.map (fun p => (p.1.toNat,
    p.1.toNat + 1))) s t ∧ t.datum = s.datum)) ∧
  (∀ (x : Fin 32) (s : State), ∀ j, (s.gx x.val).job = some j → s.gxRunOver x.val j = true →
    let i := s.gxNext x.val j; let d := s.gxRec x.val i; d.opcode = 16 → j.pass = none →
    let u := s.set (Reg.GFX_Q_RPTR_RPTR x.val) i; u.reachSpans [u.gxSpan x.val i] = (Code.ok, u) →
    u.gxChk x.val d = Code.ok →
    Does (.gfxFence x) s (fun t => (t.gx x.val).job = some { j with run := some i, runOp := 16, committing := false, binned := j.binned || false } ∧
    t.get (Reg.GFX_Q_RPTR_RPTR x.val) = i % 2 ^ (Reg.GFX_Q_RPTR_RPTR x.val).width ∧
    t.get (Reg.GFX_Q_SEQ_SEQ x.val) = s.get (Reg.GFX_Q_SEQ_SEQ x.val) ∧ t.mem = s.mem ∧ t.datum = s.datum ∧
    RegsKept [Reg.GFX_Q_RPTR_RPTR x.val] s t)) ∧
  (∀ (x : Fin 32) (s : State), ∀ j, (s.gx x.val).job = some j → s.gxRunOver x.val j = true →
    let i := s.gxNext x.val j; let d := s.gxRec x.val i; d.opcode = 17 → j.pass = none →
    let u := s.set (Reg.GFX_Q_RPTR_RPTR x.val) i; u.reachSpans [u.gxSpan x.val i] = (Code.ok, u) →
    u.gxChk x.val d = Code.ok →
    Does (.gfxCommit x) s (fun t => (t.gx x.val).job = some { j with run := some i, runOp := 17, committing := true, binned := j.binned || false } ∧
    t.get (Reg.GFX_Q_RPTR_RPTR x.val) = i % 2 ^ (Reg.GFX_Q_RPTR_RPTR x.val).width ∧
    t.get (Reg.GFX_Q_SEQ_SEQ x.val) = s.get (Reg.GFX_Q_SEQ_SEQ x.val) ∧ t.mem = s.mem ∧ t.datum = s.datum ∧
    RegsKept [Reg.GFX_Q_RPTR_RPTR x.val] s t)) ∧
  (∀ (x : Fin 32) (s : State), ∀ j, (s.gx x.val).job = some j → s.gxRunOver x.val j = true → ∀ p, j.pass = some p →
    let i := s.gxNext x.val j; let d := s.gxRec x.val i; d.opcode = 17 →
    let u := (s.passEnd x.val j).set (Reg.GFX_Q_RPTR_RPTR x.val) i; u.gxRec x.val i = d →
    u.reachSpans [u.gxSpan x.val i] = (Code.ok, u) → u.gxChk x.val d = Code.ok →
    Does (.gfxCommit x) s (fun t => t.mem = (s.passEnd x.val j).mem ∧
    (t.gx x.val).job = some { j with run := some i, runOp := 17, committing := true, binned := j.binned || false, pass := none } ∧
    t.datum = s.datum)) ∧
  (∀ (x : Fin 32) (draw : Draw) (st : List (BitVec 48 × BitVec 8)) (s : State), ∀ j, (s.gx x.val).job = some j →
    s.gxRunOver x.val j = true → let i := s.gxNext x.val j; let d := s.gxRec x.val i; d.opcode = 1 →
    s.passWaits x.val j = false → s.mer.windows = [] →
    (s.set (Reg.GFX_Q_RPTR_RPTR x.val) i).gxChk x.val d ≠ Code.ok → j.pass = none →
    Does (.pass x draw st) s (fun t => (t.gx x.val).job = none ∧
    t.get (Reg.GFX_Q_SEQ_SEQ x.val) = s.get (Reg.GFX_Q_SEQ_SEQ x.val))) ∧
  (∀ (x : Fin 32) (st : List (BitVec 48 × BitVec 8)) (s : State), ∀ j, (s.gx x.val).job = some j → j.run = none →
    (s.gxRec x.val (s.get (Reg.GFX_Q_RPTR_RPTR x.val))).opcode = 1 → Does (.dispatch x st) s (fun t => t = s)) ∧
  (∀ (x : Fin 32) (s : State), (s.gx x.val).job = none → Does (.gfxFence x) s (fun t => t = s)) ∧
  (∀ (x : Fin 32) (s : State), ∀ j, (s.gx x.val).job = some j → j.committing = true → s.mer.windows = [] →
    let d := s.gxConcern x.val j; let a := s.get (Reg.GFX_CX_CPL_BASE_BASE x.val) + 32 * s.get (Reg.GFX_Q_CPL_WPTR_CPL_WPTR x.val); Does (.gfxJobComplete x) s (fun t => t.get (Reg.GFX_Q_SEQ_SEQ x.val) = (s.get (Reg.GFX_Q_SEQ_SEQ x.val) + 1) % 2 ^ 32 ∧
    (t.gx x.val).job = none ∧ (flipOf d = true →
    KMap.find (t.dp (flipDisplay d)).pending (flipPlane d) = some ((gxAddr d,
    s.datum) :: ((KMap.getD (s.dp (flipDisplay d)).pending (flipPlane d) []).filter (fun e => decide (e.2 < s.datum))).take 1)) ∧
    (flipOf d = false → t.gfx.dsp = s.gfx.dsp) ∧ MemKept a (a + 32) s t ∧ t.datum = s.datum)) ∧
  (∀ (x : Fin 32) (s : State), ∀ j, (s.gx x.val).job = some j → j.committing = true → s.mer.windows = [] →
    let d := s.gxConcern x.val j; flipOf d = true →
    Does (.gfxJobComplete x) s (fun t => ((KMap.getD (t.dp (flipDisplay d)).pending (flipPlane d) []).head?.map Prod.fst) = some (gxAddr d) ∧
    (t.gx x.val).job = none)) ∧
  (∀ (x : Fin 32) (s : State), ∀ j, (s.gx x.val).job = some j → j.committing = false →
    Does (.gfxJobComplete x) s (fun t => t = s)) ∧
  (∀ (x : Fin 32) (s : State), ∀ d, s.flipCommit x.val = some d → ∀ w, s.composeWindow x.val = some w →
    s.slackLow x.val d w = true → (s.gx x.val).preempts = none →
    Does (.compositionSlackLow x) s (fun t => (t.gx x.val).preempts = some w.entry.units ∧
    t.fbGet 0x6080 3 = satAdd 32 (s.fbGet 0x6080 3) 1 ∧ (∀ y : Fin 32, y ≠ x →
    (s.gx y.val).job.all (fun k => s.get (Reg.GFX_CX_ATTR_KIND y.val) != 1 || k.yieldSince.isSome || s.gxUnits k.window &&& w.entry.units == 0 || (t.gx y.val).job == some { k with yieldSince := some s.datum }) = true) ∧
    FbKept [(0x6080, 3)] s t ∧ t = { s with fb := t.fb, gfx := t.gfx })) ∧
  (∀ (x : Fin 32) (s : State), s.composeWindow x.val = none → Does (.compositionSlackLow x) s (fun t => t = s)) ∧
  (∀ (x : Fin 32) (rem : Bool) (s : State), ∀ j, (s.gx x.val).job = some j → ∀ u, j.yieldSince = some u →
    j.runOp = 2 → j.run.isSome = true → rem = true →
    Does (.yieldLimit x rem) s (fun t => t.datum = max s.datum (u + s.fbGet 0x7300 3 * 1000) ∧
    (t.gx x.val).job = some { j with run := none, runOp := 0 } ∧ (t.gx x.val).resubmitted = true ∧
    t.fbGet 0x6080 4 = satAdd 32 (s.fbGet 0x6080 4) 1 ∧ t.mem = s.mem)) ∧
  (∀ (x : Fin 32) (rem : Bool) (s : State), ∀ j, (s.gx x.val).job = some j → ∀ u, j.yieldSince = some u →
    rem = false → Does (.yieldLimit x rem) s (fun t => t.datum = max s.datum (u + s.fbGet 0x7300 3 * 1000) ∧
    t = s.advanceTo (u + s.fbGet 0x7300 3 * 1000)))

/-- Display controllers: enabling, link training, frame starts latch planes and expected values, checked regions count
mismatches (R216, R257, R260, R261, R262, R263, R264, R265, R266, R267). -/
def Obligations.DisplayControllers : Prop :=
  (∀ (who : Agent) (d : Fin 4) (v : BitVec 32) (s : State), Passes s who (Reg.DSP_CTRL_addr d.val) true →
    s.bit (Reg.DSP_CTRL_EN d.val) = false → (s.setAll (dspReg d.val v.toNat).locked).dspCheck d.val = Code.ok →
    Does (.displayEnable who d v) s (fun t => t.bit (Reg.DSP_CTRL_EN d.val) = true ∧
    t.bit (Reg.DSP_STATUS_ACTIVE d.val) = true ∧ t.get (Reg.DSP_FRAME_FRAME d.val) = 0 ∧
    t.get (Reg.DSP_CTRL_PIPE d.val) = bitsOf v.toNat 20 16 ∧ t.get (Reg.DSP_CTRL_N d.val) = bitsOf v.toNat 7 4 ∧
    t.get (Reg.DSP_CMD_STATUS_STATUS d.val) = Code.ok ∧ (t.dp d.val).trained = false ∧
    RegsKept [Reg.DSP_CTRL_EN d.val, Reg.DSP_STATUS_ACTIVE d.val, Reg.DSP_FRAME_FRAME d.val, Reg.DSP_CTRL_PIPE d.val,
    Reg.DSP_CTRL_N d.val, Reg.DSP_CTRL_LOCK_EN d.val, Reg.DSP_CTRL_BPC10 d.val,
    Reg.DSP_CMD_STATUS_STATUS d.val] s t ∧ t.mem = s.mem)) ∧
  (∀ (who : Agent) (d : Fin 4) (v : BitVec 32) (s : State), Passes s who (Reg.DSP_CTRL_addr d.val) true →
    s.bit (Reg.DSP_CTRL_EN d.val) = false →
    let c := (s.setAll (dspReg d.val v.toNat).locked).dspCheck d.val; c ≠ Code.ok →
    Does (.displayEnable who d v) s (fun t => t.get (Reg.DSP_CMD_STATUS_STATUS d.val) = c ∧
    OnlyRegs [Reg.DSP_CMD_STATUS_STATUS d.val] [] s t)) ∧
  (∀ (d : Fin 4) (s : State), s.bit (Reg.DSP_CTRL_EN d.val) = true →
    Does (.linkTrained d) s (fun t => t.bit (Reg.DSP_STATUS_LINK_UP d.val) = true ∧ (t.dp d.val).trained = true ∧
    t.fbGet 0x6080 7 = (if (s.dp d.val).trained then satAdd 32 (s.fbGet 0x6080 7) 1 else s.fbGet 0x6080 7) ∧
    RegsKept [Reg.DSP_STATUS_LINK_UP d.val] s t ∧ t.mem = s.mem)) ∧
  (∀ (d : Fin 4) (s : State), s.bit (Reg.DSP_CTRL_EN d.val) = false → Does (.linkTrained d) s (fun t => t = s)) ∧
  (∀ (d : Fin 4) (s : State), Does (.displayLinkLoss d) s (fun t => t.bit (Reg.DSP_STATUS_LINK_UP d.val) = false ∧
    OnlyRegs [Reg.DSP_STATUS_LINK_UP d.val] [] s t)) ∧
  (∀ (d : Fin 4) (late : List LateLine) (ecc : List (BitVec 16 × BitVec 16)) (s : State),
    s.bit (Reg.DSP_CTRL_EN d.val) = true → s.unitOff 13 (34 + d.val) 9 = false → ecc = [] →
    Does (.displayFrameStart d late ecc) s (fun t => t.datum = max s.datum (s.nextVsync d.val (s.dp d.val).frameAt) ∧
    t.get (Reg.DSP_FRAME_FRAME d.val) = (s.get (Reg.DSP_FRAME_FRAME d.val) + 1) % 2 ^ (Reg.DSP_FRAME_FRAME d.val).width ∧
    (t.dp d.val).frameAt = t.datum ∧ (∀ r : Fin 16,
    KMap.find (t.dp d.val).exps r.val = some ((s.advanceTo (s.nextVsync d.val (s.dp d.val).frameAt)).expLatched d.val r.val)) ∧
    (t.dp d.val).ttAddr = s.get (Reg.DSP_TT_ADDR_ADDR d.val) ∧
    t.get (Reg.DSP_STATUS_UNDERFLOWS d.val) = satAdd 8 (s.get (Reg.DSP_STATUS_UNDERFLOWS d.val)) (late.map LateLine.line).eraseDups.length ∧
    (∀ p : Fin 3, s.bit (Reg.DSP_PL_CTRL_EN d.val p.val) = true → s.bit (Reg.DSP_PL_CTRL_JOB d.val p.val) = true →
    t.get (Reg.DSP_PL_ADDR_ADDR d.val p.val) = (((KMap.getD (s.dp d.val).pending p.val []).find? (fun e => decide (e.2 < t.datum))).map (fun a => a.1 % 2 ^ 48)).getD (s.get (Reg.DSP_PL_ADDR_ADDR d.val p.val))) ∧
    (∀ p : Fin 3, s.bit (Reg.DSP_PL_CTRL_EN d.val p.val) = true → s.bit (Reg.DSP_PL_CTRL_JOB d.val p.val) = false →
    KMap.find (t.dp d.val).latched p.val = some (s.get (Reg.DSP_PL_ADDR_ADDR d.val p.val))) ∧ t.mem = s.mem)) ∧
  (∀ (d : Fin 4) (late : List LateLine) (ecc : List (BitVec 16 × BitVec 16)) (s : State),
    s.bit (Reg.DSP_CTRL_EN d.val) = false → Does (.displayFrameStart d late ecc) s (fun t => t = s)) ∧
  (∀ (who : Agent) (d : Fin 4) (r : Fin 16) (v : BitVec 64) (s : State),
    Passes s who (Reg.DSP_CR_EXP_addr d.val r.val) true → (s.attrOf who).partition = s.fbGet 0x7300 0x10 →
    Does (.expWrite who d r v) s (fun t => t.get (Reg.DSP_CR_EXP_EXP d.val r.val) = v.toNat % 2 ^ 32 ∧
    t.get (Reg.DSP_CR_EXP_EXP_FRAME d.val r.val) = v.toNat / 2 ^ 32 ∧
    t.get (Reg.DSP_CMD_STATUS_STATUS d.val) = Code.ok ∧
    KMap.find (t.dp d.val).expAt r.val = some (s.expLatched d.val r.val, s.datum) ∧
    RegsKept [Reg.DSP_CR_EXP_EXP d.val r.val, Reg.DSP_CR_EXP_EXP_FRAME d.val r.val,
    Reg.DSP_CMD_STATUS_STATUS d.val] s t ∧ t = { s with regs := t.regs, resp := t.resp, gfx := t.gfx })) ∧
  (∀ (who : Agent) (d : Fin 4) (r : Fin 16) (v : BitVec 64) (s : State),
    Passes s who (Reg.DSP_CR_EXP_addr d.val r.val) true → (s.attrOf who).partition ≠ s.fbGet 0x7300 0x10 →
    Does (.expWrite who d r v) s (fun t => t.get (Reg.DSP_CMD_STATUS_STATUS d.val) = Code.eAccess ∧
    t.get (Reg.DSP_CR_EXP_EXP d.val r.val) = s.get (Reg.DSP_CR_EXP_EXP d.val r.val) ∧
    t.fbGet 0x60A0 1 = satAdd 32 (s.fbGet 0x60A0 1) 1)) ∧
  (∀ (d : Fin 4) (r : Fin 16) (s : State), s.bit (Reg.DSP_CTRL_EN d.val) = true →
    s.bit (Reg.DSP_CR_CTRL_EN d.val r.val) = true →
    let e := KMap.getD (s.dp d.val).exps r.val 0; e / 2 ^ 32 ≤ s.get (Reg.DSP_FRAME_FRAME d.val) →
    s.get (Reg.DSP_FRAME_FRAME d.val) - e / 2 ^ 32 < s.fbGet 0x7300 0x11 → (s.dp d.val).late = [] →
    Does (.checkedRegionCompare d r) s (fun t => t.get (Reg.DSP_CR_CRC_CRC d.val r.val) = (s.regionCrc d.val r.val).1 % 2 ^ 32 ∧
    t.get (Reg.DSP_CR_STAT_MISMATCH d.val r.val) = (if (s.regionCrc d.val r.val).1 = e % 2 ^ 32 then s.get (Reg.DSP_CR_STAT_MISMATCH d.val r.val) else satAdd (Reg.DSP_CR_STAT_MISMATCH d.val r.val).width (s.get (Reg.DSP_CR_STAT_MISMATCH d.val r.val)) 1) ∧
    t.get (Reg.DSP_CR_STAT_STALE d.val r.val) = s.get (Reg.DSP_CR_STAT_STALE d.val r.val) ∧ t.datum = s.datum)) ∧
  (∀ (d : Fin 4) (r : Fin 16) (s : State), s.bit (Reg.DSP_CTRL_EN d.val) = true →
    s.bit (Reg.DSP_CR_CTRL_EN d.val r.val) = true →
    let e := KMap.getD (s.dp d.val).exps r.val 0; s.get (Reg.DSP_FRAME_FRAME d.val) < e / 2 ^ 32 →
    Does (.checkedRegionCompare d r) s (fun t => t.get (Reg.DSP_CR_STAT_STALE d.val r.val) = satAdd (Reg.DSP_CR_STAT_STALE d.val r.val).width (s.get (Reg.DSP_CR_STAT_STALE d.val r.val)) 1 ∧
    t.datum = s.datum)) ∧
  (∀ (d : Fin 4) (r : Fin 16) (s : State), s.bit (Reg.DSP_CR_CTRL_EN d.val r.val) = false →
    Does (.checkedRegionCompare d r) s (fun t => t = s))

/-- CSI-2 capture: enabling, frame starts, lines, frame ends, timeouts and the ISP memory input (R271, R273, R274,
R276, R277, R278, R279, R445). -/
def Obligations.CaptureSources : Prop :=
  (∀ (who : Agent) (i : Fin 32) (v : BitVec 32) (s : State), Passes s who (Reg.MED_CS_CTRL_addr i.val) true →
    s.bit (Reg.MED_CS_CTRL_EN i.val) = false → (s.setAll (capReg i.val v.toNat).locked).csCheck i.val = Code.ok →
    Does (.captureSourceEnable who i v) s (fun t => t.bit (Reg.MED_CS_CTRL_EN i.val) = true ∧
    t.get (Reg.MED_CS_CTRL_PARTITION i.val) = bitsOf v.toNat 29 24 ∧
    t.get (Reg.MED_CS_CTRL_PORT i.val) = bitsOf v.toNat 23 20 ∧
    t.get (Reg.MED_CS_CTRL_DT i.val) = bitsOf v.toNat 15 10 ∧ t.get (Reg.MED_CS_STATUS_LAST i.val) = Code.ok ∧
    t.msrc i.val = {} ∧ t.capSrc i.val = {} ∧ t.mem = s.mem)) ∧
  (∀ (who : Agent) (i : Fin 32) (v : BitVec 32) (s : State), Passes s who (Reg.MED_CS_CTRL_addr i.val) true →
    s.bit (Reg.MED_CS_CTRL_EN i.val) = false →
    let c := (s.setAll (capReg i.val v.toNat).locked).csCheck i.val; c ≠ Code.ok →
    Does (.captureSourceEnable who i v) s (fun t => t.get (Reg.MED_CS_STATUS_LAST i.val) = c ∧
    OnlyRegs [Reg.MED_CS_STATUS_LAST i.val] [] s t)) ∧
  (∀ (who : Agent) (i : Fin 32) (v : BitVec 32) (s : State), Passes s who (Reg.MED_CS_CTRL_addr i.val) true →
    s.bit (Reg.MED_CS_CTRL_EN i.val) = true → (s.heldPictures.any (fun p => p.1 = i.val)) = false →
    (s.capSrc i.val).isp = none →
    Does (.captureSourceDisable who i v) s (fun t => t.bit (Reg.MED_CS_CTRL_EN i.val) = false ∧ t.msrc i.val = {} ∧
    t.capSrc i.val = {} ∧ RegsKept [Reg.MED_CS_CTRL_EN i.val, Reg.MED_CS_STATUS_LAST i.val] s t ∧ t.mem = s.mem)) ∧
  (∀ (who : Agent) (i : Fin 32) (v : BitVec 32) (s : State), Passes s who (Reg.MED_CS_CTRL_addr i.val) true →
    s.bit (Reg.MED_CS_CTRL_EN i.val) = true →
    (s.heldPictures.any (fun p => p.1 = i.val)) = true ∨ (s.capSrc i.val).isp.isSome = true →
    Does (.captureSourceDisable who i v) s (fun t => t.get (Reg.MED_CS_STATUS_LAST i.val) = Code.eBusy ∧
    OnlyRegs [Reg.MED_CS_STATUS_LAST i.val] [] s t)) ∧
  (∀ (port vc : Fin 16) (n : BitVec 16) (h : EccEvent) (s : State), s.rxOn port.val = true → h = .uncorrectable →
    Does (.csi2FrameStart port vc n h) s (fun t => t.fbGet 0x6090 0xB = satAdd 32 (s.fbGet 0x6090 0xB) 1 ∧
    OnlyRegs [] [(0x6090, 0xB)] s t)) ∧
  (∀ (port vc : Fin 16) (n : BitVec 16) (h : EccEvent) (s : State), s.rxOn port.val = true → h ≠ .uncorrectable →
    ∀ i rest, s.csOf port.val vc.val = i :: rest → rest = [] → (s.capSrc i).frame = none → ∀ b, s.csNext i = some b →
    Does (.csi2FrameStart port vc n h) s (fun t => ((t.capSrc i).frame.map (fun f => (f.buf, f.start, f.tag,
    f.lines))) = some (b, s.datum, n.toNat, 0) ∧
    ((t.capSrc i).frame.any (fun f => decide (s.datum ≤ f.capture + 20) && decide (f.capture ≤ s.datum + 20) && !f.bad)) = true ∧
    t.mem = s.mem ∧ t.regs = s.regs)) ∧
  (∀ (port vc : Fin 16) (n : BitVec 16) (h : EccEvent) (s : State), s.rxOn port.val = true → h ≠ .uncorrectable →
    ∀ i rest, s.csOf port.val vc.val = i :: rest → rest = [] → (s.capSrc i).frame = none → s.csNext i = none →
    Does (.csi2FrameStart port vc n h) s (fun t => (t.msrc i).newest.any (fun r => r.status == Code.eNoBuffer && r.tag == n.toNat && r.seq == (s.msrc i).seq) = true ∧
    (t.msrc i).good = (s.msrc i).good ∧ t.fbGet 0x6090 3 = satAdd 32 (s.fbGet 0x6090 3) 1 ∧
    (t.capSrc i).frame = none)) ∧
  (∀ (port vc : Fin 16) (dt : BitVec 6) (h : EccEvent) (crc : Bool) (pl : List Byte) (s : State),
    s.rxOn port.val = true → h ≠ .uncorrectable → (csiBits dt.toNat).isSome = true → ∀ i rest,
    s.csOf port.val vc.val = i :: rest → rest = [] → ∀ f, (s.capSrc i).frame = some f →
    s.get (Reg.MED_CS_CTRL_DT i) = dt.toNat →
    Does (.csi2Packet port vc dt h crc pl) s (fun t => (t.capSrc i).frame = some { f with lines := f.lines + 1, raw := f.raw ++ pl.map BitVec.toNat, bad := f.bad || !crc || pl.length != lineBytes dt.toNat (s.csW i) } ∧
    (t.capSrc i).next = (s.capSrc i).next ∧ t.mem = s.mem ∧ t.regs = s.regs ∧ t.fb = s.fb)) ∧
  (∀ (port vc : Fin 16) (dt : BitVec 6) (h : EccEvent) (crc : Bool) (pl : List Byte) (s : State),
    s.rxOn port.val = true → h ≠ .uncorrectable → 4 ≤ dt.toNat → dt.toNat ≠ 0x12 → csiBits dt.toNat = none →
    Does (.csi2Packet port vc dt h crc pl) s (fun t => t.fbGet 0x6090 0xB = satAdd 32 (s.fbGet 0x6090 0xB) 1 ∧
    OnlyRegs [] [(0x6090, 0xB)] s t)) ∧
  (∀ (port vc : Fin 16) (h isp : EccEvent) (par : Nat) (s : State), s.rxOn port.val = true → h ≠ .uncorrectable →
    isp ≠ .uncorrectable → ∀ i rest, s.csOf port.val vc.val = i :: rest → rest = [] → ∀ f,
    (s.capSrc i).frame = some f → f.bad = false → f.lines = s.csH i →
    let a := s.csBuffer i f.buf; let r := s.get (Reg.MED_CS_RING_BASE i) + 32 * ((s.msrc i).seq % 2 ^ s.get (Reg.MED_CS_RLOG2_LOG2 i)); Does (.csi2FrameEnd port vc h isp par) s (fun t => (t.msrc i).good = some ⟨a,
    s.csW i, s.csH i, f.capture, s.get (Reg.MED_CS_CTRL_OFMT i), f.step, f.buf⟩ ∧
    (t.msrc i).newest.any (fun r => r.status == Code.ok && r.tag == f.tag && r.addr == a && r.capture == f.capture && !r.subst && !r.absent) = true ∧
    (t.capSrc i).frame = none ∧ t.fbGet 0x6090 1 = satAdd 32 (s.fbGet 0x6090 1) 1 ∧ MemKeptOff [(a,
    a + s.csPicture i), (r, r + 32)] s t)) ∧
  (∀ (port vc : Fin 16) (h isp : EccEvent) (par : Nat) (s : State), s.rxOn port.val = true → h ≠ .uncorrectable →
    ∀ i rest, s.csOf port.val vc.val = i :: rest → rest = [] → ∀ f, (s.capSrc i).frame = some f →
    f.bad = true ∨ f.lines ≠ s.csH i →
    Does (.csi2FrameEnd port vc h isp par) s (fun t => (t.msrc i).newest.any (fun r => r.status == Code.eCorrupt && r.tag == f.tag) = true ∧
    (t.msrc i).good = (s.msrc i).good ∧ (t.capSrc i).frame = none ∧
    t.fbGet 0x6090 2 = satAdd 32 (s.fbGet 0x6090 2) 1)) ∧
  (∀ (i : Fin 32) (s : State), ∀ f, (s.capSrc i.val).frame = some f →
    Does (.frameEndTimeout i) s (fun t => t.datum = max s.datum (f.start + 2000000000 / s.get (Reg.MED_CS_RATE_FPS_MAX i.val)) ∧
    (t.msrc i.val).newest.any (fun r => r.status == Code.eCorrupt && r.tag == f.tag) = true ∧
    (t.msrc i.val).good = (s.msrc i.val).good ∧ (t.capSrc i.val).frame = none ∧
    t.fbGet 0x6090 2 = satAdd 32 (s.fbGet 0x6090 2) 1)) ∧
  (∀ (i : Fin 32) (s : State), (s.capSrc i.val).frame = none → Does (.frameEndTimeout i) s (fun t => t = s)) ∧
  (∀ (i : Fin 32) (raw : BitVec 48) (tag : BitVec 16) (cap : BitVec 64) (b : BitVec 32) (s : State),
    s.bit (Reg.MED_CS_CTRL_EN i.val) = true → ∀ w, s.windowOf 5 (s.get (Reg.MED_CS_CTRL_PARTITION i.val)) = some w →
    s.windowHeld w = false → s.unitOff 14 43 10 = false → s.fwDown 19 = false → (s.capSrc i.val).isp = none →
    verdict s.datum b.toNat false w = .admitted → ∀ n, s.csNext i.val = some n →
    Does (.ispMemoryInput i (.offer raw tag cap b)) s (fun t => (t.capSrc i.val).isp = some ⟨raw.toNat, tag.toNat,
    cap.toNat, n, s.datum, b.toNat, w.index, s.stepSeq⟩ ∧
    (t.capSrc i.val).next = (n + 1) % s.get (Reg.MED_CS_BUFCFG_NBUF i.val) ∧
    t = { s with med := { s.med with cap := t.med.cap } })) ∧
  (∀ (i : Fin 32) (raw : BitVec 48) (tag : BitVec 16) (cap : BitVec 64) (b : BitVec 32) (s : State),
    s.bit (Reg.MED_CS_CTRL_EN i.val) = true → s.mer.windows = [] →
    Does (.ispMemoryInput i (.offer raw tag cap b)) s (fun t => t.fbGet 0x6020 4 = satAdd 32 (s.fbGet 0x6020 4) 1 ∧
    OnlyRegs [] [(0x6020, 4)] s t)) ∧
  (∀ (i : Fin 32) (isp : EccEvent) (par : Nat) (s : State), ∀ j, (s.capSrc i.val).isp = some j →
    s.datum ≤ j.start + j.bound → isp ≠ .uncorrectable →
    s.reach (s.srcAttr i.val) false j.raw (s.rawBytes i.val) = (.ok, s) →
    let a := s.csBuffer i.val j.buf; let r := s.get (Reg.MED_CS_RING_BASE i.val) + 32 * ((s.msrc i.val).seq % 2 ^ s.get (Reg.MED_CS_RLOG2_LOG2 i.val)); Does (.ispMemoryInput i (.finish isp par)) s (fun t => (t.msrc i.val).good = some ⟨a,
    s.csW i.val, s.csH i.val, j.capture, s.get (Reg.MED_CS_CTRL_OFMT i.val), j.step, j.buf⟩ ∧
    (t.msrc i.val).newest.any (fun r => r.status == Code.ok && r.tag == j.tag && r.capture == j.capture) = true ∧
    (t.capSrc i.val).isp = none ∧ t.fbGet 0x6090 1 = satAdd 32 (s.fbGet 0x6090 1) 1 ∧ MemKeptOff [(a,
    a + s.csPicture i.val), (r, r + 32)] s t)) ∧
  (∀ (i : Fin 32) (isp : EccEvent) (par : Nat) (s : State), ∀ j, (s.capSrc i.val).isp = some j →
    s.datum ≤ j.start + j.bound → isp = .uncorrectable →
    Does (.ispMemoryInput i (.finish isp par)) s (fun t => (t.msrc i.val).newest.any (fun r => r.status == Code.eCorrupt && r.tag == j.tag) = true ∧
    (t.msrc i.val).good = (s.msrc i.val).good ∧ (t.capSrc i.val).isp = none ∧
    t.fbGet 0x6090 2 = satAdd 32 (s.fbGet 0x6090 2) 1)) ∧
  (∀ (i : Fin 32) (isp : EccEvent) (par : Nat) (s : State), ∀ j, (s.capSrc i.val).isp = some j →
    j.start + j.bound < s.datum → Does (.ispMemoryInput i (.finish isp par)) s (fun t => t = s))

/-- Decode contexts: enabling, descriptor checks, completion within the budget, dimension bounds, budget expiry (R281,
R282, R283, R284, R285, R286, R445). -/
def Obligations.MediaContexts : Prop :=
  (∀ (who : Agent) (x : Fin 64) (v : BitVec 32) (s : State), Passes s who (Reg.MED_CX_ATTR_addr x.val) true →
    s.bit (Reg.MED_CX_ATTR_EN x.val) = false →
    ((s.setAll (mxReg x.val v.toNat).locked).setAll (mxReg x.val v.toNat).free).mxCheck x.val = Code.ok →
    Does (.mediaContextEnable who x v) s (fun t => t.bit (Reg.MED_CX_ATTR_EN x.val) = true ∧
    t.get (Reg.MED_CX_ATTR_PARTITION x.val) = bitsOf v.toNat 29 24 ∧
    t.get (Reg.MED_CX_ATTR_CODEC x.val) = bitsOf v.toNat 22 20 ∧
    t.get (Reg.MED_Q_AVG_AVG_NS x.val) = s.get (Reg.MED_CX_INIT_INIT_US x.val) * 1000 % 2 ^ 32 ∧
    [Reg.MED_Q_WPTR_WPTR x.val, Reg.MED_Q_RPTR_RPTR x.val, Reg.MED_Q_CPL_WPTR_CPL_WPTR x.val,
    Reg.MED_Q_CPL_RPTR_CPL_RPTR x.val, Reg.MED_Q_STATUS_SLOW x.val].all (fun f => t.get f == 0) = true ∧
    t.fbGet 0x6091 (x.val + 1) = 0 ∧ t.mx x.val = {} ∧ t.mem = s.mem)) ∧
  (∀ (who : Agent) (x : Fin 64) (v : BitVec 32) (s : State), Passes s who (Reg.MED_CX_ATTR_addr x.val) true →
    s.bit (Reg.MED_CX_ATTR_EN x.val) = false →
    let c := ((s.setAll (mxReg x.val v.toNat).locked).setAll (mxReg x.val v.toNat).free).mxCheck x.val; c ≠ Code.ok →
    Does (.mediaContextEnable who x v) s (fun t => t.get (Reg.MED_CX_STATUS_LAST x.val) = c ∧
    OnlyRegs [Reg.MED_CX_STATUS_LAST x.val] [] s t)) ∧
  (∀ (who : Agent) (x : Fin 64) (v : BitVec 32) (s : State), Passes s who (Reg.MED_CX_ATTR_addr x.val) true →
    s.bit (Reg.MED_CX_ATTR_EN x.val) = true → (s.mx x.val).admitted = none →
    Does (.mediaContextDisable who x v) s (fun t => t.bit (Reg.MED_CX_ATTR_EN x.val) = false ∧
    t.bit (Reg.MED_Q_STATUS_EN x.val) = false ∧ t.mx x.val = {} ∧ t.mem = s.mem)) ∧
  (∀ (who : Agent) (x : Fin 64) (v : BitVec 32) (s : State), Passes s who (Reg.MED_CX_ATTR_addr x.val) true →
    s.bit (Reg.MED_CX_ATTR_EN x.val) = true → (s.mx x.val).admitted.isSome = true →
    Does (.mediaContextDisable who x v) s (fun t => t.get (Reg.MED_CX_STATUS_LAST x.val) = Code.eBusy ∧
    OnlyRegs [Reg.MED_CX_STATUS_LAST x.val] [] s t)) ∧
  (∀ (x : Fin 64) (s : State),
    let i := (s.get (Reg.MED_Q_RPTR_RPTR x.val) + (s.mx x.val).checked.length) % s.mxSlots x.val; s.bit (Reg.MED_CX_ATTR_EN x.val) = true →
    (s.mx x.val).stopped = false → (s.mx x.val).checked.all (fun c => c.code == Code.ok) = true →
    (s.mx x.val).checked.length < s.mxSlots x.val → i ≠ s.get (Reg.MED_Q_WPTR_WPTR x.val) →
    s.sampleChk x.val (s.sampleDesc x.val i) = Code.ok →
    s.reach (s.srcAttr (32 + x.val)) false (s.get (Reg.MED_CX_RING_BASE x.val) + 32 * i) 32 = (.ok, s) →
    Does (.sampleDescriptor x) s (fun t => (t.mx x.val).checked = (s.mx x.val).checked ++ [⟨i, s.sampleDesc x.val i,
    Code.ok, s.stepSeq⟩] ∧ (t.mx x.val).admitted = (s.mx x.val).admitted ∧ t = { s with med := t.med } ∧
    t.med.src = s.med.src)) ∧
  (∀ (x : Fin 64) (s : State), s.bit (Reg.MED_CX_ATTR_EN x.val) = true →
    (s.get (Reg.MED_Q_RPTR_RPTR x.val) + (s.mx x.val).checked.length) % s.mxSlots x.val = s.get (Reg.MED_Q_WPTR_WPTR x.val) →
    Does (.sampleDescriptor x) s (fun t => t = s)) ∧
  (∀ (x : Fin 64) (time : BitVec 32) (wd ht : BitVec 16) (fits dep : Bool) (oc : MediaOutcome) (ten : Bool) (off : BitVec 32) (data : List Byte) (s : State),
    ∀ start bw, (s.mx x.val).admitted = some (start, bw) → ∀ c rest, (s.mx x.val).checked = c :: rest → rest = [] →
    s.mer.windows = [] → let stop := max s.datum (start + time.toNat); stop ≤ start + bw.1 →
    s.bit (Reg.MED_CX_ATTR_ENCODE x.val) = false → let d := c.desc; d.seqhdr = true →
    let fmt := if ten && decide (s.get (Reg.MED_CX_ATTR_CODEC x.val) < 2) then 2 else 0; let a := s.get (Reg.MED_CX_ARENA_BASE x.val) + off.toNat; let n := pictureBytes fmt wd.toNat ht.toNat; s.arenaTaken x.val a n = false →
    s.dimsBad x.val wd.toNat ht.toNat d.bytes = false → fits = true →
    off.toNat + n ≤ s.get (Reg.MED_CX_ARENA_SIZE_SIZE x.val) →
    s.reach (s.srcAttr (32 + x.val)) false d.addr d.bytes = (.ok, s) →
    s.reach (s.srcAttr (32 + x.val)) true a n = (.ok, s) → oc = .ok →
    let r := s.get (Reg.MED_CX_CPL_BASE x.val) + 32 * s.get (Reg.MED_Q_CPL_WPTR_CPL_WPTR x.val); Does (.decodeComplete x time wd ht fits dep oc ten off data) s (fun t => (t.msrc (32 + x.val)).good = some ⟨a,
    wd.toNat, ht.toNat, d.capture, fmt, c.step, 0⟩ ∧
    (t.msrc (32 + x.val)).newest.any (fun q => q.status == Code.ok && q.tag == d.tag && q.addr == a && q.w == wd.toNat && q.h == ht.toNat) = true ∧
    (t.mx x.val).admitted = none ∧ (t.mx x.val).checked = [] ∧ (t.mx x.val).decl = some (wd.toNat, ht.toNat) ∧
    t.datum = stop ∧
    t.get (Reg.MED_Q_AVG_AVG_NS x.val) = min (avgStep (s.get (Reg.MED_Q_AVG_AVG_NS x.val)) (stop - start)) 0xFFFFFFFF ∧
    t.get (Reg.MED_Q_RPTR_RPTR x.val) = (c.slot + 1) % s.mxSlots x.val % 2 ^ (Reg.MED_Q_RPTR_RPTR x.val).width ∧
    MemKeptOff [(a, a + n), (r, r + 32)] s t)) ∧
  (∀ (x : Fin 64) (time : BitVec 32) (wd ht : BitVec 16) (fits dep : Bool) (oc : MediaOutcome) (ten : Bool) (off : BitVec 32) (data : List Byte) (s : State),
    ∀ start bw, (s.mx x.val).admitted = some (start, bw) → ∀ c rest, (s.mx x.val).checked = c :: rest → rest = [] →
    s.mer.windows = [] → max s.datum (start + time.toNat) ≤ start + bw.1 →
    s.bit (Reg.MED_CX_ATTR_ENCODE x.val) = false → let d := c.desc; d.seqhdr = true →
    s.arenaTaken x.val (s.get (Reg.MED_CX_ARENA_BASE x.val) + off.toNat) (pictureBytes (if ten && decide (s.get (Reg.MED_CX_ATTR_CODEC x.val) < 2) then 2 else 0) wd.toNat ht.toNat) = false →
    s.dimsBad x.val wd.toNat ht.toNat d.bytes = true →
    Does (.decodeComplete x time wd ht fits dep oc ten off data) s (fun t => (t.msrc (32 + x.val)).newest.any (fun q => q.status == Code.eDimBound && q.tag == d.tag) = true ∧
    (t.msrc (32 + x.val)).good = (s.msrc (32 + x.val)).good ∧ (t.mx x.val).admitted = none ∧
    t.fbGet 0x6090 7 = satAdd 32 (s.fbGet 0x6090 7) 1)) ∧
  (∀ (x : Fin 64) (time : BitVec 32) (wd ht : BitVec 16) (fits dep : Bool) (oc : MediaOutcome) (ten : Bool) (off : BitVec 32) (data : List Byte) (s : State),
    ∀ start bw, (s.mx x.val).admitted = some (start, bw) → start + bw.1 < max s.datum (start + time.toNat) →
    Does (.decodeComplete x time wd ht fits dep oc ten off data) s (fun t => t = s)) ∧
  (∀ (x : Fin 64) (s : State), ∀ start bw, (s.mx x.val).admitted = some (start, bw) → ∀ c rest,
    (s.mx x.val).checked = c :: rest → rest = [] → s.mer.windows = [] →
    Does (.decodeBudgetExpiry x) s (fun t => t.datum = max s.datum (start + bw.1) ∧
    (t.msrc (32 + x.val)).newest.any (fun q => q.status == Code.eBudget && q.abandoned && q.tag == c.desc.tag) = true ∧
    (t.msrc (32 + x.val)).good = (s.msrc (32 + x.val)).good ∧ (t.mx x.val).admitted = none ∧
    (t.mx x.val).checked = [] ∧ (t.mx x.val).broken = true ∧ t.fbGet 0x6090 8 = satAdd 32 (s.fbGet 0x6090 8) 1)) ∧
  (∀ (x : Fin 64) (s : State), (s.mx x.val).admitted = none → Does (.decodeBudgetExpiry x) s (fun t => t = s))

/-- Staging contexts: enabling loads the table, a job's end publishes its batch, an overrun leaves nothing, batches
are released by their owner (R159, R287, R288, R289, R291, R292, R445). -/
def Obligations.StagingContexts : Prop :=
  (∀ (who : Agent) (p : Fin 32) (v : BitVec 32) (s : State), Passes s who (Reg.MED_ST_CTRL_addr p.val) true →
    s.bit (Reg.MED_ST_CTRL_EN p.val) = false → (s.setAll (stReg p.val v.toNat).locked).stCheck p.val = Code.ok →
    Does (.stagingEnable who p v) s (fun t => t.bit (Reg.MED_ST_CTRL_EN p.val) = true ∧
    t.get (Reg.MED_ST_CTRL_BOUND_US p.val) = bitsOf v.toNat 19 0 ∧
    t.get (Reg.MED_ST_CTRL_PARTITION p.val) = bitsOf v.toNat 29 24 ∧
    (t.stx p.val).buckets = (s.stBuckets p.val).map (fun k => (k, s.readBucket p.val k)) ∧
    (t.stx p.val).slots = (s.stSlots p.val).map (s.readSlot p.val) ∧ (t.stx p.val).job = none ∧ (∀ k : Fin 8,
    t.get (Reg.MED_PBQ_WPTR_WPTR p.val k.val) = 0 ∧ t.get (Reg.MED_PBQ_RPTR_RPTR p.val k.val) = 0) ∧ t.mem = s.mem)) ∧
  (∀ (who : Agent) (p : Fin 32) (v : BitVec 32) (s : State), Passes s who (Reg.MED_ST_CTRL_addr p.val) true →
    s.bit (Reg.MED_ST_CTRL_EN p.val) = false →
    let c := (s.setAll (stReg p.val v.toNat).locked).stCheck p.val; c ≠ Code.ok → c ≠ Code.eAccess →
    Does (.stagingEnable who p v) s (fun t => t.get (Reg.MED_ST_STATUS_LAST p.val) = c ∧
    OnlyRegs [Reg.MED_ST_STATUS_LAST p.val] [] s t)) ∧
  (∀ (who : Agent) (p : Fin 32) (v : BitVec 32) (s : State), Passes s who (Reg.MED_ST_CTRL_addr p.val) true →
    s.bit (Reg.MED_ST_CTRL_EN p.val) = false → (s.setAll (stReg p.val v.toNat).locked).stCheck p.val = Code.eAccess →
    Does (.stagingEnable who p v) s (fun t => t.get (Reg.MED_ST_STATUS_LAST p.val) = Code.eAccess ∧
    t.bit (Reg.MED_ST_CTRL_EN p.val) = false ∧ t.stx p.val = s.stx p.val ∧ t.mem = s.mem)) ∧
  (∀ (who : Agent) (p : Fin 32) (v : BitVec 32) (s : State), Passes s who (Reg.MED_ST_CTRL_addr p.val) true →
    s.bit (Reg.MED_ST_CTRL_EN p.val) = true → (s.stx p.val).job = none →
    Does (.stagingDisable who p v) s (fun t => t.bit (Reg.MED_ST_CTRL_EN p.val) = false ∧ t.stx p.val = {} ∧
    RegsKept [Reg.MED_ST_CTRL_EN p.val, Reg.MED_ST_STATUS_LAST p.val] s t ∧ t.mem = s.mem)) ∧
  (∀ (who : Agent) (p : Fin 32) (v : BitVec 32) (s : State), Passes s who (Reg.MED_ST_CTRL_addr p.val) true →
    s.bit (Reg.MED_ST_CTRL_EN p.val) = true → (s.stx p.val).job.isSome = true →
    Does (.stagingDisable who p v) s (fun t => t.get (Reg.MED_ST_STATUS_LAST p.val) = Code.eBusy ∧
    OnlyRegs [Reg.MED_ST_STATUS_LAST p.val] [] s t)) ∧
  (∀ (p : Fin 32) (s : State), ∀ j, (s.stx p.val).job = some j → s.datum ≤ j.start + j.bound → ∀ b rest,
    (s.stx p.val).buckets = b :: rest → rest = [] → let wp := s.get (Reg.MED_PBQ_WPTR_WPTR p.val b.1); b.1 < 8 →
    (wp + 1) % b.2.depth ≠ s.get (Reg.MED_PBQ_RPTR_RPTR p.val b.1) →
    let ts := j.taken.filter (fun x => x.slot.bucket = b.1); ts.length ≤ 16 → ts.length * b.2.stride3 ≤ b.2.entry →
    let h := b.2.hdr + wp * 0x200; let a := b.2.base + wp * b.2.entry; s.reach (s.stAttr p.val) true h 512 = (.ok,
    s) → s.reach (s.stAttr p.val) true a (ts.length * b.2.stride3) = (.ok, s) →
    Does (.stagingJobEnd p) s (fun t => t.get (Reg.MED_PBQ_WPTR_WPTR p.val b.1) = (wp + 1) % b.2.depth % 2 ^ (Reg.MED_PBQ_WPTR_WPTR p.val b.1).width ∧
    t.rd h 8 = leBytes 4 j.frame ++ leBytes 4 (b.1 + 16 * ts.length) ∧ t.rd (h + 0x18) 8 = leBytes 8 j.start ∧
    (t.stx p.val).job = none ∧ t.get (Reg.MED_PBQ_RPTR_RPTR p.val b.1) = s.get (Reg.MED_PBQ_RPTR_RPTR p.val b.1) ∧
    MemKeptOff [(a, a + b.2.entry), (h, h + 512)] s t ∧ t.datum = s.datum)) ∧
  (∀ (p : Fin 32) (s : State), ∀ j, (s.stx p.val).job = some j → s.datum ≤ j.start + j.bound → ∀ b rest,
    (s.stx p.val).buckets = b :: rest → rest = [] →
    (s.get (Reg.MED_PBQ_WPTR_WPTR p.val b.1) + 1) % b.2.depth = s.get (Reg.MED_PBQ_RPTR_RPTR p.val b.1) →
    Does (.stagingJobEnd p) s (fun t => t.get (Reg.MED_PBQ_WPTR_WPTR p.val b.1) = s.get (Reg.MED_PBQ_WPTR_WPTR p.val b.1) ∧
    t.fbGet 0x6090 9 = satAdd 32 (s.fbGet 0x6090 9) 1 ∧ (t.stx p.val).job = none ∧ t.mem = s.mem)) ∧
  (∀ (p : Fin 32) (s : State), ∀ j, (s.stx p.val).job = some j → j.start + j.bound < s.datum →
    Does (.stagingJobEnd p) s (fun t => t = s)) ∧
  (∀ (p : Fin 32) (s : State), ∀ j, (s.stx p.val).job = some j → s.mer.windows = [] →
    Does (.stagingOverrun p) s (fun t => (t.stx p.val).job = none ∧ t.datum = max s.datum (j.start + j.bound + 1) ∧
    t.fbGet 0x6090 0xE = satAdd 32 (s.fbGet 0x6090 0xE) 1 ∧ t.mem = s.mem ∧ t.regs = s.regs)) ∧
  (∀ (p : Fin 32) (s : State), (s.stx p.val).job = none → Does (.stagingOverrun p) s (fun t => t = s)) ∧
  (∀ (who : Agent) (p : Fin 32) (k : Fin 8) (v : BitVec 4) (s : State),
    Passes s who (Reg.MED_PBQ_RPTR_addr p.val k.val) true → s.attrOf who = s.stAttr p.val → ∀ b,
    KMap.find (s.stx p.val).buckets k.val = some b → v.toNat < b.depth →
    (v.toNat + b.depth - s.get (Reg.MED_PBQ_RPTR_RPTR p.val k.val)) % b.depth ≤ s.pbDepth p.val k.val b.depth →
    Does (.batchRelease who p k v) s (fun t => t.get (Reg.MED_PBQ_RPTR_RPTR p.val k.val) = v.toNat % 2 ^ (Reg.MED_PBQ_RPTR_RPTR p.val k.val).width ∧
    t.get (Reg.MED_ST_STATUS_LAST p.val) = Code.ok ∧ RegsKept [Reg.MED_PBQ_RPTR_RPTR p.val k.val,
    Reg.MED_ST_STATUS_LAST p.val, Reg.MED_ST_STATUS_LOW p.val] s t ∧ FbKept [(0x6090, 0xA)] s t ∧
    t = { s with regs := t.regs, fb := t.fb, resp := t.resp, med := { s.med with st := t.med.st } })) ∧
  (∀ (who : Agent) (p : Fin 32) (k : Fin 8) (v : BitVec 4) (s : State),
    Passes s who (Reg.MED_PBQ_RPTR_addr p.val k.val) true → s.attrOf who = s.stAttr p.val → ∀ b,
    KMap.find (s.stx p.val).buckets k.val = some b →
    b.depth ≤ v.toNat ∨ s.pbDepth p.val k.val b.depth < (v.toNat + b.depth - s.get (Reg.MED_PBQ_RPTR_RPTR p.val k.val)) % b.depth →
    Does (.batchRelease who p k v) s (fun t => t.get (Reg.MED_ST_STATUS_LAST p.val) = Code.eBounds ∧
    OnlyRegs [Reg.MED_ST_STATUS_LAST p.val] [] s t)) ∧
  (∀ (who : Agent) (p : Fin 32) (k : Fin 8) (v : BitVec 4) (s : State),
    Passes s who (Reg.MED_PBQ_RPTR_addr p.val k.val) true → s.attrOf who ≠ s.stAttr p.val →
    Does (.batchRelease who p k v) s (fun t => t.get (Reg.MED_ST_STATUS_LAST p.val) = Code.eAccess ∧
    t.get (Reg.MED_PBQ_RPTR_RPTR p.val k.val) = s.get (Reg.MED_PBQ_RPTR_RPTR p.val k.val) ∧
    t.fbGet 0x60A0 1 = satAdd 32 (s.fbGet 0x60A0 1) 1 ∧ t.mem = s.mem))

/-- mwattr is written in M-mode alone; checkers are programmed by the region rules, acknowledged and locked (R297,
R299, R302, R303, R316, R445). -/
def Obligations.CheckersAndAttributes : Prop :=
  (∀ (core : Fin 18) (mode : Mode) (v : BitVec 64) (s : State), mode = .m →
    Does (.mwattrWrite core mode v) s (fun t => t.mwattr core.val = ⟨bitOf v.toNat 8 || decide (16 ≤ core.val),
    v.toNat % 64⟩ ∧ (∀ c : Fin 18, c ≠ core → t.mwattr c.val = s.mwattr c.val) ∧
    t = { s with worlds := { s.worlds with mwattr := t.worlds.mwattr } })) ∧
  (∀ (core : Fin 18) (mode : Mode) (v : BitVec 64) (s : State), mode ≠ .m →
    Does (.mwattrWrite core mode v) s (fun t => t = { s with out := s.out ++ [.illegalInstruction core.val] })) ∧
  (∀ (who : Agent) (k : Fin 65) (n : BitVec 4) (s : State), Passes s who (Reg.CAD_LOG_ACK_addr k.val) true →
    checkerExists k.val = true → n.toNat ≠ 0 → n.toNat ≠ 15 → n.toNat ≤ s.get (Reg.CAD_STATUS_COUNT k.val) →
    (KMap.find s.worlds.dropped k.val).all (fun x => x.1 != s.datum) = true →
    Does (.logAck who k n) s (fun t => t.get (Reg.CAD_STATUS_HEAD k.val) = (s.get (Reg.CAD_STATUS_HEAD k.val) + n.toNat) % 8 ∧
    t.get (Reg.CAD_STATUS_COUNT k.val) = (s.get (Reg.CAD_STATUS_COUNT k.val) - n.toNat) % 2 ^ (Reg.CAD_STATUS_COUNT k.val).width ∧
    t.get (Reg.CAD_STATUS_LAST k.val) = Code.ok ∧ OnlyRegs [Reg.CAD_STATUS_HEAD k.val, Reg.CAD_STATUS_COUNT k.val,
    Reg.CAD_STATUS_LAST k.val] [] s t)) ∧
  (∀ (who : Agent) (k : Fin 65) (n : BitVec 4) (s : State), Passes s who (Reg.CAD_LOG_ACK_addr k.val) true →
    checkerExists k.val = true → n.toNat = 0 ∨ n.toNat = 15 ∨ s.get (Reg.CAD_STATUS_COUNT k.val) < n.toNat →
    Does (.logAck who k n) s (fun t => t.get (Reg.CAD_STATUS_LAST k.val) = (if n.toNat = 0 ∨ n.toNat = 15 then Code.eLength else Code.eBounds) ∧
    OnlyRegs [Reg.CAD_STATUS_LAST k.val] [] s t)) ∧
  (∀ (who : Agent) (k : Fin 65) (r : Fin 32) (p : BitVec 4) (s : State),
    let o := regionOwner k.val; Passes s who (Reg.CAD_RG_CTRL_addr k.val r.val) true → checkerExists k.val = true →
    k.val ≠ 51 → s.cadLocked k.val = false → s.bit (Reg.CAD_RG_CTRL_EN o r.val) = false → s.regionOk o r.val = true →
    Does (.regionEnable who k r p) s (fun t => t.bit (Reg.CAD_RG_CTRL_EN o r.val) = true ∧
    t.regionPerms o r.val = p.toNat ∧ t.get (Reg.CAD_STATUS_LAST k.val) = Code.ok ∧
    RegsKept [Reg.CAD_RG_CTRL_EN o r.val, Reg.CAD_RG_CTRL_NW o r.val, Reg.CAD_RG_CTRL_NR o r.val,
    Reg.CAD_RG_CTRL_SW o r.val, Reg.CAD_RG_CTRL_SR o r.val, Reg.CAD_STATUS_LAST k.val] s t ∧
    t = { s with regs := t.regs, resp := t.resp, worlds := { s.worlds with regionWas := t.worlds.regionWas } })) ∧
  (∀ (who : Agent) (k : Fin 65) (r : Fin 32) (p : BitVec 4) (s : State),
    let o := regionOwner k.val; Passes s who (Reg.CAD_RG_CTRL_addr k.val r.val) true → checkerExists k.val = true →
    k.val ≠ 51 → s.cadLocked k.val = false → s.bit (Reg.CAD_RG_CTRL_EN o r.val) = false →
    s.regionOk o r.val = false →
    Does (.regionEnable who k r p) s (fun t => t.get (Reg.CAD_STATUS_LAST k.val) = Code.eBounds ∧
    OnlyRegs [Reg.CAD_STATUS_LAST k.val] [] s t)) ∧
  (∀ (who : Agent) (k : Fin 65) (r : Fin 32) (p : BitVec 4) (s : State),
    Passes s who (Reg.CAD_RG_CTRL_addr k.val r.val) true → checkerExists k.val = true → k.val ≠ 51 →
    s.cadLocked k.val = true →
    Does (.regionEnable who k r p) s (fun t => t.get (Reg.CAD_STATUS_LAST k.val) = Code.eState ∧
    OnlyRegs [Reg.CAD_STATUS_LAST k.val] [] s t)) ∧
  (∀ (who : Agent) (k : Fin 65) (r : Fin 32) (p : BitVec 4) (s : State),
    let o := regionOwner k.val; Passes s who (Reg.CAD_RG_CTRL_addr k.val r.val) true → checkerExists k.val = true →
    k.val ≠ 51 → s.cadLocked k.val = false → s.bit (Reg.CAD_RG_CTRL_EN o r.val) = true →
    Does (.regionDisable who k r p) s (fun t => t.bit (Reg.CAD_RG_CTRL_EN o r.val) = false ∧
    t.regionPerms o r.val = s.regionPerms o r.val ∧
    t.get (Reg.CAD_STATUS_LAST k.val) = (if s.regionPerms o r.val = p.toNat then Code.ok else Code.eState) ∧
    RegsKept [Reg.CAD_RG_CTRL_EN o r.val, Reg.CAD_STATUS_LAST k.val] s t ∧
    t = { s with regs := t.regs, resp := t.resp, worlds := { s.worlds with regionWas := t.worlds.regionWas } })) ∧
  (∀ (who : Agent) (k : Fin 65) (s : State), Passes s who (Reg.CAD_CTRL_addr k.val) true →
    checkerExists k.val = true →
    Does (.cadastreLock who k) s (fun t => t.bit (Reg.CAD_CTRL_LOCK (regionOwner k.val)) = true ∧
    t.get (Reg.CAD_STATUS_LAST k.val) = Code.ok ∧ RegsKept [Reg.CAD_CTRL_LOCK (regionOwner k.val),
    Reg.CAD_STATUS_LAST k.val] s t ∧
    t = { s with regs := t.regs, resp := t.resp, worlds := { s.worlds with lockAt := t.worlds.lockAt } }))

/-- Monitor services answer at once; secure services are forwarded with the hart's next number, answered once, or time
out (R304, R305, R306, R312, R303). -/
def Obligations.ServiceCalls : Prop :=
  (∀ (core : Fin 16) (mode : Mode) (s : State),
    Does (.svcVersion core mode) s (fun t => Returned s t core.val (fun a b => a == Code.ok && b == Config.serviceVersion % 2 ^ 32) ∧
    t = { s with out := t.out, freeCtr := t.freeCtr })) ∧
  (∀ (core : Fin 16) (mode : Mode) (s : State),
    Does (.svcAttrGet core mode) s (fun t => Returned s t core.val (fun a b => a == Code.ok && b == (s.mwattr core.val).toNat) ∧
    t = { s with out := t.out, freeCtr := t.freeCtr })) ∧
  (∀ (core : Fin 16) (mode : Mode) (p : BitVec 64) (s : State), mode = .hs →
    s.switchable (s.mwattr core.val).partition = true → p.toNat < 64 → s.switchable p.toNat = true →
    Does (.svcPartSwitch core mode p) s (fun t => t.mwattr core.val = { s.mwattr core.val with partition := p.toNat } ∧
    Returned s t core.val (fun a _ => a == Code.ok) ∧
    t = { s with worlds := { s.worlds with mwattr := t.worlds.mwattr }, out := t.out, freeCtr := t.freeCtr })) ∧
  (∀ (core : Fin 16) (mode : Mode) (p : BitVec 64) (s : State), mode ≠ .hs ∨ 64 ≤ p.toNat →
    Does (.svcPartSwitch core mode p) s (fun t => Returned s t core.val (fun a _ => a == Code.eAccess) ∧
    t = { s with out := t.out, freeCtr := t.freeCtr })) ∧
  (∀ (core : Fin 16) (mode : Mode) (s : State),
    Does (.svcSecureStatus core mode) s (fun t => Output.svc core.val Code.ok (s.get Reg.CRY_SEC_STATE_STATE) (s.get Reg.CRY_SEC_STATE_RESTARTS) (KMap.getD s.worlds.done core.val 0) ∈ t.out ∧
    t = { s with out := t.out, freeCtr := t.freeCtr })) ∧
  (∀ (core : Fin 16) (mode : Mode) (k r base lim parts perms : BitVec 64) (s : State),
    KMap.find s.worlds.plan (k.toNat * 32 + r.toNat) = none →
    Does (.svcRegionSet core mode k r base lim parts perms) s (fun t => Returned s t core.val (fun a _ => a == Code.eAccess) ∧
    t = { s with out := t.out, freeCtr := t.freeCtr })) ∧
  (∀ (core : Fin 16) (mode : Mode) (k r base lim parts perms : BitVec 64) (s : State), ∀ w,
    KMap.find s.worlds.plan (k.toNat * 32 + r.toNat) = some w → s.hypervisor (s.mwattr core.val).partition = true →
    k.toNat < 65 → checkerExists k.toNat = true → k.toNat ≠ 51 → 24 ≤ r.toNat → r.toNat ≤ 31 →
    w.1 ≤ base.toNat / 4096 → lim.toNat / 4096 ≤ w.2 → parts.toNat &&& s.fbGet 0x7500 2 = parts.toNat →
    s.cadLocked k.toNat = false → base.toNat / 4096 ≤ lim.toNat / 4096 →
    pagesInChecker k.toNat (base.toNat / 4096) (lim.toNat / 4096) = true →
    let o := regionOwner k.toNat; Does (.svcRegionSet core mode k r base lim parts perms) s (fun t => t.get (Reg.CAD_RG_BASE_BASE o r.toNat) = base.toNat / 4096 % 2 ^ (Reg.CAD_RG_BASE_BASE o r.toNat).width ∧
    t.get (Reg.CAD_RG_LIMIT_LIMIT o r.toNat) = lim.toNat / 4096 % 2 ^ (Reg.CAD_RG_LIMIT_LIMIT o r.toNat).width ∧
    t.get (Reg.CAD_RG_PARTS_PARTS o r.toNat) = parts.toNat ∧ t.regionPerms o r.toNat = perms.toNat % 4 ∧
    t.bit (Reg.CAD_RG_CTRL_EN o r.toNat) = (perms.toNat != 0) ∧ Returned s t core.val (fun a _ => a == Code.ok) ∧
    RegsKept [Reg.CAD_RG_BASE_BASE o r.toNat, Reg.CAD_RG_LIMIT_LIMIT o r.toNat, Reg.CAD_RG_PARTS_PARTS o r.toNat,
    Reg.CAD_RG_CTRL_EN o r.toNat, Reg.CAD_RG_CTRL_NW o r.toNat, Reg.CAD_RG_CTRL_NR o r.toNat,
    Reg.CAD_RG_CTRL_SW o r.toNat, Reg.CAD_RG_CTRL_SR o r.toNat] s t ∧
    t = { s with regs := t.regs, out := t.out, freeCtr := t.freeCtr, worlds := { s.worlds with regionWas := t.worlds.regionWas } })) ∧
  (∀ (core : Fin 16) (mode : Mode) (id : BitVec 64) (s : State), 0x53000000 ≤ id.toNat → id.toNat ≤ 0x53FFFFFF →
    [0x53000000, 0x53000001, 0x53000002, 0x53000003, 0x53000004, 0x53010001, 0x53010002, 0x53010003, 0x53010010,
    0x53010020, 0x53010030, 0x53010031].contains id.toNat = false →
    Does (.ecallUnknownService core mode id) s (fun t => Returned s t core.val (fun a _ => a == Code.eIllegal) ∧
    t = { s with out := t.out, freeCtr := t.freeCtr })) ∧
  (∀ (core : Fin 16) (mode : Mode) (slot a n : BitVec 64) (served : Bool) (s : State), served = false →
    MayForward s core.val →
    Does (.svcCmac core mode slot a n served) s (fun t => Forwarded s t core.val (.cmac slot.toNat a.toNat n.toNat))) ∧
  (∀ (core : Fin 16) (mode : Mode) (slot a n : BitVec 64) (served : Bool) (s : State), served = true →
    MayForward s core.val → Does (.svcCmac core mode slot a n served) s (fun t => Served s t core.val)) ∧
  (∀ (core : Fin 16) (mode : Mode) (slot a n tg : BitVec 64) (served : Bool) (s : State), served = false →
    MayForward s core.val →
    Does (.svcCmacVerify core mode slot a n tg served) s (fun t => Forwarded s t core.val (.cmacVerify slot.toNat a.toNat n.toNat tg.toNat))) ∧
  (∀ (core : Fin 16) (mode : Mode) (served : Bool) (s : State), served = false → MayForward s core.val →
    Does (.svcRandom core mode served) s (fun t => Forwarded s t core.val (.random))) ∧
  (∀ (core : Fin 16) (mode : Mode) (served : Bool) (s : State), served = true → MayForward s core.val →
    Does (.svcRandom core mode served) s (fun t => Served s t core.val)) ∧
  (∀ (core : Fin 16) (mode : Mode) (a b : BitVec 64) (served : Bool) (s : State), served = false →
    MayForward s core.val →
    Does (.svcAttest core mode a b served) s (fun t => Forwarded s t core.val (.attest a.toNat b.toNat))) ∧
  (∀ (core : Fin 16) (mode : Mode) (slot a : BitVec 64) (served : Bool) (s : State), served = false →
    MayForward s core.val →
    Does (.svcKeyLoad core mode slot a served) s (fun t => Forwarded s t core.val (.keyLoad slot.toNat a.toNat))) ∧
  (∀ (core : Fin 16) (mode : Mode) (slot a : BitVec 64) (served : Bool) (s : State), served = true →
    MayForward s core.val → Does (.svcKeyLoad core mode slot a served) s (fun t => Served s t core.val)) ∧
  (∀ (core : Fin 16) (mode : Mode) (a n : BitVec 64) (served : Bool) (s : State), served = false →
    MayForward s core.val →
    Does (.svcFwStage core mode a n served) s (fun t => Forwarded s t core.val (.fwStage a.toNat n.toNat))) ∧
  (∀ (core : Fin 16) (mode : Mode) (kind : BitVec 64) (served : Bool) (s : State), served = false →
    MayForward s core.val →
    Does (.svcFwActivate core mode kind served) s (fun t => Forwarded s t core.val (.fwActivate kind.toNat))) ∧
  (∀ (core : Fin 16) (mode : Mode) (kind : BitVec 64) (served : Bool) (s : State), served = true →
    MayForward s core.val → Does (.svcFwActivate core mode kind served) s (fun t => Served s t core.val)) ∧
  (∀ (core : Fin 16) (mode : Mode) (served : Bool) (s : State), KMap.find s.worlds.calls core.val = none →
    2 ≤ s.get Reg.CRY_SEC_STATE_STATE →
    Does (.svcRandom core mode served) s (fun t => Returned s t core.val (fun a _ => a == Code.eUnavailable) ∧
    t.fbGet 0x60A0 7 = satAdd 32 (s.fbGet 0x60A0 7) 1 ∧ t.worlds = s.worlds)) ∧
  (∀ (core : Fin 16) (s : State), ∀ c, KMap.find s.worlds.calls core.val = some c → ∀ l, c.answer = some l →
    Does (.serviceAnswer core) s (fun t => KMap.find t.worlds.calls core.val = none ∧
    Returned s t core.val (fun a b => (l.length == 0 || a == natAt l 0) && (decide (l.length < 2) || b == natAt l 1)) ∧
    t = { s with worlds := { s.worlds with calls := t.worlds.calls }, out := t.out, freeCtr := t.freeCtr })) ∧
  (∀ (core : Fin 16) (s : State), KMap.find s.worlds.calls core.val = none →
    Does (.serviceAnswer core) s (fun t => t = s)) ∧
  (∀ (core : Fin 16) (s : State), ∀ c, KMap.find s.worlds.calls core.val = some c →
    Does (.serviceCallTimeout core) s (fun t => KMap.find t.worlds.calls core.val = none ∧
    Returned s t core.val (fun a b => a == Code.eTimeout && b == c.seq) ∧
    t.datum = max s.datum (c.start + s.fbGet 0x7500 4 * 1000000) ∧ t.mem = s.mem)) ∧
  (∀ (core : Fin 16) (s : State), KMap.find s.worlds.calls core.val = none →
    Does (.serviceCallTimeout core) s (fun t => t = s))

/-- Key slots load, zeroise and lock; the secure cluster restarts alone, is measured and becomes ready; its watchdog;
leases (R299, R307, R309, R310, R311, R313, R315, R322). -/
def Obligations.KeysAndSecureCluster : Prop :=
  (∀ (who : Agent) (k : Fin 32) (ty : BitVec 4) (u : BitVec 5) (s : State),
    Passes s who (Reg.CRY_KS_CTRL_addr k.val) true → s.bit (Reg.CRY_KS_CTRL_LOCK k.val) = false → ty.toNat ≤ 1 →
    Does (.keySlotLoad who k ty u) s (fun t => KMap.find t.worlds.keys k.val = some ⟨s.keyRegBytes k.val (if ty.toNat = 1 then 8 else 4),
    ty.toNat = 1, u.toNat, s.get (Reg.CRY_KS_PARTS_PARTS k.val)⟩ ∧ t.get (Reg.CRY_KS_CTRL_TYPE k.val) = ty.toNat ∧
    t.bit (Reg.CRY_KS_CTRL_LOADED k.val) = true ∧ RegsKept [Reg.CRY_KS_CTRL_TYPE k.val, Reg.CRY_KS_CTRL_LOADED k.val,
    Reg.CRY_KS_CTRL_USE_GEN k.val, Reg.CRY_KS_CTRL_USE_VERIFY k.val, Reg.CRY_KS_CTRL_USE_FBA k.val,
    Reg.CRY_KS_CTRL_USE_IMAGE k.val, Reg.CRY_KS_CTRL_USE_CRYPT k.val] s t ∧
    t = { s with regs := t.regs, resp := t.resp, worlds := { s.worlds with keys := t.worlds.keys } })) ∧
  (∀ (who : Agent) (k : Fin 32) (ty : BitVec 4) (u : BitVec 5) (s : State),
    Passes s who (Reg.CRY_KS_CTRL_addr k.val) true → s.bit (Reg.CRY_KS_CTRL_LOCK k.val) = true →
    Does (.keySlotLoad who k ty u) s (fun t => t = { s with resp := t.resp })) ∧
  (∀ (who : Agent) (k : Fin 32) (s : State), Passes s who (Reg.CRY_KS_CTRL_addr k.val) true →
    s.bit (Reg.CRY_KS_CTRL_LOCK k.val) = false →
    Does (.keySlotZero who k) s (fun t => KMap.find t.worlds.keys k.val = none ∧
    t.bit (Reg.CRY_KS_CTRL_LOADED k.val) = false ∧ (∀ i : Fin 8, t.get (Reg.CRY_KS_KEY_KEY k.val i.val) = 0) ∧
    RegsKept (Reg.CRY_KS_CTRL_LOADED k.val :: (List.range 8).map (Reg.CRY_KS_KEY_KEY k.val)) s t)) ∧
  (∀ (who : Agent) (k : Fin 32) (s : State), Passes s who (Reg.CRY_KS_CTRL_addr k.val) true →
    s.bit (Reg.CRY_KS_CTRL_LOCK k.val) = true → Does (.keySlotZero who k) s (fun t => t = { s with resp := t.resp })) ∧
  (∀ (who : Agent) (k : Fin 32) (s : State), Passes s who (Reg.CRY_KS_CTRL_addr k.val) true →
    Does (.keySlotLock who k) s (fun t => t.bit (Reg.CRY_KS_CTRL_LOCK k.val) = true ∧
    OnlyRegs [Reg.CRY_KS_CTRL_LOCK k.val] [] s t)) ∧
  (∀ (who : Agent) (s : State), Passes s who Reg.CRY_SEC_CTRL_addr true → isSec who = true →
    s.get Reg.CRY_SEC_STATE_STATE = 1 → s.recentRestarts.length < s.fbGet 0x7500 5 →
    Does (.secureRestart who) s (fun t => t.get Reg.CRY_SEC_STATE_STATE = 2 ∧
    t.get Reg.CRY_SEC_STATE_RESTARTS = satAdd Reg.CRY_SEC_STATE_RESTARTS.width (s.get Reg.CRY_SEC_STATE_RESTARTS) 1 ∧
    t.fbGet 0x60A0 3 = satAdd 32 (s.fbGet 0x60A0 3) 1 ∧ t.worlds.calls = [] ∧
    s.worlds.calls.all (fun c => t.out.any (fun o => match o with | .svc k a b _ _ => k == c.1 && a == Code.eUnavailable && b == c.2.seq | _ => false)) = true ∧
    (t.tgt 32).stack = [] ∧ (t.tgt 33).stack = [] ∧ t.worlds.restartPhase = 1 ∧ t.worlds.keys = s.worlds.keys ∧
    t.mem = s.mem)) ∧
  (∀ (who : Agent) (s : State), Passes s who Reg.CRY_SEC_CTRL_addr true →
    isSec who = false ∨ s.get Reg.CRY_SEC_STATE_STATE ≠ 1 →
    Does (.secureRestart who) s (fun t => t = { s with resp := t.resp })) ∧
  (∀ (s : State), s.bit Reg.CRY_SWD_CTRL_EN = true → s.get Reg.CRY_SEC_STATE_STATE = 1 →
    (s.advanceTo (s.worlds.swdStart + s.get Reg.CRY_SWD_CTRL_TIMEOUT_MS * 1000000)).recentRestarts.length < s.fbGet 0x7500 5 →
    Does .secureWatchdogExpiry s (fun t => t.datum = max s.datum (s.worlds.swdStart + s.get Reg.CRY_SWD_CTRL_TIMEOUT_MS * 1000000) ∧
    t.get Reg.CRY_SEC_STATE_STATE = 2 ∧ t.fbGet 0x60A0 3 = satAdd 32 (s.fbGet 0x60A0 3) 1 ∧ t.worlds.calls = [] ∧
    t.worlds.swdStart = t.datum)) ∧
  (∀ (s : State), s.bit Reg.CRY_SWD_CTRL_EN = false → Does .secureWatchdogExpiry s (fun t => t = s)) ∧
  (∀ (who : Agent) (s : State), Passes s who Reg.CRY_SEC_CTRL_addr true → isSec who = true →
    s.get Reg.CRY_SEC_STATE_STATE = 2 → s.worlds.restartPhase = 3 →
    Does (.secureReady who) s (fun t => t.get Reg.CRY_SEC_STATE_STATE = 1 ∧ RegsKept [Reg.CRY_SEC_STATE_STATE] s t ∧
    t = { s with regs := t.regs, resp := t.resp, worlds := { s.worlds with restartPhase := 0 } })) ∧
  (∀ (s : State), s.get Reg.CRY_SEC_STATE_STATE = 2 → s.worlds.restartPhase = 2 →
    Does .restartMeasurementDone s (fun t => (s.loadedImageOk = true →
    t = { s with worlds := { s.worlds with restartPhase := 3 } }) ∧ (s.loadedImageOk = false →
    t.get Reg.CRY_SEC_STATE_STATE = 3 ∧ t.get Reg.CRY_SEC_STATE_CODE = Code.eMeasure ∧
    t.fbGet 0x60A0 4 = satAdd 32 (s.fbGet 0x60A0 4) 1 ∧ t.worlds.restartPhase = 0) ∧ t.mem = s.mem)) ∧
  (∀ (s : State), s.get Reg.CRY_SEC_STATE_STATE = 1 → Does .restartMeasurementDone s (fun t => t = s)) ∧
  (∀ (who : Agent) (key : BitVec 16) (s : State), Passes s who Reg.CRY_SWD_KICK_addr true → isSec who = true →
    key.toNat = 0xA5C3 →
    Does (.swdKick who key) s (fun t => t = { s with worlds := { s.worlds with swdStart := s.datum }, resp := t.resp })) ∧
  (∀ (who : Agent) (key : BitVec 16) (s : State), Passes s who Reg.CRY_SWD_KICK_addr true → key.toNat ≠ 0xA5C3 →
    Does (.swdKick who key) s (fun t => t = { s with resp := t.resp })) ∧
  (∀ (s : State), ∀ u, s.worlds.swdTest = some u → s.bit Reg.CRY_SWD_CTRL_TEST = true →
    Does .secureWatchdogTestExpiry s (fun t => t.datum = max s.datum (u + 1000000) ∧
    t.bit Reg.CRY_SWD_CTRL_EXPIRED_TEST = true ∧ t.worlds = { s.worlds with swdTest := none } ∧
    RegsKept [Reg.CRY_SWD_CTRL_EXPIRED_TEST] s t ∧ t.fb = s.fb)) ∧
  (∀ (who : Agent) (clk : Bool) (v : BitVec 64) (s : State), clk = true → Passes s who Reg.PMU_LEASE_CLK_addr true →
    Does (.leaseWrite who clk v) s (fun t => t.get Reg.PMU_LEASE_CLK_CLK = v.toNat % 2 ^ Reg.PMU_LEASE_CLK_CLK.width ∧
    RegsKept [Reg.PMU_LEASE_CLK_CLK] s t ∧
    t = { s with regs := t.regs, resp := t.resp, worlds := { s.worlds with leaseWas := t.worlds.leaseWas } })) ∧
  (∀ (who : Agent) (clk : Bool) (v : BitVec 64) (s : State), clk = false → Passes s who Reg.PMU_LEASE_PD_addr true →
    Does (.leaseWrite who clk v) s (fun t => t.get Reg.PMU_LEASE_PD_PD = v.toNat % 2 ^ Reg.PMU_LEASE_PD_PD.width ∧
    RegsKept [Reg.PMU_LEASE_PD_PD] s t ∧
    t = { s with regs := t.regs, resp := t.resp, worlds := { s.worlds with leaseWas := t.worlds.leaseWas } }))

/-- CLAIM takes the best source onto the stack, COMPLETE pops it, an out-of-order completion freezes the stack,
UNFREEZE empties it (R320, R322, R323, R324, R325, R326, R327, R328, R330, R331). -/
def Obligations.InterruptClaims : Prop :=
  (∀ (who : Agent) (tg : Fin 64) (s : State), Passes s who (Reg.ICN_TGT_CLAIM_addr tg.val) false →
    s.targetOn tg.val = true → ownsTarget tg.val who = true → ∀ i, s.bestSource tg.val = some i →
    s.mergedNow i (if s.srcMulti i then tg.val else 0) = false →
    Does (.claim who tg) s (fun t => t.resp.data = 2 ^ 31 + s.srcPrio i * 2 ^ 16 + i ∧ t.resp.err = false ∧
    (t.tgt tg.val).stack = (i, s.srcPrio i) :: (s.tgt tg.val).stack ∧ t.pendingFor i tg.val = false ∧
    bitOf (t.src i).act tg.val = true ∧
    s.icnSrc.all (fun p => !s.claimable tg.val p.1 || decide (s.srcPrio p.1 ≤ s.srcPrio i)) = true ∧
    t = { s with icnSrc := t.icnSrc, icnTgt := t.icnTgt, resp := t.resp })) ∧
  (∀ (who : Agent) (tg : Fin 64) (s : State), Passes s who (Reg.ICN_TGT_CLAIM_addr tg.val) false →
    s.targetOn tg.val = true → ownsTarget tg.val who = true → ∀ i, s.bestSource tg.val = some i →
    s.mergedNow i (if s.srcMulti i then tg.val else 0) = true →
    Does (.claim who tg) s (fun t => t.resp.data = 2 ^ 31 + s.srcPrio i * 2 ^ 16 + i ∧ (t.tgt tg.val).stack = (i,
    s.srcPrio i) :: (s.tgt tg.val).stack ∧ t.pendingFor i tg.val = true ∧ bitOf (t.src i).act tg.val = true ∧
    t.fbGet 0x60B0 2 = s.fbGet 0x60B0 2 - 1 ∧
    t = { s with icnSrc := t.icnSrc, icnTgt := t.icnTgt, resp := t.resp, fb := t.fb })) ∧
  (∀ (who : Agent) (tg : Fin 64) (s : State), Passes s who (Reg.ICN_TGT_CLAIM_addr tg.val) false →
    s.targetOn tg.val = true → ownsTarget tg.val who = true → s.bestSource tg.val = none →
    Does (.claim who tg) s (fun t => t.resp.data = 0 ∧ t = { s with resp := t.resp })) ∧
  (∀ (who : Agent) (tg : Fin 64) (s : State), Passes s who (Reg.ICN_TGT_CLAIM_addr tg.val) false →
    s.targetOn tg.val = true → ownsTarget tg.val who = false → Does (.claim who tg) s (fun t => t.resp.data = 0 ∧
    t.fbGet 0x60B0 3 = satAdd 32 (s.fbGet 0x60B0 3) 1 ∧ t.icnSrc = s.icnSrc ∧ t.icnTgt = s.icnTgt ∧
    t = { s with regs := t.regs, fb := t.fb, resp := t.resp })) ∧
  (∀ (who : Agent) (tg : Fin 64) (id : BitVec 10) (s : State), Passes s who (Reg.ICN_TGT_COMPLETE_addr tg.val) true →
    s.targetOn tg.val = true → ownsTarget tg.val who = true → (s.tgt tg.val).frozen = false → ∀ e rest,
    (s.tgt tg.val).stack = e :: rest → e.1 = id.toNat →
    Does (.complete who tg id) s (fun t => t.tgt tg.val = { stack := rest, frozen := false } ∧
    bitOf (t.src e.1).act tg.val = false ∧ t.get (Reg.ICN_TGT_STATUS_LAST tg.val) = Code.ok ∧
    RegsKept [Reg.ICN_TGT_STATUS_LAST tg.val] s t ∧
    t = { s with regs := t.regs, icnSrc := t.icnSrc, icnTgt := t.icnTgt, resp := t.resp })) ∧
  (∀ (who : Agent) (tg : Fin 64) (id : BitVec 10) (s : State), Passes s who (Reg.ICN_TGT_COMPLETE_addr tg.val) true →
    s.targetOn tg.val = true → ownsTarget tg.val who = true →
    (s.tgt tg.val).frozen = true ∨ (s.tgt tg.val).stack = [] →
    Does (.complete who tg id) s (fun t => t.get (Reg.ICN_TGT_STATUS_LAST tg.val) = Code.eState ∧
    OnlyRegs [Reg.ICN_TGT_STATUS_LAST tg.val] [] s t)) ∧
  (∀ (who : Agent) (tg : Fin 64) (id : BitVec 10) (s : State), Passes s who (Reg.ICN_TGT_COMPLETE_addr tg.val) true →
    s.targetOn tg.val = true → ownsTarget tg.val who = true → (s.tgt tg.val).frozen = false → ∀ e rest,
    (s.tgt tg.val).stack = e :: rest → e.1 ≠ id.toNat → s.bit Reg.ICN_CTRL_TEST = false →
    Does (.complete who tg id) s (fun t => t.tgt tg.val = { stack := e :: rest, frozen := true } ∧
    t.get (Reg.ICN_TGT_STATUS_LAST tg.val) = Code.eState ∧ t.fbGet 0x60B0 1 = satAdd 32 (s.fbGet 0x60B0 1) 1 ∧
    t.bit Reg.ICN_FAULT_VALID = true ∧ (s.bit Reg.ICN_FAULT_VALID = true →
    t.get Reg.ICN_FAULT_ID = s.get Reg.ICN_FAULT_ID) ∧ (s.bit Reg.ICN_FAULT_VALID = false →
    t.get Reg.ICN_FAULT_ID = id.toNat ∧ t.get Reg.ICN_FAULT_TARGET = tg.val) ∧ (stackFaultSafe tg.val = true →
    t.get Reg.SAF_STATE_STATE = 3))) ∧
  (∀ (who : Agent) (tg : Fin 64) (id : BitVec 10) (s : State), Passes s who (Reg.ICN_TGT_COMPLETE_addr tg.val) true →
    s.targetOn tg.val = true → ownsTarget tg.val who = true → (s.tgt tg.val).frozen = false → ∀ e rest,
    (s.tgt tg.val).stack = e :: rest → e.1 ≠ id.toNat → s.bit Reg.ICN_CTRL_TEST = true →
    Does (.complete who tg id) s (fun t => t.bit Reg.ICN_FAULT_TEST = true ∧
    t.get (Reg.ICN_TGT_STATUS_LAST tg.val) = Code.eState ∧ OnlyRegs [Reg.ICN_FAULT_TEST,
    Reg.ICN_TGT_STATUS_LAST tg.val] [] s t)) ∧
  (∀ (who : Agent) (tg : BitVec 6) (s : State), Passes s who Reg.ICN_UNFREEZE_addr true → tg.toNat < 59 →
    s.normal who = false → s.targetOn tg.toNat = true → Does (.unfreeze who tg) s (fun t => t.tgt tg.toNat = {} ∧
    (s.tgt tg.toNat).stack.all (fun e => !bitOf (t.src e.1).act tg.toNat) = true ∧
    t.get Reg.ICN_CMD_STATUS_STATUS = Code.ok ∧ t.get Reg.ICN_FAULT_VALID = s.get Reg.ICN_FAULT_VALID ∧
    RegsKept [Reg.ICN_CMD_STATUS_STATUS] s t ∧
    t = { s with regs := t.regs, icnSrc := t.icnSrc, icnTgt := t.icnTgt, resp := t.resp })) ∧
  (∀ (who : Agent) (tg : BitVec 6) (s : State), Passes s who Reg.ICN_UNFREEZE_addr true → 59 ≤ tg.toNat →
    Does (.unfreeze who tg) s (fun t => t.get Reg.ICN_CMD_STATUS_STATUS = Code.eIllegal ∧
    OnlyRegs [Reg.ICN_CMD_STATUS_STATUS] [] s t)) ∧
  (∀ (who : Agent) (tg : BitVec 6) (s : State), Passes s who Reg.ICN_UNFREEZE_addr true → tg.toNat < 59 →
    s.normal who = true → Does (.unfreeze who tg) s (fun t => t.get Reg.ICN_CMD_STATUS_STATUS = Code.eAccess ∧
    t.icnSrc = s.icnSrc ∧ t.icnTgt = s.icnTgt ∧ t.mem = s.mem))

/-- Edges are recorded once and merge, level gateways follow their line, routing writes are checked, software sources
and test mode (R319, R321, R322, R329, R330). -/
def Obligations.InterruptSources : Prop :=
  (∀ (i : Fin 1024) (s : State), isEdge i.val = true → s.srcMulti i.val = false → (s.src i.val).pend = false →
    Does (.edgeEvent i) s (fun t => t.src i.val = { s.src i.val with pend := true } ∧ (∀ j : Fin 1024, j ≠ i →
    t.src j.val = s.src j.val) ∧ t = { s with icnSrc := t.icnSrc })) ∧
  (∀ (i : Fin 1024) (s : State), isEdge i.val = true → s.srcMulti i.val = false → (s.src i.val).pend = true →
    Does (.edgeEvent i) s (fun t => t.fbGet 0x60B0 2 = satAdd 32 (s.fbGet 0x60B0 2) 1 ∧
    t.src i.val = { s.src i.val with mergedAt := some s.datum, merged := (t.src i.val).merged } ∧
    bitOf (t.src i.val).merged 0 = true ∧ FbKept [(0x60B0, 2)] s t ∧ t = { s with icnSrc := t.icnSrc, fb := t.fb })) ∧
  (∀ (i : Fin 1024) (s : State), isEdge i.val = true → s.srcMulti i.val = true → s.srcMask i.val ≠ 0 →
    Does (.edgeEvent i) s (fun t => (maskBits (s.srcMask i.val)).all (fun g => t.pendingFor i.val g) = true ∧
    (t.src i.val).act = (s.src i.val).act ∧ t.regs = s.regs ∧ t.icnTgt = s.icnTgt)) ∧
  (∀ (i : Fin 1024) (s : State), isEdge i.val = false → Does (.edgeEvent i) s (fun t => t = s)) ∧
  (∀ (i : Fin 1024) (ext : Bool) (s : State), isEdge i.val = false → sourceExists i.val = true →
    s.srcMulti i.val = false → (s.src i.val).act = 0 →
    Does (.levelLineChange i ext) s (fun t => t.src i.val = { s.src i.val with line := (s.levelNow i.val).getD ext, pend := (s.levelNow i.val).getD ext } ∧
    (∀ j : Fin 1024, j ≠ i → t.src j.val = s.src j.val) ∧ t = { s with icnSrc := t.icnSrc })) ∧
  (∀ (i : Fin 1024) (ext : Bool) (s : State), isEdge i.val = false → sourceExists i.val = true →
    s.srcMulti i.val = false → (s.src i.val).act ≠ 0 →
    Does (.levelLineChange i ext) s (fun t => t.src i.val = { s.src i.val with line := (s.levelNow i.val).getD ext } ∧
    t = { s with icnSrc := t.icnSrc })) ∧
  (∀ (i : Fin 1024) (ext : Bool) (s : State), isEdge i.val = true → Does (.levelLineChange i ext) s (fun t => t = s)) ∧
  (∀ (who : Agent) (i : Fin 1024) (tgt : Bool) (v : BitVec 64) (s : State), tgt = false →
    Passes s who (Reg.ICN_SRC_CFG_addr i.val) true → i.val ≠ 612 → isEdge i.val = true → sourceExists i.val = true →
    Does (.sourceConfigWrite who i tgt v) s (fun t => t.bit (Reg.ICN_SRC_CFG_EN i.val) = bitOf v.toNat 31 ∧
    t.bit (Reg.ICN_SRC_CFG_MULTI i.val) = bitOf v.toNat 29 ∧
    t.get (Reg.ICN_SRC_CFG_PRIO i.val) = bitsOf v.toNat 4 0 ∧ (960 ≤ i.val →
    t.get (Reg.ICN_SRC_CFG_OWNER i.val) = bitsOf v.toNat 13 8) ∧ t.get Reg.ICN_CMD_STATUS_STATUS = Code.ok ∧
    RegsKept [Reg.ICN_SRC_CFG_EN i.val, Reg.ICN_SRC_CFG_MULTI i.val, Reg.ICN_SRC_CFG_PRIO i.val,
    Reg.ICN_SRC_CFG_OWNER i.val, Reg.ICN_CMD_STATUS_STATUS] s t ∧
    t = { s with regs := t.regs, icnSrc := t.icnSrc, resp := t.resp })) ∧
  (∀ (who : Agent) (i : Fin 1024) (tgt : Bool) (v : BitVec 64) (s : State), tgt = true →
    Passes s who (Reg.ICN_SRC_TGT_addr i.val) true → i.val ≠ 612 → isEdge i.val = true →
    s.maskCheck v.toNat = Code.ok →
    Does (.sourceConfigWrite who i tgt v) s (fun t => t.get (Reg.ICN_SRC_TGT_TARGETS i.val) = v.toNat ∧
    t.get Reg.ICN_CMD_STATUS_STATUS = Code.ok ∧ RegsKept [Reg.ICN_SRC_TGT_TARGETS i.val,
    Reg.ICN_CMD_STATUS_STATUS] s t ∧ t = { s with regs := t.regs, icnSrc := t.icnSrc, resp := t.resp })) ∧
  (∀ (who : Agent) (i : Fin 1024) (tgt : Bool) (v : BitVec 64) (s : State), tgt = true →
    Passes s who (Reg.ICN_SRC_TGT_addr i.val) true → i.val ≠ 612 → sourceExists i.val = true →
    s.maskCheck v.toNat ≠ Code.ok →
    Does (.sourceConfigWrite who i tgt v) s (fun t => t.get Reg.ICN_CMD_STATUS_STATUS = s.maskCheck v.toNat ∧
    OnlyRegs [Reg.ICN_CMD_STATUS_STATUS] [] s t)) ∧
  (∀ (who : Agent) (i : Fin 1024) (tgt : Bool) (v : BitVec 64) (s : State), i.val = 612 →
    Passes s who (if tgt then Reg.ICN_SRC_TGT_addr i.val else Reg.ICN_SRC_CFG_addr i.val) true →
    Does (.sourceConfigWrite who i tgt v) s (fun t => t.get Reg.ICN_CMD_STATUS_STATUS = Code.eState ∧
    OnlyRegs [Reg.ICN_CMD_STATUS_STATUS] [] s t)) ∧
  (∀ (who : Agent) (n : Fin 64) (s : State), Passes s who Reg.ICN_SW_SET_addr true →
    (s.attrOf who).secure = true ∨ (s.attrOf who).partition = s.get (Reg.ICN_SRC_CFG_OWNER (960 + n.val)) →
    s.srcEn (960 + n.val) = true → s.srcMulti (960 + n.val) = false → (s.src (960 + n.val)).pend = false →
    Does (.swSet who n) s (fun t => (t.src (960 + n.val)).pend = true ∧ t.get Reg.ICN_CMD_STATUS_STATUS = Code.ok ∧
    RegsKept [Reg.ICN_CMD_STATUS_STATUS] s t ∧ t = { s with regs := t.regs, icnSrc := t.icnSrc, resp := t.resp })) ∧
  (∀ (who : Agent) (n : Fin 64) (s : State), Passes s who Reg.ICN_SW_SET_addr true →
    (s.attrOf who).secure = true ∨ (s.attrOf who).partition = s.get (Reg.ICN_SRC_CFG_OWNER (960 + n.val)) →
    s.srcEn (960 + n.val) = false → Does (.swSet who n) s (fun t => t.get Reg.ICN_CMD_STATUS_STATUS = Code.eState ∧
    OnlyRegs [Reg.ICN_CMD_STATUS_STATUS] [] s t)) ∧
  (∀ (who : Agent) (test : Bool) (s : State), Passes s who Reg.ICN_CTRL_addr true → who = .pairB → test = true →
    Does (.icnTestWrite who test) s (fun t => t.bit Reg.ICN_CTRL_TEST = true ∧ OnlyRegs [Reg.ICN_CTRL_TEST] [] s t)) ∧
  (∀ (who : Agent) (test : Bool) (s : State), Passes s who Reg.ICN_CTRL_addr true → who = .pairB → test = false →
    s.bit Reg.ICN_CTRL_TEST = true → Does (.icnTestWrite who test) s (fun t => t.bit Reg.ICN_CTRL_TEST = false ∧
    t.bit Reg.ICN_FAULT_VALID = false ∧ (∀ g : Fin 59, t.tgt g.val = {}) ∧ t.fb = s.fb)) ∧
  (∀ (who : Agent) (test : Bool) (s : State), Passes s who Reg.ICN_CTRL_addr true → who ≠ .pairB →
    Does (.icnTestWrite who test) s (fun t => t = { s with resp := t.resp }))

/-- Frames received on CAN, LIN and Ethernet are classified exactly; a flow keeps one latest value; partner errors are
counted (R333, R334, R335, R341, R342, R343, R344, R345, R352). -/
def Obligations.GatewayReception : Prop :=
  (∀ (can : Fin 16) (fmt : Fin 3) (key0 key1 : BitVec 32) (event : CanError) (data : List Byte) (s : State),
    event = .none → s.bit (Reg.GWY_CAN_CTRL_EN can.val) = true → s.get (Reg.GWY_CAN_STATUS_STATE can.val) < 2 →
    fmt.val = 0 → s.fbaCan can.val fmt.val key0.toNat = false → ∀ f,
    s.flowFor can.val fmt.val key0.toNat key1.toNat = some f → f.mapped = false → isCan f.outIf = true →
    data.length ≤ egressMax f.outIf f.outFmt → f.minGap = 0 → (s.flowVal f.num).lastOut = none →
    (s.flowVal f.num).timer = none → (s.flowVal f.num).fresh = false → f.num < 65536 →
    (s.egressOf f.outIf).any (fun x => x.flow = f.num) = false →
    Does (.canFrameRx can fmt key0 key1 event data) s (fun t => t.egressOf f.outIf = s.egressOf f.outIf ++ [⟨f.num,
    f.tc, f.outFmt, f.outKey0, f.outKey1, data.map BitVec.toNat⟩] ∧
    t.flowVal f.num = { fresh := false, buf := data.map BitVec.toNat, bufNs := s.datum, iface := can.val, key0 := key0.toNat, key1 := key1.toNat, lastIn := some s.datum, lastOut := some s.datum, timedOut := false } ∧
    t.get (Reg.GWY_CAN_STATUS_REC can.val) = (if 127 < s.get (Reg.GWY_CAN_STATUS_REC can.val) then 127 else s.get (Reg.GWY_CAN_STATUS_REC can.val) - 1) ∧
    RegsKept [Reg.GWY_CAN_STATUS_REC can.val, Reg.GWY_CAN_STATUS_STATE can.val] s t ∧
    t = { s with regs := t.regs, gwy := t.gwy, icnSrc := t.icnSrc })) ∧
  (∀ (can : Fin 16) (fmt : Fin 3) (key0 key1 : BitVec 32) (event : CanError) (data : List Byte) (s : State),
    event = .none → s.bit (Reg.GWY_CAN_CTRL_EN can.val) = true → s.get (Reg.GWY_CAN_STATUS_STATE can.val) < 2 →
    fmt.val = 0 → s.fbaCan can.val fmt.val key0.toNat = false → ∀ f,
    s.flowFor can.val fmt.val key0.toNat key1.toNat = some f → f.mapped = false → f.minGap = 0 → ∀ l,
    (s.flowVal f.num).lastOut = some l → s.datum < l + f.period → (s.flowVal f.num).fresh = true →
    Does (.canFrameRx can fmt key0 key1 event data) s (fun t => (t.flowVal f.num).fresh = true ∧
    (t.flowVal f.num).buf = data.map BitVec.toNat ∧ (t.flowVal f.num).lastOut = some l ∧
    t.gwy.egress = s.gwy.egress ∧ t.fbGet 0x60C0 4 = satAdd 32 (s.fbGet 0x60C0 4) 1 ∧
    t = { s with regs := t.regs, gwy := t.gwy, fb := t.fb, icnSrc := t.icnSrc })) ∧
  (∀ (can : Fin 16) (fmt : Fin 3) (key0 key1 : BitVec 32) (event : CanError) (data : List Byte) (s : State),
    event = .none → s.bit (Reg.GWY_CAN_CTRL_EN can.val) = true → s.get (Reg.GWY_CAN_STATUS_STATE can.val) < 2 →
    fmt.val = 0 → s.fbaCan can.val fmt.val key0.toNat = false → ∀ f,
    s.flowFor can.val fmt.val key0.toNat key1.toNat = some f → ∀ l, (s.flowVal f.num).lastIn = some l →
    f.minGap ≠ 0 → s.datum < l + f.minGap →
    Does (.canFrameRx can fmt key0 key1 event data) s (fun t => t.fbGet 0x60C0 3 = satAdd 32 (s.fbGet 0x60C0 3) 1 ∧
    FbKept [(0x60C0, 3)] s t ∧ t = { s with regs := t.regs, fb := t.fb, icnSrc := t.icnSrc })) ∧
  (∀ (can : Fin 16) (fmt : Fin 3) (key0 key1 : BitVec 32) (event : CanError) (data : List Byte) (s : State),
    event = .none → s.bit (Reg.GWY_CAN_CTRL_EN can.val) = true → s.get (Reg.GWY_CAN_STATUS_STATE can.val) < 2 →
    fmt.val = 0 → s.fbaCan can.val fmt.val key0.toNat = false →
    s.flowFor can.val fmt.val key0.toNat key1.toNat = none →
    Does (.canFrameRx can fmt key0 key1 event data) s (fun t => t.fbGet 0x60C0 1 = satAdd 32 (s.fbGet 0x60C0 1) 1 ∧
    RegsKept [Reg.GWY_CAN_STATUS_REC can.val, Reg.GWY_CAN_STATUS_STATE can.val] s t ∧ FbKept [(0x60C0, 1)] s t ∧
    t = { s with regs := t.regs, fb := t.fb, icnSrc := t.icnSrc })) ∧
  (∀ (can : Fin 16) (fmt : Fin 3) (key0 key1 : BitVec 32) (event : CanError) (data : List Byte) (s : State),
    event = .error → s.bit (Reg.GWY_CAN_CTRL_EN can.val) = true → s.get (Reg.GWY_CAN_STATUS_STATE can.val) < 2 →
    Does (.canFrameRx can fmt key0 key1 event data) s (fun t => t.get (Reg.GWY_CAN_STATUS_REC can.val) = min 255 (s.get (Reg.GWY_CAN_STATUS_REC can.val) + 1) ∧
    t.fbGet 0x60C0 7 = satAdd 32 (s.fbGet 0x60C0 7) 1 ∧ (t.src (656 + can.val)).line = true ∧
    RegsKept [Reg.GWY_CAN_STATUS_REC can.val, Reg.GWY_CAN_STATUS_STATE can.val] s t ∧ FbKept [(0x60C0, 7)] s t ∧
    t = { s with regs := t.regs, fb := t.fb, icnSrc := t.icnSrc })) ∧
  (∀ (can : Fin 16) (fmt : Fin 3) (key0 key1 : BitVec 32) (event : CanError) (data : List Byte) (s : State),
    s.bit (Reg.GWY_CAN_CTRL_EN can.val) = false → Does (.canFrameRx can fmt key0 key1 event data) s (fun t => t = s)) ∧
  (∀ (can : Fin 16) (s : State), s.bit (Reg.GWY_CAN_CTRL_EN can.val) = true →
    s.bit (Reg.GWY_CAN_CTRL_AUTO_BO can.val) = true → s.get (Reg.GWY_CAN_STATUS_STATE can.val) = 2 →
    Does (.canBusOffRecovery can) s (fun t => t.get (Reg.GWY_CAN_STATUS_STATE can.val) = 0 ∧
    t.get (Reg.GWY_CAN_STATUS_REC can.val) = 0 ∧ t.canTec can.val = 0 ∧ (t.src (656 + can.val)).line = true ∧
    t.gwy = { s.gwy with tec := t.gwy.tec } ∧ RegsKept [Reg.GWY_CAN_STATUS_REC can.val,
    Reg.GWY_CAN_STATUS_STATE can.val] s t ∧ t = { s with regs := t.regs, gwy := t.gwy, icnSrc := t.icnSrc })) ∧
  (∀ (can : Fin 16) (s : State), s.bit (Reg.GWY_CAN_CTRL_AUTO_BO can.val) = false →
    Does (.canBusOffRecovery can) s (fun t => t = s)) ∧
  (∀ (lin : Fin 8) (id : BitVec 6) (checksumOk : Bool) (data : List Byte) (s : State), checksumOk = true → ∀ f,
    s.flowFor (16 + lin.val) 0 id.toNat 0 = some f → f.mapped = false → f.outIf = 0x40 → f.minGap = 0 →
    (s.flowVal f.num).lastOut = none → (s.flowVal f.num).timer = none → ∀ p, s.ep f.endpoint = some p →
    p.rxLog ≤ 12 →
    let i := s.get (Reg.GWY_EP_RX_WPTR_WPTR f.endpoint); (i + 1) % 2 ^ p.rxLog ≠ s.get (Reg.GWY_EP_RX_RPTR_RPTR f.endpoint) →
    data.length ≤ 2 ^ p.slotLog - 32 →
    let a := p.rx + 2 ^ p.slotLog * i; s.reach p.owner true a (32 + data.length) = (.ok, s) →
    Does (.linFrameRx lin id checksumOk data) s (fun t => t.rd a (32 + data.length) = leBytes 2 f.num ++ [16 + lin.val,
    0] ++ leBytes 4 data.length ++ leBytes 8 s.datum ++ leBytes 4 id.toNat ++ leBytes 4 0 ++ leBytes 4 p.seq ++ [0,
    0, 0, 0] ++ data.map BitVec.toNat ∧ t.get (Reg.GWY_EP_RX_WPTR_WPTR f.endpoint) = (i + 1) % 2 ^ p.rxLog ∧
    (t.ep f.endpoint).map (·.seq) = some ((p.seq + 1) % 2 ^ 32) ∧ KMap.find t.gwy.lin lin.val = none ∧
    RegsKept [Reg.GWY_EP_RX_WPTR_WPTR f.endpoint] s t ∧ MemKept a (a + 32 + data.length) s t)) ∧
  (∀ (lin : Fin 8) (id : BitVec 6) (checksumOk : Bool) (data : List Byte) (s : State), checksumOk = false →
    Does (.linFrameRx lin id checksumOk data) s (fun t => t.fbGet 0x60C0 9 = satAdd 32 (s.fbGet 0x60C0 9) 1 ∧
    (t.src (672 + lin.val)).line = true ∧ FbKept [(0x60C0, 9)] s t ∧
    t = { s with fb := t.fb, gwy := { s.gwy with lin := t.gwy.lin }, icnSrc := t.icnSrc })) ∧
  (∀ (lin : Fin 8) (s : State), ∀ x, KMap.find s.gwy.lin lin.val = some x →
    Does (.linResponseTimeout lin) s (fun t => t.fbGet 0x60C0 9 = satAdd 32 (s.fbGet 0x60C0 9) 1 ∧
    KMap.find t.gwy.lin lin.val = none ∧ (t.src (672 + lin.val)).line = true ∧ FbKept [(0x60C0, 9)] s t ∧
    t = { s with fb := t.fb, gwy := { s.gwy with lin := t.gwy.lin }, icnSrc := t.icnSrc })) ∧
  (∀ (lin : Fin 8) (s : State), KMap.find s.gwy.lin lin.val = none →
    Does (.linResponseTimeout lin) s (fun t => t = s)) ∧
  (∀ (mac : Fin 6) (fcsOk : Bool) (frame : List Byte) (s : State),
    fcsOk = false ∨ frame.length < 60 ∨ 9212 < frame.length →
    Does (.ethernetFrameRx mac fcsOk frame) s (fun t => t.fbGet 0x60C0 0xA = satAdd 32 (s.fbGet 0x60C0 0xA) 1 ∧
    (t.src (680 + mac.val)).line = true ∧ FbKept [(0x60C0, 0xA)] s t ∧
    t = { s with fb := t.fb, icnSrc := t.icnSrc })) ∧
  (∀ (mac : Fin 6) (fcsOk : Bool) (frame : List Byte) (s : State), fcsOk = true → 60 ≤ frame.length →
    frame.length ≤ 9212 → (ethView (frame.map BitVec.toNat)).ethType = 0x8808 →
    Does (.ethernetFrameRx mac fcsOk frame) s (fun t => t = s)) ∧
  (∀ (mac : Fin 6) (fcsOk : Bool) (frame : List Byte) (s : State), fcsOk = true → 60 ≤ frame.length →
    frame.length ≤ 9212 → let v := ethView (frame.map BitVec.toNat); v.ethType ≠ 0x8808 → v.ethType ≠ 0x86DD →
    256 ≤ s.fbGet 0x5000 (0x10 + mac.val) →
    Does (.ethernetFrameRx mac fcsOk frame) s (fun t => t.fbGet 0x60C0 1 = satAdd 32 (s.fbGet 0x60C0 1) 1 ∧
    OnlyRegs [] [(0x60C0, 1)] s t)) ∧
  (∀ (mac : Fin 6) (fcsOk : Bool) (frame : List Byte) (s : State), fcsOk = true → 60 ≤ frame.length →
    frame.length ≤ 9212 → let v := ethView (frame.map BitVec.toNat); v.ethType = 0x86DD → ∀ port d,
    udpOf v.rest = some (port, d) → port = s.fbGet 0x5000 3 → port ≠ s.fbGet 0x1100 4 → ∀ p rest,
    (pdusOf d.length d).1 = p :: rest → rest = [] → (pdusOf d.length d).2 = false → ∀ f,
    s.pduFlow mac.val v p.1 = some f → f.cb = false → f.mapped = false → f.minGap = 0 →
    (s.flowVal f.num).fresh = false → (s.flowVal f.num).timer = none → ∀ l, (s.flowVal f.num).lastOut = some l →
    s.rxNs mac.val < l + f.period →
    Does (.ethernetFrameRx mac fcsOk frame) s (fun t => t.flowVal f.num = { fresh := true, buf := p.2, bufNs := s.rxNs mac.val, iface := 0x20 + mac.val, key0 := v.vlan, key1 := p.1, lastIn := some (s.rxNs mac.val), lastOut := some l, timedOut := false } ∧
    t.gwy = { s.gwy with vals := t.gwy.vals } ∧ t = { s with gwy := t.gwy })) ∧
  (∀ (mac : Fin 6) (fcsOk : Bool) (frame : List Byte) (s : State), fcsOk = true → 60 ≤ frame.length →
    frame.length ≤ 9212 → let v := ethView (frame.map BitVec.toNat); v.ethType = 0x86DD → ∀ port d,
    udpOf v.rest = some (port, d) → port = s.fbGet 0x5000 3 → port ≠ s.fbGet 0x1100 4 → ∀ p rest,
    (pdusOf d.length d).1 = p :: rest → rest = [] → (pdusOf d.length d).2 = false → ∀ f,
    s.pduFlow mac.val v p.1 = some f → f.cb = true → ∀ q, v.seq = some q →
    let r := s.recovOf f.num; r.takeAny = false → q = r.seq → r.hist.getD 0 false = true → r.seq < 65536 →
    Does (.ethernetFrameRx mac fcsOk frame) s (fun t => t.fbGet 0x60C0 0xC = satAdd 32 (s.fbGet 0x60C0 0xC) 1 ∧
    t.gwy.vals = s.gwy.vals ∧ t.gwy.egress = s.gwy.egress ∧ FbKept [(0x60C0, 0xC)] s t)) ∧
  (∀ (flow : Fin 65536) (s : State), (s.recovOf flow.val).takeAny = false →
    Does (.cbResetTimeExpiry flow) s (fun t => (t.recovOf flow.val).takeAny = true ∧
    t = { s.advanceTo ((s.recovOf flow.val).last + s.fbGet 0x5000 4 * 1000000) with gwy := { s.gwy with recov := t.gwy.recov } })) ∧
  (∀ (mac : Fin 6) (up : Bool) (s : State), s.srcMulti (680 + mac.val) = false → (s.src (680 + mac.val)).act = 0 →
    Does (.ethernetLinkChange mac up) s (fun t => bitOf t.gwy.ethUp mac.val = up ∧
    (t.src (680 + mac.val)).pend = true ∧
    t = { s with gwy := { s.gwy with ethUp := t.gwy.ethUp }, icnSrc := t.icnSrc }))

/-- Period timers emit a held value, timeouts are counted, the winning frame leaves, gate lists swap at a cycle start,
transmit records enter flows (R335, R336, R342, R343, R344, R345). -/
def Obligations.GatewayTransmission : Prop :=
  (∀ (flow : Fin 65536) (s : State), let f := s.flow flow.val; let v := s.flowVal flow.val; f.valid = true →
    v.fresh = true → ∀ l, v.lastOut = some l → isCan f.outIf = true → v.buf.length ≤ egressMax f.outIf f.outFmt →
    (s.egressOf f.outIf).any (fun x => x.flow = f.num) = false →
    Does (.flowPeriodTimer flow) s (fun t => t.egressOf f.outIf = s.egressOf f.outIf ++ [⟨f.num, f.tc, f.outFmt,
    f.outKey0, f.outKey1, v.buf⟩] ∧ (t.flowVal flow.val).fresh = false ∧
    (t.flowVal flow.val).lastOut = some t.datum ∧ l + f.period ≤ t.datum ∧
    t = { s.advanceTo (l + f.period) with gwy := t.gwy })) ∧
  (∀ (flow : Fin 65536) (s : State), let f := s.flow flow.val; let v := s.flowVal flow.val; f.valid = true →
    v.fresh = true → ∀ l, v.lastOut = some l → isCan f.outIf = true → v.buf.length ≤ egressMax f.outIf f.outFmt →
    (s.egressOf f.outIf).any (fun x => x.flow = f.num) = true →
    Does (.flowPeriodTimer flow) s (fun t => t.egressOf f.outIf = (s.egressOf f.outIf).map (fun x => if x.flow = f.num then ⟨f.num,
    f.tc, f.outFmt, f.outKey0, f.outKey1, v.buf⟩ else x) ∧ t.fbGet 0x60C0 4 = satAdd 32 (s.fbGet 0x60C0 4) 1 ∧
    (t.flowVal flow.val).fresh = false)) ∧
  (∀ (flow : Fin 65536) (s : State), (s.flowVal flow.val).fresh = false →
    Does (.flowPeriodTimer flow) s (fun t => t = s)) ∧
  (∀ (flow : Fin 65536) (s : State), let f := s.flow flow.val; let v := s.flowVal flow.val; ∀ l, v.lastIn = some l →
    f.valid = true → f.timeout ≠ 0 → v.timedOut = false → f.kind = 0 →
    Does (.flowTimeout flow) s (fun t => t.fbGet 0x60C0 5 = satAdd 32 (s.fbGet 0x60C0 5) 1 ∧
    l + f.timeout ≤ t.datum ∧ t.flowVal flow.val = { v with timedOut := true } ∧ FbKept [(0x60C0, 5)] s t ∧
    t = { s.advanceTo (l + f.timeout) with gwy := { s.gwy with vals := t.gwy.vals }, fb := t.fb })) ∧
  (∀ (flow : Fin 65536) (s : State), (s.flow flow.val).timeout = 0 → Does (.flowTimeout flow) s (fun t => t = s)) ∧
  (∀ (lin : Fin 8) (id : BitVec 6) (s : State), s.get (Reg.SYS_FWD_STATUS_STATE 21) = 0 →
    (s.egressOf (16 + lin.val)).find? (fun f => f.key0 % 64 = id.toNat) = none →
    Does (.linScheduleSlot lin id) s (fun t => KMap.find t.gwy.lin lin.val = some id.toNat ∧
    t = { s with gwy := { s.gwy with lin := t.gwy.lin }, out := t.out } ∧
    t.out = (s.emit (.linHeader lin.val id.toNat)).out)) ∧
  (∀ (lin : Fin 8) (id : BitVec 6) (s : State), s.get (Reg.SYS_FWD_STATUS_STATE 21) = 0 → ∀ f,
    (s.egressOf (16 + lin.val)).find? (fun f => f.key0 % 64 = id.toNat) = some f →
    Does (.linScheduleSlot lin id) s (fun t => t.egressOf (16 + lin.val) = (s.egressOf (16 + lin.val)).erase f ∧
    t.out = ((s.emit (.linHeader lin.val id.toNat)).emit (.linFrame lin.val id.toNat f.bytes)).out ∧
    t = { s with gwy := { s.gwy with egress := t.gwy.egress }, out := t.out })) ∧
  (∀ (lin : Fin 8) (id : BitVec 6) (s : State), s.get (Reg.SYS_FWD_STATUS_STATE 21) = 2 →
    Does (.linScheduleSlot lin id) s (fun t => t = s)) ∧
  (∀ (iface pick : BitVec 8) (failed : Bool) (s : State), isCan iface.toNat = true → failed = false →
    s.bit (Reg.GWY_CAN_CTRL_EN iface.toNat) = true → s.get (Reg.GWY_CAN_STATUS_STATE iface.toNat) < 2 → ∀ f,
    canWinner (s.egressOf iface.toNat) = some f →
    Does (.frameTransmitDone iface pick failed) s (fun t => t.egressOf iface.toNat = (s.egressOf iface.toNat).erase f ∧
    t.out = (s.emit (.canFrame iface.toNat f.fmt f.key0 f.key1 f.bytes)).out ∧
    t.canTec iface.toNat = s.canTec iface.toNat - 1 ∧
    (s.egressOf iface.toNat).all (fun g => decide (canPriority f ≤ canPriority g)) = true ∧ t.fb = s.fb)) ∧
  (∀ (iface pick : BitVec 8) (failed : Bool) (s : State), isCan iface.toNat = true → failed = true →
    s.bit (Reg.GWY_CAN_CTRL_EN iface.toNat) = true → s.get (Reg.GWY_CAN_STATUS_STATE iface.toNat) < 2 → ∀ f,
    canWinner (s.egressOf iface.toNat) = some f →
    Does (.frameTransmitDone iface pick failed) s (fun t => t.egressOf iface.toNat = s.egressOf iface.toNat ∧
    (t.src (656 + iface.toNat)).line = true ∧ t.canTec iface.toNat = s.canTec iface.toNat + 8 ∧
    t.fbGet 0x60C0 7 = satAdd 32 (s.fbGet 0x60C0 7) 1 ∧ t.out = s.out ∧
    RegsKept [Reg.GWY_CAN_STATUS_STATE iface.toNat] s t)) ∧
  (∀ (iface pick : BitVec 8) (failed : Bool) (s : State), isMac iface.toNat = true → failed = false → ∀ f,
    (s.egressOf iface.toNat).find? (fun f => f.tc = pick.toNat % 8) = some f →
    bitOf (s.mayFinish (iface.toNat - 0x20)) f.tc = true →
    Does (.frameTransmitDone iface pick failed) s (fun t => t.egressOf iface.toNat = (s.egressOf iface.toNat).erase f ∧
    t.out = (s.emit (.ethFrame (iface.toNat - 0x20) f.bytes)).out ∧
    t = { s with gwy := { s.gwy with egress := t.gwy.egress, gates := t.gwy.gates }, out := t.out })) ∧
  (∀ (who : Agent) (mac : Fin 6) (value : BitVec 32) (s : State), Passes s who (Reg.GWY_GCL_CTRL_addr mac.val) true →
    s.bit (Reg.GWY_GCL_CTRL_PENDING mac.val) = false →
    gclChk ((s.set (Reg.GWY_GCL_CTRL_LEN mac.val) (bitsOf value.toNat 24 16)).shadowGate mac.val) false = Code.ok →
    Does (.gateListSwap who mac value) s (fun t => t.bit (Reg.GWY_GCL_CTRL_PENDING mac.val) = true ∧
    t.bit (Reg.GWY_GCL_CTRL_EN mac.val) = bitOf value.toNat 31 ∧
    t.get (Reg.GWY_GCL_CTRL_LEN mac.val) = bitsOf value.toNat 24 16 ∧
    t.get (Reg.GWY_GCL_STATUS_LAST mac.val) = Code.ok ∧ KMap.find t.gwy.swaps mac.val = some s.datum ∧
    RegsKept [Reg.GWY_GCL_CTRL_PENDING mac.val, Reg.GWY_GCL_CTRL_EN mac.val, Reg.GWY_GCL_CTRL_LEN mac.val,
    Reg.GWY_GCL_CTRL_SWAP mac.val, Reg.GWY_GCL_STATUS_LAST mac.val] s t ∧
    t = { s with regs := t.regs, gwy := { s.gwy with swaps := t.gwy.swaps }, resp := t.resp })) ∧
  (∀ (who : Agent) (mac : Fin 6) (value : BitVec 32) (s : State), Passes s who (Reg.GWY_GCL_CTRL_addr mac.val) true →
    s.bit (Reg.GWY_GCL_CTRL_PENDING mac.val) = true → gclChk (s.shadowGate mac.val) true = Code.eBusy →
    Does (.gateListSwap who mac value) s (fun t => t.get (Reg.GWY_GCL_STATUS_LAST mac.val) = Code.eBusy ∧
    t.bit (Reg.GWY_GCL_CTRL_EN mac.val) = bitOf value.toNat 31 ∧ OnlyRegs [Reg.GWY_GCL_CTRL_EN mac.val,
    Reg.GWY_GCL_STATUS_LAST mac.val] [] s t)) ∧
  (∀ (who : Agent) (mac : Fin 6) (value : BitVec 32) (s : State), Passes s who (Reg.GWY_GCL_CTRL_addr mac.val) true →
    s.bit (Reg.GWY_GCL_CTRL_PENDING mac.val) = false → bitsOf value.toNat 24 16 = 0 →
    Does (.gateListSwap who mac value) s (fun t => t.get (Reg.GWY_GCL_STATUS_LAST mac.val) = Code.eLength ∧
    t.bit (Reg.GWY_GCL_CTRL_PENDING mac.val) = false)) ∧
  (∀ (mac : Fin 6) (s : State), s.bit (Reg.GWY_GCL_CTRL_PENDING mac.val) = true →
    Does (.gateCycleStart mac) s (fun t => t.gclOf mac.val = some { s.shadowGate mac.val with wire := s.gatesOpen mac.val } ∧
    t.bit (Reg.GWY_GCL_CTRL_PENDING mac.val) = false ∧
    t.get (Reg.GWY_GCL_CTRL_BANK mac.val) = 1 - s.get (Reg.GWY_GCL_CTRL_BANK mac.val) ∧
    t.datum = max s.datum ((s.shadowGate mac.val).nextStart (KMap.getD s.gwy.swaps mac.val s.datum)) ∧
    RegsKept [Reg.GWY_GCL_CTRL_PENDING mac.val, Reg.GWY_GCL_CTRL_BANK mac.val, Reg.GWY_GCL_CTRL_SWAP mac.val] s t)) ∧
  (∀ (mac : Fin 6) (s : State), s.bit (Reg.GWY_GCL_CTRL_PENDING mac.val) = false → ∀ g, s.gclOf mac.val = some g →
    Does (.gateCycleStart mac) s (fun t => t.datum = max s.datum (g.nextStart s.datum) ∧
    t = s.advanceTo (g.nextStart s.datum))) ∧
  (∀ (mac : Fin 6) (s : State), ∀ g, s.gclOf mac.val = some g →
    Does (.gateEntryChange mac) s (fun t => t = s.advanceTo (g.now s.datum).2)) ∧
  (∀ (mac : Fin 6) (s : State), ∀ g, s.gclOf mac.val = some g → s.bit (Reg.GWY_GCL_CTRL_EN mac.val) = true →
    g.len = 2 → ∀ x xs, g.entries = x :: xs → ∀ y ys, xs = y :: ys →
    let k := g.base + (s.datum - g.base) / g.cycle * g.cycle; g.base ≤ s.datum → s.datum < k + entryNs x →
    0 < entryNs y → Does (.gateEntryChange mac) s (fun t => s.gatesOpen mac.val = x / 2 ^ 24 ∧
    t.datum = k + entryNs x ∧ t.gatesOpen mac.val = y / 2 ^ 24 ∧ t = s.advanceTo (k + entryNs x))) ∧
  (∀ (endpoint : Fin 256) (s : State), ∀ p, s.ep endpoint.val = some p → p.txLog ≤ 12 →
    let i := s.get (Reg.GWY_EP_TX_RPTR_RPTR endpoint.val); i ≠ s.get (Reg.GWY_EP_TX_WPTR_WPTR endpoint.val) →
    let a := p.tx + 2 ^ p.slotLog * i; s.reach p.owner false a (2 ^ p.slotLog) = (.ok, s) →
    let f := s.flow (s.rdLe a 2); let len := s.rdLe (a + 4) 4; txChk endpoint.val p f len = Code.ok →
    f.mapped = false → f.minGap = 0 → (s.flowVal f.num).fresh = false → (s.flowVal f.num).timer = none → ∀ l,
    (s.flowVal f.num).lastOut = some l → s.datum < l + f.period →
    Does (.endpointTxRecord endpoint) s (fun t => t.get (Reg.GWY_EP_TX_RPTR_RPTR endpoint.val) = (i + 1) % 2 ^ p.txLog ∧
    (t.flowVal f.num).buf = s.rd (a + 32) len ∧ (t.flowVal f.num).fresh = true ∧
    RegsKept [Reg.GWY_EP_TX_RPTR_RPTR endpoint.val] s t ∧
    t = { s with regs := t.regs, gwy := { s.gwy with vals := t.gwy.vals } })) ∧
  (∀ (endpoint : Fin 256) (s : State), ∀ p, s.ep endpoint.val = some p → p.txLog ≤ 12 →
    let i := s.get (Reg.GWY_EP_TX_RPTR_RPTR endpoint.val); i ≠ s.get (Reg.GWY_EP_TX_WPTR_WPTR endpoint.val) →
    let a := p.tx + 2 ^ p.slotLog * i; s.reach p.owner false a (2 ^ p.slotLog) = (.ok, s) →
    (s.flow (s.rdLe a 2)).kind ≠ 2 →
    Does (.endpointTxRecord endpoint) s (fun t => t.get (Reg.GWY_EP_STATUS_LAST endpoint.val) = Code.eIllegal ∧
    t.get (Reg.GWY_EP_TX_RPTR_RPTR endpoint.val) = (i + 1) % 2 ^ p.txLog ∧
    t.fbGet 0x60C0 8 = satAdd 32 (s.fbGet 0x60C0 8) 1 ∧ OnlyRegs [Reg.GWY_EP_TX_RPTR_RPTR endpoint.val,
    Reg.GWY_EP_STATUS_LAST endpoint.val] [(0x60C0, 8)] s t))

/-- FLOW_SET, MAP_SET, DEST_SET, EP_OPEN and EP_CLOSE are served: tables and endpoints change, failures answer their
code (R337, R338, R339, R340, R342, R344, R391, R392, R393). -/
def Obligations.GatewayRequests : Prop :=
  (∀ (m : Fin 64) (s : State), let r := s.mbRequest m.val; Asked s m.val 0x50 r → let f := (⟨payLe r.payload 0 2,
    (List.range 16).map (fun i => payLe ((r.payload.drop 8).take 64) (4 * i) 4)⟩ : Flow); s.flowChk (s.mbAttr m.val) f = Code.ok →
    let a := s.fbGet 0x5000 2 + 64 * f.num; s.reach ⟨true, 0⟩ true a 64 = (.ok, s) →
    a + 64 ≤ s.get (Reg.MBX_MB_RPL_BASE_BASE m.val) ∨ replySlot s m.val + 256 ≤ a →
    Does (.flowSet m) s (fun t => t.flow f.num = f ∧ t.flowVal f.num = {} ∧ t.rd a 64 = (r.payload.drop 8).take 64 ∧
    Answered s t m.val r Code.ok [] ∧ MemKeptOff [(a, a + 64), (replySlot s m.val, replySlot s m.val + 256)] s t ∧
    t.gwy = { s.gwy with flows := t.gwy.flows, vals := t.gwy.vals })) ∧
  (∀ (m : Fin 64) (s : State), let r := s.mbRequest m.val; Asked s m.val 0x50 r → let f := (⟨payLe r.payload 0 2,
    (List.range 16).map (fun i => payLe ((r.payload.drop 8).take 64) (4 * i) 4)⟩ : Flow); let c := s.flowChk (s.mbAttr m.val) f; c ≠ Code.ok →
    (s.fwLogOf (serverFw (s.get (Reg.MBX_MB_CFG_SERVER m.val)))).pending = [] →
    Does (.flowSet m) s (fun t => Answered s t m.val r c [] ∧ t.gwy = s.gwy ∧
    MemKept (replySlot s m.val) (replySlot s m.val + 256) s t)) ∧
  (∀ (m : Fin 64) (s : State), let r := s.mbRequest m.val; Asked s m.val 0x51 r →
    let n := payLe r.payload 4 1; n = 1 → r.payload.length = 16 → mapBad (payLe r.payload 8 8) = false →
    payLe r.payload 0 2 < 65536 → s.gwyMay (s.mbAttr m.val) = true →
    Does (.mapSet m) s (fun t => KMap.getD t.gwy.maps (payLe r.payload 0 2) 0 = payLe r.payload 8 8 ∧
    Answered s t m.val r Code.ok [] ∧ t.gwy = { s.gwy with maps := t.gwy.maps })) ∧
  (∀ (m : Fin 64) (s : State), let r := s.mbRequest m.val; Asked s m.val 0x51 r → payLe r.payload 4 1 = 1 →
    r.payload.length = 16 → mapBad (payLe r.payload 8 8) = false → s.gwyMay (s.mbAttr m.val) = false →
    Does (.mapSet m) s (fun t => Answered s t m.val r Code.eAccess [] ∧ t.gwy = s.gwy)) ∧
  (∀ (m : Fin 64) (s : State), let r := s.mbRequest m.val; Asked s m.val 0x52 r →
    let d := (r.payload.drop 8).take 64; destBad d = false → s.gwyMay (s.mbAttr m.val) = true →
    Does (.destSet m) s (fun t => KMap.find t.gwy.dests (payLe r.payload 0 1) = some d ∧
    Answered s t m.val r Code.ok [] ∧ t.gwy = { s.gwy with dests := t.gwy.dests })) ∧
  (∀ (m : Fin 64) (s : State), let r := s.mbRequest m.val; Asked s m.val 0x52 r →
    destBad ((r.payload.drop 8).take 64) = true →
    Does (.destSet m) s (fun t => Answered s t m.val r Code.eIllegal [] ∧ t.gwy = s.gwy)) ∧
  (∀ (m : Fin 64) (s : State), let r := s.mbRequest m.val; Asked s m.val 0x53 r →
    let w0 := payLe r.payload 0 4; let e := w0 % 256; s.ep e = none → 4 ≤ bitsOf w0 11 8 → bitsOf w0 11 8 ≤ 12 →
    4 ≤ bitsOf w0 15 12 → bitsOf w0 15 12 ≤ 12 → 6 ≤ bitsOf w0 19 16 → bitsOf w0 19 16 ≤ 14 →
    payLe r.payload 8 6 % 4096 = 0 → payLe r.payload 16 6 % 4096 = 0 → payLe r.payload 4 2 ≤ payLe r.payload 6 2 →
    Does (.epOpen m) s (fun t => t.ep e = some { owner := s.mbAttr m.val, rxLog := bitsOf w0 11 8, txLog := bitsOf w0 15 12, slotLog := bitsOf w0 19 16, lo := payLe r.payload 4 2, hi := payLe r.payload 6 2, rx := payLe r.payload 8 6, tx := payLe r.payload 16 6, seq := 0 } ∧
    t.bit (Reg.GWY_EP_STATUS_OPEN e) = true ∧ [Reg.GWY_EP_RX_WPTR_WPTR e, Reg.GWY_EP_RX_RPTR_RPTR e,
    Reg.GWY_EP_TX_WPTR_WPTR e, Reg.GWY_EP_TX_RPTR_RPTR e].all (fun f => t.get f == 0) = true ∧
    Answered s t m.val r Code.ok [])) ∧
  (∀ (m : Fin 64) (s : State), let r := s.mbRequest m.val; Asked s m.val 0x53 r →
    let w0 := payLe r.payload 0 4; (s.ep (w0 % 256)).isSome = true → 4 ≤ bitsOf w0 11 8 → bitsOf w0 11 8 ≤ 12 →
    4 ≤ bitsOf w0 15 12 → bitsOf w0 15 12 ≤ 12 → 6 ≤ bitsOf w0 19 16 → bitsOf w0 19 16 ≤ 14 →
    payLe r.payload 8 6 % 4096 = 0 → payLe r.payload 16 6 % 4096 = 0 → payLe r.payload 4 2 ≤ payLe r.payload 6 2 →
    Does (.epOpen m) s (fun t => Answered s t m.val r Code.eBusy [] ∧ t.gwy = s.gwy)) ∧
  (∀ (m : Fin 64) (s : State), let r := s.mbRequest m.val; Asked s m.val 0x54 r → let e := payLe r.payload 0 1; ∀ p,
    s.ep e = some p → p.owner = s.mbAttr m.val → Does (.epClose m) s (fun t => t.ep e = none ∧
    t.bit (Reg.GWY_EP_STATUS_OPEN e) = false ∧ Answered s t m.val r Code.ok [] ∧
    t.gwy = { s.gwy with eps := t.gwy.eps })) ∧
  (∀ (m : Fin 64) (s : State), let r := s.mbRequest m.val; Asked s m.val 0x54 r → s.ep (payLe r.payload 0 1) = none →
    Does (.epClose m) s (fun t => Answered s t m.val r Code.eEpClosed [] ∧ t.gwy = s.gwy))

/-- Aborted reads and far failures are logged oldest first, fences count them, inbound windows translate, the link's
loss aborts reads (R346, R347, R348, R349, R350, R352). -/
def Obligations.BridgeAborts : Prop :=
  (∀ (who : Agent) (bridge : Fin 4) (addr : BitVec 48) (s : State), (s.attrOf who).partition < 64 →
    let n := s.groupOf (s.attrOf who).partition; s.get (Reg.BRG_FG_STATUS_COUNT n) < 16 →
    addr.toNat < 0x19010000 ∨ 0x19020000 ≤ addr.toNat →
    Does (.readHoldTimeout who bridge addr) s (fun t => t.resp.err = true ∧
    FenceLogged s t n bridge.val (s.attrOf who).toNat addr.toNat Code.eRetry ∧
    t.fbGet 0x60C0 0x10 = satAdd 32 (s.fbGet 0x60C0 0x10) 1 ∧ t.brg.aborted = s.brg.aborted + 1 ∧ t.mem = s.mem ∧
    t.datum = (s.elapse (s.fbGet 0x5100 1 * 1000)).datum)) ∧
  (∀ (who : Agent) (bridge : Fin 4) (addr : BitVec 48) (s : State),
    let n := (addr.toNat - 0x19010000) / 0x1000; 0x19010000 ≤ addr.toNat → addr.toNat < 0x19020000 →
    addr.toNat % 0x1000 = 0 →
    Does (.readHoldTimeout who bridge addr) s (fun t => t.brg.fences = s.brg.fences.filter (fun x => x != n) ∧
    t.brg.written = s.brg.written ∧ t.resp.err = true)) ∧
  (∀ (s : State), s.brg.aborted ≠ 0 →
    Does .lateCompletion s (fun t => t.fbGet 0x60C0 0x11 = satAdd 32 (s.fbGet 0x60C0 0x11) 1 ∧
    t.brg = { s.brg with aborted := s.brg.aborted - 1 } ∧ FbKept [(0x60C0, 0x11)] s t ∧
    t = { s with brg := t.brg, fb := t.fb })) ∧
  (∀ (bridge : Fin 4) (group : Fin 16) (attr : BitVec 8) (addr : BitVec 48) (cls : FarClass) (s : State),
    s.get (Reg.BRG_FG_STATUS_COUNT group.val) < 16 →
    Does (.farFailureReport bridge group attr addr cls) s (fun t => FenceLogged s t group.val bridge.val (if bridge.val = 0 then 0 else attr.toNat) addr.toNat (farCode cls) ∧
    t = { s with regs := t.regs, fb := t.fb, brg := { s.brg with fresh := t.brg.fresh } })) ∧
  (∀ (bridge : Fin 4) (group : Fin 16) (attr : BitVec 8) (addr : BitVec 48) (cls : FarClass) (s : State),
    let n := group.val; s.get (Reg.BRG_FG_STATUS_COUNT n) = 16 →
    Does (.farFailureReport bridge group attr addr cls) s (fun t => t.get (Reg.BRG_FG_STATUS_DROPPED n) = satAdd 8 (s.get (Reg.BRG_FG_STATUS_DROPPED n)) 1 ∧
    t.get (Reg.BRG_FG_ERRS_ERRS n) = satAdd 32 (s.get (Reg.BRG_FG_ERRS_ERRS n)) 1 ∧
    t.fenceNew n = satAdd 16 (s.fenceNew n) 1 ∧ RegsKept [Reg.BRG_FG_STATUS_DROPPED n, Reg.BRG_FG_ERRS_ERRS n] s t)) ∧
  (∀ (who : Agent) (group : Fin 16) (count : BitVec 5) (s : State),
    Passes s who (Reg.BRG_FG_ACK_addr group.val) true →
    let p := (s.attrOf who).partition; if group.val = 0 then (s.attrOf who).secure = true else s.bit (Reg.BRG_PART_GROUP_VALID p) = true ∧
    s.get (Reg.BRG_PART_GROUP_GROUP p) = group.val → count.toNat ≠ 0 →
    count.toNat ≤ s.get (Reg.BRG_FG_STATUS_COUNT group.val) → s.get (Reg.BRG_FG_STATUS_COUNT group.val) ≤ 16 →
    Does (.fenceLogAck who group count) s (fun t => t.get (Reg.BRG_FG_STATUS_COUNT group.val) = s.get (Reg.BRG_FG_STATUS_COUNT group.val) - count.toNat ∧
    t.get (Reg.BRG_FG_STATUS_HEAD group.val) = (s.get (Reg.BRG_FG_STATUS_HEAD group.val) + count.toNat) % 16 ∧
    OnlyRegs [Reg.BRG_FG_STATUS_COUNT group.val, Reg.BRG_FG_STATUS_HEAD group.val] [] s t)) ∧
  (∀ (who : Agent) (group : Fin 16) (count : BitVec 5) (s : State),
    Passes s who (Reg.BRG_FG_ACK_addr group.val) true →
    let p := (s.attrOf who).partition; if group.val = 0 then (s.attrOf who).secure = true else s.bit (Reg.BRG_PART_GROUP_VALID p) = true ∧
    s.get (Reg.BRG_PART_GROUP_GROUP p) = group.val →
    count.toNat = 0 ∨ s.get (Reg.BRG_FG_STATUS_COUNT group.val) < count.toNat →
    Does (.fenceLogAck who group count) s (fun t => t = { s with resp := t.resp })) ∧
  (∀ (who : Agent) (group : Fin 16) (s : State), Passes s who (Reg.BRG_FG_FENCE_addr group.val) false →
    let p := (s.attrOf who).partition; if group.val = 0 then (s.attrOf who).secure = true else s.bit (Reg.BRG_PART_GROUP_VALID p) = true ∧
    s.get (Reg.BRG_PART_GROUP_GROUP p) = group.val → KMap.getD s.brg.written group.val 0 = 2 →
    Does (.bridgeFence who group) s (fun t => t.brg.fences.contains group.val = true ∧
    t.out = (s.emit (.zeroRead 1)).out ∧
    t = { s with brg := { s.brg with fences := t.brg.fences }, out := t.out, resp := t.resp })) ∧
  (∀ (group : Fin 16) (s : State), s.brg.fences.contains group.val = true →
    s.brg.fenceAborted.all (fun x => x.1 != group.val || x.2.1 != s.datum) = true →
    Does (.bridgeFenceDone group) s (fun t => t.resp.data = 2 ^ 31 + (if s.fenceNew group.val = 0 then 0 else 2 ^ 30) + s.fenceNew group.val ∧
    t.fenceNew group.val = 0 ∧ KMap.getD t.brg.written group.val 0 = 0 ∧ t.brg.fences.contains group.val = false ∧
    t = { s with brg := t.brg, resp := t.resp })) ∧
  (∀ (group : Fin 16) (s : State), s.brg.fences.contains group.val = false →
    s.brg.fenceAborted.all (fun x => x.1 != group.val || x.2.1 != s.datum) = true →
    Does (.bridgeFenceDone group) s (fun t => t = s)) ∧
  (∀ (group : Fin 16) (s : State), s.brg.fences.contains group.val = false → s.brg.fenceAborted = some (group.val,
    s.datum, s.get (Reg.BRG_FG_ERRS_ERRS group.val)) → 1 < s.fenceNew group.val →
    Does (.bridgeFenceDone group) s (fun t => t.resp.data = 2 ^ 31 + 2 ^ 30 + (s.fenceNew group.val - 1) ∧
    t.get (Reg.BRG_FG_ERRS_ERRS group.val) = s.get (Reg.BRG_FG_ERRS_ERRS group.val) - 1 ∧
    t.fbGet 0x60C0 0x10 = s.fbGet 0x60C0 0x10 - 1 ∧ t.brg.aborted = s.brg.aborted - 1 ∧ t.brg.fenceAborted = none)) ∧
  (∀ (who : Agent) (window : Fin 16) (value : BitVec 32) (s : State),
    Passes s who (Reg.BRG_IW_CTRL_addr window.val) true → s.bit (Reg.BRG_IW_CTRL_EN window.val) = false →
    let lg := bitsOf value.toNat 5 0; 12 ≤ lg → lg ≤ 36 →
    let off := s.get (Reg.BRG_IW_OFFSET_OFFSET window.val); let tgt := s.get (Reg.BRG_IW_TARGET_TARGET window.val); off % 2 ^ lg = 0 →
    tgt % 2 ^ lg = 0 → off + 2 ^ lg ≤ 2 ^ 36 → 0x1000000000 ≤ tgt → tgt + 2 ^ lg ≤ 0x2800000000 →
    Does (.inboundWindowEnable who window value) s (fun t => t.bit (Reg.BRG_IW_CTRL_EN window.val) = true ∧
    t.bit (Reg.BRG_IW_CTRL_RD window.val) = bitOf value.toNat 30 ∧
    t.bit (Reg.BRG_IW_CTRL_WR window.val) = bitOf value.toNat 29 ∧
    t.bit (Reg.BRG_IW_CTRL_SECURE window.val) = bitOf value.toNat 28 ∧
    t.get (Reg.BRG_IW_CTRL_PARTITION window.val) = bitsOf value.toNat 27 22 ∧
    t.get (Reg.BRG_IW_CTRL_SRC window.val) = bitsOf value.toNat 19 16 ∧
    t.get (Reg.BRG_IW_CTRL_SIZE_LOG2 window.val) = lg ∧ t.get (Reg.BRG_IW_STATUS_LAST window.val) = Code.ok ∧
    RegsKept [Reg.BRG_IW_CTRL_EN window.val, Reg.BRG_IW_CTRL_RD window.val, Reg.BRG_IW_CTRL_WR window.val,
    Reg.BRG_IW_CTRL_SECURE window.val, Reg.BRG_IW_CTRL_PARTITION window.val, Reg.BRG_IW_CTRL_SRC window.val,
    Reg.BRG_IW_CTRL_SIZE_LOG2 window.val, Reg.BRG_IW_STATUS_LAST window.val] s t ∧
    t = { s with regs := t.regs, resp := t.resp, brg := { s.brg with windowsWas := t.brg.windowsWas } })) ∧
  (∀ (who : Agent) (window : Fin 16) (value : BitVec 32) (s : State),
    Passes s who (Reg.BRG_IW_CTRL_addr window.val) true → s.bit (Reg.BRG_IW_CTRL_EN window.val) = false →
    let lg := bitsOf value.toNat 5 0; 12 ≤ lg → lg ≤ 36 → s.get (Reg.BRG_IW_OFFSET_OFFSET window.val) % 2 ^ lg ≠ 0 →
    Does (.inboundWindowEnable who window value) s (fun t => t.get (Reg.BRG_IW_STATUS_LAST window.val) = Code.eAlign ∧
    t.bit (Reg.BRG_IW_CTRL_EN window.val) = false ∧ OnlyRegs [Reg.BRG_IW_STATUS_LAST window.val] [] s t)) ∧
  (∀ (package : Fin 4) (group : Fin 16) (offset : BitVec 36) (acc : BusOp) (ecc : EccEvent) (s : State),
    InboundTaken s → ∀ w, s.iwFor offset.toNat = some w → ∀ posted data, acc = .write posted data →
    ecc ≠ .uncorrectable → bitOf (s.get (Reg.BRG_IW_CTRL_SRC w)) package.val = true →
    s.bit (Reg.BRG_IW_CTRL_WR w) = true →
    let a := s.get (Reg.BRG_IW_TARGET_TARGET w) + (offset.toNat - s.get (Reg.BRG_IW_OFFSET_OFFSET w)); s.reach1 (s.iwAttr w) true a = (.ok,
    s) →
    Does (.pcieInboundRequest package group offset acc ecc) s (fun t => t.rd a data.length = data.map BitVec.toNat ∧
    MemKept a (a + data.length) s t ∧ t = { s with mem := t.mem, unpub := t.unpub, opPools := t.opPools })) ∧
  (∀ (package : Fin 4) (group : Fin 16) (offset : BitVec 36) (acc : BusOp) (ecc : EccEvent) (s : State),
    InboundTaken s → ∀ w, s.iwFor offset.toNat = some w → ∀ len, acc = .read len → ecc ≠ .uncorrectable →
    bitOf (s.get (Reg.BRG_IW_CTRL_SRC w)) package.val = true → s.bit (Reg.BRG_IW_CTRL_RD w) = true → s.unpub = [] →
    let a := s.get (Reg.BRG_IW_TARGET_TARGET w) + (offset.toNat - s.get (Reg.BRG_IW_OFFSET_OFFSET w)); s.reach1 (s.iwAttr w) false a = (.ok,
    s) → Does (.pcieInboundRequest package group offset acc ecc) s (fun t => t.resp.data = s.rdLe a len ∧
    t.resp.err = false ∧ t = { s with resp := t.resp, opPools := t.opPools })) ∧
  (∀ (package : Fin 4) (group : Fin 16) (offset : BitVec 36) (acc : BusOp) (ecc : EccEvent) (s : State),
    InboundTaken s → s.iwFor offset.toNat = none → ∀ posted data, acc = .write posted data →
    s.get (Reg.BRG_FG_STATUS_COUNT 0) = 0 → s.get Reg.SYS_STRAP_PKG_ID < 4 →
    let i := s.get (Reg.BRG_FG_STATUS_HEAD 0) % 16; let a := 0x4000000000 + s.get Reg.SYS_STRAP_PKG_ID * 0x1000000000 + offset.toNat; Does (.pcieInboundRequest package group offset acc ecc) s (fun t => t.get (Reg.BRG_FG_LOGCLASS_CLASS 0 i) = Code.eFarUr ∧
    t.get (Reg.BRG_FG_LOG_ADDR 0 i) = a ∧ t.get (Reg.BRG_FG_LOG_ATTR 0 i) = 0 ∧
    t.get (Reg.BRG_FG_STATUS_COUNT 0) = 1 ∧ t.out = (s.emit (.farReport package.val group.val a Code.eFarUr)).out ∧
    t.mem = s.mem)) ∧
  (∀ (package : Fin 4) (group : Fin 16) (offset : BitVec 36) (acc : BusOp) (ecc : EccEvent) (s : State),
    InboundTaken s → s.iwFor offset.toNat = none → ∀ len, acc = .read len →
    Does (.pcieInboundRequest package group offset acc ecc) s (fun t => t.resp.err = true ∧
    t = { s with resp := t.resp, opPools := t.opPools })) ∧
  (∀ (package : Fin 4) (group : Fin 16) (offset : BitVec 36) (acc : BusOp) (ecc : EccEvent) (s : State),
    s.pcieDown = false → s.poolRoom 205 = false →
    Does (.pcieInboundRequest package group offset acc ecc) s (fun t => t = { s with brg := { s.brg with inbound := s.brg.inbound ++ [⟨package.val, group.val, offset.toNat, acc, ecc⟩] } })) ∧
  (∀ (unsent : BitVec 16) (s : State), s.brg.linkDown = false → s.brg.fences = [] → unsent = 4 →
    s.get (Reg.BRG_FG_STATUS_COUNT 2) < 16 → (s.opPool 201).waiting = [] →
    Does (.pcieLinkDown unsent) s (fun t => t.brg.linkDown = true ∧ FenceLogged s t 2 0 0 0 Code.eLinkDown ∧
    t = { s with regs := t.regs, fb := t.fb, brg := t.brg, opPools := t.opPools })) ∧
  (∀ (unsent : BitVec 16) (s : State), s.brg.linkDown = true → Does (.pcieLinkDown unsent) s (fun t => t = s)) ∧
  (∀ (s : State),
    Does .pcieLinkUp s (fun t => t = { s with brg := { s.brg with linkDown := false, downLogged := 0 } }))

/-- Field Book requests queue, READ, DESCRIBE, WRITE, OPEN and CLOSE are answered by the rules, violations are counted
and mute a source (R359, R361, R362, R363, R364, R365, R367, R368, R369, R372, R374, R375). -/
def Obligations.FieldBookAccess : Prop :=
  (∀ (carrier : FbaCarrier) (bytes : List Byte) (s : State), ∀ n fmt key0, carrier = .can n fmt key0 →
    s.fbaListening = true → bitOf (s.fbGet 0x1100 1) n.val = true → s.fbaCanMatch fmt.val key0.toNat = true →
    s.fbaMuted (.can n) = false → let r := (⟨.can n, fmt.val, bytes.map BitVec.toNat,
    0⟩ : FbaReq); r.form = Code.ok → s.fba.queue.length < 64 →
    Does (.fbaRequestReceived carrier bytes) s (fun t => t.fba.queue = s.fba.queue ++ [{ r with epoch := s.fbaEpoch r.session }] ∧
    t = { s with fba := { s.fba with queue := t.fba.queue } })) ∧
  (∀ (carrier : FbaCarrier) (bytes : List Byte) (s : State), ∀ mac ip port dport, carrier = .udp mac ip port dport →
    s.fbaListening = true → bitOf (s.fbGet 0x1100 5) mac.val = true → dport.toNat = s.fbGet 0x1100 4 →
    let src := FbaSource.udp mac ip port; s.fbaMuted src = false → let r := (⟨src, 0, bytes.map BitVec.toNat,
    0⟩ : FbaReq); r.form ≠ Code.ok → (s.fbaCount src).count < 64 → (s.fwLogOf 21).pending = [] →
    Does (.fbaRequestReceived carrier bytes) s (fun t => t.fba.queue = s.fba.queue ∧
    t.fbGet 0x60D0 2 = satAdd 32 (s.fbGet 0x60D0 2) 1 ∧ t.fbGet 0x60D0 3 = s.fbGet 0x60D0 3 ∧
    (t.fbaCount src).count = (s.fbaCount src).count + 1 ∧
    t.out = (s.emit (.fbaDatagram mac.val ip.toNat port.toNat (fbaMessage r false r.form []))).out ∧
    t.regs = s.regs)) ∧
  (∀ (carrier : FbaCarrier) (bytes : List Byte) (s : State), ∀ mac ip port dport, carrier = .udp mac ip port dport →
    s.fbaMuted (.udp mac ip port) = true → Does (.fbaRequestReceived carrier bytes) s (fun t => t = s)) ∧
  (∀ (s : State), ∀ r rest, s.fba.queue = r :: rest → ∀ mac ip port, r.source = .udp mac ip port → r.op = 1 →
    r.auth = false → r.session = 0 → s.fwDown 21 = false → s.fba.record = none →
    s.fba.idled.all (fun x => x.1 != r.session || x.2.1 != s.datum) = true → s.fbaEntryCode r 0 = Code.ok → ∀ e,
    fbRow r.index r.sub = some e →
    Does .fbaRead s (fun t => t.out = (s.emit (.fbaDatagram mac.val ip.toNat port.toNat (fbaMessage r false Code.ok (beBytes e.size (s.fbView r.index r.sub))))).out ∧
    t.fbGet 0x60D0 1 = satAdd 32 (s.fbGet 0x60D0 1) 1 ∧ FbKept [(0x60D0, 1)] s t ∧
    t = { s with fba := { s.fba with queue := rest }, fb := t.fb, out := t.out })) ∧
  (∀ (s : State), ∀ r rest, s.fba.queue = r :: rest → ∀ mac ip port, r.source = .udp mac ip port → r.op = 1 →
    r.auth = false → r.session = 0 → s.fwDown 21 = false → s.fba.record = none →
    s.fba.idled.all (fun x => x.1 != r.session || x.2.1 != s.datum) = true →
    let c := s.fbaEntryCode r 0; c ≠ Code.ok → c ≠ Code.eAuth → c ≠ Code.eReplay →
    Does .fbaRead s (fun t => t.out = (s.emit (.fbaDatagram mac.val ip.toNat port.toNat (fbaMessage r false c []))).out ∧
    t = { s with fba := { s.fba with queue := rest }, out := t.out })) ∧
  (∀ (s : State), ∀ r rest, s.fba.queue = r :: rest → ∀ mac ip port, r.source = .udp mac ip port → r.op = 3 →
    r.auth = false → r.session = 0 → s.fwDown 21 = false → s.fba.record = none →
    s.fba.idled.all (fun x => x.1 != r.session || x.2.1 != s.datum) = true → ∀ e, fbRow r.index r.sub = some e →
    Does .fbaDescribe s (fun t => t.out = (s.emit (.fbaDatagram mac.val ip.toNat port.toNat (fbaMessage r false Code.ok (fbDescribe e r.index r.sub)))).out ∧
    t.fbGet 0x60D0 1 = satAdd 32 (s.fbGet 0x60D0 1) 1 ∧
    t = { s with fba := { s.fba with queue := rest }, fb := t.fb, out := t.out })) ∧
  (∀ (s : State), ∀ r rest, s.fba.queue = r :: rest → ∀ m, r.source = .mailbox m → r.op = 2 → r.auth = false →
    (s.mbAttr m.val).secure = true → s.fwDown 21 = false → s.fba.record = none →
    s.fba.idled.all (fun x => x.1 != r.session || x.2.1 != s.datum) = true → s.fba.compacting = none →
    (s.jCopy 0).failed = false → ∀ e, fbRow r.index r.sub = some e → fbPersistent e r.index r.sub = true →
    s.fbaEntryCode r 2 = Code.ok →
    let a := slotOffset 0 (s.jCopy 0).half (s.jCopy 0).next; s.jBytes a 56 = List.replicate 56 255 →
    let body := recordBody s.fba.seq r.index r.sub e.type.code (beBytes e.size (beValue r.value)); Does .fbaWrite s (fun t => t.fba.record = some { body := body, index := r.index, sub := r.sub, value := beValue r.value, copy := 0, request := some r, opens := none, begun := s.datum } ∧
    t.jBytes a 56 = body ∧ t.fba.seq = s.fba.seq + 1 ∧ t.fba.queue = rest ∧
    t = { s with fba := t.fba, jrn := t.jrn })) ∧
  (∀ (s : State), ∀ r rest, s.fba.queue = r :: rest → ∀ m, r.source = .mailbox m → r.op = 2 → r.auth = false →
    (s.mbAttr m.val).secure = true → s.fwDown 21 = false → s.fba.record = none →
    s.fba.idled.all (fun x => x.1 != r.session || x.2.1 != s.datum) = true → s.fba.compacting ≠ none → ∀ e,
    fbRow r.index r.sub = some e → fbPersistent e r.index r.sub = true → s.fbaEntryCode r 2 = Code.ok →
    Does .fbaWrite s (fun t => t.fbGet 0x60D0 0xB = satAdd 32 (s.fbGet 0x60D0 0xB) 1 ∧
    t = (({ s with fba := { s.fba with queue := rest } } : State).fbInc 0x60D0 0xB).fbaRespond r Code.eBusy [] ∧
    t.fba.record = none ∧ t.jrn = s.jrn ∧ FbKept [(0x60D0, 0xB)] s t)) ∧
  (∀ (s : State), ∀ r rest, s.fba.queue = r :: rest → ∀ mac ip port, r.source = .udp mac ip port → r.op = 4 →
    s.fwDown 21 = false → s.fba.record = none → s.fba.compacting = none → (s.jCopy 0).failed = false →
    s.fbaOpenCode r = Code.ok → Does .fbaOpen s (fun t => t.fba.record.map (fun j => (j.index, j.sub, j.value,
    j.copy, j.request)) = some (0x1210 + r.session - 1, 5, r.fresh, 0, some r) ∧
    (t.fba.record.bind (·.opens)).map (fun x => (x.source, x.nonce.take 8, x.rx, x.tx)) = some (r.source,
    r.value.take 8, 0, 0) ∧ t.fba.sessions = s.fba.sessions ∧ t.fba.queue = rest ∧ t.fb = s.fb ∧ t.out = s.out)) ∧
  (∀ (s : State), ∀ r rest, s.fba.queue = r :: rest → ∀ mac ip port, r.source = .udp mac ip port → r.op = 4 →
    s.fwDown 21 = false → s.fba.record = none → s.fbaOpenCode r = Code.eReplay →
    Does .fbaOpen s (fun t => t.fbGet 0x60D0 5 = satAdd 32 (s.fbGet 0x60D0 5) 1 ∧
    t.out = (s.emit (.fbaDatagram mac.val ip.toNat port.toNat (fbaMessage r false Code.eReplay []))).out ∧
    t = { s with fba := { s.fba with queue := rest }, fb := t.fb, out := t.out })) ∧
  (∀ (s : State), ∀ r rest, s.fba.queue = r :: rest → ∀ mac ip port, r.source = .udp mac ip port → r.op = 5 →
    r.auth = true → s.fwDown 21 = false → s.fba.record = none → ∀ x, s.fbaSession r.session = some x → ∀ key,
    s.fbaKey r.session = some key → r.epoch = s.fbaEpoch r.session → fbaMac key x.nonce r.covered = r.mac →
    x.rx < r.fresh → r.session < 16 → x.tx < 1000 → Does .fbaClose s (fun t => t.fbaSession r.session = none ∧
    bitOf (t.fbGet 0x1200 1) r.session = false ∧ t.fbGet 0x60D0 1 = satAdd 32 (s.fbGet 0x60D0 1) 1 ∧
    t.fba.queue = rest ∧ FbKept [(0x1200, 1), (0x60D0, 1)] s t ∧ t.regs = s.regs)) ∧
  (∀ (session : Fin 16) (s : State), ∀ x, s.fbaSession session.val = some x →
    Does (.sessionIdleTimeout session) s (fun t => t.fbaSession session.val = none ∧
    bitOf (t.fbGet 0x1200 1) session.val = false ∧ x.last + s.fbGet 0x1200 2 * 1000000000 ≤ t.datum ∧
    FbKept [(0x1200, 1)] s t ∧
    t = { s.advanceTo (x.last + s.fbGet 0x1200 2 * 1000000000) with fba := { s.fba with sessions := t.fba.sessions, idled := t.fba.idled }, fb := t.fb })) ∧
  (∀ (session : Fin 16) (s : State), s.fbaSession session.val = none →
    Does (.sessionIdleTimeout session) s (fun t => t = s)) ∧
  (∀ (source : FbaSource) (s : State), ∀ u, (s.fbaCount source).muted = some u →
    Does (.muteExpiry source) s (fun t => t.fbaMuted source = false ∧ u ≤ t.datum ∧
    t.fba.sources.all (fun c => c.source != source || c.muted.isNone) = true ∧
    t = { s.advanceTo u with fba := { s.fba with sources := t.fba.sources } })) ∧
  (∀ (s : State), Does .violationCountClear s (fun t => t.fba.sources.all (fun c => c.count == 0) = true ∧
    t.fba.sources.map (·.muted) = s.fba.sources.map (·.muted) ∧ t.datum % 1000000000 = 0 ∧ s.datum ≤ t.datum ∧
    t.datum < s.datum + 1000000000 ∧
    t = { s.advanceTo t.datum with fba := { s.fba with sources := t.fba.sources } }))

/-- A persistent write takes effect when copy A's COMMIT is programmed, then copy B follows; a compaction moves a copy
to its other half (R377, R378, R379, R380, R381). -/
def Obligations.JournalCommits : Prop :=
  (∀ (s : State), ∀ j, s.fba.record = some j → ∀ r, j.request = some r → ∀ mac ip port, r.source = .udp mac ip port →
    j.copy = 0 → j.opens = none → r.auth = false → r.op = 2 → (s.jCopy 1).failed = false → j.index ≠ 0x60D0 →
    j.sub < 256 →
    let a := slotOffset 0 (s.jCopy 0).half (s.jCopy 0).next; Does .journalCopyACommit s (fun t => t.fbGet j.index j.sub = j.value ∧
    t.jBytes (a + 56) 1 = [0] ∧ t.fbGet 0x60D0 6 = satAdd 32 (s.fbGet 0x60D0 6) 1 ∧ FbKept [(j.index, j.sub),
    (0x60D0, 6), (0x60D0, 1)] s t ∧ (t.jCopy 0).next = (s.jCopy 0).next + 1 ∧
    t.fba.record = some { j with copy := 1, request := none, opens := none } ∧
    t.out = (s.emit (.fbaDatagram mac.val ip.toNat port.toNat (fbaMessage r false Code.ok []))).out ∧
    t = { s with fba := t.fba, fb := t.fb, jrn := t.jrn, out := t.out })) ∧
  (∀ (s : State), s.fba.record = none → Does .journalCopyACommit s (fun t => t = s)) ∧
  (∀ (s : State), ∀ j, s.fba.record = some j → j.copy = 1 → j.request = none → s.pins.pwrFailN = true →
    s.compactionDue 0 = false → (s.jCopy 1).next < 15358 →
    Does .journalCopyBDone s (fun t => (t.jCopy 1).next = (s.jCopy 1).next + 1 ∧ t.fba.record = none ∧
    t.fba.compacting = s.fba.compacting ∧ t = { s with fba := t.fba, jrn := t.jrn })) ∧
  (∀ (s : State), ∀ j, s.fba.record = some j → j.copy = 1 → j.request = none → s.pins.pwrFailN = true →
    (s.jCopy 0).failed = false → 15360 ≤ (s.jCopy 0).next → (s.jCopy 0).next ≤ 16383 →
    Does .journalCopyBDone s (fun t => t.fba.compacting = some 0 ∧ t.fba.record = none ∧ t.fb = s.fb)) ∧
  (∀ (s : State), ∀ c, s.fba.compacting = some c → s.pins.pwrFailN = true → c = 0 → s.compactionDue 1 = false →
    Does .compactionDone s (fun t => t.jCopy 0 = { half := 1 - (s.jCopy 0).half, gen := (s.jCopy 0).gen + 1, next := fbPersistentKeys.length, failed := false } ∧
    t.jCopy 1 = s.jCopy 1 ∧ t.fbGet 0x60D0 0xA = satAdd 32 (s.fbGet 0x60D0 0xA) 1 ∧ t.fba.compacting = none ∧
    FbKept [(0x60D0, 0xA)] s t ∧ t = { s with fba := t.fba, jrn := t.jrn, fb := t.fb })) ∧
  (∀ (s : State), s.pins.pwrFailN = false → Does .compactionDone s (fun t => t = s))

/-- Only processor n kicks watchdog n; an expiry resets and counts it; READY runs it again; power requests switch
domains, clocks or enter sleep (R67, R214, R314, R387, R388, R389, R390, R395, R402, R428, R434). -/
def Obligations.FirmwareProcessors : Prop :=
  (∀ (who : Agent) (n : Fin 23) (key : BitVec 16) (s : State), Passes s who (Reg.SYS_FWD_KICK_addr n.val) true →
    who = .fw n → key = 0x5A3C →
    Does (.fwWatchdogKick who n key) s (fun t => KMap.getD t.fw.wdStart n.val 0 = s.datum ∧ (∀ m : Fin 23, m ≠ n →
    KMap.getD t.fw.wdStart m.val 0 = KMap.getD s.fw.wdStart m.val 0) ∧
    t = { s with fw := { s.fw with wdStart := t.fw.wdStart }, resp := t.resp })) ∧
  (∀ (who : Agent) (n : Fin 23) (key : BitVec 16) (s : State), Passes s who (Reg.SYS_FWD_KICK_addr n.val) true →
    who = .fw n → key ≠ 0x5A3C → Does (.fwWatchdogKick who n key) s (fun t => t = { s with resp := t.resp })) ∧
  (∀ (who : Agent) (n : Fin 23) (key : BitVec 16) (s : State), Passes s who (Reg.SYS_FWD_KICK_addr n.val) true →
    isFw n.val who = false → let c := s.get (Reg.CAD_STATUS_COUNT 48); c < 8 →
    Does (.fwWatchdogKick who n key) s (fun t => t.fw = s.fw ∧ t.get (Reg.CAD_STATUS_COUNT 48) = c + 1 ∧
    t.get (Reg.CAD_LOG_REGION 48 ((s.get (Reg.CAD_STATUS_HEAD 48) + c) % 8)) = 0x21 ∧
    t = { s with regs := t.regs, fb := t.fb, resp := t.resp })) ∧
  (∀ (n : Fin 23) (s : State), s.fwCounts n.val = true → s.bit (Reg.SYS_FWD_CTRL_TEST n.val) = false →
    (s.fwLogOf n.val).pending = [] → s.med = {} → KMap.getD s.fw.expiries n.val [] = [] → s.fw.switch = none →
    s.eng = {} → s.trv = {} → s.gfx = {} →
    Does (.fwWatchdogExpiry n) s (fun t => t.get (Reg.SYS_FWD_STATUS_STATE n.val) = 1 ∧
    t.get (Reg.SYS_FWD_STATUS_EXPIRIES n.val) = satAdd 16 (s.get (Reg.SYS_FWD_STATUS_EXPIRIES n.val)) 1 ∧
    t.fbGet 0x60E0 1 = satAdd 32 (s.fbGet 0x60E0 1) 1 ∧ s.fwDue n.val ≤ t.datum ∧ t.mem = s.mem)) ∧
  (∀ (n : Fin 23) (s : State), s.fwCounts n.val = true → s.bit (Reg.SYS_FWD_CTRL_TEST n.val) = true →
    Does (.fwWatchdogTestExpiry n) s (fun t => t.bit (Reg.SYS_FWD_STATUS_EXPIRED_TEST n.val) = true ∧
    s.fwDue n.val ≤ t.datum ∧ KMap.getD t.fw.wdStart n.val 0 = t.datum ∧
    RegsKept [Reg.SYS_FWD_STATUS_EXPIRED_TEST n.val] s t ∧
    t = { s.advanceTo (s.fwDue n.val) with regs := t.regs, fw := { s.fw with wdStart := t.fw.wdStart } })) ∧
  (∀ (n : Fin 23) (s : State), s.bit (Reg.SYS_FWD_CTRL_TEST n.val) = false →
    Does (.fwWatchdogTestExpiry n) s (fun t => t = s)) ∧
  (∀ (n : Fin 23) (s : State), s.get (Reg.SYS_FWD_STATUS_STATE n.val) = 1 → n.val ≠ 21 → s.fw.switch = none →
    Does (.fwProcessorReady n) s (fun t => t.get (Reg.SYS_FWD_STATUS_STATE n.val) = 0 ∧
    KMap.getD t.fw.wdStart n.val 0 = s.datum ∧ RegsKept [Reg.SYS_FWD_STATUS_STATE n.val] s t ∧
    t = { s with regs := t.regs, fw := { s.fw with wdStart := t.fw.wdStart } })) ∧
  (∀ (n : Fin 23) (s : State), s.get (Reg.SYS_FWD_STATUS_STATE n.val) = 2 →
    Does (.fwProcessorReady n) s (fun t => t = s)) ∧
  (∀ (m : Fin 64) (s : State), let r := s.mbRequest m.val; Asked s m.val 0x60 r → (s.mbAttr m.val).secure = true →
    let w := payLe r.payload 0 4; let d := w % 32; d ≤ 19 → neverGated d = false → d < 4 ∨ 8 ≤ d →
    Does (.pdSet m) s (fun t => s.powered d = bitOf (s.get Reg.PMU_PD_STATE_PD) d ∧
    bitOf (t.get Reg.PMU_PD_STATE_PD) d = bitOf w 8 ∧ (∀ e : Fin 20, e.val ≠ d →
    bitOf (t.get Reg.PMU_PD_STATE_PD) e.val = bitOf (s.get Reg.PMU_PD_STATE_PD) e.val) ∧
    Answered s t m.val r Code.ok [] ∧ MemKept (replySlot s m.val) (replySlot s m.val + 256) s t)) ∧
  (∀ (m : Fin 64) (s : State), let r := s.mbRequest m.val; Asked s m.val 0x60 r → (s.mbAttr m.val).secure = true →
    neverGated (payLe r.payload 0 4 % 32) = true → bitOf (payLe r.payload 0 4) 8 = false →
    Does (.pdSet m) s (fun t => Answered s t m.val r Code.eState [] ∧
    t.get Reg.PMU_PD_STATE_PD = s.get Reg.PMU_PD_STATE_PD)) ∧
  (∀ (m : Fin 64) (s : State), let r := s.mbRequest m.val; Asked s m.val 0x60 r →
    s.superUser (s.mbAttr m.val) = false → payLe r.payload 0 4 % 32 ≤ 19 →
    Does (.pdSet m) s (fun t => Answered s t m.val r Code.eAccess [] ∧
    t.get Reg.PMU_PD_STATE_PD = s.get Reg.PMU_PD_STATE_PD)) ∧
  (∀ (m : Fin 64) (s : State), let r := s.mbRequest m.val; Asked s m.val 0x61 r → (s.mbAttr m.val).secure = true →
    let w := payLe r.payload 0 4; let d := w % 64; d ≤ 59 → clockFixed d = false →
    Does (.clkSet m) s (fun t => bitOf (t.get Reg.SYS_CLK_EN_EN) d = bitOf w 8 ∧ (∀ e : Fin 60, e.val ≠ d →
    bitOf (t.get Reg.SYS_CLK_EN_EN) e.val = bitOf (s.get Reg.SYS_CLK_EN_EN) e.val) ∧
    Answered s t m.val r Code.ok [])) ∧
  (∀ (m : Fin 64) (s : State), let r := s.mbRequest m.val; Asked s m.val 0x61 r → (s.mbAttr m.val).secure = true →
    clockFixed (payLe r.payload 0 4 % 64) = true → bitOf (payLe r.payload 0 4) 8 = false →
    Does (.clkSet m) s (fun t => Answered s t m.val r Code.eState [] ∧
    t.get Reg.SYS_CLK_EN_EN = s.get Reg.SYS_CLK_EN_EN)) ∧
  (∀ (m : Fin 64) (s : State), let r := s.mbRequest m.val; Asked s m.val 0x62 r → (s.mbAttr m.val).secure = true →
    s.running = false → s.anyAdmitted = false → s.pmu.entering = none →
    Does (.sleep m) s (fun t => t.pmu = { s.pmu with entering := some (payLe r.payload 0 4), wakeHeld := !s.pins.wakeN || s.pmu.wakeAt = some s.datum } ∧
    Answered s t m.val r Code.ok [])) ∧
  (∀ (m : Fin 64) (s : State), let r := s.mbRequest m.val; Asked s m.val 0x62 r → (s.mbAttr m.val).secure = true →
    s.running = true → Does (.sleep m) s (fun t => t.pmu = s.pmu ∧ Answered s t m.val r Code.eState [])) ∧
  (∀ (m : Fin 64) (s : State), let r := s.mbRequest m.val; Asked s m.val 0x63 r →
    Does (.powerStatus m) s (fun t => Answered s t m.val r Code.ok (leBytes 8 (s.get Reg.PMU_PD_STATE_PD) ++ leBytes 8 (s.get Reg.SYS_CLK_EN_EN) ++ leBytes 8 (s.get Reg.PMU_LEASE_PD_PD) ++ leBytes 8 (s.get Reg.PMU_LEASE_CLK_CLK) ++ leBytes 4 (s.pmuState + 2 ^ 8 * s.shedLevel + 2 ^ 16 * b2n s.granted) ++ leBytes 4 (s.fbGet 0x4000 3)) ∧
    MemKept (replySlot s m.val) (replySlot s m.val + 256) s t ∧ t.pmu = s.pmu))

/-- The PMU loop moves the four states by temperature and power; ceilings, shedding and the grant follow; update
images reach their slot states (R151, R164, R203, R403, R406, R407, R408, R410, R413, R414, R415). -/
def Obligations.PowerAndUpdate : Prop :=
  (∀ (hot power : BitVec 16) (rails : BitVec 20) (s : State), s.fwDown 20 = false → s.pmu.asleep = none →
    s.pmuState = 0 → s.pins.pwrFailN = true → hot.toNat < 32768 → (hot.toNat : Int) < s.threshold 1 0 →
    (hot.toNat : Int) < s.threshold 2 0 → power.toNat ≤ 10 * s.powerLimit → power.toNat < 2100 →
    Does (.pmuLoop hot power rails) s (fun t => t.pmuState = 0 ∧ t.fbGet 0x4000 4 = hot.toNat ∧
    t.fbGet 0x4000 3 = power.toNat ∧ t.pmu.throttling = false ∧
    t.pmu.faulted = s.pmu.faulted &&& (2 ^ 20 - 1 - rails.toNat) ∧ t.shedLevel = s.shedLevel ∧
    t.fbGet 0x60E0 5 = s.fbGet 0x60E0 5 ∧ t.fbGet 0x60E0 6 = s.fbGet 0x60E0 6)) ∧
  (∀ (hot power : BitVec 16) (rails : BitVec 20) (s : State), s.fwDown 20 = false → s.pmu.asleep = none →
    s.pmuState = 0 → s.pins.pwrFailN = true → hot.toNat < 32768 → (hot.toNat : Int) < s.threshold 2 0 →
    10 * s.powerLimit < power.toNat → power.toNat < 2100 →
    Does (.pmuLoop hot power rails) s (fun t => t.pmuState = 1 ∧ t.fbGet 0x60E0 5 = satAdd 32 (s.fbGet 0x60E0 5) 1 ∧
    t.pmu.throttling = true ∧ t.pmu.ceilAt = s.datum ∧ t.bit Reg.PMU_EVENTS_STATE = true ∧
    t.shedLevel = s.shedLevel)) ∧
  (∀ (hot power : BitVec 16) (rails : BitVec 20) (s : State), s.fwDown 20 = false → s.pmu.asleep = none →
    s.pmuState = 0 → s.shedLevel = 0 → hot.toNat < 32768 → s.threshold 2 0 ≤ (hot.toNat : Int) →
    Does (.pmuLoop hot power rails) s (fun t => t.pmuState = 2 ∧ t.fbGet 0x60E0 6 = satAdd 32 (s.fbGet 0x60E0 6) 1 ∧
    t.granted = false ∧ t.shedLevel = 1 ∧ t.pmu.shedAt = s.datum ∧ t.bit Reg.PMU_EVENTS_SHED = true ∧
    (s.granted = true → t.fbGet 0x60E0 7 = satAdd 32 (s.fbGet 0x60E0 7) 1))) ∧
  (∀ (hot power : BitVec 16) (rails : BitVec 20) (s : State), s.fwDown 20 = false → s.pmu.asleep = none →
    s.pmuState = 3 → Does (.pmuLoop hot power rails) s (fun t => t.pmuState = 3)) ∧
  (∀ (hot power : BitVec 16) (rails : BitVec 20) (s : State), s.get (Reg.SYS_FWD_STATUS_STATE 20) = 1 →
    Does (.pmuLoop hot power rails) s (fun t => t = s)) ∧
  (∀ (domain : Fin 20) (mv : Int) (s : State), s.fwDown 20 = false →
    Does (.avsTrim domain mv) s (fun t => KMap.getD t.pmu.trim domain.val 0 = max (-50) (min 50 mv) ∧
    t = { s with pmu := { s.pmu with trim := t.pmu.trim } })) ∧
  (∀ (s : State), Does .railDroop s (fun t => t.fbGet 0x60E0 0xD = satAdd 32 (s.fbGet 0x60E0 0xD) 1 ∧
    t.bit Reg.PMU_EVENTS_DROOP = true ∧ OnlyRegs [Reg.PMU_EVENTS_DROOP] [(0x60E0, 0xD)] s t)) ∧
  (∀ (domains : BitVec 20) (s : State), domains = 0x20000 → s.openWindows = [] →
    Does (.railFault domains) s (fun t => t.pmu.faulted = s.pmu.faulted ||| 0x20000 ∧
    t.bit Reg.PMU_EVENTS_RAIL_FAULT = true ∧ OnlyRegs [Reg.PMU_EVENTS_RAIL_FAULT] [] { s with pmu := t.pmu } t)) ∧
  (∀ (domains : BitVec 20) (s : State), domains = 0x8000 → s.get Reg.SAF_STATE_STATE = 1 →
    Does (.railFault domains) s (fun t => t.get Reg.SAF_STATE_STATE = 3 ∧ t.get Reg.SAF_STATE_CAUSE = Code.eMonitor ∧
    t.bit Reg.PLB_STATUS_RAIL_FAULT = true ∧ t.eng.plumbDead = true)) ∧
  (∀ (s : State), s.pmuState = 1 → s.pmu.throttling = true → s.fwDown 20 = false →
    Does .ceilingLower s (fun t => (∀ p : Fin 64,
    KMap.getD t.pmu.ceilT p.val 6 = if s.protected p.val then KMap.getD s.pmu.ceilT p.val 6 else KMap.getD s.pmu.ceilT p.val 6 - 1) ∧
    (∀ p : Fin 64,
    KMap.getD t.pmu.ceilG p.val 3 = if s.protected p.val then KMap.getD s.pmu.ceilG p.val 3 else KMap.getD s.pmu.ceilG p.val 3 - 1) ∧
    s.pmu.ceilAt + 10000000 ≤ t.datum ∧
    t = { s.advanceTo (s.pmu.ceilAt + 10000000) with pmu := { s.pmu with ceilT := t.pmu.ceilT, ceilG := t.pmu.ceilG, ceilAt := t.datum } })) ∧
  (∀ (s : State), s.pmuState = 0 → s.fwDown 20 = false → s.pmu.ceilT = [(9, 4)] → s.pmu.ceilG = [(9, 0)] →
    Does .ceilingRaise s (fun t => t.pmu.ceilT = [(9, 5)] ∧ t.pmu.ceilG = [(9, 1)] ∧
    s.pmu.ceilAt + 100000000 ≤ t.datum ∧
    t = { s.advanceTo (s.pmu.ceilAt + 100000000) with pmu := { s.pmu with ceilT := t.pmu.ceilT, ceilG := t.pmu.ceilG, ceilAt := t.datum } })) ∧
  (∀ (s : State), s.pmuState = 2 → s.shedLevel = 2 → s.fwDown 20 = false →
    Does .shedStep s (fun t => t.shedLevel = 3 ∧ t.pmu.pointG = (if s.gfxGuarded then s.pmu.pointG else 0) ∧
    s.pmu.shedAt + 10000000 ≤ t.datum ∧ t.bit Reg.PMU_EVENTS_SHED = true ∧ FbKept [(0x4000, 6)] s t ∧
    RegsKept [Reg.PMU_EVENTS_SHED] s t ∧ t.eng = s.eng)) ∧
  (∀ (s : State), s.pmuState ≠ 2 → Does .shedStep s (fun t => t = s)) ∧
  (∀ (s : State), ∀ u, s.pmu.leftAt = some u → s.pmuState < 2 → 0 < s.shedLevel → s.pmu.shedAt ≤ u →
    s.fwDown 20 = false → Does .shedUndo s (fun t => t.shedLevel = s.shedLevel - 1 ∧ u + 1000000000 ≤ t.datum ∧
    t.pmu = { s.pmu with shedAt := t.datum } ∧ FbKept [(0x4000, 6)] s t ∧ RegsKept [Reg.PMU_EVENTS_SHED] s t)) ∧
  (∀ (kind : Fin 3) (good : Bool) (s : State), s.updState kind.val = 1 → good = true →
    Does (.stageWriteDone kind good) s (fun t => t.updState kind.val = 2 ∧
    t.fbGet 0x8002 (kind.val + 1) = (parseHeader (s.update kind.val).image).svn ∧ (t.update kind.val).image = [] ∧
    t.bit Reg.PMU_EVENTS_UPDATE = true ∧ FbKept [(0x8001, kind.val + 1), (0x8002, kind.val + 1)] s t ∧
    RegsKept [Reg.PMU_EVENTS_UPDATE] s t)) ∧
  (∀ (kind : Fin 3) (good : Bool) (s : State), s.updState kind.val = 1 → good = false →
    Does (.stageWriteDone kind good) s (fun t => t.updState kind.val = 6 ∧ FbKept [(0x8001, kind.val + 1)] s t ∧
    RegsKept [Reg.PMU_EVENTS_UPDATE] s t)) ∧
  (∀ (kind : Fin 3) (s : State), (s.update kind.val).writing = true →
    Does (.activationWriteDone kind) s (fun t => t.updState kind.val = 5 ∧ (t.update kind.val).writing = false ∧
    (kind.val = 1 → t.runsB 1 = (s.update 1).slotB ∧ t.fbGet 0x60E0 9 = satAdd 32 (s.fbGet 0x60E0 9) 1) ∧
    t.mem = s.mem ∧ RegsKept [Reg.PMU_EVENTS_UPDATE] s t)) ∧
  (∀ (kind : Fin 3) (s : State), (s.update kind.val).writing = false →
    Does (.activationWriteDone kind) s (fun t => t = s)) ∧
  (∀ (s : State), ∀ w, s.fw.switch = some w → Does .fwSwitchReadyTimeout s (fun t => t.fw.switch = none ∧
    t.updState 1 = 6 ∧ t.fbGet 0x60E0 0xA = satAdd 32 (s.fbGet 0x60E0 0xA) 1 ∧ t.nor = s.nor ∧
    w.start + 300000 ≤ t.datum ∧ (∀ n : Fin 23, t.get (Reg.SYS_FWD_STATUS_STATE n.val) ≠ 1) ∧ FbKept [(0x60E0, 0xA),
    (0x8001, 2)] s t)) ∧
  (∀ (s : State), s.fw.switch = none → Does .fwSwitchReadyTimeout s (fun t => t = s))

/-- A system reset clears all but key slots, fuses and flash, a power-on reset the key slots too; sleep keeps DRAM or
nothing; power failure is an emergency (R41, R382, R407, R421, R422, R430, R434, R435, R436). -/
def Obligations.ResetsAndSleep : Prop :=
  (∀ (held : Bool) (s : State), held = true → s.fba.record = none →
    Does (.systemReset held) s (fun t => t.get Reg.SYS_RST_CAUSE_CAUSE = 1 ∧ t.datum = 0 ∧ t.mem = [] ∧ t.fb = [] ∧
    (t.eng = {} ∧ t.trv = {} ∧ t.gfx = {} ∧ t.med = {} ∧ t.mer = {}) ∧ (t.gwy = {} ∧ t.brg = {} ∧ t.fba = {} ∧
    t.fw = {} ∧ t.pmu = {} ∧ t.icnSrc = [] ∧ t.icnTgt = []) ∧ t.worlds = { keys := s.worlds.keys } ∧
    t.get Reg.SAF_STATE_STATE = 0 ∧ t.pins.resetN = false ∧ (t.fuses = s.fuses ∧ t.nor = s.nor ∧ t.jrn = s.jrn ∧
    t.ufs = s.ufs ∧ t.pending = s.pending) ∧ t.boot = {} ∧ t.get Reg.SYS_STRAP_PKG_ID = s.get Reg.SYS_STRAP_PKG_ID)) ∧
  (∀ (held : Bool) (s : State), held = false → s.fba.record = none → s.pins.thermtripN = true →
    Does (.systemReset held) s (fun t => t.get Reg.SYS_RST_CAUSE_CAUSE = 1 ∧ t.pins.resetN = true ∧
    1 ≤ t.boot.stage ∧ t.get Reg.SYS_PLL_STATUS_LOCK = 0xFFF ∧ t.worlds.keys = s.worlds.keys ∧ t.datum = 0)) ∧
  (∀ (who : Agent) (s : State), Passes s who Reg.SYS_RST_CTRL_addr true → s.normal who = false →
    s.fba.record = none → Does (.softwareReset who) s (fun t => t.get Reg.SYS_RST_CAUSE_CAUSE = 2 ∧ t.datum = 0 ∧
    (t.eng = {} ∧ t.trv = {} ∧ t.gfx = {} ∧ t.med = {} ∧ t.fba = {} ∧ t.gwy = {}) ∧ t.worlds.keys = s.worlds.keys ∧
    t.fuses = s.fuses)) ∧
  (∀ (who : Agent) (s : State), Passes s who Reg.SYS_RST_CTRL_addr true → s.normal who = true →
    Does (.softwareReset who) s (fun t => t.resp.status = Code.eAccess ∧ t = { s with resp := t.resp })) ∧
  (∀ (s : State), s.fba.record = none → Does .thermalTrip s (fun t => t.pins.thermtripN = false ∧
    t.get Reg.SYS_RST_CAUSE_CAUSE = 4 ∧ t.boot = {} ∧ t.mem = [] ∧ t.datum = 0 ∧
    t.worlds = { keys := s.worlds.keys } ∧ t.get Reg.SAF_STATE_STATE = 0)) ∧
  (∀ (straps : BitVec 6) (s : State), Does (.powerOnReset straps) s (fun t => t.get Reg.SYS_RST_CAUSE_CAUSE = 0x40 ∧
    t.get Reg.SYS_STRAP_PKG_ID = bitsOf straps.toNat 1 0 ∧ t.get Reg.SYS_STRAP_PCIE_MODE = bitsOf straps.toNat 3 2 ∧
    t.get Reg.SYS_STRAP_RECOVERY = bitsOf straps.toNat 4 4 ∧
    t.get Reg.SYS_STRAP_XSPI_OCTAL = bitsOf straps.toNat 5 5 ∧
    t.bit Reg.SYS_STRAP_ERR = !strapsLegal (bitsOf straps.toNat 1 0) (bitsOf straps.toNat 3 2) ∧ t.worlds.keys = [] ∧
    t.get Reg.SYS_UNIT_MASK_CLUSTER_EN = s.fuses.clusters % 2 ^ Reg.SYS_UNIT_MASK_CLUSTER_EN.width ∧
    t.get Reg.SYS_UNIT_MASK_QUAD_EN = s.fuses.quads % 2 ^ Reg.SYS_UNIT_MASK_QUAD_EN.width ∧
    t.get Reg.SYS_DEVICE_ID_GRADE = s.fuses.grade % 2 ^ Reg.SYS_DEVICE_ID_GRADE.width ∧ t.datum = 0 ∧
    (t.pins.thermtripN = true ∧ t.pins.porN = true ∧ t.pins.resetN = true) ∧ (t.fuses = s.fuses ∧ t.nor = s.nor ∧
    t.jrn = s.jrn ∧ t.ufs = s.ufs) ∧ (t.eng = {} ∧ t.trv = {} ∧ t.gfx = {} ∧ t.med = {} ∧ t.fba = {} ∧ t.gwy = {}))) ∧
  (∀ (s : State), ∀ m, s.pmu.entering = some m → m = 1 → s.pmu.wakeHeld = false → s.fba.record = none →
    Does .sleepEntryDone s (fun t => t.pmu.asleep = some m ∧ t.pmu.entering = none ∧ t.datum = s.datum ∧ t.mem = [] ∧
    t.get Reg.PMU_PD_STATE_PD = 1 ∧ t.worlds.keys = s.worlds.keys)) ∧
  (∀ (s : State), ∀ m, s.pmu.entering = some m → m = 0 → s.pmu.wakeHeld = false → s.fba.record = none →
    Does .sleepEntryDone s (fun t => t.pmu.asleep = some m ∧ t.datum = s.datum ∧
    t.mem = s.mem.filter (fun c => decide (0x1000000000 ≤ c.1)) ∧ t.worlds.keys = s.worlds.keys ∧
    t.get Reg.SAF_STATE_STATE = (if s.get Reg.SAF_STATE_STATE = 3 then 3 else 0) ∧ t.get Reg.PMU_PD_STATE_PD = 3 ∧
    t.get Reg.PMU_LEASE_PD_PD = s.get Reg.PMU_LEASE_PD_PD)) ∧
  (∀ (s : State), s.pmu.asleep = some 1 → Does .wake s (fun t => t.get Reg.SYS_RST_CAUSE_CAUSE = 0x20 ∧
    t.pmu.asleep = none ∧ t.get Reg.SYS_PLL_STATUS_LOCK = 0xFFF ∧ t.datum = s.datum)) ∧
  (∀ (s : State), s.pmu.asleep = none → s.pmu.entering = some 0 →
    Does .wake s (fun t => t = { s with pmu := { s.pmu with wakeHeld := true } })) ∧
  (∀ (s : State), s.pmu.asleep = none → s.pmu.entering = none →
    Does .wake s (fun t => t = { s with pmu := { s.pmu with wakeAt := some s.datum } })) ∧
  (∀ (s : State), s.pins.pwrFailN = true → s.pmuState = 0 → s.shedLevel = 1 →
    s.fba.record.all (fun j => j.begun != s.datum) = true → Does .pwrFail s (fun t => t.pins.pwrFailN = false ∧
    t.pmuState = 2 ∧ t.fbGet 0x60E0 6 = satAdd 32 (s.fbGet 0x60E0 6) 1 ∧ (t.src 699).line = true ∧
    t.fba.queue = s.fba.queue.filter (fun r => !r.writes) ∧ t.fba.record = s.fba.record)) ∧
  (∀ (s : State), s.pins.pwrFailN = true → s.pmuState = 2 → ∀ j, s.fba.record = some j → ∀ r, j.request = some r →
    ∀ mac ip port, r.source = .udp mac ip port → j.begun = s.datum → j.copy = 0 → (s.jCopy 0).failed = false →
    Does .pwrFail s (fun t => t.pins.pwrFailN = false ∧ t.fba.record = none ∧ t.fba.seq = s.fba.seq - 1 ∧
    t.fb = s.fb)) ∧
  (∀ (s : State), s.pins.pwrFailN = false → Does .pwrFail s (fun t => t = s)) ∧
  (∀ (s : State), s.pins.pwrFailN = false → Does .pwrFailReturn s (fun t => t.pins.pwrFailN = true ∧
    (t.src 699).line = false ∧ t.fba.queue = s.fba.queue ∧
    t = { s with pins := t.pins, icnSrc := t.icnSrc, fba := { s.fba with compacting := t.fba.compacting } })) ∧
  (∀ (s : State), s.pins.pwrFailN = true → Does .pwrFailReturn s (fun t => t = s))

/-- Bits 18-22, 28-30, 53, 58 and 59 of SYS_CLK_EN stay 1: a write of 0 to one of them is ignored and reports E_STATE
(R428). -/
def Obligations.FixedClockBits : Prop :=
  (∀ (who : Agent) (value : BitVec 60) (s : State), Passes s who Reg.SYS_CLK_EN_addr true → s.normal who = false →
    Does (.clockEnableWrite who value) s (fun t => [18, 19, 20, 21, 22, 28, 29, 30, 53, 58,
    59].all (fun i => bitOf (t.get Reg.SYS_CLK_EN_EN) i) = true ∧ ([18, 19, 20, 21, 22, 28, 29, 30, 53, 58,
    59].any (fun i => !bitOf value.toNat i) = true → t.resp.status = Code.eState) ∧ (∀ i : Fin 60, i.val ∉ [18, 19,
    20, 21, 22, 28, 29, 30, 53, 58, 59] → bitOf (t.get Reg.SYS_CLK_EN_EN) i.val = bitOf value.toNat i.val) ∧
    OnlyRegs [Reg.SYS_CLK_EN_EN] [] s t)) ∧
  (∀ (who : Agent) (value : BitVec 60) (s : State), Passes s who Reg.SYS_CLK_EN_addr true →
    (value.toNat ^^^ s.get Reg.SYS_CLK_EN_EN) &&& s.get Reg.PMU_LEASE_CLK_CLK = 0 →
    Does (.clockEnableWrite who value) s (fun t => [18, 19, 20, 21, 22, 28, 29, 30, 53, 58,
    59].all (fun i => bitOf (t.get Reg.SYS_CLK_EN_EN) i) = true ∧ ([18, 19, 20, 21, 22, 28, 29, 30, 53, 58,
    59].any (fun i => !bitOf value.toNat i) = true → t.resp.status = Code.eState) ∧
    OnlyRegs [Reg.SYS_CLK_EN_EN] [] s t)) ∧
  (∀ (who : Agent) (value : BitVec 60) (s : State), Passes s who Reg.SYS_CLK_EN_addr true → s.normal who = true →
    s.get Reg.SYS_CLK_EN_EN &&& fixedClocks = fixedClocks → s.get Reg.SYS_CLK_EN_EN < 2 ^ 60 →
    s.get Reg.PMU_LEASE_CLK_CLK < 2 ^ 60 →
    (value.toNat ^^^ s.get Reg.SYS_CLK_EN_EN) &&& s.get Reg.PMU_LEASE_CLK_CLK ≠ 0 →
    Does (.clockEnableWrite who value) s (fun t => t.resp.status = Code.eLeased ∧
    t.get Reg.SYS_CLK_EN_EN &&& s.get Reg.PMU_LEASE_CLK_CLK = s.get Reg.SYS_CLK_EN_EN &&& s.get Reg.PMU_LEASE_CLK_CLK ∧
    t.fbGet 0x60A0 6 = satAdd 32 (s.fbGet 0x60A0 6) 1))

/-- PLL faults: safe state, reset or work ended; a debug token unlocks or is refused, three refusals lock out; EXTEST,
CLAMP and HIGHZ need RESET_N low (R187, R204, R428, R429, R441, R442). -/
def Obligations.ClockFaultsDebugAndTap : Prop :=
  (∀ (pll : Fin 13) (s : State), pll.val = 12 → s.get Reg.SAF_STATE_STATE = 1 →
    Does (.pllLoss pll) s (fun t => t.get Reg.SAF_STATE_STATE = 3 ∧ t.get Reg.SAF_STATE_CAUSE = Code.eMonitor ∧
    t.fbGet 0x60F0 1 = satAdd 32 (s.fbGet 0x60F0 1) 1 ∧
    t.get Reg.SYS_PLL_STATUS_LOSS = s.get Reg.SYS_PLL_STATUS_LOSS)) ∧
  (∀ (pll : Fin 13) (s : State), pll.val = 11 → s.get Reg.SAF_STATE_STATE = 1 →
    Does (.pllLoss pll) s (fun t => t.get Reg.SAF_STATE_STATE = 3 ∧ t.get Reg.SAF_STATE_CAUSE = Code.eMonitor ∧
    bitOf (t.get Reg.SYS_PLL_STATUS_LOSS) 11 = true ∧ bitOf (t.get Reg.SYS_PLL_STATUS_LOCK) 11 = false)) ∧
  (∀ (pll : Fin 13) (s : State), 2 ≤ pll.val → pll.val ≤ 5 → s.fba.record = none → s.pins.thermtripN = false →
    Does (.pllLoss pll) s (fun t => t.get Reg.SYS_RST_CAUSE_CAUSE = 8 ∧ t.datum = 0 ∧ t.mem = [] ∧
    t.worlds.keys = s.worlds.keys)) ∧
  (∀ (pll : Fin 13) (s : State), pll.val = 6 ∨ pll.val = 9 → s.openWindows = [] →
    Does (.pllLoss pll) s (fun t => bitOf (t.get Reg.SYS_PLL_STATUS_LOSS) pll.val = true ∧
    bitOf (t.get Reg.SYS_PLL_STATUS_LOCK) pll.val = false ∧ bitOf t.pmu.pllLost pll.val = true ∧
    t.fbGet 0x60F0 1 = satAdd 32 (s.fbGet 0x60F0 1) 1 ∧ OnlyRegs [Reg.SYS_PLL_STATUS_LOSS,
    Reg.SYS_PLL_STATUS_LOCK] [(0x60F0, 1)] { s with pmu := t.pmu } t)) ∧
  (∀ (pll : Fin 12) (s : State),
    Does (.pllRelock pll) s (fun t => bitOf (t.get Reg.SYS_PLL_STATUS_LOCK) pll.val = true ∧
    bitOf t.pmu.pllLost pll.val = false ∧ OnlyRegs [Reg.SYS_PLL_STATUS_LOCK] [] { s with pmu := t.pmu } t)) ∧
  (∀ (s : State), Does .debugChallengeRead s (fun t => (t.dbg.challenge.map (·.length)) = some 32 ∧
    t.dbg.refusals = s.dbg.refusals ∧ t.out = (s.emit (.debugChallenge (t.dbg.challenge.getD []))).out ∧
    t = { s with dbg := t.dbg, out := t.out, freeCtr := t.freeCtr })) ∧
  (∀ (token : List Byte) (s : State), let x := token.map BitVec.toNat; s.tokenGood x = true → natAt x 0 = 1 →
    bitOf (leValue (slice x 8 8)) s.saf.partition = false →
    Does (.debugToken token) s (fun t => t.get Reg.SYS_DBG_STATUS_LEVEL = 1 ∧
    t.get Reg.SYS_DBG_STATUS_LAST = Code.ok ∧
    t.dbg = { s.dbg with parts := leValue (slice x 8 8), challenge := none } ∧
    t.fbGet 0x60F0 2 = satAdd 32 (s.fbGet 0x60F0 2) 1 ∧
    t = { s with regs := t.regs, fb := t.fb, dbg := t.dbg, icnSrc := t.icnSrc })) ∧
  (∀ (token : List Byte) (s : State), let x := token.map BitVec.toNat; s.tokenGood x = true →
    natAt x 0 = 2 ∨ bitOf (leValue (slice x 8 8)) s.saf.partition = true → s.get Reg.SAF_STATE_STATE ≠ 0 →
    s.get Reg.SAF_STATE_STATE ≠ 3 → s.dbg.refusals < 2 →
    Does (.debugToken token) s (fun t => t.get Reg.SYS_DBG_STATUS_LAST = Code.eState ∧
    t.get Reg.SYS_DBG_STATUS_LEVEL = s.get Reg.SYS_DBG_STATUS_LEVEL ∧
    t.fbGet 0x60F0 3 = satAdd 32 (s.fbGet 0x60F0 3) 1 ∧ t.dbg.refusals = s.dbg.refusals + 1 ∧
    t.bit Reg.SYS_DBG_STATUS_LOCKED_OUT = s.bit Reg.SYS_DBG_STATUS_LOCKED_OUT)) ∧
  (∀ (token : List Byte) (s : State), s.tokenGood (token.map BitVec.toNat) = false → 2 ≤ s.dbg.refusals →
    Does (.debugToken token) s (fun t => t.bit Reg.SYS_DBG_STATUS_LOCKED_OUT = true ∧
    t.get Reg.SYS_DBG_STATUS_LEVEL = s.get Reg.SYS_DBG_STATUS_LEVEL ∧
    t.fbGet 0x60F0 3 = satAdd 32 (s.fbGet 0x60F0 3) 1 ∧ RegsKept [Reg.SYS_DBG_STATUS_LAST,
    Reg.SYS_DBG_STATUS_LOCKED_OUT] s t)) ∧
  (∀ (s : State), Does .bypass s (fun t => t = { s with jtag := { s.jtag with instr := .bypass } })) ∧
  (∀ (s : State), Does .idcode s (fun t => t.jtag = { s.jtag with instr := .idcode } ∧
    t.out = (s.emit (.idcode (2 ^ 28 * s.get Reg.SYS_DEVICE_ID_STEP_MINOR + 2 ^ 12 * 0x9880 + 2 * (Config.jep106 % 2048) + 1))).out ∧
    t = { s with jtag := t.jtag, out := t.out })) ∧
  (∀ (cells : List Bool) (s : State),
    Does (.samplePreload cells) s (fun t => t = { s with jtag := { instr := .samplePreload, cells := cells } })) ∧
  (∀ (s : State), s.pins.resetN = false →
    Does .extest s (fun t => t = { s with jtag := { s.jtag with instr := .extest } })) ∧
  (∀ (s : State), s.pins.resetN = true →
    Does .extest s (fun t => t = { s with jtag := { s.jtag with instr := .bypass } })) ∧
  (∀ (s : State), s.pins.resetN = false →
    Does .clamp s (fun t => t = { s with jtag := { s.jtag with instr := .clamp } })) ∧
  (∀ (s : State), s.pins.resetN = true →
    Does .clamp s (fun t => t = { s with jtag := { s.jtag with instr := .bypass } })) ∧
  (∀ (s : State), s.pins.resetN = false →
    Does .highz s (fun t => t = { s with jtag := { s.jtag with instr := .highz } })) ∧
  (∀ (s : State), s.pins.resetN = true →
    Does .highz s (fun t => t = { s with jtag := { s.jtag with instr := .bypass } }))
end

