-- ==== Sys2Proof/Laws/KMap.lean ====
section
/-! SUPPORT. Laws of sparse data by key: reading after an update, and the canonical form that every update keeps. -/

namespace Sys2Proof.Machine

variable {α : Type}

theorem KMap.find_ins_same (k : Nat) (v : α) (m : KMap α) (h : KMap.find m k = none) :
    KMap.find (KMap.ins k v m) k = some v := by
  induction m with
  | nil => simp [KMap.ins, KMap.find]
  | cons p m ih =>
    obtain ⟨k', v'⟩ := p
    simp only [KMap.find] at h
    split at h
    · cases h
    · rename_i hk
      simp only [KMap.ins]
      split
      · simp [KMap.find]
      · simp [KMap.find, hk, ih h]

theorem KMap.find_ins_other (k k' : Nat) (v : α) (m : KMap α) (h : k' ≠ k) :
    KMap.find (KMap.ins k v m) k' = KMap.find m k' := by
  induction m with
  | nil => simp [KMap.ins, KMap.find, h.symm]
  | cons p m ih =>
    obtain ⟨k2, v2⟩ := p
    simp only [KMap.ins]
    split
    · simp [KMap.find, h.symm]
    · simp [KMap.find, ih]

theorem KMap.del_cons (p : Nat × α) (m : KMap α) (k : Nat) :
    KMap.del (p :: m) k = if p.1 = k then KMap.del m k else p :: KMap.del m k := by
  unfold KMap.del
  rw [List.filter_cons]
  by_cases h : p.1 = k <;> simp [h]

theorem KMap.find_del_same (m : KMap α) (k : Nat) : KMap.find (KMap.del m k) k = none := by
  induction m with
  | nil => rfl
  | cons p m ih =>
    rw [KMap.del_cons]
    split
    · exact ih
    · rename_i h
      simp [KMap.find, h, ih]

theorem KMap.find_del_other (m : KMap α) (k k' : Nat) (h : k' ≠ k) :
    KMap.find (KMap.del m k) k' = KMap.find m k' := by
  induction m with
  | nil => rfl
  | cons p m ih =>
    rw [KMap.del_cons]
    split
    · rename_i hk
      simp [KMap.find, hk, h.symm, ih]
    · simp [KMap.find, ih]

@[simp] theorem KMap.find_put_same (m : KMap α) (k : Nat) (v : α) : KMap.find (KMap.put m k v) k = some v :=
  KMap.find_ins_same _ _ _ (KMap.find_del_same _ _)

theorem KMap.find_put_other (m : KMap α) (k k' : Nat) (v : α) (h : k' ≠ k) :
    KMap.find (KMap.put m k v) k' = KMap.find m k' := by
  rw [KMap.put, KMap.find_ins_other _ _ _ _ h, KMap.find_del_other _ _ _ h]

@[simp] theorem KMap.getD_put_same (m : KMap α) (k : Nat) (v d : α) : KMap.getD (KMap.put m k v) k d = v := by
  simp [KMap.getD]

theorem KMap.getD_put_other (m : KMap α) (k k' : Nat) (v d : α) (h : k' ≠ k) :
    KMap.getD (KMap.put m k v) k' d = KMap.getD m k' d := by
  simp [KMap.getD, KMap.find_put_other _ _ _ _ h]

@[simp] theorem KMap.getD_set_same [DecidableEq α] (d : α) (m : KMap α) (k : Nat) (v : α) :
    KMap.getD (KMap.set d m k v) k d = v := by
  unfold KMap.set
  split
  · rename_i h; simp [KMap.getD, KMap.find_del_same, h]
  · simp

theorem KMap.getD_set_other [DecidableEq α] (d e : α) (m : KMap α) (k k' : Nat) (v : α) (h : k' ≠ k) :
    KMap.getD (KMap.set d m k v) k' e = KMap.getD m k' e := by
  unfold KMap.set
  split
  · simp [KMap.getD, KMap.find_del_other _ _ _ h]
  · exact KMap.getD_put_other _ _ _ _ _ h

/-! ## The canonical form -/

theorem KMap.rising_iff (m : KMap α) : KMap.rising m = true ↔ List.Pairwise (fun p q : Nat × α => p.1 < q.1) m := by
  induction m with
  | nil => simp [KMap.rising]
  | cons p m ih =>
    cases m with
    | nil => simp [KMap.rising]
    | cons q m =>
      obtain ⟨k, v⟩ := p
      obtain ⟨k', v'⟩ := q
      simp only [KMap.rising, Bool.and_eq_true, decide_eq_true_eq, ih, List.pairwise_cons, List.mem_cons,
        forall_eq_or_imp]
      constructor
      · rintro ⟨h, h1, h2⟩
        exact ⟨⟨h, fun x hx => Nat.lt_trans h (h1 x hx)⟩, h1, h2⟩
      · rintro ⟨⟨h, -⟩, h2⟩
        exact ⟨h, h2⟩

/-- Removing entries keeps the keys rising. -/
theorem KMap.rising_filter (m : KMap α) (p : Nat × α → Bool) (h : KMap.rising m = true) :
    KMap.rising (m.filter p) = true := by
  rw [KMap.rising_iff] at *
  exact h.filter p

theorem KMap.mem_ins (k : Nat) (v : α) (m : KMap α) (q : Nat × α) (h : q ∈ KMap.ins k v m) : q = (k, v) ∨ q ∈ m := by
  induction m with
  | nil => simpa [KMap.ins] using h
  | cons p m ih =>
    obtain ⟨k', v'⟩ := p
    simp only [KMap.ins] at h
    split at h
    · simpa using h
    · rcases List.mem_cons.1 h with h | h
      · exact .inr (by simp [h])
      · rcases ih h with h | h
        · exact .inl h
        · exact .inr (by simp [h])

theorem KMap.rising_ins (k : Nat) (v : α) (m : KMap α) (h : KMap.rising m = true) (hk : ∀ q ∈ m, q.1 ≠ k) :
    KMap.rising (KMap.ins k v m) = true := by
  rw [KMap.rising_iff] at *
  induction m with
  | nil => simp [KMap.ins]
  | cons p m ih =>
    obtain ⟨k', v'⟩ := p
    rw [List.pairwise_cons] at h
    simp only [KMap.ins]
    split
    · rename_i hlt
      rw [List.pairwise_cons, List.pairwise_cons]
      refine ⟨fun x hx => ?_, h⟩
      rcases List.mem_cons.1 hx with rfl | hx
      · exact hlt
      · exact Nat.lt_trans hlt (h.1 x hx)
    · rename_i hge
      rw [List.pairwise_cons]
      refine ⟨fun x hx => ?_, ih h.2 (fun q hq => hk q (by simp [hq]))⟩
      have hne := hk (k', v') (by simp)
      rcases KMap.mem_ins _ _ _ _ hx with rfl | hx
      · simp only at *; omega
      · exact h.1 x hx

/-- Removing entries keeps the canonical form. -/
theorem KMap.canon_filter [DecidableEq α] (d : Nat → α) (m : KMap α) (p : Nat × α → Bool) (h : KMap.canon d m = true) :
    KMap.canon d (m.filter p) = true := by
  simp only [KMap.canon, Bool.and_eq_true, List.all_eq_true] at *
  exact ⟨KMap.rising_filter m p h.1, fun x hx => h.2 x (List.mem_of_mem_filter hx)⟩

/-- Setting a key keeps the canonical form. -/
theorem KMap.canon_set [DecidableEq α] (d : α) (m : KMap α) (k : Nat) (v : α) (h : KMap.canon (fun _ => d) m = true) :
    KMap.canon (fun _ => d) (KMap.set d m k v) = true := by
  have hd : KMap.canon (fun _ => d) (KMap.del m k) = true := KMap.canon_filter _ _ _ h
  unfold KMap.set
  split
  · exact hd
  · rename_i hv
    simp only [KMap.canon, Bool.and_eq_true, List.all_eq_true, decide_eq_true_eq] at *
    refine ⟨KMap.rising_ins _ _ _ hd.1 (fun q hq => ?_), fun x hx => ?_⟩
    · have := (List.mem_filter.1 hq).2
      simpa using this
    · rcases KMap.mem_ins _ _ _ _ hx with rfl | hx
      · exact hv
      · exact hd.2 x hx

end Sys2Proof.Machine
end

