-- ==== Sys2Proof/Laws/State.lean ====
section
/-! SUPPORT. For each named update of the state, one lemma per field of State that it leaves as it was, so that no proof
unfolds a record update. -/

namespace Sys2Proof.Machine

/-! ## set -/

@[simp] theorem State.set_pending (s : State) (f : Field) (v : Nat) : (s.set f v).pending = s.pending := rfl
@[simp] theorem State.set_freeCtr (s : State) (f : Field) (v : Nat) : (s.set f v).freeCtr = s.freeCtr := rfl
@[simp] theorem State.set_datum (s : State) (f : Field) (v : Nat) : (s.set f v).datum = s.datum := rfl
@[simp] theorem State.set_datumFrac (s : State) (f : Field) (v : Nat) : (s.set f v).datumFrac = s.datumFrac := rfl
@[simp] theorem State.set_stepSeq (s : State) (f : Field) (v : Nat) : (s.set f v).stepSeq = s.stepSeq := rfl
@[simp] theorem State.set_fb (s : State) (f : Field) (v : Nat) : (s.set f v).fb = s.fb := rfl
@[simp] theorem State.set_mem (s : State) (f : Field) (v : Nat) : (s.set f v).mem = s.mem := rfl
@[simp] theorem State.set_latch (s : State) (f : Field) (v : Nat) : (s.set f v).latch = s.latch := rfl
@[simp] theorem State.set_held (s : State) (f : Field) (v : Nat) : (s.set f v).held = s.held := rfl
@[simp] theorem State.set_resp (s : State) (f : Field) (v : Nat) : (s.set f v).resp = s.resp := rfl
@[simp] theorem State.set_out (s : State) (f : Field) (v : Nat) : (s.set f v).out = s.out := rfl
@[simp] theorem State.set_icnSrc (s : State) (f : Field) (v : Nat) : (s.set f v).icnSrc = s.icnSrc := rfl
@[simp] theorem State.set_icnTgt (s : State) (f : Field) (v : Nat) : (s.set f v).icnTgt = s.icnTgt := rfl
@[simp] theorem State.set_worlds (s : State) (f : Field) (v : Nat) : (s.set f v).worlds = s.worlds := rfl
@[simp] theorem State.set_pins (s : State) (f : Field) (v : Nat) : (s.set f v).pins = s.pins := rfl
@[simp] theorem State.set_fuses (s : State) (f : Field) (v : Nat) : (s.set f v).fuses = s.fuses := rfl
@[simp] theorem State.set_nor (s : State) (f : Field) (v : Nat) : (s.set f v).nor = s.nor := rfl
@[simp] theorem State.set_eng (s : State) (f : Field) (v : Nat) : (s.set f v).eng = s.eng := rfl
@[simp] theorem State.set_saf (s : State) (f : Field) (v : Nat) : (s.set f v).saf = s.saf := rfl
@[simp] theorem State.set_pmu (s : State) (f : Field) (v : Nat) : (s.set f v).pmu = s.pmu := rfl
@[simp] theorem State.set_fw (s : State) (f : Field) (v : Nat) : (s.set f v).fw = s.fw := rfl
@[simp] theorem State.set_opPools (s : State) (f : Field) (v : Nat) : (s.set f v).opPools = s.opPools := rfl
@[simp] theorem State.set_cache (s : State) (f : Field) (v : Nat) : (s.set f v).cache = s.cache := rfl
@[simp] theorem State.set_dramGiB (s : State) (f : Field) (v : Nat) : (s.set f v).dramGiB = s.dramGiB := rfl
@[simp] theorem State.set_eccPlan (s : State) (f : Field) (v : Nat) : (s.set f v).eccPlan = s.eccPlan := rfl
@[simp] theorem State.set_servo (s : State) (f : Field) (v : Nat) : (s.set f v).servo = s.servo := rfl
@[simp] theorem State.set_mer (s : State) (f : Field) (v : Nat) : (s.set f v).mer = s.mer := rfl
@[simp] theorem State.set_timeIn (s : State) (f : Field) (v : Nat) : (s.set f v).timeIn = s.timeIn := rfl
@[simp] theorem State.set_trv (s : State) (f : Field) (v : Nat) : (s.set f v).trv = s.trv := rfl
@[simp] theorem State.set_gfx (s : State) (f : Field) (v : Nat) : (s.set f v).gfx = s.gfx := rfl
@[simp] theorem State.set_med (s : State) (f : Field) (v : Nat) : (s.set f v).med = s.med := rfl
@[simp] theorem State.set_gwy (s : State) (f : Field) (v : Nat) : (s.set f v).gwy = s.gwy := rfl
@[simp] theorem State.set_brg (s : State) (f : Field) (v : Nat) : (s.set f v).brg = s.brg := rfl
@[simp] theorem State.set_fba (s : State) (f : Field) (v : Nat) : (s.set f v).fba = s.fba := rfl
@[simp] theorem State.set_jrn (s : State) (f : Field) (v : Nat) : (s.set f v).jrn = s.jrn := rfl
@[simp] theorem State.set_ufs (s : State) (f : Field) (v : Nat) : (s.set f v).ufs = s.ufs := rfl
@[simp] theorem State.set_boot (s : State) (f : Field) (v : Nat) : (s.set f v).boot = s.boot := rfl
@[simp] theorem State.set_dbg (s : State) (f : Field) (v : Nat) : (s.set f v).dbg = s.dbg := rfl
@[simp] theorem State.set_jtag (s : State) (f : Field) (v : Nat) : (s.set f v).jtag = s.jtag := rfl
@[simp] theorem State.set_unpub (s : State) (f : Field) (v : Nat) : (s.set f v).unpub = s.unpub := rfl
@[simp] theorem State.set_fbGet (s : State) (f : Field) (v : Nat) (ix sub : Nat) : (s.set f v).fbGet ix sub = s.fbGet ix sub := by simp [State.fbGet]

/-! ## setBit -/

@[simp] theorem State.setBit_pending (s : State) (f : Field) (b : Bool) : (s.setBit f b).pending = s.pending := rfl
@[simp] theorem State.setBit_freeCtr (s : State) (f : Field) (b : Bool) : (s.setBit f b).freeCtr = s.freeCtr := rfl
@[simp] theorem State.setBit_datum (s : State) (f : Field) (b : Bool) : (s.setBit f b).datum = s.datum := rfl
@[simp] theorem State.setBit_datumFrac (s : State) (f : Field) (b : Bool) : (s.setBit f b).datumFrac = s.datumFrac := rfl
@[simp] theorem State.setBit_stepSeq (s : State) (f : Field) (b : Bool) : (s.setBit f b).stepSeq = s.stepSeq := rfl
@[simp] theorem State.setBit_fb (s : State) (f : Field) (b : Bool) : (s.setBit f b).fb = s.fb := rfl
@[simp] theorem State.setBit_mem (s : State) (f : Field) (b : Bool) : (s.setBit f b).mem = s.mem := rfl
@[simp] theorem State.setBit_latch (s : State) (f : Field) (b : Bool) : (s.setBit f b).latch = s.latch := rfl
@[simp] theorem State.setBit_held (s : State) (f : Field) (b : Bool) : (s.setBit f b).held = s.held := rfl
@[simp] theorem State.setBit_resp (s : State) (f : Field) (b : Bool) : (s.setBit f b).resp = s.resp := rfl
@[simp] theorem State.setBit_out (s : State) (f : Field) (b : Bool) : (s.setBit f b).out = s.out := rfl
@[simp] theorem State.setBit_icnSrc (s : State) (f : Field) (b : Bool) : (s.setBit f b).icnSrc = s.icnSrc := rfl
@[simp] theorem State.setBit_icnTgt (s : State) (f : Field) (b : Bool) : (s.setBit f b).icnTgt = s.icnTgt := rfl
@[simp] theorem State.setBit_worlds (s : State) (f : Field) (b : Bool) : (s.setBit f b).worlds = s.worlds := rfl
@[simp] theorem State.setBit_pins (s : State) (f : Field) (b : Bool) : (s.setBit f b).pins = s.pins := rfl
@[simp] theorem State.setBit_fuses (s : State) (f : Field) (b : Bool) : (s.setBit f b).fuses = s.fuses := rfl
@[simp] theorem State.setBit_nor (s : State) (f : Field) (b : Bool) : (s.setBit f b).nor = s.nor := rfl
@[simp] theorem State.setBit_eng (s : State) (f : Field) (b : Bool) : (s.setBit f b).eng = s.eng := rfl
@[simp] theorem State.setBit_saf (s : State) (f : Field) (b : Bool) : (s.setBit f b).saf = s.saf := rfl
@[simp] theorem State.setBit_pmu (s : State) (f : Field) (b : Bool) : (s.setBit f b).pmu = s.pmu := rfl
@[simp] theorem State.setBit_fw (s : State) (f : Field) (b : Bool) : (s.setBit f b).fw = s.fw := rfl
@[simp] theorem State.setBit_opPools (s : State) (f : Field) (b : Bool) : (s.setBit f b).opPools = s.opPools := rfl
@[simp] theorem State.setBit_cache (s : State) (f : Field) (b : Bool) : (s.setBit f b).cache = s.cache := rfl
@[simp] theorem State.setBit_dramGiB (s : State) (f : Field) (b : Bool) : (s.setBit f b).dramGiB = s.dramGiB := rfl
@[simp] theorem State.setBit_eccPlan (s : State) (f : Field) (b : Bool) : (s.setBit f b).eccPlan = s.eccPlan := rfl
@[simp] theorem State.setBit_servo (s : State) (f : Field) (b : Bool) : (s.setBit f b).servo = s.servo := rfl
@[simp] theorem State.setBit_mer (s : State) (f : Field) (b : Bool) : (s.setBit f b).mer = s.mer := rfl
@[simp] theorem State.setBit_timeIn (s : State) (f : Field) (b : Bool) : (s.setBit f b).timeIn = s.timeIn := rfl
@[simp] theorem State.setBit_trv (s : State) (f : Field) (b : Bool) : (s.setBit f b).trv = s.trv := rfl
@[simp] theorem State.setBit_gfx (s : State) (f : Field) (b : Bool) : (s.setBit f b).gfx = s.gfx := rfl
@[simp] theorem State.setBit_med (s : State) (f : Field) (b : Bool) : (s.setBit f b).med = s.med := rfl
@[simp] theorem State.setBit_gwy (s : State) (f : Field) (b : Bool) : (s.setBit f b).gwy = s.gwy := rfl
@[simp] theorem State.setBit_brg (s : State) (f : Field) (b : Bool) : (s.setBit f b).brg = s.brg := rfl
@[simp] theorem State.setBit_fba (s : State) (f : Field) (b : Bool) : (s.setBit f b).fba = s.fba := rfl
@[simp] theorem State.setBit_jrn (s : State) (f : Field) (b : Bool) : (s.setBit f b).jrn = s.jrn := rfl
@[simp] theorem State.setBit_ufs (s : State) (f : Field) (b : Bool) : (s.setBit f b).ufs = s.ufs := rfl
@[simp] theorem State.setBit_boot (s : State) (f : Field) (b : Bool) : (s.setBit f b).boot = s.boot := rfl
@[simp] theorem State.setBit_dbg (s : State) (f : Field) (b : Bool) : (s.setBit f b).dbg = s.dbg := rfl
@[simp] theorem State.setBit_jtag (s : State) (f : Field) (b : Bool) : (s.setBit f b).jtag = s.jtag := rfl
@[simp] theorem State.setBit_unpub (s : State) (f : Field) (b : Bool) : (s.setBit f b).unpub = s.unpub := rfl
@[simp] theorem State.setBit_fbGet (s : State) (f : Field) (b : Bool) (ix sub : Nat) : (s.setBit f b).fbGet ix sub = s.fbGet ix sub := by simp [State.fbGet]

/-! ## inc -/

@[simp] theorem State.inc_pending (s : State) (f : Field) : (s.inc f).pending = s.pending := rfl
@[simp] theorem State.inc_freeCtr (s : State) (f : Field) : (s.inc f).freeCtr = s.freeCtr := rfl
@[simp] theorem State.inc_datum (s : State) (f : Field) : (s.inc f).datum = s.datum := rfl
@[simp] theorem State.inc_datumFrac (s : State) (f : Field) : (s.inc f).datumFrac = s.datumFrac := rfl
@[simp] theorem State.inc_stepSeq (s : State) (f : Field) : (s.inc f).stepSeq = s.stepSeq := rfl
@[simp] theorem State.inc_fb (s : State) (f : Field) : (s.inc f).fb = s.fb := rfl
@[simp] theorem State.inc_mem (s : State) (f : Field) : (s.inc f).mem = s.mem := rfl
@[simp] theorem State.inc_latch (s : State) (f : Field) : (s.inc f).latch = s.latch := rfl
@[simp] theorem State.inc_held (s : State) (f : Field) : (s.inc f).held = s.held := rfl
@[simp] theorem State.inc_resp (s : State) (f : Field) : (s.inc f).resp = s.resp := rfl
@[simp] theorem State.inc_out (s : State) (f : Field) : (s.inc f).out = s.out := rfl
@[simp] theorem State.inc_icnSrc (s : State) (f : Field) : (s.inc f).icnSrc = s.icnSrc := rfl
@[simp] theorem State.inc_icnTgt (s : State) (f : Field) : (s.inc f).icnTgt = s.icnTgt := rfl
@[simp] theorem State.inc_worlds (s : State) (f : Field) : (s.inc f).worlds = s.worlds := rfl
@[simp] theorem State.inc_pins (s : State) (f : Field) : (s.inc f).pins = s.pins := rfl
@[simp] theorem State.inc_fuses (s : State) (f : Field) : (s.inc f).fuses = s.fuses := rfl
@[simp] theorem State.inc_nor (s : State) (f : Field) : (s.inc f).nor = s.nor := rfl
@[simp] theorem State.inc_eng (s : State) (f : Field) : (s.inc f).eng = s.eng := rfl
@[simp] theorem State.inc_saf (s : State) (f : Field) : (s.inc f).saf = s.saf := rfl
@[simp] theorem State.inc_pmu (s : State) (f : Field) : (s.inc f).pmu = s.pmu := rfl
@[simp] theorem State.inc_fw (s : State) (f : Field) : (s.inc f).fw = s.fw := rfl
@[simp] theorem State.inc_opPools (s : State) (f : Field) : (s.inc f).opPools = s.opPools := rfl
@[simp] theorem State.inc_cache (s : State) (f : Field) : (s.inc f).cache = s.cache := rfl
@[simp] theorem State.inc_dramGiB (s : State) (f : Field) : (s.inc f).dramGiB = s.dramGiB := rfl
@[simp] theorem State.inc_eccPlan (s : State) (f : Field) : (s.inc f).eccPlan = s.eccPlan := rfl
@[simp] theorem State.inc_servo (s : State) (f : Field) : (s.inc f).servo = s.servo := rfl
@[simp] theorem State.inc_mer (s : State) (f : Field) : (s.inc f).mer = s.mer := rfl
@[simp] theorem State.inc_timeIn (s : State) (f : Field) : (s.inc f).timeIn = s.timeIn := rfl
@[simp] theorem State.inc_trv (s : State) (f : Field) : (s.inc f).trv = s.trv := rfl
@[simp] theorem State.inc_gfx (s : State) (f : Field) : (s.inc f).gfx = s.gfx := rfl
@[simp] theorem State.inc_med (s : State) (f : Field) : (s.inc f).med = s.med := rfl
@[simp] theorem State.inc_gwy (s : State) (f : Field) : (s.inc f).gwy = s.gwy := rfl
@[simp] theorem State.inc_brg (s : State) (f : Field) : (s.inc f).brg = s.brg := rfl
@[simp] theorem State.inc_fba (s : State) (f : Field) : (s.inc f).fba = s.fba := rfl
@[simp] theorem State.inc_jrn (s : State) (f : Field) : (s.inc f).jrn = s.jrn := rfl
@[simp] theorem State.inc_ufs (s : State) (f : Field) : (s.inc f).ufs = s.ufs := rfl
@[simp] theorem State.inc_boot (s : State) (f : Field) : (s.inc f).boot = s.boot := rfl
@[simp] theorem State.inc_dbg (s : State) (f : Field) : (s.inc f).dbg = s.dbg := rfl
@[simp] theorem State.inc_jtag (s : State) (f : Field) : (s.inc f).jtag = s.jtag := rfl
@[simp] theorem State.inc_unpub (s : State) (f : Field) : (s.inc f).unpub = s.unpub := rfl
@[simp] theorem State.inc_fbGet (s : State) (f : Field) (ix sub : Nat) : (s.inc f).fbGet ix sub = s.fbGet ix sub := by simp [State.fbGet]

/-! ## wrapInc -/

@[simp] theorem State.wrapInc_pending (s : State) (f : Field) : (s.wrapInc f).pending = s.pending := rfl
@[simp] theorem State.wrapInc_freeCtr (s : State) (f : Field) : (s.wrapInc f).freeCtr = s.freeCtr := rfl
@[simp] theorem State.wrapInc_datum (s : State) (f : Field) : (s.wrapInc f).datum = s.datum := rfl
@[simp] theorem State.wrapInc_datumFrac (s : State) (f : Field) : (s.wrapInc f).datumFrac = s.datumFrac := rfl
@[simp] theorem State.wrapInc_stepSeq (s : State) (f : Field) : (s.wrapInc f).stepSeq = s.stepSeq := rfl
@[simp] theorem State.wrapInc_fb (s : State) (f : Field) : (s.wrapInc f).fb = s.fb := rfl
@[simp] theorem State.wrapInc_mem (s : State) (f : Field) : (s.wrapInc f).mem = s.mem := rfl
@[simp] theorem State.wrapInc_latch (s : State) (f : Field) : (s.wrapInc f).latch = s.latch := rfl
@[simp] theorem State.wrapInc_held (s : State) (f : Field) : (s.wrapInc f).held = s.held := rfl
@[simp] theorem State.wrapInc_resp (s : State) (f : Field) : (s.wrapInc f).resp = s.resp := rfl
@[simp] theorem State.wrapInc_out (s : State) (f : Field) : (s.wrapInc f).out = s.out := rfl
@[simp] theorem State.wrapInc_icnSrc (s : State) (f : Field) : (s.wrapInc f).icnSrc = s.icnSrc := rfl
@[simp] theorem State.wrapInc_icnTgt (s : State) (f : Field) : (s.wrapInc f).icnTgt = s.icnTgt := rfl
@[simp] theorem State.wrapInc_worlds (s : State) (f : Field) : (s.wrapInc f).worlds = s.worlds := rfl
@[simp] theorem State.wrapInc_pins (s : State) (f : Field) : (s.wrapInc f).pins = s.pins := rfl
@[simp] theorem State.wrapInc_fuses (s : State) (f : Field) : (s.wrapInc f).fuses = s.fuses := rfl
@[simp] theorem State.wrapInc_nor (s : State) (f : Field) : (s.wrapInc f).nor = s.nor := rfl
@[simp] theorem State.wrapInc_eng (s : State) (f : Field) : (s.wrapInc f).eng = s.eng := rfl
@[simp] theorem State.wrapInc_saf (s : State) (f : Field) : (s.wrapInc f).saf = s.saf := rfl
@[simp] theorem State.wrapInc_pmu (s : State) (f : Field) : (s.wrapInc f).pmu = s.pmu := rfl
@[simp] theorem State.wrapInc_fw (s : State) (f : Field) : (s.wrapInc f).fw = s.fw := rfl
@[simp] theorem State.wrapInc_opPools (s : State) (f : Field) : (s.wrapInc f).opPools = s.opPools := rfl
@[simp] theorem State.wrapInc_cache (s : State) (f : Field) : (s.wrapInc f).cache = s.cache := rfl
@[simp] theorem State.wrapInc_dramGiB (s : State) (f : Field) : (s.wrapInc f).dramGiB = s.dramGiB := rfl
@[simp] theorem State.wrapInc_eccPlan (s : State) (f : Field) : (s.wrapInc f).eccPlan = s.eccPlan := rfl
@[simp] theorem State.wrapInc_servo (s : State) (f : Field) : (s.wrapInc f).servo = s.servo := rfl
@[simp] theorem State.wrapInc_mer (s : State) (f : Field) : (s.wrapInc f).mer = s.mer := rfl
@[simp] theorem State.wrapInc_timeIn (s : State) (f : Field) : (s.wrapInc f).timeIn = s.timeIn := rfl
@[simp] theorem State.wrapInc_trv (s : State) (f : Field) : (s.wrapInc f).trv = s.trv := rfl
@[simp] theorem State.wrapInc_gfx (s : State) (f : Field) : (s.wrapInc f).gfx = s.gfx := rfl
@[simp] theorem State.wrapInc_med (s : State) (f : Field) : (s.wrapInc f).med = s.med := rfl
@[simp] theorem State.wrapInc_gwy (s : State) (f : Field) : (s.wrapInc f).gwy = s.gwy := rfl
@[simp] theorem State.wrapInc_brg (s : State) (f : Field) : (s.wrapInc f).brg = s.brg := rfl
@[simp] theorem State.wrapInc_fba (s : State) (f : Field) : (s.wrapInc f).fba = s.fba := rfl
@[simp] theorem State.wrapInc_jrn (s : State) (f : Field) : (s.wrapInc f).jrn = s.jrn := rfl
@[simp] theorem State.wrapInc_ufs (s : State) (f : Field) : (s.wrapInc f).ufs = s.ufs := rfl
@[simp] theorem State.wrapInc_boot (s : State) (f : Field) : (s.wrapInc f).boot = s.boot := rfl
@[simp] theorem State.wrapInc_dbg (s : State) (f : Field) : (s.wrapInc f).dbg = s.dbg := rfl
@[simp] theorem State.wrapInc_jtag (s : State) (f : Field) : (s.wrapInc f).jtag = s.jtag := rfl
@[simp] theorem State.wrapInc_unpub (s : State) (f : Field) : (s.wrapInc f).unpub = s.unpub := rfl
@[simp] theorem State.wrapInc_fbGet (s : State) (f : Field) (ix sub : Nat) : (s.wrapInc f).fbGet ix sub = s.fbGet ix sub := by simp [State.fbGet]

/-! ## fbSet -/

@[simp] theorem State.fbSet_pending (s : State) (i j v : Nat) : (s.fbSet i j v).pending = s.pending := rfl
@[simp] theorem State.fbSet_freeCtr (s : State) (i j v : Nat) : (s.fbSet i j v).freeCtr = s.freeCtr := rfl
@[simp] theorem State.fbSet_datum (s : State) (i j v : Nat) : (s.fbSet i j v).datum = s.datum := rfl
@[simp] theorem State.fbSet_datumFrac (s : State) (i j v : Nat) : (s.fbSet i j v).datumFrac = s.datumFrac := rfl
@[simp] theorem State.fbSet_stepSeq (s : State) (i j v : Nat) : (s.fbSet i j v).stepSeq = s.stepSeq := rfl
@[simp] theorem State.fbSet_regs (s : State) (i j v : Nat) : (s.fbSet i j v).regs = s.regs := rfl
@[simp] theorem State.fbSet_mem (s : State) (i j v : Nat) : (s.fbSet i j v).mem = s.mem := rfl
@[simp] theorem State.fbSet_latch (s : State) (i j v : Nat) : (s.fbSet i j v).latch = s.latch := rfl
@[simp] theorem State.fbSet_held (s : State) (i j v : Nat) : (s.fbSet i j v).held = s.held := rfl
@[simp] theorem State.fbSet_resp (s : State) (i j v : Nat) : (s.fbSet i j v).resp = s.resp := rfl
@[simp] theorem State.fbSet_out (s : State) (i j v : Nat) : (s.fbSet i j v).out = s.out := rfl
@[simp] theorem State.fbSet_icnSrc (s : State) (i j v : Nat) : (s.fbSet i j v).icnSrc = s.icnSrc := rfl
@[simp] theorem State.fbSet_icnTgt (s : State) (i j v : Nat) : (s.fbSet i j v).icnTgt = s.icnTgt := rfl
@[simp] theorem State.fbSet_worlds (s : State) (i j v : Nat) : (s.fbSet i j v).worlds = s.worlds := rfl
@[simp] theorem State.fbSet_pins (s : State) (i j v : Nat) : (s.fbSet i j v).pins = s.pins := rfl
@[simp] theorem State.fbSet_fuses (s : State) (i j v : Nat) : (s.fbSet i j v).fuses = s.fuses := rfl
@[simp] theorem State.fbSet_nor (s : State) (i j v : Nat) : (s.fbSet i j v).nor = s.nor := rfl
@[simp] theorem State.fbSet_eng (s : State) (i j v : Nat) : (s.fbSet i j v).eng = s.eng := rfl
@[simp] theorem State.fbSet_saf (s : State) (i j v : Nat) : (s.fbSet i j v).saf = s.saf := rfl
@[simp] theorem State.fbSet_pmu (s : State) (i j v : Nat) : (s.fbSet i j v).pmu = s.pmu := rfl
@[simp] theorem State.fbSet_fw (s : State) (i j v : Nat) : (s.fbSet i j v).fw = s.fw := rfl
@[simp] theorem State.fbSet_opPools (s : State) (i j v : Nat) : (s.fbSet i j v).opPools = s.opPools := rfl
@[simp] theorem State.fbSet_cache (s : State) (i j v : Nat) : (s.fbSet i j v).cache = s.cache := rfl
@[simp] theorem State.fbSet_dramGiB (s : State) (i j v : Nat) : (s.fbSet i j v).dramGiB = s.dramGiB := rfl
@[simp] theorem State.fbSet_eccPlan (s : State) (i j v : Nat) : (s.fbSet i j v).eccPlan = s.eccPlan := rfl
@[simp] theorem State.fbSet_servo (s : State) (i j v : Nat) : (s.fbSet i j v).servo = s.servo := rfl
@[simp] theorem State.fbSet_mer (s : State) (i j v : Nat) : (s.fbSet i j v).mer = s.mer := rfl
@[simp] theorem State.fbSet_timeIn (s : State) (i j v : Nat) : (s.fbSet i j v).timeIn = s.timeIn := rfl
@[simp] theorem State.fbSet_trv (s : State) (i j v : Nat) : (s.fbSet i j v).trv = s.trv := rfl
@[simp] theorem State.fbSet_gfx (s : State) (i j v : Nat) : (s.fbSet i j v).gfx = s.gfx := rfl
@[simp] theorem State.fbSet_med (s : State) (i j v : Nat) : (s.fbSet i j v).med = s.med := rfl
@[simp] theorem State.fbSet_gwy (s : State) (i j v : Nat) : (s.fbSet i j v).gwy = s.gwy := rfl
@[simp] theorem State.fbSet_brg (s : State) (i j v : Nat) : (s.fbSet i j v).brg = s.brg := rfl
@[simp] theorem State.fbSet_fba (s : State) (i j v : Nat) : (s.fbSet i j v).fba = s.fba := rfl
@[simp] theorem State.fbSet_jrn (s : State) (i j v : Nat) : (s.fbSet i j v).jrn = s.jrn := rfl
@[simp] theorem State.fbSet_ufs (s : State) (i j v : Nat) : (s.fbSet i j v).ufs = s.ufs := rfl
@[simp] theorem State.fbSet_boot (s : State) (i j v : Nat) : (s.fbSet i j v).boot = s.boot := rfl
@[simp] theorem State.fbSet_dbg (s : State) (i j v : Nat) : (s.fbSet i j v).dbg = s.dbg := rfl
@[simp] theorem State.fbSet_jtag (s : State) (i j v : Nat) : (s.fbSet i j v).jtag = s.jtag := rfl
@[simp] theorem State.fbSet_unpub (s : State) (i j v : Nat) : (s.fbSet i j v).unpub = s.unpub := rfl
@[simp] theorem State.fbSet_get (s : State) (i j v : Nat) (fld : Field) : (s.fbSet i j v).get fld = s.get fld := by simp [State.get]
@[simp] theorem State.fbSet_bit (s : State) (i j v : Nat) (fld : Field) : (s.fbSet i j v).bit fld = s.bit fld := by simp [State.bit]

/-! ## fbInc -/

@[simp] theorem State.fbInc_pending (s : State) (i j : Nat) : (s.fbInc i j).pending = s.pending := rfl
@[simp] theorem State.fbInc_freeCtr (s : State) (i j : Nat) : (s.fbInc i j).freeCtr = s.freeCtr := rfl
@[simp] theorem State.fbInc_datum (s : State) (i j : Nat) : (s.fbInc i j).datum = s.datum := rfl
@[simp] theorem State.fbInc_datumFrac (s : State) (i j : Nat) : (s.fbInc i j).datumFrac = s.datumFrac := rfl
@[simp] theorem State.fbInc_stepSeq (s : State) (i j : Nat) : (s.fbInc i j).stepSeq = s.stepSeq := rfl
@[simp] theorem State.fbInc_regs (s : State) (i j : Nat) : (s.fbInc i j).regs = s.regs := rfl
@[simp] theorem State.fbInc_mem (s : State) (i j : Nat) : (s.fbInc i j).mem = s.mem := rfl
@[simp] theorem State.fbInc_latch (s : State) (i j : Nat) : (s.fbInc i j).latch = s.latch := rfl
@[simp] theorem State.fbInc_held (s : State) (i j : Nat) : (s.fbInc i j).held = s.held := rfl
@[simp] theorem State.fbInc_resp (s : State) (i j : Nat) : (s.fbInc i j).resp = s.resp := rfl
@[simp] theorem State.fbInc_out (s : State) (i j : Nat) : (s.fbInc i j).out = s.out := rfl
@[simp] theorem State.fbInc_icnSrc (s : State) (i j : Nat) : (s.fbInc i j).icnSrc = s.icnSrc := rfl
@[simp] theorem State.fbInc_icnTgt (s : State) (i j : Nat) : (s.fbInc i j).icnTgt = s.icnTgt := rfl
@[simp] theorem State.fbInc_worlds (s : State) (i j : Nat) : (s.fbInc i j).worlds = s.worlds := rfl
@[simp] theorem State.fbInc_pins (s : State) (i j : Nat) : (s.fbInc i j).pins = s.pins := rfl
@[simp] theorem State.fbInc_fuses (s : State) (i j : Nat) : (s.fbInc i j).fuses = s.fuses := rfl
@[simp] theorem State.fbInc_nor (s : State) (i j : Nat) : (s.fbInc i j).nor = s.nor := rfl
@[simp] theorem State.fbInc_eng (s : State) (i j : Nat) : (s.fbInc i j).eng = s.eng := rfl
@[simp] theorem State.fbInc_saf (s : State) (i j : Nat) : (s.fbInc i j).saf = s.saf := rfl
@[simp] theorem State.fbInc_pmu (s : State) (i j : Nat) : (s.fbInc i j).pmu = s.pmu := rfl
@[simp] theorem State.fbInc_fw (s : State) (i j : Nat) : (s.fbInc i j).fw = s.fw := rfl
@[simp] theorem State.fbInc_opPools (s : State) (i j : Nat) : (s.fbInc i j).opPools = s.opPools := rfl
@[simp] theorem State.fbInc_cache (s : State) (i j : Nat) : (s.fbInc i j).cache = s.cache := rfl
@[simp] theorem State.fbInc_dramGiB (s : State) (i j : Nat) : (s.fbInc i j).dramGiB = s.dramGiB := rfl
@[simp] theorem State.fbInc_eccPlan (s : State) (i j : Nat) : (s.fbInc i j).eccPlan = s.eccPlan := rfl
@[simp] theorem State.fbInc_servo (s : State) (i j : Nat) : (s.fbInc i j).servo = s.servo := rfl
@[simp] theorem State.fbInc_mer (s : State) (i j : Nat) : (s.fbInc i j).mer = s.mer := rfl
@[simp] theorem State.fbInc_timeIn (s : State) (i j : Nat) : (s.fbInc i j).timeIn = s.timeIn := rfl
@[simp] theorem State.fbInc_trv (s : State) (i j : Nat) : (s.fbInc i j).trv = s.trv := rfl
@[simp] theorem State.fbInc_gfx (s : State) (i j : Nat) : (s.fbInc i j).gfx = s.gfx := rfl
@[simp] theorem State.fbInc_med (s : State) (i j : Nat) : (s.fbInc i j).med = s.med := rfl
@[simp] theorem State.fbInc_gwy (s : State) (i j : Nat) : (s.fbInc i j).gwy = s.gwy := rfl
@[simp] theorem State.fbInc_brg (s : State) (i j : Nat) : (s.fbInc i j).brg = s.brg := rfl
@[simp] theorem State.fbInc_fba (s : State) (i j : Nat) : (s.fbInc i j).fba = s.fba := rfl
@[simp] theorem State.fbInc_jrn (s : State) (i j : Nat) : (s.fbInc i j).jrn = s.jrn := rfl
@[simp] theorem State.fbInc_ufs (s : State) (i j : Nat) : (s.fbInc i j).ufs = s.ufs := rfl
@[simp] theorem State.fbInc_boot (s : State) (i j : Nat) : (s.fbInc i j).boot = s.boot := rfl
@[simp] theorem State.fbInc_dbg (s : State) (i j : Nat) : (s.fbInc i j).dbg = s.dbg := rfl
@[simp] theorem State.fbInc_jtag (s : State) (i j : Nat) : (s.fbInc i j).jtag = s.jtag := rfl
@[simp] theorem State.fbInc_unpub (s : State) (i j : Nat) : (s.fbInc i j).unpub = s.unpub := rfl
@[simp] theorem State.fbInc_get (s : State) (i j : Nat) (fld : Field) : (s.fbInc i j).get fld = s.get fld := by simp [State.get]
@[simp] theorem State.fbInc_bit (s : State) (i j : Nat) (fld : Field) : (s.fbInc i j).bit fld = s.bit fld := by simp [State.bit]

/-! ## wr -/

@[simp] theorem State.wr_pending (s : State) (a : Nat) (bs : List Nat) : (s.wr a bs).pending = s.pending := rfl
@[simp] theorem State.wr_freeCtr (s : State) (a : Nat) (bs : List Nat) : (s.wr a bs).freeCtr = s.freeCtr := rfl
@[simp] theorem State.wr_datum (s : State) (a : Nat) (bs : List Nat) : (s.wr a bs).datum = s.datum := rfl
@[simp] theorem State.wr_datumFrac (s : State) (a : Nat) (bs : List Nat) : (s.wr a bs).datumFrac = s.datumFrac := rfl
@[simp] theorem State.wr_stepSeq (s : State) (a : Nat) (bs : List Nat) : (s.wr a bs).stepSeq = s.stepSeq := rfl
@[simp] theorem State.wr_regs (s : State) (a : Nat) (bs : List Nat) : (s.wr a bs).regs = s.regs := rfl
@[simp] theorem State.wr_fb (s : State) (a : Nat) (bs : List Nat) : (s.wr a bs).fb = s.fb := rfl
@[simp] theorem State.wr_latch (s : State) (a : Nat) (bs : List Nat) : (s.wr a bs).latch = s.latch := rfl
@[simp] theorem State.wr_held (s : State) (a : Nat) (bs : List Nat) : (s.wr a bs).held = s.held := rfl
@[simp] theorem State.wr_resp (s : State) (a : Nat) (bs : List Nat) : (s.wr a bs).resp = s.resp := rfl
@[simp] theorem State.wr_out (s : State) (a : Nat) (bs : List Nat) : (s.wr a bs).out = s.out := rfl
@[simp] theorem State.wr_icnSrc (s : State) (a : Nat) (bs : List Nat) : (s.wr a bs).icnSrc = s.icnSrc := rfl
@[simp] theorem State.wr_icnTgt (s : State) (a : Nat) (bs : List Nat) : (s.wr a bs).icnTgt = s.icnTgt := rfl
@[simp] theorem State.wr_worlds (s : State) (a : Nat) (bs : List Nat) : (s.wr a bs).worlds = s.worlds := rfl
@[simp] theorem State.wr_pins (s : State) (a : Nat) (bs : List Nat) : (s.wr a bs).pins = s.pins := rfl
@[simp] theorem State.wr_fuses (s : State) (a : Nat) (bs : List Nat) : (s.wr a bs).fuses = s.fuses := rfl
@[simp] theorem State.wr_nor (s : State) (a : Nat) (bs : List Nat) : (s.wr a bs).nor = s.nor := rfl
@[simp] theorem State.wr_eng (s : State) (a : Nat) (bs : List Nat) : (s.wr a bs).eng = s.eng := rfl
@[simp] theorem State.wr_saf (s : State) (a : Nat) (bs : List Nat) : (s.wr a bs).saf = s.saf := rfl
@[simp] theorem State.wr_pmu (s : State) (a : Nat) (bs : List Nat) : (s.wr a bs).pmu = s.pmu := rfl
@[simp] theorem State.wr_fw (s : State) (a : Nat) (bs : List Nat) : (s.wr a bs).fw = s.fw := rfl
@[simp] theorem State.wr_opPools (s : State) (a : Nat) (bs : List Nat) : (s.wr a bs).opPools = s.opPools := rfl
@[simp] theorem State.wr_cache (s : State) (a : Nat) (bs : List Nat) : (s.wr a bs).cache = s.cache := rfl
@[simp] theorem State.wr_dramGiB (s : State) (a : Nat) (bs : List Nat) : (s.wr a bs).dramGiB = s.dramGiB := rfl
@[simp] theorem State.wr_eccPlan (s : State) (a : Nat) (bs : List Nat) : (s.wr a bs).eccPlan = s.eccPlan := rfl
@[simp] theorem State.wr_servo (s : State) (a : Nat) (bs : List Nat) : (s.wr a bs).servo = s.servo := rfl
@[simp] theorem State.wr_mer (s : State) (a : Nat) (bs : List Nat) : (s.wr a bs).mer = s.mer := rfl
@[simp] theorem State.wr_timeIn (s : State) (a : Nat) (bs : List Nat) : (s.wr a bs).timeIn = s.timeIn := rfl
@[simp] theorem State.wr_trv (s : State) (a : Nat) (bs : List Nat) : (s.wr a bs).trv = s.trv := rfl
@[simp] theorem State.wr_gfx (s : State) (a : Nat) (bs : List Nat) : (s.wr a bs).gfx = s.gfx := rfl
@[simp] theorem State.wr_med (s : State) (a : Nat) (bs : List Nat) : (s.wr a bs).med = s.med := rfl
@[simp] theorem State.wr_gwy (s : State) (a : Nat) (bs : List Nat) : (s.wr a bs).gwy = s.gwy := rfl
@[simp] theorem State.wr_brg (s : State) (a : Nat) (bs : List Nat) : (s.wr a bs).brg = s.brg := rfl
@[simp] theorem State.wr_fba (s : State) (a : Nat) (bs : List Nat) : (s.wr a bs).fba = s.fba := rfl
@[simp] theorem State.wr_jrn (s : State) (a : Nat) (bs : List Nat) : (s.wr a bs).jrn = s.jrn := rfl
@[simp] theorem State.wr_ufs (s : State) (a : Nat) (bs : List Nat) : (s.wr a bs).ufs = s.ufs := rfl
@[simp] theorem State.wr_boot (s : State) (a : Nat) (bs : List Nat) : (s.wr a bs).boot = s.boot := rfl
@[simp] theorem State.wr_dbg (s : State) (a : Nat) (bs : List Nat) : (s.wr a bs).dbg = s.dbg := rfl
@[simp] theorem State.wr_jtag (s : State) (a : Nat) (bs : List Nat) : (s.wr a bs).jtag = s.jtag := rfl
@[simp] theorem State.wr_get (s : State) (a : Nat) (bs : List Nat) (fld : Field) : (s.wr a bs).get fld = s.get fld := by simp [State.get]
@[simp] theorem State.wr_bit (s : State) (a : Nat) (bs : List Nat) (fld : Field) : (s.wr a bs).bit fld = s.bit fld := by simp [State.bit]
@[simp] theorem State.wr_fbGet (s : State) (a : Nat) (bs : List Nat) (ix sub : Nat) : (s.wr a bs).fbGet ix sub = s.fbGet ix sub := by simp [State.fbGet]

/-! ## wrLe -/

@[simp] theorem State.wrLe_pending (s : State) (a n v : Nat) : (s.wrLe a n v).pending = s.pending := rfl
@[simp] theorem State.wrLe_freeCtr (s : State) (a n v : Nat) : (s.wrLe a n v).freeCtr = s.freeCtr := rfl
@[simp] theorem State.wrLe_datum (s : State) (a n v : Nat) : (s.wrLe a n v).datum = s.datum := rfl
@[simp] theorem State.wrLe_datumFrac (s : State) (a n v : Nat) : (s.wrLe a n v).datumFrac = s.datumFrac := rfl
@[simp] theorem State.wrLe_stepSeq (s : State) (a n v : Nat) : (s.wrLe a n v).stepSeq = s.stepSeq := rfl
@[simp] theorem State.wrLe_regs (s : State) (a n v : Nat) : (s.wrLe a n v).regs = s.regs := rfl
@[simp] theorem State.wrLe_fb (s : State) (a n v : Nat) : (s.wrLe a n v).fb = s.fb := rfl
@[simp] theorem State.wrLe_latch (s : State) (a n v : Nat) : (s.wrLe a n v).latch = s.latch := rfl
@[simp] theorem State.wrLe_held (s : State) (a n v : Nat) : (s.wrLe a n v).held = s.held := rfl
@[simp] theorem State.wrLe_resp (s : State) (a n v : Nat) : (s.wrLe a n v).resp = s.resp := rfl
@[simp] theorem State.wrLe_out (s : State) (a n v : Nat) : (s.wrLe a n v).out = s.out := rfl
@[simp] theorem State.wrLe_icnSrc (s : State) (a n v : Nat) : (s.wrLe a n v).icnSrc = s.icnSrc := rfl
@[simp] theorem State.wrLe_icnTgt (s : State) (a n v : Nat) : (s.wrLe a n v).icnTgt = s.icnTgt := rfl
@[simp] theorem State.wrLe_worlds (s : State) (a n v : Nat) : (s.wrLe a n v).worlds = s.worlds := rfl
@[simp] theorem State.wrLe_pins (s : State) (a n v : Nat) : (s.wrLe a n v).pins = s.pins := rfl
@[simp] theorem State.wrLe_fuses (s : State) (a n v : Nat) : (s.wrLe a n v).fuses = s.fuses := rfl
@[simp] theorem State.wrLe_nor (s : State) (a n v : Nat) : (s.wrLe a n v).nor = s.nor := rfl
@[simp] theorem State.wrLe_eng (s : State) (a n v : Nat) : (s.wrLe a n v).eng = s.eng := rfl
@[simp] theorem State.wrLe_saf (s : State) (a n v : Nat) : (s.wrLe a n v).saf = s.saf := rfl
@[simp] theorem State.wrLe_pmu (s : State) (a n v : Nat) : (s.wrLe a n v).pmu = s.pmu := rfl
@[simp] theorem State.wrLe_fw (s : State) (a n v : Nat) : (s.wrLe a n v).fw = s.fw := rfl
@[simp] theorem State.wrLe_opPools (s : State) (a n v : Nat) : (s.wrLe a n v).opPools = s.opPools := rfl
@[simp] theorem State.wrLe_cache (s : State) (a n v : Nat) : (s.wrLe a n v).cache = s.cache := rfl
@[simp] theorem State.wrLe_dramGiB (s : State) (a n v : Nat) : (s.wrLe a n v).dramGiB = s.dramGiB := rfl
@[simp] theorem State.wrLe_eccPlan (s : State) (a n v : Nat) : (s.wrLe a n v).eccPlan = s.eccPlan := rfl
@[simp] theorem State.wrLe_servo (s : State) (a n v : Nat) : (s.wrLe a n v).servo = s.servo := rfl
@[simp] theorem State.wrLe_mer (s : State) (a n v : Nat) : (s.wrLe a n v).mer = s.mer := rfl
@[simp] theorem State.wrLe_timeIn (s : State) (a n v : Nat) : (s.wrLe a n v).timeIn = s.timeIn := rfl
@[simp] theorem State.wrLe_trv (s : State) (a n v : Nat) : (s.wrLe a n v).trv = s.trv := rfl
@[simp] theorem State.wrLe_gfx (s : State) (a n v : Nat) : (s.wrLe a n v).gfx = s.gfx := rfl
@[simp] theorem State.wrLe_med (s : State) (a n v : Nat) : (s.wrLe a n v).med = s.med := rfl
@[simp] theorem State.wrLe_gwy (s : State) (a n v : Nat) : (s.wrLe a n v).gwy = s.gwy := rfl
@[simp] theorem State.wrLe_brg (s : State) (a n v : Nat) : (s.wrLe a n v).brg = s.brg := rfl
@[simp] theorem State.wrLe_fba (s : State) (a n v : Nat) : (s.wrLe a n v).fba = s.fba := rfl
@[simp] theorem State.wrLe_jrn (s : State) (a n v : Nat) : (s.wrLe a n v).jrn = s.jrn := rfl
@[simp] theorem State.wrLe_ufs (s : State) (a n v : Nat) : (s.wrLe a n v).ufs = s.ufs := rfl
@[simp] theorem State.wrLe_boot (s : State) (a n v : Nat) : (s.wrLe a n v).boot = s.boot := rfl
@[simp] theorem State.wrLe_dbg (s : State) (a n v : Nat) : (s.wrLe a n v).dbg = s.dbg := rfl
@[simp] theorem State.wrLe_jtag (s : State) (a n v : Nat) : (s.wrLe a n v).jtag = s.jtag := rfl
@[simp] theorem State.wrLe_get (s : State) (a n v : Nat) (fld : Field) : (s.wrLe a n v).get fld = s.get fld := by simp [State.get]
@[simp] theorem State.wrLe_bit (s : State) (a n v : Nat) (fld : Field) : (s.wrLe a n v).bit fld = s.bit fld := by simp [State.bit]
@[simp] theorem State.wrLe_fbGet (s : State) (a n v : Nat) (ix sub : Nat) : (s.wrLe a n v).fbGet ix sub = s.fbGet ix sub := by simp [State.fbGet]

/-! ## clearMem -/

@[simp] theorem State.clearMem_pending (s : State) (lo hi : Nat) : (s.clearMem lo hi).pending = s.pending := rfl
@[simp] theorem State.clearMem_freeCtr (s : State) (lo hi : Nat) : (s.clearMem lo hi).freeCtr = s.freeCtr := rfl
@[simp] theorem State.clearMem_datum (s : State) (lo hi : Nat) : (s.clearMem lo hi).datum = s.datum := rfl
@[simp] theorem State.clearMem_datumFrac (s : State) (lo hi : Nat) : (s.clearMem lo hi).datumFrac = s.datumFrac := rfl
@[simp] theorem State.clearMem_stepSeq (s : State) (lo hi : Nat) : (s.clearMem lo hi).stepSeq = s.stepSeq := rfl
@[simp] theorem State.clearMem_regs (s : State) (lo hi : Nat) : (s.clearMem lo hi).regs = s.regs := rfl
@[simp] theorem State.clearMem_fb (s : State) (lo hi : Nat) : (s.clearMem lo hi).fb = s.fb := rfl
@[simp] theorem State.clearMem_latch (s : State) (lo hi : Nat) : (s.clearMem lo hi).latch = s.latch := rfl
@[simp] theorem State.clearMem_held (s : State) (lo hi : Nat) : (s.clearMem lo hi).held = s.held := rfl
@[simp] theorem State.clearMem_resp (s : State) (lo hi : Nat) : (s.clearMem lo hi).resp = s.resp := rfl
@[simp] theorem State.clearMem_out (s : State) (lo hi : Nat) : (s.clearMem lo hi).out = s.out := rfl
@[simp] theorem State.clearMem_icnSrc (s : State) (lo hi : Nat) : (s.clearMem lo hi).icnSrc = s.icnSrc := rfl
@[simp] theorem State.clearMem_icnTgt (s : State) (lo hi : Nat) : (s.clearMem lo hi).icnTgt = s.icnTgt := rfl
@[simp] theorem State.clearMem_worlds (s : State) (lo hi : Nat) : (s.clearMem lo hi).worlds = s.worlds := rfl
@[simp] theorem State.clearMem_pins (s : State) (lo hi : Nat) : (s.clearMem lo hi).pins = s.pins := rfl
@[simp] theorem State.clearMem_fuses (s : State) (lo hi : Nat) : (s.clearMem lo hi).fuses = s.fuses := rfl
@[simp] theorem State.clearMem_nor (s : State) (lo hi : Nat) : (s.clearMem lo hi).nor = s.nor := rfl
@[simp] theorem State.clearMem_eng (s : State) (lo hi : Nat) : (s.clearMem lo hi).eng = s.eng := rfl
@[simp] theorem State.clearMem_saf (s : State) (lo hi : Nat) : (s.clearMem lo hi).saf = s.saf := rfl
@[simp] theorem State.clearMem_pmu (s : State) (lo hi : Nat) : (s.clearMem lo hi).pmu = s.pmu := rfl
@[simp] theorem State.clearMem_fw (s : State) (lo hi : Nat) : (s.clearMem lo hi).fw = s.fw := rfl
@[simp] theorem State.clearMem_opPools (s : State) (lo hi : Nat) : (s.clearMem lo hi).opPools = s.opPools := rfl
@[simp] theorem State.clearMem_cache (s : State) (lo hi : Nat) : (s.clearMem lo hi).cache = s.cache := rfl
@[simp] theorem State.clearMem_dramGiB (s : State) (lo hi : Nat) : (s.clearMem lo hi).dramGiB = s.dramGiB := rfl
@[simp] theorem State.clearMem_eccPlan (s : State) (lo hi : Nat) : (s.clearMem lo hi).eccPlan = s.eccPlan := rfl
@[simp] theorem State.clearMem_servo (s : State) (lo hi : Nat) : (s.clearMem lo hi).servo = s.servo := rfl
@[simp] theorem State.clearMem_mer (s : State) (lo hi : Nat) : (s.clearMem lo hi).mer = s.mer := rfl
@[simp] theorem State.clearMem_timeIn (s : State) (lo hi : Nat) : (s.clearMem lo hi).timeIn = s.timeIn := rfl
@[simp] theorem State.clearMem_trv (s : State) (lo hi : Nat) : (s.clearMem lo hi).trv = s.trv := rfl
@[simp] theorem State.clearMem_gfx (s : State) (lo hi : Nat) : (s.clearMem lo hi).gfx = s.gfx := rfl
@[simp] theorem State.clearMem_med (s : State) (lo hi : Nat) : (s.clearMem lo hi).med = s.med := rfl
@[simp] theorem State.clearMem_gwy (s : State) (lo hi : Nat) : (s.clearMem lo hi).gwy = s.gwy := rfl
@[simp] theorem State.clearMem_brg (s : State) (lo hi : Nat) : (s.clearMem lo hi).brg = s.brg := rfl
@[simp] theorem State.clearMem_fba (s : State) (lo hi : Nat) : (s.clearMem lo hi).fba = s.fba := rfl
@[simp] theorem State.clearMem_jrn (s : State) (lo hi : Nat) : (s.clearMem lo hi).jrn = s.jrn := rfl
@[simp] theorem State.clearMem_ufs (s : State) (lo hi : Nat) : (s.clearMem lo hi).ufs = s.ufs := rfl
@[simp] theorem State.clearMem_boot (s : State) (lo hi : Nat) : (s.clearMem lo hi).boot = s.boot := rfl
@[simp] theorem State.clearMem_dbg (s : State) (lo hi : Nat) : (s.clearMem lo hi).dbg = s.dbg := rfl
@[simp] theorem State.clearMem_jtag (s : State) (lo hi : Nat) : (s.clearMem lo hi).jtag = s.jtag := rfl
@[simp] theorem State.clearMem_get (s : State) (lo hi : Nat) (fld : Field) : (s.clearMem lo hi).get fld = s.get fld := by simp [State.get]
@[simp] theorem State.clearMem_bit (s : State) (lo hi : Nat) (fld : Field) : (s.clearMem lo hi).bit fld = s.bit fld := by simp [State.bit]
@[simp] theorem State.clearMem_fbGet (s : State) (lo hi : Nat) (ix sub : Nat) : (s.clearMem lo hi).fbGet ix sub = s.fbGet ix sub := by simp [State.fbGet]

/-! ## emit -/

@[simp] theorem State.emit_pending (s : State) (o : Output) : (s.emit o).pending = s.pending := rfl
@[simp] theorem State.emit_freeCtr (s : State) (o : Output) : (s.emit o).freeCtr = s.freeCtr := rfl
@[simp] theorem State.emit_datum (s : State) (o : Output) : (s.emit o).datum = s.datum := rfl
@[simp] theorem State.emit_datumFrac (s : State) (o : Output) : (s.emit o).datumFrac = s.datumFrac := rfl
@[simp] theorem State.emit_stepSeq (s : State) (o : Output) : (s.emit o).stepSeq = s.stepSeq := rfl
@[simp] theorem State.emit_regs (s : State) (o : Output) : (s.emit o).regs = s.regs := rfl
@[simp] theorem State.emit_fb (s : State) (o : Output) : (s.emit o).fb = s.fb := rfl
@[simp] theorem State.emit_mem (s : State) (o : Output) : (s.emit o).mem = s.mem := rfl
@[simp] theorem State.emit_latch (s : State) (o : Output) : (s.emit o).latch = s.latch := rfl
@[simp] theorem State.emit_held (s : State) (o : Output) : (s.emit o).held = s.held := rfl
@[simp] theorem State.emit_resp (s : State) (o : Output) : (s.emit o).resp = s.resp := rfl
@[simp] theorem State.emit_icnSrc (s : State) (o : Output) : (s.emit o).icnSrc = s.icnSrc := rfl
@[simp] theorem State.emit_icnTgt (s : State) (o : Output) : (s.emit o).icnTgt = s.icnTgt := rfl
@[simp] theorem State.emit_worlds (s : State) (o : Output) : (s.emit o).worlds = s.worlds := rfl
@[simp] theorem State.emit_pins (s : State) (o : Output) : (s.emit o).pins = s.pins := rfl
@[simp] theorem State.emit_fuses (s : State) (o : Output) : (s.emit o).fuses = s.fuses := rfl
@[simp] theorem State.emit_nor (s : State) (o : Output) : (s.emit o).nor = s.nor := rfl
@[simp] theorem State.emit_eng (s : State) (o : Output) : (s.emit o).eng = s.eng := rfl
@[simp] theorem State.emit_saf (s : State) (o : Output) : (s.emit o).saf = s.saf := rfl
@[simp] theorem State.emit_pmu (s : State) (o : Output) : (s.emit o).pmu = s.pmu := rfl
@[simp] theorem State.emit_fw (s : State) (o : Output) : (s.emit o).fw = s.fw := rfl
@[simp] theorem State.emit_opPools (s : State) (o : Output) : (s.emit o).opPools = s.opPools := rfl
@[simp] theorem State.emit_cache (s : State) (o : Output) : (s.emit o).cache = s.cache := rfl
@[simp] theorem State.emit_dramGiB (s : State) (o : Output) : (s.emit o).dramGiB = s.dramGiB := rfl
@[simp] theorem State.emit_eccPlan (s : State) (o : Output) : (s.emit o).eccPlan = s.eccPlan := rfl
@[simp] theorem State.emit_servo (s : State) (o : Output) : (s.emit o).servo = s.servo := rfl
@[simp] theorem State.emit_mer (s : State) (o : Output) : (s.emit o).mer = s.mer := rfl
@[simp] theorem State.emit_timeIn (s : State) (o : Output) : (s.emit o).timeIn = s.timeIn := rfl
@[simp] theorem State.emit_trv (s : State) (o : Output) : (s.emit o).trv = s.trv := rfl
@[simp] theorem State.emit_gfx (s : State) (o : Output) : (s.emit o).gfx = s.gfx := rfl
@[simp] theorem State.emit_med (s : State) (o : Output) : (s.emit o).med = s.med := rfl
@[simp] theorem State.emit_gwy (s : State) (o : Output) : (s.emit o).gwy = s.gwy := rfl
@[simp] theorem State.emit_brg (s : State) (o : Output) : (s.emit o).brg = s.brg := rfl
@[simp] theorem State.emit_fba (s : State) (o : Output) : (s.emit o).fba = s.fba := rfl
@[simp] theorem State.emit_jrn (s : State) (o : Output) : (s.emit o).jrn = s.jrn := rfl
@[simp] theorem State.emit_ufs (s : State) (o : Output) : (s.emit o).ufs = s.ufs := rfl
@[simp] theorem State.emit_boot (s : State) (o : Output) : (s.emit o).boot = s.boot := rfl
@[simp] theorem State.emit_dbg (s : State) (o : Output) : (s.emit o).dbg = s.dbg := rfl
@[simp] theorem State.emit_jtag (s : State) (o : Output) : (s.emit o).jtag = s.jtag := rfl
@[simp] theorem State.emit_unpub (s : State) (o : Output) : (s.emit o).unpub = s.unpub := rfl
@[simp] theorem State.emit_get (s : State) (o : Output) (fld : Field) : (s.emit o).get fld = s.get fld := by simp [State.get]
@[simp] theorem State.emit_bit (s : State) (o : Output) (fld : Field) : (s.emit o).bit fld = s.bit fld := by simp [State.bit]
@[simp] theorem State.emit_fbGet (s : State) (o : Output) (ix sub : Nat) : (s.emit o).fbGet ix sub = s.fbGet ix sub := by simp [State.fbGet]

/-! ## answer -/

@[simp] theorem State.answer_pending (s : State) (v : Nat) : (s.answer v).pending = s.pending := rfl
@[simp] theorem State.answer_freeCtr (s : State) (v : Nat) : (s.answer v).freeCtr = s.freeCtr := rfl
@[simp] theorem State.answer_datum (s : State) (v : Nat) : (s.answer v).datum = s.datum := rfl
@[simp] theorem State.answer_datumFrac (s : State) (v : Nat) : (s.answer v).datumFrac = s.datumFrac := rfl
@[simp] theorem State.answer_stepSeq (s : State) (v : Nat) : (s.answer v).stepSeq = s.stepSeq := rfl
@[simp] theorem State.answer_regs (s : State) (v : Nat) : (s.answer v).regs = s.regs := rfl
@[simp] theorem State.answer_fb (s : State) (v : Nat) : (s.answer v).fb = s.fb := rfl
@[simp] theorem State.answer_mem (s : State) (v : Nat) : (s.answer v).mem = s.mem := rfl
@[simp] theorem State.answer_latch (s : State) (v : Nat) : (s.answer v).latch = s.latch := rfl
@[simp] theorem State.answer_held (s : State) (v : Nat) : (s.answer v).held = s.held := rfl
@[simp] theorem State.answer_out (s : State) (v : Nat) : (s.answer v).out = s.out := rfl
@[simp] theorem State.answer_icnSrc (s : State) (v : Nat) : (s.answer v).icnSrc = s.icnSrc := rfl
@[simp] theorem State.answer_icnTgt (s : State) (v : Nat) : (s.answer v).icnTgt = s.icnTgt := rfl
@[simp] theorem State.answer_worlds (s : State) (v : Nat) : (s.answer v).worlds = s.worlds := rfl
@[simp] theorem State.answer_pins (s : State) (v : Nat) : (s.answer v).pins = s.pins := rfl
@[simp] theorem State.answer_fuses (s : State) (v : Nat) : (s.answer v).fuses = s.fuses := rfl
@[simp] theorem State.answer_nor (s : State) (v : Nat) : (s.answer v).nor = s.nor := rfl
@[simp] theorem State.answer_eng (s : State) (v : Nat) : (s.answer v).eng = s.eng := rfl
@[simp] theorem State.answer_saf (s : State) (v : Nat) : (s.answer v).saf = s.saf := rfl
@[simp] theorem State.answer_pmu (s : State) (v : Nat) : (s.answer v).pmu = s.pmu := rfl
@[simp] theorem State.answer_fw (s : State) (v : Nat) : (s.answer v).fw = s.fw := rfl
@[simp] theorem State.answer_opPools (s : State) (v : Nat) : (s.answer v).opPools = s.opPools := rfl
@[simp] theorem State.answer_cache (s : State) (v : Nat) : (s.answer v).cache = s.cache := rfl
@[simp] theorem State.answer_dramGiB (s : State) (v : Nat) : (s.answer v).dramGiB = s.dramGiB := rfl
@[simp] theorem State.answer_eccPlan (s : State) (v : Nat) : (s.answer v).eccPlan = s.eccPlan := rfl
@[simp] theorem State.answer_servo (s : State) (v : Nat) : (s.answer v).servo = s.servo := rfl
@[simp] theorem State.answer_mer (s : State) (v : Nat) : (s.answer v).mer = s.mer := rfl
@[simp] theorem State.answer_timeIn (s : State) (v : Nat) : (s.answer v).timeIn = s.timeIn := rfl
@[simp] theorem State.answer_trv (s : State) (v : Nat) : (s.answer v).trv = s.trv := rfl
@[simp] theorem State.answer_gfx (s : State) (v : Nat) : (s.answer v).gfx = s.gfx := rfl
@[simp] theorem State.answer_med (s : State) (v : Nat) : (s.answer v).med = s.med := rfl
@[simp] theorem State.answer_gwy (s : State) (v : Nat) : (s.answer v).gwy = s.gwy := rfl
@[simp] theorem State.answer_brg (s : State) (v : Nat) : (s.answer v).brg = s.brg := rfl
@[simp] theorem State.answer_fba (s : State) (v : Nat) : (s.answer v).fba = s.fba := rfl
@[simp] theorem State.answer_jrn (s : State) (v : Nat) : (s.answer v).jrn = s.jrn := rfl
@[simp] theorem State.answer_ufs (s : State) (v : Nat) : (s.answer v).ufs = s.ufs := rfl
@[simp] theorem State.answer_boot (s : State) (v : Nat) : (s.answer v).boot = s.boot := rfl
@[simp] theorem State.answer_dbg (s : State) (v : Nat) : (s.answer v).dbg = s.dbg := rfl
@[simp] theorem State.answer_jtag (s : State) (v : Nat) : (s.answer v).jtag = s.jtag := rfl
@[simp] theorem State.answer_unpub (s : State) (v : Nat) : (s.answer v).unpub = s.unpub := rfl
@[simp] theorem State.answer_get (s : State) (v : Nat) (fld : Field) : (s.answer v).get fld = s.get fld := by simp [State.get]
@[simp] theorem State.answer_bit (s : State) (v : Nat) (fld : Field) : (s.answer v).bit fld = s.bit fld := by simp [State.bit]
@[simp] theorem State.answer_fbGet (s : State) (v : Nat) (ix sub : Nat) : (s.answer v).fbGet ix sub = s.fbGet ix sub := by simp [State.fbGet]

/-! ## report -/

@[simp] theorem State.report_pending (s : State) (c : Nat) : (s.report c).pending = s.pending := rfl
@[simp] theorem State.report_freeCtr (s : State) (c : Nat) : (s.report c).freeCtr = s.freeCtr := rfl
@[simp] theorem State.report_datum (s : State) (c : Nat) : (s.report c).datum = s.datum := rfl
@[simp] theorem State.report_datumFrac (s : State) (c : Nat) : (s.report c).datumFrac = s.datumFrac := rfl
@[simp] theorem State.report_stepSeq (s : State) (c : Nat) : (s.report c).stepSeq = s.stepSeq := rfl
@[simp] theorem State.report_regs (s : State) (c : Nat) : (s.report c).regs = s.regs := rfl
@[simp] theorem State.report_fb (s : State) (c : Nat) : (s.report c).fb = s.fb := rfl
@[simp] theorem State.report_mem (s : State) (c : Nat) : (s.report c).mem = s.mem := rfl
@[simp] theorem State.report_latch (s : State) (c : Nat) : (s.report c).latch = s.latch := rfl
@[simp] theorem State.report_held (s : State) (c : Nat) : (s.report c).held = s.held := rfl
@[simp] theorem State.report_out (s : State) (c : Nat) : (s.report c).out = s.out := rfl
@[simp] theorem State.report_icnSrc (s : State) (c : Nat) : (s.report c).icnSrc = s.icnSrc := rfl
@[simp] theorem State.report_icnTgt (s : State) (c : Nat) : (s.report c).icnTgt = s.icnTgt := rfl
@[simp] theorem State.report_worlds (s : State) (c : Nat) : (s.report c).worlds = s.worlds := rfl
@[simp] theorem State.report_pins (s : State) (c : Nat) : (s.report c).pins = s.pins := rfl
@[simp] theorem State.report_fuses (s : State) (c : Nat) : (s.report c).fuses = s.fuses := rfl
@[simp] theorem State.report_nor (s : State) (c : Nat) : (s.report c).nor = s.nor := rfl
@[simp] theorem State.report_eng (s : State) (c : Nat) : (s.report c).eng = s.eng := rfl
@[simp] theorem State.report_saf (s : State) (c : Nat) : (s.report c).saf = s.saf := rfl
@[simp] theorem State.report_pmu (s : State) (c : Nat) : (s.report c).pmu = s.pmu := rfl
@[simp] theorem State.report_fw (s : State) (c : Nat) : (s.report c).fw = s.fw := rfl
@[simp] theorem State.report_opPools (s : State) (c : Nat) : (s.report c).opPools = s.opPools := rfl
@[simp] theorem State.report_cache (s : State) (c : Nat) : (s.report c).cache = s.cache := rfl
@[simp] theorem State.report_dramGiB (s : State) (c : Nat) : (s.report c).dramGiB = s.dramGiB := rfl
@[simp] theorem State.report_eccPlan (s : State) (c : Nat) : (s.report c).eccPlan = s.eccPlan := rfl
@[simp] theorem State.report_servo (s : State) (c : Nat) : (s.report c).servo = s.servo := rfl
@[simp] theorem State.report_mer (s : State) (c : Nat) : (s.report c).mer = s.mer := rfl
@[simp] theorem State.report_timeIn (s : State) (c : Nat) : (s.report c).timeIn = s.timeIn := rfl
@[simp] theorem State.report_trv (s : State) (c : Nat) : (s.report c).trv = s.trv := rfl
@[simp] theorem State.report_gfx (s : State) (c : Nat) : (s.report c).gfx = s.gfx := rfl
@[simp] theorem State.report_med (s : State) (c : Nat) : (s.report c).med = s.med := rfl
@[simp] theorem State.report_gwy (s : State) (c : Nat) : (s.report c).gwy = s.gwy := rfl
@[simp] theorem State.report_brg (s : State) (c : Nat) : (s.report c).brg = s.brg := rfl
@[simp] theorem State.report_fba (s : State) (c : Nat) : (s.report c).fba = s.fba := rfl
@[simp] theorem State.report_jrn (s : State) (c : Nat) : (s.report c).jrn = s.jrn := rfl
@[simp] theorem State.report_ufs (s : State) (c : Nat) : (s.report c).ufs = s.ufs := rfl
@[simp] theorem State.report_boot (s : State) (c : Nat) : (s.report c).boot = s.boot := rfl
@[simp] theorem State.report_dbg (s : State) (c : Nat) : (s.report c).dbg = s.dbg := rfl
@[simp] theorem State.report_jtag (s : State) (c : Nat) : (s.report c).jtag = s.jtag := rfl
@[simp] theorem State.report_unpub (s : State) (c : Nat) : (s.report c).unpub = s.unpub := rfl
@[simp] theorem State.report_get (s : State) (c : Nat) (fld : Field) : (s.report c).get fld = s.get fld := by simp [State.get]
@[simp] theorem State.report_bit (s : State) (c : Nat) (fld : Field) : (s.report c).bit fld = s.bit fld := by simp [State.bit]
@[simp] theorem State.report_fbGet (s : State) (c : Nat) (ix sub : Nat) : (s.report c).fbGet ix sub = s.fbGet ix sub := by simp [State.fbGet]

/-! ## busError -/

@[simp] theorem State.busError_pending (s : State) : (s.busError).pending = s.pending := rfl
@[simp] theorem State.busError_freeCtr (s : State) : (s.busError).freeCtr = s.freeCtr := rfl
@[simp] theorem State.busError_datum (s : State) : (s.busError).datum = s.datum := rfl
@[simp] theorem State.busError_datumFrac (s : State) : (s.busError).datumFrac = s.datumFrac := rfl
@[simp] theorem State.busError_stepSeq (s : State) : (s.busError).stepSeq = s.stepSeq := rfl
@[simp] theorem State.busError_regs (s : State) : (s.busError).regs = s.regs := rfl
@[simp] theorem State.busError_fb (s : State) : (s.busError).fb = s.fb := rfl
@[simp] theorem State.busError_mem (s : State) : (s.busError).mem = s.mem := rfl
@[simp] theorem State.busError_latch (s : State) : (s.busError).latch = s.latch := rfl
@[simp] theorem State.busError_held (s : State) : (s.busError).held = s.held := rfl
@[simp] theorem State.busError_out (s : State) : (s.busError).out = s.out := rfl
@[simp] theorem State.busError_icnSrc (s : State) : (s.busError).icnSrc = s.icnSrc := rfl
@[simp] theorem State.busError_icnTgt (s : State) : (s.busError).icnTgt = s.icnTgt := rfl
@[simp] theorem State.busError_worlds (s : State) : (s.busError).worlds = s.worlds := rfl
@[simp] theorem State.busError_pins (s : State) : (s.busError).pins = s.pins := rfl
@[simp] theorem State.busError_fuses (s : State) : (s.busError).fuses = s.fuses := rfl
@[simp] theorem State.busError_nor (s : State) : (s.busError).nor = s.nor := rfl
@[simp] theorem State.busError_eng (s : State) : (s.busError).eng = s.eng := rfl
@[simp] theorem State.busError_saf (s : State) : (s.busError).saf = s.saf := rfl
@[simp] theorem State.busError_pmu (s : State) : (s.busError).pmu = s.pmu := rfl
@[simp] theorem State.busError_fw (s : State) : (s.busError).fw = s.fw := rfl
@[simp] theorem State.busError_opPools (s : State) : (s.busError).opPools = s.opPools := rfl
@[simp] theorem State.busError_cache (s : State) : (s.busError).cache = s.cache := rfl
@[simp] theorem State.busError_dramGiB (s : State) : (s.busError).dramGiB = s.dramGiB := rfl
@[simp] theorem State.busError_eccPlan (s : State) : (s.busError).eccPlan = s.eccPlan := rfl
@[simp] theorem State.busError_servo (s : State) : (s.busError).servo = s.servo := rfl
@[simp] theorem State.busError_mer (s : State) : (s.busError).mer = s.mer := rfl
@[simp] theorem State.busError_timeIn (s : State) : (s.busError).timeIn = s.timeIn := rfl
@[simp] theorem State.busError_trv (s : State) : (s.busError).trv = s.trv := rfl
@[simp] theorem State.busError_gfx (s : State) : (s.busError).gfx = s.gfx := rfl
@[simp] theorem State.busError_med (s : State) : (s.busError).med = s.med := rfl
@[simp] theorem State.busError_gwy (s : State) : (s.busError).gwy = s.gwy := rfl
@[simp] theorem State.busError_brg (s : State) : (s.busError).brg = s.brg := rfl
@[simp] theorem State.busError_fba (s : State) : (s.busError).fba = s.fba := rfl
@[simp] theorem State.busError_jrn (s : State) : (s.busError).jrn = s.jrn := rfl
@[simp] theorem State.busError_ufs (s : State) : (s.busError).ufs = s.ufs := rfl
@[simp] theorem State.busError_boot (s : State) : (s.busError).boot = s.boot := rfl
@[simp] theorem State.busError_dbg (s : State) : (s.busError).dbg = s.dbg := rfl
@[simp] theorem State.busError_jtag (s : State) : (s.busError).jtag = s.jtag := rfl
@[simp] theorem State.busError_unpub (s : State) : (s.busError).unpub = s.unpub := rfl
@[simp] theorem State.busError_get (s : State) (fld : Field) : (s.busError).get fld = s.get fld := by simp [State.get]
@[simp] theorem State.busError_bit (s : State) (fld : Field) : (s.busError).bit fld = s.bit fld := by simp [State.bit]
@[simp] theorem State.busError_fbGet (s : State) (ix sub : Nat) : (s.busError).fbGet ix sub = s.fbGet ix sub := by simp [State.fbGet]

/-! ## elapse -/

@[simp] theorem State.elapse_pending (s : State) (n : Nat) : (s.elapse n).pending = s.pending := rfl
@[simp] theorem State.elapse_freeCtr (s : State) (n : Nat) : (s.elapse n).freeCtr = s.freeCtr := rfl
@[simp] theorem State.elapse_stepSeq (s : State) (n : Nat) : (s.elapse n).stepSeq = s.stepSeq := rfl
@[simp] theorem State.elapse_regs (s : State) (n : Nat) : (s.elapse n).regs = s.regs := rfl
@[simp] theorem State.elapse_fb (s : State) (n : Nat) : (s.elapse n).fb = s.fb := rfl
@[simp] theorem State.elapse_mem (s : State) (n : Nat) : (s.elapse n).mem = s.mem := rfl
@[simp] theorem State.elapse_latch (s : State) (n : Nat) : (s.elapse n).latch = s.latch := rfl
@[simp] theorem State.elapse_held (s : State) (n : Nat) : (s.elapse n).held = s.held := rfl
@[simp] theorem State.elapse_resp (s : State) (n : Nat) : (s.elapse n).resp = s.resp := rfl
@[simp] theorem State.elapse_out (s : State) (n : Nat) : (s.elapse n).out = s.out := rfl
@[simp] theorem State.elapse_icnSrc (s : State) (n : Nat) : (s.elapse n).icnSrc = s.icnSrc := rfl
@[simp] theorem State.elapse_icnTgt (s : State) (n : Nat) : (s.elapse n).icnTgt = s.icnTgt := rfl
@[simp] theorem State.elapse_worlds (s : State) (n : Nat) : (s.elapse n).worlds = s.worlds := rfl
@[simp] theorem State.elapse_pins (s : State) (n : Nat) : (s.elapse n).pins = s.pins := rfl
@[simp] theorem State.elapse_fuses (s : State) (n : Nat) : (s.elapse n).fuses = s.fuses := rfl
@[simp] theorem State.elapse_nor (s : State) (n : Nat) : (s.elapse n).nor = s.nor := rfl
@[simp] theorem State.elapse_eng (s : State) (n : Nat) : (s.elapse n).eng = s.eng := rfl
@[simp] theorem State.elapse_saf (s : State) (n : Nat) : (s.elapse n).saf = s.saf := rfl
@[simp] theorem State.elapse_pmu (s : State) (n : Nat) : (s.elapse n).pmu = s.pmu := rfl
@[simp] theorem State.elapse_fw (s : State) (n : Nat) : (s.elapse n).fw = s.fw := rfl
@[simp] theorem State.elapse_opPools (s : State) (n : Nat) : (s.elapse n).opPools = s.opPools := rfl
@[simp] theorem State.elapse_cache (s : State) (n : Nat) : (s.elapse n).cache = s.cache := rfl
@[simp] theorem State.elapse_dramGiB (s : State) (n : Nat) : (s.elapse n).dramGiB = s.dramGiB := rfl
@[simp] theorem State.elapse_eccPlan (s : State) (n : Nat) : (s.elapse n).eccPlan = s.eccPlan := rfl
@[simp] theorem State.elapse_mer (s : State) (n : Nat) : (s.elapse n).mer = s.mer := rfl
@[simp] theorem State.elapse_timeIn (s : State) (n : Nat) : (s.elapse n).timeIn = s.timeIn := rfl
@[simp] theorem State.elapse_trv (s : State) (n : Nat) : (s.elapse n).trv = s.trv := rfl
@[simp] theorem State.elapse_gfx (s : State) (n : Nat) : (s.elapse n).gfx = s.gfx := rfl
@[simp] theorem State.elapse_med (s : State) (n : Nat) : (s.elapse n).med = s.med := rfl
@[simp] theorem State.elapse_gwy (s : State) (n : Nat) : (s.elapse n).gwy = s.gwy := rfl
@[simp] theorem State.elapse_brg (s : State) (n : Nat) : (s.elapse n).brg = s.brg := rfl
@[simp] theorem State.elapse_fba (s : State) (n : Nat) : (s.elapse n).fba = s.fba := rfl
@[simp] theorem State.elapse_jrn (s : State) (n : Nat) : (s.elapse n).jrn = s.jrn := rfl
@[simp] theorem State.elapse_ufs (s : State) (n : Nat) : (s.elapse n).ufs = s.ufs := rfl
@[simp] theorem State.elapse_boot (s : State) (n : Nat) : (s.elapse n).boot = s.boot := rfl
@[simp] theorem State.elapse_dbg (s : State) (n : Nat) : (s.elapse n).dbg = s.dbg := rfl
@[simp] theorem State.elapse_jtag (s : State) (n : Nat) : (s.elapse n).jtag = s.jtag := rfl
@[simp] theorem State.elapse_unpub (s : State) (n : Nat) : (s.elapse n).unpub = s.unpub := rfl
@[simp] theorem State.elapse_get (s : State) (n : Nat) (fld : Field) : (s.elapse n).get fld = s.get fld := by simp [State.get]
@[simp] theorem State.elapse_bit (s : State) (n : Nat) (fld : Field) : (s.elapse n).bit fld = s.bit fld := by simp [State.bit]
@[simp] theorem State.elapse_fbGet (s : State) (n : Nat) (ix sub : Nat) : (s.elapse n).fbGet ix sub = s.fbGet ix sub := by simp [State.fbGet]

/-! ## advanceTo -/

@[simp] theorem State.advanceTo_pending (s : State) (t : Nat) : (s.advanceTo t).pending = s.pending := by unfold State.advanceTo; split <;> rfl
@[simp] theorem State.advanceTo_freeCtr (s : State) (t : Nat) : (s.advanceTo t).freeCtr = s.freeCtr := by unfold State.advanceTo; split <;> rfl
@[simp] theorem State.advanceTo_stepSeq (s : State) (t : Nat) : (s.advanceTo t).stepSeq = s.stepSeq := by unfold State.advanceTo; split <;> rfl
@[simp] theorem State.advanceTo_regs (s : State) (t : Nat) : (s.advanceTo t).regs = s.regs := by unfold State.advanceTo; split <;> rfl
@[simp] theorem State.advanceTo_fb (s : State) (t : Nat) : (s.advanceTo t).fb = s.fb := by unfold State.advanceTo; split <;> rfl
@[simp] theorem State.advanceTo_mem (s : State) (t : Nat) : (s.advanceTo t).mem = s.mem := by unfold State.advanceTo; split <;> rfl
@[simp] theorem State.advanceTo_latch (s : State) (t : Nat) : (s.advanceTo t).latch = s.latch := by unfold State.advanceTo; split <;> rfl
@[simp] theorem State.advanceTo_held (s : State) (t : Nat) : (s.advanceTo t).held = s.held := by unfold State.advanceTo; split <;> rfl
@[simp] theorem State.advanceTo_resp (s : State) (t : Nat) : (s.advanceTo t).resp = s.resp := by unfold State.advanceTo; split <;> rfl
@[simp] theorem State.advanceTo_out (s : State) (t : Nat) : (s.advanceTo t).out = s.out := by unfold State.advanceTo; split <;> rfl
@[simp] theorem State.advanceTo_icnSrc (s : State) (t : Nat) : (s.advanceTo t).icnSrc = s.icnSrc := by unfold State.advanceTo; split <;> rfl
@[simp] theorem State.advanceTo_icnTgt (s : State) (t : Nat) : (s.advanceTo t).icnTgt = s.icnTgt := by unfold State.advanceTo; split <;> rfl
@[simp] theorem State.advanceTo_worlds (s : State) (t : Nat) : (s.advanceTo t).worlds = s.worlds := by unfold State.advanceTo; split <;> rfl
@[simp] theorem State.advanceTo_pins (s : State) (t : Nat) : (s.advanceTo t).pins = s.pins := by unfold State.advanceTo; split <;> rfl
@[simp] theorem State.advanceTo_fuses (s : State) (t : Nat) : (s.advanceTo t).fuses = s.fuses := by unfold State.advanceTo; split <;> rfl
@[simp] theorem State.advanceTo_nor (s : State) (t : Nat) : (s.advanceTo t).nor = s.nor := by unfold State.advanceTo; split <;> rfl
@[simp] theorem State.advanceTo_eng (s : State) (t : Nat) : (s.advanceTo t).eng = s.eng := by unfold State.advanceTo; split <;> rfl
@[simp] theorem State.advanceTo_saf (s : State) (t : Nat) : (s.advanceTo t).saf = s.saf := by unfold State.advanceTo; split <;> rfl
@[simp] theorem State.advanceTo_pmu (s : State) (t : Nat) : (s.advanceTo t).pmu = s.pmu := by unfold State.advanceTo; split <;> rfl
@[simp] theorem State.advanceTo_fw (s : State) (t : Nat) : (s.advanceTo t).fw = s.fw := by unfold State.advanceTo; split <;> rfl
@[simp] theorem State.advanceTo_opPools (s : State) (t : Nat) : (s.advanceTo t).opPools = s.opPools := by unfold State.advanceTo; split <;> rfl
@[simp] theorem State.advanceTo_cache (s : State) (t : Nat) : (s.advanceTo t).cache = s.cache := by unfold State.advanceTo; split <;> rfl
@[simp] theorem State.advanceTo_dramGiB (s : State) (t : Nat) : (s.advanceTo t).dramGiB = s.dramGiB := by unfold State.advanceTo; split <;> rfl
@[simp] theorem State.advanceTo_eccPlan (s : State) (t : Nat) : (s.advanceTo t).eccPlan = s.eccPlan := by unfold State.advanceTo; split <;> rfl
@[simp] theorem State.advanceTo_mer (s : State) (t : Nat) : (s.advanceTo t).mer = s.mer := by unfold State.advanceTo; split <;> rfl
@[simp] theorem State.advanceTo_timeIn (s : State) (t : Nat) : (s.advanceTo t).timeIn = s.timeIn := by unfold State.advanceTo; split <;> rfl
@[simp] theorem State.advanceTo_trv (s : State) (t : Nat) : (s.advanceTo t).trv = s.trv := by unfold State.advanceTo; split <;> rfl
@[simp] theorem State.advanceTo_gfx (s : State) (t : Nat) : (s.advanceTo t).gfx = s.gfx := by unfold State.advanceTo; split <;> rfl
@[simp] theorem State.advanceTo_med (s : State) (t : Nat) : (s.advanceTo t).med = s.med := by unfold State.advanceTo; split <;> rfl
@[simp] theorem State.advanceTo_gwy (s : State) (t : Nat) : (s.advanceTo t).gwy = s.gwy := by unfold State.advanceTo; split <;> rfl
@[simp] theorem State.advanceTo_brg (s : State) (t : Nat) : (s.advanceTo t).brg = s.brg := by unfold State.advanceTo; split <;> rfl
@[simp] theorem State.advanceTo_fba (s : State) (t : Nat) : (s.advanceTo t).fba = s.fba := by unfold State.advanceTo; split <;> rfl
@[simp] theorem State.advanceTo_jrn (s : State) (t : Nat) : (s.advanceTo t).jrn = s.jrn := by unfold State.advanceTo; split <;> rfl
@[simp] theorem State.advanceTo_ufs (s : State) (t : Nat) : (s.advanceTo t).ufs = s.ufs := by unfold State.advanceTo; split <;> rfl
@[simp] theorem State.advanceTo_boot (s : State) (t : Nat) : (s.advanceTo t).boot = s.boot := by unfold State.advanceTo; split <;> rfl
@[simp] theorem State.advanceTo_dbg (s : State) (t : Nat) : (s.advanceTo t).dbg = s.dbg := by unfold State.advanceTo; split <;> rfl
@[simp] theorem State.advanceTo_jtag (s : State) (t : Nat) : (s.advanceTo t).jtag = s.jtag := by unfold State.advanceTo; split <;> rfl
@[simp] theorem State.advanceTo_unpub (s : State) (t : Nat) : (s.advanceTo t).unpub = s.unpub := by unfold State.advanceTo; split <;> rfl
@[simp] theorem State.advanceTo_get (s : State) (t : Nat) (fld : Field) : (s.advanceTo t).get fld = s.get fld := by simp [State.get]
@[simp] theorem State.advanceTo_bit (s : State) (t : Nat) (fld : Field) : (s.advanceTo t).bit fld = s.bit fld := by simp [State.bit]
@[simp] theorem State.advanceTo_fbGet (s : State) (t : Nat) (ix sub : Nat) : (s.advanceTo t).fbGet ix sub = s.fbGet ix sub := by simp [State.fbGet]

/-! ## freeNat -/

@[simp] theorem State.freeNat_pending (s : State) : (s.freeNat.2).pending = s.pending := rfl
@[simp] theorem State.freeNat_datum (s : State) : (s.freeNat.2).datum = s.datum := rfl
@[simp] theorem State.freeNat_datumFrac (s : State) : (s.freeNat.2).datumFrac = s.datumFrac := rfl
@[simp] theorem State.freeNat_stepSeq (s : State) : (s.freeNat.2).stepSeq = s.stepSeq := rfl
@[simp] theorem State.freeNat_regs (s : State) : (s.freeNat.2).regs = s.regs := rfl
@[simp] theorem State.freeNat_fb (s : State) : (s.freeNat.2).fb = s.fb := rfl
@[simp] theorem State.freeNat_mem (s : State) : (s.freeNat.2).mem = s.mem := rfl
@[simp] theorem State.freeNat_latch (s : State) : (s.freeNat.2).latch = s.latch := rfl
@[simp] theorem State.freeNat_held (s : State) : (s.freeNat.2).held = s.held := rfl
@[simp] theorem State.freeNat_resp (s : State) : (s.freeNat.2).resp = s.resp := rfl
@[simp] theorem State.freeNat_out (s : State) : (s.freeNat.2).out = s.out := rfl
@[simp] theorem State.freeNat_icnSrc (s : State) : (s.freeNat.2).icnSrc = s.icnSrc := rfl
@[simp] theorem State.freeNat_icnTgt (s : State) : (s.freeNat.2).icnTgt = s.icnTgt := rfl
@[simp] theorem State.freeNat_worlds (s : State) : (s.freeNat.2).worlds = s.worlds := rfl
@[simp] theorem State.freeNat_pins (s : State) : (s.freeNat.2).pins = s.pins := rfl
@[simp] theorem State.freeNat_fuses (s : State) : (s.freeNat.2).fuses = s.fuses := rfl
@[simp] theorem State.freeNat_nor (s : State) : (s.freeNat.2).nor = s.nor := rfl
@[simp] theorem State.freeNat_eng (s : State) : (s.freeNat.2).eng = s.eng := rfl
@[simp] theorem State.freeNat_saf (s : State) : (s.freeNat.2).saf = s.saf := rfl
@[simp] theorem State.freeNat_pmu (s : State) : (s.freeNat.2).pmu = s.pmu := rfl
@[simp] theorem State.freeNat_fw (s : State) : (s.freeNat.2).fw = s.fw := rfl
@[simp] theorem State.freeNat_opPools (s : State) : (s.freeNat.2).opPools = s.opPools := rfl
@[simp] theorem State.freeNat_cache (s : State) : (s.freeNat.2).cache = s.cache := rfl
@[simp] theorem State.freeNat_dramGiB (s : State) : (s.freeNat.2).dramGiB = s.dramGiB := rfl
@[simp] theorem State.freeNat_eccPlan (s : State) : (s.freeNat.2).eccPlan = s.eccPlan := rfl
@[simp] theorem State.freeNat_servo (s : State) : (s.freeNat.2).servo = s.servo := rfl
@[simp] theorem State.freeNat_mer (s : State) : (s.freeNat.2).mer = s.mer := rfl
@[simp] theorem State.freeNat_timeIn (s : State) : (s.freeNat.2).timeIn = s.timeIn := rfl
@[simp] theorem State.freeNat_trv (s : State) : (s.freeNat.2).trv = s.trv := rfl
@[simp] theorem State.freeNat_gfx (s : State) : (s.freeNat.2).gfx = s.gfx := rfl
@[simp] theorem State.freeNat_med (s : State) : (s.freeNat.2).med = s.med := rfl
@[simp] theorem State.freeNat_gwy (s : State) : (s.freeNat.2).gwy = s.gwy := rfl
@[simp] theorem State.freeNat_brg (s : State) : (s.freeNat.2).brg = s.brg := rfl
@[simp] theorem State.freeNat_fba (s : State) : (s.freeNat.2).fba = s.fba := rfl
@[simp] theorem State.freeNat_jrn (s : State) : (s.freeNat.2).jrn = s.jrn := rfl
@[simp] theorem State.freeNat_ufs (s : State) : (s.freeNat.2).ufs = s.ufs := rfl
@[simp] theorem State.freeNat_boot (s : State) : (s.freeNat.2).boot = s.boot := rfl
@[simp] theorem State.freeNat_dbg (s : State) : (s.freeNat.2).dbg = s.dbg := rfl
@[simp] theorem State.freeNat_jtag (s : State) : (s.freeNat.2).jtag = s.jtag := rfl
@[simp] theorem State.freeNat_unpub (s : State) : (s.freeNat.2).unpub = s.unpub := rfl
@[simp] theorem State.freeNat_get (s : State) (fld : Field) : (s.freeNat.2).get fld = s.get fld := by simp [State.get]
@[simp] theorem State.freeNat_bit (s : State) (fld : Field) : (s.freeNat.2).bit fld = s.bit fld := by simp [State.bit]
@[simp] theorem State.freeNat_fbGet (s : State) (ix sub : Nat) : (s.freeNat.2).fbGet ix sub = s.fbGet ix sub := by simp [State.fbGet]

/-! ## setServo -/

@[simp] theorem State.setServo_pending (s : State) (v : Servo) : (s.setServo v).pending = s.pending := rfl
@[simp] theorem State.setServo_freeCtr (s : State) (v : Servo) : (s.setServo v).freeCtr = s.freeCtr := rfl
@[simp] theorem State.setServo_datum (s : State) (v : Servo) : (s.setServo v).datum = s.datum := rfl
@[simp] theorem State.setServo_datumFrac (s : State) (v : Servo) : (s.setServo v).datumFrac = s.datumFrac := rfl
@[simp] theorem State.setServo_stepSeq (s : State) (v : Servo) : (s.setServo v).stepSeq = s.stepSeq := rfl
@[simp] theorem State.setServo_regs (s : State) (v : Servo) : (s.setServo v).regs = s.regs := rfl
@[simp] theorem State.setServo_fb (s : State) (v : Servo) : (s.setServo v).fb = s.fb := rfl
@[simp] theorem State.setServo_mem (s : State) (v : Servo) : (s.setServo v).mem = s.mem := rfl
@[simp] theorem State.setServo_latch (s : State) (v : Servo) : (s.setServo v).latch = s.latch := rfl
@[simp] theorem State.setServo_held (s : State) (v : Servo) : (s.setServo v).held = s.held := rfl
@[simp] theorem State.setServo_resp (s : State) (v : Servo) : (s.setServo v).resp = s.resp := rfl
@[simp] theorem State.setServo_out (s : State) (v : Servo) : (s.setServo v).out = s.out := rfl
@[simp] theorem State.setServo_icnSrc (s : State) (v : Servo) : (s.setServo v).icnSrc = s.icnSrc := rfl
@[simp] theorem State.setServo_icnTgt (s : State) (v : Servo) : (s.setServo v).icnTgt = s.icnTgt := rfl
@[simp] theorem State.setServo_worlds (s : State) (v : Servo) : (s.setServo v).worlds = s.worlds := rfl
@[simp] theorem State.setServo_pins (s : State) (v : Servo) : (s.setServo v).pins = s.pins := rfl
@[simp] theorem State.setServo_fuses (s : State) (v : Servo) : (s.setServo v).fuses = s.fuses := rfl
@[simp] theorem State.setServo_nor (s : State) (v : Servo) : (s.setServo v).nor = s.nor := rfl
@[simp] theorem State.setServo_eng (s : State) (v : Servo) : (s.setServo v).eng = s.eng := rfl
@[simp] theorem State.setServo_saf (s : State) (v : Servo) : (s.setServo v).saf = s.saf := rfl
@[simp] theorem State.setServo_pmu (s : State) (v : Servo) : (s.setServo v).pmu = s.pmu := rfl
@[simp] theorem State.setServo_fw (s : State) (v : Servo) : (s.setServo v).fw = s.fw := rfl
@[simp] theorem State.setServo_opPools (s : State) (v : Servo) : (s.setServo v).opPools = s.opPools := rfl
@[simp] theorem State.setServo_cache (s : State) (v : Servo) : (s.setServo v).cache = s.cache := rfl
@[simp] theorem State.setServo_dramGiB (s : State) (v : Servo) : (s.setServo v).dramGiB = s.dramGiB := rfl
@[simp] theorem State.setServo_eccPlan (s : State) (v : Servo) : (s.setServo v).eccPlan = s.eccPlan := rfl
@[simp] theorem State.setServo_mer (s : State) (v : Servo) : (s.setServo v).mer = s.mer := rfl
@[simp] theorem State.setServo_timeIn (s : State) (v : Servo) : (s.setServo v).timeIn = s.timeIn := rfl
@[simp] theorem State.setServo_trv (s : State) (v : Servo) : (s.setServo v).trv = s.trv := rfl
@[simp] theorem State.setServo_gfx (s : State) (v : Servo) : (s.setServo v).gfx = s.gfx := rfl
@[simp] theorem State.setServo_med (s : State) (v : Servo) : (s.setServo v).med = s.med := rfl
@[simp] theorem State.setServo_gwy (s : State) (v : Servo) : (s.setServo v).gwy = s.gwy := rfl
@[simp] theorem State.setServo_brg (s : State) (v : Servo) : (s.setServo v).brg = s.brg := rfl
@[simp] theorem State.setServo_fba (s : State) (v : Servo) : (s.setServo v).fba = s.fba := rfl
@[simp] theorem State.setServo_jrn (s : State) (v : Servo) : (s.setServo v).jrn = s.jrn := rfl
@[simp] theorem State.setServo_ufs (s : State) (v : Servo) : (s.setServo v).ufs = s.ufs := rfl
@[simp] theorem State.setServo_boot (s : State) (v : Servo) : (s.setServo v).boot = s.boot := rfl
@[simp] theorem State.setServo_dbg (s : State) (v : Servo) : (s.setServo v).dbg = s.dbg := rfl
@[simp] theorem State.setServo_jtag (s : State) (v : Servo) : (s.setServo v).jtag = s.jtag := rfl
@[simp] theorem State.setServo_unpub (s : State) (v : Servo) : (s.setServo v).unpub = s.unpub := rfl
@[simp] theorem State.setServo_get (s : State) (v : Servo) (fld : Field) : (s.setServo v).get fld = s.get fld := by simp [State.get]
@[simp] theorem State.setServo_bit (s : State) (v : Servo) (fld : Field) : (s.setServo v).bit fld = s.bit fld := by simp [State.bit]
@[simp] theorem State.setServo_fbGet (s : State) (v : Servo) (ix sub : Nat) : (s.setServo v).fbGet ix sub = s.fbGet ix sub := by simp [State.fbGet]

/-! ## setTin -/

@[simp] theorem State.setTin_pending (s : State) (n : Nat) (r : TimeIn) : (s.setTin n r).pending = s.pending := rfl
@[simp] theorem State.setTin_freeCtr (s : State) (n : Nat) (r : TimeIn) : (s.setTin n r).freeCtr = s.freeCtr := rfl
@[simp] theorem State.setTin_datum (s : State) (n : Nat) (r : TimeIn) : (s.setTin n r).datum = s.datum := rfl
@[simp] theorem State.setTin_datumFrac (s : State) (n : Nat) (r : TimeIn) : (s.setTin n r).datumFrac = s.datumFrac := rfl
@[simp] theorem State.setTin_stepSeq (s : State) (n : Nat) (r : TimeIn) : (s.setTin n r).stepSeq = s.stepSeq := rfl
@[simp] theorem State.setTin_fb (s : State) (n : Nat) (r : TimeIn) : (s.setTin n r).fb = s.fb := rfl
@[simp] theorem State.setTin_mem (s : State) (n : Nat) (r : TimeIn) : (s.setTin n r).mem = s.mem := rfl
@[simp] theorem State.setTin_latch (s : State) (n : Nat) (r : TimeIn) : (s.setTin n r).latch = s.latch := rfl
@[simp] theorem State.setTin_held (s : State) (n : Nat) (r : TimeIn) : (s.setTin n r).held = s.held := rfl
@[simp] theorem State.setTin_resp (s : State) (n : Nat) (r : TimeIn) : (s.setTin n r).resp = s.resp := rfl
@[simp] theorem State.setTin_out (s : State) (n : Nat) (r : TimeIn) : (s.setTin n r).out = s.out := rfl
@[simp] theorem State.setTin_icnSrc (s : State) (n : Nat) (r : TimeIn) : (s.setTin n r).icnSrc = s.icnSrc := rfl
@[simp] theorem State.setTin_icnTgt (s : State) (n : Nat) (r : TimeIn) : (s.setTin n r).icnTgt = s.icnTgt := rfl
@[simp] theorem State.setTin_worlds (s : State) (n : Nat) (r : TimeIn) : (s.setTin n r).worlds = s.worlds := rfl
@[simp] theorem State.setTin_pins (s : State) (n : Nat) (r : TimeIn) : (s.setTin n r).pins = s.pins := rfl
@[simp] theorem State.setTin_fuses (s : State) (n : Nat) (r : TimeIn) : (s.setTin n r).fuses = s.fuses := rfl
@[simp] theorem State.setTin_nor (s : State) (n : Nat) (r : TimeIn) : (s.setTin n r).nor = s.nor := rfl
@[simp] theorem State.setTin_eng (s : State) (n : Nat) (r : TimeIn) : (s.setTin n r).eng = s.eng := rfl
@[simp] theorem State.setTin_saf (s : State) (n : Nat) (r : TimeIn) : (s.setTin n r).saf = s.saf := rfl
@[simp] theorem State.setTin_pmu (s : State) (n : Nat) (r : TimeIn) : (s.setTin n r).pmu = s.pmu := rfl
@[simp] theorem State.setTin_fw (s : State) (n : Nat) (r : TimeIn) : (s.setTin n r).fw = s.fw := rfl
@[simp] theorem State.setTin_opPools (s : State) (n : Nat) (r : TimeIn) : (s.setTin n r).opPools = s.opPools := rfl
@[simp] theorem State.setTin_cache (s : State) (n : Nat) (r : TimeIn) : (s.setTin n r).cache = s.cache := rfl
@[simp] theorem State.setTin_dramGiB (s : State) (n : Nat) (r : TimeIn) : (s.setTin n r).dramGiB = s.dramGiB := rfl
@[simp] theorem State.setTin_eccPlan (s : State) (n : Nat) (r : TimeIn) : (s.setTin n r).eccPlan = s.eccPlan := rfl
@[simp] theorem State.setTin_servo (s : State) (n : Nat) (r : TimeIn) : (s.setTin n r).servo = s.servo := rfl
@[simp] theorem State.setTin_mer (s : State) (n : Nat) (r : TimeIn) : (s.setTin n r).mer = s.mer := rfl
@[simp] theorem State.setTin_trv (s : State) (n : Nat) (r : TimeIn) : (s.setTin n r).trv = s.trv := rfl
@[simp] theorem State.setTin_gfx (s : State) (n : Nat) (r : TimeIn) : (s.setTin n r).gfx = s.gfx := rfl
@[simp] theorem State.setTin_med (s : State) (n : Nat) (r : TimeIn) : (s.setTin n r).med = s.med := rfl
@[simp] theorem State.setTin_gwy (s : State) (n : Nat) (r : TimeIn) : (s.setTin n r).gwy = s.gwy := rfl
@[simp] theorem State.setTin_brg (s : State) (n : Nat) (r : TimeIn) : (s.setTin n r).brg = s.brg := rfl
@[simp] theorem State.setTin_fba (s : State) (n : Nat) (r : TimeIn) : (s.setTin n r).fba = s.fba := rfl
@[simp] theorem State.setTin_jrn (s : State) (n : Nat) (r : TimeIn) : (s.setTin n r).jrn = s.jrn := rfl
@[simp] theorem State.setTin_ufs (s : State) (n : Nat) (r : TimeIn) : (s.setTin n r).ufs = s.ufs := rfl
@[simp] theorem State.setTin_boot (s : State) (n : Nat) (r : TimeIn) : (s.setTin n r).boot = s.boot := rfl
@[simp] theorem State.setTin_dbg (s : State) (n : Nat) (r : TimeIn) : (s.setTin n r).dbg = s.dbg := rfl
@[simp] theorem State.setTin_jtag (s : State) (n : Nat) (r : TimeIn) : (s.setTin n r).jtag = s.jtag := rfl
@[simp] theorem State.setTin_unpub (s : State) (n : Nat) (r : TimeIn) : (s.setTin n r).unpub = s.unpub := rfl
@[simp] theorem State.setTin_fbGet (s : State) (n : Nat) (r : TimeIn) (ix sub : Nat) : (s.setTin n r).fbGet ix sub = s.fbGet ix sub := by simp [State.fbGet]

/-! ## setSrc -/

@[simp] theorem State.setSrc_pending (s : State) (i : Nat) (r : IcnSrc) : (s.setSrc i r).pending = s.pending := rfl
@[simp] theorem State.setSrc_freeCtr (s : State) (i : Nat) (r : IcnSrc) : (s.setSrc i r).freeCtr = s.freeCtr := rfl
@[simp] theorem State.setSrc_datum (s : State) (i : Nat) (r : IcnSrc) : (s.setSrc i r).datum = s.datum := rfl
@[simp] theorem State.setSrc_datumFrac (s : State) (i : Nat) (r : IcnSrc) : (s.setSrc i r).datumFrac = s.datumFrac := rfl
@[simp] theorem State.setSrc_stepSeq (s : State) (i : Nat) (r : IcnSrc) : (s.setSrc i r).stepSeq = s.stepSeq := rfl
@[simp] theorem State.setSrc_regs (s : State) (i : Nat) (r : IcnSrc) : (s.setSrc i r).regs = s.regs := rfl
@[simp] theorem State.setSrc_fb (s : State) (i : Nat) (r : IcnSrc) : (s.setSrc i r).fb = s.fb := rfl
@[simp] theorem State.setSrc_mem (s : State) (i : Nat) (r : IcnSrc) : (s.setSrc i r).mem = s.mem := rfl
@[simp] theorem State.setSrc_latch (s : State) (i : Nat) (r : IcnSrc) : (s.setSrc i r).latch = s.latch := rfl
@[simp] theorem State.setSrc_held (s : State) (i : Nat) (r : IcnSrc) : (s.setSrc i r).held = s.held := rfl
@[simp] theorem State.setSrc_resp (s : State) (i : Nat) (r : IcnSrc) : (s.setSrc i r).resp = s.resp := rfl
@[simp] theorem State.setSrc_out (s : State) (i : Nat) (r : IcnSrc) : (s.setSrc i r).out = s.out := rfl
@[simp] theorem State.setSrc_icnTgt (s : State) (i : Nat) (r : IcnSrc) : (s.setSrc i r).icnTgt = s.icnTgt := rfl
@[simp] theorem State.setSrc_worlds (s : State) (i : Nat) (r : IcnSrc) : (s.setSrc i r).worlds = s.worlds := rfl
@[simp] theorem State.setSrc_pins (s : State) (i : Nat) (r : IcnSrc) : (s.setSrc i r).pins = s.pins := rfl
@[simp] theorem State.setSrc_fuses (s : State) (i : Nat) (r : IcnSrc) : (s.setSrc i r).fuses = s.fuses := rfl
@[simp] theorem State.setSrc_nor (s : State) (i : Nat) (r : IcnSrc) : (s.setSrc i r).nor = s.nor := rfl
@[simp] theorem State.setSrc_eng (s : State) (i : Nat) (r : IcnSrc) : (s.setSrc i r).eng = s.eng := rfl
@[simp] theorem State.setSrc_saf (s : State) (i : Nat) (r : IcnSrc) : (s.setSrc i r).saf = s.saf := rfl
@[simp] theorem State.setSrc_pmu (s : State) (i : Nat) (r : IcnSrc) : (s.setSrc i r).pmu = s.pmu := rfl
@[simp] theorem State.setSrc_fw (s : State) (i : Nat) (r : IcnSrc) : (s.setSrc i r).fw = s.fw := rfl
@[simp] theorem State.setSrc_opPools (s : State) (i : Nat) (r : IcnSrc) : (s.setSrc i r).opPools = s.opPools := rfl
@[simp] theorem State.setSrc_cache (s : State) (i : Nat) (r : IcnSrc) : (s.setSrc i r).cache = s.cache := rfl
@[simp] theorem State.setSrc_dramGiB (s : State) (i : Nat) (r : IcnSrc) : (s.setSrc i r).dramGiB = s.dramGiB := rfl
@[simp] theorem State.setSrc_eccPlan (s : State) (i : Nat) (r : IcnSrc) : (s.setSrc i r).eccPlan = s.eccPlan := rfl
@[simp] theorem State.setSrc_servo (s : State) (i : Nat) (r : IcnSrc) : (s.setSrc i r).servo = s.servo := rfl
@[simp] theorem State.setSrc_mer (s : State) (i : Nat) (r : IcnSrc) : (s.setSrc i r).mer = s.mer := rfl
@[simp] theorem State.setSrc_timeIn (s : State) (i : Nat) (r : IcnSrc) : (s.setSrc i r).timeIn = s.timeIn := rfl
@[simp] theorem State.setSrc_trv (s : State) (i : Nat) (r : IcnSrc) : (s.setSrc i r).trv = s.trv := rfl
@[simp] theorem State.setSrc_gfx (s : State) (i : Nat) (r : IcnSrc) : (s.setSrc i r).gfx = s.gfx := rfl
@[simp] theorem State.setSrc_med (s : State) (i : Nat) (r : IcnSrc) : (s.setSrc i r).med = s.med := rfl
@[simp] theorem State.setSrc_gwy (s : State) (i : Nat) (r : IcnSrc) : (s.setSrc i r).gwy = s.gwy := rfl
@[simp] theorem State.setSrc_brg (s : State) (i : Nat) (r : IcnSrc) : (s.setSrc i r).brg = s.brg := rfl
@[simp] theorem State.setSrc_fba (s : State) (i : Nat) (r : IcnSrc) : (s.setSrc i r).fba = s.fba := rfl
@[simp] theorem State.setSrc_jrn (s : State) (i : Nat) (r : IcnSrc) : (s.setSrc i r).jrn = s.jrn := rfl
@[simp] theorem State.setSrc_ufs (s : State) (i : Nat) (r : IcnSrc) : (s.setSrc i r).ufs = s.ufs := rfl
@[simp] theorem State.setSrc_boot (s : State) (i : Nat) (r : IcnSrc) : (s.setSrc i r).boot = s.boot := rfl
@[simp] theorem State.setSrc_dbg (s : State) (i : Nat) (r : IcnSrc) : (s.setSrc i r).dbg = s.dbg := rfl
@[simp] theorem State.setSrc_jtag (s : State) (i : Nat) (r : IcnSrc) : (s.setSrc i r).jtag = s.jtag := rfl
@[simp] theorem State.setSrc_unpub (s : State) (i : Nat) (r : IcnSrc) : (s.setSrc i r).unpub = s.unpub := rfl
@[simp] theorem State.setSrc_get (s : State) (i : Nat) (r : IcnSrc) (fld : Field) : (s.setSrc i r).get fld = s.get fld := by simp [State.get]
@[simp] theorem State.setSrc_bit (s : State) (i : Nat) (r : IcnSrc) (fld : Field) : (s.setSrc i r).bit fld = s.bit fld := by simp [State.bit]
@[simp] theorem State.setSrc_fbGet (s : State) (i : Nat) (r : IcnSrc) (ix sub : Nat) : (s.setSrc i r).fbGet ix sub = s.fbGet ix sub := by simp [State.fbGet]

/-! ## setTgt -/

@[simp] theorem State.setTgt_pending (s : State) (t : Nat) (r : IcnTgt) : (s.setTgt t r).pending = s.pending := rfl
@[simp] theorem State.setTgt_freeCtr (s : State) (t : Nat) (r : IcnTgt) : (s.setTgt t r).freeCtr = s.freeCtr := rfl
@[simp] theorem State.setTgt_datum (s : State) (t : Nat) (r : IcnTgt) : (s.setTgt t r).datum = s.datum := rfl
@[simp] theorem State.setTgt_datumFrac (s : State) (t : Nat) (r : IcnTgt) : (s.setTgt t r).datumFrac = s.datumFrac := rfl
@[simp] theorem State.setTgt_stepSeq (s : State) (t : Nat) (r : IcnTgt) : (s.setTgt t r).stepSeq = s.stepSeq := rfl
@[simp] theorem State.setTgt_regs (s : State) (t : Nat) (r : IcnTgt) : (s.setTgt t r).regs = s.regs := rfl
@[simp] theorem State.setTgt_fb (s : State) (t : Nat) (r : IcnTgt) : (s.setTgt t r).fb = s.fb := rfl
@[simp] theorem State.setTgt_mem (s : State) (t : Nat) (r : IcnTgt) : (s.setTgt t r).mem = s.mem := rfl
@[simp] theorem State.setTgt_latch (s : State) (t : Nat) (r : IcnTgt) : (s.setTgt t r).latch = s.latch := rfl
@[simp] theorem State.setTgt_held (s : State) (t : Nat) (r : IcnTgt) : (s.setTgt t r).held = s.held := rfl
@[simp] theorem State.setTgt_resp (s : State) (t : Nat) (r : IcnTgt) : (s.setTgt t r).resp = s.resp := rfl
@[simp] theorem State.setTgt_out (s : State) (t : Nat) (r : IcnTgt) : (s.setTgt t r).out = s.out := rfl
@[simp] theorem State.setTgt_icnSrc (s : State) (t : Nat) (r : IcnTgt) : (s.setTgt t r).icnSrc = s.icnSrc := rfl
@[simp] theorem State.setTgt_worlds (s : State) (t : Nat) (r : IcnTgt) : (s.setTgt t r).worlds = s.worlds := rfl
@[simp] theorem State.setTgt_pins (s : State) (t : Nat) (r : IcnTgt) : (s.setTgt t r).pins = s.pins := rfl
@[simp] theorem State.setTgt_fuses (s : State) (t : Nat) (r : IcnTgt) : (s.setTgt t r).fuses = s.fuses := rfl
@[simp] theorem State.setTgt_nor (s : State) (t : Nat) (r : IcnTgt) : (s.setTgt t r).nor = s.nor := rfl
@[simp] theorem State.setTgt_eng (s : State) (t : Nat) (r : IcnTgt) : (s.setTgt t r).eng = s.eng := rfl
@[simp] theorem State.setTgt_saf (s : State) (t : Nat) (r : IcnTgt) : (s.setTgt t r).saf = s.saf := rfl
@[simp] theorem State.setTgt_pmu (s : State) (t : Nat) (r : IcnTgt) : (s.setTgt t r).pmu = s.pmu := rfl
@[simp] theorem State.setTgt_fw (s : State) (t : Nat) (r : IcnTgt) : (s.setTgt t r).fw = s.fw := rfl
@[simp] theorem State.setTgt_opPools (s : State) (t : Nat) (r : IcnTgt) : (s.setTgt t r).opPools = s.opPools := rfl
@[simp] theorem State.setTgt_cache (s : State) (t : Nat) (r : IcnTgt) : (s.setTgt t r).cache = s.cache := rfl
@[simp] theorem State.setTgt_dramGiB (s : State) (t : Nat) (r : IcnTgt) : (s.setTgt t r).dramGiB = s.dramGiB := rfl
@[simp] theorem State.setTgt_eccPlan (s : State) (t : Nat) (r : IcnTgt) : (s.setTgt t r).eccPlan = s.eccPlan := rfl
@[simp] theorem State.setTgt_servo (s : State) (t : Nat) (r : IcnTgt) : (s.setTgt t r).servo = s.servo := rfl
@[simp] theorem State.setTgt_mer (s : State) (t : Nat) (r : IcnTgt) : (s.setTgt t r).mer = s.mer := rfl
@[simp] theorem State.setTgt_timeIn (s : State) (t : Nat) (r : IcnTgt) : (s.setTgt t r).timeIn = s.timeIn := rfl
@[simp] theorem State.setTgt_trv (s : State) (t : Nat) (r : IcnTgt) : (s.setTgt t r).trv = s.trv := rfl
@[simp] theorem State.setTgt_gfx (s : State) (t : Nat) (r : IcnTgt) : (s.setTgt t r).gfx = s.gfx := rfl
@[simp] theorem State.setTgt_med (s : State) (t : Nat) (r : IcnTgt) : (s.setTgt t r).med = s.med := rfl
@[simp] theorem State.setTgt_gwy (s : State) (t : Nat) (r : IcnTgt) : (s.setTgt t r).gwy = s.gwy := rfl
@[simp] theorem State.setTgt_brg (s : State) (t : Nat) (r : IcnTgt) : (s.setTgt t r).brg = s.brg := rfl
@[simp] theorem State.setTgt_fba (s : State) (t : Nat) (r : IcnTgt) : (s.setTgt t r).fba = s.fba := rfl
@[simp] theorem State.setTgt_jrn (s : State) (t : Nat) (r : IcnTgt) : (s.setTgt t r).jrn = s.jrn := rfl
@[simp] theorem State.setTgt_ufs (s : State) (t : Nat) (r : IcnTgt) : (s.setTgt t r).ufs = s.ufs := rfl
@[simp] theorem State.setTgt_boot (s : State) (t : Nat) (r : IcnTgt) : (s.setTgt t r).boot = s.boot := rfl
@[simp] theorem State.setTgt_dbg (s : State) (t : Nat) (r : IcnTgt) : (s.setTgt t r).dbg = s.dbg := rfl
@[simp] theorem State.setTgt_jtag (s : State) (t : Nat) (r : IcnTgt) : (s.setTgt t r).jtag = s.jtag := rfl
@[simp] theorem State.setTgt_unpub (s : State) (t : Nat) (r : IcnTgt) : (s.setTgt t r).unpub = s.unpub := rfl
@[simp] theorem State.setTgt_get (s : State) (t : Nat) (r : IcnTgt) (fld : Field) : (s.setTgt t r).get fld = s.get fld := by simp [State.get]
@[simp] theorem State.setTgt_bit (s : State) (t : Nat) (r : IcnTgt) (fld : Field) : (s.setTgt t r).bit fld = s.bit fld := by simp [State.bit]
@[simp] theorem State.setTgt_fbGet (s : State) (t : Nat) (r : IcnTgt) (ix sub : Nat) : (s.setTgt t r).fbGet ix sub = s.fbGet ix sub := by simp [State.fbGet]

/-! ## setJob -/

@[simp] theorem State.setJob_pending (s : State) (k : Nat) (j : Job) : (s.setJob k j).pending = s.pending := rfl
@[simp] theorem State.setJob_freeCtr (s : State) (k : Nat) (j : Job) : (s.setJob k j).freeCtr = s.freeCtr := rfl
@[simp] theorem State.setJob_datum (s : State) (k : Nat) (j : Job) : (s.setJob k j).datum = s.datum := rfl
@[simp] theorem State.setJob_datumFrac (s : State) (k : Nat) (j : Job) : (s.setJob k j).datumFrac = s.datumFrac := rfl
@[simp] theorem State.setJob_stepSeq (s : State) (k : Nat) (j : Job) : (s.setJob k j).stepSeq = s.stepSeq := rfl
@[simp] theorem State.setJob_regs (s : State) (k : Nat) (j : Job) : (s.setJob k j).regs = s.regs := rfl
@[simp] theorem State.setJob_fb (s : State) (k : Nat) (j : Job) : (s.setJob k j).fb = s.fb := rfl
@[simp] theorem State.setJob_mem (s : State) (k : Nat) (j : Job) : (s.setJob k j).mem = s.mem := rfl
@[simp] theorem State.setJob_latch (s : State) (k : Nat) (j : Job) : (s.setJob k j).latch = s.latch := rfl
@[simp] theorem State.setJob_held (s : State) (k : Nat) (j : Job) : (s.setJob k j).held = s.held := rfl
@[simp] theorem State.setJob_resp (s : State) (k : Nat) (j : Job) : (s.setJob k j).resp = s.resp := rfl
@[simp] theorem State.setJob_out (s : State) (k : Nat) (j : Job) : (s.setJob k j).out = s.out := rfl
@[simp] theorem State.setJob_icnSrc (s : State) (k : Nat) (j : Job) : (s.setJob k j).icnSrc = s.icnSrc := rfl
@[simp] theorem State.setJob_icnTgt (s : State) (k : Nat) (j : Job) : (s.setJob k j).icnTgt = s.icnTgt := rfl
@[simp] theorem State.setJob_worlds (s : State) (k : Nat) (j : Job) : (s.setJob k j).worlds = s.worlds := rfl
@[simp] theorem State.setJob_pins (s : State) (k : Nat) (j : Job) : (s.setJob k j).pins = s.pins := rfl
@[simp] theorem State.setJob_fuses (s : State) (k : Nat) (j : Job) : (s.setJob k j).fuses = s.fuses := rfl
@[simp] theorem State.setJob_nor (s : State) (k : Nat) (j : Job) : (s.setJob k j).nor = s.nor := rfl
@[simp] theorem State.setJob_saf (s : State) (k : Nat) (j : Job) : (s.setJob k j).saf = s.saf := rfl
@[simp] theorem State.setJob_pmu (s : State) (k : Nat) (j : Job) : (s.setJob k j).pmu = s.pmu := rfl
@[simp] theorem State.setJob_fw (s : State) (k : Nat) (j : Job) : (s.setJob k j).fw = s.fw := rfl
@[simp] theorem State.setJob_opPools (s : State) (k : Nat) (j : Job) : (s.setJob k j).opPools = s.opPools := rfl
@[simp] theorem State.setJob_cache (s : State) (k : Nat) (j : Job) : (s.setJob k j).cache = s.cache := rfl
@[simp] theorem State.setJob_dramGiB (s : State) (k : Nat) (j : Job) : (s.setJob k j).dramGiB = s.dramGiB := rfl
@[simp] theorem State.setJob_eccPlan (s : State) (k : Nat) (j : Job) : (s.setJob k j).eccPlan = s.eccPlan := rfl
@[simp] theorem State.setJob_servo (s : State) (k : Nat) (j : Job) : (s.setJob k j).servo = s.servo := rfl
@[simp] theorem State.setJob_mer (s : State) (k : Nat) (j : Job) : (s.setJob k j).mer = s.mer := rfl
@[simp] theorem State.setJob_timeIn (s : State) (k : Nat) (j : Job) : (s.setJob k j).timeIn = s.timeIn := rfl
@[simp] theorem State.setJob_trv (s : State) (k : Nat) (j : Job) : (s.setJob k j).trv = s.trv := rfl
@[simp] theorem State.setJob_gfx (s : State) (k : Nat) (j : Job) : (s.setJob k j).gfx = s.gfx := rfl
@[simp] theorem State.setJob_med (s : State) (k : Nat) (j : Job) : (s.setJob k j).med = s.med := rfl
@[simp] theorem State.setJob_gwy (s : State) (k : Nat) (j : Job) : (s.setJob k j).gwy = s.gwy := rfl
@[simp] theorem State.setJob_brg (s : State) (k : Nat) (j : Job) : (s.setJob k j).brg = s.brg := rfl
@[simp] theorem State.setJob_fba (s : State) (k : Nat) (j : Job) : (s.setJob k j).fba = s.fba := rfl
@[simp] theorem State.setJob_jrn (s : State) (k : Nat) (j : Job) : (s.setJob k j).jrn = s.jrn := rfl
@[simp] theorem State.setJob_ufs (s : State) (k : Nat) (j : Job) : (s.setJob k j).ufs = s.ufs := rfl
@[simp] theorem State.setJob_boot (s : State) (k : Nat) (j : Job) : (s.setJob k j).boot = s.boot := rfl
@[simp] theorem State.setJob_dbg (s : State) (k : Nat) (j : Job) : (s.setJob k j).dbg = s.dbg := rfl
@[simp] theorem State.setJob_jtag (s : State) (k : Nat) (j : Job) : (s.setJob k j).jtag = s.jtag := rfl
@[simp] theorem State.setJob_unpub (s : State) (k : Nat) (j : Job) : (s.setJob k j).unpub = s.unpub := rfl
@[simp] theorem State.setJob_get (s : State) (k : Nat) (j : Job) (fld : Field) : (s.setJob k j).get fld = s.get fld := by simp [State.get]
@[simp] theorem State.setJob_bit (s : State) (k : Nat) (j : Job) (fld : Field) : (s.setJob k j).bit fld = s.bit fld := by simp [State.bit]
@[simp] theorem State.setJob_fbGet (s : State) (k : Nat) (j : Job) (ix sub : Nat) : (s.setJob k j).fbGet ix sub = s.fbGet ix sub := by simp [State.fbGet]

/-! ## setCmd -/

@[simp] theorem State.setCmd_pending (s : State) (k : Nat) (c : Cmd) : (s.setCmd k c).pending = s.pending := rfl
@[simp] theorem State.setCmd_freeCtr (s : State) (k : Nat) (c : Cmd) : (s.setCmd k c).freeCtr = s.freeCtr := rfl
@[simp] theorem State.setCmd_datum (s : State) (k : Nat) (c : Cmd) : (s.setCmd k c).datum = s.datum := rfl
@[simp] theorem State.setCmd_datumFrac (s : State) (k : Nat) (c : Cmd) : (s.setCmd k c).datumFrac = s.datumFrac := rfl
@[simp] theorem State.setCmd_stepSeq (s : State) (k : Nat) (c : Cmd) : (s.setCmd k c).stepSeq = s.stepSeq := rfl
@[simp] theorem State.setCmd_regs (s : State) (k : Nat) (c : Cmd) : (s.setCmd k c).regs = s.regs := rfl
@[simp] theorem State.setCmd_fb (s : State) (k : Nat) (c : Cmd) : (s.setCmd k c).fb = s.fb := rfl
@[simp] theorem State.setCmd_mem (s : State) (k : Nat) (c : Cmd) : (s.setCmd k c).mem = s.mem := rfl
@[simp] theorem State.setCmd_latch (s : State) (k : Nat) (c : Cmd) : (s.setCmd k c).latch = s.latch := rfl
@[simp] theorem State.setCmd_held (s : State) (k : Nat) (c : Cmd) : (s.setCmd k c).held = s.held := rfl
@[simp] theorem State.setCmd_resp (s : State) (k : Nat) (c : Cmd) : (s.setCmd k c).resp = s.resp := rfl
@[simp] theorem State.setCmd_out (s : State) (k : Nat) (c : Cmd) : (s.setCmd k c).out = s.out := rfl
@[simp] theorem State.setCmd_icnSrc (s : State) (k : Nat) (c : Cmd) : (s.setCmd k c).icnSrc = s.icnSrc := rfl
@[simp] theorem State.setCmd_icnTgt (s : State) (k : Nat) (c : Cmd) : (s.setCmd k c).icnTgt = s.icnTgt := rfl
@[simp] theorem State.setCmd_worlds (s : State) (k : Nat) (c : Cmd) : (s.setCmd k c).worlds = s.worlds := rfl
@[simp] theorem State.setCmd_pins (s : State) (k : Nat) (c : Cmd) : (s.setCmd k c).pins = s.pins := rfl
@[simp] theorem State.setCmd_fuses (s : State) (k : Nat) (c : Cmd) : (s.setCmd k c).fuses = s.fuses := rfl
@[simp] theorem State.setCmd_nor (s : State) (k : Nat) (c : Cmd) : (s.setCmd k c).nor = s.nor := rfl
@[simp] theorem State.setCmd_saf (s : State) (k : Nat) (c : Cmd) : (s.setCmd k c).saf = s.saf := rfl
@[simp] theorem State.setCmd_pmu (s : State) (k : Nat) (c : Cmd) : (s.setCmd k c).pmu = s.pmu := rfl
@[simp] theorem State.setCmd_fw (s : State) (k : Nat) (c : Cmd) : (s.setCmd k c).fw = s.fw := rfl
@[simp] theorem State.setCmd_opPools (s : State) (k : Nat) (c : Cmd) : (s.setCmd k c).opPools = s.opPools := rfl
@[simp] theorem State.setCmd_cache (s : State) (k : Nat) (c : Cmd) : (s.setCmd k c).cache = s.cache := rfl
@[simp] theorem State.setCmd_dramGiB (s : State) (k : Nat) (c : Cmd) : (s.setCmd k c).dramGiB = s.dramGiB := rfl
@[simp] theorem State.setCmd_eccPlan (s : State) (k : Nat) (c : Cmd) : (s.setCmd k c).eccPlan = s.eccPlan := rfl
@[simp] theorem State.setCmd_servo (s : State) (k : Nat) (c : Cmd) : (s.setCmd k c).servo = s.servo := rfl
@[simp] theorem State.setCmd_mer (s : State) (k : Nat) (c : Cmd) : (s.setCmd k c).mer = s.mer := rfl
@[simp] theorem State.setCmd_timeIn (s : State) (k : Nat) (c : Cmd) : (s.setCmd k c).timeIn = s.timeIn := rfl
@[simp] theorem State.setCmd_trv (s : State) (k : Nat) (c : Cmd) : (s.setCmd k c).trv = s.trv := rfl
@[simp] theorem State.setCmd_gfx (s : State) (k : Nat) (c : Cmd) : (s.setCmd k c).gfx = s.gfx := rfl
@[simp] theorem State.setCmd_med (s : State) (k : Nat) (c : Cmd) : (s.setCmd k c).med = s.med := rfl
@[simp] theorem State.setCmd_gwy (s : State) (k : Nat) (c : Cmd) : (s.setCmd k c).gwy = s.gwy := rfl
@[simp] theorem State.setCmd_brg (s : State) (k : Nat) (c : Cmd) : (s.setCmd k c).brg = s.brg := rfl
@[simp] theorem State.setCmd_fba (s : State) (k : Nat) (c : Cmd) : (s.setCmd k c).fba = s.fba := rfl
@[simp] theorem State.setCmd_jrn (s : State) (k : Nat) (c : Cmd) : (s.setCmd k c).jrn = s.jrn := rfl
@[simp] theorem State.setCmd_ufs (s : State) (k : Nat) (c : Cmd) : (s.setCmd k c).ufs = s.ufs := rfl
@[simp] theorem State.setCmd_boot (s : State) (k : Nat) (c : Cmd) : (s.setCmd k c).boot = s.boot := rfl
@[simp] theorem State.setCmd_dbg (s : State) (k : Nat) (c : Cmd) : (s.setCmd k c).dbg = s.dbg := rfl
@[simp] theorem State.setCmd_jtag (s : State) (k : Nat) (c : Cmd) : (s.setCmd k c).jtag = s.jtag := rfl
@[simp] theorem State.setCmd_unpub (s : State) (k : Nat) (c : Cmd) : (s.setCmd k c).unpub = s.unpub := rfl
@[simp] theorem State.setCmd_get (s : State) (k : Nat) (c : Cmd) (fld : Field) : (s.setCmd k c).get fld = s.get fld := by simp [State.get]
@[simp] theorem State.setCmd_bit (s : State) (k : Nat) (c : Cmd) (fld : Field) : (s.setCmd k c).bit fld = s.bit fld := by simp [State.bit]
@[simp] theorem State.setCmd_fbGet (s : State) (k : Nat) (c : Cmd) (ix sub : Nat) : (s.setCmd k c).fbGet ix sub = s.fbGet ix sub := by simp [State.fbGet]

/-! ## setPeer -/

@[simp] theorem State.setPeer_pending (s : State) (p : Nat) (x : Peer) : (s.setPeer p x).pending = s.pending := rfl
@[simp] theorem State.setPeer_freeCtr (s : State) (p : Nat) (x : Peer) : (s.setPeer p x).freeCtr = s.freeCtr := rfl
@[simp] theorem State.setPeer_datum (s : State) (p : Nat) (x : Peer) : (s.setPeer p x).datum = s.datum := rfl
@[simp] theorem State.setPeer_datumFrac (s : State) (p : Nat) (x : Peer) : (s.setPeer p x).datumFrac = s.datumFrac := rfl
@[simp] theorem State.setPeer_stepSeq (s : State) (p : Nat) (x : Peer) : (s.setPeer p x).stepSeq = s.stepSeq := rfl
@[simp] theorem State.setPeer_regs (s : State) (p : Nat) (x : Peer) : (s.setPeer p x).regs = s.regs := rfl
@[simp] theorem State.setPeer_fb (s : State) (p : Nat) (x : Peer) : (s.setPeer p x).fb = s.fb := rfl
@[simp] theorem State.setPeer_mem (s : State) (p : Nat) (x : Peer) : (s.setPeer p x).mem = s.mem := rfl
@[simp] theorem State.setPeer_latch (s : State) (p : Nat) (x : Peer) : (s.setPeer p x).latch = s.latch := rfl
@[simp] theorem State.setPeer_held (s : State) (p : Nat) (x : Peer) : (s.setPeer p x).held = s.held := rfl
@[simp] theorem State.setPeer_resp (s : State) (p : Nat) (x : Peer) : (s.setPeer p x).resp = s.resp := rfl
@[simp] theorem State.setPeer_out (s : State) (p : Nat) (x : Peer) : (s.setPeer p x).out = s.out := rfl
@[simp] theorem State.setPeer_icnSrc (s : State) (p : Nat) (x : Peer) : (s.setPeer p x).icnSrc = s.icnSrc := rfl
@[simp] theorem State.setPeer_icnTgt (s : State) (p : Nat) (x : Peer) : (s.setPeer p x).icnTgt = s.icnTgt := rfl
@[simp] theorem State.setPeer_worlds (s : State) (p : Nat) (x : Peer) : (s.setPeer p x).worlds = s.worlds := rfl
@[simp] theorem State.setPeer_pins (s : State) (p : Nat) (x : Peer) : (s.setPeer p x).pins = s.pins := rfl
@[simp] theorem State.setPeer_fuses (s : State) (p : Nat) (x : Peer) : (s.setPeer p x).fuses = s.fuses := rfl
@[simp] theorem State.setPeer_nor (s : State) (p : Nat) (x : Peer) : (s.setPeer p x).nor = s.nor := rfl
@[simp] theorem State.setPeer_saf (s : State) (p : Nat) (x : Peer) : (s.setPeer p x).saf = s.saf := rfl
@[simp] theorem State.setPeer_pmu (s : State) (p : Nat) (x : Peer) : (s.setPeer p x).pmu = s.pmu := rfl
@[simp] theorem State.setPeer_fw (s : State) (p : Nat) (x : Peer) : (s.setPeer p x).fw = s.fw := rfl
@[simp] theorem State.setPeer_opPools (s : State) (p : Nat) (x : Peer) : (s.setPeer p x).opPools = s.opPools := rfl
@[simp] theorem State.setPeer_cache (s : State) (p : Nat) (x : Peer) : (s.setPeer p x).cache = s.cache := rfl
@[simp] theorem State.setPeer_dramGiB (s : State) (p : Nat) (x : Peer) : (s.setPeer p x).dramGiB = s.dramGiB := rfl
@[simp] theorem State.setPeer_eccPlan (s : State) (p : Nat) (x : Peer) : (s.setPeer p x).eccPlan = s.eccPlan := rfl
@[simp] theorem State.setPeer_servo (s : State) (p : Nat) (x : Peer) : (s.setPeer p x).servo = s.servo := rfl
@[simp] theorem State.setPeer_mer (s : State) (p : Nat) (x : Peer) : (s.setPeer p x).mer = s.mer := rfl
@[simp] theorem State.setPeer_timeIn (s : State) (p : Nat) (x : Peer) : (s.setPeer p x).timeIn = s.timeIn := rfl
@[simp] theorem State.setPeer_trv (s : State) (p : Nat) (x : Peer) : (s.setPeer p x).trv = s.trv := rfl
@[simp] theorem State.setPeer_gfx (s : State) (p : Nat) (x : Peer) : (s.setPeer p x).gfx = s.gfx := rfl
@[simp] theorem State.setPeer_med (s : State) (p : Nat) (x : Peer) : (s.setPeer p x).med = s.med := rfl
@[simp] theorem State.setPeer_gwy (s : State) (p : Nat) (x : Peer) : (s.setPeer p x).gwy = s.gwy := rfl
@[simp] theorem State.setPeer_brg (s : State) (p : Nat) (x : Peer) : (s.setPeer p x).brg = s.brg := rfl
@[simp] theorem State.setPeer_fba (s : State) (p : Nat) (x : Peer) : (s.setPeer p x).fba = s.fba := rfl
@[simp] theorem State.setPeer_jrn (s : State) (p : Nat) (x : Peer) : (s.setPeer p x).jrn = s.jrn := rfl
@[simp] theorem State.setPeer_ufs (s : State) (p : Nat) (x : Peer) : (s.setPeer p x).ufs = s.ufs := rfl
@[simp] theorem State.setPeer_boot (s : State) (p : Nat) (x : Peer) : (s.setPeer p x).boot = s.boot := rfl
@[simp] theorem State.setPeer_dbg (s : State) (p : Nat) (x : Peer) : (s.setPeer p x).dbg = s.dbg := rfl
@[simp] theorem State.setPeer_jtag (s : State) (p : Nat) (x : Peer) : (s.setPeer p x).jtag = s.jtag := rfl
@[simp] theorem State.setPeer_unpub (s : State) (p : Nat) (x : Peer) : (s.setPeer p x).unpub = s.unpub := rfl
@[simp] theorem State.setPeer_get (s : State) (p : Nat) (x : Peer) (fld : Field) : (s.setPeer p x).get fld = s.get fld := by simp [State.get]
@[simp] theorem State.setPeer_bit (s : State) (p : Nat) (x : Peer) (fld : Field) : (s.setPeer p x).bit fld = s.bit fld := by simp [State.bit]
@[simp] theorem State.setPeer_fbGet (s : State) (p : Nat) (x : Peer) (ix sub : Nat) : (s.setPeer p x).fbGet ix sub = s.fbGet ix sub := by simp [State.fbGet]

/-! ## setBench -/

@[simp] theorem State.setBench_pending (s : State) (p : Nat) (b : Bench) : (s.setBench p b).pending = s.pending := rfl
@[simp] theorem State.setBench_freeCtr (s : State) (p : Nat) (b : Bench) : (s.setBench p b).freeCtr = s.freeCtr := rfl
@[simp] theorem State.setBench_datum (s : State) (p : Nat) (b : Bench) : (s.setBench p b).datum = s.datum := rfl
@[simp] theorem State.setBench_datumFrac (s : State) (p : Nat) (b : Bench) : (s.setBench p b).datumFrac = s.datumFrac := rfl
@[simp] theorem State.setBench_stepSeq (s : State) (p : Nat) (b : Bench) : (s.setBench p b).stepSeq = s.stepSeq := rfl
@[simp] theorem State.setBench_regs (s : State) (p : Nat) (b : Bench) : (s.setBench p b).regs = s.regs := rfl
@[simp] theorem State.setBench_fb (s : State) (p : Nat) (b : Bench) : (s.setBench p b).fb = s.fb := rfl
@[simp] theorem State.setBench_mem (s : State) (p : Nat) (b : Bench) : (s.setBench p b).mem = s.mem := rfl
@[simp] theorem State.setBench_latch (s : State) (p : Nat) (b : Bench) : (s.setBench p b).latch = s.latch := rfl
@[simp] theorem State.setBench_held (s : State) (p : Nat) (b : Bench) : (s.setBench p b).held = s.held := rfl
@[simp] theorem State.setBench_resp (s : State) (p : Nat) (b : Bench) : (s.setBench p b).resp = s.resp := rfl
@[simp] theorem State.setBench_out (s : State) (p : Nat) (b : Bench) : (s.setBench p b).out = s.out := rfl
@[simp] theorem State.setBench_icnSrc (s : State) (p : Nat) (b : Bench) : (s.setBench p b).icnSrc = s.icnSrc := rfl
@[simp] theorem State.setBench_icnTgt (s : State) (p : Nat) (b : Bench) : (s.setBench p b).icnTgt = s.icnTgt := rfl
@[simp] theorem State.setBench_worlds (s : State) (p : Nat) (b : Bench) : (s.setBench p b).worlds = s.worlds := rfl
@[simp] theorem State.setBench_pins (s : State) (p : Nat) (b : Bench) : (s.setBench p b).pins = s.pins := rfl
@[simp] theorem State.setBench_fuses (s : State) (p : Nat) (b : Bench) : (s.setBench p b).fuses = s.fuses := rfl
@[simp] theorem State.setBench_nor (s : State) (p : Nat) (b : Bench) : (s.setBench p b).nor = s.nor := rfl
@[simp] theorem State.setBench_eng (s : State) (p : Nat) (b : Bench) : (s.setBench p b).eng = s.eng := rfl
@[simp] theorem State.setBench_pmu (s : State) (p : Nat) (b : Bench) : (s.setBench p b).pmu = s.pmu := rfl
@[simp] theorem State.setBench_fw (s : State) (p : Nat) (b : Bench) : (s.setBench p b).fw = s.fw := rfl
@[simp] theorem State.setBench_opPools (s : State) (p : Nat) (b : Bench) : (s.setBench p b).opPools = s.opPools := rfl
@[simp] theorem State.setBench_cache (s : State) (p : Nat) (b : Bench) : (s.setBench p b).cache = s.cache := rfl
@[simp] theorem State.setBench_dramGiB (s : State) (p : Nat) (b : Bench) : (s.setBench p b).dramGiB = s.dramGiB := rfl
@[simp] theorem State.setBench_eccPlan (s : State) (p : Nat) (b : Bench) : (s.setBench p b).eccPlan = s.eccPlan := rfl
@[simp] theorem State.setBench_servo (s : State) (p : Nat) (b : Bench) : (s.setBench p b).servo = s.servo := rfl
@[simp] theorem State.setBench_mer (s : State) (p : Nat) (b : Bench) : (s.setBench p b).mer = s.mer := rfl
@[simp] theorem State.setBench_timeIn (s : State) (p : Nat) (b : Bench) : (s.setBench p b).timeIn = s.timeIn := rfl
@[simp] theorem State.setBench_trv (s : State) (p : Nat) (b : Bench) : (s.setBench p b).trv = s.trv := rfl
@[simp] theorem State.setBench_gfx (s : State) (p : Nat) (b : Bench) : (s.setBench p b).gfx = s.gfx := rfl
@[simp] theorem State.setBench_med (s : State) (p : Nat) (b : Bench) : (s.setBench p b).med = s.med := rfl
@[simp] theorem State.setBench_gwy (s : State) (p : Nat) (b : Bench) : (s.setBench p b).gwy = s.gwy := rfl
@[simp] theorem State.setBench_brg (s : State) (p : Nat) (b : Bench) : (s.setBench p b).brg = s.brg := rfl
@[simp] theorem State.setBench_fba (s : State) (p : Nat) (b : Bench) : (s.setBench p b).fba = s.fba := rfl
@[simp] theorem State.setBench_jrn (s : State) (p : Nat) (b : Bench) : (s.setBench p b).jrn = s.jrn := rfl
@[simp] theorem State.setBench_ufs (s : State) (p : Nat) (b : Bench) : (s.setBench p b).ufs = s.ufs := rfl
@[simp] theorem State.setBench_boot (s : State) (p : Nat) (b : Bench) : (s.setBench p b).boot = s.boot := rfl
@[simp] theorem State.setBench_dbg (s : State) (p : Nat) (b : Bench) : (s.setBench p b).dbg = s.dbg := rfl
@[simp] theorem State.setBench_jtag (s : State) (p : Nat) (b : Bench) : (s.setBench p b).jtag = s.jtag := rfl
@[simp] theorem State.setBench_unpub (s : State) (p : Nat) (b : Bench) : (s.setBench p b).unpub = s.unpub := rfl
@[simp] theorem State.setBench_get (s : State) (p : Nat) (b : Bench) (fld : Field) : (s.setBench p b).get fld = s.get fld := by simp [State.get]
@[simp] theorem State.setBench_bit (s : State) (p : Nat) (b : Bench) (fld : Field) : (s.setBench p b).bit fld = s.bit fld := by simp [State.bit]
@[simp] theorem State.setBench_fbGet (s : State) (p : Nat) (b : Bench) (ix sub : Nat) : (s.setBench p b).fbGet ix sub = s.fbGet ix sub := by simp [State.fbGet]

/-! ## setWorlds -/

@[simp] theorem State.setWorlds_pending (s : State) (w : Worlds) : (s.setWorlds w).pending = s.pending := rfl
@[simp] theorem State.setWorlds_freeCtr (s : State) (w : Worlds) : (s.setWorlds w).freeCtr = s.freeCtr := rfl
@[simp] theorem State.setWorlds_datum (s : State) (w : Worlds) : (s.setWorlds w).datum = s.datum := rfl
@[simp] theorem State.setWorlds_datumFrac (s : State) (w : Worlds) : (s.setWorlds w).datumFrac = s.datumFrac := rfl
@[simp] theorem State.setWorlds_stepSeq (s : State) (w : Worlds) : (s.setWorlds w).stepSeq = s.stepSeq := rfl
@[simp] theorem State.setWorlds_regs (s : State) (w : Worlds) : (s.setWorlds w).regs = s.regs := rfl
@[simp] theorem State.setWorlds_fb (s : State) (w : Worlds) : (s.setWorlds w).fb = s.fb := rfl
@[simp] theorem State.setWorlds_mem (s : State) (w : Worlds) : (s.setWorlds w).mem = s.mem := rfl
@[simp] theorem State.setWorlds_latch (s : State) (w : Worlds) : (s.setWorlds w).latch = s.latch := rfl
@[simp] theorem State.setWorlds_held (s : State) (w : Worlds) : (s.setWorlds w).held = s.held := rfl
@[simp] theorem State.setWorlds_resp (s : State) (w : Worlds) : (s.setWorlds w).resp = s.resp := rfl
@[simp] theorem State.setWorlds_out (s : State) (w : Worlds) : (s.setWorlds w).out = s.out := rfl
@[simp] theorem State.setWorlds_icnSrc (s : State) (w : Worlds) : (s.setWorlds w).icnSrc = s.icnSrc := rfl
@[simp] theorem State.setWorlds_icnTgt (s : State) (w : Worlds) : (s.setWorlds w).icnTgt = s.icnTgt := rfl
@[simp] theorem State.setWorlds_pins (s : State) (w : Worlds) : (s.setWorlds w).pins = s.pins := rfl
@[simp] theorem State.setWorlds_fuses (s : State) (w : Worlds) : (s.setWorlds w).fuses = s.fuses := rfl
@[simp] theorem State.setWorlds_nor (s : State) (w : Worlds) : (s.setWorlds w).nor = s.nor := rfl
@[simp] theorem State.setWorlds_eng (s : State) (w : Worlds) : (s.setWorlds w).eng = s.eng := rfl
@[simp] theorem State.setWorlds_saf (s : State) (w : Worlds) : (s.setWorlds w).saf = s.saf := rfl
@[simp] theorem State.setWorlds_pmu (s : State) (w : Worlds) : (s.setWorlds w).pmu = s.pmu := rfl
@[simp] theorem State.setWorlds_fw (s : State) (w : Worlds) : (s.setWorlds w).fw = s.fw := rfl
@[simp] theorem State.setWorlds_opPools (s : State) (w : Worlds) : (s.setWorlds w).opPools = s.opPools := rfl
@[simp] theorem State.setWorlds_cache (s : State) (w : Worlds) : (s.setWorlds w).cache = s.cache := rfl
@[simp] theorem State.setWorlds_dramGiB (s : State) (w : Worlds) : (s.setWorlds w).dramGiB = s.dramGiB := rfl
@[simp] theorem State.setWorlds_eccPlan (s : State) (w : Worlds) : (s.setWorlds w).eccPlan = s.eccPlan := rfl
@[simp] theorem State.setWorlds_servo (s : State) (w : Worlds) : (s.setWorlds w).servo = s.servo := rfl
@[simp] theorem State.setWorlds_mer (s : State) (w : Worlds) : (s.setWorlds w).mer = s.mer := rfl
@[simp] theorem State.setWorlds_timeIn (s : State) (w : Worlds) : (s.setWorlds w).timeIn = s.timeIn := rfl
@[simp] theorem State.setWorlds_trv (s : State) (w : Worlds) : (s.setWorlds w).trv = s.trv := rfl
@[simp] theorem State.setWorlds_gfx (s : State) (w : Worlds) : (s.setWorlds w).gfx = s.gfx := rfl
@[simp] theorem State.setWorlds_med (s : State) (w : Worlds) : (s.setWorlds w).med = s.med := rfl
@[simp] theorem State.setWorlds_gwy (s : State) (w : Worlds) : (s.setWorlds w).gwy = s.gwy := rfl
@[simp] theorem State.setWorlds_brg (s : State) (w : Worlds) : (s.setWorlds w).brg = s.brg := rfl
@[simp] theorem State.setWorlds_fba (s : State) (w : Worlds) : (s.setWorlds w).fba = s.fba := rfl
@[simp] theorem State.setWorlds_jrn (s : State) (w : Worlds) : (s.setWorlds w).jrn = s.jrn := rfl
@[simp] theorem State.setWorlds_ufs (s : State) (w : Worlds) : (s.setWorlds w).ufs = s.ufs := rfl
@[simp] theorem State.setWorlds_boot (s : State) (w : Worlds) : (s.setWorlds w).boot = s.boot := rfl
@[simp] theorem State.setWorlds_dbg (s : State) (w : Worlds) : (s.setWorlds w).dbg = s.dbg := rfl
@[simp] theorem State.setWorlds_jtag (s : State) (w : Worlds) : (s.setWorlds w).jtag = s.jtag := rfl
@[simp] theorem State.setWorlds_unpub (s : State) (w : Worlds) : (s.setWorlds w).unpub = s.unpub := rfl
@[simp] theorem State.setWorlds_get (s : State) (w : Worlds) (fld : Field) : (s.setWorlds w).get fld = s.get fld := by simp [State.get]
@[simp] theorem State.setWorlds_bit (s : State) (w : Worlds) (fld : Field) : (s.setWorlds w).bit fld = s.bit fld := by simp [State.bit]
@[simp] theorem State.setWorlds_fbGet (s : State) (w : Worlds) (ix sub : Nat) : (s.setWorlds w).fbGet ix sub = s.fbGet ix sub := by simp [State.fbGet]

/-! ## setPmu -/

@[simp] theorem State.setPmu_pending (s : State) (p : Pmu) : (s.setPmu p).pending = s.pending := rfl
@[simp] theorem State.setPmu_freeCtr (s : State) (p : Pmu) : (s.setPmu p).freeCtr = s.freeCtr := rfl
@[simp] theorem State.setPmu_datum (s : State) (p : Pmu) : (s.setPmu p).datum = s.datum := rfl
@[simp] theorem State.setPmu_datumFrac (s : State) (p : Pmu) : (s.setPmu p).datumFrac = s.datumFrac := rfl
@[simp] theorem State.setPmu_stepSeq (s : State) (p : Pmu) : (s.setPmu p).stepSeq = s.stepSeq := rfl
@[simp] theorem State.setPmu_regs (s : State) (p : Pmu) : (s.setPmu p).regs = s.regs := rfl
@[simp] theorem State.setPmu_fb (s : State) (p : Pmu) : (s.setPmu p).fb = s.fb := rfl
@[simp] theorem State.setPmu_mem (s : State) (p : Pmu) : (s.setPmu p).mem = s.mem := rfl
@[simp] theorem State.setPmu_latch (s : State) (p : Pmu) : (s.setPmu p).latch = s.latch := rfl
@[simp] theorem State.setPmu_held (s : State) (p : Pmu) : (s.setPmu p).held = s.held := rfl
@[simp] theorem State.setPmu_resp (s : State) (p : Pmu) : (s.setPmu p).resp = s.resp := rfl
@[simp] theorem State.setPmu_out (s : State) (p : Pmu) : (s.setPmu p).out = s.out := rfl
@[simp] theorem State.setPmu_icnSrc (s : State) (p : Pmu) : (s.setPmu p).icnSrc = s.icnSrc := rfl
@[simp] theorem State.setPmu_icnTgt (s : State) (p : Pmu) : (s.setPmu p).icnTgt = s.icnTgt := rfl
@[simp] theorem State.setPmu_worlds (s : State) (p : Pmu) : (s.setPmu p).worlds = s.worlds := rfl
@[simp] theorem State.setPmu_pins (s : State) (p : Pmu) : (s.setPmu p).pins = s.pins := rfl
@[simp] theorem State.setPmu_fuses (s : State) (p : Pmu) : (s.setPmu p).fuses = s.fuses := rfl
@[simp] theorem State.setPmu_nor (s : State) (p : Pmu) : (s.setPmu p).nor = s.nor := rfl
@[simp] theorem State.setPmu_eng (s : State) (p : Pmu) : (s.setPmu p).eng = s.eng := rfl
@[simp] theorem State.setPmu_saf (s : State) (p : Pmu) : (s.setPmu p).saf = s.saf := rfl
@[simp] theorem State.setPmu_fw (s : State) (p : Pmu) : (s.setPmu p).fw = s.fw := rfl
@[simp] theorem State.setPmu_opPools (s : State) (p : Pmu) : (s.setPmu p).opPools = s.opPools := rfl
@[simp] theorem State.setPmu_cache (s : State) (p : Pmu) : (s.setPmu p).cache = s.cache := rfl
@[simp] theorem State.setPmu_dramGiB (s : State) (p : Pmu) : (s.setPmu p).dramGiB = s.dramGiB := rfl
@[simp] theorem State.setPmu_eccPlan (s : State) (p : Pmu) : (s.setPmu p).eccPlan = s.eccPlan := rfl
@[simp] theorem State.setPmu_servo (s : State) (p : Pmu) : (s.setPmu p).servo = s.servo := rfl
@[simp] theorem State.setPmu_mer (s : State) (p : Pmu) : (s.setPmu p).mer = s.mer := rfl
@[simp] theorem State.setPmu_timeIn (s : State) (p : Pmu) : (s.setPmu p).timeIn = s.timeIn := rfl
@[simp] theorem State.setPmu_trv (s : State) (p : Pmu) : (s.setPmu p).trv = s.trv := rfl
@[simp] theorem State.setPmu_gfx (s : State) (p : Pmu) : (s.setPmu p).gfx = s.gfx := rfl
@[simp] theorem State.setPmu_med (s : State) (p : Pmu) : (s.setPmu p).med = s.med := rfl
@[simp] theorem State.setPmu_gwy (s : State) (p : Pmu) : (s.setPmu p).gwy = s.gwy := rfl
@[simp] theorem State.setPmu_brg (s : State) (p : Pmu) : (s.setPmu p).brg = s.brg := rfl
@[simp] theorem State.setPmu_fba (s : State) (p : Pmu) : (s.setPmu p).fba = s.fba := rfl
@[simp] theorem State.setPmu_jrn (s : State) (p : Pmu) : (s.setPmu p).jrn = s.jrn := rfl
@[simp] theorem State.setPmu_ufs (s : State) (p : Pmu) : (s.setPmu p).ufs = s.ufs := rfl
@[simp] theorem State.setPmu_boot (s : State) (p : Pmu) : (s.setPmu p).boot = s.boot := rfl
@[simp] theorem State.setPmu_dbg (s : State) (p : Pmu) : (s.setPmu p).dbg = s.dbg := rfl
@[simp] theorem State.setPmu_jtag (s : State) (p : Pmu) : (s.setPmu p).jtag = s.jtag := rfl
@[simp] theorem State.setPmu_unpub (s : State) (p : Pmu) : (s.setPmu p).unpub = s.unpub := rfl
@[simp] theorem State.setPmu_get (s : State) (p : Pmu) (fld : Field) : (s.setPmu p).get fld = s.get fld := by simp [State.get]
@[simp] theorem State.setPmu_bit (s : State) (p : Pmu) (fld : Field) : (s.setPmu p).bit fld = s.bit fld := by simp [State.bit]
@[simp] theorem State.setPmu_fbGet (s : State) (p : Pmu) (ix sub : Nat) : (s.setPmu p).fbGet ix sub = s.fbGet ix sub := by simp [State.fbGet]

/-! ## setFba -/

@[simp] theorem State.setFba_pending (s : State) (f : Fba) : (s.setFba f).pending = s.pending := rfl
@[simp] theorem State.setFba_freeCtr (s : State) (f : Fba) : (s.setFba f).freeCtr = s.freeCtr := rfl
@[simp] theorem State.setFba_datum (s : State) (f : Fba) : (s.setFba f).datum = s.datum := rfl
@[simp] theorem State.setFba_datumFrac (s : State) (f : Fba) : (s.setFba f).datumFrac = s.datumFrac := rfl
@[simp] theorem State.setFba_stepSeq (s : State) (f : Fba) : (s.setFba f).stepSeq = s.stepSeq := rfl
@[simp] theorem State.setFba_regs (s : State) (f : Fba) : (s.setFba f).regs = s.regs := rfl
@[simp] theorem State.setFba_fb (s : State) (f : Fba) : (s.setFba f).fb = s.fb := rfl
@[simp] theorem State.setFba_mem (s : State) (f : Fba) : (s.setFba f).mem = s.mem := rfl
@[simp] theorem State.setFba_latch (s : State) (f : Fba) : (s.setFba f).latch = s.latch := rfl
@[simp] theorem State.setFba_held (s : State) (f : Fba) : (s.setFba f).held = s.held := rfl
@[simp] theorem State.setFba_resp (s : State) (f : Fba) : (s.setFba f).resp = s.resp := rfl
@[simp] theorem State.setFba_out (s : State) (f : Fba) : (s.setFba f).out = s.out := rfl
@[simp] theorem State.setFba_icnSrc (s : State) (f : Fba) : (s.setFba f).icnSrc = s.icnSrc := rfl
@[simp] theorem State.setFba_icnTgt (s : State) (f : Fba) : (s.setFba f).icnTgt = s.icnTgt := rfl
@[simp] theorem State.setFba_worlds (s : State) (f : Fba) : (s.setFba f).worlds = s.worlds := rfl
@[simp] theorem State.setFba_pins (s : State) (f : Fba) : (s.setFba f).pins = s.pins := rfl
@[simp] theorem State.setFba_fuses (s : State) (f : Fba) : (s.setFba f).fuses = s.fuses := rfl
@[simp] theorem State.setFba_nor (s : State) (f : Fba) : (s.setFba f).nor = s.nor := rfl
@[simp] theorem State.setFba_eng (s : State) (f : Fba) : (s.setFba f).eng = s.eng := rfl
@[simp] theorem State.setFba_saf (s : State) (f : Fba) : (s.setFba f).saf = s.saf := rfl
@[simp] theorem State.setFba_pmu (s : State) (f : Fba) : (s.setFba f).pmu = s.pmu := rfl
@[simp] theorem State.setFba_fw (s : State) (f : Fba) : (s.setFba f).fw = s.fw := rfl
@[simp] theorem State.setFba_opPools (s : State) (f : Fba) : (s.setFba f).opPools = s.opPools := rfl
@[simp] theorem State.setFba_cache (s : State) (f : Fba) : (s.setFba f).cache = s.cache := rfl
@[simp] theorem State.setFba_dramGiB (s : State) (f : Fba) : (s.setFba f).dramGiB = s.dramGiB := rfl
@[simp] theorem State.setFba_eccPlan (s : State) (f : Fba) : (s.setFba f).eccPlan = s.eccPlan := rfl
@[simp] theorem State.setFba_servo (s : State) (f : Fba) : (s.setFba f).servo = s.servo := rfl
@[simp] theorem State.setFba_mer (s : State) (f : Fba) : (s.setFba f).mer = s.mer := rfl
@[simp] theorem State.setFba_timeIn (s : State) (f : Fba) : (s.setFba f).timeIn = s.timeIn := rfl
@[simp] theorem State.setFba_trv (s : State) (f : Fba) : (s.setFba f).trv = s.trv := rfl
@[simp] theorem State.setFba_gfx (s : State) (f : Fba) : (s.setFba f).gfx = s.gfx := rfl
@[simp] theorem State.setFba_med (s : State) (f : Fba) : (s.setFba f).med = s.med := rfl
@[simp] theorem State.setFba_gwy (s : State) (f : Fba) : (s.setFba f).gwy = s.gwy := rfl
@[simp] theorem State.setFba_brg (s : State) (f : Fba) : (s.setFba f).brg = s.brg := rfl
@[simp] theorem State.setFba_jrn (s : State) (f : Fba) : (s.setFba f).jrn = s.jrn := rfl
@[simp] theorem State.setFba_ufs (s : State) (f : Fba) : (s.setFba f).ufs = s.ufs := rfl
@[simp] theorem State.setFba_boot (s : State) (f : Fba) : (s.setFba f).boot = s.boot := rfl
@[simp] theorem State.setFba_dbg (s : State) (f : Fba) : (s.setFba f).dbg = s.dbg := rfl
@[simp] theorem State.setFba_jtag (s : State) (f : Fba) : (s.setFba f).jtag = s.jtag := rfl
@[simp] theorem State.setFba_unpub (s : State) (f : Fba) : (s.setFba f).unpub = s.unpub := rfl
@[simp] theorem State.setFba_get (s : State) (f : Fba) (fld : Field) : (s.setFba f).get fld = s.get fld := by simp [State.get]
@[simp] theorem State.setFba_bit (s : State) (f : Fba) (fld : Field) : (s.setFba f).bit fld = s.bit fld := by simp [State.bit]
@[simp] theorem State.setFba_fbGet (s : State) (f : Fba) (ix sub : Nat) : (s.setFba f).fbGet ix sub = s.fbGet ix sub := by simp [State.fbGet]

/-! ## setMbox -/

@[simp] theorem State.setMbox_pending (s : State) (m : Nat) (v : Mbox) : (s.setMbox m v).pending = s.pending := rfl
@[simp] theorem State.setMbox_freeCtr (s : State) (m : Nat) (v : Mbox) : (s.setMbox m v).freeCtr = s.freeCtr := rfl
@[simp] theorem State.setMbox_datum (s : State) (m : Nat) (v : Mbox) : (s.setMbox m v).datum = s.datum := rfl
@[simp] theorem State.setMbox_datumFrac (s : State) (m : Nat) (v : Mbox) : (s.setMbox m v).datumFrac = s.datumFrac := rfl
@[simp] theorem State.setMbox_stepSeq (s : State) (m : Nat) (v : Mbox) : (s.setMbox m v).stepSeq = s.stepSeq := rfl
@[simp] theorem State.setMbox_regs (s : State) (m : Nat) (v : Mbox) : (s.setMbox m v).regs = s.regs := rfl
@[simp] theorem State.setMbox_fb (s : State) (m : Nat) (v : Mbox) : (s.setMbox m v).fb = s.fb := rfl
@[simp] theorem State.setMbox_mem (s : State) (m : Nat) (v : Mbox) : (s.setMbox m v).mem = s.mem := rfl
@[simp] theorem State.setMbox_latch (s : State) (m : Nat) (v : Mbox) : (s.setMbox m v).latch = s.latch := rfl
@[simp] theorem State.setMbox_held (s : State) (m : Nat) (v : Mbox) : (s.setMbox m v).held = s.held := rfl
@[simp] theorem State.setMbox_resp (s : State) (m : Nat) (v : Mbox) : (s.setMbox m v).resp = s.resp := rfl
@[simp] theorem State.setMbox_out (s : State) (m : Nat) (v : Mbox) : (s.setMbox m v).out = s.out := rfl
@[simp] theorem State.setMbox_icnSrc (s : State) (m : Nat) (v : Mbox) : (s.setMbox m v).icnSrc = s.icnSrc := rfl
@[simp] theorem State.setMbox_icnTgt (s : State) (m : Nat) (v : Mbox) : (s.setMbox m v).icnTgt = s.icnTgt := rfl
@[simp] theorem State.setMbox_worlds (s : State) (m : Nat) (v : Mbox) : (s.setMbox m v).worlds = s.worlds := rfl
@[simp] theorem State.setMbox_pins (s : State) (m : Nat) (v : Mbox) : (s.setMbox m v).pins = s.pins := rfl
@[simp] theorem State.setMbox_fuses (s : State) (m : Nat) (v : Mbox) : (s.setMbox m v).fuses = s.fuses := rfl
@[simp] theorem State.setMbox_nor (s : State) (m : Nat) (v : Mbox) : (s.setMbox m v).nor = s.nor := rfl
@[simp] theorem State.setMbox_eng (s : State) (m : Nat) (v : Mbox) : (s.setMbox m v).eng = s.eng := rfl
@[simp] theorem State.setMbox_saf (s : State) (m : Nat) (v : Mbox) : (s.setMbox m v).saf = s.saf := rfl
@[simp] theorem State.setMbox_pmu (s : State) (m : Nat) (v : Mbox) : (s.setMbox m v).pmu = s.pmu := rfl
@[simp] theorem State.setMbox_opPools (s : State) (m : Nat) (v : Mbox) : (s.setMbox m v).opPools = s.opPools := rfl
@[simp] theorem State.setMbox_cache (s : State) (m : Nat) (v : Mbox) : (s.setMbox m v).cache = s.cache := rfl
@[simp] theorem State.setMbox_dramGiB (s : State) (m : Nat) (v : Mbox) : (s.setMbox m v).dramGiB = s.dramGiB := rfl
@[simp] theorem State.setMbox_eccPlan (s : State) (m : Nat) (v : Mbox) : (s.setMbox m v).eccPlan = s.eccPlan := rfl
@[simp] theorem State.setMbox_servo (s : State) (m : Nat) (v : Mbox) : (s.setMbox m v).servo = s.servo := rfl
@[simp] theorem State.setMbox_mer (s : State) (m : Nat) (v : Mbox) : (s.setMbox m v).mer = s.mer := rfl
@[simp] theorem State.setMbox_timeIn (s : State) (m : Nat) (v : Mbox) : (s.setMbox m v).timeIn = s.timeIn := rfl
@[simp] theorem State.setMbox_trv (s : State) (m : Nat) (v : Mbox) : (s.setMbox m v).trv = s.trv := rfl
@[simp] theorem State.setMbox_gfx (s : State) (m : Nat) (v : Mbox) : (s.setMbox m v).gfx = s.gfx := rfl
@[simp] theorem State.setMbox_med (s : State) (m : Nat) (v : Mbox) : (s.setMbox m v).med = s.med := rfl
@[simp] theorem State.setMbox_gwy (s : State) (m : Nat) (v : Mbox) : (s.setMbox m v).gwy = s.gwy := rfl
@[simp] theorem State.setMbox_brg (s : State) (m : Nat) (v : Mbox) : (s.setMbox m v).brg = s.brg := rfl
@[simp] theorem State.setMbox_fba (s : State) (m : Nat) (v : Mbox) : (s.setMbox m v).fba = s.fba := rfl
@[simp] theorem State.setMbox_jrn (s : State) (m : Nat) (v : Mbox) : (s.setMbox m v).jrn = s.jrn := rfl
@[simp] theorem State.setMbox_ufs (s : State) (m : Nat) (v : Mbox) : (s.setMbox m v).ufs = s.ufs := rfl
@[simp] theorem State.setMbox_boot (s : State) (m : Nat) (v : Mbox) : (s.setMbox m v).boot = s.boot := rfl
@[simp] theorem State.setMbox_dbg (s : State) (m : Nat) (v : Mbox) : (s.setMbox m v).dbg = s.dbg := rfl
@[simp] theorem State.setMbox_jtag (s : State) (m : Nat) (v : Mbox) : (s.setMbox m v).jtag = s.jtag := rfl
@[simp] theorem State.setMbox_unpub (s : State) (m : Nat) (v : Mbox) : (s.setMbox m v).unpub = s.unpub := rfl
@[simp] theorem State.setMbox_get (s : State) (m : Nat) (v : Mbox) (fld : Field) : (s.setMbox m v).get fld = s.get fld := by simp [State.get]
@[simp] theorem State.setMbox_bit (s : State) (m : Nat) (v : Mbox) (fld : Field) : (s.setMbox m v).bit fld = s.bit fld := by simp [State.bit]
@[simp] theorem State.setMbox_fbGet (s : State) (m : Nat) (v : Mbox) (ix sub : Nat) : (s.setMbox m v).fbGet ix sub = s.fbGet ix sub := by simp [State.fbGet]

/-! ## setUpdate -/

@[simp] theorem State.setUpdate_pending (s : State) (k : Nat) (u : Update) : (s.setUpdate k u).pending = s.pending := rfl
@[simp] theorem State.setUpdate_freeCtr (s : State) (k : Nat) (u : Update) : (s.setUpdate k u).freeCtr = s.freeCtr := rfl
@[simp] theorem State.setUpdate_datum (s : State) (k : Nat) (u : Update) : (s.setUpdate k u).datum = s.datum := rfl
@[simp] theorem State.setUpdate_datumFrac (s : State) (k : Nat) (u : Update) : (s.setUpdate k u).datumFrac = s.datumFrac := rfl
@[simp] theorem State.setUpdate_stepSeq (s : State) (k : Nat) (u : Update) : (s.setUpdate k u).stepSeq = s.stepSeq := rfl
@[simp] theorem State.setUpdate_regs (s : State) (k : Nat) (u : Update) : (s.setUpdate k u).regs = s.regs := rfl
@[simp] theorem State.setUpdate_fb (s : State) (k : Nat) (u : Update) : (s.setUpdate k u).fb = s.fb := rfl
@[simp] theorem State.setUpdate_mem (s : State) (k : Nat) (u : Update) : (s.setUpdate k u).mem = s.mem := rfl
@[simp] theorem State.setUpdate_latch (s : State) (k : Nat) (u : Update) : (s.setUpdate k u).latch = s.latch := rfl
@[simp] theorem State.setUpdate_held (s : State) (k : Nat) (u : Update) : (s.setUpdate k u).held = s.held := rfl
@[simp] theorem State.setUpdate_resp (s : State) (k : Nat) (u : Update) : (s.setUpdate k u).resp = s.resp := rfl
@[simp] theorem State.setUpdate_out (s : State) (k : Nat) (u : Update) : (s.setUpdate k u).out = s.out := rfl
@[simp] theorem State.setUpdate_icnSrc (s : State) (k : Nat) (u : Update) : (s.setUpdate k u).icnSrc = s.icnSrc := rfl
@[simp] theorem State.setUpdate_icnTgt (s : State) (k : Nat) (u : Update) : (s.setUpdate k u).icnTgt = s.icnTgt := rfl
@[simp] theorem State.setUpdate_worlds (s : State) (k : Nat) (u : Update) : (s.setUpdate k u).worlds = s.worlds := rfl
@[simp] theorem State.setUpdate_pins (s : State) (k : Nat) (u : Update) : (s.setUpdate k u).pins = s.pins := rfl
@[simp] theorem State.setUpdate_fuses (s : State) (k : Nat) (u : Update) : (s.setUpdate k u).fuses = s.fuses := rfl
@[simp] theorem State.setUpdate_nor (s : State) (k : Nat) (u : Update) : (s.setUpdate k u).nor = s.nor := rfl
@[simp] theorem State.setUpdate_eng (s : State) (k : Nat) (u : Update) : (s.setUpdate k u).eng = s.eng := rfl
@[simp] theorem State.setUpdate_saf (s : State) (k : Nat) (u : Update) : (s.setUpdate k u).saf = s.saf := rfl
@[simp] theorem State.setUpdate_pmu (s : State) (k : Nat) (u : Update) : (s.setUpdate k u).pmu = s.pmu := rfl
@[simp] theorem State.setUpdate_opPools (s : State) (k : Nat) (u : Update) : (s.setUpdate k u).opPools = s.opPools := rfl
@[simp] theorem State.setUpdate_cache (s : State) (k : Nat) (u : Update) : (s.setUpdate k u).cache = s.cache := rfl
@[simp] theorem State.setUpdate_dramGiB (s : State) (k : Nat) (u : Update) : (s.setUpdate k u).dramGiB = s.dramGiB := rfl
@[simp] theorem State.setUpdate_eccPlan (s : State) (k : Nat) (u : Update) : (s.setUpdate k u).eccPlan = s.eccPlan := rfl
@[simp] theorem State.setUpdate_servo (s : State) (k : Nat) (u : Update) : (s.setUpdate k u).servo = s.servo := rfl
@[simp] theorem State.setUpdate_mer (s : State) (k : Nat) (u : Update) : (s.setUpdate k u).mer = s.mer := rfl
@[simp] theorem State.setUpdate_timeIn (s : State) (k : Nat) (u : Update) : (s.setUpdate k u).timeIn = s.timeIn := rfl
@[simp] theorem State.setUpdate_trv (s : State) (k : Nat) (u : Update) : (s.setUpdate k u).trv = s.trv := rfl
@[simp] theorem State.setUpdate_gfx (s : State) (k : Nat) (u : Update) : (s.setUpdate k u).gfx = s.gfx := rfl
@[simp] theorem State.setUpdate_med (s : State) (k : Nat) (u : Update) : (s.setUpdate k u).med = s.med := rfl
@[simp] theorem State.setUpdate_gwy (s : State) (k : Nat) (u : Update) : (s.setUpdate k u).gwy = s.gwy := rfl
@[simp] theorem State.setUpdate_brg (s : State) (k : Nat) (u : Update) : (s.setUpdate k u).brg = s.brg := rfl
@[simp] theorem State.setUpdate_fba (s : State) (k : Nat) (u : Update) : (s.setUpdate k u).fba = s.fba := rfl
@[simp] theorem State.setUpdate_jrn (s : State) (k : Nat) (u : Update) : (s.setUpdate k u).jrn = s.jrn := rfl
@[simp] theorem State.setUpdate_ufs (s : State) (k : Nat) (u : Update) : (s.setUpdate k u).ufs = s.ufs := rfl
@[simp] theorem State.setUpdate_boot (s : State) (k : Nat) (u : Update) : (s.setUpdate k u).boot = s.boot := rfl
@[simp] theorem State.setUpdate_dbg (s : State) (k : Nat) (u : Update) : (s.setUpdate k u).dbg = s.dbg := rfl
@[simp] theorem State.setUpdate_jtag (s : State) (k : Nat) (u : Update) : (s.setUpdate k u).jtag = s.jtag := rfl
@[simp] theorem State.setUpdate_unpub (s : State) (k : Nat) (u : Update) : (s.setUpdate k u).unpub = s.unpub := rfl
@[simp] theorem State.setUpdate_get (s : State) (k : Nat) (u : Update) (fld : Field) : (s.setUpdate k u).get fld = s.get fld := by simp [State.get]
@[simp] theorem State.setUpdate_bit (s : State) (k : Nat) (u : Update) (fld : Field) : (s.setUpdate k u).bit fld = s.bit fld := by simp [State.bit]
@[simp] theorem State.setUpdate_fbGet (s : State) (k : Nat) (u : Update) (ix sub : Nat) : (s.setUpdate k u).fbGet ix sub = s.fbGet ix sub := by simp [State.fbGet]

/-! ## setCx -/

@[simp] theorem State.setCx_pending (s : State) (c : Nat) (x : TrvCtx) : (s.setCx c x).pending = s.pending := rfl
@[simp] theorem State.setCx_freeCtr (s : State) (c : Nat) (x : TrvCtx) : (s.setCx c x).freeCtr = s.freeCtr := rfl
@[simp] theorem State.setCx_datum (s : State) (c : Nat) (x : TrvCtx) : (s.setCx c x).datum = s.datum := rfl
@[simp] theorem State.setCx_datumFrac (s : State) (c : Nat) (x : TrvCtx) : (s.setCx c x).datumFrac = s.datumFrac := rfl
@[simp] theorem State.setCx_stepSeq (s : State) (c : Nat) (x : TrvCtx) : (s.setCx c x).stepSeq = s.stepSeq := rfl
@[simp] theorem State.setCx_regs (s : State) (c : Nat) (x : TrvCtx) : (s.setCx c x).regs = s.regs := rfl
@[simp] theorem State.setCx_fb (s : State) (c : Nat) (x : TrvCtx) : (s.setCx c x).fb = s.fb := rfl
@[simp] theorem State.setCx_mem (s : State) (c : Nat) (x : TrvCtx) : (s.setCx c x).mem = s.mem := rfl
@[simp] theorem State.setCx_latch (s : State) (c : Nat) (x : TrvCtx) : (s.setCx c x).latch = s.latch := rfl
@[simp] theorem State.setCx_held (s : State) (c : Nat) (x : TrvCtx) : (s.setCx c x).held = s.held := rfl
@[simp] theorem State.setCx_resp (s : State) (c : Nat) (x : TrvCtx) : (s.setCx c x).resp = s.resp := rfl
@[simp] theorem State.setCx_out (s : State) (c : Nat) (x : TrvCtx) : (s.setCx c x).out = s.out := rfl
@[simp] theorem State.setCx_icnSrc (s : State) (c : Nat) (x : TrvCtx) : (s.setCx c x).icnSrc = s.icnSrc := rfl
@[simp] theorem State.setCx_icnTgt (s : State) (c : Nat) (x : TrvCtx) : (s.setCx c x).icnTgt = s.icnTgt := rfl
@[simp] theorem State.setCx_worlds (s : State) (c : Nat) (x : TrvCtx) : (s.setCx c x).worlds = s.worlds := rfl
@[simp] theorem State.setCx_pins (s : State) (c : Nat) (x : TrvCtx) : (s.setCx c x).pins = s.pins := rfl
@[simp] theorem State.setCx_fuses (s : State) (c : Nat) (x : TrvCtx) : (s.setCx c x).fuses = s.fuses := rfl
@[simp] theorem State.setCx_nor (s : State) (c : Nat) (x : TrvCtx) : (s.setCx c x).nor = s.nor := rfl
@[simp] theorem State.setCx_eng (s : State) (c : Nat) (x : TrvCtx) : (s.setCx c x).eng = s.eng := rfl
@[simp] theorem State.setCx_saf (s : State) (c : Nat) (x : TrvCtx) : (s.setCx c x).saf = s.saf := rfl
@[simp] theorem State.setCx_pmu (s : State) (c : Nat) (x : TrvCtx) : (s.setCx c x).pmu = s.pmu := rfl
@[simp] theorem State.setCx_fw (s : State) (c : Nat) (x : TrvCtx) : (s.setCx c x).fw = s.fw := rfl
@[simp] theorem State.setCx_opPools (s : State) (c : Nat) (x : TrvCtx) : (s.setCx c x).opPools = s.opPools := rfl
@[simp] theorem State.setCx_cache (s : State) (c : Nat) (x : TrvCtx) : (s.setCx c x).cache = s.cache := rfl
@[simp] theorem State.setCx_dramGiB (s : State) (c : Nat) (x : TrvCtx) : (s.setCx c x).dramGiB = s.dramGiB := rfl
@[simp] theorem State.setCx_eccPlan (s : State) (c : Nat) (x : TrvCtx) : (s.setCx c x).eccPlan = s.eccPlan := rfl
@[simp] theorem State.setCx_servo (s : State) (c : Nat) (x : TrvCtx) : (s.setCx c x).servo = s.servo := rfl
@[simp] theorem State.setCx_mer (s : State) (c : Nat) (x : TrvCtx) : (s.setCx c x).mer = s.mer := rfl
@[simp] theorem State.setCx_timeIn (s : State) (c : Nat) (x : TrvCtx) : (s.setCx c x).timeIn = s.timeIn := rfl
@[simp] theorem State.setCx_gfx (s : State) (c : Nat) (x : TrvCtx) : (s.setCx c x).gfx = s.gfx := rfl
@[simp] theorem State.setCx_med (s : State) (c : Nat) (x : TrvCtx) : (s.setCx c x).med = s.med := rfl
@[simp] theorem State.setCx_gwy (s : State) (c : Nat) (x : TrvCtx) : (s.setCx c x).gwy = s.gwy := rfl
@[simp] theorem State.setCx_brg (s : State) (c : Nat) (x : TrvCtx) : (s.setCx c x).brg = s.brg := rfl
@[simp] theorem State.setCx_fba (s : State) (c : Nat) (x : TrvCtx) : (s.setCx c x).fba = s.fba := rfl
@[simp] theorem State.setCx_jrn (s : State) (c : Nat) (x : TrvCtx) : (s.setCx c x).jrn = s.jrn := rfl
@[simp] theorem State.setCx_ufs (s : State) (c : Nat) (x : TrvCtx) : (s.setCx c x).ufs = s.ufs := rfl
@[simp] theorem State.setCx_boot (s : State) (c : Nat) (x : TrvCtx) : (s.setCx c x).boot = s.boot := rfl
@[simp] theorem State.setCx_dbg (s : State) (c : Nat) (x : TrvCtx) : (s.setCx c x).dbg = s.dbg := rfl
@[simp] theorem State.setCx_jtag (s : State) (c : Nat) (x : TrvCtx) : (s.setCx c x).jtag = s.jtag := rfl
@[simp] theorem State.setCx_unpub (s : State) (c : Nat) (x : TrvCtx) : (s.setCx c x).unpub = s.unpub := rfl
@[simp] theorem State.setCx_get (s : State) (c : Nat) (x : TrvCtx) (fld : Field) : (s.setCx c x).get fld = s.get fld := by simp [State.get]
@[simp] theorem State.setCx_bit (s : State) (c : Nat) (x : TrvCtx) (fld : Field) : (s.setCx c x).bit fld = s.bit fld := by simp [State.bit]
@[simp] theorem State.setCx_fbGet (s : State) (c : Nat) (x : TrvCtx) (ix sub : Nat) : (s.setCx c x).fbGet ix sub = s.fbGet ix sub := by simp [State.fbGet]

/-! ## setPlan -/

@[simp] theorem State.setPlan_pending (s : State) (p : Option Plan) : (s.setPlan p).pending = s.pending := rfl
@[simp] theorem State.setPlan_freeCtr (s : State) (p : Option Plan) : (s.setPlan p).freeCtr = s.freeCtr := rfl
@[simp] theorem State.setPlan_datum (s : State) (p : Option Plan) : (s.setPlan p).datum = s.datum := rfl
@[simp] theorem State.setPlan_datumFrac (s : State) (p : Option Plan) : (s.setPlan p).datumFrac = s.datumFrac := rfl
@[simp] theorem State.setPlan_stepSeq (s : State) (p : Option Plan) : (s.setPlan p).stepSeq = s.stepSeq := rfl
@[simp] theorem State.setPlan_regs (s : State) (p : Option Plan) : (s.setPlan p).regs = s.regs := rfl
@[simp] theorem State.setPlan_fb (s : State) (p : Option Plan) : (s.setPlan p).fb = s.fb := rfl
@[simp] theorem State.setPlan_mem (s : State) (p : Option Plan) : (s.setPlan p).mem = s.mem := rfl
@[simp] theorem State.setPlan_latch (s : State) (p : Option Plan) : (s.setPlan p).latch = s.latch := rfl
@[simp] theorem State.setPlan_held (s : State) (p : Option Plan) : (s.setPlan p).held = s.held := rfl
@[simp] theorem State.setPlan_resp (s : State) (p : Option Plan) : (s.setPlan p).resp = s.resp := rfl
@[simp] theorem State.setPlan_out (s : State) (p : Option Plan) : (s.setPlan p).out = s.out := rfl
@[simp] theorem State.setPlan_icnSrc (s : State) (p : Option Plan) : (s.setPlan p).icnSrc = s.icnSrc := rfl
@[simp] theorem State.setPlan_icnTgt (s : State) (p : Option Plan) : (s.setPlan p).icnTgt = s.icnTgt := rfl
@[simp] theorem State.setPlan_worlds (s : State) (p : Option Plan) : (s.setPlan p).worlds = s.worlds := rfl
@[simp] theorem State.setPlan_pins (s : State) (p : Option Plan) : (s.setPlan p).pins = s.pins := rfl
@[simp] theorem State.setPlan_fuses (s : State) (p : Option Plan) : (s.setPlan p).fuses = s.fuses := rfl
@[simp] theorem State.setPlan_nor (s : State) (p : Option Plan) : (s.setPlan p).nor = s.nor := rfl
@[simp] theorem State.setPlan_eng (s : State) (p : Option Plan) : (s.setPlan p).eng = s.eng := rfl
@[simp] theorem State.setPlan_saf (s : State) (p : Option Plan) : (s.setPlan p).saf = s.saf := rfl
@[simp] theorem State.setPlan_pmu (s : State) (p : Option Plan) : (s.setPlan p).pmu = s.pmu := rfl
@[simp] theorem State.setPlan_fw (s : State) (p : Option Plan) : (s.setPlan p).fw = s.fw := rfl
@[simp] theorem State.setPlan_opPools (s : State) (p : Option Plan) : (s.setPlan p).opPools = s.opPools := rfl
@[simp] theorem State.setPlan_cache (s : State) (p : Option Plan) : (s.setPlan p).cache = s.cache := rfl
@[simp] theorem State.setPlan_dramGiB (s : State) (p : Option Plan) : (s.setPlan p).dramGiB = s.dramGiB := rfl
@[simp] theorem State.setPlan_eccPlan (s : State) (p : Option Plan) : (s.setPlan p).eccPlan = s.eccPlan := rfl
@[simp] theorem State.setPlan_servo (s : State) (p : Option Plan) : (s.setPlan p).servo = s.servo := rfl
@[simp] theorem State.setPlan_mer (s : State) (p : Option Plan) : (s.setPlan p).mer = s.mer := rfl
@[simp] theorem State.setPlan_timeIn (s : State) (p : Option Plan) : (s.setPlan p).timeIn = s.timeIn := rfl
@[simp] theorem State.setPlan_gfx (s : State) (p : Option Plan) : (s.setPlan p).gfx = s.gfx := rfl
@[simp] theorem State.setPlan_med (s : State) (p : Option Plan) : (s.setPlan p).med = s.med := rfl
@[simp] theorem State.setPlan_gwy (s : State) (p : Option Plan) : (s.setPlan p).gwy = s.gwy := rfl
@[simp] theorem State.setPlan_brg (s : State) (p : Option Plan) : (s.setPlan p).brg = s.brg := rfl
@[simp] theorem State.setPlan_fba (s : State) (p : Option Plan) : (s.setPlan p).fba = s.fba := rfl
@[simp] theorem State.setPlan_jrn (s : State) (p : Option Plan) : (s.setPlan p).jrn = s.jrn := rfl
@[simp] theorem State.setPlan_ufs (s : State) (p : Option Plan) : (s.setPlan p).ufs = s.ufs := rfl
@[simp] theorem State.setPlan_boot (s : State) (p : Option Plan) : (s.setPlan p).boot = s.boot := rfl
@[simp] theorem State.setPlan_dbg (s : State) (p : Option Plan) : (s.setPlan p).dbg = s.dbg := rfl
@[simp] theorem State.setPlan_jtag (s : State) (p : Option Plan) : (s.setPlan p).jtag = s.jtag := rfl
@[simp] theorem State.setPlan_unpub (s : State) (p : Option Plan) : (s.setPlan p).unpub = s.unpub := rfl
@[simp] theorem State.setPlan_get (s : State) (p : Option Plan) (fld : Field) : (s.setPlan p).get fld = s.get fld := by simp [State.get]
@[simp] theorem State.setPlan_bit (s : State) (p : Option Plan) (fld : Field) : (s.setPlan p).bit fld = s.bit fld := by simp [State.bit]
@[simp] theorem State.setPlan_fbGet (s : State) (p : Option Plan) (ix sub : Nat) : (s.setPlan p).fbGet ix sub = s.fbGet ix sub := by simp [State.fbGet]

/-! ## setGx -/

@[simp] theorem State.setGx_pending (s : State) (x : Nat) (v : GfxCtx) : (s.setGx x v).pending = s.pending := rfl
@[simp] theorem State.setGx_freeCtr (s : State) (x : Nat) (v : GfxCtx) : (s.setGx x v).freeCtr = s.freeCtr := rfl
@[simp] theorem State.setGx_datum (s : State) (x : Nat) (v : GfxCtx) : (s.setGx x v).datum = s.datum := rfl
@[simp] theorem State.setGx_datumFrac (s : State) (x : Nat) (v : GfxCtx) : (s.setGx x v).datumFrac = s.datumFrac := rfl
@[simp] theorem State.setGx_stepSeq (s : State) (x : Nat) (v : GfxCtx) : (s.setGx x v).stepSeq = s.stepSeq := rfl
@[simp] theorem State.setGx_regs (s : State) (x : Nat) (v : GfxCtx) : (s.setGx x v).regs = s.regs := rfl
@[simp] theorem State.setGx_fb (s : State) (x : Nat) (v : GfxCtx) : (s.setGx x v).fb = s.fb := rfl
@[simp] theorem State.setGx_mem (s : State) (x : Nat) (v : GfxCtx) : (s.setGx x v).mem = s.mem := rfl
@[simp] theorem State.setGx_latch (s : State) (x : Nat) (v : GfxCtx) : (s.setGx x v).latch = s.latch := rfl
@[simp] theorem State.setGx_held (s : State) (x : Nat) (v : GfxCtx) : (s.setGx x v).held = s.held := rfl
@[simp] theorem State.setGx_resp (s : State) (x : Nat) (v : GfxCtx) : (s.setGx x v).resp = s.resp := rfl
@[simp] theorem State.setGx_out (s : State) (x : Nat) (v : GfxCtx) : (s.setGx x v).out = s.out := rfl
@[simp] theorem State.setGx_icnSrc (s : State) (x : Nat) (v : GfxCtx) : (s.setGx x v).icnSrc = s.icnSrc := rfl
@[simp] theorem State.setGx_icnTgt (s : State) (x : Nat) (v : GfxCtx) : (s.setGx x v).icnTgt = s.icnTgt := rfl
@[simp] theorem State.setGx_worlds (s : State) (x : Nat) (v : GfxCtx) : (s.setGx x v).worlds = s.worlds := rfl
@[simp] theorem State.setGx_pins (s : State) (x : Nat) (v : GfxCtx) : (s.setGx x v).pins = s.pins := rfl
@[simp] theorem State.setGx_fuses (s : State) (x : Nat) (v : GfxCtx) : (s.setGx x v).fuses = s.fuses := rfl
@[simp] theorem State.setGx_nor (s : State) (x : Nat) (v : GfxCtx) : (s.setGx x v).nor = s.nor := rfl
@[simp] theorem State.setGx_eng (s : State) (x : Nat) (v : GfxCtx) : (s.setGx x v).eng = s.eng := rfl
@[simp] theorem State.setGx_saf (s : State) (x : Nat) (v : GfxCtx) : (s.setGx x v).saf = s.saf := rfl
@[simp] theorem State.setGx_pmu (s : State) (x : Nat) (v : GfxCtx) : (s.setGx x v).pmu = s.pmu := rfl
@[simp] theorem State.setGx_fw (s : State) (x : Nat) (v : GfxCtx) : (s.setGx x v).fw = s.fw := rfl
@[simp] theorem State.setGx_opPools (s : State) (x : Nat) (v : GfxCtx) : (s.setGx x v).opPools = s.opPools := rfl
@[simp] theorem State.setGx_cache (s : State) (x : Nat) (v : GfxCtx) : (s.setGx x v).cache = s.cache := rfl
@[simp] theorem State.setGx_dramGiB (s : State) (x : Nat) (v : GfxCtx) : (s.setGx x v).dramGiB = s.dramGiB := rfl
@[simp] theorem State.setGx_eccPlan (s : State) (x : Nat) (v : GfxCtx) : (s.setGx x v).eccPlan = s.eccPlan := rfl
@[simp] theorem State.setGx_servo (s : State) (x : Nat) (v : GfxCtx) : (s.setGx x v).servo = s.servo := rfl
@[simp] theorem State.setGx_mer (s : State) (x : Nat) (v : GfxCtx) : (s.setGx x v).mer = s.mer := rfl
@[simp] theorem State.setGx_timeIn (s : State) (x : Nat) (v : GfxCtx) : (s.setGx x v).timeIn = s.timeIn := rfl
@[simp] theorem State.setGx_trv (s : State) (x : Nat) (v : GfxCtx) : (s.setGx x v).trv = s.trv := rfl
@[simp] theorem State.setGx_med (s : State) (x : Nat) (v : GfxCtx) : (s.setGx x v).med = s.med := rfl
@[simp] theorem State.setGx_gwy (s : State) (x : Nat) (v : GfxCtx) : (s.setGx x v).gwy = s.gwy := rfl
@[simp] theorem State.setGx_brg (s : State) (x : Nat) (v : GfxCtx) : (s.setGx x v).brg = s.brg := rfl
@[simp] theorem State.setGx_fba (s : State) (x : Nat) (v : GfxCtx) : (s.setGx x v).fba = s.fba := rfl
@[simp] theorem State.setGx_jrn (s : State) (x : Nat) (v : GfxCtx) : (s.setGx x v).jrn = s.jrn := rfl
@[simp] theorem State.setGx_ufs (s : State) (x : Nat) (v : GfxCtx) : (s.setGx x v).ufs = s.ufs := rfl
@[simp] theorem State.setGx_boot (s : State) (x : Nat) (v : GfxCtx) : (s.setGx x v).boot = s.boot := rfl
@[simp] theorem State.setGx_dbg (s : State) (x : Nat) (v : GfxCtx) : (s.setGx x v).dbg = s.dbg := rfl
@[simp] theorem State.setGx_jtag (s : State) (x : Nat) (v : GfxCtx) : (s.setGx x v).jtag = s.jtag := rfl
@[simp] theorem State.setGx_unpub (s : State) (x : Nat) (v : GfxCtx) : (s.setGx x v).unpub = s.unpub := rfl
@[simp] theorem State.setGx_get (s : State) (x : Nat) (v : GfxCtx) (fld : Field) : (s.setGx x v).get fld = s.get fld := by simp [State.get]
@[simp] theorem State.setGx_bit (s : State) (x : Nat) (v : GfxCtx) (fld : Field) : (s.setGx x v).bit fld = s.bit fld := by simp [State.bit]
@[simp] theorem State.setGx_fbGet (s : State) (x : Nat) (v : GfxCtx) (ix sub : Nat) : (s.setGx x v).fbGet ix sub = s.fbGet ix sub := by simp [State.fbGet]

/-! ## setGxJob -/

@[simp] theorem State.setGxJob_pending (s : State) (x : Nat) (j : Option GfxJob) : (s.setGxJob x j).pending = s.pending := rfl
@[simp] theorem State.setGxJob_freeCtr (s : State) (x : Nat) (j : Option GfxJob) : (s.setGxJob x j).freeCtr = s.freeCtr := rfl
@[simp] theorem State.setGxJob_datum (s : State) (x : Nat) (j : Option GfxJob) : (s.setGxJob x j).datum = s.datum := rfl
@[simp] theorem State.setGxJob_datumFrac (s : State) (x : Nat) (j : Option GfxJob) : (s.setGxJob x j).datumFrac = s.datumFrac := rfl
@[simp] theorem State.setGxJob_stepSeq (s : State) (x : Nat) (j : Option GfxJob) : (s.setGxJob x j).stepSeq = s.stepSeq := rfl
@[simp] theorem State.setGxJob_regs (s : State) (x : Nat) (j : Option GfxJob) : (s.setGxJob x j).regs = s.regs := rfl
@[simp] theorem State.setGxJob_fb (s : State) (x : Nat) (j : Option GfxJob) : (s.setGxJob x j).fb = s.fb := rfl
@[simp] theorem State.setGxJob_mem (s : State) (x : Nat) (j : Option GfxJob) : (s.setGxJob x j).mem = s.mem := rfl
@[simp] theorem State.setGxJob_latch (s : State) (x : Nat) (j : Option GfxJob) : (s.setGxJob x j).latch = s.latch := rfl
@[simp] theorem State.setGxJob_held (s : State) (x : Nat) (j : Option GfxJob) : (s.setGxJob x j).held = s.held := rfl
@[simp] theorem State.setGxJob_resp (s : State) (x : Nat) (j : Option GfxJob) : (s.setGxJob x j).resp = s.resp := rfl
@[simp] theorem State.setGxJob_out (s : State) (x : Nat) (j : Option GfxJob) : (s.setGxJob x j).out = s.out := rfl
@[simp] theorem State.setGxJob_icnSrc (s : State) (x : Nat) (j : Option GfxJob) : (s.setGxJob x j).icnSrc = s.icnSrc := rfl
@[simp] theorem State.setGxJob_icnTgt (s : State) (x : Nat) (j : Option GfxJob) : (s.setGxJob x j).icnTgt = s.icnTgt := rfl
@[simp] theorem State.setGxJob_worlds (s : State) (x : Nat) (j : Option GfxJob) : (s.setGxJob x j).worlds = s.worlds := rfl
@[simp] theorem State.setGxJob_pins (s : State) (x : Nat) (j : Option GfxJob) : (s.setGxJob x j).pins = s.pins := rfl
@[simp] theorem State.setGxJob_fuses (s : State) (x : Nat) (j : Option GfxJob) : (s.setGxJob x j).fuses = s.fuses := rfl
@[simp] theorem State.setGxJob_nor (s : State) (x : Nat) (j : Option GfxJob) : (s.setGxJob x j).nor = s.nor := rfl
@[simp] theorem State.setGxJob_eng (s : State) (x : Nat) (j : Option GfxJob) : (s.setGxJob x j).eng = s.eng := rfl
@[simp] theorem State.setGxJob_saf (s : State) (x : Nat) (j : Option GfxJob) : (s.setGxJob x j).saf = s.saf := rfl
@[simp] theorem State.setGxJob_pmu (s : State) (x : Nat) (j : Option GfxJob) : (s.setGxJob x j).pmu = s.pmu := rfl
@[simp] theorem State.setGxJob_fw (s : State) (x : Nat) (j : Option GfxJob) : (s.setGxJob x j).fw = s.fw := rfl
@[simp] theorem State.setGxJob_opPools (s : State) (x : Nat) (j : Option GfxJob) : (s.setGxJob x j).opPools = s.opPools := rfl
@[simp] theorem State.setGxJob_cache (s : State) (x : Nat) (j : Option GfxJob) : (s.setGxJob x j).cache = s.cache := rfl
@[simp] theorem State.setGxJob_dramGiB (s : State) (x : Nat) (j : Option GfxJob) : (s.setGxJob x j).dramGiB = s.dramGiB := rfl
@[simp] theorem State.setGxJob_eccPlan (s : State) (x : Nat) (j : Option GfxJob) : (s.setGxJob x j).eccPlan = s.eccPlan := rfl
@[simp] theorem State.setGxJob_servo (s : State) (x : Nat) (j : Option GfxJob) : (s.setGxJob x j).servo = s.servo := rfl
@[simp] theorem State.setGxJob_mer (s : State) (x : Nat) (j : Option GfxJob) : (s.setGxJob x j).mer = s.mer := rfl
@[simp] theorem State.setGxJob_timeIn (s : State) (x : Nat) (j : Option GfxJob) : (s.setGxJob x j).timeIn = s.timeIn := rfl
@[simp] theorem State.setGxJob_trv (s : State) (x : Nat) (j : Option GfxJob) : (s.setGxJob x j).trv = s.trv := rfl
@[simp] theorem State.setGxJob_med (s : State) (x : Nat) (j : Option GfxJob) : (s.setGxJob x j).med = s.med := rfl
@[simp] theorem State.setGxJob_gwy (s : State) (x : Nat) (j : Option GfxJob) : (s.setGxJob x j).gwy = s.gwy := rfl
@[simp] theorem State.setGxJob_brg (s : State) (x : Nat) (j : Option GfxJob) : (s.setGxJob x j).brg = s.brg := rfl
@[simp] theorem State.setGxJob_fba (s : State) (x : Nat) (j : Option GfxJob) : (s.setGxJob x j).fba = s.fba := rfl
@[simp] theorem State.setGxJob_jrn (s : State) (x : Nat) (j : Option GfxJob) : (s.setGxJob x j).jrn = s.jrn := rfl
@[simp] theorem State.setGxJob_ufs (s : State) (x : Nat) (j : Option GfxJob) : (s.setGxJob x j).ufs = s.ufs := rfl
@[simp] theorem State.setGxJob_boot (s : State) (x : Nat) (j : Option GfxJob) : (s.setGxJob x j).boot = s.boot := rfl
@[simp] theorem State.setGxJob_dbg (s : State) (x : Nat) (j : Option GfxJob) : (s.setGxJob x j).dbg = s.dbg := rfl
@[simp] theorem State.setGxJob_jtag (s : State) (x : Nat) (j : Option GfxJob) : (s.setGxJob x j).jtag = s.jtag := rfl
@[simp] theorem State.setGxJob_unpub (s : State) (x : Nat) (j : Option GfxJob) : (s.setGxJob x j).unpub = s.unpub := rfl
@[simp] theorem State.setGxJob_get (s : State) (x : Nat) (j : Option GfxJob) (fld : Field) : (s.setGxJob x j).get fld = s.get fld := by simp [State.get]
@[simp] theorem State.setGxJob_bit (s : State) (x : Nat) (j : Option GfxJob) (fld : Field) : (s.setGxJob x j).bit fld = s.bit fld := by simp [State.bit]
@[simp] theorem State.setGxJob_fbGet (s : State) (x : Nat) (j : Option GfxJob) (ix sub : Nat) : (s.setGxJob x j).fbGet ix sub = s.fbGet ix sub := by simp [State.fbGet]

/-! ## setDp -/

@[simp] theorem State.setDp_pending (s : State) (d : Nat) (v : Display) : (s.setDp d v).pending = s.pending := rfl
@[simp] theorem State.setDp_freeCtr (s : State) (d : Nat) (v : Display) : (s.setDp d v).freeCtr = s.freeCtr := rfl
@[simp] theorem State.setDp_datum (s : State) (d : Nat) (v : Display) : (s.setDp d v).datum = s.datum := rfl
@[simp] theorem State.setDp_datumFrac (s : State) (d : Nat) (v : Display) : (s.setDp d v).datumFrac = s.datumFrac := rfl
@[simp] theorem State.setDp_stepSeq (s : State) (d : Nat) (v : Display) : (s.setDp d v).stepSeq = s.stepSeq := rfl
@[simp] theorem State.setDp_regs (s : State) (d : Nat) (v : Display) : (s.setDp d v).regs = s.regs := rfl
@[simp] theorem State.setDp_fb (s : State) (d : Nat) (v : Display) : (s.setDp d v).fb = s.fb := rfl
@[simp] theorem State.setDp_mem (s : State) (d : Nat) (v : Display) : (s.setDp d v).mem = s.mem := rfl
@[simp] theorem State.setDp_latch (s : State) (d : Nat) (v : Display) : (s.setDp d v).latch = s.latch := rfl
@[simp] theorem State.setDp_held (s : State) (d : Nat) (v : Display) : (s.setDp d v).held = s.held := rfl
@[simp] theorem State.setDp_resp (s : State) (d : Nat) (v : Display) : (s.setDp d v).resp = s.resp := rfl
@[simp] theorem State.setDp_out (s : State) (d : Nat) (v : Display) : (s.setDp d v).out = s.out := rfl
@[simp] theorem State.setDp_icnSrc (s : State) (d : Nat) (v : Display) : (s.setDp d v).icnSrc = s.icnSrc := rfl
@[simp] theorem State.setDp_icnTgt (s : State) (d : Nat) (v : Display) : (s.setDp d v).icnTgt = s.icnTgt := rfl
@[simp] theorem State.setDp_worlds (s : State) (d : Nat) (v : Display) : (s.setDp d v).worlds = s.worlds := rfl
@[simp] theorem State.setDp_pins (s : State) (d : Nat) (v : Display) : (s.setDp d v).pins = s.pins := rfl
@[simp] theorem State.setDp_fuses (s : State) (d : Nat) (v : Display) : (s.setDp d v).fuses = s.fuses := rfl
@[simp] theorem State.setDp_nor (s : State) (d : Nat) (v : Display) : (s.setDp d v).nor = s.nor := rfl
@[simp] theorem State.setDp_eng (s : State) (d : Nat) (v : Display) : (s.setDp d v).eng = s.eng := rfl
@[simp] theorem State.setDp_saf (s : State) (d : Nat) (v : Display) : (s.setDp d v).saf = s.saf := rfl
@[simp] theorem State.setDp_pmu (s : State) (d : Nat) (v : Display) : (s.setDp d v).pmu = s.pmu := rfl
@[simp] theorem State.setDp_fw (s : State) (d : Nat) (v : Display) : (s.setDp d v).fw = s.fw := rfl
@[simp] theorem State.setDp_opPools (s : State) (d : Nat) (v : Display) : (s.setDp d v).opPools = s.opPools := rfl
@[simp] theorem State.setDp_cache (s : State) (d : Nat) (v : Display) : (s.setDp d v).cache = s.cache := rfl
@[simp] theorem State.setDp_dramGiB (s : State) (d : Nat) (v : Display) : (s.setDp d v).dramGiB = s.dramGiB := rfl
@[simp] theorem State.setDp_eccPlan (s : State) (d : Nat) (v : Display) : (s.setDp d v).eccPlan = s.eccPlan := rfl
@[simp] theorem State.setDp_servo (s : State) (d : Nat) (v : Display) : (s.setDp d v).servo = s.servo := rfl
@[simp] theorem State.setDp_mer (s : State) (d : Nat) (v : Display) : (s.setDp d v).mer = s.mer := rfl
@[simp] theorem State.setDp_timeIn (s : State) (d : Nat) (v : Display) : (s.setDp d v).timeIn = s.timeIn := rfl
@[simp] theorem State.setDp_trv (s : State) (d : Nat) (v : Display) : (s.setDp d v).trv = s.trv := rfl
@[simp] theorem State.setDp_med (s : State) (d : Nat) (v : Display) : (s.setDp d v).med = s.med := rfl
@[simp] theorem State.setDp_gwy (s : State) (d : Nat) (v : Display) : (s.setDp d v).gwy = s.gwy := rfl
@[simp] theorem State.setDp_brg (s : State) (d : Nat) (v : Display) : (s.setDp d v).brg = s.brg := rfl
@[simp] theorem State.setDp_fba (s : State) (d : Nat) (v : Display) : (s.setDp d v).fba = s.fba := rfl
@[simp] theorem State.setDp_jrn (s : State) (d : Nat) (v : Display) : (s.setDp d v).jrn = s.jrn := rfl
@[simp] theorem State.setDp_ufs (s : State) (d : Nat) (v : Display) : (s.setDp d v).ufs = s.ufs := rfl
@[simp] theorem State.setDp_boot (s : State) (d : Nat) (v : Display) : (s.setDp d v).boot = s.boot := rfl
@[simp] theorem State.setDp_dbg (s : State) (d : Nat) (v : Display) : (s.setDp d v).dbg = s.dbg := rfl
@[simp] theorem State.setDp_jtag (s : State) (d : Nat) (v : Display) : (s.setDp d v).jtag = s.jtag := rfl
@[simp] theorem State.setDp_unpub (s : State) (d : Nat) (v : Display) : (s.setDp d v).unpub = s.unpub := rfl
@[simp] theorem State.setDp_get (s : State) (d : Nat) (v : Display) (fld : Field) : (s.setDp d v).get fld = s.get fld := by simp [State.get]
@[simp] theorem State.setDp_bit (s : State) (d : Nat) (v : Display) (fld : Field) : (s.setDp d v).bit fld = s.bit fld := by simp [State.bit]
@[simp] theorem State.setDp_fbGet (s : State) (d : Nat) (v : Display) (ix sub : Nat) : (s.setDp d v).fbGet ix sub = s.fbGet ix sub := by simp [State.fbGet]

/-! ## setMx -/

@[simp] theorem State.setMx_pending (s : State) (x : Nat) (v : MedCtx) : (s.setMx x v).pending = s.pending := rfl
@[simp] theorem State.setMx_freeCtr (s : State) (x : Nat) (v : MedCtx) : (s.setMx x v).freeCtr = s.freeCtr := rfl
@[simp] theorem State.setMx_datum (s : State) (x : Nat) (v : MedCtx) : (s.setMx x v).datum = s.datum := rfl
@[simp] theorem State.setMx_datumFrac (s : State) (x : Nat) (v : MedCtx) : (s.setMx x v).datumFrac = s.datumFrac := rfl
@[simp] theorem State.setMx_stepSeq (s : State) (x : Nat) (v : MedCtx) : (s.setMx x v).stepSeq = s.stepSeq := rfl
@[simp] theorem State.setMx_regs (s : State) (x : Nat) (v : MedCtx) : (s.setMx x v).regs = s.regs := rfl
@[simp] theorem State.setMx_fb (s : State) (x : Nat) (v : MedCtx) : (s.setMx x v).fb = s.fb := rfl
@[simp] theorem State.setMx_mem (s : State) (x : Nat) (v : MedCtx) : (s.setMx x v).mem = s.mem := rfl
@[simp] theorem State.setMx_latch (s : State) (x : Nat) (v : MedCtx) : (s.setMx x v).latch = s.latch := rfl
@[simp] theorem State.setMx_held (s : State) (x : Nat) (v : MedCtx) : (s.setMx x v).held = s.held := rfl
@[simp] theorem State.setMx_resp (s : State) (x : Nat) (v : MedCtx) : (s.setMx x v).resp = s.resp := rfl
@[simp] theorem State.setMx_out (s : State) (x : Nat) (v : MedCtx) : (s.setMx x v).out = s.out := rfl
@[simp] theorem State.setMx_icnSrc (s : State) (x : Nat) (v : MedCtx) : (s.setMx x v).icnSrc = s.icnSrc := rfl
@[simp] theorem State.setMx_icnTgt (s : State) (x : Nat) (v : MedCtx) : (s.setMx x v).icnTgt = s.icnTgt := rfl
@[simp] theorem State.setMx_worlds (s : State) (x : Nat) (v : MedCtx) : (s.setMx x v).worlds = s.worlds := rfl
@[simp] theorem State.setMx_pins (s : State) (x : Nat) (v : MedCtx) : (s.setMx x v).pins = s.pins := rfl
@[simp] theorem State.setMx_fuses (s : State) (x : Nat) (v : MedCtx) : (s.setMx x v).fuses = s.fuses := rfl
@[simp] theorem State.setMx_nor (s : State) (x : Nat) (v : MedCtx) : (s.setMx x v).nor = s.nor := rfl
@[simp] theorem State.setMx_eng (s : State) (x : Nat) (v : MedCtx) : (s.setMx x v).eng = s.eng := rfl
@[simp] theorem State.setMx_saf (s : State) (x : Nat) (v : MedCtx) : (s.setMx x v).saf = s.saf := rfl
@[simp] theorem State.setMx_pmu (s : State) (x : Nat) (v : MedCtx) : (s.setMx x v).pmu = s.pmu := rfl
@[simp] theorem State.setMx_fw (s : State) (x : Nat) (v : MedCtx) : (s.setMx x v).fw = s.fw := rfl
@[simp] theorem State.setMx_opPools (s : State) (x : Nat) (v : MedCtx) : (s.setMx x v).opPools = s.opPools := rfl
@[simp] theorem State.setMx_cache (s : State) (x : Nat) (v : MedCtx) : (s.setMx x v).cache = s.cache := rfl
@[simp] theorem State.setMx_dramGiB (s : State) (x : Nat) (v : MedCtx) : (s.setMx x v).dramGiB = s.dramGiB := rfl
@[simp] theorem State.setMx_eccPlan (s : State) (x : Nat) (v : MedCtx) : (s.setMx x v).eccPlan = s.eccPlan := rfl
@[simp] theorem State.setMx_servo (s : State) (x : Nat) (v : MedCtx) : (s.setMx x v).servo = s.servo := rfl
@[simp] theorem State.setMx_mer (s : State) (x : Nat) (v : MedCtx) : (s.setMx x v).mer = s.mer := rfl
@[simp] theorem State.setMx_timeIn (s : State) (x : Nat) (v : MedCtx) : (s.setMx x v).timeIn = s.timeIn := rfl
@[simp] theorem State.setMx_trv (s : State) (x : Nat) (v : MedCtx) : (s.setMx x v).trv = s.trv := rfl
@[simp] theorem State.setMx_gfx (s : State) (x : Nat) (v : MedCtx) : (s.setMx x v).gfx = s.gfx := rfl
@[simp] theorem State.setMx_gwy (s : State) (x : Nat) (v : MedCtx) : (s.setMx x v).gwy = s.gwy := rfl
@[simp] theorem State.setMx_brg (s : State) (x : Nat) (v : MedCtx) : (s.setMx x v).brg = s.brg := rfl
@[simp] theorem State.setMx_fba (s : State) (x : Nat) (v : MedCtx) : (s.setMx x v).fba = s.fba := rfl
@[simp] theorem State.setMx_jrn (s : State) (x : Nat) (v : MedCtx) : (s.setMx x v).jrn = s.jrn := rfl
@[simp] theorem State.setMx_ufs (s : State) (x : Nat) (v : MedCtx) : (s.setMx x v).ufs = s.ufs := rfl
@[simp] theorem State.setMx_boot (s : State) (x : Nat) (v : MedCtx) : (s.setMx x v).boot = s.boot := rfl
@[simp] theorem State.setMx_dbg (s : State) (x : Nat) (v : MedCtx) : (s.setMx x v).dbg = s.dbg := rfl
@[simp] theorem State.setMx_jtag (s : State) (x : Nat) (v : MedCtx) : (s.setMx x v).jtag = s.jtag := rfl
@[simp] theorem State.setMx_unpub (s : State) (x : Nat) (v : MedCtx) : (s.setMx x v).unpub = s.unpub := rfl
@[simp] theorem State.setMx_get (s : State) (x : Nat) (v : MedCtx) (fld : Field) : (s.setMx x v).get fld = s.get fld := by simp [State.get]
@[simp] theorem State.setMx_bit (s : State) (x : Nat) (v : MedCtx) (fld : Field) : (s.setMx x v).bit fld = s.bit fld := by simp [State.bit]
@[simp] theorem State.setMx_fbGet (s : State) (x : Nat) (v : MedCtx) (ix sub : Nat) : (s.setMx x v).fbGet ix sub = s.fbGet ix sub := by simp [State.fbGet]

/-! ## setCap -/

@[simp] theorem State.setCap_pending (s : State) (i : Nat) (v : CapSrc) : (s.setCap i v).pending = s.pending := rfl
@[simp] theorem State.setCap_freeCtr (s : State) (i : Nat) (v : CapSrc) : (s.setCap i v).freeCtr = s.freeCtr := rfl
@[simp] theorem State.setCap_datum (s : State) (i : Nat) (v : CapSrc) : (s.setCap i v).datum = s.datum := rfl
@[simp] theorem State.setCap_datumFrac (s : State) (i : Nat) (v : CapSrc) : (s.setCap i v).datumFrac = s.datumFrac := rfl
@[simp] theorem State.setCap_stepSeq (s : State) (i : Nat) (v : CapSrc) : (s.setCap i v).stepSeq = s.stepSeq := rfl
@[simp] theorem State.setCap_regs (s : State) (i : Nat) (v : CapSrc) : (s.setCap i v).regs = s.regs := rfl
@[simp] theorem State.setCap_fb (s : State) (i : Nat) (v : CapSrc) : (s.setCap i v).fb = s.fb := rfl
@[simp] theorem State.setCap_mem (s : State) (i : Nat) (v : CapSrc) : (s.setCap i v).mem = s.mem := rfl
@[simp] theorem State.setCap_latch (s : State) (i : Nat) (v : CapSrc) : (s.setCap i v).latch = s.latch := rfl
@[simp] theorem State.setCap_held (s : State) (i : Nat) (v : CapSrc) : (s.setCap i v).held = s.held := rfl
@[simp] theorem State.setCap_resp (s : State) (i : Nat) (v : CapSrc) : (s.setCap i v).resp = s.resp := rfl
@[simp] theorem State.setCap_out (s : State) (i : Nat) (v : CapSrc) : (s.setCap i v).out = s.out := rfl
@[simp] theorem State.setCap_icnSrc (s : State) (i : Nat) (v : CapSrc) : (s.setCap i v).icnSrc = s.icnSrc := rfl
@[simp] theorem State.setCap_icnTgt (s : State) (i : Nat) (v : CapSrc) : (s.setCap i v).icnTgt = s.icnTgt := rfl
@[simp] theorem State.setCap_worlds (s : State) (i : Nat) (v : CapSrc) : (s.setCap i v).worlds = s.worlds := rfl
@[simp] theorem State.setCap_pins (s : State) (i : Nat) (v : CapSrc) : (s.setCap i v).pins = s.pins := rfl
@[simp] theorem State.setCap_fuses (s : State) (i : Nat) (v : CapSrc) : (s.setCap i v).fuses = s.fuses := rfl
@[simp] theorem State.setCap_nor (s : State) (i : Nat) (v : CapSrc) : (s.setCap i v).nor = s.nor := rfl
@[simp] theorem State.setCap_eng (s : State) (i : Nat) (v : CapSrc) : (s.setCap i v).eng = s.eng := rfl
@[simp] theorem State.setCap_saf (s : State) (i : Nat) (v : CapSrc) : (s.setCap i v).saf = s.saf := rfl
@[simp] theorem State.setCap_pmu (s : State) (i : Nat) (v : CapSrc) : (s.setCap i v).pmu = s.pmu := rfl
@[simp] theorem State.setCap_fw (s : State) (i : Nat) (v : CapSrc) : (s.setCap i v).fw = s.fw := rfl
@[simp] theorem State.setCap_opPools (s : State) (i : Nat) (v : CapSrc) : (s.setCap i v).opPools = s.opPools := rfl
@[simp] theorem State.setCap_cache (s : State) (i : Nat) (v : CapSrc) : (s.setCap i v).cache = s.cache := rfl
@[simp] theorem State.setCap_dramGiB (s : State) (i : Nat) (v : CapSrc) : (s.setCap i v).dramGiB = s.dramGiB := rfl
@[simp] theorem State.setCap_eccPlan (s : State) (i : Nat) (v : CapSrc) : (s.setCap i v).eccPlan = s.eccPlan := rfl
@[simp] theorem State.setCap_servo (s : State) (i : Nat) (v : CapSrc) : (s.setCap i v).servo = s.servo := rfl
@[simp] theorem State.setCap_mer (s : State) (i : Nat) (v : CapSrc) : (s.setCap i v).mer = s.mer := rfl
@[simp] theorem State.setCap_timeIn (s : State) (i : Nat) (v : CapSrc) : (s.setCap i v).timeIn = s.timeIn := rfl
@[simp] theorem State.setCap_trv (s : State) (i : Nat) (v : CapSrc) : (s.setCap i v).trv = s.trv := rfl
@[simp] theorem State.setCap_gfx (s : State) (i : Nat) (v : CapSrc) : (s.setCap i v).gfx = s.gfx := rfl
@[simp] theorem State.setCap_gwy (s : State) (i : Nat) (v : CapSrc) : (s.setCap i v).gwy = s.gwy := rfl
@[simp] theorem State.setCap_brg (s : State) (i : Nat) (v : CapSrc) : (s.setCap i v).brg = s.brg := rfl
@[simp] theorem State.setCap_fba (s : State) (i : Nat) (v : CapSrc) : (s.setCap i v).fba = s.fba := rfl
@[simp] theorem State.setCap_jrn (s : State) (i : Nat) (v : CapSrc) : (s.setCap i v).jrn = s.jrn := rfl
@[simp] theorem State.setCap_ufs (s : State) (i : Nat) (v : CapSrc) : (s.setCap i v).ufs = s.ufs := rfl
@[simp] theorem State.setCap_boot (s : State) (i : Nat) (v : CapSrc) : (s.setCap i v).boot = s.boot := rfl
@[simp] theorem State.setCap_dbg (s : State) (i : Nat) (v : CapSrc) : (s.setCap i v).dbg = s.dbg := rfl
@[simp] theorem State.setCap_jtag (s : State) (i : Nat) (v : CapSrc) : (s.setCap i v).jtag = s.jtag := rfl
@[simp] theorem State.setCap_unpub (s : State) (i : Nat) (v : CapSrc) : (s.setCap i v).unpub = s.unpub := rfl
@[simp] theorem State.setCap_get (s : State) (i : Nat) (v : CapSrc) (fld : Field) : (s.setCap i v).get fld = s.get fld := by simp [State.get]
@[simp] theorem State.setCap_bit (s : State) (i : Nat) (v : CapSrc) (fld : Field) : (s.setCap i v).bit fld = s.bit fld := by simp [State.bit]
@[simp] theorem State.setCap_fbGet (s : State) (i : Nat) (v : CapSrc) (ix sub : Nat) : (s.setCap i v).fbGet ix sub = s.fbGet ix sub := by simp [State.fbGet]

/-! ## setStx -/

@[simp] theorem State.setStx_pending (s : State) (p : Nat) (v : StCtx) : (s.setStx p v).pending = s.pending := rfl
@[simp] theorem State.setStx_freeCtr (s : State) (p : Nat) (v : StCtx) : (s.setStx p v).freeCtr = s.freeCtr := rfl
@[simp] theorem State.setStx_datum (s : State) (p : Nat) (v : StCtx) : (s.setStx p v).datum = s.datum := rfl
@[simp] theorem State.setStx_datumFrac (s : State) (p : Nat) (v : StCtx) : (s.setStx p v).datumFrac = s.datumFrac := rfl
@[simp] theorem State.setStx_stepSeq (s : State) (p : Nat) (v : StCtx) : (s.setStx p v).stepSeq = s.stepSeq := rfl
@[simp] theorem State.setStx_regs (s : State) (p : Nat) (v : StCtx) : (s.setStx p v).regs = s.regs := rfl
@[simp] theorem State.setStx_fb (s : State) (p : Nat) (v : StCtx) : (s.setStx p v).fb = s.fb := rfl
@[simp] theorem State.setStx_mem (s : State) (p : Nat) (v : StCtx) : (s.setStx p v).mem = s.mem := rfl
@[simp] theorem State.setStx_latch (s : State) (p : Nat) (v : StCtx) : (s.setStx p v).latch = s.latch := rfl
@[simp] theorem State.setStx_held (s : State) (p : Nat) (v : StCtx) : (s.setStx p v).held = s.held := rfl
@[simp] theorem State.setStx_resp (s : State) (p : Nat) (v : StCtx) : (s.setStx p v).resp = s.resp := rfl
@[simp] theorem State.setStx_out (s : State) (p : Nat) (v : StCtx) : (s.setStx p v).out = s.out := rfl
@[simp] theorem State.setStx_icnSrc (s : State) (p : Nat) (v : StCtx) : (s.setStx p v).icnSrc = s.icnSrc := rfl
@[simp] theorem State.setStx_icnTgt (s : State) (p : Nat) (v : StCtx) : (s.setStx p v).icnTgt = s.icnTgt := rfl
@[simp] theorem State.setStx_worlds (s : State) (p : Nat) (v : StCtx) : (s.setStx p v).worlds = s.worlds := rfl
@[simp] theorem State.setStx_pins (s : State) (p : Nat) (v : StCtx) : (s.setStx p v).pins = s.pins := rfl
@[simp] theorem State.setStx_fuses (s : State) (p : Nat) (v : StCtx) : (s.setStx p v).fuses = s.fuses := rfl
@[simp] theorem State.setStx_nor (s : State) (p : Nat) (v : StCtx) : (s.setStx p v).nor = s.nor := rfl
@[simp] theorem State.setStx_eng (s : State) (p : Nat) (v : StCtx) : (s.setStx p v).eng = s.eng := rfl
@[simp] theorem State.setStx_saf (s : State) (p : Nat) (v : StCtx) : (s.setStx p v).saf = s.saf := rfl
@[simp] theorem State.setStx_pmu (s : State) (p : Nat) (v : StCtx) : (s.setStx p v).pmu = s.pmu := rfl
@[simp] theorem State.setStx_fw (s : State) (p : Nat) (v : StCtx) : (s.setStx p v).fw = s.fw := rfl
@[simp] theorem State.setStx_opPools (s : State) (p : Nat) (v : StCtx) : (s.setStx p v).opPools = s.opPools := rfl
@[simp] theorem State.setStx_cache (s : State) (p : Nat) (v : StCtx) : (s.setStx p v).cache = s.cache := rfl
@[simp] theorem State.setStx_dramGiB (s : State) (p : Nat) (v : StCtx) : (s.setStx p v).dramGiB = s.dramGiB := rfl
@[simp] theorem State.setStx_eccPlan (s : State) (p : Nat) (v : StCtx) : (s.setStx p v).eccPlan = s.eccPlan := rfl
@[simp] theorem State.setStx_servo (s : State) (p : Nat) (v : StCtx) : (s.setStx p v).servo = s.servo := rfl
@[simp] theorem State.setStx_mer (s : State) (p : Nat) (v : StCtx) : (s.setStx p v).mer = s.mer := rfl
@[simp] theorem State.setStx_timeIn (s : State) (p : Nat) (v : StCtx) : (s.setStx p v).timeIn = s.timeIn := rfl
@[simp] theorem State.setStx_trv (s : State) (p : Nat) (v : StCtx) : (s.setStx p v).trv = s.trv := rfl
@[simp] theorem State.setStx_gfx (s : State) (p : Nat) (v : StCtx) : (s.setStx p v).gfx = s.gfx := rfl
@[simp] theorem State.setStx_gwy (s : State) (p : Nat) (v : StCtx) : (s.setStx p v).gwy = s.gwy := rfl
@[simp] theorem State.setStx_brg (s : State) (p : Nat) (v : StCtx) : (s.setStx p v).brg = s.brg := rfl
@[simp] theorem State.setStx_fba (s : State) (p : Nat) (v : StCtx) : (s.setStx p v).fba = s.fba := rfl
@[simp] theorem State.setStx_jrn (s : State) (p : Nat) (v : StCtx) : (s.setStx p v).jrn = s.jrn := rfl
@[simp] theorem State.setStx_ufs (s : State) (p : Nat) (v : StCtx) : (s.setStx p v).ufs = s.ufs := rfl
@[simp] theorem State.setStx_boot (s : State) (p : Nat) (v : StCtx) : (s.setStx p v).boot = s.boot := rfl
@[simp] theorem State.setStx_dbg (s : State) (p : Nat) (v : StCtx) : (s.setStx p v).dbg = s.dbg := rfl
@[simp] theorem State.setStx_jtag (s : State) (p : Nat) (v : StCtx) : (s.setStx p v).jtag = s.jtag := rfl
@[simp] theorem State.setStx_unpub (s : State) (p : Nat) (v : StCtx) : (s.setStx p v).unpub = s.unpub := rfl
@[simp] theorem State.setStx_get (s : State) (p : Nat) (v : StCtx) (fld : Field) : (s.setStx p v).get fld = s.get fld := by simp [State.get]
@[simp] theorem State.setStx_bit (s : State) (p : Nat) (v : StCtx) (fld : Field) : (s.setStx p v).bit fld = s.bit fld := by simp [State.bit]
@[simp] theorem State.setStx_fbGet (s : State) (p : Nat) (v : StCtx) (ix sub : Nat) : (s.setStx p v).fbGet ix sub = s.fbGet ix sub := by simp [State.fbGet]

/-! ## setOpPool -/

@[simp] theorem State.setOpPool_pending (s : State) (k : Nat) (u : PoolUse) : (s.setOpPool k u).pending = s.pending := rfl
@[simp] theorem State.setOpPool_freeCtr (s : State) (k : Nat) (u : PoolUse) : (s.setOpPool k u).freeCtr = s.freeCtr := rfl
@[simp] theorem State.setOpPool_datum (s : State) (k : Nat) (u : PoolUse) : (s.setOpPool k u).datum = s.datum := rfl
@[simp] theorem State.setOpPool_datumFrac (s : State) (k : Nat) (u : PoolUse) : (s.setOpPool k u).datumFrac = s.datumFrac := rfl
@[simp] theorem State.setOpPool_stepSeq (s : State) (k : Nat) (u : PoolUse) : (s.setOpPool k u).stepSeq = s.stepSeq := rfl
@[simp] theorem State.setOpPool_regs (s : State) (k : Nat) (u : PoolUse) : (s.setOpPool k u).regs = s.regs := rfl
@[simp] theorem State.setOpPool_fb (s : State) (k : Nat) (u : PoolUse) : (s.setOpPool k u).fb = s.fb := rfl
@[simp] theorem State.setOpPool_mem (s : State) (k : Nat) (u : PoolUse) : (s.setOpPool k u).mem = s.mem := rfl
@[simp] theorem State.setOpPool_latch (s : State) (k : Nat) (u : PoolUse) : (s.setOpPool k u).latch = s.latch := rfl
@[simp] theorem State.setOpPool_held (s : State) (k : Nat) (u : PoolUse) : (s.setOpPool k u).held = s.held := rfl
@[simp] theorem State.setOpPool_resp (s : State) (k : Nat) (u : PoolUse) : (s.setOpPool k u).resp = s.resp := rfl
@[simp] theorem State.setOpPool_out (s : State) (k : Nat) (u : PoolUse) : (s.setOpPool k u).out = s.out := rfl
@[simp] theorem State.setOpPool_icnSrc (s : State) (k : Nat) (u : PoolUse) : (s.setOpPool k u).icnSrc = s.icnSrc := rfl
@[simp] theorem State.setOpPool_icnTgt (s : State) (k : Nat) (u : PoolUse) : (s.setOpPool k u).icnTgt = s.icnTgt := rfl
@[simp] theorem State.setOpPool_worlds (s : State) (k : Nat) (u : PoolUse) : (s.setOpPool k u).worlds = s.worlds := rfl
@[simp] theorem State.setOpPool_pins (s : State) (k : Nat) (u : PoolUse) : (s.setOpPool k u).pins = s.pins := rfl
@[simp] theorem State.setOpPool_fuses (s : State) (k : Nat) (u : PoolUse) : (s.setOpPool k u).fuses = s.fuses := rfl
@[simp] theorem State.setOpPool_nor (s : State) (k : Nat) (u : PoolUse) : (s.setOpPool k u).nor = s.nor := rfl
@[simp] theorem State.setOpPool_eng (s : State) (k : Nat) (u : PoolUse) : (s.setOpPool k u).eng = s.eng := rfl
@[simp] theorem State.setOpPool_saf (s : State) (k : Nat) (u : PoolUse) : (s.setOpPool k u).saf = s.saf := rfl
@[simp] theorem State.setOpPool_pmu (s : State) (k : Nat) (u : PoolUse) : (s.setOpPool k u).pmu = s.pmu := rfl
@[simp] theorem State.setOpPool_fw (s : State) (k : Nat) (u : PoolUse) : (s.setOpPool k u).fw = s.fw := rfl
@[simp] theorem State.setOpPool_cache (s : State) (k : Nat) (u : PoolUse) : (s.setOpPool k u).cache = s.cache := rfl
@[simp] theorem State.setOpPool_dramGiB (s : State) (k : Nat) (u : PoolUse) : (s.setOpPool k u).dramGiB = s.dramGiB := rfl
@[simp] theorem State.setOpPool_eccPlan (s : State) (k : Nat) (u : PoolUse) : (s.setOpPool k u).eccPlan = s.eccPlan := rfl
@[simp] theorem State.setOpPool_servo (s : State) (k : Nat) (u : PoolUse) : (s.setOpPool k u).servo = s.servo := rfl
@[simp] theorem State.setOpPool_mer (s : State) (k : Nat) (u : PoolUse) : (s.setOpPool k u).mer = s.mer := rfl
@[simp] theorem State.setOpPool_timeIn (s : State) (k : Nat) (u : PoolUse) : (s.setOpPool k u).timeIn = s.timeIn := rfl
@[simp] theorem State.setOpPool_trv (s : State) (k : Nat) (u : PoolUse) : (s.setOpPool k u).trv = s.trv := rfl
@[simp] theorem State.setOpPool_gfx (s : State) (k : Nat) (u : PoolUse) : (s.setOpPool k u).gfx = s.gfx := rfl
@[simp] theorem State.setOpPool_med (s : State) (k : Nat) (u : PoolUse) : (s.setOpPool k u).med = s.med := rfl
@[simp] theorem State.setOpPool_gwy (s : State) (k : Nat) (u : PoolUse) : (s.setOpPool k u).gwy = s.gwy := rfl
@[simp] theorem State.setOpPool_brg (s : State) (k : Nat) (u : PoolUse) : (s.setOpPool k u).brg = s.brg := rfl
@[simp] theorem State.setOpPool_fba (s : State) (k : Nat) (u : PoolUse) : (s.setOpPool k u).fba = s.fba := rfl
@[simp] theorem State.setOpPool_jrn (s : State) (k : Nat) (u : PoolUse) : (s.setOpPool k u).jrn = s.jrn := rfl
@[simp] theorem State.setOpPool_ufs (s : State) (k : Nat) (u : PoolUse) : (s.setOpPool k u).ufs = s.ufs := rfl
@[simp] theorem State.setOpPool_boot (s : State) (k : Nat) (u : PoolUse) : (s.setOpPool k u).boot = s.boot := rfl
@[simp] theorem State.setOpPool_dbg (s : State) (k : Nat) (u : PoolUse) : (s.setOpPool k u).dbg = s.dbg := rfl
@[simp] theorem State.setOpPool_jtag (s : State) (k : Nat) (u : PoolUse) : (s.setOpPool k u).jtag = s.jtag := rfl
@[simp] theorem State.setOpPool_unpub (s : State) (k : Nat) (u : PoolUse) : (s.setOpPool k u).unpub = s.unpub := rfl
@[simp] theorem State.setOpPool_get (s : State) (k : Nat) (u : PoolUse) (fld : Field) : (s.setOpPool k u).get fld = s.get fld := by simp [State.get]
@[simp] theorem State.setOpPool_bit (s : State) (k : Nat) (u : PoolUse) (fld : Field) : (s.setOpPool k u).bit fld = s.bit fld := by simp [State.bit]
@[simp] theorem State.setOpPool_fbGet (s : State) (k : Nat) (u : PoolUse) (ix sub : Nat) : (s.setOpPool k u).fbGet ix sub = s.fbGet ix sub := by simp [State.fbGet]

/-! ## setFlowVal -/

@[simp] theorem State.setFlowVal_pending (s : State) (n : Nat) (v : FlowVal) : (s.setFlowVal n v).pending = s.pending := rfl
@[simp] theorem State.setFlowVal_freeCtr (s : State) (n : Nat) (v : FlowVal) : (s.setFlowVal n v).freeCtr = s.freeCtr := rfl
@[simp] theorem State.setFlowVal_datum (s : State) (n : Nat) (v : FlowVal) : (s.setFlowVal n v).datum = s.datum := rfl
@[simp] theorem State.setFlowVal_datumFrac (s : State) (n : Nat) (v : FlowVal) : (s.setFlowVal n v).datumFrac = s.datumFrac := rfl
@[simp] theorem State.setFlowVal_stepSeq (s : State) (n : Nat) (v : FlowVal) : (s.setFlowVal n v).stepSeq = s.stepSeq := rfl
@[simp] theorem State.setFlowVal_regs (s : State) (n : Nat) (v : FlowVal) : (s.setFlowVal n v).regs = s.regs := rfl
@[simp] theorem State.setFlowVal_fb (s : State) (n : Nat) (v : FlowVal) : (s.setFlowVal n v).fb = s.fb := rfl
@[simp] theorem State.setFlowVal_mem (s : State) (n : Nat) (v : FlowVal) : (s.setFlowVal n v).mem = s.mem := rfl
@[simp] theorem State.setFlowVal_latch (s : State) (n : Nat) (v : FlowVal) : (s.setFlowVal n v).latch = s.latch := rfl
@[simp] theorem State.setFlowVal_held (s : State) (n : Nat) (v : FlowVal) : (s.setFlowVal n v).held = s.held := rfl
@[simp] theorem State.setFlowVal_resp (s : State) (n : Nat) (v : FlowVal) : (s.setFlowVal n v).resp = s.resp := rfl
@[simp] theorem State.setFlowVal_out (s : State) (n : Nat) (v : FlowVal) : (s.setFlowVal n v).out = s.out := rfl
@[simp] theorem State.setFlowVal_icnSrc (s : State) (n : Nat) (v : FlowVal) : (s.setFlowVal n v).icnSrc = s.icnSrc := rfl
@[simp] theorem State.setFlowVal_icnTgt (s : State) (n : Nat) (v : FlowVal) : (s.setFlowVal n v).icnTgt = s.icnTgt := rfl
@[simp] theorem State.setFlowVal_worlds (s : State) (n : Nat) (v : FlowVal) : (s.setFlowVal n v).worlds = s.worlds := rfl
@[simp] theorem State.setFlowVal_pins (s : State) (n : Nat) (v : FlowVal) : (s.setFlowVal n v).pins = s.pins := rfl
@[simp] theorem State.setFlowVal_fuses (s : State) (n : Nat) (v : FlowVal) : (s.setFlowVal n v).fuses = s.fuses := rfl
@[simp] theorem State.setFlowVal_nor (s : State) (n : Nat) (v : FlowVal) : (s.setFlowVal n v).nor = s.nor := rfl
@[simp] theorem State.setFlowVal_eng (s : State) (n : Nat) (v : FlowVal) : (s.setFlowVal n v).eng = s.eng := rfl
@[simp] theorem State.setFlowVal_saf (s : State) (n : Nat) (v : FlowVal) : (s.setFlowVal n v).saf = s.saf := rfl
@[simp] theorem State.setFlowVal_pmu (s : State) (n : Nat) (v : FlowVal) : (s.setFlowVal n v).pmu = s.pmu := rfl
@[simp] theorem State.setFlowVal_fw (s : State) (n : Nat) (v : FlowVal) : (s.setFlowVal n v).fw = s.fw := rfl
@[simp] theorem State.setFlowVal_opPools (s : State) (n : Nat) (v : FlowVal) : (s.setFlowVal n v).opPools = s.opPools := rfl
@[simp] theorem State.setFlowVal_cache (s : State) (n : Nat) (v : FlowVal) : (s.setFlowVal n v).cache = s.cache := rfl
@[simp] theorem State.setFlowVal_dramGiB (s : State) (n : Nat) (v : FlowVal) : (s.setFlowVal n v).dramGiB = s.dramGiB := rfl
@[simp] theorem State.setFlowVal_eccPlan (s : State) (n : Nat) (v : FlowVal) : (s.setFlowVal n v).eccPlan = s.eccPlan := rfl
@[simp] theorem State.setFlowVal_servo (s : State) (n : Nat) (v : FlowVal) : (s.setFlowVal n v).servo = s.servo := rfl
@[simp] theorem State.setFlowVal_mer (s : State) (n : Nat) (v : FlowVal) : (s.setFlowVal n v).mer = s.mer := rfl
@[simp] theorem State.setFlowVal_timeIn (s : State) (n : Nat) (v : FlowVal) : (s.setFlowVal n v).timeIn = s.timeIn := rfl
@[simp] theorem State.setFlowVal_trv (s : State) (n : Nat) (v : FlowVal) : (s.setFlowVal n v).trv = s.trv := rfl
@[simp] theorem State.setFlowVal_gfx (s : State) (n : Nat) (v : FlowVal) : (s.setFlowVal n v).gfx = s.gfx := rfl
@[simp] theorem State.setFlowVal_med (s : State) (n : Nat) (v : FlowVal) : (s.setFlowVal n v).med = s.med := rfl
@[simp] theorem State.setFlowVal_brg (s : State) (n : Nat) (v : FlowVal) : (s.setFlowVal n v).brg = s.brg := rfl
@[simp] theorem State.setFlowVal_fba (s : State) (n : Nat) (v : FlowVal) : (s.setFlowVal n v).fba = s.fba := rfl
@[simp] theorem State.setFlowVal_jrn (s : State) (n : Nat) (v : FlowVal) : (s.setFlowVal n v).jrn = s.jrn := rfl
@[simp] theorem State.setFlowVal_ufs (s : State) (n : Nat) (v : FlowVal) : (s.setFlowVal n v).ufs = s.ufs := rfl
@[simp] theorem State.setFlowVal_boot (s : State) (n : Nat) (v : FlowVal) : (s.setFlowVal n v).boot = s.boot := rfl
@[simp] theorem State.setFlowVal_dbg (s : State) (n : Nat) (v : FlowVal) : (s.setFlowVal n v).dbg = s.dbg := rfl
@[simp] theorem State.setFlowVal_jtag (s : State) (n : Nat) (v : FlowVal) : (s.setFlowVal n v).jtag = s.jtag := rfl
@[simp] theorem State.setFlowVal_unpub (s : State) (n : Nat) (v : FlowVal) : (s.setFlowVal n v).unpub = s.unpub := rfl
@[simp] theorem State.setFlowVal_get (s : State) (n : Nat) (v : FlowVal) (fld : Field) : (s.setFlowVal n v).get fld = s.get fld := by simp [State.get]
@[simp] theorem State.setFlowVal_bit (s : State) (n : Nat) (v : FlowVal) (fld : Field) : (s.setFlowVal n v).bit fld = s.bit fld := by simp [State.bit]
@[simp] theorem State.setFlowVal_fbGet (s : State) (n : Nat) (v : FlowVal) (ix sub : Nat) : (s.setFlowVal n v).fbGet ix sub = s.fbGet ix sub := by simp [State.fbGet]

/-! ## setEgress -/

@[simp] theorem State.setEgress_pending (s : State) (i : Nat) (l : List EgFrame) : (s.setEgress i l).pending = s.pending := rfl
@[simp] theorem State.setEgress_freeCtr (s : State) (i : Nat) (l : List EgFrame) : (s.setEgress i l).freeCtr = s.freeCtr := rfl
@[simp] theorem State.setEgress_datum (s : State) (i : Nat) (l : List EgFrame) : (s.setEgress i l).datum = s.datum := rfl
@[simp] theorem State.setEgress_datumFrac (s : State) (i : Nat) (l : List EgFrame) : (s.setEgress i l).datumFrac = s.datumFrac := rfl
@[simp] theorem State.setEgress_stepSeq (s : State) (i : Nat) (l : List EgFrame) : (s.setEgress i l).stepSeq = s.stepSeq := rfl
@[simp] theorem State.setEgress_regs (s : State) (i : Nat) (l : List EgFrame) : (s.setEgress i l).regs = s.regs := rfl
@[simp] theorem State.setEgress_fb (s : State) (i : Nat) (l : List EgFrame) : (s.setEgress i l).fb = s.fb := rfl
@[simp] theorem State.setEgress_mem (s : State) (i : Nat) (l : List EgFrame) : (s.setEgress i l).mem = s.mem := rfl
@[simp] theorem State.setEgress_latch (s : State) (i : Nat) (l : List EgFrame) : (s.setEgress i l).latch = s.latch := rfl
@[simp] theorem State.setEgress_held (s : State) (i : Nat) (l : List EgFrame) : (s.setEgress i l).held = s.held := rfl
@[simp] theorem State.setEgress_resp (s : State) (i : Nat) (l : List EgFrame) : (s.setEgress i l).resp = s.resp := rfl
@[simp] theorem State.setEgress_out (s : State) (i : Nat) (l : List EgFrame) : (s.setEgress i l).out = s.out := rfl
@[simp] theorem State.setEgress_icnSrc (s : State) (i : Nat) (l : List EgFrame) : (s.setEgress i l).icnSrc = s.icnSrc := rfl
@[simp] theorem State.setEgress_icnTgt (s : State) (i : Nat) (l : List EgFrame) : (s.setEgress i l).icnTgt = s.icnTgt := rfl
@[simp] theorem State.setEgress_worlds (s : State) (i : Nat) (l : List EgFrame) : (s.setEgress i l).worlds = s.worlds := rfl
@[simp] theorem State.setEgress_pins (s : State) (i : Nat) (l : List EgFrame) : (s.setEgress i l).pins = s.pins := rfl
@[simp] theorem State.setEgress_fuses (s : State) (i : Nat) (l : List EgFrame) : (s.setEgress i l).fuses = s.fuses := rfl
@[simp] theorem State.setEgress_nor (s : State) (i : Nat) (l : List EgFrame) : (s.setEgress i l).nor = s.nor := rfl
@[simp] theorem State.setEgress_eng (s : State) (i : Nat) (l : List EgFrame) : (s.setEgress i l).eng = s.eng := rfl
@[simp] theorem State.setEgress_saf (s : State) (i : Nat) (l : List EgFrame) : (s.setEgress i l).saf = s.saf := rfl
@[simp] theorem State.setEgress_pmu (s : State) (i : Nat) (l : List EgFrame) : (s.setEgress i l).pmu = s.pmu := rfl
@[simp] theorem State.setEgress_fw (s : State) (i : Nat) (l : List EgFrame) : (s.setEgress i l).fw = s.fw := rfl
@[simp] theorem State.setEgress_opPools (s : State) (i : Nat) (l : List EgFrame) : (s.setEgress i l).opPools = s.opPools := rfl
@[simp] theorem State.setEgress_cache (s : State) (i : Nat) (l : List EgFrame) : (s.setEgress i l).cache = s.cache := rfl
@[simp] theorem State.setEgress_dramGiB (s : State) (i : Nat) (l : List EgFrame) : (s.setEgress i l).dramGiB = s.dramGiB := rfl
@[simp] theorem State.setEgress_eccPlan (s : State) (i : Nat) (l : List EgFrame) : (s.setEgress i l).eccPlan = s.eccPlan := rfl
@[simp] theorem State.setEgress_servo (s : State) (i : Nat) (l : List EgFrame) : (s.setEgress i l).servo = s.servo := rfl
@[simp] theorem State.setEgress_mer (s : State) (i : Nat) (l : List EgFrame) : (s.setEgress i l).mer = s.mer := rfl
@[simp] theorem State.setEgress_timeIn (s : State) (i : Nat) (l : List EgFrame) : (s.setEgress i l).timeIn = s.timeIn := rfl
@[simp] theorem State.setEgress_trv (s : State) (i : Nat) (l : List EgFrame) : (s.setEgress i l).trv = s.trv := rfl
@[simp] theorem State.setEgress_gfx (s : State) (i : Nat) (l : List EgFrame) : (s.setEgress i l).gfx = s.gfx := rfl
@[simp] theorem State.setEgress_med (s : State) (i : Nat) (l : List EgFrame) : (s.setEgress i l).med = s.med := rfl
@[simp] theorem State.setEgress_brg (s : State) (i : Nat) (l : List EgFrame) : (s.setEgress i l).brg = s.brg := rfl
@[simp] theorem State.setEgress_fba (s : State) (i : Nat) (l : List EgFrame) : (s.setEgress i l).fba = s.fba := rfl
@[simp] theorem State.setEgress_jrn (s : State) (i : Nat) (l : List EgFrame) : (s.setEgress i l).jrn = s.jrn := rfl
@[simp] theorem State.setEgress_ufs (s : State) (i : Nat) (l : List EgFrame) : (s.setEgress i l).ufs = s.ufs := rfl
@[simp] theorem State.setEgress_boot (s : State) (i : Nat) (l : List EgFrame) : (s.setEgress i l).boot = s.boot := rfl
@[simp] theorem State.setEgress_dbg (s : State) (i : Nat) (l : List EgFrame) : (s.setEgress i l).dbg = s.dbg := rfl
@[simp] theorem State.setEgress_jtag (s : State) (i : Nat) (l : List EgFrame) : (s.setEgress i l).jtag = s.jtag := rfl
@[simp] theorem State.setEgress_unpub (s : State) (i : Nat) (l : List EgFrame) : (s.setEgress i l).unpub = s.unpub := rfl
@[simp] theorem State.setEgress_get (s : State) (i : Nat) (l : List EgFrame) (fld : Field) : (s.setEgress i l).get fld = s.get fld := by simp [State.get]
@[simp] theorem State.setEgress_bit (s : State) (i : Nat) (l : List EgFrame) (fld : Field) : (s.setEgress i l).bit fld = s.bit fld := by simp [State.bit]
@[simp] theorem State.setEgress_fbGet (s : State) (i : Nat) (l : List EgFrame) (ix sub : Nat) : (s.setEgress i l).fbGet ix sub = s.fbGet ix sub := by simp [State.fbGet]

/-! ## setGcl -/

@[simp] theorem State.setGcl_pending (s : State) (m : Nat) (g : Gate) : (s.setGcl m g).pending = s.pending := rfl
@[simp] theorem State.setGcl_freeCtr (s : State) (m : Nat) (g : Gate) : (s.setGcl m g).freeCtr = s.freeCtr := rfl
@[simp] theorem State.setGcl_datum (s : State) (m : Nat) (g : Gate) : (s.setGcl m g).datum = s.datum := rfl
@[simp] theorem State.setGcl_datumFrac (s : State) (m : Nat) (g : Gate) : (s.setGcl m g).datumFrac = s.datumFrac := rfl
@[simp] theorem State.setGcl_stepSeq (s : State) (m : Nat) (g : Gate) : (s.setGcl m g).stepSeq = s.stepSeq := rfl
@[simp] theorem State.setGcl_regs (s : State) (m : Nat) (g : Gate) : (s.setGcl m g).regs = s.regs := rfl
@[simp] theorem State.setGcl_fb (s : State) (m : Nat) (g : Gate) : (s.setGcl m g).fb = s.fb := rfl
@[simp] theorem State.setGcl_mem (s : State) (m : Nat) (g : Gate) : (s.setGcl m g).mem = s.mem := rfl
@[simp] theorem State.setGcl_latch (s : State) (m : Nat) (g : Gate) : (s.setGcl m g).latch = s.latch := rfl
@[simp] theorem State.setGcl_held (s : State) (m : Nat) (g : Gate) : (s.setGcl m g).held = s.held := rfl
@[simp] theorem State.setGcl_resp (s : State) (m : Nat) (g : Gate) : (s.setGcl m g).resp = s.resp := rfl
@[simp] theorem State.setGcl_out (s : State) (m : Nat) (g : Gate) : (s.setGcl m g).out = s.out := rfl
@[simp] theorem State.setGcl_icnSrc (s : State) (m : Nat) (g : Gate) : (s.setGcl m g).icnSrc = s.icnSrc := rfl
@[simp] theorem State.setGcl_icnTgt (s : State) (m : Nat) (g : Gate) : (s.setGcl m g).icnTgt = s.icnTgt := rfl
@[simp] theorem State.setGcl_worlds (s : State) (m : Nat) (g : Gate) : (s.setGcl m g).worlds = s.worlds := rfl
@[simp] theorem State.setGcl_pins (s : State) (m : Nat) (g : Gate) : (s.setGcl m g).pins = s.pins := rfl
@[simp] theorem State.setGcl_fuses (s : State) (m : Nat) (g : Gate) : (s.setGcl m g).fuses = s.fuses := rfl
@[simp] theorem State.setGcl_nor (s : State) (m : Nat) (g : Gate) : (s.setGcl m g).nor = s.nor := rfl
@[simp] theorem State.setGcl_eng (s : State) (m : Nat) (g : Gate) : (s.setGcl m g).eng = s.eng := rfl
@[simp] theorem State.setGcl_saf (s : State) (m : Nat) (g : Gate) : (s.setGcl m g).saf = s.saf := rfl
@[simp] theorem State.setGcl_pmu (s : State) (m : Nat) (g : Gate) : (s.setGcl m g).pmu = s.pmu := rfl
@[simp] theorem State.setGcl_fw (s : State) (m : Nat) (g : Gate) : (s.setGcl m g).fw = s.fw := rfl
@[simp] theorem State.setGcl_opPools (s : State) (m : Nat) (g : Gate) : (s.setGcl m g).opPools = s.opPools := rfl
@[simp] theorem State.setGcl_cache (s : State) (m : Nat) (g : Gate) : (s.setGcl m g).cache = s.cache := rfl
@[simp] theorem State.setGcl_dramGiB (s : State) (m : Nat) (g : Gate) : (s.setGcl m g).dramGiB = s.dramGiB := rfl
@[simp] theorem State.setGcl_eccPlan (s : State) (m : Nat) (g : Gate) : (s.setGcl m g).eccPlan = s.eccPlan := rfl
@[simp] theorem State.setGcl_servo (s : State) (m : Nat) (g : Gate) : (s.setGcl m g).servo = s.servo := rfl
@[simp] theorem State.setGcl_mer (s : State) (m : Nat) (g : Gate) : (s.setGcl m g).mer = s.mer := rfl
@[simp] theorem State.setGcl_timeIn (s : State) (m : Nat) (g : Gate) : (s.setGcl m g).timeIn = s.timeIn := rfl
@[simp] theorem State.setGcl_trv (s : State) (m : Nat) (g : Gate) : (s.setGcl m g).trv = s.trv := rfl
@[simp] theorem State.setGcl_gfx (s : State) (m : Nat) (g : Gate) : (s.setGcl m g).gfx = s.gfx := rfl
@[simp] theorem State.setGcl_med (s : State) (m : Nat) (g : Gate) : (s.setGcl m g).med = s.med := rfl
@[simp] theorem State.setGcl_brg (s : State) (m : Nat) (g : Gate) : (s.setGcl m g).brg = s.brg := rfl
@[simp] theorem State.setGcl_fba (s : State) (m : Nat) (g : Gate) : (s.setGcl m g).fba = s.fba := rfl
@[simp] theorem State.setGcl_jrn (s : State) (m : Nat) (g : Gate) : (s.setGcl m g).jrn = s.jrn := rfl
@[simp] theorem State.setGcl_ufs (s : State) (m : Nat) (g : Gate) : (s.setGcl m g).ufs = s.ufs := rfl
@[simp] theorem State.setGcl_boot (s : State) (m : Nat) (g : Gate) : (s.setGcl m g).boot = s.boot := rfl
@[simp] theorem State.setGcl_dbg (s : State) (m : Nat) (g : Gate) : (s.setGcl m g).dbg = s.dbg := rfl
@[simp] theorem State.setGcl_jtag (s : State) (m : Nat) (g : Gate) : (s.setGcl m g).jtag = s.jtag := rfl
@[simp] theorem State.setGcl_unpub (s : State) (m : Nat) (g : Gate) : (s.setGcl m g).unpub = s.unpub := rfl
@[simp] theorem State.setGcl_get (s : State) (m : Nat) (g : Gate) (fld : Field) : (s.setGcl m g).get fld = s.get fld := by simp [State.get]
@[simp] theorem State.setGcl_bit (s : State) (m : Nat) (g : Gate) (fld : Field) : (s.setGcl m g).bit fld = s.bit fld := by simp [State.bit]
@[simp] theorem State.setGcl_fbGet (s : State) (m : Nat) (g : Gate) (ix sub : Nat) : (s.setGcl m g).fbGet ix sub = s.fbGet ix sub := by simp [State.fbGet]

/-! ## setTec -/

@[simp] theorem State.setTec_pending (s : State) (n v : Nat) : (s.setTec n v).pending = s.pending := rfl
@[simp] theorem State.setTec_freeCtr (s : State) (n v : Nat) : (s.setTec n v).freeCtr = s.freeCtr := rfl
@[simp] theorem State.setTec_datum (s : State) (n v : Nat) : (s.setTec n v).datum = s.datum := rfl
@[simp] theorem State.setTec_datumFrac (s : State) (n v : Nat) : (s.setTec n v).datumFrac = s.datumFrac := rfl
@[simp] theorem State.setTec_stepSeq (s : State) (n v : Nat) : (s.setTec n v).stepSeq = s.stepSeq := rfl
@[simp] theorem State.setTec_regs (s : State) (n v : Nat) : (s.setTec n v).regs = s.regs := rfl
@[simp] theorem State.setTec_fb (s : State) (n v : Nat) : (s.setTec n v).fb = s.fb := rfl
@[simp] theorem State.setTec_mem (s : State) (n v : Nat) : (s.setTec n v).mem = s.mem := rfl
@[simp] theorem State.setTec_latch (s : State) (n v : Nat) : (s.setTec n v).latch = s.latch := rfl
@[simp] theorem State.setTec_held (s : State) (n v : Nat) : (s.setTec n v).held = s.held := rfl
@[simp] theorem State.setTec_resp (s : State) (n v : Nat) : (s.setTec n v).resp = s.resp := rfl
@[simp] theorem State.setTec_out (s : State) (n v : Nat) : (s.setTec n v).out = s.out := rfl
@[simp] theorem State.setTec_icnSrc (s : State) (n v : Nat) : (s.setTec n v).icnSrc = s.icnSrc := rfl
@[simp] theorem State.setTec_icnTgt (s : State) (n v : Nat) : (s.setTec n v).icnTgt = s.icnTgt := rfl
@[simp] theorem State.setTec_worlds (s : State) (n v : Nat) : (s.setTec n v).worlds = s.worlds := rfl
@[simp] theorem State.setTec_pins (s : State) (n v : Nat) : (s.setTec n v).pins = s.pins := rfl
@[simp] theorem State.setTec_fuses (s : State) (n v : Nat) : (s.setTec n v).fuses = s.fuses := rfl
@[simp] theorem State.setTec_nor (s : State) (n v : Nat) : (s.setTec n v).nor = s.nor := rfl
@[simp] theorem State.setTec_eng (s : State) (n v : Nat) : (s.setTec n v).eng = s.eng := rfl
@[simp] theorem State.setTec_saf (s : State) (n v : Nat) : (s.setTec n v).saf = s.saf := rfl
@[simp] theorem State.setTec_pmu (s : State) (n v : Nat) : (s.setTec n v).pmu = s.pmu := rfl
@[simp] theorem State.setTec_fw (s : State) (n v : Nat) : (s.setTec n v).fw = s.fw := rfl
@[simp] theorem State.setTec_opPools (s : State) (n v : Nat) : (s.setTec n v).opPools = s.opPools := rfl
@[simp] theorem State.setTec_cache (s : State) (n v : Nat) : (s.setTec n v).cache = s.cache := rfl
@[simp] theorem State.setTec_dramGiB (s : State) (n v : Nat) : (s.setTec n v).dramGiB = s.dramGiB := rfl
@[simp] theorem State.setTec_eccPlan (s : State) (n v : Nat) : (s.setTec n v).eccPlan = s.eccPlan := rfl
@[simp] theorem State.setTec_servo (s : State) (n v : Nat) : (s.setTec n v).servo = s.servo := rfl
@[simp] theorem State.setTec_mer (s : State) (n v : Nat) : (s.setTec n v).mer = s.mer := rfl
@[simp] theorem State.setTec_timeIn (s : State) (n v : Nat) : (s.setTec n v).timeIn = s.timeIn := rfl
@[simp] theorem State.setTec_trv (s : State) (n v : Nat) : (s.setTec n v).trv = s.trv := rfl
@[simp] theorem State.setTec_gfx (s : State) (n v : Nat) : (s.setTec n v).gfx = s.gfx := rfl
@[simp] theorem State.setTec_med (s : State) (n v : Nat) : (s.setTec n v).med = s.med := rfl
@[simp] theorem State.setTec_brg (s : State) (n v : Nat) : (s.setTec n v).brg = s.brg := rfl
@[simp] theorem State.setTec_fba (s : State) (n v : Nat) : (s.setTec n v).fba = s.fba := rfl
@[simp] theorem State.setTec_jrn (s : State) (n v : Nat) : (s.setTec n v).jrn = s.jrn := rfl
@[simp] theorem State.setTec_ufs (s : State) (n v : Nat) : (s.setTec n v).ufs = s.ufs := rfl
@[simp] theorem State.setTec_boot (s : State) (n v : Nat) : (s.setTec n v).boot = s.boot := rfl
@[simp] theorem State.setTec_dbg (s : State) (n v : Nat) : (s.setTec n v).dbg = s.dbg := rfl
@[simp] theorem State.setTec_jtag (s : State) (n v : Nat) : (s.setTec n v).jtag = s.jtag := rfl
@[simp] theorem State.setTec_unpub (s : State) (n v : Nat) : (s.setTec n v).unpub = s.unpub := rfl
@[simp] theorem State.setTec_get (s : State) (n v : Nat) (fld : Field) : (s.setTec n v).get fld = s.get fld := by simp [State.get]
@[simp] theorem State.setTec_bit (s : State) (n v : Nat) (fld : Field) : (s.setTec n v).bit fld = s.bit fld := by simp [State.bit]
@[simp] theorem State.setTec_fbGet (s : State) (n v : Nat) (ix sub : Nat) : (s.setTec n v).fbGet ix sub = s.fbGet ix sub := by simp [State.fbGet]

/-! ## setRecov -/

@[simp] theorem State.setRecov_pending (s : State) (f : Nat) (r : Recov) : (s.setRecov f r).pending = s.pending := rfl
@[simp] theorem State.setRecov_freeCtr (s : State) (f : Nat) (r : Recov) : (s.setRecov f r).freeCtr = s.freeCtr := rfl
@[simp] theorem State.setRecov_datum (s : State) (f : Nat) (r : Recov) : (s.setRecov f r).datum = s.datum := rfl
@[simp] theorem State.setRecov_datumFrac (s : State) (f : Nat) (r : Recov) : (s.setRecov f r).datumFrac = s.datumFrac := rfl
@[simp] theorem State.setRecov_stepSeq (s : State) (f : Nat) (r : Recov) : (s.setRecov f r).stepSeq = s.stepSeq := rfl
@[simp] theorem State.setRecov_regs (s : State) (f : Nat) (r : Recov) : (s.setRecov f r).regs = s.regs := rfl
@[simp] theorem State.setRecov_fb (s : State) (f : Nat) (r : Recov) : (s.setRecov f r).fb = s.fb := rfl
@[simp] theorem State.setRecov_mem (s : State) (f : Nat) (r : Recov) : (s.setRecov f r).mem = s.mem := rfl
@[simp] theorem State.setRecov_latch (s : State) (f : Nat) (r : Recov) : (s.setRecov f r).latch = s.latch := rfl
@[simp] theorem State.setRecov_held (s : State) (f : Nat) (r : Recov) : (s.setRecov f r).held = s.held := rfl
@[simp] theorem State.setRecov_resp (s : State) (f : Nat) (r : Recov) : (s.setRecov f r).resp = s.resp := rfl
@[simp] theorem State.setRecov_out (s : State) (f : Nat) (r : Recov) : (s.setRecov f r).out = s.out := rfl
@[simp] theorem State.setRecov_icnSrc (s : State) (f : Nat) (r : Recov) : (s.setRecov f r).icnSrc = s.icnSrc := rfl
@[simp] theorem State.setRecov_icnTgt (s : State) (f : Nat) (r : Recov) : (s.setRecov f r).icnTgt = s.icnTgt := rfl
@[simp] theorem State.setRecov_worlds (s : State) (f : Nat) (r : Recov) : (s.setRecov f r).worlds = s.worlds := rfl
@[simp] theorem State.setRecov_pins (s : State) (f : Nat) (r : Recov) : (s.setRecov f r).pins = s.pins := rfl
@[simp] theorem State.setRecov_fuses (s : State) (f : Nat) (r : Recov) : (s.setRecov f r).fuses = s.fuses := rfl
@[simp] theorem State.setRecov_nor (s : State) (f : Nat) (r : Recov) : (s.setRecov f r).nor = s.nor := rfl
@[simp] theorem State.setRecov_eng (s : State) (f : Nat) (r : Recov) : (s.setRecov f r).eng = s.eng := rfl
@[simp] theorem State.setRecov_saf (s : State) (f : Nat) (r : Recov) : (s.setRecov f r).saf = s.saf := rfl
@[simp] theorem State.setRecov_pmu (s : State) (f : Nat) (r : Recov) : (s.setRecov f r).pmu = s.pmu := rfl
@[simp] theorem State.setRecov_fw (s : State) (f : Nat) (r : Recov) : (s.setRecov f r).fw = s.fw := rfl
@[simp] theorem State.setRecov_opPools (s : State) (f : Nat) (r : Recov) : (s.setRecov f r).opPools = s.opPools := rfl
@[simp] theorem State.setRecov_cache (s : State) (f : Nat) (r : Recov) : (s.setRecov f r).cache = s.cache := rfl
@[simp] theorem State.setRecov_dramGiB (s : State) (f : Nat) (r : Recov) : (s.setRecov f r).dramGiB = s.dramGiB := rfl
@[simp] theorem State.setRecov_eccPlan (s : State) (f : Nat) (r : Recov) : (s.setRecov f r).eccPlan = s.eccPlan := rfl
@[simp] theorem State.setRecov_servo (s : State) (f : Nat) (r : Recov) : (s.setRecov f r).servo = s.servo := rfl
@[simp] theorem State.setRecov_mer (s : State) (f : Nat) (r : Recov) : (s.setRecov f r).mer = s.mer := rfl
@[simp] theorem State.setRecov_timeIn (s : State) (f : Nat) (r : Recov) : (s.setRecov f r).timeIn = s.timeIn := rfl
@[simp] theorem State.setRecov_trv (s : State) (f : Nat) (r : Recov) : (s.setRecov f r).trv = s.trv := rfl
@[simp] theorem State.setRecov_gfx (s : State) (f : Nat) (r : Recov) : (s.setRecov f r).gfx = s.gfx := rfl
@[simp] theorem State.setRecov_med (s : State) (f : Nat) (r : Recov) : (s.setRecov f r).med = s.med := rfl
@[simp] theorem State.setRecov_brg (s : State) (f : Nat) (r : Recov) : (s.setRecov f r).brg = s.brg := rfl
@[simp] theorem State.setRecov_fba (s : State) (f : Nat) (r : Recov) : (s.setRecov f r).fba = s.fba := rfl
@[simp] theorem State.setRecov_jrn (s : State) (f : Nat) (r : Recov) : (s.setRecov f r).jrn = s.jrn := rfl
@[simp] theorem State.setRecov_ufs (s : State) (f : Nat) (r : Recov) : (s.setRecov f r).ufs = s.ufs := rfl
@[simp] theorem State.setRecov_boot (s : State) (f : Nat) (r : Recov) : (s.setRecov f r).boot = s.boot := rfl
@[simp] theorem State.setRecov_dbg (s : State) (f : Nat) (r : Recov) : (s.setRecov f r).dbg = s.dbg := rfl
@[simp] theorem State.setRecov_jtag (s : State) (f : Nat) (r : Recov) : (s.setRecov f r).jtag = s.jtag := rfl
@[simp] theorem State.setRecov_unpub (s : State) (f : Nat) (r : Recov) : (s.setRecov f r).unpub = s.unpub := rfl
@[simp] theorem State.setRecov_get (s : State) (f : Nat) (r : Recov) (fld : Field) : (s.setRecov f r).get fld = s.get fld := by simp [State.get]
@[simp] theorem State.setRecov_bit (s : State) (f : Nat) (r : Recov) (fld : Field) : (s.setRecov f r).bit fld = s.bit fld := by simp [State.bit]
@[simp] theorem State.setRecov_fbGet (s : State) (f : Nat) (r : Recov) (ix sub : Nat) : (s.setRecov f r).fbGet ix sub = s.fbGet ix sub := by simp [State.fbGet]

/-! ## What an update sets -/

@[simp] theorem State.setServo_servo (s : State) (v : Servo) : (s.setServo v).servo = v := rfl
@[simp] theorem State.setWorlds_worlds (s : State) (w : Worlds) : (s.setWorlds w).worlds = w := rfl
@[simp] theorem State.setPmu_pmu (s : State) (p : Pmu) : (s.setPmu p).pmu = p := rfl
@[simp] theorem State.setFba_fba (s : State) (f : Fba) : (s.setFba f).fba = f := rfl
@[simp] theorem State.setPlan_plan (s : State) (p : Option Plan) : (s.setPlan p).trv.plan = p := rfl
@[simp] theorem State.emit_out (s : State) (o : Output) : (s.emit o).out = s.out ++ [o] := rfl
@[simp] theorem State.answer_resp (s : State) (v : Nat) : (s.answer v).resp = { data := v, err := false } := rfl
@[simp] theorem State.busError_resp (s : State) : s.busError.resp = { data := 0, err := true } := rfl
@[simp] theorem State.report_resp (s : State) (c : Nat) : (s.report c).resp = { s.resp with status := c } := rfl

/-! ## A state written as a record -/

@[simp] theorem State.get_mk (x_pending x_freeCtr x_datum x_datumFrac x_stepSeq x_regs x_fb x_mem x_latch x_held x_resp x_out x_icnSrc x_icnTgt x_worlds x_pins x_fuses x_nor x_eng x_saf x_pmu x_fw x_opPools x_cache x_dramGiB x_eccPlan x_servo x_mer x_timeIn x_trv x_gfx x_med x_gwy x_brg x_fba x_jrn x_ufs x_boot x_dbg x_jtag x_unpub) (f : Field) :
    (State.mk x_pending x_freeCtr x_datum x_datumFrac x_stepSeq x_regs x_fb x_mem x_latch x_held x_resp x_out x_icnSrc x_icnTgt x_worlds x_pins x_fuses x_nor x_eng x_saf x_pmu x_fw x_opPools x_cache x_dramGiB x_eccPlan x_servo x_mer x_timeIn x_trv x_gfx x_med x_gwy x_brg x_fba x_jrn x_ufs x_boot x_dbg x_jtag x_unpub).get f = KMap.getD x_regs f.key (fieldReset f.key) % 2 ^ f.width := rfl
@[simp] theorem State.fbGet_mk (x_pending x_freeCtr x_datum x_datumFrac x_stepSeq x_regs x_fb x_mem x_latch x_held x_resp x_out x_icnSrc x_icnTgt x_worlds x_pins x_fuses x_nor x_eng x_saf x_pmu x_fw x_opPools x_cache x_dramGiB x_eccPlan x_servo x_mer x_timeIn x_trv x_gfx x_med x_gwy x_brg x_fba x_jrn x_ufs x_boot x_dbg x_jtag x_unpub) (i j : Nat) :
    (State.mk x_pending x_freeCtr x_datum x_datumFrac x_stepSeq x_regs x_fb x_mem x_latch x_held x_resp x_out x_icnSrc x_icnTgt x_worlds x_pins x_fuses x_nor x_eng x_saf x_pmu x_fw x_opPools x_cache x_dramGiB x_eccPlan x_servo x_mer x_timeIn x_trv x_gfx x_med x_gwy x_brg x_fba x_jrn x_ufs x_boot x_dbg x_jtag x_unpub).fbGet i j = KMap.getD x_fb (i * 256 + j) (fbDefault (i * 256 + j)) := rfl
theorem State.getD_regs (s : State) (f : Field) : KMap.getD s.regs f.key (fieldReset f.key) % 2 ^ f.width = s.get f := rfl
theorem State.getD_fb (s : State) (i j : Nat) : KMap.getD s.fb (i * 256 + j) (fbDefault (i * 256 + j)) = s.fbGet i j := rfl

end Sys2Proof.Machine
end

