-- ==== Sys2Proof/Laws/Ops.lean ====
section
/-! SUPPORT. Laws of the named operations: what a read gives after a write, that every operation on memory keeps the
canonical form, and what the gate of a register access does when the access passes. -/

namespace Sys2Proof.Machine
open Sys2Proof Sys2Proof.Safety

/-! ## Folds -/

/-- What every step of a fold keeps, the fold keeps. -/
theorem foldl_keeps {α β γ : Type} (f : β → α → β) (p : β → γ) (l : List α) (h : ∀ s, ∀ x ∈ l, p (f s x) = p s) :
    ∀ s, p (l.foldl f s) = p s := by
  induction l with
  | nil => intro s; rfl
  | cons x l ih =>
    intro s
    rw [List.foldl_cons, ih (fun s y hy => h s y (List.mem_cons_of_mem _ hy)), h s x List.mem_cons_self]

/-- An invariant that every step of a fold keeps, the fold keeps. -/
theorem foldl_inv {α β : Type} (f : β → α → β) (P : β → Prop) (l : List α) (h : ∀ s, ∀ x ∈ l, P s → P (f s x)) :
    ∀ s, P s → P (l.foldl f s) := by
  induction l with
  | nil => intro s hs; exact hs
  | cons x l ih =>
    intro s hs
    exact ih (fun s y hy => h s y (List.mem_cons_of_mem _ hy)) _ (h s x List.mem_cons_self hs)

/-! ## Register fields -/

@[simp] theorem State.get_set_same (s : State) (f : Field) (v : Nat) : (s.set f v).get f = v % 2 ^ f.width := by
  simp [State.get, State.set]

/-- A value that fits the field is read back. -/
@[simp high] theorem State.get_set_lt (s : State) (f : Field) (v : Nat) (h : v < 2 ^ f.width) : (s.set f v).get f = v := by
  rw [State.get_set_same, Nat.mod_eq_of_lt h]

/-- No field reads more than its width. -/
theorem State.get_lt (s : State) (f : Field) : s.get f < 2 ^ f.width := Nat.mod_lt _ (Nat.two_pow_pos _)

theorem State.get_set_key (s : State) (f g : Field) (v : Nat) (h : g.key = f.key) :
    (s.set f v).get g = v % 2 ^ f.width % 2 ^ g.width := by
  simp [State.get, State.set, h]

theorem State.get_set_other (s : State) (f g : Field) (v : Nat) (h : g.key ≠ f.key) : (s.set f v).get g = s.get g := by
  simp [State.get, State.set, KMap.getD_set_other _ _ _ _ _ _ h]

theorem State.bit_set_other (s : State) (f g : Field) (v : Nat) (h : g.key ≠ f.key) : (s.set f v).bit g = s.bit g := by
  simp [State.bit, State.get_set_other s f g v h]

theorem State.bit_set_same (s : State) (f : Field) (v : Nat) : (s.set f v).bit f = decide (v % 2 ^ f.width ≠ 0) := by
  simp [State.bit]

/-! ## Field Book -/

@[simp] theorem State.fbGet_fbSet_same (s : State) (i j v : Nat) : (s.fbSet i j v).fbGet i j = v := by
  simp [State.fbGet, State.fbSet]

theorem State.fbGet_fbSet_other (s : State) (i j v p q : Nat) (h : p * 256 + q ≠ i * 256 + j) :
    (s.fbSet i j v).fbGet p q = s.fbGet p q := by
  simp [State.fbGet, State.fbSet, KMap.getD_set_other _ _ _ _ _ _ h]

@[simp] theorem State.fbGet_fbInc_same (s : State) (i j : Nat) : (s.fbInc i j).fbGet i j = satAdd 32 (s.fbGet i j) 1 := by
  simp [State.fbInc]

theorem State.fbGet_fbInc_other (s : State) (i j p q : Nat) (h : p * 256 + q ≠ i * 256 + j) :
    (s.fbInc i j).fbGet p q = s.fbGet p q := State.fbGet_fbSet_other _ _ _ _ _ _ h

/-! ## Memory -/

@[simp] theorem Memory.read_write_same (m : List Host.Cell) (a : Nat) (b : Byte) : Memory.read (Memory.write m a b) a = b := by
  simp [Memory.read, Memory.write]

theorem Memory.read_write_other (m : List Host.Cell) (a a' : Nat) (b : Byte) (h : a' ≠ a) :
    Memory.read (Memory.write m a b) a' = Memory.read m a' := by
  simp [Memory.read, Memory.write, KMap.getD_set_other _ _ _ _ _ _ h]

theorem Memory.read_writeBytes_outside (bs : List Nat) : ∀ (m : List Host.Cell) (a a' : Nat),
    a' < a ∨ a + bs.length ≤ a' → Memory.read (Memory.writeBytes m a bs) a' = Memory.read m a' := by
  induction bs with
  | nil => intros; rfl
  | cons b bs ih =>
    intro m a a' h
    simp only [List.length_cons] at h
    rw [Memory.writeBytes, ih _ _ _ (by omega), Memory.read_write_other _ _ _ _ (by omega)]

theorem Memory.read_writeBytes_inside (bs : List Nat) : ∀ (m : List Host.Cell) (a i : Nat), i < bs.length →
    Memory.read (Memory.writeBytes m a bs) (a + i) = BitVec.ofNat 8 (bs.getD i 0) := by
  induction bs with
  | nil => intro m a i h; simp at h
  | cons b bs ih =>
    intro m a i h
    rw [Memory.writeBytes]
    cases i with
    | zero => rw [Memory.read_writeBytes_outside _ _ _ _ (by omega)]; simp
    | succ i =>
      have := ih (Memory.write m a (BitVec.ofNat 8 b)) (a + 1) i (by simpa using h)
      rw [show a + (i + 1) = a + 1 + i by omega, this]
      simp

theorem Memory.wf_write (m : List Host.Cell) (a : Nat) (b : Byte) (h : Memory.wf m = true) :
    Memory.wf (Memory.write m a b) = true := KMap.canon_set _ _ _ _ h

theorem Memory.wf_writeBytes (bs : List Nat) : ∀ (m : List Host.Cell) (a : Nat), Memory.wf m = true →
    Memory.wf (Memory.writeBytes m a bs) = true := by
  induction bs with
  | nil => intro m a h; exact h
  | cons b bs ih => intro m a h; exact ih _ _ (Memory.wf_write _ _ _ h)

theorem Memory.wf_filter (m : List Host.Cell) (p : Host.Cell → Bool) (h : Memory.wf m = true) :
    Memory.wf (m.filter p) = true := KMap.canon_filter _ _ _ h

theorem Memory.wf_clear (m : List Host.Cell) (lo hi : Nat) (h : Memory.wf m = true) :
    Memory.wf (Memory.clear m lo hi) = true := Memory.wf_filter _ _ h

theorem State.memOk_wr (s : State) (a : Nat) (bs : List Nat) (h : MemOk s) : MemOk (s.wr a bs) :=
  Memory.wf_writeBytes _ _ _ h

theorem State.memOk_clearMem (s : State) (lo hi : Nat) (h : MemOk s) : MemOk (s.clearMem lo hi) := Memory.wf_clear _ _ _ h

/-! ## The gate of a register access -/

theorem State.gate_pass (s : State) (who : Agent) (a : Nat) (write : Bool) (k : State → State) (h : Passes s who a write) :
    s.gate who a write k = k s := by
  obtain ⟨h1, h2⟩ := h
  unfold State.gate State.cadCheck
  rw [h1]
  rcases hd : cadDecide s (blockChecker a) (s.attrOf who) write a with ⟨b, r⟩
  rw [hd] at h2
  simp only at h2
  subst h2
  simp

theorem State.gateWrite_pass (s : State) (who : Agent) (a : Nat) (k : State → State) (h : Passes s who a true) :
    s.gateWrite who a k = k (s.answer 0) := State.gate_pass _ _ _ _ _ h

/-- A register access of which the checker's test mode is off and the regions refuse: a bus error, logged (R301). -/
theorem State.gate_refused (s : State) (who : Agent) (a : Nat) (write : Bool) (k : State → State) (r : Nat)
    (h1 : s.debugMay who = true) (h2 : cadDecide s (blockChecker a) (s.attrOf who) write a = (false, r))
    (h3 : (s.cadLog (blockChecker a) a (s.attrOf who) write r).bit (Reg.CAD_CTRL_TEST (blockChecker a)) = false) :
    s.gate who a write k = (s.cadLog (blockChecker a) a (s.attrOf who) write r).busError := by
  unfold State.gate State.cadCheck
  rw [h1, h2]
  simp [h3]

end Sys2Proof.Machine
end

