-- ==== Sys2Proof/Laws/Frames.lean ====
section
/-! SUPPORT. How the frames of the statements (`RegsKept`, `FbKept`, `OnlyRegs`) are built up over the named updates. -/

namespace Sys2Proof.Safety
open Sys2Proof Sys2Proof.Machine

theorem RegsKept.refl (fs : List Field) (s : State) : RegsKept fs s s := fun _ _ => rfl

theorem RegsKept.trans {fs : List Field} {s t u : State} (h : RegsKept fs s t) (h' : RegsKept fs t u) : RegsKept fs s u :=
  fun f hf => Eq.trans (h' f hf) (h f hf)

/-- A named field is set. -/
theorem RegsKept.set {fs : List Field} {s t : State} {f : Field} {v : Nat} (h : RegsKept fs s t) (hf : f ∈ fs) :
    RegsKept fs s (t.set f v) := by
  intro g hg
  rw [State.get_set_other _ _ _ _ (by rintro e; exact hg (e ▸ List.mem_map_of_mem hf))]
  exact h g hg

/-- An update that leaves the register fields alone. -/
theorem RegsKept.congr {fs : List Field} {s t u : State} (h : u.regs = t.regs) (h' : RegsKept fs s t) : RegsKept fs s u :=
  fun f hf => by rw [← h' f hf]; simp [State.get, h]

theorem RegsKept.mono {fs gs : List Field} {s t : State} (h : RegsKept fs s t) (hs : ∀ f ∈ fs, f ∈ gs) : RegsKept gs s t :=
  fun f hf => h f (fun hm => hf (by
    obtain ⟨g, hg, e⟩ := List.mem_map.1 hm
    exact List.mem_map.2 ⟨g, hs g hg, e⟩))

theorem FbKept.refl (ks : List (Nat × Nat)) (s : State) : FbKept ks s s := fun _ _ _ => rfl

theorem FbKept.trans {ks : List (Nat × Nat)} {s t u : State} (h : FbKept ks s t) (h' : FbKept ks t u) : FbKept ks s u :=
  fun i j hk => Eq.trans (h' i j hk) (h i j hk)

/-- A named Field Book value is set. -/
theorem FbKept.set {ks : List (Nat × Nat)} {s t : State} {i j v : Nat} (h : FbKept ks s t) (hk : (i, j) ∈ ks) :
    FbKept ks s (t.fbSet i j v) := by
  intro p q hg
  have hne : p * 256 + q ≠ i * 256 + j := by
    intro e
    apply hg
    rw [e]
    exact List.mem_map.2 ⟨(i, j), hk, rfl⟩
  rw [State.fbGet_fbSet_other _ _ _ _ _ _ hne]
  exact h p q hg

/-- A named counter of the Field Book counts. -/
theorem FbKept.inc {ks : List (Nat × Nat)} {s t : State} {i j : Nat} (h : FbKept ks s t) (hk : (i, j) ∈ ks) :
    FbKept ks s (t.fbInc i j) := FbKept.set h hk

/-- An update that leaves the Field Book alone. -/
theorem FbKept.congr {ks : List (Nat × Nat)} {s t u : State} (h : u.fb = t.fb) (h' : FbKept ks s t) : FbKept ks s u :=
  fun i j hk => by rw [← h' i j hk]; simp [State.fbGet, h]

end Sys2Proof.Safety
end

