-- ==== Sys2Proof/WellFormed.lean ====
section
/-! DEFINITION. Which commands are well formed: an access has a width of the bus and stays inside a 4 KiB page (R9, R300),
a value fits its width, a payload fits its carrier (R274, R333). Every other operand is well formed by its type. -/

namespace Sys2Proof

/-- The widths of a register access: 8, 16, 32 or 64 bits; R9 and R10 answer those that do not fit the register. -/
def widthOk (w : Nat) : Bool := w = 1 || w = 2 || w = 4 || w = 8

/-- Bytes of an access. -/
def accessLen : BusOp → Nat
  | .read n => n
  | .write _ d => d.length

/-- No access crosses a 4 KiB boundary (R300). -/
def onePage (a : Nat) (acc : BusOp) : Bool := decide (a % 4096 + accessLen acc ≤ 4096)

/-- The most data bytes of a CAN frame by format: classical, FD, XL (R333). -/
def canBytes (fmt : Fin 3) : Nat := if fmt.val = 0 then 8 else if fmt.val = 1 then 64 else 2048

/-- A well-formed command. -/
def Instr.wf : Instr → Bool
  | .registerWrite _ _ width value _ => widthOk width && decide (value.toNat < 2 ^ (8 * width))
  | .readClear _ _ width _ _ => widthOk width
  | .lowWordReadLatch _ _ => true
  | .poolEntryFreed _ => true
  | .fabricAccess _ addr acc _ _ => onePage addr.toNat acc
  | .sramWindowAccess _ addr acc _ => onePage addr.toNat acc
  | .timeNsRead _ => true
  | .timeInPop _ _ => true
  | .datumSourceWrite _ _ => true
  | .rebase _ => true
  | .syncReceived _ _ _ _ _ _ => true
  | .announceReceived _ _ _ _ _ _ _ => true
  | .peerDelayExchange _ _ _ _ _ _ => true
  | .syncTransmit _ => true
  | .ptmExchange _ _ _ _ => true
  | .syncLoss => true
  | .ptmLoss => true
  | .holdoverExpiry => true
  | .acquisitionWaitExpiry => true
  | .baseTick => true
  | .merStart _ => true
  | .merStop _ => true
  | .merSwap _ => true
  | .merTableLock _ => true
  | .tickPeriodWrite _ _ => true
  | .hyperTicksWrite _ _ => true
  | .phaseWrite _ _ => true
  | .shadowEntryWrite _ _ _ _ => true
  | .pipeFrameWrite _ _ _ => true
  | .timeOutPulse _ => true
  | .timeInEdge _ _ => true
  | .windowOpen _ => true
  | .windowClose _ => true
  | .doorbellWrite _ _ _ => true
  | .gemm _ _ => true
  | .conv _ _ => true
  | .dwconv _ _ => true
  | .pool _ _ => true
  | .eltwise _ _ => true
  | .reduce _ _ => true
  | .softmax _ _ => true
  | .norm _ _ => true
  | .gather _ _ => true
  | .scatter _ _ => true
  | .pagedAttn _ => true
  | .fold _ => true
  | .unfold _ => true
  | .tdma _ _ => true
  | .collective _ _ => true
  | .fence _ _ => true
  | .fenceRelease _ _ => true
  | .commit _ _ => true
  | .commandCommit _ _ _ => true
  | .tileArithFault _ _ _ => true
  | .eccUncorrectable _ _ _ _ _ _ => true
  | .plumbEccUncorrectable _ _ => true
  | .cmdOverrun _ _ _ => true
  | .dataBusError _ _ _ _ _ _ => true
  | .scrubPass _ _ _ _ _ => true
  | .memoryInitDone _ => true
  | .partitionClearDone _ => true
  | .rowMarkArm _ _ => true
  | .rowMarkAdvance _ _ => true
  | .consumerRowStart _ _ => true
  | .defusion _ _ => true
  | .kvPool _ => true
  | .kvPoolClose _ => true
  | .seqOpen _ => true
  | .seqClose _ => true
  | .seqRead _ => true
  | .kvStep _ => true
  | .spillFree _ => true
  | .trainOpen _ => true
  | .trainCkpt _ => true
  | .trainClose _ => true
  | .kvCacheWrite _ _ _ => true
  | .trainingSessionLimit => true
  | .queueEnable _ _ _ _ => true
  | .queueDisable _ _ _ _ => true
  | .partitionLock _ => true
  | .channelGroupOwnerWrite _ _ _ _ => true
  | .channelGroupShareWrite _ _ _ => true
  | .wayMapWrite _ _ _ => true
  | .wayCleanDone _ => true
  | .vteEnable _ _ _ => true
  | .vteDisable _ _ _ => true
  | .vteFreeze _ _ _ => true
  | .vteFreezeComplete _ => true
  | .vteRestore _ _ _ => true
  | .heartbeatSend => true
  | .heartbeatReceived _ => true
  | .peerLost _ => true
  | .killAckTimeout _ => true
  | .collReady _ _ _ => true
  | .collGo _ _ => true
  | .collKill _ _ _ => true
  | .collRestart _ => true
  | .collEnd _ _ _ => true
  | .collGroup _ => true
  | .collClose _ => true
  | .pairHeartbeat _ => true
  | .pairHeartbeatLoss _ => true
  | .lockstepMismatch _ => true
  | .safRun _ => true
  | .ssReq _ => true
  | .latentTimeout _ => true
  | .safetyStatusMessage => true
  | .safeStateReadback _ => true
  | .plumbClockRailFault _ => true
  | .safetyIslandWatchdog => true
  | .datumRateFault => true
  | .injectionComplete _ => true
  | .trvContextEnable _ _ _ => true
  | .trvContextDisable _ _ _ => true
  | .plan _ => true
  | .gridPublish _ _ _ => true
  | .libraryCrcCheck _ => true
  | .fallbackDone => true
  | .searchEnd => true
  | .searchDeadline => true
  | .optimisationEnd => true
  | .optimisationDeadline => true
  | .planCommit => true
  | .traverseFault _ _ => true
  | .gfxContextEnable _ _ _ => true
  | .gfxContextDisable _ _ _ => true
  | .pass _ _ _ => true
  | .dispatch _ _ => true
  | .gfxFence _ => true
  | .gfxCommit _ => true
  | .gfxJobComplete _ => true
  | .heapAdd _ _ _ => true
  | .binFault _ _ => true
  | .binFaultDeadline _ => true
  | .flushDone _ => true
  | .gfxFault _ _ => true
  | .compositionSlackLow _ => true
  | .yieldLimit _ _ => true
  | .displayEnable _ _ _ => true
  | .linkTrained _ => true
  | .displayFrameStart _ _ _ => true
  | .expWrite _ _ _ _ => true
  | .checkedRegionCompare _ _ => true
  | .csi2Packet _ _ _ _ _ payload => decide (payload.length < 65536)
  | .csi2FrameStart _ _ _ _ => true
  | .csi2FrameEnd _ _ _ _ _ => true
  | .frameEndTimeout _ => true
  | .captureSourceEnable _ _ _ => true
  | .captureSourceDisable _ _ _ => true
  | .mediaContextEnable _ _ _ => true
  | .mediaContextDisable _ _ _ => true
  | .sampleDescriptor _ => true
  | .decodeComplete _ _ _ _ _ _ _ _ _ _ => true
  | .decodeBudgetExpiry _ => true
  | .ispMemoryInput _ _ => true
  | .stagingJobEnd _ => true
  | .stagingOverrun _ => true
  | .stagingEnable _ _ _ => true
  | .stagingDisable _ _ _ => true
  | .batchRelease _ _ _ _ => true
  | .mwattrWrite _ _ _ => true
  | .logAck _ _ _ => true
  | .regionEnable _ _ _ _ => true
  | .regionDisable _ _ _ _ => true
  | .cadastreLock _ _ => true
  | .svcVersion _ _ => true
  | .svcAttrGet _ _ => true
  | .svcPartSwitch _ _ _ => true
  | .svcSecureStatus _ _ => true
  | .svcRegionSet _ _ _ _ _ _ _ _ => true
  | .svcCmac _ _ _ _ _ _ => true
  | .svcCmacVerify _ _ _ _ _ _ _ => true
  | .svcRandom _ _ _ => true
  | .svcAttest _ _ _ _ _ => true
  | .svcKeyLoad _ _ _ _ _ => true
  | .svcFwStage _ _ _ _ _ => true
  | .svcFwActivate _ _ _ _ => true
  | .ecallUnknownService _ _ _ => true
  | .serviceAnswer _ => true
  | .serviceCallTimeout _ => true
  | .keySlotLoad _ _ _ _ => true
  | .keySlotZero _ _ => true
  | .keySlotLock _ _ => true
  | .secureWatchdogExpiry => true
  | .secureRestart _ => true
  | .secureReady _ => true
  | .swdKick _ _ => true
  | .secureWatchdogTestExpiry => true
  | .leaseWrite _ _ _ => true
  | .levelLineChange _ _ => true
  | .edgeEvent _ => true
  | .sourceConfigWrite _ _ _ _ => true
  | .claim _ _ => true
  | .complete _ _ _ => true
  | .unfreeze _ _ => true
  | .swSet _ _ => true
  | .icnTestWrite _ _ => true
  | .canFrameRx _ fmt _ _ _ data => decide (data.length ≤ canBytes fmt)
  | .linFrameRx _ _ _ data => decide (data.length ≤ 8)
  | .ethernetFrameRx _ _ _ => true
  | .flowPeriodTimer _ => true
  | .flowTimeout _ => true
  | .linScheduleSlot _ _ => true
  | .gateListSwap _ _ _ => true
  | .gateCycleStart _ => true
  | .gateEntryChange _ => true
  | .flowSet _ => true
  | .mapSet _ => true
  | .destSet _ => true
  | .epOpen _ => true
  | .epClose _ => true
  | .endpointTxRecord _ => true
  | .readHoldTimeout _ _ _ => true
  | .lateCompletion => true
  | .farFailureReport _ _ _ _ _ => true
  | .bridgeFence _ _ => true
  | .bridgeFenceDone _ => true
  | .fenceLogAck _ _ _ => true
  | .pcieInboundRequest _ _ offset acc _ => onePage offset.toNat acc
  | .pcieLinkDown _ => true
  | .inboundWindowEnable _ _ _ => true
  | .fbaRequestReceived _ _ => true
  | .fbaRead => true
  | .fbaWrite => true
  | .fbaDescribe => true
  | .fbaOpen => true
  | .fbaClose => true
  | .sessionIdleTimeout _ => true
  | .muteExpiry _ => true
  | .violationCountClear => true
  | .journalCopyACommit => true
  | .journalCopyBDone => true
  | .compactionDone => true
  | .fwWatchdogKick _ _ _ => true
  | .fwWatchdogExpiry _ => true
  | .fwWatchdogTestExpiry _ => true
  | .mailboxEnable _ _ _ => true
  | .mailboxDisable _ _ _ => true
  | .attach _ => true
  | .detach _ => true
  | .logRead _ => true
  | .pdSet _ => true
  | .clkSet _ => true
  | .sleep _ => true
  | .powerStatus _ => true
  | .logFlush _ => true
  | .heartbeatKick _ => true
  | .heartbeatLapse _ => true
  | .pmuLoop _ _ _ => true
  | .avsTrim _ _ => true
  | .railDroop => true
  | .railFault _ => true
  | .ceilingLower => true
  | .ceilingRaise => true
  | .shedStep => true
  | .shedUndo => true
  | .thermalTrip => true
  | .stageWriteDone _ _ => true
  | .fwSwitchReadyTimeout => true
  | .powerOnReset _ => true
  | .systemReset _ => true
  | .softwareReset _ => true
  | .pllLoss _ => true
  | .pllRelock _ => true
  | .clockEnableWrite _ _ => true
  | .wake => true
  | .sleepEntryDone => true
  | .pwrFail => true
  | .pwrFailReturn => true
  | .debugChallengeRead => true
  | .debugToken _ => true
  | .bypass => true
  | .idcode => true
  | .samplePreload _ => true
  | .extest => true
  | .clamp => true
  | .highz => true
  | .fwProcessorReady _ => true
  | .restartMeasurementDone => true
  | .activationWriteDone _ => true
  | .displayLinkLoss _ => true
  | .ethernetLinkChange _ _ => true
  | .pcieLinkUp => true
  | .frameTransmitDone _ _ _ => true
  | .canBusOffRecovery _ => true
  | .linResponseTimeout _ => true
  | .cbResetTimeExpiry _ => true
  | .collCommitAck _ _ => true
  | .liveRangeCopyDone _ => true

end Sys2Proof
end

