-- ==== Sys2Proof/Tests/Slice0.lean ====
section
/-! SUPPORT. For each clause of a statement with hypotheses, a state and operands that meet them all together; and for
each check of WellFormed a term that it refuses. -/

set_option linter.unusedVariables false
set_option Elab.async false

open Sys2Proof Sys2Proof.Machine Sys2Proof.Safety

/-- The first element and the rest of a list. -/
def uncons' {α : Type} : List α → Option (α × List α)
  | [] => none
  | x :: xs => some (x, xs)

/-- A record of 64 bytes, staged, its second bank 4 KiB above the first. -/
def tinyRec (base fmt d0 d1 d2 d3 : Nat) : List Nat :=
  leBytes 8 (base + fmt * 2 ^ 48 + 2 ^ 55) ++ leBytes 8 4096 ++ List.replicate 16 0 ++
    leBytes 2 d0 ++ leBytes 2 d1 ++ leBytes 2 d2 ++ leBytes 2 d3 ++ leBytes 4 64 ++ leBytes 4 128 ++ leBytes 4 256 ++
    List.replicate 12 0

/-- The 64 bytes of a descriptor. -/
def tinyDesc (ws : List Nat) : List Nat := (ws ++ List.replicate (16 - ws.length) 0).flatMap (leBytes 4)

/-- A small state: queue `k` of the Secure world, partition 0, with a descriptor in slot 0, a COMMIT in slot 1, a tensor
table and an admitted job, all in channel group 0. -/
def tinyQueue (k : Nat) (ws : List Nat) (recs : List (List Nat)) (s : State) : State :=
  let s := (s.set (qRingBase k) 0x1000000000).set (qLog2 k) 3
  let s := ((s.set (qRptr k) 0).set (qWptr k) 2).set (qSaved k) 0
  let s := ((s.set (qTtBase k) 0x1000001000).set (qTtCount k) recs.length).set (qSecureF k) 1
  let s := ((s.set (qPartF k) 0).set (qEn k) 1).set (qCplBase k) 0x1000002000
  let s := ((s.set (qCLog2 k) 3).set (Reg.DDR_CG_CTRL_OWNER 0) 0).set (Reg.DDR_CG_CTRL_INLINE_ECC 0) 0
  let s := (s.set Reg.SYS_UNIT_MASK_CLUSTER_EN 0xFFFF).wr 0x1000000000 (tinyDesc ws ++ tinyDesc [0x11])
  let s := s.wr 0x1000001000 recs.flatten
  let s := { s with eng := { s.eng with cmds := [] } }
  s.setJob k { first := 0, num := 0, start := 0, bound := 0, projEnd := 0, window := 0, clusters := 1, prio := 0 }

/-- The state with its command at RPTR already in the run stage. -/
def tinyRun (k : Nat) (ws : List Nat) (outs : List Nat) (s : State) : State :=
  s.setCmd k { index := 0, ws := ws ++ List.replicate (16 - ws.length) 0, outs := outs }

/-- A small state: mailbox `m` of the Secure world, partition 0, attached with version 1.0, with a request of a type at RPTR. -/
def tinyMail (m server type : Nat) (pl : List Nat) (s : State) : State :=
  let s := ((s.set (Reg.MBX_MB_CFG_EN m) 1).set (Reg.MBX_MB_CFG_SERVER m) server).set (Reg.MBX_MB_CFG_LOG2 m) 4
  let s := ((s.set (Reg.MBX_MB_CFG_SECURE m) 1).set (Reg.MBX_MB_CFG_PARTITION m) 0).set (Reg.MBX_MB_REQ_BASE_BASE m) 0x1000100000
  let s := ((s.set (Reg.MBX_MB_RPL_BASE_BASE m) 0x1000110000).set (Reg.MBX_MB_REQ_RPTR_RPTR m) 0).set (Reg.MBX_MB_REQ_WPTR_WPTR m) 1
  let s := ((s.set (Reg.MBX_MB_RPL_RPTR_RPTR m) 0).set (Reg.MBX_MB_RPL_WPTR_WPTR m) 0).set (Reg.MBX_MB_STATUS_ATTACHED m) 1
  let s := ((s.set (Reg.MBX_MB_VERSION_MAJOR m) 1).set (Reg.MBX_MB_VERSION_MINOR m) 0).set (Reg.SYS_FWD_STATUS_STATE (serverFw server)) 0
  let s := ((s.set (Reg.DDR_CG_CTRL_OWNER 0) 0).set (Reg.DDR_CG_CTRL_INLINE_ECC 0) 0).set Reg.MBX_HB_ORPHAN_ORPHAN 0
  (s.setMbox m {}).wr 0x1000100000 (mbMessage 256 type 0 5 0 pl)

/-- A small state: queue 7 with an admitted job of collective group `g`, whose packages are `pk`. -/
def tinyColl (g pk : Nat) (ws : List Nat) (s : State) : State :=
  let s := tinyQueue 7 ws [] s
  let s := { s with eng := { s.eng with jobs := [], colls := [(g, { packages := pk, queue := 7, partition := 0, landing := 0x1000003000, size := 4096 })] } }
  s.setJob 7 { first := 0, num := 0, start := 0, bound := 0, projEnd := 0, window := 0, clusters := 1, prio := 0, group := some g }

/-- A small state: one open window, of entry `e`, on a resource and a partition. -/
def tinyWindow (e res part : Nat) (s : State) : State :=
  { s with mer := { s.mer with
      windows := [(e, { start := s.datum, stop := s.datum + 5000000, slackLeft := 0 })],
      active := KMap.put (KMap.put s.mer.active (4 * e + 1) 5000) (4 * e + 3) (2 ^ 31 + 2 ^ 28 * res + 2 ^ 22 * part + 0xFFFF) } }

/-- Every unit of the device is powered and clocked, and channel group 0 belongs to partition 0. -/
def tinyOn (s : State) : State :=
  let s := (s.set Reg.PMU_PD_STATE_PD 0xFFFFF).set Reg.SYS_CLK_EN_EN (2 ^ 60 - 1)
  let s := (s.set (Reg.DDR_CG_CTRL_OWNER 0) 0).set (Reg.DDR_CG_CTRL_INLINE_ECC 0) 0
  { s with pmu := { s.pmu with faulted := 0, pllLost := 0 } }

/-- A small state: Traverse context `c` enabled in the Secure world, partition 0, with a grid of 16 by 16 cells and a request. -/
def tinyCtx (c : Nat) (s : State) : State :=
  let s := ((s.set (Reg.TRV_CX_GRID_BASE_BASE c) 0x1000010000).set (Reg.TRV_CX_GRID_STRIDE_STRIDE c) 0x1000).set
    (Reg.TRV_CX_LIB_BASE_BASE c) 0x1000020000
  let s := ((s.set (Reg.TRV_CX_FOOT_BASE_BASE c) 0x1000030000).set (Reg.TRV_CX_ARENA_BASE_BASE c) 0x1000100000).set
    (Reg.TRV_CX_ARENA_SIZE_SIZE c) 0x20000
  let s := ((s.set (Reg.TRV_CX_OUT_BASE_BASE c) 0x1000200000).set (Reg.TRV_CX_CPL_BASE_BASE c) 0x1000004000).set
    (Reg.TRV_CX_REQ_BASE_BASE c) 0x1000005000
  let s := ((s.set (Reg.TRV_CX_REQ_SIZE_LOG2 c) 2).set (Reg.TRV_CX_CPL_SIZE_CLOG2 c) 2).set (Reg.TRV_CX_ATTR_SECURE c) 1
  let s := ((s.set (Reg.TRV_CX_ATTR_PARTITION c) 0).set (Reg.TRV_CX_ATTR_EN c) 1).set (Reg.TRV_Q_WPTR_WPTR c) 1
  let s := ((s.set (Reg.TRV_Q_RPTR_RPTR c) 0).set (Reg.TRV_Q_CPL_RPTR_CPL_RPTR c) 0).set (Reg.TRV_Q_CPL_WPTR_CPL_WPTR c) 0
  let s := (((tinyOn s).set (Reg.SYS_FWD_STATUS_STATE 22) 0).set Reg.PLB_STATUS_CLK_FAULT 0).set Reg.PLB_STATUS_RAIL_FAULT 0
  let s := s.wr 0x1000010000 (leBytes 4 1 ++ leBytes 2 16 ++ leBytes 2 16 ++ leBytes 4 100 ++ List.replicate 20 0)
  let s := s.wr 0x1000020000 (leBytes 2 1 ++ leBytes 2 0 ++ leBytes 2 100 ++ leBytes 2 1)
  let s := s.wr 0x1000005000 ([1, 0, 0, 0x110001, 0, 0, 0, 0, 0, 0, 0, 0, 0, 0, 0, 0, 1, 0, 0x2000A, 0, 0, 0x3F800000,
    0, 0, 0, 0, 0, 0, 0, 0, 0, 0].flatMap (leBytes 4))
  { s with trv := {} }

/-- The same with the plan of that request in a stage. -/
def tinyPlan (c stage : Nat) (s : State) : State :=
  let s := tinyCtx c s
  s.setPlan (some { ctx := c, req := s.request c, start := s.datum, bound := 35000, window := 3, stage := stage })

/-- The cells of `[lo, hi)` are those given. -/
def putCells (lo hi : Nat) (cells : List (Nat × Nat)) (s : State) : State :=
  { s with mem := s.mem.filter (fun c => decide (c.1 < lo)) ++ cells.map (fun c => (c.1, BitVec.ofNat 8 c.2)) ++
      s.mem.filter (fun c => decide (hi ≤ c.1)) }

/-- A library of one primitive that stays in place, and a footprint, for Traverse context `c`. -/
def tinyLib (c : Nat) (s : State) : State :=
  let b := 0x1000030000
  let s := putCells 0x1000020000 0x1000031000
    ([(0x1000020000, 1), (0x1000020002, 1), (0x1000020004, 100), (0x1000020006, 1)] ++
      (List.range 4).map (fun i => (0x1000020008 + i, 0xBE6C0927 / 256 ^ i % 256)) ++
      [(0x1000020046, 0x80), (0x1000020047, 0x3f), (0x1000020052, 0x80), (0x1000020053, 0x3f), (0x1000020056,
        0x80), (0x1000020057, 0x3f), (0x1000020248, 0x1), (0x100002024A, 0x2), (0x1000020250, 0x60), (0x1000020251,
        0x2), (0x1000020254, 0x1), (0x1000020258, 0x64), (0x1000020259, 0x2)] ++
      (List.range 64).flatMap (fun i => [(b + 16 * i + 10, 0x80), (b + 16 * i + 11, 0x3F)]) ++
      [(b + 0x400, 3), (b + 0x412, 0x80), (b + 0x413, 0x3F), (b + 0x41E, 0x80), (b + 0x41F, 0x3F)]) s
  s.set (Reg.TRV_CX_LIB_SIZE_SIZE c) 644

/-- A small state: graphics context `x` of the Secure world, partition 0, whose admitted job `j` starts in slot 0 of its ring. -/
def tinyGfx (x : Nat) (recs : List (List Nat)) (j : GfxJob) (s : State) : State :=
  let s := ((tinyOn s).set (Reg.GFX_CX_RING_BASE_BASE x) 0x1000000000).set (Reg.GFX_CX_RING_SIZE_LOG2 x) 4
  let s := ((s.set (Reg.GFX_CX_CPL_BASE_BASE x) 0x1000002000).set (Reg.GFX_CX_CPL_SIZE_CLOG2 x) 4).set (Reg.GFX_CX_ATTR_SECURE x) 1
  let s := ((s.set (Reg.GFX_CX_ATTR_PARTITION x) 0).set (Reg.GFX_CX_ATTR_EN x) 1).set (Reg.GFX_Q_WPTR_WPTR x) recs.length
  let s := ((s.set (Reg.GFX_Q_RPTR_RPTR x) 0).set (Reg.GFX_Q_CPL_RPTR_CPL_RPTR x) 0).set (Reg.GFX_Q_CPL_WPTR_CPL_WPTR x) 0
  let s := (s.set (Reg.GFX_CX_ATTR_KIND x) 0).wr 0x1000000000 (recs.flatMap tinyDesc)
  { s with gfx := { s.gfx with ctx := [(x, { job := some j })] }, mer := { s.mer with windows := [] } }

/-- A small state: capture source `i` alone enabled, on receiver 0 and virtual channel 0, of 16 by 16 pixels. -/
def tinyCap (i : Nat) (s : State) : State :=
  let s := (List.range 32).foldl (fun s j => s.set (Reg.MED_CS_CTRL_EN j) (if j = i then 1 else 0)) (tinyOn s)
  let s := ((s.set (Reg.MED_CS_CTRL_PORT i) 0).set (Reg.MED_CS_CTRL_VC i) 0).set (Reg.MED_CS_CTRL_DT i) 0x2A
  let s := ((s.set (Reg.MED_CS_CTRL_OFMT i) 0).set (Reg.MED_CS_SIZE_W i) 16).set (Reg.MED_CS_SIZE_H i) 16
  let s := ((s.set (Reg.MED_CS_RATE_FPS_MAX i) 30).set (Reg.MED_CS_BUFCFG_NBUF i) 3).set (Reg.MED_CS_BUFCFG_BUF_KIB i) 1
  let s := ((s.set (Reg.MED_CS_RLOG2_LOG2 i) 4).set (Reg.MED_CS_BUF_BASE i) 0x1000300000).set (Reg.MED_CS_RING_BASE i) 0x1000002000
  let s := ((s.set (Reg.MED_CS_CTRL_SECURE i) 1).set (Reg.MED_CS_CTRL_PARTITION i) 0).set (Reg.MED_CS_RPTR_RPTR i) 0
  { (s.set (Reg.MED_RX_CTRL_EN 0) 1) with med := {} }

/-- A small state: every unit is on and receiver `port` is enabled. -/
def tinyRx (port : Nat) (s : State) : State := (tinyOn s).set (Reg.MED_RX_CTRL_EN port) 1

/-- A small state: media context `x`, a decoder of the Secure world and partition 0, with a checked sample in slot 0. -/
def tinyMed (x : Nat) (run : Option (Nat × Nat × Nat)) (s : State) : State :=
  let s := ((tinyOn s).set (Reg.MED_CX_ATTR_EN x) 1).set (Reg.MED_CX_ATTR_ENCODE x) 0
  let s := ((s.set (Reg.MED_CX_ATTR_SECURE x) 1).set (Reg.MED_CX_ATTR_PARTITION x) 0).set (Reg.MED_CX_MAX_MAX_W x) 64
  let s := ((s.set (Reg.MED_CX_MAX_MAX_H x) 64).set (Reg.MED_CX_SIZE_LOG2 x) 4).set (Reg.MED_CX_SIZE_CLOG2 x) 4
  let s := ((s.set (Reg.MED_CX_ARENA_BASE x) 0x1000300000).set (Reg.MED_CX_ARENA_SIZE_SIZE x) 0x100000).set (Reg.MED_CX_RING_BASE x) 0x1000000000
  let s := ((s.set (Reg.MED_CX_CPL_BASE x) 0x1000002000).set (Reg.MED_Q_RPTR_RPTR x) 0).set (Reg.MED_Q_WPTR_WPTR x) 1
  let s := (s.set (Reg.MED_Q_CPL_RPTR_CPL_RPTR x) 0).set (Reg.MED_Q_CPL_WPTR_CPL_WPTR x) 0
  let s := s.wr 0x1000000000 (leBytes 4 0x70001 ++ leBytes 4 0 ++ leBytes 8 0x1000400000 ++ leBytes 4 100 ++ leBytes 4 0 ++ leBytes 8 5)
  { s with med := { ctx := [(x, { checked := [⟨0, s.sampleDesc x 0, Code.ok, s.stepSeq⟩], admitted := run })] }, mer := { s.mer with windows := [] } }

/-- A small state: staging context `p` with one bucket of depth 4 and a job that took nothing. -/
def tinyStage (p : Nat) (s : State) : State :=
  let s := ((tinyOn s).set (Reg.MED_ST_CTRL_EN p) 1).set (Reg.MED_ST_CTRL_SECURE p) 1
  let s := (s.set (Reg.MED_ST_CTRL_PARTITION p) 0).set (Reg.MED_PBQ_WPTR_WPTR p 0) 0
  let s := s.set (Reg.MED_PBQ_RPTR_RPTR p 0) 0
  { s with
    med := { st := [(p, { buckets := [(0, { outW := 8, outH := 8, ofmt := 0, foldCode := 0, bicubic := 0, csc := 0, depth := 4, low := 1, base := 0x1000300000, hdr := 0x1000002000, entry := 0x1000, means := [], scales := [] })], job := some ⟨s.datum, 3, 1000, 0, []⟩ })] }
    mer := { s.mer with windows := [] } }

/-- A small state: edge source `i` enabled, of priority 5, routed to target `t` and pending; nothing else pends. -/
def tinyIrq (i t : Nat) (s : State) : State :=
  let s := { (s.set Reg.SYS_UNIT_MASK_CLUSTER_EN 0xFFFF) with icnSrc := [], icnTgt := [] }
  let s := ((s.set (Reg.ICN_SRC_CFG_EN i) 1).set (Reg.ICN_SRC_CFG_MULTI i) 0).set (Reg.ICN_SRC_CFG_PRIO i) 5
  ((s.set (Reg.ICN_SRC_TGT_TARGETS i) (2 ^ t)).set (Reg.ICN_TGT_THRESH_THRESH t) 0).setSrc i { pend := true }

/-- A small state: flow `n` alone is valid, with the words `ws` and an output long ago; endpoint 3 of the Secure world,
partition 0, is open with flows 0 to 100. -/
def tinyFlow (n : Nat) (ws : List Nat) (v : FlowVal) (s : State) : State :=
  let s := ((s.set (Reg.GWY_EP_RX_WPTR_WPTR 3) 0).set (Reg.GWY_EP_RX_RPTR_RPTR 3) 0).set (Reg.GWY_EP_STATUS_OPEN 3) 1
  let s := ((s.set (Reg.GWY_EP_TX_WPTR_WPTR 3) 1).set (Reg.GWY_EP_TX_RPTR_RPTR 3) 0).set (Reg.DDR_CG_CTRL_OWNER 0) 0
  { s.set (Reg.DDR_CG_CTRL_INLINE_ECC 0) 0 with
    gwy := { flows := [(n, ws ++ List.replicate (16 - ws.length) 0)], vals := [(n, v)],
             eps := [(3, { owner := ⟨true, 0⟩, rxLog := 4, txLog := 4, slotLog := 7, lo := 0, hi := 100, rx := 0x1000010000, tx := 0x1000020000 })] } }

/-- An Ethernet frame with an IPv6 UDP datagram to port 1000 that holds one PDU. -/
def tinyPdu (tag : List (BitVec 8)) : List (BitVec 8) :=
  List.replicate 12 0 ++ tag ++ [0x86, 0xDD, 0x60, 0, 0, 0, 0, 20, 17, 64] ++ List.replicate 32 0 ++
    [0, 1, 0x03, 0xE8, 0, 20, 0, 0, 0, 0, 0, 9, 0, 0, 0, 4, 1, 2, 3, 4]

/-- Region 0 of checker `k` gives every world and partition its pages from `lo` to `hi`. -/
def tinyRegion (k lo hi : Nat) (s : State) : State :=
  let s := ((s.set (Reg.CAD_RG_BASE_BASE k 0) lo).set (Reg.CAD_RG_LIMIT_LIMIT k 0) hi).set (Reg.CAD_RG_PARTS_PARTS k 0) (2 ^ 64 - 1)
  let s := ((s.set (Reg.CAD_RG_CTRL_EN k 0) 1).set (Reg.CAD_RG_CTRL_SR k 0) 1).set (Reg.CAD_RG_CTRL_SW k 0) 1
  (s.set (Reg.CAD_RG_CTRL_NR k 0) 1).set (Reg.CAD_RG_CTRL_NW k 0) 1

/-- A small state: the gateway controller runs, the journal is empty with both copies in use, and the Field Book service
holds one request, with session 1 of principal 0 open for its source under key slot 3. -/
def tinyFba (r : FbaReq) (s : State) : State :=
  let s := ((s.set (Reg.SYS_FWD_STATUS_STATE 21) 0).fbSet 0x1210 1 1).fbSet 0x1210 2 3
  let s := ((s.fbSet 0x1210 4 0).fbSet 0x1210 5 0).fbSet 0x1210 3 2
  { s with
    pins := { s.pins with pwrFailN := true }
    jrn := []
    fw := { s.fw with logs := [] }
    worlds := { s.worlds with keys := [(3, { key := List.replicate 16 7, aes256 := false, uses := 4, parts := 2 ^ 64 - 1 })] }
    fba := { queue := [r], copies := [(0, { failed := false }), (1, { failed := false })],
             sessions := [(1, { source := r.source, nonce := List.replicate 16 9 })] } }

/-- A Field Book message with the MAC of that session under a nonce. -/
def tinySigned (nonce msg : List Nat) : List Nat := msg ++ fbaMac (List.replicate 16 7) nonce msg

/-- A debug token of level 1 for partition 1 that verifies: r = s = the digest, and the public key is R − G for the point R
with that x coordinate. -/
def tinyToken : List (BitVec 8) :=
  [
    1, 0, 0, 0, 0, 0, 0, 0, 2, 0, 0, 0, 0, 0, 0, 0, 0, 0, 0, 0, 0, 0, 0, 0, 0, 0, 0, 0, 0, 0, 0, 0, 0, 0, 0, 0,
    0, 0, 0, 0, 0, 0, 0, 0, 0, 0, 0, 0, 166, 237, 70, 107, 80, 231, 50, 48, 16, 67, 77, 99, 159, 129, 98, 81,
    214, 157, 44, 65, 176, 71, 58, 109, 246, 119, 61, 37, 222, 244, 255, 0, 68, 176, 233, 4, 105, 109, 72, 145,
    117, 207, 133, 115, 196, 90, 5, 115, 229, 12, 30, 83, 107, 129, 125, 127, 220, 140, 252, 81, 235, 226, 241,
    9, 41, 70, 37, 217, 225, 104, 89, 118, 56, 74, 75, 108, 49, 227, 117, 189, 74, 179, 202, 255, 227, 215, 160,
    230, 145, 208, 122, 173, 153, 235, 191, 108, 30, 79, 88, 209, 190, 23, 238, 92, 64, 61, 117, 26, 32, 55,
    187, 135, 223, 47, 115, 201, 11, 80, 216, 206, 65, 245, 36, 144, 110, 234, 204, 238, 185, 242, 93, 159, 129,
    234, 202, 38, 156, 24, 199, 200, 47, 62, 238, 130, 30, 79, 88, 209, 190, 23, 238, 92, 64, 61, 117, 26, 32,
    55, 187, 135, 223, 47, 115, 201, 11, 80, 216, 206, 65, 245, 36, 144, 110, 234, 204, 238, 185, 242, 93, 159,
    129, 234, 202, 38, 156, 24, 199, 200, 47, 62, 238, 130]


/-- A small state: a debug port that accepts that token, with the safety partition `p` and the safety state `st`. -/
def tinyDebug (p st : Nat) (s : State) : State :=
  let t := tinyToken.map BitVec.toNat
  let s := (s.set Reg.SYS_DBG_STATUS_LOCKED_OUT 0).set Reg.SAF_STATE_STATE st
  { s with
    dbg := { challenge := some (slice t 16 32) }
    fuses := { s.fuses with dbgKeyHash := Crypto.sha384 (slice t 48 96), dbgDisable := false }
    saf := { s.saf with partition := p } }

theorem hyp_DatumRegisterAccesses_1 :
  (
  let who : Agent := .sec 0 .m none
  let s : State := State.reset
  decide (Passes s who Reg.MER_DATUM_CTRL_addr true) &&
  true) = true := by decide +kernel

theorem hyp_DatumRegisterAccesses_2 :
  (
  let who : Agent := .sec 0 .m none
  let v : BitVec 2 := 1
  let s : State := State.reset
  decide (Passes s who Reg.MER_DATUM_CTRL_addr true) &&
  decide (v.toNat ≠ 3) &&
  decide (v.toNat ≠ s.get Reg.MER_DATUM_CTRL_SOURCE) &&
  true) = true := by decide +kernel

theorem hyp_DatumRegisterAccesses_3 :
  (
  let who : Agent := .sec 0 .m none
  let v : BitVec 2 := 0
  let s : State := State.reset
  let s : State := s.set Reg.MER_DATUM_CTRL_SOURCE 0
  decide (Passes s who Reg.MER_DATUM_CTRL_addr true) &&
  decide (v.toNat ≠ 3) &&
  decide (v.toNat = s.get Reg.MER_DATUM_CTRL_SOURCE) &&
  true) = true := by decide +kernel

theorem hyp_DatumRegisterAccesses_4 :
  (
  let who : Agent := .sec 0 .m none
  let s : State := State.reset
  decide (Passes s who Reg.MER_DATUM_CTRL_addr true) &&
  decide (s.sourceAvailable = false) &&
  true) = true := by decide +kernel

theorem hyp_DatumRegisterAccesses_5 :
  (
  let who : Agent := .sec 0 .m none
  let s : State := State.reset
  let s : State := s.set Reg.MER_STATUS_RUNNING 1
  let s : State := s.set Reg.MER_DATUM_CTRL_SOURCE 1
  let s : State := { s with servo := { s.servo with lastSync := some s.datum, offset := 5 } }
  decide (Passes s who Reg.MER_DATUM_CTRL_addr true) &&
  decide (s.sourceAvailable = true) &&
  decide (s.running = true) &&
  true) = true := by decide +kernel

theorem hyp_DatumRegisterAccesses_6 :
  (
  let who : Agent := .sec 0 .m none
  let s : State := State.reset
  let s : State := s.set Reg.MER_STATUS_RUNNING 0
  let s : State := s.set Reg.MER_DATUM_CTRL_SOURCE 1
  let s : State := { s with servo := { s.servo with lastSync := some s.datum, offset := 5 } }
  decide (Passes s who Reg.MER_DATUM_CTRL_addr true) &&
  decide (s.sourceAvailable = true) &&
  decide (s.running = false) &&
  true) = true := by decide +kernel

theorem hyp_DatumRegisterAccesses_7 :
  (
  let who : Agent := .sec 0 .m none
  let s : State := State.reset
  decide (Passes s who Reg.MER_TIME_NS_addr false) &&
  true) = true := by decide +kernel

theorem hyp_DatumRegisterAccesses_8 :
  (
  let who : Agent := .sec 0 .m none
  let n : Fin 8 := 0
  let s : State := State.reset
  let s : State := { s with timeIn := KMap.put s.timeIn n.val { fifo := [1000000005, 7], last := some 7 } }
  decide (Passes s who (Reg.MER_TI_NS_addr n.val) false) &&
  Option.elim (β := Bool) (uncons' ((s.tin n.val).fifo)) false fun (c, rest) =>
  true) = true := by decide +kernel

theorem hyp_DatumRegisterAccesses_9 :
  (
  let who : Agent := .sec 0 .m none
  let n : Fin 8 := 0
  let s : State := State.reset
  decide (Passes s who (Reg.MER_TI_NS_addr n.val) false) &&
  decide ((s.tin n.val).fifo = []) &&
  true) = true := by decide +kernel

theorem hyp_TimeSynchronisationMessages_1 :
  (
  let mac : Fin 6 := 0
  let ident : BitVec 64 := 0
  let s : State := State.reset
  let s : State := s.set (Reg.SYS_FWD_STATUS_STATE 21) 0
  let s : State := s.set Reg.MER_DATUM_CTRL_SOURCE (1)
  let s : State := s.set Reg.MER_STATUS_DATUM_STATE 1
  let s : State := { s with servo := { s.servo with master := some { vector := 1, identity := ident.toNat, mac := mac.val }, peerDelay := KMap.put s.servo.peerDelay mac.val 30 } }
  let s : State := s.fbSet 0x2010 2 63
  let s : State := s.fbSet 0x2010 10 0
  decide (s.gptpMac mac.val = true) &&
  decide (s.gatewayUp = true) &&
  decide (s.get Reg.MER_DATUM_CTRL_SOURCE = 1) &&
  decide (s.fbGet 0x2010 0xA ≠ 2) &&
  decide (s.datumState = 1) &&
  Option.elim (β := Bool) (s.servo.master) false fun m =>
  decide (m.identity = ident.toNat) &&
  decide (m.mac = mac.val) &&
  Option.elim (β := Bool) (KMap.find s.servo.peerDelay mac.val) false fun d =>
  true) = true := by decide +kernel

theorem hyp_TimeSynchronisationMessages_2 :
  (
  let mac : Fin 6 := 0
  let ident : BitVec 64 := 0
  let org : BitVec 80 := 0
  let age : BitVec 32 := 0
  let s : State := State.reset
  let s : State := s.set (Reg.SYS_FWD_STATUS_STATE 21) 0
  let s : State := s.set Reg.MER_DATUM_CTRL_SOURCE (1)
  let s : State := s.set Reg.MER_STATUS_DATUM_STATE 2
  let s : State := { s with servo.acqPending := false }
  let s : State := { s with servo := { s.servo with master := some { vector := 1, identity := ident.toNat, mac := mac.val }, peerDelay := KMap.put s.servo.peerDelay mac.val 30, samples := [1, 2, 3], acqPending := false, firstDone := true } }
  let s : State := s.fbSet 0x2010 2 63
  let s : State := s.fbSet 0x2010 10 0
  decide (s.gptpMac mac.val = true) &&
  decide (s.gatewayUp = true) &&
  decide (s.get Reg.MER_DATUM_CTRL_SOURCE = 1) &&
  decide (s.fbGet 0x2010 0xA ≠ 2) &&
  decide (s.datumState = 2) &&
  decide (s.servo.acqPending = false) &&
  Option.elim (β := Bool) (s.servo.master) false fun m =>
  decide (m.identity = ident.toNat) &&
  decide (m.mac = mac.val) &&
  Option.elim (β := Bool) (KMap.find s.servo.peerDelay mac.val) false fun d =>
  let o := (s.datum : Int) - age.toNat + s.ingress mac.val - (org.toNat + d)
  decide (s.servo.samples.length = 3) &&
  true) = true := by decide +kernel

theorem hyp_TimeSynchronisationMessages_3 :
  (
  let mac : Fin 6 := 0
  let p1 : BitVec 8 := 0
  let q : BitVec 32 := 0
  let p2 : BitVec 8 := 0
  let ident : BitVec 64 := 0
  let steps : BitVec 16 := 0
  let s : State := State.reset
  let s : State := s.set (Reg.SYS_FWD_STATUS_STATE 21) 0
  let s : State := { s with servo.master := none }
  let s : State := { s with servo := { s.servo with master := none } }
  let s : State := s.fbSet 0x2010 2 63
  let s : State := s.fbSet 0x2010 10 1
  decide (s.gptpMac mac.val = true) &&
  decide (s.gatewayUp = true) &&
  decide (s.servo.master = none) &&
  decide (s.fbGet 0x2010 0xA = 1 ∨ (s.fbGet 0x2010 0xA = 0 ∧ announceVector p1.toNat q.toNat p2.toNat ident.toNat steps.toNat < ownVector)) &&
  true) = true := by decide +kernel

theorem hyp_TimeSynchronisationMessages_4 :
  (
  let mac : Fin 6 := 0
  let p1 : BitVec 8 := 0
  let q : BitVec 32 := 0
  let p2 : BitVec 8 := 0
  let ident : BitVec 64 := 0
  let steps : BitVec 16 := 0
  let s : State := State.reset
  let s : State := s.set (Reg.SYS_FWD_STATUS_STATE 21) 0
  let s : State := { s with servo := { s.servo with master := some { vector := 2 ^ 200, identity := 7, mac := 0 } } }
  let s : State := s.fbSet 0x2010 2 63
  let s : State := s.fbSet 0x2010 10 1
  decide (s.gptpMac mac.val = true) &&
  decide (s.gatewayUp = true) &&
  Option.elim (β := Bool) (s.servo.master) false fun m =>
  decide (m.identity ≠ ident.toNat) &&
  let v := announceVector p1.toNat q.toNat p2.toNat ident.toNat steps.toNat
  decide (s.fbGet 0x2010 0xA = 1 ∨ (s.fbGet 0x2010 0xA = 0 ∧ v < ownVector ∧ (m.aged = true ∨ v < m.vector))) &&
  true) = true := by decide +kernel

theorem hyp_TimeSynchronisationMessages_5 :
  (
  let mac : Fin 6 := 0
  let p1 : BitVec 8 := 0
  let q : BitVec 32 := 0
  let p2 : BitVec 8 := 0
  let ident : BitVec 64 := 0
  let steps : BitVec 16 := 0
  let s : State := State.reset
  let s : State := s.fbSet 0x2010 0xA (0)
  let s : State := { s with servo := { s.servo with master := some { vector := 0, identity := 7, mac := 0 } } }
  let s : State := s.fbSet 0x2010 2 63
  decide (s.fbGet 0x2010 0xA = 0) &&
  Option.elim (β := Bool) (s.servo.master) false fun m =>
  decide (m.identity ≠ ident.toNat) &&
  decide (m.aged = false) &&
  decide (m.vector ≤ announceVector p1.toNat q.toNat p2.toNat ident.toNat steps.toNat) &&
  true) = true := by decide +kernel

theorem hyp_TimeSynchronisationMessages_6 :
  (
  let mac : Fin 6 := 0
  let s : State := State.reset
  let s : State := s.set (Reg.SYS_FWD_STATUS_STATE 21) 0
  let s : State := s.fbSet 0x2010 2 63
  decide (s.gptpMac mac.val = true) &&
  decide (s.gatewayUp = true) &&
  true) = true := by decide +kernel

theorem hyp_TimeSynchronisationMessages_7 :
  (
  let mac : Fin 6 := 0
  let s : State := State.reset
  let s : State := s.set (Reg.SYS_FWD_STATUS_STATE 21) 0
  let s : State := s.fbSet 0x2010 2 63
  let s : State := s.fbSet 0x2010 10 2
  decide (s.gptpMac mac.val = true) &&
  decide (s.gatewayUp = true) &&
  decide (s.grandmaster = true) &&
  true) = true := by decide +kernel

theorem hyp_TimeSynchronisationMessages_8 :
  (
  let dom : BitVec 8 := 1
  let s : State := State.reset
  decide (dom.toNat ≠ 0) &&
  true) = true := by decide +kernel

theorem hyp_TimeSynchronisationMessages_9 :
  (
  let dom : BitVec 8 := 1
  let s : State := State.reset
  decide (dom.toNat ≠ 0) &&
  true) = true := by decide +kernel

theorem hyp_TimeSynchronisationMessages_10 :
  (
  let dom : BitVec 8 := 1
  let s : State := State.reset
  decide (dom.toNat ≠ 0) &&
  true) = true := by decide +kernel

theorem hyp_TimeSynchronisationMessages_11 :
  (
  let s : State := State.reset
  let s : State := s.set Reg.MER_DATUM_CTRL_SOURCE (2)
  let s : State := s.set Reg.MER_STATUS_DATUM_STATE 1
  let s : State := (s.set Reg.SYS_STRAP_PKG_ID 1).set Reg.SYS_STRAP_ERR 0
  decide (s.get Reg.MER_DATUM_CTRL_SOURCE = 2) &&
  decide (s.datumState = 1) &&
  decide (s.ownTime = false) &&
  true) = true := by decide +kernel

theorem hyp_TimeSynchronisationMessages_12 :
  (
  let s : State := State.reset
  decide (s.get Reg.MER_DATUM_CTRL_SOURCE ≠ 2) &&
  true) = true := by decide +kernel

theorem hyp_DatumTimedEvents_1 :
  (
  let s : State := State.reset
  let s : State := s.set Reg.MER_DATUM_CTRL_SOURCE (1)
  let s : State := { s with servo := { s.servo with lastSync := some 5 } }
  decide (s.get Reg.MER_DATUM_CTRL_SOURCE = 1) &&
  Option.elim (β := Bool) (s.servo.lastSync) false fun l =>
  true) = true := by decide +kernel

theorem hyp_DatumTimedEvents_2 :
  (
  let s : State := State.reset
  let s : State := s.set Reg.MER_DATUM_CTRL_SOURCE (2)
  let s : State := { s with servo := { s.servo with lastSync := some 5 } }
  decide (s.get Reg.MER_DATUM_CTRL_SOURCE = 2) &&
  Option.elim (β := Bool) (s.servo.lastSync) false fun l =>
  true) = true := by decide +kernel

theorem hyp_DatumTimedEvents_3 :
  (
  let s : State := State.reset
  let s : State := s.set Reg.MER_STATUS_DATUM_STATE 2
  decide (s.datumState = 2) &&
  true) = true := by decide +kernel

theorem hyp_DatumTimedEvents_4 :
  (
  let s : State := State.reset
  let s : State := { s with servo := { s.servo with startWait := some 9 } }
  Option.elim (β := Bool) (s.servo.startWait) false fun l =>
  true) = true := by decide +kernel

theorem hyp_DatumTimedEvents_5 :
  (
  let n : Fin 8 := 0
  let s : State := State.reset
  let s : State := s.set (Reg.MER_TOUT_CTRL_EN n.val) 1
  let s : State := s.set (Reg.MER_TOUT_CTRL_MODE n.val) 1
  let s : State := { s with mer := { s.mer with frameStart := KMap.put s.mer.frameStart (s.get (Reg.MER_TOUT_CTRL_PIPE n.val)) (s.datum + 70) } }
  Option.elim (β := Bool) (s.nextPulse n.val) false fun l =>
  true) = true := by decide +kernel

theorem hyp_DatumTimedEvents_6 :
  (
  let n : Fin 8 := 0
  let rising : Bool := true
  let s : State := State.reset
  let s : State := s.set (Reg.MER_TI_CTRL_EN n.val) 1
  let s : State := s.set (Reg.MER_TI_CTRL_EDGE n.val) 3
  let s : State := { s with timeIn := KMap.put s.timeIn n.val {} }
  decide (s.bit (Reg.MER_TI_CTRL_EN n.val) = true) &&
  decide (bitOf (s.get (Reg.MER_TI_CTRL_EDGE n.val)) (if rising then 0 else 1) = true) &&
  decide (((s.tin n.val).last.all (fun l => l + 100 ≤ s.datum)) = true) &&
  decide ((s.tin n.val).fifo.length < 16) &&
  true) = true := by decide +kernel

theorem hyp_DatumTimedEvents_7 :
  (
  let n : Fin 8 := 0
  let rising : Bool := true
  let s : State := State.reset
  let s : State := s.set (Reg.MER_TI_CTRL_EN n.val) 1
  let s : State := s.set (Reg.MER_TI_CTRL_EDGE n.val) 3
  let s : State := { s with timeIn := KMap.put s.timeIn n.val { fifo := List.replicate 16 3, last := none } }
  decide (s.bit (Reg.MER_TI_CTRL_EN n.val) = true) &&
  decide (bitOf (s.get (Reg.MER_TI_CTRL_EDGE n.val)) (if rising then 0 else 1) = true) &&
  decide (((s.tin n.val).last.all (fun l => l + 100 ≤ s.datum)) = true) &&
  decide (16 ≤ (s.tin n.val).fifo.length) &&
  true) = true := by decide +kernel

theorem hyp_DatumTimedEvents_8 :
  (
  let n : Fin 8 := 0
  let rising : Bool := true
  let s : State := State.reset
  let s : State := s.set (Reg.MER_TI_CTRL_EN n.val) 1
  let s : State := s.set (Reg.MER_TI_CTRL_EDGE n.val) 3
  let s : State := { s with timeIn := KMap.put s.timeIn n.val { fifo := [], last := some s.datum } }
  decide (s.bit (Reg.MER_TI_CTRL_EN n.val) = true) &&
  decide (bitOf (s.get (Reg.MER_TI_CTRL_EDGE n.val)) (if rising then 0 else 1) = true) &&
  Option.elim (β := Bool) ((s.tin n.val).last) false fun l =>
  decide (s.datum < l + 100) &&
  true) = true := by decide +kernel

theorem hyp_DatumTimedEvents_9 :
  (
  let n : Fin 8 := 0
  let s : State := State.reset
  let s : State := s.set (Reg.MER_TI_CTRL_EN n.val) 0
  decide (s.bit (Reg.MER_TI_CTRL_EN n.val) = false) &&
  true) = true := by decide +kernel

theorem hyp_MeridianControl_1 :
  (
  let who : Agent := .sec 0 .m none
  let s : State := State.reset
  let s : State := s.set Reg.MER_STATUS_RUNNING 1
  decide (Passes s who Reg.MER_CTRL_addr true) &&
  decide (s.running = true) &&
  true) = true := by decide +kernel

theorem hyp_MeridianControl_2 :
  (
  let who : Agent := .sec 0 .m none
  let s : State := State.reset
  let s : State := s.set Reg.MER_STATUS_RUNNING 0
  let s : State := s.set Reg.MER_CTRL_START 0
  decide (Passes s who Reg.MER_CTRL_addr true) &&
  decide (s.running = false) &&
  decide (s.bit Reg.MER_CTRL_START = false) &&
  decide (s.fbGet 0x2010 3 = 0 ∨ s.get Reg.MER_DATUM_CTRL_SOURCE = 0 ∨ s.servo.firstDone = true ∨ s.fbGet 0x2010 0xA = 2) &&
  true) = true := by decide +kernel

theorem hyp_MeridianControl_3 :
  (
  let who : Agent := .sec 0 .m none
  let s : State := State.reset
  let s : State := s.set Reg.MER_STATUS_RUNNING 0
  let s : State := s.set Reg.MER_CTRL_START 0
  let s : State := { s with servo.firstDone := false }
  let s : State := s.set Reg.MER_DATUM_CTRL_SOURCE 1
  let s : State := s.fbSet 0x2010 0xA 0
  let s : State := s.fbSet 0x2010 3 10
  decide (Passes s who Reg.MER_CTRL_addr true) &&
  decide (s.running = false) &&
  decide (s.bit Reg.MER_CTRL_START = false) &&
  decide (s.get Reg.MER_DATUM_CTRL_SOURCE ≠ 0) &&
  decide (s.servo.firstDone = false) &&
  decide (s.fbGet 0x2010 0xA ≠ 2) &&
  decide (s.fbGet 0x2010 3 ≠ 0) &&
  true) = true := by decide +kernel

theorem hyp_MeridianControl_4 :
  (
  let who : Agent := .sec 0 .m none
  let s : State := State.reset
  let s : State := s.set Reg.MER_STATUS_RUNNING 1
  decide (Passes s who Reg.MER_CTRL_addr true) &&
  decide (s.running = true) &&
  true) = true := by decide +kernel

theorem hyp_MeridianControl_5 :
  (
  let who : Agent := .sec 0 .m none
  let s : State := State.reset
  let s : State := s.set Reg.MER_STATUS_RUNNING 0
  decide (Passes s who Reg.MER_CTRL_addr true) &&
  decide (s.running = false) &&
  true) = true := by decide +kernel

theorem hyp_MeridianControl_6 :
  (
  let who : Agent := .sec 0 .m none
  let s : State := State.reset
  let s : State := s.set Reg.MER_CTRL_TABLE_LOCK 1
  decide (Passes s who Reg.MER_CTRL_addr true) &&
  decide (s.bit Reg.MER_CTRL_TABLE_LOCK = true) &&
  true) = true := by decide +kernel

theorem hyp_MeridianControl_7 :
  (
  let who : Agent := .sec 0 .m none
  let s : State := State.reset
  let s : State := s.set Reg.MER_CTRL_TABLE_LOCK 0
  let s : State := s.set Reg.MER_STATUS_SWAP_PENDING 1
  decide (Passes s who Reg.MER_CTRL_addr true) &&
  decide (s.bit Reg.MER_CTRL_TABLE_LOCK = false) &&
  decide (s.bit Reg.MER_STATUS_SWAP_PENDING = true) &&
  true) = true := by decide +kernel

theorem hyp_MeridianControl_8 :
  (
  let who : Agent := .sec 0 .m none
  let s : State := State.reset
  let s : State := s.set Reg.MER_CTRL_TABLE_LOCK 0
  let s : State := s.set Reg.MER_STATUS_SWAP_PENDING 0
  let s : State := { s with mer := { s.mer with shadow := [(3, 2 ^ 31)] } }
  decide (Passes s who Reg.MER_CTRL_addr true) &&
  decide (s.bit Reg.MER_CTRL_TABLE_LOCK = false) &&
  decide (s.bit Reg.MER_STATUS_SWAP_PENDING = false) &&
  Option.elim (β := Bool) (s.validate) false fun (e, c) =>
  true) = true := by decide +kernel

theorem hyp_MeridianControl_9 :
  (
  let who : Agent := .sec 0 .m none
  let s : State := State.reset
  let s : State := s.set Reg.MER_CTRL_TABLE_LOCK 0
  let s : State := s.set Reg.MER_STATUS_SWAP_PENDING 0
  let s : State := s.set Reg.MER_STATUS_RUNNING 1
  let s : State := { s with mer := { s.mer with shadow := [] } }
  decide (Passes s who Reg.MER_CTRL_addr true) &&
  decide (s.bit Reg.MER_CTRL_TABLE_LOCK = false) &&
  decide (s.bit Reg.MER_STATUS_SWAP_PENDING = false) &&
  decide (s.running = true) &&
  decide (s.validate = none) &&
  true) = true := by decide +kernel

theorem hyp_MeridianControl_10 :
  (
  let who : Agent := .sec 0 .m none
  let s : State := State.reset
  let s : State := s.set Reg.MER_CTRL_TABLE_LOCK 0
  let s : State := s.set Reg.MER_STATUS_SWAP_PENDING 0
  let s : State := s.set Reg.MER_STATUS_RUNNING 0
  let s : State := { s with mer := { s.mer with shadow := [] } }
  decide (Passes s who Reg.MER_CTRL_addr true) &&
  decide (s.bit Reg.MER_CTRL_TABLE_LOCK = false) &&
  decide (s.bit Reg.MER_STATUS_SWAP_PENDING = false) &&
  decide (s.running = false) &&
  decide (s.validate = none) &&
  true) = true := by decide +kernel

theorem hyp_MeridianControl_11 :
  (
  let who : Agent := .sec 0 .m none
  let s : State := State.reset
  decide (Passes s who Reg.MER_CTRL_addr true) &&
  true) = true := by decide +kernel

theorem hyp_MeridianParameters_1 :
  (
  let who : Agent := .sec 0 .m none
  let v : BitVec 14 := 2000
  let s : State := State.reset
  let s : State := s.set Reg.MER_STATUS_RUNNING 0
  let s : State := s.set Reg.MER_HYPER_TICKS_TICKS 100
  let s : State := s.set Reg.MER_PHASE_NS_PHASE 0
  decide (Passes s who Reg.MER_TICK_PERIOD_addr true) &&
  decide (s.running = false) &&
  decide (250 ≤ v.toNat) &&
  decide (v.toNat ≤ 10000) &&
  decide (v.toNat * s.get Reg.MER_HYPER_TICKS_TICKS ≤ 1000000) &&
  decide (s.get Reg.MER_PHASE_NS_PHASE < v.toNat * s.get Reg.MER_HYPER_TICKS_TICKS * 1000) &&
  true) = true := by decide +kernel

theorem hyp_MeridianParameters_2 :
  (
  let who : Agent := .sec 0 .m none
  let v : BitVec 14 := 1000
  let s : State := State.reset
  let s : State := s.set Reg.MER_STATUS_RUNNING 1
  decide (Passes s who Reg.MER_TICK_PERIOD_addr true) &&
  decide (s.running = true) &&
  decide (250 ≤ v.toNat) &&
  decide (v.toNat ≤ 10000) &&
  decide (v.toNat * s.get Reg.MER_HYPER_TICKS_TICKS ≤ 1000000) &&
  decide (s.get Reg.MER_PHASE_NS_PHASE < v.toNat * s.get Reg.MER_HYPER_TICKS_TICKS * 1000) &&
  true) = true := by decide +kernel

theorem hyp_MeridianParameters_3 :
  (
  let who : Agent := .sec 0 .m none
  let v : BitVec 14 := 0
  let s : State := State.reset
  decide (Passes s who Reg.MER_TICK_PERIOD_addr true) &&
  decide (v.toNat < 250 ∨ 10000 < v.toNat) &&
  true) = true := by decide +kernel

theorem hyp_MeridianParameters_4 :
  (
  let who : Agent := .sec 0 .m none
  let v : BitVec 14 := 5000
  let s : State := State.reset
  decide (Passes s who Reg.MER_TICK_PERIOD_addr true) &&
  decide (250 ≤ v.toNat) &&
  decide (v.toNat ≤ 10000) &&
  decide (1000000 < v.toNat * s.get Reg.MER_HYPER_TICKS_TICKS ∨ v.toNat * s.get Reg.MER_HYPER_TICKS_TICKS * 1000 ≤ s.get Reg.MER_PHASE_NS_PHASE) &&
  true) = true := by decide +kernel

theorem hyp_MeridianParameters_5 :
  (
  let who : Agent := .sec 0 .m none
  let v : BitVec 12 := 16
  let s : State := State.reset
  let s : State := s.set Reg.MER_STATUS_RUNNING 0
  let s : State := s.set Reg.MER_PHASE_NS_PHASE 0
  decide (Passes s who Reg.MER_HYPER_TICKS_addr true) &&
  decide (s.running = false) &&
  decide (0 < v.toNat) &&
  decide (v.toNat ≤ 4000) &&
  decide (v.toNat * s.get Reg.MER_TICK_PERIOD_PERIOD_US ≤ 1000000) &&
  decide (s.get Reg.MER_PHASE_NS_PHASE < v.toNat * s.get Reg.MER_TICK_PERIOD_PERIOD_US * 1000) &&
  true) = true := by decide +kernel

theorem hyp_MeridianParameters_6 :
  (
  let who : Agent := .sec 0 .m none
  let v : BitVec 12 := 16
  let s : State := State.reset
  let s : State := s.set Reg.MER_STATUS_RUNNING 1
  let s : State := s.set Reg.MER_PHASE_NS_PHASE 0
  decide (Passes s who Reg.MER_HYPER_TICKS_addr true) &&
  decide (0 < v.toNat) &&
  decide (v.toNat ≤ 4000) &&
  decide (v.toNat * s.get Reg.MER_TICK_PERIOD_PERIOD_US ≤ 1000000) &&
  decide (s.get Reg.MER_PHASE_NS_PHASE < v.toNat * s.get Reg.MER_TICK_PERIOD_PERIOD_US * 1000) &&
  decide (s.running = true) &&
  true) = true := by decide +kernel

theorem hyp_MeridianParameters_7 :
  (
  let who : Agent := .sec 0 .m none
  let v : BitVec 12 := 4000
  let s : State := State.reset
  decide (Passes s who Reg.MER_HYPER_TICKS_addr true) &&
  decide (0 < v.toNat) &&
  decide (v.toNat ≤ 4000) &&
  decide (1000000 < v.toNat * s.get Reg.MER_TICK_PERIOD_PERIOD_US ∨ v.toNat * s.get Reg.MER_TICK_PERIOD_PERIOD_US * 1000 ≤ s.get Reg.MER_PHASE_NS_PHASE) &&
  true) = true := by decide +kernel

theorem hyp_MeridianParameters_8 :
  (
  let who : Agent := .sec 0 .m none
  let v : BitVec 12 := 0
  let s : State := State.reset
  decide (Passes s who Reg.MER_HYPER_TICKS_addr true) &&
  decide (v.toNat = 0 ∨ v.toNat = 0xFFF) &&
  true) = true := by decide +kernel

theorem hyp_MeridianParameters_9 :
  (
  let who : Agent := .sec 0 .m none
  let v : BitVec 12 := 4001
  let s : State := State.reset
  decide (Passes s who Reg.MER_HYPER_TICKS_addr true) &&
  decide (4000 < v.toNat) &&
  decide (v.toNat < 0xFFF) &&
  true) = true := by decide +kernel

theorem hyp_MeridianParameters_10 :
  (
  let who : Agent := .sec 0 .m none
  let v : BitVec 30 := 500
  let s : State := State.reset
  let s : State := s.set Reg.MER_STATUS_RUNNING 0
  decide (Passes s who Reg.MER_PHASE_NS_addr true) &&
  decide (s.running = false) &&
  decide (s.get Reg.MER_HYPER_TICKS_TICKS * s.get Reg.MER_TICK_PERIOD_PERIOD_US ≤ 1000000) &&
  decide (v.toNat < s.get Reg.MER_TICK_PERIOD_PERIOD_US * s.get Reg.MER_HYPER_TICKS_TICKS * 1000) &&
  true) = true := by decide +kernel

theorem hyp_MeridianParameters_11 :
  (
  let who : Agent := .sec 0 .m none
  let v : BitVec 30 := 500
  let s : State := State.reset
  let s : State := s.set Reg.MER_STATUS_RUNNING 1
  decide (Passes s who Reg.MER_PHASE_NS_addr true) &&
  decide (s.running = true) &&
  decide (s.get Reg.MER_HYPER_TICKS_TICKS * s.get Reg.MER_TICK_PERIOD_PERIOD_US ≤ 1000000) &&
  decide (v.toNat < s.get Reg.MER_TICK_PERIOD_PERIOD_US * s.get Reg.MER_HYPER_TICKS_TICKS * 1000) &&
  true) = true := by decide +kernel

theorem hyp_MeridianParameters_12 :
  (
  let who : Agent := .sec 0 .m none
  let v : BitVec 30 := 1000000000
  let s : State := State.reset
  decide (Passes s who Reg.MER_PHASE_NS_addr true) &&
  decide (s.get Reg.MER_TICK_PERIOD_PERIOD_US * s.get Reg.MER_HYPER_TICKS_TICKS * 1000 ≤ v.toNat) &&
  true) = true := by decide +kernel

theorem hyp_MeridianParameters_13 :
  (
  let who : Agent := .sec 0 .m none
  let e : Fin 256 := 0
  let w : Fin 4 := 0
  let s : State := State.reset
  let s : State := s.set Reg.MER_STATUS_SWAP_PENDING 0
  decide (Passes s who (0x10101000 + 16 * e.val + 4 * w.val) true) &&
  decide (s.bit Reg.MER_STATUS_SWAP_PENDING = false) &&
  true) = true := by decide +kernel

theorem hyp_MeridianParameters_14 :
  (
  let who : Agent := .sec 0 .m none
  let e : Fin 256 := 0
  let w : Fin 4 := 0
  let s : State := State.reset
  let s : State := s.set Reg.MER_STATUS_SWAP_PENDING 1
  decide (Passes s who (0x10101000 + 16 * e.val + 4 * w.val) true) &&
  decide (s.bit Reg.MER_STATUS_SWAP_PENDING = true) &&
  true) = true := by decide +kernel

theorem hyp_MeridianParameters_15 :
  (
  let who : Agent := .sec 0 .m none
  let p : Fin 32 := 0
  let v : BitVec 12 := 7
  let s : State := State.reset
  let s : State := s.set Reg.MER_STATUS_SWAP_PENDING 0
  decide (Passes s who (Reg.MER_PIPE_FRAME_addr p.val) true) &&
  decide (s.bit Reg.MER_STATUS_SWAP_PENDING = false) &&
  decide (v.toNat ≤ 4000) &&
  true) = true := by decide +kernel

theorem hyp_MeridianParameters_16 :
  (
  let who : Agent := .sec 0 .m none
  let p : Fin 32 := 0
  let v : BitVec 12 := 0
  let s : State := State.reset
  let s : State := s.set Reg.MER_STATUS_SWAP_PENDING 1
  decide (Passes s who (Reg.MER_PIPE_FRAME_addr p.val) true) &&
  decide (s.bit Reg.MER_STATUS_SWAP_PENDING = true) &&
  decide (v.toNat ≤ 4000) &&
  true) = true := by decide +kernel

theorem hyp_MeridianParameters_17 :
  (
  let who : Agent := .sec 0 .m none
  let p : Fin 32 := 0
  let v : BitVec 12 := 0xFFE
  let s : State := State.reset
  decide (Passes s who (Reg.MER_PIPE_FRAME_addr p.val) true) &&
  decide (4000 < v.toNat) &&
  true) = true := by decide +kernel

theorem hyp_TicksAndWindows_1 :
  (
  let s : State := State.reset
  let s : State := s.set Reg.MER_STATUS_RUNNING 1
  let s : State := { s with mer.gap := false }
  let s : State := { s with mer.windows := [] }
  let s : State := { s with mer.frames := [] }
  let s : State := { s with mer := { s.mer with gap := false, windows := [], frames := [], lastTick := some s.datum } }
  let s : State := { s with mer := { s.mer with lastTick := some (s.nextInstant s.hyperNs s.datum) } }
  decide (s.running = true) &&
  decide (s.mer.gap = false) &&
  decide (s.mer.windows = []) &&
  decide (s.mer.frames = []) &&
  decide (s.isBoundary s.tickDue = false) &&
  true) = true := by decide +kernel

theorem hyp_TicksAndWindows_2 :
  (
  let s : State := State.reset
  let s : State := s.set Reg.MER_STATUS_RUNNING 1
  let s : State := { s with mer.gap := false }
  let s : State := { s with mer.windows := [] }
  let s : State := { s with mer.frames := [] }
  let s : State := s.set Reg.MER_STATUS_SWAP_PENDING 0
  let s : State := s.set Reg.MER_CTRL_STOP 0
  let s : State := s.set Reg.MER_DATUM_CTRL_REBASE 0
  let s : State := { s with servo.acqPending := false }
  let s : State := { s with mer := { s.mer with gap := false, windows := [], frames := [], lastTick := none }, servo := { s.servo with acqPending := false } }
  let s : State := { s with mer := { s.mer with lastTick := some (s.nextInstant s.hyperNs s.datum - s.periodNs) } }
  let s : State := s.set Reg.MER_PHASE_NS_PHASE 0
  let s : State := { s with datum := 0 }
  let s : State := { s with mer := { s.mer with lastTick := some (s.hyperNs - s.periodNs) } }
  decide (s.running = true) &&
  decide (s.mer.gap = false) &&
  decide (s.mer.windows = []) &&
  decide (s.mer.frames = []) &&
  decide (s.isBoundary s.tickDue = true) &&
  decide (s.bit Reg.MER_STATUS_SWAP_PENDING = false) &&
  decide (s.bit Reg.MER_CTRL_STOP = false) &&
  decide (s.bit Reg.MER_DATUM_CTRL_REBASE = false) &&
  decide (s.servo.acqPending = false) &&
  decide ((∀ k : Fin 3, s.updState k.val ≠ 3)) &&
  true) = true := by decide +kernel

theorem hyp_TicksAndWindows_3 :
  (
  let s : State := State.reset
  let s : State := s.set Reg.MER_STATUS_RUNNING 0
  let s : State := s.set Reg.MER_CTRL_START 0
  let s : State := { s with mer.windows := [] }
  let s : State := { s with mer := { s.mer with windows := [] } }
  decide (s.running = false) &&
  decide (s.bit Reg.MER_CTRL_START = false) &&
  decide (s.mer.windows = []) &&
  decide ((∀ k : Fin 3, s.updState k.val ≠ 3)) &&
  true) = true := by decide +kernel

theorem hyp_TicksAndWindows_4 :
  (
  let s : State := State.reset
  let s : State := s.set Reg.MER_STATUS_RUNNING 0
  let s : State := s.set Reg.MER_CTRL_START 1
  let s : State := { s with servo.startWait := none }
  let s : State := { s with mer.windows := [] }
  let s : State := { s with mer := { s.mer with windows := [] }, servo := { s.servo with startWait := none } }
  decide (s.running = false) &&
  decide (s.bit Reg.MER_CTRL_START = true) &&
  decide (s.servo.startWait = none) &&
  decide (s.mer.windows = []) &&
  decide ((∀ k : Fin 3, s.updState k.val ≠ 3)) &&
  true) = true := by decide +kernel

theorem hyp_TicksAndWindows_5 :
  (
  let e : Fin 256 := 0
  let s : State := State.reset
  let s : State := { s with mer.windows := [] }
  let s : State := { s with mer := { s.mer with gap := false, windows := [], active := KMap.put (KMap.put [] (4 * e.val + 1) 100) (4 * e.val + 3) (2 ^ 31 + 3) } }
  let s : State := s.set Reg.MER_PHASE_NS_PHASE 0
  let s : State := s.set Reg.MER_STATUS_RUNNING 1
  let s : State := { s with datum := 0 }
  let s : State := (List.range 264).foldl (fun s k => s.set (qEn k) 0) s
  let s : State := (List.range 8).foldl (fun s k => s.set (Reg.TRV_CX_ATTR_EN k) 0) s
  let s : State := (List.range 32).foldl (fun s k => s.set (Reg.GFX_CX_ATTR_EN k) 0) s
  let s : State := (List.range 64).foldl (fun s k => s.set (Reg.MED_CX_ATTR_EN k) 0) s
  decide (s.mayOpen e.val = true) &&
  decide (s.mer.windows = []) &&
  let en := bankEntry s.mer.active e.val
  decide (en.resource ≠ 5) &&
  decide (en.resource ≠ 6) &&
  decide ((∀ k : Fin 264, s.bit (qEn k.val) = false)) &&
  decide ((∀ k : Fin 8, s.bit (Reg.TRV_CX_ATTR_EN k.val) = false)) &&
  decide ((∀ k : Fin 32, s.bit (Reg.GFX_CX_ATTR_EN k.val) = false)) &&
  decide ((∀ k : Fin 64, s.bit (Reg.MED_CX_ATTR_EN k.val) = false)) &&
  true) = true := by decide +kernel

theorem hyp_TicksAndWindows_6 :
  (
  let e : Fin 256 := 0
  let s : State := State.reset
  let s : State := s.set Reg.MER_STATUS_RUNNING 0
  decide (s.mayOpen e.val = false) &&
  true) = true := by decide +kernel

theorem hyp_TicksAndWindows_7 :
  (
  let e : Fin 256 := 0
  let s : State := State.reset
  let s : State := { s with eng.acks := [] }
  let s : State := { s with mer := { s.mer with windows := [(e.val, ⟨0, 1000000, 0, false, false⟩)] } }
  let s : State := { s with eng := { s.eng with jobs := [], acks := [], killAt := [] }, trv := { s.trv with plan := none }, gfx := {}, med := {} }
  Option.elim (β := Bool) (s.openWindows.find? (fun w => w.index = e.val)) false fun w =>
  decide (s.busyIn e.val = false) &&
  decide (w.entry.resource ≠ 5 ∨ w.entry.benchmark = true) &&
  decide (s.killedAtClose w = false) &&
  decide (s.eng.acks = []) &&
  true) = true := by decide +kernel

theorem hyp_TicksAndWindows_8 :
  (
  let e : Fin 256 := 0
  let s : State := State.reset
  let s : State := { s with eng.acks := [] }
  let s : State := { s with mer := { s.mer with windows := [(e.val, ⟨0, 1000000, 0, false, false⟩)], active := [(4 * e.val + 3, 2 ^ 31 + 5 * 2 ^ 28)] } }
  let s : State := { s with eng := { s.eng with jobs := [], acks := [], killAt := [] }, trv := { s.trv with plan := none }, gfx := {}, med := {} }
  Option.elim (β := Bool) (s.openWindows.find? (fun w => w.index = e.val)) false fun w =>
  decide (s.busyIn e.val = false) &&
  decide (w.entry.resource = 5) &&
  decide (w.entry.benchmark = false) &&
  decide (s.killedAtClose w = false) &&
  decide (s.eng.acks = []) &&
  true) = true := by decide +kernel

theorem hyp_TicksAndWindows_9 :
  (
  let e : Fin 256 := 0
  let s : State := State.reset
  let s : State := { s with mer := { s.mer with windows := [] } }
  decide (s.openWindows.find? (fun w => w.index = e.val) = none) &&
  true) = true := by decide +kernel

theorem hyp_UnassignedOffsetsAndAddresses_1 :
  (
  let who : Agent := .sec 0 .m none
  let addr : BitVec 48 := 0x10000FF0
  let s : State := State.reset
  decide (Passes s who addr.toNat true) &&
  decide (inBlock addr.toNat = true) &&
  decide (inTable addr.toNat = false) &&
  decide (findReg (blockTable addr.toNat) addr.toNat = none) &&
  true) = true := by decide +kernel

theorem hyp_UnassignedOffsetsAndAddresses_2 :
  (
  let who : Agent := .sec 0 .m none
  let addr : BitVec 48 := 0x10000FF0
  let s : State := State.reset
  decide (Passes s who addr.toNat false) &&
  decide (inBlock addr.toNat = true) &&
  decide (inTable addr.toNat = false) &&
  decide (findReg (blockTable addr.toNat) addr.toNat = none) &&
  true) = true := by decide +kernel

theorem hyp_UnassignedOffsetsAndAddresses_3 :
  (
  let who : Agent := .sec 0 .m none
  let addr : BitVec 48 := 0x10000FF0
  let s : State := State.reset
  decide (Passes s who addr.toNat false) &&
  decide (inBlock addr.toNat = true) &&
  decide (inTable addr.toNat = false) &&
  decide (findReg (blockTable addr.toNat) addr.toNat = none) &&
  true) = true := by decide +kernel

theorem hyp_UnassignedOffsetsAndAddresses_4 :
  (
  let addr : BitVec 48 := 0x10F00000
  let s : State := State.reset
  decide (0x10000000 ≤ addr.toNat) &&
  decide (addr.toNat < 0x20000000) &&
  decide (inBlock addr.toNat = false) &&
  true) = true := by decide +kernel

theorem hyp_UnassignedOffsetsAndAddresses_5 :
  (
  let addr : BitVec 48 := 0x10F00000
  let s : State := State.reset
  decide (0x10000000 ≤ addr.toNat) &&
  decide (addr.toNat < 0x20000000) &&
  decide (inBlock addr.toNat = false) &&
  true) = true := by decide +kernel

theorem hyp_RegisterWidthAndAlignment_1 :
  (
  let who : Agent := .sec 0 .m none
  let addr : BitVec 48 := 0x10400002
  let width : Nat := 4
  let s : State := State.reset
  decide (Passes s who addr.toNat true) &&
  decide (inBlock addr.toNat = true) &&
  decide (inTable addr.toNat = false) &&
  Option.elim (β := Bool) (findReg (blockTable addr.toNat) addr.toNat) false fun h =>
  decide (h.reg.wide = false) &&
  decide (¬ (width = 4 ∧ addr.toNat = h.addr)) &&
  true) = true := by decide +kernel

theorem hyp_RegisterWidthAndAlignment_2 :
  (
  let who : Agent := .sec 0 .m none
  let addr : BitVec 48 := 0x10101002
  let width : Nat := 4
  let s : State := State.reset
  decide (Passes s who addr.toNat true) &&
  decide (inTable addr.toNat = true) &&
  decide (¬ (width = 4 ∧ addr.toNat % 4 = 0)) &&
  true) = true := by decide +kernel

theorem hyp_RegisterWidthAndAlignment_3 :
  (
  let who : Agent := .sec 0 .m none
  let addr : BitVec 48 := 0x10400002
  let width : Nat := 4
  let s : State := State.reset
  decide (Passes s who addr.toNat false) &&
  decide (inBlock addr.toNat = true) &&
  decide (inTable addr.toNat = false) &&
  Option.elim (β := Bool) (findReg (blockTable addr.toNat) addr.toNat) false fun h =>
  decide (h.reg.wide = false) &&
  decide ((h.reg.fields.any (fun f => f.lo = 63)) = false) &&
  decide (¬ (width = 4 ∧ addr.toNat = h.addr)) &&
  true) = true := by decide +kernel

theorem hyp_RegisterWidthAndAlignment_4 :
  (
  let who : Agent := .sec 0 .m none
  let addr : BitVec 48 := 0x10400000
  let s : State := State.reset
  decide (Passes s who addr.toNat false) &&
  decide (0x10400000 ≤ addr.toNat) &&
  decide (addr.toNat < 0x10500000) &&
  Option.elim (β := Bool) (findReg (blockTable addr.toNat) addr.toNat) false fun h =>
  decide (h.reg.wide = false) &&
  decide (addr.toNat = h.addr) &&
  true) = true := by decide +kernel

theorem hyp_RegisterAccessCodes_1 :
  (
  let who : Agent := .sec 0 .m none
  let addr : BitVec 48 := 0x10400000
  let s : State := State.reset
  decide (Passes s who addr.toNat true) &&
  decide (0x10400000 ≤ addr.toNat) &&
  decide (addr.toNat < 0x10500000) &&
  Option.elim (β := Bool) (findReg (blockTable addr.toNat) addr.toNat) false fun h =>
  decide (h.reg.wide = false) &&
  decide (addr.toNat = h.addr) &&
  true) = true := by decide +kernel

theorem hyp_RegisterAccessCodes_2 :
  (
  let who : Agent := .sec 0 .m none
  let addr : BitVec 48 := 0x1C001008
  let s : State := State.reset
  decide (Passes s who addr.toNat true) &&
  decide (inBlock addr.toNat = true) &&
  decide (inTable addr.toNat = false) &&
  Option.elim (β := Bool) (findReg (blockTable addr.toNat) addr.toNat) false fun h =>
  decide (h.reg.wide = true) &&
  decide (addr.toNat = h.addr) &&
  true) = true := by decide +kernel

theorem hyp_RegisterAccessCodes_3 :
  (
  let who : Agent := .sec 0 .m none
  let addr : BitVec 48 := 0x10400000
  let s : State := State.reset
  decide (Passes s who addr.toNat false) &&
  decide (0x10400000 ≤ addr.toNat) &&
  decide (addr.toNat < 0x10500000) &&
  Option.elim (β := Bool) (findReg (blockTable addr.toNat) addr.toNat) false fun h =>
  decide (h.reg.wide = false) &&
  decide (addr.toNat = h.addr) &&
  decide ((h.reg.fields.any (fun f => f.acc = .rc)) = false) &&
  true) = true := by decide +kernel

theorem hyp_RegisterAccessCodes_4 :
  (
  let who : Agent := .sec 0 .m none
  let addr : BitVec 48 := 0x1C001008
  let s : State := State.reset
  decide (Passes s who addr.toNat false) &&
  decide (0x1C000000 ≤ addr.toNat) &&
  decide (addr.toNat < 0x1D000000) &&
  Option.elim (β := Bool) (findReg (blockTable addr.toNat) addr.toNat) false fun h =>
  decide (h.reg.wide = true) &&
  decide (addr.toNat = h.addr) &&
  decide ((h.reg.fields.any (fun f => f.acc = .rc)) = false) &&
  true) = true := by decide +kernel

theorem hyp_RegisterAccessCodes_5 :
  (
  let who : Agent := .sec 0 .m none
  let addr : BitVec 48 := 0x1300F004
  let lo : Nat := 0
  let s : State := State.reset
  decide (Passes s who addr.toNat false) &&
  decide (0x13000000 ≤ addr.toNat) &&
  decide (addr.toNat < 0x14000000) &&
  Option.elim (β := Bool) (findReg (blockTable addr.toNat) addr.toNat) false fun h =>
  decide (h.reg.wide = false) &&
  decide (addr.toNat = h.addr) &&
  decide ((h.reg.fields.any (fun f => f.acc = .rc && f.lo = lo)) = true) &&
  true) = true := by decide +kernel

theorem hyp_FabricAccesses_1 :
  (
  let who : Agent := .sec 0 .m none
  let addr : BitVec 48 := 0x1000000000
  let n : Nat := 4
  let s : State := State.reset
  let s : State := { s with unpub := [] }
  let s : State := { s with unpub := [], opPools := [] }
  let s : State := (List.range 12).foldl (fun s g => (s.set (Reg.DDR_CG_CTRL_OWNER g) 0).set (Reg.DDR_CG_CTRL_INLINE_ECC g) 0) s
  decide (addr.toNat % 4096 + n ≤ 4096) &&
  decide (s.debugMay who = true) &&
  Option.elim (β := Bool) (match s.target addr.toNat with | .dram g c => some (g, c) | _ => none) false fun (g, c) =>
  decide ((cadDecide s c (s.attrOf who) false addr.toNat).1 = true) &&
  decide (groupAllows s g (s.attrOf who) false = true) &&
  decide (s.bit (Reg.DDR_CG_CTRL_INLINE_ECC g) = false) &&
  decide ((s.opPool (dramPool c (s.attrOf who).partition)).waiting = []) &&
  decide (s.poolRoom (dramPool c (s.attrOf who).partition) = true) &&
  decide (s.unpub = []) &&
  true) = true := by decide +kernel

theorem hyp_FabricAccesses_2 :
  (
  let who : Agent := .sec 0 .m none
  let addr : BitVec 48 := 0x1000000000
  let d : List Byte := [1, 2, 3]
  let s : State := State.reset
  let s : State := { s with opPools := [] }
  let s : State := (List.range 12).foldl (fun s g => (s.set (Reg.DDR_CG_CTRL_OWNER g) 0).set (Reg.DDR_CG_CTRL_INLINE_ECC g) 0) s
  decide (addr.toNat % 4096 + d.length ≤ 4096) &&
  decide (s.debugMay who = true) &&
  Option.elim (β := Bool) (match s.target addr.toNat with | .dram g c => some (g, c) | _ => none) false fun (g, c) =>
  decide ((cadDecide s c (s.attrOf who) true addr.toNat).1 = true) &&
  decide (groupAllows s g (s.attrOf who) true = true) &&
  decide ((s.opPool (dramPool c (s.attrOf who).partition)).waiting = []) &&
  decide (s.poolRoom (dramPool c (s.attrOf who).partition) = true) &&
  true) = true := by decide +kernel

theorem hyp_FabricAccesses_3 :
  (
  let who : Agent := .work .fabric false 3
  let addr : BitVec 48 := 0x1000000000
  let n : Nat := 4
  let s : State := State.reset
  let s : State := { s with opPools := [] }
  let s : State := (List.range 12).foldl (fun s g => (s.set (Reg.DDR_CG_CTRL_OWNER g) 0).set (Reg.DDR_CG_CTRL_INLINE_ECC g) 0) s
  decide (addr.toNat % 4096 + n ≤ 4096) &&
  decide (s.debugMay who = true) &&
  Option.elim (β := Bool) (match s.target addr.toNat with | .dram g c => some (g, c) | _ => none) false fun (g, c) =>
  decide ((cadDecide s c (s.attrOf who) false addr.toNat).1 = false) &&
  decide (s.bit (Reg.CAD_CTRL_TEST c) = false) &&
  decide ((s.opPool (dramPool c (s.attrOf who).partition)).waiting = []) &&
  decide (s.poolRoom (dramPool c (s.attrOf who).partition) = true) &&
  true) = true := by decide +kernel

theorem hyp_FabricAccesses_4 :
  (
  let who : Agent := .sec 0 .m none
  let addr : BitVec 48 := 0x60000000
  let n : Nat := 4
  let s : State := State.reset
  let s : State := { s with opPools := [] }
  decide (addr.toNat % 4096 + n ≤ 4096) &&
  decide (s.target addr.toNat = .hole) &&
  decide ((s.opPool (initiatorPool who)).waiting = []) &&
  decide (s.poolRoom (initiatorPool who) = true) &&
  true) = true := by decide +kernel

theorem hyp_FabricAccesses_5 :
  (
  let who : Agent := .sec 0 .m none
  let addr : BitVec 48 := 0x60000000
  let n : Nat := 4
  let ecc : EccEvent := .none
  let cached : Bool := true
  let s : State := State.reset
  let s : State := s.setOpPool (initiatorPool who) { used := 20000, waiting := [] }
  decide (s.target addr.toNat = .hole) &&
  decide (s.poolRoom (initiatorPool who) = false) &&
  decide ((agentQuad who).all (fun q => !s.cacheHit q ⟨who, s.attrOf who, addr.toNat, .read n, ecc, cached⟩) = true) &&
  true) = true := by decide +kernel

theorem hyp_FabricAccesses_6 :
  (
  let pool : Pool := .pcie
  let s : State := State.reset
  let s : State := s.setOpPool (poolNumber pool) { used := 3, waiting := [] }
  decide ((s.opPool (poolNumber pool)).used ≠ 0) &&
  decide ((poolMates (poolNumber pool)).all (fun k => (s.opPool k).waiting.isEmpty) = true) &&
  decide (pool ≠ .pcieInbound ∨ s.brg.inbound = []) &&
  true) = true := by decide +kernel

theorem hyp_FabricAccesses_7 :
  (
  let pool : Pool := .pcie
  let s : State := State.reset
  let s : State := s.setOpPool (poolNumber pool) { used := 0, waiting := [] }
  decide ((s.opPool (poolNumber pool)).used = 0) &&
  true) = true := by decide +kernel

theorem hyp_FabricAccesses_8 :
  (
  let s : State := State.reset
  let s : State := s.setOpPool 200 { used := 16384, waiting := [⟨.sec 0 .m none, ⟨true, 0⟩, 0x60000000, .read 4, .none, false⟩] }
  Option.elim (β := Bool) (uncons' ((s.opPool 200).waiting)) false fun (h, rest) =>
  decide (s.target h.addr = .hole) &&
  decide (h.addr % 4096 + opLen h.acc ≤ 4096) &&
  decide ((match h.acc with | .read _ => true | .write p _ => !p) = true) &&
  decide ((s.opPool 200).used ≠ 0) &&
  decide ((s.opPool 200).used ≤ 16384) &&
  true) = true := by decide +kernel

theorem hyp_FabricAccesses_9 :
  (
  let c : Fin 16 := 0
  let s : State := State.reset
  let s : State := s.set (Reg.TEN_CL_MEMSTAT_INIT_DONE c.val) 0
  let s : State := { s with opPools := [] }
  let s : State := s.set (Reg.TEN_CL_MEMSTAT_INIT_DONE c.val) 0
  decide (s.clusterUp c.val = true) &&
  decide (s.bit (Reg.TEN_CL_MEMSTAT_INIT_DONE c.val) = false) &&
  decide ((s.opPool (initHold c.val)).waiting = []) &&
  true) = true := by decide +kernel

theorem hyp_FabricAccesses_10 :
  (
  let c : Fin 16 := 0
  let s : State := State.reset
  let s : State := s.set (Reg.TEN_CL_MEMSTAT_INIT_DONE c.val) 1
  let s : State := s.set (Reg.TEN_CL_MEMSTAT_INIT_DONE c.val) 1
  decide (s.bit (Reg.TEN_CL_MEMSTAT_INIT_DONE c.val) = true) &&
  true) = true := by decide +kernel

theorem hyp_FabricAccesses_11 :
  (
  let c : Fin 16 := 0
  let s : State := State.reset
  let s : State := s.set (Reg.TEN_CL_MEMSTAT_INIT_DONE c.val) 0
  let s : State := { s with mer.windows := [] }
  let s : State := { s with opPools := [] }
  let s : State := { s with mer := { s.mer with windows := [] } }
  let s : State := s.set (Reg.TEN_CL_MEMSTAT_INIT_DONE c.val) 0
  decide (s.clusterUp c.val = true) &&
  decide (s.bit (Reg.TEN_CL_MEMSTAT_INIT_DONE c.val) = false) &&
  decide ((s.opPool (initHold c.val)).waiting = []) &&
  decide (s.mer.windows = []) &&
  true) = true := by decide +kernel

theorem hyp_FabricAccesses_12 :
  (
  let who : Agent := .sec 0 .m none
  let addr : BitVec 48 := 0x1000000000
  let n : Nat := 4
  let ecc : EccEvent := .none
  let s : State := State.reset
  let s : State := { s with unpub := [] }
  let s : State := { s with unpub := [], opPools := [], cache := [] }
  let s : State := (List.range 12).foldl (fun s g => (s.set (Reg.DDR_CG_CTRL_OWNER g) 0).set (Reg.DDR_CG_CTRL_INLINE_ECC g) 0) s
  decide (addr.toNat % 4096 + n ≤ 4096) &&
  Option.elim (β := Bool) (agentQuad who) false fun q =>
  let h := (⟨who, s.attrOf who, addr.toNat, .read n, ecc, true⟩ : HeldAccess)
  decide (s.cacheHit q h = false) &&
  Option.elim (β := Bool) (match s.target addr.toNat with | .dram g c => some (g, c) | _ => none) false fun (g, c) =>
  decide ((cadDecide s c (s.attrOf who) false addr.toNat).1 = true) &&
  decide (groupAllows s g (s.attrOf who) false = true) &&
  decide (s.bit (Reg.DDR_CG_CTRL_INLINE_ECC g) = false) &&
  decide ((s.opPool (dramPool c (s.attrOf who).partition)).waiting = []) &&
  decide (s.poolRoom (dramPool c (s.attrOf who).partition) = true) &&
  decide (s.unpub = []) &&
  true) = true := by decide +kernel

theorem hyp_FabricAccesses_13 :
  (
  let who : Agent := .sec 0 .m none
  let addr : BitVec 48 := 0x1000000000
  let n : Nat := 4
  let ecc : EccEvent := .none
  let s : State := State.reset
  let s : State := { s with unpub := [] }
  let s : State := { s with unpub := [], cache := [⟨4, 0x40000000, ⟨true, 0⟩⟩] }
  Option.elim (β := Bool) (agentQuad who) false fun q =>
  decide (s.cacheHit q ⟨who, s.attrOf who, addr.toNat, .read n, ecc, true⟩ = true) &&
  decide (s.unpub = []) &&
  true) = true := by decide +kernel

theorem hyp_SramWindowAccesses_1 :
  (
  let who : Agent := .sec 0 .m none
  let addr : BitVec 48 := 0x40000001
  let n : Nat := 2
  let s : State := State.reset
  let s : State := { s with opPools := [] }
  let s : State := (List.range 16).foldl (fun s c => s.set (Reg.TEN_CL_MEMSTAT_INIT_DONE c) 1) s
  decide (addr.toNat % 4096 + n ≤ 4096) &&
  decide (s.debugMay who = true) &&
  decide ((s.opPool (initiatorPool who)).waiting = []) &&
  decide (s.poolRoom (initiatorPool who) = true) &&
  Option.elim (β := Bool) (match s.target addr.toNat with | .sram k => some k | _ => none) false fun k =>
  decide (k < 40) &&
  decide (s.bit (Reg.TEN_CL_MEMSTAT_INIT_DONE (k - 24)) = true) &&
  decide ((cadDecide s k (s.attrOf who) false addr.toNat).1 = true) &&
  decide (¬ ((n = 1 ∨ n = 2 ∨ n = 4 ∨ n = 8) ∧ addr.toNat % n = 0)) &&
  true) = true := by decide +kernel

theorem hyp_SramWindowAccesses_2 :
  (
  let who : Agent := .sec 0 .m none
  let addr : BitVec 48 := 0x40000001
  let d : List Byte := [1, 2]
  let s : State := State.reset
  let s : State := { s with opPools := [] }
  let s : State := (List.range 16).foldl (fun s c => s.set (Reg.TEN_CL_MEMSTAT_INIT_DONE c) 1) s
  decide (addr.toNat % 4096 + d.length ≤ 4096) &&
  decide (s.debugMay who = true) &&
  decide ((s.opPool (initiatorPool who)).waiting = []) &&
  decide (s.poolRoom (initiatorPool who) = true) &&
  Option.elim (β := Bool) (match s.target addr.toNat with | .sram k => some k | _ => none) false fun k =>
  decide (k < 40) &&
  decide (s.bit (Reg.TEN_CL_MEMSTAT_INIT_DONE (k - 24)) = true) &&
  decide ((cadDecide s k (s.attrOf who) true addr.toNat).1 = true) &&
  decide (¬ ((d.length = 1 ∨ d.length = 2 ∨ d.length = 4 ∨ d.length = 8) ∧ addr.toNat % d.length = 0)) &&
  true) = true := by decide +kernel

theorem hyp_SramWindowAccesses_3 :
  (
  let who : Agent := .sec 0 .m none
  let addr : BitVec 48 := 0x40000008
  let n : Nat := 8
  let s : State := State.reset
  let s : State := { s with unpub := [] }
  let s : State := { s with unpub := [] }
  let s : State := { s with opPools := [] }
  let s : State := (List.range 16).foldl (fun s c => s.set (Reg.TEN_CL_MEMSTAT_INIT_DONE c) 1) s
  decide (addr.toNat % 4096 + n ≤ 4096) &&
  decide (s.debugMay who = true) &&
  decide ((s.opPool (initiatorPool who)).waiting = []) &&
  decide (s.poolRoom (initiatorPool who) = true) &&
  Option.elim (β := Bool) (match s.target addr.toNat with | .sram k => some k | _ => none) false fun k =>
  decide (k < 40) &&
  decide (s.bit (Reg.TEN_CL_MEMSTAT_INIT_DONE (k - 24)) = true) &&
  decide ((cadDecide s k (s.attrOf who) false addr.toNat).1 = true) &&
  decide (n = 1 ∨ n = 2 ∨ n = 4 ∨ n = 8) &&
  decide (addr.toNat % n = 0) &&
  decide (s.inKvArea addr.toNat = false) &&
  decide (s.unpub = []) &&
  true) = true := by decide +kernel

theorem hyp_SramWindowAccesses_4 :
  (
  let who : Agent := .sec 0 .m none
  let addr : BitVec 48 := 0x40000008
  let d : List Byte := [1, 2]
  let ecc : EccEvent := .none
  let s : State := State.reset
  let s : State := { s with opPools := [] }
  let s : State := (List.range 16).foldl (fun s c => s.set (Reg.TEN_CL_MEMSTAT_INIT_DONE c) 1) s
  decide (addr.toNat % 4096 + d.length ≤ 4096) &&
  decide (s.debugMay who = true) &&
  decide ((s.opPool (initiatorPool who)).waiting = []) &&
  decide (s.poolRoom (initiatorPool who) = true) &&
  Option.elim (β := Bool) (match s.target addr.toNat with | .sram k => some k | _ => none) false fun k =>
  decide (k < 40) &&
  decide (s.bit (Reg.TEN_CL_MEMSTAT_INIT_DONE (k - 24)) = true) &&
  decide ((cadDecide s k (s.attrOf who) true addr.toNat).1 = true) &&
  decide (d.length = 1 ∨ d.length = 2 ∨ d.length = 4 ∨ d.length = 8) &&
  decide (addr.toNat % d.length = 0) &&
  decide (s.inKvArea addr.toNat = false) &&
  decide (ecc = .none ∨ d.length = 8) &&
  true) = true := by decide +kernel

theorem hyp_SramWindowAccesses_5 :
  (
  let who : Agent := .sec 0 .m none
  let addr : BitVec 48 := 0x40000008
  let d : List Byte := [1, 2]
  let s : State := State.reset
  let s : State := { s with opPools := [] }
  let s : State := (List.range 16).foldl (fun s c => s.set (Reg.TEN_CL_MEMSTAT_INIT_DONE c) 1) s
  decide (addr.toNat % 4096 + d.length ≤ 4096) &&
  decide (s.debugMay who = true) &&
  decide ((s.opPool (initiatorPool who)).waiting = []) &&
  decide (s.poolRoom (initiatorPool who) = true) &&
  Option.elim (β := Bool) (match s.target addr.toNat with | .sram k => some k | _ => none) false fun k =>
  decide (k < 40) &&
  decide (s.bit (Reg.TEN_CL_MEMSTAT_INIT_DONE (k - 24)) = true) &&
  decide ((cadDecide s k (s.attrOf who) true addr.toNat).1 = true) &&
  decide (d.length = 1 ∨ d.length = 2 ∨ d.length = 4) &&
  decide (addr.toNat % d.length = 0) &&
  decide (s.inKvArea addr.toNat = false) &&
  true) = true := by decide +kernel

theorem hyp_DoorbellWrites_1 :
  (
  let who : Agent := .work .fabric false 3
  let ring : Ring := .tensor 0
  let s : State := State.reset
  let s : State := s.set (Reg.CAD_RG_CTRL_EN 62 0) 1
  let s : State := s.set (Reg.CAD_RG_LIMIT_LIMIT 62 0) (2 ^ 36 - 1)
  let s : State := s.set (Reg.CAD_RG_PARTS_PARTS 62 0) (2 ^ 64 - 1)
  let s : State := s.set (Reg.CAD_RG_CTRL_NW 62 0) 1
  let d := s.door ring
  decide (Passes s who d.addr true) &&
  decide (d.owner ≠ some (s.attrOf who)) &&
  true) = true := by decide +kernel

theorem hyp_DoorbellWrites_2 :
  (
  let who : Agent := .sec 0 .m none
  let ring : Ring := .tensor 0
  let value : BitVec 32 := 60000
  let s : State := State.reset
  let s : State := s.set (qSecureF 0) 1
  let s : State := s.set (qPartF 0) 0
  let d := s.door ring
  decide (Passes s who d.addr true) &&
  decide (d.owner = some (s.attrOf who)) &&
  decide (2 ^ d.log2 ≤ value.toNat % 2 ^ d.wptr.width) &&
  true) = true := by decide +kernel

theorem hyp_DoorbellWrites_3 :
  (
  let who : Agent := .sec 0 .m none
  let ring : Ring := .tensor 0
  let value : BitVec 32 := 5
  let s : State := State.reset
  let s : State := s.set (qSecureF 0) 1
  let s : State := s.set (qPartF 0) 0
  let s : State := s.set (qLog2 0) 3
  let s : State := s.set (qRptr 0) 3
  let s : State := s.set (qWptr 0) 1
  let d := s.door ring
  decide (Passes s who d.addr true) &&
  decide (d.owner = some (s.attrOf who)) &&
  let n := 2 ^ d.log2
  let v := value.toNat % 2 ^ d.wptr.width
  decide (v < n) &&
  decide ((s.get d.rptr + 2 * n - s.get d.wptr - 1) % n < (v + n - s.get d.wptr) % n) &&
  true) = true := by decide +kernel

theorem hyp_DoorbellWrites_4 :
  (
  let who : Agent := .sec 0 .m none
  let ring : Ring := .tensor 0
  let value : BitVec 32 := 5
  let s : State := State.reset
  let s : State := s.set (qSecureF 0) 1
  let s : State := s.set (qPartF 0) 0
  let s : State := s.set (qLog2 0) 3
  let s : State := s.set (qRptr 0) 1
  let s : State := s.set (qWptr 0) 1
  let s : State := s.set (qEn 0) 0
  let d := s.door ring
  decide (Passes s who d.addr true) &&
  decide (d.owner = some (s.attrOf who)) &&
  decide (d.en = false) &&
  let n := 2 ^ d.log2
  let v := value.toNat % 2 ^ d.wptr.width
  decide (v < n) &&
  decide ((v + n - s.get d.wptr) % n ≤ (s.get d.rptr + 2 * n - s.get d.wptr - 1) % n) &&
  true) = true := by decide +kernel

theorem hyp_DoorbellWrites_5 :
  (
  let who : Agent := .sec 0 .m none
  let ring : Ring := .tensor 0
  let value : BitVec 32 := 5
  let s : State := State.reset
  let s : State := s.set (qSecureF 0) 1
  let s : State := s.set (qPartF 0) 0
  let s : State := s.set (qLog2 0) 3
  let s : State := s.set (qRptr 0) 1
  let s : State := s.set (qWptr 0) 1
  let s : State := s.set (qEn 0) 1
  let d := s.door ring
  decide (Passes s who d.addr true) &&
  decide (d.owner = some (s.attrOf who)) &&
  decide (d.en = true) &&
  let n := 2 ^ d.log2
  let v := value.toNat % 2 ^ d.wptr.width
  decide (v < n) &&
  decide ((v + n - s.get d.wptr) % n ≤ (s.get d.rptr + 2 * n - s.get d.wptr - 1) % n) &&
  true) = true := by decide +kernel

theorem hyp_TensorArrayCommands_1 :
  (
  let eng : Engine := .tensor
  let q : Fin 256 := 0
  let s : State := State.reset
  let s : State := tinyQueue (qKey eng q.val) [1, 0x10001, 100, 0, 0x10000, 0x0FFF0002, 0, 0x3F800000, 0x10000] [tinyRec 0x1000010000 0 1 1 1 1, tinyRec 0x1000020000 0 1 1 1 1, tinyRec 0x1000030000 0 1 1 1 1] s
  let k := qKey eng q.val
  Option.elim (β := Bool) (s.job k) false fun j =>
  decide (Ready s k 0x01 false j) &&
  let d := s.desc k (s.get (qRptr k))
  Option.elim (β := Bool) ((s.recs k d).a) false fun a =>
  Option.elim (β := Bool) ((s.recs k d).b) false fun b =>
  Option.elim (β := Bool) ((s.recs k d).out) false fun o =>
  let x := (s.recs k d).aux
  decide (Reaches s k ([j.inView a, j.inView b] ++ (x.map j.inView).toList) o) &&
  true) = true := by decide +kernel

theorem hyp_TensorArrayCommands_2 :
  (
  let eng : Engine := .tensor
  let q : Fin 256 := 0
  let s : State := State.reset
  let s : State := tinyQueue (qKey eng q.val) [2, 0x10001, 100, 0, 0x10000, 0x0FFF0002, 0, 0x3F800000, 0x1111, 0, 0x10000] [tinyRec 0x1000010000 0 1 1 1 1, tinyRec 0x1000020000 0 1 1 1 1, tinyRec 0x1000030000 0 1 1 1 1] s
  let k := qKey eng q.val
  Option.elim (β := Bool) (s.job k) false fun j =>
  decide (Ready s k 0x02 false j) &&
  let d := s.desc k (s.get (qRptr k))
  Option.elim (β := Bool) ((s.recs k d).a) false fun a =>
  Option.elim (β := Bool) ((s.recs k d).b) false fun b =>
  Option.elim (β := Bool) ((s.recs k d).out) false fun o =>
  let x := (s.recs k d).aux
  decide (d.waits = false) &&
  decide (d.posts = false) &&
  decide (Reaches s k ([j.inView a, j.inView b] ++ (x.map j.inView).toList) o) &&
  true) = true := by decide +kernel

theorem hyp_TensorArrayCommands_3 :
  (
  let eng : Engine := .tensor
  let q : Fin 256 := 0
  let s : State := State.reset
  let s : State := tinyQueue (qKey eng q.val) [2, 0x10001, 100, 0, 0x10000, 0x0FFF0002, 0, 0x3F800000, 0x21111, 0, 0x10000] [tinyRec 0x1000010000 0 1 1 1 1, tinyRec 0x1000020000 0 1 1 1 1, tinyRec 0x1000030000 0 1 1 1 1] s
  let k := qKey eng q.val
  Option.elim (β := Bool) (s.job k) false fun j =>
  decide (Ready s k 0x02 false j) &&
  let d := s.desc k (s.get (qRptr k))
  Option.elim (β := Bool) ((s.recs k d).a) false fun a =>
  Option.elim (β := Bool) ((s.recs k d).b) false fun b =>
  Option.elim (β := Bool) ((s.recs k d).out) false fun o =>
  let x := (s.recs k d).aux
  decide (d.waits = true) &&
  decide (d.posts = false) &&
  decide (Reaches s k ([j.inView b] ++ (x.map j.inView).toList) o) &&
  true) = true := by decide +kernel

theorem hyp_TensorArrayCommands_4 :
  (
  let eng : Engine := .tensor
  let q : Fin 256 := 0
  let s : State := State.reset
  let s : State := tinyQueue (qKey eng q.val) [2, 0x10001, 100, 0, 0x10000, 0x0FFF0002, 0, 0x3F800000, 0x41111, 0, 0x10000] [tinyRec 0x1000010000 0 1 1 1 1, tinyRec 0x1000020000 0 1 1 1 1, tinyRec 0x1000030000 0 1 1 1 1] s
  let k := qKey eng q.val
  Option.elim (β := Bool) (s.job k) false fun j =>
  decide (Ready s k 0x02 false j) &&
  let d := s.desc k (s.get (qRptr k))
  Option.elim (β := Bool) ((s.recs k d).a) false fun a =>
  Option.elim (β := Bool) ((s.recs k d).b) false fun b =>
  Option.elim (β := Bool) ((s.recs k d).out) false fun o =>
  let x := (s.recs k d).aux
  decide (d.waits = false) &&
  decide (d.posts = true) &&
  decide (Reaches s k ([j.inView a, j.inView b] ++ (x.map j.inView).toList) o) &&
  true) = true := by decide +kernel

theorem hyp_TensorArrayCommands_5 :
  (
  let eng : Engine := .tensor
  let q : Fin 256 := 0
  let s : State := State.reset
  let s : State := tinyQueue (qKey eng q.val) [3, 0x10001, 100, 0, 0x10000, 0x0FFF0002, 0, 0x3F800000, 0x1111, 0, 0x10000] [tinyRec 0x1000010000 0 1 1 1 1, tinyRec 0x1000020000 0 1 1 1 1, tinyRec 0x1000030000 0 1 1 1 1] s
  let k := qKey eng q.val
  Option.elim (β := Bool) (s.job k) false fun j =>
  decide (Ready s k 0x03 false j) &&
  let d := s.desc k (s.get (qRptr k))
  Option.elim (β := Bool) ((s.recs k d).a) false fun a =>
  Option.elim (β := Bool) ((s.recs k d).b) false fun b =>
  Option.elim (β := Bool) ((s.recs k d).out) false fun o =>
  let x := (s.recs k d).aux
  decide (d.waits = false) &&
  decide (d.posts = false) &&
  decide (Reaches s k ([j.inView a, j.inView b] ++ (x.map j.inView).toList) o) &&
  true) = true := by decide +kernel

theorem hyp_TensorArrayCommands_6 :
  (
  let eng : Engine := .tensor
  let q : Fin 256 := 0
  let s : State := State.reset
  let s : State := tinyQueue (qKey eng q.val) [3, 0x10001, 100, 0, 0x10000, 0x0FFF0002, 0, 0x3F800000, 0x21111, 0, 0x10000] [tinyRec 0x1000010000 0 1 1 1 1, tinyRec 0x1000020000 0 1 1 1 1, tinyRec 0x1000030000 0 1 1 1 1] s
  let k := qKey eng q.val
  Option.elim (β := Bool) (s.job k) false fun j =>
  decide (Ready s k 0x03 false j) &&
  let d := s.desc k (s.get (qRptr k))
  Option.elim (β := Bool) ((s.recs k d).a) false fun a =>
  Option.elim (β := Bool) ((s.recs k d).b) false fun b =>
  Option.elim (β := Bool) ((s.recs k d).out) false fun o =>
  let x := (s.recs k d).aux
  decide (d.waits = true) &&
  decide (d.posts = false) &&
  decide (Reaches s k ([j.inView b] ++ (x.map j.inView).toList) o) &&
  true) = true := by decide +kernel

theorem hyp_TensorArrayCommands_7 :
  (
  let eng : Engine := .tensor
  let q : Fin 256 := 0
  let s : State := State.reset
  let s : State := tinyQueue (qKey eng q.val) [3, 0x10001, 100, 0, 0x10000, 0x0FFF0002, 0, 0x3F800000, 0x41111, 0, 0x10000] [tinyRec 0x1000010000 0 1 1 1 1, tinyRec 0x1000020000 0 1 1 1 1, tinyRec 0x1000030000 0 1 1 1 1] s
  let k := qKey eng q.val
  Option.elim (β := Bool) (s.job k) false fun j =>
  decide (Ready s k 0x03 false j) &&
  let d := s.desc k (s.get (qRptr k))
  Option.elim (β := Bool) ((s.recs k d).a) false fun a =>
  Option.elim (β := Bool) ((s.recs k d).b) false fun b =>
  Option.elim (β := Bool) ((s.recs k d).out) false fun o =>
  let x := (s.recs k d).aux
  decide (d.waits = false) &&
  decide (d.posts = true) &&
  decide (Reaches s k ([j.inView a, j.inView b] ++ (x.map j.inView).toList) o) &&
  true) = true := by decide +kernel

theorem hyp_TensorArrayCommands_8 :
  (
  let eng : Engine := .tensor
  let q : Fin 256 := 0
  let s : State := State.reset
  let s : State := tinyQueue (qKey eng q.val) [4, 0x10001, 100, 0, 0x0FFF0000, 0x0FFF0001, 0, 0x3F800000, 0x1111, 0, 0x10000] [tinyRec 0x1000010000 0 1 1 1 1, tinyRec 0x1000030000 0 1 1 1 1] s
  let k := qKey eng q.val
  Option.elim (β := Bool) (s.job k) false fun j =>
  decide (Ready s k 0x04 false j) &&
  let d := s.desc k (s.get (qRptr k))
  Option.elim (β := Bool) ((s.recs k d).a) false fun a =>
  Option.elim (β := Bool) ((s.recs k d).out) false fun o =>
  decide (Reaches s k [j.inView a] o) &&
  true) = true := by decide +kernel

theorem hyp_TensorElementCommands_1 :
  (
  let eng : Engine := .tensor
  let q : Fin 256 := 0
  let s : State := State.reset
  let s : State := tinyQueue (qKey eng q.val) [5, 0x10001, 100, 0, 0x0FFF0000, 0x0FFF0001, 0, 0x3F800000, 5] [tinyRec 0x1000010000 0 1 1 1 1, tinyRec 0x1000030000 0 1 1 1 1] s
  let k := qKey eng q.val
  Option.elim (β := Bool) (s.job k) false fun j =>
  decide (Ready s k 0x05 false j) &&
  let d := s.desc k (s.get (qRptr k))
  Option.elim (β := Bool) ((s.recs k d).a) false fun a =>
  let b := (s.recs k d).b
  Option.elim (β := Bool) ((s.recs k d).out) false fun o =>
  decide (Reaches s k ([j.inView a] ++ (b.map j.inView).toList) o) &&
  true) = true := by decide +kernel

theorem hyp_TensorElementCommands_2 :
  (
  let eng : Engine := .tensor
  let q : Fin 256 := 0
  let s : State := State.reset
  let s : State := tinyQueue (qKey eng q.val) [6, 0x10001, 100, 0, 0x0FFF0000, 0x0FFF0001, 0, 0, 0] [tinyRec 0x1000010000 0 2 1 1 1, tinyRec 0x1000030000 0 1 1 1 1] s
  let k := qKey eng q.val
  Option.elim (β := Bool) (s.job k) false fun j =>
  decide (Ready s k 0x06 false j) &&
  let d := s.desc k (s.get (qRptr k))
  Option.elim (β := Bool) ((s.recs k d).a) false fun a =>
  Option.elim (β := Bool) ((s.recs k d).out) false fun o =>
  decide (Reaches s k [j.inView a] o) &&
  true) = true := by decide +kernel

theorem hyp_TensorElementCommands_3 :
  (
  let eng : Engine := .tensor
  let q : Fin 256 := 0
  let s : State := State.reset
  let s : State := tinyQueue (qKey eng q.val) [7, 0x10001, 100, 0, 0x0FFF0000, 0x0FFF0001, 0, 0, 0, 0x3F800000] [tinyRec 0x1000010000 0 1 1 1 1, tinyRec 0x1000030000 0 1 1 1 1] s
  let k := qKey eng q.val
  Option.elim (β := Bool) (s.job k) false fun j =>
  decide (Ready s k 0x07 false j) &&
  let d := s.desc k (s.get (qRptr k))
  Option.elim (β := Bool) ((s.recs k d).a) false fun a =>
  Option.elim (β := Bool) ((s.recs k d).out) false fun o =>
  let x := (s.recs k d).aux
  decide (Reaches s k ([j.inView a] ++ (x.map j.inView).toList) o) &&
  true) = true := by decide +kernel

theorem hyp_TensorElementCommands_4 :
  (
  let eng : Engine := .tensor
  let q : Fin 256 := 0
  let s : State := State.reset
  let s : State := tinyQueue (qKey eng q.val) [8, 0x10001, 100, 0, 0x0FFF0000, 0x0FFF0001, 0, 0x3F800000, 0, 0x3F800000] [tinyRec 0x1000010000 0 1 1 1 1, tinyRec 0x1000030000 0 1 1 1 1] s
  let k := qKey eng q.val
  Option.elim (β := Bool) (s.job k) false fun j =>
  decide (Ready s k 0x08 false j) &&
  let d := s.desc k (s.get (qRptr k))
  Option.elim (β := Bool) ((s.recs k d).a) false fun a =>
  Option.elim (β := Bool) ((s.recs k d).out) false fun o =>
  let x := (s.recs k d).aux
  decide (Reaches s k ([j.inView a] ++ (x.map j.inView).toList) o) &&
  true) = true := by decide +kernel

theorem hyp_TensorElementCommands_5 :
  (
  let eng : Engine := .tensor
  let q : Fin 256 := 0
  let s : State := State.reset
  let s : State := tinyQueue (qKey eng q.val) [9, 0x10001, 100, 0, 0x0FFF0000, 0x00020001, 0, 0, 0] [tinyRec 0x1000010000 0 1 1 1 1, tinyRec 0x1000030000 0 1 1 1 1, tinyRec 0x1000040000 13 1 1 1 1] s
  let k := qKey eng q.val
  Option.elim (β := Bool) (s.job k) false fun j =>
  decide (Ready s k 0x09 false j) &&
  let d := s.desc k (s.get (qRptr k))
  Option.elim (β := Bool) ((s.recs k d).a) false fun a =>
  Option.elim (β := Bool) ((s.recs k d).out) false fun o =>
  Option.elim (β := Bool) ((s.recs k d).aux) false fun x =>
  decide (Reaches s k [j.inView a, j.inView x] o) &&
  true) = true := by decide +kernel

theorem hyp_TensorElementCommands_6 :
  (
  let eng : Engine := .tensor
  let q : Fin 256 := 0
  let s : State := State.reset
  let s : State := tinyQueue (qKey eng q.val) [10, 0x10001, 100, 0, 0x0FFF0000, 0x00020001, 0, 0, 0] [tinyRec 0x1000010000 0 1 1 1 1, tinyRec 0x1000030000 0 1 1 1 1, tinyRec 0x1000040000 13 1 1 1 1] s
  let k := qKey eng q.val
  Option.elim (β := Bool) (s.job k) false fun j =>
  decide (Ready s k 0x0A false j) &&
  let d := s.desc k (s.get (qRptr k))
  Option.elim (β := Bool) ((s.recs k d).a) false fun a =>
  Option.elim (β := Bool) ((s.recs k d).out) false fun o =>
  Option.elim (β := Bool) ((s.recs k d).aux) false fun x =>
  decide (Reaches s k [j.inView a, j.inView x, j.inView o] o) &&
  true) = true := by decide +kernel

theorem hyp_TensorMoveCommands_1 :
  (
  let q : Fin 256 := 0
  let s : State := State.reset
  let s : State := tinyQueue q.val [12, 0x10001, 100, 0, 0x0FFF0000, 0x0FFF0001, 0, 0, 0] [tinyRec 0x1000010000 0 1 2 2 1, tinyRec 0x1000030000 0 4 1 1 1] s
  let k := q.val
  Option.elim (β := Bool) (s.job k) false fun j =>
  decide (Ready s k 0x0C false j) &&
  let d := s.desc k (s.get (qRptr k))
  Option.elim (β := Bool) ((s.recs k d).a) false fun a =>
  Option.elim (β := Bool) ((s.recs k d).out) false fun o =>
  decide (Reaches s k [j.inView a] o) &&
  true) = true := by decide +kernel

theorem hyp_TensorMoveCommands_2 :
  (
  let q : Fin 256 := 0
  let s : State := State.reset
  let s : State := tinyQueue q.val [13, 0x10001, 100, 0, 0x0FFF0000, 0x0FFF0001, 0, 0, 0] [tinyRec 0x1000010000 0 4 1 1 1, tinyRec 0x1000030000 0 1 2 2 1] s
  let k := q.val
  Option.elim (β := Bool) (s.job k) false fun j =>
  decide (Ready s k 0x0D false j) &&
  let d := s.desc k (s.get (qRptr k))
  Option.elim (β := Bool) ((s.recs k d).a) false fun a =>
  Option.elim (β := Bool) ((s.recs k d).out) false fun o =>
  decide (Reaches s k [j.inView a] o) &&
  true) = true := by decide +kernel

theorem hyp_TensorMoveCommands_3 :
  (
  let eng : Engine := .tensor
  let q : Fin 256 := 0
  let s : State := State.reset
  let s : State := tinyQueue (qKey eng q.val) [14, 0x10001, 100, 0, 0x0FFF0000, 0x0FFF0001, 0, 0, 0] [tinyRec 0x1000010000 0 1 1 1 1, tinyRec 0x1000030000 12 1 1 1 1] s
  let k := qKey eng q.val
  Option.elim (β := Bool) (s.job k) false fun j =>
  decide (Ready s k 0x0E false j) &&
  let d := s.desc k (s.get (qRptr k))
  Option.elim (β := Bool) ((s.recs k d).a) false fun a =>
  Option.elim (β := Bool) ((s.recs k d).out) false fun o =>
  decide (d.b 8 0 = false) &&
  decide (Reaches s k [j.inView a] o) &&
  true) = true := by decide +kernel

theorem hyp_TensorMoveCommands_4 :
  (
  let eng : Engine := .tensor
  let q : Fin 256 := 0
  let s : State := State.reset
  let s : State := tinyQueue (qKey eng q.val) [14, 0x10001, 100, 0, 0x0FFF0000, 0x0FFF0001, 0, 0, 1, 64, 0, 64] [tinyRec 0x1000010000 0 1 1 1 1, tinyRec 0x1000030000 0 1 1 1 1] (s.wr 0x1000010000 [1, 2, 3])
  let k := qKey eng q.val
  Option.elim (β := Bool) (s.job k) false fun j =>
  decide (Ready s k 0x0E false j) &&
  let d := s.desc k (s.get (qRptr k))
  decide (d.b 8 0 = true) &&
  Option.elim (β := Bool) ((s.recs k d).a) false fun a =>
  Option.elim (β := Bool) ((s.recs k d).out) false fun o =>
  let src := (j.inView a).base + d.w 10
  let dst := o.outView.base + d.w 11
  decide (s.reachSpans [⟨s.qAttr k, false, src, d.w 9⟩, ⟨s.qAttr k, true, dst, d.w 9⟩] = (Code.ok, s)) &&
  true) = true := by decide +kernel

theorem hyp_AttentionAndCollectives_1 :
  (
  let q : Fin 256 := 0
  let s : State := State.reset
  let s : State := tinyQueue q.val [11, 0x10001, 100, 0, 0x0FFF0000, 0x0FFF0001, 0, 0, 0, 0x200101, 1, 0x3F800000, 0] [tinyRec 0x1000010000 0 32 1 1 1, tinyRec 0x1000030000 0 32 1 1 1, tinyRec 0x1000040000 0 32 2 1 1] s
  let s : State := { s with eng := { s.eng with rows := [(0, { state := 2, pend := 1, queue := q.val, newKv := 2, pt := [(0, (false, 0))] })], pools := [(0, { partition := 0, secure := true, fmt := 0, headsKv := 1, headDim := 32, layers := 1, ptPages := 1, pageCount := 1, base := 0x1000100000, spillPages := 0, spillBase := 0, buckets := [0], used := [0] })], steps := [(0, { queue := q.val, job := 0, number := 1, served := [0] })] } }
  let k := q.val
  Option.elim (β := Bool) (s.job k) false fun j =>
  decide (Ready s k 0x0B false j) &&
  let d := s.desc k (s.get (qRptr k))
  Option.elim (β := Bool) ((s.recs k d).a) false fun a =>
  Option.elim (β := Bool) ((s.recs k d).out) false fun o =>
  let rn := d.f 8 11 0
  let r := s.row rn
  let l := d.f 10 23 16
  Option.elim (β := Bool) (s.pool r.pool) false fun p =>
  let nk := j.inView (s.newKvRec k r)
  decide (s.reachSpans ((j.inView a).spans (s.qAttr k) false ++ nk.spans (s.qAttr k) false ++ o.outView.spans (s.qAttr k) true ++ pageSpans p r l) = (Code.ok, s)) &&
  let u := (s.appendAll p r nk l).pageStreams ⟨d, r, p, nk⟩
  true) = true := by decide +kernel

theorem hyp_AttentionAndCollectives_2 :
  (
  let q : Fin 256 := 0
  let s : State := State.reset
  let s : State := tinyQueue q.val [15, 0x10001, 100, 0, 0x0FFF0000, 0x0FFF0001, 0, 0, 0x30] [tinyRec 0x1000010000 12 1 2 1 1, tinyRec 0x1000030000 12 1 1 1 1] s
  let s : State := { s.set Reg.SYS_STRAP_PKG_ID 0 with eng := { s.eng with colls := [(0, { packages := 3, queue := q.val, partition := 0, landing := 0x1000050000, size := 4096 })], peers := [] } }
  let k := q.val
  Option.elim (β := Bool) (s.job k) false fun j =>
  decide (Ready s k 0x0F true j) &&
  let d := s.desc k (s.get (qRptr k))
  Option.elim (β := Bool) ((s.recs k d).a) false fun a =>
  Option.elim (β := Bool) ((s.recs k d).out) false fun o =>
  Option.elim (β := Bool) (s.coll d.collGroup) false fun g =>
  decide (s.reachSpans ((j.inView a).spans (s.qAttr k) false ++ o.outView.spans (s.qAttr k) true ++ [⟨s.qAttr k, false, g.landing, g.size⟩]) = (Code.ok, s)) &&
  true) = true := by decide +kernel

theorem hyp_FenceAndCommit_1 :
  (
  let eng : Engine := .tensor
  let q : Fin 256 := 0
  let s : State := State.reset
  let s : State := tinyQueue (qKey eng q.val) [16, 0, 0, 0, 0, 0, 0, 0, qNum (qKey eng q.val), 0] [] s
  let k := qKey eng q.val
  Option.elim (β := Bool) (s.job k) false fun j =>
  decide (Ready s k 0x10 false j) &&
  let d := s.desc k (s.get (qRptr k))
  true) = true := by decide +kernel

theorem hyp_FenceAndCommit_2 :
  (
  let eng : Engine := .tensor
  let q : Fin 256 := 0
  let s : State := State.reset
  let s : State := tinyQueue (qKey eng q.val) [16] [] s
  let s : State := s.setCmd (qKey eng q.val) { index := 0, ws := [16, 0, 0, 0, 0, 0, 0, 0, qNum (qKey eng q.val), 0], waiting := true }
  let k := qKey eng q.val
  Option.elim (β := Bool) (s.cmd k) false fun c =>
  decide (c.desc.opcode = 0x10) &&
  decide (c.waiting = true) &&
  decide (s.fenceMet k c.desc = true) &&
  true) = true := by decide +kernel

theorem hyp_FenceAndCommit_3 :
  (
  let eng : Engine := .tensor
  let q : Fin 256 := 0
  let s : State := State.reset
  let s : State := tinyQueue (qKey eng q.val) [16] [] s
  let s : State := s.setCmd (qKey eng q.val) { index := 0, ws := [16, 0, 0, 0, 0, 0, 0, 0, qNum (qKey eng q.val), s.get (qCseq (qKey eng q.val)) + 1], waiting := true }
  let k := qKey eng q.val
  Option.elim (β := Bool) (s.cmd k) false fun c =>
  decide (s.fenceMet k c.desc = false) &&
  true) = true := by decide +kernel

theorem hyp_FenceAndCommit_4 :
  (
  let eng : Engine := .tensor
  let q : Fin 256 := 0
  let s : State := State.reset
  let s : State := tinyQueue (qKey eng q.val) [17] [] s
  let s : State := { s with eng := { s.eng with steps := [], train := [] } }
  let k := qKey eng q.val
  Option.elim (β := Bool) (s.job k) false fun j =>
  decide (Ready s k 0x11 false j) &&
  decide (s.training k = none) &&
  decide (s.stepServed k j = true) &&
  true) = true := by decide +kernel

theorem hyp_FenceAndCommit_5 :
  (
  let eng : Engine := .tensor
  let q : Fin 256 := 0
  let cyc : BitVec 32 := 7
  let s : State := State.reset
  let s : State := tinyQueue (qKey eng q.val) [4, 0x10001, 100] [tinyRec 0x1000010000 0 1 1 1 1] s
  let s : State := tinyRun (qKey eng q.val) [4, 0x10001, 100] [0x1000001000] s
  let k := qKey eng q.val
  Option.elim (β := Bool) (s.job k) false fun j =>
  Option.elim (β := Bool) (s.cmd k) false fun c =>
  decide (s.atCommitPoint k cyc.toNat c = true) &&
  decide (s.reachSpans (s.commitSpans k j c) = (Code.ok, s)) &&
  decide (c.desc.opcode ≠ 0x11) &&
  decide (c.desc.cpl = false) &&
  Option.elim (β := Bool) (uncons' (c.outs)) false fun (a, rest) =>
  decide (rest = []) &&
  decide (s.recJobOut a = false) &&
  decide (j.preempt = false) &&
  true) = true := by decide +kernel

theorem hyp_FenceAndCommit_6 :
  (
  let eng : Engine := .tensor
  let q : Fin 256 := 0
  let cyc : BitVec 32 := 0
  let s : State := State.reset
  let s : State := { s with mer.windows := [] }
  let s : State := tinyQueue (qKey eng q.val) [17] [] s
  let s : State := tinyRun (qKey eng q.val) [17] [] s
  let s : State := { s with eng := { s.eng with steps := [], train := [] }, mer := { s.mer with windows := [] } }
  let k := qKey eng q.val
  Option.elim (β := Bool) (s.job k) false fun j =>
  Option.elim (β := Bool) (s.cmd k) false fun c =>
  decide (s.atCommitPoint k cyc.toNat c = true) &&
  decide (s.reachSpans (s.commitSpans k j c) = (Code.ok, s)) &&
  decide (c.desc.opcode = 0x11) &&
  decide (c.desc.cpl = false) &&
  decide (c.outs = []) &&
  decide (j.written = []) &&
  decide (s.jobGroup j = none) &&
  decide (s.stepsOf k j.num = []) &&
  decide (s.training k = none) &&
  decide (s.mer.windows = []) &&
  let a := s.get (qCplBase k) + 32 * s.get (qCplWptr k)
  decide (s.reach (s.qAttr k) true a 32 = (.ok, s)) &&
  true) = true := by decide +kernel

theorem hyp_FenceAndCommit_7 :
  (
  let eng : Engine := .tensor
  let q : Fin 256 := 0
  let cyc : BitVec 32 := 0
  let s : State := State.reset
  let s : State := tinyQueue (qKey eng q.val) [16] [] s
  let s : State := s.setCmd (qKey eng q.val) { index := 0, ws := [16], waiting := true }
  let k := qKey eng q.val
  Option.elim (β := Bool) (s.cmd k) false fun c =>
  decide (s.atCommitPoint k cyc.toNat c = false) &&
  true) = true := by decide +kernel

theorem hyp_FaultsKillJobs_1 :
  (
  let q : Fin 256 := 0
  let tile : Fin 128 := 0
  let s : State := State.reset
  let s : State := { s with mer.windows := [] }
  let s : State := tinyQueue q.val [4, 0x10001, 100] [] s
  let s : State := tinyRun q.val [4, 0x10001, 100] [] s
  let s : State := { s with eng := { s.eng with tileFault := [] }, mer := { s.mer with windows := [] } }
  decide ((s.cmd q.val).isSome = true) &&
  decide (s.usesTile q.val tile.val = true) &&
  Option.elim (β := Bool) (s.job q.val) false fun j =>
  decide (s.jobGroup j = none) &&
  decide (s.linkedQueues q.val = [q.val]) &&
  decide (s.mer.windows = []) &&
  decide (KMap.find s.eng.tileFault tile.val = none) &&
  true) = true := by decide +kernel

theorem hyp_FaultsKillJobs_2 :
  (
  let q : Fin 256 := 0
  let tile : Fin 128 := 0
  let s : State := State.reset
  let s : State := { s with mer.windows := [] }
  let s : State := tinyQueue q.val [4, 0x10001, 100] [] s
  let s : State := tinyRun q.val [4, 0x10001, 100] [] s
  let s : State := { s.set (Reg.TEN_CL_STATUS_ISOLATED (tile.val / 8)) 0 with eng := { s.eng with tileFault := [(tile.val, s.datum)] }, mer := { s.mer with windows := [] } }
  decide ((s.cmd q.val).isSome = true) &&
  decide ((s.job q.val).isSome = true) &&
  decide (s.usesTile q.val tile.val = true) &&
  Option.elim (β := Bool) (KMap.find s.eng.tileFault tile.val) false fun u =>
  decide (s.datum ≤ u + 1000000000) &&
  decide (s.mer.windows = []) &&
  true) = true := by decide +kernel

theorem hyp_FaultsKillJobs_3 :
  (
  let q : Fin 256 := 0
  let found : EccEvent := .uncorrectable
  let s : State := State.reset
  let s : State := { s with mer.windows := [] }
  let s : State := tinyQueue q.val [4, 0x10001, 100] [] s
  let s : State := tinyRun q.val [4, 0x10001, 100] [] s
  let s : State := { s with mer := { s.mer with windows := [] } }
  Option.elim (β := Bool) (s.cmd q.val) false fun c =>
  Option.elim (β := Bool) (s.job q.val) false fun j =>
  decide (s.jobGroup j = none) &&
  decide (s.linkedQueues q.val = [q.val]) &&
  decide (found = .uncorrectable) &&
  decide (s.mer.windows = []) &&
  true) = true := by decide +kernel

theorem hyp_FaultsKillJobs_4 :
  (
  let q : Fin 8 := 0
  let s : State := State.reset
  let s : State := { s with mer.windows := [] }
  let s : State := tinyQueue (256 + q.val) [4, 0x10001, 100] [] s
  let s : State := tinyRun (256 + q.val) [4, 0x10001, 100] [] s
  let s : State := { s with mer := { s.mer with windows := [] } }
  Option.elim (β := Bool) (s.cmd (256 + q.val)) false fun c =>
  Option.elim (β := Bool) (s.job (256 + q.val)) false fun j =>
  decide (s.jobGroup j = none) &&
  decide (s.mer.windows = []) &&
  true) = true := by decide +kernel

theorem hyp_FaultsKillJobs_5 :
  (
  let eng : Engine := .tensor
  let q : Fin 256 := 0
  let cyc : BitVec 32 := 101
  let s : State := State.reset
  let s : State := { s with mer.windows := [] }
  let s : State := tinyQueue (qKey eng q.val) [4, 0x10001, 100] [] s
  let s : State := tinyRun (qKey eng q.val) [4, 0x10001, 100] [] s
  let s : State := { s with mer := { s.mer with windows := [] } }
  let k := qKey eng q.val
  Option.elim (β := Bool) (s.cmd k) false fun c =>
  Option.elim (β := Bool) (s.job k) false fun j =>
  decide (c.desc.opcode ≠ 0x10) &&
  decide (s.cycleBound k c < cyc.toNat) &&
  decide (s.jobGroup j = none) &&
  decide (s.linkedQueues k = [k]) &&
  decide (s.mer.windows = []) &&
  true) = true := by decide +kernel

theorem hyp_FaultsKillJobs_6 :
  (
  let eng : Engine := .tensor
  let q : Fin 256 := 0
  let cyc : BitVec 32 := 100
  let s : State := State.reset
  let s : State := tinyQueue (qKey eng q.val) [4, 0x10001, 100] [] s
  let s : State := tinyRun (qKey eng q.val) [4, 0x10001, 100] [] s
  Option.elim (β := Bool) (s.cmd (qKey eng q.val)) false fun c =>
  decide (c.desc.opcode = 0x10 ∨ cyc.toNat ≤ s.cycleBound (qKey eng q.val) c) &&
  true) = true := by decide +kernel

theorem hyp_FaultsKillJobs_7 :
  (
  let eng : Engine := .tensor
  let q : Fin 256 := 0
  let s : State := State.reset
  let s : State := { s with mer.windows := [] }
  let s : State := tinyQueue (qKey eng q.val) [4, 0x10001, 100] [] s
  let s : State := tinyRun (qKey eng q.val) [4, 0x10001, 100] [] s
  let s : State := { s with mer := { s.mer with windows := [] } }
  let k := qKey eng q.val
  Option.elim (β := Bool) (s.cmd k) false fun c =>
  Option.elim (β := Bool) (s.job k) false fun j =>
  decide (s.jobGroup j = none) &&
  decide (s.linkedQueues k = [k]) &&
  decide (s.mer.windows = []) &&
  true) = true := by decide +kernel

theorem hyp_FaultsKillJobs_8 :
  (
  let eng : Engine := .tensor
  let q : Fin 256 := 0
  let s : State := State.reset
  let s : State := { s with eng := { s.eng with cmds := [], killMarks := [] } }
  decide (s.cmd (qKey eng q.val) = none) &&
  decide (s.killedNow (qKey eng q.val) = none) &&
  true) = true := by decide +kernel

theorem hyp_FaultsKillJobs_9 :
  (
  let eng : Engine := .tensor
  let q : Fin 256 := 0
  let cyc : BitVec 32 := 101
  let s : State := State.reset
  let s : State := { s with mer.windows := [] }
  let s : State := tinyQueue (qKey eng q.val) [4, 0x10001, 100] [] s
  let s : State := tinyRun (qKey eng q.val) [4, 0x10001, 100] [] s
  let s : State := { s with eng := { s.eng with steps := [] }, mer := { s.mer with windows := [] } }
  let k := qKey eng q.val
  Option.elim (β := Bool) (s.cmd k) false fun c =>
  Option.elim (β := Bool) (s.job k) false fun j =>
  decide (c.desc.opcode ≠ 0x10) &&
  decide (c.desc.irq = false) &&
  decide (c.undo = []) &&
  decide (s.cycleBound k c < cyc.toNat) &&
  decide (s.jobGroup j = none) &&
  decide (s.linkedQueues k = [k]) &&
  decide (s.stepsOf k j.num = []) &&
  decide (s.mer.windows = []) &&
  let a := s.get (qCplBase k) + 32 * s.get (qCplWptr k)
  decide (s.reach (s.qAttr k) true a 32 = (.ok, s)) &&
  true) = true := by decide +kernel

theorem hyp_ScrubbingAndClears_1 :
  (
  let tile : Fin 128 := 0
  let s : State := State.reset
  let s : State := s.set Reg.SYS_UNIT_MASK_CLUSTER_EN 0xFFFF
  decide (s.clusterUp (tile.val / 8) = true) &&
  true) = true := by decide +kernel

theorem hyp_ScrubbingAndClears_2 :
  (
  let tile : Fin 128 := 0
  let s : State := State.reset
  let s : State := s.set Reg.SYS_UNIT_MASK_CLUSTER_EN 0xFFFF
  decide (s.clusterUp (tile.val / 8) = true) &&
  true) = true := by decide +kernel

theorem hyp_ScrubbingAndClears_3 :
  (
  let tile : Fin 128 := 0
  let s : State := State.reset
  let s : State := s.set Reg.SYS_UNIT_MASK_CLUSTER_EN 0
  decide (s.clusterUp (tile.val / 8) = false) &&
  true) = true := by decide +kernel

theorem hyp_ScrubbingAndClears_4 :
  (
  let c : Fin 16 := 0
  let s : State := State.reset
  let s : State := s.set (Reg.TEN_CL_MEMSTAT_CLEARING c.val) 1
  let s : State := { s with mer.windows := [] }
  let s : State := { s with mer := { s.mer with windows := [] } }
  decide (s.bit (Reg.TEN_CL_MEMSTAT_CLEARING c.val) = true) &&
  decide (s.mer.windows = []) &&
  true) = true := by decide +kernel

theorem hyp_ScrubbingAndClears_5 :
  (
  let c : Fin 16 := 0
  let s : State := State.reset
  let s : State := s.set (Reg.TEN_CL_MEMSTAT_CLEARING c.val) 0
  decide (s.bit (Reg.TEN_CL_MEMSTAT_CLEARING c.val) = false) &&
  true) = true := by decide +kernel

theorem hyp_ScrubbingAndClears_6 :
  (
  let who : Agent := .sec 0 .m none
  let c : Fin 16 := 0
  let banks : BitVec 6 := 4
  let s : State := State.reset
  let s : State := s.set (Reg.TEN_CL_STATUS_RUNNING c.val) 0
  let s : State := s.set Reg.SYS_UNIT_MASK_CLUSTER_EN 0xFFFF
  decide (Passes s who (Reg.TEN_KV_CACHE_addr c.val) true) &&
  decide (s.clusterOn c.val = true) &&
  decide (banks.toNat ≤ 16) &&
  decide (s.bit (Reg.TEN_CL_STATUS_RUNNING c.val) = false) &&
  true) = true := by decide +kernel

theorem hyp_ScrubbingAndClears_7 :
  (
  let who : Agent := .sec 0 .m none
  let c : Fin 16 := 0
  let banks : BitVec 6 := 17
  let s : State := State.reset
  let s : State := s.set Reg.SYS_UNIT_MASK_CLUSTER_EN 0xFFFF
  decide (Passes s who (Reg.TEN_KV_CACHE_addr c.val) true) &&
  decide (s.clusterOn c.val = true) &&
  decide (16 < banks.toNat) &&
  true) = true := by decide +kernel

theorem hyp_ScrubbingAndClears_8 :
  (
  let who : Agent := .sec 0 .m none
  let c : Fin 16 := 0
  let banks : BitVec 6 := 0
  let s : State := State.reset
  let s : State := s.set (Reg.TEN_CL_STATUS_RUNNING c.val) 1
  let s : State := s.set Reg.SYS_UNIT_MASK_CLUSTER_EN 0xFFFF
  decide (Passes s who (Reg.TEN_KV_CACHE_addr c.val) true) &&
  decide (s.clusterOn c.val = true) &&
  decide (banks.toNat ≤ 16) &&
  decide (s.bit (Reg.TEN_CL_STATUS_RUNNING c.val) = true) &&
  true) = true := by decide +kernel

theorem hyp_ScrubbingAndClears_9 :
  (
  let s : State := State.reset
  let s : State := s.fbSet 0x7100 3 1
  decide (s.session = 1) &&
  true) = true := by decide +kernel

theorem hyp_ScrubbingAndClears_10 :
  (
  let s : State := State.reset
  let s : State := s.fbSet 0x7100 3 0
  decide (s.session ≠ 1) &&
  true) = true := by decide +kernel

theorem hyp_ScrubbingAndClears_11 :
  (
  let q : Fin 256 := 0
  let s : State := State.reset
  let s : State := tinyQueue q.val [4] [] s
  let s : State := { s with eng := { s.eng with jobs := KMap.put s.eng.jobs q.val { first := 0, num := 0, start := 0, bound := 0, projEnd := 0, window := 0, clusters := 1, prio := 0, copy := 1 } } }
  let s : State := s.set (Reg.MBX_QC_LIVE_BASE_BASE q.val) 0x1000003000
  let s : State := s.wr 0x1000003000 (List.replicate 16 0)
  Option.elim (β := Bool) (s.job q.val) false fun j =>
  decide (j.copy = 1) &&
  decide (s.ranges (s.live q.val (s.get (qRptr q.val))) = []) &&
  decide (s.reachSpans [s.saveSpan q.val true []] = (Code.ok, s)) &&
  true) = true := by decide +kernel

theorem hyp_ScrubbingAndClears_12 :
  (
  let q : Fin 256 := 0
  let s : State := State.reset
  let s : State := tinyQueue q.val [4] [] s
  let s : State := { s.set (qSaved q.val) 1 with eng := { s.eng with jobs := KMap.put s.eng.jobs q.val { first := 0, num := 0, start := 0, bound := 0, projEnd := 0, window := 0, clusters := 1, prio := 0, copy := 2 } } }
  let s : State := s.set (Reg.MBX_QC_LIVE_BASE_BASE q.val) 0x1000003000
  let s : State := s.wr 0x1000003000 (List.replicate 16 0)
  Option.elim (β := Bool) (s.job q.val) false fun j =>
  decide (j.copy = 2) &&
  decide (s.ranges (s.live q.val (s.get (qRptr q.val))) = []) &&
  decide (s.reachSpans [s.saveSpan q.val false []] = (Code.ok, s)) &&
  true) = true := by decide +kernel

theorem hyp_RowMarks_1 :
  (
  let q : Fin 256 := 0
  let c : Fin 16 := 0
  let s : State := State.reset
  let s : State := tinyQueue q.val [2, 0x10001, 100, 0, 0, 0x0FFF0000, 0, 0, 0x40000] [tinyRec 0x1000010000 0 1 1 1 1] s
  let s : State := tinyRun q.val [2, 0x10001, 100, 0, 0, 0x0FFF0000, 0, 0, 0x40000] [] s
  let s : State := { s with eng := { s.eng with cmds := s.eng.cmds.map (fun p => (p.1, { p.2 with rowWise := true, stripes := [(c.val, { first := 2, limit := 5 })] })) } }
  Option.elim (β := Bool) (s.stripe q.val c.val) false fun (cmd, st) =>
  decide ((s.job q.val).isSome = true) &&
  let m := cmd.desc.postMark
  decide (cmd.desc.posts = true) &&
  decide (st.armed = false) &&
  decide (cmd.rowWise = true) &&
  decide (s.copyRead q.val c.val m = false) &&
  true) = true := by decide +kernel

theorem hyp_RowMarks_2 :
  (
  let q : Fin 256 := 0
  let c : Fin 16 := 0
  let s : State := State.reset
  let s : State := tinyQueue q.val [2, 0x10001, 100, 0, 0x10000, 0x0FFF0002, 0, 0x3F800000, 0x41111, 0, 0x10000] [tinyRec 0x1000010000 0 1 1 1 1, tinyRec 0x1000020000 0 1 1 1 1, tinyRec 0x1000030000 0 1 1 1 1] s
  let s : State := tinyRun q.val [2, 0x10001, 100, 0, 0x10000, 0x0FFF0002, 0, 0x3F800000, 0x41111, 0, 0x10000] [] s
  let s : State := { s with eng := { s.eng with cmds := s.eng.cmds.map (fun p => (p.1, { p.2 with stripes := [(c.val, { first := 0, limit := 1 })] })) } }
  Option.elim (β := Bool) (s.stripe q.val c.val) false fun (cmd, st) =>
  Option.elim (β := Bool) (s.job q.val) false fun j =>
  decide (cmd.desc.posts = true) &&
  decide (cmd.rowWise = false) &&
  decide (st.armed = false) &&
  decide (s.copyRead q.val c.val cmd.desc.postMark = false) &&
  let d := cmd.desc
  Option.elim (β := Bool) ((s.recs q.val d).a) false fun a =>
  Option.elim (β := Bool) ((s.recs q.val d).b) false fun b =>
  Option.elim (β := Bool) ((s.recs q.val d).out) false fun o =>
  let u := s.armCopy q.val c.val d st
  let lead := s.get (Reg.TEN_RM_CFG_LEAD c.val d.postMark)
  true) = true := by decide +kernel

theorem hyp_RowMarks_3 :
  (
  let q : Fin 256 := 0
  let c : Fin 16 := 0
  let s : State := State.reset
  let s : State := tinyQueue q.val [2, 0x10001, 100, 0, 0, 0x0FFF0000, 0, 0, 0x40000] [tinyRec 0x1000010000 0 1 1 1 1] s
  let s : State := tinyRun q.val [2, 0x10001, 100, 0, 0, 0x0FFF0000, 0, 0, 0x40000] [] s
  let s : State := { s.set (Reg.TEN_RM_CFG_LEAD c.val 0) 0 with eng := { s.eng with cmds := s.eng.cmds.map (fun p => (p.1, { p.2 with stripes := [(c.val, { first := 2, limit := 5, computed := 2, shown := 1, armed := true, lead := 0 })] })) } }
  Option.elim (β := Bool) (s.stripe q.val c.val) false fun (cmd, st) =>
  let m := cmd.desc.postMark
  let n := if (s.outRec q.val cmd.desc).frc ≠ 0 then 8 else 1
  let lead := min st.lead (st.limit - st.first)
  decide (cmd.desc.posts = true) &&
  decide (st.armed = true) &&
  decide (st.shown + n ≤ st.computed) &&
  true) = true := by decide +kernel

theorem hyp_RowMarks_4 :
  (
  let q : Fin 256 := 0
  let c : Fin 16 := 0
  let s : State := State.reset
  let s : State := tinyQueue q.val [2, 0x10001, 100, 0, 0x10000, 0x0FFF0002, 0, 0x3F800000, 0x21111, 0, 0x10000] [tinyRec 0x1000010000 0 1 1 1 1, tinyRec 0x1000020000 0 1 1 1 1, tinyRec 0x1000030000 0 1 1 1 1] s
  let s : State := tinyRun q.val [2, 0x10001, 100, 0, 0x10000, 0x0FFF0002, 0, 0x3F800000, 0x21111, 0, 0x10000] [] s
  let s : State := { s with eng := { s.eng with cmds := s.eng.cmds.map (fun p => (p.1, { p.2 with rowWise := true, stripes := [(c.val, { first := 0, limit := 1, waitFrom := some 3 })] })) } }
  let s : State := ((s.set (Reg.TEN_RM_CFG_ARMED 0 0) 1).set (Reg.TEN_RM_CFG_COMMITTED 0 0) 1).set (Reg.TEN_RM_RANGE_LIMIT 0 0) 1
  Option.elim (β := Bool) (s.stripe q.val c.val) false fun (cmd, st) =>
  Option.elim (β := Bool) (s.job q.val) false fun j =>
  decide (cmd.rowWise = true) &&
  decide (st.computed < st.limit - st.first) &&
  let d := cmd.desc
  Option.elim (β := Bool) ((s.recs q.val d).a) false fun a =>
  Option.elim (β := Bool) ((s.recs q.val d).b) false fun b =>
  Option.elim (β := Bool) ((s.recs q.val d).out) false fun o =>
  let ys := nextRows st (o.frc != 0)
  let need := ys.flatMap (inputRows (convWin d b) a.d2)
  decide ((d.posts && !st.armed) = false) &&
  decide ((need.all (fun y => s.rowReady d.waitMark y d.job (s.qAttr q.val).partition j.barrier)) = true) &&
  decide (s.reachSpans ((need.map (s.rowView q.val d a)).eraseDups.flatMap (fun v => v.spans (s.qAttr q.val) false)) = (Code.ok, s)) &&
  true) = true := by decide +kernel

theorem hyp_RowMarks_5 :
  (
  let q : Fin 256 := 0
  let c : Fin 16 := 0
  let s : State := State.reset
  let s : State := tinyQueue q.val [2, 0x10001, 100, 0, 0x10000, 0x0FFF0002, 0, 0x3F800000, 0x21111, 0, 0x10000] [tinyRec 0x1000010000 0 1 1 1 1, tinyRec 0x1000020000 0 1 1 1 1, tinyRec 0x1000030000 0 1 1 1 1] s
  let s : State := tinyRun q.val [2, 0x10001, 100, 0, 0x10000, 0x0FFF0002, 0, 0x3F800000, 0x21111, 0, 0x10000] [] s
  let s : State := { s with eng := { s.eng with cmds := s.eng.cmds.map (fun p => (p.1, { p.2 with rowWise := true, stripes := [(c.val, { first := 0, limit := 1 })] })) } }
  let s : State := (List.range 16).foldl (fun s c => s.set (Reg.TEN_RM_CFG_ARMED c 0) 0) s
  Option.elim (β := Bool) (s.stripe q.val c.val) false fun (cmd, st) =>
  Option.elim (β := Bool) (s.job q.val) false fun j =>
  decide (cmd.rowWise = true) &&
  decide (st.computed < st.limit - st.first) &&
  decide (st.waitFrom = none) &&
  let d := cmd.desc
  Option.elim (β := Bool) ((s.recs q.val d).a) false fun a =>
  Option.elim (β := Bool) ((s.recs q.val d).b) false fun b =>
  Option.elim (β := Bool) ((s.recs q.val d).out) false fun o =>
  let ys := nextRows st (o.frc != 0)
  let need := ys.flatMap (inputRows (convWin d b) a.d2)
  decide ((d.posts && !st.armed) = false) &&
  decide ((need.all (fun y => s.rowReady d.waitMark y d.job (s.qAttr q.val).partition j.barrier)) = false) &&
  true) = true := by decide +kernel

theorem hyp_RowMarks_6 :
  (
  let q : Fin 256 := 0
  let c : Fin 16 := 0
  let s : State := State.reset
  let s : State := tinyQueue q.val [2, 0x10001, 100, 0, 0, 0x0FFF0000, 0, 0, 0x20000] [] s
  let s : State := tinyRun q.val [2, 0x10001, 100, 0, 0, 0x0FFF0000, 0, 0, 0x20000] [] s
  let s : State := { s with eng := { s.eng with cmds := s.eng.cmds.map (fun p => (p.1, { p.2 with stripes := [(c.val, { first := 0, limit := 1, waitFrom := some 3 })] })) } }
  Option.elim (β := Bool) (s.stripe q.val c.val) false fun (cmd, st) =>
  Option.elim (β := Bool) (s.job q.val) false fun j =>
  decide (j.barrier = false) &&
  Option.elim (β := Bool) (st.waitFrom) false fun w =>
  decide ((match s.nextReady q.val cmd st j with | some (_, _, true) => false | _ => true) = true) &&
  true) = true := by decide +kernel

theorem hyp_RowMarks_7 :
  (
  let q : Fin 256 := 0
  let c : Fin 16 := 0
  let s : State := State.reset
  let s : State := tinyQueue q.val [2, 0x10001, 100, 0, 0x10000, 0x0FFF0002, 0, 0x3F800000, 0x21111, 0, 0x10000] [tinyRec 0x1000010000 0 1 1 1 1, tinyRec 0x1000020000 0 1 1 1 1, tinyRec 0x1000030000 0 1 1 1 1] s
  let s : State := tinyRun q.val [2, 0x10001, 100, 0, 0x10000, 0x0FFF0002, 0, 0x3F800000, 0x21111, 0, 0x10000] [] s
  let s : State := { s with eng := { s.eng with cmds := s.eng.cmds.map (fun p => (p.1, { p.2 with rowWise := true, stripes := [(c.val, { first := 0, limit := 1, waitFrom := some 3 })] })) } }
  let s : State := ((s.set (Reg.TEN_RM_CFG_ARMED 0 0) 1).set (Reg.TEN_RM_CFG_COMMITTED 0 0) 1).set (Reg.TEN_RM_RANGE_LIMIT 0 0) 1
  Option.elim (β := Bool) (s.stripe q.val c.val) false fun (cmd, st) =>
  Option.elim (β := Bool) (s.job q.val) false fun j =>
  decide (j.barrier = false) &&
  Option.elim (β := Bool) (st.waitFrom) false fun w =>
  decide ((match s.nextReady q.val cmd st j with | some (_, _, ready) => ready | none => false) = true) &&
  let u := s.advanceTo (w + s.fbGet 0x7020 3 * 1000)
  let d := cmd.desc
  Option.elim (β := Bool) ((s.recs q.val d).a) false fun a =>
  Option.elim (β := Bool) ((s.recs q.val d).b) false fun b =>
  Option.elim (β := Bool) ((s.recs q.val d).out) false fun o =>
  let ys := nextRows st (o.frc != 0)
  let need := ys.flatMap (inputRows (convWin d b) a.d2)
  decide (u.reachSpans ((need.map (u.rowView q.val d a)).eraseDups.flatMap (fun v => v.spans (u.qAttr q.val) false)) = (Code.ok, u)) &&
  true) = true := by decide +kernel

theorem hyp_KvPoolsAndSequences_1 :
  (
  let m : Fin 64 := 0
  let s : State := State.reset
  let s : State := tinyMail m.val 0 0x40 (leBytes 4 0 ++ [1, 1] ++ leBytes 2 32 ++ leBytes 4 8 ++ leBytes 4 4 ++ List.replicate 8 0 ++ leBytes 8 0x1000200000 ++ leBytes 8 0 ++ (List.range 8).flatMap (fun i => leBytes 4 (16 * (i + 1)))) s
  let s : State := { s with eng := { s.eng with pools := [] } }
  let r := s.mbRequest m.val
  decide (Asked s m.val 0x40 r) &&
  let p := poolOf (s.mbAttr m.val) r.payload
  let i := payLe r.payload 0 1 % 16
  decide (s.poolChk (s.mbAttr m.val) i p = Code.ok) &&
  true) = true := by decide +kernel

theorem hyp_KvPoolsAndSequences_2 :
  (
  let m : Fin 64 := 0
  let s : State := State.reset
  let s : State := tinyMail m.val 0 0x40 (leBytes 4 0 ++ [0, 1] ++ leBytes 2 32 ++ leBytes 4 8 ++ leBytes 4 4 ++ List.replicate 8 0 ++ leBytes 8 0x1000200000 ++ leBytes 8 0 ++ (List.range 8).flatMap (fun i => leBytes 4 (16 * (i + 1)))) s
  let r := s.mbRequest m.val
  decide (Asked s m.val 0x40 r) &&
  let p := poolOf (s.mbAttr m.val) r.payload
  let c := s.poolChk (s.mbAttr m.val) (payLe r.payload 0 1 % 16) p
  decide (c ≠ Code.ok) &&
  true) = true := by decide +kernel

theorem hyp_KvPoolsAndSequences_3 :
  (
  let m : Fin 64 := 0
  let s : State := State.reset
  let s : State := (tinyMail m.val 0 0x40 [] s).wr 0x1000100006 [0x5A, 0x5A]
  let r := s.mbRequest m.val
  decide (s.mbReady m.val = true) &&
  decide ((s.mbox m.val).notices = []) &&
  decide (r.malformed = true) &&
  decide (r.type = 0x40) &&
  decide (s.reach (s.mbAttr m.val) false (s.get (Reg.MBX_MB_REQ_BASE_BASE m.val) + 256 * s.get (Reg.MBX_MB_REQ_RPTR_RPTR m.val)) 256 = (.ok, s)) &&
  decide (s.reach (s.mbAttr m.val) true (replySlot s m.val) 256 = (.ok, s)) &&
  decide ((s.fwLogOf (serverFw (s.get (Reg.MBX_MB_CFG_SERVER m.val)))).pending = []) &&
  true) = true := by decide +kernel

theorem hyp_KvPoolsAndSequences_4 :
  (
  let m : Fin 64 := 0
  let s : State := State.reset
  let s : State := tinyMail m.val 0 0x41 (leBytes 4 3) s
  let s : State := { s with eng := { s.eng with rows := [], pools := KMap.put s.eng.pools 3 { partition := 0, secure := true, fmt := 0, headsKv := 1, headDim := 32, layers := 1, ptPages := 1, pageCount := 1, base := 0, spillPages := 0, spillBase := 0, buckets := [] } } }
  let r := s.mbRequest m.val
  decide (Asked s m.val 0x41 r) &&
  let i := payLe r.payload 0 1 % 16
  Option.elim (β := Bool) (s.pool i) false fun p =>
  decide (p.partition = (s.mbAttr m.val).partition) &&
  decide ((s.eng.rows.any (fun x => s.inPool i x.1)) = false) &&
  true) = true := by decide +kernel

theorem hyp_KvPoolsAndSequences_5 :
  (
  let m : Fin 64 := 0
  let s : State := State.reset
  let s : State := tinyMail m.val 0 0x42 (leBytes 4 0x00020703 ++ leBytes 4 9) s
  let s : State := { s with eng := { s.eng with pools := KMap.put s.eng.pools 3 { partition := 0, secure := true, fmt := 0, headsKv := 1, headDim := 32, layers := 1, ptPages := 1, pageCount := 1, base := 0, spillPages := 0, spillBase := 0, buckets := [] } } }
  let r := s.mbRequest m.val
  decide (Asked s m.val 0x42 r) &&
  let w := payLe r.payload 0 4
  Option.elim (β := Bool) (s.pool (w % 16)) false fun p =>
  decide (p.partition = (s.mbAttr m.val).partition) &&
  Option.elim (β := Bool) (s.freeRow) false fun n =>
  decide ((s.row n).pt = []) &&
  decide (replySlot s m.val + 256 ≤ s.eng.seqBase + 32 * n ∨ s.eng.seqBase + 32 * n + 32 ≤ replySlot s m.val) &&
  true) = true := by decide +kernel

theorem hyp_KvPoolsAndSequences_6 :
  (
  let m : Fin 64 := 0
  let s : State := State.reset
  let s : State := tinyMail m.val 0 0x43 (leBytes 4 5) s
  let s : State := s.setRow 5 { state := 4, pool := 3 }
  let s : State := { s with eng := { s.eng with pools := [] } }
  let r := s.mbRequest m.val
  decide (Asked s m.val 0x43 r) &&
  let n := payLe r.payload 0 4
  decide (s.foreignRow (s.mbAttr m.val) n = false) &&
  decide ((s.row n).state = 1 ∨ (s.row n).state = 4) &&
  decide ((s.row n).pt = []) &&
  true) = true := by decide +kernel

theorem hyp_KvPoolsAndSequences_7 :
  (
  let m : Fin 64 := 0
  let s : State := State.reset
  let s : State := tinyMail m.val 0 0x44 (leBytes 4 5) s
  let s : State := s.setRow 5 { state := 1, pool := 3 }
  let s : State := { s with eng := { s.eng with pools := [] } }
  let r := s.mbRequest m.val
  decide (Asked s m.val 0x44 r) &&
  let n := payLe r.payload 0 4
  decide (s.foreignRow (s.mbAttr m.val) n = false) &&
  decide ((s.row n).bytes.length ≤ 240) &&
  true) = true := by decide +kernel

theorem hyp_KvPoolsAndSequences_8 :
  (
  let m : Fin 64 := 0
  let s : State := State.reset
  let s : State := tinyMail m.val 0 0x46 (leBytes 4 5) s
  let s : State := s.setRow 5 { state := 3, pool := 3, len := 7, pt := [(0, (true, 0))] }
  let s : State := { s with eng := { s.eng with pools := KMap.put s.eng.pools 3 { partition := 0, secure := true, fmt := 0, headsKv := 1, headDim := 32, layers := 1, ptPages := 1, pageCount := 1, base := 0, spillPages := 4, spillBase := 0, buckets := [], spillUsed := [0] } } }
  let r := s.mbRequest m.val
  decide (Asked s m.val 0x46 r) &&
  let n := payLe r.payload 0 4
  decide (s.foreignRow (s.mbAttr m.val) n = false) &&
  decide ((s.row n).state = 3) &&
  true) = true := by decide +kernel

theorem hyp_KvStepTransaction_1 :
  (
  let m : Fin 64 := 0
  let s : State := State.reset
  let s : State := tinyMail m.val 0 0x45 (leBytes 4 3 ++ leBytes 4 0 ++ leBytes 8 0x1000120000) s
  let s : State := s.wr 0x1000120000 (leBytes 4 0x00070000 ++ leBytes 4 1 ++ List.replicate 8 0)
  let s : State := { s with eng := { s.eng with rows := [], steps := [], pools := KMap.put s.eng.pools 3 { partition := 0, secure := true, fmt := 0, headsKv := 1, headDim := 32, layers := 1, ptPages := 1, pageCount := 1, base := 0x1000200000, spillPages := 0, spillBase := 0, buckets := [] } } }
  let r := s.mbRequest m.val
  decide (Asked s m.val 0x45 r) &&
  let i := payLe r.payload 0 1 % 16
  let a := payLe r.payload 8 8
  decide (a % 16 = 0) &&
  decide (s.reach (s.mbAttr m.val) false a 16 = (.ok, s)) &&
  decide (s.reach (s.mbAttr m.val) false a (16 + 8 * min 4096 (s.rdLe (a + 8) 2)) = (.ok, s)) &&
  decide ((s.stepChk (s.mbAttr m.val) i a).1 = Code.ok) &&
  Option.elim (β := Bool) (s.stepRun i a) false fun (out, u) =>
  decide ((s.reach (s.mbAttr m.val) true a (16 + 8 * out.length)).1 = .ok) &&
  decide (a + 16 + 8 * out.length ≤ replySlot s m.val ∨ replySlot s m.val + 256 ≤ a) &&
  decide (u.regs = s.regs) &&
  true) = true := by decide +kernel

theorem hyp_KvStepTransaction_2 :
  (
  let m : Fin 64 := 0
  let s : State := State.reset
  let s : State := tinyMail m.val 0 0x45 (leBytes 4 3 ++ leBytes 4 0 ++ leBytes 8 0x1000120000) s
  let s : State := { s with eng := { s.eng with rows := [], steps := [], pools := [] } }
  let r := s.mbRequest m.val
  decide (Asked s m.val 0x45 r) &&
  let i := payLe r.payload 0 1 % 16
  let a := payLe r.payload 8 8
  decide (a % 16 = 0) &&
  decide (s.reach (s.mbAttr m.val) false a 16 = (.ok, s)) &&
  decide (s.reach (s.mbAttr m.val) false a (16 + 8 * min 4096 (s.rdLe (a + 8) 2)) = (.ok, s)) &&
  let q := s.stepChk (s.mbAttr m.val) i a
  decide (q.1 ≠ Code.ok) &&
  true) = true := by decide +kernel

theorem hyp_KvStepTransaction_3 :
  (
  let m : Fin 64 := 0
  let s : State := State.reset
  let s : State := tinyMail m.val 0 0x45 (leBytes 4 3 ++ leBytes 4 0 ++ leBytes 8 0x1000120000) s
  let s : State := s.wr 0x1000120000 (leBytes 4 0x00070000 ++ leBytes 4 1 ++ leBytes 8 1 ++ leBytes 4 0x1005 ++ leBytes 4 0)
  let s : State := { s with eng := { s.eng with rows := [(5, { state := 2, pool := 3 })], steps := [], pools := KMap.put s.eng.pools 3 { partition := 0, secure := true, fmt := 0, headsKv := 1, headDim := 32, layers := 1, ptPages := 1, pageCount := 0, base := 0x1000200000, spillPages := 0, spillBase := 0, buckets := [] } } }
  let r := s.mbRequest m.val
  decide (Asked s m.val 0x45 r) &&
  let i := payLe r.payload 0 1 % 16
  let a := payLe r.payload 8 8
  decide (a % 16 = 0) &&
  decide (s.reach (s.mbAttr m.val) false a 16 = (.ok, s)) &&
  decide (s.reach (s.mbAttr m.val) false a (16 + 8 * min 4096 (s.rdLe (a + 8) 2)) = (.ok, s)) &&
  decide ((s.stepChk (s.mbAttr m.val) i a).1 = Code.ok) &&
  decide (s.stepRun i a = none) &&
  true) = true := by decide +kernel

theorem hyp_TrainingAndGroupRequests_1 :
  (
  let m : Fin 64 := 0
  let s : State := State.reset
  let s : State := tinyMail m.val 0 0x47 (leBytes 4 2 ++ leBytes 4 0 ++ leBytes 8 0x1000130000) s
  let s : State := s.wr 0x1000130000 (leBytes 4 0x10001 ++ leBytes 4 9 ++ leBytes 4 7 ++ leBytes 4 1 ++ leBytes 4 2 ++ leBytes 4 6)
  let s : State := s.wr 0x1000130100 (leBytes 4 0x00010000 ++ leBytes 4 0x00030002 ++ leBytes 4 0xFFF ++ leBytes 4 1 ++ leBytes 4 0 ++ leBytes 4 0x3F000000 ++ leBytes 4 0x3F000000 ++ leBytes 4 1 ++ leBytes 4 0)
  let s : State := s.wr 0x1000001000 ((List.range 4).flatMap (fun i => leBytes 8 (0x1000010000 + 0x10000 * i + 12 * 2 ^ 48 + 2 ^ 55 + 2 ^ 57) ++ leBytes 8 4096 ++ List.replicate 16 0 ++ [1, 0, 1, 0, 1, 0, 1, 0] ++ leBytes 4 64 ++ leBytes 4 64 ++ leBytes 4 64 ++ List.replicate 12 0))
  let s : State := ((s.set (qTtBase 2) 0x1000001000).set (qTtCount 2) 4).set (qPartF 2) 0
  let s : State := { s with eng := { s.eng with train := [] } }
  let r := s.mbRequest m.val
  decide (Asked s m.val 0x47 r) &&
  let k := payLe r.payload 0 1
  let a := payLe r.payload 8 8
  decide (a % 4096 = 0) &&
  decide (s.reach (s.mbAttr m.val) false a 256 = (.ok, s)) &&
  decide (s.reach (s.mbAttr m.val) false a (256 + 64 * min 1024 (s.rdLe (a + 2) 2)) = (.ok, s)) &&
  decide ((s.trainChk (s.mbAttr m.val) k a).1 = Code.ok) &&
  true) = true := by decide +kernel

theorem hyp_TrainingAndGroupRequests_2 :
  (
  let m : Fin 64 := 0
  let s : State := State.reset
  let s : State := tinyMail m.val 0 0x48 (leBytes 4 2 ++ leBytes 4 77) s
  let s : State := { s.set (qPartF 2) 0 with eng := { s.eng with train := [(2, ⟨0x1000130000, 5, 1, 2, 3⟩)] } }
  let r := s.mbRequest m.val
  decide (Asked s m.val 0x48 r) &&
  let k := payLe r.payload 0 1
  decide (s.get (qPartF k) = (s.mbAttr m.val).partition) &&
  Option.elim (β := Bool) (s.training k) false fun g =>
  true) = true := by decide +kernel

theorem hyp_TrainingAndGroupRequests_3 :
  (
  let m : Fin 64 := 0
  let s : State := State.reset
  let s : State := tinyMail m.val 0 0x49 (leBytes 4 2) s
  let s : State := { s.set (qPartF 2) 0 with eng := { s.eng with jobs := [], train := [(2, ⟨0x1000130000, 5, 1, 2, 3⟩)] } }
  let r := s.mbRequest m.val
  decide (Asked s m.val 0x49 r) &&
  let k := payLe r.payload 0 1
  decide (s.get (qPartF k) = (s.mbAttr m.val).partition) &&
  decide (s.job k = none) &&
  Option.elim (β := Bool) (s.training k) false fun g =>
  true) = true := by decide +kernel

theorem hyp_TrainingAndGroupRequests_4 :
  (
  let m : Fin 64 := 0
  let s : State := State.reset
  let s : State := tinyMail m.val 0 0x4A (leBytes 4 0x00020305 ++ leBytes 4 0 ++ leBytes 8 0x1000140000 ++ leBytes 4 8192 ++ leBytes 4 0) s
  let s : State := { s.set (qPartF 2) 0 with eng := { s.eng with jobs := [], colls := [] } }
  let r := s.mbRequest m.val
  decide (Asked s m.val 0x4A r) &&
  let w := payLe r.payload 0 4
  let landing := payLe r.payload 8 8
  let size := payLe r.payload 0x10 4
  let n := ((List.range 4).filter (bitOf (bitsOf w 11 8))).length
  decide (2 ≤ n) &&
  decide (size ≠ 0) &&
  decide (size ≠ 2 ^ 32 - 1) &&
  decide (landing % 4096 = 0) &&
  decide (size % (4096 * n) = 0) &&
  decide (s.inDram landing size = true) &&
  decide (s.get (qPartF (bitsOf w 23 16)) = (s.mbAttr m.val).partition) &&
  decide (s.canReach (s.mbAttr m.val) true landing size = true) &&
  decide (s.coll (w % 256) = none) &&
  decide (s.groupJob (w % 256) = none) &&
  true) = true := by decide +kernel

theorem hyp_TrainingAndGroupRequests_5 :
  (
  let m : Fin 64 := 0
  let s : State := State.reset
  let s : State := tinyMail m.val 0 0x4B (leBytes 4 5) s
  let s : State := { s with eng := { s.eng with jobs := [], colls := [(5, ⟨3, 2, 0, 0x1000140000, 8192⟩)] } }
  let r := s.mbRequest m.val
  decide (Asked s m.val 0x4B r) &&
  let g := payLe r.payload 0 1
  Option.elim (β := Bool) (s.coll g) false fun c =>
  decide (c.partition = (s.mbAttr m.val).partition) &&
  decide (s.groupJob g = none) &&
  true) = true := by decide +kernel

theorem hyp_MailboxRows_1 :
  (
  let m : Fin 64 := 0
  let s : State := State.reset
  let s : State := tinyMail m.val 0 1 (leBytes 4 0x100 ++ List.replicate 12 0) s
  let r := s.mbRequest m.val
  decide (Asked s m.val 1 r) &&
  decide (offersOne r.payload = true) &&
  decide (s.orphaned (s.mbAttr m.val).partition = false) &&
  true) = true := by decide +kernel

theorem hyp_MailboxRows_2 :
  (
  let m : Fin 64 := 0
  let s : State := State.reset
  let s : State := tinyMail m.val 0 1 (leBytes 4 0x200 ++ List.replicate 12 0) s
  let r := s.mbRequest m.val
  decide (Asked s m.val 1 r) &&
  decide (offersOne r.payload = false) &&
  decide ((s.fwLogOf (serverFw (s.get (Reg.MBX_MB_CFG_SERVER m.val)))).pending = []) &&
  true) = true := by decide +kernel

theorem hyp_MailboxRows_3 :
  (
  let m : Fin 64 := 0
  let s : State := State.reset
  let s : State := tinyMail m.val 0 2 [] s
  let s : State := s.set Reg.MBX_HB_SUPER_SUPER 0
  let r := s.mbRequest m.val
  decide (Asked s m.val 2 r) &&
  decide (bitOf (s.get Reg.MBX_HB_SUPER_SUPER) (s.mbAttr m.val).partition = false) &&
  true) = true := by decide +kernel

theorem hyp_MailboxRows_4 :
  (
  let m : Fin 64 := 0
  let s : State := State.reset
  let s : State := tinyMail m.val 3 7 (leBytes 4 2 ++ leBytes 4 0 ++ leBytes 4 3) s
  let s : State := { s with fw := { s.fw with logs := [(2, ⟨1, [List.replicate 16 7]⟩)] } }
  let r := s.mbRequest m.val
  decide (Asked s m.val 7 r) &&
  decide (s.superUser (s.mbAttr m.val) = true) &&
  let n := payLe r.payload 0 4
  let k := payLe r.payload 8 4
  decide (n ≤ 22) &&
  decide (0 < k) &&
  let i := (s.fwLogOf n).from (payLe r.payload 4 4)
  decide (s.ringReach n i (min k ((s.fwLogOf n).count - i)) = (.ok, s)) &&
  let body := (List.range (min k ((s.fwLogOf n).count - i))).flatMap (fun j => s.logRecord n (i + j))
  decide (body.length ≤ 240) &&
  decide (body.all (fun b => b < 256) = true) &&
  true) = true := by decide +kernel

theorem hyp_MailboxRows_5 :
  (
  let m : Fin 64 := 0
  let s : State := State.reset
  let s : State := tinyMail m.val 3 7 (leBytes 4 2 ++ leBytes 4 0 ++ leBytes 4 3) s
  let s : State := (s.set (Reg.MBX_MB_CFG_SECURE m.val) 0).set (Reg.MBX_MB_CFG_PARTITION m.val) 9
  let s : State := (List.range 12).foldl (fun s g => s.set (Reg.DDR_CG_CTRL_OWNER g) 9) s
  let s : State := (List.range 12).foldl (fun s g => (s.set (Reg.CAD_RG_CTRL_EN g 0) 1).set (Reg.CAD_RG_PARTS_PARTS g 0) (2 ^ 64 - 1)) s
  let s : State := (List.range 12).foldl (fun s g => ((s.set (Reg.CAD_RG_CTRL_NW g 0) 1).set (Reg.CAD_RG_CTRL_NR g 0) 1).set (Reg.CAD_RG_LIMIT_LIMIT g 0) (2 ^ 36 - 1)) s
  let r := s.mbRequest m.val
  decide (Asked s m.val 7 r) &&
  decide (s.superUser (s.mbAttr m.val) = false) &&
  decide (payLe r.payload 0 4 ≤ 22) &&
  decide (0 < payLe r.payload 8 4) &&
  decide ((s.fwLogOf (serverFw (s.get (Reg.MBX_MB_CFG_SERVER m.val)))).pending = []) &&
  true) = true := by decide +kernel

theorem hyp_MailboxRows_6 :
  (
  let who : Agent := .sec 0 .m none
  let m : Fin 64 := 0
  let v : BitVec 32 := 0xC0000040
  let s : State := State.reset
  let s : State := s.set (Reg.MBX_MB_CFG_EN m.val) 0
  let s : State := s.set (Reg.MBX_MB_CFG_EN m.val) 0
  let s : State := (s.set (Reg.MBX_MB_REQ_BASE_BASE m.val) 0x1000100000).set (Reg.MBX_MB_RPL_BASE_BASE m.val) 0x1000110000
  decide (Passes s who (Reg.MBX_MB_CFG_addr m.val) true) &&
  decide (s.bit (Reg.MBX_MB_CFG_EN m.val) = false) &&
  decide (bitsOf v.toNat 3 0 ≤ 6) &&
  decide (4 ≤ bitsOf v.toNat 7 4) &&
  decide (bitsOf v.toNat 7 4 ≤ 8) &&
  decide (s.get (Reg.MBX_MB_REQ_BASE_BASE m.val) % 4096 = 0) &&
  decide (s.get (Reg.MBX_MB_RPL_BASE_BASE m.val) % 4096 = 0) &&
  true) = true := by decide +kernel

theorem hyp_MailboxRows_7 :
  (
  let who : Agent := .sec 0 .m none
  let m : Fin 64 := 0
  let v : BitVec 32 := 0x80000030
  let s : State := State.reset
  let s : State := s.set (Reg.MBX_MB_CFG_EN m.val) 0
  let s : State := s.set (Reg.MBX_MB_CFG_EN m.val) 0
  decide (Passes s who (Reg.MBX_MB_CFG_addr m.val) true) &&
  decide (s.bit (Reg.MBX_MB_CFG_EN m.val) = false) &&
  decide (6 < bitsOf v.toNat 3 0 ∨ bitsOf v.toNat 7 4 < 4 ∨ 8 < bitsOf v.toNat 7 4) &&
  true) = true := by decide +kernel

theorem hyp_MailboxRows_8 :
  (
  let who : Agent := .sec 0 .m none
  let m : Fin 64 := 0
  let s : State := State.reset
  let s : State := s.set (Reg.MBX_MB_CFG_EN m.val) 1
  let s : State := s.set Reg.MBX_HB_SUPER_SUPER (0)
  let s : State := s.set (Reg.MBX_MB_CFG_EN m.val) 1
  let s : State := s.set Reg.MBX_HB_SUPER_SUPER 0
  decide (Passes s who (Reg.MBX_MB_CFG_addr m.val) true) &&
  decide (s.bit (Reg.MBX_MB_CFG_EN m.val) = true) &&
  decide (s.get Reg.MBX_HB_SUPER_SUPER = 0) &&
  true) = true := by decide +kernel

theorem hyp_MailboxRows_9 :
  (
  let n : Fin 23 := 0
  let s : State := State.reset
  let s : State := { s with fw := { s.fw with logs := [(n.val, ⟨1, [List.replicate 16 7]⟩)] } }
  Option.elim (β := Bool) (KMap.find s.fw.logs n.val) false fun l =>
  true) = true := by decide +kernel

theorem hyp_MailboxRows_10 :
  (
  let who : Agent := .sec 0 .m none
  let s : State := State.reset
  decide (Passes s who Reg.MBX_HB_KICK_addr true) &&
  decide (s.orphaned (s.attrOf who).partition = false) &&
  true) = true := by decide +kernel

theorem hyp_MailboxRows_11 :
  (
  let p : Fin 64 := 0
  let s : State := State.reset
  let s : State := (s.set Reg.MBX_HB_SUPER_SUPER (2 ^ 64 - 1)).set Reg.MBX_HB_ORPHAN_ORPHAN 0
  decide (bitOf (s.get Reg.MBX_HB_SUPER_SUPER) p.val = true) &&
  decide (s.orphaned p.val = false) &&
  true) = true := by decide +kernel

theorem hyp_MailboxRows_12 :
  (
  let p : Fin 64 := 0
  let s : State := State.reset
  let s : State := s.set Reg.MBX_HB_SUPER_SUPER 0
  decide (bitOf (s.get Reg.MBX_HB_SUPER_SUPER) p.val = false) &&
  true) = true := by decide +kernel

theorem hyp_QueueEnableRule_1 :
  (
  let who : Agent := .sec 0 .m none
  let eng : Engine := .tensor
  let q : Fin 256 := 0
  let v : BitVec 32 := 0x80008000
  let s : State := State.reset
  let s : State := let k := qKey eng q.val; (((((((((s.set (qEn k) 0).set (qRingBase k) 0x1000000000).set (qLog2 k) 4).set (qCLog2 k) 4).set (qTtCount k) 3).set (qTtBase k) 0x1000001000).set (qCplBase k) 0x1000002000).set (qLiveBase k) 0).set (qSaveBase k) 0).set (qSaveSize k) 0
  let k := qKey eng q.val
  decide (Passes s who (qAttrAddr k) true) &&
  decide (s.bit (qEn k) = false) &&
  decide (((s.setAll (queueReg k v.toNat).locked).setAll (queueReg k v.toNat).free).queueCheck k = Code.ok) &&
  true) = true := by decide +kernel

theorem hyp_QueueEnableRule_2 :
  (
  let who : Agent := .sec 0 .m none
  let eng : Engine := .tensor
  let q : Fin 256 := 0
  let v : BitVec 32 := 0x80008000
  let s : State := State.reset
  let s : State := let k := qKey eng q.val; (s.set (qEn k) 0).set (qLog2 k) 2
  let k := qKey eng q.val
  decide (Passes s who (qAttrAddr k) true) &&
  decide (s.bit (qEn k) = false) &&
  let c := ((s.setAll (queueReg k v.toNat).locked).setAll (queueReg k v.toNat).free).queueCheck k
  decide (c ≠ Code.ok) &&
  true) = true := by decide +kernel

theorem hyp_QueueEnableRule_3 :
  (
  let who : Agent := .sec 0 .m none
  let eng : Engine := .tensor
  let q : Fin 256 := 0
  let s : State := State.reset
  let s : State := s.set (qEn (qKey eng q.val)) 1
  let k := qKey eng q.val
  decide (Passes s who (qAttrAddr k) true) &&
  decide (s.bit (qEn k) = true) &&
  true) = true := by decide +kernel

theorem hyp_QueueEnableRule_4 :
  (
  let who : Agent := .sec 0 .m none
  let eng : Engine := .tensor
  let q : Fin 256 := 0
  let s : State := State.reset
  let s : State := let k := qKey eng q.val; (s.set (qEn k) 1).delJob k
  let k := qKey eng q.val
  decide (Passes s who (qAttrAddr k) true) &&
  decide (s.bit (qEn k) = true) &&
  decide (s.job k = none) &&
  true) = true := by decide +kernel

theorem hyp_QueueEnableRule_5 :
  (
  let who : Agent := .sec 0 .m none
  let eng : Engine := .tensor
  let q : Fin 256 := 0
  let s : State := State.reset
  let s : State := let k := qKey eng q.val; tinyQueue k [] [] s
  let k := qKey eng q.val
  decide (Passes s who (qAttrAddr k) true) &&
  decide (s.bit (qEn k) = true) &&
  Option.elim (β := Bool) (s.job k) false fun j =>
  true) = true := by decide +kernel

theorem hyp_QueueEnableRule_6 :
  (
  let who : Agent := .sec 0 .m none
  let eng : Engine := .tensor
  let q : Fin 256 := 0
  let s : State := State.reset
  let s : State := s.set (qEn (qKey eng q.val)) 0
  let k := qKey eng q.val
  decide (Passes s who (qAttrAddr k) true) &&
  decide (s.bit (qEn k) = false) &&
  true) = true := by decide +kernel

theorem hyp_MemoryPartitionRegisters_1 :
  (
  let who : Agent := .sec 0 .m none
  let s : State := State.reset
  decide (Passes s who Reg.DDR_PART_LOCK_addr true) &&
  true) = true := by decide +kernel

theorem hyp_MemoryPartitionRegisters_2 :
  (
  let who : Agent := .sec 0 .m none
  let g : Fin 12 := 0
  let o : BitVec 6 := 1
  let r : BitVec 11 := 600
  let s : State := State.reset
  let s : State := s.set Reg.DDR_PART_LOCK_LOCK 1
  let s : State := s.set (Reg.DDR_CG_SHARE_SHARERS g.val) 0
  decide (Passes s who (Reg.DDR_CG_CTRL_addr g.val) true) &&
  decide (s.bit Reg.DDR_PART_LOCK_LOCK = true) &&
  decide (512 ≤ r.toNat) &&
  decide (r.toNat ≤ 1024) &&
  decide (bitOf (s.get (Reg.DDR_CG_SHARE_SHARERS g.val)) o.toNat = false) &&
  true) = true := by decide +kernel

theorem hyp_MemoryPartitionRegisters_3 :
  (
  let who : Agent := .sec 0 .m none
  let g : Fin 12 := 0
  let o : BitVec 6 := 1
  let r : BitVec 11 := 600
  let s : State := State.reset
  let s : State := s.set Reg.DDR_PART_LOCK_LOCK 0
  let s : State := { s with opPools := [] }
  decide (Passes s who (Reg.DDR_CG_CTRL_addr g.val) true) &&
  decide (s.bit Reg.DDR_PART_LOCK_LOCK = false) &&
  decide (512 ≤ r.toNat) &&
  decide (r.toNat ≤ 1024) &&
  decide (bitOf (s.get (Reg.DDR_CG_SHARE_SHARERS g.val)) o.toNat = false) &&
  decide (s.removesHeld g.val o.toNat (s.get (Reg.DDR_CG_SHARE_SHARERS g.val)) = false) &&
  true) = true := by decide +kernel

theorem hyp_MemoryPartitionRegisters_4 :
  (
  let who : Agent := .sec 0 .m none
  let g : Fin 12 := 0
  let o : BitVec 6 := 1
  let r : BitVec 11 := 600
  let s : State := State.reset
  let s : State := s.set (Reg.DDR_CG_SHARE_SHARERS g.val) 2
  decide (Passes s who (Reg.DDR_CG_CTRL_addr g.val) true) &&
  decide (r.toNat < 512 ∨ 1024 < r.toNat ∨ bitOf (s.get (Reg.DDR_CG_SHARE_SHARERS g.val)) o.toNat = true) &&
  true) = true := by decide +kernel

theorem hyp_MemoryPartitionRegisters_5 :
  (
  let who : Agent := .sec 0 .m none
  let g : Fin 12 := 0
  let o : BitVec 6 := 1
  let r : BitVec 11 := 600
  let s : State := State.reset
  let s : State := s.set Reg.DDR_PART_LOCK_LOCK 0
  let s : State := (s.set (Reg.DDR_CG_SHARE_SHARERS g.val) 0).set (Reg.DDR_CG_CTRL_OWNER g.val) 0
  let s : State := s.setOpPool (dramPool (2 * g.val) 0) { used := 1 }
  decide (Passes s who (Reg.DDR_CG_CTRL_addr g.val) true) &&
  decide (s.bit Reg.DDR_PART_LOCK_LOCK = false) &&
  decide (512 ≤ r.toNat) &&
  decide (r.toNat ≤ 1024) &&
  decide (bitOf (s.get (Reg.DDR_CG_SHARE_SHARERS g.val)) o.toNat = false) &&
  decide (s.removesHeld g.val o.toNat (s.get (Reg.DDR_CG_SHARE_SHARERS g.val)) = true) &&
  true) = true := by decide +kernel

theorem hyp_MemoryPartitionRegisters_6 :
  (
  let who : Agent := .sec 0 .m none
  let g : Fin 12 := 0
  let m : BitVec 64 := 6
  let s : State := State.reset
  let s : State := s.set Reg.DDR_PART_LOCK_LOCK 0
  let s : State := { s with opPools := [] }
  let s : State := s.set (Reg.DDR_CG_CTRL_OWNER g.val) 0
  decide (Passes s who (Reg.DDR_CG_SHARE_addr g.val) true) &&
  decide (s.bit Reg.DDR_PART_LOCK_LOCK = false) &&
  decide (bitOf m.toNat (s.get (Reg.DDR_CG_CTRL_OWNER g.val)) = false) &&
  decide (s.removesHeld g.val (s.get (Reg.DDR_CG_CTRL_OWNER g.val)) m.toNat = false) &&
  true) = true := by decide +kernel

theorem hyp_MemoryPartitionRegisters_7 :
  (
  let who : Agent := .sec 0 .m none
  let g : Fin 12 := 0
  let m : BitVec 64 := 6
  let s : State := State.reset
  let s : State := s.set (Reg.DDR_CG_CTRL_OWNER g.val) 1
  decide (Passes s who (Reg.DDR_CG_SHARE_addr g.val) true) &&
  decide (bitOf m.toNat (s.get (Reg.DDR_CG_CTRL_OWNER g.val)) = true) &&
  true) = true := by decide +kernel

theorem hyp_MemoryPartitionRegisters_8 :
  (
  let who : Agent := .sec 0 .m none
  let g : Fin 12 := 0
  let m : BitVec 64 := 6
  let s : State := State.reset
  let s : State := s.set Reg.DDR_PART_LOCK_LOCK 1
  let s : State := s.set (Reg.DDR_CG_CTRL_OWNER g.val) 0
  decide (Passes s who (Reg.DDR_CG_SHARE_addr g.val) true) &&
  decide (s.bit Reg.DDR_PART_LOCK_LOCK = true) &&
  decide (bitOf m.toNat (s.get (Reg.DDR_CG_CTRL_OWNER g.val)) = false) &&
  true) = true := by decide +kernel

theorem hyp_MemoryPartitionRegisters_9 :
  (
  let who : Agent := .sec 0 .m none
  let r : Fin 4 := 0
  let s : State := State.reset
  let s : State := s.set Reg.DDR_PART_LOCK_LOCK 0
  let s : State := { s with eng.cleaning := [] }
  let s : State := { s with eng := { s.eng with cleaning := [] } }
  decide (Passes s who (Reg.DDR_WAY_MAP_addr r.val) true) &&
  decide (s.bit Reg.DDR_PART_LOCK_LOCK = false) &&
  decide (s.eng.cleaning = []) &&
  true) = true := by decide +kernel

theorem hyp_MemoryPartitionRegisters_10 :
  (
  let who : Agent := .sec 0 .m none
  let r : Fin 4 := 0
  let s : State := State.reset
  let s : State := s.set Reg.DDR_PART_LOCK_LOCK 0
  let s : State := { s with eng := { s.eng with cleaning := [3] } }
  decide (Passes s who (Reg.DDR_WAY_MAP_addr r.val) true) &&
  decide (s.bit Reg.DDR_PART_LOCK_LOCK = false) &&
  decide (s.eng.cleaning ≠ []) &&
  true) = true := by decide +kernel

theorem hyp_MemoryPartitionRegisters_11 :
  (
  let who : Agent := .sec 0 .m none
  let r : Fin 4 := 0
  let s : State := State.reset
  let s : State := s.set Reg.DDR_PART_LOCK_LOCK 1
  decide (Passes s who (Reg.DDR_WAY_MAP_addr r.val) true) &&
  decide (s.bit Reg.DDR_PART_LOCK_LOCK = true) &&
  true) = true := by decide +kernel

theorem hyp_MemoryPartitionRegisters_12 :
  (
  let w : Fin 16 := 0
  let s : State := State.reset
  let s : State := { s with eng := { s.eng with cleaning := [3, w.val] } }
  decide (s.eng.cleaning.contains w.val = true) &&
  true) = true := by decide +kernel

theorem hyp_MemoryPartitionRegisters_13 :
  (
  let w : Fin 16 := 0
  let s : State := State.reset
  let s : State := { s with eng := { s.eng with cleaning := [] } }
  decide (s.eng.cleaning.contains w.val = false) &&
  true) = true := by decide +kernel

theorem hyp_VirtualEngines_1 :
  (
  let who : Agent := .sec 0 .m none
  let v : Fin 32 := 0
  let val : BitVec 32 := 0x80000300
  let s : State := State.reset
  let s : State := s.set (Reg.MBX_VTE_CTRL_EN v.val) 0
  let s : State := { s.set (Reg.MBX_VTE_SHARE_CLUSTERS v.val) 0 with resp := s.resp }
  decide (Passes s who (Reg.MBX_VTE_CTRL_addr v.val) true) &&
  decide (s.bit (Reg.MBX_VTE_CTRL_EN v.val) = false) &&
  decide ((clusterList (s.get (Reg.MBX_VTE_SHARE_CLUSTERS v.val))).all (fun c => s.clusterOn c) = true) &&
  true) = true := by decide +kernel

theorem hyp_VirtualEngines_2 :
  (
  let who : Agent := .sec 0 .m none
  let v : Fin 32 := 0
  let val : BitVec 32 := 0
  let s : State := State.reset
  let s : State := s.set (Reg.MBX_VTE_CTRL_EN v.val) 0
  let s : State := (s.set (Reg.MBX_VTE_SHARE_CLUSTERS v.val) 1).set Reg.SYS_UNIT_MASK_CLUSTER_EN 0xFFFE
  decide (Passes s who (Reg.MBX_VTE_CTRL_addr v.val) true) &&
  decide (s.bit (Reg.MBX_VTE_CTRL_EN v.val) = false) &&
  decide ((clusterList (s.get (Reg.MBX_VTE_SHARE_CLUSTERS v.val))).any (fun c => !s.clusterOn c) = true) &&
  true) = true := by decide +kernel

theorem hyp_VirtualEngines_3 :
  (
  let who : Agent := .sec 0 .m none
  let v : Fin 32 := 0
  let val : BitVec 32 := 0
  let s : State := State.reset
  let s : State := s.set (Reg.MBX_VTE_CTRL_EN v.val) 1
  let s : State := s.set (Reg.MBX_VTE_STATUS_STATE v.val) (1)
  let s : State := (List.range 256).foldl (fun s q => s.set (Reg.MBX_QC_ATTR_VTE_EN q) 0) s
  decide (Passes s who (Reg.MBX_VTE_CTRL_addr v.val) true) &&
  decide (s.bit (Reg.MBX_VTE_CTRL_EN v.val) = true) &&
  decide (s.get (Reg.MBX_VTE_STATUS_STATE v.val) = 1) &&
  decide (s.vteQueues v.val = []) &&
  true) = true := by decide +kernel

theorem hyp_VirtualEngines_4 :
  (
  let who : Agent := .sec 0 .m none
  let v : Fin 32 := 0
  let val : BitVec 32 := 0
  let s : State := State.reset
  let s : State := s.set (Reg.MBX_VTE_CTRL_EN v.val) 1
  let s : State := s.set (Reg.MBX_VTE_STATUS_STATE v.val) (1)
  let s : State := ((s.set (Reg.MBX_QC_ATTR_VTE_EN 9) 1).set (Reg.MBX_QC_ATTR_VTE 9) v.val).set (Reg.MBX_QC_ATTR_EN 9) 1
  decide (Passes s who (Reg.MBX_VTE_CTRL_addr v.val) true) &&
  decide (s.bit (Reg.MBX_VTE_CTRL_EN v.val) = true) &&
  decide (s.get (Reg.MBX_VTE_STATUS_STATE v.val) = 1) &&
  decide (s.vteQueues v.val ≠ []) &&
  true) = true := by decide +kernel

theorem hyp_VirtualEngines_5 :
  (
  let who : Agent := .sec 0 .m none
  let v : Fin 32 := 0
  let imm : Bool := false
  let s : State := State.reset
  let s : State := s.set (Reg.MBX_VTE_CTRL_EN v.val) 1
  let s : State := s.set (Reg.MBX_VTE_STATUS_STATE v.val) (1)
  let s : State := s.set (Reg.MBX_VTE_CTRL_EN v.val) 1
  decide (Passes s who (Reg.MBX_VTE_CTRL_addr v.val) true) &&
  decide (s.bit (Reg.MBX_VTE_CTRL_EN v.val) = true) &&
  decide (s.get (Reg.MBX_VTE_STATUS_STATE v.val) = 1) &&
  decide (imm = false) &&
  true) = true := by decide +kernel

theorem hyp_VirtualEngines_6 :
  (
  let who : Agent := .sec 0 .m none
  let v : Fin 32 := 0
  let s : State := State.reset
  let s : State := s.set (Reg.MBX_VTE_CTRL_EN v.val) 1
  let s : State := s.set (Reg.MBX_VTE_STATUS_STATE v.val) 2
  decide (Passes s who (Reg.MBX_VTE_CTRL_addr v.val) true) &&
  decide (s.bit (Reg.MBX_VTE_CTRL_EN v.val) = true) &&
  decide (s.vteState v.val = 2 ∨ s.vteState v.val = 4) &&
  true) = true := by decide +kernel

theorem hyp_VirtualEngines_7 :
  (
  let who : Agent := .sec 0 .m none
  let v : Fin 32 := 0
  let s : State := State.reset
  let s : State := s.set (Reg.MBX_VTE_STATUS_STATE v.val) 3
  decide (Passes s who (Reg.MBX_VTE_CTRL_addr v.val) true) &&
  decide (s.vteState v.val = 0 ∨ s.vteState v.val = 3) &&
  true) = true := by decide +kernel

theorem hyp_VirtualEngines_8 :
  (
  let v : Fin 32 := 0
  let s : State := State.reset
  let s : State := s.set (Reg.MBX_VTE_STATUS_STATE v.val) (2)
  let s : State := { s with eng := { s.eng with jobs := [], steps := [] } }
  let s : State := { s.fbSet 0x7003 1 3 with worlds := { s.worlds with keys := KMap.put s.worlds.keys 3 { key := List.replicate 16 7, aes256 := false, uses := 8, parts := 1 } } }
  let s : State := ((s.set (Reg.MBX_VTE_IMAGE_ADDR v.val) 0x1000100000).set (Reg.DDR_CG_CTRL_OWNER 0) 0).set (Reg.DDR_CG_CTRL_INLINE_ECC 0) 0
  let s : State := (List.range 256).foldl (fun s q => s.set (Reg.MBX_QC_ATTR_VTE_EN q) 0) s
  let s : State := { s with eng := { s.eng with rows := [], pools := [] } }
  decide (s.get (Reg.MBX_VTE_STATUS_STATE v.val) = 2) &&
  decide ((s.vteQueues v.val).all (fun q => (s.job q).isNone) = true) &&
  decide (s.eng.steps.filter (fun p => (s.vteQueues v.val).contains p.2.queue) = []) &&
  let body := s.imageBody v.val
  decide (body.length ≤ 0x100000) &&
  Option.elim (β := Bool) (s.imageKey) false fun key =>
  let a := s.get (Reg.MBX_VTE_IMAGE_ADDR v.val)
  decide (s.reach ⟨true, 0⟩ true a body.length = (.ok, s)) &&
  true) = true := by decide +kernel

theorem hyp_VirtualEngines_9 :
  (
  let v : Fin 32 := 0
  let s : State := State.reset
  decide (s.vteState v.val ≠ 2) &&
  true) = true := by decide +kernel

theorem hyp_VirtualEngines_10 :
  (
  let v : Fin 32 := 0
  let s : State := State.reset
  let s : State := s.set (Reg.MBX_VTE_STATUS_STATE v.val) (2)
  let s : State := { s with eng := { s.eng with jobs := [], steps := [] } }
  let s : State := { s with worlds := { s.worlds with keys := [] } }
  let s : State := { s with eng := { s.eng with rows := [], pools := [] } }
  let s : State := (List.range 256).foldl (fun s q => s.set (Reg.MBX_QC_ATTR_VTE_EN q) 0) s
  decide (s.get (Reg.MBX_VTE_STATUS_STATE v.val) = 2) &&
  decide ((s.vteQueues v.val).all (fun q => (s.job q).isNone) = true) &&
  decide (s.eng.steps.filter (fun p => (s.vteQueues v.val).contains p.2.queue) = []) &&
  decide (0x100000 < (s.imageBody v.val).length ∨ s.imageKey = none) &&
  true) = true := by decide +kernel

theorem hyp_VirtualEngines_11 :
  (
  let who : Agent := .sec 0 .m none
  let v : Fin 32 := 0
  let s : State := State.reset
  let s : State := s.set (Reg.MBX_VTE_STATUS_STATE v.val) (0)
  let s : State := s.set (Reg.MBX_VTE_CTRL_EN v.val) 0
  let s : State := ((s.set (Reg.MBX_VTE_IMAGE_ADDR v.val) 0x1000100000).set (Reg.DDR_CG_CTRL_OWNER 0) 0).set (Reg.DDR_CG_CTRL_INLINE_ECC 0) 0
  let s : State := s.set (Reg.MBX_VTE_CTRL_EN v.val) 0
  let s : State := tinyRegion 0 0x1000000 0x11FFFFF s
  decide (Passes s who (Reg.MBX_VTE_CTRL_addr v.val) true) &&
  decide (s.get (Reg.MBX_VTE_STATUS_STATE v.val) = 0) &&
  decide (s.bit (Reg.MBX_VTE_CTRL_EN v.val) = false) &&
  let a := s.get (Reg.MBX_VTE_IMAGE_ADDR v.val)
  decide (a % 4096 = 0) &&
  decide (s.canReach ⟨true, 0⟩ false a 0x100000 = true) &&
  decide (s.imageChk v.val a ≠ Code.ok) &&
  true) = true := by decide +kernel

theorem hyp_VirtualEngines_12 :
  (
  let who : Agent := .sec 0 .m none
  let v : Fin 32 := 0
  let s : State := State.reset
  let s : State := s.set (Reg.MBX_VTE_STATUS_STATE v.val) (0)
  let s : State := s.set (Reg.MBX_VTE_CTRL_EN v.val) 0
  let s : State := { s with mer.windows := [] }
  let s : State := { s with eng := { s.eng with jobs := [], steps := [], rows := [], pools := [] }, mer := { s.mer with windows := [] } }
  let s : State := { s.fbSet 0x7003 1 3 with worlds := { s.worlds with keys := KMap.put s.worlds.keys 3 { key := List.replicate 16 7, aes256 := false, uses := 8, parts := 1 } } }
  let s : State := ((s.set (Reg.MBX_VTE_IMAGE_ADDR v.val) 0x1000100000).set (Reg.DDR_CG_CTRL_OWNER 0) 0).set (Reg.DDR_CG_CTRL_INLINE_ECC 0) 0
  let s : State := (List.range 256).foldl (fun s q => s.set (Reg.MBX_QC_ATTR_VTE_EN q) 0) s
  let s : State := tinyRegion 0 0x1000000 0x11FFFFF s
  let s : State := (s.set (Reg.MBX_VTE_STATUS_STATE v.val) 2).set (Reg.MBX_VTE_SHARE_CLUSTERS v.val) 0
  let s : State := s.freezeComplete v.val
  let s : State := (s.set (Reg.MBX_VTE_STATUS_STATE v.val) 0).set (Reg.MBX_VTE_CTRL_EN v.val) 0
  decide (Passes s who (Reg.MBX_VTE_CTRL_addr v.val) true) &&
  decide (s.get (Reg.MBX_VTE_STATUS_STATE v.val) = 0) &&
  decide (s.bit (Reg.MBX_VTE_CTRL_EN v.val) = false) &&
  let a := s.get (Reg.MBX_VTE_IMAGE_ADDR v.val)
  decide (a % 4096 = 0) &&
  decide (s.canReach ⟨true, 0⟩ false a 0x100000 = true) &&
  decide (s.imageChk v.val a = Code.ok) &&
  decide (s.mer.windows = []) &&
  true) = true := by decide +kernel

theorem hyp_VirtualEngines_13 :
  (
  let who : Agent := .sec 0 .m none
  let v : Fin 32 := 0
  let s : State := State.reset
  let s : State := s.set (Reg.MBX_VTE_STATUS_STATE v.val) (1)
  let s : State := s.set (Reg.MBX_VTE_CTRL_EN v.val) 1
  decide (Passes s who (Reg.MBX_VTE_CTRL_addr v.val) true) &&
  decide (s.get (Reg.MBX_VTE_STATUS_STATE v.val) = 1) &&
  decide (s.bit (Reg.MBX_VTE_CTRL_EN v.val) = true) &&
  true) = true := by decide +kernel

theorem hyp_VirtualEngines_14 :
  (
  let who : Agent := .sec 0 .m none
  let v : Fin 32 := 0
  let s : State := State.reset
  let s : State := s.set (Reg.MBX_VTE_STATUS_STATE v.val) (3)
  let s : State := s.set (Reg.MBX_VTE_CTRL_EN v.val) 1
  let s : State := { s with mer.windows := [] }
  let s : State := { s with mer := { s.mer with windows := [] } }
  decide (Passes s who (Reg.MBX_VTE_CTRL_addr v.val) true) &&
  decide (s.get (Reg.MBX_VTE_STATUS_STATE v.val) = 3) &&
  decide (s.bit (Reg.MBX_VTE_CTRL_EN v.val) = true) &&
  decide (s.mer.windows = []) &&
  true) = true := by decide +kernel

theorem hyp_PeersAndCollectives_2 :
  (
  let p : Fin 4 := 1
  let s : State := State.reset
  let s : State := { s.fbSet 0x7004 2 15 with eng := { s.eng with peers := [] } }
  decide (bitOf s.present p.val = true) &&
  decide (p.val ≠ s.package) &&
  decide ((s.peer p.val).lost = false) &&
  true) = true := by decide +kernel

theorem hyp_PeersAndCollectives_3 :
  (
  let p : Fin 4 := 1
  let s : State := State.reset
  let s : State := { s.fbSet 0x7004 2 15 with eng := { s.eng with peers := [(p.val, { lost := true, streak := 1 })] } }
  decide (bitOf s.present p.val = true) &&
  decide (p.val ≠ s.package) &&
  decide ((s.peer p.val).lost = true) &&
  decide ((s.peer p.val).streak < 2 ∨ (s.peer p.val).last + 2000000 ≤ s.datum) &&
  true) = true := by decide +kernel

theorem hyp_PeersAndCollectives_4 :
  (
  let p : Fin 4 := 1
  let s : State := State.reset
  let s : State := { s.fbSet 0x7004 2 15 with eng := { s.eng with peers := [(p.val, { lost := true, streak := 2 })] } }
  decide (bitOf s.present p.val = true) &&
  decide (p.val ≠ s.package) &&
  decide ((s.peer p.val).lost = true) &&
  decide (2 ≤ (s.peer p.val).streak) &&
  decide (s.datum < (s.peer p.val).last + 2000000) &&
  true) = true := by decide +kernel

theorem hyp_PeersAndCollectives_5 :
  (
  let p : Fin 4 := 0
  let s : State := State.reset
  let s : State := s.set Reg.SYS_STRAP_PKG_ID p.val
  decide (bitOf s.present p.val = false ∨ p.val = s.package) &&
  true) = true := by decide +kernel

theorem hyp_PeersAndCollectives_6 :
  (
  let p : Fin 4 := 1
  let s : State := State.reset
  let s : State := { s with eng.jobs := [] }
  let s : State := { s with mer.windows := [] }
  let s : State := { s.fbSet 0x7004 2 15 with eng := { s.eng with peers := [], jobs := [] }, mer := { s.mer with windows := [] } }
  decide (bitOf s.present p.val = true) &&
  decide (p.val ≠ s.package) &&
  decide ((s.peer p.val).lost = false) &&
  decide (s.eng.jobs = []) &&
  decide (s.mer.windows = []) &&
  true) = true := by decide +kernel

theorem hyp_PeersAndCollectives_7 :
  (
  let p : Fin 4 := 0
  let s : State := State.reset
  let s : State := { s with eng := { s.eng with killsOut := [] } }
  decide (KMap.find s.eng.killsOut p.val = none) &&
  true) = true := by decide +kernel

theorem hyp_PeersAndCollectives_8 :
  (
  let p : Fin 4 := 1
  let s : State := State.reset
  let s : State := { s with eng.jobs := [] }
  let s : State := { s with mer.windows := [] }
  let s : State := { s.fbSet 0x7004 2 15 with eng := { s.eng with peers := [], jobs := [], killsOut := [(p.val, s.datum)] }, mer := { s.mer with windows := [] } }
  Option.elim (β := Bool) (KMap.find s.eng.killsOut p.val) false fun k =>
  decide (bitOf s.present p.val = true) &&
  decide (p.val ≠ s.package) &&
  decide ((s.peer p.val).lost = false) &&
  decide (s.eng.jobs = []) &&
  decide (s.mer.windows = []) &&
  true) = true := by decide +kernel

theorem hyp_PeersAndCollectives_9 :
  (
  let g : BitVec 8 := 5
  let p : Fin 4 := 1
  let s : State := State.reset
  let s : State := (tinyColl 5 3 [0x11] s).set Reg.SYS_STRAP_PKG_ID 0
  Option.elim (β := Bool) (s.groupJob g.toNat) false fun (k, j) =>
  Option.elim (β := Bool) (s.coll g.toNat) false fun c =>
  decide (leadOf c.packages = s.package) &&
  decide (bitOf c.packages p.val = true) &&
  decide ((s.cmd k).isNone) &&
  true) = true := by decide +kernel

theorem hyp_PeersAndCollectives_10 :
  (
  let g : BitVec 8 := 0
  let s : State := State.reset
  let s : State := { s with eng := { s.eng with colls := [] } }
  decide (s.coll g.toNat = none) &&
  true) = true := by decide +kernel

theorem hyp_PeersAndCollectives_11 :
  (
  let g : BitVec 8 := 5
  let s : State := State.reset
  let s : State := { s with mer.windows := [] }
  let s : State := tinyRun 7 [0x11] [] ((tinyColl 5 3 [0x11] s).set Reg.SYS_STRAP_PKG_ID 1)
  let s : State := { s with eng := { s.eng with cmds := s.eng.cmds.map (fun p => (p.1, { p.2 with waiting := true })) }, mer := { s.mer with windows := [] } }
  Option.elim (β := Bool) (s.groupJob g.toNat) false fun (k, j) =>
  Option.elim (β := Bool) (s.coll g.toNat) false fun c =>
  Option.elim (β := Bool) (s.cmd k) false fun cmd =>
  decide (cmd.desc.opcode = 0x11) &&
  decide (cmd.waiting = true) &&
  decide (leadOf c.packages ≠ s.package) &&
  decide (s.mer.windows = []) &&
  true) = true := by decide +kernel

theorem hyp_PeersAndCollectives_12 :
  (
  let g : BitVec 8 := 5
  let code : BitVec 16 := 0
  let s : State := State.reset
  let s : State := tinyColl 5 3 [0x11] s
  Option.elim (β := Bool) (s.groupJob g.toNat) false fun (k, j) =>
  Option.elim (β := Bool) (s.coll g.toNat) false fun c =>
  decide (code = 0) &&
  true) = true := by decide +kernel

theorem hyp_PeersAndCollectives_13 :
  (
  let g : BitVec 8 := 5
  let code : BitVec 16 := 0x302
  let s : State := State.reset
  let s : State := (tinyColl 5 3 [0x11] s).set Reg.SYS_STRAP_PKG_ID 1
  Option.elim (β := Bool) (s.groupJob g.toNat) false fun (k, j) =>
  Option.elim (β := Bool) (s.coll g.toNat) false fun c =>
  decide (code ≠ 0) &&
  decide (s.linkedQueues k = [k]) &&
  decide (leadOf c.packages ≠ s.package) &&
  true) = true := by decide +kernel

theorem hyp_PeersAndCollectives_14 :
  (
  let g : BitVec 8 := 5
  let s : State := State.reset
  let s : State := { s with mer.windows := [] }
  let s : State := tinyColl 5 3 [0x11] s
  let s : State := { s with mer := { s.mer with windows := [] } }
  Option.elim (β := Bool) (s.groupJob g.toNat) false fun (k, j) =>
  decide (s.mer.windows = []) &&
  true) = true := by decide +kernel

theorem hyp_PeersAndCollectives_15 :
  (
  let g : BitVec 8 := 5
  let s : State := State.reset
  let s : State := tinyColl 5 3 [0x11] s
  let s : State := { s with mer := { s.mer with windows := [(0, { start := s.datum, stop := s.datum + 1000000, slackLeft := 1000000 })] } }
  Option.elim (β := Bool) (s.groupJob g.toNat) false fun (k, j) =>
  Option.elim (β := Bool) (s.jobWindow j) false fun w =>
  true) = true := by decide +kernel

theorem hyp_PeersAndCollectives_16 :
  (
  let g : BitVec 8 := 5
  let s : State := State.reset
  let s : State := { s with mer.windows := [] }
  let s : State := tinyColl 5 3 [0x11] s
  let s : State := { s with mer := { s.mer with windows := [] } }
  Option.elim (β := Bool) (s.groupJob g.toNat) false fun (k, j) =>
  decide (s.mer.windows = []) &&
  true) = true := by decide +kernel

theorem hyp_PeersAndCollectives_17 :
  (
  let g : BitVec 8 := 0
  let s : State := State.reset
  let s : State := { s with eng := { s.eng with jobs := [] } }
  decide (s.groupJob g.toNat = none) &&
  true) = true := by decide +kernel

theorem hyp_PeersAndCollectives_18 :
  (
  let g : BitVec 8 := 5
  let p : Fin 4 := 1
  let s : State := State.reset
  let s : State := { s with eng := { s.eng with acks := [(5, (6, 0))] } }
  Option.elim (β := Bool) (KMap.find s.eng.acks g.toNat) false fun (miss, w) =>
  decide (clrMask miss p.val ≠ 0) &&
  true) = true := by decide +kernel

theorem hyp_PeersAndCollectives_19 :
  (
  let g : BitVec 8 := 5
  let p : Fin 4 := 1
  let s : State := State.reset
  let s : State := { s with eng := { s.eng with acks := [(5, (2, 0))] } }
  Option.elim (β := Bool) (KMap.find s.eng.acks g.toNat) false fun (miss, w) =>
  decide (clrMask miss p.val = 0) &&
  true) = true := by decide +kernel

theorem hyp_SafeStateDeclaration_1 :
  (
  let a : Bool := true
  let s : State := State.reset
  let s : State := { s.set Reg.SAF_STATE_STATE 1 with saf := { s.saf with stopped := 0 } }
  decide (s.get Reg.SAF_STATE_STATE ≠ 3) &&
  decide (bitOf s.saf.stopped (pairBit a) = false) &&
  true) = true := by decide +kernel

theorem hyp_SafeStateDeclaration_2 :
  (
  let a : Bool := true
  let s : State := State.reset
  let s : State := { s with saf := { s.saf with stopped := 3 } }
  decide (bitOf s.saf.stopped (pairBit a) = true) &&
  true) = true := by decide +kernel

theorem hyp_SafeStateDeclaration_3 :
  (
  let s : State := State.reset
  let s : State := s.set Reg.SAF_STATE_STATE 1
  decide (s.get Reg.SAF_STATE_STATE ≠ 3) &&
  true) = true := by decide +kernel

theorem hyp_SafeStateDeclaration_4 :
  (
  let s : State := State.reset
  let s : State := s.set Reg.SAF_STATE_STATE (3)
  let s : State := s.set Reg.SAF_STATE_STATE 3
  decide (s.get Reg.SAF_STATE_STATE = 3) &&
  decide (s.saf.declaredB ≠ some s.datum) &&
  true) = true := by decide +kernel

theorem hyp_SafeStateDeclaration_5 :
  (
  let who : Agent := .sec 0 .m none
  let s : State := State.reset
  let s : State := s.set Reg.SAF_STATE_STATE 1
  decide (Passes s who Reg.SAF_CTRL_addr true) &&
  decide ((s.attrOf who).secure = true ∨ (s.attrOf who).partition = s.saf.partition) &&
  decide (s.get Reg.SAF_STATE_STATE ≠ 3) &&
  true) = true := by decide +kernel

theorem hyp_SafeStateDeclaration_6 :
  (
  let who : Agent := .work .fabric false 5
  let s : State := State.reset
  let s : State := { (List.range 32).foldl (fun s r => s.set (Reg.CAD_RG_CTRL_EN 53 r) 0) s with saf := { s.saf with partition := 2 } }
  let s : State := (((((s.set (Reg.CAD_RG_CTRL_EN 53 0) 1).set (Reg.CAD_RG_BASE_BASE 53 0) 0x10500).set (Reg.CAD_RG_LIMIT_LIMIT 53 0) 0x105FF).set (Reg.CAD_RG_CTRL_NW 53 0) 1).set (Reg.CAD_RG_PARTS_PARTS 53 0) 0xFF)
  decide (Passes s who Reg.SAF_CTRL_addr true) &&
  decide (¬ ((s.attrOf who).secure = true ∨ (s.attrOf who).partition = s.saf.partition)) &&
  true) = true := by decide +kernel

theorem hyp_SafeStateDeclaration_7 :
  (
  let high : Bool := true
  let s : State := State.reset
  let s : State := { s.set Reg.SAF_STATE_STATE 1 with saf := { s.saf with driven := !high } }
  decide (s.get Reg.SAF_STATE_STATE ≠ 3) &&
  decide (high ≠ s.saf.driven) &&
  true) = true := by decide +kernel

theorem hyp_SafeStateDeclaration_8 :
  (
  let s : State := State.reset
  let s : State := s.set Reg.SAF_STATE_STATE 1
  decide (s.get Reg.SAF_STATE_STATE ≠ 3) &&
  true) = true := by decide +kernel

theorem hyp_SafeStateDeclaration_9 :
  (
  let s : State := State.reset
  let s : State := s.set Reg.SAF_STATE_STATE 1
  decide (s.get Reg.SAF_STATE_STATE ≠ 3) &&
  true) = true := by decide +kernel

theorem hyp_SafeStateDeclaration_10 :
  (
  let s : State := State.reset
  let s : State := s.set Reg.SAF_STATE_STATE (3)
  decide (s.get Reg.SAF_STATE_STATE = 3) &&
  decide (s.saf.declaredB ≠ some s.datum) &&
  true) = true := by decide +kernel

theorem hyp_SafeStateDeclaration_11 :
  (
  let s : State := State.reset
  let s : State := s.set Reg.SAF_STATE_STATE (3)
  let s : State := { s with saf := { s.saf with declaredB := some s.datum } }
  decide (s.get Reg.SAF_STATE_STATE = 3) &&
  decide (s.saf.declaredB = some s.datum) &&
  true) = true := by decide +kernel

theorem hyp_SafeStateDeclaration_12 :
  (
  let s : State := State.reset
  let s : State := s.set Reg.SAF_STATE_STATE 1
  decide (s.get Reg.SAF_STATE_STATE ≠ 3) &&
  true) = true := by decide +kernel

theorem hyp_SafeStateDeclaration_13 :
  (
  let s : State := State.reset
  let s : State := s.set Reg.SAF_STATE_STATE (3)
  decide (s.get Reg.SAF_STATE_STATE = 3) &&
  true) = true := by decide +kernel

theorem hyp_SafetySupervision_1 :
  (
  let a : Bool := true
  let s : State := State.reset
  let s : State := { s with saf := { s.saf with stopped := 0 } }
  decide (bitOf s.saf.stopped (pairBit a) = false) &&
  true) = true := by decide +kernel

theorem hyp_SafetySupervision_2 :
  (
  let a : Bool := true
  let s : State := State.reset
  let s : State := { s with saf := { s.saf with stopped := 3 } }
  decide (bitOf s.saf.stopped (pairBit a) = true) &&
  true) = true := by decide +kernel

theorem hyp_SafetySupervision_3 :
  (
  let who : Agent := .sec 0 .m none
  let s : State := State.reset
  let s : State := s.set Reg.SAF_CTRL_RUN 0
  let s : State := s.set Reg.SAF_STATE_STATE (0)
  let s : State := s.set Reg.SAF_INJ_STATUS_PASS 0
  let s : State := (s.set Reg.SAF_STATE_STATE 0).fbSet 0x3000 1 (Crypto.crc32 0xEDB88320 s.safTableBytes)
  decide (Passes s who Reg.SAF_CTRL_addr true) &&
  decide ((s.attrOf who).secure = true ∨ (s.attrOf who).partition = s.saf.partition) &&
  decide (s.bit Reg.SAF_CTRL_RUN = false) &&
  decide (s.get Reg.SAF_STATE_STATE = 0) &&
  decide (s.bit Reg.SAF_INJ_STATUS_PASS = false) &&
  decide (s.runChk = Code.ok) &&
  true) = true := by decide +kernel

theorem hyp_SafetySupervision_4 :
  (
  let who : Agent := .sec 0 .m none
  let s : State := State.reset
  let s : State := s.set Reg.SAF_CTRL_RUN 0
  let s : State := s.set Reg.SAF_STATE_STATE (0)
  let s : State := s.fbSet 0x3000 1 1
  decide (Passes s who Reg.SAF_CTRL_addr true) &&
  decide ((s.attrOf who).secure = true ∨ (s.attrOf who).partition = s.saf.partition) &&
  decide (s.bit Reg.SAF_CTRL_RUN = false) &&
  decide (s.get Reg.SAF_STATE_STATE = 0) &&
  decide (s.runChk ≠ Code.ok) &&
  true) = true := by decide +kernel

theorem hyp_SafetySupervision_5 :
  (
  let who : Agent := .sec 0 .m none
  let s : State := State.reset
  let s : State := s.set Reg.SAF_CTRL_RUN 1
  decide (Passes s who Reg.SAF_CTRL_addr true) &&
  decide ((s.attrOf who).secure = true ∨ (s.attrOf who).partition = s.saf.partition) &&
  decide (s.bit Reg.SAF_CTRL_RUN = true) &&
  true) = true := by decide +kernel

theorem hyp_SafetySupervision_6 :
  (
  let p : Fin 32 := 0
  let s : State := State.reset
  let s : State := s.setBench p.val { due := some 1000 }
  Option.elim (β := Bool) ((s.benchAt p.val).due) false fun u =>
  decide ((s.benchAt p.val).late = false) &&
  decide (s.get Reg.SAF_STATE_STATE ≠ 3) &&
  true) = true := by decide +kernel

theorem hyp_SafetySupervision_7 :
  (
  let p : Fin 32 := 0
  let s : State := State.reset
  let s : State := s.setBench p.val {}
  decide ((s.benchAt p.val).due = none) &&
  true) = true := by decide +kernel

theorem hyp_SafetySupervision_8 :
  (
  let s : State := State.reset
  let s : State := s.set Reg.SAF_STATE_STATE (3)
  decide (s.get Reg.SAF_STATE_STATE = 3) &&
  true) = true := by decide +kernel

theorem hyp_SafetySupervision_10 :
  (
  let high : Bool := true
  let s : State := State.reset
  let s : State := s.set Reg.SAF_STATE_STATE 1
  let s : State := { s with saf := { s.saf with driven := high } }
  decide (high = s.saf.driven) &&
  decide (s.get Reg.SAF_STATE_STATE ≠ 0) &&
  true) = true := by decide +kernel

theorem hyp_SafetySupervision_11 :
  (
  let item : Fin 10 := 4
  let s : State := State.reset
  let s : State := { s with boot.stage := 3 }
  let s : State := s.set Reg.SAF_INJ_STATUS_DONE 0
  let s : State := { s with boot := { s.boot with stage := 3 } }
  decide (s.boot.stage = 3) &&
  decide (s.bit Reg.SAF_INJ_STATUS_DONE = false) &&
  decide (item.val ≠ 0) &&
  true) = true := by decide +kernel

theorem hyp_SafetySupervision_12 :
  (
  let item : Fin 10 := 0
  let s : State := State.reset
  let s : State := { s with boot.stage := 3 }
  let s : State := s.set Reg.SAF_INJ_STATUS_DONE 0
  let s : State := { s with boot := { s.boot with stage := 3 } }
  decide (s.boot.stage = 3) &&
  decide (s.bit Reg.SAF_INJ_STATUS_DONE = false) &&
  decide (item.val = 0) &&
  true) = true := by decide +kernel

theorem hyp_SafetySupervision_13 :
  (
  let s : State := State.reset
  let s : State := { s with boot := { s.boot with stage := 4 } }
  decide (s.boot.stage ≠ 3 ∨ s.bit Reg.SAF_INJ_STATUS_DONE = true) &&
  true) = true := by decide +kernel

theorem hyp_TraverseContexts_1 :
  (
  let who : Agent := .sec 0 .m none
  let c : Fin 8 := 0
  let v : BitVec 32 := 0
  let s : State := State.reset
  let s : State := s.set (Reg.TRV_CX_ATTR_EN c.val) 0
  let s : State := s.set (Reg.TRV_CX_REQ_SIZE_LOG2 c.val) 1
  decide (Passes s who (Reg.TRV_CX_ATTR_addr c.val) true) &&
  decide (s.bit (Reg.TRV_CX_ATTR_EN c.val) = false) &&
  let e := ((s.setAll (trvReg c.val v.toNat).locked).setAll (trvReg c.val v.toNat).free).cxCheck c.val
  decide (e ≠ Code.ok) &&
  decide (e ≠ Code.eAccess) &&
  true) = true := by decide +kernel

theorem hyp_TraverseContexts_2 :
  (
  let who : Agent := .sec 0 .m none
  let c : Fin 8 := 0
  let v : BitVec 32 := 0x00008000
  let s : State := State.reset
  let s : State := s.set (Reg.TRV_CX_ATTR_EN c.val) 0
  let s : State := tinyLib c.val (tinyCtx c.val s)
  let s : State := s.set (Reg.TRV_CX_ATTR_EN c.val) 0
  let s : State := s.set (Reg.TRV_CX_FOOT_BASE_BASE c.val) 0xFFFFFFFFF000
  decide (Passes s who (Reg.TRV_CX_ATTR_addr c.val) true) &&
  decide (s.bit (Reg.TRV_CX_ATTR_EN c.val) = false) &&
  decide (((s.setAll (trvReg c.val v.toNat).locked).setAll (trvReg c.val v.toNat).free).cxCheck c.val = Code.eAccess) &&
  true) = true := by decide +kernel

theorem hyp_TraverseContexts_3 :
  (
  let who : Agent := .sec 0 .m none
  let c : Fin 8 := 0
  let v : BitVec 32 := 0x80008000
  let s : State := State.reset
  let s : State := s.set (Reg.TRV_CX_ATTR_EN c.val) 0
  let s : State := tinyLib c.val (tinyCtx c.val s)
  let s : State := s.set (Reg.TRV_CX_ATTR_EN c.val) 0
  decide (Passes s who (Reg.TRV_CX_ATTR_addr c.val) true) &&
  decide (s.bit (Reg.TRV_CX_ATTR_EN c.val) = false) &&
  decide (((s.setAll (trvReg c.val v.toNat).locked).setAll (trvReg c.val v.toNat).free).cxCheck c.val = Code.ok) &&
  true) = true := by decide +kernel

theorem hyp_TraverseContexts_4 :
  (
  let who : Agent := .sec 0 .m none
  let c : Fin 8 := 0
  let s : State := State.reset
  let s : State := s.set (Reg.TRV_CX_ATTR_EN c.val) 1
  let s : State := { s with trv := { s.trv with plan := none } }
  decide (Passes s who (Reg.TRV_CX_ATTR_addr c.val) true) &&
  decide (s.bit (Reg.TRV_CX_ATTR_EN c.val) = true) &&
  decide (s.planOf c.val = none) &&
  true) = true := by decide +kernel

theorem hyp_TraverseContexts_5 :
  (
  let who : Agent := .sec 0 .m none
  let c : Fin 8 := 0
  let s : State := State.reset
  let s : State := s.set (Reg.TRV_CX_ATTR_EN c.val) 1
  let s : State := tinyPlan c.val 1 s
  decide (Passes s who (Reg.TRV_CX_ATTR_addr c.val) true) &&
  decide (s.bit (Reg.TRV_CX_ATTR_EN c.val) = true) &&
  Option.elim (β := Bool) (s.planOf c.val) false fun p =>
  true) = true := by decide +kernel

theorem hyp_TraverseContexts_6 :
  (
  let who : Agent := .sec 0 .m none
  let c : Fin 8 := 0
  let slot : BitVec 2 := 0
  let s : State := State.reset
  let s : State := s.set (Reg.TRV_Q_HOLD_HOLD c.val) 0
  decide (Passes s who (Reg.TRV_Q_LATEST_addr c.val) true) &&
  decide (bitOf (s.get (Reg.TRV_Q_HOLD_HOLD c.val)) slot.toNat = false) &&
  true) = true := by decide +kernel

theorem hyp_TraverseContexts_7 :
  (
  let who : Agent := .sec 0 .m none
  let c : Fin 8 := 0
  let slot : BitVec 2 := 2
  let s : State := State.reset
  let s : State := s.set (Reg.TRV_Q_HOLD_HOLD c.val) 4
  decide (Passes s who (Reg.TRV_Q_LATEST_addr c.val) true) &&
  decide (bitOf (s.get (Reg.TRV_Q_HOLD_HOLD c.val)) slot.toNat = true) &&
  true) = true := by decide +kernel

theorem hyp_TraverseContexts_8 :
  (
  let c : Fin 8 := 0
  let s : State := State.reset
  let s : State := s.set (Reg.TRV_CX_ATTR_EN c.val) 1
  let s : State := (tinyCtx c.val s).wr 0x1000020008 (leBytes 4 (Crypto.crc32 0xEDB88320 []))
  let s : State := s.set (Reg.TRV_CX_LIB_SIZE_SIZE c.val) 0
  decide (s.bit (Reg.TRV_CX_ATTR_EN c.val) = true) &&
  let u := s.advanceTo ((s.cx c.val).lastCheck + 100000000)
  let lib := s.get (Reg.TRV_CX_LIB_BASE_BASE c.val)
  decide (u.reachSpans ((u.cxTables c.val).take 1) = (Code.ok, u)) &&
  decide (s.libCrc lib (s.get (Reg.TRV_CX_LIB_SIZE_SIZE c.val)) = s.rdLe (lib + 8) 4) &&
  true) = true := by decide +kernel

theorem hyp_TraverseContexts_9 :
  (
  let c : Fin 8 := 0
  let s : State := State.reset
  let s : State := s.set (Reg.TRV_CX_ATTR_EN c.val) 1
  let s : State := (tinyCtx c.val s).wr 0x1000020008 (leBytes 4 (Crypto.crc32 0xEDB88320 [] + 1))
  let s : State := s.set (Reg.TRV_CX_LIB_SIZE_SIZE c.val) 0
  decide (s.bit (Reg.TRV_CX_ATTR_EN c.val) = true) &&
  let u := s.advanceTo ((s.cx c.val).lastCheck + 100000000)
  let lib := s.get (Reg.TRV_CX_LIB_BASE_BASE c.val)
  decide (u.reachSpans ((u.cxTables c.val).take 1) = (Code.ok, u)) &&
  decide (s.libCrc lib (s.get (Reg.TRV_CX_LIB_SIZE_SIZE c.val)) ≠ s.rdLe (lib + 8) 4) &&
  decide (s.planOf c.val = none) &&
  true) = true := by decide +kernel

theorem hyp_TraverseContexts_10 :
  (
  let c : Fin 8 := 0
  let s : State := State.reset
  let s : State := s.set (Reg.TRV_CX_ATTR_EN c.val) 1
  let s : State := { s with mer.windows := [] }
  let s : State := tinyPlan c.val 1 s
  let s : State := (s.wr 0x1000020008 (leBytes 4 (Crypto.crc32 0xEDB88320 [] + 1))).set (Reg.TRV_CX_LIB_SIZE_SIZE c.val) 0
  let s : State := { s with mer := { s.mer with windows := [] } }
  decide (s.bit (Reg.TRV_CX_ATTR_EN c.val) = true) &&
  let lib := s.get (Reg.TRV_CX_LIB_BASE_BASE c.val)
  decide (s.libCrc lib (s.get (Reg.TRV_CX_LIB_SIZE_SIZE c.val)) ≠ s.rdLe (lib + 8) 4) &&
  Option.elim (β := Bool) (s.planOf c.val) false fun p =>
  decide (s.mer.windows = []) &&
  let u := s.advanceTo ((s.cx c.val).lastCheck + 100000000)
  decide (u.reachSpans ((u.cxTables c.val).take 1) = (Code.ok, u)) &&
  true) = true := by decide +kernel

theorem hyp_TraverseContexts_11 :
  (
  let c : Fin 8 := 0
  let s : State := State.reset
  let s : State := s.set (Reg.TRV_CX_ATTR_EN c.val) 0
  decide (s.bit (Reg.TRV_CX_ATTR_EN c.val) = false) &&
  true) = true := by decide +kernel

theorem hyp_TraversePlans_1 :
  (
  let c : Fin 8 := 0
  let s : State := State.reset
  let s : State := { s with trv.plan := none }
  let s : State := tinyCtx c.val s
  let s : State := ((s.fbSet 0x6020 4 0).set (Reg.MBX_HB_ORPHAN_ORPHAN) 0).set Reg.SAF_INJ_STATUS_CODE 0
  let s : State := (List.range 8).foldl (fun s i => if i = c.val then s else s.set (Reg.TRV_CX_ATTR_EN i) 0) s
  let s : State := tinyWindow 3 2 0 s
  Option.elim (β := Bool) (uncons' (s.openWindows)) false fun (w, ws) =>
  decide (ws = []) &&
  decide (s.cxOrder.find? (fun c => s.cxReady c w) = some c.val) &&
  decide (s.trv.plan = none) &&
  decide (s.cxRoom c.val = true) &&
  decide (s.reach (s.cxAttr c.val) false (s.get (Reg.TRV_CX_REQ_BASE_BASE c.val) + 128 * s.get (Reg.TRV_Q_RPTR_RPTR c.val)) 128 = (.ok, s)) &&
  decide (s.reachSpans (s.requestSpans c.val (s.request c.val)) = (Code.ok, s)) &&
  decide (s.requestChk c.val (s.request c.val) Code.ok = Code.ok) &&
  decide (s.fwFailed 22 = false) &&
  decide (verdict s.datum (rqBound (s.request c.val)) false w = .admitted) &&
  true) = true := by decide +kernel

theorem hyp_TraversePlans_2 :
  (
  let c : Fin 8 := 0
  let s : State := State.reset
  let s : State := { s with trv.plan := none }
  let s : State := s.set (Reg.TRV_CX_FLOW_FLOW_EN c.val) 0
  let s : State := (tinyCtx c.val s).wr 0x1000005000 (leBytes 4 0)
  let s : State := ((s.fbSet 0x6020 4 0).set (Reg.MBX_HB_ORPHAN_ORPHAN) 0).set (Reg.TRV_CX_FLOW_FLOW_EN c.val) 0
  let s : State := (List.range 8).foldl (fun s i => if i = c.val then s else s.set (Reg.TRV_CX_ATTR_EN i) 0) s
  let s : State := tinyWindow 3 2 0 s
  Option.elim (β := Bool) (uncons' (s.openWindows)) false fun (w, ws) =>
  decide (ws = []) &&
  decide (s.cxOrder.find? (fun c => s.cxReady c w) = some c.val) &&
  decide (s.trv.plan = none) &&
  decide (s.cxRoom c.val = true) &&
  decide (s.reach (s.cxAttr c.val) false (s.get (Reg.TRV_CX_REQ_BASE_BASE c.val) + 128 * s.get (Reg.TRV_Q_RPTR_RPTR c.val)) 128 = (.ok, s)) &&
  decide (s.requestChk c.val (s.request c.val) (s.reachSpans (s.requestSpans c.val (s.request c.val))).1 ≠ Code.ok) &&
  decide (s.bit (Reg.TRV_CX_FLOW_FLOW_EN c.val) = false) &&
  true) = true := by decide +kernel

theorem hyp_TraversePlans_3 :
  (
  let s : State := State.reset
  let s : State := { s with mer.windows := [] }
  let s : State := { s with mer := { s.mer with windows := [] } }
  decide (s.mer.windows = []) &&
  true) = true := by decide +kernel

theorem hyp_TraversePlans_4 :
  (
  let s : State := State.reset
  let s : State := tinyPlan 2 0 s
  Option.elim (β := Bool) (s.trv.plan) false fun p =>
  decide (p.stage = 0) &&
  decide (s.reachSpans (s.fallbackReads p) = (Code.ok, s)) &&
  true) = true := by decide +kernel

theorem hyp_TraversePlans_5 :
  (
  let s : State := State.reset
  let s : State := { s with trv.plan := none }
  let s : State := { s with trv := { s.trv with plan := none } }
  decide (s.trv.plan = none) &&
  true) = true := by decide +kernel

theorem hyp_TraversePlans_6 :
  (
  let s : State := State.reset
  let s : State := tinyPlan 2 1 s
  Option.elim (β := Bool) (s.trv.plan) false fun p =>
  decide (p.stage = 1) &&
  decide (s.reachSpans (s.searchSpans p) = (Code.ok, s)) &&
  let a := s.get (Reg.TRV_CX_ARENA_BASE_BASE p.ctx)
  let g := s.planGrid p.ctx p.req
  true) = true := by decide +kernel

theorem hyp_TraversePlans_7 :
  (
  let s : State := State.reset
  let s : State := tinyPlan 2 0 s
  Option.elim (β := Bool) (s.trv.plan) false fun p =>
  decide (p.stage ≠ 1) &&
  true) = true := by decide +kernel

theorem hyp_TraversePlans_8 :
  (
  let s : State := State.reset
  let s : State := tinyPlan 2 1 s
  Option.elim (β := Bool) (s.trv.plan) false fun p =>
  decide (p.stage = 1) &&
  let u := (s.advanceTo (planSearchDeadline p)).freeNat.2
  decide (u.reachSpans (u.searchSpans p) = (Code.ok, u)) &&
  let a := s.get (Reg.TRV_CX_ARENA_BASE_BASE p.ctx)
  let g := s.planGrid p.ctx p.req
  true) = true := by decide +kernel

theorem hyp_TraversePlans_9 :
  (
  let s : State := State.reset
  let s : State := tinyPlan 2 2 s
  Option.elim (β := Bool) (s.trv.plan) false fun p =>
  decide (p.stage = 2) &&
  decide (s.reachSpans (s.outputReads p) = (Code.ok, s)) &&
  true) = true := by decide +kernel

theorem hyp_TraversePlans_10 :
  (
  let s : State := State.reset
  let s : State := { s with trv.plan := none }
  let s : State := { s with trv := { s.trv with plan := none } }
  decide (s.trv.plan = none) &&
  true) = true := by decide +kernel

theorem hyp_TraversePlans_11 :
  (
  let s : State := State.reset
  let s : State := tinyPlan 2 2 s
  Option.elim (β := Bool) (s.trv.plan) false fun p =>
  decide (p.stage = 2) &&
  let u := (s.advanceTo (planOptDeadline p)).freeNat.2.freeNat.2
  decide (u.reachSpans (u.outputReads p) = (Code.ok, u)) &&
  true) = true := by decide +kernel

theorem hyp_TraversePlans_12 :
  (
  let s : State := State.reset
  let s : State := { s with mer.windows := [] }
  let s : State := tinyPlan 2 3 s
  let s : State := { s.set (Reg.TRV_CX_FLOW_FLOW_EN 2) 0 with mer := { s.mer with windows := [] } }
  Option.elim (β := Bool) (s.trv.plan) false fun p =>
  decide (p.stage = 3) &&
  decide (s.mer.windows = []) &&
  decide (s.bit (Reg.TRV_CX_FLOW_FLOW_EN p.ctx) = false) &&
  let bank := 1 - s.get (Reg.TRV_Q_STATUS_PUB p.ctx)
  let a := s.get (Reg.TRV_CX_OUT_BASE_BASE p.ctx) + bank * 0x3000
  let r := s.get (Reg.TRV_CX_CPL_BASE_BASE p.ctx) + 32 * s.get (Reg.TRV_Q_CPL_WPTR_CPL_WPTR p.ctx)
  decide (s.reachSpans [⟨s.cxAttr p.ctx, true, a, 0x3000⟩] = (Code.ok, s)) &&
  decide (p.cands.length ≤ 8) &&
  decide (rqPoses p.req ≤ 256) &&
  decide (p.fallback.length < 256) &&
  decide ((p.cands.all (fun k => decide (k.controls.length < 256))) = true) &&
  true) = true := by decide +kernel

theorem hyp_TraversePlans_13 :
  (
  let s : State := State.reset
  let s : State := { s with trv.plan := none }
  let s : State := { s with trv := { s.trv with plan := none } }
  decide (s.trv.plan = none) &&
  true) = true := by decide +kernel

theorem hyp_TraversePlans_14 :
  (
  let s : State := State.reset
  let s : State := { s with mer.windows := [] }
  let s : State := tinyPlan 2 2 s
  let s : State := { s with mer := { s.mer with windows := [] } }
  Option.elim (β := Bool) (s.trv.plan) false fun p =>
  decide (s.mer.windows = []) &&
  true) = true := by decide +kernel

theorem hyp_TraversePlans_15 :
  (
  let s : State := State.reset
  let s : State := tinyPlan 2 2 (tinyWindow 3 2 0 s)
  Option.elim (β := Bool) (s.trv.plan) false fun p =>
  Option.elim (β := Bool) (s.openWindows.find? (fun w => w.index = p.window)) false fun w =>
  decide (verdict s.datum p.bound true w = .admitted) &&
  true) = true := by decide +kernel

theorem hyp_TraversePlans_16 :
  (
  let s : State := State.reset
  let s : State := { s with trv.plan := none }
  let s : State := { s with trv := { s.trv with plan := none } }
  decide (s.trv.plan = none) &&
  true) = true := by decide +kernel

theorem hyp_GraphicsContexts_1 :
  (
  let who : Agent := .sec 0 .m none
  let x : Fin 32 := 0
  let s : State := State.reset
  let s : State := s.set (Reg.GFX_CX_ATTR_EN x.val) 0
  let s : State := (((s.set (Reg.GFX_CX_RING_BASE_BASE x.val) 0x1000000000).set (Reg.GFX_CX_RING_SIZE_LOG2 x.val) 4).set (Reg.GFX_CX_CPL_BASE_BASE x.val) 0x1000002000).set (Reg.GFX_CX_CPL_SIZE_CLOG2 x.val) 4
  decide (Passes s who (Reg.GFX_CX_ATTR_addr x.val) true) &&
  decide (s.bit (Reg.GFX_CX_ATTR_EN x.val) = false) &&
  decide (s.gxCheck x.val = Code.ok) &&
  true) = true := by decide +kernel

theorem hyp_GraphicsContexts_2 :
  (
  let who : Agent := .sec 0 .m none
  let x : Fin 32 := 0
  let s : State := State.reset
  let s : State := s.set (Reg.GFX_CX_ATTR_EN x.val) 0
  let s : State := s.set (Reg.GFX_CX_RING_SIZE_LOG2 x.val) 3
  decide (Passes s who (Reg.GFX_CX_ATTR_addr x.val) true) &&
  decide (s.bit (Reg.GFX_CX_ATTR_EN x.val) = false) &&
  decide (s.gxCheck x.val ≠ Code.ok) &&
  true) = true := by decide +kernel

theorem hyp_GraphicsContexts_3 :
  (
  let who : Agent := .sec 0 .m none
  let x : Fin 32 := 0
  let s : State := State.reset
  let s : State := s.set (Reg.GFX_CX_ATTR_EN x.val) 1
  let s : State := { s with gfx := { s.gfx with ctx := [] } }
  decide (Passes s who (Reg.GFX_CX_ATTR_addr x.val) true) &&
  decide (s.bit (Reg.GFX_CX_ATTR_EN x.val) = true) &&
  decide ((s.gx x.val).job = none) &&
  true) = true := by decide +kernel

theorem hyp_GraphicsContexts_4 :
  (
  let who : Agent := .sec 0 .m none
  let x : Fin 32 := 0
  let s : State := State.reset
  let s : State := s.set (Reg.GFX_CX_ATTR_EN x.val) 1
  let s : State := tinyGfx x.val [[0x11]] { first := 0, start := 0, bound := 0, window := 0, prio := 0 } s
  decide (Passes s who (Reg.GFX_CX_ATTR_addr x.val) true) &&
  decide (s.bit (Reg.GFX_CX_ATTR_EN x.val) = true) &&
  Option.elim (β := Bool) ((s.gx x.val).job) false fun j =>
  true) = true := by decide +kernel

theorem hyp_GraphicsContexts_5 :
  (
  let who : Agent := .sec 0 .m none
  let x : Fin 32 := 0
  let page : BitVec 48 := 0x1000010000
  let s : State := State.reset
  let s : State := { s with gfx := { s.gfx with ctx := [] } }
  decide (Passes s who (Reg.GFX_Q_HEAP_ADD_addr x.val) true) &&
  decide (page.toNat % 65536 = 0) &&
  decide ((s.gx x.val).heap.length < 4096) &&
  decide ((s.gx x.val).job = none) &&
  true) = true := by decide +kernel

theorem hyp_GraphicsContexts_6 :
  (
  let who : Agent := .sec 0 .m none
  let x : Fin 32 := 0
  let page : BitVec 48 := 0x1000010000
  let s : State := State.reset
  let s : State := tinyGfx x.val [[0x11]] { first := 0, start := 0, bound := 0, window := 0, prio := 0, faultSince := some 0 } s
  decide (Passes s who (Reg.GFX_Q_HEAP_ADD_addr x.val) true) &&
  decide (page.toNat % 65536 = 0) &&
  decide ((s.gx x.val).heap.length < 4096) &&
  Option.elim (β := Bool) ((s.gx x.val).job) false fun j =>
  Option.elim (β := Bool) (j.faultSince) false fun u =>
  true) = true := by decide +kernel

theorem hyp_GraphicsContexts_7 :
  (
  let who : Agent := .sec 0 .m none
  let x : Fin 32 := 0
  let page : BitVec 48 := 0x1000010000
  let s : State := State.reset
  let s : State := tinyGfx x.val [[0x11]] { first := 0, start := 0, bound := 0, window := 0, prio := 0, flushSince := some s.datum, flushed := true } s
  decide (Passes s who (Reg.GFX_Q_HEAP_ADD_addr x.val) true) &&
  decide (page.toNat % 65536 = 0) &&
  decide ((s.gx x.val).heap.length < 4096) &&
  Option.elim (β := Bool) ((s.gx x.val).job) false fun j =>
  decide (j.faultSince = none) &&
  decide (j.flushSince = some s.datum) &&
  true) = true := by decide +kernel

theorem hyp_GraphicsContexts_8 :
  (
  let who : Agent := .sec 0 .m none
  let x : Fin 32 := 0
  let page : BitVec 48 := 0x1000010001
  let s : State := State.reset
  decide (Passes s who (Reg.GFX_Q_HEAP_ADD_addr x.val) true) &&
  decide (page.toNat % 65536 ≠ 0) &&
  true) = true := by decide +kernel

theorem hyp_GraphicsContexts_9 :
  (
  let who : Agent := .sec 0 .m none
  let x : Fin 32 := 0
  let page : BitVec 48 := 0x1000010000
  let s : State := State.reset
  let s : State := { s with gfx := { s.gfx with ctx := [(x.val, { heap := List.replicate 4096 0 })] } }
  decide (Passes s who (Reg.GFX_Q_HEAP_ADD_addr x.val) true) &&
  decide (page.toNat % 65536 = 0) &&
  decide (4096 ≤ (s.gx x.val).heap.length) &&
  true) = true := by decide +kernel

theorem hyp_GraphicsContexts_10 :
  (
  let x : Fin 32 := 0
  let s : State := State.reset
  let s : State := tinyGfx x.val [[0x101, 0x00010001], [0x11]] { first := 0, start := 0, bound := 0, window := 0, prio := 0, run := some 0, runOp := 1 } s
  Option.elim (β := Bool) ((s.gx x.val).job) false fun j =>
  decide (s.binning x.val j = true) &&
  true) = true := by decide +kernel

theorem hyp_GraphicsContexts_11 :
  (
  let x : Fin 32 := 0
  let s : State := State.reset
  let s : State := { s with gfx := { s.gfx with ctx := [] } }
  decide ((s.gx x.val).job = none) &&
  true) = true := by decide +kernel

theorem hyp_GraphicsContexts_12 :
  (
  let x : Fin 32 := 0
  let s : State := State.reset
  let s : State := tinyGfx x.val [[0x101, 0x00010001], [0x11]] { first := 0, start := 0, bound := 0, window := 0, prio := 0, run := some 0, runOp := 1, faultSince := some 0 } s
  Option.elim (β := Bool) ((s.gx x.val).job) false fun j =>
  Option.elim (β := Bool) (j.faultSince) false fun u =>
  decide (passFlushable (s.gxConcern x.val j) = true) &&
  true) = true := by decide +kernel

theorem hyp_GraphicsContexts_13 :
  (
  let x : Fin 32 := 0
  let s : State := State.reset
  let s : State := { s with mer.windows := [] }
  let s : State := tinyGfx x.val [[0x8101, 0xFFFFFFFF], [0x11]] { first := 0, start := 0, bound := 0, window := 0, prio := 0, run := some 0, runOp := 1, faultSince := some 0 } s
  Option.elim (β := Bool) ((s.gx x.val).job) false fun j =>
  Option.elim (β := Bool) (j.faultSince) false fun u =>
  decide (passFlushable (s.gxConcern x.val j) = false) &&
  decide (s.mer.windows = []) &&
  true) = true := by decide +kernel

theorem hyp_GraphicsContexts_14 :
  (
  let x : Fin 32 := 0
  let s : State := State.reset
  let s : State := tinyGfx x.val [[0x101, 0x00010001], [0x11]] { first := 0, start := 0, bound := 0, window := 0, prio := 0, run := some 0, runOp := 1, flushSince := some 0 } s
  Option.elim (β := Bool) ((s.gx x.val).job) false fun j =>
  Option.elim (β := Bool) (j.flushSince) false fun u =>
  decide (j.pass = none) &&
  true) = true := by decide +kernel

theorem hyp_GraphicsContexts_15 :
  (
  let x : Fin 32 := 0
  let s : State := State.reset
  let s : State := tinyGfx x.val [[0x101, 0x00010001], [0x11]] { first := 0, start := 0, bound := 0, window := 0, prio := 0, run := some 0, runOp := 1, flushSince := some 0, pass := some { draw := { clearDepth := 0, clearStencil := 0, prims := [] } } } s
  Option.elim (β := Bool) ((s.gx x.val).job) false fun j =>
  Option.elim (β := Bool) (j.flushSince) false fun u =>
  Option.elim (β := Bool) (j.pass) false fun p =>
  true) = true := by decide +kernel

theorem hyp_GraphicsContexts_16 :
  (
  let x : Fin 32 := 0
  let s : State := State.reset
  let s : State := { s with gfx := { s.gfx with ctx := [] } }
  decide ((s.gx x.val).job = none) &&
  true) = true := by decide +kernel

theorem hyp_GraphicsContexts_17 :
  (
  let x : Fin 32 := 0
  let s : State := State.reset
  let s : State := { s with mer.windows := [] }
  let s : State := tinyGfx x.val [[0x101, 0x00010001], [0x11]] { first := 0, start := 0, bound := 0, window := 0, prio := 0, run := some 0, runOp := 1 } s
  Option.elim (β := Bool) ((s.gx x.val).job) false fun j =>
  decide (s.mer.windows = []) &&
  true) = true := by decide +kernel

theorem hyp_GraphicsContexts_18 :
  (
  let x : Fin 32 := 0
  let s : State := State.reset
  let s : State := { s with mer.windows := [] }
  let s : State := tinyGfx x.val [[0x101, 0x00010001], [0x11]] { first := 0, start := 0, bound := 0, window := 0, prio := 0, run := some 0, runOp := 1 } s
  Option.elim (β := Bool) ((s.gx x.val).job) false fun j =>
  decide (j.pass = none) &&
  decide (s.mer.windows = []) &&
  true) = true := by decide +kernel

theorem hyp_GraphicsContexts_19 :
  (
  let x : Fin 32 := 0
  let s : State := State.reset
  let s : State := { s with gfx := { s.gfx with ctx := [] } }
  decide ((s.gx x.val).job = none) &&
  true) = true := by decide +kernel

theorem hyp_GraphicsJobs_1 :
  (
  let x : Fin 32 := 0
  let s : State := State.reset
  let s : State := tinyGfx x.val [[0x1, 0x00010001, 0, 0x10, 64, 100], [0x11]] { first := 0, start := 0, bound := 0, window := 0, prio := 0 } s
  Option.elim (β := Bool) ((s.gx x.val).job) false fun j =>
  decide (s.gxRunOver x.val j = true) &&
  let i := s.gxNext x.val j
  let d := s.gxRec x.val i
  decide (d.opcode = 1) &&
  decide (s.passWaits x.val j = false) &&
  decide (j.pass = none) &&
  let u := s.set (Reg.GFX_Q_RPTR_RPTR x.val) i
  decide (u.reachSpans [u.gxSpan x.val i] = (Code.ok, u)) &&
  decide (u.gxChk x.val d = Code.ok) &&
  true) = true := by decide +kernel

theorem hyp_GraphicsJobs_2 :
  (
  let x : Fin 32 := 0
  let s : State := State.reset
  let s : State := tinyGfx x.val [[0x2, 0, 0, 0x10, 0x10001, 1, 100], [0x11]] { first := 0, start := 0, bound := 0, window := 0, prio := 0 } s
  Option.elim (β := Bool) ((s.gx x.val).job) false fun j =>
  decide (s.gxRunOver x.val j = true) &&
  let i := s.gxNext x.val j
  let d := s.gxRec x.val i
  decide (d.opcode = 2) &&
  decide (j.yieldSince = none) &&
  decide (j.pass = none) &&
  let u := s.set (Reg.GFX_Q_RPTR_RPTR x.val) i
  decide (u.reachSpans [u.gxSpan x.val i] = (Code.ok, u)) &&
  decide (u.gxChk x.val d = Code.ok) &&
  true) = true := by decide +kernel

theorem hyp_GraphicsJobs_3 :
  (
  let x : Fin 32 := 0
  let s : State := State.reset
  let s : State := tinyGfx x.val [[0x10, 0, 0], [0x11]] { first := 0, start := 0, bound := 0, window := 0, prio := 0 } s
  Option.elim (β := Bool) ((s.gx x.val).job) false fun j =>
  decide (s.gxRunOver x.val j = true) &&
  let i := s.gxNext x.val j
  let d := s.gxRec x.val i
  decide (d.opcode = 16) &&
  decide (j.pass = none) &&
  let u := s.set (Reg.GFX_Q_RPTR_RPTR x.val) i
  decide (u.reachSpans [u.gxSpan x.val i] = (Code.ok, u)) &&
  decide (u.gxChk x.val d = Code.ok) &&
  true) = true := by decide +kernel

theorem hyp_GraphicsJobs_4 :
  (
  let x : Fin 32 := 0
  let s : State := State.reset
  let s : State := tinyGfx x.val [[0x11, 0, 0, 0], [0x11]] { first := 0, start := 0, bound := 0, window := 0, prio := 0 } s
  Option.elim (β := Bool) ((s.gx x.val).job) false fun j =>
  decide (s.gxRunOver x.val j = true) &&
  let i := s.gxNext x.val j
  let d := s.gxRec x.val i
  decide (d.opcode = 17) &&
  decide (j.pass = none) &&
  let u := s.set (Reg.GFX_Q_RPTR_RPTR x.val) i
  decide (u.reachSpans [u.gxSpan x.val i] = (Code.ok, u)) &&
  decide (u.gxChk x.val d = Code.ok) &&
  true) = true := by decide +kernel

theorem hyp_GraphicsJobs_5 :
  (
  let x : Fin 32 := 0
  let s : State := State.reset
  let s : State := tinyGfx x.val [[0x1, 0x00010001, 0, 0x10, 64, 100], [0x11]] { first := 0, start := 0, bound := 0, window := 0, prio := 0, run := some 0, runOp := 1, pass := some { draw := { clearDepth := 0, clearStencil := 0, prims := [] } } } s
  Option.elim (β := Bool) ((s.gx x.val).job) false fun j =>
  decide (s.gxRunOver x.val j = true) &&
  Option.elim (β := Bool) (j.pass) false fun p =>
  let i := s.gxNext x.val j
  let d := s.gxRec x.val i
  decide (d.opcode = 17) &&
  let u := (s.passEnd x.val j).set (Reg.GFX_Q_RPTR_RPTR x.val) i
  decide (u.gxRec x.val i = d) &&
  decide (u.reachSpans [u.gxSpan x.val i] = (Code.ok, u)) &&
  decide (u.gxChk x.val d = Code.ok) &&
  true) = true := by decide +kernel

theorem hyp_GraphicsJobs_6 :
  (
  let x : Fin 32 := 0
  let s : State := State.reset
  let s : State := { s with mer.windows := [] }
  let s : State := tinyGfx x.val [[0x1], [0x11]] { first := 0, start := 0, bound := 0, window := 0, prio := 0 } s
  Option.elim (β := Bool) ((s.gx x.val).job) false fun j =>
  decide (s.gxRunOver x.val j = true) &&
  let i := s.gxNext x.val j
  let d := s.gxRec x.val i
  decide (d.opcode = 1) &&
  decide (s.passWaits x.val j = false) &&
  decide (s.mer.windows = []) &&
  decide ((s.set (Reg.GFX_Q_RPTR_RPTR x.val) i).gxChk x.val d ≠ Code.ok) &&
  decide (j.pass = none) &&
  true) = true := by decide +kernel

theorem hyp_GraphicsJobs_7 :
  (
  let x : Fin 32 := 0
  let s : State := State.reset
  let s : State := tinyGfx x.val [[0x1], [0x11]] { first := 0, start := 0, bound := 0, window := 0, prio := 0 } s
  Option.elim (β := Bool) ((s.gx x.val).job) false fun j =>
  decide (j.run = none) &&
  decide ((s.gxRec x.val (s.get (Reg.GFX_Q_RPTR_RPTR x.val))).opcode = 1) &&
  true) = true := by decide +kernel

theorem hyp_GraphicsJobs_8 :
  (
  let x : Fin 32 := 0
  let s : State := State.reset
  let s : State := { s with gfx := { s.gfx with ctx := [] } }
  decide ((s.gx x.val).job = none) &&
  true) = true := by decide +kernel

theorem hyp_GraphicsJobs_9 :
  (
  let x : Fin 32 := 0
  let s : State := State.reset
  let s : State := { s with mer.windows := [] }
  let s : State := tinyGfx x.val [[0x11]] { first := 0, start := 0, bound := 0, window := 0, prio := 0, run := some 0, runOp := 0x11, committing := true } s
  Option.elim (β := Bool) ((s.gx x.val).job) false fun j =>
  decide (j.committing = true) &&
  decide (s.mer.windows = []) &&
  let d := s.gxConcern x.val j
  let a := s.get (Reg.GFX_CX_CPL_BASE_BASE x.val) + 32 * s.get (Reg.GFX_Q_CPL_WPTR_CPL_WPTR x.val)
  true) = true := by decide +kernel

theorem hyp_GraphicsJobs_10 :
  (
  let x : Fin 32 := 0
  let s : State := State.reset
  let s : State := { s with mer.windows := [] }
  let s : State := tinyGfx x.val [[0x11, 0x80000011, 0x100, 0x10]] { first := 0, start := 0, bound := 0, window := 0, prio := 0, run := some 0, runOp := 0x11, committing := true } s
  Option.elim (β := Bool) ((s.gx x.val).job) false fun j =>
  decide (j.committing = true) &&
  decide (s.mer.windows = []) &&
  let d := s.gxConcern x.val j
  decide (flipOf d = true) &&
  true) = true := by decide +kernel

theorem hyp_GraphicsJobs_11 :
  (
  let x : Fin 32 := 0
  let s : State := State.reset
  let s : State := tinyGfx x.val [[0x11]] { first := 0, start := 0, bound := 0, window := 0, prio := 0 } s
  Option.elim (β := Bool) ((s.gx x.val).job) false fun j =>
  decide (j.committing = false) &&
  true) = true := by decide +kernel

theorem hyp_GraphicsJobs_12 :
  (
  let x : Fin 32 := 0
  let s : State := State.reset
  let s : State := tinyGfx x.val [[0x11, 0x80000000]] { first := 0, start := 0, bound := 1000000000000, window := 0, prio := 0 } s
  let s : State := tinyWindow 0 3 0 s
  let s : State := ((s.set (Reg.DSP_PL_CTRL_EN 0 0) 1).set (Reg.DSP_PL_CTRL_JOB 0 0) 1).set (Reg.DSP_CTRL_LOCK_EN 0) 0
  Option.elim (β := Bool) (s.flipCommit x.val) false fun d =>
  Option.elim (β := Bool) (s.composeWindow x.val) false fun w =>
  decide (s.slackLow x.val d w = true) &&
  decide ((s.gx x.val).preempts = none) &&
  true) = true := by decide +kernel

theorem hyp_GraphicsJobs_13 :
  (
  let x : Fin 32 := 0
  let s : State := State.reset
  let s : State := { s with gfx := { s.gfx with ctx := [] }, mer := { s.mer with windows := [] } }
  decide (s.composeWindow x.val = none) &&
  true) = true := by decide +kernel

theorem hyp_GraphicsJobs_14 :
  (
  let x : Fin 32 := 0
  let rem : Bool := true
  let s : State := State.reset
  let s : State := tinyGfx x.val [[0x2]] { first := 0, start := 0, bound := 0, window := 0, prio := 0, run := some 0, runOp := 2, yieldSince := some 0 } s
  Option.elim (β := Bool) ((s.gx x.val).job) false fun j =>
  Option.elim (β := Bool) (j.yieldSince) false fun u =>
  decide (j.runOp = 2) &&
  decide (j.run.isSome = true) &&
  decide (rem = true) &&
  true) = true := by decide +kernel

theorem hyp_GraphicsJobs_15 :
  (
  let x : Fin 32 := 0
  let rem : Bool := false
  let s : State := State.reset
  let s : State := tinyGfx x.val [[0x2]] { first := 0, start := 0, bound := 0, window := 0, prio := 0, run := some 0, runOp := 2, yieldSince := some 0 } s
  Option.elim (β := Bool) ((s.gx x.val).job) false fun j =>
  Option.elim (β := Bool) (j.yieldSince) false fun u =>
  decide (rem = false) &&
  true) = true := by decide +kernel

theorem hyp_DisplayControllers_1 :
  (
  let who : Agent := .sec 0 .m none
  let d : Fin 4 := 0
  let v : BitVec 32 := 0x80000010
  let s : State := State.reset
  let s : State := s.set (Reg.DSP_CTRL_EN d.val) 0
  let s : State := ((((s.set (Reg.DSP_CTRL_EN d.val) 0).set (Reg.DSP_LINK_LANES d.val) 4).set (Reg.DSP_LINK_RATE d.val) 0).set (Reg.DSP_LOCK_M d.val) 1).set (Reg.DSP_LINK_DUAL d.val) 0
  let s : State := ((((s.set (Reg.DSP_HTIMING_HACTIVE d.val) 640).set (Reg.DSP_HTIMING_HTOTAL d.val) 800).set (Reg.DSP_VTIMING_VACTIVE d.val) 480).set (Reg.DSP_VTIMING_VTOTAL d.val) 525).set (Reg.DSP_PCLK_PCLK_KHZ d.val) 25000
  decide (Passes s who (Reg.DSP_CTRL_addr d.val) true) &&
  decide (s.bit (Reg.DSP_CTRL_EN d.val) = false) &&
  decide ((s.setAll (dspReg d.val v.toNat).locked).dspCheck d.val = Code.ok) &&
  true) = true := by decide +kernel

theorem hyp_DisplayControllers_2 :
  (
  let who : Agent := .sec 0 .m none
  let d : Fin 4 := 0
  let v : BitVec 32 := 0x80000000
  let s : State := State.reset
  let s : State := s.set (Reg.DSP_CTRL_EN d.val) 0
  decide (Passes s who (Reg.DSP_CTRL_addr d.val) true) &&
  decide (s.bit (Reg.DSP_CTRL_EN d.val) = false) &&
  let c := (s.setAll (dspReg d.val v.toNat).locked).dspCheck d.val
  decide (c ≠ Code.ok) &&
  true) = true := by decide +kernel

theorem hyp_DisplayControllers_3 :
  (
  let d : Fin 4 := 0
  let s : State := State.reset
  let s : State := s.set (Reg.DSP_CTRL_EN d.val) 1
  let s : State := { s with gfx := { s.gfx with dsp := [(d.val, { trained := true })] } }
  decide (s.bit (Reg.DSP_CTRL_EN d.val) = true) &&
  true) = true := by decide +kernel

theorem hyp_DisplayControllers_4 :
  (
  let d : Fin 4 := 0
  let s : State := State.reset
  let s : State := s.set (Reg.DSP_CTRL_EN d.val) 0
  decide (s.bit (Reg.DSP_CTRL_EN d.val) = false) &&
  true) = true := by decide +kernel

theorem hyp_DisplayControllers_6 :
  (
  let d : Fin 4 := 0
  let ecc : List (BitVec 16 × BitVec 16) := []
  let s : State := State.reset
  let s : State := s.set (Reg.DSP_CTRL_EN d.val) 1
  let s : State := (s.set (Reg.DSP_CTRL_LOCK_EN d.val) 0).set (Reg.DSP_PL_CTRL_EN d.val 1) 1
  let s : State := (s.set (Reg.DSP_PL_CTRL_JOB d.val 1) 1).setDp d.val { s.dp d.val with pending := [(1, [(0x1000000000, 0)])] }
  let s : State := tinyOn s
  let s : State := { s with datum := 7 }
  decide (s.bit (Reg.DSP_CTRL_EN d.val) = true) &&
  decide (s.unitOff 13 (34 + d.val) 9 = false) &&
  decide (ecc = []) &&
  true) = true := by decide +kernel

theorem hyp_DisplayControllers_7 :
  (
  let d : Fin 4 := 0
  let s : State := State.reset
  let s : State := s.set (Reg.DSP_CTRL_EN d.val) 0
  decide (s.bit (Reg.DSP_CTRL_EN d.val) = false) &&
  true) = true := by decide +kernel

theorem hyp_DisplayControllers_8 :
  (
  let who : Agent := .sec 0 .m none
  let d : Fin 4 := 0
  let r : Fin 16 := 0
  let s : State := State.reset
  let s : State := s.fbSet 0x7300 0x10 0
  decide (Passes s who (Reg.DSP_CR_EXP_addr d.val r.val) true) &&
  decide ((s.attrOf who).partition = s.fbGet 0x7300 0x10) &&
  true) = true := by decide +kernel

theorem hyp_DisplayControllers_9 :
  (
  let who : Agent := .sec 0 .m none
  let d : Fin 4 := 0
  let r : Fin 16 := 0
  let s : State := State.reset
  let s : State := s.fbSet 0x7300 0x10 9
  decide (Passes s who (Reg.DSP_CR_EXP_addr d.val r.val) true) &&
  decide ((s.attrOf who).partition ≠ s.fbGet 0x7300 0x10) &&
  true) = true := by decide +kernel

theorem hyp_DisplayControllers_10 :
  (
  let d : Fin 4 := 0
  let r : Fin 16 := 0
  let s : State := State.reset
  let s : State := s.set (Reg.DSP_CTRL_EN d.val) 1
  let s : State := s.set (Reg.DSP_CR_CTRL_EN d.val r.val) 1
  let s : State := (((s.set (Reg.DSP_CR_SIZE_W d.val r.val) 1).set (Reg.DSP_CR_SIZE_H d.val r.val) 1).set (Reg.DSP_CR_CTRL_EN d.val r.val) 1).fbSet 0x7300 0x11 2
  let s : State := s.setDp d.val { s.dp d.val with exps := [(r.val, s.get (Reg.DSP_FRAME_FRAME d.val) * 2 ^ 32)], late := [] }
  decide (s.bit (Reg.DSP_CTRL_EN d.val) = true) &&
  decide (s.bit (Reg.DSP_CR_CTRL_EN d.val r.val) = true) &&
  let e := KMap.getD (s.dp d.val).exps r.val 0
  decide (e / 2 ^ 32 ≤ s.get (Reg.DSP_FRAME_FRAME d.val)) &&
  decide (s.get (Reg.DSP_FRAME_FRAME d.val) - e / 2 ^ 32 < s.fbGet 0x7300 0x11) &&
  decide ((s.dp d.val).late = []) &&
  true) = true := by decide +kernel

theorem hyp_DisplayControllers_11 :
  (
  let d : Fin 4 := 0
  let r : Fin 16 := 0
  let s : State := State.reset
  let s : State := s.set (Reg.DSP_CTRL_EN d.val) 1
  let s : State := s.set (Reg.DSP_CR_CTRL_EN d.val r.val) 1
  let s : State := ((s.set (Reg.DSP_CR_SIZE_W d.val r.val) 1).set (Reg.DSP_CR_SIZE_H d.val r.val) 1).set (Reg.DSP_CR_CTRL_EN d.val r.val) 1
  let s : State := (s.fbSet 0x7300 0x11 2).setDp d.val { s.dp d.val with exps := [(r.val, (s.get (Reg.DSP_FRAME_FRAME d.val) + 1) * 2 ^ 32)], late := [] }
  decide (s.bit (Reg.DSP_CTRL_EN d.val) = true) &&
  decide (s.bit (Reg.DSP_CR_CTRL_EN d.val r.val) = true) &&
  let e := KMap.getD (s.dp d.val).exps r.val 0
  decide (s.get (Reg.DSP_FRAME_FRAME d.val) < e / 2 ^ 32) &&
  true) = true := by decide +kernel

theorem hyp_DisplayControllers_12 :
  (
  let d : Fin 4 := 0
  let r : Fin 16 := 0
  let s : State := State.reset
  let s : State := s.set (Reg.DSP_CR_CTRL_EN d.val r.val) 0
  decide (s.bit (Reg.DSP_CR_CTRL_EN d.val r.val) = false) &&
  true) = true := by decide +kernel

theorem hyp_CaptureSources_1 :
  (
  let who : Agent := .sec 0 .m none
  let i : Fin 32 := 0
  let v : BitVec 32 := 0xC000A800
  let s : State := State.reset
  let s : State := s.set (Reg.MED_CS_CTRL_EN i.val) 0
  let s : State := tinyCap 33 s
  let s : State := ((s.set (Reg.MED_CS_SIZE_W i.val) 16).set (Reg.MED_CS_SIZE_H i.val) 16).set (Reg.MED_CS_RATE_FPS_MAX i.val) 30
  let s : State := (((s.set (Reg.MED_CS_BUFCFG_NBUF i.val) 3).set (Reg.MED_CS_BUFCFG_BUF_KIB i.val) 1).set (Reg.MED_CS_RLOG2_LOG2 i.val) 4)
  decide (Passes s who (Reg.MED_CS_CTRL_addr i.val) true) &&
  decide (s.bit (Reg.MED_CS_CTRL_EN i.val) = false) &&
  decide ((s.setAll (capReg i.val v.toNat).locked).csCheck i.val = Code.ok) &&
  true) = true := by decide +kernel

theorem hyp_CaptureSources_2 :
  (
  let who : Agent := .sec 0 .m none
  let i : Fin 32 := 0
  let v : BitVec 32 := 0x80000000
  let s : State := State.reset
  let s : State := s.set (Reg.MED_CS_CTRL_EN i.val) 0
  decide (Passes s who (Reg.MED_CS_CTRL_addr i.val) true) &&
  decide (s.bit (Reg.MED_CS_CTRL_EN i.val) = false) &&
  let c := (s.setAll (capReg i.val v.toNat).locked).csCheck i.val
  decide (c ≠ Code.ok) &&
  true) = true := by decide +kernel

theorem hyp_CaptureSources_3 :
  (
  let who : Agent := .sec 0 .m none
  let i : Fin 32 := 0
  let s : State := State.reset
  let s : State := s.set (Reg.MED_CS_CTRL_EN i.val) 1
  let s : State := { s with med := { s.med with st := [] } }
  decide (Passes s who (Reg.MED_CS_CTRL_addr i.val) true) &&
  decide (s.bit (Reg.MED_CS_CTRL_EN i.val) = true) &&
  decide ((s.heldPictures.any (fun p => p.1 = i.val)) = false) &&
  decide ((s.capSrc i.val).isp = none) &&
  true) = true := by decide +kernel

theorem hyp_CaptureSources_4 :
  (
  let who : Agent := .sec 0 .m none
  let i : Fin 32 := 0
  let s : State := State.reset
  let s : State := s.set (Reg.MED_CS_CTRL_EN i.val) 1
  let s : State := { s with med := { s.med with st := [(0, { job := some { start := 0, window := 0, bound := 0, frame := 0, taken := [⟨{ source := i.val, bucket := 0, flipH := false, flipV := false, rot := 0, cropX := 0, cropY := 0, cropW := 8, cropH := 8, angle := 0, fill := 0 }, some ⟨0, 0, 0, false, false, false, 8, 8, 0, 0, 0, 0⟩, true, false⟩] } })] } }
  decide (Passes s who (Reg.MED_CS_CTRL_addr i.val) true) &&
  decide (s.bit (Reg.MED_CS_CTRL_EN i.val) = true) &&
  decide ((s.heldPictures.any (fun p => p.1 = i.val)) = true ∨ (s.capSrc i.val).isp.isSome = true) &&
  true) = true := by decide +kernel

theorem hyp_CaptureSources_5 :
  (
  let port : Fin 16 := 0
  let h : EccEvent := .uncorrectable
  let s : State := State.reset
  let s : State := tinyRx port.val s
  decide (s.rxOn port.val = true) &&
  decide (h = .uncorrectable) &&
  true) = true := by decide +kernel

theorem hyp_CaptureSources_6 :
  (
  let port : Fin 16 := 0
  let vc : Fin 16 := 0
  let h : EccEvent := .none
  let s : State := State.reset
  let s : State := tinyCap 5 s
  let s : State := tinyRx port.val s
  decide (s.rxOn port.val = true) &&
  decide (h ≠ .uncorrectable) &&
  Option.elim (β := Bool) (uncons' (s.csOf port.val vc.val)) false fun (i, rest) =>
  decide (rest = []) &&
  decide ((s.capSrc i).frame = none) &&
  Option.elim (β := Bool) (s.csNext i) false fun b =>
  true) = true := by decide +kernel

theorem hyp_CaptureSources_7 :
  (
  let port : Fin 16 := 0
  let vc : Fin 16 := 0
  let h : EccEvent := .none
  let s : State := State.reset
  let s : State := (tinyCap 5 s).set (Reg.MED_CS_BUFCFG_NBUF 5) 0
  let s : State := tinyRx port.val s
  decide (s.rxOn port.val = true) &&
  decide (h ≠ .uncorrectable) &&
  Option.elim (β := Bool) (uncons' (s.csOf port.val vc.val)) false fun (i, rest) =>
  decide (rest = []) &&
  decide ((s.capSrc i).frame = none) &&
  decide (s.csNext i = none) &&
  true) = true := by decide +kernel

theorem hyp_CaptureSources_8 :
  (
  let port : Fin 16 := 0
  let vc : Fin 16 := 0
  let dt : BitVec 6 := 0x2A
  let h : EccEvent := .none
  let s : State := State.reset
  let s : State := tinyCap 5 s
  let s : State := s.setCap 5 { frame := some { buf := 0, capture := 0, start := 0, tag := 7, step := s.stepSeq } }
  let s : State := tinyRx port.val s
  decide (s.rxOn port.val = true) &&
  decide (h ≠ .uncorrectable) &&
  decide ((csiBits dt.toNat).isSome = true) &&
  Option.elim (β := Bool) (uncons' (s.csOf port.val vc.val)) false fun (i, rest) =>
  decide (rest = []) &&
  Option.elim (β := Bool) ((s.capSrc i).frame) false fun f =>
  decide (s.get (Reg.MED_CS_CTRL_DT i) = dt.toNat) &&
  true) = true := by decide +kernel

theorem hyp_CaptureSources_9 :
  (
  let port : Fin 16 := 0
  let dt : BitVec 6 := 0x30
  let h : EccEvent := .none
  let s : State := State.reset
  let s : State := tinyRx port.val s
  decide (s.rxOn port.val = true) &&
  decide (h ≠ .uncorrectable) &&
  decide (4 ≤ dt.toNat) &&
  decide (dt.toNat ≠ 0x12) &&
  decide (csiBits dt.toNat = none) &&
  true) = true := by decide +kernel

theorem hyp_CaptureSources_10 :
  (
  let port : Fin 16 := 0
  let vc : Fin 16 := 0
  let h : EccEvent := .none
  let isp : EccEvent := .none
  let s : State := State.reset
  let s : State := tinyCap 5 s
  let s : State := s.setCap 5 { frame := some { buf := 1, capture := 9, start := 0, tag := 7, step := s.stepSeq, lines := 16 } }
  let s : State := tinyRx port.val s
  decide (s.rxOn port.val = true) &&
  decide (h ≠ .uncorrectable) &&
  decide (isp ≠ .uncorrectable) &&
  Option.elim (β := Bool) (uncons' (s.csOf port.val vc.val)) false fun (i, rest) =>
  decide (rest = []) &&
  Option.elim (β := Bool) ((s.capSrc i).frame) false fun f =>
  decide (f.bad = false) &&
  decide (f.lines = s.csH i) &&
  let a := s.csBuffer i f.buf
  let r := s.get (Reg.MED_CS_RING_BASE i) + 32 * ((s.msrc i).seq % 2 ^ s.get (Reg.MED_CS_RLOG2_LOG2 i))
  true) = true := by decide +kernel

theorem hyp_CaptureSources_11 :
  (
  let port : Fin 16 := 0
  let vc : Fin 16 := 0
  let h : EccEvent := .none
  let s : State := State.reset
  let s : State := tinyCap 5 s
  let s : State := s.setCap 5 { frame := some { buf := 1, capture := 9, start := 0, tag := 7, step := s.stepSeq, lines := 15 } }
  let s : State := tinyRx port.val s
  decide (s.rxOn port.val = true) &&
  decide (h ≠ .uncorrectable) &&
  Option.elim (β := Bool) (uncons' (s.csOf port.val vc.val)) false fun (i, rest) =>
  decide (rest = []) &&
  Option.elim (β := Bool) ((s.capSrc i).frame) false fun f =>
  decide (f.bad = true ∨ f.lines ≠ s.csH i) &&
  true) = true := by decide +kernel

theorem hyp_CaptureSources_12 :
  (
  let i : Fin 32 := 0
  let s : State := State.reset
  let s : State := tinyCap i.val s
  let s : State := s.setCap i.val { frame := some { buf := 1, capture := 9, start := 0, tag := 7, step := s.stepSeq, lines := 15 } }
  Option.elim (β := Bool) ((s.capSrc i.val).frame) false fun f =>
  true) = true := by decide +kernel

theorem hyp_CaptureSources_13 :
  (
  let i : Fin 32 := 0
  let s : State := State.reset
  let s : State := { s with med := {} }
  decide ((s.capSrc i.val).frame = none) &&
  true) = true := by decide +kernel

theorem hyp_CaptureSources_14 :
  (
  let i : Fin 32 := 0
  let b : BitVec 32 := 0
  let s : State := State.reset
  let s : State := s.set (Reg.MED_CS_CTRL_EN i.val) 1
  let s : State := tinyWindow 3 5 0 (tinyCap i.val s)
  let s : State := s.set (Reg.SYS_FWD_STATUS_STATE 19) 0
  decide (s.bit (Reg.MED_CS_CTRL_EN i.val) = true) &&
  Option.elim (β := Bool) (s.windowOf 5 (s.get (Reg.MED_CS_CTRL_PARTITION i.val))) false fun w =>
  decide (s.windowHeld w = false) &&
  decide (s.unitOff 14 43 10 = false) &&
  decide (s.fwDown 19 = false) &&
  decide ((s.capSrc i.val).isp = none) &&
  decide (verdict s.datum b.toNat false w = .admitted) &&
  Option.elim (β := Bool) (s.csNext i.val) false fun n =>
  true) = true := by decide +kernel

theorem hyp_CaptureSources_15 :
  (
  let i : Fin 32 := 0
  let s : State := State.reset
  let s : State := s.set (Reg.MED_CS_CTRL_EN i.val) 1
  let s : State := { s with mer.windows := [] }
  let s : State := { s with mer := { s.mer with windows := [] } }
  decide (s.bit (Reg.MED_CS_CTRL_EN i.val) = true) &&
  decide (s.mer.windows = []) &&
  true) = true := by decide +kernel

theorem hyp_CaptureSources_16 :
  (
  let i : Fin 32 := 0
  let isp : EccEvent := .none
  let s : State := State.reset
  let s : State := tinyCap i.val s
  let s : State := s.setCap i.val { isp := some ⟨0x1000400000, 7, 9, 1, s.datum, 1000, 3, s.stepSeq⟩ }
  Option.elim (β := Bool) ((s.capSrc i.val).isp) false fun j =>
  decide (s.datum ≤ j.start + j.bound) &&
  decide (isp ≠ .uncorrectable) &&
  decide (s.reach (s.srcAttr i.val) false j.raw (s.rawBytes i.val) = (.ok, s)) &&
  let a := s.csBuffer i.val j.buf
  let r := s.get (Reg.MED_CS_RING_BASE i.val) + 32 * ((s.msrc i.val).seq % 2 ^ s.get (Reg.MED_CS_RLOG2_LOG2 i.val))
  true) = true := by decide +kernel

theorem hyp_CaptureSources_17 :
  (
  let i : Fin 32 := 0
  let isp : EccEvent := .uncorrectable
  let s : State := State.reset
  let s : State := tinyCap i.val s
  let s : State := s.setCap i.val { isp := some ⟨0x1000400000, 7, 9, 1, s.datum, 1000, 3, s.stepSeq⟩ }
  Option.elim (β := Bool) ((s.capSrc i.val).isp) false fun j =>
  decide (s.datum ≤ j.start + j.bound) &&
  decide (isp = .uncorrectable) &&
  true) = true := by decide +kernel

theorem hyp_CaptureSources_18 :
  (
  let i : Fin 32 := 0
  let isp : EccEvent := .none
  let s : State := State.reset
  let s : State := tinyCap i.val s
  let s : State := { s.setCap i.val { isp := some ⟨0x1000400000, 7, 9, 1, 0, 1000, 3, s.stepSeq⟩ } with datum := 5000 }
  Option.elim (β := Bool) ((s.capSrc i.val).isp) false fun j =>
  decide (j.start + j.bound < s.datum) &&
  true) = true := by decide +kernel

theorem hyp_MediaContexts_1 :
  (
  let who : Agent := .sec 0 .m none
  let x : Fin 64 := 0
  let v : BitVec 32 := 0xC0000000
  let s : State := State.reset
  let s : State := s.set (Reg.MED_CX_ATTR_EN x.val) 0
  let s : State := (((tinyMed x.val none s).set (Reg.MED_CX_ATTR_EN x.val) 0).set (Reg.MED_CX_INIT_INIT_US x.val) 100)
  decide (Passes s who (Reg.MED_CX_ATTR_addr x.val) true) &&
  decide (s.bit (Reg.MED_CX_ATTR_EN x.val) = false) &&
  decide (((s.setAll (mxReg x.val v.toNat).locked).setAll (mxReg x.val v.toNat).free).mxCheck x.val = Code.ok) &&
  true) = true := by decide +kernel

theorem hyp_MediaContexts_2 :
  (
  let who : Agent := .sec 0 .m none
  let x : Fin 64 := 0
  let v : BitVec 32 := 0
  let s : State := State.reset
  let s : State := s.set (Reg.MED_CX_ATTR_EN x.val) 0
  decide (Passes s who (Reg.MED_CX_ATTR_addr x.val) true) &&
  decide (s.bit (Reg.MED_CX_ATTR_EN x.val) = false) &&
  let c := ((s.setAll (mxReg x.val v.toNat).locked).setAll (mxReg x.val v.toNat).free).mxCheck x.val
  decide (c ≠ Code.ok) &&
  true) = true := by decide +kernel

theorem hyp_MediaContexts_3 :
  (
  let who : Agent := .sec 0 .m none
  let x : Fin 64 := 0
  let s : State := State.reset
  let s : State := s.set (Reg.MED_CX_ATTR_EN x.val) 1
  let s : State := { s with med := {} }
  decide (Passes s who (Reg.MED_CX_ATTR_addr x.val) true) &&
  decide (s.bit (Reg.MED_CX_ATTR_EN x.val) = true) &&
  decide ((s.mx x.val).admitted = none) &&
  true) = true := by decide +kernel

theorem hyp_MediaContexts_4 :
  (
  let who : Agent := .sec 0 .m none
  let x : Fin 64 := 0
  let s : State := State.reset
  let s : State := s.set (Reg.MED_CX_ATTR_EN x.val) 1
  let s : State := tinyMed x.val (some (0, 1000, 3)) s
  decide (Passes s who (Reg.MED_CX_ATTR_addr x.val) true) &&
  decide (s.bit (Reg.MED_CX_ATTR_EN x.val) = true) &&
  decide ((s.mx x.val).admitted.isSome = true) &&
  true) = true := by decide +kernel

theorem hyp_MediaContexts_5 :
  (
  let x : Fin 64 := 0
  let s : State := State.reset
  let s : State := s.set (Reg.MED_CX_ATTR_EN x.val) 1
  let s : State := tinyMed x.val none s
  let s : State := s.setMx x.val {}
  let i := (s.get (Reg.MED_Q_RPTR_RPTR x.val) + (s.mx x.val).checked.length) % s.mxSlots x.val
  decide (s.bit (Reg.MED_CX_ATTR_EN x.val) = true) &&
  decide ((s.mx x.val).stopped = false) &&
  decide ((s.mx x.val).checked.all (fun c => c.code == Code.ok) = true) &&
  decide ((s.mx x.val).checked.length < s.mxSlots x.val) &&
  decide (i ≠ s.get (Reg.MED_Q_WPTR_WPTR x.val)) &&
  decide (s.sampleChk x.val (s.sampleDesc x.val i) = Code.ok) &&
  decide (s.reach (s.srcAttr (32 + x.val)) false (s.get (Reg.MED_CX_RING_BASE x.val) + 32 * i) 32 = (.ok, s)) &&
  true) = true := by decide +kernel

theorem hyp_MediaContexts_6 :
  (
  let x : Fin 64 := 0
  let s : State := State.reset
  let s : State := s.set (Reg.MED_CX_ATTR_EN x.val) 1
  decide (s.bit (Reg.MED_CX_ATTR_EN x.val) = true) &&
  decide ((s.get (Reg.MED_Q_RPTR_RPTR x.val) + (s.mx x.val).checked.length) % s.mxSlots x.val = s.get (Reg.MED_Q_WPTR_WPTR x.val)) &&
  true) = true := by decide +kernel

theorem hyp_MediaContexts_7 :
  (
  let x : Fin 64 := 0
  let time : BitVec 32 := 500
  let wd : BitVec 16 := 16
  let ht : BitVec 16 := 16
  let fits : Bool := true
  let oc : MediaOutcome := .ok
  let ten : Bool := true
  let off : BitVec 32 := 0
  let s : State := State.reset
  let s : State := { s with mer.windows := [] }
  let s : State := s.set (Reg.MED_CX_ATTR_ENCODE x.val) 0
  let s : State := tinyMed x.val (some (s.datum, 1000, 3)) s
  Option.elim (β := Bool) ((s.mx x.val).admitted) false fun (start, bw) =>
  Option.elim (β := Bool) (uncons' ((s.mx x.val).checked)) false fun (c, rest) =>
  decide (rest = []) &&
  decide (s.mer.windows = []) &&
  let stop := max s.datum (start + time.toNat)
  decide (stop ≤ start + bw.1) &&
  decide (s.bit (Reg.MED_CX_ATTR_ENCODE x.val) = false) &&
  let d := c.desc
  decide (d.seqhdr = true) &&
  let fmt := if ten && decide (s.get (Reg.MED_CX_ATTR_CODEC x.val) < 2) then 2 else 0
  let a := s.get (Reg.MED_CX_ARENA_BASE x.val) + off.toNat
  let n := pictureBytes fmt wd.toNat ht.toNat
  decide (s.arenaTaken x.val a n = false) &&
  decide (s.dimsBad x.val wd.toNat ht.toNat d.bytes = false) &&
  decide (fits = true) &&
  decide (off.toNat + n ≤ s.get (Reg.MED_CX_ARENA_SIZE_SIZE x.val)) &&
  decide (s.reach (s.srcAttr (32 + x.val)) false d.addr d.bytes = (.ok, s)) &&
  decide (s.reach (s.srcAttr (32 + x.val)) true a n = (.ok, s)) &&
  decide (oc = .ok) &&
  let r := s.get (Reg.MED_CX_CPL_BASE x.val) + 32 * s.get (Reg.MED_Q_CPL_WPTR_CPL_WPTR x.val)
  true) = true := by decide +kernel

theorem hyp_MediaContexts_8 :
  (
  let x : Fin 64 := 0
  let time : BitVec 32 := 0
  let wd : BitVec 16 := 65
  let ht : BitVec 16 := 16
  let ten : Bool := true
  let off : BitVec 32 := 0
  let s : State := State.reset
  let s : State := { s with mer.windows := [] }
  let s : State := s.set (Reg.MED_CX_ATTR_ENCODE x.val) 0
  let s : State := tinyMed x.val (some (s.datum, 1000, 3)) s
  Option.elim (β := Bool) ((s.mx x.val).admitted) false fun (start, bw) =>
  Option.elim (β := Bool) (uncons' ((s.mx x.val).checked)) false fun (c, rest) =>
  decide (rest = []) &&
  decide (s.mer.windows = []) &&
  decide (max s.datum (start + time.toNat) ≤ start + bw.1) &&
  decide (s.bit (Reg.MED_CX_ATTR_ENCODE x.val) = false) &&
  let d := c.desc
  decide (d.seqhdr = true) &&
  decide (s.arenaTaken x.val (s.get (Reg.MED_CX_ARENA_BASE x.val) + off.toNat) (pictureBytes (if ten && decide (s.get (Reg.MED_CX_ATTR_CODEC x.val) < 2) then 2 else 0) wd.toNat ht.toNat) = false) &&
  decide (s.dimsBad x.val wd.toNat ht.toNat d.bytes = true) &&
  true) = true := by decide +kernel

theorem hyp_MediaContexts_9 :
  (
  let x : Fin 64 := 0
  let time : BitVec 32 := 2000
  let s : State := State.reset
  let s : State := tinyMed x.val (some (s.datum, 1000, 3)) s
  Option.elim (β := Bool) ((s.mx x.val).admitted) false fun (start, bw) =>
  decide (start + bw.1 < max s.datum (start + time.toNat)) &&
  true) = true := by decide +kernel

theorem hyp_MediaContexts_10 :
  (
  let x : Fin 64 := 0
  let s : State := State.reset
  let s : State := { s with mer.windows := [] }
  let s : State := tinyMed x.val (some (s.datum, 1000, 3)) s
  Option.elim (β := Bool) ((s.mx x.val).admitted) false fun (start, bw) =>
  Option.elim (β := Bool) (uncons' ((s.mx x.val).checked)) false fun (c, rest) =>
  decide (rest = []) &&
  decide (s.mer.windows = []) &&
  true) = true := by decide +kernel

theorem hyp_MediaContexts_11 :
  (
  let x : Fin 64 := 0
  let s : State := State.reset
  let s : State := { s with med := {} }
  decide ((s.mx x.val).admitted = none) &&
  true) = true := by decide +kernel

theorem hyp_StagingContexts_1 :
  (
  let who : Agent := .sec 0 .m none
  let p : Fin 32 := 0
  let v : BitVec 32 := 0xC0000064
  let s : State := State.reset
  let s : State := s.set (Reg.MED_ST_CTRL_EN p.val) 0
  let s : State := (tinyStage p.val s).set (Reg.MED_ST_CTRL_EN p.val) 0
  let s : State := ((s.set (Reg.MED_ST_TABLE_BASE p.val) 0x1000000000).set (Reg.MED_ST_STALE_STALE_US p.val) 100).set (Reg.MED_ST_BENCH_BASE p.val) 0x1000400000
  let s : State := s.wr 0x1000000000 ([1, 0, 1] ++ List.replicate 61 0 ++ leBytes 2 8 ++ leBytes 2 8 ++ leBytes 4 0x12000 ++ leBytes 8 0x1000300000 ++ leBytes 8 0x1000002000 ++ leBytes 4 0x1000 ++ leBytes 4 0 ++ leBytes 16 0 ++ leBytes 4 0x3F800000 ++ leBytes 4 0x3F800000 ++ leBytes 4 0x3F800000 ++ leBytes 4 0)
  decide (Passes s who (Reg.MED_ST_CTRL_addr p.val) true) &&
  decide (s.bit (Reg.MED_ST_CTRL_EN p.val) = false) &&
  decide ((s.setAll (stReg p.val v.toNat).locked).stCheck p.val = Code.ok) &&
  true) = true := by decide +kernel

theorem hyp_StagingContexts_2 :
  (
  let who : Agent := .sec 0 .m none
  let p : Fin 32 := 0
  let v : BitVec 32 := 0x80000000
  let s : State := State.reset
  let s : State := s.set (Reg.MED_ST_CTRL_EN p.val) 0
  decide (Passes s who (Reg.MED_ST_CTRL_addr p.val) true) &&
  decide (s.bit (Reg.MED_ST_CTRL_EN p.val) = false) &&
  let c := (s.setAll (stReg p.val v.toNat).locked).stCheck p.val
  decide (c ≠ Code.ok) &&
  decide (c ≠ Code.eAccess) &&
  true) = true := by decide +kernel

theorem hyp_StagingContexts_3 :
  (
  let who : Agent := .sec 0 .m none
  let p : Fin 32 := 0
  let v : BitVec 32 := 0x80000064
  let s : State := State.reset
  let s : State := s.set (Reg.MED_ST_CTRL_EN p.val) 0
  let s : State := (tinyStage p.val s).set (Reg.MED_ST_CTRL_EN p.val) 0
  let s : State := ((s.set (Reg.MED_ST_TABLE_BASE p.val) 0x1000000000).set (Reg.MED_ST_STALE_STALE_US p.val) 100).set (Reg.MED_ST_BENCH_BASE p.val) 0x1000400000
  let s : State := (List.range 12).foldl (fun s g => s.set (Reg.DDR_CG_CTRL_OWNER g) 9) s
  decide (Passes s who (Reg.MED_ST_CTRL_addr p.val) true) &&
  decide (s.bit (Reg.MED_ST_CTRL_EN p.val) = false) &&
  decide ((s.setAll (stReg p.val v.toNat).locked).stCheck p.val = Code.eAccess) &&
  true) = true := by decide +kernel

theorem hyp_StagingContexts_4 :
  (
  let who : Agent := .sec 0 .m none
  let p : Fin 32 := 0
  let s : State := State.reset
  let s : State := s.set (Reg.MED_ST_CTRL_EN p.val) 1
  let s : State := { s with med := {} }
  decide (Passes s who (Reg.MED_ST_CTRL_addr p.val) true) &&
  decide (s.bit (Reg.MED_ST_CTRL_EN p.val) = true) &&
  decide ((s.stx p.val).job = none) &&
  true) = true := by decide +kernel

theorem hyp_StagingContexts_5 :
  (
  let who : Agent := .sec 0 .m none
  let p : Fin 32 := 0
  let s : State := State.reset
  let s : State := s.set (Reg.MED_ST_CTRL_EN p.val) 1
  let s : State := tinyStage p.val s
  decide (Passes s who (Reg.MED_ST_CTRL_addr p.val) true) &&
  decide (s.bit (Reg.MED_ST_CTRL_EN p.val) = true) &&
  decide ((s.stx p.val).job.isSome = true) &&
  true) = true := by decide +kernel

theorem hyp_StagingContexts_6 :
  (
  let p : Fin 32 := 0
  let s : State := State.reset
  let s : State := tinyStage p.val s
  Option.elim (β := Bool) ((s.stx p.val).job) false fun j =>
  decide (s.datum ≤ j.start + j.bound) &&
  Option.elim (β := Bool) (uncons' ((s.stx p.val).buckets)) false fun (b, rest) =>
  decide (rest = []) &&
  let wp := s.get (Reg.MED_PBQ_WPTR_WPTR p.val b.1)
  decide (b.1 < 8) &&
  decide ((wp + 1) % b.2.depth ≠ s.get (Reg.MED_PBQ_RPTR_RPTR p.val b.1)) &&
  let ts := j.taken.filter (fun x => x.slot.bucket = b.1)
  decide (ts.length ≤ 16) &&
  decide (ts.length * b.2.stride3 ≤ b.2.entry) &&
  let h := b.2.hdr + wp * 0x200
  let a := b.2.base + wp * b.2.entry
  decide (s.reach (s.stAttr p.val) true h 512 = (.ok, s)) &&
  decide (s.reach (s.stAttr p.val) true a (ts.length * b.2.stride3) = (.ok, s)) &&
  true) = true := by decide +kernel

theorem hyp_StagingContexts_7 :
  (
  let p : Fin 32 := 0
  let s : State := State.reset
  let s : State := (tinyStage p.val s).set (Reg.MED_PBQ_RPTR_RPTR p.val 0) 1
  Option.elim (β := Bool) ((s.stx p.val).job) false fun j =>
  decide (s.datum ≤ j.start + j.bound) &&
  Option.elim (β := Bool) (uncons' ((s.stx p.val).buckets)) false fun (b, rest) =>
  decide (rest = []) &&
  decide ((s.get (Reg.MED_PBQ_WPTR_WPTR p.val b.1) + 1) % b.2.depth = s.get (Reg.MED_PBQ_RPTR_RPTR p.val b.1)) &&
  true) = true := by decide +kernel

theorem hyp_StagingContexts_8 :
  (
  let p : Fin 32 := 0
  let s : State := State.reset
  let s : State := tinyStage p.val { s with datum := 5000 }
  let s : State := { s with datum := 90000 }
  Option.elim (β := Bool) ((s.stx p.val).job) false fun j =>
  decide (j.start + j.bound < s.datum) &&
  true) = true := by decide +kernel

theorem hyp_StagingContexts_9 :
  (
  let p : Fin 32 := 0
  let s : State := State.reset
  let s : State := { s with mer.windows := [] }
  let s : State := tinyStage p.val s
  Option.elim (β := Bool) ((s.stx p.val).job) false fun j =>
  decide (s.mer.windows = []) &&
  true) = true := by decide +kernel

theorem hyp_StagingContexts_10 :
  (
  let p : Fin 32 := 0
  let s : State := State.reset
  let s : State := { s with med := {} }
  decide ((s.stx p.val).job = none) &&
  true) = true := by decide +kernel

theorem hyp_StagingContexts_11 :
  (
  let who : Agent := .sec 0 .m none
  let p : Fin 32 := 0
  let k : Fin 8 := 0
  let v : BitVec 4 := 1
  let s : State := State.reset
  let s : State := (tinyStage p.val s).set (Reg.MED_PBQ_WPTR_WPTR p.val 0) 2
  decide (Passes s who (Reg.MED_PBQ_RPTR_addr p.val k.val) true) &&
  decide (s.attrOf who = s.stAttr p.val) &&
  Option.elim (β := Bool) (KMap.find (s.stx p.val).buckets k.val) false fun b =>
  decide (v.toNat < b.depth) &&
  decide ((v.toNat + b.depth - s.get (Reg.MED_PBQ_RPTR_RPTR p.val k.val)) % b.depth ≤ s.pbDepth p.val k.val b.depth) &&
  true) = true := by decide +kernel

theorem hyp_StagingContexts_12 :
  (
  let who : Agent := .sec 0 .m none
  let p : Fin 32 := 0
  let k : Fin 8 := 0
  let v : BitVec 4 := 3
  let s : State := State.reset
  let s : State := (tinyStage p.val s).set (Reg.MED_PBQ_WPTR_WPTR p.val 0) 2
  decide (Passes s who (Reg.MED_PBQ_RPTR_addr p.val k.val) true) &&
  decide (s.attrOf who = s.stAttr p.val) &&
  Option.elim (β := Bool) (KMap.find (s.stx p.val).buckets k.val) false fun b =>
  decide (b.depth ≤ v.toNat ∨ s.pbDepth p.val k.val b.depth < (v.toNat + b.depth - s.get (Reg.MED_PBQ_RPTR_RPTR p.val k.val)) % b.depth) &&
  true) = true := by decide +kernel

theorem hyp_StagingContexts_13 :
  (
  let who : Agent := .sec 0 .m none
  let p : Fin 32 := 0
  let k : Fin 8 := 0
  let s : State := State.reset
  let s : State := (tinyStage p.val s).set (Reg.MED_ST_CTRL_PARTITION p.val) 3
  decide (Passes s who (Reg.MED_PBQ_RPTR_addr p.val k.val) true) &&
  decide (s.attrOf who ≠ s.stAttr p.val) &&
  true) = true := by decide +kernel

theorem hyp_CheckersAndAttributes_1 :
  (
  let mode : Mode := .m
  let s : State := State.reset
  decide (mode = .m) &&
  true) = true := by decide +kernel

theorem hyp_CheckersAndAttributes_2 :
  (
  let mode : Mode := .hs
  let s : State := State.reset
  decide (mode ≠ .m) &&
  true) = true := by decide +kernel

theorem hyp_CheckersAndAttributes_3 :
  (
  let who : Agent := .sec 0 .m none
  let k : Fin 65 := 0
  let n : BitVec 4 := 2
  let s : State := State.reset
  let s : State := s.set (Reg.CAD_STATUS_COUNT k.val) 3
  decide (Passes s who (Reg.CAD_LOG_ACK_addr k.val) true) &&
  decide (checkerExists k.val = true) &&
  decide (n.toNat ≠ 0) &&
  decide (n.toNat ≠ 15) &&
  decide (n.toNat ≤ s.get (Reg.CAD_STATUS_COUNT k.val)) &&
  decide ((KMap.find s.worlds.dropped k.val).all (fun x => x.1 != s.datum) = true) &&
  true) = true := by decide +kernel

theorem hyp_CheckersAndAttributes_4 :
  (
  let who : Agent := .sec 0 .m none
  let k : Fin 65 := 0
  let n : BitVec 4 := 4
  let s : State := State.reset
  let s : State := s.set (Reg.CAD_STATUS_COUNT k.val) 3
  decide (Passes s who (Reg.CAD_LOG_ACK_addr k.val) true) &&
  decide (checkerExists k.val = true) &&
  decide (n.toNat = 0 ∨ n.toNat = 15 ∨ s.get (Reg.CAD_STATUS_COUNT k.val) < n.toNat) &&
  true) = true := by decide +kernel

theorem hyp_CheckersAndAttributes_5 :
  (
  let who : Agent := .sec 0 .m none
  let k : Fin 65 := 24
  let r : Fin 32 := 3
  let s : State := State.reset
  let s : State := let o := regionOwner k.val; (((s.set (Reg.CAD_CTRL_LOCK o) 0).set (Reg.CAD_RG_CTRL_EN o r.val) 0).set (Reg.CAD_RG_BASE_BASE o r.val) 0x40000).set (Reg.CAD_RG_LIMIT_LIMIT o r.val) 0x40010
  let o := regionOwner k.val
  decide (Passes s who (Reg.CAD_RG_CTRL_addr k.val r.val) true) &&
  decide (checkerExists k.val = true) &&
  decide (k.val ≠ 51) &&
  decide (s.cadLocked k.val = false) &&
  decide (s.bit (Reg.CAD_RG_CTRL_EN o r.val) = false) &&
  decide (s.regionOk o r.val = true) &&
  true) = true := by decide +kernel

theorem hyp_CheckersAndAttributes_6 :
  (
  let who : Agent := .sec 0 .m none
  let k : Fin 65 := 24
  let r : Fin 32 := 3
  let s : State := State.reset
  let s : State := let o := regionOwner k.val; (((s.set (Reg.CAD_CTRL_LOCK o) 0).set (Reg.CAD_RG_CTRL_EN o r.val) 0).set (Reg.CAD_RG_BASE_BASE o r.val) 5).set (Reg.CAD_RG_LIMIT_LIMIT o r.val) 4
  let o := regionOwner k.val
  decide (Passes s who (Reg.CAD_RG_CTRL_addr k.val r.val) true) &&
  decide (checkerExists k.val = true) &&
  decide (k.val ≠ 51) &&
  decide (s.cadLocked k.val = false) &&
  decide (s.bit (Reg.CAD_RG_CTRL_EN o r.val) = false) &&
  decide (s.regionOk o r.val = false) &&
  true) = true := by decide +kernel

theorem hyp_CheckersAndAttributes_7 :
  (
  let who : Agent := .sec 0 .m none
  let k : Fin 65 := 0
  let r : Fin 32 := 0
  let s : State := State.reset
  let s : State := s.set (Reg.CAD_CTRL_LOCK (regionOwner k.val)) 1
  decide (Passes s who (Reg.CAD_RG_CTRL_addr k.val r.val) true) &&
  decide (checkerExists k.val = true) &&
  decide (k.val ≠ 51) &&
  decide (s.cadLocked k.val = true) &&
  true) = true := by decide +kernel

theorem hyp_CheckersAndAttributes_8 :
  (
  let who : Agent := .sec 0 .m none
  let k : Fin 65 := 0
  let r : Fin 32 := 0
  let s : State := State.reset
  let s : State := let o := regionOwner k.val; (s.set (Reg.CAD_CTRL_LOCK o) 0).set (Reg.CAD_RG_CTRL_EN o r.val) 1
  let o := regionOwner k.val
  decide (Passes s who (Reg.CAD_RG_CTRL_addr k.val r.val) true) &&
  decide (checkerExists k.val = true) &&
  decide (k.val ≠ 51) &&
  decide (s.cadLocked k.val = false) &&
  decide (s.bit (Reg.CAD_RG_CTRL_EN o r.val) = true) &&
  true) = true := by decide +kernel

theorem hyp_CheckersAndAttributes_9 :
  (
  let who : Agent := .sec 0 .m none
  let k : Fin 65 := 0
  let s : State := State.reset
  decide (Passes s who (Reg.CAD_CTRL_addr k.val) true) &&
  decide (checkerExists k.val = true) &&
  true) = true := by decide +kernel

theorem hyp_ServiceCalls_3 :
  (
  let core : Fin 16 := 0
  let mode : Mode := .hs
  let p : BitVec 64 := 0
  let s : State := State.reset
  let s : State := { s.fbSet 0x7500 1 0 with worlds := { s.worlds with mwattr := [] } }
  decide (mode = .hs) &&
  decide (s.switchable (s.mwattr core.val).partition = true) &&
  decide (p.toNat < 64) &&
  decide (s.switchable p.toNat = true) &&
  true) = true := by decide +kernel

theorem hyp_ServiceCalls_4 :
  (
  let mode : Mode := .s
  let p : BitVec 64 := 0
  let s : State := State.reset
  decide (mode ≠ .hs ∨ 64 ≤ p.toNat) &&
  true) = true := by decide +kernel

theorem hyp_ServiceCalls_6 :
  (
  let k : BitVec 64 := 0
  let r : BitVec 64 := 0
  let s : State := State.reset
  let s : State := { s with worlds := { s.worlds with plan := [] } }
  decide (KMap.find s.worlds.plan (k.toNat * 32 + r.toNat) = none) &&
  true) = true := by decide +kernel

theorem hyp_ServiceCalls_7 :
  (
  let core : Fin 16 := 0
  let k : BitVec 64 := 24
  let r : BitVec 64 := 25
  let base : BitVec 64 := 0x40000000
  let lim : BitVec 64 := 0x40003FFF
  let parts : BitVec 64 := 0
  let s : State := State.reset
  let s : State := { s.fbSet 0x7500 1 0 with worlds := { s.worlds with plan := [(24 * 32 + 25, (0x40000, 0x40010))], mwattr := [] } }
  let s : State := s.set (Reg.CAD_CTRL_LOCK 24) 0
  Option.elim (β := Bool) (KMap.find s.worlds.plan (k.toNat * 32 + r.toNat)) false fun w =>
  decide (s.hypervisor (s.mwattr core.val).partition = true) &&
  decide (k.toNat < 65) &&
  decide (checkerExists k.toNat = true) &&
  decide (k.toNat ≠ 51) &&
  decide (24 ≤ r.toNat) &&
  decide (r.toNat ≤ 31) &&
  decide (w.1 ≤ base.toNat / 4096) &&
  decide (lim.toNat / 4096 ≤ w.2) &&
  decide (parts.toNat &&& s.fbGet 0x7500 2 = parts.toNat) &&
  decide (s.cadLocked k.toNat = false) &&
  decide (base.toNat / 4096 ≤ lim.toNat / 4096) &&
  decide (pagesInChecker k.toNat (base.toNat / 4096) (lim.toNat / 4096) = true) &&
  let o := regionOwner k.toNat
  true) = true := by decide +kernel

theorem hyp_ServiceCalls_8 :
  (
  let id : BitVec 64 := 0x53000005
  let s : State := State.reset
  decide (0x53000000 ≤ id.toNat) &&
  decide (id.toNat ≤ 0x53FFFFFF) &&
  decide ([0x53000000, 0x53000001, 0x53000002, 0x53000003, 0x53000004, 0x53010001, 0x53010002, 0x53010003, 0x53010010, 0x53010020, 0x53010030, 0x53010031].contains id.toNat = false) &&
  true) = true := by decide +kernel

theorem hyp_ServiceCalls_9 :
  (
  let core : Fin 16 := 0
  let served : Bool := false
  let s : State := State.reset
  let s : State := { s.set Reg.CRY_SEC_STATE_STATE 1 with worlds := { s.worlds with calls := [] } }
  decide (served = false) &&
  decide (MayForward s core.val) &&
  true) = true := by decide +kernel

theorem hyp_ServiceCalls_10 :
  (
  let core : Fin 16 := 0
  let served : Bool := true
  let s : State := State.reset
  let s : State := { s.set Reg.CRY_SEC_STATE_STATE 1 with worlds := { s.worlds with calls := [] } }
  decide (served = true) &&
  decide (MayForward s core.val) &&
  true) = true := by decide +kernel

theorem hyp_ServiceCalls_11 :
  (
  let core : Fin 16 := 0
  let served : Bool := false
  let s : State := State.reset
  let s : State := { s.set Reg.CRY_SEC_STATE_STATE 1 with worlds := { s.worlds with calls := [] } }
  decide (served = false) &&
  decide (MayForward s core.val) &&
  true) = true := by decide +kernel

theorem hyp_ServiceCalls_12 :
  (
  let core : Fin 16 := 0
  let served : Bool := false
  let s : State := State.reset
  let s : State := { s.set Reg.CRY_SEC_STATE_STATE 1 with worlds := { s.worlds with calls := [] } }
  decide (served = false) &&
  decide (MayForward s core.val) &&
  true) = true := by decide +kernel

theorem hyp_ServiceCalls_13 :
  (
  let core : Fin 16 := 0
  let served : Bool := true
  let s : State := State.reset
  let s : State := { s.set Reg.CRY_SEC_STATE_STATE 1 with worlds := { s.worlds with calls := [] } }
  decide (served = true) &&
  decide (MayForward s core.val) &&
  true) = true := by decide +kernel

theorem hyp_ServiceCalls_14 :
  (
  let core : Fin 16 := 0
  let served : Bool := false
  let s : State := State.reset
  let s : State := { s.set Reg.CRY_SEC_STATE_STATE 1 with worlds := { s.worlds with calls := [] } }
  decide (served = false) &&
  decide (MayForward s core.val) &&
  true) = true := by decide +kernel

theorem hyp_ServiceCalls_15 :
  (
  let core : Fin 16 := 0
  let served : Bool := false
  let s : State := State.reset
  let s : State := { s.set Reg.CRY_SEC_STATE_STATE 1 with worlds := { s.worlds with calls := [] } }
  decide (served = false) &&
  decide (MayForward s core.val) &&
  true) = true := by decide +kernel

theorem hyp_ServiceCalls_16 :
  (
  let core : Fin 16 := 0
  let served : Bool := true
  let s : State := State.reset
  let s : State := { s.set Reg.CRY_SEC_STATE_STATE 1 with worlds := { s.worlds with calls := [] } }
  decide (served = true) &&
  decide (MayForward s core.val) &&
  true) = true := by decide +kernel

theorem hyp_ServiceCalls_17 :
  (
  let core : Fin 16 := 0
  let served : Bool := false
  let s : State := State.reset
  let s : State := { s.set Reg.CRY_SEC_STATE_STATE 1 with worlds := { s.worlds with calls := [] } }
  decide (served = false) &&
  decide (MayForward s core.val) &&
  true) = true := by decide +kernel

theorem hyp_ServiceCalls_18 :
  (
  let core : Fin 16 := 0
  let served : Bool := false
  let s : State := State.reset
  let s : State := { s.set Reg.CRY_SEC_STATE_STATE 1 with worlds := { s.worlds with calls := [] } }
  decide (served = false) &&
  decide (MayForward s core.val) &&
  true) = true := by decide +kernel

theorem hyp_ServiceCalls_19 :
  (
  let core : Fin 16 := 0
  let served : Bool := true
  let s : State := State.reset
  let s : State := { s.set Reg.CRY_SEC_STATE_STATE 1 with worlds := { s.worlds with calls := [] } }
  decide (served = true) &&
  decide (MayForward s core.val) &&
  true) = true := by decide +kernel

theorem hyp_ServiceCalls_20 :
  (
  let core : Fin 16 := 0
  let s : State := State.reset
  let s : State := { s.set Reg.CRY_SEC_STATE_STATE 2 with worlds := { s.worlds with calls := [] } }
  decide (KMap.find s.worlds.calls core.val = none) &&
  decide (2 ≤ s.get Reg.CRY_SEC_STATE_STATE) &&
  true) = true := by decide +kernel

theorem hyp_ServiceCalls_21 :
  (
  let core : Fin 16 := 0
  let s : State := State.reset
  let s : State := { s with worlds := { s.worlds with calls := KMap.put [] core.val { seq := 4, service := .random, attr := ⟨false, 1⟩, start := 0, answer := some [0, 9] } } }
  Option.elim (β := Bool) (KMap.find s.worlds.calls core.val) false fun c =>
  Option.elim (β := Bool) (c.answer) false fun l =>
  true) = true := by decide +kernel

theorem hyp_ServiceCalls_22 :
  (
  let core : Fin 16 := 0
  let s : State := State.reset
  let s : State := { s with worlds := { s.worlds with calls := [] } }
  decide (KMap.find s.worlds.calls core.val = none) &&
  true) = true := by decide +kernel

theorem hyp_ServiceCalls_23 :
  (
  let core : Fin 16 := 0
  let s : State := State.reset
  let s : State := { s with worlds := { s.worlds with calls := KMap.put [] core.val { seq := 4, service := .random, attr := ⟨false, 1⟩, start := 0 } } }
  Option.elim (β := Bool) (KMap.find s.worlds.calls core.val) false fun c =>
  true) = true := by decide +kernel

theorem hyp_ServiceCalls_24 :
  (
  let core : Fin 16 := 0
  let s : State := State.reset
  let s : State := { s with worlds := { s.worlds with calls := [] } }
  decide (KMap.find s.worlds.calls core.val = none) &&
  true) = true := by decide +kernel

theorem hyp_KeysAndSecureCluster_1 :
  (
  let who : Agent := .sec 0 .m none
  let k : Fin 32 := 0
  let ty : BitVec 4 := 1
  let s : State := State.reset
  let s : State := s.set (Reg.CRY_KS_CTRL_LOCK k.val) 0
  let s : State := s.set (Reg.CRY_KS_CTRL_LOCK k.val) 0
  decide (Passes s who (Reg.CRY_KS_CTRL_addr k.val) true) &&
  decide (s.bit (Reg.CRY_KS_CTRL_LOCK k.val) = false) &&
  decide (ty.toNat ≤ 1) &&
  true) = true := by decide +kernel

theorem hyp_KeysAndSecureCluster_2 :
  (
  let who : Agent := .sec 0 .m none
  let k : Fin 32 := 0
  let s : State := State.reset
  let s : State := s.set (Reg.CRY_KS_CTRL_LOCK k.val) 1
  decide (Passes s who (Reg.CRY_KS_CTRL_addr k.val) true) &&
  decide (s.bit (Reg.CRY_KS_CTRL_LOCK k.val) = true) &&
  true) = true := by decide +kernel

theorem hyp_KeysAndSecureCluster_3 :
  (
  let who : Agent := .sec 0 .m none
  let k : Fin 32 := 0
  let s : State := State.reset
  let s : State := s.set (Reg.CRY_KS_CTRL_LOCK k.val) 0
  let s : State := s.setKey k.val (some ⟨[1], false, 3, 1⟩)
  decide (Passes s who (Reg.CRY_KS_CTRL_addr k.val) true) &&
  decide (s.bit (Reg.CRY_KS_CTRL_LOCK k.val) = false) &&
  true) = true := by decide +kernel

theorem hyp_KeysAndSecureCluster_4 :
  (
  let who : Agent := .sec 0 .m none
  let k : Fin 32 := 0
  let s : State := State.reset
  let s : State := s.set (Reg.CRY_KS_CTRL_LOCK k.val) 1
  decide (Passes s who (Reg.CRY_KS_CTRL_addr k.val) true) &&
  decide (s.bit (Reg.CRY_KS_CTRL_LOCK k.val) = true) &&
  true) = true := by decide +kernel

theorem hyp_KeysAndSecureCluster_5 :
  (
  let who : Agent := .sec 0 .m none
  let k : Fin 32 := 0
  let s : State := State.reset
  decide (Passes s who (Reg.CRY_KS_CTRL_addr k.val) true) &&
  true) = true := by decide +kernel

theorem hyp_KeysAndSecureCluster_6 :
  (
  let who : Agent := .sec 0 .m none
  let s : State := State.reset
  let s : State := s.set Reg.CRY_SEC_STATE_STATE (1)
  let s : State := { s.set Reg.CRY_SEC_STATE_STATE 1 with worlds := { s.worlds with restarts := [] } }
  let s : State := s.fbSet 0x7500 5 3
  decide (Passes s who Reg.CRY_SEC_CTRL_addr true) &&
  decide (isSec who = true) &&
  decide (s.get Reg.CRY_SEC_STATE_STATE = 1) &&
  decide (s.recentRestarts.length < s.fbGet 0x7500 5) &&
  true) = true := by decide +kernel

theorem hyp_KeysAndSecureCluster_7 :
  (
  let who : Agent := .pairA
  let s : State := State.reset
  decide (Passes s who Reg.CRY_SEC_CTRL_addr true) &&
  decide (isSec who = false ∨ s.get Reg.CRY_SEC_STATE_STATE ≠ 1) &&
  true) = true := by decide +kernel

theorem hyp_KeysAndSecureCluster_8 :
  (
  let s : State := State.reset
  let s : State := s.set Reg.CRY_SWD_CTRL_EN 1
  let s : State := s.set Reg.CRY_SEC_STATE_STATE (1)
  let s : State := { s.set Reg.CRY_SEC_STATE_STATE 1 with worlds := { s.worlds with restarts := [] } }
  let s : State := s.fbSet 0x7500 5 3
  decide (s.bit Reg.CRY_SWD_CTRL_EN = true) &&
  decide (s.get Reg.CRY_SEC_STATE_STATE = 1) &&
  decide ((s.advanceTo (s.worlds.swdStart + s.get Reg.CRY_SWD_CTRL_TIMEOUT_MS * 1000000)).recentRestarts.length < s.fbGet 0x7500 5) &&
  true) = true := by decide +kernel

theorem hyp_KeysAndSecureCluster_9 :
  (
  let s : State := State.reset
  let s : State := s.set Reg.CRY_SWD_CTRL_EN 0
  decide (s.bit Reg.CRY_SWD_CTRL_EN = false) &&
  true) = true := by decide +kernel

theorem hyp_KeysAndSecureCluster_10 :
  (
  let who : Agent := .sec 0 .m none
  let s : State := State.reset
  let s : State := s.set Reg.CRY_SEC_STATE_STATE (2)
  let s : State := { s with worlds.restartPhase := 3 }
  let s : State := { s.set Reg.CRY_SEC_STATE_STATE 2 with worlds := { s.worlds with restartPhase := 3 } }
  decide (Passes s who Reg.CRY_SEC_CTRL_addr true) &&
  decide (isSec who = true) &&
  decide (s.get Reg.CRY_SEC_STATE_STATE = 2) &&
  decide (s.worlds.restartPhase = 3) &&
  true) = true := by decide +kernel

theorem hyp_KeysAndSecureCluster_11 :
  (
  let s : State := State.reset
  let s : State := s.set Reg.CRY_SEC_STATE_STATE (2)
  let s : State := { s with worlds.restartPhase := 2 }
  let s : State := { s.set Reg.CRY_SEC_STATE_STATE 2 with worlds := { s.worlds with restartPhase := 2 } }
  decide (s.get Reg.CRY_SEC_STATE_STATE = 2) &&
  decide (s.worlds.restartPhase = 2) &&
  true) = true := by decide +kernel

theorem hyp_KeysAndSecureCluster_12 :
  (
  let s : State := State.reset
  let s : State := s.set Reg.CRY_SEC_STATE_STATE (1)
  decide (s.get Reg.CRY_SEC_STATE_STATE = 1) &&
  true) = true := by decide +kernel

theorem hyp_KeysAndSecureCluster_13 :
  (
  let who : Agent := .sec 0 .m none
  let key : BitVec 16 := 0xA5C3
  let s : State := State.reset
  decide (Passes s who Reg.CRY_SWD_KICK_addr true) &&
  decide (isSec who = true) &&
  decide (key.toNat = 0xA5C3) &&
  true) = true := by decide +kernel

theorem hyp_KeysAndSecureCluster_14 :
  (
  let who : Agent := .sec 0 .m none
  let key : BitVec 16 := 0
  let s : State := State.reset
  decide (Passes s who Reg.CRY_SWD_KICK_addr true) &&
  decide (key.toNat ≠ 0xA5C3) &&
  true) = true := by decide +kernel

theorem hyp_KeysAndSecureCluster_15 :
  (
  let s : State := State.reset
  let s : State := s.set Reg.CRY_SWD_CTRL_TEST 1
  let s : State := { s with worlds := { s.worlds with swdTest := some 7 } }
  Option.elim (β := Bool) (s.worlds.swdTest) false fun u =>
  decide (s.bit Reg.CRY_SWD_CTRL_TEST = true) &&
  true) = true := by decide +kernel

theorem hyp_KeysAndSecureCluster_16 :
  (
  let who : Agent := .sec 0 .m none
  let clk : Bool := true
  let s : State := State.reset
  decide (clk = true) &&
  decide (Passes s who Reg.PMU_LEASE_CLK_addr true) &&
  true) = true := by decide +kernel

theorem hyp_KeysAndSecureCluster_17 :
  (
  let who : Agent := .sec 0 .m none
  let clk : Bool := false
  let s : State := State.reset
  decide (clk = false) &&
  decide (Passes s who Reg.PMU_LEASE_PD_addr true) &&
  true) = true := by decide +kernel

theorem hyp_InterruptClaims_1 :
  (
  let who : Agent := .pairA
  let tg : Fin 64 := 34
  let s : State := State.reset
  let s : State := tinyIrq 960 34 s
  decide (Passes s who (Reg.ICN_TGT_CLAIM_addr tg.val) false) &&
  decide (s.targetOn tg.val = true) &&
  decide (ownsTarget tg.val who = true) &&
  Option.elim (β := Bool) (s.bestSource tg.val) false fun i =>
  decide (s.mergedNow i (if s.srcMulti i then tg.val else 0) = false) &&
  true) = true := by decide +kernel

theorem hyp_InterruptClaims_2 :
  (
  let who : Agent := .pairA
  let tg : Fin 64 := 34
  let s : State := State.reset
  let s : State := tinyIrq 960 34 s
  let s : State := s.mergeEdge 960 0
  decide (Passes s who (Reg.ICN_TGT_CLAIM_addr tg.val) false) &&
  decide (s.targetOn tg.val = true) &&
  decide (ownsTarget tg.val who = true) &&
  Option.elim (β := Bool) (s.bestSource tg.val) false fun i =>
  decide (s.mergedNow i (if s.srcMulti i then tg.val else 0) = true) &&
  true) = true := by decide +kernel

theorem hyp_InterruptClaims_3 :
  (
  let who : Agent := .pairA
  let tg : Fin 64 := 34
  let s : State := State.reset
  let s : State := { s with icnSrc := [] }
  decide (Passes s who (Reg.ICN_TGT_CLAIM_addr tg.val) false) &&
  decide (s.targetOn tg.val = true) &&
  decide (ownsTarget tg.val who = true) &&
  decide (s.bestSource tg.val = none) &&
  true) = true := by decide +kernel

theorem hyp_InterruptClaims_4 :
  (
  let who : Agent := .pairB
  let tg : Fin 64 := 34
  let s : State := State.reset
  decide (Passes s who (Reg.ICN_TGT_CLAIM_addr tg.val) false) &&
  decide (s.targetOn tg.val = true) &&
  decide (ownsTarget tg.val who = false) &&
  true) = true := by decide +kernel

theorem hyp_InterruptClaims_5 :
  (
  let who : Agent := .pairA
  let tg : Fin 64 := 34
  let id : BitVec 10 := 960
  let s : State := State.reset
  let s : State := (tinyIrq 960 34 s).claimSource 34 960
  decide (Passes s who (Reg.ICN_TGT_COMPLETE_addr tg.val) true) &&
  decide (s.targetOn tg.val = true) &&
  decide (ownsTarget tg.val who = true) &&
  decide ((s.tgt tg.val).frozen = false) &&
  Option.elim (β := Bool) (uncons' ((s.tgt tg.val).stack)) false fun (e, rest) =>
  decide (e.1 = id.toNat) &&
  true) = true := by decide +kernel

theorem hyp_InterruptClaims_6 :
  (
  let who : Agent := .pairA
  let tg : Fin 64 := 34
  let s : State := State.reset
  let s : State := s.setTgt 34 {}
  decide (Passes s who (Reg.ICN_TGT_COMPLETE_addr tg.val) true) &&
  decide (s.targetOn tg.val = true) &&
  decide (ownsTarget tg.val who = true) &&
  decide ((s.tgt tg.val).frozen = true ∨ (s.tgt tg.val).stack = []) &&
  true) = true := by decide +kernel

theorem hyp_InterruptClaims_7 :
  (
  let who : Agent := .pairA
  let tg : Fin 64 := 34
  let id : BitVec 10 := 961
  let s : State := State.reset
  let s : State := s.set Reg.ICN_CTRL_TEST 0
  let s : State := ((tinyIrq 960 34 s).claimSource 34 960).set Reg.ICN_FAULT_VALID 0
  decide (Passes s who (Reg.ICN_TGT_COMPLETE_addr tg.val) true) &&
  decide (s.targetOn tg.val = true) &&
  decide (ownsTarget tg.val who = true) &&
  decide ((s.tgt tg.val).frozen = false) &&
  Option.elim (β := Bool) (uncons' ((s.tgt tg.val).stack)) false fun (e, rest) =>
  decide (e.1 ≠ id.toNat) &&
  decide (s.bit Reg.ICN_CTRL_TEST = false) &&
  true) = true := by decide +kernel

theorem hyp_InterruptClaims_8 :
  (
  let who : Agent := .pairA
  let tg : Fin 64 := 34
  let id : BitVec 10 := 961
  let s : State := State.reset
  let s : State := s.set Reg.ICN_CTRL_TEST 1
  let s : State := (tinyIrq 960 34 s).claimSource 34 960
  decide (Passes s who (Reg.ICN_TGT_COMPLETE_addr tg.val) true) &&
  decide (s.targetOn tg.val = true) &&
  decide (ownsTarget tg.val who = true) &&
  decide ((s.tgt tg.val).frozen = false) &&
  Option.elim (β := Bool) (uncons' ((s.tgt tg.val).stack)) false fun (e, rest) =>
  decide (e.1 ≠ id.toNat) &&
  decide (s.bit Reg.ICN_CTRL_TEST = true) &&
  true) = true := by decide +kernel

theorem hyp_InterruptClaims_9 :
  (
  let who : Agent := .sec 0 .m none
  let tg : BitVec 6 := 34
  let s : State := State.reset
  let s : State := (tinyIrq 960 34 s).claimSource 34 960
  decide (Passes s who Reg.ICN_UNFREEZE_addr true) &&
  decide (tg.toNat < 59) &&
  decide (s.normal who = false) &&
  decide (s.targetOn tg.toNat = true) &&
  true) = true := by decide +kernel

theorem hyp_InterruptClaims_10 :
  (
  let who : Agent := .sec 0 .m none
  let tg : BitVec 6 := 60
  let s : State := State.reset
  decide (Passes s who Reg.ICN_UNFREEZE_addr true) &&
  decide (59 ≤ tg.toNat) &&
  true) = true := by decide +kernel

theorem hyp_InterruptClaims_11 :
  (
  let who : Agent := .work .fabric false 5
  let tg : BitVec 6 := 34
  let s : State := State.reset
  let s : State := tinyRegion 50 0x10200 0x102FF ((tinyIrq 960 34 s).claimSource 34 960)
  decide (Passes s who Reg.ICN_UNFREEZE_addr true) &&
  decide (tg.toNat < 59) &&
  decide (s.normal who = true) &&
  true) = true := by decide +kernel

theorem hyp_InterruptSources_1 :
  (
  let i : Fin 1024 := 0
  let s : State := State.reset
  let s : State := (s.set (Reg.ICN_SRC_CFG_MULTI i.val) 0).setSrc i.val {}
  decide (isEdge i.val = true) &&
  decide (s.srcMulti i.val = false) &&
  decide ((s.src i.val).pend = false) &&
  true) = true := by decide +kernel

theorem hyp_InterruptSources_2 :
  (
  let i : Fin 1024 := 0
  let s : State := State.reset
  let s : State := (s.set (Reg.ICN_SRC_CFG_MULTI i.val) 0).setSrc i.val { pend := true }
  decide (isEdge i.val = true) &&
  decide (s.srcMulti i.val = false) &&
  decide ((s.src i.val).pend = true) &&
  true) = true := by decide +kernel

theorem hyp_InterruptSources_3 :
  (
  let i : Fin 1024 := 0
  let s : State := State.reset
  let s : State := ((s.set (Reg.ICN_SRC_CFG_MULTI i.val) 1).set (Reg.ICN_SRC_TGT_TARGETS i.val) 0xC00000000).setSrc i.val {}
  decide (isEdge i.val = true) &&
  decide (s.srcMulti i.val = true) &&
  decide (s.srcMask i.val ≠ 0) &&
  true) = true := by decide +kernel

theorem hyp_InterruptSources_4 :
  (
  let i : Fin 1024 := 304
  let s : State := State.reset
  decide (isEdge i.val = false) &&
  true) = true := by decide +kernel

theorem hyp_InterruptSources_5 :
  (
  let i : Fin 1024 := 650
  let s : State := State.reset
  let s : State := (s.set (Reg.ICN_SRC_CFG_MULTI i.val) 0).setSrc i.val {}
  decide (isEdge i.val = false) &&
  decide (sourceExists i.val = true) &&
  decide (s.srcMulti i.val = false) &&
  decide ((s.src i.val).act = 0) &&
  true) = true := by decide +kernel

theorem hyp_InterruptSources_6 :
  (
  let i : Fin 1024 := 650
  let s : State := State.reset
  let s : State := (s.set (Reg.ICN_SRC_CFG_MULTI i.val) 0).setSrc i.val { act := 1 }
  decide (isEdge i.val = false) &&
  decide (sourceExists i.val = true) &&
  decide (s.srcMulti i.val = false) &&
  decide ((s.src i.val).act ≠ 0) &&
  true) = true := by decide +kernel

theorem hyp_InterruptSources_7 :
  (
  let i : Fin 1024 := 0
  let s : State := State.reset
  decide (isEdge i.val = true) &&
  true) = true := by decide +kernel

theorem hyp_InterruptSources_8 :
  (
  let who : Agent := .sec 0 .m none
  let i : Fin 1024 := 960
  let tgt : Bool := false
  let s : State := State.reset
  decide (tgt = false) &&
  decide (Passes s who (Reg.ICN_SRC_CFG_addr i.val) true) &&
  decide (i.val ≠ 612) &&
  decide (isEdge i.val = true) &&
  decide (sourceExists i.val = true) &&
  true) = true := by decide +kernel

theorem hyp_InterruptSources_9 :
  (
  let who : Agent := .sec 0 .m none
  let i : Fin 1024 := 960
  let tgt : Bool := true
  let v : BitVec 64 := 0x400000000
  let s : State := State.reset
  decide (tgt = true) &&
  decide (Passes s who (Reg.ICN_SRC_TGT_addr i.val) true) &&
  decide (i.val ≠ 612) &&
  decide (isEdge i.val = true) &&
  decide (s.maskCheck v.toNat = Code.ok) &&
  true) = true := by decide +kernel

theorem hyp_InterruptSources_10 :
  (
  let who : Agent := .sec 0 .m none
  let i : Fin 1024 := 960
  let tgt : Bool := true
  let v : BitVec 64 := 0x0800000000000000
  let s : State := State.reset
  decide (tgt = true) &&
  decide (Passes s who (Reg.ICN_SRC_TGT_addr i.val) true) &&
  decide (i.val ≠ 612) &&
  decide (sourceExists i.val = true) &&
  decide (s.maskCheck v.toNat ≠ Code.ok) &&
  true) = true := by decide +kernel

theorem hyp_InterruptSources_11 :
  (
  let who : Agent := .sec 0 .m none
  let i : Fin 1024 := 612
  let tgt : Bool := false
  let s : State := State.reset
  decide (i.val = 612) &&
  decide (Passes s who (if tgt then Reg.ICN_SRC_TGT_addr i.val else Reg.ICN_SRC_CFG_addr i.val) true) &&
  true) = true := by decide +kernel

theorem hyp_InterruptSources_12 :
  (
  let who : Agent := .sec 0 .m none
  let n : Fin 64 := 0
  let s : State := State.reset
  let s : State := (((s.set (Reg.ICN_SRC_CFG_MULTI (960 + n.val)) 0).set (Reg.ICN_SRC_CFG_EN (960 + n.val)) 1)).setSrc (960 + n.val) {}
  decide (Passes s who Reg.ICN_SW_SET_addr true) &&
  decide ((s.attrOf who).secure = true ∨ (s.attrOf who).partition = s.get (Reg.ICN_SRC_CFG_OWNER (960 + n.val))) &&
  decide (s.srcEn (960 + n.val) = true) &&
  decide (s.srcMulti (960 + n.val) = false) &&
  decide ((s.src (960 + n.val)).pend = false) &&
  true) = true := by decide +kernel

theorem hyp_InterruptSources_13 :
  (
  let who : Agent := .sec 0 .m none
  let n : Fin 64 := 0
  let s : State := State.reset
  decide (Passes s who Reg.ICN_SW_SET_addr true) &&
  decide ((s.attrOf who).secure = true ∨ (s.attrOf who).partition = s.get (Reg.ICN_SRC_CFG_OWNER (960 + n.val))) &&
  decide (s.srcEn (960 + n.val) = false) &&
  true) = true := by decide +kernel

theorem hyp_InterruptSources_14 :
  (
  let who : Agent := .pairB
  let test : Bool := true
  let s : State := State.reset
  decide (Passes s who Reg.ICN_CTRL_addr true) &&
  decide (who = .pairB) &&
  decide (test = true) &&
  true) = true := by decide +kernel

theorem hyp_InterruptSources_15 :
  (
  let who : Agent := .pairB
  let test : Bool := false
  let s : State := State.reset
  let s : State := s.set Reg.ICN_CTRL_TEST 1
  decide (Passes s who Reg.ICN_CTRL_addr true) &&
  decide (who = .pairB) &&
  decide (test = false) &&
  decide (s.bit Reg.ICN_CTRL_TEST = true) &&
  true) = true := by decide +kernel

theorem hyp_InterruptSources_16 :
  (
  let who : Agent := .sec 0 .m none
  let s : State := State.reset
  decide (Passes s who Reg.ICN_CTRL_addr true) &&
  decide (who ≠ .pairB) &&
  true) = true := by decide +kernel

theorem hyp_GatewayReception_1 :
  (
  let can : Fin 16 := 0
  let fmt : Fin 3 := 0
  let key0 : BitVec 32 := 5
  let key1 : BitVec 32 := 0
  let event : CanError := .none
  let data : List Byte := [1, 2, 3]
  let s : State := State.reset
  let s : State := s.set (Reg.GWY_CAN_CTRL_EN can.val) 1
  let s : State := tinyFlow 7 [0x80000000, 0x100 + can.val, 5, 0, 0x77] {} s
  decide (event = .none) &&
  decide (s.bit (Reg.GWY_CAN_CTRL_EN can.val) = true) &&
  decide (s.get (Reg.GWY_CAN_STATUS_STATE can.val) < 2) &&
  decide (fmt.val = 0) &&
  decide (s.fbaCan can.val fmt.val key0.toNat = false) &&
  Option.elim (β := Bool) (s.flowFor can.val fmt.val key0.toNat key1.toNat) false fun f =>
  decide (f.mapped = false) &&
  decide (isCan f.outIf = true) &&
  decide (data.length ≤ egressMax f.outIf f.outFmt) &&
  decide (f.minGap = 0) &&
  decide ((s.flowVal f.num).lastOut = none) &&
  decide ((s.flowVal f.num).timer = none) &&
  decide ((s.flowVal f.num).fresh = false) &&
  decide (f.num < 65536) &&
  decide ((s.egressOf f.outIf).any (fun x => x.flow = f.num) = false) &&
  true) = true := by decide +kernel

theorem hyp_GatewayReception_2 :
  (
  let can : Fin 16 := 0
  let fmt : Fin 3 := 0
  let key0 : BitVec 32 := 5
  let key1 : BitVec 32 := 0
  let event : CanError := .none
  let s : State := State.reset
  let s : State := s.set (Reg.GWY_CAN_CTRL_EN can.val) 1
  let s : State := tinyFlow 7 [0x80000000, 0x100 + can.val, 5, 0, 0x77, 0, 0, 0, 0, 1000] { fresh := true, lastOut := some s.datum } s
  decide (event = .none) &&
  decide (s.bit (Reg.GWY_CAN_CTRL_EN can.val) = true) &&
  decide (s.get (Reg.GWY_CAN_STATUS_STATE can.val) < 2) &&
  decide (fmt.val = 0) &&
  decide (s.fbaCan can.val fmt.val key0.toNat = false) &&
  Option.elim (β := Bool) (s.flowFor can.val fmt.val key0.toNat key1.toNat) false fun f =>
  decide (f.mapped = false) &&
  decide (f.minGap = 0) &&
  Option.elim (β := Bool) ((s.flowVal f.num).lastOut) false fun l =>
  decide (s.datum < l + f.period) &&
  decide ((s.flowVal f.num).fresh = true) &&
  true) = true := by decide +kernel

theorem hyp_GatewayReception_3 :
  (
  let can : Fin 16 := 0
  let fmt : Fin 3 := 0
  let key0 : BitVec 32 := 5
  let key1 : BitVec 32 := 0
  let event : CanError := .none
  let s : State := State.reset
  let s : State := s.set (Reg.GWY_CAN_CTRL_EN can.val) 1
  let s : State := tinyFlow 7 [0x80000000, 0x100 + can.val, 5, 0, 0x77, 0, 0, 0, 1000] { lastIn := some s.datum } s
  decide (event = .none) &&
  decide (s.bit (Reg.GWY_CAN_CTRL_EN can.val) = true) &&
  decide (s.get (Reg.GWY_CAN_STATUS_STATE can.val) < 2) &&
  decide (fmt.val = 0) &&
  decide (s.fbaCan can.val fmt.val key0.toNat = false) &&
  Option.elim (β := Bool) (s.flowFor can.val fmt.val key0.toNat key1.toNat) false fun f =>
  Option.elim (β := Bool) ((s.flowVal f.num).lastIn) false fun l =>
  decide (f.minGap ≠ 0) &&
  decide (s.datum < l + f.minGap) &&
  true) = true := by decide +kernel

theorem hyp_GatewayReception_4 :
  (
  let can : Fin 16 := 0
  let fmt : Fin 3 := 0
  let key0 : BitVec 32 := 6
  let key1 : BitVec 32 := 0
  let event : CanError := .none
  let s : State := State.reset
  let s : State := s.set (Reg.GWY_CAN_CTRL_EN can.val) 1
  let s : State := tinyFlow 7 [0x80000000, 0x100 + can.val, 5, 0, 0x77] {} s
  decide (event = .none) &&
  decide (s.bit (Reg.GWY_CAN_CTRL_EN can.val) = true) &&
  decide (s.get (Reg.GWY_CAN_STATUS_STATE can.val) < 2) &&
  decide (fmt.val = 0) &&
  decide (s.fbaCan can.val fmt.val key0.toNat = false) &&
  decide (s.flowFor can.val fmt.val key0.toNat key1.toNat = none) &&
  true) = true := by decide +kernel

theorem hyp_GatewayReception_5 :
  (
  let can : Fin 16 := 0
  let event : CanError := .error
  let s : State := State.reset
  let s : State := s.set (Reg.GWY_CAN_CTRL_EN can.val) 1
  decide (event = .error) &&
  decide (s.bit (Reg.GWY_CAN_CTRL_EN can.val) = true) &&
  decide (s.get (Reg.GWY_CAN_STATUS_STATE can.val) < 2) &&
  true) = true := by decide +kernel

theorem hyp_GatewayReception_6 :
  (
  let can : Fin 16 := 0
  let s : State := State.reset
  let s : State := s.set (Reg.GWY_CAN_CTRL_EN can.val) 0
  decide (s.bit (Reg.GWY_CAN_CTRL_EN can.val) = false) &&
  true) = true := by decide +kernel

theorem hyp_GatewayReception_7 :
  (
  let can : Fin 16 := 0
  let s : State := State.reset
  let s : State := s.set (Reg.GWY_CAN_CTRL_EN can.val) 1
  let s : State := s.set (Reg.GWY_CAN_CTRL_AUTO_BO can.val) 1
  let s : State := s.set (Reg.GWY_CAN_STATUS_STATE can.val) (2)
  let s : State := s.set (Reg.GWY_CAN_STATUS_STATE can.val) 2
  decide (s.bit (Reg.GWY_CAN_CTRL_EN can.val) = true) &&
  decide (s.bit (Reg.GWY_CAN_CTRL_AUTO_BO can.val) = true) &&
  decide (s.get (Reg.GWY_CAN_STATUS_STATE can.val) = 2) &&
  true) = true := by decide +kernel

theorem hyp_GatewayReception_8 :
  (
  let can : Fin 16 := 0
  let s : State := State.reset
  let s : State := s.set (Reg.GWY_CAN_CTRL_AUTO_BO can.val) 0
  decide (s.bit (Reg.GWY_CAN_CTRL_AUTO_BO can.val) = false) &&
  true) = true := by decide +kernel

theorem hyp_GatewayReception_9 :
  (
  let lin : Fin 8 := 0
  let id : BitVec 6 := 0x15
  let checksumOk : Bool := true
  let data : List Byte := [9, 8]
  let s : State := State.reset
  let s : State := tinyFlow 7 [0xA0000003, 0x4010 + lin.val, 0x15] {} s
  decide (checksumOk = true) &&
  Option.elim (β := Bool) (s.flowFor (16 + lin.val) 0 id.toNat 0) false fun f =>
  decide (f.mapped = false) &&
  decide (f.outIf = 0x40) &&
  decide (f.minGap = 0) &&
  decide ((s.flowVal f.num).lastOut = none) &&
  decide ((s.flowVal f.num).timer = none) &&
  Option.elim (β := Bool) (s.ep f.endpoint) false fun p =>
  decide (p.rxLog ≤ 12) &&
  let i := s.get (Reg.GWY_EP_RX_WPTR_WPTR f.endpoint)
  decide ((i + 1) % 2 ^ p.rxLog ≠ s.get (Reg.GWY_EP_RX_RPTR_RPTR f.endpoint)) &&
  decide (data.length ≤ 2 ^ p.slotLog - 32) &&
  let a := p.rx + 2 ^ p.slotLog * i
  decide (s.reach p.owner true a (32 + data.length) = (.ok, s)) &&
  true) = true := by decide +kernel

theorem hyp_GatewayReception_10 :
  (
  let checksumOk : Bool := false
  let s : State := State.reset
  decide (checksumOk = false) &&
  true) = true := by decide +kernel

theorem hyp_GatewayReception_11 :
  (
  let lin : Fin 8 := 0
  let s : State := State.reset
  let s : State := { s with gwy := { s.gwy with lin := [(lin.val, 5)] } }
  Option.elim (β := Bool) (KMap.find s.gwy.lin lin.val) false fun x =>
  true) = true := by decide +kernel

theorem hyp_GatewayReception_12 :
  (
  let lin : Fin 8 := 0
  let s : State := State.reset
  decide (KMap.find s.gwy.lin lin.val = none) &&
  true) = true := by decide +kernel

theorem hyp_GatewayReception_13 :
  (
  let fcsOk : Bool := false
  let frame : List Byte := []
  let s : State := State.reset
  decide (fcsOk = false ∨ frame.length < 60 ∨ 9212 < frame.length) &&
  true) = true := by decide +kernel

theorem hyp_GatewayReception_14 :
  (
  let fcsOk : Bool := true
  let frame : List Byte := List.replicate 12 0 ++ [0x88, 0x08] ++ List.replicate 46 0
  let s : State := State.reset
  decide (fcsOk = true) &&
  decide (60 ≤ frame.length) &&
  decide (frame.length ≤ 9212) &&
  decide ((ethView (frame.map BitVec.toNat)).ethType = 0x8808) &&
  true) = true := by decide +kernel

theorem hyp_GatewayReception_15 :
  (
  let mac : Fin 6 := 0
  let fcsOk : Bool := true
  let frame : List Byte := List.replicate 12 0 ++ [0x08, 0x00] ++ List.replicate 46 0
  let s : State := State.reset
  let s : State := s.fbSet 0x5000 (0x10 + mac.val) 0xFFFF
  decide (fcsOk = true) &&
  decide (60 ≤ frame.length) &&
  decide (frame.length ≤ 9212) &&
  let v := ethView (frame.map BitVec.toNat)
  decide (v.ethType ≠ 0x8808) &&
  decide (v.ethType ≠ 0x86DD) &&
  decide (256 ≤ s.fbGet 0x5000 (0x10 + mac.val)) &&
  true) = true := by decide +kernel

theorem hyp_GatewayReception_16 :
  (
  let mac : Fin 6 := 0
  let fcsOk : Bool := true
  let frame : List Byte := tinyPdu []
  let s : State := State.reset
  let s : State := tinyFlow 7 [0x80000000, 0x20 + mac.val, 0xFFF, 9, 0x77, 0, 0, 0, 0, 1000] { lastOut := some s.datum } s
  let s : State := (s.fbSet 0x5000 3 1000).fbSet 0x1100 4 2000
  decide (fcsOk = true) &&
  decide (60 ≤ frame.length) &&
  decide (frame.length ≤ 9212) &&
  let v := ethView (frame.map BitVec.toNat)
  decide (v.ethType = 0x86DD) &&
  Option.elim (β := Bool) (udpOf v.rest) false fun (port, d) =>
  decide (port = s.fbGet 0x5000 3) &&
  decide (port ≠ s.fbGet 0x1100 4) &&
  Option.elim (β := Bool) (uncons' ((pdusOf d.length d).1)) false fun (p, rest) =>
  decide (rest = []) &&
  decide ((pdusOf d.length d).2 = false) &&
  Option.elim (β := Bool) (s.pduFlow mac.val v p.1) false fun f =>
  decide (f.cb = false) &&
  decide (f.mapped = false) &&
  decide (f.minGap = 0) &&
  decide ((s.flowVal f.num).fresh = false) &&
  decide ((s.flowVal f.num).timer = none) &&
  Option.elim (β := Bool) ((s.flowVal f.num).lastOut) false fun l =>
  decide (s.rxNs mac.val < l + f.period) &&
  true) = true := by decide +kernel

theorem hyp_GatewayReception_17 :
  (
  let mac : Fin 6 := 0
  let fcsOk : Bool := true
  let frame : List Byte := tinyPdu [0xF1, 0xC1, 0, 0, 0, 6]
  let s : State := State.reset
  let s : State := tinyFlow 7 [0x88000000, 0x20 + mac.val, 0xFFF, 9, 0x77, 0, 0, 0, 0, 1000] { lastOut := some s.datum } s
  let s : State := (s.fbSet 0x5000 3 1000).fbSet 0x1100 4 2000
  let s : State := s.setRecov 7 ⟨false, 6, true :: List.replicate 31 false, 0⟩
  decide (fcsOk = true) &&
  decide (60 ≤ frame.length) &&
  decide (frame.length ≤ 9212) &&
  let v := ethView (frame.map BitVec.toNat)
  decide (v.ethType = 0x86DD) &&
  Option.elim (β := Bool) (udpOf v.rest) false fun (port, d) =>
  decide (port = s.fbGet 0x5000 3) &&
  decide (port ≠ s.fbGet 0x1100 4) &&
  Option.elim (β := Bool) (uncons' ((pdusOf d.length d).1)) false fun (p, rest) =>
  decide (rest = []) &&
  decide ((pdusOf d.length d).2 = false) &&
  Option.elim (β := Bool) (s.pduFlow mac.val v p.1) false fun f =>
  decide (f.cb = true) &&
  Option.elim (β := Bool) (v.seq) false fun q =>
  let r := s.recovOf f.num
  decide (r.takeAny = false) &&
  decide (q = r.seq) &&
  decide (r.hist.getD 0 false = true) &&
  decide (r.seq < 65536) &&
  true) = true := by decide +kernel

theorem hyp_GatewayReception_18 :
  (
  let flow : Fin 65536 := 0
  let s : State := State.reset
  let s : State := s.setRecov flow.val ⟨false, 6, true :: List.replicate 31 false, 0⟩
  decide ((s.recovOf flow.val).takeAny = false) &&
  true) = true := by decide +kernel

theorem hyp_GatewayReception_19 :
  (
  let mac : Fin 6 := 0
  let s : State := State.reset
  let s : State := (s.set (Reg.ICN_SRC_CFG_MULTI (680 + mac.val)) 0).setSrc (680 + mac.val) {}
  decide (s.srcMulti (680 + mac.val) = false) &&
  decide ((s.src (680 + mac.val)).act = 0) &&
  true) = true := by decide +kernel

theorem hyp_GatewayTransmission_1 :
  (
  let flow : Fin 65536 := 0
  let s : State := State.reset
  let s : State := tinyFlow flow.val [0x80000000, 0x100, 5, 0, 0x77, 0, 0, 0, 0, 1000] { fresh := true, buf := [1, 2], lastOut := some s.datum } s
  let f := s.flow flow.val
  let v := s.flowVal flow.val
  decide (f.valid = true) &&
  decide (v.fresh = true) &&
  Option.elim (β := Bool) (v.lastOut) false fun l =>
  decide (isCan f.outIf = true) &&
  decide (v.buf.length ≤ egressMax f.outIf f.outFmt) &&
  decide ((s.egressOf f.outIf).any (fun x => x.flow = f.num) = false) &&
  true) = true := by decide +kernel

theorem hyp_GatewayTransmission_2 :
  (
  let flow : Fin 65536 := 0
  let s : State := State.reset
  let s : State := tinyFlow flow.val [0x80000000, 0x100, 5, 0, 0x77, 0, 0, 0, 0, 1000] { fresh := true, buf := [1, 2], lastOut := some s.datum } s
  let s : State := s.setEgress 1 [⟨flow.val, 0, 0, 0x77, 0, [5]⟩]
  let f := s.flow flow.val
  let v := s.flowVal flow.val
  decide (f.valid = true) &&
  decide (v.fresh = true) &&
  Option.elim (β := Bool) (v.lastOut) false fun l =>
  decide (isCan f.outIf = true) &&
  decide (v.buf.length ≤ egressMax f.outIf f.outFmt) &&
  decide ((s.egressOf f.outIf).any (fun x => x.flow = f.num) = true) &&
  true) = true := by decide +kernel

theorem hyp_GatewayTransmission_3 :
  (
  let flow : Fin 65536 := 0
  let s : State := State.reset
  decide ((s.flowVal flow.val).fresh = false) &&
  true) = true := by decide +kernel

theorem hyp_GatewayTransmission_4 :
  (
  let flow : Fin 65536 := 0
  let s : State := State.reset
  let s : State := tinyFlow flow.val [0x80000000, 0x100, 5, 0, 0x77, 0, 0, 0, 0, 0, 1000] { lastIn := some s.datum } s
  let f := s.flow flow.val
  let v := s.flowVal flow.val
  Option.elim (β := Bool) (v.lastIn) false fun l =>
  decide (f.valid = true) &&
  decide (f.timeout ≠ 0) &&
  decide (v.timedOut = false) &&
  decide (f.kind = 0) &&
  true) = true := by decide +kernel

theorem hyp_GatewayTransmission_5 :
  (
  let flow : Fin 65536 := 0
  let s : State := State.reset
  decide ((s.flow flow.val).timeout = 0) &&
  true) = true := by decide +kernel

theorem hyp_GatewayTransmission_6 :
  (
  let lin : Fin 8 := 0
  let id : BitVec 6 := 0
  let s : State := State.reset
  let s : State := s.set (Reg.SYS_FWD_STATUS_STATE 21) (0)
  let s : State := { s with gwy := { s.gwy with egress := [] } }
  decide (s.get (Reg.SYS_FWD_STATUS_STATE 21) = 0) &&
  decide ((s.egressOf (16 + lin.val)).find? (fun f => f.key0 % 64 = id.toNat) = none) &&
  true) = true := by decide +kernel

theorem hyp_GatewayTransmission_7 :
  (
  let lin : Fin 8 := 0
  let id : BitVec 6 := 0
  let s : State := State.reset
  let s : State := s.set (Reg.SYS_FWD_STATUS_STATE 21) (0)
  let s : State := { s with gwy := { s.gwy with egress := [(16 + lin.val, [⟨3, 0, 0, 0, 0, [7]⟩])] } }
  decide (s.get (Reg.SYS_FWD_STATUS_STATE 21) = 0) &&
  Option.elim (β := Bool) ((s.egressOf (16 + lin.val)).find? (fun f => f.key0 % 64 = id.toNat)) false fun f =>
  true) = true := by decide +kernel

theorem hyp_GatewayTransmission_8 :
  (
  let s : State := State.reset
  let s : State := s.set (Reg.SYS_FWD_STATUS_STATE 21) (2)
  decide (s.get (Reg.SYS_FWD_STATUS_STATE 21) = 2) &&
  true) = true := by decide +kernel

theorem hyp_GatewayTransmission_9 :
  (
  let iface : BitVec 8 := 3
  let failed : Bool := false
  let s : State := State.reset
  let s : State := s.set (Reg.GWY_CAN_CTRL_EN iface.toNat) 1
  let s : State := { s with gwy := { s.gwy with egress := [(3, [⟨3, 0, 0, 9, 0, [7]⟩, ⟨4, 0, 0, 5, 0, [8]⟩])] } }
  let s : State := (s.set (Reg.GWY_CAN_CTRL_EN 3) 1).set (Reg.GWY_CAN_STATUS_STATE 3) 0
  decide (isCan iface.toNat = true) &&
  decide (failed = false) &&
  decide (s.bit (Reg.GWY_CAN_CTRL_EN iface.toNat) = true) &&
  decide (s.get (Reg.GWY_CAN_STATUS_STATE iface.toNat) < 2) &&
  Option.elim (β := Bool) (canWinner (s.egressOf iface.toNat)) false fun f =>
  true) = true := by decide +kernel

theorem hyp_GatewayTransmission_10 :
  (
  let iface : BitVec 8 := 3
  let failed : Bool := true
  let s : State := State.reset
  let s : State := s.set (Reg.GWY_CAN_CTRL_EN iface.toNat) 1
  let s : State := { s with gwy := { s.gwy with egress := [(3, [⟨3, 0, 0, 9, 0, [7]⟩])] } }
  let s : State := (s.set (Reg.GWY_CAN_CTRL_EN 3) 1).set (Reg.GWY_CAN_STATUS_STATE 3) 0
  decide (isCan iface.toNat = true) &&
  decide (failed = true) &&
  decide (s.bit (Reg.GWY_CAN_CTRL_EN iface.toNat) = true) &&
  decide (s.get (Reg.GWY_CAN_STATUS_STATE iface.toNat) < 2) &&
  Option.elim (β := Bool) (canWinner (s.egressOf iface.toNat)) false fun f =>
  true) = true := by decide +kernel

theorem hyp_GatewayTransmission_11 :
  (
  let iface : BitVec 8 := 0x21
  let pick : BitVec 8 := 0
  let failed : Bool := false
  let s : State := State.reset
  let s : State := { s with gwy := { s.gwy with egress := [(0x21, [⟨3, 0, 0, 9, 0, [7]⟩])] } }
  let s : State := s.set (Reg.GWY_GCL_CTRL_EN 1) 0
  decide (isMac iface.toNat = true) &&
  decide (failed = false) &&
  Option.elim (β := Bool) ((s.egressOf iface.toNat).find? (fun f => f.tc = pick.toNat % 8)) false fun f =>
  decide (bitOf (s.mayFinish (iface.toNat - 0x20)) f.tc = true) &&
  true) = true := by decide +kernel

theorem hyp_GatewayTransmission_12 :
  (
  let who : Agent := .sec 0 .m none
  let mac : Fin 6 := 0
  let value : BitVec 32 := 0x80010000
  let s : State := State.reset
  let s : State := s.set (Reg.GWY_GCL_CTRL_PENDING mac.val) 0
  let s : State := (s.set (Reg.GWY_GCL_ENTRY_ENTRY mac.val 0) 0xFF0F4240).set (Reg.GWY_GCL_CTRL_LEN mac.val) 1
  decide (Passes s who (Reg.GWY_GCL_CTRL_addr mac.val) true) &&
  decide (s.bit (Reg.GWY_GCL_CTRL_PENDING mac.val) = false) &&
  decide (gclChk ((s.set (Reg.GWY_GCL_CTRL_LEN mac.val) (bitsOf value.toNat 24 16)).shadowGate mac.val) false = Code.ok) &&
  true) = true := by decide +kernel

theorem hyp_GatewayTransmission_13 :
  (
  let who : Agent := .sec 0 .m none
  let mac : Fin 6 := 0
  let s : State := State.reset
  let s : State := s.set (Reg.GWY_GCL_CTRL_PENDING mac.val) 1
  let s : State := (s.set (Reg.GWY_GCL_ENTRY_ENTRY mac.val 0) 0xFF0F4240).set (Reg.GWY_GCL_CTRL_LEN mac.val) 1
  decide (Passes s who (Reg.GWY_GCL_CTRL_addr mac.val) true) &&
  decide (s.bit (Reg.GWY_GCL_CTRL_PENDING mac.val) = true) &&
  decide (gclChk (s.shadowGate mac.val) true = Code.eBusy) &&
  true) = true := by decide +kernel

theorem hyp_GatewayTransmission_14 :
  (
  let who : Agent := .sec 0 .m none
  let mac : Fin 6 := 0
  let value : BitVec 32 := 0x80000000
  let s : State := State.reset
  let s : State := s.set (Reg.GWY_GCL_CTRL_PENDING mac.val) 0
  decide (Passes s who (Reg.GWY_GCL_CTRL_addr mac.val) true) &&
  decide (s.bit (Reg.GWY_GCL_CTRL_PENDING mac.val) = false) &&
  decide (bitsOf value.toNat 24 16 = 0) &&
  true) = true := by decide +kernel

theorem hyp_GatewayTransmission_15 :
  (
  let mac : Fin 6 := 0
  let s : State := State.reset
  let s : State := s.set (Reg.GWY_GCL_CTRL_PENDING mac.val) 1
  let s : State := s.set (Reg.GWY_GCL_CTRL_PENDING mac.val) 1
  decide (s.bit (Reg.GWY_GCL_CTRL_PENDING mac.val) = true) &&
  true) = true := by decide +kernel

theorem hyp_GatewayTransmission_16 :
  (
  let mac : Fin 6 := 0
  let s : State := State.reset
  let s : State := s.set (Reg.GWY_GCL_CTRL_PENDING mac.val) 0
  let s : State := (s.set (Reg.GWY_GCL_CTRL_PENDING mac.val) 0).setGcl mac.val { len := 2, base := 0, entries := [0xFF0F4240, 0x010F4240] }
  decide (s.bit (Reg.GWY_GCL_CTRL_PENDING mac.val) = false) &&
  Option.elim (β := Bool) (s.gclOf mac.val) false fun g =>
  true) = true := by decide +kernel

theorem hyp_GatewayTransmission_17 :
  (
  let mac : Fin 6 := 0
  let s : State := State.reset
  let s : State := s.setGcl mac.val { len := 2, base := 0, entries := [0xFF0F4240, 0x010F4240] }
  let s : State := { s.set (Reg.GWY_GCL_CTRL_EN mac.val) 1 with datum := 200000 }
  Option.elim (β := Bool) (s.gclOf mac.val) false fun g =>
  true) = true := by decide +kernel

theorem hyp_GatewayTransmission_18 :
  (
  let mac : Fin 6 := 0
  let s : State := State.reset
  let s : State := s.set (Reg.GWY_GCL_CTRL_EN mac.val) 1
  let s : State := s.setGcl mac.val { len := 2, base := 0, entries := [0xFF0F4240, 0x010F4240] }
  let s : State := { s.set (Reg.GWY_GCL_CTRL_EN mac.val) 1 with datum := 200000 }
  Option.elim (β := Bool) (s.gclOf mac.val) false fun g =>
  decide (s.bit (Reg.GWY_GCL_CTRL_EN mac.val) = true) &&
  decide (g.len = 2) &&
  Option.elim (β := Bool) (uncons' (g.entries)) false fun (x, xs) =>
  Option.elim (β := Bool) (uncons' (xs)) false fun (y, ys) =>
  let k := g.base + (s.datum - g.base) / g.cycle * g.cycle
  decide (g.base ≤ s.datum) &&
  decide (s.datum < k + entryNs x) &&
  decide (0 < entryNs y) &&
  true) = true := by decide +kernel

theorem hyp_GatewayTransmission_19 :
  (
  let endpoint : Fin 256 := 3
  let s : State := State.reset
  let s : State := tinyFlow 7 [0xC0000003, 0x0140, 0, 0, 0x77, 0, 0, 0, 0, 1000] { lastOut := some s.datum } s
  let s : State := s.wr 0x1000020000 (leBytes 2 7 ++ [0, 0] ++ leBytes 4 2 ++ List.replicate 24 0 ++ [5, 6])
  Option.elim (β := Bool) (s.ep endpoint.val) false fun p =>
  decide (p.txLog ≤ 12) &&
  let i := s.get (Reg.GWY_EP_TX_RPTR_RPTR endpoint.val)
  decide (i ≠ s.get (Reg.GWY_EP_TX_WPTR_WPTR endpoint.val)) &&
  let a := p.tx + 2 ^ p.slotLog * i
  decide (s.reach p.owner false a (2 ^ p.slotLog) = (.ok, s)) &&
  let f := s.flow (s.rdLe a 2)
  let len := s.rdLe (a + 4) 4
  decide (txChk endpoint.val p f len = Code.ok) &&
  decide (f.mapped = false) &&
  decide (f.minGap = 0) &&
  decide ((s.flowVal f.num).fresh = false) &&
  decide ((s.flowVal f.num).timer = none) &&
  Option.elim (β := Bool) ((s.flowVal f.num).lastOut) false fun l =>
  decide (s.datum < l + f.period) &&
  true) = true := by decide +kernel

theorem hyp_GatewayTransmission_20 :
  (
  let endpoint : Fin 256 := 3
  let s : State := State.reset
  let s : State := tinyFlow 7 [0x80000000, 0x0140, 0, 0, 0x77, 0, 0, 0, 0, 1000] {} s
  let s : State := s.wr 0x1000020000 (leBytes 2 7 ++ [0, 0] ++ leBytes 4 2 ++ List.replicate 24 0 ++ [5, 6])
  Option.elim (β := Bool) (s.ep endpoint.val) false fun p =>
  decide (p.txLog ≤ 12) &&
  let i := s.get (Reg.GWY_EP_TX_RPTR_RPTR endpoint.val)
  decide (i ≠ s.get (Reg.GWY_EP_TX_WPTR_WPTR endpoint.val)) &&
  let a := p.tx + 2 ^ p.slotLog * i
  decide (s.reach p.owner false a (2 ^ p.slotLog) = (.ok, s)) &&
  decide ((s.flow (s.rdLe a 2)).kind ≠ 2) &&
  true) = true := by decide +kernel

theorem hyp_GatewayRequests_1 :
  (
  let m : Fin 64 := 0
  let s : State := State.reset
  let s : State := tinyMail m.val 2 0x50 (leBytes 4 7 ++ leBytes 4 0 ++ ([0x80000000, 0x100, 5, 0, 0x77] ++ List.replicate 11 0).flatMap (leBytes 4)) s
  let s : State := (s.fbSet 0x5000 2 0x1000200000)
  let s : State := { s with gwy := { s.gwy with flows := [] } }
  let r := s.mbRequest m.val
  decide (Asked s m.val 0x50 r) &&
  let f := (⟨payLe r.payload 0 2, (List.range 16).map (fun i => payLe ((r.payload.drop 8).take 64) (4 * i) 4)⟩ : Flow)
  decide (s.flowChk (s.mbAttr m.val) f = Code.ok) &&
  let a := s.fbGet 0x5000 2 + 64 * f.num
  decide (s.reach ⟨true, 0⟩ true a 64 = (.ok, s)) &&
  decide (a + 64 ≤ s.get (Reg.MBX_MB_RPL_BASE_BASE m.val) ∨ replySlot s m.val + 256 ≤ a) &&
  true) = true := by decide +kernel

theorem hyp_GatewayRequests_2 :
  (
  let m : Fin 64 := 0
  let s : State := State.reset
  let s : State := tinyMail m.val 2 0x50 (leBytes 4 7 ++ leBytes 4 0 ++ ([0xE0000000, 0x100, 5, 0, 0x77] ++ List.replicate 11 0).flatMap (leBytes 4)) s
  let r := s.mbRequest m.val
  decide (Asked s m.val 0x50 r) &&
  let f := (⟨payLe r.payload 0 2, (List.range 16).map (fun i => payLe ((r.payload.drop 8).take 64) (4 * i) 4)⟩ : Flow)
  let c := s.flowChk (s.mbAttr m.val) f
  decide (c ≠ Code.ok) &&
  decide ((s.fwLogOf (serverFw (s.get (Reg.MBX_MB_CFG_SERVER m.val)))).pending = []) &&
  true) = true := by decide +kernel

theorem hyp_GatewayRequests_3 :
  (
  let m : Fin 64 := 0
  let s : State := State.reset
  let s : State := tinyMail m.val 2 0x51 (leBytes 2 9 ++ [0, 0, 1, 0, 0, 0] ++ leBytes 8 0x0800080000) s
  let r := s.mbRequest m.val
  decide (Asked s m.val 0x51 r) &&
  let n := payLe r.payload 4 1
  decide (n = 1) &&
  decide (r.payload.length = 16) &&
  decide (mapBad (payLe r.payload 8 8) = false) &&
  decide (payLe r.payload 0 2 < 65536) &&
  decide (s.gwyMay (s.mbAttr m.val) = true) &&
  true) = true := by decide +kernel

theorem hyp_GatewayRequests_4 :
  (
  let m : Fin 64 := 0
  let s : State := State.reset
  let s : State := tinyMail m.val 2 0x51 (leBytes 2 9 ++ [0, 0, 1, 0, 0, 0] ++ leBytes 8 0x0800080000) s
  let s : State := tinyRegion 0 0x1000000 0x11FFFFF ((s.set (Reg.MBX_MB_CFG_SECURE m.val) 0).fbSet 0x5000 1 5)
  let r := s.mbRequest m.val
  decide (Asked s m.val 0x51 r) &&
  decide (payLe r.payload 4 1 = 1) &&
  decide (r.payload.length = 16) &&
  decide (mapBad (payLe r.payload 8 8) = false) &&
  decide (s.gwyMay (s.mbAttr m.val) = false) &&
  true) = true := by decide +kernel

theorem hyp_GatewayRequests_5 :
  (
  let m : Fin 64 := 0
  let s : State := State.reset
  let s : State := tinyMail m.val 2 0x52 (leBytes 4 4 ++ leBytes 4 0 ++ leBytes 4 0 ++ leBytes 2 5 ++ leBytes 2 6 ++ List.replicate 40 0 ++ [64] ++ List.replicate 15 0) s
  let r := s.mbRequest m.val
  decide (Asked s m.val 0x52 r) &&
  let d := (r.payload.drop 8).take 64
  decide (destBad d = false) &&
  decide (s.gwyMay (s.mbAttr m.val) = true) &&
  true) = true := by decide +kernel

theorem hyp_GatewayRequests_6 :
  (
  let m : Fin 64 := 0
  let s : State := State.reset
  let s : State := tinyMail m.val 2 0x52 (leBytes 4 4 ++ List.replicate 68 0) s
  let r := s.mbRequest m.val
  decide (Asked s m.val 0x52 r) &&
  decide (destBad ((r.payload.drop 8).take 64) = true) &&
  true) = true := by decide +kernel

theorem hyp_GatewayRequests_7 :
  (
  let m : Fin 64 := 0
  let s : State := State.reset
  let s : State := tinyMail m.val 2 0x53 (leBytes 4 0x74403 ++ leBytes 2 0 ++ leBytes 2 100 ++ leBytes 8 0x1000010000 ++ leBytes 8 0x1000020000) s
  let s : State := { s with gwy := { s.gwy with eps := [] } }
  let r := s.mbRequest m.val
  decide (Asked s m.val 0x53 r) &&
  let w0 := payLe r.payload 0 4
  let e := w0 % 256
  decide (s.ep e = none) &&
  decide (4 ≤ bitsOf w0 11 8) &&
  decide (bitsOf w0 11 8 ≤ 12) &&
  decide (4 ≤ bitsOf w0 15 12) &&
  decide (bitsOf w0 15 12 ≤ 12) &&
  decide (6 ≤ bitsOf w0 19 16) &&
  decide (bitsOf w0 19 16 ≤ 14) &&
  decide (payLe r.payload 8 6 % 4096 = 0) &&
  decide (payLe r.payload 16 6 % 4096 = 0) &&
  decide (payLe r.payload 4 2 ≤ payLe r.payload 6 2) &&
  true) = true := by decide +kernel

theorem hyp_GatewayRequests_8 :
  (
  let m : Fin 64 := 0
  let s : State := State.reset
  let s : State := tinyMail m.val 2 0x53 (leBytes 4 0x74403 ++ leBytes 2 0 ++ leBytes 2 100 ++ leBytes 8 0x1000010000 ++ leBytes 8 0x1000020000) s
  let s : State := s.setEp 3 { owner := ⟨true, 0⟩, rxLog := 4, txLog := 4, slotLog := 7, lo := 0, hi := 100, rx := 0x1000010000, tx := 0x1000020000 }
  let r := s.mbRequest m.val
  decide (Asked s m.val 0x53 r) &&
  let w0 := payLe r.payload 0 4
  decide ((s.ep (w0 % 256)).isSome = true) &&
  decide (4 ≤ bitsOf w0 11 8) &&
  decide (bitsOf w0 11 8 ≤ 12) &&
  decide (4 ≤ bitsOf w0 15 12) &&
  decide (bitsOf w0 15 12 ≤ 12) &&
  decide (6 ≤ bitsOf w0 19 16) &&
  decide (bitsOf w0 19 16 ≤ 14) &&
  decide (payLe r.payload 8 6 % 4096 = 0) &&
  decide (payLe r.payload 16 6 % 4096 = 0) &&
  decide (payLe r.payload 4 2 ≤ payLe r.payload 6 2) &&
  true) = true := by decide +kernel

theorem hyp_GatewayRequests_9 :
  (
  let m : Fin 64 := 0
  let s : State := State.reset
  let s : State := tinyMail m.val 2 0x54 (leBytes 4 3) s
  let s : State := s.setEp 3 { owner := ⟨true, 0⟩, rxLog := 4, txLog := 4, slotLog := 7, lo := 0, hi := 100, rx := 0x1000010000, tx := 0x1000020000 }
  let r := s.mbRequest m.val
  decide (Asked s m.val 0x54 r) &&
  let e := payLe r.payload 0 1
  Option.elim (β := Bool) (s.ep e) false fun p =>
  decide (p.owner = s.mbAttr m.val) &&
  true) = true := by decide +kernel

theorem hyp_GatewayRequests_10 :
  (
  let m : Fin 64 := 0
  let s : State := State.reset
  let s : State := tinyMail m.val 2 0x54 (leBytes 4 3) s
  let s : State := { s with gwy := { s.gwy with eps := [] } }
  let r := s.mbRequest m.val
  decide (Asked s m.val 0x54 r) &&
  decide (s.ep (payLe r.payload 0 1) = none) &&
  true) = true := by decide +kernel

theorem hyp_BridgeAborts_1 :
  (
  let who : Agent := .sec 0 .m none
  let addr : BitVec 48 := 0x1A000000
  let s : State := State.reset
  let s : State := s.set (Reg.BRG_FG_STATUS_COUNT 0) 0
  decide ((s.attrOf who).partition < 64) &&
  let n := s.groupOf (s.attrOf who).partition
  decide (s.get (Reg.BRG_FG_STATUS_COUNT n) < 16) &&
  decide (addr.toNat < 0x19010000 ∨ 0x19020000 ≤ addr.toNat) &&
  true) = true := by decide +kernel

theorem hyp_BridgeAborts_2 :
  (
  let addr : BitVec 48 := 0x19012000
  let s : State := State.reset
  let s : State := { s with brg := { s.brg with fences := [2] } }
  let n := (addr.toNat - 0x19010000) / 0x1000
  decide (0x19010000 ≤ addr.toNat) &&
  decide (addr.toNat < 0x19020000) &&
  decide (addr.toNat % 0x1000 = 0) &&
  true) = true := by decide +kernel

theorem hyp_BridgeAborts_3 :
  (
  let s : State := State.reset
  let s : State := { s with brg := { s.brg with aborted := 2 } }
  decide (s.brg.aborted ≠ 0) &&
  true) = true := by decide +kernel

theorem hyp_BridgeAborts_4 :
  (
  let group : Fin 16 := 0
  let s : State := State.reset
  let s : State := s.set (Reg.BRG_FG_STATUS_COUNT group.val) 3
  decide (s.get (Reg.BRG_FG_STATUS_COUNT group.val) < 16) &&
  true) = true := by decide +kernel

theorem hyp_BridgeAborts_5 :
  (
  let group : Fin 16 := 0
  let s : State := State.reset
  let s : State := s.set (Reg.BRG_FG_STATUS_COUNT group.val) 16
  let n := group.val
  decide (s.get (Reg.BRG_FG_STATUS_COUNT n) = 16) &&
  true) = true := by decide +kernel

theorem hyp_BridgeAborts_6 :
  (
  let who : Agent := .sec 0 .m none
  let group : Fin 16 := 0
  let count : BitVec 5 := 2
  let s : State := State.reset
  let s : State := ((s.set (Reg.BRG_FG_STATUS_COUNT group.val) 3).set (Reg.BRG_PART_GROUP_VALID 0) 1).set (Reg.BRG_PART_GROUP_GROUP 0) group.val
  decide (Passes s who (Reg.BRG_FG_ACK_addr group.val) true) &&
  let p := (s.attrOf who).partition
  decide (if group.val = 0 then (s.attrOf who).secure = true else s.bit (Reg.BRG_PART_GROUP_VALID p) = true ∧ s.get (Reg.BRG_PART_GROUP_GROUP p) = group.val) &&
  decide (count.toNat ≠ 0) &&
  decide (count.toNat ≤ s.get (Reg.BRG_FG_STATUS_COUNT group.val)) &&
  decide (s.get (Reg.BRG_FG_STATUS_COUNT group.val) ≤ 16) &&
  true) = true := by decide +kernel

theorem hyp_BridgeAborts_7 :
  (
  let who : Agent := .sec 0 .m none
  let group : Fin 16 := 0
  let count : BitVec 5 := 4
  let s : State := State.reset
  let s : State := ((s.set (Reg.BRG_FG_STATUS_COUNT group.val) 3).set (Reg.BRG_PART_GROUP_VALID 0) 1).set (Reg.BRG_PART_GROUP_GROUP 0) group.val
  decide (Passes s who (Reg.BRG_FG_ACK_addr group.val) true) &&
  let p := (s.attrOf who).partition
  decide (if group.val = 0 then (s.attrOf who).secure = true else s.bit (Reg.BRG_PART_GROUP_VALID p) = true ∧ s.get (Reg.BRG_PART_GROUP_GROUP p) = group.val) &&
  decide (count.toNat = 0 ∨ s.get (Reg.BRG_FG_STATUS_COUNT group.val) < count.toNat) &&
  true) = true := by decide +kernel

theorem hyp_BridgeAborts_8 :
  (
  let who : Agent := .sec 0 .m none
  let group : Fin 16 := 0
  let s : State := State.reset
  let s : State := ((s.set (Reg.BRG_PART_GROUP_VALID 0) 1).set (Reg.BRG_PART_GROUP_GROUP 0) group.val)
  let s : State := { s with brg := { s.brg with written := [(group.val, 2)], fences := [] } }
  decide (Passes s who (Reg.BRG_FG_FENCE_addr group.val) false) &&
  let p := (s.attrOf who).partition
  decide (if group.val = 0 then (s.attrOf who).secure = true else s.bit (Reg.BRG_PART_GROUP_VALID p) = true ∧ s.get (Reg.BRG_PART_GROUP_GROUP p) = group.val) &&
  decide (KMap.getD s.brg.written group.val 0 = 2) &&
  true) = true := by decide +kernel

theorem hyp_BridgeAborts_9 :
  (
  let group : Fin 16 := 0
  let s : State := State.reset
  let s : State := { s with brg := { s.brg with fences := [group.val], fresh := [(group.val, 3)] } }
  decide (s.brg.fences.contains group.val = true) &&
  decide (s.brg.fenceAborted.all (fun x => x.1 != group.val || x.2.1 != s.datum) = true) &&
  true) = true := by decide +kernel

theorem hyp_BridgeAborts_10 :
  (
  let group : Fin 16 := 0
  let s : State := State.reset
  let s : State := { s with brg := { s.brg with fences := [] } }
  decide (s.brg.fences.contains group.val = false) &&
  decide (s.brg.fenceAborted.all (fun x => x.1 != group.val || x.2.1 != s.datum) = true) &&
  true) = true := by decide +kernel

theorem hyp_BridgeAborts_11 :
  (
  let group : Fin 16 := 0
  let s : State := State.reset
  let s : State := (s.set (Reg.BRG_FG_ERRS_ERRS group.val) 4).set (Reg.BRG_FG_STATUS_DROPPED group.val) 0
  let s : State := { s with brg := { s.brg with fences := [], fresh := [(group.val, 3)], fenceAborted := some (group.val, s.datum, 4) } }
  decide (s.brg.fences.contains group.val = false) &&
  decide (s.brg.fenceAborted = some (group.val, s.datum, s.get (Reg.BRG_FG_ERRS_ERRS group.val))) &&
  decide (1 < s.fenceNew group.val) &&
  true) = true := by decide +kernel

theorem hyp_BridgeAborts_12 :
  (
  let who : Agent := .sec 0 .m none
  let window : Fin 16 := 0
  let value : BitVec 32 := 0xE00F0014
  let s : State := State.reset
  let s : State := s.set (Reg.BRG_IW_CTRL_EN window.val) 0
  let s : State := ((s.set (Reg.BRG_IW_CTRL_EN window.val) 0).set (Reg.BRG_IW_OFFSET_OFFSET window.val) 0x100000).set (Reg.BRG_IW_TARGET_TARGET window.val) 0x1000100000
  decide (Passes s who (Reg.BRG_IW_CTRL_addr window.val) true) &&
  decide (s.bit (Reg.BRG_IW_CTRL_EN window.val) = false) &&
  let lg := bitsOf value.toNat 5 0
  decide (12 ≤ lg) &&
  decide (lg ≤ 36) &&
  let off := s.get (Reg.BRG_IW_OFFSET_OFFSET window.val)
  let tgt := s.get (Reg.BRG_IW_TARGET_TARGET window.val)
  decide (off % 2 ^ lg = 0) &&
  decide (tgt % 2 ^ lg = 0) &&
  decide (off + 2 ^ lg ≤ 2 ^ 36) &&
  decide (0x1000000000 ≤ tgt) &&
  decide (tgt + 2 ^ lg ≤ 0x2800000000) &&
  true) = true := by decide +kernel

theorem hyp_BridgeAborts_13 :
  (
  let who : Agent := .sec 0 .m none
  let window : Fin 16 := 0
  let value : BitVec 32 := 0xE00F0014
  let s : State := State.reset
  let s : State := s.set (Reg.BRG_IW_CTRL_EN window.val) 0
  let s : State := ((s.set (Reg.BRG_IW_CTRL_EN window.val) 0).set (Reg.BRG_IW_OFFSET_OFFSET window.val) 0x1000).set (Reg.BRG_IW_TARGET_TARGET window.val) 0x1000100000
  decide (Passes s who (Reg.BRG_IW_CTRL_addr window.val) true) &&
  decide (s.bit (Reg.BRG_IW_CTRL_EN window.val) = false) &&
  let lg := bitsOf value.toNat 5 0
  decide (12 ≤ lg) &&
  decide (lg ≤ 36) &&
  decide (s.get (Reg.BRG_IW_OFFSET_OFFSET window.val) % 2 ^ lg ≠ 0) &&
  true) = true := by decide +kernel

theorem hyp_BridgeAborts_14 :
  (
  let package : Fin 4 := 1
  let offset : BitVec 36 := 0x100010
  let acc : BusOp := .write true [0x5A, 0x5B]
  let ecc : EccEvent := .none
  let s : State := State.reset
  let s : State := ((s.set (Reg.BRG_IW_CTRL_EN 0) 1).set (Reg.BRG_IW_OFFSET_OFFSET 0) 0x100000).set (Reg.BRG_IW_TARGET_TARGET 0) 0x1000100000
  let s : State := ((s.set (Reg.BRG_IW_CTRL_SRC 0) 0xF).set (Reg.BRG_IW_CTRL_SIZE_LOG2 0) 20).set (Reg.BRG_IW_CTRL_SECURE 0) 1
  let s : State := ((s.set (Reg.BRG_IW_CTRL_PARTITION 0) 0).set (Reg.BRG_IW_CTRL_WR 0) 1).set (Reg.DDR_CG_CTRL_OWNER 0) 0
  let s : State := { (s.set (Reg.DDR_CG_CTRL_INLINE_ECC 0) 0) with brg := { s.brg with linkDown := false } }
  let s : State := (s.set Reg.SYS_STRAP_PCIE_MODE 1).set Reg.SYS_STRAP_ERR 0
  let s : State := { s with brg := { s.brg with inbound := [] }, opPools := [] }
  decide (InboundTaken s) &&
  Option.elim (β := Bool) (s.iwFor offset.toNat) false fun w =>
  Option.elim (β := Bool) (match acc with | .write posted data => some (posted, data) | _ => none) false fun (posted, data) =>
  decide (ecc ≠ .uncorrectable) &&
  decide (bitOf (s.get (Reg.BRG_IW_CTRL_SRC w)) package.val = true) &&
  decide (s.bit (Reg.BRG_IW_CTRL_WR w) = true) &&
  let a := s.get (Reg.BRG_IW_TARGET_TARGET w) + (offset.toNat - s.get (Reg.BRG_IW_OFFSET_OFFSET w))
  decide (s.reach1 (s.iwAttr w) true a = (.ok, s)) &&
  true) = true := by decide +kernel

theorem hyp_BridgeAborts_15 :
  (
  let package : Fin 4 := 1
  let offset : BitVec 36 := 0x100010
  let acc : BusOp := .read 4
  let ecc : EccEvent := .none
  let s : State := State.reset
  let s : State := { s with unpub := [] }
  let s : State := ((s.set (Reg.BRG_IW_CTRL_EN 0) 1).set (Reg.BRG_IW_OFFSET_OFFSET 0) 0x100000).set (Reg.BRG_IW_TARGET_TARGET 0) 0x1000100000
  let s : State := ((s.set (Reg.BRG_IW_CTRL_SRC 0) 0xF).set (Reg.BRG_IW_CTRL_SIZE_LOG2 0) 20).set (Reg.BRG_IW_CTRL_SECURE 0) 1
  let s : State := ((s.set (Reg.BRG_IW_CTRL_PARTITION 0) 0).set (Reg.BRG_IW_CTRL_RD 0) 1).set (Reg.DDR_CG_CTRL_OWNER 0) 0
  let s : State := { (s.set (Reg.DDR_CG_CTRL_INLINE_ECC 0) 0) with brg := { s.brg with linkDown := false }, unpub := [] }
  let s : State := (s.set Reg.SYS_STRAP_PCIE_MODE 1).set Reg.SYS_STRAP_ERR 0
  let s : State := { s with brg := { s.brg with inbound := [] }, opPools := [] }
  decide (InboundTaken s) &&
  Option.elim (β := Bool) (s.iwFor offset.toNat) false fun w =>
  Option.elim (β := Bool) (match acc with | .read len => some len | _ => none) false fun len =>
  decide (ecc ≠ .uncorrectable) &&
  decide (bitOf (s.get (Reg.BRG_IW_CTRL_SRC w)) package.val = true) &&
  decide (s.bit (Reg.BRG_IW_CTRL_RD w) = true) &&
  decide (s.unpub = []) &&
  let a := s.get (Reg.BRG_IW_TARGET_TARGET w) + (offset.toNat - s.get (Reg.BRG_IW_OFFSET_OFFSET w))
  decide (s.reach1 (s.iwAttr w) false a = (.ok, s)) &&
  true) = true := by decide +kernel

theorem hyp_BridgeAborts_16 :
  (
  let offset : BitVec 36 := 0
  let acc : BusOp := .write true [0x5A, 0x5B]
  let s : State := State.reset
  let s : State := s.set (Reg.BRG_FG_STATUS_COUNT 0) (0)
  let s : State := { (s.set (Reg.BRG_FG_STATUS_COUNT 0) 0) with brg := { s.brg with linkDown := false } }
  let s : State := (s.set Reg.SYS_STRAP_PCIE_MODE 1).set Reg.SYS_STRAP_ERR 0
  let s : State := (List.range 16).foldl (fun s j => s.set (Reg.BRG_IW_CTRL_EN j) 0) s
  let s : State := { s with brg := { s.brg with inbound := [], windowsWas := none }, opPools := [] }
  decide (InboundTaken s) &&
  decide (s.iwFor offset.toNat = none) &&
  Option.elim (β := Bool) (match acc with | .write posted data => some (posted, data) | _ => none) false fun (posted, data) =>
  decide (s.get (Reg.BRG_FG_STATUS_COUNT 0) = 0) &&
  decide (s.get Reg.SYS_STRAP_PKG_ID < 4) &&
  let i := s.get (Reg.BRG_FG_STATUS_HEAD 0) % 16
  let a := 0x4000000000 + s.get Reg.SYS_STRAP_PKG_ID * 0x1000000000 + offset.toNat
  true) = true := by decide +kernel

theorem hyp_BridgeAborts_17 :
  (
  let offset : BitVec 36 := 0
  let acc : BusOp := .read 4
  let s : State := State.reset
  let s : State := { s with brg := { s.brg with linkDown := false } }
  let s : State := (s.set Reg.SYS_STRAP_PCIE_MODE 1).set Reg.SYS_STRAP_ERR 0
  let s : State := (List.range 16).foldl (fun s j => s.set (Reg.BRG_IW_CTRL_EN j) 0) s
  let s : State := { s with brg := { s.brg with inbound := [], windowsWas := none }, opPools := [] }
  decide (InboundTaken s) &&
  decide (s.iwFor offset.toNat = none) &&
  Option.elim (β := Bool) (match acc with | .read len => some len | _ => none) false fun len =>
  true) = true := by decide +kernel

theorem hyp_BridgeAborts_18 :
  (
  let s : State := State.reset
  let s : State := { s with brg := { s.brg with linkDown := false, inbound := [] }, opPools := [(205, { used := 4096 })] }
  let s : State := (s.set Reg.SYS_STRAP_PCIE_MODE 1).set Reg.SYS_STRAP_ERR 0
  decide (s.pcieDown = false) &&
  decide (s.poolRoom 205 = false) &&
  true) = true := by decide +kernel

theorem hyp_BridgeAborts_19 :
  (
  let unsent : BitVec 16 := 4
  let s : State := State.reset
  let s : State := { s with brg.linkDown := false }
  let s : State := { s with brg.fences := [] }
  let s : State := { (s.set (Reg.BRG_FG_STATUS_COUNT 2) 0) with brg := { s.brg with linkDown := false, fences := [] } }
  decide (s.brg.linkDown = false) &&
  decide (s.brg.fences = []) &&
  decide (unsent = 4) &&
  decide (s.get (Reg.BRG_FG_STATUS_COUNT 2) < 16) &&
  decide ((s.opPool 201).waiting = []) &&
  true) = true := by decide +kernel

theorem hyp_BridgeAborts_20 :
  (
  let s : State := State.reset
  let s : State := { s with brg.linkDown := true }
  let s : State := { s with brg := { s.brg with linkDown := true } }
  decide (s.brg.linkDown = true) &&
  true) = true := by decide +kernel

theorem hyp_FieldBookAccess_1 :
  (
  let carrier : FbaCarrier := .can 3 1 0x6F0
  let bytes : List Byte := [0x11, 0, 0, 0, 0x10, 0x00, 1, 0]
  let s : State := State.reset
  let s : State := tinyFba ⟨.can 0, 1, [], 0⟩ (s.fbSet 0x1100 1 8)
  Option.elim (β := Bool) (match carrier with | .can n fmt key0 => some (n, fmt, key0) | _ => none) false fun (n, fmt, key0) =>
  decide (s.fbaListening = true) &&
  decide (bitOf (s.fbGet 0x1100 1) n.val = true) &&
  decide (s.fbaCanMatch fmt.val key0.toNat = true) &&
  decide (s.fbaMuted (.can n) = false) &&
  let r := (⟨.can n, fmt.val, bytes.map BitVec.toNat, 0⟩ : FbaReq)
  decide (r.form = Code.ok) &&
  decide (s.fba.queue.length < 64) &&
  true) = true := by decide +kernel

theorem hyp_FieldBookAccess_2 :
  (
  let carrier : FbaCarrier := .udp 1 5 6 0xC001
  let bytes : List Byte := [0x16, 0, 0, 0, 0x10, 0x00, 1, 0]
  let s : State := State.reset
  let s : State := tinyFba ⟨.can 0, 1, [], 0⟩ (s.fbSet 0x1100 5 63)
  Option.elim (β := Bool) (match carrier with | .udp mac ip port dport => some (mac, ip, port, dport) | _ => none) false fun (mac, ip, port, dport) =>
  decide (s.fbaListening = true) &&
  decide (bitOf (s.fbGet 0x1100 5) mac.val = true) &&
  decide (dport.toNat = s.fbGet 0x1100 4) &&
  let src := FbaSource.udp mac ip port
  decide (s.fbaMuted src = false) &&
  let r := (⟨src, 0, bytes.map BitVec.toNat, 0⟩ : FbaReq)
  decide (r.form ≠ Code.ok) &&
  decide ((s.fbaCount src).count < 64) &&
  decide ((s.fwLogOf 21).pending = []) &&
  true) = true := by decide +kernel

theorem hyp_FieldBookAccess_3 :
  (
  let carrier : FbaCarrier := .udp 1 5 6 0xC001
  let s : State := State.reset
  let s : State := { s with fba := { s.fba with sources := [⟨.udp 1 5 6, 70, some (s.datum + 5)⟩] } }
  Option.elim (β := Bool) (match carrier with | .udp mac ip port dport => some (mac, ip, port, dport) | _ => none) false fun (mac, ip, port, dport) =>
  decide (s.fbaMuted (.udp mac ip port) = true) &&
  true) = true := by decide +kernel

theorem hyp_FieldBookAccess_4 :
  (
  let s : State := State.reset
  let s : State := { s with fba.record := none }
  let s : State := tinyFba ⟨.udp 1 5 6, 0, [0x11, 0, 0, 0, 0x12, 0x00, 1, 0], 0⟩ s
  Option.elim (β := Bool) (uncons' (s.fba.queue)) false fun (r, rest) =>
  Option.elim (β := Bool) (match r.source with | .udp mac ip port => some (mac, ip, port) | _ => none) false fun (mac, ip, port) =>
  decide (r.op = 1) &&
  decide (r.auth = false) &&
  decide (r.session = 0) &&
  decide (s.fwDown 21 = false) &&
  decide (s.fba.record = none) &&
  decide (s.fba.idled.all (fun x => x.1 != r.session || x.2.1 != s.datum) = true) &&
  decide (s.fbaEntryCode r 0 = Code.ok) &&
  Option.elim (β := Bool) (fbRow r.index r.sub) false fun e =>
  true) = true := by decide +kernel

theorem hyp_FieldBookAccess_5 :
  (
  let s : State := State.reset
  let s : State := { s with fba.record := none }
  let s : State := tinyFba ⟨.udp 1 5 6, 0, [0x11, 0, 0, 0, 0x12, 0x00, 99, 0], 0⟩ s
  Option.elim (β := Bool) (uncons' (s.fba.queue)) false fun (r, rest) =>
  Option.elim (β := Bool) (match r.source with | .udp mac ip port => some (mac, ip, port) | _ => none) false fun (mac, ip, port) =>
  decide (r.op = 1) &&
  decide (r.auth = false) &&
  decide (r.session = 0) &&
  decide (s.fwDown 21 = false) &&
  decide (s.fba.record = none) &&
  decide (s.fba.idled.all (fun x => x.1 != r.session || x.2.1 != s.datum) = true) &&
  let c := s.fbaEntryCode r 0
  decide (c ≠ Code.ok) &&
  decide (c ≠ Code.eAuth) &&
  decide (c ≠ Code.eReplay) &&
  true) = true := by decide +kernel

theorem hyp_FieldBookAccess_6 :
  (
  let s : State := State.reset
  let s : State := { s with fba.record := none }
  let s : State := tinyFba ⟨.udp 1 5 6, 0, [0x13, 0, 0, 0, 0x12, 0x00, 2, 0], 0⟩ s
  Option.elim (β := Bool) (uncons' (s.fba.queue)) false fun (r, rest) =>
  Option.elim (β := Bool) (match r.source with | .udp mac ip port => some (mac, ip, port) | _ => none) false fun (mac, ip, port) =>
  decide (r.op = 3) &&
  decide (r.auth = false) &&
  decide (r.session = 0) &&
  decide (s.fwDown 21 = false) &&
  decide (s.fba.record = none) &&
  decide (s.fba.idled.all (fun x => x.1 != r.session || x.2.1 != s.datum) = true) &&
  Option.elim (β := Bool) (fbRow r.index r.sub) false fun e =>
  true) = true := by decide +kernel

theorem hyp_FieldBookAccess_7 :
  (
  let s : State := State.reset
  let s : State := { s with fba.record := none }
  let s : State := { s with fba.compacting := none }
  let s : State := tinyFba ⟨.mailbox 2, 0, [0x12, 0, 0, 0, 0x12, 0x00, 2, 2, 0, 30], 0⟩ (tinyMail 2 2 0x30 [0x12, 0, 0, 0, 0x12, 0x00, 2, 2, 0, 30] s)
  Option.elim (β := Bool) (uncons' (s.fba.queue)) false fun (r, rest) =>
  Option.elim (β := Bool) (match r.source with | .mailbox m => some m | _ => none) false fun m =>
  decide (r.op = 2) &&
  decide (r.auth = false) &&
  decide ((s.mbAttr m.val).secure = true) &&
  decide (s.fwDown 21 = false) &&
  decide (s.fba.record = none) &&
  decide (s.fba.idled.all (fun x => x.1 != r.session || x.2.1 != s.datum) = true) &&
  decide (s.fba.compacting = none) &&
  decide ((s.jCopy 0).failed = false) &&
  Option.elim (β := Bool) (fbRow r.index r.sub) false fun e =>
  decide (fbPersistent e r.index r.sub = true) &&
  decide (s.fbaEntryCode r 2 = Code.ok) &&
  let a := slotOffset 0 (s.jCopy 0).half (s.jCopy 0).next
  decide (s.jBytes a 56 = List.replicate 56 255) &&
  let body := recordBody s.fba.seq r.index r.sub e.type.code (beBytes e.size (beValue r.value))
  true) = true := by decide +kernel

theorem hyp_FieldBookAccess_8 :
  (
  let s : State := State.reset
  let s : State := { s with fba.record := none }
  let s : State := tinyFba ⟨.mailbox 2, 0, [0x12, 0, 0, 0, 0x12, 0x00, 2, 2, 0, 30], 0⟩ (tinyMail 2 2 0x30 [0x12, 0, 0, 0, 0x12, 0x00, 2, 2, 0, 30] s)
  let s : State := { s with fba := { s.fba with compacting := some 0 } }
  Option.elim (β := Bool) (uncons' (s.fba.queue)) false fun (r, rest) =>
  Option.elim (β := Bool) (match r.source with | .mailbox m => some m | _ => none) false fun m =>
  decide (r.op = 2) &&
  decide (r.auth = false) &&
  decide ((s.mbAttr m.val).secure = true) &&
  decide (s.fwDown 21 = false) &&
  decide (s.fba.record = none) &&
  decide (s.fba.idled.all (fun x => x.1 != r.session || x.2.1 != s.datum) = true) &&
  decide (s.fba.compacting ≠ none) &&
  Option.elim (β := Bool) (fbRow r.index r.sub) false fun e =>
  decide (fbPersistent e r.index r.sub = true) &&
  decide (s.fbaEntryCode r 2 = Code.ok) &&
  true) = true := by decide +kernel

theorem hyp_FieldBookAccess_9 :
  (
  let s : State := State.reset
  let s : State := { s with fba.record := none }
  let s : State := { s with fba.compacting := none }
  let s : State := tinyFba ⟨.udp 1 5 6, 0, tinySigned (List.replicate 16 0) ([0x14, 1, 1, 0, 0, 0, 0, 8] ++ List.replicate 8 0 ++ [0, 0, 0, 5]), 0⟩ s
  Option.elim (β := Bool) (uncons' (s.fba.queue)) false fun (r, rest) =>
  Option.elim (β := Bool) (match r.source with | .udp mac ip port => some (mac, ip, port) | _ => none) false fun (mac, ip, port) =>
  decide (r.op = 4) &&
  decide (s.fwDown 21 = false) &&
  decide (s.fba.record = none) &&
  decide (s.fba.compacting = none) &&
  decide ((s.jCopy 0).failed = false) &&
  decide (s.fbaOpenCode r = Code.ok) &&
  true) = true := by decide +kernel

theorem hyp_FieldBookAccess_10 :
  (
  let s : State := State.reset
  let s : State := { s with fba.record := none }
  let s : State := tinyFba ⟨.udp 1 5 6, 0, tinySigned (List.replicate 16 0) ([0x14, 1, 1, 0, 0, 0, 0, 8] ++ List.replicate 8 0 ++ [0, 0, 0, 5]), 0⟩ s
  let s : State := s.fbSet 0x1210 5 5
  Option.elim (β := Bool) (uncons' (s.fba.queue)) false fun (r, rest) =>
  Option.elim (β := Bool) (match r.source with | .udp mac ip port => some (mac, ip, port) | _ => none) false fun (mac, ip, port) =>
  decide (r.op = 4) &&
  decide (s.fwDown 21 = false) &&
  decide (s.fba.record = none) &&
  decide (s.fbaOpenCode r = Code.eReplay) &&
  true) = true := by decide +kernel

theorem hyp_FieldBookAccess_11 :
  (
  let s : State := State.reset
  let s : State := { s with fba.record := none }
  let s : State := tinyFba ⟨.udp 1 5 6, 0, tinySigned (List.replicate 16 9) [0x15, 1, 1, 0, 0, 0, 0, 0, 0, 0, 0, 7], 0⟩ (s.fbSet 0x1200 1 2)
  Option.elim (β := Bool) (uncons' (s.fba.queue)) false fun (r, rest) =>
  Option.elim (β := Bool) (match r.source with | .udp mac ip port => some (mac, ip, port) | _ => none) false fun (mac, ip, port) =>
  decide (r.op = 5) &&
  decide (r.auth = true) &&
  decide (s.fwDown 21 = false) &&
  decide (s.fba.record = none) &&
  Option.elim (β := Bool) (s.fbaSession r.session) false fun x =>
  Option.elim (β := Bool) (s.fbaKey r.session) false fun key =>
  decide (r.epoch = s.fbaEpoch r.session) &&
  decide (fbaMac key x.nonce r.covered = r.mac) &&
  decide (x.rx < r.fresh) &&
  decide (r.session < 16) &&
  decide (x.tx < 1000) &&
  true) = true := by decide +kernel

theorem hyp_FieldBookAccess_12 :
  (
  let session : Fin 16 := 0
  let s : State := State.reset
  let s : State := s.setFbaSession session.val { source := .can 0, nonce := [] }
  Option.elim (β := Bool) (s.fbaSession session.val) false fun x =>
  true) = true := by decide +kernel

theorem hyp_FieldBookAccess_13 :
  (
  let session : Fin 16 := 0
  let s : State := State.reset
  let s : State := { s with fba := { s.fba with sessions := [] } }
  decide (s.fbaSession session.val = none) &&
  true) = true := by decide +kernel

theorem hyp_FieldBookAccess_14 :
  (
  let source : FbaSource := .udp 1 5 6
  let s : State := State.reset
  let s : State := { s with fba := { s.fba with sources := [⟨.udp 1 5 6, 70, some (s.datum + 5)⟩, ⟨.can 3, 7, none⟩] } }
  Option.elim (β := Bool) ((s.fbaCount source).muted) false fun u =>
  true) = true := by decide +kernel

theorem hyp_JournalCommits_1 :
  (
  let s : State := State.reset
  let s : State := tinyFba ⟨.can 0, 1, [], 0⟩ s
  let s : State := { s with fba := { s.fba with record := some { body := List.replicate 56 3, index := 0x1200, sub := 2, value := 30, copy := 0, request := some ⟨.udp 1 5 6, 0, [0x12, 0, 0, 0, 0x12, 0, 2, 2, 0, 30], 0⟩ } } }
  Option.elim (β := Bool) (s.fba.record) false fun j =>
  Option.elim (β := Bool) (j.request) false fun r =>
  Option.elim (β := Bool) (match r.source with | .udp mac ip port => some (mac, ip, port) | _ => none) false fun (mac, ip, port) =>
  decide (j.copy = 0) &&
  decide (j.opens = none) &&
  decide (r.auth = false) &&
  decide (r.op = 2) &&
  decide ((s.jCopy 1).failed = false) &&
  decide (j.index ≠ 0x60D0) &&
  decide (j.sub < 256) &&
  let a := slotOffset 0 (s.jCopy 0).half (s.jCopy 0).next
  true) = true := by decide +kernel

theorem hyp_JournalCommits_2 :
  (
  let s : State := State.reset
  let s : State := { s with fba.record := none }
  let s : State := { s with fba := { s.fba with record := none } }
  decide (s.fba.record = none) &&
  true) = true := by decide +kernel

theorem hyp_JournalCommits_3 :
  (
  let s : State := State.reset
  let s : State := { s with pins.pwrFailN := true }
  let s : State := tinyFba ⟨.can 0, 1, [], 0⟩ s
  let s : State := { s with fba := { s.fba with record := some { body := List.replicate 56 3, index := 0x1200, sub := 2, value := 30, copy := 1, request := none } } }
  Option.elim (β := Bool) (s.fba.record) false fun j =>
  decide (j.copy = 1) &&
  decide (j.request = none) &&
  decide (s.pins.pwrFailN = true) &&
  decide (s.compactionDue 0 = false) &&
  decide ((s.jCopy 1).next < 15358) &&
  true) = true := by decide +kernel

theorem hyp_JournalCommits_4 :
  (
  let s : State := State.reset
  let s : State := { s with pins.pwrFailN := true }
  let s : State := tinyFba ⟨.can 0, 1, [], 0⟩ s
  let s : State := { s with fba := { s.fba with copies := [(0, { next := 15360, failed := false }), (1, { next := 7, failed := false })], record := some { body := List.replicate 56 3, index := 0x1200, sub := 2, value := 30, copy := 1, request := none } } }
  Option.elim (β := Bool) (s.fba.record) false fun j =>
  decide (j.copy = 1) &&
  decide (j.request = none) &&
  decide (s.pins.pwrFailN = true) &&
  decide ((s.jCopy 0).failed = false) &&
  decide (15360 ≤ (s.jCopy 0).next) &&
  decide ((s.jCopy 0).next ≤ 16383) &&
  true) = true := by decide +kernel

theorem hyp_JournalCommits_5 :
  (
  let s : State := State.reset
  let s : State := { s with pins.pwrFailN := true }
  let s : State := { tinyFba ⟨.can 0, 1, [], 0⟩ s with fba := { copies := [(0, { next := 15360, failed := false }), (1, { next := 7, failed := false })], compacting := some 0 } }
  Option.elim (β := Bool) (s.fba.compacting) false fun c =>
  decide (s.pins.pwrFailN = true) &&
  decide (c = 0) &&
  decide (s.compactionDue 1 = false) &&
  true) = true := by decide +kernel

theorem hyp_JournalCommits_6 :
  (
  let s : State := State.reset
  let s : State := { s with pins.pwrFailN := false }
  let s : State := { s with pins := { s.pins with pwrFailN := false } }
  decide (s.pins.pwrFailN = false) &&
  true) = true := by decide +kernel

theorem hyp_FirmwareProcessors_1 :
  (
  let who : Agent := .fw 5
  let n : Fin 23 := 5
  let key : BitVec 16 := 0x5A3C
  let s : State := State.reset
  let s : State := tinyRegion 48 0x10000 0x100FF s
  decide (Passes s who (Reg.SYS_FWD_KICK_addr n.val) true) &&
  decide (who = .fw n) &&
  decide (key = 0x5A3C) &&
  true) = true := by decide +kernel

theorem hyp_FirmwareProcessors_2 :
  (
  let who : Agent := .fw 5
  let n : Fin 23 := 5
  let key : BitVec 16 := 0x5A3D
  let s : State := State.reset
  let s : State := tinyRegion 48 0x10000 0x100FF s
  decide (Passes s who (Reg.SYS_FWD_KICK_addr n.val) true) &&
  decide (who = .fw n) &&
  decide (key ≠ 0x5A3C) &&
  true) = true := by decide +kernel

theorem hyp_FirmwareProcessors_3 :
  (
  let who : Agent := .pairA
  let n : Fin 23 := 0
  let s : State := State.reset
  let s : State := s.set (Reg.CAD_STATUS_COUNT 48) 0
  decide (Passes s who (Reg.SYS_FWD_KICK_addr n.val) true) &&
  decide (isFw n.val who = false) &&
  let c := s.get (Reg.CAD_STATUS_COUNT 48)
  decide (c < 8) &&
  true) = true := by decide +kernel

theorem hyp_FirmwareProcessors_4 :
  (
  let n : Fin 23 := 19
  let s : State := State.reset
  let s : State := s.set (Reg.SYS_FWD_CTRL_TEST n.val) 0
  let s : State := { s with med := {} }
  let s : State := { s with fw.switch := none }
  let s : State := { s with eng := {} }
  let s : State := { s with trv := {} }
  let s : State := { s with gfx := {} }
  let s : State := tinyOn s
  let s : State := { s with fw := {}, med := {}, eng := {}, trv := {}, gfx := {} }
  let s : State := (s.set (Reg.SYS_FWD_CTRL_EN n.val) 1).set (Reg.SYS_FWD_STATUS_STATE n.val) 0
  decide (s.fwCounts n.val = true) &&
  decide (s.bit (Reg.SYS_FWD_CTRL_TEST n.val) = false) &&
  decide ((s.fwLogOf n.val).pending = []) &&
  decide (s.med = {}) &&
  decide (KMap.getD s.fw.expiries n.val [] = []) &&
  decide (s.fw.switch = none) &&
  decide (s.eng = {}) &&
  decide (s.trv = {}) &&
  decide (s.gfx = {}) &&
  true) = true := by decide +kernel

theorem hyp_FirmwareProcessors_5 :
  (
  let n : Fin 23 := 21
  let s : State := State.reset
  let s : State := s.set (Reg.SYS_FWD_CTRL_TEST n.val) 1
  let s : State := s.set (Reg.SYS_FWD_CTRL_EN n.val) 1
  let s : State := s.set (Reg.SYS_FWD_STATUS_STATE n.val) 0
  decide (s.fwCounts n.val = true) &&
  decide (s.bit (Reg.SYS_FWD_CTRL_TEST n.val) = true) &&
  true) = true := by decide +kernel

theorem hyp_FirmwareProcessors_6 :
  (
  let n : Fin 23 := 0
  let s : State := State.reset
  let s : State := s.set (Reg.SYS_FWD_CTRL_TEST n.val) 0
  decide (s.bit (Reg.SYS_FWD_CTRL_TEST n.val) = false) &&
  true) = true := by decide +kernel

theorem hyp_FirmwareProcessors_7 :
  (
  let n : Fin 23 := 18
  let s : State := State.reset
  let s : State := s.set (Reg.SYS_FWD_STATUS_STATE n.val) (1)
  let s : State := { s with fw.switch := none }
  let s : State := s.set (Reg.SYS_FWD_STATUS_STATE n.val) 1
  let s : State := { s with fw := { s.fw with switch := none } }
  decide (s.get (Reg.SYS_FWD_STATUS_STATE n.val) = 1) &&
  decide (n.val ≠ 21) &&
  decide (s.fw.switch = none) &&
  true) = true := by decide +kernel

theorem hyp_FirmwareProcessors_8 :
  (
  let n : Fin 23 := 0
  let s : State := State.reset
  let s : State := s.set (Reg.SYS_FWD_STATUS_STATE n.val) (2)
  decide (s.get (Reg.SYS_FWD_STATUS_STATE n.val) = 2) &&
  true) = true := by decide +kernel

theorem hyp_FirmwareProcessors_9 :
  (
  let m : Fin 64 := 0
  let s : State := State.reset
  let s : State := tinyMail m.val 3 0x60 (leBytes 4 13) s
  let s : State := s.set Reg.PMU_PD_STATE_PD 0xFFFFF
  let r := s.mbRequest m.val
  decide (Asked s m.val 0x60 r) &&
  decide ((s.mbAttr m.val).secure = true) &&
  let w := payLe r.payload 0 4
  let d := w % 32
  decide (d ≤ 19) &&
  decide (neverGated d = false) &&
  decide (d < 4 ∨ 8 ≤ d) &&
  true) = true := by decide +kernel

theorem hyp_FirmwareProcessors_10 :
  (
  let m : Fin 64 := 0
  let s : State := State.reset
  let s : State := tinyMail m.val 3 0x60 (leBytes 4 15) s
  let r := s.mbRequest m.val
  decide (Asked s m.val 0x60 r) &&
  decide ((s.mbAttr m.val).secure = true) &&
  decide (neverGated (payLe r.payload 0 4 % 32) = true) &&
  decide (bitOf (payLe r.payload 0 4) 8 = false) &&
  true) = true := by decide +kernel

theorem hyp_FirmwareProcessors_11 :
  (
  let m : Fin 64 := 0
  let s : State := State.reset
  let s : State := tinyMail m.val 3 0x60 (leBytes 4 13) s
  let s : State := tinyRegion 0 0x1000000 0x11FFFFF ((s.set (Reg.MBX_MB_CFG_SECURE m.val) 0).fbSet 0x7500 1 5)
  let r := s.mbRequest m.val
  decide (Asked s m.val 0x60 r) &&
  decide (s.superUser (s.mbAttr m.val) = false) &&
  decide (payLe r.payload 0 4 % 32 ≤ 19) &&
  true) = true := by decide +kernel

theorem hyp_FirmwareProcessors_12 :
  (
  let m : Fin 64 := 0
  let s : State := State.reset
  let s : State := tinyMail m.val 3 0x61 (leBytes 4 13) s
  let r := s.mbRequest m.val
  decide (Asked s m.val 0x61 r) &&
  decide ((s.mbAttr m.val).secure = true) &&
  let w := payLe r.payload 0 4
  let d := w % 64
  decide (d ≤ 59) &&
  decide (clockFixed d = false) &&
  true) = true := by decide +kernel

theorem hyp_FirmwareProcessors_13 :
  (
  let m : Fin 64 := 0
  let s : State := State.reset
  let s : State := tinyMail m.val 3 0x61 (leBytes 4 53) s
  let r := s.mbRequest m.val
  decide (Asked s m.val 0x61 r) &&
  decide ((s.mbAttr m.val).secure = true) &&
  decide (clockFixed (payLe r.payload 0 4 % 64) = true) &&
  decide (bitOf (payLe r.payload 0 4) 8 = false) &&
  true) = true := by decide +kernel

theorem hyp_FirmwareProcessors_14 :
  (
  let m : Fin 64 := 0
  let s : State := State.reset
  let s : State := s.set Reg.MER_STATUS_RUNNING 0
  let s : State := { s with pmu.entering := none }
  let s : State := tinyMail m.val 3 0x62 (leBytes 4 1) s
  let s : State := { s with eng := {}, trv := {}, gfx := {}, med := {}, pmu := { s.pmu with entering := none } }
  let r := s.mbRequest m.val
  decide (Asked s m.val 0x62 r) &&
  decide ((s.mbAttr m.val).secure = true) &&
  decide (s.running = false) &&
  decide (s.anyAdmitted = false) &&
  decide (s.pmu.entering = none) &&
  true) = true := by decide +kernel

theorem hyp_FirmwareProcessors_15 :
  (
  let m : Fin 64 := 0
  let s : State := State.reset
  let s : State := s.set Reg.MER_STATUS_RUNNING 1
  let s : State := tinyMail m.val 3 0x62 (leBytes 4 1) s
  let r := s.mbRequest m.val
  decide (Asked s m.val 0x62 r) &&
  decide ((s.mbAttr m.val).secure = true) &&
  decide (s.running = true) &&
  true) = true := by decide +kernel

theorem hyp_FirmwareProcessors_16 :
  (
  let m : Fin 64 := 0
  let s : State := State.reset
  let s : State := tinyMail m.val 3 0x63 [] s
  let r := s.mbRequest m.val
  decide (Asked s m.val 0x63 r) &&
  true) = true := by decide +kernel

theorem hyp_PowerAndUpdate_1 :
  (
  let hot : BitVec 16 := 500
  let power : BitVec 16 := 1000
  let s : State := State.reset
  let s : State := { s with pmu.asleep := none }
  let s : State := { s with pins.pwrFailN := true }
  let s : State := s.fbSet 0x4000 5 0
  let s : State := { s with pmu := { s.pmu with asleep := none, highSince := none }, pins := { s.pins with pwrFailN := true } }
  decide (s.fwDown 20 = false) &&
  decide (s.pmu.asleep = none) &&
  decide (s.pmuState = 0) &&
  decide (s.pins.pwrFailN = true) &&
  decide (hot.toNat < 32768) &&
  decide ((hot.toNat : Int) < s.threshold 1 0) &&
  decide ((hot.toNat : Int) < s.threshold 2 0) &&
  decide (power.toNat ≤ 10 * s.powerLimit) &&
  decide (power.toNat < 2100) &&
  true) = true := by decide +kernel

theorem hyp_PowerAndUpdate_2 :
  (
  let hot : BitVec 16 := 500
  let power : BitVec 16 := 1900
  let s : State := State.reset
  let s : State := { s with pmu.asleep := none }
  let s : State := { s with pins.pwrFailN := true }
  let s : State := s.fbSet 0x4000 5 0
  let s : State := { s with pmu := { s.pmu with asleep := none, highSince := none }, pins := { s.pins with pwrFailN := true } }
  decide (s.fwDown 20 = false) &&
  decide (s.pmu.asleep = none) &&
  decide (s.pmuState = 0) &&
  decide (s.pins.pwrFailN = true) &&
  decide (hot.toNat < 32768) &&
  decide ((hot.toNat : Int) < s.threshold 2 0) &&
  decide (10 * s.powerLimit < power.toNat) &&
  decide (power.toNat < 2100) &&
  true) = true := by decide +kernel

theorem hyp_PowerAndUpdate_3 :
  (
  let hot : BitVec 16 := 1250
  let s : State := State.reset
  let s : State := { s with pmu.asleep := none }
  let s : State := ((s.fbSet 0x4000 5 0).fbSet 0x4000 6 0).fbSet 0x4000 7 1
  let s : State := { s with pmu := { s.pmu with asleep := none, highSince := none }, pins := { s.pins with pwrFailN := true } }
  decide (s.fwDown 20 = false) &&
  decide (s.pmu.asleep = none) &&
  decide (s.pmuState = 0) &&
  decide (s.shedLevel = 0) &&
  decide (hot.toNat < 32768) &&
  decide (s.threshold 2 0 ≤ (hot.toNat : Int)) &&
  true) = true := by decide +kernel

theorem hyp_PowerAndUpdate_4 :
  (
  let s : State := State.reset
  let s : State := { s with pmu.asleep := none }
  let s : State := s.fbSet 0x4000 5 3
  let s : State := { s with pmu := { s.pmu with asleep := none } }
  decide (s.fwDown 20 = false) &&
  decide (s.pmu.asleep = none) &&
  decide (s.pmuState = 3) &&
  true) = true := by decide +kernel

theorem hyp_PowerAndUpdate_5 :
  (
  let s : State := State.reset
  let s : State := s.set (Reg.SYS_FWD_STATUS_STATE 20) (1)
  decide (s.get (Reg.SYS_FWD_STATUS_STATE 20) = 1) &&
  true) = true := by decide +kernel

theorem hyp_PowerAndUpdate_6 :
  (
  let s : State := State.reset
  decide (s.fwDown 20 = false) &&
  true) = true := by decide +kernel

theorem hyp_PowerAndUpdate_8 :
  (
  let domains : BitVec 20 := 0x20000
  let s : State := State.reset
  let s : State := { s with mer := { s.mer with windows := [] } }
  decide (domains = 0x20000) &&
  decide (s.openWindows = []) &&
  true) = true := by decide +kernel

theorem hyp_PowerAndUpdate_9 :
  (
  let domains : BitVec 20 := 0x8000
  let s : State := State.reset
  let s : State := s.set Reg.SAF_STATE_STATE (1)
  let s : State := { s with mer := { s.mer with windows := [] } }
  let s : State := (s.set Reg.SAF_STATE_STATE 1).fbSet 0x3050 1 1
  decide (domains = 0x8000) &&
  decide (s.get Reg.SAF_STATE_STATE = 1) &&
  true) = true := by decide +kernel

theorem hyp_PowerAndUpdate_10 :
  (
  let s : State := State.reset
  let s : State := { s with pmu.throttling := true }
  let s : State := s.fbSet 0x4000 5 1
  let s : State := { s with pmu := { s.pmu with throttling := true, ceilT := [(9, 4)], ceilG := [(9, 0)] } }
  decide (s.pmuState = 1) &&
  decide (s.pmu.throttling = true) &&
  decide (s.fwDown 20 = false) &&
  true) = true := by decide +kernel

theorem hyp_PowerAndUpdate_11 :
  (
  let s : State := State.reset
  let s : State := { s with pmu.ceilT := [(9, 4)] }
  let s : State := { s with pmu.ceilG := [(9, 0)] }
  let s : State := s.fbSet 0x4000 5 0
  let s : State := { s with pmu := { s.pmu with ceilT := [(9, 4)], ceilG := [(9, 0)] } }
  decide (s.pmuState = 0) &&
  decide (s.fwDown 20 = false) &&
  decide (s.pmu.ceilT = [(9, 4)]) &&
  decide (s.pmu.ceilG = [(9, 0)]) &&
  true) = true := by decide +kernel

theorem hyp_PowerAndUpdate_12 :
  (
  let s : State := State.reset
  let s : State := (s.fbSet 0x4000 5 2).fbSet 0x4000 6 2
  decide (s.pmuState = 2) &&
  decide (s.shedLevel = 2) &&
  decide (s.fwDown 20 = false) &&
  true) = true := by decide +kernel

theorem hyp_PowerAndUpdate_13 :
  (
  let s : State := State.reset
  let s : State := s.fbSet 0x4000 5 0
  decide (s.pmuState ≠ 2) &&
  true) = true := by decide +kernel

theorem hyp_PowerAndUpdate_14 :
  (
  let s : State := State.reset
  let s : State := (s.fbSet 0x4000 5 0).fbSet 0x4000 6 2
  let s : State := { s with pmu := { s.pmu with leftAt := some (s.datum + 7), shedAt := s.datum } }
  Option.elim (β := Bool) (s.pmu.leftAt) false fun u =>
  decide (s.pmuState < 2) &&
  decide (0 < s.shedLevel) &&
  decide (s.pmu.shedAt ≤ u) &&
  decide (s.fwDown 20 = false) &&
  true) = true := by decide +kernel

theorem hyp_PowerAndUpdate_15 :
  (
  let kind : Fin 3 := 0
  let good : Bool := true
  let s : State := State.reset
  let s : State := (s.fbSet 0x8001 (kind.val + 1) 1).setUpdate kind.val { image := List.replicate 8 3, slotB := true }
  decide (s.updState kind.val = 1) &&
  decide (good = true) &&
  true) = true := by decide +kernel

theorem hyp_PowerAndUpdate_16 :
  (
  let kind : Fin 3 := 0
  let good : Bool := false
  let s : State := State.reset
  let s : State := (s.fbSet 0x8001 (kind.val + 1) 1).setUpdate kind.val { image := List.replicate 8 3, slotB := true }
  decide (s.updState kind.val = 1) &&
  decide (good = false) &&
  true) = true := by decide +kernel

theorem hyp_PowerAndUpdate_17 :
  (
  let kind : Fin 3 := 0
  let s : State := State.reset
  let s : State := (s.fbSet 0x8001 (kind.val + 1) 3).setUpdate kind.val { writing := true, slotB := true }
  decide ((s.update kind.val).writing = true) &&
  true) = true := by decide +kernel

theorem hyp_PowerAndUpdate_18 :
  (
  let kind : Fin 3 := 0
  let s : State := State.reset
  let s : State := s.setUpdate kind.val {}
  decide ((s.update kind.val).writing = false) &&
  true) = true := by decide +kernel

theorem hyp_PowerAndUpdate_19 :
  (
  let s : State := State.reset
  let s : State := (s.fbSet 0x8001 2 4).set (Reg.SYS_FWD_STATUS_STATE 18) 1
  let s : State := { s with fw := { s.fw with switch := some ⟨s.datum, 1⟩ } }
  Option.elim (β := Bool) (s.fw.switch) false fun w =>
  true) = true := by decide +kernel

theorem hyp_PowerAndUpdate_20 :
  (
  let s : State := State.reset
  let s : State := { s with fw.switch := none }
  let s : State := { s with fw := { s.fw with switch := none } }
  decide (s.fw.switch = none) &&
  true) = true := by decide +kernel

theorem hyp_ResetsAndSleep_1 :
  (
  let held : Bool := true
  let s : State := State.reset
  let s : State := { s with fba.record := none }
  decide (held = true) &&
  decide (s.fba.record = none) &&
  true) = true := by decide +kernel

theorem hyp_ResetsAndSleep_2 :
  (
  let held : Bool := false
  let s : State := State.reset
  let s : State := { s with fba.record := none }
  let s : State := { s with pins.thermtripN := true }
  let s : State := { s with pins := { s.pins with thermtripN := true } }
  decide (held = false) &&
  decide (s.fba.record = none) &&
  decide (s.pins.thermtripN = true) &&
  true) = true := by decide +kernel

theorem hyp_ResetsAndSleep_3 :
  (
  let who : Agent := .sec 0 .m none
  let s : State := State.reset
  let s : State := { s with fba.record := none }
  decide (Passes s who Reg.SYS_RST_CTRL_addr true) &&
  decide (s.normal who = false) &&
  decide (s.fba.record = none) &&
  true) = true := by decide +kernel

theorem hyp_ResetsAndSleep_4 :
  (
  let who : Agent := .work .fabric false 5
  let s : State := State.reset
  let s : State := tinyRegion 48 0x10000 0x100FF s
  decide (Passes s who Reg.SYS_RST_CTRL_addr true) &&
  decide (s.normal who = true) &&
  true) = true := by decide +kernel

theorem hyp_ResetsAndSleep_5 :
  (
  let s : State := State.reset
  let s : State := { s with fba.record := none }
  decide (s.fba.record = none) &&
  true) = true := by decide +kernel

theorem hyp_ResetsAndSleep_7 :
  (
  let s : State := State.reset
  let s : State := { s with pmu.wakeHeld := false }
  let s : State := { s with fba.record := none }
  let s : State := { s with pmu := { s.pmu with entering := some 1, wakeHeld := false } }
  Option.elim (β := Bool) (s.pmu.entering) false fun m =>
  decide (m = 1) &&
  decide (s.pmu.wakeHeld = false) &&
  decide (s.fba.record = none) &&
  true) = true := by decide +kernel

theorem hyp_ResetsAndSleep_8 :
  (
  let s : State := State.reset
  let s : State := { s with pmu.wakeHeld := false }
  let s : State := { s with fba.record := none }
  let s : State := { s with pmu := { s.pmu with entering := some 0, wakeHeld := false } }
  Option.elim (β := Bool) (s.pmu.entering) false fun m =>
  decide (m = 0) &&
  decide (s.pmu.wakeHeld = false) &&
  decide (s.fba.record = none) &&
  true) = true := by decide +kernel

theorem hyp_ResetsAndSleep_9 :
  (
  let s : State := State.reset
  let s : State := { s with pmu.asleep := some 1 }
  let s : State := { s with pmu := { s.pmu with asleep := some 1 } }
  decide (s.pmu.asleep = some 1) &&
  true) = true := by decide +kernel

theorem hyp_ResetsAndSleep_10 :
  (
  let s : State := State.reset
  let s : State := { s with pmu.asleep := none }
  let s : State := { s with pmu.entering := some 0 }
  let s : State := { s with pmu := { s.pmu with asleep := none, entering := some 0 } }
  decide (s.pmu.asleep = none) &&
  decide (s.pmu.entering = some 0) &&
  true) = true := by decide +kernel

theorem hyp_ResetsAndSleep_11 :
  (
  let s : State := State.reset
  let s : State := { s with pmu.asleep := none }
  let s : State := { s with pmu.entering := none }
  let s : State := { s with pmu := { s.pmu with asleep := none, entering := none } }
  decide (s.pmu.asleep = none) &&
  decide (s.pmu.entering = none) &&
  true) = true := by decide +kernel

theorem hyp_ResetsAndSleep_12 :
  (
  let s : State := State.reset
  let s : State := { s with pins.pwrFailN := true }
  let s : State := (s.fbSet 0x4000 5 0).fbSet 0x4000 6 1
  let s : State := { s with pins := { s.pins with pwrFailN := true } }
  decide (s.pins.pwrFailN = true) &&
  decide (s.pmuState = 0) &&
  decide (s.shedLevel = 1) &&
  decide (s.fba.record.all (fun j => j.begun != s.datum) = true) &&
  true) = true := by decide +kernel

theorem hyp_ResetsAndSleep_13 :
  (
  let s : State := State.reset
  let s : State := { s with pins.pwrFailN := true }
  let s : State := { tinyFba ⟨.can 0, 1, [], 0⟩ (s.fbSet 0x4000 5 2) with pins := { s.pins with pwrFailN := true } }
  let s : State := { s with fba := { s.fba with queue := [], record := some { body := List.replicate 56 3, index := 0x1200, sub := 2, value := 30, copy := 0, request := some ⟨.udp 1 5 6, 0, [0x12, 0, 0, 0, 0x12, 0, 2, 2, 0, 30], 0⟩, begun := s.datum } } }
  decide (s.pins.pwrFailN = true) &&
  decide (s.pmuState = 2) &&
  Option.elim (β := Bool) (s.fba.record) false fun j =>
  Option.elim (β := Bool) (j.request) false fun r =>
  Option.elim (β := Bool) (match r.source with | .udp mac ip port => some (mac, ip, port) | _ => none) false fun (mac, ip, port) =>
  decide (j.begun = s.datum) &&
  decide (j.copy = 0) &&
  decide ((s.jCopy 0).failed = false) &&
  true) = true := by decide +kernel

theorem hyp_ResetsAndSleep_14 :
  (
  let s : State := State.reset
  let s : State := { s with pins.pwrFailN := false }
  let s : State := { s with pins := { s.pins with pwrFailN := false } }
  decide (s.pins.pwrFailN = false) &&
  true) = true := by decide +kernel

theorem hyp_ResetsAndSleep_15 :
  (
  let s : State := State.reset
  let s : State := { s with pins.pwrFailN := false }
  let s : State := { s with pins := { s.pins with pwrFailN := false } }
  decide (s.pins.pwrFailN = false) &&
  true) = true := by decide +kernel

theorem hyp_ResetsAndSleep_16 :
  (
  let s : State := State.reset
  let s : State := { s with pins.pwrFailN := true }
  let s : State := { s with pins := { s.pins with pwrFailN := true } }
  decide (s.pins.pwrFailN = true) &&
  true) = true := by decide +kernel

theorem hyp_FixedClockBits_1 :
  (
  let who : Agent := .sec 0 .m none
  let s : State := State.reset
  let s : State := s.set Reg.SYS_CLK_EN_EN (2 ^ 60 - 1)
  decide (Passes s who Reg.SYS_CLK_EN_addr true) &&
  decide (s.normal who = false) &&
  true) = true := by decide +kernel

theorem hyp_FixedClockBits_2 :
  (
  let who : Agent := .work .fabric false 5
  let value : BitVec 60 := 0x7FF
  let s : State := State.reset
  let s : State := tinyRegion 48 0x10000 0x100FF (s.set Reg.SYS_CLK_EN_EN (2 ^ 60 - 1))
  let s : State := s.set Reg.PMU_LEASE_CLK_CLK 0
  decide (Passes s who Reg.SYS_CLK_EN_addr true) &&
  decide ((value.toNat ^^^ s.get Reg.SYS_CLK_EN_EN) &&& s.get Reg.PMU_LEASE_CLK_CLK = 0) &&
  true) = true := by decide +kernel

theorem hyp_FixedClockBits_3 :
  (
  let who : Agent := .work .fabric false 5
  let value : BitVec 60 := 0xFFFFFFFFFFFFFFE
  let s : State := State.reset
  let s : State := tinyRegion 48 0x10000 0x100FF (s.set Reg.SYS_CLK_EN_EN (2 ^ 60 - 1))
  let s : State := s.set Reg.PMU_LEASE_CLK_CLK 1
  decide (Passes s who Reg.SYS_CLK_EN_addr true) &&
  decide (s.normal who = true) &&
  decide (s.get Reg.SYS_CLK_EN_EN &&& fixedClocks = fixedClocks) &&
  decide (s.get Reg.SYS_CLK_EN_EN < 2 ^ 60) &&
  decide (s.get Reg.PMU_LEASE_CLK_CLK < 2 ^ 60) &&
  decide ((value.toNat ^^^ s.get Reg.SYS_CLK_EN_EN) &&& s.get Reg.PMU_LEASE_CLK_CLK ≠ 0) &&
  true) = true := by decide +kernel

theorem hyp_ClockFaultsDebugAndTap_1 :
  (
  let pll : Fin 13 := 12
  let s : State := State.reset
  let s : State := s.set Reg.SAF_STATE_STATE (1)
  let s : State := s.fbSet 0x3050 1 1
  decide (pll.val = 12) &&
  decide (s.get Reg.SAF_STATE_STATE = 1) &&
  true) = true := by decide +kernel

theorem hyp_ClockFaultsDebugAndTap_2 :
  (
  let pll : Fin 13 := 11
  let s : State := State.reset
  let s : State := s.set Reg.SAF_STATE_STATE (1)
  let s : State := s.fbSet 0x3050 1 1
  decide (pll.val = 11) &&
  decide (s.get Reg.SAF_STATE_STATE = 1) &&
  true) = true := by decide +kernel

theorem hyp_ClockFaultsDebugAndTap_3 :
  (
  let pll : Fin 13 := 3
  let s : State := State.reset
  let s : State := { s with fba.record := none }
  let s : State := { s with pins.thermtripN := false }
  let s : State := { s with pins := { s.pins with thermtripN := false } }
  decide (2 ≤ pll.val) &&
  decide (pll.val ≤ 5) &&
  decide (s.fba.record = none) &&
  decide (s.pins.thermtripN = false) &&
  true) = true := by decide +kernel

theorem hyp_ClockFaultsDebugAndTap_4 :
  (
  let pll : Fin 13 := 9
  let s : State := State.reset
  let s : State := { s with mer := { s.mer with windows := [] } }
  decide (pll.val = 6 ∨ pll.val = 9) &&
  decide (s.openWindows = []) &&
  true) = true := by decide +kernel

theorem hyp_ClockFaultsDebugAndTap_7 :
  (
  let token : List Byte := tinyToken
  let s : State := State.reset
  let s : State := tinyDebug 5 1 s
  let x := token.map BitVec.toNat
  decide (s.tokenGood x = true) &&
  decide (natAt x 0 = 1) &&
  decide (bitOf (leValue (slice x 8 8)) s.saf.partition = false) &&
  true) = true := by decide +kernel

theorem hyp_ClockFaultsDebugAndTap_8 :
  (
  let token : List Byte := tinyToken
  let s : State := State.reset
  let s : State := tinyDebug 1 1 s
  let x := token.map BitVec.toNat
  decide (s.tokenGood x = true) &&
  decide (natAt x 0 = 2 ∨ bitOf (leValue (slice x 8 8)) s.saf.partition = true) &&
  decide (s.get Reg.SAF_STATE_STATE ≠ 0) &&
  decide (s.get Reg.SAF_STATE_STATE ≠ 3) &&
  decide (s.dbg.refusals < 2) &&
  true) = true := by decide +kernel

theorem hyp_ClockFaultsDebugAndTap_9 :
  (
  let token : List Byte := []
  let s : State := State.reset
  let s : State := { s with dbg := { s.dbg with refusals := 2 } }
  decide (s.tokenGood (token.map BitVec.toNat) = false) &&
  decide (2 ≤ s.dbg.refusals) &&
  true) = true := by decide +kernel

theorem hyp_ClockFaultsDebugAndTap_13 :
  (
  let s : State := State.reset
  let s : State := { s with pins.resetN := false }
  decide (s.pins.resetN = false) &&
  true) = true := by decide +kernel

theorem hyp_ClockFaultsDebugAndTap_14 :
  (
  let s : State := State.reset
  let s : State := { s with pins.resetN := true }
  decide (s.pins.resetN = true) &&
  true) = true := by decide +kernel

theorem hyp_ClockFaultsDebugAndTap_15 :
  (
  let s : State := State.reset
  let s : State := { s with pins.resetN := false }
  decide (s.pins.resetN = false) &&
  true) = true := by decide +kernel

theorem hyp_ClockFaultsDebugAndTap_16 :
  (
  let s : State := State.reset
  let s : State := { s with pins.resetN := true }
  decide (s.pins.resetN = true) &&
  true) = true := by decide +kernel

theorem hyp_ClockFaultsDebugAndTap_17 :
  (
  let s : State := State.reset
  let s : State := { s with pins.resetN := false }
  decide (s.pins.resetN = false) &&
  true) = true := by decide +kernel

theorem hyp_ClockFaultsDebugAndTap_18 :
  (
  let s : State := State.reset
  let s : State := { s with pins.resetN := true }
  decide (s.pins.resetN = true) &&
  true) = true := by decide +kernel


/-! ## WellFormed refuses an ill-formed term of each check -/

/-- No access is three bytes wide (R9). -/
theorem wf_refuses_width : (Instr.registerWrite .pairA 0x10000000 3 0 0).wf = false := by decide

/-- A value of nine bits does not fit a byte access (R9). -/
theorem wf_refuses_value : (Instr.registerWrite .pairA 0x10000000 1 0x100 0).wf = false := by decide

/-- A read-clear access has a width of the bus as well (R9). -/
theorem wf_refuses_read_width : (Instr.readClear .pairA 0x10000000 5 0 0).wf = false := by decide

/-- An access does not cross a 4 KiB boundary (R300). -/
theorem wf_refuses_page_cross : (Instr.fabricAccess .pairA 0x1000000FFD (.read 4) .none false).wf = false := by decide

/-- The same for the SRAM windows (R300). -/
theorem wf_refuses_sram_page_cross : (Instr.sramWindowAccess .pairA 0x40000FFF (.write false [1, 2]) .none).wf = false := by
  decide

/-- The same for an inbound PCIe request (R300). -/
theorem wf_refuses_inbound_page_cross : (Instr.pcieInboundRequest 1 0 0xFFF (.read 2) .none).wf = false := by decide

/-- A classical CAN frame holds at most 8 bytes (R333). -/
theorem wf_refuses_can : (Instr.canFrameRx 0 0 5 0 .none (List.replicate 9 0)).wf = false := by decide

/-- A LIN frame holds at most 8 bytes (R333). -/
theorem wf_refuses_lin : (Instr.linFrameRx 0 5 true (List.replicate 9 0)).wf = false := by decide

/-- An ordinary register write is well formed. -/
theorem wf_accepts_write : (Instr.registerWrite .pairA 0x10000000 4 0xFFFFFFFF 0).wf = true := by decide

/-- A CSI-2 packet's payload fits its 16-bit word count (R274). -/
theorem wf_refuses_csi2 (payload : List Byte) (h : 65536 ≤ payload.length) :
    (Instr.csi2Packet 0 0 0x2A .none true payload).wf = false := by
  show decide (payload.length < 65536) = false
  exact decide_eq_false (by omega)
end

/-! # Frames, gates and completion -/

namespace Sys2Proof.Safety
open Sys2Proof Sys2Proof.Machine

/-! ## How `OnlyRegs` is built up over the named updates -/

section
variable {fs : List Field} {ks : List (Nat × Nat)} {s t : State}

theorem OnlyRegs.refl (fs : List Field) (ks : List (Nat × Nat)) (s : State) : OnlyRegs fs ks s s :=
  ⟨rfl, RegsKept.refl _ _, FbKept.refl _ _⟩

/-- An update of the register fields, the Field Book and the response alone adds nothing else to what differs. -/
theorem OnlyRegs.step {u : State} (h : OnlyRegs fs ks s t)
    (hu : u = { t with regs := u.regs, fb := u.fb, resp := u.resp }) (hr : RegsKept fs s u) (hf : FbKept ks s u) :
    OnlyRegs fs ks s u := by
  refine ⟨?_, hr, hf⟩
  have ht := h.1
  generalize u.regs = r at hu ⊢
  generalize u.fb = b at hu ⊢
  generalize u.resp = q at hu ⊢
  rw [hu, ht]

theorem OnlyRegs.set {f : Field} (h : OnlyRegs fs ks s t) (hf : f ∈ fs) (v : Nat) : OnlyRegs fs ks s (t.set f v) :=
  h.step rfl (h.2.1.set hf) (FbKept.congr rfl h.2.2)

theorem OnlyRegs.fbInc {i j : Nat} (h : OnlyRegs fs ks s t) (hk : (i, j) ∈ ks) : OnlyRegs fs ks s (t.fbInc i j) :=
  h.step rfl (RegsKept.congr rfl h.2.1) (h.2.2.inc hk)

theorem OnlyRegs.answer (h : OnlyRegs fs ks s t) (v : Nat) : OnlyRegs fs ks s (t.answer v) :=
  h.step rfl (RegsKept.congr rfl h.2.1) (FbKept.congr rfl h.2.2)

/-- The write of a register is answered first. -/
theorem OnlyRegs.answered (fs : List Field) (ks : List (Nat × Nat)) (s : State) (v : Nat) :
    OnlyRegs fs ks s (s.answer v) :=
  (OnlyRegs.refl fs ks s).answer v

theorem OnlyRegs.mono {gs : List Field} (h : OnlyRegs fs ks s t) (hs : ∀ f ∈ fs, f ∈ gs) : OnlyRegs gs ks s t :=
  ⟨h.1, h.2.1.mono hs, h.2.2⟩

end

/-! ## Commands behind the gate of a register write -/

/-- A gated register write of an accessor that passes completes with the write carried out on the answered state. -/
theorem does_gateWrite {c : Instr} {s : State} {who : Agent} {a : Nat} {k : State → State} {P : State → Prop}
    (hp : Passes s who a true) (hc : exec c s = done (s.gateWrite who a k)) (h : P (k (s.answer 0))) : Does c s P :=
  ⟨_, hc, by rwa [State.gateWrite_pass _ _ _ _ hp]⟩

end Sys2Proof.Safety

namespace Sys2Proof.Machine
open Sys2Proof Sys2Proof.Safety

/-! # The Meridian parameters and the shadow bank -/

/-! ## What a checked parameter write does -/

theorem State.paramWrite_own (s : State) (f : Field) (own : Nat) (fits : Bool) (v : Nat) (h : own ≠ Code.ok) :
    s.paramWrite f own fits v = s.merStatus own := by
  simp [State.paramWrite, h]

theorem State.paramWrite_bounds (s : State) (f : Field) (v : Nat) :
    s.paramWrite f Code.ok false v = s.merStatus Code.eBounds := by
  simp [State.paramWrite]

theorem State.paramWrite_state (s : State) (f : Field) (v : Nat) (h : s.running = true) :
    s.paramWrite f Code.ok true v = s.merStatus Code.eState := by
  simp [State.paramWrite, h]

theorem State.paramWrite_taken (s : State) (f : Field) (v : Nat) (h : s.running = false) :
    s.paramWrite f Code.ok true v = (s.set f v).merStatus Code.ok := by
  simp [State.paramWrite, h]

theorem paramsFit_iff (p n ph : Nat) : paramsFit p n ph = true ↔ n * p ≤ 1000000 ∧ ph < n * p * 1000 := by
  simp [paramsFit]

theorem paramsFit_false_iff (p n ph : Nat) : paramsFit p n ph = false ↔ 1000000 < n * p ∨ n * p * 1000 ≤ ph := by
  rw [← Bool.not_eq_true, paramsFit_iff]
  omega

/-! ## The two ends of a Meridian write -/

/-- A write that ends with a status alone. -/
theorem does_merStatus {c : Instr} {s : State} {who : Agent} {a : Nat} {k : State → State} {code : Nat}
    (hp : Passes s who a true) (hc : exec c s = done (s.gateWrite who a k))
    (hk : k (s.answer 0) = (s.answer 0).merStatus code) (hcode : code < 2 ^ 16) :
    Does c s (fun t => t.get Reg.MER_CMD_STATUS_STATUS = code ∧ OnlyRegs [Reg.MER_CMD_STATUS_STATUS] [] s t) := by
  refine does_gateWrite hp hc ?_
  rw [hk]
  exact ⟨State.get_set_lt _ _ _ hcode, (OnlyRegs.answered _ _ _ _).set List.mem_cons_self _⟩

/-- A write that stores a field and ends with OK. -/
theorem does_merStore {c : Instr} {s : State} {who : Agent} {a : Nat} {k : State → State} {f : Field} {v : Nat}
    (hp : Passes s who a true) (hc : exec c s = done (s.gateWrite who a k))
    (hk : k (s.answer 0) = ((s.answer 0).set f v).merStatus Code.ok) (hv : v < 2 ^ f.width)
    (hf : f.key ≠ Reg.MER_CMD_STATUS_STATUS.key) :
    Does c s (fun t => t.get f = v ∧ t.get Reg.MER_CMD_STATUS_STATUS = Code.ok ∧
      OnlyRegs [Reg.MER_CMD_STATUS_STATUS, f] [] s t) := by
  refine does_gateWrite hp hc ?_
  rw [hk]
  refine ⟨?_, State.get_set_lt _ _ _ (by decide), ?_⟩
  · rw [State.merStatus, State.get_set_other _ _ _ _ hf, State.get_set_lt _ _ _ hv]
  · exact ((OnlyRegs.answered _ _ _ _).set (List.mem_cons_of_mem _ List.mem_cons_self) _).set List.mem_cons_self _

/-! ## The parameters' own checks -/

theorem State.writeTickPeriod_illegal (s : State) (v : Nat) (h : v < 250 ∨ 10000 < v) :
    s.writeTickPeriod v = s.merStatus Code.eIllegal := by
  rw [State.writeTickPeriod, if_neg (by omega), State.paramWrite_own _ _ _ _ _ (by decide)]

theorem State.writeTickPeriod_legal (s : State) (v : Nat) (h : 250 ≤ v ∧ v ≤ 10000) :
    s.writeTickPeriod v = s.paramWrite Reg.MER_TICK_PERIOD_PERIOD_US Code.ok
      (paramsFit v (s.get Reg.MER_HYPER_TICKS_TICKS) (s.get Reg.MER_PHASE_NS_PHASE)) v := by
  rw [State.writeTickPeriod, if_pos h]

theorem State.writeHyperTicks_length (s : State) (v : Nat) (h : v = 0 ∨ v = 0xFFF) :
    s.writeHyperTicks v = s.merStatus Code.eLength := by
  rw [State.writeHyperTicks, if_pos h, State.paramWrite_own _ _ _ _ _ (by decide)]

theorem State.writeHyperTicks_illegal (s : State) (v : Nat) (h : 4000 < v) (h' : v < 0xFFF) :
    s.writeHyperTicks v = s.merStatus Code.eIllegal := by
  rw [State.writeHyperTicks, if_neg (by omega), if_pos h, State.paramWrite_own _ _ _ _ _ (by decide)]

theorem State.writeHyperTicks_legal (s : State) (v : Nat) (h : 0 < v) (h' : v ≤ 4000) :
    s.writeHyperTicks v = s.paramWrite Reg.MER_HYPER_TICKS_TICKS Code.ok
      (paramsFit (s.get Reg.MER_TICK_PERIOD_PERIOD_US) v (s.get Reg.MER_PHASE_NS_PHASE)) v := by
  rw [State.writeHyperTicks, if_neg (by omega), if_neg (by omega)]

/-! ## The shadow bank (R62, R65) -/

/-- A word of one entry leaves every other entry as it was. -/
theorem bankEntry_set_other (m : KMap Nat) (e e' w x : Nat) (hw : w < 4) (h : e' ≠ e) :
    bankEntry (KMap.set 0 m (4 * e + w) x) e' = bankEntry m e' := by
  have hkey : ∀ i < 4, KMap.getD (KMap.set 0 m (4 * e + w) x) (4 * e' + i) 0 = KMap.getD m (4 * e' + i) 0 :=
    fun i hi => KMap.getD_set_other _ _ _ _ _ _ (by omega)
  simp only [bankEntry, hkey 0 (by decide), hkey 1 (by decide), hkey 2 (by decide), hkey 3 (by decide)]

theorem State.writeShadow_busy (s : State) (e w v : Nat) (h : s.bit Reg.MER_STATUS_SWAP_PENDING = true) :
    s.writeShadow e w v = s.merStatus Code.eBusy := by
  rw [State.writeShadow, if_pos h]

theorem State.writeShadow_taken (s : State) (e w v : Nat) (h : s.bit Reg.MER_STATUS_SWAP_PENDING = false) :
    s.writeShadow e w v =
      { s with mer := { s.mer with shadow := KMap.set 0 s.mer.shadow (4 * e + w) (wordMask w v) } }.merStatus Code.ok := by
  rw [State.writeShadow, if_neg (by simp [h])]

theorem State.writePipeFrame_refused (s : State) (p v : Nat) (h : 4000 < v) :
    s.writePipeFrame p v = s.merStatus (if v = 0xFFF then Code.eLength else Code.eIllegal) := by
  by_cases hv : v = 0xFFF
  · rw [State.writePipeFrame, if_pos hv, if_pos hv]
  · rw [State.writePipeFrame, if_neg hv, if_neg hv, if_pos h]

theorem State.writePipeFrame_busy (s : State) (p v : Nat) (hv : v ≤ 4000)
    (h : s.bit Reg.MER_STATUS_SWAP_PENDING = true) : s.writePipeFrame p v = s.merStatus Code.eBusy := by
  rw [State.writePipeFrame, if_neg (by omega), if_neg (by omega), if_pos h]

theorem State.writePipeFrame_taken (s : State) (p v : Nat) (hv : v ≤ 4000)
    (h : s.bit Reg.MER_STATUS_SWAP_PENDING = false) :
    s.writePipeFrame p v = (s.set (Reg.MER_PIPE_FRAME_FRAME_TICKS p) v).merStatus Code.ok := by
  rw [State.writePipeFrame, if_neg (by omega), if_neg (by omega), if_neg (by simp [h])]

end Sys2Proof.Machine

namespace Sys2Proof.Scope
open Sys2Proof Sys2Proof.Machine Sys2Proof.Safety

/-- Settles O11: each write is one of two ends, a status alone (`does_merStatus`) or a field stored with OK
(`does_merStore`), and the checks of R66 say which; a shadow word besides keeps every other entry of its bank. -/
theorem meridianParameters : Obligations.MeridianParameters := by
  unfold Obligations.MeridianParameters
  refine ⟨?_, ?_, ?_, ?_, ?_, ?_, ?_, ?_, ?_, ?_, ?_, ?_, ?_, ?_, ?_, ?_, ?_⟩
  · intro who v s hp hrun h250 h10000 hhyper hphase
    have hfit : paramsFit v.toNat (s.get Reg.MER_HYPER_TICKS_TICKS) (s.get Reg.MER_PHASE_NS_PHASE) = true := by
      rw [paramsFit_iff, Nat.mul_comm]; exact ⟨hhyper, hphase⟩
    refine does_merStore hp rfl ?_ v.isLt (by decide)
    rw [State.writeTickPeriod_legal _ _ ⟨h250, h10000⟩]
    exact (congrArg (State.paramWrite _ _ _ · _) hfit).trans (State.paramWrite_taken _ _ _ hrun)
  · intro who v s hp hrun h250 h10000 hhyper hphase
    have hfit : paramsFit v.toNat (s.get Reg.MER_HYPER_TICKS_TICKS) (s.get Reg.MER_PHASE_NS_PHASE) = true := by
      rw [paramsFit_iff, Nat.mul_comm]; exact ⟨hhyper, hphase⟩
    refine does_merStatus hp rfl ?_ (by decide)
    rw [State.writeTickPeriod_legal _ _ ⟨h250, h10000⟩]
    exact (congrArg (State.paramWrite _ _ _ · _) hfit).trans (State.paramWrite_state _ _ _ hrun)
  · intro who v s hp hv
    exact does_merStatus hp rfl (State.writeTickPeriod_illegal _ _ hv) (by decide)
  · intro who v s hp h250 h10000 hbad
    have hfit : paramsFit v.toNat (s.get Reg.MER_HYPER_TICKS_TICKS) (s.get Reg.MER_PHASE_NS_PHASE) = false := by
      rw [paramsFit_false_iff, Nat.mul_comm]; exact hbad
    refine does_merStatus hp rfl ?_ (by decide)
    rw [State.writeTickPeriod_legal _ _ ⟨h250, h10000⟩]
    exact (congrArg (State.paramWrite _ _ _ · _) hfit).trans (State.paramWrite_bounds _ _ _)
  · intro who v s hp hrun h0 h4000 hhyper hphase
    have hfit := (paramsFit_iff (s.get Reg.MER_TICK_PERIOD_PERIOD_US) v.toNat (s.get Reg.MER_PHASE_NS_PHASE)).2 ⟨hhyper, hphase⟩
    refine does_merStore hp rfl ?_ v.isLt (by decide)
    rw [State.writeHyperTicks_legal _ _ h0 h4000]
    exact (congrArg (State.paramWrite _ _ _ · _) hfit).trans (State.paramWrite_taken _ _ _ hrun)
  · intro who v s hp h0 h4000 hhyper hphase hrun
    have hfit := (paramsFit_iff (s.get Reg.MER_TICK_PERIOD_PERIOD_US) v.toNat (s.get Reg.MER_PHASE_NS_PHASE)).2 ⟨hhyper, hphase⟩
    refine does_merStatus hp rfl ?_ (by decide)
    rw [State.writeHyperTicks_legal _ _ h0 h4000]
    exact (congrArg (State.paramWrite _ _ _ · _) hfit).trans (State.paramWrite_state _ _ _ hrun)
  · intro who v s hp h0 h4000 hbad
    have hfit := (paramsFit_false_iff (s.get Reg.MER_TICK_PERIOD_PERIOD_US) v.toNat (s.get Reg.MER_PHASE_NS_PHASE)).2 hbad
    refine does_merStatus hp rfl ?_ (by decide)
    rw [State.writeHyperTicks_legal _ _ h0 h4000]
    exact (congrArg (State.paramWrite _ _ _ · _) hfit).trans (State.paramWrite_bounds _ _ _)
  · intro who v s hp hv
    exact does_merStatus hp rfl (State.writeHyperTicks_length _ _ hv) (by decide)
  · intro who v s hp h4000 hv
    exact does_merStatus hp rfl (State.writeHyperTicks_illegal _ _ h4000 hv) (by decide)
  · intro who v s hp hrun hhyper hphase
    have hfit := (paramsFit_iff (s.get Reg.MER_TICK_PERIOD_PERIOD_US) (s.get Reg.MER_HYPER_TICKS_TICKS) v.toNat).2
      ⟨hhyper, by rwa [Nat.mul_comm (s.get Reg.MER_HYPER_TICKS_TICKS)]⟩
    refine does_merStore hp rfl ?_ v.isLt (by decide)
    exact (congrArg (State.paramWrite _ _ _ · _) hfit).trans (State.paramWrite_taken _ _ _ hrun)
  · intro who v s hp hrun hhyper hphase
    have hfit := (paramsFit_iff (s.get Reg.MER_TICK_PERIOD_PERIOD_US) (s.get Reg.MER_HYPER_TICKS_TICKS) v.toNat).2
      ⟨hhyper, by rwa [Nat.mul_comm (s.get Reg.MER_HYPER_TICKS_TICKS)]⟩
    refine does_merStatus hp rfl ?_ (by decide)
    exact (congrArg (State.paramWrite _ _ _ · _) hfit).trans (State.paramWrite_state _ _ _ hrun)
  · intro who v s hp hphase
    have hfit := (paramsFit_false_iff (s.get Reg.MER_TICK_PERIOD_PERIOD_US) (s.get Reg.MER_HYPER_TICKS_TICKS) v.toNat).2
      (.inr (by rwa [Nat.mul_comm (s.get Reg.MER_HYPER_TICKS_TICKS)]))
    refine does_merStatus hp rfl ?_ (by decide)
    exact (congrArg (State.paramWrite _ _ _ · _) hfit).trans (State.paramWrite_bounds _ _ _)
  · intro who e w v s hp hpend
    refine does_gateWrite hp rfl ?_
    rw [State.writeShadow_taken (s.answer 0) _ _ _ hpend]
    have hmask : wordMask w.val v.toNat = if w.val = 3 then v.toNat else v.toNat % 2 ^ 20 := by
      rw [wordMask, Nat.mod_eq_of_lt v.isLt]
    refine ⟨?_, ?_, rfl, State.get_set_lt _ _ _ (by decide), ?_, rfl⟩
    · exact (KMap.getD_set_same _ _ _ _).trans hmask
    · exact fun e' he => bankEntry_set_other _ _ _ _ _ w.isLt (fun h => he (Fin.ext h))
    · exact (RegsKept.congr rfl (RegsKept.refl _ _)).set List.mem_cons_self
  · intro who e w v s hp hpend
    exact does_merStatus hp rfl (State.writeShadow_busy _ _ _ _ hpend) (by decide)
  · intro who p v s hp hpend h4000
    refine does_merStore hp rfl (State.writePipeFrame_taken _ _ _ h4000 hpend) v.isLt ?_
    simp only [Field.key, Reg.MER_PIPE_FRAME_FRAME_TICKS, Reg.MER_PIPE_FRAME_addr, Reg.MER_CMD_STATUS_STATUS,
      Reg.MER_CMD_STATUS_addr]
    omega
  · intro who p v s hp hpend h4000
    exact does_merStatus hp rfl (State.writePipeFrame_busy _ _ _ h4000 hpend) (by decide)
  · intro who p v s hp h4000
    exact does_merStatus hp rfl (State.writePipeFrame_refused _ _ _ h4000) (by split <;> decide)

end Sys2Proof.Scope

/-! # Register accesses (R9, R10, R12, R13) -/

namespace Sys2Proof.Machine
open Sys2Proof Sys2Proof.Safety

/-! ## The register at an address -/

/-- No register lies below its base. -/
theorem findReg_none_below {t : List RegD} {a : Nat} (h : ∀ r ∈ t, a < r.base) : findReg t a = none := by
  induction t with
  | nil => rfl
  | cons r t ih =>
    have hr : r.offset? a = none := if_pos (h r List.mem_cons_self)
    rw [findReg, hr]
    exact ih (fun r hr => h r (List.mem_cons_of_mem _ hr))

/-- The register found is a row of the table. -/
theorem findReg_mem {t : List RegD} {a : Nat} {h : RegHit} (hf : findReg t a = some h) : h.reg ∈ t := by
  induction t with
  | nil => cases hf
  | cons r t ih =>
    rw [findReg] at hf
    split at hf
    · cases hf
      exact List.mem_cons_self
    · exact List.mem_cons_of_mem _ (ih hf)

theorem blockTable_PMU {a : Nat} (h : 0x10400000 ≤ a) (h' : a < 0x10500000) : blockTable a = regTablePMU := by
  simp only [blockTable]
  rw [if_neg (by omega), if_neg (by omega), if_neg (by omega), if_neg (by omega), if_pos (by omega)]

theorem blockTable_TEN {a : Nat} (h : 0x10600000 ≤ a) (h' : a < 0x12000000) : blockTable a = regTableTEN := by
  simp only [blockTable]
  rw [if_neg (by omega), if_neg (by omega), if_neg (by omega), if_neg (by omega), if_neg (by omega), if_neg (by omega),
    if_pos (by omega)]

theorem blockTable_PLB {a : Nat} (h : 0x12000000 ≤ a) (h' : a < 0x14000000) : blockTable a = regTablePLB := by
  simp only [blockTable]
  rw [if_neg (by omega), if_neg (by omega), if_neg (by omega), if_neg (by omega), if_neg (by omega), if_neg (by omega),
    if_neg (by omega), if_pos (by omega)]

theorem blockTable_CRY {a : Nat} (h : 0x1C000000 ≤ a) : blockTable a = regTableCRY := by
  simp only [blockTable]
  iterate 16 rw [if_neg (by omega)]

/-! ## The gates of reads and writes by address -/

theorem inBlock_of_inTable {a : Nat} (h : inTable a = true) : inBlock a = true := by
  simp only [inTable, inBlock, Bool.and_eq_true, Bool.or_eq_true, decide_eq_true_eq] at *
  omega

theorem State.busWrite_pass {s : State} {who : Agent} {a : Nat} (width v : Nat) (hb : inBlock a = true)
    (hp : Passes s who a true) : s.busWrite who a width v = (s.answer 0).busWriteIn who a width v := by
  rw [State.busWrite, if_pos hb, State.gateWrite_pass _ _ _ _ hp]

theorem State.busRead_pass {s : State} {who : Agent} {a : Nat} (width : Nat) (hb : inBlock a = true)
    (hp : Passes s who a false) : s.busRead who a width = s.busReadIn who a width := by
  rw [State.busRead, if_pos hb, State.gate_pass _ _ _ _ _ hp]

theorem State.busWrite_outside {a : Nat} (s : State) (who : Agent) (width v : Nat) (hb : inBlock a = false) :
    s.busWrite who a width v = s.busError := by
  rw [State.busWrite, if_neg (by simp [hb])]

theorem State.busRead_outside {a : Nat} (s : State) (who : Agent) (width : Nat) (hb : inBlock a = false) :
    s.busRead who a width = s.busError := by
  rw [State.busRead, if_neg (by simp [hb])]

/-! ## The events of the same clock -/

@[simp] theorem State.hwSets_zero (s : State) (a : Nat) : s.hwSets a 0 = s := rfl

/-- Events at a bit where the register at the address has no RC field change nothing. -/
theorem State.rcEvents_no_field (s : State) {a lo : Nat} (n : Nat)
    (h : ∀ r, findReg (blockTable a) a = some r → ∀ f ∈ r.reg.fields, f.lo = lo → f.acc ≠ .rc) :
    s.rcEvents a lo n = s := by
  rw [State.rcEvents]
  split
  · next r hr =>
    have hnone : r.reg.fields.find? (fun f => decide (f.lo = lo) && decide (f.acc = .rc)) = none := by
      rw [List.find?_eq_none]
      intro f hf
      simpa using h r hr f hf
    rw [hnone]
  · rfl

/-- No register outside every block of R37 has an RC field. -/
theorem rcFree_outside {a : Nat} (hlo : 0x10000000 ≤ a) (hb : inBlock a = false) :
    ∀ r, findReg (blockTable a) a = some r → ∀ f ∈ r.reg.fields, f.acc ≠ .rc := by
  intro r hr
  have hcases : (0x10600000 ≤ a ∧ a < 0x11000000) ∨ (0x12000000 ≤ a ∧ a < 0x13000000) ∨ 0x1D000000 ≤ a := by
    simp only [inBlock, Bool.or_eq_false_iff, Bool.and_eq_false_iff, decide_eq_false_iff_not] at hb
    omega
  rcases hcases with ⟨h1, h2⟩ | ⟨h1, h2⟩ | h1
  · rw [blockTable_TEN h1 (by omega), findReg_none_below] at hr
    · cases hr
    · have hbase : ∀ r ∈ regTableTEN, 0x11000000 ≤ r.base := by decide
      exact fun r hr => Nat.lt_of_lt_of_le h2 (hbase r hr)
  · rw [blockTable_PLB h1 (by omega), findReg_none_below] at hr
    · cases hr
    · have hbase : ∀ r ∈ regTablePLB, 0x13000000 ≤ r.base := by decide
      exact fun r hr => Nat.lt_of_lt_of_le h2 (hbase r hr)
  · rw [blockTable_CRY (by omega)] at hr
    have hfree : ∀ r ∈ regTableCRY, ∀ f ∈ r.fields, f.acc ≠ .rc := by decide
    exact hfree _ (findReg_mem hr)

/-! ## Writes behind the gate, case by case -/

section
variable {s : State} {who : Agent} {a width v : Nat} {h : RegHit}

theorem State.busWriteIn_unassigned (ht : inTable a = false) (hr : findReg (blockTable a) a = none) :
    s.busWriteIn who a width v = s := by
  rw [State.busWriteIn, if_neg (by simp [ht]), hr]

theorem State.busWriteIn_table_misfit (ht : inTable a = true) (hw : ¬(width = 4 ∧ a % 4 = 0)) :
    s.busWriteIn who a width v = s.busError := by
  rw [State.busWriteIn, if_pos ht, if_pos (by omega)]

theorem State.busWriteIn_narrow_misfit (ht : inTable a = false) (hr : findReg (blockTable a) a = some h)
    (hn : h.reg.wide = false) (hw : ¬(width = 4 ∧ a = h.addr)) : s.busWriteIn who a width v = s.busError := by
  rw [State.busWriteIn, if_neg (by simp [ht]), hr]
  simp only [hn, Bool.not_false, if_true, if_neg hw]

theorem State.busWriteIn_narrow (ht : inTable a = false) (hr : findReg (blockTable a) a = some h)
    (hn : h.reg.wide = false) (ha : a = h.addr) : s.busWriteIn who a 4 v = s.writeReg who h (v % 2 ^ 32) := by
  rw [State.busWriteIn, if_neg (by simp [ht]), hr]
  simp only [hn, Bool.not_false, if_true, true_and, if_pos ha]

theorem State.busWriteIn_low_word (ht : inTable a = false) (hr : findReg (blockTable a) a = some h)
    (hn : h.reg.wide = true) (ha : a = h.addr) :
    s.busWriteIn who a 4 v = { s with held := KMap.put s.held (hartOf who * 2 ^ 48 + a) (v % 2 ^ 32) } := by
  rw [State.busWriteIn, if_neg (by simp [ht]), hr]
  simp only [hn, Bool.not_true, Bool.false_eq_true, if_false, true_and, if_pos ha]
  rw [if_neg (by omega)]

/-! ## Reads behind the gate, case by case -/

theorem State.busReadIn_unassigned (ht : inTable a = false) (hr : findReg (blockTable a) a = none) :
    s.busReadIn who a width = s.answer 0 := by
  rw [State.busReadIn, if_neg (by simp [ht]), hr]

theorem State.busReadIn_narrow_misfit (ht : inTable a = false) (hr : findReg (blockTable a) a = some h)
    (hn : h.reg.wide = false) (hw : ¬(width = 4 ∧ a = h.addr)) : s.busReadIn who a width = s.busError := by
  rw [State.busReadIn, if_neg (by simp [ht]), hr]
  simp only [hn, Bool.not_false, if_true, if_neg hw]

theorem State.busReadIn_narrow (ht : inTable a = false) (hr : findReg (blockTable a) a = some h)
    (hn : h.reg.wide = false) (ha : a = h.addr) : s.busReadIn who a 4 = s.readReg who h := by
  rw [State.busReadIn, if_neg (by simp [ht]), hr]
  simp only [hn, Bool.not_false, if_true, true_and, if_pos ha]

theorem State.busReadIn_low_word (ht : inTable a = false) (hr : findReg (blockTable a) a = some h)
    (hn : h.reg.wide = true) (ha : a = h.addr) (hl : ownLatch a = false) {d : Nat} {t : State}
    (ht' : s.readReg who h = t.answer d) :
    s.busReadIn who a 4 = (t.setLatch who a (d / 2 ^ 32)).answer (d % 2 ^ 32) := by
  rw [State.busReadIn, if_neg (by simp [ht]), hr]
  simp only [hn, Bool.not_true, Bool.false_eq_true, if_false, true_and, if_pos ha]
  rw [if_neg (by omega), ht']
  simp only [hl]
  rfl

end

/-! ## The fields of a register, step by step -/

section
variable {h : RegHit} {f g : FieldD}

/-- Fields of one register differ where their low bits do. -/
theorem RegHit.field_key_ne (hlo : g.lo ≠ f.lo) : (h.field g).key ≠ (h.field f).key := by
  simp only [Field.key, RegHit.field]
  omega

/-- Where each step over a register's fields touches its own field alone, a field ends as its own step leaves it. -/
theorem foldl_field_get {step : State → FieldD → State} {fs : List FieldD}
    (hother : ∀ s f g, g.lo ≠ f.lo → (step s f).get (h.field g) = s.get (h.field g)) (hd : (fs.map FieldD.lo).Nodup)
    (s : State) (hf : f ∈ fs) :
    ∃ u : State, u.get (h.field f) = s.get (h.field f) ∧
      (fs.foldl step s).get (h.field f) = (step u f).get (h.field f) := by
  induction fs generalizing s with
  | nil => cases hf
  | cons g fs ih =>
    obtain ⟨hg, hd⟩ := List.nodup_cons.1 hd
    rw [List.foldl_cons]
    rcases List.mem_cons.1 hf with rfl | hf
    · refine ⟨s, rfl, foldl_keeps step (State.get · (h.field f)) fs (fun s x hx => hother s x f ?_) _⟩
      exact fun e => hg (e ▸ List.mem_map_of_mem hx)
    · have hne : f.lo ≠ g.lo := fun e => hg (e ▸ List.mem_map_of_mem hf)
      obtain ⟨u, hu, hu'⟩ := ih hd (step s g) hf
      exact ⟨u, hu.trans (hother s g f hne), hu'⟩

/-! ### A write by access code -/

theorem State.writeField_other (s : State) (acc : Acc) (v : Nat) (hlo : g.lo ≠ f.lo) :
    (s.writeField (h.field f) acc v).get (h.field g) = s.get (h.field g) := by
  cases acc with
  | rw | w1c | w1s => exact State.get_set_other _ _ _ _ (RegHit.field_key_ne hlo)
  | ro | wo | rc => rfl

theorem bitsOf_lt (x hi lo : Nat) : bitsOf x hi lo < 2 ^ (hi + 1 - lo) := Nat.mod_lt _ (Nat.two_pow_pos _)

section
variable (hd : (h.reg.fields.map FieldD.lo).Nodup) (hf : f ∈ h.reg.fields) (s : State) (v : Nat)
include hd hf

theorem State.writeFields_field : ∃ u : State, u.get (h.field f) = s.get (h.field f) ∧
    (s.writeFields h v).get (h.field f) = (u.writeField (h.field f) f.acc v).get (h.field f) :=
  foldl_field_get (step := fun s f => s.writeField (h.field f) f.acc v) (fun s f _ hlo => s.writeField_other f.acc v hlo)
    hd s hf

theorem State.writeFields_rw (ha : f.acc = .rw) : (s.writeFields h v).get (h.field f) = bitsOf v f.hi f.lo := by
  obtain ⟨u, -, hw⟩ := State.writeFields_field hd hf s v
  rw [hw, ha]
  exact State.get_set_lt _ _ _ (bitsOf_lt _ _ _)

theorem State.writeFields_w1c (ha : f.acc = .w1c) :
    (s.writeFields h v).get (h.field f) = s.get (h.field f) &&& (2 ^ (h.field f).width - 1 - bitsOf v f.hi f.lo) := by
  obtain ⟨u, hu, hw⟩ := State.writeFields_field hd hf s v
  rw [hw, ha, ← hu]
  exact State.get_set_lt _ _ _ (Nat.lt_of_le_of_lt Nat.and_le_left (State.get_lt _ _))

theorem State.writeFields_ro (ha : f.acc = .ro) : (s.writeFields h v).get (h.field f) = s.get (h.field f) := by
  obtain ⟨u, hu, hw⟩ := State.writeFields_field hd hf s v
  rw [hw, ha]
  exact hu

end

/-! ### The sets of the same clock -/

/-- The step of `State.hwSets` at a field. -/
theorem State.hwStep_other (s : State) (m : Nat) (hlo : g.lo ≠ f.lo) :
    (if f.acc = .w1c then s.set (h.field f) (s.get (h.field f) ||| bitsOf m f.hi f.lo) else s).get (h.field g) =
      s.get (h.field g) := by
  split
  · exact State.get_set_other _ _ _ _ (RegHit.field_key_ne hlo)
  · rfl

/-- What `State.hwSets` leaves in a field: the bits of a W1C field set, any other field as it was. -/
theorem State.hwSets_field {a : Nat} (hr : findReg (blockTable a) a = some h) (hd : (h.reg.fields.map FieldD.lo).Nodup)
    (hf : f ∈ h.reg.fields) (s : State) (m : Nat) :
    (s.hwSets a m).get (h.field f) =
      if f.acc = .w1c then s.get (h.field f) ||| bitsOf m f.hi f.lo else s.get (h.field f) := by
  by_cases hm : m = 0
  · simp [hm, bitsOf]
  · rw [State.hwSets, if_neg hm, hr]
    obtain ⟨u, hu, hw⟩ := foldl_field_get (h := h)
      (step := fun s f => if f.acc = .w1c then s.set (h.field f) (s.get (h.field f) ||| bitsOf m f.hi f.lo) else s)
      (fun s f g hlo => s.hwStep_other m hlo) hd s hf
    rw [hw, ← hu]
    split
    · exact State.get_set_lt _ _ _ (Nat.or_lt_two_pow (State.get_lt _ _) (bitsOf_lt _ _ _))
    · rfl

/-! ### Clearing on a read -/

/-- What a read leaves in a field: 0 in an RC field. -/
theorem State.readClear_rc (hd : (h.reg.fields.map FieldD.lo).Nodup) (hf : f ∈ h.reg.fields) (ha : f.acc = .rc)
    (s : State) : (s.readClear h).get (h.field f) = 0 := by
  obtain ⟨u, -, hw⟩ := foldl_field_get (h := h) (step := fun s f => if f.acc = .rc then s.set (h.field f) 0 else s)
    (fun s f g hlo => by
      split
      · exact State.get_set_other _ _ _ _ (RegHit.field_key_ne hlo)
      · rfl) hd s hf
  rw [State.readClear, hw, if_pos ha, State.get_set_same, Nat.zero_mod]

/-- A register without RC fields is read as it is. -/
theorem State.readClear_none (s : State) (hn : h.reg.fields.any (fun f => f.acc = .rc) = false) : s.readClear h = s := by
  refine foldl_inv _ (· = s) _ (fun u f hf hu => ?_) s rfl
  rw [if_neg (by simpa using List.any_eq_false.1 hn f hf)]
  exact hu

/-! ### Frames -/

variable {fs : List Field} {ks : List (Nat × Nat)} {s t : State}

theorem onlyRegs_writeFields (ht : OnlyRegs fs ks s t) (hs : ∀ f ∈ h.reg.fields, h.field f ∈ fs) (v : Nat) :
    OnlyRegs fs ks s (t.writeFields h v) := by
  refine foldl_inv _ (OnlyRegs fs ks s) _ (fun u f hf hu => ?_) t ht
  cases f.acc with
  | rw | w1c | w1s => exact hu.set (hs f hf) _
  | ro | wo | rc => exact hu

theorem onlyRegs_hwSets {a : Nat} (ht : OnlyRegs fs ks s t) (hr : findReg (blockTable a) a = some h)
    (hs : ∀ f ∈ h.reg.fields, h.field f ∈ fs) (m : Nat) : OnlyRegs fs ks s (t.hwSets a m) := by
  rw [State.hwSets]
  split
  · exact ht
  · rw [hr]
    refine foldl_inv _ (OnlyRegs fs ks s) _ (fun u f hf hu => ?_) t ht
    split
    · exact hu.set (hs f hf) _
    · exact hu

theorem onlyRegs_readClear (ht : OnlyRegs fs ks s t) (hs : ∀ f ∈ h.reg.fields, f.acc = .rc → h.field f ∈ fs) :
    OnlyRegs fs ks s (t.readClear h) := by
  refine foldl_inv _ (OnlyRegs fs ks s) _ (fun u f hf hu => ?_) t ht
  split
  · next ha => exact hu.set (hs f hf ha) _
  · exact hu

end

/-- Events of the clock at an RC field are added to it. -/
theorem State.rcEvents_field {a lo : Nat} {h : RegHit} {f : FieldD} (s : State) (n : Nat)
    (hr : findReg (blockTable a) a = some h)
    (hf : h.reg.fields.find? (fun f => f.lo = lo && f.acc = .rc) = some f) :
    s.rcEvents a lo n = s.set (h.field f) (satAdd (h.field f).width (s.get (h.field f)) n) := by
  rw [State.rcEvents, hr]
  simp only [hf]

theorem satAdd_lt (w x d : Nat) : satAdd w x d < 2 ^ w :=
  Nat.lt_of_le_of_lt (Nat.min_le_right _ _) (Nat.sub_lt (Nat.two_pow_pos _) Nat.one_pos)

/-! ## Registers that have no rules of their own: PMU, Plumb, Cryto -/

/-- Addresses of the blocks whose registers read as their fields and without effects. -/
def plainRead (a : Nat) : Prop :=
  (0x10400000 ≤ a ∧ a < 0x10500000) ∨ (0x13000000 ≤ a ∧ a < 0x14000000) ∨ 0x1C000000 ≤ a

section
variable {h : RegHit}

theorem State.view_plain (s : State) (who : Agent) (ha : plainRead h.addr) : s.view who h = s.fieldsView h := by
  simp only [plainRead] at ha
  simp only [State.view, Reg.MER_SECONDS_addr, Reg.MER_TS32_addr, Reg.MER_RATE_addr]
  iterate 13 rw [if_neg (by omega)]

theorem State.readReg_plain (s : State) (who : Agent) (ha : plainRead h.addr) :
    s.readReg who h = (s.readClear h).answer (s.fieldsView h) := by
  rw [← s.view_plain who ha]
  simp only [plainRead] at ha
  simp only [State.readReg, Reg.MER_TIME_NS_addr]
  iterate 7 rw [if_neg (by omega)]

theorem State.writeReg_PMU (s : State) (who : Agent) (v : Nat) (hl : 0x10400000 ≤ h.addr) (hu : h.addr < 0x10500000) :
    s.writeReg who h v = s.writeFields h v := by
  simp only [State.writeReg]
  iterate 4 rw [if_neg (by omega)]
  rw [if_pos hu]

end

/-! ### Their tables: fields at distinct bits, inside a word -/

theorem regTablePMU_fields : ∀ r ∈ regTablePMU, (r.fields.map FieldD.lo).Nodup ∧
    (r.wide = false → ∀ f ∈ r.fields, f.hi < 32) := by decide

theorem regTablePLB_fields : ∀ r ∈ regTablePLB, (r.fields.map FieldD.lo).Nodup := by decide

/-- The bits of a low word are those of the value. -/
theorem bitsOf_low_word (x : Nat) {hi lo : Nat} (h : hi < 32) : bitsOf (x % 2 ^ 32) hi lo = bitsOf x hi lo := by
  refine Nat.eq_of_testBit_eq fun i => ?_
  simp only [bitsOf, Nat.testBit_mod_two_pow, Nat.testBit_shiftRight]
  by_cases hi' : i < hi + 1 - lo
  · have : lo + i < 32 := by omega
    simp [hi', this]
  · simp [hi']

end Sys2Proof.Machine

namespace Sys2Proof.Scope
open Sys2Proof Sys2Proof.Machine Sys2Proof.Safety

/-! ## Register writes and reads that complete -/

section
variable {who : Agent} {addr : BitVec 48} {s : State} {P : State → Prop}

theorem does_registerWrite {width : Nat} {v hw : BitVec 64} (hb : inBlock addr.toNat = true)
    (hp : Passes s who addr.toNat true)
    (h : P (((s.answer 0).busWriteIn who addr.toNat width v.toNat).hwSets addr.toNat hw.toNat)) :
    Does (.registerWrite who addr width v hw) s P :=
  ⟨_, rfl, by rwa [State.busWrite_pass _ _ hb hp]⟩

theorem does_readClear {width lo n : Nat} (hb : inBlock addr.toNat = true) (hp : Passes s who addr.toNat false)
    (h : P ((s.busReadIn who addr.toNat width).rcEvents addr.toNat lo n)) :
    Does (.readClear who addr width lo n) s P :=
  ⟨_, rfl, by rwa [State.busRead_pass _ hb hp]⟩

theorem does_lowWordReadLatch (hb : inBlock addr.toNat = true) (hp : Passes s who addr.toNat false)
    (h : P (s.busReadIn who addr.toNat 4)) : Does (.lowWordReadLatch who addr) s P :=
  ⟨_, rfl, by rwa [State.busRead_pass _ hb hp]⟩

end

/-- Settles O13: behind the checker an unassigned offset is answered with 0, and outside every block the access is a bus
error; neither write sets nor events of the clock find a field there. -/
theorem unassignedOffsetsAndAddresses : Obligations.UnassignedOffsetsAndAddresses := by
  unfold Obligations.UnassignedOffsetsAndAddresses
  refine ⟨?writeIn, ?readIn, ?latchIn, ?writeOut, ?readOut⟩
  case writeIn =>
    intro who addr width v s hp hb ht hr
    refine does_registerWrite hb hp ?_
    rw [State.busWriteIn_unassigned ht hr]
    exact ⟨rfl, rfl⟩
  case readIn =>
    intro who addr width lo n s hp hb ht hr
    refine does_readClear hb hp ?_
    rw [State.busReadIn_unassigned ht hr, State.rcEvents_no_field _ _ (by simp [hr])]
    exact ⟨rfl, rfl, rfl⟩
  case latchIn =>
    intro who addr s hp hb ht hr
    refine does_lowWordReadLatch hb hp ?_
    rw [State.busReadIn_unassigned ht hr]
    exact ⟨rfl, rfl, rfl⟩
  case writeOut =>
    intro who addr width v s _ _ hb
    refine ⟨_, rfl, ?_⟩
    rw [State.busWrite_outside _ _ _ _ hb]
    exact ⟨rfl, rfl⟩
  case readOut =>
    intro who addr width lo n s hl _ hb
    refine ⟨_, rfl, ?_⟩
    rw [State.busRead_outside _ _ _ hb, State.rcEvents_no_field _ _ (fun r hr f hf _ => rcFree_outside hl hb r hr f hf)]
    exact ⟨rfl, rfl, rfl⟩

theorem inBlock_PMU {a : Nat} (hl : 0x10400000 ≤ a) (hu : a < 0x10500000) : inBlock a = true := by
  simp [inBlock]; omega

theorem inTable_of_PMU {a : Nat} (hl : 0x10400000 ≤ a) : inTable a = false := by
  simp [inTable]; omega

/-- Settles O14: an access that misses the register's own address or width is a bus error; a PMU register is answered. -/
theorem registerWidthAndAlignment : Obligations.RegisterWidthAndAlignment := by
  unfold Obligations.RegisterWidthAndAlignment
  refine ⟨?write, ?tableWrite, ?read, ?pmuRead⟩
  case write =>
    intro who addr width v s hp hb ht h hr hn hw
    refine does_registerWrite hb hp ?_
    rw [State.busWriteIn_narrow_misfit ht hr hn hw]
    exact ⟨rfl, rfl, rfl⟩
  case tableWrite =>
    intro who addr width v s hp ht hw
    refine does_registerWrite (inBlock_of_inTable ht) hp ?_
    rw [State.busWriteIn_table_misfit ht hw]
    exact ⟨rfl, rfl, rfl⟩
  case read =>
    intro who addr width s hp hb ht h hr hn h63 hw
    refine does_readClear hb hp ?_
    have hno : ∀ r, findReg (blockTable addr.toNat) addr.toNat = some r →
        ∀ f ∈ r.reg.fields, f.lo = 63 → f.acc ≠ .rc := by
      intro r hr' f hf hlo
      obtain rfl : h = r := Option.some.inj (hr.symm.trans hr')
      exact absurd hlo (by simpa using List.any_eq_false.1 h63 f hf)
    rw [State.busReadIn_narrow_misfit ht hr hn hw, State.rcEvents_no_field _ _ hno]
    exact ⟨rfl, rfl, rfl⟩
  case pmuRead =>
    intro who addr s hp hl hu h hr hn ha
    refine does_lowWordReadLatch (inBlock_PMU hl hu) hp ?_
    rw [State.busReadIn_narrow (inTable_of_PMU hl) hr hn ha, State.readReg_plain _ _ (.inl (ha ▸ ⟨hl, hu⟩))]
    rfl

/-! ## The access codes -/

/-- A write of a PMU register leaves each field by its access code. -/
theorem pmuWrite_fields {a : Nat} {h : RegHit} (hl : 0x10400000 ≤ a) (hu : a < 0x10500000)
    (hr : findReg (blockTable a) a = some h) (hn : h.reg.wide = false) (s : State) (v m : Nat) {f : FieldD}
    (hf : f ∈ h.reg.fields) :
    (f.acc = .rw → ((s.writeFields h (v % 2 ^ 32)).hwSets a m).get (h.field f) = bitsOf v f.hi f.lo) ∧
    (f.acc = .w1c → ((s.writeFields h (v % 2 ^ 32)).hwSets a m).get (h.field f) =
      (s.get (h.field f) &&& (2 ^ (h.field f).width - 1 - bitsOf v f.hi f.lo)) ||| bitsOf m f.hi f.lo) ∧
    (f.acc = .ro → ((s.writeFields h (v % 2 ^ 32)).hwSets a m).get (h.field f) = s.get (h.field f)) := by
  obtain ⟨hd, hw⟩ := regTablePMU_fields h.reg (findReg_mem (blockTable_PMU hl hu ▸ hr))
  rw [State.hwSets_field hr hd hf]
  refine ⟨fun ha => ?_, fun ha => ?_, fun ha => ?_⟩
  · rw [if_neg (by simp [ha]), State.writeFields_rw hd hf _ _ ha, bitsOf_low_word _ (hw hn f hf)]
  · rw [if_pos ha, State.writeFields_w1c hd hf _ _ ha, bitsOf_low_word _ (hw hn f hf)]
  · rw [if_neg (by simp [ha]), State.writeFields_ro hd hf _ _ ha]

/-- An RC field is found by its low bit. -/
theorem find_rc_field {fs : List FieldD} {lo : Nat} (hd : (fs.map FieldD.lo).Nodup) {f : FieldD} (hf : f ∈ fs)
    (ha : f.acc = .rc) (hlo : f.lo = lo) : fs.find? (fun f => f.lo = lo && f.acc = .rc) = some f := by
  induction fs with
  | nil => cases hf
  | cons g fs ih =>
    obtain ⟨hg, hd⟩ := List.nodup_cons.1 hd
    rcases List.mem_cons.1 hf with rfl | hf
    · exact List.find?_cons_of_pos (by simp [ha, hlo])
    · rw [List.find?_cons_of_neg, ih hd hf]
      have hne : g.lo ≠ lo := fun e => hg (List.mem_map.2 ⟨f, hf, by rw [hlo, e]⟩)
      simp [hne]

/-- Settles O15: the access codes of PMU registers, the held low word, the plain reads, the latched high word, and the
RC fields of Plumb. -/
theorem registerAccessCodes : Obligations.RegisterAccessCodes := by
  unfold Obligations.RegisterAccessCodes
  refine ⟨?codes, ?held, ?read, ?latch, ?clear⟩
  case codes =>
    intro who addr v hw s hp hl hu h hr hn ha
    refine does_registerWrite (inBlock_PMU hl hu) hp ?_
    rw [State.busWriteIn_narrow (inTable_of_PMU hl) hr hn ha, State.writeReg_PMU _ _ _ (ha ▸ hl) (ha ▸ hu)]
    have hfield := fun f (hf : f ∈ h.reg.fields) => pmuWrite_fields hl hu hr hn (s.answer 0) v.toNat hw.toNat hf
    simp only [List.all_eq_true, Bool.or_eq_true, bne_iff_ne, beq_iff_eq, ← imp_iff_not_or]
    refine ⟨fun f hf => (hfield f hf).1, fun f hf => (hfield f hf).2.1, fun f hf => (hfield f hf).2.2, ?_⟩
    have hmem : ∀ f ∈ h.reg.fields, h.field f ∈ h.reg.fields.map h.field := fun f hf => List.mem_map_of_mem hf
    exact onlyRegs_hwSets (onlyRegs_writeFields (OnlyRegs.answered _ _ _ _) hmem _) hr hmem _
  case held =>
    intro who addr v s hp hb ht h hr hwide ha
    refine does_registerWrite hb hp ?_
    rw [State.busWriteIn_low_word ht hr hwide ha]
    exact ⟨KMap.find_put_same _ _ _, rfl, rfl⟩
  case read =>
    intro who addr s hp hl hu h hr hn ha hrc
    refine does_lowWordReadLatch (inBlock_PMU hl hu) hp ?_
    rw [State.busReadIn_narrow (inTable_of_PMU hl) hr hn ha, State.readReg_plain _ _ (.inl (ha ▸ ⟨hl, hu⟩)),
      State.readClear_none _ hrc]
    exact ⟨rfl, rfl⟩
  case latch =>
    intro who addr s hp hl hu h hr hwide ha hrc
    refine does_lowWordReadLatch (by simp [inBlock]; omega) hp ?_
    have hown : ownLatch addr.toNat = false := by
      simp only [ownLatch, Reg.MER_SECONDS_addr, Bool.or_eq_false_iff, Bool.and_eq_false_iff, decide_eq_false_iff_not]
      exact ⟨decide_eq_false (by omega), by omega⟩
    have hread : s.readReg who h = s.answer (s.fieldsView h) := by
      rw [State.readReg_plain _ _ (.inr (.inr (ha ▸ hl))), State.readClear_none _ hrc]
    rw [State.busReadIn_low_word (by simp [inTable]; omega) hr hwide ha hown hread]
    exact ⟨rfl, KMap.find_put_same _ _ _, rfl⟩
  case clear =>
    intro who addr lo n s hp hl hu h hr hn ha hlo
    refine does_readClear (by simp [inBlock]; omega) hp ?_
    have hd := regTablePLB_fields h.reg (findReg_mem (blockTable_PLB (by omega) hu ▸ hr))
    obtain ⟨g, hg, hg'⟩ := List.any_eq_true.1 hlo
    obtain ⟨hga, hgl⟩ : g.acc = .rc ∧ g.lo = lo := by simpa using hg'
    rw [State.busReadIn_narrow (by simp [inTable]; omega) hr hn ha,
      State.readReg_plain _ _ (.inr (.inl (ha ▸ ⟨hl, hu⟩))),
      State.rcEvents_field _ _ hr (find_rc_field hd hg hga hgl)]
    have hmem : ∀ f ∈ h.reg.fields, f.acc = .rc →
        h.field f ∈ (h.reg.fields.filter (fun f => f.acc = .rc)).map h.field :=
      fun f hf ha => List.mem_map_of_mem (List.mem_filter.2 ⟨hf, by simpa using ha⟩)
    simp only [List.all_eq_true, Bool.or_eq_true, bne_iff_ne, beq_iff_eq, ← imp_iff_not_or]
    refine ⟨rfl, fun f hf hfa => ?_, ((onlyRegs_readClear (OnlyRegs.refl _ _ _) hmem).answer _).set (hmem g hg hga) _⟩
    have hclear : ∀ f ∈ h.reg.fields, f.acc = .rc → ((s.readClear h).answer (s.fieldsView h)).get (h.field f) = 0 :=
      fun f hf hfa => State.readClear_rc hd hf hfa s
    rw [hclear g hg hga]
    split
    · next hfl =>
      have hfg : f = g := Option.some.inj ((find_rc_field hd hf hfa hfl).symm.trans (find_rc_field hd hg hga hgl))
      rw [hfg]
      exact State.get_set_lt _ _ _ (satAdd_lt _ _ _)
    · next hfl =>
      rw [State.get_set_other _ _ _ _ (RegHit.field_key_ne (by rwa [hgl])), hclear f hf hfa]

end Sys2Proof.Scope

/-! # Totality (R13, R21) -/

namespace Sys2Proof.Machine
open Sys2Proof

/-! ## The leaves and branches of a meaning -/

/-- The outcome is a next state: neither a fault nor a refusal. -/
def Proceeds (o : Out) : Prop := ∃ t : State, o = .next t

theorem proceeds_done (s : State) : Proceeds (done s) := ⟨s, rfl⟩

theorem proceeds_branch {p : Prop} [Decidable p] {a b : Out} (ha : Proceeds a) (hb : Proceeds b) :
    Proceeds (if p then a else b) := by
  split <;> assumption

/-- Every command proceeds: the meanings listed branch before they end in `done`, and a walk over their conditions,
matches and local values meets `done` at every leaf; every other meaning is `done` of a state at once. -/
theorem exec_proceeds (c : Instr) (s : State) : Proceeds (exec c s) := by
  cases c
  all_goals
    simp -zeta only [exec,
      execPoolEntryFreed, execSyncReceived, execAnnounceReceived, execPeerDelayExchange, execSyncTransmit,
      execPtmExchange, execSyncLoss, execPtmLoss, execHoldoverExpiry, execAcquisitionWaitExpiry, execBaseTick,
      execTimeOutPulse, execTimeInEdge, execWindowOpen, execWindowClose, execFenceRelease, execTileArithFault,
      execEccUncorrectable, execPlumbEccUncorrectable, execCmdOverrun, execDataBusError, execScrubPass,
      execMemoryInitDone, execPartitionClearDone, execRowMarkArm, execRowMarkAdvance, execConsumerRowStart,
      execDefusion, execTrainingSessionLimit, execQueueEnable, execQueueDisable, execWayCleanDone, execVteFreeze,
      execVteRestore, execHeartbeatReceived, execPeerLost, execKillAckTimeout, execCollReady, execCollGo,
      execCollKill, execCollRestart, execCollEnd, execPairHeartbeat, execPairHeartbeatLoss, execLatentTimeout,
      execSafeStateReadback, execPlumbClockRailFault, execInjectionComplete, execLibraryCrcCheck, execFallbackDone,
      execSearchEnd, execSearchDeadline, execOptimisationEnd, execOptimisationDeadline, execPlanCommit,
      execTraverseFault, execGfxJobComplete, execBinFault, execBinFaultDeadline, execFlushDone, execGfxFault,
      execCompositionSlackLow, execYieldLimit, execLinkTrained, execDisplayFrameStart, execCheckedRegionCompare,
      execFrameEndTimeout, execSampleDescriptor, execDecodeComplete, execDecodeBudgetExpiry, execIspMemoryInput,
      execStagingJobEnd, execStagingOverrun, execMwattrWrite, execSvcPartSwitch, execSvcRegionSet,
      execEcallUnknownService, execServiceAnswer, execServiceCallTimeout, execSecureWatchdogExpiry,
      execSecureWatchdogTestExpiry, execLeaseWrite, execLevelLineChange, execEdgeEvent, execSourceConfigWrite,
      execCanFrameRx, execLinFrameRx, execEthernetFrameRx, execFlowPeriodTimer, execFlowTimeout, execLinScheduleSlot,
      execGateCycleStart, execGateEntryChange, execEndpointTxRecord, execLateCompletion, execBridgeFence,
      execBridgeFenceDone, execPcieInboundRequest, execPcieLinkDown, execFbaRequestReceived, execSessionIdleTimeout,
      execMuteExpiry, execViolationCountClear, execCompactionDone, execFwWatchdogExpiry, execFwWatchdogTestExpiry,
      execDetach, execHeartbeatLapse, execPmuLoop, execAvsTrim, execRailFault, execCeilingLower, execCeilingRaise,
      execShedStep, execShedUndo, execThermalTrip, execStageWriteDone, execFwSwitchReadyTimeout, execPowerOnReset,
      execSystemReset, execPllLoss, execPllRelock, execWake, execSleepEntryDone, execPwrFail, execPwrFailReturn,
      execDebugChallengeRead, execDebugToken, execFwProcessorReady, execRestartMeasurementDone,
      execActivationWriteDone, execEthernetLinkChange, execFrameTransmitDone, execCanBusOffRecovery,
      execLinResponseTimeout, execCbResetTimeExpiry, execCollCommitAck, execLiveRangeCopyDone]
  all_goals
    repeat' first
      | exact proceeds_done _
      | apply proceeds_branch
      | split
      | extract_lets

theorem step_proceeds (s : State) : Proceeds (step s) := by
  rw [step]
  split
  · exact ⟨_, rfl⟩
  · exact exec_proceeds _ _

end Sys2Proof.Machine

namespace Sys2Proof.Scope
open Sys2Proof Sys2Proof.Machine Sys2Proof.Safety

/-- Settles O3: every meaning ends in `done`, and a step is the next command's meaning or the passing of time. -/
theorem everyCommandAnswersANextState : Obligations.EveryCommandAnswersANextState := by
  unfold Obligations.EveryCommandAnswersANextState
  exact ⟨exec_proceeds, step_proceeds⟩

/-- Settles O6: the reset state is the record of defaults, with no field, Field Book value or byte of memory set. -/
theorem resetStateOfTheBlock : Obligations.ResetStateOfTheBlock := by
  unfold Obligations.ResetStateOfTheBlock
  have hget : ∀ f : Field, State.reset.get f = fieldReset f.key % 2 ^ f.width := fun _ => rfl
  have hperiod : State.reset.get Reg.MER_TICK_PERIOD_PERIOD_US = 1000 := by decide
  have hticks : State.reset.get Reg.MER_HYPER_TICKS_TICKS = 1000 := by decide
  have hdatum : State.reset.datumState = 0 := by decide
  have hstopped : State.reset.running = false := by decide
  have hmem : Memory.wf State.reset.mem = true := by decide
  exact ⟨rfl, hmem, fun _ => rfl, rfl, hdatum, hstopped, hperiod, hticks, hget, fun _ _ => rfl⟩

end Sys2Proof.Scope

/-! # A freeze image under an empty key (R173, R174, R312) -/

namespace Sys2Proof.Crypto

/-- An empty key expands to empty round keys. -/
theorem roundKeys_nil : roundKeys [] = List.replicate 7 [] := by decide

theorem xorBytes_nil (a : List Nat) : xorBytes a [] = [] := List.zipWith_nil_right

/-- With an empty key the last round key leaves no byte of the block. -/
theorem aes_nil (block : List Nat) : aes [] block = [] := by
  simp [aes, roundKeys_nil, aesRounds, xorBytes_nil]

theorem cmac_nil (msg : List Nat) : cmac [] msg = [] := aes_nil _

end Sys2Proof.Crypto

namespace Sys2Proof.Machine
open Sys2Proof

theorem imageMac_nil (img : List Nat) : imageMac [] img = [] := by
  rw [imageMac, Crypto.cmac_nil, List.take_nil]

theorem Memory.length_readBytes (m : List Host.Cell) (a n : Nat) : (Memory.readBytes m a n).length = n := by
  induction n generalizing a with
  | zero => rfl
  | succ n ih => exact congrArg Nat.succ (ih (a + 1))

theorem State.length_rd (s : State) (a n : Nat) : (s.rd a n).length = n := Memory.length_readBytes _ _ _

end Sys2Proof.Machine

namespace Sys2Proof.Scope
open Sys2Proof Sys2Proof.Machine Sys2Proof.Safety

/-- VTE 0 is FREEZING, without queues, and its image goes to DRAM; the slot of FB 0x7003.01 carries USE_IMAGE and holds a
key of no bytes. -/
def freezingWithEmptyKey : State :=
  let s := (State.reset.set (Reg.MBX_VTE_STATUS_STATE 0) 2).set (Reg.MBX_VTE_IMAGE_ADDR 0) 0x1000100000
  let slot : KeySlot := { key := [], aes256 := false, uses := 8, parts := 1 }
  { s.fbSet 0x7003 1 3 with worlds := { s.worlds with keys := KMap.put s.worlds.keys 3 slot } }

theorem freezingWithEmptyKey_freezing : freezingWithEmptyKey.get (Reg.MBX_VTE_STATUS_STATE 0) = 2 := by decide +kernel

theorem freezingWithEmptyKey_idle :
    (freezingWithEmptyKey.vteQueues 0).all (fun q => (freezingWithEmptyKey.job q).isNone) = true := by decide +kernel

theorem freezingWithEmptyKey_steps :
    freezingWithEmptyKey.eng.steps.filter (fun p => (freezingWithEmptyKey.vteQueues 0).contains p.2.queue) = [] := rfl

theorem freezingWithEmptyKey_body : (freezingWithEmptyKey.imageBody 0).length = 0x100 := by decide +kernel

theorem freezingWithEmptyKey_key : freezingWithEmptyKey.imageKey = some [] := by decide +kernel

theorem freezingWithEmptyKey_reach :
    freezingWithEmptyKey.reach ⟨true, 0⟩ true (freezingWithEmptyKey.get (Reg.MBX_VTE_IMAGE_ADDR 0)) 0x100 =
      (.ok, freezingWithEmptyKey) := by decide +kernel

/-- Refutes O33: the clause of VTE_FREEZE_COMPLETE takes any key that the slot of FB 0x7003.01 holds. A slot of the model
may hold a key of no bytes; its CMAC is empty, so the image with its MAC is 8 bytes shorter than the image that the clause
reads back. -/
theorem not_virtualEngines : ¬ Obligations.VirtualEngines := by
  unfold Obligations.VirtualEngines
  rintro ⟨_, _, _, _, _, _, _, freezeComplete, _⟩
  have hbody := freezingWithEmptyKey_body
  obtain ⟨t, -, -, -, -, -, -, hread, -⟩ := freezeComplete 0 freezingWithEmptyKey freezingWithEmptyKey_freezing
    freezingWithEmptyKey_idle freezingWithEmptyKey_steps (hbody ▸ by decide) [] freezingWithEmptyKey_key
    (hbody ▸ freezingWithEmptyKey_reach)
  have hlen := congrArg List.length hread
  rw [State.length_rd, imageMac_nil] at hlen
  simp [hbody] at hlen

end Sys2Proof.Scope

/-! # Accesses of the engines beside Traverse's state (R301, R302)

What an access over the fabric records lies outside Traverse's registers and data, and what it decides does not depend
on Traverse's data. -/

namespace Sys2Proof.Machine
open Sys2Proof Sys2Proof.Safety

/-! ## Replacing Traverse's data and the response -/

/-- The state with Traverse's data and the response replaced. -/
def State.aside (s : State) (v : Traverse) (r : Resp) : State := { s with trv := v, resp := r }

section
variable (s : State) (v : Traverse) (r : Resp)

theorem regionDecide_aside (k : Nat) (at' : Attr) (write : Bool) (page : Nat) (l : List Nat) :
    regionDecide (s.aside v r) k at' write page l = regionDecide s k at' write page l := by
  induction l with
  | nil => rfl
  | cons x l ih =>
    rw [regionDecide, regionDecide, ih]
    rfl

theorem cadDecide_aside (k : Nat) (at' : Attr) (write : Bool) (a : Nat) :
    cadDecide (s.aside v r) k at' write a = cadDecide s k at' write a := by
  rw [cadDecide, cadDecide, regionDecide_aside]

theorem State.get_aside (f : Field) : (s.aside v r).get f = s.get f := rfl
theorem State.ts32_aside : (s.aside v r).ts32 = s.ts32 := rfl
theorem State.set_aside (f : Field) (x : Nat) : (s.aside v r).set f x = (s.set f x).aside v r := rfl
theorem State.setBit_aside (f : Field) (b : Bool) : (s.aside v r).setBit f b = (s.setBit f b).aside v r := rfl

theorem State.cadEntry_aside (k a : Nat) (at' : Attr) (write : Bool) (region : Nat) :
    (s.aside v r).cadEntry k a at' write region = (s.cadEntry k a at' write region).aside v r := by
  simp only [State.cadEntry]
  by_cases hroom : s.get (Reg.CAD_STATUS_COUNT k) < 8
  · have hroom' : (s.aside v r).get (Reg.CAD_STATUS_COUNT k) < 8 := hroom
    rw [if_pos hroom, if_pos hroom']
    simp only [State.get_aside, State.ts32_aside, State.set_aside, State.setBit_aside]
  · have hroom' : ¬(s.aside v r).get (Reg.CAD_STATUS_COUNT k) < 8 := hroom
    rw [if_neg hroom, if_neg hroom']
    rfl

theorem State.cadCheck_aside (k : Nat) (at' : Attr) (write : Bool) (a : Nat) :
    (s.aside v r).cadCheck k at' write a =
      ((s.cadCheck k at' write a).1, (s.cadCheck k at' write a).2.aside v r) := by
  rw [State.cadCheck, State.cadCheck, cadDecide_aside]
  rcases cadDecide s k at' write a with ⟨_ | _, region⟩
  · have hlog : (s.aside v r).cadLog k a at' write region = (s.cadLog k a at' write region).aside v r :=
      State.cadEntry_aside ((s.inc (Reg.CAD_VIOL_COUNT k)).fbInc 0x60A0 1) v r k a at' write region
    simp only [hlog]
    rfl
  · rfl

theorem State.reach1_aside (at' : Attr) (write : Bool) (a : Nat) :
    (s.aside v r).reach1 at' write a = ((s.reach1 at' write a).1, (s.reach1 at' write a).2.aside v r) := by
  have htarget : (s.aside v r).target a = s.target a := rfl
  rw [State.reach1, State.reach1, htarget]
  cases s.target a with
  | hole | reg | rom => rfl
  | dram g c =>
    simp only [State.cadCheck_aside]
    rcases s.cadCheck c at' write a with ⟨_ | _, t⟩
    · rfl
    · by_cases hg : groupAllows t g at' write = true
      · have hg' : groupAllows (t.aside v r) g at' write = true := hg
        simp only [hg, hg', if_true]
      · have hg' : ¬groupAllows (t.aside v r) g at' write = true := hg
        simp only [if_neg hg, if_neg hg']
        rfl
  | sram k =>
    simp only [State.cadCheck_aside]
    rcases s.cadCheck k at' write a with ⟨_ | _, t⟩ <;> rfl
  | pcie =>
    simp only [State.cadCheck_aside]
    rcases s.cadCheck 42 at' write a with ⟨_ | _, t⟩ <;> rfl

end

theorem State.reachPages_aside (v : Traverse) (r : Resp) (at' : Attr) (write : Bool) (n : Nat) : ∀ (s : State) (a : Nat),
    (s.aside v r).reachPages at' write n a =
      ((s.reachPages at' write n a).1, (s.reachPages at' write n a).2.aside v r) := by
  induction n with
  | zero => intros; rfl
  | succ n ih =>
    intro s a
    rw [State.reachPages, State.reachPages, State.reach1_aside]
    rcases s.reach1 at' write a with ⟨_ | _ | _ | _, t⟩
    · exact ih t _
    all_goals rfl

theorem State.reachSpans_aside (v : Traverse) (r : Resp) (l : List Span) : ∀ s : State,
    (s.aside v r).reachSpans l = ((s.reachSpans l).1, (s.reachSpans l).2.aside v r) := by
  induction l with
  | nil => intros; rfl
  | cons x l ih =>
    intro s
    rw [State.reachSpans, State.reachSpans, State.reach, State.reachPages_aside, ← State.reach]
    rcases s.reach x.attr x.write x.addr x.len with ⟨_ | _ | _ | _, t⟩
    · exact ih t
    all_goals rfl

/-! ## What an access records -/

/-- A register field of Traverse. -/
def trvField (f : Field) : Prop := 0x14000000 ≤ f.addr ∧ f.addr < 0x15000000 ∧ f.lo < 64

/-- The registers of other blocks. -/
def otherField (f : Field) : Prop := (f.addr < 0x14000000 ∨ 0x15000000 ≤ f.addr) ∧ f.lo < 64

theorem otherField_below {f : Field} (h : f.addr < 0x14000000) (hlo : decide (f.lo < 64) = true := by rfl) :
    otherField f := ⟨.inl h, of_decide_eq_true hlo⟩

theorem otherField_above {f : Field} (h : 0x15000000 ≤ f.addr) (hlo : decide (f.lo < 64) = true := by rfl) :
    otherField f := ⟨.inr h, of_decide_eq_true hlo⟩

theorem key_ne_of_trvField {f g : Field} (hf : trvField f) (hg : otherField g) : f.key ≠ g.key := by
  simp only [trvField, otherField, Field.key] at *
  omega

theorem State.get_set_beside {f g : Field} (hf : trvField f) (hg : otherField g) (s : State) (v : Nat) :
    (s.set g v).get f = s.get f := State.get_set_other _ _ _ _ (key_ne_of_trvField hf hg)

/-- Nothing but registers outside Traverse, the Field Book and the checkers' data differs. -/
structure Logged (s t : State) : Prop where
  rest : t = { s with regs := t.regs, fb := t.fb, worlds := t.worlds }
  fields : ∀ f, trvField f → t.get f = s.get f

section
variable {s t u : State}

theorem Logged.refl (s : State) : Logged s s := ⟨rfl, fun _ _ => rfl⟩

theorem Logged.trans (h : Logged s t) (h' : Logged t u) : Logged s u := by
  refine ⟨?_, fun f hf => (h'.fields f hf).trans (h.fields f hf)⟩
  have ht := h.rest
  have hu := h'.rest
  generalize u.regs = r at hu ⊢
  generalize u.fb = b at hu ⊢
  generalize u.worlds = w at hu ⊢
  rw [hu, ht]

theorem logged_set {g : Field} (hg : otherField g) (s : State) (v : Nat) : Logged s (s.set g v) :=
  ⟨rfl, fun _ hf => s.get_set_beside hf hg v⟩

theorem logged_fbSet (s : State) (i j v : Nat) : Logged s (s.fbSet i j v) := ⟨rfl, fun _ _ => rfl⟩

theorem Logged.set {g : Field} (h : Logged s t) (hg : otherField g) (v : Nat) : Logged s (t.set g v) :=
  h.trans (logged_set hg t v)

theorem Logged.fbSet (h : Logged s t) (i j v : Nat) : Logged s (t.fbSet i j v) := h.trans (logged_fbSet t i j v)

theorem Logged.worlds (h : Logged s t) (w : Worlds) : Logged s { t with worlds := w } :=
  h.trans ⟨rfl, fun _ _ => rfl⟩

/-! ### The checkers -/

section
variable {k : Nat} (hk : k < 64) (a : Nat) (at' : Attr) (write : Bool)
include hk

theorem Logged.cadEntry (h : Logged s t) (region : Nat) : Logged s (t.cadEntry k a at' write region) := by
  have hstatus : Reg.CAD_STATUS_addr k < 0x14000000 := by
    simp only [Reg.CAD_STATUS_addr]
    omega
  have hlog : ∀ i < 8, Reg.CAD_LOG_addr k i < 0x14000000 ∧ Reg.CAD_LOGTS_addr k i < 0x14000000 := by
    intro i hi
    simp only [Reg.CAD_LOG_addr, Reg.CAD_LOGTS_addr]
    omega
  simp only [State.cadEntry]
  split
  · obtain ⟨hl, hts⟩ := hlog _ (Nat.mod_lt (t.get (Reg.CAD_STATUS_HEAD k) + t.get (Reg.CAD_STATUS_COUNT k)) (by decide))
    refine Logged.set ?_ (otherField_below hstatus) _
    refine Logged.set ?_ (otherField_below hts) _
    refine Logged.set ?_ (otherField_below hl) _
    refine Logged.set ?_ (otherField_below hl) _
    refine Logged.set ?_ (otherField_below hl) _
    exact h.set (otherField_below hl) _
  · exact ((h.set (otherField_below hstatus) _).fbSet _ _ _).worlds _

theorem Logged.cadCheck (h : Logged s t) : Logged s (t.cadCheck k at' write a).2 := by
  have hviol : Reg.CAD_VIOL_addr k < 0x14000000 := by
    simp only [Reg.CAD_VIOL_addr]
    omega
  rw [State.cadCheck]
  rcases cadDecide t k at' write a with ⟨_ | _, region⟩
  · exact Logged.cadEntry hk a at' write
      ((h.set (otherField_below hviol) _).fbSet _ _ _) region
  · exact h

end

/-! ### The targets' checkers -/

theorem State.target_dram_lt {a g c : Nat} (h : s.target a = .dram g c) : c < 64 := by
  simp only [State.target] at h
  split_ifs at h
  cases h
  omega

theorem State.target_sram_lt {a k : Nat} (h : s.target a = .sram k) : k < 64 := by
  simp only [State.target] at h
  split_ifs at h <;> cases h <;> omega

/-! ### Accesses -/

theorem Logged.groupRefuse (h : Logged s t) (g : Nat) (at' : Attr) : Logged s (t.groupRefuse g at') := by
  have hg : 0x15000000 ≤ Reg.DDR_CG_VIOL_addr g := by
    simp only [Reg.DDR_CG_VIOL_addr]
    omega
  have hevents : 0x15000000 ≤ Reg.DDR_EVENTS_addr := by decide
  exact (((h.set (otherField_above hg) _).set (otherField_above hg) _).fbSet _ _ _).set (otherField_above hevents) _

theorem Logged.reach1 (h : Logged s t) (at' : Attr) (write : Bool) (a : Nat) : Logged s (t.reach1 at' write a).2 := by
  rw [State.reach1]
  split
  case h_1 | h_2 | h_3 => exact h
  case h_4 g c htarget =>
    have hc := h.cadCheck (State.target_dram_lt htarget) a at' write
    revert hc
    rcases t.cadCheck c at' write a with ⟨_ | _, u⟩
    · exact id
    · intro hc
      dsimp only
      split
      · exact hc
      · exact hc.groupRefuse _ _
  case h_5 k htarget =>
    have hc := h.cadCheck (State.target_sram_lt htarget) a at' write
    revert hc
    rcases t.cadCheck k at' write a with ⟨_ | _, u⟩ <;> exact id
  case h_6 =>
    have hc := h.cadCheck (k := 42) (by decide) a at' write
    revert hc
    rcases t.cadCheck 42 at' write a with ⟨_ | _, u⟩ <;> exact id

theorem Logged.reachPages (at' : Attr) (write : Bool) (n : Nat) : ∀ {t : State} (a : Nat), Logged s t →
    Logged s (t.reachPages at' write n a).2 := by
  induction n with
  | zero => exact fun _ h => h
  | succ n ih =>
    intro t a h
    have h1 := h.reach1 at' write a
    rw [State.reachPages]
    revert h1
    rcases t.reach1 at' write a with ⟨_ | _ | _ | _, u⟩
    · exact ih _
    all_goals exact id

theorem Logged.reach (h : Logged s t) (at' : Attr) (write : Bool) (a len : Nat) :
    Logged s (t.reach at' write a len).2 := Logged.reachPages at' write _ a h

theorem Logged.reachSpans (l : List Span) : ∀ {t : State}, Logged s t → Logged s (t.reachSpans l).2 := by
  induction l with
  | nil => exact fun h => h
  | cons x l ih =>
    intro t h
    have h1 := h.reach x.attr x.write x.addr x.len
    rw [State.reachSpans]
    revert h1
    rcases t.reach x.attr x.write x.addr x.len with ⟨_ | _ | _ | _, u⟩
    · exact ih
    all_goals exact id

end

end Sys2Proof.Machine

/-! # What a plan's record and notices leave of Traverse (R241, R243) -/

namespace Sys2Proof.Machine
open Sys2Proof Sys2Proof.Safety

/-- Traverse's data and registers and Meridian are the same, and what has left the block has left it. -/
structure Beside (s t : State) : Prop where
  trv : t.trv = s.trv
  mer : t.mer = s.mer
  out : ∀ o ∈ s.out, o ∈ t.out
  fields : ∀ f, trvField f → t.get f = s.get f

section
variable {s t u : State}

theorem Beside.refl (s : State) : Beside s s := ⟨rfl, rfl, fun _ h => h, fun _ _ => rfl⟩

theorem Beside.trans (h : Beside s t) (h' : Beside t u) : Beside s u :=
  ⟨h'.trv.trans h.trv, h'.mer.trans h.mer, fun o ho => h'.out o (h.out o ho),
    fun f hf => (h'.fields f hf).trans (h.fields f hf)⟩

/-- An update of other parts of the state. -/
theorem Beside.same (h : Beside s t) (ht : u.trv = t.trv := by rfl) (hm : u.mer = t.mer := by rfl)
    (ho : u.out = t.out := by rfl) (hr : u.regs = t.regs := by rfl) : Beside s u :=
  h.trans ⟨ht, hm, fun _ hmem => ho ▸ hmem, fun _ _ => by rw [State.get, State.get, hr]⟩

theorem Beside.set {g : Field} (h : Beside s t) (hg : otherField g) (v : Nat) : Beside s (t.set g v) :=
  h.trans ⟨rfl, rfl, fun _ ho => ho, fun _ hf => t.get_set_beside hf hg v⟩

theorem Beside.emit (h : Beside s t) (o : Output) : Beside s (t.emit o) :=
  h.trans ⟨rfl, rfl, fun _ ho => List.mem_append_left _ ho, fun _ _ => rfl⟩

theorem Beside.logged (h : Beside s t) (hl : Logged t u) : Beside s u := by
  refine h.trans ⟨?_, ?_, fun o ho => ?_, hl.fields⟩
  · rw [hl.rest]
  · rw [hl.rest]
  · rw [hl.rest]
    exact ho

/-! ## Interrupt sources -/

theorem Beside.mergeEdge (h : Beside s t) (i b : Nat) : Beside s (t.mergeEdge i b) := h.same

theorem Beside.edge1 (h : Beside s t) (i b : Nat) : Beside s (t.edge1 i b) := by
  simp only [State.edge1]
  split
  · exact h.mergeEdge i b
  · exact h.same

theorem Beside.raiseEdge (h : Beside s t) (i : Nat) : Beside s (t.raiseEdge i) := by
  rw [State.raiseEdge]
  split
  · exact foldl_inv _ (Beside s) _ (fun _ _ _ hu => hu.edge1 _ _) _ h
  · split
    · exact h.mergeEdge _ _
    · exact h.same

/-! ## The gateway's flows -/

theorem Beside.enqueue (h : Beside s t) (i : Nat) (fr : EgFrame) : Beside s (t.enqueue i fr) := by
  simp only [State.enqueue]
  split
  · exact h.same
  · split
    · exact h.same
    · exact h.same

theorem Beside.sendPdu (h : Beside s t) (f : Flow) (v : List Nat) : Beside s (t.sendPdu f v) := by
  unfold State.sendPdu
  split
  · exact h.same
  · simp only
    split
    · exact ((h.same).enqueue _ _).enqueue _ _
    · exact h.enqueue _ _

theorem otherField_rxWptr (e : Nat) : otherField (Reg.GWY_EP_RX_WPTR_WPTR e) := by
  refine otherField_above ?_
  show 0x15000000 ≤ Reg.GWY_EP_RX_WPTR_addr e
  simp only [Reg.GWY_EP_RX_WPTR_addr]
  omega

theorem Beside.deliver (h : Beside s t) (e : Nat) (r : RxRec) : Beside s (t.deliver e r) := by
  unfold State.deliver
  split
  · exact h
  · next p _ =>
    extract_lets n i
    split
    · exact h.same
    · next room data a bytes t' _ =>
      have hreach : Beside s (t'.reach p.owner true a bytes.length).2 :=
        Beside.logged h.same ((Logged.refl t').reach _ _ _ _)
      revert hreach
      rcases t'.reach p.owner true a bytes.length with ⟨_ | _ | _ | _, u⟩
      · exact fun hu => (Beside.same hu).set (otherField_rxWptr e) _
      all_goals exact id

theorem Beside.emitFlow (h : Beside s t) (f : Flow) : Beside s (t.emitFlow f) := by
  unfold State.emitFlow
  extract_lets v t'
  have ht : Beside s t' := h.same
  split
  · exact ht.deliver _ _
  · split
    · exact ht.same
    · split
      · exact ht.sendPdu _ _
      · exact ht.enqueue _ _

theorem Beside.takeBack (h : Beside s t) (f : Flow) (o : TimerOut) : Beside s (t.takeBack f o) := by
  unfold State.takeBack
  extract_lets t1 t2
  have h1 : Beside s t1 := by
    simp only [t1]
    split
    · exact h.same
    · exact h
  have h2 : Beside s t2 := by
    simp only [t2]
    split
    · exact h1.same
    · exact h1
  split
  · split
    · exact (Beside.same h2).set (otherField_rxWptr _) _
    · exact h2
  · split
    · exact h2.same
    · exact h2

theorem Beside.flowInput (h : Beside s t) (f : Flow) (v : List Nat) (time iface key0 key1 : Nat) :
    Beside s (t.flowInput f v time iface key0 key1) := by
  unfold State.flowInput
  extract_lets x tooSoon
  split
  · exact h.same
  · split
    · exact h.same
    · next again t1 t2 _ _ _ _ =>
      extract_lets t3
      clear_value again
      have h1 : Beside s t1 := by
        simp only [t1]
        split
        · exact h.takeBack _ _
        · exact h
      have h2 : Beside s t2 := by
        simp only [t2]
        split
        · exact h1.same
        · exact h1
      have h3 : Beside s t3 := h2.same
      split
      · exact (h3.emitFlow f).same
      · exact h3.emitFlow f
      · split
        · exact h3.emitFlow f
        · exact h3

theorem Beside.producerInput (h : Beside s t) (producer flow : Nat) (v : List Nat) :
    Beside s (t.producerInput producer flow v) := by
  simp only [State.producerInput]
  split
  · exact h.flowInput _ _ _ _ _ _
  · exact h

/-! ## The safety island's notices -/

theorem Beside.noticeTraverse (h : Beside s t) (c job status mainAddr plumbAddr : Nat) :
    Beside s (t.noticeTraverse c job status mainAddr plumbAddr) := by
  refine foldl_inv _ (Beside s) _ (fun u r _ hu => ?_) t h
  split
  · exact hu.same
  · exact hu

end

end Sys2Proof.Machine

/-! # Traverse contexts (R224, R225, R227, R230, R243, R445) -/

namespace Sys2Proof.Machine
open Sys2Proof Sys2Proof.Safety

/-! ## Distinct fields -/

theorem Field.key_ne_of_lo {f g : Field} (ha : f.addr = g.addr := by rfl) (hlo : (f.lo == g.lo) = false := by rfl) :
    f.key ≠ g.key := by
  have hne : f.lo ≠ g.lo := by simpa using hlo
  simp only [Field.key]
  omega

theorem Field.key_ne_of_addr {f g : Field} (ha : f.addr ≠ g.addr) (hf : decide (f.lo < 64) = true := by rfl)
    (hg : decide (g.lo < 64) = true := by rfl) : f.key ≠ g.key := by
  have hf' := of_decide_eq_true hf
  have hg' := of_decide_eq_true hg
  simp only [Field.key]
  omega

/-! ## A killed plan -/

/-- The plan of context `c` has ended for its library: none is admitted, the output `o` has left, the context's library is
noted as bad, its arena is invalid, it runs nothing, and no window is open. -/
structure Killed (c : Nat) (o : Output) (t : State) : Prop where
  plan : t.trv.plan = none
  told : o ∈ t.out
  bad : (t.cx c).libBad = true
  arena : (t.cx c).arena = none
  running : t.get (Reg.TRV_Q_STATUS_RUNNING c) = 0
  windows : t.mer.windows = []

section
variable {c : Nat} {o : Output} {s t : State}

theorem trvField_running (hc : c < 8) : trvField (Reg.TRV_Q_STATUS_RUNNING c) := by
  simp only [trvField, Reg.TRV_Q_STATUS_RUNNING, Reg.TRV_Q_STATUS_addr]
  omega

theorem Killed.beside (h : Killed c o s) (hc : c < 8) (hb : Beside s t) : Killed c o t where
  plan := hb.trv ▸ h.plan
  told := hb.out o h.told
  bad := by rw [State.cx, hb.trv, ← State.cx, h.bad]
  arena := by rw [State.cx, hb.trv, ← State.cx, h.arena]
  running := by rw [hb.fields _ (trvField_running hc), h.running]
  windows := by rw [hb.mer, h.windows]

theorem Killed.set {f : Field} (h : Killed c o s) (hf : (Reg.TRV_Q_STATUS_RUNNING c).key ≠ f.key) (v : Nat) :
    Killed c o (s.set f v) where
  plan := h.plan
  told := h.told
  bad := h.bad
  arena := h.arena
  running := by rw [State.get_set_other _ _ _ _ hf, h.running]
  windows := h.windows

theorem State.cx_setCx (s : State) (c : Nat) (x : TrvCtx) : (s.setCx c x).cx c = x := KMap.getD_put_same _ _ _ _

theorem Killed.setCx (h : Killed c o s) {x : TrvCtx} (hb : x.libBad = true) (ha : x.arena = none) :
    Killed c o (s.setCx c x) where
  plan := h.plan
  told := h.told
  bad := by rw [State.cx_setCx, hb]
  arena := by rw [State.cx_setCx, ha]
  running := h.running
  windows := h.windows

theorem running_key_ne_last (c : Nat) : (Reg.TRV_Q_STATUS_RUNNING c).key ≠ (Reg.TRV_Q_STATUS_LAST c).key :=
  Field.key_ne_of_lo

theorem running_key_ne_rptr (c : Nat) : (Reg.TRV_Q_STATUS_RUNNING c).key ≠ (Reg.TRV_Q_RPTR_RPTR c).key := by
  refine Field.key_ne_of_addr ?_
  simp only [Reg.TRV_Q_STATUS_RUNNING, Reg.TRV_Q_RPTR_RPTR, Reg.TRV_Q_STATUS_addr, Reg.TRV_Q_RPTR_addr]
  omega

theorem running_key_ne_cplWptr (c : Nat) :
    (Reg.TRV_Q_STATUS_RUNNING c).key ≠ (Reg.TRV_Q_CPL_WPTR_CPL_WPTR c).key := by
  refine Field.key_ne_of_addr ?_
  simp only [Reg.TRV_Q_STATUS_RUNNING, Reg.TRV_Q_CPL_WPTR_CPL_WPTR, Reg.TRV_Q_STATUS_addr, Reg.TRV_Q_CPL_WPTR_addr]
  omega

theorem Killed.planRecord (h : Killed c o s) (hc : c < 8) (r : PlanRec) : Killed c o (s.planRecord c r) := by
  unfold State.planRecord
  extract_lets i a bs t
  have ht : Killed c o t := by
    have hreach : Killed c o (s.reach (s.cxAttr c) true a 32).2 :=
      h.beside hc ((Beside.refl s).logged ((Logged.refl s).reach _ _ _ _))
    have hrefused : ∀ u, Killed c o u →
        Killed c o ((u.setCx c { u.cx c with stopped := true }).set (Reg.TRV_Q_STATUS_LAST c) Code.eAccess) :=
      fun u hu => (hu.setCx (by exact hu.bad) (by exact hu.arena)).set (running_key_ne_last c) _
    simp only [t]
    revert hreach
    rcases s.reach (s.cxAttr c) true a 32 with ⟨_ | _ | _ | _, u⟩
    · intro hu
      have hw : Killed c o (u.wr a bs) := hu.beside hc (Beside.refl u).same
      exact (hw.set (running_key_ne_cplWptr c) _).beside hc ((Beside.refl _).raiseEdge _)
    all_goals exact hrefused u
  split
  · exact ht.beside hc (((Beside.refl t).emit _).producerInput _ _ _)
  · exact ht

theorem Killed.nextRequest (h : Killed c o s) : Killed c o (s.nextRequest c) := h.set (running_key_ne_rptr c) _

theorem Killed.planNotice (h : Killed c o s) (hc : c < 8) (tag status bank : Nat) :
    Killed c o (s.planNotice c tag status bank) :=
  h.beside hc ((Beside.refl s).noticeTraverse _ _ _ _ _)

theorem Killed.failRecord (h : Killed c o s) (hc : c < 8) (status : Nat) (ws : List Nat) (p : Option Plan) :
    Killed c o (s.failRecord c status ws p) := by
  have hfree : Killed c o s.freeNat.2.freeNat.2.freeNat.2 := h.beside hc (Beside.refl s).same
  unfold State.failRecord
  extract_lets flags
  exact ((hfree.planRecord hc _).nextRequest).planNotice hc _ _ _

/-- A plan killed while its context's library is noted as bad. -/
theorem killed_killPlan {p : Plan} (hc : c < 8) (hp : s.trv.plan = some p) (hctx : p.ctx = c)
    (hbad : (s.cx c).libBad = true) (ho : o ∈ s.out) (hw : s.mer.windows = []) (code : Nat) :
    Killed c o (s.killPlan code) := by
  rw [State.killPlan, hp]
  simp only [hctx]
  refine Killed.failRecord ?_ hc _ _ _
  refine ⟨rfl, ho, ?_, ?_, ?_, hw⟩
  · rw [State.cx_setCx]
    exact hbad
  · rw [State.cx_setCx]
  · exact State.get_set_lt _ _ _ (Nat.two_pow_pos _)

end

theorem State.admitPlans_closed {s : State} (h : s.mer.windows = []) : s.admitPlans = s := by
  rw [State.admitPlans, State.openWindows, h]
  rfl

/-! ## The EN rule of R445, case by case -/

section
variable {s : State} {r : EnReg}

/-- The state on which a write of EN = 1 is checked. -/
def State.enTrial (s : State) (r : EnReg) : State := (s.setAll r.locked).setAll r.free

theorem State.enWrite_refused (hen : s.bit r.en = false) (hok : r.check (s.enTrial r) ≠ Code.ok)
    (hacc : r.check (s.enTrial r) ≠ Code.eAccess) : s.enWrite r true = s.set r.status (r.check (s.enTrial r)) := by
  simp only [State.enTrial] at *
  simp only [State.enWrite, hen, Bool.false_eq_true, if_false, if_true, if_neg hok, if_neg hacc]

theorem State.enWrite_denied (hen : s.bit r.en = false) (hacc : r.check (s.enTrial r) = Code.eAccess) :
    s.enWrite r true = (s.reachSpans (r.reads (s.enTrial r))).2.set r.status Code.eAccess := by
  have hok : ¬Code.eAccess = Code.ok := by decide
  simp only [State.enTrial] at *
  simp only [State.enWrite, hen, Bool.false_eq_true, if_false, if_true, hacc, if_neg hok]

theorem State.enWrite_enabled (hen : s.bit r.en = false) (hok : r.check (s.enTrial r) = Code.ok) :
    s.enWrite r true = (r.onEnable ((s.enTrial r).set r.en 1)).set r.status Code.ok := by
  simp only [State.enTrial] at *
  simp only [State.enWrite, hen, Bool.false_eq_true, if_false, if_true, if_pos hok]

theorem State.enWrite_disabled (hen : s.bit r.en = true) (hmay : r.mayClear s = Code.ok) :
    s.enWrite r false = (r.onDisable ((s.setAll r.free).set r.en 0)).set r.status
      (if s.changes r.locked then Code.eState else Code.ok) := by
  simp only [State.enWrite, hen, Bool.false_eq_true, if_false, if_true, if_pos hmay]

theorem State.enWrite_held (hen : s.bit r.en = true) (hmay : r.mayClear s ≠ Code.ok) :
    s.enWrite r false = s.set r.status (r.mayClear s) := by
  simp only [State.enWrite, hen, Bool.false_eq_true, if_false, if_true, if_neg hmay]

end

/-! ## The checks of a context -/

section
variable (s : State) (c : Nat)

theorem State.libChk_lt (lib size : Nat) : s.libChk lib size < 2 ^ 16 := by
  simp only [State.libChk]
  split_ifs <;> decide

theorem State.cxCheck_lt : s.cxCheck c < 2 ^ 16 := by
  simp only [State.cxCheck]
  have hlib := s.libChk_lt (s.get (Reg.TRV_CX_LIB_BASE_BASE c)) (s.get (Reg.TRV_CX_LIB_SIZE_SIZE c))
  split_ifs
  any_goals exact hlib
  all_goals decide

/-- The checks do not look at Traverse's data or at the response. -/
theorem State.cxCheck_aside (v : Traverse) (r : Resp) : (s.aside v r).cxCheck c = s.cxCheck c := by
  have hreach : ((s.aside v r).reachSpans ((s.aside v r).cxTables c)).1 = (s.reachSpans (s.cxTables c)).1 := by
    rw [State.reachSpans_aside]
    rfl
  simp only [State.cxCheck, hreach]
  rfl

end

/-! ## Writes of TRV_CX_ATTR -/

theorem attr_addr_ne_status (c : Nat) : Reg.TRV_CX_ATTR_addr c ≠ Reg.TRV_CX_STATUS_addr c := by
  simp only [Reg.TRV_CX_ATTR_addr, Reg.TRV_CX_STATUS_addr]
  omega

section
variable (s : State) (c v : Nat)

/-- The check of a write on the answered state is that on the state before. -/
theorem State.check_answer (d : Nat) :
    (trvReg c v).check ((s.answer d).enTrial (trvReg c v)) = (s.enTrial (trvReg c v)).cxCheck c :=
  State.cxCheck_aside (s.enTrial (trvReg c v)) c s.trv (s.answer d).resp

variable {s c v}

/-- INDEX is written only where the write of EN has ended with E_PRIM_LIMIT. -/
theorem State.trvCtrl_same {en : Bool}
    (h : (s.enWrite (trvReg c v) en).get (Reg.TRV_CX_STATUS_LAST c) ≠ Code.ePrimLimit) :
    s.trvCtrl c v en = s.enWrite (trvReg c v) en := by
  simp only [State.trvCtrl]
  rw [if_neg (fun hi => h hi.2)]

theorem State.trvCtrl_enabled {en : Bool} (hen : s.bit (Reg.TRV_CX_ATTR_EN c) = true) :
    s.trvCtrl c v en = s.enWrite (trvReg c v) en := by
  simp [State.trvCtrl, hen]

end

end Sys2Proof.Machine

namespace Sys2Proof.Scope
open Sys2Proof Sys2Proof.Machine Sys2Proof.Safety

/-! ## The clauses of O37 -/

section
variable {who : Agent} {c : Fin 8} {s : State}

theorem enable_refused {v : BitVec 32} (hp : Passes s who (Reg.TRV_CX_ATTR_addr c.val) true)
    (hen : s.bit (Reg.TRV_CX_ATTR_EN c.val) = false) (hok : (s.enTrial (trvReg c.val v.toNat)).cxCheck c.val ≠ Code.ok)
    (hacc : (s.enTrial (trvReg c.val v.toNat)).cxCheck c.val ≠ Code.eAccess) :
    Does (.trvContextEnable who c v) s (fun t => t.bit (Reg.TRV_CX_ATTR_EN c.val) = false ∧
      t.get (Reg.TRV_CX_STATUS_LAST c.val) = (s.enTrial (trvReg c.val v.toNat)).cxCheck c.val ∧
      OnlyRegs [Reg.TRV_CX_STATUS_LAST c.val, Reg.TRV_CX_STATUS_INDEX c.val] [] s t) := by
  refine does_gateWrite hp rfl ?_
  have hcheck := s.check_answer c.val v.toNat 0
  have hwrite := State.enWrite_refused (s := s.answer 0) (r := trvReg c.val v.toNat) hen (hcheck ▸ hok) (hcheck ▸ hacc)
  have hlt := (s.enTrial (trvReg c.val v.toNat)).cxCheck_lt c.val
  rw [hcheck] at hwrite
  simp only [State.trvCtrl, hwrite]
  generalize (s.enTrial (trvReg c.val v.toNat)).cxCheck c.val = e at hlt
  have hlast : ((s.answer 0).set (Reg.TRV_CX_STATUS_LAST c.val) e).get (Reg.TRV_CX_STATUS_LAST c.val) = e :=
    State.get_set_lt _ _ _ hlt
  have honly : OnlyRegs [Reg.TRV_CX_STATUS_LAST c.val, Reg.TRV_CX_STATUS_INDEX c.val] [] s
      ((s.answer 0).set (Reg.TRV_CX_STATUS_LAST c.val) e) := (OnlyRegs.answered _ _ _ _).set List.mem_cons_self _
  have hbit : ((s.answer 0).set (Reg.TRV_CX_STATUS_LAST c.val) e).bit (Reg.TRV_CX_ATTR_EN c.val) = false := by
    rw [State.bit_set_other _ _ _ _ (Field.key_ne_of_addr (attr_addr_ne_status _))]
    exact hen
  split
  · refine ⟨?_, ?_, honly.set (by simp) _⟩
    · rw [State.bit_set_other _ _ _ _ (Field.key_ne_of_addr (attr_addr_ne_status _))]
      exact hbit
    · rw [State.get_set_other _ _ _ _ Field.key_ne_of_lo]
      exact hlast
  · exact ⟨hbit, hlast, honly⟩

end

end Sys2Proof.Scope

/-! # The commands of Traverse's contexts (R225, R227, R230) -/

namespace Sys2Proof.Machine
open Sys2Proof Sys2Proof.Safety

/-! ## A context that starts -/

section
variable {s : State} {c : Nat}

/-- The start of a context leaves the context registers. -/
theorem State.get_cxStart {f : Field} (hf : f.addr < 0x14020000) (hlo : f.lo < 64) : (s.cxStart c).get f = s.get f := by
  have hne : ∀ g : Field, 0x14020000 ≤ g.addr → f.key ≠ g.key := by
    intro g hg
    simp only [Field.key]
    omega
  simp only [State.cxStart, State.setCx_get]
  iterate 7 rw [State.get_set_other _ _ _ _ (hne _ ?_)]
  all_goals exact Nat.le_add_right_of_le (by decide)

theorem State.set_cx (s : State) (f : Field) (v c : Nat) : (s.set f v).cx c = s.cx c := rfl

theorem State.cxStart_arena (s : State) (c : Nat) : ((s.cxStart c).cx c).arena = none := by
  simp only [State.cxStart, State.cx_setCx]

theorem State.mem_cxStart (s : State) (c : Nat) : (s.cxStart c).mem = s.mem := by
  simp only [State.cxStart, State.setCx_mem, State.set_mem]

theorem State.plan_cxStart (s : State) (c : Nat) : (s.cxStart c).trv.plan = s.trv.plan := by
  simp only [State.cxStart, State.setCx, State.set_trv]

theorem attr_addr_lt {c : Nat} (hc : c < 8) : Reg.TRV_CX_ATTR_addr c < 0x14020000 := by
  simp only [Reg.TRV_CX_ATTR_addr]
  omega

/-- An enabled context's TRV_CX_ATTR stands as it was before the start. -/
theorem State.get_enabled {s : State} {c : Nat} {f : Field} (hf : f.addr = Reg.TRV_CX_ATTR_addr c) (hc : c < 8)
    (hlo : decide (f.lo < 64) = true := by rfl) :
    ((s.cxStart c).set (Reg.TRV_CX_STATUS_LAST c) Code.ok).get f = s.get f := by
  rw [State.get_set_other _ _ _ _ (Field.key_ne_of_addr (hf ▸ attr_addr_ne_status c) hlo)]
  exact State.get_cxStart (hf ▸ attr_addr_lt hc) (of_decide_eq_true hlo)

theorem State.enTrial_trvReg (s : State) (c v : Nat) : s.enTrial (trvReg c v) =
    (((s.set (Reg.TRV_CX_ATTR_PIPE c) (bitsOf v 20 16)).set (Reg.TRV_CX_ATTR_SECURE c) (bitsOf v 15 15)).set
      (Reg.TRV_CX_ATTR_PARTITION c) (bitsOf v 13 8)).set (Reg.TRV_CX_ATTR_PRIO c) (bitsOf v 26 24) := rfl

/-- A cleared field stays clear as others are cleared. -/
theorem State.get_set_zero {f g : Field} (h : s.get f = 0) : (s.set g 0).get f = 0 := by
  by_cases hk : f.key = g.key
  · rw [State.get_set_key _ _ _ _ hk, Nat.zero_mod, Nat.zero_mod]
  · rw [State.get_set_other _ _ _ _ hk, h]

theorem State.bit_of_zero {f : Field} (h : s.get f = 0) : s.bit f = false := by
  simp [State.bit, h]

theorem State.get_set_clear (s : State) (f : Field) : (s.set f 0).get f = 0 := by
  rw [State.get_set_same, Nat.zero_mod]

/-- The queue registers of a started context are clear. -/
theorem State.cxStart_clear {f : Field} (hf : f ∈ [Reg.TRV_Q_RPTR_RPTR c, Reg.TRV_Q_WPTR_WPTR c,
    Reg.TRV_Q_CPL_WPTR_CPL_WPTR c, Reg.TRV_Q_CPL_RPTR_CPL_RPTR c, Reg.TRV_Q_SEQ_SEQ c, Reg.TRV_Q_LATEST_VALID c]) :
    (s.cxStart c).get f = 0 := by
  have hen : f.key ≠ (Reg.TRV_Q_STATUS_EN c).key := by
    simp only [List.mem_cons, List.not_mem_nil, or_false] at hf
    rcases hf with rfl | rfl | rfl | rfl | rfl | rfl <;>
      simp only [Field.key, Reg.TRV_Q_RPTR_RPTR, Reg.TRV_Q_WPTR_WPTR, Reg.TRV_Q_CPL_WPTR_CPL_WPTR,
        Reg.TRV_Q_CPL_RPTR_CPL_RPTR, Reg.TRV_Q_SEQ_SEQ, Reg.TRV_Q_LATEST_VALID, Reg.TRV_Q_STATUS_EN,
        Reg.TRV_Q_RPTR_addr, Reg.TRV_Q_WPTR_addr, Reg.TRV_Q_CPL_WPTR_addr, Reg.TRV_Q_CPL_RPTR_addr, Reg.TRV_Q_SEQ_addr,
        Reg.TRV_Q_LATEST_addr, Reg.TRV_Q_STATUS_addr] <;> omega
  simp only [State.cxStart, State.setCx_get]
  rw [State.get_set_other _ _ _ _ hen]
  simp only [List.mem_cons, List.not_mem_nil, or_false] at hf
  rcases hf with rfl | rfl | rfl | rfl | rfl | rfl
  · iterate 5 apply State.get_set_zero
    exact State.get_set_clear _ _
  · iterate 4 apply State.get_set_zero
    exact State.get_set_clear _ _
  · iterate 3 apply State.get_set_zero
    exact State.get_set_clear _ _
  · iterate 2 apply State.get_set_zero
    exact State.get_set_clear _ _
  · apply State.get_set_zero
    exact State.get_set_clear _ _
  · exact State.get_set_clear _ _

end

/-! ## The periodic check of a library -/

theorem State.libCrc_congr {s t : State} (h : t.mem = s.mem) (lib size : Nat) :
    t.libCrc lib size = s.libCrc lib size := by
  rw [State.libCrc, State.libCrc, State.rd, State.rd, h]

theorem State.advanceTo_datum (s : State) (t : Nat) : (s.advanceTo t).datum = max s.datum t := by
  rw [State.advanceTo]
  split
  · next h => exact (Nat.max_eq_left h).symm
  · next h => exact (Nat.max_eq_right (Nat.le_of_not_le h)).symm

theorem State.planOf_eq_some {s : State} {c : Nat} {p : Plan} (h : s.planOf c = some p) :
    s.trv.plan = some p ∧ p.ctx = c := by
  rw [State.planOf] at h
  split at h
  · next q hq =>
    split at h
    · next hc =>
      cases h
      exact ⟨hq, hc⟩
    · cases h
  · cases h

theorem State.emit_cx (s : State) (o : Output) (c : Nat) : (s.emit o).cx c = s.cx c := rfl

/-- The check of a context at an instant is noted. -/
def State.checked (s : State) (c time : Nat) : State :=
  (s.advanceTo time).setCx c { s.cx c with lastCheck := (s.advanceTo time).datum }

/-- The library is noted as bad at a check and the safety island is told. -/
def State.libFaulted (s : State) (c time : Nat) : State :=
  ((s.checked c time).setCx c { s.cx c with lastCheck := (s.advanceTo time).datum, libBad := true }).emit
    (.libraryFault c)

section
variable (s : State) (c time : Nat)

theorem State.checked_cx : (s.checked c time).cx c = { s.cx c with lastCheck := (s.advanceTo time).datum } :=
  State.cx_setCx _ _ _

theorem State.checked_get (f : Field) : (s.checked c time).get f = s.get f := by
  rw [State.checked, State.setCx_get, State.advanceTo_get]

theorem State.checked_mem : (s.checked c time).mem = s.mem := by
  rw [State.checked, State.setCx_mem, State.advanceTo_mem]

theorem State.libFaulted_cx :
    (s.libFaulted c time).cx c = { s.cx c with lastCheck := (s.advanceTo time).datum, libBad := true } := by
  rw [State.libFaulted, State.emit_cx, State.cx_setCx]

theorem State.libFaulted_plan : (s.libFaulted c time).trv.plan = s.trv.plan := by
  simp only [State.libFaulted, State.checked, State.emit_trv, State.setCx, State.advanceTo_trv]

theorem State.setCx_setCx_emit (u : State) (x y : TrvCtx) (o : Output) :
    ((u.setCx c x).setCx c y).emit o =
      { u with trv := { u.trv with ctx := (((u.setCx c x).setCx c y).emit o).trv.ctx }, out := u.out ++ [o] } := rfl

theorem State.libFaulted_mer : (s.libFaulted c time).mer = s.mer := by
  rw [State.libFaulted, State.emit_mer, State.setCx_mer, State.checked, State.setCx_mer, State.advanceTo_mer]

variable {s c time}

/-- Where the library can be read at the instant of the check, it can be read with the check noted. -/
theorem State.checked_reachSpans {l : List Span} (h : (s.advanceTo time).reachSpans l = (Code.ok, s.advanceTo time)) :
    (s.checked c time).reachSpans l = (Code.ok, s.checked c time) := by
  have haside := State.reachSpans_aside (s.checked c time).trv (s.advanceTo time).resp l (s.advanceTo time)
  rw [h] at haside
  exact haside

end

end Sys2Proof.Machine

namespace Sys2Proof.Scope
open Sys2Proof Sys2Proof.Machine Sys2Proof.Safety

section
variable {who : Agent} {c : Fin 8} {s : State} {v : BitVec 32}

theorem trvField_en (hc : c.val < 8) : trvField (Reg.TRV_CX_ATTR_EN c.val) := by
  simp only [trvField, Reg.TRV_CX_ATTR_EN, Reg.TRV_CX_ATTR_addr]
  omega

theorem enable_denied (hp : Passes s who (Reg.TRV_CX_ATTR_addr c.val) true)
    (hen : s.bit (Reg.TRV_CX_ATTR_EN c.val) = false)
    (hacc : (s.enTrial (trvReg c.val v.toNat)).cxCheck c.val = Code.eAccess) :
    Does (.trvContextEnable who c v) s (fun t => t.bit (Reg.TRV_CX_ATTR_EN c.val) = false ∧
      t.get (Reg.TRV_CX_STATUS_LAST c.val) = Code.eAccess ∧ t.mem = s.mem ∧ t.trv = s.trv) := by
  refine does_gateWrite hp rfl ?_
  have hwrite := State.enWrite_denied (s := s.answer 0) (r := trvReg c.val v.toNat) hen
    ((s.check_answer c.val v.toNat 0).trans hacc)
  have hlog := (Logged.refl (s.answer 0)).reachSpans
    ((trvReg c.val v.toNat).reads ((s.answer 0).enTrial (trvReg c.val v.toNat)))
  generalize ((s.answer 0).reachSpans _).2 = u at hwrite hlog
  have hlast : (u.set (Reg.TRV_CX_STATUS_LAST c.val) Code.eAccess).get (Reg.TRV_CX_STATUS_LAST c.val) = Code.eAccess :=
    State.get_set_lt _ _ _ (show Code.eAccess < 2 ^ 16 by decide)
  have hne : ((s.answer 0).enWrite (trvReg c.val v.toNat) true).get (Reg.TRV_CX_STATUS_LAST c.val) ≠
      Code.ePrimLimit := by
    rw [hwrite]
    exact fun h => absurd (hlast.symm.trans h) (by decide)
  rw [State.trvCtrl_same hne, hwrite]
  refine ⟨?_, hlast, ?_, ?_⟩
  · change (u.set (Reg.TRV_CX_STATUS_LAST c.val) Code.eAccess).bit _ = false
    rw [State.bit_set_other _ _ _ _ (Field.key_ne_of_addr (attr_addr_ne_status _)), State.bit, hlog.fields _ (trvField_en c.isLt)]
    exact hen
  · change u.mem = s.mem
    rw [hlog.rest]
    rfl
  · change u.trv = s.trv
    rw [hlog.rest]
    rfl

theorem enable_taken (hp : Passes s who (Reg.TRV_CX_ATTR_addr c.val) true)
    (hen : s.bit (Reg.TRV_CX_ATTR_EN c.val) = false)
    (hok : (s.enTrial (trvReg c.val v.toNat)).cxCheck c.val = Code.ok) :
    Does (.trvContextEnable who c v) s (fun t => t.bit (Reg.TRV_CX_ATTR_EN c.val) = true ∧
      t.get (Reg.TRV_CX_ATTR_PARTITION c.val) = bitsOf v.toNat 13 8 ∧
      t.get (Reg.TRV_CX_ATTR_PRIO c.val) = bitsOf v.toNat 26 24 ∧ [Reg.TRV_Q_RPTR_RPTR c.val,
      Reg.TRV_Q_WPTR_WPTR c.val, Reg.TRV_Q_CPL_WPTR_CPL_WPTR c.val, Reg.TRV_Q_CPL_RPTR_CPL_RPTR c.val,
      Reg.TRV_Q_SEQ_SEQ c.val, Reg.TRV_Q_LATEST_VALID c.val].all (fun f => t.get f == 0) = true ∧
      (t.cx c.val).arena = none ∧ t.get (Reg.TRV_CX_STATUS_LAST c.val) = Code.ok ∧ t.mem = s.mem ∧
      t.trv.plan = s.trv.plan) := by
  refine does_gateWrite hp rfl ?_
  have hwrite : (s.answer 0).enWrite (trvReg c.val v.toNat) true =
      ((((s.answer 0).enTrial (trvReg c.val v.toNat)).set (Reg.TRV_CX_ATTR_EN c.val) 1).cxStart c.val).set
        (Reg.TRV_CX_STATUS_LAST c.val) Code.ok :=
    State.enWrite_enabled (s := s.answer 0) (r := trvReg c.val v.toNat) hen ((s.check_answer c.val v.toNat 0).trans hok)
  have hlast : ((s.answer 0).enWrite (trvReg c.val v.toNat) true).get (Reg.TRV_CX_STATUS_LAST c.val) = Code.ok :=
    hwrite ▸ State.get_set_clear _ _
  rw [State.trvCtrl_same (hlast ▸ by decide)]
  refine ⟨?_, ?_, ?_, ?_, ?_, hlast, ?_, ?_⟩
  all_goals rw [hwrite, State.enTrial_trvReg]
  case refine_4 =>
    rw [List.all_eq_true]
    intro f hf
    rw [beq_iff_eq]
    exact State.get_set_zero (State.cxStart_clear hf)
  case refine_5 => rw [State.set_cx, State.cxStart_arena]
  case refine_6 => simp only [State.set_mem, State.mem_cxStart, State.answer_mem]
  case refine_7 => simp only [State.set_trv, State.plan_cxStart, State.answer_trv]
  case refine_1 =>
    rw [State.bit, State.get_enabled rfl c.isLt, State.get_set_lt _ _ _ (show 1 < 2 ^ 1 by decide)]
    rfl
  case refine_2 =>
    rw [State.get_enabled rfl c.isLt, State.get_set_other _ _ _ _ Field.key_ne_of_lo,
      State.get_set_other _ _ _ _ Field.key_ne_of_lo,
      State.get_set_lt _ _ _ (show bitsOf v.toNat 13 8 < 2 ^ 6 from bitsOf_lt _ _ _)]
  case refine_3 =>
    rw [State.get_enabled rfl c.isLt, State.get_set_other _ _ _ _ Field.key_ne_of_lo,
      State.get_set_lt _ _ _ (show bitsOf v.toNat 26 24 < 2 ^ 3 from bitsOf_lt _ _ _)]

theorem status_addr_ne (c : Fin 8) : Reg.TRV_Q_STATUS_addr c.val ≠ Reg.TRV_CX_STATUS_addr c.val := by
  simp only [Reg.TRV_Q_STATUS_addr, Reg.TRV_CX_STATUS_addr]
  omega

theorem latest_addr_ne_status (c : Nat) : Reg.TRV_Q_LATEST_addr c ≠ Reg.TRV_Q_STATUS_addr c := by
  simp only [Reg.TRV_Q_LATEST_addr, Reg.TRV_Q_STATUS_addr]
  omega

theorem disable_taken (hp : Passes s who (Reg.TRV_CX_ATTR_addr c.val) true)
    (hen : s.bit (Reg.TRV_CX_ATTR_EN c.val) = true) (hplan : s.planOf c.val = none) :
    Does (.trvContextDisable who c v) s (fun t => t.bit (Reg.TRV_CX_ATTR_EN c.val) = false ∧
      t.bit (Reg.TRV_Q_STATUS_EN c.val) = false ∧ OnlyRegs [Reg.TRV_CX_ATTR_EN c.val, Reg.TRV_Q_STATUS_EN c.val,
      Reg.TRV_CX_ATTR_PRIO c.val, Reg.TRV_CX_STATUS_LAST c.val] [] s t) := by
  refine does_gateWrite hp rfl ?_
  have hmay : (trvReg c.val v.toNat).mayClear (s.answer 0) = Code.ok := by
    change (if (s.planOf c.val).isSome then Code.eBusy else Code.ok) = Code.ok
    rw [hplan]
    rfl
  generalize hcode : (if (s.answer 0).changes (trvReg c.val v.toNat).locked then Code.eState else Code.ok) = code
  have hwrite : (s.answer 0).enWrite (trvReg c.val v.toNat) false =
      ((((s.answer 0).set (Reg.TRV_CX_ATTR_PRIO c.val) (bitsOf v.toNat 26 24)).set (Reg.TRV_CX_ATTR_EN c.val) 0).set
        (Reg.TRV_Q_STATUS_EN c.val) 0).set (Reg.TRV_CX_STATUS_LAST c.val) code :=
    hcode ▸ State.enWrite_disabled (s := s.answer 0) (r := trvReg c.val v.toNat) hen hmay
  rw [State.trvCtrl_enabled (s := s.answer 0) hen, hwrite]
  refine ⟨?_, ?_,
    ((((OnlyRegs.answered _ _ _ _).set (by simp) _).set (by simp) _).set (by simp) _).set (by simp) _⟩
  · rw [State.bit_set_other _ _ _ _ (Field.key_ne_of_addr (attr_addr_ne_status _))]
    exact State.bit_of_zero (State.get_set_zero (State.get_set_clear _ _))
  · rw [State.bit_set_other _ _ _ _ (Field.key_ne_of_addr (status_addr_ne c))]
    exact State.bit_of_zero (State.get_set_clear _ _)

theorem disable_held (hp : Passes s who (Reg.TRV_CX_ATTR_addr c.val) true)
    (hen : s.bit (Reg.TRV_CX_ATTR_EN c.val) = true) {p : Plan} (hplan : s.planOf c.val = some p) :
    Does (.trvContextDisable who c v) s (fun t => t.bit (Reg.TRV_CX_ATTR_EN c.val) = true ∧
      t.get (Reg.TRV_CX_STATUS_LAST c.val) = Code.eBusy ∧ OnlyRegs [Reg.TRV_CX_STATUS_LAST c.val] [] s t) := by
  refine does_gateWrite hp rfl ?_
  have hmay : (trvReg c.val v.toNat).mayClear (s.answer 0) = Code.eBusy := by
    change (if (s.planOf c.val).isSome then Code.eBusy else Code.ok) = Code.eBusy
    rw [hplan]
    rfl
  have hwrite := State.enWrite_held (s := s.answer 0) (r := trvReg c.val v.toNat) hen (hmay ▸ by decide)
  rw [State.trvCtrl_enabled (s := s.answer 0) hen, hwrite, hmay]
  refine ⟨?_, State.get_set_lt _ _ _ (show Code.eBusy < 2 ^ 16 by decide),
    (OnlyRegs.answered _ _ _ _).set List.mem_cons_self _⟩
  exact (State.bit_set_other _ _ _ _ (Field.key_ne_of_addr (attr_addr_ne_status _))).trans hen

theorem publish_taken {slot : BitVec 2} (hp : Passes s who (Reg.TRV_Q_LATEST_addr c.val) true)
    (hfree : bitOf (s.get (Reg.TRV_Q_HOLD_HOLD c.val)) slot.toNat = false) :
    Does (.gridPublish who c slot) s (fun t => t.get (Reg.TRV_Q_LATEST_SLOT c.val) = slot.toNat ∧
      t.bit (Reg.TRV_Q_LATEST_VALID c.val) = true ∧ t.get (Reg.TRV_Q_STATUS_LAST c.val) = Code.ok ∧
      OnlyRegs [Reg.TRV_Q_LATEST_SLOT c.val, Reg.TRV_Q_LATEST_VALID c.val, Reg.TRV_Q_STATUS_LAST c.val] [] s t) := by
  refine does_gateWrite hp rfl ?_
  have hheld : ¬bitOf ((s.answer 0).get (Reg.TRV_Q_HOLD_HOLD c.val)) slot.toNat = true := by
    rw [State.answer_get, hfree]
    decide
  rw [State.publishGrid, if_neg hheld]
  refine ⟨?_, ?_, State.get_set_clear _ _,
    (((OnlyRegs.answered _ _ _ _).set (by simp) _).set (by simp) _).set (by simp) _⟩
  · rw [State.get_set_other _ _ _ _ (Field.key_ne_of_addr (latest_addr_ne_status _)),
      State.get_set_other _ _ _ _ Field.key_ne_of_lo, State.get_set_lt _ _ _ slot.isLt]
  · rw [State.bit_set_other _ _ _ _ (Field.key_ne_of_addr (latest_addr_ne_status _)), State.bit_set_same]
    rfl

theorem publish_held {slot : BitVec 2} (hp : Passes s who (Reg.TRV_Q_LATEST_addr c.val) true)
    (hheld : bitOf (s.get (Reg.TRV_Q_HOLD_HOLD c.val)) slot.toNat = true) :
    Does (.gridPublish who c slot) s (fun t => t.get (Reg.TRV_Q_STATUS_LAST c.val) = Code.eBusy ∧
      OnlyRegs [Reg.TRV_Q_STATUS_LAST c.val] [] s t) := by
  refine does_gateWrite hp rfl ?_
  have hheld' : bitOf ((s.answer 0).get (Reg.TRV_Q_HOLD_HOLD c.val)) slot.toNat = true := hheld
  rw [State.publishGrid, if_pos hheld']
  exact ⟨State.get_set_lt _ _ _ (show Code.eBusy < 2 ^ 16 by decide), (OnlyRegs.answered _ _ _ _).set (by simp) _⟩

/-! ### The periodic check -/

theorem exec_libraryCrcCheck (c : Fin 8) (s : State) : exec (.libraryCrcCheck c) s = execLibraryCrcCheck c s := rfl

theorem check_disabled (hen : s.bit (Reg.TRV_CX_ATTR_EN c.val) = false) :
    Does (.libraryCrcCheck c) s (fun t => t = s) := by
  refine ⟨s, ?_, rfl⟩
  rw [exec_libraryCrcCheck, execLibraryCrcCheck, hen]
  rfl

/-- What the periodic check of an enabled context does where its library can be read (R230). -/
theorem exec_libraryCrcCheck_read {time : Nat} (ht : time = (s.cx c.val).lastCheck + 100000000)
    (hen : s.bit (Reg.TRV_CX_ATTR_EN c.val) = true)
    (hread : (s.advanceTo time).reachSpans (((s.advanceTo time).cxTables c.val).take 1) = (Code.ok, s.advanceTo time)) :
    exec (.libraryCrcCheck c) s = done (
      if s.libCrc (s.get (Reg.TRV_CX_LIB_BASE_BASE c.val)) (s.get (Reg.TRV_CX_LIB_SIZE_SIZE c.val)) =
          s.rdLe (s.get (Reg.TRV_CX_LIB_BASE_BASE c.val) + 8) 4 then s.checked c.val time
      else if ((s.libFaulted c.val time).planOf c.val).isSome then
        ((s.libFaulted c.val time).killPlan Code.eLibCrc).admitPlans
      else s.libFaulted c.val time) := by
  have hcx : (s.advanceTo time).cx c.val = s.cx c.val := by
    rw [State.cx, State.advanceTo_trv, ← State.cx]
  have hnoted : (s.advanceTo time).setCx c.val { s.cx c.val with lastCheck := (s.advanceTo time).datum } =
      s.checked c.val time := rfl
  have htables : (s.checked c.val time).cxTables c.val = (s.advanceTo time).cxTables c.val := rfl
  have hcrc : ∀ lib size, (s.checked c.val time).libCrc lib size = s.libCrc lib size :=
    fun lib size => State.libCrc_congr (State.checked_mem s c.val time) lib size
  have hrd : ∀ a n, (s.checked c.val time).rdLe a n = s.rdLe a n := by
    intro a n
    rw [State.rdLe, State.rdLe, State.rd, State.rd, State.checked_mem]
  rw [exec_libraryCrcCheck, execLibraryCrcCheck, hen, ← ht]
  simp only [Bool.not_true, Bool.false_eq_true, if_false, hcx, hnoted, htables, State.checked_reachSpans hread,
    true_and, State.checked_get, hcrc, hrd, State.checked_cx]
  split
  · rfl
  · rfl

section
variable {time : Nat} (ht : time = (s.cx c.val).lastCheck + 100000000) (hen : s.bit (Reg.TRV_CX_ATTR_EN c.val) = true)
  (hread : (s.advanceTo time).reachSpans (((s.advanceTo time).cxTables c.val).take 1) = (Code.ok, s.advanceTo time))
include ht hen hread

theorem check_matches
    (hcrc : s.libCrc (s.get (Reg.TRV_CX_LIB_BASE_BASE c.val)) (s.get (Reg.TRV_CX_LIB_SIZE_SIZE c.val)) =
      s.rdLe (s.get (Reg.TRV_CX_LIB_BASE_BASE c.val) + 8) 4) :
    Does (.libraryCrcCheck c) s (fun t => t.datum = max s.datum time ∧
      t.cx c.val = { s.cx c.val with lastCheck := t.datum } ∧
      t = { s.advanceTo time with trv := { s.trv with ctx := t.trv.ctx } }) := by
  refine ⟨s.checked c.val time, ?_, State.advanceTo_datum _ _, State.checked_cx _ _ _, ?_⟩
  · rw [exec_libraryCrcCheck_read ht hen hread, if_pos hcrc]
    rfl
  · rw [← State.advanceTo_trv s time]
    rfl

variable (hcrc : s.libCrc (s.get (Reg.TRV_CX_LIB_BASE_BASE c.val)) (s.get (Reg.TRV_CX_LIB_SIZE_SIZE c.val)) ≠
  s.rdLe (s.get (Reg.TRV_CX_LIB_BASE_BASE c.val) + 8) 4)
include hcrc

theorem check_mismatch_idle (hplan : s.planOf c.val = none) :
    Does (.libraryCrcCheck c) s (fun t => t.cx c.val = { s.cx c.val with lastCheck := t.datum, libBad := true } ∧
      t = { s.advanceTo time with
        trv := { s.trv with ctx := t.trv.ctx }, out := s.out ++ [Output.libraryFault c.val] }) := by
  have hidle : ¬((s.libFaulted c.val time).planOf c.val).isSome = true := by
    rw [State.planOf, State.libFaulted_plan, ← State.planOf, hplan]
    decide
  refine ⟨s.libFaulted c.val time, ?_, State.libFaulted_cx _ _ _, ?_⟩
  · rw [exec_libraryCrcCheck_read ht hen hread, if_neg hcrc, if_neg hidle]
    rfl
  · rw [← State.advanceTo_trv s time, ← State.advanceTo_out s time]
    exact State.setCx_setCx_emit _ _ _ _ _

theorem check_mismatch_running {p : Plan} (hplan : s.planOf c.val = some p) (hw : s.mer.windows = []) :
    Does (.libraryCrcCheck c) s (fun t => t.trv.plan = none ∧ Output.libraryFault c.val ∈ t.out ∧
      (t.cx c.val).libBad = true ∧ (t.cx c.val).arena = none ∧ t.get (Reg.TRV_Q_STATUS_RUNNING c.val) = 0) := by
  obtain ⟨hp, hctx⟩ := State.planOf_eq_some hplan
  have hrun : ((s.libFaulted c.val time).planOf c.val).isSome = true := by
    rw [State.planOf, State.libFaulted_plan, ← State.planOf, hplan]
    rfl
  have hwin : (s.libFaulted c.val time).mer.windows = [] := by
    rw [State.libFaulted_mer, hw]
  have hkilled : Killed c.val (.libraryFault c.val) ((s.libFaulted c.val time).killPlan Code.eLibCrc) :=
    killed_killPlan c.isLt ((State.libFaulted_plan _ _ _).trans hp) hctx
      (congrArg TrvCtx.libBad (State.libFaulted_cx _ _ _)) (List.mem_append_right _ List.mem_cons_self) hwin _
  refine ⟨(s.libFaulted c.val time).killPlan Code.eLibCrc, ?_, hkilled.plan, hkilled.told, hkilled.bad, hkilled.arena,
    hkilled.running⟩
  rw [exec_libraryCrcCheck_read ht hen hread, if_neg hcrc, if_pos hrun, State.admitPlans_closed hkilled.windows]
  rfl

end

end

/-- Settles O37: the writes of TRV_CX_ATTR by the cases of R445, those of TRV_Q_LATEST by the hold, and the periodic
check by what it finds; the record and the notices of a plan killed for its library leave Traverse's own data alone. -/
theorem traverseContexts : Obligations.TraverseContexts := by
  unfold Obligations.TraverseContexts
  refine ⟨?refused, ?denied, ?enabled, ?disabled, ?busy, ?published, ?held, ?matching, ?bad, ?killed, ?off⟩
  case refused => exact fun _ _ _ _ hp hen hok hacc => enable_refused hp hen hok hacc
  case denied => exact fun _ _ _ _ hp hen hacc => enable_denied hp hen hacc
  case enabled => exact fun _ _ _ _ hp hen hok => enable_taken hp hen hok
  case disabled => exact fun _ _ _ _ hp hen hplan => disable_taken hp hen hplan
  case busy => exact fun _ _ _ _ hp hen _ hplan => disable_held hp hen hplan
  case published => exact fun _ _ _ _ hp hfree => publish_taken hp hfree
  case held => exact fun _ _ _ _ hp hheld => publish_held hp hheld
  case matching =>
    intro c s hen
    generalize ht : (s.cx c.val).lastCheck + 100000000 = time
    exact fun hread hcrc => check_matches ht.symm hen hread hcrc
  case bad =>
    intro c s hen
    generalize ht : (s.cx c.val).lastCheck + 100000000 = time
    exact fun hread hcrc hplan => check_mismatch_idle ht.symm hen hread hcrc hplan
  case killed =>
    intro c s hen
    generalize ht : (s.cx c.val).lastCheck + 100000000 = time
    exact fun hcrc _ hplan hw hread => check_mismatch_running ht.symm hen hread hcrc hplan hw
  case off => exact fun _ _ hen => check_disabled hen

end Sys2Proof.Scope

/-! # What every command keeps: the queue's rest, and memory's canonical form

95_what_each_step_holds.md; R33–R35, R106. Memory changes in few places: a write, a clear, a reset, a sleep. Every other
operation calls those or leaves memory alone, so each has one lemma `Keeps.<operation>` that follows its branches and cites
the lemmas of what it calls; `Ends.<command>` says the same of a command's outcome. -/

namespace Sys2Proof.Machine
open Sys2Proof Sys2Proof.Safety

/-- From `s` to `t` the queue is as it was, and memory is canonical if it was. -/
structure Keeps (s t : State) : Prop where
  pending : t.pending = s.pending
  memOk : MemOk s → MemOk t

/-- Every next state of an outcome keeps the queue of `s` and its canonical memory. -/
def Ends (s : State) (o : Out) : Prop := ∀ t, o = .next t → Keeps s t

namespace Keeps

/-! ## The shapes of the meanings

A rule per construct: an update that leaves queue and memory alone, a branch, a pair, a fold. The rules below them, one per
operation and in the model's order, follow each operation's own branches. -/

section
variable {s₀ s t u : State} {α β γ : Type} {c : Prop} [Decidable c]

theorem refl (s : State) : Keeps s s := ⟨rfl, id⟩

theorem same (h : Keeps s₀ s) (hq : t.pending = s.pending) (hm : t.mem = s.mem) : Keeps s₀ t :=
  ⟨hq.trans h.pending, fun h₀ => by rw [MemOk, hm]; exact h.memOk h₀⟩

theorem ite (ht : Keeps s₀ t) (hu : Keeps s₀ u) : Keeps s₀ (if c then t else u) := by
  split <;> assumption

theorem iteFst {p q : State × β} (hp : Keeps s₀ p.1) (hq : Keeps s₀ q.1) : Keeps s₀ (if c then p else q).1 := by
  split <;> assumption

theorem iteSnd {p q : β × State} (hp : Keeps s₀ p.2) (hq : Keeps s₀ q.2) : Keeps s₀ (if c then p else q).2 := by
  split <;> assumption

theorem iteSndSnd {p q : β × γ × State} (hp : Keeps s₀ p.2.2) (hq : Keeps s₀ q.2.2) :
    Keeps s₀ (if c then p else q).2.2 := by
  split <;> assumption

theorem iteSndSndSnd {δ : Type} {p q : β × γ × δ × State} (hp : Keeps s₀ p.2.2.2) (hq : Keeps s₀ q.2.2.2) :
    Keeps s₀ (if c then p else q).2.2.2 := by
  split <;> assumption

theorem ofSnd {p : β × State} {b : β} (e : p = (b, t)) (h : Keeps s₀ p.2) : Keeps s₀ t := by
  rwa [e] at h

theorem foldl {f : State → α → State} {l : List α} (hf : ∀ t x, Keeps s₀ t → Keeps s₀ (f t x)) (h : Keeps s₀ s) :
    Keeps s₀ (l.foldl f s) :=
  foldl_inv f (Keeps s₀) l (fun t x _ ht => hf t x ht) s h

theorem foldlFst {f : State × β → α → State × β} {l : List α} {p : State × β}
    (hf : ∀ q x, Keeps s₀ q.1 → Keeps s₀ (f q x).1) (h : Keeps s₀ p.1) : Keeps s₀ (l.foldl f p).1 :=
  foldl_inv f (Keeps s₀ ·.1) l (fun q x _ hq => hf q x hq) p h

theorem foldlSnd {f : β × State → α → β × State} {l : List α} {p : β × State}
    (hf : ∀ q x, Keeps s₀ q.2 → Keeps s₀ (f q x).2) (h : Keeps s₀ p.2) : Keeps s₀ (l.foldl f p).2 :=
  foldl_inv f (Keeps s₀ ·.2) l (fun q x _ hq => hf q x hq) p h

/-- A record update of any fields but the queue and memory. -/
theorem update {x_freeCtr x_datum x_datumFrac x_stepSeq x_regs x_fb x_latch x_held x_resp x_out x_icnSrc x_icnTgt x_worlds
    x_pins x_fuses x_nor x_eng x_saf x_pmu x_fw x_opPools x_cache x_dramGiB x_eccPlan x_servo x_mer x_timeIn x_trv x_gfx
    x_med x_gwy x_brg x_fba x_jrn x_ufs x_boot x_dbg x_jtag x_unpub} (h : Keeps s₀ s) :
    Keeps s₀ ⟨s.pending, x_freeCtr, x_datum, x_datumFrac, x_stepSeq, x_regs, x_fb, s.mem, x_latch, x_held, x_resp, x_out,
      x_icnSrc, x_icnTgt, x_worlds, x_pins, x_fuses, x_nor, x_eng, x_saf, x_pmu, x_fw, x_opPools, x_cache, x_dramGiB,
      x_eccPlan, x_servo, x_mer, x_timeIn, x_trv, x_gfx, x_med, x_gwy, x_brg, x_fba, x_jrn, x_ufs, x_boot, x_dbg, x_jtag,
      x_unpub⟩ :=
  h.same rfl rfl

end

end Keeps

namespace Ends

section
variable {s₀ s : State} {a b : Out} {c : Prop} [Decidable c]

theorem done (h : Keeps s₀ s) : Ends s₀ (Machine.done s) := by
  rintro t ⟨⟩
  exact h

theorem ite (ha : Ends s₀ a) (hb : Ends s₀ b) : Ends s₀ (if c then a else b) := by
  split <;> assumption

end

end Ends

section
variable {s₀ s t : State}

/-! ## Shared operations -/

theorem Keeps.set {f : Field} {v : Nat} (h : Keeps s₀ s) : Keeps s₀ (s.set f v) :=
  .update h

theorem Keeps.setBit {f : Field} {b : Bool} (h : Keeps s₀ s) : Keeps s₀ (s.setBit f b) :=
  .set h

theorem Keeps.inc {f : Field} (h : Keeps s₀ s) : Keeps s₀ (s.inc f) :=
  .set h

theorem Keeps.wrapInc {f : Field} (h : Keeps s₀ s) : Keeps s₀ (s.wrapInc f) :=
  .set h

theorem Keeps.fbSet {i sub v : Nat} (h : Keeps s₀ s) : Keeps s₀ (s.fbSet i sub v) :=
  .update h

theorem Keeps.fbInc {i sub : Nat} (h : Keeps s₀ s) : Keeps s₀ (s.fbInc i sub) :=
  .fbSet h

theorem Keeps.define {lo hi : Nat} (h : Keeps s₀ s) : Keeps s₀ (s.define lo hi) :=
  .update h

theorem Keeps.undefine {lo hi : Nat} (h : Keeps s₀ s) : Keeps s₀ (s.undefine lo hi) :=
  .ite (.update h) h

theorem Keeps.wr {a : Nat} {bs : List Nat} (h : Keeps s₀ s) : Keeps s₀ (s.wr a bs) :=
  ⟨h.pending, fun hm => State.memOk_wr _ _ _ (h.memOk hm)⟩

theorem Keeps.clearMem {lo hi : Nat} (h : Keeps s₀ s) : Keeps s₀ (s.clearMem lo hi) :=
  ⟨h.pending, fun hm => State.memOk_clearMem _ _ _ (h.memOk hm)⟩

theorem Keeps.freeNat (h : Keeps s₀ s) : Keeps s₀ s.freeNat.2 :=
  .update h

theorem Keeps.seenLe {a n : Nat} (h : Keeps s₀ s) : Keeps s₀ (s.seenLe a n).2 :=
  .iteSnd (.freeNat h) h

theorem Keeps.freeNats {n : Nat} (h : Keeps s₀ s) : Keeps s₀ (s.freeNats n).2 := by
  induction n generalizing s with
  | zero => exact h
  | succ n ih => exact ih (.freeNat h)

theorem Keeps.freeInt (h : Keeps s₀ s) : Keeps s₀ s.freeInt.2 :=
  .update h

theorem Keeps.freeBool (h : Keeps s₀ s) : Keeps s₀ s.freeBool.2 :=
  .update h

theorem Keeps.emit {o : Output} (h : Keeps s₀ s) : Keeps s₀ (s.emit o) :=
  .update h

theorem Keeps.answer {v : Nat} (h : Keeps s₀ s) : Keeps s₀ (s.answer v) :=
  .update h

theorem Keeps.report {c : Nat} (h : Keeps s₀ s) : Keeps s₀ (s.report c) :=
  .update h

theorem Keeps.busError (h : Keeps s₀ s) : Keeps s₀ s.busError :=
  .update h

theorem Keeps.elapse {n : Nat} (h : Keeps s₀ s) : Keeps s₀ (s.elapse n) :=
  .update h

theorem Keeps.advanceTo {t : Nat} (h : Keeps s₀ s) : Keeps s₀ (s.advanceTo t) :=
  .ite h (.update h)

/-! ## The Cadastre checkers -/

theorem Keeps.noteRegions {k : Nat} (h : Keeps s₀ s) : Keeps s₀ (s.noteRegions k) :=
  .ite h (.update h)

theorem Keeps.cadEntry {k a region : Nat} {at' : Attr} {write : Bool} (h : Keeps s₀ s) :
    Keeps s₀ (s.cadEntry k a at' write region) :=
  .ite (.set (.set (.set (.set (.setBit (.set h)))))) (.update (.fbInc (.inc h)))

theorem Keeps.cadLog {k a region : Nat} {at' : Attr} {write : Bool} (h : Keeps s₀ s) :
    Keeps s₀ (s.cadLog k a at' write region) :=
  .cadEntry (.fbInc (.inc h))

theorem Keeps.relog {k : Nat} (h : Keeps s₀ s) : Keeps s₀ (s.relog k) := by
  unfold State.relog
  split
  · exact .ite (.foldl (fun _ _ h' => .cadEntry h') (.update (.fbSet (.set h)))) h
  · exact h

theorem Keeps.cadCheck {k a : Nat} {at' : Attr} {write : Bool} (h : Keeps s₀ s) : Keeps s₀ (s.cadCheck k at' write a).2 := by
  unfold State.cadCheck
  split
  · exact h
  · exact .cadLog h

theorem Keeps.gate {k : State → State} {who : Agent} {a : Nat} {write : Bool} (hk : ∀ s, Keeps s₀ s → Keeps s₀ (k s))
    (h : Keeps s₀ s) : Keeps s₀ (s.gate who a write k) := by
  unfold State.gate
  refine .ite (.busError h) ?_
  split
  next e => exact hk _ (.ofSnd e (.cadCheck h))
  next e => exact .busError (.ofSnd e (.cadCheck h))

theorem Keeps.gateWrite {k : State → State} {who : Agent} {a : Nat} (hk : ∀ s, Keeps s₀ s → Keeps s₀ (k s)) (h : Keeps s₀ s) :
    Keeps s₀ (s.gateWrite who a k) :=
  .gate (fun _ h' => hk _ (.answer h')) h

/-! ## The Meridian tick and admission -/

theorem Keeps.merStatus {c : Nat} (h : Keeps s₀ s) : Keeps s₀ (s.merStatus c) :=
  .set h

theorem Keeps.applySwap (h : Keeps s₀ s) : Keeps s₀ s.applySwap :=
  .update (.ite (.set (.set (.set (.set (.set (.set (.update h))))))) (.set (.set (.set (.set (.update h))))))

theorem Keeps.swapRequest (h : Keeps s₀ s) : Keeps s₀ s.swapRequest := by
  unfold State.swapRequest
  refine .ite (.merStatus h) (.ite (.merStatus h) ?_)
  split
  · exact .merStatus (.set (.set h))
  · exact .ite (.set (.set (.merStatus (.set (.set h))))) (.applySwap (.merStatus (.set (.set h))))

theorem Keeps.tableLock (h : Keeps s₀ s) : Keeps s₀ s.tableLock :=
  .set (.set h)

theorem Keeps.startRequest (h : Keeps s₀ s) : Keeps s₀ s.startRequest :=
  .ite (.set h) (.ite h (.ite (.update (.set h)) (.set h)))

theorem Keeps.stopRequest (h : Keeps s₀ s) : Keeps s₀ s.stopRequest :=
  .ite (.set h) (.update (.set h))

theorem Keeps.merCtrl {start stop swap lock : Bool} (h : Keeps s₀ s) : Keeps s₀ (s.merCtrl start stop swap lock) :=
  .ite (.merStatus h)
    (.ite
       (.stopRequest (.ite (.tableLock (.ite (.swapRequest h) (.merStatus h))) (.ite (.swapRequest h) (.merStatus h))))
       (.ite
          (.startRequest (.ite (.tableLock (.ite (.swapRequest h) (.merStatus h))) (.ite (.swapRequest h) (.merStatus h))))
          (.ite (.tableLock (.ite (.swapRequest h) (.merStatus h))) (.ite (.swapRequest h) (.merStatus h)))))

theorem Keeps.paramWrite {f : Field} {own v : Nat} {fits : Bool} (h : Keeps s₀ s) : Keeps s₀ (s.paramWrite f own fits v) :=
  .ite (.merStatus h) (.ite (.merStatus h) (.ite (.merStatus h) (.merStatus (.set h))))

theorem Keeps.writeTickPeriod {v : Nat} (h : Keeps s₀ s) : Keeps s₀ (s.writeTickPeriod v) :=
  .paramWrite h

theorem Keeps.writeHyperTicks {v : Nat} (h : Keeps s₀ s) : Keeps s₀ (s.writeHyperTicks v) :=
  .paramWrite h

theorem Keeps.writePhase {v : Nat} (h : Keeps s₀ s) : Keeps s₀ (s.writePhase v) :=
  .paramWrite h

theorem Keeps.writeShadow {e w v : Nat} (h : Keeps s₀ s) : Keeps s₀ (s.writeShadow e w v) :=
  .ite (.merStatus h) (.merStatus (.update h))

theorem Keeps.writePipeFrame {p v : Nat} (h : Keeps s₀ s) : Keeps s₀ (s.writePipeFrame p v) :=
  .ite (.merStatus h) (.ite (.merStatus h) (.ite (.merStatus h) (.merStatus (.set h))))

theorem Keeps.setWindow {i : Nat} {w : Window} (h : Keeps s₀ s) : Keeps s₀ (s.setWindow i w) :=
  .update h

theorem Keeps.spendRestart {w : OpenWindow} (h : Keeps s₀ s) : Keeps s₀ (s.spendRestart w) :=
  .setWindow h

theorem Keeps.openWindow {e : Nat} (h : Keeps s₀ s) : Keeps s₀ (s.openWindow e) :=
  .ite (.update (.setWindow (.advanceTo h))) (.setWindow (.advanceTo h))

theorem Keeps.dropWindow {e : Nat} (h : Keeps s₀ s) : Keeps s₀ (s.dropWindow e) :=
  .update h

theorem Keeps.discardHeld (h : Keeps s₀ s) : Keeps s₀ s.discardHeld :=
  .foldl (fun _ _ h' => .set h') (.update h)

theorem Keeps.frameStarts (h : Keeps s₀ s) : Keeps s₀ s.frameStarts :=
  .foldl (fun _ _ h' => .ite (.update h') h') h

theorem Keeps.applyStart (h : Keeps s₀ s) : Keeps s₀ s.applyStart := by
  unfold State.applyStart
  exact .frameStarts (.ite (.set (.update (.set (.set (.set (.set (.set h)))))))
     (.update (.set (.set (.set (.set (.set h)))))))

theorem Keeps.applyStop (h : Keeps s₀ s) : Keeps s₀ s.applyStop := by
  unfold State.applyStop
  exact .discardHeld (.update (.ite (.set (.set (.set (.set h)))) (.set (.set (.set h)))))

theorem Ends.merStart {who : Agent} (h : Keeps s₀ s) : Ends s₀ (execMerStart who s) :=
  .done (.gateWrite (fun _ h' => .merCtrl h') h)

theorem Ends.merStop {who : Agent} (h : Keeps s₀ s) : Ends s₀ (execMerStop who s) :=
  .done (.gateWrite (fun _ h' => .merCtrl h') h)

theorem Ends.merSwap {who : Agent} (h : Keeps s₀ s) : Ends s₀ (execMerSwap who s) :=
  .done (.gateWrite (fun _ h' => .merCtrl h') h)

theorem Ends.merTableLock {who : Agent} (h : Keeps s₀ s) : Ends s₀ (execMerTableLock who s) :=
  .done (.gateWrite (fun _ h' => .merCtrl h') h)

theorem Ends.tickPeriodWrite {who : Agent} {value : BitVec 14} (h : Keeps s₀ s) :
    Ends s₀ (execTickPeriodWrite who value s) :=
  .done (.gateWrite (fun _ h' => .writeTickPeriod h') h)

theorem Ends.hyperTicksWrite {who : Agent} {value : BitVec 12} (h : Keeps s₀ s) :
    Ends s₀ (execHyperTicksWrite who value s) :=
  .done (.gateWrite (fun _ h' => .writeHyperTicks h') h)

theorem Ends.phaseWrite {who : Agent} {value : BitVec 30} (h : Keeps s₀ s) : Ends s₀ (execPhaseWrite who value s) :=
  .done (.gateWrite (fun _ h' => .writePhase h') h)

theorem Ends.shadowEntryWrite {who : Agent} {entry : Fin 256} {word : Fin 4} {value : BitVec 32} (h : Keeps s₀ s) :
    Ends s₀ (execShadowEntryWrite who entry word value s) :=
  .done (.gateWrite (fun _ h' => .writeShadow h') h)

theorem Ends.pipeFrameWrite {who : Agent} {pipe : Fin 32} {value : BitVec 12} (h : Keeps s₀ s) :
    Ends s₀ (execPipeFrameWrite who pipe value s) :=
  .done (.gateWrite (fun _ h' => .writePipeFrame h') h)

/-! ## Datum and its servo -/

theorem Keeps.setServo {v : Servo} (h : Keeps s₀ s) : Keeps s₀ (s.setServo v) :=
  .update h

theorem Keeps.loseAlign (h : Keeps s₀ s) : Keeps s₀ s.loseAlign :=
  .ite (.fbInc (.set (.set h))) h

theorem Keeps.enterHoldover (h : Keeps s₀ s) : Keeps s₀ s.enterHoldover :=
  .loseAlign (.setServo (.ite (.set (.set h)) (.set (.set (.set h)))))

theorem Keeps.enterLocked (h : Keeps s₀ s) : Keeps s₀ s.enterLocked :=
  .set (.set h)

theorem Keeps.refuseJump (h : Keeps s₀ s) : Keeps s₀ s.refuseJump :=
  .fbInc (.set h)

theorem Keeps.servoUpdate {d : Int} (h : Keeps s₀ s) : Keeps s₀ (s.servoUpdate d) :=
  .setServo (.set (.freeNat (.freeInt h)))

theorem Keeps.setOffset {d : Int} (h : Keeps s₀ s) : Keeps s₀ (s.setOffset d) :=
  .setServo (.set h)

theorem Keeps.shiftTimes {d : Int} (h : Keeps s₀ s) : Keeps s₀ (s.shiftTimes d) :=
  .update h

theorem Keeps.step (h : Keeps s₀ s) : Keeps s₀ s.step :=
  .set (.discardHeld (.update (.setServo (.set (.fbInc (.set (.setOffset (.ite (.update (.shiftTimes h))
            (.enterLocked (.update (.shiftTimes h)))))))))))

theorem Keeps.boundaryStep {allowed : Bool} (h : Keeps s₀ s) : Keeps s₀ (s.boundaryStep allowed) :=
  .ite
    (.ite (.merStatus (.refuseJump (.setServo (.set h))))
       (.ite (.step (.setServo (.set h))) (.refuseJump (.setServo (.set h)))))
    h

theorem Keeps.rebaseRequest (h : Keeps s₀ s) : Keeps s₀ s.rebaseRequest.2 :=
  .iteSnd h (.iteSnd (.set h) (.step h))

theorem Keeps.takeOffset {d : Int} (h : Keeps s₀ s) : Keeps s₀ (s.takeOffset d) :=
  .ite (.ite (.servoUpdate (.setOffset h)) (.enterHoldover (.setOffset h)))
    (.ite (.setOffset h)
       (.ite (.setServo (.setOffset h))
          (.ite
             (.ite (.setServo (.setServo (.setServo (.setServo (.setOffset h)))))
                (.step (.setServo (.setServo (.setServo (.setOffset h))))))
             (.ite (.servoUpdate (.enterLocked (.setServo (.setServo (.setOffset h)))))
                (.refuseJump (.setServo (.setServo (.setOffset h))))))))

theorem Keeps.sourceChanged (h : Keeps s₀ s) : Keeps s₀ s.sourceChanged :=
  .ite (.enterHoldover (.setServo h)) (.setServo h)

theorem Keeps.writeSource {v : Nat} (h : Keeps s₀ s) : Keeps s₀ (s.writeSource v).2 :=
  .iteSnd h (.iteSnd h (.set (.sourceChanged h)))

theorem Keeps.writeRate {v : Nat} (h : Keeps s₀ s) : Keeps s₀ (s.writeRate v) :=
  .ite (.merStatus h) (.ite (.merStatus h) (.merStatus (.set h)))

theorem Ends.datumSourceWrite {who : Agent} {source : BitVec 2} (h : Keeps s₀ s) :
    Ends s₀ (execDatumSourceWrite who source s) :=
  .done (.gateWrite (fun _ h' => .merStatus (.writeSource h')) h)

theorem Ends.rebase {who : Agent} (h : Keeps s₀ s) : Ends s₀ (execRebase who s) :=
  .done (.gateWrite (fun _ h' => .merStatus (.rebaseRequest h')) h)

theorem Keeps.setLatch {who : Agent} {a v : Nat} (h : Keeps s₀ s) : Keeps s₀ (s.setLatch who a v) :=
  .update h

theorem Keeps.readTimeNs {who : Agent} (h : Keeps s₀ s) : Keeps s₀ (s.readTimeNs who) :=
  .answer (.setLatch h)

theorem Ends.timeNsRead {who : Agent} (h : Keeps s₀ s) : Ends s₀ (execTimeNsRead who s) :=
  .done (.gate (fun _ h' => .readTimeNs h') h)

theorem Keeps.dropDomain (h : Keeps s₀ s) : Keeps s₀ s.dropDomain :=
  .fbInc h

theorem Ends.syncReceived {mac logInterval : Fin 6} {domain : BitVec 8} {identity : BitVec 64} {origin : BitVec 80}
    {age : BitVec 32} (h : Keeps s₀ s) : Ends s₀ (execSyncReceived mac domain identity origin age logInterval s) := by
  unfold execSyncReceived
  refine .ite (.done (.dropDomain h)) (.ite (.done h) ?_)
  split
  · exact .ite (.done (.takeOffset (.setServo h))) (.done h)
  · exact .done h

theorem Keeps.takeMaster {m : Master} (h : Keeps s₀ s) : Keeps s₀ (s.takeMaster m) := by
  unfold State.takeMaster
  dsimp only
  split
  · exact .setServo h
  · exact .ite (.setServo h) (.ite (.sourceChanged (.fbInc (.setServo h))) (.fbInc (.setServo h)))

theorem Ends.announceReceived {mac : Fin 6} {domain priority1 priority2 : BitVec 8} {quality : BitVec 32}
    {identity : BitVec 64} {steps : BitVec 16} (h : Keeps s₀ s) :
    Ends s₀ (execAnnounceReceived mac domain priority1 quality priority2 identity steps s) :=
  .ite (.done (.dropDomain h)) (.ite (.done h) (.ite (.done (.takeMaster h)) (.done h)))

theorem Ends.peerDelayExchange {mac : Fin 6} {domain : BitVec 8} {t1 t2 t3 t4 : BitVec 80} (h : Keeps s₀ s) :
    Ends s₀ (execPeerDelayExchange mac domain t1 t2 t3 t4 s) :=
  .ite (.done (.dropDomain h)) (.ite (.done h) (.done (.setServo h)))

theorem Ends.syncTransmit {mac : Fin 6} (h : Keeps s₀ s) : Ends s₀ (execSyncTransmit mac s) :=
  .ite (.done (.emit h)) (.done h)

theorem Keeps.alignExchange {d : Int} (h : Keeps s₀ s) : Keeps s₀ (s.alignExchange d) :=
  .ite (.setServo (.set h)) (.ite (.loseAlign (.setServo h)) (.setServo h))

theorem Ends.ptmExchange {t1 t2 t3 t4 : BitVec 80} (h : Keeps s₀ s) : Ends s₀ (execPtmExchange t1 t2 t3 t4 s) :=
  .ite (.done h) (.ite (.done (.takeOffset (.setServo h))) (.done (.alignExchange (.takeOffset (.setServo h)))))

theorem Keeps.sourceLost (h : Keeps s₀ s) : Keeps s₀ s.sourceLost := by
  unfold State.sourceLost
  split
  · exact .ite (.enterHoldover (.setServo (.advanceTo h))) (.setServo (.advanceTo h))
  · exact h

theorem Ends.syncLoss (h : Keeps s₀ s) : Ends s₀ (execSyncLoss s) :=
  .ite (.done (.sourceLost h)) (.done h)

theorem Ends.ptmLoss (h : Keeps s₀ s) : Ends s₀ (execPtmLoss s) :=
  .ite (.done (.sourceLost h)) (.done h)

theorem Ends.holdoverExpiry (h : Keeps s₀ s) : Ends s₀ (execHoldoverExpiry s) :=
  .ite (.done (.set (.set (.advanceTo h)))) (.done h)

theorem Ends.acquisitionWaitExpiry (h : Keeps s₀ s) : Ends s₀ (execAcquisitionWaitExpiry s) := by
  unfold execAcquisitionWaitExpiry
  split
  · exact .done (.setServo (.advanceTo h))
  · exact .done h

theorem Ends.timeOutPulse {n : Fin 8} (h : Keeps s₀ s) : Ends s₀ (execTimeOutPulse n s) := by
  unfold execTimeOutPulse
  split
  · exact .done (.emit (.update (.advanceTo h)))
  · exact .done h

theorem Keeps.setTin {n : Nat} {r : TimeIn} (h : Keeps s₀ s) : Keeps s₀ (s.setTin n r) :=
  .set (.update h)

theorem Ends.timeInEdge {n : Fin 8} {rising : Bool} (h : Keeps s₀ s) : Ends s₀ (execTimeInEdge n rising s) :=
  .ite (.done h) (.ite (.done (.set h)) (.ite (.done (.set h)) (.done (.setTin h))))

theorem Keeps.popTin {who : Agent} {n : Nat} (h : Keeps s₀ s) : Keeps s₀ (s.popTin who n) := by
  unfold State.popTin
  split
  · exact .answer h
  · exact .answer (.setLatch (.setTin h))

theorem Ends.timeInPop {who : Agent} {n : Fin 8} (h : Keeps s₀ s) : Ends s₀ (execTimeInPop who n s) :=
  .done (.gate (fun _ h' => .popTin h') h)

theorem Keeps.toutIdle {n : Nat} (h : Keeps s₀ s) : Keeps s₀ (s.toutIdle n) :=
  .update h

theorem Keeps.writeToutCtrl {n v : Nat} (h : Keeps s₀ s) : Keeps s₀ (s.writeToutCtrl n v) :=
  .ite (.merStatus h) (.merStatus (.toutIdle (.set (.set (.set (.set h))))))

theorem Keeps.writeTout {f : Field} {check v : Nat} (h : Keeps s₀ s) : Keeps s₀ (s.writeTout f check v) :=
  .ite (.merStatus (.set h)) (.merStatus h)

theorem Keeps.writeTinCtrl {n v : Nat} (h : Keeps s₀ s) : Keeps s₀ (s.writeTinCtrl n v) :=
  .ite (.merStatus h)
    (.merStatus (.ite (.set (.ite (.set (.set (.set h))) (.set (.set h)))) (.ite (.set (.set (.set h))) (.set (.set h)))))

/-! ## Accesses over the fabric -/

theorem Keeps.groupRefuse {g : Nat} {at' : Attr} (h : Keeps s₀ s) : Keeps s₀ (s.groupRefuse g at') :=
  .set (.fbInc (.set (.inc h)))

theorem Keeps.reach1 {at' : Attr} {write : Bool} {a : Nat} (h : Keeps s₀ s) : Keeps s₀ (s.reach1 at' write a).2 := by
  unfold State.reach1
  split
  · exact h
  · exact h
  · exact h
  · split
    next e => exact .ofSnd e (.cadCheck h)
    next e =>
      have h' := Keeps.ofSnd e (.cadCheck h)
      exact .iteSnd h' (.groupRefuse h')
  · split
    next e => exact .ofSnd e (.cadCheck h)
    next e => exact .ofSnd e (.cadCheck h)
  · split
    next e => exact .ofSnd e (.cadCheck h)
    next e => exact .ofSnd e (.cadCheck h)

theorem Keeps.reachPages {at' : Attr} {write : Bool} {n a : Nat} (h : Keeps s₀ s) :
    Keeps s₀ (s.reachPages at' write n a).2 := by
  induction n generalizing s a with
  | zero => exact h
  | succ n ih =>
    unfold State.reachPages
    split
    next e => exact ih (.ofSnd e (.reach1 h))
    next e => exact .ofSnd e (.reach1 h)

theorem Keeps.reach {at' : Attr} {write : Bool} {a len : Nat} (h : Keeps s₀ s) : Keeps s₀ (s.reach at' write a len).2 :=
  .reachPages h

theorem Keeps.reachSpans {l : List Span} (h : Keeps s₀ s) : Keeps s₀ (s.reachSpans l).2 := by
  induction l generalizing s with
  | nil => exact h
  | cons x l ih =>
    unfold State.reachSpans
    split
    next e => exact ih (.ofSnd e (.reach h))
    next e => exact .ofSnd e (.reach h)

/-! ## The EN rule -/

theorem Keeps.setAll {l : List (Field × Nat)} (h : Keeps s₀ s) : Keeps s₀ (s.setAll l) :=
  .foldl (fun _ _ h' => .set h') h

theorem Keeps.enWrite {r : EnReg} {newEn : Bool} (hon : ∀ t, Keeps s₀ t → Keeps s₀ (r.onEnable t))
    (hoff : ∀ t, Keeps s₀ t → Keeps s₀ (r.onDisable t)) (h : Keeps s₀ s) : Keeps s₀ (s.enWrite r newEn) :=
  .ite (.ite (.set (.setAll h)) (.ite (.set (hoff _ (.set (.setAll h)))) (.set h)))
    (.ite (.ite (.set (hon _ (.set (.setAll (.setAll h))))) (.set (.ite (.reachSpans h) h))) (.set (.setAll (.setAll h))))

/-! ## Gateway flows -/

theorem Keeps.setFlowVal {n : Nat} {v : FlowVal} (h : Keeps s₀ s) : Keeps s₀ (s.setFlowVal n v) :=
  .update h

theorem Keeps.setEp {e : Nat} {p : Endpoint} (h : Keeps s₀ s) : Keeps s₀ (s.setEp e p) :=
  .update h

theorem Keeps.setEgress {i : Nat} {l : List EgFrame} (h : Keeps s₀ s) : Keeps s₀ (s.setEgress i l) :=
  .update h

theorem Keeps.enqueue {i : Nat} {fr : EgFrame} (h : Keeps s₀ s) : Keeps s₀ (s.enqueue i fr) :=
  .ite (.setEgress (.fbInc h)) (.ite (.fbInc h) (.setEgress h))

theorem Keeps.sendPdu {f : Flow} {v : List Nat} (h : Keeps s₀ s) : Keeps s₀ (s.sendPdu f v) := by
  unfold State.sendPdu
  split
  · exact .fbInc h
  · exact .ite (.enqueue (.enqueue (.update h))) (.enqueue h)

theorem Keeps.deliver {e : Nat} {r : RxRec} (h : Keeps s₀ s) : Keeps s₀ (s.deliver e r) := by
  unfold State.deliver
  split
  · exact h
  · refine .ite (.fbInc h) ?_
    dsimp only
    split
    next e => exact .set (.wr (.ofSnd e (.reach (.setEp h))))
    next e => exact .ofSnd e (.reach (.setEp h))

theorem Keeps.emitFlow {f : Flow} (h : Keeps s₀ s) : Keeps s₀ (s.emitFlow f) :=
  .ite (.deliver (.setFlowVal h))
    (.ite (.fbInc (.setFlowVal h)) (.ite (.sendPdu (.setFlowVal h)) (.enqueue (.setFlowVal h))))

theorem Keeps.timerEmit {f : Flow} (h : Keeps s₀ s) : Keeps s₀ (s.timerEmit f) :=
  .setFlowVal (.emitFlow h)

theorem Keeps.takeBack {f : Flow} {o : TimerOut} (h : Keeps s₀ s) : Keeps s₀ (s.takeBack f o) := by
  unfold State.takeBack
  refine .ite ?_
    (.ite (.update (.ite (.fbSet (.ite (.fbSet h) h)) (.ite (.fbSet h) h)))
       (.ite (.fbSet (.ite (.fbSet h) h)) (.ite (.fbSet h) h)))
  split
  · exact .set (.setEp (.ite (.fbSet (.ite (.fbSet h) h)) (.ite (.fbSet h) h)))
  · exact .ite (.fbSet (.ite (.fbSet h) h)) (.ite (.fbSet h) h)

theorem Keeps.flowInput {f : Flow} {v : List Nat} {t iface key0 key1 : Nat} (h : Keeps s₀ s) :
    Keeps s₀ (s.flowInput f v t iface key0 key1) := by
  unfold State.flowInput
  refine .ite (.fbInc h) ?_
  split
  · exact .fbInc h
  · extract_lets again s₁ s₂ s₃
    have h₁ : Keeps s₀ s₁ := by
      cases hagain : again with
      | none => simpa only [s₁, hagain] using h
      | some o => simpa only [s₁, hagain] using Keeps.takeBack h
    have h₃ : Keeps s₀ s₃ := .setFlowVal (.ite (.fbInc h₁) h₁)
    split
    · exact .fbSet (.emitFlow h₃)
    · exact .emitFlow h₃
    · exact .ite (.emitFlow h₃) h₃

theorem Keeps.producerInput {producer flow : Nat} {v : List Nat} (h : Keeps s₀ s) :
    Keeps s₀ (s.producerInput producer flow v) :=
  .ite (.flowInput h) h

theorem Keeps.canMessage {can id : Nat} {data : List Nat} (h : Keeps s₀ s) : Keeps s₀ (s.canMessage can id data) :=
  .enqueue h

/-! ## Tensor records -/

theorem Keeps.writeRow {v : View} {row : RowOut} (h : Keeps s₀ s) : Keeps s₀ (s.writeRow v row).1 :=
  .iteFst (.wr (.wr h)) (.wr h)

theorem Keeps.writeRowsPlain {v : View} {rows : List RowOut} (h : Keeps s₀ s) : Keeps s₀ (s.writeRowsPlain v rows).1 := by
  induction rows generalizing s with
  | nil => exact h
  | cons r rows ih => exact ih (.writeRow h)

theorem Keeps.writeFrcBlock {v : View} {m : KMap (List Elem)} {c px py n : Nat} (h : Keeps s₀ s) :
    Keeps s₀ (s.writeFrcBlock v m c px py n).1 :=
  .wr (.wr h)

theorem Keeps.writeRowsFrc {v : View} {rows : List RowOut} (h : Keeps s₀ s) : Keeps s₀ (s.writeRowsFrc v rows).1 :=
  .foldlFst (fun _ _ h' => .foldlFst (fun _ _ h'' => .writeFrcBlock h'') h') h

theorem Keeps.defineBank {v : View} (h : Keeps s₀ s) : Keeps s₀ (s.defineBank v) :=
  .ite (.define (.define h)) (.define h)

theorem Keeps.undefineBank {v : View} (h : Keeps s₀ s) : Keeps s₀ (s.undefineBank v) :=
  .ite (.undefine (.undefine h)) (.undefine h)

theorem Keeps.writeRows {v : View} {rows : List RowOut} (h : Keeps s₀ s) : Keeps s₀ (s.writeRows v rows).1 :=
  .undefineBank (.iteFst (.writeRowsFrc h) (.writeRowsPlain h))

/-! ## The safety island: shared operations -/

theorem Keeps.statusMessage (h : Keeps s₀ s) : Keeps s₀ s.statusMessage :=
  .update (.producerInput (.canMessage (.emit h)))

theorem Keeps.driveSafe {high : Bool} (h : Keeps s₀ s) : Keeps s₀ (s.driveSafe high) :=
  .update (.setBit h)

theorem Keeps.setSafState {v : Nat} (h : Keeps s₀ s) : Keeps s₀ (s.setSafState v) :=
  .fbSet (.set h)

theorem Keeps.declareSafe {cause : Nat} {byB : optParam Bool false} (h : Keeps s₀ s) : Keeps s₀ (s.declareSafe cause byB) :=
  .ite (.ite (.update (.set h)) h) (.statusMessage (.driveSafe (.update (.set (.fbInc (.set (.setSafState h)))))))

theorem Keeps.degrade {flag : Field} {code : Nat} (h : Keeps s₀ s) : Keeps s₀ (s.degrade flag code) :=
  .ite (.statusMessage (.set h)) (.statusMessage (.ite (.setSafState (.set (.set (.set h)))) (.set (.set (.set h)))))

theorem Keeps.undegrade {flag : Field} (h : Keeps s₀ s) : Keeps s₀ (s.undegrade flag) :=
  .ite (.statusMessage (.ite (.setSafState (.set h)) (.set h))) h

theorem Keeps.noteMain {r : Nat} {n : Notice} (h : Keeps s₀ s) : Keeps s₀ (s.noteMain r n) :=
  .update h

theorem Keeps.notePlumb {r : Nat} {n : Notice} (h : Keeps s₀ s) : Keeps s₀ (s.notePlumb r n) :=
  .update h

theorem Keeps.setBench {p : Nat} {b : Bench} (h : Keeps s₀ s) : Keeps s₀ (s.setBench p b) :=
  .update h

theorem Keeps.benchMain {q status : Nat} (h : Keeps s₀ s) : Keeps s₀ (s.benchMain q status) :=
  .foldl (fun _ _ h' => .ite (.setBench h') h') h

theorem Keeps.benchPlumb {q status : Nat} (h : Keeps s₀ s) : Keeps s₀ (s.benchPlumb q status) :=
  .foldl (fun _ _ h' => .ite (.setBench h') h') h

theorem Keeps.noticeTensor {q job status : Nat} (h : Keeps s₀ s) : Keeps s₀ (s.noticeTensor q job status) :=
  .foldl (fun _ _ h' => .ite (.noteMain h') h') (.benchMain h)

theorem Keeps.noticePlumb {q job status : Nat} (h : Keeps s₀ s) : Keeps s₀ (s.noticePlumb q job status) :=
  .foldl (fun _ _ h' => .ite (.notePlumb h') h') (.benchPlumb h)

theorem Keeps.noticeTraverse {c job status mainAddr plumbAddr : Nat} (h : Keeps s₀ s) :
    Keeps s₀ (s.noticeTraverse c job status mainAddr plumbAddr) :=
  .foldl (fun _ _ h' => .ite (.notePlumb (.noteMain h')) h') h

/-! ## The Interrupt Concentrator -/

theorem Keeps.setSrc {i : Nat} {r : IcnSrc} (h : Keeps s₀ s) : Keeps s₀ (s.setSrc i r) :=
  .update h

theorem Keeps.setTgt {t : Nat} {r : IcnTgt} (h : Keeps s₀ s) : Keeps s₀ (s.setTgt t r) :=
  .update h

theorem Keeps.mergeEdge {i t : Nat} (h : Keeps s₀ s) : Keeps s₀ (s.mergeEdge i t) :=
  .fbInc (.setSrc h)

theorem Keeps.edge1 {i t : Nat} (h : Keeps s₀ s) : Keeps s₀ (s.edge1 i t) :=
  .ite (.mergeEdge h) (.setSrc h)

theorem Keeps.raiseEdge {i : Nat} (h : Keeps s₀ s) : Keeps s₀ (s.raiseEdge i) :=
  .ite (.foldl (fun _ _ h' => .edge1 h') h) (.ite (.mergeEdge h) (.setSrc h))

theorem Keeps.followLine {i : Nat} {line : Bool} (h : Keeps s₀ s) : Keeps s₀ (s.followLine i line) :=
  .ite (.setSrc h) (.ite (.setSrc h) (.setSrc h))

theorem Keeps.claimSource {t i : Nat} (h : Keeps s₀ s) : Keeps s₀ (s.claimSource t i) :=
  .setTgt (.setSrc (.ite (.fbSet h) h))

theorem Keeps.endActive {t i : Nat} (h : Keeps s₀ s) : Keeps s₀ (s.endActive t i) :=
  .ite (.setSrc h)
    (.ite (.ite (.setSrc (.setSrc h)) (.setSrc (.setSrc h))) (.ite (.setSrc (.setSrc h)) (.setSrc (.setSrc h))))

theorem Keeps.emptyStack {t : Nat} (h : Keeps s₀ s) : Keeps s₀ (s.emptyStack t) :=
  .setTgt (.foldl (fun _ _ h' => .endActive h') h)

theorem Keeps.icnRefuse {who : Agent} {a : Nat} {write : Bool} (h : Keeps s₀ s) : Keeps s₀ (s.icnRefuse who a write) :=
  .cadLog h

theorem Keeps.pageOwn {k : State → State} {who : Agent} {t a : Nat} {write : Bool} (hk : ∀ s, Keeps s₀ s → Keeps s₀ (k s))
    (h : Keeps s₀ s) : Keeps s₀ (s.pageOwn who t a write k) :=
  .ite (.answer h) (.ite (hk _ h) (.answer (.fbInc (.icnRefuse h))))

theorem Keeps.page {k : State → State} {who : Agent} {t a : Nat} {write : Bool} (hk : ∀ s, Keeps s₀ s → Keeps s₀ (k s))
    (h : Keeps s₀ s) : Keeps s₀ (s.page who t a write k) :=
  .gate (fun _ h' => .pageOwn hk h') h

theorem Keeps.claim {t : Nat} (h : Keeps s₀ s) : Keeps s₀ (s.claim t) := by
  unfold State.claim
  split
  · exact .answer h
  · exact .answer (.claimSource h)

theorem Keeps.icnLogFault {t id top : Nat} (h : Keeps s₀ s) : Keeps s₀ (s.icnLogFault t id top) :=
  .ite h (.set (.set (.set (.set (.set h)))))

theorem Keeps.complete {t id : Nat} (h : Keeps s₀ s) : Keeps s₀ (s.complete t id) := by
  unfold State.complete
  split
  · exact .set h
  · exact .set h
  · exact .ite (.set (.endActive (.setTgt h)))
      (.ite (.set (.set h))
         (.ite (.declareSafe (.followLine (.fbInc (.icnLogFault (.set (.setTgt h))))))
            (.followLine (.fbInc (.icnLogFault (.set (.setTgt h)))))))

theorem Keeps.icnStatus {c : Nat} (h : Keeps s₀ s) : Keeps s₀ (s.icnStatus c) :=
  .set h

theorem Keeps.writeSrcTgt {i m : Nat} (h : Keeps s₀ s) : Keeps s₀ (s.writeSrcTgt i m) :=
  .ite (.icnStatus h)
    (.ite h (.ite (.ite (.icnStatus (.set (.setSrc h))) (.followLine (.icnStatus (.set (.setSrc h))))) (.icnStatus h)))

theorem Keeps.writeSrcCfg {i v : Nat} (h : Keeps s₀ s) : Keeps s₀ (s.writeSrcCfg i v) :=
  .ite (.icnStatus h)
    (.ite h
       (.ite (.icnStatus (.ite (.set (.set (.set (.set (.setSrc h))))) (.set (.set (.set (.setSrc h))))))
          (.followLine (.icnStatus (.ite (.set (.set (.set (.set (.setSrc h))))) (.set (.set (.set (.setSrc h)))))))))

theorem Keeps.unfreeze {who : Agent} {t : Nat} (h : Keeps s₀ s) : Keeps s₀ (s.unfreeze who t) :=
  .ite (.icnStatus h) (.ite (.icnStatus (.icnRefuse h)) (.ite (.icnStatus h) (.icnStatus (.emptyStack h))))

theorem Keeps.swSet {who : Agent} {n : Nat} (h : Keeps s₀ s) : Keeps s₀ (s.swSet who n) :=
  .ite (.icnStatus (.fbInc (.icnRefuse h))) (.ite (.icnStatus h) (.icnStatus (.raiseEdge h)))

theorem Keeps.icnTest {who : Agent} {v : Bool} (h : Keeps s₀ s) : Keeps s₀ (s.icnTest who v) :=
  .ite h
    (.ite (.set h)
       (.ite (.followLine (.set (.set (.set (.set (.set (.set (.foldl (fun _ _ h' => .emptyStack h') (.set h))))))))) h))

theorem Ends.levelLineChange {source : Fin 1024} {ext : Bool} (h : Keeps s₀ s) :
    Ends s₀ (execLevelLineChange source ext s) :=
  .ite (.done h) (.done (.followLine h))

theorem Ends.edgeEvent {source : Fin 1024} (h : Keeps s₀ s) : Ends s₀ (execEdgeEvent source s) :=
  .ite (.done (.raiseEdge h)) (.done h)

theorem Ends.sourceConfigWrite {who : Agent} {source : Fin 1024} {tgt : Bool} {value : BitVec 64} (h : Keeps s₀ s) :
    Ends s₀ (execSourceConfigWrite who source tgt value s) :=
  .ite (.done (.gateWrite (fun _ h' => .writeSrcTgt h') h)) (.done (.gateWrite (fun _ h' => .writeSrcCfg h') h))

theorem Ends.claim {who : Agent} {target : Fin 64} (h : Keeps s₀ s) : Ends s₀ (execClaim who target s) :=
  .done (.page (fun _ h' => .claim h') h)

theorem Ends.complete {who : Agent} {target : Fin 64} {id : BitVec 10} (h : Keeps s₀ s) :
    Ends s₀ (execComplete who target id s) :=
  .done (.page (fun _ h' => .complete (.answer h')) h)

theorem Ends.unfreeze {who : Agent} {target : BitVec 6} (h : Keeps s₀ s) : Ends s₀ (execUnfreeze who target s) :=
  .done (.gateWrite (fun _ h' => .unfreeze h') h)

theorem Ends.swSet {who : Agent} {n : Fin 64} (h : Keeps s₀ s) : Ends s₀ (execSwSet who n s) :=
  .done (.gateWrite (fun _ h' => .swSet h') h)

theorem Ends.icnTestWrite {who : Agent} {test : Bool} (h : Keeps s₀ s) : Ends s₀ (execIcnTestWrite who test s) :=
  .done (.gateWrite (fun _ h' => .icnTest h') h)

/-! ## Queues and jobs -/

theorem Keeps.setJob {k : Nat} {j : Job} (h : Keeps s₀ s) : Keeps s₀ (s.setJob k j) :=
  .update h

theorem Keeps.setCmd {k : Nat} {c : Cmd} (h : Keeps s₀ s) : Keeps s₀ (s.setCmd k c) :=
  .update h

theorem Keeps.delJob {k : Nat} (h : Keeps s₀ s) : Keeps s₀ (s.delJob k) :=
  .update h

theorem Keeps.delCmd {k : Nat} (h : Keeps s₀ s) : Keeps s₀ (s.delCmd k) :=
  .update h

theorem Keeps.writeRecord {k : Nat} {r : Record} (h : Keeps s₀ s) : Keeps s₀ (s.writeRecord k r) := by
  unfold State.writeRecord
  dsimp only
  split
  next e =>
    have h' := Keeps.ofSnd e (.reach h)
    exact .ite (.raiseEdge (.set (.wr h'))) (.set (.wr h'))
  next e => exact .set (.set (.ofSnd e (.reach h)))

theorem Keeps.disarm {d : Desc} {c : Cmd} (h : Keeps s₀ s) : Keeps s₀ (s.disarm d c) :=
  .foldl (fun _ _ h' => by
    split
    · exact .ite (.set h') h'
    · exact h') h

theorem Keeps.refreshRunning (h : Keeps s₀ s) : Keeps s₀ s.refreshRunning :=
  .setBit (.foldl (fun _ _ h' => .setBit h') h)

theorem Keeps.unwrite {c : Cmd} (h : Keeps s₀ s) : Keeps s₀ (s.unwrite c) :=
  .foldl (fun _ _ h' => .undefine (.wr h')) h

theorem Keeps.dropCmd {k : Nat} (h : Keeps s₀ s) : Keeps s₀ (s.dropCmd k) := by
  unfold State.dropCmd
  split
  · exact h
  · exact .refreshRunning (.delCmd (.unwrite (.disarm h)))

theorem Keeps.setPool {i : Nat} {p : KvPool} (h : Keeps s₀ s) : Keeps s₀ (s.setPool i p) :=
  .update h

theorem Keeps.putTable {old new : SeqRow} (h : Keeps s₀ s) : Keeps s₀ (s.putTable old new) :=
  .foldl (fun _ _ h' => .wr h') (.foldl (fun _ _ h' => .wr h') h)

theorem Keeps.setRow {r : Nat} {v : SeqRow} (h : Keeps s₀ s) : Keeps s₀ (s.setRow r v) :=
  .putTable (.wr (.update h))

theorem Keeps.delStep {p : Nat} (h : Keeps s₀ s) : Keeps s₀ (s.delStep p) :=
  .update h

theorem Keeps.dropLines {pool : Nat} {pages : List Nat} (h : Keeps s₀ s) : Keeps s₀ (s.dropLines pool pages) :=
  .update h

theorem Keeps.freePages {pool : Nat} {es : List (Bool × Nat)} (h : Keeps s₀ s) : Keeps s₀ (s.freePages pool es) := by
  unfold State.freePages
  split
  · exact h
  · exact .dropLines (.setPool h)

theorem Keeps.rollback {i : Nat} {st : KvStep} (h : Keeps s₀ s) : Keeps s₀ (s.rollback i st) :=
  .fbInc (.delStep (.foldl (fun _ _ h' => .setRow h')
      (.foldl (fun _ _ h' => .setRow h') (.foldl (fun _ _ h' => .setRow h') (.freePages h)))))

theorem Keeps.rollbackJob {k num : Nat} (h : Keeps s₀ s) : Keeps s₀ (s.rollbackJob k num) :=
  .foldl (fun _ _ h' => .rollback h') h

theorem Keeps.closeStep {i : Nat} {st : KvStep} (h : Keeps s₀ s) : Keeps s₀ (s.closeStep i st) :=
  .fbInc (.delStep (.foldl (fun _ _ h' => .freePages h')
      (.foldl (fun _ _ h' => .ite (.setRow (.freePages h')) (.setRow h')) h)))

theorem Keeps.sessionSettle (h : Keeps s₀ s) : Keeps s₀ s.sessionSettle :=
  .ite (.fbSet h) h

theorem Keeps.sessionClose (h : Keeps s₀ s) : Keeps s₀ s.sessionClose :=
  .sessionSettle (.ite (.fbSet h) h)

theorem Keeps.notice {k num status : Nat} (h : Keeps s₀ s) : Keeps s₀ (s.notice k num status) :=
  .ite (.noticePlumb h) (.noticeTensor h)

theorem Keeps.endJob {k status tile pkg cycles : Nat} {j : Job} {d : Desc} (h : Keeps s₀ s) :
    Keeps s₀ (s.endJob k j status d tile pkg cycles) :=
  .sessionSettle (.notice (.delJob (.set (.set (.set (.writeRecord (.rollbackJob (.dropCmd h))))))))

theorem Keeps.activeCycles {k : Nat} (h : Keeps s₀ s) : Keeps s₀ (s.activeCycles k).2 := by
  unfold State.activeCycles
  split
  · exact .iteSnd h (.freeNat h)
  · exact h

theorem Keeps.endRunning {k status pkg : Nat} {j : Job} {d : Desc} (h : Keeps s₀ s) :
    Keeps s₀ (s.endRunning k j status d pkg) :=
  .endJob (.activeCycles h)

theorem Keeps.restartJob {k : Nat} {j : Job} {w : OpenWindow} (h : Keeps s₀ s) : Keeps s₀ (s.restartJob k j w) :=
  .setJob (.fbInc (.set (.set (.spendRestart (.dropCmd h)))))

theorem Keeps.tell {mask group : Nat} {m : JobMsg} (h : Keeps s₀ s) : Keeps s₀ (s.tell mask group m) :=
  .foldl (fun _ _ h' => .emit h') h

theorem Keeps.tellKill {k code : Nat} (h : Keeps s₀ s) : Keeps s₀ (s.tellKill k code) := by
  unfold State.tellKill
  split
  · exact .update (.fbInc (.tell h))
  · exact h

theorem Keeps.noteKill {k tile : Nat} {c : Cmd} {preempted : Bool} {record : Option Nat} (h : Keeps s₀ s) :
    Keeps s₀ (s.noteKill k c preempted record tile) :=
  .update h

theorem Keeps.endKilled {k code tile pkg cycles : Nat} {j : Job} (h : Keeps s₀ s) :
    Keeps s₀ (s.endKilled k j code tile pkg cycles) := by
  unfold State.endKilled
  dsimp only
  split
  · exact .noteKill (.endJob h)
  · exact .endJob h

theorem Keeps.markKill {w : Nat} (h : Keeps s₀ s) : Keeps s₀ (s.markKill w) :=
  .update h

theorem Keeps.killOne {k code tile pkg cycles : Nat} {restart wait : Bool} (h : Keeps s₀ s) :
    Keeps s₀ (s.killOne k code restart wait tile pkg cycles) := by
  unfold State.killOne
  split
  · exact h
  · refine .ite ?_ ?_
    · split
      · exact .noteKill (.setJob (.dropCmd (.markKill (.fbInc h))))
      · exact .setJob (.dropCmd (.markKill (.fbInc h)))
    · dsimp only
      split
      · split
        · refine .tell ?_
          split
          · exact .noteKill (.restartJob (.markKill (.fbInc h)))
          · exact .restartJob (.markKill (.fbInc h))
        · split
          · exact .noteKill (.restartJob (.markKill (.fbInc h)))
          · exact .restartJob (.markKill (.fbInc h))
      · split
        · exact .tell (.endKilled (.markKill (.fbInc h)))
        · exact .endKilled (.markKill (.fbInc h))

theorem Keeps.killAll {k own code tile pkg cycles : Nat} (h : Keeps s₀ s) : Keeps s₀ (s.killAll k own code tile pkg cycles) :=
  .foldl (fun _ _ h' => .killOne (.activeCycles h')) (.killOne h)

theorem Keeps.killJob {k code tile cycles : Nat} (h : Keeps s₀ s) : Keeps s₀ (s.killJob k code tile cycles) :=
  .killAll (.tellKill h)

theorem Keeps.killFree {k code : Nat} (h : Keeps s₀ s) : Keeps s₀ (s.killFree k code) :=
  .killJob (.activeCycles h)

theorem Keeps.rejectJob {k code : Nat} (h : Keeps s₀ s) : Keeps s₀ (s.rejectJob k code) := by
  unfold State.rejectJob
  split
  · exact h
  · exact .endJob (.tellKill h)

theorem Keeps.preemptGo {n : Nat} {ks : List Nat} (h : Keeps s₀ s) : Keeps s₀ (s.preemptGo n ks) := by
  induction n generalizing s ks with
  | zero => cases ks <;> exact h
  | succ n ih =>
    cases ks with
    | nil => exact h
    | cons k ks =>
      unfold State.preemptGo
      split
      · exact ih h
      · exact ih (.fbInc (.noteKill (.dropCmd h)))

theorem Keeps.preemptCmd {k : Nat} (h : Keeps s₀ s) : Keeps s₀ (s.preemptCmd k) :=
  .preemptGo h

theorem Keeps.preemptOwn {k : Nat} (h : Keeps s₀ s) : Keeps s₀ (s.preemptOwn k) :=
  .ite (.preemptCmd (.tellKill h)) h

/-! ## The decode stage -/

theorem Keeps.decodeCmd {k : Nat} {d : Desc} {j : Job} {active : Bool} (h : Keeps s₀ s) :
    Keeps s₀ (s.decodeCmd k d j active).2 := by
  unfold State.decodeCmd
  dsimp only
  exact .reachSpans h

/-! ## Admission of jobs -/

theorem Keeps.compatChk {k : Nat} {ds : List Desc} (h : Keeps s₀ s) : Keeps s₀ (s.compatChk k ds).2 := by
  unfold State.compatChk
  split
  next e =>
    have h' := Keeps.ofSnd e (.reachSpans h)
    refine .iteSnd h' ?_
    split
    next e => exact .ofSnd e (.reachSpans h')
    next e => exact .ofSnd e (.reachSpans h')
  next e => exact .ofSnd e (.reachSpans h)

theorem Keeps.preemptRequest {k q : Nat} (h : Keeps s₀ s) : Keeps s₀ (s.preemptRequest k q) := by
  unfold State.preemptRequest
  split
  · exact h
  · exact .ite (.setJob h) (.preemptOwn (.setJob h))

theorem Keeps.preemptFor {k prio : Nat} {ds : List Desc} (h : Keeps s₀ s) : Keeps s₀ (s.preemptFor k prio ds) :=
  .foldl (fun _ _ h' => .preemptRequest h') h

theorem Keeps.admitJob {k b : Nat} {ds : List Desc} {w : OpenWindow} (h : Keeps s₀ s) : Keeps s₀ (s.admitJob k ds b w) := by
  unfold State.admitJob
  refine .preemptFor (.set ?_)
  split
  · exact .setJob (.setJob h)
  · exact .setJob h

theorem Keeps.rejectStream {k code : Nat} {ds : List Desc} (h : Keeps s₀ s) : Keeps s₀ (s.rejectStream k ds code) := by
  unfold State.rejectStream
  split
  · exact h
  · exact .endJob (.fbInc h)

theorem Keeps.refuseStream {k : Nat} {x2 : List Desc} (h : Keeps s₀ s) : Keeps s₀ (s.refuseStream k x2) := by
  unfold State.refuseStream
  split
  · exact h
  · exact .endJob h

theorem Keeps.deferred (h : Keeps s₀ s) : Keeps s₀ s.deferred :=
  .fbInc h

theorem Keeps.considerJob {k : Nat} {ds : List Desc} {w : OpenWindow} (h : Keeps s₀ s) : Keeps s₀ (s.considerJob k ds w) := by
  unfold State.considerJob
  refine .ite (.refuseStream h) (.ite h (.ite (.deferred h) (.ite (.deferred h) (.ite (.deferred h) ?_))))
  dsimp only
  refine .ite (.rejectStream (.iteSnd (.compatChk h) h)) ?_
  split
  · exact .admitJob (.iteSnd (.compatChk h) h)
  · exact .rejectStream (.iteSnd (.compatChk h) h)
  · refine .ite ?_ (.deferred (.iteSnd (.compatChk h) h))
    split
    · exact .admitJob (.foldl (fun _ _ h' => .preemptRequest h') (.iteSnd (.compatChk h) h))
    · exact .deferred (.iteSnd (.compatChk h) h)

theorem Keeps.consider {k : Nat} {w : OpenWindow} (h : Keeps s₀ s) : Keeps s₀ (s.consider k w) := by
  unfold State.consider
  refine .ite h ?_
  split
  next e =>
    have h' := Keeps.ofSnd e (.reachSpans h)
    split
    · exact .deferred h'
    · exact .considerJob h'
  next e => exact .deferred (.ofSnd e (.reachSpans h))

theorem Keeps.considerIn {w k : Nat} (h : Keeps s₀ s) : Keeps s₀ (s.considerIn w k).1 := by
  unfold State.considerIn
  split
  · exact .consider h
  · exact h

theorem Keeps.admitWindow {w : OpenWindow} (h : Keeps s₀ s) : Keeps s₀ (s.admitWindow w).1 :=
  .iteFst (.foldlFst (fun _ _ h' => .considerIn h') h) h

theorem Keeps.admitPass (h : Keeps s₀ s) : Keeps s₀ s.admitPass.1 :=
  .foldlFst (fun _ _ h' => .admitWindow h') h

theorem Keeps.admitLoop {n : Nat} (h : Keeps s₀ s) : Keeps s₀ (s.admitLoop n) := by
  induction n generalizing s with
  | zero => exact h
  | succ n ih => exact .ite (ih (.admitPass h)) (.admitPass h)

theorem Keeps.admitJobs (h : Keeps s₀ s) : Keeps s₀ s.admitJobs :=
  .admitLoop h

theorem Keeps.readmit {before : State} (h : Keeps s₀ s) : Keeps s₀ (s.readmit before) :=
  .ite (.admitJobs h) h

/-! ## Attention -/

theorem Keeps.appendHead {p : KvPool} {r : SeqRow} {v : View} {l hd n : Nat} (h : Keeps s₀ s) :
    Keeps s₀ (s.appendHead p r v l hd n) :=
  .wr (.wr (.wr (.wr h)))

theorem Keeps.appendAll {p : KvPool} {r : SeqRow} {v : View} {l : Nat} (h : Keeps s₀ s) : Keeps s₀ (s.appendAll p r v l) :=
  .foldl (fun _ _ h' => .foldl (fun _ _ h'' => .appendHead h'') h') h

theorem Keeps.kvFetch {c : Nat} {line : KvLine} (h : Keeps s₀ s) : Keeps s₀ (s.kvFetch c line) :=
  .ite (.set h) (.update (.ite (.inc h) (.inc h)))

theorem Keeps.emitPage {x : PageStream} {c lp head0 heads slot0 tokens : Nat} {append : Bool} (h : Keeps s₀ s) :
    Keeps s₀ (s.emitPage x c append lp head0 heads slot0 tokens) :=
  .emit h

theorem Keeps.pageStream {x : PageStream} {c head0 heads : Nat} (h : Keeps s₀ s) : Keeps s₀ (s.pageStream x c head0 heads) :=
  .foldl (fun _ _ h' => .kvFetch (.emitPage h')) (.foldl (fun _ _ h' => .emitPage h') h)

theorem Keeps.pageStreams {x : PageStream} (h : Keeps s₀ s) : Keeps s₀ (s.pageStreams x) :=
  .foldl (fun _ _ h' => .pageStream h') h

/-! ## Run and commit of commands -/

theorem Keeps.clusterFault {tile code : Nat} (h : Keeps s₀ s) : Keeps s₀ (s.clusterFault tile code) :=
  .set (.set (.set h))

theorem Keeps.accessKill {k code : Nat} {d : Desc} (h : Keeps s₀ s) : Keeps s₀ (s.accessKill k d code) :=
  .killJob (.ite h (.clusterFault h))

theorem Keeps.startCmd {k : Nat} {d : Desc} {c : Cmd} (h : Keeps s₀ s) : Keeps s₀ (s.startCmd k d c) :=
  .refreshRunning (.setCmd h)

theorem Keeps.runRows {k : Nat} {d : Desc} {out : Rec} {rows : List RowOut} {sts : optParam (KMap Stripe) []}
    (h : Keeps s₀ s) : Keeps s₀ (s.runRows k d out rows sts) :=
  .startCmd (.writeRows h)

theorem Keeps.runOp {k : Nat} {d : Desc} {ins : List View} {out : Rec} {rows : List RowOut}
    {sts : optParam (KMap Stripe) []} (h : Keeps s₀ s) : Keeps s₀ (s.runOp k d ins out rows sts) := by
  unfold State.runOp
  dsimp only
  split
  next e => exact .runRows (.ofSnd e (.reachSpans h))
  next e => exact .accessKill (.ofSnd e (.reachSpans h))

theorem Keeps.runConv {k : Nat} {d : Desc} {a b : View} {aux : Option View} {out : Rec} (h : Keeps s₀ s) :
    Keeps s₀ (s.runConv k d a b aux out) := by
  unfold State.runConv
  refine .ite ?_ (.runOp h)
  split
  next e => exact .startCmd (.ofSnd e (.reachSpans h))
  next e => exact .accessKill (.ofSnd e (.reachSpans h))

theorem Keeps.runRaw {k : Nat} {d : Desc} {a : View} {out : Rec} (h : Keeps s₀ s) : Keeps s₀ (s.runRaw k d a out) := by
  unfold State.runRaw
  dsimp only
  split
  next e => exact .startCmd (.undefineBank (.wr (.ofSnd e (.reachSpans h))))
  next e => exact .accessKill (.ofSnd e (.reachSpans h))

theorem Keeps.runAttn {k : Nat} {d : Desc} {j : Job} {a : View} {out : Rec} (h : Keeps s₀ s) :
    Keeps s₀ (s.runAttn k d j a out) := by
  unfold State.runAttn
  dsimp only
  split
  · exact h
  · split
    next e =>
      have h' := Keeps.ofSnd e (.reachSpans h)
      split
      · exact .setJob (.runRows (.pageStreams (.appendAll h')))
      · exact .runRows (.pageStreams (.appendAll h'))
    next e => exact .accessKill (.ofSnd e (.reachSpans h))

theorem Keeps.collSend {d : Desc} {g : Coll} {a : View} (h : Keeps s₀ s) : Keeps s₀ (s.collSend d g a) :=
  .foldl (fun _ _ h' => .emit h') h

theorem Keeps.runColl {k : Nat} {d : Desc} {a : View} {out : Rec} (h : Keeps s₀ s) : Keeps s₀ (s.runColl k d a out) := by
  unfold State.runColl
  split
  · exact h
  · dsimp only
    split
    next e => exact .runRows (.collSend (.ofSnd e (.reachSpans h)))
    next e => exact .accessKill (.ofSnd e (.reachSpans h))

theorem Keeps.optGroup {k : Nat} {j : Job} {p1 p2 : FX} {gr : Group} (h : Keeps s₀ s) :
    Keeps s₀ (s.optGroup k j p1 p2 gr).1 :=
  .iteFst (.writeRows (.writeRows (.writeRows h))) (.writeRows (.writeRows (.writeRows (.writeRows h))))

theorem Keeps.runPass {k : Nat} {d : Desc} {j : Job} {t : Training} (h : Keeps s₀ s) : Keeps s₀ (s.runPass k d j t) := by
  unfold State.runPass
  dsimp only
  split
  next e =>
    have h' := Keeps.ofSnd e (.reachSpans h)
    exact .ite (.killJob (.fbInc h')) (.startCmd (.foldlFst (fun _ _ h'' => .optGroup h'') h'))
  next e => exact .accessKill (.ofSnd e (.reachSpans h))

theorem Keeps.runCommit {k : Nat} {d : Desc} {j : Job} (h : Keeps s₀ s) : Keeps s₀ (s.runCommit k d j) := by
  unfold State.runCommit
  split
  · exact .startCmd h
  · exact .runPass h

theorem Keeps.runCmd {k : Nat} {d : Desc} {j : Job} (h : Keeps s₀ s) : Keeps s₀ (s.runCmd k d j) := by
  unfold State.runCmd
  dsimp only
  split
  · exact .runOp h
  · exact .runConv h
  · exact .runConv h
  · exact .runOp h
  · exact .runOp h
  · exact .runOp h
  · exact .runOp h
  · exact .runOp h
  · exact .runOp h
  · exact .runOp h
  · exact .runAttn h
  · exact .runOp h
  · exact .runOp h
  · exact .ite (.runRaw h) (.runOp h)
  · exact .runColl h
  · exact .startCmd h
  · exact .ite (.runCommit h) (.rejectJob h)
  · exact h

theorem Keeps.dispatch {k op : Nat} {active : Bool} (h : Keeps s₀ s) : Keeps s₀ (s.dispatch k op active) := by
  unfold State.dispatch
  dsimp only
  split
  · exact .ite h (.ite (.setJob h) (.ite (.runCmd (.decodeCmd h)) (.rejectJob (.decodeCmd h))))
  · exact h

theorem Keeps.flipPub {a : Nat} (h : Keeps s₀ s) : Keeps s₀ (s.flipPub a) :=
  .wr (.undefineBank (.defineBank h))

theorem Keeps.commitMarks {d : Desc} {c : Cmd} (h : Keeps s₀ s) : Keeps s₀ (s.commitMarks d c) :=
  .foldl (fun _ _ h' => .ite (.set h') h') h

theorem Keeps.advanceRptr {k : Nat} (h : Keeps s₀ s) : Keeps s₀ (s.advanceRptr k) :=
  .set h

theorem Keeps.compatStop {k : Nat} (h : Keeps s₀ s) : Keeps s₀ (s.compatStop k) := by
  unfold State.compatStop
  split
  · exact .ite (.setJob h) h
  · exact h

theorem Keeps.commitCmd {k cycles : Nat} {j : Job} {c : Cmd} (h : Keeps s₀ s) : Keeps s₀ (s.commitCmd k j c cycles) :=
  .compatStop (.setJob (.advanceRptr (.refreshRunning (.delCmd (.ite
         (.writeRecord (.wrapInc (.commitMarks (.foldl (fun _ _ h' => .flipPub h') h))))
         (.wrapInc (.commitMarks (.foldl (fun _ _ h' => .flipPub h') h))))))))

theorem Keeps.commitTraining {k : Nat} {c : Cmd} (h : Keeps s₀ s) : Keeps s₀ (s.commitTraining k c) := by
  unfold State.commitTraining
  split
  · exact .fbInc (.update (.wr h))
  · exact h

theorem Keeps.commitJob {k cycles : Nat} {j : Job} {c : Cmd} (h : Keeps s₀ s) : Keeps s₀ (s.commitJob k j c cycles) := by
  unfold State.commitJob
  extract_lets _ _ s₁ s₂ s₃ s₄
  have h₂ : Keeps s₀ s₂ := .foldl (fun _ _ h' => .closeStep h') (.foldl (fun _ _ h' => .flipPub h') h)
  have h₃ : Keeps s₀ s₃ := .wrapInc (.commitTraining h₂)
  have h₄ : Keeps s₀ s₄ := .ite (.writeRecord h₃) h₃
  exact .sessionSettle (.notice (.delJob (.set (.advanceRptr (.refreshRunning (.delCmd (.writeRecord h₄)))))))

theorem Keeps.reportReady {k g : Nat} {j : Job} {c : Cmd} {grp : Coll} (h : Keeps s₀ s) :
    Keeps s₀ (s.reportReady k j c g grp) :=
  .ite (.setJob (.setCmd h)) (.emit (.setCmd h))

theorem Keeps.leadGo {k g cycles : Nat} (h : Keeps s₀ s) : Keeps s₀ (s.leadGo k g cycles) := by
  unfold State.leadGo
  split
  · exact .ite h (.admitJobs (.commitJob (.update (.tell h))))
  · exact h

theorem Keeps.commitNow {k cycles : Nat} {j : Job} {c : Cmd} (h : Keeps s₀ s) : Keeps s₀ (s.commitNow k j c cycles) := by
  unfold State.commitNow
  refine .ite ?_ (.commitCmd h)
  split
  · exact .leadGo (.reportReady h)
  · exact .admitJobs (.commitJob h)

theorem Keeps.commitPoint {k cycles : Nat} (h : Keeps s₀ s) : Keeps s₀ (s.commitPoint k cycles) := by
  unfold State.commitPoint
  split
  · refine .ite h ?_
    split
    next e => exact .commitNow (.ofSnd e (.reachSpans h))
    next e =>
      have h' := Keeps.ofSnd e (.reachSpans h)
      exact .readmit (.killJob (.ite h' (.clusterFault h')))
  · exact h

theorem Keeps.dispatched {k op : Nat} {active : Bool} (h : Keeps s₀ s) : Keeps s₀ (s.dispatched k op active) :=
  .readmit (.dispatch h)

theorem Ends.gemm {eng : Engine} {queue : Fin 256} (h : Keeps s₀ s) : Ends s₀ (execGemm eng queue s) :=
  .done (.dispatched h)

theorem Ends.conv {eng : Engine} {queue : Fin 256} (h : Keeps s₀ s) : Ends s₀ (execConv eng queue s) :=
  .done (.dispatched h)

theorem Ends.dwconv {eng : Engine} {queue : Fin 256} (h : Keeps s₀ s) : Ends s₀ (execDwconv eng queue s) :=
  .done (.dispatched h)

theorem Ends.pool {eng : Engine} {queue : Fin 256} (h : Keeps s₀ s) : Ends s₀ (execPool eng queue s) :=
  .done (.dispatched h)

theorem Ends.eltwise {eng : Engine} {queue : Fin 256} (h : Keeps s₀ s) : Ends s₀ (execEltwise eng queue s) :=
  .done (.dispatched h)

theorem Ends.reduce {eng : Engine} {queue : Fin 256} (h : Keeps s₀ s) : Ends s₀ (execReduce eng queue s) :=
  .done (.dispatched h)

theorem Ends.softmax {eng : Engine} {queue : Fin 256} (h : Keeps s₀ s) : Ends s₀ (execSoftmax eng queue s) :=
  .done (.dispatched h)

theorem Ends.norm {eng : Engine} {queue : Fin 256} (h : Keeps s₀ s) : Ends s₀ (execNorm eng queue s) :=
  .done (.dispatched h)

theorem Ends.gather {eng : Engine} {queue : Fin 256} (h : Keeps s₀ s) : Ends s₀ (execGather eng queue s) :=
  .done (.dispatched h)

theorem Ends.scatter {eng : Engine} {queue : Fin 256} (h : Keeps s₀ s) : Ends s₀ (execScatter eng queue s) :=
  .done (.dispatched h)

theorem Ends.pagedAttn {queue : Fin 256} (h : Keeps s₀ s) : Ends s₀ (execPagedAttn queue s) :=
  .done (.dispatched h)

theorem Ends.fold {queue : Fin 256} (h : Keeps s₀ s) : Ends s₀ (execFold queue s) :=
  .done (.dispatched h)

theorem Ends.unfold {queue : Fin 256} (h : Keeps s₀ s) : Ends s₀ (execUnfold queue s) :=
  .done (.dispatched h)

theorem Ends.tdma {eng : Engine} {queue : Fin 256} (h : Keeps s₀ s) : Ends s₀ (execTdma eng queue s) :=
  .done (.dispatched h)

theorem Ends.collective {queue : Fin 256} {active : Bool} (h : Keeps s₀ s) : Ends s₀ (execCollective queue active s) :=
  .done (.dispatched h)

theorem Ends.fence {eng : Engine} {queue : Fin 256} (h : Keeps s₀ s) : Ends s₀ (execFence eng queue s) :=
  .done (.dispatched h)

theorem Ends.commit {eng : Engine} {queue : Fin 256} (h : Keeps s₀ s) : Ends s₀ (execCommit eng queue s) :=
  .done (.dispatched h)

theorem Ends.fenceRelease {eng : Engine} {queue : Fin 256} (h : Keeps s₀ s) :
    Ends s₀ (execFenceRelease eng queue s) := by
  unfold execFenceRelease
  dsimp only
  split
  · exact .ite (.done (.setCmd h)) (.done h)
  · exact .done h

theorem Ends.commandCommit {eng : Engine} {queue : Fin 256} {cycles : BitVec 32} (h : Keeps s₀ s) :
    Ends s₀ (execCommandCommit eng queue cycles s) :=
  .done (.commitPoint h)

/-! ## Faults, ECC and clears -/

theorem Keeps.eccCorrected {c : Nat} (h : Keeps s₀ s) : Keeps s₀ (s.eccCorrected c) :=
  .ite (.degrade (.update (.inc h))) (.update (.inc h))

theorem Keeps.eccLogged {tile word : Nat} {buffer : Bool} (h : Keeps s₀ s) : Keeps s₀ (s.eccLogged tile buffer word) :=
  .set (.set (.setBit (.set (.inc h))))

theorem Keeps.kvLineError {c word : Nat} (h : Keeps s₀ s) : Keeps s₀ (s.kvLineError c word) :=
  .ite (.update (.freeNat h)) h

theorem Keeps.reportLower {k code tile : Nat} {m : KillMark} (h : Keeps s₀ s) : Keeps s₀ (s.reportLower k m code tile) := by
  unfold State.reportLower
  split
  · exact .ite (.update (.wr (.wr h))) h
  · exact h

theorem Keeps.faultKill {k code tile cycles : Nat} (h : Keeps s₀ s) : Keeps s₀ (s.faultKill k code tile cycles) := by
  unfold State.faultKill
  split
  · exact .ite (.readmit (.killJob h)) (.reportLower h)
  · exact .readmit (.killJob h)

theorem Keeps.tileArith {tile : Nat} (h : Keeps s₀ s) : Keeps s₀ (s.tileArith tile) :=
  .ite (.degrade (.fbInc (.set (.update (.fbInc (.clusterFault h)))))) (.update (.fbInc (.clusterFault h)))

theorem Ends.tileArithFault {queue : Fin 256} {tile : Fin 128} {cycles : BitVec 32} (h : Keeps s₀ s) :
    Ends s₀ (execTileArithFault queue tile cycles s) :=
  .ite (.done (.faultKill (.tileArith h))) (.done h)

theorem Ends.eccUncorrectable {queue : Fin 256} {tile : Fin 128} {buffer : Bool} {word : BitVec 20} {found : EccEvent}
    {cycles : BitVec 32} (h : Keeps s₀ s) : Ends s₀ (execEccUncorrectable queue tile buffer word found cycles s) := by
  unfold execEccUncorrectable
  refine .ite (.done h) ?_
  split
  · exact .done h
  · exact .done (.eccCorrected h)
  · exact .done (.faultKill (.ite (.kvLineError (.fbInc (.clusterFault (.eccLogged h))))
        (.fbInc (.clusterFault (.eccLogged h)))))

theorem Ends.plumbEccUncorrectable {queue : Fin 8} {cycles : BitVec 32} (h : Keeps s₀ s) :
    Ends s₀ (execPlumbEccUncorrectable queue cycles s) :=
  .ite (.done (.faultKill (.fbInc (.inc h)))) (.done h)

theorem Ends.cmdOverrun {eng : Engine} {queue : Fin 256} {cycles : BitVec 32} (h : Keeps s₀ s) :
    Ends s₀ (execCmdOverrun eng queue cycles s) := by
  unfold execCmdOverrun
  dsimp only
  split
  · exact .ite (.done h) (.done (.readmit (.killJob (.ite h (.clusterFault h)))))
  · exact .done h

theorem Keeps.inlineEcc {a : Nat} (h : Keeps s₀ s) : Keeps s₀ (s.inlineEcc a) :=
  .ite (.set h) (.set (.set (.set (.set h))))

theorem Ends.dataBusError {eng : Engine} {queue : Fin 256} {cause : BusCause} {addr : BitVec 48} {tile : Fin 128}
    {cycles : BitVec 32} (h : Keeps s₀ s) : Ends s₀ (execDataBusError eng queue cause addr tile cycles s) := by
  unfold execDataBusError
  extract_lets _ s₁ s₂
  have h₁ : Keeps s₀ s₁ := by
    unfold s₁
    split
    · split
      · exact .groupRefuse h
      · exact h
    · exact .fbInc (.inlineEcc h)
    · exact h
  have h₂ : Keeps s₀ s₂ := .ite h₁ (.clusterFault h₁)
  exact .ite (.done h) (.done (.faultKill h₂))

theorem Ends.scrubPass {tile : Fin 128} {buffer lastWord : Bool} {word : BitVec 20} {found : EccEvent} (h : Keeps s₀ s) :
    Ends s₀ (execScrubPass tile buffer word found lastWord s) := by
  unfold execScrubPass
  refine .ite (.done h) (.done ?_)
  refine .ite ?_ ?_
  · refine .inc ?_
    split
    · exact h
    · exact .eccCorrected h
    · exact .degrade (.fbInc (.eccLogged h))
  · split
    · exact h
    · exact .eccCorrected h
    · exact .degrade (.fbInc (.eccLogged h))

theorem Keeps.zeroStores {c : Nat} (h : Keeps s₀ s) : Keeps s₀ (s.zeroStores c) :=
  .clearMem (.clearMem h)

theorem Keeps.clearMarks {c : Nat} (h : Keeps s₀ s) : Keeps s₀ (s.clearMarks c) :=
  .update h

theorem Keeps.clearLines {c : Nat} (h : Keeps s₀ s) : Keeps s₀ (s.clearLines c) :=
  .update h

theorem Keeps.loseStores {c : Nat} (h : Keeps s₀ s) : Keeps s₀ (s.loseStores c) :=
  .undefine (.undefine (.zeroStores h))

theorem Keeps.memoryInit {c : Nat} (h : Keeps s₀ s) : Keeps s₀ (s.memoryInit c) :=
  .admitJobs (.set (.zeroStores h))

theorem Ends.partitionClearDone {cluster : Fin 16} (h : Keeps s₀ s) : Ends s₀ (execPartitionClearDone cluster s) :=
  .ite (.done (.admitJobs (.fbInc (.set (.clearLines (.clearMarks (.zeroStores h))))))) (.done h)

theorem Keeps.setStripe {k c : Nat} {cmd : Cmd} {st : Stripe} (h : Keeps s₀ s) : Keeps s₀ (s.setStripe k c cmd st) :=
  .setCmd h

theorem Keeps.armCopy {k c : Nat} {d : Desc} {st : Stripe} (h : Keeps s₀ s) : Keeps s₀ (s.armCopy k c d st) :=
  .set (.set (.set (.set (.set (.set (.set (.set (.set (.set (.set h))))))))))

theorem Keeps.computeStripe {k c : Nat} {cmd : Cmd} {st : Stripe} {j : Job} (h : Keeps s₀ s) :
    Keeps s₀ (s.computeStripe k c cmd st j) := by
  unfold State.computeStripe
  dsimp only
  split
  · exact .setStripe (.writeRows h)
  · exact h

theorem Ends.rowMarkArm {queue : Fin 256} {cluster : Fin 16} (h : Keeps s₀ s) :
    Ends s₀ (execRowMarkArm queue cluster s) := by
  unfold execRowMarkArm
  dsimp only
  split
  · exact .ite (.done h) (.done (.ite (.setStripe (.armCopy h)) (.computeStripe (.armCopy h))))
  · exact .done h

theorem Ends.rowMarkAdvance {queue : Fin 256} {cluster : Fin 16} (h : Keeps s₀ s) :
    Ends s₀ (execRowMarkAdvance queue cluster s) := by
  unfold execRowMarkAdvance
  dsimp only
  split
  · exact .ite (.done h) (.done (.setStripe (.ite (.set h) (.set h))))
  · exact .done h

theorem Keeps.computeRows {k c : Nat} {cmd : Cmd} {st : Stripe} {j : Job} {ys need : List Nat} (h : Keeps s₀ s) :
    Keeps s₀ (s.computeRows k c cmd st j ys need) := by
  unfold State.computeRows
  dsimp only
  split
  · split
    next e => exact .setStripe (.writeRows (.ofSnd e (.reachSpans h)))
    next e => exact .accessKill (.ofSnd e (.reachSpans h))
  · exact h

theorem Ends.consumerRowStart {queue : Fin 256} {cluster : Fin 16} (h : Keeps s₀ s) :
    Ends s₀ (execConsumerRowStart queue cluster s) := by
  unfold execConsumerRowStart
  dsimp only
  split
  · split
    · exact .done h
    · exact .ite (.done (.computeRows h)) (.ite (.done h) (.done (.setStripe h)))
  · exact .done h

theorem Keeps.defuse {k : Nat} {j : Job} (h : Keeps s₀ s) : Keeps s₀ (s.defuse k j) :=
  .foldl (fun _ _ h' => by
    split
    · exact .setCmd h'
    · exact h') (.foldl (fun _ _ h' => by
    split
    · exact .setJob h'
    · exact h') (.foldl (fun _ _ h' => .foldl (fun _ _ h'' => .ite (.set h'') h'') h') (.fbInc h)))

theorem Ends.defusion {queue : Fin 256} {cluster : Fin 16} (h : Keeps s₀ s) :
    Ends s₀ (execDefusion queue cluster s) := by
  unfold execDefusion
  dsimp only
  split
  · split
    · exact .done h
    · refine .ite (.done h) ?_
      split
      · exact .done (.computeRows (.advanceTo h))
      · exact .done (.defuse (.advanceTo h))
  · exact .done h

theorem Keeps.writeKvCache {c banks : Nat} (h : Keeps s₀ s) : Keeps s₀ (s.writeKvCache c banks) :=
  .ite h (.ite (.set h) (.ite (.set h) (.clearLines (.set (.set h)))))

theorem Ends.kvCacheWrite {who : Agent} {cluster : Fin 16} {banks : BitVec 6} (h : Keeps s₀ s) :
    Ends s₀ (execKvCacheWrite who cluster banks s) :=
  .done (.gateWrite (fun _ h' => .writeKvCache h') h)

theorem Ends.trainingSessionLimit (h : Keeps s₀ s) : Ends s₀ (execTrainingSessionLimit s) :=
  .ite (.done (.sessionClose (.update (.advanceTo h)))) (.done h)

theorem Keeps.copyRanges {save : Bool} {a : Nat} {rs : List (Nat × Nat × Nat)} (h : Keeps s₀ s) :
    Keeps s₀ (s.copyRanges save a rs) := by
  induction rs generalizing s a with
  | nil => exact h
  | cons r rs ih => exact ih (.ite (.wr h) (.wr h))

theorem Ends.liveRangeCopyDone {queue : Fin 256} (h : Keeps s₀ s) : Ends s₀ (execLiveRangeCopyDone queue s) := by
  unfold execLiveRangeCopyDone
  dsimp only
  split
  · exact .done h
  · refine .ite (.done h) ?_
    split
    next e =>
      have h' := Keeps.ofSnd e (.reachSpans h)
      exact .ite (.done (.fbInc (.set (.setJob (.copyRanges h'))))) (.done (.set (.setJob (.copyRanges h'))))
    next e => exact .done (.readmit (.killJob (.ofSnd e (.reachSpans h))))

/-! ## Secure and Normal worlds -/

theorem Ends.mwattrWrite {core : Fin 18} {mode : Mode} {value : BitVec 64} (h : Keeps s₀ s) :
    Ends s₀ (execMwattrWrite core mode value s) :=
  .ite (.done (.update h)) (.done (.emit h))

theorem Keeps.cadStatus {k c : Nat} (h : Keeps s₀ s) : Keeps s₀ (s.cadStatus k c) :=
  .set h

theorem Keeps.cadAck {k n : Nat} (h : Keeps s₀ s) : Keeps s₀ (s.cadAck k n) :=
  .ite (.cadStatus h) (.ite (.cadStatus h) (.cadStatus (.relog (.set (.set h)))))

theorem Keeps.setRegionPerms {k r p : Nat} (h : Keeps s₀ s) : Keeps s₀ (s.setRegionPerms k r p) :=
  .set (.set (.set (.set h)))

theorem Keeps.regionCtrl {k r p : Nat} {en : Bool} (h : Keeps s₀ s) : Keeps s₀ (s.regionCtrl k r en p) :=
  .ite h
    (.ite (.cadStatus h)
       (.ite (.cadStatus (.setBit (.noteRegions h)))
          (.ite (.cadStatus h) (.cadStatus (.setBit (.setRegionPerms (.noteRegions h)))))))

theorem Keeps.regionField {k r v : Nat} {f : Field} (h : Keeps s₀ s) : Keeps s₀ (s.regionField k r f v) :=
  .ite h (.ite (.cadStatus h) (.cadStatus (.set h)))

theorem Keeps.cadLock {k : Nat} (h : Keeps s₀ s) : Keeps s₀ (s.cadLock k) :=
  .ite (.cadStatus (.set (.ite h (.update h)))) h

theorem Ends.logAck {who : Agent} {checker : Fin 65} {count : BitVec 4} (h : Keeps s₀ s) :
    Ends s₀ (execLogAck who checker count s) :=
  .done (.gateWrite (fun _ h' => .ite (.cadAck h') h') h)

theorem Ends.regionEnable {who : Agent} {checker : Fin 65} {region : Fin 32} {perms : BitVec 4} (h : Keeps s₀ s) :
    Ends s₀ (execRegionEnable who checker region perms s) :=
  .done (.gateWrite (fun _ h' => .regionCtrl h') h)

theorem Ends.regionDisable {who : Agent} {checker : Fin 65} {region : Fin 32} {perms : BitVec 4} (h : Keeps s₀ s) :
    Ends s₀ (execRegionDisable who checker region perms s) :=
  .done (.gateWrite (fun _ h' => .regionCtrl h') h)

theorem Ends.cadastreLock {who : Agent} {checker : Fin 65} (h : Keeps s₀ s) : Ends s₀ (execCadastreLock who checker s) :=
  .done (.gateWrite (fun _ h' => .cadLock h') h)

theorem Keeps.setUses {k u : Nat} (h : Keeps s₀ s) : Keeps s₀ (s.setUses k u) :=
  .set (.set (.set (.set (.set h))))

theorem Keeps.setKey {k : Nat} {c : Option KeySlot} (h : Keeps s₀ s) : Keeps s₀ (s.setKey k c) :=
  .update h

theorem Keeps.keyLoad {k type uses : Nat} (h : Keeps s₀ s) : Keeps s₀ (s.keyLoad k type uses) :=
  .set (.setUses (.set (.setKey h)))

theorem Keeps.keyZero {k : Nat} (h : Keeps s₀ s) : Keeps s₀ (s.keyZero k) :=
  .set (.foldl (fun _ _ h' => .set h') (.setKey h))

theorem Keeps.keyCtrl {k v : Nat} (h : Keeps s₀ s) : Keeps s₀ (s.keyCtrl k v) :=
  .ite h
    (.ite (.report h)
       (.ite
          (.set (.ite (.keyZero (.ite (.keyLoad (.setUses (.set h))) (.setUses (.set h))))
              (.ite (.keyLoad (.setUses (.set h))) (.setUses (.set h)))))
          (.ite (.keyZero (.ite (.keyLoad (.setUses (.set h))) (.setUses (.set h))))
             (.ite (.keyLoad (.setUses (.set h))) (.setUses (.set h))))))

theorem Ends.keySlotLoad {who : Agent} {slot : Fin 32} {type : BitVec 4} {uses : BitVec 5} (h : Keeps s₀ s) :
    Ends s₀ (execKeySlotLoad who slot type uses s) :=
  .done (.gateWrite (fun _ h' => .keyCtrl h') h)

theorem Ends.keySlotZero {who : Agent} {slot : Fin 32} (h : Keeps s₀ s) : Ends s₀ (execKeySlotZero who slot s) :=
  .done (.gateWrite (fun _ h' => .keyCtrl h') h)

theorem Ends.keySlotLock {who : Agent} {slot : Fin 32} (h : Keeps s₀ s) : Ends s₀ (execKeySlotLock who slot s) :=
  .done (.gateWrite (fun _ h' => .keyCtrl h') h)

theorem Keeps.setMeas {d : List Nat} (h : Keeps s₀ s) : Keeps s₀ (s.setMeas d) :=
  .foldl (fun _ _ h' => .set h') h

theorem Keeps.loadImage {header body : List Nat} (h : Keeps s₀ s) : Keeps s₀ (s.loadImage header body) :=
  .update (.wr (.wr h))

theorem Keeps.endCalls (h : Keeps s₀ s) : Keeps s₀ s.endCalls :=
  .update (.foldl (fun _ _ h' => .emit (.freeNat (.freeNat h'))) h)

theorem Keeps.secureFailed {code : Nat} (h : Keeps s₀ s) : Keeps s₀ (s.secureFailed code) :=
  .update (.fbInc (.set (.set h)))

theorem Keeps.secureRestart (h : Keeps s₀ s) : Keeps s₀ s.secureRestart :=
  .ite (.update (.raiseEdge (.fbInc (.inc (.set (.update (.endCalls (.emptyStack (.emptyStack h)))))))))
    (.secureFailed (.freeNat (.update (.endCalls (.emptyStack (.emptyStack h))))))

theorem Keeps.restartRequest {who : Agent} (h : Keeps s₀ s) : Keeps s₀ (s.restartRequest who) :=
  .ite (.secureRestart h) h

theorem Ends.secureRestart {who : Agent} (h : Keeps s₀ s) : Ends s₀ (execSecureRestart who s) :=
  .done (.gateWrite (fun _ h' => .restartRequest h') h)

theorem Ends.restartMeasurementDone (h : Keeps s₀ s) : Ends s₀ (execRestartMeasurementDone s) :=
  .ite (.done h)
    (.ite (.ite (.done (.update h)) (.ite (.done (.update (.loadImage h))) (.done (.secureFailed h)))) (.done h))

theorem Keeps.readyRequest {who : Agent} (h : Keeps s₀ s) : Keeps s₀ (s.readyRequest who) :=
  .ite (.update (.set h)) h

theorem Ends.secureReady {who : Agent} (h : Keeps s₀ s) : Ends s₀ (execSecureReady who s) :=
  .done (.gateWrite (fun _ h' => .readyRequest h') h)

theorem Keeps.swdKick {who : Agent} {key : Nat} (h : Keeps s₀ s) : Keeps s₀ (s.swdKick who key) :=
  .ite (.update h) h

theorem Ends.swdKick {who : Agent} {key : BitVec 16} (h : Keeps s₀ s) : Ends s₀ (execSwdKick who key s) :=
  .done (.gateWrite (fun _ h' => .swdKick h') h)

theorem Ends.secureWatchdogExpiry (h : Keeps s₀ s) : Ends s₀ (execSecureWatchdogExpiry s) :=
  .ite (.done (.update (.secureRestart (.advanceTo h)))) (.done h)

theorem Ends.secureWatchdogTestExpiry (h : Keeps s₀ s) : Ends s₀ (execSecureWatchdogTestExpiry s) := by
  unfold execSecureWatchdogTestExpiry
  split
  · exact .done (.update (.set (.advanceTo h)))
  · exact .done h

theorem Keeps.writeSwdCtrl {who : Agent} {v : Nat} (h : Keeps s₀ s) : Keeps s₀ (s.writeSwdCtrl who v) := by
  unfold State.writeSwdCtrl
  extract_lets _ s₂ s₃ _ _ _ s₄
  have h₂ : Keeps s₀ s₂ := .ite (.report h) (.set (.report h))
  have h₃ : Keeps s₀ s₃ := .ite (.set h₂) h₂
  have h₄ : Keeps s₀ s₄ := .ite (.update (.setBit h₃)) h₃
  exact .ite (.update (.set h₄)) h₄

theorem Keeps.noteLeases (h : Keeps s₀ s) : Keeps s₀ s.noteLeases :=
  .ite h (.update h)

theorem Ends.leaseWrite {who : Agent} {clk : Bool} {value : BitVec 64} (h : Keeps s₀ s) :
    Ends s₀ (execLeaseWrite who clk value s) :=
  .ite (.done (.gateWrite (fun _ h' => .set (.noteLeases h')) h))
    (.done (.gateWrite (fun _ h' => .set (.noteLeases h')) h))

/-! ## Queues, channels, virtual engines and packages -/

theorem Keeps.queueStart {k : Nat} (h : Keeps s₀ s) : Keeps s₀ (s.queueStart k) :=
  .set (.set (.set (.set (.set (.set (.set h))))))

theorem Ends.queueEnable {who : Agent} {eng : Engine} {queue : Fin 256} {value : BitVec 32} (h : Keeps s₀ s) :
    Ends s₀ (execQueueEnable who eng queue value s) :=
  .done (.gateWrite (fun _ h' => .enWrite (fun _ h'' => .queueStart h'') (fun _ h'' => .set h'') h') h)

theorem Ends.queueDisable {who : Agent} {eng : Engine} {queue : Fin 256} {value : BitVec 32} (h : Keeps s₀ s) :
    Ends s₀ (execQueueDisable who eng queue value s) :=
  .done (.gateWrite (fun _ h' => .enWrite (fun _ h'' => .queueStart h'') (fun _ h'' => .set h'') h') h)

theorem Keeps.ddrStatus {c : Nat} (h : Keeps s₀ s) : Keeps s₀ (s.ddrStatus c) :=
  .set h

theorem Keeps.writeGroup {g owner reserve : Nat} (h : Keeps s₀ s) : Keeps s₀ (s.writeGroup g owner reserve) :=
  .ite (.ddrStatus h) (.ite (.ddrStatus h) (.ite (.ddrStatus h) (.ddrStatus (.set (.set h)))))

theorem Keeps.writeShare {g sharers : Nat} (h : Keeps s₀ s) : Keeps s₀ (s.writeShare g sharers) :=
  .ite (.ddrStatus h) (.ite (.ddrStatus h) (.ite (.ddrStatus h) (.ddrStatus (.set h))))

theorem Keeps.writeWays {r v : Nat} (h : Keeps s₀ s) : Keeps s₀ (s.writeWays r v) :=
  .ite (.ddrStatus h) (.ite (.ddrStatus h) (.ddrStatus (.update (.foldl (fun _ _ h' => .set h') h))))

theorem Ends.partitionLock {who : Agent} (h : Keeps s₀ s) : Ends s₀ (execPartitionLock who s) :=
  .done (.gateWrite (fun _ h' => .set h') h)

theorem Ends.channelGroupOwnerWrite {who : Agent} {group : Fin 12} {owner : BitVec 6} {reserve : BitVec 11}
    (h : Keeps s₀ s) : Ends s₀ (execChannelGroupOwnerWrite who group owner reserve s) :=
  .done (.gateWrite (fun _ h' => .writeGroup h') h)

theorem Ends.channelGroupShareWrite {who : Agent} {group : Fin 12} {sharers : BitVec 64} (h : Keeps s₀ s) :
    Ends s₀ (execChannelGroupShareWrite who group sharers s) :=
  .done (.gateWrite (fun _ h' => .writeShare h') h)

theorem Ends.wayMapWrite {who : Agent} {register : Fin 4} {value : BitVec 32} (h : Keeps s₀ s) :
    Ends s₀ (execWayMapWrite who register value s) :=
  .done (.gateWrite (fun _ h' => .writeWays h') h)

theorem Ends.wayCleanDone {way : Fin 16} (h : Keeps s₀ s) : Ends s₀ (execWayCleanDone way s) :=
  .ite (.done (.set (.update h))) (.done h)

theorem Keeps.vteCode {v c : Nat} (h : Keeps s₀ s) : Keeps s₀ (s.vteCode v c) :=
  .set h

theorem Keeps.vteRelease {v : Nat} (h : Keeps s₀ s) : Keeps s₀ (s.vteRelease v) :=
  .foldl (fun _ _ h' => .set (.set h')) (.update (.foldl (fun _ _ h' => .setRow h') h))

theorem Keeps.freezeJob {k : Nat} (h : Keeps s₀ s) : Keeps s₀ (s.freezeJob k) := by
  unfold State.freezeJob
  split
  · exact h
  · exact .set (.delJob (.ite (.set (.set (.rollbackJob (.preemptCmd (.tellKill h)))))
        (.rollbackJob (.preemptCmd (.tellKill h)))))

theorem Keeps.freeze {v : Nat} (h : Keeps s₀ s) : Keeps s₀ (s.freeze v) := by
  unfold State.freeze
  split
  · exact .ite (.foldl (fun _ _ h' => .freezeJob h') (.vteCode (.set h))) (.vteCode (.set h))
  · exact .vteCode h
  · exact .vteCode h
  · exact .vteCode h

theorem Keeps.freezeComplete {v : Nat} (h : Keeps s₀ s) : Keeps s₀ (s.freezeComplete v) := by
  unfold State.freezeComplete
  refine .ite h (.ite (.vteCode (.set (.foldl (fun _ _ h' => .rollback h') h))) ?_)
  split
  · exact .vteCode (.set (.foldl (fun _ _ h' => .rollback h') h))
  · dsimp only
    split
    next e => exact .fbInc (.vteCode (.set (.set (.wr (.ofSnd e (.reach (.foldl (fun _ _ h' => .rollback h') h)))))))
    next e => exact .vteCode (.set (.ofSnd e (.reach (.foldl (fun _ _ h' => .rollback h') h))))

theorem Keeps.restoreRow {a i e : Nat} (h : Keeps s₀ s) : Keeps s₀ (s.restoreRow a i e).1 := by
  unfold State.restoreRow
  dsimp only
  split
  · exact h
  · exact .setRow (.setPool h)

theorem Keeps.restoreQueue {a i : Nat} (h : Keeps s₀ s) : Keeps s₀ (s.restoreQueue a i) := by
  unfold State.restoreQueue
  extract_lets _ _ _ _ s₁ s₂ s₃ s₄ s₅ s₆ s₇
  have h₂ : Keeps s₀ s₂ := .set (.set (.set (.set (.set (.set (.set (.set h)))))))
  have h₄ : Keeps s₀ s₄ := .set (.set (.set (.set (.set (.set (.set (.set h₂)))))))
  have h₇ : Keeps s₀ s₇ := .set (.set (.set (.set (.set (.set (.set (.set (.set h₄))))))))
  exact .ite h₇ (.update h₇)

theorem Keeps.restoreImage {v a : Nat} (h : Keeps s₀ s) : Keeps s₀ (s.restoreImage v a) :=
  .fbInc (.set (.set (.set (.set (.set (.foldl (fun _ _ h' => .restoreQueue h')
          (.foldlFst (fun _ _ h' => .restoreRow h') (.foldl (fun _ _ h' => .setPool h') h))))))))

theorem Keeps.restore {v : Nat} (h : Keeps s₀ s) : Keeps s₀ (s.restore v) := by
  unfold State.restore
  split
  · exact .admitJobs (.vteCode (.set h))
  · refine .ite (.vteCode h) ?_
    split
    next e =>
      have h' := Keeps.ofSnd e (.reach h)
      exact .ite (.admitJobs (.vteCode (.restoreImage h'))) (.vteCode h')
    next e => exact .vteCode (.ofSnd e (.reach h))
  · exact .vteCode h
  · exact .vteCode h

theorem Keeps.vteCtrl {v value : Nat} {newEn freeze restore : Bool} (h : Keeps s₀ s) :
    Keeps s₀ (s.vteCtrl v value newEn freeze restore) :=
  .ite (.enWrite (fun _ h' => .set h') (fun _ h' => .set (.ite (.vteRelease h') h')) h)
    (.ite (.freeze (.enWrite (fun _ h' => .set h') (fun _ h' => .set (.ite (.vteRelease h') h')) h))
       (.ite (.restore (.enWrite (fun _ h' => .set h') (fun _ h' => .set (.ite (.vteRelease h') h')) h))
          (.enWrite (fun _ h' => .set h') (fun _ h' => .set (.ite (.vteRelease h') h')) h)))

theorem Keeps.vteShare {v value : Nat} (h : Keeps s₀ s) : Keeps s₀ (s.vteShare v value) :=
  .ite (.vteCode h) (.vteCode (.set (.set h)))

theorem Ends.vteEnable {who : Agent} {vte : Fin 32} {value : BitVec 32} (h : Keeps s₀ s) :
    Ends s₀ (execVteEnable who vte value s) :=
  .done (.gateWrite (fun _ h' => .vteCtrl h') h)

theorem Ends.vteDisable {who : Agent} {vte : Fin 32} {value : BitVec 32} (h : Keeps s₀ s) :
    Ends s₀ (execVteDisable who vte value s) :=
  .done (.gateWrite (fun _ h' => .vteCtrl h') h)

theorem Ends.vteFreeze {who : Agent} {vte : Fin 32} {immediate : Bool} (h : Keeps s₀ s) :
    Ends s₀ (execVteFreeze who vte immediate s) :=
  .done (.gateWrite (fun _ h' => .vteCtrl h') h)

theorem Ends.vteFreezeComplete {vte : Fin 32} (h : Keeps s₀ s) : Ends s₀ (execVteFreezeComplete vte s) :=
  .done (.freezeComplete h)

theorem Ends.vteRestore {who : Agent} {vte : Fin 32} {immediate : Bool} (h : Keeps s₀ s) :
    Ends s₀ (execVteRestore who vte immediate s) :=
  .done (.gateWrite (fun _ h' => .vteCtrl h') h)

theorem Keeps.setPeer {p : Nat} {x : Peer} (h : Keeps s₀ s) : Keeps s₀ (s.setPeer p x) :=
  .update h

theorem Ends.heartbeatSend (h : Keeps s₀ s) : Ends s₀ (execHeartbeatSend s) :=
  .done (.foldl (fun _ _ h' => .emit h') h)

theorem Ends.heartbeatReceived {peer : Fin 4} (h : Keeps s₀ s) : Ends s₀ (execHeartbeatReceived peer s) :=
  .ite (.done h) (.ite (.done (.setPeer h)) (.done (.ite (.setPeer h) (.undegrade (.setPeer h)))))

theorem Keeps.losePeer {p : Nat} (h : Keeps s₀ s) : Keeps s₀ (s.losePeer p) :=
  .ite h (.degrade (.foldl (fun _ _ h' => by
    split
    · exact .endRunning h'
    · exact h') (.fbInc (.setPeer h))))

theorem Ends.peerLost {peer : Fin 4} (h : Keeps s₀ s) : Ends s₀ (execPeerLost peer s) :=
  .ite (.done h) (.done (.readmit (.losePeer (.advanceTo h))))

theorem Ends.killAckTimeout {peer : Fin 4} (h : Keeps s₀ s) : Ends s₀ (execKillAckTimeout peer s) := by
  unfold execKillAckTimeout
  split
  · exact .done h
  · exact .done (.readmit (.losePeer (.update (.advanceTo h))))

theorem Ends.collReady {group : BitVec 8} {peer : Fin 4} {cycles : BitVec 32} (h : Keeps s₀ s) :
    Ends s₀ (execCollReady group peer cycles s) := by
  unfold execCollReady
  split
  · exact .ite (.done h) (.done (.leadGo (.setJob h)))
  · exact .done h

theorem Ends.collGo {group : BitVec 8} {cycles : BitVec 32} (h : Keeps s₀ s) : Ends s₀ (execCollGo group cycles s) := by
  unfold execCollGo
  dsimp only
  split
  · split
    · exact .ite (.done (.admitJobs (.emit (.commitJob h)))) (.done h)
    · exact .done h
  · exact .done h

theorem Ends.collKill {group : BitVec 8} {peer : Fin 4} {code : BitVec 16} (h : Keeps s₀ s) :
    Ends s₀ (execCollKill group peer code s) := by
  unfold execCollKill
  dsimp only
  split
  · exact .ite (.done (.setJob (.preemptCmd (.emit h)))) (.done (.readmit (.killAll (.activeCycles (.emit h)))))
  · exact .done h

theorem Ends.collRestart {group : BitVec 8} (h : Keeps s₀ s) : Ends s₀ (execCollRestart group s) := by
  unfold execCollRestart
  split
  · exact .done (.readmit (.foldl (fun _ _ h' => by
    split
    · split
      · exact .restartJob h'
      · exact .endRunning h'
    · exact h') h))
  · exact .done h

theorem Ends.collEnd {group : BitVec 8} {code : BitVec 16} {peer : Fin 4} (h : Keeps s₀ s) :
    Ends s₀ (execCollEnd group code peer s) := by
  unfold execCollEnd
  split
  · exact .done (.readmit (.foldl (fun _ _ h' => by
    split
    · exact .endRunning h'
    · exact h') (.endRunning h)))
  · exact .done h

theorem Ends.collCommitAck {group : BitVec 8} {peer : Fin 4} (h : Keeps s₀ s) :
    Ends s₀ (execCollCommitAck group peer s) := by
  unfold execCollCommitAck
  split
  · exact .done (.update h)
  · exact .done h

/-! ## The safety island: Closure -/

theorem Keeps.safStatus {c : Nat} (h : Keeps s₀ s) : Keeps s₀ (s.safStatus c) :=
  .set h

theorem Keeps.safOwn {k : State → State} {who : Agent} {a : Nat} (hk : ∀ s, Keeps s₀ s → Keeps s₀ (k s)) (h : Keeps s₀ s) :
    Keeps s₀ (s.safOwn who a k) :=
  .ite (hk _ h) (.safStatus (.cadLog h))

theorem Keeps.writeSafTable {who : Agent} {f : Field} {v : Nat} (h : Keeps s₀ s) : Keeps s₀ (s.writeSafTable who f v) :=
  .safOwn (fun _ h' => .ite (.safStatus h') (.safStatus (.set h'))) h

theorem Keeps.tryRelease (h : Keeps s₀ s) : Keeps s₀ s.tryRelease :=
  .ite (.statusMessage (.ite (.setSafState (.driveSafe h)) (.set (.setSafState (.driveSafe h))))) h

theorem Keeps.safRun (h : Keeps s₀ s) : Keeps s₀ s.safRun :=
  .ite (.safStatus h) (.ite (.tryRelease (.safStatus (.set h))) (.safStatus h))

theorem Keeps.ssReq (h : Keeps s₀ s) : Keeps s₀ s.ssReq :=
  .declareSafe (.safStatus (.set h))

theorem Keeps.safCtrl {run req : Bool} (h : Keeps s₀ s) : Keeps s₀ (s.safCtrl run req) :=
  .ite (.ssReq (.ite (.safRun h) h)) (.ite (.safRun h) h)

theorem Keeps.readResult {r a : Nat} {at' : Attr} (h : Keeps s₀ s) : Keeps s₀ (s.readResult r at' a).2 := by
  unfold State.readResult
  split
  next e => exact .ofSnd e (.reach h)
  next e => exact .ofSnd e (.reach h)

theorem Keeps.copyResult {r : Nat} {plumb : Bool} (h : Keeps s₀ s) : Keeps s₀ (s.copyResult r plumb).2 := by
  unfold State.copyResult
  split
  · exact h
  · exact .iteSnd h (.readResult h)

theorem Keeps.account {r : Nat} {v : Verd} (h : Keeps s₀ s) : Keeps s₀ (s.account r v) := by
  unfold State.account
  dsimp only
  split
  · exact .set (.set h)
  · exact .ite (.declareSafe (.set (.fbInc (.inc (.set h))))) (.set (.fbInc (.inc (.set h))))
  · exact .ite (.declareSafe (.set (.fbInc (.inc (.set h))))) (.set (.fbInc (.inc (.set h))))
  · exact .ite (.declareSafe (.set (.fbInc (.inc (.set h))))) (.set (.fbInc (.inc (.set h))))

theorem Keeps.disagreeLog {r frame bad : Nat} {m p : Result} (h : Keeps s₀ s) : Keeps s₀ (s.disagreeLog r frame m p bad) :=
  .set (.update (.foldl (fun _ _ h' => .set h') (.ite (.fbInc (.set h)) h)))

theorem Keeps.publish {r frame : Nat} {fresh : Option Held} (h : Keeps s₀ s) : Keeps s₀ (s.publish r frame fresh) := by
  unfold State.publish
  dsimp only
  refine .ite ?_ ?_
  · refine .tryRelease (.update (.setBit (.set (.producerInput (.emit ?_)))))
    split
    · exact .set (.update h)
    · exact h
  · refine .setBit (.set (.producerInput (.emit ?_)))
    split
    · exact .set (.update h)
    · exact h

theorem Keeps.decideRecord {r frame : Nat} {m p : Option Result} (h : Keeps s₀ s) :
    Keeps s₀ (s.decideRecord r frame m p) := by
  unfold State.decideRecord
  dsimp only
  refine .publish (.account ?_)
  split
  · exact .disagreeLog h
  · exact h

theorem Keeps.closure {p : Nat} (h : Keeps s₀ s) : Keeps s₀ (s.closure p) :=
  .ite h (.foldl (fun _ _ h' => .decideRecord h') (.foldlSnd (fun _ _ h' => .copyResult (.copyResult h')) (.update h)))

theorem Keeps.missedFrame {p frame : Nat} (h : Keeps s₀ s) : Keeps s₀ (s.missedFrame p frame) :=
  .ite h (.foldl (fun _ _ h' => .account h') (.update h))

theorem Keeps.benchDefer {p : Nat} (h : Keeps s₀ s) : Keeps s₀ (s.benchDefer p) :=
  .ite (.fbInc (.set (.setBench (.fbInc h)))) (.setBench (.fbInc h))

theorem Keeps.benchFail {p code : Nat} (h : Keeps s₀ s) : Keeps s₀ (s.benchFail p code) :=
  .ite (.declareSafe (.setBench (.fbInc (.set h)))) (.degrade (.setBench (.fbInc (.set h))))

theorem Keeps.benchPass {p : Nat} (h : Keeps s₀ s) : Keeps s₀ (s.benchPass p) :=
  .ite (.ite (.setBench (.fbInc (.set h))) (.undegrade (.setBench (.fbInc (.set h)))))
    (.undegrade (.ite (.setBench (.fbInc (.set h))) (.undegrade (.setBench (.fbInc (.set h))))))

theorem Keeps.benchFrame {p : Nat} (h : Keeps s₀ s) : Keeps s₀ (s.benchFrame p) :=
  .ite h (.setBench (.ite (.benchDefer h) h))

theorem Keeps.benchInject {p now : Nat} {w : OpenWindow} (h : Keeps s₀ s) : Keeps s₀ (s.benchInject p now w) := by
  unfold State.benchInject
  dsimp only
  split
  · exact h
  · exact .ite h (.ite (.benchDefer (.freeNat h)) (.ite (.benchFail (.freeNat h)) (.setBench (.freeNat h))))

theorem Keeps.benchResult {r k : Nat} (h : Keeps s₀ s) : Keeps s₀ (s.benchResult r k).2 :=
  .readResult h

theorem Keeps.benchAgrees {set r : Nat} (h : Keeps s₀ s) : Keeps s₀ (s.benchAgrees set r).2 :=
  .benchResult (.benchResult h)

theorem Keeps.benchAgree {p set : Nat} (h : Keeps s₀ s) : Keeps s₀ (s.benchAgree p set).2 :=
  .foldlSnd (fun _ _ h' => .benchAgrees h') h

theorem Keeps.benchCompare {p : Nat} (h : Keeps s₀ s) : Keeps s₀ (s.benchCompare p) := by
  unfold State.benchCompare
  refine .ite h ?_
  dsimp only
  refine .ite ?_ ?_
  · refine .benchPass ?_
    split
    · exact .benchAgree (.freeBool h)
    · exact .freeBool h
  · refine .benchFail ?_
    split
    · exact .benchAgree (.freeBool h)
    · exact .freeBool h

theorem Ends.safRun {who : Agent} (h : Keeps s₀ s) : Ends s₀ (execSafRun who s) :=
  .done (.gateWrite (fun _ h' => .safOwn (fun _ h'' => .safCtrl h'') h') h)

theorem Ends.ssReq {who : Agent} (h : Keeps s₀ s) : Ends s₀ (execSsReq who s) :=
  .done (.gateWrite (fun _ h' => .safOwn (fun _ h'' => .safCtrl h'') h') h)

theorem Ends.pairHeartbeat {pairA : Bool} (h : Keeps s₀ s) : Ends s₀ (execPairHeartbeat pairA s) :=
  .ite (.done h) (.done (.emit (.update (.advanceTo h))))

theorem Ends.pairHeartbeatLoss {pairA : Bool} (h : Keeps s₀ s) : Ends s₀ (execPairHeartbeatLoss pairA s) :=
  .ite (.done h) (.done (.declareSafe (.advanceTo h)))

theorem Ends.lockstepMismatch {pairA : Bool} (h : Keeps s₀ s) : Ends s₀ (execLockstepMismatch pairA s) :=
  .done (.declareSafe (.update h))

theorem Ends.latentTimeout {pipe : Fin 32} (h : Keeps s₀ s) : Ends s₀ (execLatentTimeout pipe s) := by
  unfold execLatentTimeout
  dsimp only
  split
  · exact .done h
  · exact .ite (.done h) (.done (.degrade (.fbInc (.set (.setBench (.advanceTo h))))))

theorem Ends.safetyStatusMessage (h : Keeps s₀ s) : Ends s₀ (execSafetyStatusMessage s) :=
  .done (.statusMessage (.advanceTo h))

theorem Ends.safeStateReadback {padHigh : Bool} (h : Keeps s₀ s) : Ends s₀ (execSafeStateReadback padHigh s) :=
  .done (.ite (.tryRelease (.setBit h)) (.declareSafe (.setBit h)))

theorem Keeps.killPlumb {code : Nat} (h : Keeps s₀ s) : Keeps s₀ (s.killPlumb code) :=
  .foldl (fun _ _ h' => .killOne (.activeCycles h')) h

theorem Ends.safetyIslandWatchdog (h : Keeps s₀ s) : Ends s₀ (execSafetyIslandWatchdog s) :=
  .done (.declareSafe h)

theorem Ends.datumRateFault (h : Keeps s₀ s) : Ends s₀ (execDatumRateFault s) :=
  .done (.declareSafe h)

/-! ## Traverse -/

theorem Keeps.setCx {c : Nat} {x : TrvCtx} (h : Keeps s₀ s) : Keeps s₀ (s.setCx c x) :=
  .update h

theorem Keeps.setPlan {p : Option Plan} (h : Keeps s₀ s) : Keeps s₀ (s.setPlan p) :=
  .update h

theorem Keeps.cxStart {c : Nat} (h : Keeps s₀ s) : Keeps s₀ (s.cxStart c) :=
  .setCx (.set (.set (.set (.set (.set (.set (.set h)))))))

theorem Keeps.trvCtrl {c value : Nat} {en : Bool} (h : Keeps s₀ s) : Keeps s₀ (s.trvCtrl c value en) :=
  .ite (.set (.enWrite (fun _ h' => .cxStart h') (fun _ h' => .set h') h))
    (.enWrite (fun _ h' => .cxStart h') (fun _ h' => .set h') h)

theorem Keeps.planRecord {c : Nat} {r : PlanRec} (h : Keeps s₀ s) : Keeps s₀ (s.planRecord c r) := by
  unfold State.planRecord
  refine .ite ?_ ?_
  · refine .producerInput (.emit ?_)
    split
    next e => exact .raiseEdge (.set (.wr (.ofSnd e (.reach h))))
    next e => exact .set (.setCx (.ofSnd e (.reach h)))
  · split
    next e => exact .raiseEdge (.set (.wr (.ofSnd e (.reach h))))
    next e => exact .set (.setCx (.ofSnd e (.reach h)))

theorem Keeps.nextRequest {c : Nat} (h : Keeps s₀ s) : Keeps s₀ (s.nextRequest c) :=
  .set h

theorem Keeps.planNotice {c tag status bank : Nat} (h : Keeps s₀ s) : Keeps s₀ (s.planNotice c tag status bank) :=
  .noticeTraverse h

theorem Keeps.failRecord {c status : Nat} {ws : List Nat} {p : Option Plan} (h : Keeps s₀ s) :
    Keeps s₀ (s.failRecord c status ws p) :=
  .planNotice (.nextRequest (.planRecord (.freeNat (.freeNat (.freeNat h)))))

theorem Keeps.clearPlan {c : Nat} (h : Keeps s₀ s) : Keeps s₀ (s.clearPlan c) :=
  .set (.set (.setPlan h))

theorem Keeps.killPlan {code : Nat} (h : Keeps s₀ s) : Keeps s₀ (s.killPlan code) := by
  unfold State.killPlan
  split
  · exact h
  · exact .failRecord (.setCx (.clearPlan (.markKill h)))

theorem Keeps.planWith {work : State → State} {spans : List Span} (hk : ∀ s, Keeps s₀ s → Keeps s₀ (work s))
    (h : Keeps s₀ s) : Keeps s₀ (s.planWith spans work) := by
  unfold State.planWith
  split
  next e => exact hk _ (.ofSnd e (.reachSpans h))
  next e => exact .killPlan (.ofSnd e (.reachSpans h))

theorem Keeps.considerPlan {c : Nat} {w : OpenWindow} (h : Keeps s₀ s) : Keeps s₀ (s.considerPlan c w) := by
  unfold State.considerPlan
  refine .ite h (.ite (.deferred h) ?_)
  dsimp only
  split
  next e =>
    have h' := Keeps.ofSnd e (.reach h)
    refine .ite (.failRecord (.reachSpans h')) (.ite (.failRecord (.reachSpans h')) ?_)
    split
    · exact .set (.set (.setPlan (.reachSpans h')))
    · exact .failRecord (.fbInc (.reachSpans h'))
    · exact .deferred (.reachSpans h')
  next e => exact .failRecord (.ofSnd e (.reach h))

theorem Keeps.admitPlansIn {w : OpenWindow} (h : Keeps s₀ s) : Keeps s₀ (s.admitPlansIn w) :=
  .foldl (fun _ _ h' => .considerPlan h') h

theorem Keeps.admitPlans (h : Keeps s₀ s) : Keeps s₀ s.admitPlans :=
  .foldl (fun _ _ h' => .admitPlansIn h') h

theorem Ends.plan {context : Fin 8} (h : Keeps s₀ s) : Ends s₀ (execPlan context s) :=
  .done (.foldl (fun _ _ h' => .ite (.considerPlan h') h') h)

theorem Ends.trvContextEnable {who : Agent} {context : Fin 8} {value : BitVec 32} (h : Keeps s₀ s) :
    Ends s₀ (execTrvContextEnable who context value s) :=
  .done (.gateWrite (fun _ h' => .trvCtrl h') h)

theorem Ends.trvContextDisable {who : Agent} {context : Fin 8} {value : BitVec 32} (h : Keeps s₀ s) :
    Ends s₀ (execTrvContextDisable who context value s) :=
  .done (.gateWrite (fun _ h' => .trvCtrl h') h)

theorem Keeps.publishGrid {c slot : Nat} (h : Keeps s₀ s) : Keeps s₀ (s.publishGrid c slot) :=
  .ite (.set h) (.set (.set (.set h)))

theorem Ends.gridPublish {who : Agent} {context : Fin 8} {slot : BitVec 2} (h : Keeps s₀ s) :
    Ends s₀ (execGridPublish who context slot s) :=
  .done (.gateWrite (fun _ h' => .publishGrid h') h)

/-- The state at the check's instant is named first, so that nothing evaluates the interval. -/
theorem Ends.libraryCrcCheck {context : Fin 8} (h : Keeps s₀ s) : Ends s₀ (execLibraryCrcCheck context s) := by
  unfold execLibraryCrcCheck
  refine .ite (.done h) ?_
  have h₁ := Keeps.advanceTo (t := (s.cx context.val).lastCheck + 100000000) h
  obtain ⟨s₁, hs₁⟩ : ∃ s₁, s₁ = s.advanceTo ((s.cx context.val).lastCheck + 100000000) := ⟨_, rfl⟩
  rw [← hs₁] at h₁ ⊢
  extract_lets _ _ s₂
  have h₂ : Keeps s₀ s₂ := .setCx h₁
  split
  next e =>
    have h₃ := Keeps.ofSnd e (.reachSpans h₂)
    exact .ite (.done h₃) (.done (.ite (.admitPlans (.killPlan (.emit (.setCx h₃)))) (.emit (.setCx h₃))))

theorem Ends.fallbackDone (h : Keeps s₀ s) : Ends s₀ (execFallbackDone s) := by
  unfold execFallbackDone
  split
  · exact .done h
  · exact .ite (.done h) (.done (.admitPlans (.planWith (fun _ h' => by
    split
    · exact .setPlan h'
    · exact .setPlan (.ite (.fbInc h') h')) h)))

/-- For any number `n` of free bytes: the kernel must not count to 4096 to see the shape of the definition. -/
theorem Keeps.writeArena {c : Nat} {g : Grid} {q : Search} (h : Keeps s₀ s) : Keeps s₀ (s.writeArena c g q) := by
  generalize hf : State.writeArena = f
  delta State.writeArena at hf
  subst hf
  generalize 4096 = n
  revert n
  refine id fun n => ?_
  exact .wr (.wr (.freeNats h))

theorem Keeps.endSearch {p : Plan} {n : Nat} {deadline : Bool} (h : Keeps s₀ s) : Keeps s₀ (s.endSearch p n deadline) :=
  .setPlan (.setCx (.writeArena (.freeNat (.ite (.fbInc h) h))))

theorem Ends.searchEnd (h : Keeps s₀ s) : Ends s₀ (execSearchEnd s) := by
  unfold execSearchEnd
  split
  · exact .done h
  · exact .ite (.done h) (.done (.admitPlans (.planWith (fun _ h' => .endSearch h') h)))

theorem Ends.searchDeadline (h : Keeps s₀ s) : Ends s₀ (execSearchDeadline s) := by
  unfold execSearchDeadline
  split
  · exact .done h
  · exact .ite (.done h) (.done (.admitPlans (.planWith (fun _ h' => .endSearch h') (.freeNat (.advanceTo h)))))

theorem Keeps.checkCands {p : Plan} {g : Grid} {cs : List Cand} {i : Nat} {pub : Option Nat} (h : Keeps s₀ s) :
    Keeps s₀ (s.checkCands p g cs i pub).2 := by
  induction cs generalizing s i pub with
  | nil => exact h
  | cons c cs ih =>
    unfold State.checkCands
    dsimp only
    split
    · exact ih h
    · exact ih (.ite (.fbInc (.ite h (.fbInc h))) (.ite h (.fbInc h)))

theorem Keeps.outputChecks {p : Plan} {n : Nat} {cut : Option Nat} (h : Keeps s₀ s) : Keeps s₀ (s.outputChecks p n cut) :=
  .setPlan (.checkCands (.set h))

theorem Keeps.outputStage {p : Plan} {n : Nat} {cut : Option Nat} (h : Keeps s₀ s) : Keeps s₀ (s.outputStage p n cut) :=
  .planWith (fun _ h' => .outputChecks h') h

theorem Ends.optimisationEnd (h : Keeps s₀ s) : Ends s₀ (execOptimisationEnd s) := by
  unfold execOptimisationEnd
  split
  · exact .done h
  · exact .done (.ite (.admitPlans (.outputStage h)) h)

theorem Ends.optimisationDeadline (h : Keeps s₀ s) : Ends s₀ (execOptimisationDeadline s) := by
  unfold execOptimisationDeadline
  split
  · exact .done h
  · exact .ite (.done h) (.done (.admitPlans (.outputStage (.freeNat (.freeNat (.advanceTo h))))))

theorem Keeps.commitPlan {p : Plan} (h : Keeps s₀ s) : Keeps s₀ (s.commitPlan p) := by
  unfold State.commitPlan
  extract_lets _ _ _ _ _ _ _ _ _ _ _ _ _ _ _ _ _ _ s₇ s₈ s₉
  have h₇ : Keeps s₀ s₇ := .fbInc (.fbInc (.set (.set (.wr (.wr (.wr (.wr (.wr h))))))))
  have h₈ : Keeps s₀ s₈ := .ite (.fbInc h₇) (.ite (.fbInc h₇) (.ite (.fbInc h₇) h₇))
  have h₉ : Keeps s₀ s₉ := .ite (.fbInc h₈) h₈
  exact .planNotice (.nextRequest (.planRecord (.clearPlan (.setCx h₉))))

theorem Ends.planCommit (h : Keeps s₀ s) : Ends s₀ (execPlanCommit s) := by
  unfold execPlanCommit
  split
  · exact .done h
  · exact .ite (.done h) (.done (.admitPlans (.planWith (fun _ h' => .commitPlan h') h)))

theorem Ends.traverseFault {parity : Bool} {addr : BitVec 48} (h : Keeps s₀ s) :
    Ends s₀ (execTraverseFault parity addr s) := by
  unfold execTraverseFault
  split
  · exact .done h
  · dsimp only
    split
    · exact .ite (.done (.setPlan (.set (.setCx (.spendRestart (.markKill (.freeNat (.ite h (.inlineEcc h)))))))))
        (.done (.admitPlans (.killPlan (.freeNat (.ite h (.inlineEcc h))))))
    · exact .done (.admitPlans (.killPlan (.freeNat (.ite h (.inlineEcc h)))))

theorem Keeps.closePlans {w : Nat} (h : Keeps s₀ s) : Keeps s₀ (s.closePlans w) := by
  unfold State.closePlans
  split
  · exact h
  · exact .ite (.killPlan (.fbInc h)) h

theorem Ends.plumbClockRailFault {rail : Bool} (h : Keeps s₀ s) : Ends s₀ (execPlumbClockRailFault rail s) :=
  .done (.declareSafe (.killPlan (.killPlumb (.update (.set h)))))

/-! ## The graphics front-end -/

theorem Keeps.setGx {x : Nat} {v : GfxCtx} (h : Keeps s₀ s) : Keeps s₀ (s.setGx x v) :=
  .update h

theorem Keeps.setGxJob {x : Nat} {j : Option GfxJob} (h : Keeps s₀ s) : Keeps s₀ (s.setGxJob x j) :=
  .setGx h

theorem Keeps.gxStart {x : Nat} (h : Keeps s₀ s) : Keeps s₀ (s.gxStart x) :=
  .setGx (.set (.set (.set (.set (.set h)))))

theorem Keeps.gxStop {x : Nat} (h : Keeps s₀ s) : Keeps s₀ (s.gxStop x) :=
  .setGx (.set h)

theorem Ends.gfxContextEnable {who : Agent} {context : Fin 32} {value : BitVec 32} (h : Keeps s₀ s) :
    Ends s₀ (execGfxContextEnable who context value s) :=
  .done (.gateWrite (fun _ h' => .enWrite (fun _ h'' => .gxStart h'') (fun _ h'' => .gxStop h'') h') h)

theorem Ends.gfxContextDisable {who : Agent} {context : Fin 32} {value : BitVec 32} (h : Keeps s₀ s) :
    Ends s₀ (execGfxContextDisable who context value s) :=
  .done (.gateWrite (fun _ h' => .enWrite (fun _ h'' => .gxStart h'') (fun _ h'' => .gxStop h'') h') h)

theorem Keeps.gxDecode {x : Nat} {d : Desc} (h : Keeps s₀ s) : Keeps s₀ (s.gxDecode x d).2 :=
  .iteSnd (.reachSpans h) h

theorem Keeps.gxRecord {x status : Nat} {d : Desc} {j : GfxJob} (h : Keeps s₀ s) : Keeps s₀ (s.gxRecord x status d j) := by
  unfold State.gxRecord
  dsimp only
  split
  next e => exact .emit (.raiseEdge (.set (.wr (.ofSnd e (.reach (.freeNats h))))))
  next e => exact .set (.setGx (.ofSnd e (.reach (.freeNats h))))

theorem Keeps.resumeCompute (h : Keeps s₀ s) : Keeps s₀ s.resumeCompute :=
  .foldl (fun _ _ h' => by
    split
    · exact .ite (.setGxJob h') h'
    · exact h') h

theorem Keeps.endGfx {x status : Nat} {d : Desc} {j : GfxJob} (h : Keeps s₀ s) : Keeps s₀ (s.endGfx x status d j) :=
  .resumeCompute (.setGx (.set (.set (.gxRecord h))))

theorem Keeps.rasterFragment {e : PassEnv} {r : Raster} {f : Fragment} (h : Keeps s₀ r.s) : Keeps s₀ (r.fragment e f).s := by
  unfold Raster.fragment
  dsimp only
  split
  · split
    next e => exact .wr (.ofSnd e (.reachSpans h))
    next e => exact .ofSnd e (.reachSpans h)
  · exact h

theorem Keeps.rasterFragments {e : PassEnv} {r : Raster} {fs : List Fragment} (h : Keeps s₀ r.s) :
    Keeps s₀ (fs.foldl (Raster.fragment e) r).s :=
  foldl_inv _ (fun r : Raster => Keeps s₀ r.s) _ (fun _ _ _ h' => .rasterFragment h') _ h

theorem Keeps.rasterScoreboard {e : PassEnv} {fs board : List Fragment} {r : Raster} (h : Keeps s₀ r.s) :
    Keeps s₀ (Raster.scoreboard e fs board r).s := by
  induction fs generalizing board r with
  | nil => exact .rasterFragments h
  | cons f fs ih => exact ih (.rasterFragments h)

theorem Keeps.rasterImmediate {e : PassEnv} {fs : List Fragment} {cut : Nat → Nat} {r : Raster} (h : Keeps s₀ r.s) :
    Keeps s₀ (Raster.immediate e fs cut r).s :=
  foldl_inv _ (fun r : Raster => Keeps s₀ r.s) _ (fun _ _ _ h' => .rasterScoreboard h') _ h

theorem Keeps.rasterBinned {e : PassEnv} {fs : List Fragment} {n : Nat} {r : Raster} (h : Keeps s₀ r.s) :
    Keeps s₀ (Raster.binned e fs n r).s :=
  foldl_inv _ (fun r : Raster => Keeps s₀ r.s) _ (fun _ _ _ h' => .rasterFragments h') _ h

theorem Keeps.passEnd {x : Nat} {j : GfxJob} (h : Keeps s₀ s) : Keeps s₀ (s.passEnd x j) := by
  unfold State.passEnd
  split
  · exact h
  · dsimp only
    split
    · exact .setGxJob (.rasterBinned h)
    · exact .setGxJob (.rasterImmediate h)

theorem Keeps.passCut {x : Nat} {j : GfxJob} (h : Keeps s₀ s) : Keeps s₀ (s.passCut x j) := by
  unfold State.passCut
  split
  · exact h
  · dsimp only
    split
    · exact .rasterBinned (.freeNats h)
    · exact .rasterImmediate (.freeNats h)

theorem Keeps.flushPass {x : Nat} {j : GfxJob} {p : PassRun} (h : Keeps s₀ s) : Keeps s₀ (s.flushPass x j p).1 :=
  .rasterBinned h

theorem Keeps.failGfx {x code : Nat} (h : Keeps s₀ s) : Keeps s₀ (s.failGfx x code) := by
  unfold State.failGfx
  split
  · exact h
  · exact .endGfx (.markKill (.passCut h))

theorem Keeps.startGfx {x units : Nat} {j : GfxJob} (h : Keeps s₀ s) : Keeps s₀ (s.startGfx x j units) :=
  .update (.setGxJob h)

theorem Keeps.considerRead {x : Nat} {w : OpenWindow} {ds : List Desc} (h : Keeps s₀ s) :
    Keeps s₀ (s.considerRead x w ds) := by
  unfold State.considerRead
  refine .ite (.deferred h) (.ite (.endGfx h) ?_)
  split
  · exact .startGfx h
  · exact .endGfx (.fbInc h)
  · exact .deferred h

theorem Keeps.considerGfx {x : Nat} {w : OpenWindow} (h : Keeps s₀ s) : Keeps s₀ (s.considerGfx x w) := by
  unfold State.considerGfx
  refine .ite h ?_
  split
  next e =>
    have h' := Keeps.ofSnd e (.reachSpans h)
    split
    · exact .deferred h'
    · exact .considerRead h'
  next e => exact .deferred (.ofSnd e (.reachSpans h))

theorem Keeps.gfxPass (h : Keeps s₀ s) : Keeps s₀ s.gfxPass.1 :=
  .foldlFst (fun _ _ h' => .foldlFst (fun _ _ h'' => .considerGfx h'') h') h

theorem Keeps.gfxLoop {n : Nat} (h : Keeps s₀ s) : Keeps s₀ (s.gfxLoop n) := by
  induction n generalizing s with
  | zero => exact h
  | succ n ih => exact .ite (ih (.gfxPass h)) (.gfxPass h)

theorem Keeps.admitGfx (h : Keeps s₀ s) : Keeps s₀ s.admitGfx :=
  .gfxLoop h

theorem Keeps.gxStores {x : Nat} {l : List (BitVec 48 × BitVec 8)} (h : Keeps s₀ s) : Keeps s₀ (s.gxStores x l) :=
  .foldl (fun _ _ h' => by
    split
    next e => exact .wr (.ofSnd e (.reach1 h'))
    next e => exact (.ofSnd e (.reach1 h'))) h

theorem Keeps.gxStartRec {x i op : Nat} {draw : Option Draw} {j : GfxJob} (h : Keeps s₀ s) :
    Keeps s₀ (s.gxStartRec x i op draw j) := by
  unfold State.gxStartRec
  dsimp only
  split
  next e => exact .setGxJob (.ofSnd e (.gxDecode h))
  next e => exact .admitGfx (.endGfx (.ofSnd e (.gxDecode h)))

theorem Keeps.gxBegin {x op : Nat} {draw : Option Draw} {stores : List (BitVec 48 × BitVec 8)} (h : Keeps s₀ s) :
    Keeps s₀ (s.gxBegin x op draw stores) := by
  unfold State.gxBegin
  split
  · exact h
  · refine .ite h ?_
    dsimp only
    split
    next e => exact .gxStores (.gxStartRec (.ofSnd e (.reachSpans (.set (.passEnd h)))))
    next e => exact .admitGfx (.endGfx (.ofSnd e (.reachSpans (.set (.passEnd h)))))

theorem Ends.pass {context : Fin 32} {draw : Draw} {stores : List (BitVec 48 × BitVec 8)} (h : Keeps s₀ s) :
    Ends s₀ (execPass context draw stores s) :=
  .done (.gxBegin h)

theorem Ends.dispatch {context : Fin 32} {stores : List (BitVec 48 × BitVec 8)} (h : Keeps s₀ s) :
    Ends s₀ (execDispatch context stores s) :=
  .done (.gxBegin h)

theorem Ends.gfxFence {context : Fin 32} (h : Keeps s₀ s) : Ends s₀ (execGfxFence context s) :=
  .done (.gxBegin h)

theorem Ends.gfxCommit {context : Fin 32} (h : Keeps s₀ s) : Ends s₀ (execGfxCommit context s) :=
  .done (.gxBegin h)

theorem Keeps.setDp {d : Nat} {v : Display} (h : Keeps s₀ s) : Keeps s₀ (s.setDp d v) :=
  .update h

theorem Keeps.armFlip {d p a : Nat} (h : Keeps s₀ s) : Keeps s₀ (s.armFlip d p a) :=
  .setDp h

theorem Ends.gfxJobComplete {context : Fin 32} (h : Keeps s₀ s) : Ends s₀ (execGfxJobComplete context s) := by
  unfold execGfxJobComplete
  dsimp only
  split
  · exact .done h
  · exact .ite (.done h) (.done (.admitGfx (.endGfx (.ite (.armFlip (.wrapInc h)) (.wrapInc h)))))

theorem Keeps.takeBackFlush {x : Nat} {j : GfxJob} (h : Keeps s₀ s) : Keeps s₀ (s.takeBackFlush x j) :=
  .fbSet (.setGxJob h)

theorem Keeps.heapAdd {x page : Nat} (h : Keeps s₀ s) : Keeps s₀ (s.heapAdd x page) := by
  unfold State.heapAdd
  refine .ite (.set h) (.ite (.set h) ?_)
  dsimp only
  split
  · split
    · exact .set (.setGxJob (.set (.set (.setGx h))))
    · exact .ite (.takeBackFlush (.set (.set (.setGx h)))) (.set (.set (.setGx h)))
  · exact .set (.set (.setGx h))

theorem Ends.heapAdd {who : Agent} {context : Fin 32} {page : BitVec 48} (h : Keeps s₀ s) :
    Ends s₀ (execHeapAdd who context page s) :=
  .done (.gateWrite (fun _ h' => .heapAdd h') h)

theorem Ends.binFault {context : Fin 32} {listed : Nat} (h : Keeps s₀ s) : Ends s₀ (execBinFault context listed s) := by
  unfold execBinFault
  dsimp only
  split
  · exact .done h
  · exact .ite (.done h) (.done (.setGxJob (.fbInc (.set h))))

theorem Ends.binFaultDeadline {context : Fin 32} (h : Keeps s₀ s) : Ends s₀ (execBinFaultDeadline context s) := by
  unfold execBinFaultDeadline
  dsimp only
  split
  · exact .done h
  · split
    · exact .done h
    · exact .ite (.done (.fbInc (.set (.setGxJob (.advanceTo h)))))
        (.done (.admitGfx (.failGfx (.fbInc (.advanceTo h)))))

theorem Ends.flushDone {context : Fin 32} (h : Keeps s₀ s) : Ends s₀ (execFlushDone context s) := by
  unfold execFlushDone
  dsimp only
  split
  · exact .done h
  · split
    · exact .done h
    · split
      · exact .done (.setGxJob h)
      · exact .done (.setGxJob (.flushPass h))

theorem Ends.gfxFault {context : Fin 32} {cause : GfxCause} (h : Keeps s₀ s) :
    Ends s₀ (execGfxFault context cause s) := by
  unfold execGfxFault
  split
  · exact .done h
  · exact .done (.admitGfx (.failGfx h))

theorem Keeps.requeue {x : Nat} (h : Keeps s₀ s) : Keeps s₀ (s.requeue x) :=
  .fbInc (.setGx h)

theorem Keeps.closeGfx {w : Nat} (h : Keeps s₀ s) : Keeps s₀ (s.closeGfx w) :=
  .foldl (fun _ _ h' => by
    split
    · exact .ite h' (.ite (.requeue h') (.ite (.setGxJob h') (.failGfx h')))
    · exact h') h

/-! ## The display controllers -/

theorem Keeps.dspStatus {d c : Nat} (h : Keeps s₀ s) : Keeps s₀ (s.dspStatus d c) :=
  .set h

theorem Keeps.dspStart {d : Nat} (h : Keeps s₀ s) : Keeps s₀ (s.dspStart d) :=
  .setDp (.set (.set h))

theorem Keeps.dspStop {d : Nat} (h : Keeps s₀ s) : Keeps s₀ (s.dspStop d) :=
  .set (.set (.set h))

theorem Ends.displayEnable {who : Agent} {display : Fin 4} {value : BitVec 32} (h : Keeps s₀ s) :
    Ends s₀ (execDisplayEnable who display value s) :=
  .done (.gateWrite (fun _ h' => .enWrite (fun _ h'' => .dspStart h'') (fun _ h'' => .dspStop h'') h') h)

theorem Ends.linkTrained {display : Fin 4} (h : Keeps s₀ s) : Ends s₀ (execLinkTrained display s) :=
  .ite (.done h) (.done (.setDp (.set (.ite (.fbInc h) h))))

theorem Ends.displayLinkLoss {display : Fin 4} (h : Keeps s₀ s) : Ends s₀ (execDisplayLinkLoss display s) :=
  .done (.set h)

theorem Keeps.displayEvent {d : Nat} (h : Keeps s₀ s) : Keeps s₀ (s.displayEvent d) :=
  .ite h (.ite (.declareSafe (.update (.set (.fbInc (.setDp h))))) (.update (.set (.fbInc (.setDp h)))))

theorem Keeps.endDisplayFrame {d : Nat} (h : Keeps s₀ s) : Keeps s₀ (s.endDisplayFrame d) :=
  .ite h (.update h)

theorem Keeps.latchPlane {d p : Nat} (h : Keeps s₀ s) : Keeps s₀ (s.latchPlane d p) := by
  unfold State.latchPlane
  refine .ite h (.ite ?_ (.setDp h))
  dsimp only
  split
  · exact .setDp (.set h)
  · exact .fbInc (.inc h)

theorem Keeps.relock {d : Nat} (h : Keeps s₀ s) : Keeps s₀ (s.relock d) := by
  unfold State.relock
  dsimp only
  split
  · exact .setDp (.set (.ite (.fbInc h) h))
  · exact .ite h (.set h)

theorem Ends.displayFrameStart {display : Fin 4} {late : List LateLine} {ttEcc : List (BitVec 16 × BitVec 16)}
    (h : Keeps s₀ s) : Ends s₀ (execDisplayFrameStart display late ttEcc s) :=
  .ite (.done h)
    (.done (.ite
        (.set (.foldl (fun _ _ h' => .latchPlane h') (.setDp (.wrapInc (.relock (.endDisplayFrame (.advanceTo h)))))))
        (.displayEvent (.set (.foldl (fun _ _ h' => .latchPlane h')
             (.setDp (.wrapInc (.relock (.endDisplayFrame (.advanceTo h))))))))))

theorem Keeps.pixelWord {p : Pixel} (h : Keeps s₀ s) : Keeps s₀ (s.pixelWord p).2 := by
  unfold State.pixelWord
  split
  · exact h
  · exact .freeNats h

theorem Keeps.regionCrc {d r : Nat} (h : Keeps s₀ s) : Keeps s₀ (s.regionCrc d r).2 := by
  unfold State.regionCrc
  dsimp only
  exact .foldlSnd (fun _ _ h' => .pixelWord h') h

theorem Ends.checkedRegionCompare {display : Fin 4} {region : Fin 16} (h : Keeps s₀ s) :
    Ends s₀ (execCheckedRegionCompare display region s) :=
  .ite (.done h)
    (.done (.ite
        (.displayEvent (.ite (.inc (.ite (.set (.regionCrc h)) (.inc (.set (.regionCrc h)))))
            (.ite (.set (.regionCrc h)) (.inc (.set (.regionCrc h))))))
        (.ite (.inc (.ite (.set (.regionCrc h)) (.inc (.set (.regionCrc h)))))
           (.ite (.set (.regionCrc h)) (.inc (.set (.regionCrc h)))))))

theorem Keeps.ttOwn {k : State → State} {who : Agent} {d a : Nat} (hk : ∀ s, Keeps s₀ s → Keeps s₀ (k s)) (h : Keeps s₀ s) :
    Keeps s₀ (s.ttOwn who d a k) :=
  .ite (hk _ h) (.dspStatus (.cadLog h))

theorem Keeps.dspWrite {k : State → State} {who : Agent} {d off v : Nat} (hk : ∀ s, Keeps s₀ s → Keeps s₀ (k s))
    (h : Keeps s₀ s) : Keeps s₀ (s.dspWrite who d off v k) :=
  .ite (.ttOwn (fun _ h' => .ite (.dspStatus (hk _ h')) (.dspStatus h')) h) (.ite (.dspStatus (hk _ h)) (.dspStatus h))

theorem Keeps.writeExp {who : Agent} {d r v : Nat} (h : Keeps s₀ s) : Keeps s₀ (s.writeExp who d r v) :=
  .dspWrite (fun _ h' => .set (.set (.setDp h'))) h

theorem Ends.expWrite {who : Agent} {display : Fin 4} {region : Fin 16} {value : BitVec 64} (h : Keeps s₀ s) :
    Ends s₀ (execExpWrite who display region value s) :=
  .done (.gateWrite (fun _ h' => .writeExp h') h)

theorem Keeps.preemptCompute {x units : Nat} (h : Keeps s₀ s) : Keeps s₀ (s.preemptCompute x units) :=
  .foldl (fun _ _ h' => by
    split
    · exact .ite (.setGxJob h') h'
    · exact h') h

theorem Ends.compositionSlackLow {context : Fin 32} (h : Keeps s₀ s) : Ends s₀ (execCompositionSlackLow context s) := by
  unfold execCompositionSlackLow
  dsimp only
  split
  · exact .ite (.done h) (.done (.preemptCompute (.fbInc (.setGx h))))
  · exact .done h

theorem Ends.yieldLimit {context : Fin 32} {remaining : Bool} (h : Keeps s₀ s) :
    Ends s₀ (execYieldLimit context remaining s) := by
  unfold execYieldLimit
  dsimp only
  split
  · exact .done h
  · split
    · exact .done h
    · exact .ite (.done (.advanceTo h)) (.done (.setGx (.fbInc (.setGxJob (.advanceTo h)))))

/-! ## Media -/

theorem Keeps.setMsrc {i : Nat} {v : MedSrc} (h : Keeps s₀ s) : Keeps s₀ (s.setMsrc i v) :=
  .update h

theorem Keeps.setCap {i : Nat} {v : CapSrc} (h : Keeps s₀ s) : Keeps s₀ (s.setCap i v) :=
  .update h

theorem Keeps.setMx {x : Nat} {v : MedCtx} (h : Keeps s₀ s) : Keeps s₀ (s.setMx x v) :=
  .update h

theorem Keeps.setStx {p : Nat} {v : StCtx} (h : Keeps s₀ s) : Keeps s₀ (s.setStx p v) :=
  .update h

theorem Keeps.ringCapture {i : Nat} {r : SampleRec} (h : Keeps s₀ s) : Keeps s₀ (s.ringCapture i r) := by
  unfold State.ringCapture
  refine .ite (.fbInc h) ?_
  dsimp only
  split
  next e => exact .raiseEdge (.setCap (.wr (.ofSnd e (.reach h))))
  next e => exact .ofSnd e (.reach h)

theorem Keeps.freeRecords {i v : Nat} (h : Keeps s₀ s) : Keeps s₀ (s.freeRecords i v) :=
  .setCap h

theorem Keeps.ringContext {x : Nat} {r : SampleRec} (h : Keeps s₀ s) : Keeps s₀ (s.ringContext x r) := by
  unfold State.ringContext
  refine .ite (.fbInc h) ?_
  dsimp only
  split
  next e => exact .raiseEdge (.set (.wr (.ofSnd e (.reach h))))
  next e => exact .set (.setMx (.ofSnd e (.reach h)))

theorem Keeps.makeRecord {i status tag : Nat} {aband : Bool} {good : Option GoodSample} (h : Keeps s₀ s) :
    Keeps s₀ (s.makeRecord i status tag aband good).2 := by
  unfold State.makeRecord
  dsimp only
  split
  · exact h
  · split
    · exact .fbInc h
    · exact .fbInc (.freeNat (.freeNat h))

theorem Keeps.sampleRecord {i status tag : Nat} {aband : Bool} {good : Option GoodSample} (h : Keeps s₀ s) :
    Keeps s₀ (s.sampleRecord i status tag aband good) :=
  .ite (.ringCapture (.setMsrc (.makeRecord h))) (.ringContext (.setMsrc (.makeRecord h)))

theorem Keeps.freshSource {i : Nat} (h : Keeps s₀ s) : Keeps s₀ (s.freshSource i) :=
  .update (.setMsrc h)

theorem Keeps.csStart {i : Nat} (h : Keeps s₀ s) : Keeps s₀ (s.csStart i) :=
  .set (.setCap (.freshSource h))

theorem Ends.captureSourceEnable {who : Agent} {source : Fin 32} {value : BitVec 32} (h : Keeps s₀ s) :
    Ends s₀ (execCaptureSourceEnable who source value s) :=
  .done (.gateWrite (fun _ h' => .enWrite (fun _ h'' => .csStart h'') (fun _ h'' => .setCap (.freshSource h'')) h') h)

theorem Ends.captureSourceDisable {who : Agent} {source : Fin 32} {value : BitVec 32} (h : Keeps s₀ s) :
    Ends s₀ (execCaptureSourceDisable who source value s) :=
  .done (.gateWrite (fun _ h' => .enWrite (fun _ h'' => .csStart h'') (fun _ h'' => .setCap (.freshSource h'')) h') h)

theorem Keeps.csCorrupt {i tag : Nat} (h : Keeps s₀ s) : Keeps s₀ (s.csCorrupt i tag) :=
  .sampleRecord (.fbInc (.setCap h))

theorem Keeps.ispWrite {i params a : Nat} {raw : List Nat} (h : Keeps s₀ s) : Keeps s₀ (s.ispWrite i params a raw) := by
  unfold State.ispWrite
  dsimp only
  split
  next e => exact .wr (.ofSnd e (.reach h))
  next e => exact .ofSnd e (.reach h)

theorem Keeps.csGood {i params buf tag capture step : Nat} {raw : List Nat} (h : Keeps s₀ s) :
    Keeps s₀ (s.csGood i params buf tag capture step raw) := by
  unfold State.csGood
  exact .sampleRecord (.fbInc (.ispWrite h))

theorem Keeps.captureNs (h : Keeps s₀ s) : Keeps s₀ s.captureNs.2 :=
  .freeNat h

theorem Keeps.csFrameStart {number i : Nat} (h : Keeps s₀ s) : Keeps s₀ (s.csFrameStart number i) := by
  unfold State.csFrameStart
  dsimp only
  split
  · refine .sampleRecord (.fbInc ?_)
    split
    · exact .csCorrupt h
    · exact h
  · refine .setCap (.captureNs ?_)
    split
    · exact .csCorrupt h
    · exact h

theorem Keeps.csHeader {k : State → State} {port : Nat} {header : EccEvent} (hk : ∀ s, Keeps s₀ s → Keeps s₀ (k s))
    (h : Keeps s₀ s) : Keeps s₀ (s.csHeader port header k) :=
  .ite h (.ite (.fbInc h) (hk _ h))

theorem Ends.csi2FrameStart {port vc : Fin 16} {number : BitVec 16} {header : EccEvent} (h : Keeps s₀ s) :
    Ends s₀ (execCsi2FrameStart port vc number header s) :=
  .done (.csHeader (fun _ h' => .foldl (fun _ _ h'' => .csFrameStart h'') h') h)

theorem Keeps.csLine {dt i : Nat} {crcOk : Bool} {payload : List Nat} (h : Keeps s₀ s) :
    Keeps s₀ (s.csLine dt crcOk payload i) := by
  unfold State.csLine
  split
  · exact h
  · exact .ite h (.setCap h)

theorem Ends.csi2Packet {port vc : Fin 16} {dt : BitVec 6} {header : EccEvent} {crcOk : Bool} {payload : List Byte}
    (h : Keeps s₀ s) : Ends s₀ (execCsi2Packet port vc dt header crcOk payload s) :=
  .done (.csHeader (fun _ h' => .ite h' (.ite (.fbInc h') (.foldl (fun _ _ h'' => .csLine h'') h'))) h)

theorem Keeps.csFrameEnd {isp : EccEvent} {params i : Nat} (h : Keeps s₀ s) : Keeps s₀ (s.csFrameEnd isp params i) := by
  unfold State.csFrameEnd
  split
  · exact h
  · exact .ite (.csCorrupt h) (.csGood (.setCap h))

theorem Ends.csi2FrameEnd {port vc : Fin 16} {header isp : EccEvent} {params : Nat} (h : Keeps s₀ s) :
    Ends s₀ (execCsi2FrameEnd port vc header isp params s) :=
  .done (.csHeader (fun _ h' => .foldl (fun _ _ h'' => .csFrameEnd h'') h') h)

theorem Ends.frameEndTimeout {source : Fin 32} (h : Keeps s₀ s) : Ends s₀ (execFrameEndTimeout source s) := by
  unfold execFrameEndTimeout
  split
  · exact .done h
  · exact .done (.csCorrupt (.advanceTo h))

theorem Keeps.ispStart {i raw tag captured bound : Nat} {w : OpenWindow} (h : Keeps s₀ s) :
    Keeps s₀ (s.ispStart i raw tag captured bound w) := by
  unfold State.ispStart
  split
  · exact .sampleRecord (.fbInc h)
  · exact .setCap h

theorem Keeps.ispOffer {i raw tag captured bound : Nat} (h : Keeps s₀ s) :
    Keeps s₀ (s.ispOffer i raw tag captured bound) := by
  unfold State.ispOffer
  refine .ite h ?_
  split
  · exact .deferred h
  · refine .ite (.deferred h) ?_
    split
    · exact .ispStart h
    · exact .sampleRecord (.fbInc h)
    · exact .deferred h

theorem Keeps.ispFail {i code : Nat} (h : Keeps s₀ s) : Keeps s₀ (s.ispFail i code) := by
  unfold State.ispFail
  split
  · exact h
  · exact .sampleRecord (.setCap h)

theorem Keeps.ispFinish {i params : Nat} {isp : EccEvent} (h : Keeps s₀ s) : Keeps s₀ (s.ispFinish i isp params) := by
  unfold State.ispFinish
  split
  · exact h
  · refine .ite h (.ite (.ispFail (.fbInc h)) ?_)
    dsimp only
    split
    next e => exact .csGood (.setCap (.ofSnd e (.reach h)))
    next e => exact .ispFail (.ofSnd e (.reach h))

theorem Ends.ispMemoryInput {source : Fin 32} {input : IspInput} (h : Keeps s₀ s) :
    Ends s₀ (execIspMemoryInput source input s) := by
  unfold execIspMemoryInput
  split
  · exact .done (.ispOffer h)
  · exact .done (.ispFinish h)

theorem Keeps.closeIsp {w : Nat} (h : Keeps s₀ s) : Keeps s₀ (s.closeIsp w) :=
  .foldl (fun _ _ h' => by
    split
    · exact .ite (.ispFail h') h'
    · exact h') h

theorem Keeps.setSlow {x : Nat} {b : Bool} (h : Keeps s₀ s) : Keeps s₀ (s.setSlow x b) :=
  .fbSet (.setBit h)

theorem Keeps.mxStart {x : Nat} (h : Keeps s₀ s) : Keeps s₀ (s.mxStart x) :=
  .setMx (.freshSource (.set (.setSlow (.set (.set (.set (.set (.set h))))))))

theorem Ends.mediaContextEnable {who : Agent} {context : Fin 64} {value : BitVec 32} (h : Keeps s₀ s) :
    Ends s₀ (execMediaContextEnable who context value s) :=
  .done (.gateWrite (fun _ h' => .enWrite (fun _ h'' => .mxStart h'') (fun _ h'' => .setMx (.freshSource (.set h''))) h')
     h)

theorem Ends.mediaContextDisable {who : Agent} {context : Fin 64} {value : BitVec 32} (h : Keeps s₀ s) :
    Ends s₀ (execMediaContextDisable who context value s) :=
  .done (.gateWrite (fun _ h' => .enWrite (fun _ h'' => .mxStart h'') (fun _ h'' => .setMx (.freshSource (.set h''))) h')
     h)

theorem Keeps.mxNext {x n : Nat} (h : Keeps s₀ s) : Keeps s₀ (s.mxNext x n) := by
  induction n generalizing s with
  | zero => exact h
  | succ n ih =>
    unfold State.mxNext
    split
    · exact h
    · exact .ite h (ih (.set (.setMx (.sampleRecord h))))

theorem Keeps.checkSample {x i : Nat} (h : Keeps s₀ s) : Keeps s₀ (s.checkSample x i).2 := by
  unfold State.checkSample
  dsimp only
  split
  next e => exact .ofSnd e (.reach h)
  next e => exact .ofSnd e (.reach h)

theorem Ends.sampleDescriptor {context : Fin 64} (h : Keeps s₀ s) : Ends s₀ (execSampleDescriptor context s) :=
  .ite (.done h) (.done (.mxNext (.setMx (.checkSample h))))

theorem Keeps.mxOutcome {x : Nat} {abandoned : Bool} (h : Keeps s₀ s) : Keeps s₀ (s.mxOutcome x abandoned) :=
  .ite (.setSlow (.setMx h)) (.ite (.setSlow (.setMx h)) (.setMx h))

theorem Keeps.mxRecord {x status : Nat} {aband : Bool} {good : Option GoodSample} (h : Keeps s₀ s) :
    Keeps s₀ (s.mxRecord x status aband good) := by
  unfold State.mxRecord
  split
  · exact h
  · exact .mxNext (.set (.sampleRecord (.setMx h)))

theorem Keeps.mxEnd {x status t : Nat} {aband : Bool} {good : Option GoodSample} (h : Keeps s₀ s) :
    Keeps s₀ (s.mxEnd x status t aband good) :=
  .mxRecord (.mxOutcome (.set h))

theorem Keeps.mxAbandon {x t : Nat} (h : Keeps s₀ s) : Keeps s₀ (s.mxAbandon x t) := by
  unfold State.mxAbandon
  split
  · exact h
  · exact .mxEnd (.fbInc (.setMx h))

theorem Keeps.mxFail {x code : Nat} (h : Keeps s₀ s) : Keeps s₀ (s.mxFail x code) := by
  unfold State.mxFail
  split
  · exact h
  · exact .mxRecord (.mxOutcome (.setMx h))

theorem Keeps.considerMedia {w : OpenWindow} {x : Nat} (h : Keeps s₀ s) : Keeps s₀ (s.considerMedia w x) :=
  .ite h (.ite (.mxRecord h) (.ite (.deferred h) (.setMx h)))

theorem Keeps.admitMedia (h : Keeps s₀ s) : Keeps s₀ s.admitMedia :=
  .foldl (fun _ _ h' => .foldl (fun _ _ h'' => .considerMedia h'') h') h

theorem Ends.decodeComplete {context : Fin 64} {time offset : BitVec 32} {width height : BitVec 16}
    {fits depends tenBit : Bool} {outcome : MediaOutcome} {data : List Byte} (h : Keeps s₀ s) :
    Ends s₀ (execDecodeComplete context time width height fits depends outcome tenBit offset data s) := by
  unfold execDecodeComplete
  dsimp only
  split
  · refine .ite (.done h) (.ite (.done (.advanceTo h)) ?_)
    refine .ite (.done (.admitMedia (.mxEnd (.fbInc (.setMx (.advanceTo h)))))) ?_
    split
    next e =>
      have h' := Keeps.ofSnd e (.reach (.setMx (.advanceTo h)))
      refine .ite (.done (.admitMedia (.mxEnd h'))) (.ite (.done (.admitMedia (.mxEnd h'))) ?_)
      split
      next e => exact .done (.admitMedia (.mxEnd (.wr (.ofSnd e (.reach h')))))
      next e => exact .done (.admitMedia (.mxEnd (.ofSnd e (.reach h'))))
    next e => exact .done (.admitMedia (.mxEnd (.ofSnd e (.reach (.setMx (.advanceTo h))))))
  · exact .done h

theorem Ends.decodeBudgetExpiry {context : Fin 64} (h : Keeps s₀ s) : Ends s₀ (execDecodeBudgetExpiry context s) := by
  unfold execDecodeBudgetExpiry
  split
  · exact .done h
  · exact .done (.admitMedia (.mxAbandon (.advanceTo h)))

theorem Keeps.closeMedia {w : Nat} (h : Keeps s₀ s) : Keeps s₀ (s.closeMedia w) :=
  .foldl (fun _ _ h' => by
    split
    · exact .ite (.mxAbandon h') h'
    · exact h') h

/-! ## The staging engine -/

theorem Keeps.stStart {p : Nat} (h : Keeps s₀ s) : Keeps s₀ (s.stStart p) :=
  .foldl (fun _ _ h' => .set (.set h')) (.setStx h)

theorem Ends.stagingEnable {who : Agent} {context : Fin 32} {value : BitVec 32} (h : Keeps s₀ s) :
    Ends s₀ (execStagingEnable who context value s) :=
  .done (.gateWrite (fun _ h' => .enWrite (fun _ h'' => .stStart h'') (fun _ h'' => .setStx h'') h') h)

theorem Ends.stagingDisable {who : Agent} {context : Fin 32} {value : BitVec 32} (h : Keeps s₀ s) :
    Ends s₀ (execStagingDisable who context value s) :=
  .done (.gateWrite (fun _ h' => .enWrite (fun _ h'' => .stStart h'') (fun _ h'' => .setStx h'') h') h)

theorem Keeps.takeSlot {p : Nat} {t : StSlot} (h : Keeps s₀ s) : Keeps s₀ (s.takeSlot p t).2 := by
  unfold State.takeSlot
  split
  · exact h
  · exact .iteSnd h (.iteSnd (.fbInc h) (.iteSnd h (.iteSnd (.fbInc h) h)))

theorem Keeps.takeSlots {p : Nat} {ts : List StSlot} (h : Keeps s₀ s) : Keeps s₀ (s.takeSlots p ts).2 := by
  induction ts generalizing s with
  | nil => exact h
  | cons t ts ih => exact ih (.takeSlot h)

theorem Keeps.considerStaging {w : OpenWindow} (h : Keeps s₀ s) : Keeps s₀ (s.considerStaging w) := by
  unfold State.considerStaging
  refine .ite h ?_
  dsimp only
  split
  · exact .setStx (.takeSlots h)
  · exact .setStx (.fbInc h)
  · exact .deferred h

theorem Keeps.admitStaging (h : Keeps s₀ s) : Keeps s₀ s.admitStaging :=
  .foldl (fun _ _ h' => .considerStaging h') h

theorem Keeps.stagingFrame {p : Nat} (h : Keeps s₀ s) : Keeps s₀ (s.stagingFrame p) :=
  .ite (.setStx (.ite (.fbInc h) h)) h

theorem Keeps.readable {p : Nat} {r : SampleRec} (h : Keeps s₀ s) : Keeps s₀ (s.readable p r).2 := by
  unfold State.readable
  split
  next e => exact .ofSnd e (.reach h)
  next e => exact .ofSnd e (.reach h)

theorem Keeps.writePosition {p a : Nat} {b : StBucket} {t : StTaken} (h : Keeps s₀ s) :
    Keeps s₀ (s.writePosition p a b t) := by
  unfold State.writePosition
  dsimp only
  split
  · exact .ite (.foldl (fun _ _ h' => .wr h') (.readable (.clearMem h))) (.clearMem h)
  · exact .clearMem h

theorem Keeps.positionBytes {t : StTaken} (h : Keeps s₀ s) : Keeps s₀ (s.positionBytes t).2 := by
  unfold State.positionBytes
  split
  · exact h
  · exact .freeNat h
  · exact .freeNat (.freeNat (.freeNat h))

theorem Keeps.positionsBytes {ts : List StTaken} (h : Keeps s₀ s) : Keeps s₀ (s.positionsBytes ts).2 := by
  induction ts generalizing s with
  | nil => exact h
  | cons t ts ih => exact ih (.positionBytes h)

theorem Keeps.batchHeader {k : Nat} {j : StJob} {ts : List StTaken} (h : Keeps s₀ s) : Keeps s₀ (s.batchHeader k j ts).2 :=
  .positionsBytes h

theorem Keeps.lowWater {p k before : Nat} {b : StBucket} (h : Keeps s₀ s) : Keeps s₀ (s.lowWater p k before b) := by
  unfold State.lowWater
  dsimp only
  split
  · exact .fbInc (.set (.setStx h))
  · exact .fbSet (.ite (.setStx h) (.set (.setStx h)))
  · exact .setStx h

theorem Keeps.writePositions {p a : Nat} {b : StBucket} {ts : List StTaken} (h : Keeps s₀ s) :
    Keeps s₀ (s.writePositions p b a ts) := by
  induction ts generalizing s a with
  | nil => exact h
  | cons t ts ih => exact ih (.writePosition h)

theorem Keeps.publishBatch {p k : Nat} {j : StJob} {b : StBucket} (h : Keeps s₀ s) : Keeps s₀ (s.publishBatch p j k b) := by
  unfold State.publishBatch
  extract_lets _ _ _ _ s₁ _
  have h₁ : Keeps s₀ s₁ := by
    unfold s₁
    split
    next e => exact .writePositions (.ofSnd e (.reach h))
    next e => exact .ofSnd e (.reach h)
  refine .ite (.lowWater (.fbInc h)) ?_
  split
  next s₂ e =>
    have h₂ : Keeps s₀ s₂ := .ofSnd e (.batchHeader h₁)
    extract_lets s₃
    have h₃ : Keeps s₀ s₃ := by
      unfold s₃
      split
      next e => exact .wr (.ofSnd e (.reach h₂))
      next e => exact .ofSnd e (.reach h₂)
    exact .lowWater (.set h₃)

theorem Ends.stagingJobEnd {context : Fin 32} (h : Keeps s₀ s) : Ends s₀ (execStagingJobEnd context s) := by
  unfold execStagingJobEnd
  dsimp only
  split
  · exact .done h
  · exact .ite (.done h) (.done (.admitStaging (.setStx (.foldl (fun _ _ h' => .publishBatch h') h))))

theorem Keeps.killStaging {p : Nat} (h : Keeps s₀ s) : Keeps s₀ (s.killStaging p) := by
  unfold State.killStaging
  split
  · exact h
  · exact .setStx (.fbInc h)

theorem Ends.stagingOverrun {context : Fin 32} (h : Keeps s₀ s) : Ends s₀ (execStagingOverrun context s) := by
  unfold execStagingOverrun
  split
  · exact .done h
  · exact .done (.admitStaging (.killStaging (.advanceTo h)))

theorem Keeps.missStaging {p : Nat} (h : Keeps s₀ s) : Keeps s₀ (s.missStaging p) :=
  .ite (.setStx (.fbInc h)) h

theorem Keeps.closeStaging {w : Nat} (h : Keeps s₀ s) : Keeps s₀ (s.closeStaging w) := by
  unfold State.closeStaging
  dsimp only
  split
  · exact .ite (.missStaging (.closeIsp (.foldl (fun _ _ h' => by
    split
    · exact .ite (.killStaging h') h'
    · exact h') h))) (.foldl (fun _ _ h' => by
    split
    · exact .ite (.killStaging h') h'
    · exact h') h)
  · exact .foldl (fun _ _ h' => by
    split
    · exact .ite (.killStaging h') h'
    · exact h') h

theorem Keeps.ownPage {f : State → State} {who : Agent} {owner : Attr} {k a : Nat} {status : Field}
    (hk : ∀ s, Keeps s₀ s → Keeps s₀ (f s)) (h : Keeps s₀ s) : Keeps s₀ (s.ownPage who owner k a status f) :=
  .ite (hk _ h) (.set (.cadLog h))

theorem Keeps.writePbRptr {who : Agent} {p k v : Nat} (h : Keeps s₀ s) : Keeps s₀ (s.writePbRptr who p k v) := by
  unfold State.writePbRptr
  refine .ownPage (fun _ h' => ?_) h
  split
  · exact .set h'
  · exact .ite (.set h') (.lowWater (.set (.set h')))

theorem Ends.batchRelease {who : Agent} {context : Fin 32} {bucket : Fin 8} {value : BitVec 4} (h : Keeps s₀ s) :
    Ends s₀ (execBatchRelease who context bucket value s) :=
  .done (.gateWrite (fun _ h' => .writePbRptr h') h)

theorem Keeps.benchHeader {p k : Nat} (h : Keeps s₀ s) : Keeps s₀ (s.benchHeader p k).2 :=
  .freeNats (.freeNat (.freeNat (.freeNat h)))

theorem Keeps.benchBuckets {p a : Nat} {bs : List (Nat × StBucket)} (h : Keeps s₀ s) :
    Keeps s₀ (s.benchBuckets p a bs) := by
  induction bs generalizing s a with
  | nil => exact h
  | cons b bs ih =>
    unfold State.benchBuckets
    split
    next e => exact ih (.wr (.benchHeader (.freeNats (.ofSnd e (.reach h)))))
    next e => exact .ofSnd e (.reach h)

theorem Keeps.benchBatch {p : Nat} (h : Keeps s₀ s) : Keeps s₀ (s.benchBatch p) :=
  .ite (.benchBuckets h) h

theorem Keeps.failMedia {code : Nat} (h : Keeps s₀ s) : Keeps s₀ (s.failMedia code) :=
  .foldl (fun _ _ h' => .killStaging (.ispFail h')) (.foldl (fun _ _ h' => by
    split
    · exact .mxFail h'
    · exact h') h)

/-! ## The gateway -/

theorem Keeps.setTec {n v : Nat} (h : Keeps s₀ s) : Keeps s₀ (s.setTec n v) :=
  .update h

theorem Keeps.canConfine {n : Nat} (h : Keeps s₀ s) : Keeps s₀ (s.canConfine n) :=
  .ite h (.ite (.set h) (.ite (.set h) (.set h)))

theorem Keeps.canEvent {n : Nat} (h : Keeps s₀ s) : Keeps s₀ (s.canEvent n) :=
  .followLine h

theorem Keeps.canRxError {n k : Nat} (h : Keeps s₀ s) : Keeps s₀ (s.canRxError n k) :=
  .canEvent (.canConfine (.fbInc (.set h)))

theorem Keeps.canRxOk {n : Nat} (h : Keeps s₀ s) : Keeps s₀ (s.canRxOk n) :=
  .ite (.canConfine (.set h)) (.canEvent (.canConfine (.set h)))

theorem Keeps.canCtrl {n value : Nat} (h : Keeps s₀ s) : Keeps s₀ (s.canCtrl n value) :=
  .ite (.set h) (.enWrite (fun _ h' => .canEvent (.setTec (.set (.set h')))) (fun _ h' => .canEvent (.set h')) h)

theorem Ends.canBusOffRecovery {can : Fin 16} (h : Keeps s₀ s) : Ends s₀ (execCanBusOffRecovery can s) :=
  .ite (.done (.canEvent (.setTec (.set (.set h))))) (.done h)

theorem Keeps.classify {iface fmt key0 key1 : Nat} {data : List Nat} (h : Keeps s₀ s) :
    Keeps s₀ (s.classify iface fmt key0 key1 data) := by
  unfold State.classify
  split
  · exact .flowInput h
  · exact .fbInc h

theorem Ends.canFrameRx {can : Fin 16} {fmt : Fin 3} {key0 key1 : BitVec 32} {event : CanError} {data : List Byte}
    (h : Keeps s₀ s) : Ends s₀ (execCanFrameRx can fmt key0 key1 event data s) := by
  unfold execCanFrameRx
  refine .ite (.done h) ?_
  split
  · exact .done (.canRxError h)
  · exact .done (.canRxError h)
  · exact .ite (.done (.canRxError h)) (.ite (.done (.canRxOk h)) (.done (.classify (.canRxOk h))))

theorem Keeps.linClear {n : Nat} (h : Keeps s₀ s) : Keeps s₀ (s.linClear n) :=
  .update h

theorem Ends.linFrameRx {lin : Fin 8} {id : BitVec 6} {checksumOk : Bool} {data : List Byte} (h : Keeps s₀ s) :
    Ends s₀ (execLinFrameRx lin id checksumOk data s) :=
  .ite (.done (.classify (.linClear h))) (.done (.followLine (.fbInc (.linClear h))))

theorem Ends.linResponseTimeout {lin : Fin 8} (h : Keeps s₀ s) : Ends s₀ (execLinResponseTimeout lin s) := by
  unfold execLinResponseTimeout
  split
  · exact .done (.followLine (.fbInc (.linClear h)))
  · exact .done h

theorem Ends.linScheduleSlot {lin : Fin 8} {id : BitVec 6} (h : Keeps s₀ s) :
    Ends s₀ (execLinScheduleSlot lin id s) := by
  unfold execLinScheduleSlot
  refine .ite (.done h) ?_
  dsimp only
  split
  · exact .done (.emit (.setEgress (.emit h)))
  · exact .done (.update (.emit h))

theorem Keeps.setRecov {f : Nat} {r : Recov} (h : Keeps s₀ s) : Keeps s₀ (s.setRecov f r) :=
  .update h

theorem Ends.cbResetTimeExpiry {flow : Fin 65536} (h : Keeps s₀ s) : Ends s₀ (execCbResetTimeExpiry flow s) :=
  .ite (.done h) (.done (.setRecov (.advanceTo h)))

theorem Keeps.pduInput {mac : Nat} {v : EthView} {p : Nat × List Nat} (h : Keeps s₀ s) : Keeps s₀ (s.pduInput mac v p) := by
  unfold State.pduInput
  split
  · exact h
  · split
    · dsimp only
      split
      · exact .flowInput (.setRecov h)
      · exact .fbInc (.setRecov h)
      · exact .setRecov h
    · exact .flowInput h

theorem Keeps.defaultFrame {mac : Nat} {fr : List Nat} (h : Keeps s₀ s) : Keeps s₀ (s.defaultFrame mac fr) :=
  .ite (.deliver (.freeNat (.freeNat h))) (.fbInc h)

theorem Keeps.ethInput {mac : Nat} {fr : List Nat} (h : Keeps s₀ s) : Keeps s₀ (s.ethInput mac fr) := by
  unfold State.ethInput
  refine .ite h (.ite (.defaultFrame h) ?_)
  split
  · exact .ite (.fbInc h) (.defaultFrame h)
  · exact .ite h
      (.ite (.defaultFrame h)
         (.ite (.foldl (fun _ _ h' => .pduInput h') (.ite (.fbInc h) h))
            (.ite (.ite (.fbInc h) h) (.defaultFrame (.ite (.fbInc h) h)))))

theorem Ends.ethernetFrameRx {mac : Fin 6} {fcsOk : Bool} {frame : List Byte} (h : Keeps s₀ s) :
    Ends s₀ (execEthernetFrameRx mac fcsOk frame s) :=
  .ite (.done (.followLine (.fbInc h))) (.done (.ethInput h))

theorem Ends.ethernetLinkChange {mac : Fin 6} {up : Bool} (h : Keeps s₀ s) : Ends s₀ (execEthernetLinkChange mac up s) :=
  .done (.followLine (.update h))

theorem Ends.flowPeriodTimer {flow : Fin 65536} (h : Keeps s₀ s) : Ends s₀ (execFlowPeriodTimer flow s) := by
  unfold execFlowPeriodTimer
  dsimp only
  split
  · exact .ite (.done (.timerEmit (.advanceTo h))) (.done h)
  · exact .done h

theorem Keeps.timeoutNotice {f : Flow} {v : FlowVal} (h : Keeps s₀ s) : Keeps s₀ (s.timeoutNotice f v) :=
  .deliver (.freeNat h)

theorem Ends.flowTimeout {flow : Fin 65536} (h : Keeps s₀ s) : Ends s₀ (execFlowTimeout flow s) := by
  unfold execFlowTimeout
  dsimp only
  split
  · exact .ite
      (.done (.ite (.timeoutNotice (.setFlowVal (.fbInc (.advanceTo h)))) (.setFlowVal (.fbInc (.advanceTo h)))))
      (.done h)
  · exact .done h

theorem Keeps.setGcl {m : Nat} {g : Gate} (h : Keeps s₀ s) : Keeps s₀ (s.setGcl m g) :=
  .update h

theorem Keeps.gclStatus {m c : Nat} (h : Keeps s₀ s) : Keeps s₀ (s.gclStatus m c) :=
  .set h

theorem Keeps.gclShadow {m v : Nat} {f : Field} (h : Keeps s₀ s) : Keeps s₀ (s.gclShadow m f v) :=
  .ite (.gclStatus h) (.gclStatus (.set h))

theorem Keeps.gclEntry {m e v : Nat} (h : Keeps s₀ s) : Keeps s₀ (s.gclEntry m e v) :=
  .ite (.gclStatus h) (.ite (.gclStatus h) (.gclShadow h))

theorem Keeps.gclSwap {m : Nat} (h : Keeps s₀ s) : Keeps s₀ (s.gclSwap m) :=
  .ite (.update (.set (.set (.gclStatus h)))) (.gclStatus h)

theorem Keeps.gclCtrl {m value : Nat} (h : Keeps s₀ s) : Keeps s₀ (s.gclCtrl m value) :=
  .ite (.gclSwap (.ite (.gclStatus (.set h)) (.gclShadow (.set h)))) (.ite (.gclStatus (.set h)) (.gclShadow (.set h)))

theorem Ends.gateListSwap {who : Agent} {mac : Fin 6} {value : BitVec 32} (h : Keeps s₀ s) :
    Ends s₀ (execGateListSwap who mac value s) :=
  .done (.gateWrite (fun _ h' => .gclCtrl h') h)

theorem Ends.gateCycleStart {mac : Fin 6} (h : Keeps s₀ s) : Ends s₀ (execGateCycleStart mac s) := by
  unfold execGateCycleStart
  refine .ite (.done (.set (.set (.set (.setGcl (.advanceTo h)))))) ?_
  split
  · exact .done (.advanceTo h)
  · exact .done h

theorem Ends.gateEntryChange {mac : Fin 6} (h : Keeps s₀ s) : Ends s₀ (execGateEntryChange mac s) := by
  unfold execGateEntryChange
  dsimp only
  split
  · exact .done (.advanceTo h)
  · exact .done h

theorem Keeps.canTransmit {n : Nat} {failed : Bool} (h : Keeps s₀ s) : Keeps s₀ (s.canTransmit n failed) := by
  unfold State.canTransmit
  split
  · exact h
  · exact .ite h
      (.ite (.canEvent (.canConfine (.fbInc (.setTec h))))
         (.ite (.canConfine (.setTec (.emit (.setEgress h)))) (.canEvent (.canConfine (.setTec (.emit (.setEgress h)))))))

theorem Keeps.wireDone {m : Nat} (h : Keeps s₀ s) : Keeps s₀ (s.wireDone m) := by
  unfold State.wireDone
  split
  · exact .setGcl h
  · exact h

theorem Ends.frameTransmitDone {iface pick : BitVec 8} {failed : Bool} (h : Keeps s₀ s) :
    Ends s₀ (execFrameTransmitDone iface pick failed s) := by
  unfold execFrameTransmitDone
  refine .ite (.done (.canTransmit h)) ?_
  refine .ite ?_ ?_
  · split
    · exact .ite (.done (.fbInc h)) (.done (.emit (.setEgress h)))
    · exact .done h
  · refine .ite ?_ (.done h)
    split
    · exact .ite (.done (.emit (.setEgress (.wireDone h)))) (.done h)
    · exact .done h

theorem Ends.endpointTxRecord {endpoint : Fin 256} (h : Keeps s₀ s) : Ends s₀ (execEndpointTxRecord endpoint s) := by
  unfold execEndpointTxRecord
  dsimp only
  split
  · exact .done h
  · refine .ite (.done h) ?_
    split
    next e =>
      have h' := Keeps.ofSnd e (.reach (.set h))
      exact .done (.ite (.flowInput h') (.fbInc (.set h')))
    next e => exact .done (.fbInc (.set (.ofSnd e (.reach (.set h)))))

theorem Keeps.reqFlowSet {at' : Attr} {pl : List Nat} (h : Keeps s₀ s) : Keeps s₀ (s.reqFlowSet at' pl).2 := by
  unfold State.reqFlowSet
  refine .iteSnd h ?_
  dsimp only
  split
  next e => exact .update (.wr (.ofSnd e (.reach h)))
  next e => exact .ofSnd e (.reach h)

theorem Keeps.reqMapSet {at' : Attr} {pl : List Nat} (h : Keeps s₀ s) : Keeps s₀ (s.reqMapSet at' pl).2 :=
  .iteSnd h (.update h)

theorem Keeps.reqDestSet {at' : Attr} {pl : List Nat} (h : Keeps s₀ s) : Keeps s₀ (s.reqDestSet at' pl).2 :=
  .iteSnd h (.update h)

theorem Keeps.reqEpOpen {at' : Attr} {pl : List Nat} (h : Keeps s₀ s) : Keeps s₀ (s.reqEpOpen at' pl).2 :=
  .iteSnd h (.set (.setEp (.set (.set (.set (.set h))))))

theorem Keeps.reqEpClose {at' : Attr} {pl : List Nat} (h : Keeps s₀ s) : Keeps s₀ (s.reqEpClose at' pl).2 := by
  unfold State.reqEpClose
  dsimp only
  split
  · exact h
  · exact .iteSnd h (.update (.set h))

/-! ## The bridges -/

theorem Keeps.fenceLog {n bridge attr addr cls : Nat} (h : Keeps s₀ s) : Keeps s₀ (s.fenceLog n bridge attr addr cls) :=
  .ite (.set (.set (.set (.set (.set (.set (.update (.fbInc (.inc h))))))))) (.inc (.update (.fbInc (.inc h))))

theorem Keeps.fencePage {f : State → State} {who : Agent} {n a : Nat} {write : Bool} (hk : ∀ s, Keeps s₀ s → Keeps s₀ (f s))
    (h : Keeps s₀ s) : Keeps s₀ (s.fencePage who n a write f) :=
  .ite (hk _ h) (.cadLog h)

theorem Keeps.fenceAck {n k : Nat} (h : Keeps s₀ s) : Keeps s₀ (s.fenceAck n k) :=
  .ite (.report h) (.ite (.report h) (.set (.set (.report h))))

theorem Ends.fenceLogAck {who : Agent} {group : Fin 16} {count : BitVec 5} (h : Keeps s₀ s) :
    Ends s₀ (execFenceLogAck who group count s) :=
  .done (.gateWrite (fun _ h' => .fencePage (fun _ h'' => .fenceAck h'') h') h)

theorem Keeps.unabort {n : Nat} (h : Keeps s₀ s) : Keeps s₀ (s.unabort n) := by
  unfold State.unabort
  split
  · exact .ite (.update (.fbSet (.fbSet (.set (.ite (.set h) (.set h)))))) h
  · exact h

theorem Keeps.abortRead {at' : Attr} {bridge addr : Nat} (h : Keeps s₀ s) : Keeps s₀ (s.abortRead at' bridge addr) :=
  .ite (.update (.fbInc (.fenceLog (.busError h)))) (.update (.fbInc (.fenceLog (.busError h))))

theorem Ends.lateCompletion (h : Keeps s₀ s) : Ends s₀ (execLateCompletion s) :=
  .ite (.done h) (.done (.fbInc (.update h)))

theorem Ends.farFailureReport {bridge : Fin 4} {group : Fin 16} {attr : BitVec 8} {addr : BitVec 48} {cls : FarClass}
    (h : Keeps s₀ s) : Ends s₀ (execFarFailureReport bridge group attr addr cls s) :=
  .done (.fenceLog h)

theorem Keeps.noteWritten {n p : Nat} (h : Keeps s₀ s) : Keeps s₀ (s.noteWritten n p) :=
  .update h

theorem Keeps.fenceStart {n : Nat} (h : Keeps s₀ s) : Keeps s₀ (s.fenceStart n) :=
  .ite (.foldl (fun _ _ h' => .emit h') h) (.update (.foldl (fun _ _ h' => .emit h') h))

theorem Ends.bridgeFence {who : Agent} {group : Fin 16} (h : Keeps s₀ s) : Ends s₀ (execBridgeFence who group s) :=
  .done (.gate (fun _ h' => .fencePage (fun _ h'' => .fenceStart h'') (.answer h')) h)

theorem Ends.bridgeFenceDone {group : Fin 16} (h : Keeps s₀ s) : Ends s₀ (execBridgeFenceDone group s) :=
  .ite (.done (.update (.answer (.unabort h)))) (.done (.unabort h))

theorem Keeps.iwWrite {w value : Nat} {en : Bool} (h : Keeps s₀ s) : Keeps s₀ (s.iwWrite w value en) :=
  .ite (.enWrite (fun _ h' => h') (fun _ h' => h') h) (.update (.enWrite (fun _ h' => h') (fun _ h' => h') h))

theorem Ends.inboundWindowEnable {who : Agent} {window : Fin 16} {value : BitVec 32} (h : Keeps s₀ s) :
    Ends s₀ (execInboundWindowEnable who window value s) :=
  .done (.gateWrite (fun _ h' => .iwWrite h') h)

theorem Keeps.inboundFail {pkg group here addr cls : Nat} (h : Keeps s₀ s) :
    Keeps s₀ (s.inboundFail pkg group here addr cls) :=
  .emit (.fenceLog h)

theorem Keeps.inbound {w pkg group addr target : Nat} {acc : BusOp} {ecc : EccEvent} (h : Keeps s₀ s) :
    Keeps s₀ (s.inbound w pkg group addr target acc ecc) := by
  unfold State.inbound
  dsimp only
  split
  · refine .ite (.busError h) ?_
    split
    next e =>
      have h' := Keeps.ofSnd e (.reach1 h)
      exact .ite (.busError h') (.answer (.seenLe h'))
    next e => exact .busError (.ofSnd e (.reach1 h))
  · refine .ite (.inboundFail h) ?_
    split
    next e =>
      have h' := Keeps.ofSnd e (.reach1 h)
      exact .ite (.inboundFail h') (.wr h')
    next e => exact .inboundFail (.ofSnd e (.reach1 h))
    next e => exact .inboundFail (.ofSnd e (.reach1 h))

theorem Keeps.serveInbound {r : Inbound} (h : Keeps s₀ s) : Keeps s₀ (s.serveInbound r) := by
  unfold State.serveInbound
  dsimp only
  split
  · refine .ite (.inbound h) ?_
    split
    · exact .busError h
    · exact .inboundFail h
  · split
    · exact .busError h
    · exact .inboundFail h

theorem Keeps.linkGoesDown {unsent : BitVec 16} (h : Keeps s₀ s) : Keeps s₀ (s.linkGoesDown unsent) :=
  .update (.foldl (fun _ _ h' => .fenceLog h') (.foldl (fun _ _ h' => .fbInc (.fenceLog (.busError h'))) h))

theorem Ends.pcieLinkUp (h : Keeps s₀ s) : Ends s₀ (execPcieLinkUp s) :=
  .done (.update h)

/-! ## Mailboxes -/

theorem Keeps.setMbox {m : Nat} {v : Mbox} (h : Keeps s₀ s) : Keeps s₀ (s.setMbox m v) :=
  .update h

theorem Keeps.flushLog {n : Nat} (h : Keeps s₀ s) : Keeps s₀ (s.flushLog n) :=
  .foldl (fun _ _ h' => by
    dsimp only
    split
    next e => exact .wr (.ofSnd e (.reach h'))
    next e => exact (.ofSnd e (.reach h'))) (.update h)

theorem Keeps.fwLog {n : Nat} (h : Keeps s₀ s) : Keeps s₀ (s.fwLog n) :=
  .ite (.flushLog (.update (.freeNat (.freeNat (.freeNat h))))) (.update (.freeNat (.freeNat (.freeNat h))))

theorem Ends.logFlush {processor : Fin 23} (h : Keeps s₀ s) : Ends s₀ (execLogFlush processor s) :=
  .done (.flushLog h)

theorem Keeps.mbDetach {m : Nat} (h : Keeps s₀ s) : Keeps s₀ (s.mbDetach m) :=
  .set (.set (.set h))

theorem Keeps.mbWrite {m : Nat} {bytes : List Nat} (h : Keeps s₀ s) : Keeps s₀ (s.mbWrite m bytes) := by
  unfold State.mbWrite
  dsimp only
  split
  next e => exact .raiseEdge (.set (.wr (.ofSnd e (.reach h))))
  next e => exact .set (.mbDetach (.ofSnd e (.reach h)))

theorem Keeps.flushNotices {m n : Nat} (h : Keeps s₀ s) : Keeps s₀ (s.flushNotices m n) := by
  induction n generalizing s with
  | zero => exact h
  | succ n ih =>
    unfold State.flushNotices
    split
    · exact h
    · exact .ite (ih (.mbWrite (.setMbox h))) h

theorem Keeps.mbNotice {m type : Nat} {payload : List Nat} (h : Keeps s₀ s) : Keeps s₀ (s.mbNotice m type payload) :=
  .ite (.flushNotices (.setMbox h)) h

theorem Keeps.orphanNotice {p cause : Nat} (h : Keeps s₀ s) : Keeps s₀ (s.orphanNotice p cause) :=
  .ite (.mbNotice h) h

theorem Keeps.orphan {p cause : Nat} (h : Keeps s₀ s) : Keeps s₀ (s.orphan p cause) :=
  .ite h
    (.orphanNotice (.fbInc (.update (.foldl (fun _ _ h' => .rollback h') (.foldl (fun _ _ h' => .setMbox h') (.set h))))))

theorem Keeps.checkDetached {p : Nat} (h : Keeps s₀ s) : Keeps s₀ (s.checkDetached p) :=
  .ite (.orphan h) h

theorem Keeps.resume {p : Nat} (h : Keeps s₀ s) : Keeps s₀ (s.resume p).2 :=
  .iteSnd
    (.orphanNotice (.fbInc (.foldl (fun _ _ h' => .setMbox h') (.foldl (fun _ _ h' => .ite (.setWindow h') h') (.set h)))))
    h

theorem Keeps.hbKick {who : Agent} (h : Keeps s₀ s) : Keeps s₀ (s.hbKick who) :=
  .update h

theorem Ends.heartbeatKick {who : Agent} (h : Keeps s₀ s) : Ends s₀ (execHeartbeatKick who s) :=
  .done (.gateWrite (fun _ h' => .hbKick h') h)

theorem Ends.heartbeatLapse {partition : Fin 64} (h : Keeps s₀ s) : Ends s₀ (execHeartbeatLapse partition s) :=
  .ite (.done (.orphan (.advanceTo h))) (.done h)

theorem Keeps.writeSuper {v : Nat} (h : Keeps s₀ s) : Keeps s₀ (s.writeSuper v) :=
  .set (.update h)

theorem Keeps.mbStart {m : Nat} (h : Keeps s₀ s) : Keeps s₀ (s.mbStart m) :=
  .setMbox (.set (.set (.set (.set h))))

theorem Keeps.mbStop {m : Nat} (h : Keeps s₀ s) : Keeps s₀ (s.mbStop m) :=
  .checkDetached (.mbDetach (.setMbox h))

theorem Ends.mailboxEnable {who : Agent} {mailbox : Fin 64} {value : BitVec 32} (h : Keeps s₀ s) :
    Ends s₀ (execMailboxEnable who mailbox value s) :=
  .done (.gateWrite (fun _ h' => .enWrite (fun _ h'' => .mbStart h'') (fun _ h'' => .mbStop h'') h') h)

theorem Ends.mailboxDisable {who : Agent} {mailbox : Fin 64} {value : BitVec 32} (h : Keeps s₀ s) :
    Ends s₀ (execMailboxDisable who mailbox value s) :=
  .done (.gateWrite (fun _ h' => .enWrite (fun _ h'' => .mbStart h'') (fun _ h'' => .mbStop h'') h') h)

theorem Keeps.mbPass {m : Nat} (h : Keeps s₀ s) : Keeps s₀ (s.mbPass m) :=
  .ite (.setMbox (.set h)) (.set h)

theorem Keeps.mbReply {m status : Nat} {r : MbRequest} {payload : List Nat} (h : Keeps s₀ s) :
    Keeps s₀ (s.mbReply m r status payload) :=
  .flushNotices (.mbWrite h)

theorem Keeps.mbCount {m c : Nat} (h : Keeps s₀ s) : Keeps s₀ (s.mbCount m c) :=
  .ite (.ite (.fbInc h) (.ite (.fbInc h) h)) (.fwLog (.ite (.fbInc h) (.ite (.fbInc h) h)))

theorem Keeps.mbServe {handler : State → Attr → List Nat → Answer} {m type : Nat}
    (hk : ∀ s a1 a2, Keeps s₀ s → Keeps s₀ (handler s a1 a2).2.2) (h : Keeps s₀ s) :
    Keeps s₀ (s.mbServe m type handler) := by
  unfold State.mbServe
  refine .ite h ?_
  split
  next e =>
    have h' := Keeps.ofSnd e (.reach h)
    exact .ite h' (.ite (.mbReply (.mbPass (.mbCount h'))) (.mbReply (.mbPass (.mbCount (hk _ _ _ h')))))
  next e => exact .mbPass (.ofSnd e (.reach h))

theorem Keeps.reqAttach {m : Nat} {at' : Attr} {pl : List Nat} (h : Keeps s₀ s) : Keeps s₀ (State.reqAttach m s at' pl).2.2 :=
  .iteSndSnd h (.resume (.setMbox (.set (.set (.set h)))))

theorem Ends.attach {mailbox : Fin 64} (h : Keeps s₀ s) : Ends s₀ (execAttach mailbox s) :=
  .done (.mbServe (fun _ _ _ h' => .reqAttach h') h)

theorem Ends.detach {mailbox : Fin 64} (h : Keeps s₀ s) : Ends s₀ (execDetach mailbox s) :=
  .done (.ite (.checkDetached (.mbServe (fun _ _ _ h' => .mbDetach h') h)) (.mbServe (fun _ _ _ h' => .mbDetach h') h))

theorem Keeps.ringReach {n i k : Nat} (h : Keeps s₀ s) : Keeps s₀ (s.ringReach n i k).2 :=
  .iteSnd h (.reach h)

theorem Keeps.reqLogRead {at' : Attr} {pl : List Nat} (h : Keeps s₀ s) : Keeps s₀ (s.reqLogRead at' pl).2.2 := by
  unfold State.reqLogRead
  refine .iteSndSnd h ?_
  dsimp only
  split
  next e => exact .ofSnd e (.ringReach h)
  next e => exact .ofSnd e (.ringReach h)

theorem Ends.logRead {mailbox : Fin 64} (h : Keeps s₀ s) : Ends s₀ (execLogRead mailbox s) :=
  .done (.mbServe (fun _ _ _ h' => .reqLogRead h') h)

theorem Ends.flowSet {mailbox : Fin 64} (h : Keeps s₀ s) : Ends s₀ (execFlowSet mailbox s) :=
  .done (.mbServe (fun _ _ _ h' => .reqFlowSet h') h)

theorem Ends.mapSet {mailbox : Fin 64} (h : Keeps s₀ s) : Ends s₀ (execMapSet mailbox s) :=
  .done (.mbServe (fun _ _ _ h' => .reqMapSet h') h)

theorem Ends.destSet {mailbox : Fin 64} (h : Keeps s₀ s) : Ends s₀ (execDestSet mailbox s) :=
  .done (.mbServe (fun _ _ _ h' => .reqDestSet h') h)

theorem Ends.epOpen {mailbox : Fin 64} (h : Keeps s₀ s) : Ends s₀ (execEpOpen mailbox s) :=
  .done (.mbServe (fun _ _ _ h' => .reqEpOpen h') h)

theorem Ends.epClose {mailbox : Fin 64} (h : Keeps s₀ s) : Ends s₀ (execEpClose mailbox s) :=
  .done (.mbServe (fun _ _ _ h' => .reqEpClose h') h)

/-! ## Requests to engine scheduler 0 -/

theorem Keeps.reqKvPool {at' : Attr} {pl : List Nat} (h : Keeps s₀ s) : Keeps s₀ (s.reqKvPool at' pl).2.2 :=
  .iteSndSnd (.setPool h) h

theorem Keeps.reqPoolClose {at' : Attr} {pl : List Nat} (h : Keeps s₀ s) : Keeps s₀ (s.reqPoolClose at' pl).2.2 :=
  .iteSndSnd h (.update h)

theorem Keeps.reqSeqOpen {at' : Attr} {pl : List Nat} (h : Keeps s₀ s) : Keeps s₀ (s.reqSeqOpen at' pl).2.2 := by
  unfold State.reqSeqOpen
  dsimp only
  split
  · exact .setRow (.freeNat h)
  · exact h

theorem Keeps.reqSeqClose {at' : Attr} {pl : List Nat} (h : Keeps s₀ s) : Keeps s₀ (s.reqSeqClose at' pl).2.2 :=
  .iteSndSnd (.setRow h) h

theorem Keeps.reqSeqRead {at' : Attr} {pl : List Nat} (h : Keeps s₀ s) : Keeps s₀ (s.reqSeqRead at' pl).2.2 :=
  .iteSndSnd h h

theorem Keeps.reqSpillFree {at' : Attr} {pl : List Nat} (h : Keeps s₀ s) : Keeps s₀ (s.reqSpillFree at' pl).2.2 :=
  .iteSndSnd (.setRow (.freePages h)) h

theorem Keeps.copyPage {p : KvPool} {src dst : Nat} (h : Keeps s₀ s) : Keeps s₀ (s.copyPage p src dst) := by
  unfold State.copyPage
  split
  next e =>
    have h' := Keeps.ofSnd e (.reach h)
    split
    next e => exact .wr (.ofSnd e (.reach h'))
    next e => exact .ofSnd e (.reach h')
  next e => exact .ofSnd e (.reach h)

theorem Keeps.evict {i r : Nat} (h : Keeps s₀ s) : Keeps s₀ (s.evict i r) := by
  unfold State.evict
  split
  · exact h
  · exact .ite (.fbInc (.setRow (.freePages (.setPool (.foldl (fun _ _ h' => .copyPage h') h)))))
      (.fbInc (.setRow (.freePages h)))

theorem Keeps.evictLoop {i n : Nat} {run ev run' ev' : List Nat} (h : Keeps s₀ s)
    (e : s.evictLoop i n run ev = some (run', ev', t)) : Keeps s₀ t := by
  induction n generalizing s run ev with
  | zero =>
    unfold State.evictLoop at e
    split at e
    · cases e
      exact h
    · cases e
  | succ n ih =>
    unfold State.evictLoop at e
    split at e
    · cases e
      exact h
    · split at e
      · cases e
      · exact ih (.evict h) e

theorem Keeps.reserve {i r lo hi : Nat} (h : Keeps s₀ s) : Keeps s₀ (s.reserve i r lo hi).2 := by
  unfold State.reserve
  split
  · exact h
  · exact .setRow (.setPool h)

theorem Keeps.join {i job : Nat} {e : StepEntry} (h : Keeps s₀ s) : Keeps s₀ (s.join i e job).2 := by
  unfold State.join
  split
  · exact h
  · exact .iteSnd (.fbInc (.foldl (fun _ _ h' => by
    split
    · exact .copyPage h'
    · exact h') (.reserve (.setRow h)))) (.reserve (.setRow h))

theorem Keeps.joinAll {i job : Nat} {es : List StepEntry} (h : Keeps s₀ s) : Keeps s₀ (s.joinAll i job es).2.2.2 := by
  induction es generalizing s with
  | nil => exact h
  | cons e es ih =>
    unfold State.joinAll
    exact .iteSndSndSnd h (ih (.join h))

theorem Keeps.reserveRun {i : Nat} {run : List Nat} (h : Keeps s₀ s) : Keeps s₀ (s.reserveRun i run).2 :=
  .foldlSnd (fun _ _ h' => .reserve h') h

theorem Keeps.stepRun {i a : Nat} {out : List (Nat × Nat)} (h : Keeps s₀ s) (e : s.stepRun i a = some (out, t)) :
    Keeps s₀ t := by
  unfold State.stepRun at e
  split at e
  · cases e
  · dsimp only at e
    split at e
    · cases e
    next e' =>
      have h₁ := Keeps.evictLoop (.foldl (fun _ _ h' => .setRow h') h) e'
      cases e
      refine .foldl (fun _ _ h' => .fbInc h') (.update ?_)
      split
      · exact .setPool (.joinAll (.reserveRun (.foldl (fun _ _ h' => .setRow h') h₁)))
      · exact .joinAll (.reserveRun (.foldl (fun _ _ h' => .setRow h') h₁))

theorem Keeps.reqKvStep {at' : Attr} {pl : List Nat} (h : Keeps s₀ s) : Keeps s₀ (s.reqKvStep at' pl).2.2 := by
  unfold State.reqKvStep
  dsimp only
  refine .iteSndSnd h ?_
  split
  next e =>
    have h₁ := Keeps.ofSnd e (.reach h)
    split
    next e =>
      have h₂ := Keeps.ofSnd e (.reach h₁)
      refine .iteSndSnd h₂ ?_
      split
      · exact .fbInc h₂
      next e =>
        have h₃ := Keeps.stepRun h₂ e
        split
        · exact .wr (.wr (.wr h₃))
        next e => exact .ofSnd e (.reach h₂)
    next e => exact .ofSnd e (.reach h₁)
  next e => exact .ofSnd e (.reach h)

theorem Keeps.reqTrainOpen {at' : Attr} {pl : List Nat} (h : Keeps s₀ s) : Keeps s₀ (s.reqTrainOpen at' pl).2.2 := by
  unfold State.reqTrainOpen
  refine .iteSndSnd h ?_
  split
  next e =>
    have h' := Keeps.ofSnd e (.reach h)
    split
    next e =>
      have h'' := Keeps.ofSnd e (.reach h')
      exact .iteSndSnd h'' (.update h'')
    next e => exact .ofSnd e (.reach h')
  next e => exact .ofSnd e (.reach h)

theorem Keeps.reqTrainCkpt {at' : Attr} {pl : List Nat} (h : Keeps s₀ s) : Keeps s₀ (s.reqTrainCkpt at' pl).2.2 := by
  unfold State.reqTrainCkpt
  refine .iteSndSnd h ?_
  split
  · exact h
  · exact .update h

theorem Keeps.reqTrainClose {at' : Attr} {pl : List Nat} (h : Keeps s₀ s) : Keeps s₀ (s.reqTrainClose at' pl).2.2 :=
  .iteSndSnd (.sessionSettle (.update h)) h

theorem Keeps.reqCollGroup {at' : Attr} {pl : List Nat} (h : Keeps s₀ s) : Keeps s₀ (s.reqCollGroup at' pl).2.2 :=
  .iteSndSnd (.update h) h

theorem Keeps.reqCollClose {at' : Attr} {pl : List Nat} (h : Keeps s₀ s) : Keeps s₀ (s.reqCollClose at' pl).2.2 :=
  .iteSndSnd (.update h) h

theorem Ends.kvPool {mailbox : Fin 64} (h : Keeps s₀ s) : Ends s₀ (execKvPool mailbox s) :=
  .done (.mbServe (fun _ _ _ h' => .reqKvPool h') h)

theorem Ends.kvPoolClose {mailbox : Fin 64} (h : Keeps s₀ s) : Ends s₀ (execKvPoolClose mailbox s) :=
  .done (.mbServe (fun _ _ _ h' => .reqPoolClose h') h)

theorem Ends.seqOpen {mailbox : Fin 64} (h : Keeps s₀ s) : Ends s₀ (execSeqOpen mailbox s) :=
  .done (.mbServe (fun _ _ _ h' => .reqSeqOpen h') h)

theorem Ends.seqClose {mailbox : Fin 64} (h : Keeps s₀ s) : Ends s₀ (execSeqClose mailbox s) :=
  .done (.mbServe (fun _ _ _ h' => .reqSeqClose h') h)

theorem Ends.seqRead {mailbox : Fin 64} (h : Keeps s₀ s) : Ends s₀ (execSeqRead mailbox s) :=
  .done (.mbServe (fun _ _ _ h' => .reqSeqRead h') h)

theorem Ends.kvStep {mailbox : Fin 64} (h : Keeps s₀ s) : Ends s₀ (execKvStep mailbox s) :=
  .done (.mbServe (fun _ _ _ h' => .reqKvStep h') h)

theorem Ends.spillFree {mailbox : Fin 64} (h : Keeps s₀ s) : Ends s₀ (execSpillFree mailbox s) :=
  .done (.mbServe (fun _ _ _ h' => .reqSpillFree h') h)

theorem Ends.trainOpen {mailbox : Fin 64} (h : Keeps s₀ s) : Ends s₀ (execTrainOpen mailbox s) :=
  .done (.mbServe (fun _ _ _ h' => .reqTrainOpen h') h)

theorem Ends.trainCkpt {mailbox : Fin 64} (h : Keeps s₀ s) : Ends s₀ (execTrainCkpt mailbox s) :=
  .done (.mbServe (fun _ _ _ h' => .reqTrainCkpt h') h)

theorem Ends.trainClose {mailbox : Fin 64} (h : Keeps s₀ s) : Ends s₀ (execTrainClose mailbox s) :=
  .done (.mbServe (fun _ _ _ h' => .reqTrainClose h') h)

theorem Ends.collGroup {mailbox : Fin 64} (h : Keeps s₀ s) : Ends s₀ (execCollGroup mailbox s) :=
  .done (.mbServe (fun _ _ _ h' => .reqCollGroup h') h)

theorem Ends.collClose {mailbox : Fin 64} (h : Keeps s₀ s) : Ends s₀ (execCollClose mailbox s) :=
  .done (.mbServe (fun _ _ _ h' => .reqCollClose h') h)

/-! ## The PMU controller -/

theorem Keeps.setPmu {p : Pmu} (h : Keeps s₀ s) : Keeps s₀ (s.setPmu p) :=
  .update h

theorem Keeps.withdrawGrant (h : Keeps s₀ s) : Keeps s₀ s.withdrawGrant :=
  .ite (.sessionClose (.update (.set (.fbInc (.fbSet h))))) h

theorem Keeps.openSession (h : Keeps s₀ s) : Keeps s₀ s.openSession :=
  .ite (.update (.fbSet h)) h

theorem Keeps.tryGrant (h : Keeps s₀ s) : Keeps s₀ s.tryGrant :=
  .ite (.set (.fbSet h)) h

theorem Keeps.setPointT {c v : Nat} (h : Keeps s₀ s) : Keeps s₀ (s.setPointT c v) :=
  .setPmu h

theorem Keeps.operatingPoint {w : OpenWindow} (h : Keeps s₀ s) : Keeps s₀ (s.operatingPoint w) :=
  .ite h (.ite (.foldl (fun _ _ h' => .ite h' (.setPointT h')) h) (.ite (.ite h (.setPmu h)) h))

theorem Ends.ceilingLower (h : Keeps s₀ s) : Ends s₀ (execCeilingLower s) :=
  .ite (.done (.setPmu (.advanceTo h))) (.done h)

theorem Ends.ceilingRaise (h : Keeps s₀ s) : Ends s₀ (execCeilingRaise s) :=
  .ite (.done (.setPmu (.advanceTo h))) (.done h)

theorem Keeps.shedOne (h : Keeps s₀ s) : Keeps s₀ s.shedOne :=
  .foldl (fun _ _ h' => .ite h' (.ite (.foldl (fun _ _ h'' => .ite h'' (.setPointT h'')) h') (.ite (.setPmu h') h')))
    (.foldl (fun _ _ h' => .preemptOwn h') h)

theorem Keeps.shedTwo (h : Keeps s₀ s) : Keeps s₀ s.shedTwo :=
  .readmit (.foldl (fun _ _ h' => .killFree (.fbInc h')) (.withdrawGrant h))

theorem Keeps.shedTo {n : Nat} (h : Keeps s₀ s) : Keeps s₀ (s.shedTo n) := by
  unfold State.shedTo
  dsimp only
  split
  · exact .shedOne (.setPmu (.set (.fbSet h)))
  · exact .shedTwo (.setPmu (.set (.fbSet h)))
  · exact .ite (.setPmu (.set (.fbSet h))) (.setPmu (.setPmu (.set (.fbSet h))))
  · exact .setPmu (.set (.fbSet h))

theorem Ends.shedStep (h : Keeps s₀ s) : Ends s₀ (execShedStep s) :=
  .ite (.done (.shedTo (.advanceTo h))) (.done h)

theorem Ends.shedUndo (h : Keeps s₀ s) : Ends s₀ (execShedUndo s) := by
  unfold execShedUndo
  split
  · exact .ite (.done (.setPmu (.set (.fbSet (.advanceTo h))))) (.done h)
  · exact .done h

theorem Keeps.pmuEnter {n : Nat} (h : Keeps s₀ s) : Keeps s₀ (s.pmuEnter n) := by
  unfold State.pmuEnter
  refine .ite h ?_
  dsimp only
  split
  · exact .setPmu (.ite (.setPmu (.set (.fbSet h))) (.set (.fbSet h)))
  · exact .setPmu (.fbInc (.ite (.setPmu (.set (.fbSet h))) (.set (.fbSet h))))
  · exact .ite (.shedTo (.withdrawGrant (.fbInc (.ite (.setPmu (.set (.fbSet h))) (.set (.fbSet h))))))
      (.setPmu (.withdrawGrant (.fbInc (.ite (.setPmu (.set (.fbSet h))) (.set (.fbSet h))))))
  · exact .withdrawGrant (.ite (.setPmu (.set (.fbSet h))) (.set (.fbSet h)))

theorem Ends.pmuLoop {hot power : BitVec 16} {rails : BitVec 20} (h : Keeps s₀ s) :
    Ends s₀ (execPmuLoop hot power rails s) := by
  unfold execPmuLoop
  refine .ite (.done h) (.done (.openSession (.tryGrant ?_)))
  split
  · exact .ite (.withdrawGrant (.pmuEnter (.setPmu (.setPmu (.fbSet (.fbSet h))))))
      (.pmuEnter (.setPmu (.setPmu (.fbSet (.fbSet h)))))
  · exact .pmuEnter (.setPmu (.setPmu (.fbSet (.fbSet h))))

theorem Ends.avsTrim {domain : Fin 20} {mv : Int} (h : Keeps s₀ s) : Ends s₀ (execAvsTrim domain mv s) :=
  .ite (.done h) (.done (.setPmu h))

theorem Ends.railDroop (h : Keeps s₀ s) : Ends s₀ (execRailDroop s) :=
  .done (.set (.fbInc h))

theorem Keeps.killDomain {d code : Nat} (h : Keeps s₀ s) : Keeps s₀ (s.killDomain d code) :=
  .ite (.foldl (fun _ _ h' => .killFree h') h)
    (.ite (.foldl (fun _ _ h' => .failGfx h') h) (.ite (.failMedia h) (.ite (.killPlan h) h)))

theorem Keeps.plumbStop (h : Keeps s₀ s) : Keeps s₀ s.plumbStop := by
  unfold State.plumbStop
  exact .killPlan (.killPlumb (.update (.set h)))

theorem Ends.railFault {domains : BitVec 20} (h : Keeps s₀ s) : Ends s₀ (execRailFault domains s) :=
  .done (.readmit (.foldl (fun _ _ h' => .ite (.killDomain h') h')
      (.setPmu (.ite (.declareSafe (.ite (.plumbStop (.set h)) (.set h))) (.ite (.plumbStop (.set h)) (.set h))))))

theorem Keeps.leaseCount {c : Nat} (h : Keeps s₀ s) : Keeps s₀ (s.leaseCount c) :=
  .ite (.fbInc h) h

theorem Keeps.switchDomain {d : Nat} {on : Bool} (h : Keeps s₀ s) : Keeps s₀ (s.switchDomain d on) :=
  .ite h (.ite (.foldl (fun _ _ h' => .ite (.set h') (.loseStores (.set h'))) (.set h)) (.set h))

theorem Keeps.reqPdSet {at' : Attr} {pl : List Nat} (h : Keeps s₀ s) : Keeps s₀ (s.reqPdSet at' pl).2.2 :=
  .iteSndSnd (.switchDomain h) (.leaseCount h)

theorem Keeps.switchClock {n : Nat} {on : Bool} (h : Keeps s₀ s) : Keeps s₀ (s.switchClock n on) :=
  .set h

theorem Keeps.reqClkSet {at' : Attr} {pl : List Nat} (h : Keeps s₀ s) : Keeps s₀ (s.reqClkSet at' pl).2.2 :=
  .iteSndSnd (.switchClock h) (.leaseCount h)

theorem Keeps.reqSleep {at' : Attr} {pl : List Nat} (h : Keeps s₀ s) : Keeps s₀ (s.reqSleep at' pl).2.2 :=
  .iteSndSnd (.setPmu h) (.leaseCount h)

theorem Keeps.reqPowerStatus {x1 : Attr} {x2 : List Nat} (h : Keeps s₀ s) : Keeps s₀ (s.reqPowerStatus x1 x2).2.2 :=
  h

theorem Ends.pdSet {mailbox : Fin 64} (h : Keeps s₀ s) : Ends s₀ (execPdSet mailbox s) :=
  .done (.mbServe (fun _ _ _ h' => .reqPdSet h') h)

theorem Ends.clkSet {mailbox : Fin 64} (h : Keeps s₀ s) : Ends s₀ (execClkSet mailbox s) :=
  .done (.mbServe (fun _ _ _ h' => .reqClkSet h') h)

theorem Ends.sleep {mailbox : Fin 64} (h : Keeps s₀ s) : Ends s₀ (execSleep mailbox s) :=
  .done (.mbServe (fun _ _ _ h' => .reqSleep h') h)

theorem Ends.powerStatus {mailbox : Fin 64} (h : Keeps s₀ s) : Ends s₀ (execPowerStatus mailbox s) :=
  .done (.mbServe (fun _ _ _ h' => .reqPowerStatus h') h)

/-! ## Firmware update -/

theorem Keeps.setUpdate {k : Nat} {u : Update} (h : Keeps s₀ s) : Keeps s₀ (s.setUpdate k u) :=
  .update h

theorem Keeps.setUpd {k v : Nat} (h : Keeps s₀ s) : Keeps s₀ (s.setUpd k v) :=
  .ite h (.set (.fbSet h))

theorem Keeps.stage {k : Nat} {image : List Nat} (h : Keeps s₀ s) : Keeps s₀ (s.stage k image) :=
  .setUpd (.setUpdate (.update h))

theorem Ends.stageWriteDone {kind : Fin 3} {good : Bool} (h : Keeps s₀ s) : Ends s₀ (execStageWriteDone kind good s) :=
  .ite (.done h) (.ite (.done (.setUpd (.fbSet (.setUpdate (.update h))))) (.done (.setUpd (.setUpdate (.update h)))))

theorem Keeps.activate {k : Nat} (h : Keeps s₀ s) : Keeps s₀ (s.activate k).2 :=
  .iteSnd (.setUpd h) h

theorem Keeps.beginWrite {k : Nat} (h : Keeps s₀ s) : Keeps s₀ (s.beginWrite k) :=
  .setUpdate h

theorem Keeps.beginSwitch (h : Keeps s₀ s) : Keeps s₀ s.beginSwitch :=
  .update (.setUpd (.foldl (fun _ _ h' => .ite h' (.set h')) (.foldl (fun _ _ h' => .ite (.mbDetach (.mbNotice h')) h') h)))

theorem Keeps.activations (h : Keeps s₀ s) : Keeps s₀ s.activations :=
  .foldl (fun _ _ h' => .ite h' (.ite (.fbInc h') (.ite (.beginSwitch h') (.beginWrite h')))) h

theorem Ends.activationWriteDone {kind : Fin 3} (h : Keeps s₀ s) : Ends s₀ (execActivationWriteDone kind s) :=
  .ite (.done h)
    (.ite (.done (.fbSet (.fbInc (.setUpd (.setUpdate (.update h)))))) (.done (.setUpd (.setUpdate (.update h)))))

theorem Keeps.failSwitch (h : Keeps s₀ s) : Keeps s₀ s.failSwitch := by
  unfold State.failSwitch
  split
  · exact h
  · exact .update (.fbInc (.setUpd (.foldl (fun _ _ h' => .ite (.set h') h') h)))

theorem Ends.fwSwitchReadyTimeout (h : Keeps s₀ s) : Ends s₀ (execFwSwitchReadyTimeout s) := by
  unfold execFwSwitchReadyTimeout
  split
  · exact .done (.failSwitch (.advanceTo h))
  · exact .done h

theorem Keeps.rollbackCommit {k : Nat} (h : Keeps s₀ s) : Keeps s₀ (s.rollbackCommit k).2 :=
  .iteSnd h (.fbSet (.update h))

/-! ## Field Book Access and its journal -/

theorem Keeps.setFba {f : Fba} (h : Keeps s₀ s) : Keeps s₀ (s.setFba f) :=
  .update h

theorem Keeps.strike {src : FbaSource} (h : Keeps s₀ s) : Keeps s₀ (s.strike src) :=
  .ite h (.ite (.fbInc (.setFba h)) (.setFba h))

theorem Ends.muteExpiry {source : FbaSource} (h : Keeps s₀ s) : Ends s₀ (execMuteExpiry source s) := by
  unfold execMuteExpiry
  split
  · exact .done (.setFba (.advanceTo h))
  · exact .done h

theorem Ends.violationCountClear (h : Keeps s₀ s) : Ends s₀ (execViolationCountClear s) :=
  .done (.setFba (.advanceTo h))

theorem Keeps.setFbaSession {n : Nat} {x : FbaSession} (h : Keeps s₀ s) : Keeps s₀ (s.setFbaSession n x) :=
  .setFba h

theorem Keeps.fbaClose {n : Nat} (h : Keeps s₀ s) : Keeps s₀ (s.fbaClose n) :=
  .fbSet (.setFba h)

theorem Keeps.fbaTouch {n : Nat} (h : Keeps s₀ s) : Keeps s₀ (s.fbaTouch n) := by
  unfold State.fbaTouch
  split
  · exact .setFbaSession h
  · exact h

theorem Ends.sessionIdleTimeout {session : Fin 16} (h : Keeps s₀ s) : Ends s₀ (execSessionIdleTimeout session s) := by
  unfold execSessionIdleTimeout
  split
  · exact .done (.setFba (.fbaClose (.advanceTo h)))
  · exact .done h

theorem Keeps.fbaSend {r : FbaReq} {msg : List Nat} (h : Keeps s₀ s) : Keeps s₀ (s.fbaSend r msg) := by
  unfold State.fbaSend
  split
  · exact .ite (.emit h) (.emit (.freeNats h))
  · exact .emit h
  · exact .mbReply (.mbPass (.setMbox h))

theorem Keeps.fbaTally {status : Nat} (h : Keeps s₀ s) : Keeps s₀ (s.fbaTally status) :=
  .ite (.fbInc h) (.ite (.fbInc h) (.ite (.fbInc h) h))

theorem Keeps.fbaRespond {r : FbaReq} {status : Nat} {value : List Nat} (h : Keeps s₀ s) :
    Keeps s₀ (s.fbaRespond r status value) := by
  unfold State.fbaRespond
  refine .ite (.fbaSend (.fbaTally h)) ?_
  split
  · exact .ite (.fbaClose (.fbaSend (.setFbaSession (.fbaTally h)))) (.fbaSend (.setFbaSession (.fbaTally h)))
  · exact .fbaSend (.fbaTally h)

theorem Keeps.fbaTake {r : FbaReq} (h : Keeps s₀ s) : Keeps s₀ (s.fbaTake r) := by
  unfold State.fbaTake
  refine .ite (.strike (.fbaRespond (.fwLog (.fbInc h)))) ?_
  refine .ite (.fbaRespond (.ite (.fbInc h) h)) (.setFba ?_)
  split
  · exact .setMbox h
  · exact h

theorem Keeps.fbaArrive {src : FbaSource} {fmt : Nat} {bytes : List Nat} (h : Keeps s₀ s) :
    Keeps s₀ (s.fbaArrive src fmt bytes) :=
  .ite h (.fbaTake h)

theorem Keeps.fbaMailbox {m : Fin 64} (h : Keeps s₀ s) : Keeps s₀ (s.fbaMailbox m) := by
  unfold State.fbaMailbox
  refine .ite h ?_
  split
  next e =>
    have h' := Keeps.ofSnd e (.reach h)
    exact .ite h' (.ite (.mbReply (.mbPass (.mbCount h'))) (.fbaTake h'))
  next e => exact .mbPass (.ofSnd e (.reach h))

theorem Ends.fbaRequestReceived {carrier : FbaCarrier} {bytes : List Byte} (h : Keeps s₀ s) :
    Ends s₀ (execFbaRequestReceived carrier bytes s) := by
  unfold execFbaRequestReceived
  refine .ite (.done h) ?_
  split
  · exact .ite (.done (.fbaArrive h)) (.done h)
  · exact .ite (.done (.fbaArrive h)) (.done h)
  · exact .done (.fbaMailbox h)

theorem Keeps.setJCopy {c : Nat} {v : JournalCopy} (h : Keeps s₀ s) : Keeps s₀ (s.setJCopy c v) :=
  .setFba h

theorem Keeps.jProgram {a : Nat} {bs : List Nat} (h : Keeps s₀ s) : Keeps s₀ (s.jProgram a bs) :=
  .update h

theorem Keeps.repair {c : Nat} {x : JournalSlot} (h : Keeps s₀ s) : Keeps s₀ (s.repair c x) :=
  .ite h (.fbInc (.setJCopy (.jProgram h)))

theorem Keeps.applyRecord {x : JournalSlot} (h : Keeps s₀ s) : Keeps s₀ (s.applyRecord x) := by
  unfold State.applyRecord
  split
  · exact .ite (.fbSet h) h
  · exact h

theorem Keeps.journalScan (h : Keeps s₀ s) : Keeps s₀ s.journalScan :=
  .setFba (.foldl (fun _ _ h' => .applyRecord h')
     (.foldl (fun _ _ h' => .ite h' (.repair h'))
        (.foldl (fun _ _ h' => .ite h' (.repair h'))
           (.foldl (fun _ _ h' => .ite (.fbInc h') (.ite (.fbInc h') h')) (.setJCopy (.setJCopy h))))))

theorem Keeps.beginRecord {r : FbaReq} {i sub type size v : Nat} {opens : Option FbaSession} (h : Keeps s₀ s) :
    Keeps s₀ (s.beginRecord r i sub type size v opens) :=
  .setFba (.jProgram h)

theorem Keeps.commitCopy {c : Nat} (h : Keeps s₀ s) : Keeps s₀ (s.commitCopy c) :=
  .setJCopy (.jProgram h)

theorem Keeps.fbaOpened {r : FbaReq} {x : FbaSession} (h : Keeps s₀ s) : Keeps s₀ (s.fbaOpened r x) := by
  unfold State.fbaOpened
  dsimp only
  split
  · exact .fbaSend (.fbaTally (.fbSet (.setFba (.setFbaSession (.fbaClose h)))))
  · exact .fbaSend (.fbaTally (.fbSet (.setFba (.setFbaSession (.fbaClose h)))))

theorem Keeps.commitRecord {j : JournalRecord} (h : Keeps s₀ s) : Keeps s₀ (s.commitRecord j) := by
  unfold State.commitRecord
  dsimp only
  split
  · exact .fbaOpened (.fbInc (.fbSet h))
  · exact .fbaRespond (.fbInc (.fbSet h))
  · exact .fbInc (.fbSet h)

theorem Keeps.endRecord (h : Keeps s₀ s) : Keeps s₀ s.endRecord :=
  .ite (.setFba h) (.ite (.setFba (.setFba h)) (.ite (.setFba (.setFba h)) (.setFba h)))

theorem Keeps.copyADone (h : Keeps s₀ s) : Keeps s₀ s.copyADone := by
  unfold State.copyADone
  split
  · exact .ite (.ite (.endRecord (.commitRecord (.commitCopy h))) (.setFba (.jProgram (.commitRecord (.commitCopy h)))))
      h
  · exact h

theorem Keeps.copyBDone (h : Keeps s₀ s) : Keeps s₀ s.copyBDone := by
  unfold State.copyBDone
  split
  · exact .ite (.endRecord (.ite (.commitRecord (.commitCopy h)) (.commitCopy h))) h
  · exact h

theorem Ends.journalCopyACommit (h : Keeps s₀ s) : Ends s₀ (execJournalCopyACommit s) :=
  .done (.copyADone h)

theorem Ends.journalCopyBDone (h : Keeps s₀ s) : Ends s₀ (execJournalCopyBDone s) :=
  .done (.copyBDone h)

theorem Ends.compactionDone (h : Keeps s₀ s) : Ends s₀ (execCompactionDone s) := by
  unfold execCompactionDone
  split
  · exact .ite (.done h) (.done (.setFba (.fbInc (.setJCopy (.update (.jProgram (.foldl (fun _ _ h' => by
    dsimp only
    split
    · exact .jProgram h'
    · exact h') (.update h))))))))
  · exact .done h

theorem Keeps.fbaAdmit {r : FbaReq} (h : Keeps s₀ s) : Keeps s₀ (s.fbaAdmit r).2.2 := by
  unfold State.fbaAdmit
  refine .iteSndSnd ?_ ?_
  · split
    · exact .iteSndSnd h (.iteSndSnd (.strike h) (.iteSndSnd h (.setFbaSession h)))
    · exact h
  · split
    · exact h
    · refine .iteSndSnd h ?_
      split
      · exact .iteSndSnd (.fbaTouch h) h
      · exact h

theorem Keeps.fbaRevive {n : Nat} (h : Keeps s₀ s) : Keeps s₀ (s.fbaRevive n) := by
  unfold State.fbaRevive
  split
  · exact .ite (.setFba (.fbSet (.setFbaSession h))) h
  · exact h

theorem Keeps.fbaSessionStep {r : FbaReq} (h : Keeps s₀ s) : Keeps s₀ (s.fbaSessionStep r).2.2 :=
  .iteSndSnd (.fbaAdmit (.fbaRevive h)) (.fbaAdmit h)

theorem Keeps.fbaVolatile {i sub v : Nat} (h : Keeps s₀ s) : Keeps s₀ (s.fbaVolatile i sub v).2 := by
  unfold State.fbaVolatile
  split
  · exact .rebaseRequest h
  · exact .ite (.sessionClose (.withdrawGrant (.fbSet h))) (.openSession (.tryGrant (.fbSet h)))
  · exact .activate h
  · exact .rollbackCommit h
  · exact .fbSet h

theorem Keeps.fbaWrite {r : FbaReq} (h : Keeps s₀ s) : Keeps s₀ (s.fbaWrite r) := by
  unfold State.fbaWrite
  dsimp only
  split
  · exact .ite (.ite (.fbaRespond (.fbInc h)) (.ite (.fbaRespond h) (.beginRecord h))) (.fbaRespond (.fbaVolatile h))
  · exact h

theorem Keeps.fbaOpen {r : FbaReq} (h : Keeps s₀ s) : Keeps s₀ (s.fbaOpen r) := by
  unfold State.fbaOpen
  dsimp only
  exact .ite (.fbaRespond h) (.ite (.fbaRespond h) (.beginRecord (.freeNats h)))

theorem Keeps.fbaOperate {r : FbaReq} {level : Nat} (h : Keeps s₀ s) : Keeps s₀ (s.fbaOperate r level) := by
  unfold State.fbaOperate
  refine .ite (.fbaClose (.fbaRespond h)) ?_
  refine .ite ?_ ?_
  · split
    · exact .fbaRespond h
    · exact .fbaRespond h
  · refine .ite (.fbaRespond h) (.ite (.fbaWrite h) ?_)
    split
    · exact .fbaRespond h
    · exact h

theorem Keeps.fbaServe {op : Nat} (h : Keeps s₀ s) : Keeps s₀ (s.fbaServe op) := by
  unfold State.fbaServe
  split
  · exact h
  · exact .ite h
      (.ite (.ite (.fbaOpen (.setFba h)) (.ite (.fbaRespond (.strike (.setFba h))) (.fbaRespond (.setFba h))))
         (.ite (.fbaRespond (.fbaSessionStep (.setFba h))) (.fbaOperate (.fbaSessionStep (.setFba h)))))

theorem Ends.fbaRead (h : Keeps s₀ s) : Ends s₀ (execFbaRead s) :=
  .done (.fbaServe h)

theorem Ends.fbaWrite (h : Keeps s₀ s) : Ends s₀ (execFbaWrite s) :=
  .done (.fbaServe h)

theorem Ends.fbaDescribe (h : Keeps s₀ s) : Ends s₀ (execFbaDescribe s) :=
  .done (.fbaServe h)

theorem Ends.fbaOpen (h : Keeps s₀ s) : Ends s₀ (execFbaOpen s) :=
  .done (.fbaServe h)

theorem Ends.fbaClose (h : Keeps s₀ s) : Ends s₀ (execFbaClose s) :=
  .done (.fbaServe h)

/-! ## The firmware watchdogs -/

theorem Keeps.fwRestartCount {n : Nat} (h : Keeps s₀ s) : Keeps s₀ (s.fwRestartCount n) :=
  .update h

theorem Keeps.fwKick {who : Agent} {n key : Nat} (h : Keeps s₀ s) : Keeps s₀ (s.fwKick who n key) :=
  .ite (.ite (.fwRestartCount h) h) (.cadLog h)

theorem Ends.fwWatchdogKick {who : Agent} {n : Fin 23} {key : BitVec 16} (h : Keeps s₀ s) :
    Ends s₀ (execFwWatchdogKick who n key s) :=
  .done (.gateWrite (fun _ h' => .fwKick h') h)

theorem Keeps.writeFwdCtrl {who : Agent} {n v : Nat} (h : Keeps s₀ s) : Keeps s₀ (s.writeFwdCtrl who n v) :=
  .ite (.report (.ite (.setBit h) h))
    (.ite (.report h)
       (.ite (.fwRestartCount (.set (.report (.ite (.setBit (.set h)) (.set h)))))
          (.report (.ite (.setBit (.set h)) (.set h)))))

theorem Ends.fwWatchdogTestExpiry {n : Fin 23} (h : Keeps s₀ s) : Ends s₀ (execFwWatchdogTestExpiry n s) :=
  .ite (.done (.fwRestartCount (.set (.advanceTo h)))) (.done h)

theorem Keeps.killFw {test : Nat → Nat → Bool} (h : Keeps s₀ s) : Keeps s₀ (s.killFw test) :=
  .foldl (fun _ _ h' => .ite (.killFree h') h') h

theorem Keeps.abandonRecord (h : Keeps s₀ s) : Keeps s₀ s.abandonRecord := by
  unfold State.abandonRecord
  refine .setFba ?_
  split
  · split
    · split
      · exact .setMbox h
      · exact h
    · exact h
  · exact h

theorem Keeps.replan (h : Keeps s₀ s) : Keeps s₀ s.replan := by
  unfold State.replan
  split
  · exact h
  · split
    · exact .ite (.setPlan (.set (.setCx (.spendRestart h)))) (.killPlan h)
    · exact .killPlan h

theorem Keeps.fwEnds {n : Nat} (h : Keeps s₀ s) : Keeps s₀ (s.fwEnds n) := by
  unfold State.fwEnds
  refine .ite (.killFw h) ?_
  split
  · exact .killFw h
  · exact .killFw h
  · exact .foldl (fun _ _ h' => .failGfx h') h
  · exact .failMedia h
  · exact .abandonRecord h
  · exact .replan h
  · exact h

theorem Keeps.fwFail {n : Nat} (h : Keeps s₀ s) : Keeps s₀ (s.fwFail n) :=
  .ite (.ite (.fbInc (.set h)) (.degrade (.fbInc (.set (.fbInc (.set h))))))
    (.ite (.pmuEnter (.fbInc (.set h))) (.fbInc (.set h)))

theorem Ends.fwWatchdogExpiry {n : Fin 23} (h : Keeps s₀ s) : Ends s₀ (execFwWatchdogExpiry n s) := by
  unfold execFwWatchdogExpiry
  extract_lets _ _ _ _ _ _ s₄ t₁ t₂
  have h₄ : Keeps s₀ s₄ := .update (.fwLog (.emit (.fbInc (.raiseEdge (.inc (.set (.advanceTo h)))))))
  have ht₁ : Keeps s₀ t₁ := .fwEnds h₄
  have ht₂ : Keeps s₀ t₂ := .ite (.set (.failSwitch ht₁)) ht₁
  exact .ite (.done (.readmit (.ite (.fwFail ht₂) ht₂))) (.done h)

theorem Keeps.answerRetries (h : Keeps s₀ s) : Keeps s₀ s.answerRetries :=
  .foldl (fun _ _ h' => .ite (.mbReply (.mbPass (.setMbox h'))) h') h

theorem Keeps.switchReady {n : Nat} (h : Keeps s₀ s) : Keeps s₀ (s.switchReady n) := by
  unfold State.switchReady
  split
  · exact h
  · exact .ite (.beginWrite (.update h)) (.update h)

theorem Ends.fwProcessorReady {n : Fin 23} (h : Keeps s₀ s) : Ends s₀ (execFwProcessorReady n s) :=
  .ite (.done h)
    (.done (.switchReady (.ite (.answerRetries (.journalScan (.fwRestartCount (.set h)))) (.fwRestartCount (.set h)))))

/-! ## Resets, boot, sleep and debug access -/

theorem Keeps.loadFuses (h : Keeps s₀ s) : Keeps s₀ s.loadFuses :=
  .setBit (.set (.set (.set (.set h))))

/-- The device after a reset keeps the queue and has no memory. -/
theorem Keeps.cleared {keep : Nat → Bool} (h : Keeps s₀ s) : Keeps s₀ (s.cleared keep) :=
  .loadFuses ⟨h.pending, fun _ => by rfl⟩

theorem Keeps.bootRom (h : Keeps s₀ s) : Keeps s₀ s.bootRom :=
  .update (.foldl (fun _ _ h' => .set h') (.set (.set h)))

theorem Keeps.bootFailure {c : Nat} (h : Keeps s₀ s) : Keeps s₀ (s.bootFailure c) :=
  .ite (.set h) h

theorem Keeps.startSecure {img : List Nat × List Nat} {src : Nat} (h : Keeps s₀ s) : Keeps s₀ (s.startSecure img src) :=
  .fbSet (.set (.set (.set (.setBit (.setMeas (.loadImage h))))))

theorem Keeps.bootRecovery (h : Keeps s₀ s) : Keeps s₀ s.bootRecovery.2 :=
  .iteSnd (.startSecure h) (.update (.set (.bootFailure h)))

theorem Keeps.bootSecure (h : Keeps s₀ s) : Keeps s₀ s.bootSecure.2 :=
  .iteSnd (.bootRecovery h)
    (.iteSnd (.startSecure h) (.iteSnd (.startSecure h) (.bootRecovery (.bootFailure (.set h)))))

theorem Keeps.bootKind {k : Nat} (h : Keeps s₀ s) : Keeps s₀ (s.bootKind k).2 :=
  .iteSnd (.fbSet (.setUpdate (.wr (.wr h)))) (.iteSnd (.fbSet (.setUpdate (.wr (.wr h)))) h)

theorem Keeps.bootImages (h : Keeps s₀ s) : Keeps s₀ s.bootImages := by
  unfold State.bootImages
  extract_lets _ _ _ s₂
  have h₂ : Keeps s₀ s₂ := .update (.set (.foldl (fun _ _ h' => .set h') h))
  split
  next e =>
    have h₃ := Keeps.ofSnd e (.bootKind h₂)
    refine .ite (.bootFailure h₃) ?_
    split
    next e =>
      have h₄ := Keeps.ofSnd e (.bootKind h₃)
      exact .ite (.bootFailure h₄) (.update h₄)

theorem Keeps.bootUp (h : Keeps s₀ s) : Keeps s₀ s.bootUp := by
  unfold State.bootUp
  split
  next e => exact .bootImages (.ofSnd e (.bootSecure (.bootRom h)))
  next e => exact .ofSnd e (.bootSecure (.bootRom h))

theorem Keeps.loadEntries (h : Keeps s₀ s) : Keeps s₀ s.loadEntries :=
  .update (.foldl (fun _ _ h' => .set h')
     (.ite
        (.set (.foldl (fun _ _ h' => .set h')
            (.foldl (fun _ _ h' => .set (.set (.set h'))) (.set (.set (.set (.set (.set h))))))))
        (.foldl (fun _ _ h' => .set h')
           (.foldl (fun _ _ h' => .set (.set (.set h'))) (.set (.set (.set (.set (.set h)))))))))

theorem Keeps.bootRelease (h : Keeps s₀ s) : Keeps s₀ s.bootRelease :=
  .update (.setPmu (.foldl (fun _ _ h' => .ite (.fwRestartCount (.set h')) h') (.loadEntries (.journalScan h))))

theorem Keeps.forbiddenWrite {k : Nat} (h : Keeps s₀ s) : Keeps s₀ (s.forbiddenWrite k) :=
  .cadLog (.freeNat h)

theorem Keeps.injected {x1 : Nat} (h : Keeps s₀ s) : Keeps s₀ (s.injected x1) := by
  unfold State.injected
  split
  · exact .set (.set h)
  · exact .foldl (fun _ _ h' => .set h') (.set h)
  · exact .set h
  · exact .foldl (fun _ _ h' => .forbiddenWrite h') h
  · exact h

theorem Keeps.injectedUpTo {n : Nat} (h : Keeps s₀ s) : Keeps s₀ (s.injectedUpTo n) :=
  .foldl (fun _ _ h' => .injected h') h

theorem Ends.injectionComplete {failItem : Fin 10} (h : Keeps s₀ s) : Ends s₀ (execInjectionComplete failItem s) :=
  .ite (.done h)
    (.ite (.done (.bootRelease (.set (.injectedUpTo (.set h)))))
       (.done (.statusMessage (.set (.set (.set (.injectedUpTo (.set h))))))))

theorem Keeps.finishRecord (h : Keeps s₀ s) : Keeps s₀ s.finishRecord :=
  .copyBDone (.copyADone h)

theorem Keeps.systemReset {cause : Nat} (h : Keeps s₀ s) : Keeps s₀ (s.systemReset cause) :=
  .set (.cleared (.finishRecord h))

theorem Keeps.reboot (h : Keeps s₀ s) : Keeps s₀ s.reboot :=
  .ite (.bootUp h) h

theorem Ends.systemReset {held : Bool} (h : Keeps s₀ s) : Ends s₀ (execSystemReset held s) :=
  .done (.ite (.update (.systemReset h)) (.reboot (.update (.systemReset h))))

theorem Keeps.softwareReset {who : Agent} (h : Keeps s₀ s) : Keeps s₀ (s.softwareReset who) :=
  .ite (.report h) (.reboot (.systemReset h))

theorem Ends.softwareReset {who : Agent} (h : Keeps s₀ s) : Ends s₀ (execSoftwareReset who s) :=
  .done (.gateWrite (fun _ h' => .softwareReset h') h)

theorem Ends.powerOnReset {straps : BitVec 6} (h : Keeps s₀ s) : Ends s₀ (execPowerOnReset straps s) :=
  .done (.bootUp (.set (.setBit (.set (.set (.set (.set (.update (.cleared h)))))))))

theorem Ends.pllLoss {pll : Fin 13} (h : Keeps s₀ s) : Ends s₀ (execPllLoss pll s) :=
  .ite (.done (.declareSafe (.killPlan (.killPlumb (.update (.set (.ite (.set (.set (.fbInc h))) (.fbInc h))))))))
    (.ite (.done (.declareSafe (.ite (.set (.set (.fbInc h))) (.fbInc h))))
       (.ite (.done (.reboot (.systemReset (.ite (.set (.set (.fbInc h))) (.fbInc h)))))
          (.done (.readmit (.foldl (fun _ _ h' => .killDomain h') (.setPmu (.ite (.set (.set (.fbInc h))) (.fbInc h))))))))

theorem Ends.pllRelock {pll : Fin 12} (h : Keeps s₀ s) : Ends s₀ (execPllRelock pll s) :=
  .done (.setPmu (.set h))

theorem Keeps.writeClkEn {who : Agent} {v : Nat} (h : Keeps s₀ s) : Keeps s₀ (s.writeClkEn who v) :=
  .ite (.report (.fbInc (.cadLog (.ite (.set h) (.report (.set h)))))) (.ite (.set h) (.report (.set h)))

theorem Ends.clockEnableWrite {who : Agent} {value : BitVec 60} (h : Keeps s₀ s) :
    Ends s₀ (execClockEnableWrite who value s) :=
  .done (.gateWrite (fun _ h' => .writeClkEn h') h)

/-- Asleep, memory is what suspend keeps of it, or nothing. -/
theorem Keeps.sleepState {mode : Nat} (h : Keeps s₀ s) : Keeps s₀ (s.sleepState mode) := by
  unfold State.sleepState
  extract_lets _ s₁ _ _ z₂ _ _ z₃
  have h₁ : Keeps s₀ s₁ := .ite (.statusMessage (.driveSafe (.setSafState h))) h
  have h₂ : Keeps s₀ z₂ := .set (.update (.cleared (.finishRecord h₁)))
  have h₃ : Keeps s₀ z₃ := ⟨h₂.pending, fun hm => Memory.wf_filter _ _ (h₁.memOk hm)⟩
  exact .ite (.driveSafe (.setSafState h₃)) h₂

theorem Keeps.wakeUp {mode : Nat} (h : Keeps s₀ s) : Keeps s₀ (s.wakeUp mode) :=
  .ite
    (.ite
       (.update (.bootRelease (.set (.ite (.set (.set (.update (.set h)))) (.loadImage (.set (.set (.update (.set h)))))))))
       (.secureFailed (.ite (.set (.set (.update (.set h)))) (.loadImage (.set (.set (.update (.set h))))))))
    (.bootUp (.update (.set h)))

theorem Ends.sleepEntryDone (h : Keeps s₀ s) : Ends s₀ (execSleepEntryDone s) := by
  unfold execSleepEntryDone
  split
  · exact .done (.ite (.wakeUp (.sleepState h)) (.sleepState h))
  · exact .done h

theorem Ends.wake (h : Keeps s₀ s) : Ends s₀ (execWake s) := by
  unfold execWake
  split
  · exact .done (.wakeUp h)
  · exact .done (.setPmu h)

theorem Keeps.discardWrites (h : Keeps s₀ s) : Keeps s₀ s.discardWrites :=
  .foldl (fun _ _ h' => by
    split
    · exact .mbPass (.setMbox h')
    · exact h') (.setFba h)

theorem Keeps.unbegin (h : Keeps s₀ s) : Keeps s₀ s.unbegin := by
  unfold State.unbegin
  split
  · refine .ite ?_ h
    dsimp only
    split
    · exact .mbPass (.setMbox (.setFba (.update h)))
    · exact .setFba (.update h)
  · exact h

theorem Ends.pwrFail (h : Keeps s₀ s) : Ends s₀ (execPwrFail s) :=
  .ite (.done h) (.done (.followLine (.discardWrites (.unbegin (.ite (.update h) (.pmuEnter (.update h)))))))

theorem Ends.pwrFailReturn (h : Keeps s₀ s) : Ends s₀ (execPwrFailReturn s) :=
  .ite (.done h) (.done (.ite (.endRecord (.followLine (.update h))) (.followLine (.update h))))

theorem Ends.thermalTrip (h : Keeps s₀ s) : Ends s₀ (execThermalTrip s) :=
  .done (.update (.systemReset h))

theorem Ends.debugChallengeRead (h : Keeps s₀ s) : Ends s₀ (execDebugChallengeRead s) := by
  unfold execDebugChallengeRead
  dsimp only
  exact .done (.emit (.update (.freeNats h)))

theorem Keeps.tokenRefused {c : Nat} (h : Keeps s₀ s) : Keeps s₀ (s.tokenRefused c) :=
  .ite (.set (.update (.set (.fbInc h)))) (.update (.set (.fbInc h)))

theorem Ends.debugToken {token : List Byte} (h : Keeps s₀ s) : Ends s₀ (execDebugToken token s) :=
  .ite (.done (.tokenRefused (.freeNat h)))
    (.ite (.done (.tokenRefused h)) (.done (.raiseEdge (.update (.fbInc (.set (.set h)))))))

theorem Keeps.tapSet {i : TapInstr} (h : Keeps s₀ s) : Keeps s₀ (s.tapSet i) :=
  .update h

theorem Ends.bypass (h : Keeps s₀ s) : Ends s₀ (execBypass s) :=
  .done (.tapSet h)

theorem Ends.idcode (h : Keeps s₀ s) : Ends s₀ (execIdcode s) :=
  .done (.emit (.tapSet h))

theorem Ends.samplePreload {cells : List Bool} (h : Keeps s₀ s) : Ends s₀ (execSamplePreload cells s) :=
  .done (.update h)

theorem Ends.extest (h : Keeps s₀ s) : Ends s₀ (execExtest s) :=
  .done (.ite (.tapSet h) (.tapSet h))

theorem Ends.clamp (h : Keeps s₀ s) : Ends s₀ (execClamp s) :=
  .done (.ite (.tapSet h) (.tapSet h))

theorem Ends.highz (h : Keeps s₀ s) : Ends s₀ (execHighz s) :=
  .done (.ite (.tapSet h) (.tapSet h))

/-! ## The Meridian schedule -/

theorem Keeps.admitAll (h : Keeps s₀ s) : Keeps s₀ s.admitAll :=
  .admitJobs (.admitPlans (.admitGfx (.admitMedia (.admitStaging h))))

theorem Keeps.closeJob {k : Nat} {j : Job} (h : Keeps s₀ s) : Keeps s₀ (s.closeJob k j) :=
  .endRunning h

theorem Keeps.closeJobs {w : Nat} (h : Keeps s₀ s) : Keeps s₀ (s.closeJobs w) :=
  .update (.foldl (fun _ _ h' => .fbInc h') (.foldl (fun _ _ h' => by
    split
    · exact .ite (.closeJob h') h'
    · exact h') h))

theorem Keeps.closeWindow {w : OpenWindow} (h : Keeps s₀ s) : Keeps s₀ (s.closeWindow w) :=
  .dropWindow (.closeStaging (.closeMedia (.closeGfx (.closePlans (.closeJobs (.ite (.fbInc (.set (.advanceTo h)))
          (.advanceTo h)))))))

theorem Ends.windowClose {entry : Fin 256} (h : Keeps s₀ s) : Ends s₀ (execWindowClose entry s) := by
  unfold execWindowClose
  split
  · exact .done (.closeWindow h)
  · exact .done h

theorem Keeps.closeDue {t : Nat} (h : Keeps s₀ s) : Keeps s₀ (s.closeDue t) :=
  .foldl (fun _ _ h' => .ite (.closeWindow h') h') h

theorem Keeps.partitionClear {w : OpenWindow} (h : Keeps s₀ s) : Keeps s₀ (s.partitionClear w) :=
  .foldl (fun _ _ h' => .ite (.set (.update h')) (.update h')) h

theorem Keeps.injectIn {w : OpenWindow} (h : Keeps s₀ s) : Keeps s₀ (s.injectIn w) :=
  .ite (.benchBatch (.benchInject h)) (.benchInject h)

theorem Keeps.openingWork {w : OpenWindow} (h : Keeps s₀ s) : Keeps s₀ (s.openingWork w) := by
  unfold State.openingWork
  dsimp only
  split
  · exact .partitionClear (.operatingPoint h)
  · exact .ite (.injectIn (.operatingPoint h)) (.operatingPoint h)
  · exact .benchCompare (.closure (.operatingPoint h))
  · exact .operatingPoint h

theorem Ends.windowOpen {entry : Fin 256} (h : Keeps s₀ s) : Ends s₀ (execWindowOpen entry s) := by
  unfold execWindowOpen
  refine .ite (.done h) ?_
  dsimp only
  split
  · exact .done (.ite (.injectIn (.admitAll (.openingWork (.openWindow h)))) (.admitAll (.openingWork (.openWindow h))))
  · exact .done (.openWindow h)

theorem Keeps.endFrames {ps : List Nat} (h : Keeps s₀ s) : Keeps s₀ (s.endFrames ps) :=
  .foldl (fun _ _ h' => .ite h' (.missedFrame h')) h

theorem Keeps.beginFrames (h : Keeps s₀ s) : Keeps s₀ s.beginFrames :=
  .foldl (fun _ _ h' => .stagingFrame (.benchFrame h')) (.frameStarts (.endFrames h))

theorem Keeps.plainTick (h : Keeps s₀ s) : Keeps s₀ s.plainTick :=
  .admitAll (.beginFrames (.set (.set h)))

theorem Keeps.newHyper (h : Keeps s₀ s) : Keeps s₀ s.newHyper :=
  .admitAll (.beginFrames (.set (.set (.set (.update h)))))

theorem Keeps.boundary (h : Keeps s₀ s) : Keeps s₀ s.boundary :=
  .activations (.ite (.applyStop (.boundaryStep (.ite (.applySwap (.endFrames h)) (.endFrames h))))
     (.ite (.newHyper (.boundaryStep (.ite (.applySwap (.endFrames h)) (.endFrames h))))
        (.boundaryStep (.ite (.applySwap (.endFrames h)) (.endFrames h)))))

theorem Keeps.start (h : Keeps s₀ s) : Keeps s₀ s.start :=
  .foldl (fun _ _ h' => .stagingFrame (.benchFrame h')) (.ite (.enterLocked (.applyStart h)) (.applyStart h))

theorem Ends.baseTick (h : Keeps s₀ s) : Ends s₀ (execBaseTick s) :=
  .ite (.done (.update (.ite (.boundary (.advanceTo (.closeDue h))) (.plainTick (.advanceTo (.closeDue h))))))
    (.ite (.done (.update (.activations (.start (.advanceTo (.closeDue h))))))
       (.done (.activations (.advanceTo (.closeDue h)))))

/-! ## Services -/

theorem Keeps.svcReturn {core : Nat} {l : List Nat} (h : Keeps s₀ s) : Keeps s₀ (s.svcReturn core l) :=
  .emit (.freeNats h)

theorem Keeps.setWorlds {w : Worlds} (h : Keeps s₀ s) : Keeps s₀ (s.setWorlds w) :=
  .update h

theorem Ends.svcVersion {core : Fin 16} {mode : Mode} (h : Keeps s₀ s) : Ends s₀ (execSvcVersion core mode s) :=
  .done (.svcReturn h)

theorem Ends.svcAttrGet {core : Fin 16} {mode : Mode} (h : Keeps s₀ s) : Ends s₀ (execSvcAttrGet core mode s) :=
  .done (.svcReturn h)

theorem Ends.svcPartSwitch {core : Fin 16} {mode : Mode} {partition : BitVec 64} (h : Keeps s₀ s) :
    Ends s₀ (execSvcPartSwitch core mode partition s) :=
  .ite (.done (.svcReturn (.setWorlds h))) (.done (.svcReturn h))

theorem Ends.svcSecureStatus {core : Fin 16} {mode : Mode} (h : Keeps s₀ s) :
    Ends s₀ (execSvcSecureStatus core mode s) :=
  .done (.svcReturn h)

theorem Keeps.regionSet {c checker region base limit parts perms : Nat} (h : Keeps s₀ s) :
    Keeps s₀ (s.regionSet c checker region base limit parts perms).2 :=
  .iteSnd h (.iteSnd h (.iteSnd h (.setBit (.setRegionPerms (.set (.set (.set (.noteRegions h))))))))

theorem Ends.svcRegionSet {core : Fin 16} {mode : Mode} {checker region base limit parts perms : BitVec 64}
    (h : Keeps s₀ s) : Ends s₀ (execSvcRegionSet core mode checker region base limit parts perms s) :=
  .done (.svcReturn (.regionSet h))

theorem Ends.ecallUnknownService {core : Fin 16} {mode : Mode} {id : BitVec 64} (h : Keeps s₀ s) :
    Ends s₀ (execEcallUnknownService core mode id s) :=
  .ite (.done (.svcReturn h)) (.done h)

theorem Keeps.svcReach {at' : Attr} {a n : Nat} (h : Keeps s₀ s) : Keeps s₀ (s.svcReach at' a n).2 := by
  unfold State.svcReach
  split
  next e => exact .ofSnd e (.reach h)
  next e => exact .ofSnd e (.reach h)

theorem Keeps.svcCmac {at' : Attr} {slot a n : Nat} (h : Keeps s₀ s) : Keeps s₀ (s.svcCmac at' slot a n).2 := by
  unfold State.svcCmac
  refine .iteSnd h (.iteSnd h ?_)
  dsimp only
  refine .iteSnd (.svcReach h) ?_
  split
  · exact .svcReach h
  · exact .svcReach h

theorem Keeps.svcVerify {at' : Attr} {slot a n tag : Nat} (h : Keeps s₀ s) : Keeps s₀ (s.svcVerify at' slot a n tag).2 := by
  unfold State.svcVerify
  refine .iteSnd h (.iteSnd h ?_)
  dsimp only
  refine .iteSnd (.svcReach h) (.iteSnd (.svcReach (.svcReach h)) ?_)
  split
  · exact .svcReach (.svcReach h)
  · exact .svcReach (.svcReach h)

theorem Keeps.svcAttest {at' : Attr} {nonce report : Nat} (h : Keeps s₀ s) : Keeps s₀ (s.svcAttest at' nonce report).2 := by
  unfold State.svcAttest
  dsimp only
  refine .iteSnd (.svcReach h) ?_
  split
  next e => exact .wr (.ofSnd e (.reach (.freeNats (.svcReach h))))
  next e => exact .ofSnd e (.reach (.freeNats (.svcReach h)))

theorem Keeps.svcKeyLoad {at' : Attr} {slot a : Nat} (h : Keeps s₀ s) : Keeps s₀ (s.svcKeyLoad at' slot a).2 := by
  unfold State.svcKeyLoad
  refine .iteSnd h ?_
  split
  next e =>
    have h' := Keeps.ofSnd e (.reach h)
    exact .iteSnd h' (.iteSnd h' (.set (.setKey (.freeNats h'))))
  next e => exact .ofSnd e (.reach h)

theorem Keeps.svcStage {at' : Attr} {a n : Nat} (h : Keeps s₀ s) : Keeps s₀ (s.svcStage at' a n).2 :=
  .iteSnd h (.iteSnd (.svcReach h) (.iteSnd (.stage (.svcReach h)) (.svcReach h)))

theorem Keeps.svcActivate {kind : Nat} (h : Keeps s₀ s) : Keeps s₀ (s.svcActivate kind).2 :=
  .iteSnd h (.activate h)

theorem Keeps.serve {c : Call} (h : Keeps s₀ s) : Keeps s₀ (s.serve c).2 := by
  unfold State.serve
  split
  · exact .svcCmac h
  · exact .svcVerify h
  · exact .freeNat h
  · exact .svcAttest h
  · exact .svcKeyLoad h
  · exact .svcStage h
  · exact .svcActivate h

theorem Keeps.serveCall {core : Nat} {c : Call} (h : Keeps s₀ s) : Keeps s₀ (s.serveCall core c) :=
  .setWorlds (.serve h)

theorem Keeps.forward {core : Nat} {v : Service} {served : Bool} (h : Keeps s₀ s) : Keeps s₀ (s.forward core v served) :=
  .ite h (.ite (.svcReturn (.fbInc h)) (.ite (.serveCall (.setWorlds h)) (.setWorlds h)))

theorem Ends.svcCmac {core : Fin 16} {mode : Mode} {slot addr len : BitVec 64} {served : Bool} (h : Keeps s₀ s) :
    Ends s₀ (execSvcCmac core mode slot addr len served s) :=
  .done (.forward h)

theorem Ends.svcCmacVerify {core : Fin 16} {mode : Mode} {slot addr len tagAddr : BitVec 64} {served : Bool}
    (h : Keeps s₀ s) : Ends s₀ (execSvcCmacVerify core mode slot addr len tagAddr served s) :=
  .done (.forward h)

theorem Ends.svcRandom {core : Fin 16} {mode : Mode} {served : Bool} (h : Keeps s₀ s) :
    Ends s₀ (execSvcRandom core mode served s) :=
  .done (.forward h)

theorem Ends.svcAttest {core : Fin 16} {mode : Mode} {nonceAddr reportAddr : BitVec 64} {served : Bool}
    (h : Keeps s₀ s) : Ends s₀ (execSvcAttest core mode nonceAddr reportAddr served s) :=
  .done (.forward h)

theorem Ends.svcKeyLoad {core : Fin 16} {mode : Mode} {slot keyAddr : BitVec 64} {served : Bool} (h : Keeps s₀ s) :
    Ends s₀ (execSvcKeyLoad core mode slot keyAddr served s) :=
  .done (.forward h)

theorem Ends.svcFwStage {core : Fin 16} {mode : Mode} {addr len : BitVec 64} {served : Bool} (h : Keeps s₀ s) :
    Ends s₀ (execSvcFwStage core mode addr len served s) :=
  .done (.forward h)

theorem Ends.svcFwActivate {core : Fin 16} {mode : Mode} {kind : BitVec 64} {served : Bool} (h : Keeps s₀ s) :
    Ends s₀ (execSvcFwActivate core mode kind served s) :=
  .done (.forward h)

theorem Keeps.endCall {core : Nat} {results : List Nat} (h : Keeps s₀ s) : Keeps s₀ (s.endCall core results) :=
  .svcReturn (.setWorlds h)

theorem Ends.serviceAnswer {core : Fin 16} (h : Keeps s₀ s) : Ends s₀ (execServiceAnswer core s) := by
  unfold execServiceAnswer
  split
  · exact .done h
  · dsimp only
    split
    · exact .done (.endCall (.ite h (.serveCall h)))
    · exact .done (.ite h (.serveCall h))

theorem Ends.serviceCallTimeout {core : Fin 16} (h : Keeps s₀ s) : Ends s₀ (execServiceCallTimeout core s) := by
  unfold execServiceCallTimeout
  split
  · exact .done h
  · exact .done (.endCall (.advanceTo h))

/-! ## Doorbells -/

theorem Keeps.ring {who : Agent} {r : Ring} {value : Nat} (h : Keeps s₀ s) : Keeps s₀ (s.ring who r value) :=
  .ite (.ite (.set (.set h)) (.set h)) (.set (.cadLog h))

theorem Ends.doorbellWrite {who : Agent} {ring : Ring} {value : BitVec 32} (h : Keeps s₀ s) :
    Ends s₀ (execDoorbellWrite who ring value s) :=
  .done (.gateWrite (fun _ h' => .ring h') h)

theorem Keeps.writeReadPtr {f last : Field} {log2 v : Nat} (h : Keeps s₀ s) : Keeps s₀ (s.writeReadPtr f last log2 v) :=
  .ite (.set h) (.set (.set h))

theorem Keeps.ownerPage {f : State → State} {who : Agent} {owner : Option Attr} {k a : Nat} {write : Bool}
    (hk : ∀ s, Keeps s₀ s → Keeps s₀ (f s)) (h : Keeps s₀ s) : Keeps s₀ (s.ownerPage who owner k a write f) :=
  .ite (hk _ h) (.answer (.cadLog h))

/-! ## Register accesses -/

theorem Keeps.writeField {f : Field} {acc : Acc} {v : Nat} (h : Keeps s₀ s) : Keeps s₀ (s.writeField f acc v) := by
  unfold State.writeField
  dsimp only
  split
  · exact .set h
  · exact .set h
  · exact .set h
  · exact h
  · exact h
  · exact h

theorem Keeps.writeFields {hd : RegHit} {v : Nat} (h : Keeps s₀ s) : Keeps s₀ (s.writeFields hd v) :=
  .foldl (fun _ _ h' => .writeField h') h

theorem Keeps.writeStatus {a c : Nat} (h : Keeps s₀ s) : Keeps s₀ (s.writeStatus a c) := by
  unfold State.writeStatus
  split
  · exact .set h
  · exact .report h

theorem Keeps.plainWrite {hd : RegHit} {v : Nat} (h : Keeps s₀ s) : Keeps s₀ (s.plainWrite hd v) := by
  unfold State.plainWrite
  split
  · exact .ite (.writeStatus h) (.writeStatus (.writeFields h))
  · exact .writeStatus (.writeFields h)

theorem Keeps.writeSys {who : Agent} {hd : RegHit} {v : Nat} (h : Keeps s₀ s) : Keeps s₀ (s.writeSys who hd v) :=
  .ite (.ite (.softwareReset h) h)
    (.ite (.writeClkEn h) (.ite (.ite h (.ite (.writeFwdCtrl h) (.ite (.fwKick h) (.plainWrite h)))) (.plainWrite h)))

theorem Keeps.writeMer {hd : RegHit} {v : Nat} (h : Keeps s₀ s) : Keeps s₀ (s.writeMer hd v) :=
  .ite (.merCtrl h)
    (.ite (.writeTickPeriod h)
       (.ite (.writeHyperTicks h)
          (.ite (.writePhase h)
             (.ite (.writeRate h)
                (.ite
                   (.ite (.merStatus h)
                      (.ite (.merStatus (.rebaseRequest (.writeSource h))) (.merStatus (.writeSource h))))
                   (.ite (.writePipeFrame h)
                      (.ite
                         (.ite (.writeToutCtrl h)
                            (.ite (.writeTout h) (.ite (.writeTout h) (.ite (.writeTout h) (.plainWrite h)))))
                         (.ite (.writeTinCtrl h) (.plainWrite h)))))))))

theorem Keeps.writeIcn {who : Agent} {hd : RegHit} {v : Nat} (h : Keeps s₀ s) : Keeps s₀ (s.writeIcn who hd v) :=
  .ite (.writeSrcCfg h)
    (.ite (.writeSrcTgt h)
       (.ite (.swSet h)
          (.ite (.icnStatus (.icnTest h))
             (.ite (.unfreeze h)
                (.ite (.ite (.followLine (.plainWrite h)) (.plainWrite h))
                   (.ite (.pageOwn (fun _ h' => .ite (.complete h') (.plainWrite h')) h) (.plainWrite h)))))))

theorem Keeps.writeCad {who : Agent} {hd : RegHit} {v : Nat} (h : Keeps s₀ s) : Keeps s₀ (s.writeCad who hd v) := by
  unfold State.writeCad
  refine .ite h (.ite (.ite (.cadLock (.ite (.set h) h)) (.cadStatus (.ite (.set h) h))) ?_)
  refine .ite (.cadAck h) (.ite ?_ (.plainWrite h))
  split
  · exact .regionField h
  · exact .regionField h
  · exact .regionField h
  · exact .regionCtrl h

theorem Keeps.writeSaf {who : Agent} {hd : RegHit} {v : Nat} (h : Keeps s₀ s) : Keeps s₀ (s.writeSaf who hd v) :=
  .ite (.safOwn (fun _ h' => .ite (.safCtrl h') (.safStatus h')) h) (.ite (.writeSafTable h) (.plainWrite h))

theorem Keeps.writeTen {hd : RegHit} {v : Nat} (h : Keeps s₀ s) : Keeps s₀ (s.writeTen hd v) :=
  .ite h (.ite (.ite h (.plainWrite h)) (.ite (.writeKvCache h) (.plainWrite h)))

theorem Keeps.writeCplRptr {k v : Nat} (h : Keeps s₀ s) : Keeps s₀ (s.writeCplRptr k v) :=
  .writeReadPtr h

theorem Keeps.writePlb {who : Agent} {hd : RegHit} {v : Nat} (h : Keeps s₀ s) : Keeps s₀ (s.writePlb who hd v) := by
  unfold State.writePlb
  refine .ite ?_ (.ite (.enWrite (fun _ h' => .queueStart h') (fun _ h' => .set h') h) (.plainWrite h))
  split
  · exact .ring h
  · exact .writeCplRptr h
  · exact .plainWrite h

theorem Keeps.writeTrv {who : Agent} {hd : RegHit} {v : Nat} (h : Keeps s₀ s) : Keeps s₀ (s.writeTrv who hd v) := by
  unfold State.writeTrv
  refine .ite ?_ (.ite (.trvCtrl h) (.plainWrite h))
  split
  · exact .ring h
  · exact .writeReadPtr h
  · exact .publishGrid h
  · exact .plainWrite h

theorem Keeps.writeGfx {who : Agent} {hd : RegHit} {v : Nat} (h : Keeps s₀ s) : Keeps s₀ (s.writeGfx who hd v) := by
  unfold State.writeGfx
  refine .ite ?_ (.ite (.enWrite (fun _ h' => .gxStart h') (fun _ h' => .gxStop h') h) (.plainWrite h))
  split
  · exact .ring h
  · exact .writeReadPtr h
  · exact .heapAdd h
  · exact .plainWrite h

theorem Keeps.writeDsp {who : Agent} {hd : RegHit} {v : Nat} (h : Keeps s₀ s) : Keeps s₀ (s.writeDsp who hd v) :=
  .ite (.enWrite (fun _ h' => .dspStart h') (fun _ h' => .dspStop h') h)
    (.ite (.plainWrite h) (.ite (.dspStatus h) (.ite (.writeExp h) (.dspWrite (fun _ h' => .writeFields h') h))))

theorem Keeps.writeRx {hd : RegHit} {v : Nat} (h : Keeps s₀ s) : Keeps s₀ (s.writeRx hd v) :=
  .ite (.report (.set h)) (.ite (.report (.writeFields h)) (.report h))

theorem Keeps.writeStale {hd : RegHit} {v : Nat} (h : Keeps s₀ s) : Keeps s₀ (s.writeStale hd v) :=
  .ite (.writeStatus h) (.ite (.writeStatus h) (.plainWrite h))

theorem Keeps.writeMed {who : Agent} {hd : RegHit} {v : Nat} (h : Keeps s₀ s) : Keeps s₀ (s.writeMed who hd v) := by
  unfold State.writeMed
  refine .ite
    (.ite (.enWrite (fun _ h' => .csStart h') (fun _ h' => .setCap (.freshSource h')) h)
       (.ite (.plainWrite (.freeRecords h)) (.plainWrite h)))
    ?_
  refine .ite (.writeRx h) ?_
  refine .ite
    (.ite (.enWrite (fun _ h' => .mxStart h') (fun _ h' => .setMx (.freshSource (.set h'))) h) (.plainWrite h)) ?_
  refine .ite ?_
    (.ite (.enWrite (fun _ h' => .stStart h') (fun _ h' => .setStx h') h)
       (.ite (.writeStale h) (.ite (.writePbRptr h) (.plainWrite h))))
  split
  · exact .ring h
  · exact .writeReadPtr h
  · exact .plainWrite h

theorem Keeps.writeGwy {who : Agent} {hd : RegHit} {v : Nat} (h : Keeps s₀ s) : Keeps s₀ (s.writeGwy who hd v) := by
  unfold State.writeGwy
  refine .ite (.ite (.canCtrl h) (.plainWrite h)) ?_
  refine .ite ?_ (.ite (.ring h) (.ownerPage (fun _ h' => .ite (.writeReadPtr h') (.plainWrite h')) h))
  split
  · exact .gclCtrl h
  · exact .gclShadow h
  · exact .ite (.gclStatus h) (.plainWrite h)
  · exact .ite (.gclStatus h) (.plainWrite h)
  · exact .plainWrite h
  · exact .gclEntry h

theorem Keeps.writeBrg {who : Agent} {hd : RegHit} {v : Nat} (h : Keeps s₀ s) : Keeps s₀ (s.writeBrg who hd v) :=
  .ite (.ite h (.plainWrite h))
    (.ite (.ite (.iwWrite h) (.plainWrite h)) (.fencePage (fun _ h' => .ite (.fenceAck h') h') h))

theorem Keeps.writeMbx {who : Agent} {hd : RegHit} {v : Nat} (h : Keeps s₀ s) : Keeps s₀ (s.writeMbx who hd v) := by
  unfold State.writeMbx
  refine .ite (.ite (.enWrite (fun _ h' => .mbStart h') (fun _ h' => .mbStop h') h) (.plainWrite h)) ?_
  refine .ite (.ite (.ring h) (.ownerPage (fun _ h' => .ite (.flushNotices (.writeReadPtr h')) (.plainWrite h')) h)) ?_
  refine .ite (.ite h (.writeSuper h)) (.ite (.hbKick h) ?_)
  refine .ite (.plainWrite h) (.ite (.ite (.vteCtrl h) (.ite (.vteShare h) (.plainWrite h))) ?_)
  refine .ite ?_ (.ite (.enWrite (fun _ h' => .queueStart h') (fun _ h' => .set h') h) (.plainWrite h))
  split
  · exact .ring h
  · exact .writeCplRptr h
  · exact .plainWrite h

theorem Keeps.writeDdr {hd : RegHit} {v : Nat} (h : Keeps s₀ s) : Keeps s₀ (s.writeDdr hd v) := by
  unfold State.writeDdr
  refine .ite (.writeWays h) (.ite ?_ (.writeFields h))
  split
  · exact .writeGroup h
  · exact .writeShare h
  · exact h

theorem Keeps.writeCry {who : Agent} {hd : RegHit} {v : Nat} (h : Keeps s₀ s) : Keeps s₀ (s.writeCry who hd v) :=
  .ite (.ite (.readyRequest (.ite (.restartRequest h) h)) (.ite (.restartRequest h) h))
    (.ite (.writeSwdCtrl h) (.ite (.swdKick h) (.ite (.ite h (.ite (.keyCtrl h) (.ite (.writeFields h) (.set h)))) h)))

theorem Keeps.writeReg {who : Agent} {hd : RegHit} {v : Nat} (h : Keeps s₀ s) : Keeps s₀ (s.writeReg who hd v) :=
  .ite (.writeSys h)
    (.ite (.writeMer h)
       (.ite (.writeIcn h)
          (.ite (.writeCad h)
             (.ite (.writeFields h)
                (.ite (.writeSaf h)
                   (.ite (.writeTen h)
                      (.ite (.writePlb h)
                         (.ite (.writeTrv h)
                            (.ite (.writeGfx h)
                               (.ite (.writeDsp h)
                                  (.ite (.writeMed h)
                                     (.ite (.writeGwy h)
                                        (.ite (.writeBrg h) (.ite (.writeMbx h) (.ite (.writeDdr h) (.writeCry h))))))))))))))))

theorem Keeps.readClear {hd : RegHit} (h : Keeps s₀ s) : Keeps s₀ (s.readClear hd) :=
  .foldl (fun _ _ h' => .ite (.set h') h') h

theorem Keeps.readReg {who : Agent} {hd : RegHit} (h : Keeps s₀ s) : Keeps s₀ (s.readReg who hd) :=
  .ite (.readTimeNs h)
    (.ite (.popTin h)
       (.ite (.pageOwn (fun _ h' => .ite (.claim h') (.answer (.readClear h'))) h)
          (.ite (.answer (.readClear (.update h)))
             (.ite (.ownerPage (fun _ h' => .answer (.readClear h')) h)
                (.ite (.fencePage (fun _ h' => .ite (.fenceStart h') (.answer (.readClear h'))) (.answer h))
                   (.ite (.ownerPage (fun _ h' => .answer (.readClear h')) h) (.answer (.readClear h))))))))

theorem Keeps.takeHeld {who : Agent} {a : Nat} (h : Keeps s₀ s) : Keeps s₀ (s.takeHeld who a).2 :=
  .update h

theorem Keeps.busWriteIn {who : Agent} {a width v : Nat} (h : Keeps s₀ s) : Keeps s₀ (s.busWriteIn who a width v) := by
  unfold State.busWriteIn
  refine .ite (.ite (.busError h) (.ite (.writeShadow h) (.merStatus h))) ?_
  split
  · exact h
  · refine .ite (.ite (.writeReg h) (.busError h)) ?_
    refine .ite (.writeReg (.takeHeld h)) (.ite (.update h) (.ite ?_ (.busError h)))
    split
    next e => exact .writeReg (.ofSnd e (.takeHeld h))
    next e => exact .writeReg (.ofSnd e (.takeHeld h))

theorem Keeps.busWrite {who : Agent} {a width v : Nat} (h : Keeps s₀ s) : Keeps s₀ (s.busWrite who a width v) :=
  .ite (.gateWrite (fun _ h' => .busWriteIn h') h) (.busError h)

theorem Keeps.busReadIn {who : Agent} {a width : Nat} (h : Keeps s₀ s) : Keeps s₀ (s.busReadIn who a width) := by
  unfold State.busReadIn
  refine .ite (.ite (.busError h) (.answer h)) ?_
  split
  · exact .answer h
  · exact .ite (.ite (.readReg h) (.busError h))
      (.ite (.readReg h)
         (.ite (.answer (.ite (.readReg h) (.setLatch (.readReg h)))) (.ite (.answer (.readReg h)) (.busError h))))

theorem Keeps.busRead {who : Agent} {a width : Nat} (h : Keeps s₀ s) : Keeps s₀ (s.busRead who a width) :=
  .ite (.gate (fun _ h' => .busReadIn h') h) (.busError h)

theorem Keeps.hwSets {a m : Nat} (h : Keeps s₀ s) : Keeps s₀ (s.hwSets a m) := by
  unfold State.hwSets
  refine .ite h ?_
  split
  · exact .foldl (fun _ _ h' => .ite (.set h') h') h
  · exact h

theorem Ends.registerWrite {who : Agent} {addr : BitVec 48} {width : Nat} {value hwSet : BitVec 64} (h : Keeps s₀ s) :
    Ends s₀ (execRegisterWrite who addr width value hwSet s) :=
  .done (.hwSets (.busWrite h))

theorem Keeps.rcEvents {a lo n : Nat} (h : Keeps s₀ s) : Keeps s₀ (s.rcEvents a lo n) := by
  unfold State.rcEvents
  split
  · split
    · exact .set h
    · exact h
  · exact h

theorem Ends.readClear {who : Agent} {addr : BitVec 48} {width evLo evCount : Nat} (h : Keeps s₀ s) :
    Ends s₀ (execReadClear who addr width evLo evCount s) :=
  .done (.rcEvents (.busRead h))

theorem Ends.lowWordReadLatch {who : Agent} {addr : BitVec 48} (h : Keeps s₀ s) :
    Ends s₀ (execLowWordReadLatch who addr s) :=
  .done (.busRead h)

/-! ## Memory accesses -/

theorem Keeps.failAccess {x1 : BusOp} (h : Keeps s₀ s) : Keeps s₀ (s.failAccess x1) := by
  unfold State.failAccess
  split
  · exact h
  · exact .busError h
  · exact .busError h

theorem Keeps.doAccess {a : Nat} {x2 : BusOp} (h : Keeps s₀ s) : Keeps s₀ (s.doAccess a x2) := by
  unfold State.doAccess
  split
  · exact .answer (.seenLe h)
  · exact .wr h
  · exact .wr (.answer h)

theorem Keeps.sramDo {a : Nat} {op : BusOp} {ecc : EccEvent} (h : Keeps s₀ s) : Keeps s₀ (s.sramDo a op ecc) := by
  unfold State.sramDo
  refine .ite (.failAccess h) (.ite (.doAccess h) ?_)
  split
  · exact .doAccess h
  · exact .doAccess (.eccCorrected h)
  · exact .failAccess (.eccLogged h)

theorem Keeps.storeDo {k a : Nat} {op : BusOp} {ecc : EccEvent} (h : Keeps s₀ s) : Keeps s₀ (s.storeDo k a op ecc) := by
  unfold State.storeDo
  split
  · exact .doAccess (.ite (.inc h) h)
  · exact .failAccess (.ite (.inc h) h)
  · exact .doAccess h

theorem Keeps.dramDo {g a : Nat} {op : BusOp} {ecc : EccEvent} (h : Keeps s₀ s) : Keeps s₀ (s.dramDo g a op ecc) := by
  unfold State.dramDo
  refine .ite ?_ (.doAccess h)
  split
  · exact .doAccess h
  · exact .doAccess (.set h)
  · exact .failAccess (.inlineEcc h)

theorem Keeps.lostWrite {n : Nat} (h : Keeps s₀ s) : Keeps s₀ (s.lostWrite n) :=
  .ite h (.update (.fenceLog h))

theorem Keeps.pcieDo {at' : Attr} {a : Nat} {op : BusOp} (h : Keeps s₀ s) : Keeps s₀ (s.pcieDo at' a op) := by
  unfold State.pcieDo
  dsimp only
  split
  · exact .ite (.abortRead h) (.answer (.freeNat h))
  · exact .ite (.lostWrite (.ite h (.answer h))) (.emit (.noteWritten (.ite h (.answer h))))

theorem Keeps.asIssued {f : State → State} {hd : HeldAccess} (hk : ∀ s, Keeps s₀ s → Keeps s₀ (f s)) (h : Keeps s₀ s) :
    Keeps s₀ (s.asIssued hd f) := by
  unfold State.asIssued
  split
  · exact hk _ h
  · exact .ite (hk _ h) (.update (hk _ (.update h)))

theorem Keeps.registerAccess {hd : HeldAccess} (h : Keeps s₀ s) : Keeps s₀ (s.registerAccess hd) :=
  .asIssued (fun _ h' => by
    split
    · exact .busRead h'
    · exact .ite (.update (.busWrite h')) (.busWrite h')) h

theorem Keeps.access {hd : HeldAccess} (h : Keeps s₀ s) : Keeps s₀ (s.access hd) := by
  unfold State.access
  refine .ite h (.ite (.failAccess h) ?_)
  split
  · exact .registerAccess h
  · split
    next e =>
      have h' := Keeps.ofSnd e (.reach1 h)
      split
      · exact .dramDo h'
      · exact .ite (.sramDo h') (.storeDo h')
      · exact .pcieDo h'
      · exact .doAccess h'
      · exact h'
      · exact h'
    next e => exact .failAccess (.ofSnd e (.reach1 h))

theorem Keeps.fill {q : Nat} {hd : HeldAccess} (h : Keeps s₀ s) : Keeps s₀ (s.fill q hd) :=
  .foldl (fun _ _ h' => .ite h' (.update h')) h

theorem Keeps.invalidateOthers {q : Nat} {hd : HeldAccess} (h : Keeps s₀ s) : Keeps s₀ (s.invalidateOthers q hd) :=
  .update h

theorem Keeps.accessFill {hd : HeldAccess} (h : Keeps s₀ s) : Keeps s₀ (s.accessFill hd) := by
  unfold State.accessFill
  dsimp only
  split
  · exact .ite (.fill (.access h)) (.access h)
  · exact .access h

theorem Keeps.setOpPool {k : Nat} {u : PoolUse} (h : Keeps s₀ s) : Keeps s₀ (s.setOpPool k u) :=
  .update h

theorem Keeps.hold {k : Nat} {hd : HeldAccess} (h : Keeps s₀ s) : Keeps s₀ (s.hold k hd) :=
  .setOpPool h

theorem Keeps.enter {k : Nat} {hd : HeldAccess} (h : Keeps s₀ s) : Keeps s₀ (s.enter k hd) :=
  .accessFill (.ite (.update (.ite (.setOpPool h) h)) (.ite (.setOpPool h) h))

theorem Keeps.issue {hd : HeldAccess} (h : Keeps s₀ s) : Keeps s₀ (s.issue hd) :=
  .ite (.hold h) (.ite (.enter h) (.hold h))

theorem Keeps.coreAccess {hd : HeldAccess} (h : Keeps s₀ s) : Keeps s₀ (s.coreAccess hd) := by
  unfold State.coreAccess
  split
  · exact .ite (.doAccess h) (.ite (.issue (.invalidateOthers h)) (.issue h))
  · exact .issue h

theorem Keeps.proceed {k : Nat} (h : Keeps s₀ s) : Keeps s₀ (s.proceed k) := by
  unfold State.proceed
  split
  · exact h
  · exact .ite (.enter (.setOpPool h)) h

theorem Keeps.proceedOne {ks : List Nat} (h : Keeps s₀ s) : Keeps s₀ (s.proceedOne ks) := by
  induction ks with
  | nil => exact h
  | cons k ks ih => exact .ite (.proceed h) ih

theorem Ends.fabricAccess {who : Agent} {addr : BitVec 48} {acc : BusOp} {ecc : EccEvent} {cached : Bool}
    (h : Keeps s₀ s) : Ends s₀ (execFabricAccess who addr acc ecc cached s) :=
  .done (.coreAccess h)

theorem Ends.sramWindowAccess {who : Agent} {addr : BitVec 48} {acc : BusOp} {ecc : EccEvent} (h : Keeps s₀ s) :
    Ends s₀ (execSramWindowAccess who addr acc ecc s) :=
  .done (.coreAccess h)

theorem Keeps.enterInbound {r : Inbound} (h : Keeps s₀ s) : Keeps s₀ (s.enterInbound r) :=
  .ite (.serveInbound (.setOpPool h)) (.update h)

theorem Ends.pcieInboundRequest {package : Fin 4} {group : Fin 16} {offset : BitVec 36} {acc : BusOp} {ecc : EccEvent}
    (h : Keeps s₀ s) : Ends s₀ (execPcieInboundRequest package group offset acc ecc s) :=
  .ite (.done h) (.done (.enterInbound h))

theorem Keeps.proceedInbound (h : Keeps s₀ s) : Keeps s₀ s.proceedInbound := by
  unfold State.proceedInbound
  split
  · exact h
  · exact .update (.enterInbound (.update h))

theorem Ends.poolEntryFreed {pool : Pool} (h : Keeps s₀ s) : Ends s₀ (execPoolEntryFreed pool s) :=
  .ite (.done h)
    (.done (.ite (.proceedInbound (.ite (.update (.setOpPool h)) (.setOpPool h)))
        (.proceedOne (.ite (.update (.setOpPool h)) (.setOpPool h)))))

theorem Keeps.dropWaiting {who : Agent} {a : Nat} (h : Keeps s₀ s) : Keeps s₀ (s.dropWaiting who a) := by
  unfold State.dropWaiting
  dsimp only
  split
  · exact .setOpPool h
  · exact h

theorem Ends.readHoldTimeout {who : Agent} {bridge : Fin 4} {addr : BitVec 48} (h : Keeps s₀ s) :
    Ends s₀ (execReadHoldTimeout who bridge addr s) :=
  .done (.dropWaiting (.abortRead (.elapse h)))

theorem Ends.pcieLinkDown {unsent : BitVec 16} (h : Keeps s₀ s) : Ends s₀ (execPcieLinkDown unsent s) :=
  .ite (.done h) (.done (.foldl (fun _ _ h' => .access h') (.setOpPool (.linkGoesDown h))))

theorem Ends.memoryInitDone {cluster : Fin 16} (h : Keeps s₀ s) : Ends s₀ (execMemoryInitDone cluster s) :=
  .ite (.done (.foldl (fun _ _ h' => .issue h') (.memoryInit (.setOpPool h)))) (.done h)

/-! ## The commands and the step -/

theorem Ends.exec (h : Keeps s₀ s) (c : Instr) : Ends s₀ (Machine.exec c s) :=
  match c with
  | .registerWrite .. => .registerWrite h
  | .readClear .. => .readClear h
  | .lowWordReadLatch .. => .lowWordReadLatch h
  | .poolEntryFreed .. => .poolEntryFreed h
  | .fabricAccess .. => .fabricAccess h
  | .sramWindowAccess .. => .sramWindowAccess h
  | .timeNsRead .. => .timeNsRead h
  | .timeInPop .. => .timeInPop h
  | .datumSourceWrite .. => .datumSourceWrite h
  | .rebase .. => .rebase h
  | .syncReceived .. => .syncReceived h
  | .announceReceived .. => .announceReceived h
  | .peerDelayExchange .. => .peerDelayExchange h
  | .syncTransmit .. => .syncTransmit h
  | .ptmExchange .. => .ptmExchange h
  | .syncLoss => .syncLoss h
  | .ptmLoss => .ptmLoss h
  | .holdoverExpiry => .holdoverExpiry h
  | .acquisitionWaitExpiry => .acquisitionWaitExpiry h
  | .baseTick => .baseTick h
  | .merStart .. => .merStart h
  | .merStop .. => .merStop h
  | .merSwap .. => .merSwap h
  | .merTableLock .. => .merTableLock h
  | .tickPeriodWrite .. => .tickPeriodWrite h
  | .hyperTicksWrite .. => .hyperTicksWrite h
  | .phaseWrite .. => .phaseWrite h
  | .shadowEntryWrite .. => .shadowEntryWrite h
  | .pipeFrameWrite .. => .pipeFrameWrite h
  | .timeOutPulse .. => .timeOutPulse h
  | .timeInEdge .. => .timeInEdge h
  | .windowOpen .. => .windowOpen h
  | .windowClose .. => .windowClose h
  | .doorbellWrite .. => .doorbellWrite h
  | .gemm .. => .gemm h
  | .conv .. => .conv h
  | .dwconv .. => .dwconv h
  | .pool .. => .pool h
  | .eltwise .. => .eltwise h
  | .reduce .. => .reduce h
  | .softmax .. => .softmax h
  | .norm .. => .norm h
  | .gather .. => .gather h
  | .scatter .. => .scatter h
  | .pagedAttn .. => .pagedAttn h
  | .fold .. => .fold h
  | .unfold .. => .unfold h
  | .tdma .. => .tdma h
  | .collective .. => .collective h
  | .fence .. => .fence h
  | .fenceRelease .. => .fenceRelease h
  | .commit .. => .commit h
  | .commandCommit .. => .commandCommit h
  | .tileArithFault .. => .tileArithFault h
  | .eccUncorrectable .. => .eccUncorrectable h
  | .plumbEccUncorrectable .. => .plumbEccUncorrectable h
  | .cmdOverrun .. => .cmdOverrun h
  | .dataBusError .. => .dataBusError h
  | .scrubPass .. => .scrubPass h
  | .memoryInitDone .. => .memoryInitDone h
  | .partitionClearDone .. => .partitionClearDone h
  | .rowMarkArm .. => .rowMarkArm h
  | .rowMarkAdvance .. => .rowMarkAdvance h
  | .consumerRowStart .. => .consumerRowStart h
  | .defusion .. => .defusion h
  | .kvPool .. => .kvPool h
  | .kvPoolClose .. => .kvPoolClose h
  | .seqOpen .. => .seqOpen h
  | .seqClose .. => .seqClose h
  | .seqRead .. => .seqRead h
  | .kvStep .. => .kvStep h
  | .spillFree .. => .spillFree h
  | .trainOpen .. => .trainOpen h
  | .trainCkpt .. => .trainCkpt h
  | .trainClose .. => .trainClose h
  | .kvCacheWrite .. => .kvCacheWrite h
  | .trainingSessionLimit => .trainingSessionLimit h
  | .queueEnable .. => .queueEnable h
  | .queueDisable .. => .queueDisable h
  | .partitionLock .. => .partitionLock h
  | .channelGroupOwnerWrite .. => .channelGroupOwnerWrite h
  | .channelGroupShareWrite .. => .channelGroupShareWrite h
  | .wayMapWrite .. => .wayMapWrite h
  | .wayCleanDone .. => .wayCleanDone h
  | .vteEnable .. => .vteEnable h
  | .vteDisable .. => .vteDisable h
  | .vteFreeze .. => .vteFreeze h
  | .vteFreezeComplete .. => .vteFreezeComplete h
  | .vteRestore .. => .vteRestore h
  | .heartbeatSend => .heartbeatSend h
  | .heartbeatReceived .. => .heartbeatReceived h
  | .peerLost .. => .peerLost h
  | .killAckTimeout .. => .killAckTimeout h
  | .collReady .. => .collReady h
  | .collGo .. => .collGo h
  | .collKill .. => .collKill h
  | .collRestart .. => .collRestart h
  | .collEnd .. => .collEnd h
  | .collGroup .. => .collGroup h
  | .collClose .. => .collClose h
  | .pairHeartbeat .. => .pairHeartbeat h
  | .pairHeartbeatLoss .. => .pairHeartbeatLoss h
  | .lockstepMismatch .. => .lockstepMismatch h
  | .safRun .. => .safRun h
  | .ssReq .. => .ssReq h
  | .latentTimeout .. => .latentTimeout h
  | .safetyStatusMessage => .safetyStatusMessage h
  | .safeStateReadback .. => .safeStateReadback h
  | .plumbClockRailFault .. => .plumbClockRailFault h
  | .safetyIslandWatchdog => .safetyIslandWatchdog h
  | .datumRateFault => .datumRateFault h
  | .injectionComplete .. => .injectionComplete h
  | .trvContextEnable .. => .trvContextEnable h
  | .trvContextDisable .. => .trvContextDisable h
  | .plan .. => .plan h
  | .gridPublish .. => .gridPublish h
  | .libraryCrcCheck .. => .libraryCrcCheck h
  | .fallbackDone => .fallbackDone h
  | .searchEnd => .searchEnd h
  | .searchDeadline => .searchDeadline h
  | .optimisationEnd => .optimisationEnd h
  | .optimisationDeadline => .optimisationDeadline h
  | .planCommit => .planCommit h
  | .traverseFault .. => .traverseFault h
  | .gfxContextEnable .. => .gfxContextEnable h
  | .gfxContextDisable .. => .gfxContextDisable h
  | .pass .. => .pass h
  | .dispatch .. => .dispatch h
  | .gfxFence .. => .gfxFence h
  | .gfxCommit .. => .gfxCommit h
  | .gfxJobComplete .. => .gfxJobComplete h
  | .heapAdd .. => .heapAdd h
  | .binFault .. => .binFault h
  | .binFaultDeadline .. => .binFaultDeadline h
  | .flushDone .. => .flushDone h
  | .gfxFault .. => .gfxFault h
  | .compositionSlackLow .. => .compositionSlackLow h
  | .yieldLimit .. => .yieldLimit h
  | .displayEnable .. => .displayEnable h
  | .linkTrained .. => .linkTrained h
  | .displayFrameStart .. => .displayFrameStart h
  | .expWrite .. => .expWrite h
  | .checkedRegionCompare .. => .checkedRegionCompare h
  | .csi2Packet .. => .csi2Packet h
  | .csi2FrameStart .. => .csi2FrameStart h
  | .csi2FrameEnd .. => .csi2FrameEnd h
  | .frameEndTimeout .. => .frameEndTimeout h
  | .captureSourceEnable .. => .captureSourceEnable h
  | .captureSourceDisable .. => .captureSourceDisable h
  | .mediaContextEnable .. => .mediaContextEnable h
  | .mediaContextDisable .. => .mediaContextDisable h
  | .sampleDescriptor .. => .sampleDescriptor h
  | .decodeComplete .. => .decodeComplete h
  | .decodeBudgetExpiry .. => .decodeBudgetExpiry h
  | .ispMemoryInput .. => .ispMemoryInput h
  | .stagingJobEnd .. => .stagingJobEnd h
  | .stagingOverrun .. => .stagingOverrun h
  | .stagingEnable .. => .stagingEnable h
  | .stagingDisable .. => .stagingDisable h
  | .batchRelease .. => .batchRelease h
  | .mwattrWrite .. => .mwattrWrite h
  | .logAck .. => .logAck h
  | .regionEnable .. => .regionEnable h
  | .regionDisable .. => .regionDisable h
  | .cadastreLock .. => .cadastreLock h
  | .svcVersion _ md => .svcVersion (mode := md) h
  | .svcAttrGet _ md => .svcAttrGet (mode := md) h
  | .svcPartSwitch .. => .svcPartSwitch h
  | .svcSecureStatus _ md .. => .svcSecureStatus (mode := md) h
  | .svcRegionSet _ md .. => .svcRegionSet (mode := md) h
  | .svcCmac _ md .. => .svcCmac (mode := md) h
  | .svcCmacVerify _ md .. => .svcCmacVerify (mode := md) h
  | .svcRandom _ md .. => .svcRandom (mode := md) h
  | .svcAttest _ md .. => .svcAttest (mode := md) h
  | .svcKeyLoad _ md .. => .svcKeyLoad (mode := md) h
  | .svcFwStage _ md .. => .svcFwStage (mode := md) h
  | .svcFwActivate _ md .. => .svcFwActivate (mode := md) h
  | .ecallUnknownService _ md .. => .ecallUnknownService (mode := md) h
  | .serviceAnswer .. => .serviceAnswer h
  | .serviceCallTimeout .. => .serviceCallTimeout h
  | .keySlotLoad .. => .keySlotLoad h
  | .keySlotZero .. => .keySlotZero h
  | .keySlotLock .. => .keySlotLock h
  | .secureWatchdogExpiry => .secureWatchdogExpiry h
  | .secureRestart .. => .secureRestart h
  | .secureReady .. => .secureReady h
  | .swdKick .. => .swdKick h
  | .secureWatchdogTestExpiry => .secureWatchdogTestExpiry h
  | .leaseWrite .. => .leaseWrite h
  | .levelLineChange .. => .levelLineChange h
  | .edgeEvent .. => .edgeEvent h
  | .sourceConfigWrite .. => .sourceConfigWrite h
  | .claim .. => .claim h
  | .complete .. => .complete h
  | .unfreeze .. => .unfreeze h
  | .swSet .. => .swSet h
  | .icnTestWrite .. => .icnTestWrite h
  | .canFrameRx .. => .canFrameRx h
  | .linFrameRx .. => .linFrameRx h
  | .ethernetFrameRx .. => .ethernetFrameRx h
  | .flowPeriodTimer .. => .flowPeriodTimer h
  | .flowTimeout .. => .flowTimeout h
  | .linScheduleSlot .. => .linScheduleSlot h
  | .gateListSwap .. => .gateListSwap h
  | .gateCycleStart .. => .gateCycleStart h
  | .gateEntryChange .. => .gateEntryChange h
  | .flowSet .. => .flowSet h
  | .mapSet .. => .mapSet h
  | .destSet .. => .destSet h
  | .epOpen .. => .epOpen h
  | .epClose .. => .epClose h
  | .endpointTxRecord .. => .endpointTxRecord h
  | .readHoldTimeout .. => .readHoldTimeout h
  | .lateCompletion => .lateCompletion h
  | .farFailureReport .. => .farFailureReport h
  | .bridgeFence .. => .bridgeFence h
  | .bridgeFenceDone .. => .bridgeFenceDone h
  | .fenceLogAck .. => .fenceLogAck h
  | .pcieInboundRequest .. => .pcieInboundRequest h
  | .pcieLinkDown .. => .pcieLinkDown h
  | .inboundWindowEnable .. => .inboundWindowEnable h
  | .fbaRequestReceived .. => .fbaRequestReceived h
  | .fbaRead => .fbaRead h
  | .fbaWrite => .fbaWrite h
  | .fbaDescribe => .fbaDescribe h
  | .fbaOpen => .fbaOpen h
  | .fbaClose => .fbaClose h
  | .sessionIdleTimeout .. => .sessionIdleTimeout h
  | .muteExpiry .. => .muteExpiry h
  | .violationCountClear => .violationCountClear h
  | .journalCopyACommit => .journalCopyACommit h
  | .journalCopyBDone => .journalCopyBDone h
  | .compactionDone => .compactionDone h
  | .fwWatchdogKick .. => .fwWatchdogKick h
  | .fwWatchdogExpiry .. => .fwWatchdogExpiry h
  | .fwWatchdogTestExpiry .. => .fwWatchdogTestExpiry h
  | .mailboxEnable .. => .mailboxEnable h
  | .mailboxDisable .. => .mailboxDisable h
  | .attach .. => .attach h
  | .detach .. => .detach h
  | .logRead .. => .logRead h
  | .pdSet .. => .pdSet h
  | .clkSet .. => .clkSet h
  | .sleep .. => .sleep h
  | .powerStatus .. => .powerStatus h
  | .logFlush .. => .logFlush h
  | .heartbeatKick .. => .heartbeatKick h
  | .heartbeatLapse .. => .heartbeatLapse h
  | .pmuLoop .. => .pmuLoop h
  | .avsTrim .. => .avsTrim h
  | .railDroop => .railDroop h
  | .railFault .. => .railFault h
  | .ceilingLower => .ceilingLower h
  | .ceilingRaise => .ceilingRaise h
  | .shedStep => .shedStep h
  | .shedUndo => .shedUndo h
  | .thermalTrip => .thermalTrip h
  | .stageWriteDone .. => .stageWriteDone h
  | .fwSwitchReadyTimeout => .fwSwitchReadyTimeout h
  | .powerOnReset .. => .powerOnReset h
  | .systemReset .. => .systemReset h
  | .softwareReset .. => .softwareReset h
  | .pllLoss .. => .pllLoss h
  | .pllRelock .. => .pllRelock h
  | .clockEnableWrite .. => .clockEnableWrite h
  | .wake => .wake h
  | .sleepEntryDone => .sleepEntryDone h
  | .pwrFail => .pwrFail h
  | .pwrFailReturn => .pwrFailReturn h
  | .debugChallengeRead => .debugChallengeRead h
  | .debugToken .. => .debugToken h
  | .bypass => .bypass h
  | .idcode => .idcode h
  | .samplePreload .. => .samplePreload h
  | .extest => .extest h
  | .clamp => .clamp h
  | .highz => .highz h
  | .fwProcessorReady .. => .fwProcessorReady h
  | .restartMeasurementDone => .restartMeasurementDone h
  | .activationWriteDone .. => .activationWriteDone h
  | .displayLinkLoss .. => .displayLinkLoss h
  | .ethernetLinkChange .. => .ethernetLinkChange h
  | .pcieLinkUp => .pcieLinkUp h
  | .frameTransmitDone .. => .frameTransmitDone h
  | .canBusOffRecovery .. => .canBusOffRecovery h
  | .linResponseTimeout .. => .linResponseTimeout h
  | .cbResetTimeExpiry .. => .cbResetTimeExpiry h
  | .collCommitAck .. => .collCommitAck h
  | .liveRangeCopyDone .. => .liveRangeCopyDone h

/-- A step takes the front command from the queue, or lets a nanosecond pass. -/
theorem Ends.step {rest : List Instr} (hq : s.pending.tail = rest) :
    Ends { s with pending := rest } (Machine.step s) := by
  unfold Machine.step
  split
  next e =>
    rw [e] at hq
    subst hq
    exact .done ⟨e, id⟩
  next e =>
    rw [e] at hq
    subst hq
    exact .exec (.refl _) _

end

end Sys2Proof.Machine

namespace Sys2Proof.Scope
open Sys2Proof Sys2Proof.Machine Sys2Proof.Safety

/-- Settles O4: a step is one command, or an instant that passes, on the state with the queue's rest; each keeps memory
canonical. -/
theorem memoryStaysCanonical : Obligations.MemoryStaysCanonical := by
  unfold Obligations.MemoryStaysCanonical
  intro s t hs hstep
  exact (Ends.step rfl t hstep).memOk hs

end Sys2Proof.Scope

/-! # A refusal at a full log (R301, R302)

FabricAccesses says of a refused read that, but for the registers, the Field Book, the response and the pools, the state
is as before. A refusal that finds its checker's log full leaves more: the model also remembers the dropped record, so that a
release in the same clock can still log it (R316). -/

namespace Sys2Proof.Machine
open Sys2Proof Sys2Proof.Safety

/-- The device after reset, with all eight records of the log of DRAM controller 0's checker in use. -/
def fullLog : State := State.reset.set (Reg.CAD_STATUS_COUNT 0) 8

/-- A Normal reader of partition 3, which no region of the checker admits. -/
def strangerRead : Instr := .fabricAccess (.work .fabric false 3) 0x1000000000 (.read 4) .none false

/-- The refused read is remembered among the dropped records of checker 0. -/
theorem exec_strangerRead_remembers :
    (match exec strangerRead fullLog with
      | .next t => (KMap.find t.worlds.dropped 0).isSome
      | _ => false) = true := by decide +kernel

theorem fullLog_remembers_nothing : (KMap.find fullLog.worlds.dropped 0).isSome = false := by decide +kernel

end Sys2Proof.Machine

namespace Sys2Proof.Scope
open Sys2Proof Sys2Proof.Machine Sys2Proof.Safety

/-- Refutes O16: the clause on refused reads keeps `worlds`, but with the checker's log full the refusal is remembered
there among the dropped records. -/
theorem not_fabricAccesses : ¬ Obligations.FabricAccesses := by
  unfold Obligations.FabricAccesses
  rintro ⟨-, -, hrefused, -⟩
  obtain ⟨t, hexec, -, -, -, -, hframe⟩ := hrefused (.work .fabric false 3) 0x1000000000 4 .none fullLog
    (by decide) (by decide +kernel) 0 0 (by decide +kernel) (by decide +kernel) (by decide +kernel)
    (by decide +kernel) (by decide +kernel)
  have hkept : t.worlds = fullLog.worlds := by rw [hframe]
  have hremembers := exec_strangerRead_remembers
  rw [strangerRead, hexec] at hremembers
  simp only [hkept, fullLog_remembers_nothing, Bool.false_eq_true] at hremembers

end Sys2Proof.Scope

/-! # A suspend whose status message is delivered to memory (R207, R434)

On entry to suspend the safety island reports INIT at once. The report is also an input of the gateway flow that FB 0x3040.03
names, and an endpoint flow writes it to its receive ring: memory above 0x10_0000_0000 is kept as it stands after the message,
not as it stood before. -/

namespace Sys2Proof.Machine
open Sys2Proof Sys2Proof.Safety

/-- Flow 0 hands what the safety island sends to endpoint 0. -/
def islandFlow : List Nat := [0xC0040000, 0x4041]

/-- Endpoint 0 of the Secure world, with its receive ring in DRAM. -/
def dramEndpoint : Endpoint :=
  { owner := ⟨true, 0⟩, rxLog := 4, txLog := 4, slotLog := 7, lo := 0, hi := 100, rx := 0x1000010000, tx := 0x1000020000 }

/-- The entry to suspend of a device whose safety island runs and reports to endpoint 0. -/
def reportingSuspend : State :=
  let s := (State.reset.set Reg.SAF_STATE_STATE 1).fbSet 0x3040 3 0
  { s with gwy := { s.gwy with flows := [(0, islandFlow)], eps := [(0, dramEndpoint)] }
           pmu := { s.pmu with entering := some 0 } }

theorem reportingSuspend_mem : reportingSuspend.mem = [] := rfl

/-- The report lies in DRAM of the device asleep. -/
theorem exec_sleepEntryDone_writes :
    (match exec .sleepEntryDone reportingSuspend with
      | .next t => t.mem.isEmpty
      | _ => true) = false := by decide +kernel

end Sys2Proof.Machine

namespace Sys2Proof.Scope
open Sys2Proof Sys2Proof.Machine Sys2Proof.Safety

/-- Refutes O58: the clause on SLEEP_ENTRY_DONE to suspend keeps DRAM as it stood before the command, but the safety status
message that the return to INIT sends is delivered by a gateway flow to an endpoint's receive ring in DRAM first. -/
theorem not_resetsAndSleep : ¬ Obligations.ResetsAndSleep := by
  unfold Obligations.ResetsAndSleep
  rintro ⟨-, -, -, -, -, -, -, hsuspend, -⟩
  obtain ⟨t, hexec, -, -, hmem, -⟩ := hsuspend reportingSuspend 0 rfl rfl rfl rfl
  have hwrites := exec_sleepEntryDone_writes
  rw [hexec] at hwrites
  simp [hmem, reportingSuspend_mem] at hwrites

end Sys2Proof.Scope

namespace Sys2Proof.Scope
open Sys2Proof Sys2Proof.Machine Sys2Proof.Safety

/-- Settles O2: with nothing waiting a step is `State.elapse 1`. -/
theorem idleStepElapsesOneNanosecond : Obligations.IdleStepElapsesOneNanosecond := by
  unfold Obligations.IdleStepElapsesOneNanosecond
  intro s hidle
  refine ⟨s.elapse 1, by rw [step, hidle], rfl, ?_, ?_, ?_⟩
  · simp [State.elapse, Servo.slewed]
  · simp [State.elapse, add_assoc]
  · simp [State.elapse, add_assoc]

end Sys2Proof.Scope

/-! # Datum's operations (R42–R57)

What the entry to HOLDOVER, a measured offset and a step do to the servo, to DATUM_STATE and to the rest of the device. -/

namespace Sys2Proof.Safety
open Sys2Proof Sys2Proof.Machine

section
variable {fs : List Field} {ks : List (Nat × Nat)} {s t : State}

theorem OnlyRegs.get (h : OnlyRegs fs ks s t) {f : Field} (hf : f.key ∉ fs.map Field.key) : t.get f = s.get f :=
  h.2.1 f hf

theorem OnlyRegs.servo_eq (h : OnlyRegs fs ks s t) : t.servo = s.servo := by rw [h.1]

/-- The servo's record, replaced on both sides. -/
theorem OnlyRegs.setServo (h : OnlyRegs fs ks s t) (v : Servo) : OnlyRegs fs ks (s.setServo v) (t.setServo v) := by
  refine ⟨?_, fun f hf => h.2.1 f hf, fun i j hk => h.2.2 i j hk⟩
  conv_lhs => rw [h.1]
  rfl

end

/-- What the servo's events leave alone: all but register fields, the Field Book, the servo and the count of free values. -/
def ServoOnly (s t : State) : Prop := t = { s with regs := t.regs, fb := t.fb, servo := t.servo, freeCtr := t.freeCtr }

namespace ServoOnly
variable {fs : List Field} {ks : List (Nat × Nat)} {s t u : State}

theorem refl (s : State) : ServoOnly s s := rfl

theorem trans (h : ServoOnly s t) (h' : ServoOnly t u) : ServoOnly s u := by
  unfold ServoOnly at *
  generalize u.regs = r at h' ⊢
  generalize u.fb = b at h' ⊢
  generalize u.servo = v at h' ⊢
  generalize u.freeCtr = c at h' ⊢
  rw [h', h]

theorem datum (h : ServoOnly s t) : t.datum = s.datum := by rw [h]

theorem mem (h : ServoOnly s t) : t.mem = s.mem := by rw [h]

theorem stepSeq (h : ServoOnly s t) : t.stepSeq = s.stepSeq := by rw [h]

end ServoOnly

end Sys2Proof.Safety

namespace Sys2Proof.Machine
open Sys2Proof Sys2Proof.Safety

/-! ## The entry to HOLDOVER -/

theorem State.onlyRegs_loseAlign (s : State) :
    OnlyRegs [Reg.MER_STATUS_ALIGNED, Reg.MER_EVENTS_ALIGN_LOST] [(0x6020, 6)] s s.loseAlign := by
  unfold State.loseAlign
  split
  · exact (((OnlyRegs.refl _ _ _).set List.mem_cons_self _).set (.tail _ List.mem_cons_self) _).fbInc List.mem_cons_self
  · exact .refl _ _ _

theorem State.servoOnly_loseAlign (s : State) : ServoOnly s s.loseAlign := by
  unfold State.loseAlign
  split <;> rfl

theorem State.enterHoldover_datumState (s : State) : s.enterHoldover.datumState = 2 := by
  have hstate : (s.set Reg.MER_STATUS_DATUM_STATE 2).get Reg.MER_STATUS_DATUM_STATE = 2 :=
    State.get_set_lt _ _ _ (by decide)
  have hevent : ∀ t : State, (t.set Reg.MER_EVENTS_HOLDOVER_ENTERED 1).get Reg.MER_STATUS_DATUM_STATE =
      t.get Reg.MER_STATUS_DATUM_STATE := fun t => State.get_set_other _ _ _ _ (by decide)
  have hrate : ∀ (t : State) (v : Nat), (t.set Reg.MER_RATE_ADJ v).get Reg.MER_STATUS_DATUM_STATE =
      t.get Reg.MER_STATUS_DATUM_STATE := fun t v => State.get_set_other _ _ _ _ (by decide)
  refine ((State.onlyRegs_loseAlign _).get (by decide)).trans ?_
  dsimp only
  split
  · exact (hevent _).trans hstate
  · exact (hrate _ _).trans ((hevent _).trans hstate)

theorem State.servoOnly_enterHoldover (s : State) : ServoOnly s s.enterHoldover := by
  refine ServoOnly.trans ?_ (State.servoOnly_loseAlign _)
  dsimp only
  split <;> rfl

/-- The servo at the entry to HOLDOVER: the evaluation and the slew in progress end. -/
theorem State.enterHoldover_servo (s : State) : s.enterHoldover.servo =
    { s.servo with holdoverAt := s.datum, samples := [], misaligned := 0, slewRate := 0, slewLeft := 0 } := by
  refine (State.onlyRegs_loseAlign _).servo_eq.trans ?_
  dsimp only
  split <;> rfl

/-! ## A source that is evaluated afresh -/

theorem State.sourceChanged_of_locked (s : State) (h : s.datumState = 1) :
    s.sourceChanged = (s.setServo { s.servo with samples := [], lastSync := none }).enterHoldover := if_pos h

theorem State.sourceChanged_of_unlocked (s : State) (h : s.datumState ≠ 1) :
    s.sourceChanged = s.setServo { s.servo with samples := [], lastSync := none } := if_neg h

theorem State.servoOnly_sourceChanged (s : State) : ServoOnly s s.sourceChanged := by
  by_cases h : s.datumState = 1
  · rw [State.sourceChanged_of_locked s h]
    exact ServoOnly.trans (t := s.setServo _) rfl (State.servoOnly_enterHoldover _)
  · rw [State.sourceChanged_of_unlocked s h]
    rfl

/-- The open evaluation is discarded and no Sync of the source stands. -/
theorem State.sourceChanged_servo (s : State) :
    s.sourceChanged.servo.samples = [] ∧ s.sourceChanged.servo.lastSync = none := by
  by_cases h : s.datumState = 1
  · rw [State.sourceChanged_of_locked s h, State.enterHoldover_servo]
    exact ⟨rfl, rfl⟩
  · rw [State.sourceChanged_of_unlocked s h]
    exact ⟨rfl, rfl⟩

theorem State.sourceChanged_locked (s : State) (h : s.datumState = 1) :
    s.sourceChanged.datumState = 2 ∧ s.sourceChanged.servo.holdoverAt = s.datum := by
  rw [State.sourceChanged_of_locked s h]
  exact ⟨State.enterHoldover_datumState _, by rw [State.enterHoldover_servo]; rfl⟩

theorem State.sourceChanged_unlocked (s : State) (h : s.datumState ≠ 1) : s.sourceChanged.datumState = s.datumState := by
  rw [State.sourceChanged_of_unlocked s h]
  rfl

/-! ## A step of Datum (R53) -/

theorem State.get_discardHeld (s : State) (f : Field) (h : ∀ r, f.key ≠ (Reg.SAF_CH_STATUS_HELD r).key) :
    s.discardHeld.get f = s.get f := by
  unfold State.discardHeld
  exact foldl_keeps _ (State.get · f) (List.range 64) (fun _ r _ => State.get_set_other _ _ _ _ (h r)) _

/-- The held results lie in the safety island's registers and data alone. -/
theorem State.discardHeld_eq (s : State) :
    s.discardHeld = { s with regs := s.discardHeld.regs, saf := s.discardHeld.saf } := by
  unfold State.discardHeld
  exact foldl_inv _ (fun t : State => t = { s with regs := t.regs, saf := t.saf }) (List.range 64)
    (fun t r _ ht => by conv_lhs => rw [ht]
                        rfl) _ rfl

theorem State.discardHeld_datum (s : State) : s.discardHeld.datum = s.datum := by rw [State.discardHeld_eq]

theorem State.discardHeld_stepSeq (s : State) : s.discardHeld.stepSeq = s.stepSeq := by rw [State.discardHeld_eq]

theorem State.discardHeld_fb (s : State) : s.discardHeld.fb = s.fb := by rw [State.discardHeld_eq]

theorem Reg.SAF_CH_STATUS_HELD_ne (f : Field) (hf : f.key < 0x10500000 * 64 := by decide) (r : Nat) :
    f.key ≠ (Reg.SAF_CH_STATUS_HELD r).key := by
  have hr : 0x10500000 * 64 ≤ (Reg.SAF_CH_STATUS_HELD r).key := by
    simp only [Field.key, Reg.SAF_CH_STATUS_HELD, Reg.SAF_CH_STATUS_addr]
    omega
  omega

/-- The timeline moved to the source's time. -/
def State.moved (s : State) : State :=
  let t := ((s.datum : Int) - s.servo.offset).toNat
  { s.shiftTimes ((t : Int) - s.datum) with datum := t, datumFrac := 0, stepSeq := s.stepSeq + 1 }

/-- Datum LOCKED, whatever its state was. -/
def State.relocked (s : State) : State := if s.datumState = 1 then s else s.enterLocked

/-- The registers of Datum after a step, and its count. -/
def State.rebased (s : State) : State :=
  (((s.setOffset 0).set Reg.MER_EVENTS_REBASED 1).fbInc 0x6020 2).set Reg.MER_DATUM_CTRL_REBASE 0

/-- The stages of a step; beside them it changes the servo, Meridian's data, the held results and TICK. -/
theorem State.step_stages (s : State) : ∃ v m n, s.step =
    ({ s.moved.relocked.rebased.setServo v with mer := m } : State).discardHeld.set Reg.MER_TICK_COUNT_TICK n :=
  ⟨_, _, _, rfl⟩

theorem State.servoOnly_relocked (s : State) : ServoOnly s s.relocked := by
  unfold State.relocked
  split <;> rfl

theorem State.relocked_fb (s : State) : s.relocked.fb = s.fb := by
  unfold State.relocked
  split <;> rfl

theorem State.relocked_datumState (s : State) : s.relocked.datumState = 1 := by
  unfold State.relocked
  split
  · assumption
  · exact (State.get_set_other _ _ _ _ (by decide)).trans (State.get_set_lt _ _ _ (by decide))

theorem State.rebased_datum (s : State) : s.rebased.datum = s.datum := rfl

theorem State.rebased_stepSeq (s : State) : s.rebased.stepSeq = s.stepSeq := rfl

theorem State.get_setOffset_other (s : State) (f : Field) (d : Int) (h : f.key ≠ Reg.MER_OFFSET_NS_OFFSET.key) :
    (s.setOffset d).get f = s.get f := by
  rw [State.setOffset, State.setServo_get, State.get_set_other _ _ _ _ h]

theorem State.rebased_datumState (s : State) : s.rebased.datumState = s.datumState := by
  rw [State.datumState, State.rebased, State.get_set_other _ _ _ _ (by decide), State.fbInc_get,
    State.get_set_other _ _ _ _ (by decide), State.get_setOffset_other _ _ _ (by decide), State.datumState]

theorem State.step_datum (s : State) : s.step.datum = ((s.datum : Int) - s.servo.offset).toNat := by
  obtain ⟨v, m, n, h⟩ := s.step_stages
  rw [h]
  simp only [State.set_datum, State.discardHeld_datum, State.setServo_datum, State.rebased_datum]
  exact s.moved.servoOnly_relocked.datum

theorem State.step_stepSeq (s : State) : s.step.stepSeq = s.stepSeq + 1 := by
  obtain ⟨v, m, n, h⟩ := s.step_stages
  rw [h]
  simp only [State.set_stepSeq, State.discardHeld_stepSeq, State.setServo_stepSeq, State.rebased_stepSeq]
  exact s.moved.servoOnly_relocked.stepSeq

/-- A step is counted. -/
theorem State.step_fbGet (s : State) : s.step.fbGet 0x6020 2 = satAdd 32 (s.fbGet 0x6020 2) 1 := by
  have hfb : s.step.fb = (s.fbInc 0x6020 2).fb := by
    obtain ⟨v, m, n, h⟩ := s.step_stages
    have hbase : s.moved.relocked.fb = s.fb := s.moved.relocked_fb
    rw [h]
    simp only [State.set_fb, State.discardHeld_fb, State.setServo_fb, State.rebased, State.fbInc, State.fbSet, State.fbGet,
      State.setOffset, hbase]
  rw [State.fbGet, hfb]
  exact State.fbGet_fbInc_same s 0x6020 2

/-- Datum is LOCKED after a step. -/
theorem State.step_datumState (s : State) : s.step.datumState = 1 := by
  obtain ⟨v, m, n, h⟩ := s.step_stages
  rw [h, State.datumState, State.get_set_other _ _ _ _ (by decide), State.get_discardHeld _ _ (Reg.SAF_CH_STATUS_HELD_ne _)]
  exact (State.rebased_datumState _).trans (State.relocked_datumState _)

end Sys2Proof.Machine

namespace Sys2Proof.Machine
open Sys2Proof Sys2Proof.Safety

/-! ## A write of SOURCE and the rebase request (R52, R53) -/

theorem State.writeSource_illegal (s : State) : s.writeSource 3 = (Code.eIllegal, s) := rfl

theorem State.writeSource_same (s : State) (v : Nat) (h3 : v ≠ 3) (h : v = s.get Reg.MER_DATUM_CTRL_SOURCE) :
    s.writeSource v = (Code.ok, s) := by
  rw [State.writeSource, if_neg h3, if_pos h]

theorem State.writeSource_new (s : State) (v : Nat) (h3 : v ≠ 3) (h : v ≠ s.get Reg.MER_DATUM_CTRL_SOURCE) :
    s.writeSource v = (Code.ok, s.sourceChanged.set Reg.MER_DATUM_CTRL_SOURCE v) := by
  rw [State.writeSource, if_neg h3, if_neg h]

theorem State.rebaseRequest_unavailable (s : State) (h : s.sourceAvailable = false) :
    s.rebaseRequest = (Code.eState, s) := by
  rw [State.rebaseRequest, h]; rfl

theorem State.rebaseRequest_running (s : State) (h : s.sourceAvailable = true) (hrun : s.running = true) :
    s.rebaseRequest = (Code.ok, s.set Reg.MER_DATUM_CTRL_REBASE 1) := by
  rw [State.rebaseRequest, h, hrun]; rfl

theorem State.rebaseRequest_stopped (s : State) (h : s.sourceAvailable = true) (hrun : s.running = false) :
    s.rebaseRequest = (Code.ok, s.step) := by
  rw [State.rebaseRequest, h, hrun]; rfl

/-- A status leaves DATUM_STATE. -/
theorem State.merStatus_datumState (s : State) (c : Nat) : (s.merStatus c).datumState = s.datumState :=
  State.get_set_other _ _ _ _ (by decide)

/-! ## Time inputs (R59) -/

theorem State.tin_setTin (s : State) (n : Nat) (r : TimeIn) : (s.setTin n r).tin n = r :=
  KMap.getD_set_same _ _ _ _

theorem State.setTin_eq (s : State) (n : Nat) (r : TimeIn) :
    s.setTin n r = { s with regs := (s.setTin n r).regs, timeIn := (s.setTin n r).timeIn } := rfl

theorem State.regsKept_setTin (s : State) (n : Nat) (r : TimeIn) : RegsKept [Reg.MER_TI_CTRL_COUNT n] s (s.setTin n r) :=
  (RegsKept.congr (t := s) rfl (RegsKept.refl _ s)).set List.mem_cons_self

theorem State.popTin_empty (s : State) (who : Agent) (n : Nat) (h : (s.tin n).fifo = []) :
    s.popTin who n = s.answer 0 := by
  rw [State.popTin, h]

theorem State.popTin_oldest (s : State) (who : Agent) (n c : Nat) (rest : List Nat) (h : (s.tin n).fifo = c :: rest) :
    s.popTin who n = ((s.setTin n { s.tin n with fifo := rest }).setLatch who (Reg.MER_TI_SEC_addr n)
      (c / 1000000000)).answer (2 ^ 31 + c % 1000000000) := by
  rw [State.popTin, h]

end Sys2Proof.Machine

namespace Sys2Proof.Scope
open Sys2Proof Sys2Proof.Machine Sys2Proof.Safety

/-- Settles O7: what a write of SOURCE and a rebase request do is said by `writeSource_…` and `rebaseRequest_…`; a new source
is evaluated afresh (`sourceChanged_…`) and a rebase of a stopped Meridian steps Datum (`step_…`). -/
theorem datumRegisterAccesses : Obligations.DatumRegisterAccesses := by
  unfold Obligations.DatumRegisterAccesses
  refine ⟨?_, ?_, ?_, ?_, ?_, ?_, ?_, ?_, ?_⟩
  · intro who s hp
    exact does_merStatus hp rfl rfl (by decide)
  · intro who v s hp h3 hnew
    refine does_gateWrite hp rfl ?_
    generalize hs' : s.answer 0 = s'
    have hwrite : s'.writeSource v.toNat = _ := s'.writeSource_new _ h3 (by subst hs'; exact hnew)
    have honly := s'.servoOnly_sourceChanged
    obtain ⟨hsamples, hsync⟩ := s'.sourceChanged_servo
    have hstate : ((s'.sourceChanged.set Reg.MER_DATUM_CTRL_SOURCE v.toNat).merStatus Code.ok).datumState =
        s'.sourceChanged.datumState :=
      (State.merStatus_datumState _ _).trans (State.get_set_other _ _ _ _ (by decide))
    simp only [hwrite]
    refine ⟨State.get_set_lt _ _ _ (by decide), ?_, hsamples, hsync, ?_, ?_, fun hlocked => ?_, fun hunlocked => ?_⟩
    · exact (State.get_set_other _ _ _ _ (by decide)).trans (State.get_set_lt _ _ _ v.isLt)
    · exact honly.datum.trans (hs' ▸ rfl)
    · exact honly.mem.trans (hs' ▸ rfl)
    · obtain ⟨hhold, hat⟩ := s'.sourceChanged_locked (hs' ▸ hlocked)
      exact ⟨hstate.trans hhold, hat.trans (hs' ▸ rfl)⟩
    · exact hstate.trans ((s'.sourceChanged_unlocked (hs' ▸ hunlocked)).trans (hs' ▸ rfl))
  · intro who v s hp h3 hsame
    refine does_merStatus hp rfl ?_ (by decide)
    exact congrArg (fun r : Nat × State => r.2.merStatus r.1) (State.writeSource_same (s.answer 0) _ h3 hsame)
  · intro who s hp hsource
    refine does_merStatus hp rfl ?_ (by decide)
    exact congrArg (fun r : Nat × State => r.2.merStatus r.1) (State.rebaseRequest_unavailable (s.answer 0) hsource)
  · intro who s hp hsource hrun
    refine does_gateWrite hp rfl ?_
    simp only [State.rebaseRequest_running (s.answer 0) hsource hrun]
    refine ⟨State.get_set_lt _ _ _ (by decide), ?_, ?_⟩
    · exact (State.bit_set_other _ _ _ _ (by decide)).trans (State.bit_set_same _ _ _)
    · exact ((OnlyRegs.answered _ _ _ _).set (.tail _ List.mem_cons_self) _).set List.mem_cons_self _
  · intro who s hp hsource hrun
    refine does_gateWrite hp rfl ?_
    simp only [State.rebaseRequest_stopped (s.answer 0) hsource hrun]
    have hdatum : (s.answer 0).step.datum = ((s.datum : Int) - s.servo.offset).toNat := (s.answer 0).step_datum
    have hstate := (s.answer 0).step_datumState
    have hseq : (s.answer 0).step.stepSeq = s.stepSeq + 1 := (s.answer 0).step_stepSeq
    have hcount : (s.answer 0).step.fbGet 0x6020 2 = satAdd 32 (s.fbGet 0x6020 2) 1 := (s.answer 0).step_fbGet
    generalize (s.answer 0).step = u at hdatum hstate hseq hcount ⊢
    exact ⟨State.get_set_lt _ _ _ (by decide), hdatum, (u.merStatus_datumState _).trans hstate, hseq, hcount⟩
  · intro who s hp
    refine ⟨_, rfl, ?_⟩
    rw [State.gate_pass _ _ _ _ _ hp]
    exact ⟨rfl, rfl, KMap.find_put_same _ _ _, rfl⟩
  · intro who n s hp c rest hfifo
    refine ⟨_, rfl, ?_⟩
    rw [State.gate_pass _ _ _ _ _ hp, State.popTin_oldest _ _ _ _ _ hfifo]
    refine ⟨rfl, congrArg TimeIn.fifo (s.tin_setTin _ _), KMap.find_put_same _ _ _, ?_, rfl⟩
    exact RegsKept.congr rfl (s.regsKept_setTin _ _)
  · intro who n s hp hfifo
    refine ⟨_, rfl, ?_⟩
    rw [State.gate_pass _ _ _ _ _ hp, State.popTin_empty _ _ _ hfifo]
    exact ⟨rfl, rfl⟩

end Sys2Proof.Scope

namespace Sys2Proof.Machine
open Sys2Proof Sys2Proof.Safety

/-! ## The loss of the source (R52, R55) -/

/-- The servo at the loss of its source: nothing is being evaluated, no Sync stands, and the grandmaster counts as lost. -/
def Servo.lost (v : Servo) : Servo :=
  { v with samples := [], lastSync := none, master := v.master.map (fun m => { m with aged := true }) }

theorem State.advanceTo_master (s : State) (t : Nat) : (s.advanceTo t).servo.master = s.servo.master := by
  unfold State.advanceTo
  split <;> rfl

theorem State.advanceTo_datumState (s : State) (t : Nat) : (s.advanceTo t).datumState = s.datumState := by
  unfold State.advanceTo
  split <;> rfl

section
variable {s : State} {l : Nat} (hsync : s.servo.lastSync = some l)
include hsync

theorem State.sourceLost_of_locked (h : s.datumState = 1) : s.sourceLost =
    ((s.advanceTo (l + s.lossLimit)).setServo (s.advanceTo (l + s.lossLimit)).servo.lost).enterHoldover := by
  rw [State.sourceLost, hsync]
  exact if_pos (Eq.trans (b := (s.advanceTo (l + s.lossLimit)).datumState) rfl ((s.advanceTo_datumState _).trans h))

theorem State.sourceLost_of_unlocked (h : s.datumState ≠ 1) : s.sourceLost =
    (s.advanceTo (l + s.lossLimit)).setServo (s.advanceTo (l + s.lossLimit)).servo.lost := by
  rw [State.sourceLost, hsync]
  exact if_neg (fun hs => h ((s.advanceTo_datumState (l + s.lossLimit)).symm.trans hs))

/-- Datum reads at least the limit, the evaluation and the last Sync are gone, the grandmaster counts as lost. -/
theorem State.sourceLost_servo : s.sourceLost.servo.lastSync = none ∧ s.sourceLost.servo.samples = [] ∧
    s.sourceLost.servo.master = s.servo.master.map (fun m => { m with aged := true }) := by
  by_cases h : s.datumState = 1
  · rw [State.sourceLost_of_locked hsync h, State.enterHoldover_servo]
    exact ⟨rfl, rfl, congrArg (Option.map _) (s.advanceTo_master _)⟩
  · rw [State.sourceLost_of_unlocked hsync h]
    exact ⟨rfl, rfl, congrArg (Option.map _) (s.advanceTo_master _)⟩

theorem State.sourceLost_datum : s.sourceLost.datum = max s.datum (l + s.lossLimit) := by
  rw [← State.advanceTo_datum]
  by_cases h : s.datumState = 1
  · rw [State.sourceLost_of_locked hsync h, (State.servoOnly_enterHoldover _).datum]; rfl
  · rw [State.sourceLost_of_unlocked hsync h]; rfl

theorem State.sourceLost_mem : s.sourceLost.mem = s.mem := by
  rw [← s.advanceTo_mem (l + s.lossLimit)]
  by_cases h : s.datumState = 1
  · rw [State.sourceLost_of_locked hsync h, (State.servoOnly_enterHoldover _).mem]; rfl
  · rw [State.sourceLost_of_unlocked hsync h]; rfl

theorem State.sourceLost_locked (h : s.datumState = 1) :
    s.sourceLost.datumState = 2 ∧ s.sourceLost.servo.holdoverAt = s.sourceLost.datum := by
  rw [State.sourceLost_of_locked hsync h]
  refine ⟨State.enterHoldover_datumState _, ?_⟩
  rw [State.enterHoldover_servo, (State.servoOnly_enterHoldover _).datum]

theorem State.sourceLost_unlocked (h : s.datumState ≠ 1) : s.sourceLost.datumState = s.datumState := by
  rw [State.sourceLost_of_unlocked hsync h]
  exact s.advanceTo_datumState _

end

/-! ## The end of the holdover (R43) -/

/-- Datum as its holdover ends. -/
def State.expire (s : State) : State :=
  (s.set Reg.MER_STATUS_DATUM_STATE 3).set Reg.MER_EVENTS_HOLDOVER_EXPIRED 1

theorem State.expire_datumState (s : State) : s.expire.datumState = 3 :=
  (State.get_set_other _ _ _ _ (by decide)).trans (State.get_set_lt _ _ _ (by decide))

theorem State.expire_event (s : State) : s.expire.bit Reg.MER_EVENTS_HOLDOVER_EXPIRED = true :=
  State.bit_set_same _ _ _

theorem State.regsKept_expire (s : State) :
    RegsKept [Reg.MER_STATUS_DATUM_STATE, Reg.MER_EVENTS_HOLDOVER_EXPIRED] s s.expire :=
  ((RegsKept.refl _ s).set List.mem_cons_self).set (.tail _ List.mem_cons_self)

theorem State.expire_eq (s : State) : s.expire = { s with regs := s.expire.regs } := rfl

theorem State.expire_datum (s : State) : s.expire.datum = s.datum := rfl

theorem State.regsKept_advanceTo (fs : List Field) (s : State) (t : Nat) : RegsKept fs s (s.advanceTo t) :=
  fun f _ => s.advanceTo_get t f

theorem execHoldoverExpiry_expired (s : State) (h : s.datumState = 2) : execHoldoverExpiry s =
    done (s.advanceTo (s.servo.holdoverAt + s.fbGet 0x2010 6 * 1000000000)).expire := by
  rw [execHoldoverExpiry, if_pos h]
  rfl

/-! ## Edges of a time input (R59) -/

theorem execTimeInEdge_off (n : Fin 8) (rising : Bool) (s : State) (h : s.bit (Reg.MER_TI_CTRL_EN n.val) = false) :
    execTimeInEdge n rising s = done s := by
  simp [execTimeInEdge, h]

/-- The last capture lies no less than 100 ns back. -/
theorem State.tin_far (s : State) (n : Nat) (h : (s.tin n).last.all (fun l => l + 100 ≤ s.datum) = true) :
    (match (s.tin n).last with | some t => decide (s.datum < t + 100) | none => false) = false := by
  cases hl : (s.tin n).last with
  | none => rfl
  | some t => simpa [hl] using h

section
variable {n : Fin 8} {rising : Bool} {s : State} (hen : s.bit (Reg.MER_TI_CTRL_EN n.val) = true)
  (hsel : bitOf (s.get (Reg.MER_TI_CTRL_EDGE n.val)) (if rising then 0 else 1) = true)
include hen hsel

/-- An edge that the input selects is captured, found too near to the last capture, or dropped. -/
theorem execTimeInEdge_selected : execTimeInEdge n rising s =
    (if (match (s.tin n.val).last with | some t => decide (s.datum < t + 100) | none => false) = true then
      done (s.set (Reg.MER_TI_CTRL_MISSED n.val) 1)
    else if 16 ≤ (s.tin n.val).fifo.length then done (s.set (Reg.MER_TI_CTRL_OVERFLOW n.val) 1)
    else done (s.setTin n.val ⟨(s.tin n.val).fifo ++ [s.datum], some s.datum⟩)) := by
  have hgate : (!s.bit (Reg.MER_TI_CTRL_EN n.val) || !(if rising then bitOf (s.get (Reg.MER_TI_CTRL_EDGE n.val)) 0
      else bitOf (s.get (Reg.MER_TI_CTRL_EDGE n.val)) 1)) = false := by
    cases rising <;> simpa [hen] using hsel
  rw [execTimeInEdge]
  simp only [hgate]
  rfl

theorem execTimeInEdge_near {l : Nat} (hlast : (s.tin n.val).last = some l) (h : s.datum < l + 100) :
    execTimeInEdge n rising s = done (s.set (Reg.MER_TI_CTRL_MISSED n.val) 1) := by
  rw [execTimeInEdge_selected hen hsel, hlast]
  exact if_pos (decide_eq_true h)

variable (hfar : (s.tin n.val).last.all (fun l => l + 100 ≤ s.datum) = true)
include hfar

theorem execTimeInEdge_full (h : 16 ≤ (s.tin n.val).fifo.length) :
    execTimeInEdge n rising s = done (s.set (Reg.MER_TI_CTRL_OVERFLOW n.val) 1) := by
  rw [execTimeInEdge_selected hen hsel, s.tin_far _ hfar, if_neg Bool.false_ne_true, if_pos h]

theorem execTimeInEdge_captured (h : (s.tin n.val).fifo.length < 16) :
    execTimeInEdge n rising s = done (s.setTin n.val ⟨(s.tin n.val).fifo ++ [s.datum], some s.datum⟩) := by
  rw [execTimeInEdge_selected hen hsel, s.tin_far _ hfar, if_neg Bool.false_ne_true, if_neg (Nat.not_le_of_lt h)]

end

end Sys2Proof.Machine

namespace Sys2Proof.Scope
open Sys2Proof Sys2Proof.Machine Sys2Proof.Safety

/-- Settles O9: the loss of the source is `sourceLost_…`, an edge of a time input has the ends of `execTimeInEdge_…`; each of
the other events passes time and updates the fields named. -/
theorem datumTimedEvents : Obligations.DatumTimedEvents := by
  unfold Obligations.DatumTimedEvents
  refine ⟨?_, ?_, ?_, ?_, ?_, ?_, ?_, ?_, ?_⟩
  · intro s hsource l hsync
    obtain ⟨hnone, hsamples, hmaster⟩ := State.sourceLost_servo hsync
    exact ⟨_, if_pos hsource, State.sourceLost_datum hsync, hnone, hsamples, hmaster, State.sourceLost_locked hsync,
      State.sourceLost_unlocked hsync, State.sourceLost_mem hsync⟩
  · intro s hsource l hsync
    obtain ⟨hnone, hsamples, hmaster⟩ := State.sourceLost_servo hsync
    exact ⟨_, if_pos hsource, State.sourceLost_datum hsync, hnone, hsamples, hmaster, State.sourceLost_locked hsync,
      State.sourceLost_unlocked hsync⟩
  · intro s hholdover
    exact ⟨_, execHoldoverExpiry_expired s hholdover, State.expire_datumState _, State.expire_event _,
      (State.expire_datum _).trans (s.advanceTo_datum _), (s.regsKept_advanceTo _ _).trans (State.regsKept_expire _), State.expire_eq _⟩
  · intro s l hwait
    have hdatum := s.advanceTo_datum l
    refine ⟨_, by rw [exec, execAcquisitionWaitExpiry, hwait]; rfl, ?_⟩
    generalize s.advanceTo l = u at hdatum ⊢
    exact ⟨rfl, hdatum, rfl⟩
  · intro n s l hpulse
    have hdatum := s.advanceTo_datum l
    refine ⟨_, by rw [exec, execTimeOutPulse, hpulse]; rfl, ?_⟩
    have hout : (s.advanceTo l).out = s.out := s.advanceTo_out l
    have hmer : (s.advanceTo l).mer = s.mer := s.advanceTo_mer l
    have hwidth := s.advanceTo_get l (Reg.MER_TO_WIDTH_NS_WIDTH_NS n.val)
    have hpol := s.advanceTo_bit l (Reg.MER_TOUT_CTRL_POL n.val)
    generalize s.advanceTo l = u at hdatum hout hmer hwidth hpol ⊢
    rw [← hout, ← hmer, ← hwidth, ← hpol]
    exact ⟨rfl, hdatum, KMap.find_put_same _ _ _, rfl⟩
  · intro n rising s hen hsel hfar hroom
    refine ⟨_, execTimeInEdge_captured hen hsel hfar hroom, s.tin_setTin _ _, ?_, s.regsKept_setTin _ _, s.setTin_eq _ _⟩
    refine (State.get_set_same _ _ _).trans ?_
    rw [List.length_append]
    exact Nat.mod_eq_of_lt (Nat.lt_of_lt_of_le (Nat.succ_lt_succ hroom) (show 17 ≤ 2 ^ 5 by decide))
  · intro n rising s hen hsel hfar hfull
    exact ⟨_, execTimeInEdge_full hen hsel hfar hfull, State.bit_set_same _ _ _,
      (OnlyRegs.refl _ _ s).set List.mem_cons_self _⟩
  · intro n rising s hen hsel l hlast hnear
    exact ⟨_, execTimeInEdge_near hen hsel hlast hnear, State.bit_set_same _ _ _,
      (OnlyRegs.refl _ _ s).set List.mem_cons_self _⟩
  · intro n rising s hoff
    exact ⟨s, execTimeInEdge_off _ _ _ hoff, rfl⟩

end Sys2Proof.Scope

namespace Sys2Proof.Machine
open Sys2Proof Sys2Proof.Safety

/-! ## A measured offset (R50, R51) -/

theorem State.setOffset_datumState (s : State) (d : Int) : (s.setOffset d).datumState = s.datumState :=
  State.get_setOffset_other _ _ _ (by decide)

theorem State.get_servoUpdate (s : State) (f : Field) (d : Int) (h : f.key ≠ Reg.MER_RATE_ADJ.key) :
    (s.servoUpdate d).get f = s.get f :=
  (State.get_set_other s.freeInt.2.freeNat.2 _ f _ h).trans rfl

theorem State.servoUpdate_datumState (s : State) (d : Int) : (s.servoUpdate d).datumState = s.datumState :=
  s.get_servoUpdate _ d (by decide)

theorem State.enterLocked_datumState (s : State) : s.enterLocked.datumState = 1 :=
  (State.get_set_other _ _ _ _ (by decide)).trans (State.get_set_lt _ _ _ (by decide))

theorem State.enterLocked_event (s : State) : s.enterLocked.bit Reg.MER_EVENTS_LOCK_ACQUIRED = true :=
  State.bit_set_same _ _ _

section
variable {s : State} {d : Int}

/-- A LOCKED Datum tracks an offset inside the threshold. -/
theorem State.takeOffset_tracks (h : s.datumState = 1) (hin : s.inside d = true) :
    s.takeOffset d = (s.setOffset d).servoUpdate d := by
  rw [State.takeOffset, if_pos ((s.setOffset_datumState d).trans h)]
  exact if_pos hin

/-- A LOCKED Datum is left for HOLDOVER at an offset outside the threshold. -/
theorem State.takeOffset_leaves (h : s.datumState = 1) (hout : s.inside d = false) :
    s.takeOffset d = (s.setOffset d).enterHoldover := by
  rw [State.takeOffset, if_pos ((s.setOffset_datumState d).trans h)]
  exact if_neg (fun hin => Bool.false_ne_true (hout.symm.trans hin))

/-- The state that closes an evaluation. -/
def State.evaluated (s : State) (d : Int) : State :=
  (s.setOffset d).setServo { (s.setOffset d).servo with samples := [] }

theorem State.evaluated_datumState : (s.evaluated d).datumState = s.datumState := s.setOffset_datumState d

theorem State.evaluated_inside (m : Int) : (s.evaluated d).inside m = s.inside m := by
  rw [State.inside, State.evaluated, State.setServo_fbGet, State.setOffset, State.setServo_fbGet, State.set_fbGet,
    State.inside]

/-- The fourth offset of an evaluation in HOLDOVER closes it. -/
theorem State.takeOffset_closes (h : s.datumState = 2) (hacq : s.servo.acqPending = false)
    (hlen : s.servo.samples.length = 3) :
    s.takeOffset d = if (s.evaluated d).inside (median4 (s.servo.samples ++ [d])) then
      (s.evaluated d).enterLocked.servoUpdate (median4 (s.servo.samples ++ [d])) else (s.evaluated d).refuseJump := by
  have hstate := (s.setOffset_datumState d).trans h
  have hfour : ¬ (s.servo.samples ++ [d]).length < 4 := by simp [hlen]
  rw [State.takeOffset, if_neg (by rw [hstate]; decide)]
  refine (if_neg (Bool.eq_false_iff.1 hacq)).trans ((if_neg hfour).trans ((if_neg ?_).trans rfl))
  intro hfree
  have hzero : (s.setOffset d).datumState = 0 := of_decide_eq_true (Bool.and_eq_true_iff.1 hfree).1
  omega

end

/-- The source's time is taken where the median of the evaluation lies inside the threshold, and refused elsewhere. -/
theorem State.takeOffset_closed {s : State} {d m : Int} (h : s.datumState = 2) (hacq : s.servo.acqPending = false)
    (hlen : s.servo.samples.length = 3) (hm : median4 (s.servo.samples ++ [d]) = m) :
    (s.takeOffset d).servo.samples = [] ∧ ServoOnly s (s.takeOffset d) ∧
      (s.inside m = true → (s.takeOffset d).datumState = 1 ∧
        (s.takeOffset d).bit Reg.MER_EVENTS_LOCK_ACQUIRED = true) ∧
      (s.inside m = false → (s.takeOffset d).datumState = 2 ∧
        (s.takeOffset d).bit Reg.MER_EVENTS_JUMP_REFUSED = true ∧
        (s.takeOffset d).fbGet 0x6020 1 = satAdd 32 (s.fbGet 0x6020 1) 1) := by
  have hsamples : (s.evaluated d).servo.samples = [] := rfl
  have honly : ServoOnly s (s.evaluated d) := rfl
  have hstate : (s.evaluated d).datumState = 2 := State.evaluated_datumState.trans h
  have hfb : (s.evaluated d).fbGet 0x6020 1 = s.fbGet 0x6020 1 := rfl
  rw [State.takeOffset_closes h hacq hlen, hm, State.evaluated_inside]
  generalize s.evaluated d = u at hsamples honly hstate hfb ⊢
  by_cases hin : s.inside m = true
  · rw [if_pos hin]
    refine ⟨hsamples, honly.trans rfl, fun _ => ⟨?_, ?_⟩, fun hout => Bool.noConfusion (hin.symm.trans hout)⟩
    · exact (State.servoUpdate_datumState _ _).trans u.enterLocked_datumState
    · rw [State.bit, State.get_servoUpdate _ _ _ (by decide)]
      exact u.enterLocked_event
  · rw [if_neg hin]
    refine ⟨hsamples, honly.trans rfl, fun h => absurd h hin, fun _ => ⟨?_, ?_, ?_⟩⟩
    · rw [State.datumState, State.refuseJump, State.fbInc_get, State.get_set_other _ _ _ _ (by decide)]
      exact hstate
    · rw [State.refuseJump, State.fbInc_bit]
      exact State.bit_set_same _ _ _
    · rw [State.refuseJump, State.fbGet_fbInc_same, State.set_fbGet, hfb]

/-! ## Messages of gPTP and PTM -/

/-- The servo after a Sync: its time and interval. -/
def State.synced (s : State) (lg : Nat) : State :=
  s.setServo { s.servo with lastSync := some s.datum, interval := 31250000 * 2 ^ lg }

theorem State.synced_datumState (s : State) (lg : Nat) : (s.synced lg).datumState = s.datumState := rfl

/-- A Sync of the selected grandmaster is an offset for the servo. -/
theorem exec_syncReceived_taken {mac : Fin 6} {ident : BitVec 64} {org : BitVec 80} {age : BitVec 32} {lg : Fin 6}
    {s : State} (hmac : s.gptpMac mac.val = true) (hup : s.gatewayUp = true)
    (hsource : s.get Reg.MER_DATUM_CTRL_SOURCE = 1) (hconfig : s.fbGet 0x2010 0xA ≠ 2) {m : Master}
    (hmaster : s.servo.master = some m) (hident : m.identity = ident.toNat) (hport : m.mac = mac.val) {d : Int}
    (hdelay : KMap.find s.servo.peerDelay mac.val = some d) :
    exec (.syncReceived mac 0 ident org age lg) s = done ((s.synced lg.val).takeOffset
      ((s.datum : Int) - age.toNat + s.ingress mac.val - (org.toNat + d))) := by
  have hgate : (!s.gptpMac mac.val || !s.gatewayUp || decide (s.get Reg.MER_DATUM_CTRL_SOURCE ≠ 1) ||
      decide (s.fbGet 0x2010 0xA = 2)) = false := by simp [hmac, hup, hsource, hconfig]
  rw [exec, execSyncReceived]
  refine (if_neg (fun h => h rfl)).trans ((if_neg (Bool.eq_false_iff.1 hgate)).trans ?_)
  rw [hmaster, hdelay]
  exact if_pos ⟨hident, hport⟩

/-- The announced clock displaces the grandmaster under best master selection. -/
def State.prefers (s : State) (m : Master) : Bool :=
  match s.servo.master with
  | none => decide (m.vector < ownVector)
  | some old => (old.identity = m.identity && old.mac = m.mac) ||
      (decide (m.vector < ownVector) && (old.aged || decide (m.vector < old.vector)))

/-- The clock that an Announce names. -/
def announced (mac : Fin 6) (p1 : BitVec 8) (q : BitVec 32) (p2 : BitVec 8) (ident : BitVec 64) (steps : BitVec 16) : Master :=
  { vector := announceVector p1.toNat q.toNat p2.toNat ident.toNat steps.toNat, identity := ident.toNat, mac := mac.val }

section
variable {mac : Fin 6} {p1 : BitVec 8} {q : BitVec 32} {p2 : BitVec 8} {ident : BitVec 64} {steps : BitVec 16} {s : State}

/-- An Announce in domain 0 gives a new grandmaster or nothing. -/
theorem exec_announceReceived : exec (.announceReceived mac 0 p1 q p2 ident steps) s =
    if (!s.gptpMac mac.val || !s.gatewayUp || decide (s.portConfig = 2)) = true then done s
    else if (decide (s.portConfig = 1) || s.prefers (announced mac p1 q p2 ident steps)) = true then
      done (s.takeMaster (announced mac p1 q p2 ident steps)) else done s := rfl

theorem exec_announceReceived_taken (hmac : s.gptpMac mac.val = true) (hup : s.gatewayUp = true)
    (h : s.portConfig = 1 ∨ (s.portConfig = 0 ∧ s.prefers (announced mac p1 q p2 ident steps) = true)) :
    exec (.announceReceived mac 0 p1 q p2 ident steps) s = done (s.takeMaster (announced mac p1 q p2 ident steps)) := by
  have hconfig : s.portConfig ≠ 2 := by omega
  have htaken : (decide (s.portConfig = 1) || s.prefers (announced mac p1 q p2 ident steps)) = true := by
    rcases h with h | ⟨-, h⟩ <;> simp [h]
  rw [exec_announceReceived, if_neg (by simp [hmac, hup, hconfig]), if_pos htaken]

theorem exec_announceReceived_kept (hconfig : s.portConfig = 0)
    (h : s.prefers (announced mac p1 q p2 ident steps) = false) :
    exec (.announceReceived mac 0 p1 q p2 ident steps) s = done s := by
  rw [exec_announceReceived]
  split
  · rfl
  · rw [if_neg (by simp [hconfig, h])]

end

theorem State.takeMaster_first (s : State) (m : Master) (h : s.servo.master = none) :
    s.takeMaster m = s.setServo { s.servo with master := some m } := by
  rw [State.takeMaster, h]

/-- A change of the grandmaster's identity is counted. -/
def State.remastered (s : State) (m : Master) : State := (s.setServo { s.servo with master := some m }).fbInc 0x6020 7

theorem State.takeMaster_change (s : State) (m old : Master) (h : s.servo.master = some old)
    (hne : old.identity ≠ m.identity) : s.takeMaster m =
      if s.get Reg.MER_DATUM_CTRL_SOURCE = 1 then (s.remastered m).sourceChanged else s.remastered m := by
  rw [State.takeMaster, h]
  exact if_neg hne

theorem State.remastered_fbGet (s : State) (m : Master) :
    (s.remastered m).fbGet 0x6020 7 = satAdd 32 (s.fbGet 0x6020 7) 1 :=
  State.fbGet_fbInc_same (s.setServo _) _ _

theorem State.servoOnly_remastered (s : State) (m : Master) : ServoOnly s (s.remastered m) := rfl

theorem State.loseAlign_fbGet (s : State) (i j : Nat) (h : i * 256 + j ≠ 0x6020 * 256 + 6) :
    s.loseAlign.fbGet i j = s.fbGet i j :=
  s.onlyRegs_loseAlign.2.2 i j (by simpa using h)

theorem State.enterHoldover_fbGet (s : State) (i j : Nat) (h : i * 256 + j ≠ 0x6020 * 256 + 6) :
    s.enterHoldover.fbGet i j = s.fbGet i j := by
  refine (State.loseAlign_fbGet _ i j h).trans ?_
  dsimp only
  split <;> rfl

theorem State.sourceChanged_fbGet (s : State) (i j : Nat) (h : i * 256 + j ≠ 0x6020 * 256 + 6) :
    s.sourceChanged.fbGet i j = s.fbGet i j := by
  by_cases hs : s.datumState = 1
  · rw [State.sourceChanged_of_locked s hs, State.enterHoldover_fbGet _ i j h]; rfl
  · rw [State.sourceChanged_of_unlocked s hs]; rfl

theorem State.sourceChanged_master (s : State) : s.sourceChanged.servo.master = s.servo.master := by
  by_cases hs : s.datumState = 1
  · rw [State.sourceChanged_of_locked s hs, State.enterHoldover_servo]; rfl
  · rw [State.sourceChanged_of_unlocked s hs]; rfl

/-! ## The follower's alignment (R55, R56) -/

theorem State.servoOnly_alignExchange (s : State) (d : Int) : ServoOnly s (s.alignExchange d) := by
  unfold State.alignExchange
  split
  · rfl
  · dsimp only
    split
    · exact ServoOnly.trans (t := s.setServo _) rfl (State.servoOnly_loseAlign _)
    · rfl

/-- An exchange leaves the servo but for its count of misaligned exchanges. -/
theorem State.alignExchange_servo (s : State) (d : Int) :
    (s.alignExchange d).servo.offset = s.servo.offset ∧ (s.alignExchange d).servo.lastSync = s.servo.lastSync := by
  unfold State.alignExchange
  split
  · exact ⟨rfl, rfl⟩
  · dsimp only
    split
    · rw [(State.onlyRegs_loseAlign _).servo_eq]
      exact ⟨rfl, rfl⟩
    · exact ⟨rfl, rfl⟩

theorem State.alignExchange_aligned (s : State) (d : Int) (hd : d.natAbs ≤ 50) (h : s.datumState = 1) :
    (s.alignExchange d).bit Reg.MER_STATUS_ALIGNED = true ∧ (s.alignExchange d).datumState = 1 := by
  rw [State.alignExchange, if_pos ⟨hd, h⟩, State.datumState, State.setServo_get, State.setServo_bit]
  exact ⟨State.bit_set_same s _ _, (State.get_set_other s _ _ _ (by decide)).trans h⟩

/-- What a LOCKED Datum does with an offset, inside the threshold or outside it. -/
theorem State.takeOffset_locked (s : State) (d : Int) (h : s.datumState = 1) :
    (s.takeOffset d).servo.offset = d ∧ (s.takeOffset d).servo.lastSync = s.servo.lastSync ∧
      (s.takeOffset d).servo.interval = s.servo.interval ∧ ServoOnly s (s.takeOffset d) ∧
      (s.inside d = true → (s.takeOffset d).datumState = 1) ∧ (s.inside d = false → (s.takeOffset d).datumState = 2) := by
  by_cases hin : s.inside d = true
  · rw [State.takeOffset_tracks h hin]
    refine ⟨rfl, rfl, rfl, rfl, fun _ => ?_, fun hout => Bool.noConfusion (hin.symm.trans hout)⟩
    exact (State.servoUpdate_datumState _ _).trans ((s.setOffset_datumState d).trans h)
  · have hout := Bool.eq_false_iff.2 hin
    rw [State.takeOffset_leaves h hout, State.enterHoldover_servo]
    refine ⟨rfl, rfl, rfl, ?_, fun h => absurd h hin, fun _ => State.enterHoldover_datumState _⟩
    exact ServoOnly.trans (t := s.setOffset d) rfl (State.servoOnly_enterHoldover _)

/-- The fields of Datum that an entry to HOLDOVER writes. -/
def holdoverFields : List Field := [Reg.MER_STATUS_DATUM_STATE, Reg.MER_EVENTS_HOLDOVER_ENTERED, Reg.MER_RATE_ADJ,
  Reg.MER_STATUS_ALIGNED, Reg.MER_EVENTS_ALIGN_LOST]

theorem State.regsKept_enterHoldover (s : State) : RegsKept holdoverFields s s.enterHoldover := by
  refine RegsKept.trans ?_ ((State.onlyRegs_loseAlign _).2.1.mono (by simp [holdoverFields]))
  have hentered : RegsKept holdoverFields s
      ((s.set Reg.MER_STATUS_DATUM_STATE 2).set Reg.MER_EVENTS_HOLDOVER_ENTERED 1) :=
    ((RegsKept.refl _ s).set (by simp [holdoverFields])).set (by simp [holdoverFields])
  dsimp only
  split
  · exact RegsKept.congr rfl hentered
  · exact RegsKept.congr rfl (hentered.set (f := Reg.MER_RATE_ADJ) (by simp [holdoverFields]))

/-- The straps do not move with an offset. -/
theorem State.takeOffset_ownTime (s : State) (d : Int) (h : s.datumState = 1) :
    (s.takeOffset d).ownTime = s.ownTime := by
  have hkept : ∀ f : Field, f.key ∉ (Reg.MER_OFFSET_NS_OFFSET :: holdoverFields).map Field.key →
      (s.takeOffset d).get f = s.get f := by
    intro f hf
    rw [List.map_cons, List.mem_cons, not_or] at hf
    refine Eq.trans ?_ (s.get_setOffset_other f d hf.1)
    by_cases hin : s.inside d = true
    · rw [State.takeOffset_tracks h hin]
      exact State.get_servoUpdate _ _ _ (fun he => hf.2 (he ▸ by decide))
    · rw [State.takeOffset_leaves h (Bool.eq_false_iff.2 hin)]
      exact State.regsKept_enterHoldover _ f hf.2
  rw [State.ownTime, State.ownTime, State.bit, State.bit, hkept _ (by decide), hkept _ (by decide)]

end Sys2Proof.Machine

namespace Sys2Proof.Scope
open Sys2Proof Sys2Proof.Machine Sys2Proof.Safety

/-- Settles O8: a Sync or a PTM exchange is an offset that `takeOffset_…` describes, an Announce is a new grandmaster
(`takeMaster_…`) or nothing, and a message of another domain is counted. -/
theorem timeSynchronisationMessages : Obligations.TimeSynchronisationMessages := by
  unfold Obligations.TimeSynchronisationMessages
  refine ⟨?_, ?_, ?_, ?_, ?_, ?_, ?_, ?_, ?_, ?_, ?_, ?_⟩
  · intro mac ident org age lg s hmac hup hsource hconfig hlocked m hmaster hident hport d hdelay
    obtain ⟨hoffset, hsync, hinterval, honly, hin, hout⟩ := (s.synced lg.val).takeOffset_locked
      ((s.datum : Int) - age.toNat + s.ingress mac.val - (org.toNat + d)) hlocked
    exact ⟨_, exec_syncReceived_taken hmac hup hsource hconfig hmaster hident hport hdelay, hoffset, hsync, hinterval,
      honly.datum, honly.mem, hin, hout⟩
  · intro mac ident org age lg s hmac hup hsource hconfig hholdover hacq m hmaster hident hport d hdelay o hthree
    obtain ⟨hsamples, honly, hin, hout⟩ :=
      State.takeOffset_closed (s := s.synced lg.val) (d := o) hholdover hacq hthree rfl
    exact ⟨_, exec_syncReceived_taken hmac hup hsource hconfig hmaster hident hport hdelay, hsamples, hin, hout,
      honly.datum, honly.mem⟩
  · intro mac p1 q p2 ident steps s hmac hup hnone hconfig
    refine ⟨_, exec_announceReceived_taken hmac hup ?_, s.takeMaster_first _ hnone⟩
    refine hconfig.imp_right fun ⟨hbest, hbetter⟩ => ⟨hbest, ?_⟩
    rw [State.prefers, hnone]
    exact decide_eq_true hbetter
  · intro mac p1 q p2 ident steps s hmac hup m hmaster hne v hconfig
    refine ⟨_, exec_announceReceived_taken hmac hup ?_, ?_⟩
    · refine hconfig.imp_right fun ⟨hbest, hown, hbetter⟩ => ⟨hbest, ?_⟩
      rw [State.prefers, hmaster]
      have hvector : (announced mac p1 q p2 ident steps).vector = v := rfl
      rcases hbetter with h | h <;> simp [hvector, hown, h]
    · generalize hann : announced mac p1 q p2 ident steps = a
      have hcount := s.remastered_fbGet a
      have honly := s.servoOnly_remastered a
      have hmast : (s.remastered a).servo.master = some a := rfl
      have hstate : (s.remastered a).datumState = s.datumState := rfl
      have hframe : s.remastered a = { s with servo := (s.remastered a).servo, fb := (s.remastered a).fb } := rfl
      rw [s.takeMaster_change a m hmaster (hann ▸ hne)]
      generalize s.remastered a = u at hcount honly hmast hstate hframe ⊢
      by_cases hsource : s.get Reg.MER_DATUM_CTRL_SOURCE = 1
      · rw [if_pos hsource]
        obtain ⟨hsamples, hsync⟩ := u.sourceChanged_servo
        refine ⟨?_, ?_, fun _ => ⟨hsync, hsamples⟩, fun ⟨_, hlocked⟩ => ?_, fun h => absurd hsource h, ?_⟩
        · rw [u.sourceChanged_master, hmast, ← hann]; rfl
        · rw [u.sourceChanged_fbGet _ _ (by decide), hcount]
        · exact (u.sourceChanged_locked (hstate.trans hlocked)).1
        · exact u.servoOnly_sourceChanged.datum.trans honly.datum
      · rw [if_neg hsource]
        exact ⟨by rw [hmast, ← hann]; rfl, hcount, fun h => absurd h hsource, fun h => absurd h.1 hsource, fun _ => hframe,
          honly.datum⟩
  · intro mac p1 q p2 ident steps s hconfig m hmaster hne haged hworse
    refine ⟨s, exec_announceReceived_kept hconfig ?_, rfl⟩
    have hident : (announced mac p1 q p2 ident steps).identity = ident.toNat := rfl
    have hvector : m.vector ≤ (announced mac p1 q p2 ident steps).vector := hworse
    rw [State.prefers, hmaster]
    simp [hident, hne, haged, Nat.not_lt_of_le hvector]
  · intro mac t1 t2 t3 t4 s hmac hup
    refine ⟨_, if_neg (by simp [hmac, hup]), KMap.find_put_same _ _ _, rfl⟩
  · intro mac s hmac hup hmaster
    exact ⟨_, if_pos (by simp [hmac, hup, hmaster]), rfl⟩
  · intro mac dom ident org age lg s hdom
    exact ⟨_, if_pos hdom, State.fbGet_fbInc_same _ _ _, (OnlyRegs.refl _ _ s).fbInc List.mem_cons_self⟩
  · intro mac dom p1 q p2 ident steps s hdom
    exact ⟨_, if_pos hdom, State.fbGet_fbInc_same _ _ _, (OnlyRegs.refl _ _ s).fbInc List.mem_cons_self⟩
  · intro mac dom t1 t2 t3 t4 s hdom
    exact ⟨_, if_pos hdom, State.fbGet_fbInc_same _ _ _, (OnlyRegs.refl _ _ s).fbInc List.mem_cons_self⟩
  · intro t1 t2 t3 t4 s hsource hlocked hown
    generalize hd : (((t1.toNat : Int) + t4.toNat) - ((t2.toNat : Int) + t3.toNat)).tdiv 2 = d
    obtain ⟨hoffset, hsync, -, honly, hin, -⟩ :=
      (s.setServo { s.servo with lastSync := some s.datum }).takeOffset_locked d hlocked
    have hfollower := ((s.setServo { s.servo with lastSync := some s.datum }).takeOffset_ownTime d hlocked).trans hown
    have hexec : exec (.ptmExchange t1 t2 t3 t4) s =
        done (((s.setServo { s.servo with lastSync := some s.datum }).takeOffset d).alignExchange d) := by
      subst hd
      exact (if_neg (fun h => h hsource)).trans (if_neg (Bool.eq_false_iff.1 hfollower))
    refine ⟨_, hexec, ?_⟩
    have hdatum : ((s.setServo { s.servo with lastSync := some s.datum }).takeOffset d).datum = s.datum := honly.datum
    have hthreshold : d.natAbs ≤ s.fbGet 0x2010 4 →
        ((s.setServo { s.servo with lastSync := some s.datum }).takeOffset d).datumState = 1 :=
      fun h => hin (decide_eq_true h)
    have hstamp : ((s.setServo { s.servo with lastSync := some s.datum }).takeOffset d).servo.lastSync = some s.datum := hsync
    generalize (s.setServo { s.servo with lastSync := some s.datum }).takeOffset d = u at hoffset hstamp hdatum hthreshold ⊢
    obtain ⟨hoff, hlast⟩ := u.alignExchange_servo d
    refine ⟨hoff.trans hoffset, hlast.trans hstamp, (u.servoOnly_alignExchange d).datum.trans hdatum, fun hsmall => ?_⟩
    rw [Nat.le_min] at hsmall
    exact u.alignExchange_aligned d hsmall.1 (hthreshold hsmall.2)
  · intro t1 t2 t3 t4 s hsource
    exact ⟨s, if_pos hsource, rfl⟩

end Sys2Proof.Scope

/-! # Requests to Meridian (R64–R66) -/

namespace Sys2Proof.Safety
open Sys2Proof Sys2Proof.Machine

theorem OnlyRegs.trans {fs : List Field} {ks : List (Nat × Nat)} {s t u : State} (h : OnlyRegs fs ks s t)
    (h' : OnlyRegs fs ks t u) : OnlyRegs fs ks s u :=
  h.step h'.1 (h.2.1.trans h'.2.1) (h.2.2.trans h'.2.2)

/-- Only register fields differ. -/
def RegsOnly (s t : State) : Prop := t = { s with regs := t.regs }

namespace RegsOnly
variable {s t u : State}

theorem refl (s : State) : RegsOnly s s := rfl

theorem trans (h : RegsOnly s t) (h' : RegsOnly t u) : RegsOnly s u := by
  unfold RegsOnly at *
  generalize u.regs = r at h' ⊢
  rw [h', h]

theorem set (h : RegsOnly s t) (f : Field) (v : Nat) : RegsOnly s (t.set f v) :=
  h.trans rfl

end RegsOnly

end Sys2Proof.Safety

namespace Sys2Proof.Machine
open Sys2Proof Sys2Proof.Safety

/-! ## START and STOP -/

theorem State.startRequest_running (s : State) (h : s.running = true) : s.startRequest = s.set Reg.MER_CTRL_STOP 0 := by
  rw [State.startRequest, h]; rfl

theorem State.stopRequest_running (s : State) (h : s.running = true) : s.stopRequest = s.set Reg.MER_CTRL_STOP 1 := by
  rw [State.stopRequest, h]; rfl

theorem State.stopRequest_stopped (s : State) (h : s.running = false) :
    s.stopRequest = (s.set Reg.MER_CTRL_START 0).setServo { s.servo with startWait := none } := by
  rw [State.stopRequest, h]; rfl

/-- A first acquisition is awaited by a START (R54): a source, no external grandmaster, and a wait. -/
def State.awaitsAcquisition (s : State) : Prop :=
  s.get Reg.MER_DATUM_CTRL_SOURCE ≠ 0 ∧ s.servo.firstDone = false ∧ s.fbGet 0x2010 0xA ≠ 2 ∧ s.fbGet 0x2010 3 ≠ 0

section
variable {s : State} (hrun : s.running = false) (hstart : s.bit Reg.MER_CTRL_START = false)
include hrun hstart

theorem State.startRequest_waits (h : s.awaitsAcquisition) : s.startRequest =
    (s.set Reg.MER_CTRL_START 1).setServo { s.servo with startWait := some (s.datum + s.fbGet 0x2010 3 * 1000000) } := by
  obtain ⟨hsource, hfirst, hconfig, hwait⟩ := h
  rw [State.startRequest, if_neg (Bool.eq_false_iff.1 hrun), if_neg (Bool.eq_false_iff.1 hstart)]
  refine if_pos ⟨?_, (congrArg (!·) hfirst :), hconfig, hwait⟩
  exact fun h => hsource ((State.get_set_other _ _ _ _ (by decide)).symm.trans h)

theorem State.startRequest_ready (h : ¬ s.awaitsAcquisition) : s.startRequest = s.set Reg.MER_CTRL_START 1 := by
  rw [State.startRequest, if_neg (Bool.eq_false_iff.1 hrun), if_neg (Bool.eq_false_iff.1 hstart)]
  refine if_neg fun ⟨hsource, hfirst, hconfig, hwait⟩ => h ⟨?_, ?_, hconfig, hwait⟩
  · exact fun h => hsource ((State.get_set_other _ _ _ _ (by decide)).trans h)
  · exact Bool.not_eq_true' _ ▸ hfirst

end

/-! ## Validation (R64) -/

theorem code_ite_lt {p : Prop} [Decidable p] {a b : Nat} (ha : a < 2 ^ 16) (hb : b < 2 ^ 16) :
    (if p then a else b) < 2 ^ 16 := by
  split
  · exact ha
  · exact hb

/-- Every check of an entry that fails gives a status code. -/
theorem State.entryCheck_lt (s : State) (lower : List Entry) (e : Entry) : s.entryCheck lower e < 2 ^ 16 := by
  unfold State.entryCheck
  dsimp only
  repeat refine code_ite_lt (by decide) ?_
  decide

theorem State.validateGo_some {s : State} {l : List Nat} {lower : List Entry} {e c : Nat}
    (h : s.validateGo l lower = some (e, c)) : e ∈ l ∧ c < 2 ^ 16 := by
  induction l generalizing lower with
  | nil => exact absurd h (by simp [State.validateGo])
  | cons x xs ih =>
    rw [State.validateGo] at h
    dsimp only at h
    split at h
    · split at h
      · exact (ih h).imp_left (List.mem_cons_of_mem _)
      · obtain ⟨rfl, rfl⟩ : x = e ∧ _ = c := by simpa using h
        exact ⟨List.mem_cons_self, s.entryCheck_lt _ _⟩
    · exact (ih h).imp_left (List.mem_cons_of_mem _)

theorem State.validate_some {s : State} {e c : Nat} (h : s.validate = some (e, c)) : e < 256 ∧ c < 2 ^ 16 :=
  (State.validateGo_some h).imp_left List.mem_range.1

/-- The answer of the access does not enter into the validation. -/
theorem State.validateGo_answer (s : State) (v : Nat) (l : List Nat) (lower : List Entry) :
    (s.answer v).validateGo l lower = s.validateGo l lower := by
  induction l generalizing lower with
  | nil => rfl
  | cons x xs ih =>
    rw [State.validateGo, State.validateGo]
    simp only [ih]
    rfl

theorem State.validate_answer (s : State) (v : Nat) : (s.answer v).validate = s.validate := s.validateGo_answer v _ _

/-! ## SWAP (R65) -/

section
variable {s : State}

theorem State.swapRequest_locked (h : s.bit Reg.MER_CTRL_TABLE_LOCK = true) :
    s.swapRequest = s.merStatus Code.eState := if_pos h

variable (hlock : s.bit Reg.MER_CTRL_TABLE_LOCK = false)
include hlock

theorem State.swapRequest_busy (h : s.bit Reg.MER_STATUS_SWAP_PENDING = true) :
    s.swapRequest = s.merStatus Code.eBusy := by
  rw [State.swapRequest, if_neg (Bool.eq_false_iff.1 hlock), if_pos h]

variable (hpend : s.bit Reg.MER_STATUS_SWAP_PENDING = false)
include hpend

theorem State.swapRequest_invalid {e c : Nat} (h : s.validate = some (e, c)) : s.swapRequest =
    ((s.set Reg.MER_TABLE_ERR_ENTRY e).set Reg.MER_TABLE_ERR_STATUS c).merStatus c := by
  rw [State.swapRequest, if_neg (Bool.eq_false_iff.1 hlock), if_neg (Bool.eq_false_iff.1 hpend), h]

/-- A valid bank is reported before the swap takes effect. -/
def State.swapReported (s : State) : State :=
  ((s.set Reg.MER_TABLE_ERR_ENTRY 0).set Reg.MER_TABLE_ERR_STATUS Code.ok).merStatus Code.ok

omit hlock hpend in
theorem State.get_swapReported (f : Field) (h : f.key ∉ [Reg.MER_CMD_STATUS_STATUS, Reg.MER_TABLE_ERR_STATUS,
    Reg.MER_TABLE_ERR_ENTRY].map Field.key) : s.swapReported.get f = s.get f :=
  (((RegsKept.refl [Reg.MER_CMD_STATUS_STATUS, Reg.MER_TABLE_ERR_STATUS, Reg.MER_TABLE_ERR_ENTRY] s).set
    (by simp)).set (by simp)).set (by simp) f h

omit hlock hpend in
theorem State.swapReported_running : s.swapReported.running = s.running := by
  rw [State.running, State.bit, s.get_swapReported _ (by decide), State.running, State.bit]

theorem State.swapRequest_running (h : s.validate = none) (hrun : s.running = true) : s.swapRequest =
    (s.swapReported.set Reg.MER_STATUS_SWAP_PENDING 1).set Reg.MER_CTRL_SWAP 1 := by
  rw [State.swapRequest, if_neg (Bool.eq_false_iff.1 hlock), if_neg (Bool.eq_false_iff.1 hpend), h]
  exact if_pos (State.swapReported_running.trans hrun)

theorem State.swapRequest_stopped (h : s.validate = none) (hrun : s.running = false) :
    s.swapRequest = s.swapReported.applySwap := by
  rw [State.swapRequest, if_neg (Bool.eq_false_iff.1 hlock), if_neg (Bool.eq_false_iff.1 hpend), h]
  exact if_neg (Bool.eq_false_iff.1 (State.swapReported_running.trans hrun))

end

/-- The frame lengths that become active. -/
def State.swappedFrames (s : State) : KMap Nat := (List.range 32).foldl (fun m p => KMap.set 0 m p (s.shadowFrame p)) []

/-- The registers of a swap that takes effect: the bank toggles and the event is set. -/
def State.swapRegs (s : State) : State :=
  (((s.set Reg.MER_STATUS_BANK (1 - s.get Reg.MER_STATUS_BANK)).set Reg.MER_STATUS_SWAP_PENDING 0).set
    Reg.MER_CTRL_SWAP 0).set Reg.MER_EVENTS_TABLE_SWAPPED 1

/-- The fields that a swap writes as it takes effect. -/
def swapFields : List Field := [Reg.MER_STATUS_BANK, Reg.MER_STATUS_SWAP_PENDING, Reg.MER_CTRL_SWAP,
  Reg.MER_EVENTS_TABLE_SWAPPED, Reg.MER_CTRL_TABLE_LOCK, Reg.MER_STATUS_LOCKED_TABLE]

/-- Meridian's data beside the registers, replaced. -/
def State.withMer (s : State) (m : Meridian) : State := { s with mer := m }

theorem State.withMer_set (s : State) (m : Meridian) (f : Field) (v : Nat) :
    (s.withMer m).set f v = (s.set f v).withMer m := rfl

theorem State.withMer_get (s : State) (m : Meridian) (f : Field) : (s.withMer m).get f = s.get f := rfl

theorem State.swapRegs_withMer (s : State) (m : Meridian) : (s.withMer m).swapRegs = s.swapRegs.withMer m := by
  simp only [State.swapRegs, State.withMer_set, State.withMer_get]

theorem State.tableLock_withMer (s : State) (m : Meridian) : (s.withMer m).tableLock = s.tableLock.withMer m := by
  simp only [State.tableLock, State.withMer_set]

/-- The first swap after reset locks the table, where the boot image asks for it. -/
def State.lockFirst (s : State) (first : Bool) : State := if first then s.tableLock else s

theorem State.lockFirst_withMer (s : State) (m : Meridian) (first : Bool) :
    (s.withMer m).lockFirst first = (s.lockFirst first).withMer m := by
  cases first
  · rfl
  · exact s.tableLock_withMer m

/-- The end of a swap: the first one may lock the table, and none after it is the first. -/
def State.swapEnd (s : State) : State :=
  { s.lockFirst (!s.mer.swapped && s.mer.lockAtBoot) with
    mer := { (s.lockFirst (!s.mer.swapped && s.mer.lockAtBoot)).mer with swapped := true } }

theorem State.swapEnd_withMer (s : State) (m : Meridian) :
    (s.withMer m).swapEnd = (s.lockFirst (!m.swapped && m.lockAtBoot)).withMer { m with swapped := true } := by
  have hend : (s.withMer m).swapEnd = ((s.withMer m).lockFirst (!m.swapped && m.lockAtBoot)).withMer
      { ((s.withMer m).lockFirst (!m.swapped && m.lockAtBoot)).mer with swapped := true } := rfl
  rw [hend, State.lockFirst_withMer]
  rfl

theorem State.applySwap_stages (s : State) : s.applySwap =
    (s.withMer { s.mer with active := s.mer.shadow, frames := s.swappedFrames }).swapRegs.swapEnd := rfl

/-- A swap that takes effect: its registers, the lock, and the shadow bank with its frame lengths active. -/
theorem State.applySwap_eq (s : State) : s.applySwap =
    (s.swapRegs.lockFirst (!s.mer.swapped && s.mer.lockAtBoot)).withMer
      { s.mer with active := s.mer.shadow, frames := s.swappedFrames, swapped := true } := by
  rw [State.applySwap_stages, State.swapRegs_withMer, State.swapEnd_withMer]

theorem State.regsOnly_swapRegs (s : State) : RegsOnly s s.swapRegs :=
  ((((RegsOnly.refl s).set _ _).set _ _).set _ _).set _ _

theorem State.regsOnly_lockFirst (s : State) (first : Bool) : RegsOnly s (s.lockFirst first) := by
  cases first
  · exact RegsOnly.refl s
  · exact ((RegsOnly.refl s).set _ _).set _ _

/-- A swap writes registers, the active bank and its frame lengths. -/
theorem State.applySwap_frame (s : State) : s.applySwap = { s with
    regs := s.applySwap.regs
    mer := { s.mer with active := s.mer.shadow, frames := s.swappedFrames, swapped := true } } := by
  rw [State.applySwap_eq]
  have hlocked := s.regsOnly_swapRegs.trans (s.swapRegs.regsOnly_lockFirst (!s.mer.swapped && s.mer.lockAtBoot))
  generalize s.swapRegs.lockFirst (!s.mer.swapped && s.mer.lockAtBoot) = u at hlocked ⊢
  unfold RegsOnly at hlocked
  generalize u.regs = r at hlocked ⊢
  rw [hlocked]
  rfl

theorem State.applySwap_get (s : State) (f : Field) : s.applySwap.get f =
    (s.swapRegs.lockFirst (!s.mer.swapped && s.mer.lockAtBoot)).get f := by
  rw [State.applySwap_eq, State.withMer_get]

/-- A value set for every key of a list is found under each. -/
theorem KMap.getD_foldl_set (f : Nat → Nat) {l : List Nat} {k : Nat} (hk : k ∈ l) (m : KMap Nat) :
    KMap.getD (l.foldl (fun m p => KMap.set 0 m p (f p)) m) k 0 = f k := by
  induction l generalizing m with
  | nil => exact absurd hk List.not_mem_nil
  | cons x xs ih =>
    by_cases hx : k ∈ xs
    · exact ih hx _
    · obtain rfl : k = x := (List.mem_cons.1 hk).resolve_right hx
      refine foldl_inv _ (fun m => KMap.getD m k 0 = f k) xs (fun m p hp hm => ?_) _ (KMap.getD_set_same _ _ _ _)
      have hne : k ≠ p := fun he => hx (he ▸ hp)
      exact (KMap.getD_set_other _ _ _ _ _ _ hne).trans hm

theorem State.applySwap_activeFrame (s : State) (p : Fin 32) : s.applySwap.activeFrame p.val = s.shadowFrame p.val := by
  rw [State.applySwap_eq]
  exact KMap.getD_foldl_set s.shadowFrame (List.mem_range.2 p.isLt) []

theorem State.regsKept_swapRegs (s : State) : RegsKept swapFields s s.swapRegs :=
  ((((RegsKept.refl _ s).set (by simp [swapFields])).set (by simp [swapFields])).set (by simp [swapFields])).set
    (by simp [swapFields])

theorem State.get_swapRegs (s : State) (f : Field) (h : f.key ∉ [Reg.MER_STATUS_BANK, Reg.MER_STATUS_SWAP_PENDING,
    Reg.MER_CTRL_SWAP, Reg.MER_EVENTS_TABLE_SWAPPED].map Field.key) : s.swapRegs.get f = s.get f :=
  ((((RegsKept.refl [Reg.MER_STATUS_BANK, Reg.MER_STATUS_SWAP_PENDING, Reg.MER_CTRL_SWAP,
    Reg.MER_EVENTS_TABLE_SWAPPED] s).set (by simp)).set (by simp)).set (by simp)).set (by simp) f h

theorem State.regsKept_tableLock (s : State) :
    RegsKept [Reg.MER_CTRL_TABLE_LOCK, Reg.MER_STATUS_LOCKED_TABLE] s s.tableLock :=
  ((RegsKept.refl _ s).set List.mem_cons_self).set (.tail _ List.mem_cons_self)

theorem State.tableLock_bit (s : State) : s.tableLock.bit Reg.MER_CTRL_TABLE_LOCK = true ∧
    s.tableLock.bit Reg.MER_STATUS_LOCKED_TABLE = true :=
  ⟨(State.bit_set_other _ _ _ _ (by decide)).trans (State.bit_set_same _ _ _), State.bit_set_same _ _ _⟩

/-- A swap that takes effect leaves the lock's own fields to the lock. -/
theorem State.applySwap_get_swapRegs (s : State) (f : Field)
    (h : f.key ∉ [Reg.MER_CTRL_TABLE_LOCK, Reg.MER_STATUS_LOCKED_TABLE].map Field.key) :
    s.applySwap.get f = s.swapRegs.get f := by
  rw [State.applySwap_get]
  cases (!s.mer.swapped && s.mer.lockAtBoot)
  · rfl
  · exact s.swapRegs.regsKept_tableLock f h

theorem State.regsKept_applySwap (s : State) : RegsKept swapFields s s.applySwap := by
  intro f hf
  rw [s.applySwap_get_swapRegs f (fun h => hf (by
    simp only [swapFields, List.map_cons, List.map_nil, List.mem_cons, List.not_mem_nil, or_false] at h ⊢; omega))]
  exact s.regsKept_swapRegs f hf

theorem State.applySwap_bank (s : State) : s.applySwap.get Reg.MER_STATUS_BANK = 1 - s.get Reg.MER_STATUS_BANK := by
  rw [s.applySwap_get_swapRegs _ (by decide), State.swapRegs, State.get_set_other _ _ _ _ (by decide),
    State.get_set_other _ _ _ _ (by decide), State.get_set_other _ _ _ _ (by decide)]
  exact State.get_set_lt _ _ _ (Nat.lt_of_le_of_lt (Nat.sub_le _ _) (by decide))

theorem State.applySwap_event (s : State) : s.applySwap.bit Reg.MER_EVENTS_TABLE_SWAPPED = true := by
  rw [State.bit, s.applySwap_get_swapRegs _ (by decide)]
  exact State.bit_set_same _ _ _

theorem State.applySwap_pending (s : State) : s.applySwap.bit Reg.MER_STATUS_SWAP_PENDING = false := by
  rw [State.bit, s.applySwap_get_swapRegs _ (by decide), State.swapRegs, State.get_set_other _ _ _ _ (by decide),
    State.get_set_other _ _ _ _ (by decide), State.get_set_lt _ _ _ (by decide)]
  rfl

/-- The first swap after reset locks the table, where the boot image asks for it. -/
theorem State.applySwap_lock (s : State) (h : s.bit Reg.MER_CTRL_TABLE_LOCK = false) :
    s.applySwap.bit Reg.MER_CTRL_TABLE_LOCK = (!s.mer.swapped && s.mer.lockAtBoot) := by
  rw [State.bit, State.applySwap_get]
  cases (!s.mer.swapped && s.mer.lockAtBoot)
  · exact (congrArg (fun n => decide (n ≠ 0)) (s.get_swapRegs _ (by decide))).trans h
  · exact s.swapRegs.tableLock_bit.1

/-! ## A write of MER_CTRL (R66) -/

/-- The access answered, and its request reported OK. -/
def State.acked (s : State) : State := (s.answer 0).merStatus Code.ok

theorem State.acked_get (s : State) (f : Field) (h : f.key ≠ Reg.MER_CMD_STATUS_STATUS.key) : s.acked.get f = s.get f :=
  State.get_set_other _ _ _ _ h

theorem State.acked_bit (s : State) (f : Field) (h : f.key ≠ Reg.MER_CMD_STATUS_STATUS.key) : s.acked.bit f = s.bit f :=
  State.bit_set_other _ _ _ _ h

theorem State.acked_status (s : State) : s.acked.get Reg.MER_CMD_STATUS_STATUS = Code.ok :=
  State.get_set_lt _ _ _ (by decide)

theorem State.onlyRegs_acked (fs : List Field) (s : State) : OnlyRegs (Reg.MER_CMD_STATUS_STATUS :: fs) [] s s.acked :=
  (OnlyRegs.answered _ _ _ _).set List.mem_cons_self _

theorem State.acked_awaits (s : State) : s.acked.awaitsAcquisition ↔ s.awaitsAcquisition := by
  rw [State.awaitsAcquisition, s.acked_get _ (by decide)]
  rfl

/-- A bit of MER_CTRL set beside the status. -/
theorem State.acked_set_bit (s : State) (f : Field) (v : Nat) (h : Reg.MER_CMD_STATUS_STATUS.key ≠ f.key) :
    (s.acked.set f v).get Reg.MER_CMD_STATUS_STATUS = Code.ok ∧ (s.acked.set f v).bit f = decide (v % 2 ^ f.width ≠ 0) ∧
      OnlyRegs [Reg.MER_CMD_STATUS_STATUS, f] [] s (s.acked.set f v) :=
  ⟨(State.get_set_other _ _ _ _ h).trans s.acked_status, State.bit_set_same _ _ _,
    (s.onlyRegs_acked [f]).set (.tail _ List.mem_cons_self) v⟩

/-- What a gated write leaves, given what it does to the answered state. -/
theorem does_gateWrite_eq {c : Instr} {s u : State} {who : Agent} {a : Nat} {k : State → State} {P : State → Prop}
    (hp : Passes s who a true) (hc : exec c s = done (s.gateWrite who a k)) (hk : k (s.answer 0) = u) (h : P u) :
    Does c s P :=
  does_gateWrite hp hc (hk ▸ h)

theorem State.shadowFrame_swapReported (s : State) (p : Nat) : s.swapReported.shadowFrame p = s.shadowFrame p := by
  refine s.get_swapReported _ ?_
  simp only [List.map_cons, List.map_nil, List.mem_cons, List.not_mem_nil, or_false, Field.key,
    Reg.MER_PIPE_FRAME_FRAME_TICKS, Reg.MER_PIPE_FRAME_addr, Reg.MER_CMD_STATUS_STATUS, Reg.MER_CMD_STATUS_addr,
    Reg.MER_TABLE_ERR_STATUS, Reg.MER_TABLE_ERR_ENTRY, Reg.MER_TABLE_ERR_addr]
  omega

theorem State.onlyRegs_swapReported (s : State) : OnlyRegs [Reg.MER_CMD_STATUS_STATUS, Reg.MER_TABLE_ERR_STATUS,
    Reg.MER_TABLE_ERR_ENTRY] [] s s.swapReported :=
  (((OnlyRegs.refl _ _ s).set (by simp) _).set (by simp) _).set (by simp) _

end Sys2Proof.Machine

namespace Sys2Proof.Scope
open Sys2Proof Sys2Proof.Machine Sys2Proof.Safety

/-- Settles O10: the bits of MER_CTRL act alone, and `startRequest_…`, `stopRequest_…` and `swapRequest_…` say what each
request does; a swap that takes effect is `applySwap_…`. -/
theorem meridianControl : Obligations.MeridianControl := by
  unfold Obligations.MeridianControl
  refine ⟨?_, ?_, ?_, ?_, ?_, ?_, ?_, ?_, ?_, ?_, ?_⟩
  · intro who s hp hrun
    have hrun' : s.acked.running = true := (s.acked_bit _ (by decide)).trans hrun
    exact does_gateWrite_eq hp rfl (State.startRequest_running _ hrun') (s.acked_set_bit Reg.MER_CTRL_STOP 0 (by decide))
  · intro who s hp hrun hstart hready
    have hrun' : s.acked.running = false := (s.acked_bit _ (by decide)).trans hrun
    have hstart' : s.acked.bit Reg.MER_CTRL_START = false := (s.acked_bit _ (by decide)).trans hstart
    have hready' : ¬ s.acked.awaitsAcquisition := by
      rw [s.acked_awaits]
      rintro ⟨hsource, hfirst, hconfig, hwait⟩
      simp [hsource, hfirst, hconfig, hwait] at hready
    exact does_gateWrite_eq hp rfl (State.startRequest_ready hrun' hstart' hready')
      (s.acked_set_bit Reg.MER_CTRL_START 1 (by decide))
  · intro who s hp hrun hstart hsource hfirst hconfig hwait
    have hrun' : s.acked.running = false := (s.acked_bit _ (by decide)).trans hrun
    have hstart' : s.acked.bit Reg.MER_CTRL_START = false := (s.acked_bit _ (by decide)).trans hstart
    have hwaits : s.acked.awaitsAcquisition := s.acked_awaits.2 ⟨hsource, hfirst, hconfig, hwait⟩
    obtain ⟨hstatus, hbit, honly⟩ := s.acked_set_bit Reg.MER_CTRL_START 1 (by decide)
    exact does_gateWrite_eq hp rfl (State.startRequest_waits hrun' hstart' hwaits) ⟨hstatus, hbit, rfl, honly.2.1, rfl⟩
  · intro who s hp hrun
    have hrun' : s.acked.running = true := (s.acked_bit _ (by decide)).trans hrun
    exact does_gateWrite_eq hp rfl (State.stopRequest_running _ hrun') (s.acked_set_bit Reg.MER_CTRL_STOP 1 (by decide))
  · intro who s hp hrun
    have hrun' : s.acked.running = false := (s.acked_bit _ (by decide)).trans hrun
    obtain ⟨hstatus, hbit, honly⟩ := s.acked_set_bit Reg.MER_CTRL_START 0 (by decide)
    exact does_gateWrite_eq hp rfl (State.stopRequest_stopped _ hrun') ⟨hstatus, hbit, rfl, honly.2.1, rfl⟩
  · intro who s hp hlock
    exact does_merStatus hp rfl (State.swapRequest_locked (s := s.answer 0) hlock) (by decide)
  · intro who s hp hlock hpend
    exact does_merStatus hp rfl (State.swapRequest_busy (s := s.answer 0) hlock hpend) (by decide)
  · intro who s hp hlock hpend e c hinvalid
    obtain ⟨he, hc⟩ := State.validate_some hinvalid
    refine does_gateWrite_eq hp rfl (State.swapRequest_invalid (s := s.answer 0) hlock hpend
      ((s.validate_answer 0).trans hinvalid)) ⟨?_, ?_, ?_, ?_⟩
    · exact State.get_set_lt _ _ _ hc
    · exact (State.get_set_other _ _ _ _ (by decide)).trans (State.get_set_lt _ _ _ hc)
    · exact (State.get_set_other _ _ _ _ (by decide)).trans
        ((State.get_set_other _ _ _ _ (by decide)).trans (State.get_set_lt _ _ _ he))
    · exact (((OnlyRegs.answered _ _ _ _).set (by simp) _).set (by simp) _).set (by simp) _
  · intro who s hp hlock hpend hrun hvalid
    have hreport : (s.answer 0).swapReported.get Reg.MER_CMD_STATUS_STATUS = Code.ok := State.get_set_lt _ _ _ (by decide)
    have honly := (OnlyRegs.answered _ _ s 0).trans (s.answer 0).onlyRegs_swapReported
    have hexec := State.swapRequest_running (s := s.answer 0) hlock hpend ((s.validate_answer 0).trans hvalid) hrun
    generalize (s.answer 0).swapReported = u at hreport honly hexec
    refine does_gateWrite_eq hp rfl hexec ⟨?_, ?_, State.bit_set_same _ _ _, ?_⟩
    · exact (State.get_set_other _ _ _ _ (by decide)).trans ((State.get_set_other _ _ _ _ (by decide)).trans hreport)
    · exact (State.bit_set_other _ _ _ _ (by decide)).trans (State.bit_set_same _ _ _)
    · exact ((honly.mono (by simp)).set (by simp) _).set (by simp) _
  · intro who s hp hlock hpend hrun hvalid
    have hreport : (s.answer 0).swapReported.get Reg.MER_CMD_STATUS_STATUS = Code.ok := State.get_set_lt _ _ _ (by decide)
    have honly := (OnlyRegs.answered _ _ s 0).trans (s.answer 0).onlyRegs_swapReported
    have hu : (s.answer 0).swapReported =
      { s with regs := (s.answer 0).swapReported.regs, resp := (s.answer 0).swapReported.resp } := rfl
    have hframes : ∀ p, (s.answer 0).swapReported.shadowFrame p = s.shadowFrame p := (s.answer 0).shadowFrame_swapReported
    have hexec := State.swapRequest_stopped (s := s.answer 0) hlock hpend ((s.validate_answer 0).trans hvalid) hrun
    generalize (s.answer 0).swapReported = u at hreport honly hu hframes hexec
    obtain ⟨-, hregs, -⟩ := honly
    have hmer : u.mer = s.mer := by rw [hu]
    have hswap := u.applySwap_frame
    refine does_gateWrite_eq hp rfl hexec ⟨?_, ?_, ?_, fun p => ?_, ?_, u.applySwap_event, ?_, u.applySwap_pending, ?_, ?_⟩
    · exact (u.regsKept_applySwap _ (by decide)).trans hreport
    · rw [hswap, hmer]
    · rw [hswap, hmer]
    · exact (u.applySwap_activeFrame p).trans (hframes _)
    · rw [u.applySwap_bank, hregs _ (by decide)]
    · rw [← hmer]
      exact u.applySwap_lock ((congrArg (fun n => decide (n ≠ 0)) (hregs _ (by decide))).trans hlock)
    · exact (hregs.mono (by simp)).trans (u.regsKept_applySwap.mono (by simp [swapFields]))
    · generalize u.applySwap = t at hswap
      rw [hswap, hu]
  · intro who s hp
    obtain ⟨hlock, hlocked⟩ := s.acked.tableLock_bit
    refine does_gateWrite_eq hp rfl (u := s.acked.tableLock) rfl ⟨?_, hlock, hlocked, ?_⟩
    · exact (s.acked.regsKept_tableLock _ (by decide)).trans s.acked_status
    · exact ((s.onlyRegs_acked _).set (by simp) _).set (by simp) _

end Sys2Proof.Scope

/-! # Ticks and windows (R60–R68) -/

namespace Sys2Proof.Machine
open Sys2Proof Sys2Proof.Safety

/-- A fold whose every step leaves the state alone. -/
theorem foldl_same {α β : Type} (f : β → α → β) (l : List α) (s : β) (h : ∀ x ∈ l, f s x = s) : l.foldl f s = s := by
  induction l with
  | nil => rfl
  | cons x xs ih =>
    rw [List.foldl_cons, h x List.mem_cons_self, ih (fun y hy => h y (List.mem_cons_of_mem _ hy))]

/-! ## Admission with no work at hand -/

/-- Passes end where none completes a stream. -/
theorem State.admitLoop_quiet {s : State} (n : Nat) (h : s.admitPass = (s, false)) : s.admitLoop n = s := by
  cases n with
  | zero => rfl
  | succ n => rw [State.admitLoop, h]; rfl

theorem State.gfxLoop_quiet {s : State} (n : Nat) (h : s.gfxPass = (s, false)) : s.gfxLoop n = s := by
  cases n with
  | zero => rfl
  | succ n => rw [State.gfxLoop, h]; rfl

section
variable {s : State}

/-- A context that is off takes no plan. -/
theorem State.considerPlan_off {c : Nat} (w : OpenWindow) (h : s.bit (Reg.TRV_CX_ATTR_EN c) = false) :
    s.considerPlan c w = s := by
  have hready : s.cxReady c w = false := by simp [State.cxReady, h]
  exact if_pos (Or.inr (by rw [hready]; rfl))

theorem State.considerGfx_off {x : Nat} (w : OpenWindow) (h : s.bit (Reg.GFX_CX_ATTR_EN x) = false) :
    s.considerGfx x w = s := by
  have hready : s.gxReady x w = false := by simp [State.gxReady, h]
  exact if_pos (by rw [hready]; rfl)

theorem State.considerMedia_off {x : Nat} (w : OpenWindow) (h : s.bit (Reg.MED_CX_ATTR_EN x) = false) :
    s.considerMedia w x = s := by
  have hready : s.mxReady x w = false := by simp [State.mxReady, h]
  exact if_pos (by rw [hready]; rfl)

/-- A window of another resource takes no staging job. -/
theorem State.considerStaging_other {w : OpenWindow} (h : w.entry.resource ≠ 5) : s.considerStaging w = s :=
  if_pos (Or.inl h)

/-- No queue of an engine is enabled. -/
theorem State.queueOrder_off (h : ∀ k < 264, s.bit (qEn k) = false) (plumb : Bool) : s.queueOrder plumb = [] := by
  have hks : ((if plumb then (List.range 8).map (· + 256) else List.range 256).filter (fun k => s.bit (qEn k))) = [] := by
    rw [List.filter_eq_nil_iff]
    intro k hk
    rw [h k (by cases plumb <;> simp at hk <;> omega)]
    exact Bool.false_ne_true
  rw [State.queueOrder, hks]
  rfl

/-- Nothing in the device is enabled that a window could serve. -/
structure State.NoneEnabled (s : State) : Prop where
  queue : ∀ k < 264, s.bit (qEn k) = false
  plan : ∀ c < 8, s.bit (Reg.TRV_CX_ATTR_EN c) = false
  gfx : ∀ x < 32, s.bit (Reg.GFX_CX_ATTR_EN x) = false
  media : ∀ x < 64, s.bit (Reg.MED_CX_ATTR_EN x) = false

/-- No open window has work for admission: its resource is not STAGING, and nothing is enabled; or none is open. -/
theorem State.admitAll_none (hoff : s.mer.windows = [] ∨ s.NoneEnabled)
    (hres : ∀ w ∈ s.openWindows, w.entry.resource ≠ 5) : s.admitAll = s := by
  have hon : ∀ w ∈ s.openWindows, s.NoneEnabled := by
    intro w hw
    refine hoff.resolve_left fun h => ?_
    rw [State.openWindows, h] at hw
    exact List.not_mem_nil hw
  have hstaging : s.admitStaging = s := foldl_same _ _ _ fun w hw => State.considerStaging_other (hres w hw)
  have hmedia : s.admitMedia = s := by
    refine foldl_same _ _ _ fun w hw => foldl_same _ _ _ fun x hx => State.considerMedia_off w ((hon w hw).media x ?_)
    simp only [State.mxOrder, List.mem_flatMap, List.mem_filter, List.mem_range] at hx
    obtain ⟨-, -, hx, -⟩ := hx
    exact hx
  have hgfx : s.admitGfx = s := by
    refine State.gfxLoop_quiet _ (foldl_same _ _ _ fun w hw => foldl_same _ _ _ fun x hx => ?_)
    have hlt : x < 32 := by
      simp only [State.gxOrder, List.mem_flatMap, List.mem_filter, List.mem_range] at hx
      obtain ⟨-, -, hx, -⟩ := hx
      exact hx
    simp only [State.considerGfx_off w ((hon w hw).gfx x hlt), bne_self_eq_false, Bool.or_false]
  have hplans : s.admitPlans = s := by
    refine foldl_same _ _ _ fun w hw => foldl_same _ _ _ fun c hc => State.considerPlan_off w ((hon w hw).plan c ?_)
    simp only [State.cxOrder, List.mem_flatMap, List.mem_filter, List.mem_range] at hc
    obtain ⟨-, -, hc, -⟩ := hc
    exact hc
  have hjobs : s.admitJobs = s := by
    refine State.admitLoop_quiet _ (foldl_same _ _ _ fun w hw => ?_)
    have hwindow : s.admitWindow w = (s, false) := by
      rw [State.admitWindow, State.queueOrder_off (hon w hw).queue]
      split <;> rfl
    simp only [hwindow, Bool.or_false]
  rw [State.admitAll, hstaging, hmedia, hgfx, hplans, hjobs]

theorem State.admitAll_closed (h : s.mer.windows = []) : s.admitAll = s := by
  refine State.admitAll_none (.inl h) fun w hw => ?_
  rw [State.openWindows, h] at hw
  exact absurd hw List.not_mem_nil

/-! ## Ticks without frames -/

theorem State.activations_none (h : ∀ k < 3, s.updState k ≠ 3) : s.activations = s := by
  unfold State.activations
  exact foldl_same _ (List.range 3) s fun k hk => if_pos (Or.inl (h k (List.mem_range.1 hk)))

theorem State.closeDue_none (h : s.mer.windows = []) (t : Nat) : s.closeDue t = s := by
  rw [State.closeDue, State.openWindows, h]
  rfl

theorem State.activeFrame_none (h : s.mer.frames = []) (p : Nat) : s.activeFrame p = 0 := by
  rw [State.activeFrame, h]
  rfl

theorem State.starting_none (h : s.mer.frames = []) : s.starting = [] := by
  rw [State.starting, List.filter_eq_nil_iff]
  intro p _
  simp [State.activeFrame_none h p]

theorem State.frameStarts_none (h : s.mer.frames = []) : s.frameStarts = s := by
  unfold State.frameStarts
  exact foldl_same _ (List.range 32) s fun p _ => if_neg (fun hp => hp.1 (State.activeFrame_none h p))

/-- Without frames a tick starts none. -/
theorem State.beginFrames_none (h : s.mer.frames = []) : s.beginFrames = s := by
  simp only [State.beginFrames, State.starting_none h, State.endFrames, List.foldl_nil, State.frameStarts_none h]

end

end Sys2Proof.Machine

namespace Sys2Proof.Machine
open Sys2Proof Sys2Proof.Safety

/-! ## The base tick (R60, R61) -/

/-- TICK advances and the tick event is set. -/
def State.ticked (s : State) : State :=
  (s.set Reg.MER_TICK_COUNT_TICK (s.get Reg.MER_TICK_COUNT_TICK + 1)).set Reg.MER_EVENTS_TICK 1

/-- TICK starts again, HYPER advances and the tick event is set. -/
def State.hyperTicked (s : State) : State :=
  ((s.set Reg.MER_TICK_COUNT_TICK 0).set Reg.MER_TICK_COUNT_HYPER (s.get Reg.MER_TICK_COUNT_HYPER + 1)).set
    Reg.MER_EVENTS_TICK 1

section
variable {s : State}

theorem State.plainTick_bare (hwin : s.mer.windows = []) (hframes : s.mer.frames = []) : s.plainTick = s.ticked := by
  have hbegin : s.ticked.beginFrames = s.ticked := State.beginFrames_none hframes
  have hadmit : s.ticked.admitAll = s.ticked := State.admitAll_closed hwin
  rw [State.plainTick]
  exact (congrArg State.admitAll hbegin).trans hadmit

theorem State.newHyper_bare (hgap : s.mer.gap = false) (hwin : s.mer.windows = []) (hframes : s.mer.frames = []) :
    s.newHyper = s.hyperTicked := by
  have hopen : ({ s with mer := { s.mer with gap := false } } : State) = s := by rw [← hgap]
  have hbegin : s.hyperTicked.beginFrames = s.hyperTicked := State.beginFrames_none hframes
  have hadmit : s.hyperTicked.admitAll = s.hyperTicked := State.admitAll_closed hwin
  rw [State.newHyper, hopen]
  exact (congrArg State.admitAll hbegin).trans hadmit

theorem State.endFrames_none (hframes : s.mer.frames = []) :
    s.endFrames ((List.range 32).filter (fun p => s.activeFrame p != 0)) = s := by
  have hnone : (List.range 32).filter (fun p => s.activeFrame p != 0) = [] := by
    rw [List.filter_eq_nil_iff]
    intro p _
    simp [State.activeFrame_none hframes p]
  rw [hnone]
  rfl

theorem State.boundaryStep_none (hrebase : s.bit Reg.MER_DATUM_CTRL_REBASE = false) (hacq : s.servo.acqPending = false)
    (allowed : Bool) : s.boundaryStep allowed = s := by
  rw [State.boundaryStep, hrebase, hacq]
  rfl

/-- A boundary at which nothing is pending starts a hyperperiod. -/
theorem State.boundary_bare (hgap : s.mer.gap = false) (hwin : s.mer.windows = []) (hframes : s.mer.frames = [])
    (hswap : s.bit Reg.MER_STATUS_SWAP_PENDING = false) (hstop : s.bit Reg.MER_CTRL_STOP = false)
    (hrebase : s.bit Reg.MER_DATUM_CTRL_REBASE = false) (hacq : s.servo.acqPending = false)
    (hupd : ∀ k < 3, s.updState k ≠ 3) : s.boundary = s.hyperTicked := by
  have hactive : s.hyperTicked.activations = s.hyperTicked := State.activations_none hupd
  simp only [State.boundary, State.endFrames_none hframes, hswap, State.boundaryStep_none hrebase hacq, hstop,
    State.newHyper_bare hgap hwin hframes, Bool.false_eq_true, if_false, if_true, hactive]

theorem State.isBoundary_advanceTo (s : State) (t u : Nat) : (s.advanceTo t).isBoundary u = s.isBoundary u := by
  have hhyper : (s.advanceTo t).hyperNs = s.hyperNs := by
    simp only [State.hyperNs, State.periodNs, State.advanceTo_get]
  have hnext : (s.advanceTo t).nextInstant s.hyperNs u = s.nextInstant s.hyperNs u := by
    rw [State.nextInstant, State.advanceTo_get, State.nextInstant]
  rw [State.isBoundary, hhyper, hnext, State.isBoundary]

theorem State.running_advanceTo (s : State) (t : Nat) : (s.advanceTo t).running = s.running := s.advanceTo_bit t _

/-- What a base tick leaves while Meridian runs, given the tick or the boundary `u` that takes place. -/
def State.lastTicked (s : State) (t : Nat) : State := { s with mer := { s.mer with lastTick := some t } }

theorem execBaseTick_running {u : State} (hwin : s.mer.windows = []) (hrun : s.running = true)
    (htick : (if s.mer.gap || s.isBoundary s.tickDue then (s.advanceTo s.tickDue).boundary
      else (s.advanceTo s.tickDue).plainTick) = u) (hstill : u.running = true)
    (hstep : u.stepSeq = s.stepSeq) : execBaseTick s = done (u.lastTicked s.tickDue) := by
  have hseq : (s.advanceTo s.tickDue).stepSeq = s.stepSeq := s.advanceTo_stepSeq _
  simp only [execBaseTick, State.closeDue_none hwin, State.running_advanceTo, hrun, State.isBoundary_advanceTo,
    State.advanceTo_mer, htick, hstill, hseq, hstep, if_true, Bool.true_and, decide_true, State.lastTicked]

theorem execBaseTick_stopped (hwin : s.mer.windows = []) (hrun : s.running = false)
    (hstart : s.bit Reg.MER_CTRL_START = false) (hupd : ∀ k < 3, s.updState k ≠ 3) :
    execBaseTick s = done (s.advanceTo s.tickDue) := by
  have hidle : (s.advanceTo s.tickDue).activations = s.advanceTo s.tickDue :=
    State.activations_none fun k hk => by rw [State.updState, State.advanceTo_fbGet]; exact hupd k hk
  simp only [execBaseTick, State.closeDue_none hwin, State.running_advanceTo, hrun, State.advanceTo_bit, hstart, hidle,
    Bool.false_eq_true, if_false, Bool.false_and]

theorem State.advanceTo_startWait (s : State) (t : Nat) : (s.advanceTo t).servo.startWait = s.servo.startWait := by
  unfold State.advanceTo
  split <;> rfl

theorem execBaseTick_start (hwin : s.mer.windows = []) (hrun : s.running = false)
    (hstart : s.bit Reg.MER_CTRL_START = true) (hwait : s.servo.startWait = none) :
    execBaseTick s = done ((s.advanceTo s.tickDue).start.activations.lastTicked s.tickDue) := by
  simp only [execBaseTick, State.closeDue_none hwin, State.running_advanceTo, hrun, State.advanceTo_bit, hstart,
    State.advanceTo_startWait, hwait, Option.isNone_none, Bool.and_self, Bool.false_eq_true, if_false, if_true, State.lastTicked]

end

end Sys2Proof.Machine

namespace Sys2Proof.Machine
open Sys2Proof Sys2Proof.Safety

section
variable {s : State}

theorem State.ticked_tick (s : State) : s.ticked.get Reg.MER_TICK_COUNT_TICK =
    (s.get Reg.MER_TICK_COUNT_TICK + 1) % 2 ^ Reg.MER_TICK_COUNT_TICK.width :=
  (State.get_set_other _ _ _ _ (by decide)).trans (State.get_set_same _ _ _)

theorem State.ticked_event (s : State) : s.ticked.bit Reg.MER_EVENTS_TICK = true := State.bit_set_same _ _ _

theorem State.regsKept_ticked (s : State) : RegsKept [Reg.MER_TICK_COUNT_TICK, Reg.MER_EVENTS_TICK] s s.ticked :=
  ((RegsKept.refl _ s).set List.mem_cons_self).set (.tail _ List.mem_cons_self)

theorem State.regsOnly_ticked (s : State) : RegsOnly s s.ticked := ((RegsOnly.refl s).set _ _).set _ _

theorem State.ticked_running (s : State) : s.ticked.running = s.running :=
  (State.bit_set_other _ _ _ _ (by decide)).trans (State.bit_set_other _ _ _ _ (by decide))

theorem State.hyperTicked_tick (s : State) : s.hyperTicked.get Reg.MER_TICK_COUNT_TICK = 0 :=
  (State.get_set_other _ _ _ _ (by decide)).trans
    ((State.get_set_other _ _ _ _ (by decide)).trans (State.get_set_lt _ _ _ (by decide)))

theorem State.hyperTicked_hyper (s : State) : s.hyperTicked.get Reg.MER_TICK_COUNT_HYPER =
    (s.get Reg.MER_TICK_COUNT_HYPER + 1) % 2 ^ Reg.MER_TICK_COUNT_HYPER.width :=
  (State.get_set_other _ _ _ _ (by decide)).trans (State.get_set_same _ _ _)

theorem State.hyperTicked_event (s : State) : s.hyperTicked.bit Reg.MER_EVENTS_TICK = true := State.bit_set_same _ _ _

theorem State.regsOnly_hyperTicked (s : State) : RegsOnly s s.hyperTicked :=
  (((RegsOnly.refl s).set _ _).set _ _).set _ _

theorem State.hyperTicked_running (s : State) : s.hyperTicked.running = s.running :=
  (State.bit_set_other _ _ _ _ (by decide)).trans
    ((State.bit_set_other _ _ _ _ (by decide)).trans (State.bit_set_other _ _ _ _ (by decide)))

theorem RegsOnly.datum_eq {s t : State} (h : RegsOnly s t) : t.datum = s.datum := by rw [h]

theorem RegsOnly.stepSeq_eq {s t : State} (h : RegsOnly s t) : t.stepSeq = s.stepSeq := by rw [h]

theorem RegsOnly.mem_eq {s t : State} (h : RegsOnly s t) : t.mem = s.mem := by rw [h]

theorem State.lastTicked_get (s : State) (t : Nat) (f : Field) : (s.lastTicked t).get f = s.get f := rfl

theorem State.lastTicked_datum (s : State) (t : Nat) : (s.lastTicked t).datum = s.datum := rfl

/-! ## The start of Meridian (R66) -/

/-- Datum, the fields below the interrupt controller's and the states of the updates are kept: what the units do at the
start of a frame leaves them. -/
structure ClockKept (s t : State) : Prop where
  datum : t.datum = s.datum
  fields : ∀ f : Field, f.key < 0x10200000 * 64 → t.get f = s.get f
  updates : ∀ k < 3, t.updState k = s.updState k

namespace ClockKept
variable {s t u : State}

theorem refl (s : State) : ClockKept s s := ⟨rfl, fun _ _ => rfl, fun _ _ => rfl⟩

theorem trans (h : ClockKept s t) (h' : ClockKept t u) : ClockKept s u :=
  ⟨h'.datum.trans h.datum, fun f hf => (h'.fields f hf).trans (h.fields f hf),
    fun k hk => (h'.updates k hk).trans (h.updates k hk)⟩

/-- An update of other parts of the state. -/
theorem same (hd : t.datum = s.datum := by rfl) (hr : t.regs = s.regs := by rfl) (hf : t.fb = s.fb := by rfl) :
    ClockKept s t :=
  ⟨hd, fun _ _ => by rw [State.get, hr, State.get], fun _ _ => by
    rw [State.updState, State.fbGet, hf, State.updState, State.fbGet]⟩

theorem set {g : Field} (hg : 0x10200000 * 64 ≤ g.key) (s : State) (v : Nat) : ClockKept s (s.set g v) :=
  ⟨rfl, fun _ hf => State.get_set_other _ _ _ _ (Nat.ne_of_lt (Nat.lt_of_lt_of_le hf hg)), fun _ _ => rfl⟩

theorem fbInc {i j : Nat} (h : i * 256 + j < 0x8000 * 256) (s : State) : ClockKept s (s.fbInc i j) :=
  ⟨rfl, fun _ _ => rfl, fun k hk => State.fbGet_fbInc_other _ _ _ _ _ (by omega)⟩

theorem foldl {α : Type} (f : State → α → State) (l : List α) (h : ∀ s x, ClockKept s (f s x)) (s : State) :
    ClockKept s (l.foldl f s) :=
  foldl_inv f (ClockKept s) l (fun t x _ ht => ht.trans (h t x)) s (refl s)

end ClockKept

theorem clockKept_benchDefer (s : State) (p : Nat) : ClockKept s (s.benchDefer p) := by
  have hcount : ClockKept s (s.fbInc 0x6060 6) := .fbInc (by decide) s
  have hurgent : ∀ t : State, ClockKept t ((t.set Reg.SAF_EVENTS_BENCH_URGENT 1).fbInc 0x6060 7) :=
    fun t => (ClockKept.set (by decide) t 1).trans (.fbInc (by decide) _)
  unfold State.benchDefer
  dsimp only
  split
  · exact (hcount.trans .same).trans (hurgent _)
  · exact hcount.trans .same

theorem clockKept_benchFrame (s : State) (p : Nat) : ClockKept s (s.benchFrame p) := by
  unfold State.benchFrame
  split
  · exact .refl s
  · dsimp only
    split
    · exact (clockKept_benchDefer s p).trans .same
    · exact .same

theorem clockKept_stagingFrame (s : State) (p : Nat) : ClockKept s (s.stagingFrame p) := by
  unfold State.stagingFrame
  split
  · dsimp only
    split
    · exact (ClockKept.fbInc (i := 0x6090) (j := 0xD) (by decide) s).trans .same
    · exact .same
  · exact .refl s

theorem clockKept_frameStarts (s : State) : ClockKept s s.frameStarts := by
  unfold State.frameStarts
  refine ClockKept.foldl _ (List.range 32) (fun t p => ?_) s
  by_cases h : t.activeFrame p ≠ 0 ∧ s.get Reg.MER_TICK_COUNT_TICK % t.activeFrame p = 0
  · simp only [h, if_true, and_self, ne_eq, not_false_eq_true]
    exact .same
  · simp only [h, if_false]
    exact .refl t

/-- Meridian has started in `t`, in the time of `s`: it runs, with TICK and HYPER at 0. -/
structure Started (s t : State) : Prop where
  running : t.running = true
  taken : t.bit Reg.MER_CTRL_START = false
  tick : t.get Reg.MER_TICK_COUNT_TICK = 0
  hyper : t.get Reg.MER_TICK_COUNT_HYPER = 0
  event : t.bit Reg.MER_EVENTS_TICK = true
  datum : t.datum = s.datum
  updates : ∀ k < 3, t.updState k = s.updState k

theorem bit_of_get {s t : State} {f : Field} (h : t.get f = s.get f) : t.bit f = s.bit f := by
  rw [State.bit, h, State.bit]

theorem Started.kept {s t u : State} (h : Started s t) (hk : ClockKept t u) : Started s u where
  running := (bit_of_get (hk.fields _ (by decide))).trans h.running
  taken := (bit_of_get (hk.fields _ (by decide))).trans h.taken
  tick := (hk.fields _ (by decide)).trans h.tick
  hyper := (hk.fields _ (by decide)).trans h.hyper
  event := (bit_of_get (hk.fields _ (by decide))).trans h.event
  datum := hk.datum.trans h.datum
  updates k hn := (hk.updates k hn).trans (h.updates k hn)

/-- The fields by which a start shows. -/
def startFields : List Field := [Reg.MER_STATUS_RUNNING, Reg.MER_CTRL_START, Reg.MER_TICK_COUNT_TICK,
  Reg.MER_TICK_COUNT_HYPER, Reg.MER_EVENTS_TICK]

theorem Started.set {s t : State} (h : Started s t) {g : Field} (hg : g.key ∉ startFields.map Field.key) (v : Nat) :
    Started s (t.set g v) := by
  simp only [startFields, List.map_cons, List.map_nil, List.mem_cons, List.not_mem_nil, or_false, not_or] at hg
  obtain ⟨hrun, hstart, htick, hhyper, hevent⟩ := hg
  exact ⟨(State.bit_set_other _ _ _ _ (Ne.symm hrun)).trans h.running, (State.bit_set_other _ _ _ _ (Ne.symm hstart)).trans h.taken,
    (State.get_set_other _ _ _ _ (Ne.symm htick)).trans h.tick, (State.get_set_other _ _ _ _ (Ne.symm hhyper)).trans h.hyper,
    (State.bit_set_other _ _ _ _ (Ne.symm hevent)).trans h.event, h.datum, h.updates⟩

/-- The registers of Meridian as a START takes effect. -/
def State.startRegs (s : State) : State :=
  ((((s.set Reg.MER_CTRL_START 0).set Reg.MER_STATUS_RUNNING 1).set Reg.MER_TICK_COUNT_HYPER 0).set
    Reg.MER_TICK_COUNT_TICK 0).set Reg.MER_EVENTS_TICK 1

theorem started_startRegs (s : State) : Started s s.startRegs where
  running := by
    simp only [State.running, State.startRegs]
    rw [State.bit_set_other _ _ _ _ (by decide), State.bit_set_other _ _ _ _ (by decide),
      State.bit_set_other _ _ _ _ (by decide)]
    exact State.bit_set_same _ _ _
  taken := by
    simp only [State.startRegs]
    rw [State.bit_set_other _ _ _ _ (by decide), State.bit_set_other _ _ _ _ (by decide),
      State.bit_set_other _ _ _ _ (by decide), State.bit_set_other _ _ _ _ (by decide)]
    exact State.bit_set_same _ _ _
  tick := (State.get_set_other _ _ _ _ (by decide)).trans (State.get_set_lt _ _ _ (by decide))
  hyper := (State.get_set_other _ _ _ _ (by decide)).trans
    ((State.get_set_other _ _ _ _ (by decide)).trans (State.get_set_lt _ _ _ (by decide)))
  event := State.bit_set_same _ _ _
  datum := rfl
  updates _ _ := rfl

theorem started_applyStart (s : State) : Started s s.applyStart := by
  unfold State.applyStart
  dsimp only
  refine Started.kept ?_ (clockKept_frameStarts _)
  have hbase := (started_startRegs s).kept (u := { s.startRegs with
    mer := { s.startRegs.mer with safetyOpened := false, gap := false, frameCount := [] }
    saf := { s.startRegs.saf with decided := [] } }) .same
  split
  · exact hbase.set (by decide) 1
  · exact hbase

theorem started_start (s : State) : Started s s.start := by
  have hlocked : Started s (if s.applyStart.fbGet 0x2010 0xA = 2 && s.applyStart.datumState != 1 then
      s.applyStart.enterLocked else s.applyStart) := by
    split
    · exact ((started_applyStart s).set (by decide) 1).set (by decide) 1
    · exact started_applyStart s
  exact hlocked.kept (.foldl _ _ (fun t p => (clockKept_benchFrame t p).trans (clockKept_stagingFrame _ p)) _)

end

end Sys2Proof.Machine

namespace Sys2Proof.Machine
open Sys2Proof Sys2Proof.Safety

/-! ## The opening of a window (R67, R107) -/

section
variable {s : State}

/-- The opening of a window beside SAFETY: its start, its end and its slack are recorded at its start. -/
theorem State.openWindow_other (e : Nat) (h : (bankEntry s.mer.active e).resource ≠ 6) : s.openWindow e =
    (s.advanceTo (s.hyperStart s.datum + (bankEntry s.mer.active e).startUs * 1000)).setWindow e
      ⟨s.hyperStart s.datum + (bankEntry s.mer.active e).startUs * 1000,
        s.hyperStart s.datum + (bankEntry s.mer.active e).startUs * 1000 + (bankEntry s.mer.active e).lengthUs * 1000,
        (bankEntry s.mer.active e).slackUs * 1000, false, false⟩ := by
  rw [State.openWindow]
  exact if_neg h

/-- The only window of a device. -/
def soleWindow (s : State) (e : Nat) (w : Window) : OpenWindow := ⟨e, bankEntry s.mer.active e, w⟩

theorem State.setWindow_sole (e : Nat) (w : Window) (h : s.mer.windows = []) :
    (s.setWindow e w).openWindows = [soleWindow s e w] := by
  rw [State.openWindows, State.setWindow]
  simp only [h]
  rfl

/-- Meridian, memory, Datum and the enabling bits of queues and contexts are kept: what a resource does at the opening of
a window that is neither STAGING nor SAFETY. -/
structure OpeningKept (s t : State) : Prop where
  mer : t.mer = s.mer
  mem : t.mem = s.mem
  datum : t.datum = s.datum
  enables : s.NoneEnabled → t.NoneEnabled

theorem OpeningKept.refl (s : State) : OpeningKept s s := ⟨rfl, rfl, rfl, id⟩

theorem OpeningKept.trans {s t u : State} (h : OpeningKept s t) (h' : OpeningKept t u) : OpeningKept s u :=
  ⟨h'.mer.trans h.mer, h'.mem.trans h.mem, h'.datum.trans h.datum, fun hn => h'.enables (h.enables hn)⟩

theorem State.NoneEnabled.congr {s t : State} (h : s.NoneEnabled) (hr : t.regs = s.regs) : t.NoneEnabled := by
  have hbit : ∀ f, t.bit f = s.bit f := fun f => by rw [State.bit, State.get, hr, State.bit, State.get]
  exact ⟨fun k hk => (hbit _).trans (h.queue k hk), fun c hc => (hbit _).trans (h.plan c hc),
    fun x hx => (hbit _).trans (h.gfx x hx), fun x hx => (hbit _).trans (h.media x hx)⟩

theorem openingKept_setPmu (s : State) (p : Pmu) : OpeningKept s (s.setPmu p) := ⟨rfl, rfl, rfl, fun h => h.congr rfl⟩

theorem openingKept_operatingPoint (s : State) (w : OpenWindow) : OpeningKept s (s.operatingPoint w) := by
  unfold State.operatingPoint
  split
  · exact .refl s
  · split
    · refine foldl_inv _ (OpeningKept s) _ (fun t c _ ht => ?_) s (.refl s)
      dsimp only
      split
      · exact ht
      · exact ht.trans (openingKept_setPmu t _)
    · split
      · dsimp only
        split
        · exact .refl s
        · exact openingKept_setPmu s _
      · exact .refl s

/-- The clearing bits of the clusters lie below every enabling bit. -/
theorem clearing_key_lt (c : Nat) (hc : c < 16) : (Reg.TEN_CL_MEMSTAT_CLEARING c).key < 0x12010000 * 64 := by
  simp only [Field.key, Reg.TEN_CL_MEMSTAT_CLEARING, Reg.TEN_CL_MEMSTAT_addr]
  omega

theorem State.NoneEnabled.clear {s : State} (h : s.NoneEnabled) (c : Nat) (hc : c < 16) (v : Nat) :
    (s.set (Reg.TEN_CL_MEMSTAT_CLEARING c) v).NoneEnabled := by
  have hlow := clearing_key_lt c hc
  have hbit : ∀ f : Field, 0x12010000 * 64 ≤ f.key → (s.set (Reg.TEN_CL_MEMSTAT_CLEARING c) v).bit f = s.bit f :=
    fun f hf => State.bit_set_other _ _ _ _ (by omega)
  refine ⟨fun k hk => (hbit _ ?_).trans (h.queue k hk), fun c' hc' => (hbit _ ?_).trans (h.plan c' hc'),
    fun x hx => (hbit _ ?_).trans (h.gfx x hx), fun x hx => (hbit _ ?_).trans (h.media x hx)⟩
  · unfold qEn qSel
    split <;> simp only [Field.key, Reg.PLB_QC_ATTR_EN, Reg.PLB_QC_ATTR_addr, Reg.MBX_QC_ATTR_EN, Reg.MBX_QC_ATTR_addr] <;>
      omega
  · simp only [Field.key, Reg.TRV_CX_ATTR_EN, Reg.TRV_CX_ATTR_addr]; omega
  · simp only [Field.key, Reg.GFX_CX_ATTR_EN, Reg.GFX_CX_ATTR_addr]; omega
  · simp only [Field.key, Reg.MED_CX_ATTR_EN, Reg.MED_CX_ATTR_addr]; omega

/-- One cluster of a TENSOR window remembers the partition, and clears its stores where that is another one. -/
def State.clearFor (s : State) (p c : Nat) : State :=
  if s.clusterUp c && (KMap.find s.eng.lastPart c).isSome && KMap.find s.eng.lastPart c != some p then
    ({ s with eng := { s.eng with lastPart := KMap.put s.eng.lastPart c p } } : State).set (Reg.TEN_CL_MEMSTAT_CLEARING c) 1
  else { s with eng := { s.eng with lastPart := KMap.put s.eng.lastPart c p } }

theorem State.partitionClear_eq (s : State) (w : OpenWindow) : s.partitionClear w =
    (clusterList w.entry.units).foldl (fun s c => s.clearFor w.entry.partition c) s := rfl

theorem State.clearFor_lastPart (s : State) (p c : Nat) :
    (s.clearFor p c).eng.lastPart = KMap.put s.eng.lastPart c p := by
  unfold State.clearFor
  split <;> rfl

theorem openingKept_clearFor (s : State) (p c : Nat) (hc : c < 16) : OpeningKept s (s.clearFor p c) := by
  have hpart : OpeningKept s { s with eng := { s.eng with lastPart := KMap.put s.eng.lastPart c p } } :=
    ⟨rfl, rfl, rfl, fun h => h.congr rfl⟩
  unfold State.clearFor
  split
  · exact hpart.trans ⟨rfl, rfl, rfl, fun h => h.clear c hc 1⟩
  · exact hpart

theorem openingKept_partitionClear (s : State) (w : OpenWindow) : OpeningKept s (s.partitionClear w) := by
  rw [State.partitionClear_eq]
  refine foldl_inv _ (OpeningKept s) _ (fun t c hc ht => ht.trans (openingKept_clearFor t _ c ?_)) s (.refl s)
  exact List.mem_range.1 (List.mem_filter.1 hc).1

/-- Every cluster of the window remembers its partition. -/
theorem State.partitionClear_lastPart (s : State) (w : OpenWindow) (c : Nat) (hc : c ∈ clusterList w.entry.units) :
    KMap.find (s.partitionClear w).eng.lastPart c = some w.entry.partition := by
  rw [State.partitionClear_eq]
  generalize clusterList w.entry.units = l at hc ⊢
  induction l generalizing s with
  | nil => exact absurd hc List.not_mem_nil
  | cons x xs ih =>
    by_cases hx : c ∈ xs
    · exact ih _ hx
    · obtain rfl : c = x := (List.mem_cons.1 hc).resolve_right hx
      refine foldl_inv _ (fun t : State => KMap.find t.eng.lastPart c = some w.entry.partition) xs (fun t y hy ht => ?_) _ ?_
      · have hne : c ≠ y := fun he => hx (he ▸ hy)
        rw [State.clearFor_lastPart, KMap.find_put_other _ _ _ _ hne]
        exact ht
      · rw [State.clearFor_lastPart, KMap.find_put_same]

/-- What the resource of a window beside STAGING and SAFETY does at its opening. -/
theorem State.openingWork_kept (s : State) (w : OpenWindow) (h5 : w.entry.resource ≠ 5) (h6 : w.entry.resource ≠ 6) :
    OpeningKept s (s.openingWork w) := by
  have hpoint := openingKept_operatingPoint s w
  unfold State.openingWork
  dsimp only
  split
  · exact hpoint.trans (openingKept_partitionClear _ w)
  · exact absurd ‹_› h5
  · exact absurd ‹_› h6
  · exact hpoint

theorem State.openingWork_lastPart (s : State) (w : OpenWindow) (h0 : w.entry.resource = 0) (c : Nat)
    (hc : c ∈ clusterList w.entry.units) : KMap.find (s.openingWork w).eng.lastPart c = some w.entry.partition := by
  rw [State.openingWork, h0]
  exact State.partitionClear_lastPart _ w c hc

/-- An entry that may open, with nothing enabled: its window is the only one, and its resource prepares for it. -/
theorem execWindowOpen_bare {e : Fin 256} (hmay : s.mayOpen e.val = true)
    (h5 : (bankEntry s.mer.active e.val).resource ≠ 5) (h6 : (bankEntry s.mer.active e.val).resource ≠ 6)
    (hoff : s.NoneEnabled) {u : State} {w : Window} (hu : s.openWindow e.val = u)
    (hw : u.openWindows = [soleWindow s e.val w]) (hkept : s.NoneEnabled → u.NoneEnabled) :
    execWindowOpen e s = done (u.openingWork (soleWindow s e.val w)) := by
  have hwork := u.openingWork_kept (soleWindow s e.val w) h5 h6
  have hopen : (u.openingWork (soleWindow s e.val w)).openWindows = [soleWindow s e.val w] := by
    rw [State.openWindows, hwork.mer, ← State.openWindows, hw]
  have hadmit : (u.openingWork (soleWindow s e.val w)).admitAll = u.openingWork (soleWindow s e.val w) :=
    State.admitAll_none (.inr (hwork.enables (hkept hoff))) fun x hx => by
      rw [hopen, List.mem_singleton] at hx
      rw [hx]
      exact h5
  have hfind : u.openWindows.find? (fun w => decide (w.index = e.val)) = some (soleWindow s e.val w) := by
    rw [hw]
    exact List.find?_cons_of_pos (decide_eq_true rfl)
  simp only [execWindowOpen, hmay, Bool.not_true, Bool.false_eq_true, if_false, hu, hfind, hadmit]
  exact congrArg done (if_neg h5)

end

end Sys2Proof.Machine

namespace Sys2Proof.Machine
open Sys2Proof Sys2Proof.Safety

/-! ## The close of a window (R68) -/

theorem KMap.mem_of_find {α : Type} {m : KMap α} {k : Nat} {v : α} (h : KMap.find m k = some v) : (k, v) ∈ m := by
  induction m with
  | nil => exact absurd h (by simp [KMap.find])
  | cons p m ih =>
    rw [KMap.find] at h
    split at h
    · next hk =>
      obtain rfl := Option.some.inj h
      exact hk ▸ List.mem_cons_self
    · exact List.mem_cons_of_mem _ (ih h)

section
variable {s : State}

/-- Nothing runs in a window. -/
structure State.Quiet (s : State) (w : Nat) : Prop where
  jobs : ∀ k j, s.job k = some j → j.window ≠ w
  plan : ∀ p, s.trv.plan = some p → p.window ≠ w
  gfx : ∀ x < 32, ∀ j, (s.gx x).job = some j → j.window ≠ w
  media : ∀ x < 64, ∀ a b v, (s.mx x).admitted = some (a, b, v) → v ≠ w
  staging : ∀ p < 32, ∀ j, (s.stx p).job = some j → j.window ≠ w
  isp : ∀ i < 32, ∀ j, (s.capSrc i).isp = some j → j.window ≠ w

theorem State.quiet_of_busyIn {w : Nat} (h : s.busyIn w = false) : s.Quiet w := by
  simp only [State.busyIn, Bool.or_eq_false_iff] at h
  obtain ⟨⟨⟨⟨⟨hjobs, hplan⟩, hgfx⟩, hmedia⟩, hstaging⟩, hisp⟩ := h
  refine ⟨fun k j hj hw => ?_, fun p hp hw => ?_, fun x hx j hj hw => ?_, fun x hx a b v hv hw => ?_,
    fun p hp j hj hw => ?_, fun i hi j hj hw => ?_⟩
  · exact List.any_eq_false.1 hjobs _ (KMap.mem_of_find hj) (decide_eq_true hw)
  · rw [hp] at hplan
    exact absurd hw (of_decide_eq_false hplan)
  · have := List.any_eq_false.1 hgfx x (List.mem_range.2 hx)
    rw [hj] at this
    exact this (decide_eq_true hw)
  · have := List.any_eq_false.1 hmedia x (List.mem_range.2 hx)
    rw [hv] at this
    exact this (decide_eq_true hw)
  · have := List.any_eq_false.1 hstaging p (List.mem_range.2 hp)
    rw [hj] at this
    exact this (decide_eq_true hw)
  · have := List.any_eq_false.1 hisp i (List.mem_range.2 hi)
    rw [hj] at this
    exact this (decide_eq_true hw)

variable {w : Nat} (hq : s.Quiet w)
include hq

theorem State.closeJobs_quiet (hacks : s.eng.acks = []) : s.closeJobs w = s := by
  have hsame : ({ s with eng := { s.eng with acks := [] } } : State) = s := by rw [← hacks]
  unfold State.closeJobs
  dsimp only
  rw [foldl_same _ s.eng.jobs s, hacks]
  · simp only [List.filter_nil, List.foldl_nil, hacks]
    exact hsame
  · intro p _
    cases hj : s.job p.1 with
    | none => rfl
    | some j => exact if_neg (hq.jobs p.1 j hj)

theorem State.closePlans_quiet : s.closePlans w = s := by
  rw [State.closePlans]
  cases hp : s.trv.plan with
  | none => rfl
  | some p => exact if_neg (hq.plan p hp)

theorem State.closeGfx_quiet : s.closeGfx w = s := by
  unfold State.closeGfx
  refine foldl_same _ (List.range 32) s fun x hx => ?_
  cases hj : (s.gx x).job with
  | none => rfl
  | some j => exact if_pos (hq.gfx x (List.mem_range.1 hx) j hj)

theorem State.closeMedia_quiet : s.closeMedia w = s := by
  unfold State.closeMedia
  refine foldl_same _ (List.range 64) s fun x hx => ?_
  rcases ha : (s.mx x).admitted with _ | ⟨a, b, v⟩
  · rfl
  · exact if_neg (hq.media x (List.mem_range.1 hx) a b v ha)

theorem State.closeIsp_quiet : s.closeIsp w = s := by
  unfold State.closeIsp
  refine foldl_same _ (List.range 32) s fun i hi => ?_
  cases hj : (s.capSrc i).isp with
  | none => rfl
  | some j => exact if_neg (hq.isp i (List.mem_range.1 hi) j hj)

/-- The close of a STAGING window only looks whether the frame has a batch. -/
theorem State.closeStaging_quiet {x : OpenWindow} (hx : s.openWindows.find? (fun x => x.index = w) = some x) :
    s.closeStaging w = if x.entry.resource = 5 ∧ !x.entry.benchmark then s.missStaging x.entry.pipe else s := by
  unfold State.closeStaging
  dsimp only
  rw [foldl_same _ (List.range 32) s]
  · simp only [hx, State.closeIsp_quiet hq]
  · intro p hp
    cases hj : (s.stx p).job with
    | none => rfl
    | some j => exact if_neg (hq.staging p (List.mem_range.1 hp) j hj)

omit hq in
theorem State.quiet_advanceTo {w : Nat} (t : Nat) (hq : s.Quiet w) : (s.advanceTo t).Quiet w := by
  unfold State.advanceTo
  split
  · exact hq
  · exact ⟨hq.jobs, hq.plan, hq.gfx, hq.media, hq.staging, hq.isp⟩

omit hq in
theorem State.openWindows_advanceTo (t : Nat) : (s.advanceTo t).openWindows = s.openWindows := by
  rw [State.openWindows, State.advanceTo_mer, State.openWindows]

omit hq in
theorem State.busyIn_advanceTo (t w : Nat) : (s.advanceTo t).busyIn w = s.busyIn w := by
  unfold State.advanceTo
  split <;> rfl

omit hq in
theorem State.killedAtClose_advanceTo (t : Nat) (x : OpenWindow) : (s.advanceTo t).killedAtClose x = s.killedAtClose x := by
  rw [State.killedAtClose, State.advanceTo_eng, State.killedAtClose]

omit hq in
/-- The close of a window in which nothing runs. -/
theorem execWindowClose_quiet {e : Fin 256} {x : OpenWindow} (hx : s.openWindows.find? (fun x => x.index = e.val) = some x)
    (hbusy : s.busyIn e.val = false) (hkill : s.killedAtClose x = false) (hacks : s.eng.acks = []) :
    execWindowClose e s = done ((if x.entry.resource = 5 ∧ !x.entry.benchmark then
      (s.advanceTo x.close).missStaging x.entry.pipe else s.advanceTo x.close).dropWindow e.val) := by
  have hindex : x.index = e.val := by simpa using List.find?_some hx
  have hq := State.quiet_advanceTo x.close (State.quiet_of_busyIn hbusy)
  have heng : (s.advanceTo x.close).eng = s.eng := s.advanceTo_eng _
  have hacks' : (s.advanceTo x.close).eng.acks = [] := by rw [heng, hacks]
  have hcalm : ((s.advanceTo x.close).busyIn e.val || (s.advanceTo x.close).killedAtClose x) = false := by
    rw [State.busyIn_advanceTo, State.killedAtClose_advanceTo, hbusy, hkill]
    rfl
  have hfind : (s.advanceTo x.close).openWindows.find? (fun x => decide (x.index = e.val)) = some x := by
    rw [State.openWindows_advanceTo, hx]
  rw [execWindowClose, hx]
  simp only [State.closeWindow, hindex, hcalm, Bool.false_eq_true, if_false, State.closeJobs_quiet hq hacks',
    State.closePlans_quiet hq, State.closeGfx_quiet hq, State.closeMedia_quiet hq, State.closeStaging_quiet hq hfind]

end

end Sys2Proof.Machine

namespace Sys2Proof.Machine
open Sys2Proof Sys2Proof.Safety

/-! ## The accounting of a frame left without a batch (R287) -/

section
variable {s : State}

/-- The frame of a STAGING pipeline is left without a batch. -/
def State.frameMissed (s : State) (p : Nat) : Bool :=
  s.bit (Reg.MED_ST_CTRL_EN p) && (s.stx p).live && !(s.stx p).produced && !(s.stx p).missed

theorem State.missStaging_missed {p : Nat} (h : s.frameMissed p = true) :
    s.missStaging p = (s.fbInc 0x6090 0xD).setStx p { s.stx p with missed := true } := if_pos h

theorem State.missStaging_met {p : Nat} (h : s.frameMissed p = false) : s.missStaging p = s :=
  if_neg (Bool.not_eq_true _ ▸ h)

theorem State.missStaging_kept (s : State) (p : Nat) : (s.missStaging p).mer = s.mer ∧ (s.missStaging p).datum = s.datum ∧
    RegsKept [] s (s.missStaging p) ∧ FbKept [(0x6090, 0xD)] s (s.missStaging p) ∧ (s.missStaging p).mem = s.mem := by
  cases h : s.frameMissed p with
  | true =>
    rw [State.missStaging_missed h]
    exact ⟨rfl, rfl, .refl _ _, (FbKept.refl _ s).inc List.mem_cons_self, rfl⟩
  | false =>
    rw [State.missStaging_met h]
    exact ⟨rfl, rfl, .refl _ _, .refl _ _, rfl⟩

theorem State.missStaging_count (s : State) (p : Nat) : (s.missStaging p).fbGet 0x6090 0xD =
    if s.frameMissed p then satAdd 32 (s.fbGet 0x6090 0xD) 1 else s.fbGet 0x6090 0xD := by
  cases h : s.frameMissed p with
  | true =>
    rw [State.missStaging_missed h]
    exact State.fbGet_fbInc_same _ _ _
  | false => rw [State.missStaging_met h]; rfl

theorem State.frameMissed_advanceTo (s : State) (t p : Nat) : (s.advanceTo t).frameMissed p = s.frameMissed p := by
  unfold State.advanceTo
  split <;> rfl

/-- Time has passed to `n` in `t`: Datum reads at least `n`, and what a tick looks at stands. -/
structure Elapsed (s : State) (n : Nat) (t : State) : Prop where
  get : ∀ f, t.get f = s.get f
  bit : ∀ f, t.bit f = s.bit f
  fb : ∀ i j, t.fbGet i j = s.fbGet i j
  mer : t.mer = s.mer
  mem : t.mem = s.mem
  stepSeq : t.stepSeq = s.stepSeq
  acqPending : t.servo.acqPending = s.servo.acqPending
  datum : t.datum = max s.datum n

theorem elapsed_advanceTo (s : State) (n : Nat) : Elapsed s n (s.advanceTo n) where
  get f := s.advanceTo_get n f
  bit f := s.advanceTo_bit n f
  fb i j := s.advanceTo_fbGet n i j
  mer := s.advanceTo_mer n
  mem := s.advanceTo_mem n
  stepSeq := s.advanceTo_stepSeq n
  acqPending := by
    unfold State.advanceTo
    split <;> rfl
  datum := s.advanceTo_datum n

section
variable {n : Nat} {t : State} (h : Elapsed s n t)
include h

theorem Elapsed.running : t.running = s.running := h.bit _

theorem Elapsed.updState (k : Nat) : t.updState k = s.updState k := by
  rw [State.updState, h.fb, State.updState]

theorem Elapsed.plainTick (hwin : s.mer.windows = []) (hframes : s.mer.frames = []) : t.plainTick = t.ticked :=
  State.plainTick_bare (by rw [h.mer, hwin]) (by rw [h.mer, hframes])

theorem Elapsed.boundary (hgap : s.mer.gap = false) (hwin : s.mer.windows = []) (hframes : s.mer.frames = [])
    (hswap : s.bit Reg.MER_STATUS_SWAP_PENDING = false) (hstop : s.bit Reg.MER_CTRL_STOP = false)
    (hrebase : s.bit Reg.MER_DATUM_CTRL_REBASE = false) (hacq : s.servo.acqPending = false)
    (hupd : ∀ k < 3, s.updState k ≠ 3) : t.boundary = t.hyperTicked :=
  State.boundary_bare (by rw [h.mer, hgap]) (by rw [h.mer, hwin]) (by rw [h.mer, hframes]) ((h.bit _).trans hswap)
    ((h.bit _).trans hstop) ((h.bit _).trans hrebase) (h.acqPending.trans hacq)
    fun k hk => by rw [h.updState]; exact hupd k hk

theorem Elapsed.start_activations (hupd : ∀ k < 3, s.updState k ≠ 3) : t.start.activations = t.start :=
  State.activations_none fun k hk => by
    rw [(started_start t).updates k hk, h.updState]
    exact hupd k hk

end

/-- The times of a window as it opens. -/
def opening (s : State) (e : Nat) : Window :=
  ⟨s.hyperStart s.datum + (bankEntry s.mer.active e).startUs * 1000,
    s.hyperStart s.datum + (bankEntry s.mer.active e).startUs * 1000 + (bankEntry s.mer.active e).lengthUs * 1000,
    (bankEntry s.mer.active e).slackUs * 1000, false, false⟩

/-- The state in which a window has just opened. -/
structure JustOpened (s : State) (e : Nat) (t : State) : Prop where
  windows : t.openWindows = [soleWindow s e (opening s e)]
  found : KMap.find t.mer.windows e = some (opening s e)
  datum : t.datum = max s.datum (opening s e).start
  mem : t.mem = s.mem
  enables : s.NoneEnabled → t.NoneEnabled

theorem State.NoneEnabled.of_bits {s t : State} (h : s.NoneEnabled) (hb : ∀ f, t.bit f = s.bit f) : t.NoneEnabled :=
  ⟨fun k hk => (hb _).trans (h.queue k hk), fun c hc => (hb _).trans (h.plan c hc),
    fun x hx => (hb _).trans (h.gfx x hx), fun x hx => (hb _).trans (h.media x hx)⟩

theorem justOpened_openWindow (e : Nat) (h6 : (bankEntry s.mer.active e).resource ≠ 6) (hwin : s.mer.windows = []) :
    JustOpened s e (s.openWindow e) := by
  rw [State.openWindow_other e h6]
  have h := elapsed_advanceTo s (s.hyperStart s.datum + (bankEntry s.mer.active e).startUs * 1000)
  generalize s.advanceTo (s.hyperStart s.datum + (bankEntry s.mer.active e).startUs * 1000) = t at h
  refine ⟨?_, KMap.find_put_same _ _ _, h.datum, h.mem, fun hn => hn.of_bits h.bit⟩
  rw [State.setWindow_sole e _ (by rw [h.mer, hwin]), soleWindow, h.mer]
  rfl

end

end Sys2Proof.Machine

namespace Sys2Proof.Scope
open Sys2Proof Sys2Proof.Machine Sys2Proof.Safety

section
variable {s : State}

theorem execBaseTick_inside {u : State} (hrun : s.running = true) (hgap : s.mer.gap = false) (hwin : s.mer.windows = [])
    (hinside : s.isBoundary s.tickDue = false) (hu : (s.advanceTo s.tickDue).plainTick = u) (hstill : u.running = true)
    (hseq : u.stepSeq = s.stepSeq) : execBaseTick s = done (u.lastTicked s.tickDue) :=
  execBaseTick_running hwin hrun ((if_neg (by rw [hgap, hinside]; decide)).trans hu) hstill hseq

theorem execBaseTick_boundary {u : State} (hrun : s.running = true) (hwin : s.mer.windows = [])
    (hbound : s.isBoundary s.tickDue = true) (hu : (s.advanceTo s.tickDue).boundary = u) (hstill : u.running = true)
    (hseq : u.stepSeq = s.stepSeq) : execBaseTick s = done (u.lastTicked s.tickDue) :=
  execBaseTick_running hwin hrun ((if_pos (by rw [hbound, Bool.or_true])).trans hu) hstill hseq

theorem baseTick_inside (hrun : s.running = true) (hgap : s.mer.gap = false) (hwin : s.mer.windows = [])
    (hframes : s.mer.frames = []) (hinside : s.isBoundary s.tickDue = false) :
    Does .baseTick s (fun t => t.get Reg.MER_TICK_COUNT_TICK = (s.get Reg.MER_TICK_COUNT_TICK + 1) % 2 ^ Reg.MER_TICK_COUNT_TICK.width ∧
    t.bit Reg.MER_EVENTS_TICK = true ∧ t.datum = max s.datum s.tickDue ∧ t.mer.lastTick = some s.tickDue ∧
    RegsKept [Reg.MER_TICK_COUNT_TICK, Reg.MER_EVENTS_TICK] s t ∧
    t = { s.advanceTo s.tickDue with regs := t.regs, mer := { s.mer with lastTick := t.mer.lastTick } }) := by
  have h := elapsed_advanceTo s s.tickDue
  have htick := h.plainTick hwin hframes
  have hexec := fun u => execBaseTick_inside (u := u) hrun hgap hwin hinside
  generalize s.advanceTo s.tickDue = v at h htick hexec
  have honly := v.regsOnly_ticked
  have hkept := v.regsKept_ticked
  have hcount := v.ticked_tick
  have hevent := v.ticked_event
  have hgo := v.ticked_running.trans (h.running.trans hrun)
  generalize v.ticked = u at honly hkept hcount hevent hgo htick
  refine ⟨_, hexec u htick hgo ((RegsOnly.stepSeq_eq honly).trans h.stepSeq), ?_, hevent,
    (RegsOnly.datum_eq honly).trans h.datum, rfl, fun f hf => (hkept f hf).trans (h.get f), ?_⟩
  · exact hcount.trans (by rw [h.get])
  · rw [State.lastTicked, honly, h.mer]

theorem baseTick_boundary (hrun : s.running = true) (hgap : s.mer.gap = false) (hwin : s.mer.windows = [])
    (hframes : s.mer.frames = []) (hbound : s.isBoundary s.tickDue = true)
    (hswap : s.bit Reg.MER_STATUS_SWAP_PENDING = false) (hstop : s.bit Reg.MER_CTRL_STOP = false)
    (hrebase : s.bit Reg.MER_DATUM_CTRL_REBASE = false) (hacq : s.servo.acqPending = false)
    (hupd : ∀ k < 3, s.updState k ≠ 3) :
    Does .baseTick s (fun t => t.get Reg.MER_TICK_COUNT_TICK = 0 ∧
    t.get Reg.MER_TICK_COUNT_HYPER = (s.get Reg.MER_TICK_COUNT_HYPER + 1) % 2 ^ Reg.MER_TICK_COUNT_HYPER.width ∧
    t.bit Reg.MER_EVENTS_TICK = true ∧ t.datum = max s.datum s.tickDue ∧ t.running = true ∧ t.mem = s.mem) := by
  have h := elapsed_advanceTo s s.tickDue
  have htick := h.boundary hgap hwin hframes hswap hstop hrebase hacq hupd
  have hexec := fun u => execBaseTick_boundary (u := u) hrun hwin hbound
  generalize s.advanceTo s.tickDue = v at h htick hexec
  have honly := v.regsOnly_hyperTicked
  have hcount := v.hyperTicked_tick
  have hhyper := v.hyperTicked_hyper
  have hevent := v.hyperTicked_event
  have hgo := v.hyperTicked_running.trans (h.running.trans hrun)
  generalize v.hyperTicked = u at honly hcount hhyper hevent hgo htick
  exact ⟨_, hexec u htick hgo ((RegsOnly.stepSeq_eq honly).trans h.stepSeq), hcount, hhyper.trans (by rw [h.get]),
    hevent, (RegsOnly.datum_eq honly).trans h.datum, hgo, (RegsOnly.mem_eq honly).trans h.mem⟩

theorem baseTick_start (hrun : s.running = false) (hstart : s.bit Reg.MER_CTRL_START = true)
    (hwait : s.servo.startWait = none) (hwin : s.mer.windows = []) (hupd : ∀ k < 3, s.updState k ≠ 3) :
    Does .baseTick s (fun t => t.running = true ∧
    t.bit Reg.MER_CTRL_START = false ∧ t.get Reg.MER_TICK_COUNT_TICK = 0 ∧ t.get Reg.MER_TICK_COUNT_HYPER = 0 ∧
    t.bit Reg.MER_EVENTS_TICK = true ∧ t.datum = max s.datum s.tickDue ∧ t.mer.lastTick = some s.tickDue) := by
  have h := elapsed_advanceTo s s.tickDue
  have hexec := execBaseTick_start hwin hrun hstart hwait
  generalize s.advanceTo s.tickDue = v at h hexec
  rw [h.start_activations hupd] at hexec
  obtain ⟨hrunning, htaken, htick, hhyper, hevent, hdatum, -⟩ := started_start v
  generalize v.start = u at hexec hrunning htaken htick hhyper hevent hdatum
  exact ⟨_, hexec, hrunning, htaken, htick, hhyper, hevent, hdatum.trans h.datum, rfl⟩

theorem windowOpen_bare {e : Fin 256} (hmay : s.mayOpen e.val = true) (hwin : s.mer.windows = [])
    (h5 : (bankEntry s.mer.active e.val).resource ≠ 5) (h6 : (bankEntry s.mer.active e.val).resource ≠ 6)
    (hoff : s.NoneEnabled) :
    Does (.windowOpen e) s (fun t => KMap.find t.mer.windows e.val = some (opening s e.val) ∧
    t.datum = max s.datum (opening s e.val).start ∧ (∀ c : Fin 16, (bankEntry s.mer.active e.val).resource = 0 →
    bitOf (bankEntry s.mer.active e.val).units c.val = true →
    KMap.find t.eng.lastPart c.val = some (bankEntry s.mer.active e.val).partition) ∧ t.mem = s.mem) := by
  have hopen := justOpened_openWindow e.val h6 hwin
  have hexec := execWindowOpen_bare hmay h5 h6 hoff rfl hopen.windows hopen.enables
  generalize s.openWindow e.val = u at hopen hexec
  have hkept := u.openingWork_kept (soleWindow s e.val (opening s e.val)) h5 h6
  refine ⟨_, hexec, ?_, hkept.datum.trans hopen.datum, fun c h0 hc => ?_, hkept.mem.trans hopen.mem⟩
  · rw [hkept.mer]
    exact hopen.found
  · exact u.openingWork_lastPart _ h0 c.val (List.mem_filter.2 ⟨List.mem_range.2 c.isLt, hc⟩)

theorem windowClose_staging {e : Fin 256} {w : OpenWindow}
    (hw : s.openWindows.find? (fun w => w.index = e.val) = some w) (hbusy : s.busyIn e.val = false)
    (h5 : w.entry.resource = 5) (hbench : w.entry.benchmark = false) (hkill : s.killedAtClose w = false)
    (hacks : s.eng.acks = []) :
    Does (.windowClose e) s (fun t => t.mer = { s.mer with windows := KMap.del s.mer.windows e.val } ∧
    t.datum = max s.datum w.close ∧
    t.fbGet 0x6090 0xD = (if s.frameMissed w.entry.pipe then satAdd 32 (s.fbGet 0x6090 0xD) 1 else s.fbGet 0x6090 0xD) ∧
    RegsKept [] s t ∧ FbKept [(0x6090, 0xD)] s t ∧ t.mem = s.mem) := by
  have h := elapsed_advanceTo s w.close
  have hmissed := s.frameMissed_advanceTo w.close w.entry.pipe
  have hexec := execWindowClose_quiet hw hbusy hkill hacks
  rw [if_pos ⟨h5, by rw [hbench]; rfl⟩] at hexec
  generalize s.advanceTo w.close = v at h hmissed hexec
  have hcount := v.missStaging_count w.entry.pipe
  rw [hmissed, h.fb] at hcount
  obtain ⟨hmer, hdatum, hregs, hfb, hmem⟩ := v.missStaging_kept w.entry.pipe
  generalize v.missStaging w.entry.pipe = u at hexec hcount hmer hdatum hregs hfb hmem
  refine ⟨_, hexec, ?_, hdatum.trans h.datum, hcount, fun f hf => (hregs f hf).trans (h.get f),
    fun i j hk => (hfb i j hk).trans (h.fb i j), hmem.trans h.mem⟩
  rw [State.dropWindow, hmer, h.mer]

end

/-- Settles O12: ticks, boundaries and windows, by the cases of BASE_TICK, WINDOW_OPEN and WINDOW_CLOSE. -/
theorem ticksAndWindows : Obligations.TicksAndWindows := by
  refine ⟨?_, ?_, ?_, ?_, ?_, ?_, ?_, ?_, ?_⟩
  · exact fun s hrun hgap hwin hframes hinside => baseTick_inside hrun hgap hwin hframes hinside
  · exact fun s hrun hgap hwin hframes hbound hswap hstop hrebase hacq hupd =>
      baseTick_boundary hrun hgap hwin hframes hbound hswap hstop hrebase hacq fun k hk => hupd ⟨k, hk⟩
  · exact fun s hrun hstart hwin hupd => ⟨_, execBaseTick_stopped hwin hrun hstart fun k hk => hupd ⟨k, hk⟩, rfl⟩
  · exact fun s hrun hstart hwait hwin hupd => baseTick_start hrun hstart hwait hwin fun k hk => hupd ⟨k, hk⟩
  · intro e s hmay hwin en h5 h6 hqueue hplan hgfx hmedia
    obtain ⟨t, hexec, hfound, hdatum, hpart, hmem⟩ := windowOpen_bare hmay hwin h5 h6 ⟨fun k hk => hqueue ⟨k, hk⟩,
      fun c hc => hplan ⟨c, hc⟩, fun x hx => hgfx ⟨x, hx⟩, fun x hx => hmedia ⟨x, hx⟩⟩
    exact ⟨t, hexec, by rw [hfound]; rfl, hdatum, hpart, hmem⟩
  · exact fun e s hmay => ⟨s, if_pos (by rw [hmay]; rfl), rfl⟩
  · intro e s w hw hbusy hres hkill hacks
    have hother : ¬ (w.entry.resource = 5 ∧ (!w.entry.benchmark) = true) := fun ⟨h5, hb⟩ =>
      hres.elim (· h5) fun h => by rw [h] at hb; exact absurd hb (by decide)
    refine ⟨_, execWindowClose_quiet hw hbusy hkill hacks, ?_⟩
    rw [if_neg hother, State.dropWindow, State.advanceTo_mer]
  · exact fun e s w hw hbusy h5 hbench hkill hacks => windowClose_staging hw hbusy h5 hbench hkill hacks
  · intro e s hnone
    refine ⟨s, ?_, rfl⟩
    show execWindowClose e s = _
    rw [execWindowClose, hnone]
    rfl

end Sys2Proof.Scope

namespace Sys2Proof.Machine
open Sys2Proof Sys2Proof.Safety

/-! # Accesses that pass stay passed (R33–R36, R166, R300)

What decides an access are a few registers, the link and the clock. A state that agrees with another in them lets the
same accesses pass. -/

/-- A register that the decision on an access reads: the units present and the straps, the checkers' regions, the KV
caches, the channel groups' owners and sharers. -/
def DecidesAccess (f : Field) : Prop := f.lo < 64 ∧ (f.addr < 0x10000100 ∨
  (0x10300000 ≤ f.addr ∧ f.addr < 0x10400000 ∧ 0x400 ≤ f.addr % 0x1000) ∨ (0x11000000 ≤ f.addr ∧ f.addr < 0x12000000) ∨
  (0x1B000100 ≤ f.addr ∧ f.addr % 16 ≠ 4))

/-- A register that no decision reads. -/
def NoAccess (f : Field) : Prop := f.lo < 64 ∧ f.addr ≠ 0x10400000 ∧ 0x10000100 ≤ f.addr ∧
  (f.addr < 0x10300000 ∨ 0x10400000 ≤ f.addr ∨ f.addr % 0x1000 < 0x400) ∧ (f.addr < 0x11000000 ∨ 0x12000000 ≤ f.addr) ∧
  (f.addr < 0x1B000100 ∨ f.addr % 16 = 4)

theorem key_ne_of_decidesAccess {f g : Field} (hf : DecidesAccess f) (hg : NoAccess g) : f.key ≠ g.key := by
  simp only [DecidesAccess, NoAccess, Field.key] at *
  omega

/-- What decides accesses is the same in two states. -/
structure SameAccess (s t : State) : Prop where
  fields : ∀ f, DecidesAccess f → t.get f = s.get f
  powered : ∀ d, 4 ≤ d → d < 8 → t.powered d = s.powered d
  dram : t.dramGiB = s.dramGiB
  link : t.brg.linkDown = s.brg.linkDown
  datum : t.datum = s.datum
  noted : t.worlds.regionWas = s.worlds.regionWas

namespace SameAccess
variable {s t u : State}

theorem refl (s : State) : SameAccess s s := ⟨fun _ _ => rfl, fun _ _ _ => rfl, rfl, rfl, rfl, rfl⟩

theorem trans (h : SameAccess s t) (h' : SameAccess t u) : SameAccess s u :=
  ⟨fun f hf => (h'.fields f hf).trans (h.fields f hf), fun d h4 h8 => (h'.powered d h4 h8).trans (h.powered d h4 h8),
    h'.dram.trans h.dram, h'.link.trans h.link, h'.datum.trans h.datum, h'.noted.trans h.noted⟩

/-- An update of other parts of the state. -/
theorem same (hr : t.regs = s.regs := by rfl) (hg : t.dramGiB = s.dramGiB := by rfl)
    (hl : t.brg.linkDown = s.brg.linkDown := by rfl) (hd : t.datum = s.datum := by rfl)
    (hw : t.worlds.regionWas = s.worlds.regionWas := by rfl) : SameAccess s t := by
  have hget : ∀ f, t.get f = s.get f := fun f => by rw [State.get, hr, State.get]
  exact ⟨fun f _ => hget f, fun d _ _ => by rw [State.powered, hget, State.powered], hg, hl, hd, hw⟩

theorem set {f : Field} (hf : NoAccess f) (s : State) (v : Nat) : SameAccess s (s.set f v) := by
  refine ⟨fun g hg => State.get_set_other _ _ _ _ (key_ne_of_decidesAccess hg hf), fun d _ _ => ?_, rfl, rfl, rfl, rfl⟩
  have hkey : Reg.PMU_PD_STATE_PD.key ≠ f.key := by
    simp only [NoAccess, Field.key, Reg.PMU_PD_STATE_PD, Reg.PMU_PD_STATE_addr] at *
    omega
  rw [State.powered, State.get_set_other _ _ _ _ hkey, State.powered]

variable (h : SameAccess s t)
include h

theorem get_region (k r : Nat) (hk : k < 65) (hr : r < 32) :
    t.regionOn k r = s.regionOn k r ∧ (∀ f ∈ [Reg.CAD_RG_BASE_BASE k r, Reg.CAD_RG_LIMIT_LIMIT k r,
      Reg.CAD_RG_PARTS_PARTS k r, Reg.CAD_RG_CTRL_SR k r, Reg.CAD_RG_CTRL_SW k r, Reg.CAD_RG_CTRL_NR k r,
      Reg.CAD_RG_CTRL_NW k r], t.get f = s.get f) := by
  have hctrl : t.bit (Reg.CAD_RG_CTRL_EN k r) = s.bit (Reg.CAD_RG_CTRL_EN k r) := by
    rw [State.bit, State.bit, h.fields _ (by simp only [DecidesAccess, Reg.CAD_RG_CTRL_EN, Reg.CAD_RG_CTRL_addr]; omega)]
  refine ⟨?_, fun f hf => h.fields f ?_⟩
  · rw [State.regionOn, State.regionOn, h.noted, h.datum, hctrl]
  · simp only [List.mem_cons, List.not_mem_nil, or_false] at hf
    rcases hf with rfl | rfl | rfl | rfl | rfl | rfl | rfl <;>
      simp only [DecidesAccess, Reg.CAD_RG_BASE_BASE, Reg.CAD_RG_BASE_addr, Reg.CAD_RG_LIMIT_LIMIT, Reg.CAD_RG_LIMIT_addr,
        Reg.CAD_RG_PARTS_PARTS, Reg.CAD_RG_PARTS_addr, Reg.CAD_RG_CTRL_SR, Reg.CAD_RG_CTRL_SW, Reg.CAD_RG_CTRL_NR,
        Reg.CAD_RG_CTRL_NW, Reg.CAD_RG_CTRL_addr] <;> omega

theorem regionDecide {k : Nat} (hk : k < 65) (at' : Attr) (write : Bool) (page : Nat) (l : List Nat) (hl : ∀ r ∈ l, r < 32) :
    Machine.regionDecide t k at' write page l = Machine.regionDecide s k at' write page l := by
  induction l with
  | nil => rfl
  | cons r l ih =>
    obtain ⟨hon, hget⟩ := h.get_region k r hk (hl r List.mem_cons_self)
    simp only [List.forall_mem_cons, List.not_mem_nil, false_imp_iff, implies_true, and_true] at hget
    obtain ⟨hbase, hlimit, hparts, hsr, hsw, hnr, hnw⟩ := hget
    have hbit : ∀ f, t.get f = s.get f → t.bit f = s.bit f := fun f hf => by rw [State.bit, hf, State.bit]
    rw [Machine.regionDecide, Machine.regionDecide, ih fun x hx => hl x (List.mem_cons_of_mem _ hx), hon, hbase, hlimit, hparts]
    cases write <;> simp only [if_true, Bool.false_eq_true, if_false, hbit _ hsr, hbit _ hsw, hbit _ hnr, hbit _ hnw]

theorem cadDecide {k : Nat} (hk : k < 65) (at' : Attr) (write : Bool) (a : Nat) :
    Machine.cadDecide t k at' write a = Machine.cadDecide s k at' write a := by
  have hown : regionOwner k < 65 := by
    unfold regionOwner
    split <;> omega
  rw [Machine.cadDecide, Machine.cadDecide, h.regionDecide hown _ _ _ _ fun r hr => List.mem_range.1 hr]

theorem bit {f : Field} (hf : DecidesAccess f) : t.bit f = s.bit f := by rw [State.bit, h.fields f hf, State.bit]

theorem clusterUp {c : Nat} (hc : c < 16) : t.clusterUp c = s.clusterUp c := by
  rw [State.clusterUp, State.clusterUp, State.clusterOn, h.fields _ (by
    simp only [DecidesAccess, Reg.SYS_UNIT_MASK_CLUSTER_EN, Reg.SYS_UNIT_MASK_addr]; omega), State.clusterOn,
    h.powered _ (by unfold clusterDomain; omega) (by unfold clusterDomain; omega)]

theorem groupUsable (g : Nat) : Machine.groupUsable t g = Machine.groupUsable s g := by
  rw [Machine.groupUsable, Machine.groupUsable, h.dram, h.bit (by
    simp only [DecidesAccess, Reg.DDR_CG_CTRL_INLINE_ECC, Reg.DDR_CG_CTRL_addr]; omega)]

theorem target (a : Nat) : t.target a = s.target a := by
  have hpkg : t.get Reg.SYS_STRAP_PKG_ID = s.get Reg.SYS_STRAP_PKG_ID :=
    h.fields _ (by simp only [DecidesAccess, Reg.SYS_STRAP_PKG_ID, Reg.SYS_STRAP_addr]; omega)
  have htile : 0x40000000 ≤ a ∧ a < 0x50000000 →
      t.clusterUp ((a - 0x40000000) / 0x1000000) = s.clusterUp ((a - 0x40000000) / 0x1000000) :=
    fun _ => h.clusterUp (by omega)
  have hbuffer : 0x50000000 ≤ a ∧ a < 0x58000000 →
      t.clusterUp ((a - 0x50000000) / 0x800000) = s.clusterUp ((a - 0x50000000) / 0x800000) :=
    fun _ => h.clusterUp (by omega)
  simp only [State.target, h.groupUsable, hpkg]
  by_cases h1 : 0x40000000 ≤ a ∧ a < 0x50000000
  · simp only [htile h1]
    rw [if_neg (show ¬ (0x50000000 ≤ a ∧ a < 0x58000000) by omega)]
    rw [if_neg (show ¬ (0x50000000 ≤ a ∧ a < 0x58000000) by omega)]
  · by_cases h2 : 0x50000000 ≤ a ∧ a < 0x58000000
    · simp only [hbuffer h2, if_neg h1]
    · simp only [if_neg h1, if_neg h2]

theorem groupAllows (g : Nat) (at' : Attr) (write : Bool) :
    Machine.groupAllows t g at' write = Machine.groupAllows s g at' write := by
  rw [Machine.groupAllows, Machine.groupAllows,
    h.fields _ (by simp only [DecidesAccess, Reg.DDR_CG_CTRL_OWNER, Reg.DDR_CG_CTRL_addr]; omega),
    h.fields _ (by simp only [DecidesAccess, Reg.DDR_CG_SHARE_SHARERS, Reg.DDR_CG_SHARE_addr]; omega)]

theorem inKvArea {a : Nat} : t.inKvArea a = s.inKvArea a := by
  by_cases ha : 0x50000000 ≤ a ∧ a < 0x58000000
  · have hcluster : sramCluster a < 16 := by
      unfold sramCluster
      split <;> omega
    rw [State.inKvArea, State.inKvArea, State.kvCapacity, State.kvCapacity,
      h.fields _ (by simp only [DecidesAccess, Reg.TEN_KV_CACHE_BANKS, Reg.TEN_KV_CACHE_addr]; omega)]
  · have hout : (decide (0x50000000 ≤ a) && decide (a < 0x58000000)) = false := by
      rw [← Bool.decide_and]
      exact decide_eq_false ha
    rw [State.inKvArea, State.inKvArea, hout, Bool.false_and, Bool.false_and]

theorem pcieDown : t.pcieDown = s.pcieDown := by
  rw [State.pcieDown, State.pcieDown, h.link,
    h.fields Reg.SYS_STRAP_PCIE_MODE (by simp only [DecidesAccess, Reg.SYS_STRAP_PCIE_MODE, Reg.SYS_STRAP_addr]; omega),
    h.bit (f := Reg.SYS_STRAP_ERR) (by simp only [DecidesAccess, Reg.SYS_STRAP_ERR, Reg.SYS_STRAP_addr]; omega)]

end SameAccess

end Sys2Proof.Machine

namespace Sys2Proof.Machine
open Sys2Proof Sys2Proof.Safety

/-! # An access that changes nothing has passed its check

In test mode a refused access goes on, but it is logged: the checker has then noted more than before. So an access that
leaves the state as it was has not been refused (R214, R302). -/

/-- The refusals that checker `k` has dropped in this clock. -/
def State.droppedNow (s : State) (k : Nat) : List Dropped :=
  match KMap.find s.worlds.dropped k with
  | some (t, l) => if t = s.datum then l else []
  | none => []

/-- What checker `k` has noted: its log's entries and the refusals dropped in this clock. -/
def State.notedBy (s : State) (k : Nat) : Nat := s.get (Reg.CAD_STATUS_COUNT k) + (s.droppedNow k).length

/-- Every checker has noted at least as much. -/
def NotedLe (s t : State) : Prop := ∀ k, s.notedBy k ≤ t.notedBy k

theorem NotedLe.trans {s t u : State} (h : NotedLe s t) (h' : NotedLe t u) : NotedLe s u := fun k => (h k).trans (h' k)

theorem status_key_ne (k k' : Nat) : k' ≠ k → (Reg.CAD_STATUS_COUNT k').key ≠ (Reg.CAD_STATUS_COUNT k).key := by
  simp only [Field.key, Reg.CAD_STATUS_COUNT, Reg.CAD_STATUS_addr]
  omega

/-- A register that is no count of a checker. -/
def NoCount (f : Field) : Prop := ∀ k, (Reg.CAD_STATUS_COUNT k).key ≠ f.key

theorem State.droppedNow_set (s : State) (f : Field) (v k : Nat) : (s.set f v).droppedNow k = s.droppedNow k := rfl

theorem State.notedBy_set {f : Field} (hf : NoCount f) (s : State) (v k : Nat) : (s.set f v).notedBy k = s.notedBy k := by
  rw [State.notedBy, State.get_set_other _ _ _ _ (hf k)]
  rfl

theorem noCount_log (k i : Nat) : NoCount (Reg.CAD_LOG_REGION k i) ∧ NoCount (Reg.CAD_LOG_WRITE k i) ∧
    NoCount (Reg.CAD_LOG_ATTR k i) ∧ NoCount (Reg.CAD_LOG_ADDR k i) ∧ NoCount (Reg.CAD_LOGTS_TS32 k i) := by
  simp only [NoCount, Field.key, Reg.CAD_STATUS_COUNT, Reg.CAD_STATUS_addr, Reg.CAD_LOG_REGION, Reg.CAD_LOG_WRITE,
    Reg.CAD_LOG_ATTR, Reg.CAD_LOG_ADDR, Reg.CAD_LOGTS_TS32, Reg.CAD_LOG_addr, Reg.CAD_LOGTS_addr]
  refine ⟨fun k' => ?_, fun k' => ?_, fun k' => ?_, fun k' => ?_, fun k' => ?_⟩ <;> omega

theorem noCount_viol (k : Nat) : NoCount (Reg.CAD_VIOL_COUNT k) := by
  simp only [NoCount, Field.key, Reg.CAD_STATUS_COUNT, Reg.CAD_STATUS_addr, Reg.CAD_VIOL_COUNT, Reg.CAD_VIOL_addr]
  omega

theorem noCount_dropped (k : Nat) : NoCount (Reg.CAD_STATUS_DROPPED k) := by
  simp only [NoCount, Field.key, Reg.CAD_STATUS_COUNT, Reg.CAD_STATUS_addr, Reg.CAD_STATUS_DROPPED]
  omega

section
variable (s : State) (k a : Nat) (at' : Attr) (write : Bool) (region : Nat)

/-- A log entry for which there is room. -/
def State.logEntry : State :=
  let i := (s.get (Reg.CAD_STATUS_HEAD k) + s.get (Reg.CAD_STATUS_COUNT k)) % 8
  ((((s.set (Reg.CAD_LOG_REGION k i) region).setBit (Reg.CAD_LOG_WRITE k i) write).set
    (Reg.CAD_LOG_ATTR k i) at'.toNat).set (Reg.CAD_LOG_ADDR k i) a).set (Reg.CAD_LOGTS_TS32 k i) s.ts32

theorem State.cadEntry_room (h : s.get (Reg.CAD_STATUS_COUNT k) < 8) : s.cadEntry k a at' write region =
    (s.logEntry k a at' write region).set (Reg.CAD_STATUS_COUNT k) (s.get (Reg.CAD_STATUS_COUNT k) + 1) := if_pos h

/-- A log entry that is dropped. -/
def State.dropEntry : State :=
  let s' := (s.inc (Reg.CAD_STATUS_DROPPED k)).fbInc 0x60A0 2
  { s' with worlds := { s'.worlds with dropped := KMap.put s'.worlds.dropped k (s'.datum, s.droppedNow k ++ [⟨a, at', write, region⟩]) } }

theorem State.dropEntry_dropped : (s.dropEntry k a at' write region).worlds.dropped =
    KMap.put s.worlds.dropped k (s.datum, s.droppedNow k ++ [⟨a, at', write, region⟩]) := rfl

theorem State.dropEntry_datum : (s.dropEntry k a at' write region).datum = s.datum := rfl

theorem State.dropEntry_count (k' : Nat) :
    (s.dropEntry k a at' write region).get (Reg.CAD_STATUS_COUNT k') = s.get (Reg.CAD_STATUS_COUNT k') :=
  State.get_set_other _ _ _ _ (noCount_dropped k k')

theorem State.cadEntry_full (h : ¬ s.get (Reg.CAD_STATUS_COUNT k) < 8) :
    s.cadEntry k a at' write region = s.dropEntry k a at' write region := (if_neg h).trans rfl

theorem State.notedBy_logEntry (k' : Nat) : (s.logEntry k a at' write region).notedBy k' = s.notedBy k' := by
  obtain ⟨h1, h2, h3, h4, h5⟩ := noCount_log k ((s.get (Reg.CAD_STATUS_HEAD k) + s.get (Reg.CAD_STATUS_COUNT k)) % 8)
  simp only [State.logEntry, State.setBit, State.notedBy_set h1, State.notedBy_set h2, State.notedBy_set h3,
    State.notedBy_set h4, State.notedBy_set h5]

theorem State.notedBy_cadEntry_other {k' : Nat} (hne : k' ≠ k) :
    (s.cadEntry k a at' write region).notedBy k' = s.notedBy k' := by
  by_cases h : s.get (Reg.CAD_STATUS_COUNT k) < 8
  · rw [State.cadEntry_room _ _ _ _ _ _ h, State.notedBy, State.get_set_other _ _ _ _ (status_key_ne k k' hne),
      State.droppedNow_set, ← State.notedBy, State.notedBy_logEntry]
  · have hdropped : (s.dropEntry k a at' write region).droppedNow k' = s.droppedNow k' := by
      rw [State.droppedNow, State.dropEntry_dropped, State.dropEntry_datum, KMap.find_put_other _ _ _ _ hne, State.droppedNow]
    rw [State.cadEntry_full _ _ _ _ _ _ h, State.notedBy, State.dropEntry_count, hdropped, State.notedBy]

theorem State.notedBy_cadEntry_same : s.notedBy k < (s.cadEntry k a at' write region).notedBy k := by
  by_cases h : s.get (Reg.CAD_STATUS_COUNT k) < 8
  · have hroom : s.get (Reg.CAD_STATUS_COUNT k) + 1 < 2 ^ (Reg.CAD_STATUS_COUNT k).width :=
      (Nat.succ_lt_succ h).trans (by simp only [Field.width, Reg.CAD_STATUS_COUNT]; decide)
    have hdropped : (s.logEntry k a at' write region).droppedNow k = s.droppedNow k := rfl
    rw [State.cadEntry_room _ _ _ _ _ _ h, State.notedBy, State.notedBy, State.droppedNow_set, hdropped, State.get_set_lt _ _ _ hroom]
    exact Nat.add_lt_add_right (Nat.lt_succ_self _) _
  · have hdropped : (s.dropEntry k a at' write region).droppedNow k = s.droppedNow k ++ [⟨a, at', write, region⟩] := by
      rw [State.droppedNow, State.dropEntry_dropped, State.dropEntry_datum, KMap.find_put_same]
      exact if_pos rfl
    rw [State.cadEntry_full _ _ _ _ _ _ h, State.notedBy, State.notedBy, State.dropEntry_count, hdropped, List.length_append]
    exact Nat.add_lt_add_left (Nat.lt_succ_self _) _

theorem State.notedBy_cadLog : NotedLe s (s.cadLog k a at' write region) ∧
    s.notedBy k < (s.cadLog k a at' write region).notedBy k := by
  have hviol : ∀ k', ((s.inc (Reg.CAD_VIOL_COUNT k)).fbInc 0x60A0 1).notedBy k' = s.notedBy k' :=
    fun k' => State.notedBy_set (noCount_viol k) s _ k'
  have hsame : s.notedBy k < (s.cadLog k a at' write region).notedBy k :=
    (hviol k).symm.trans_lt (State.notedBy_cadEntry_same _ k a at' write region)
  refine ⟨fun k' => ?_, hsame⟩
  by_cases hne : k' = k
  · rw [hne]
    exact hsame.le
  · exact ((State.notedBy_cadEntry_other _ k a at' write region hne).trans (hviol k')).ge

end

/-! ## What a passed access is -/

/-- One access is allowed, and nothing is in its way. -/
def State.clear (s : State) (at' : Attr) (write : Bool) (a : Nat) : Prop :=
  match s.target a with
  | .hole | .reg => False
  | .rom => at'.secure = true ∧ write = false
  | .dram g c => (cadDecide s c at' write a).1 = true ∧ groupAllows s g at' write = true
  | .sram k => (cadDecide s k at' write a).1 = true ∧ s.inKvArea a = false
  | .pcie => (cadDecide s 42 at' write a).1 = true ∧ s.pcieDown = false

section
variable {s t : State} {at' : Attr} {write : Bool} {a : Nat}

theorem State.cadCheck_allowed {k : Nat} (h : (cadDecide s k at' write a).1 = true) :
    s.cadCheck k at' write a = (true, s) := by
  rw [State.cadCheck]
  rcases hd : cadDecide s k at' write a with ⟨_ | _, region⟩
  · rw [hd] at h
    exact absurd h Bool.false_ne_true
  · rfl

theorem State.reach1_clear (h : s.clear at' write a) : s.reach1 at' write a = (.ok, s) := by
  rw [State.clear] at h
  rw [State.reach1]
  cases htarget : s.target a with
  | hole | reg => rw [htarget] at h; exact h.elim
  | rom =>
    rw [htarget] at h
    obtain ⟨hsecure, hread⟩ := h
    simp only [hsecure, hread, Bool.not_false, Bool.and_self, if_true]
  | dram g c =>
    rw [htarget] at h
    obtain ⟨hdecide, hgroup⟩ := h
    simp only [State.cadCheck_allowed hdecide, hgroup, if_true]
  | sram k =>
    rw [htarget] at h
    obtain ⟨hdecide, hkv⟩ := h
    simp only [State.cadCheck_allowed hdecide, hkv, Bool.false_eq_true, if_false]
  | pcie =>
    rw [htarget] at h
    obtain ⟨hdecide, hup⟩ := h
    simp only [State.cadCheck_allowed hdecide, hup, Bool.false_eq_true, if_false]

/-- A checker passes an access that it allows, or one that it has noted. -/
theorem State.cadCheck_passed {k : Nat} {u : State} (h : s.cadCheck k at' write a = (true, u)) :
    (u = s ∧ (cadDecide s k at' write a).1 = true) ∨ (NotedLe s u ∧ s.notedBy k < u.notedBy k) := by
  rw [State.cadCheck] at h
  rcases hd : cadDecide s k at' write a with ⟨_ | _, region⟩
  · rw [hd] at h
    have hu : s.cadLog k a at' write region = u := congrArg Prod.snd h
    exact .inr (hu ▸ State.notedBy_cadLog s k a at' write region)
  · rw [hd] at h
    exact .inl ⟨(congrArg Prod.snd h).symm, rfl⟩

/-- An access that reaches its target is clear, or its checker has noted it. -/
theorem State.reach1_ok {u : State} (h : s.reach1 at' write a = (.ok, u)) :
    (u = s ∧ s.clear at' write a) ∨ (NotedLe s u ∧ ∃ k, s.notedBy k < u.notedBy k) := by
  rw [State.reach1] at h
  rw [State.clear]
  cases htarget : s.target a with
  | hole | reg => rw [htarget] at h; cases h
  | rom =>
    rw [htarget] at h
    simp only [Prod.mk.injEq] at h
    obtain ⟨hok, hu⟩ := h
    refine .inl ⟨hu.symm, ?_⟩
    by_contra hne
    rw [if_neg (by simpa using hne)] at hok
    cases hok
  | dram g c =>
    simp only [htarget] at h
    rcases hcheck : s.cadCheck c at' write a with ⟨_ | _, v⟩
    · rw [hcheck] at h; cases h
    · simp only [hcheck] at h
      split at h
      · next hgroup =>
        obtain rfl : v = u := congrArg Prod.snd h
        rcases State.cadCheck_passed hcheck with ⟨rfl, hd⟩ | ⟨hle, hlt⟩
        · exact .inl ⟨rfl, hd, hgroup⟩
        · exact .inr ⟨hle, c, hlt⟩
      · cases h
  | sram k =>
    simp only [htarget] at h
    rcases hcheck : s.cadCheck k at' write a with ⟨_ | _, v⟩
    · rw [hcheck] at h; cases h
    · simp only [hcheck, Prod.mk.injEq] at h
      obtain ⟨hok, rfl⟩ := h
      rcases State.cadCheck_passed hcheck with ⟨rfl, hd⟩ | ⟨hle, hlt⟩
      · refine .inl ⟨rfl, hd, ?_⟩
        cases hkv : v.inKvArea a with
        | false => rfl
        | true => rw [hkv] at hok; cases hok
      · exact .inr ⟨hle, k, hlt⟩
  | pcie =>
    simp only [htarget] at h
    rcases hcheck : s.cadCheck 42 at' write a with ⟨_ | _, v⟩
    · rw [hcheck] at h; cases h
    · simp only [hcheck, Prod.mk.injEq] at h
      obtain ⟨hok, rfl⟩ := h
      rcases State.cadCheck_passed hcheck with ⟨rfl, hd⟩ | ⟨hle, hlt⟩
      · refine .inl ⟨rfl, hd, ?_⟩
        cases hup : v.pcieDown with
        | false => rfl
        | true => rw [hup] at hok; cases hok
      · exact .inr ⟨hle, 42, hlt⟩

/-- The accesses of `n` pages from an address are all clear. -/
def State.clearPages (s : State) (at' : Attr) (write : Bool) : Nat → Nat → Prop
  | 0, _ => True
  | n + 1, a => s.clear at' write a ∧ s.clearPages at' write n ((a / 4096 + 1) * 4096)

theorem State.reachPages_clear : ∀ {n a : Nat}, s.clearPages at' write n a → s.reachPages at' write n a = (.ok, s)
  | 0, _, _ => rfl
  | n + 1, a, h => by
    rw [State.reachPages, State.reach1_clear h.1]
    exact State.reachPages_clear h.2

theorem State.reachPages_ok : ∀ {n a : Nat} {s u : State}, s.reachPages at' write n a = (.ok, u) →
    NotedLe s u ∧ ((∃ k, s.notedBy k < u.notedBy k) ∨ (u = s ∧ s.clearPages at' write n a))
  | 0, _, s, u, h => by
    obtain rfl : s = u := congrArg Prod.snd h
    exact ⟨fun _ => le_rfl, .inr ⟨rfl, trivial⟩⟩
  | n + 1, a, s, u, h => by
    rw [State.reachPages] at h
    rcases hr : s.reach1 at' write a with ⟨_ | _ | _ | _, v⟩
    all_goals rw [hr] at h
    · obtain ⟨hle, hrest⟩ := State.reachPages_ok h
      rcases State.reach1_ok hr with ⟨rfl, hclear⟩ | ⟨hle', k, hlt⟩
      · exact ⟨hle, hrest.imp_right fun ⟨hu, hpages⟩ => ⟨hu, hclear, hpages⟩⟩
      · exact ⟨hle'.trans hle, .inl ⟨k, hlt.trans_le (hle k)⟩⟩
    all_goals cases h

/-- Accesses that reach their target and leave the state as it was are clear. -/
theorem State.clearPages_of_reach {n a : Nat} (h : s.reachPages at' write n a = (.ok, s)) : s.clearPages at' write n a := by
  obtain ⟨-, ⟨k, hlt⟩ | ⟨-, hclear⟩⟩ := State.reachPages_ok h
  · exact absurd hlt (lt_irrefl _)
  · exact hclear

theorem State.clearPages_mono : ∀ {n m a : Nat}, n ≤ m → s.clearPages at' write m a → s.clearPages at' write n a
  | 0, _, _, _, _ => trivial
  | n + 1, 0, _, h, _ => absurd h (by omega)
  | n + 1, m + 1, _, h, hc => ⟨hc.1, State.clearPages_mono (Nat.le_of_succ_le_succ h) hc.2⟩

theorem SameAccess.clear (h : SameAccess s t) (hc : s.clear at' write a) : t.clear at' write a := by
  rw [State.clear] at hc ⊢
  rw [h.target]
  cases htarget : s.target a with
  | hole | reg | rom => rw [htarget] at hc; exact hc
  | dram g c =>
    rw [htarget] at hc
    simp only [h.cadDecide ((State.target_dram_lt htarget).trans (by decide)), h.groupAllows]
    exact hc
  | sram k =>
    rw [htarget] at hc
    simp only [h.cadDecide ((State.target_sram_lt htarget).trans (by decide)), h.inKvArea]
    exact hc
  | pcie =>
    rw [htarget] at hc
    simp only [h.cadDecide (show 42 < 65 by decide), h.pcieDown]
    exact hc

theorem SameAccess.clearPages (h : SameAccess s t) : ∀ {n a : Nat}, s.clearPages at' write n a → t.clearPages at' write n a
  | 0, _, _ => trivial
  | _ + 1, _, hc => ⟨h.clear hc.1, h.clearPages hc.2⟩

/-- Accesses that pass in one state pass in every state that agrees in what decides them, and so does a part of them. -/
theorem SameAccess.reach (h : SameAccess s t) {len len' : Nat} (hlen : len ≤ len')
    (hr : s.reach at' write a len' = (.ok, s)) : t.reach at' write a len = (.ok, t) := by
  refine State.reachPages_clear (State.clearPages_mono ?_ (h.clearPages (State.clearPages_of_reach hr)))
  unfold pageCount
  split
  · exact Nat.zero_le _
  · split
    · omega
    · have := Nat.div_le_div_right (c := 4096) (show a + len - 1 ≤ a + len' - 1 by omega)
      omega

end

/-! ## The accesses' own notes decide nothing -/

/-- A register in which an access leaves a note: the checkers' logs, the channel groups' violations and their event. -/
def NotesField (f : Field) : Prop := (0x10300000 ≤ f.addr ∧ f.addr < 0x10400000 ∧ f.lo < 64) ∨
  f = Reg.DDR_EVENTS_VIOL ∨ ∃ g < 12, f = Reg.DDR_CG_VIOL_COUNT g ∨ f = Reg.DDR_CG_VIOL_LAST_PART g

/-- A register in which no access leaves a note. -/
def Unnoted (f : Field) : Prop := ∀ g, NotesField g → f.key ≠ g.key

/-- A register is unnoted by its address and its place there. -/
theorem unnoted_of_addr {f : Field} (hlo : f.lo < 64) (hcad : f.addr < 0x10300000 ∨ 0x10400000 ≤ f.addr)
    (hevent : f.addr ≠ 0x1B000008 ∨ f.lo ≠ 0) (hviol : f.addr < 0x1B000104 ∨ 0x1B0001B4 < f.addr ∨ f.addr % 16 ≠ 4 ∨
      (f.lo ≠ 0 ∧ f.lo ≠ 16)) : Unnoted f := by
  rintro g (⟨hlo', hhi', hg⟩ | rfl | ⟨n, hn, rfl | rfl⟩)
  · simp only [Field.key]
    omega
  · simp only [Field.key, Reg.DDR_EVENTS_VIOL, Reg.DDR_EVENTS_addr]
    omega
  · simp only [Field.key, Reg.DDR_CG_VIOL_COUNT, Reg.DDR_CG_VIOL_addr]
    omega
  · simp only [Field.key, Reg.DDR_CG_VIOL_LAST_PART, Reg.DDR_CG_VIOL_addr]
    omega

/-- A register of another block below the DRAM block. -/
def ElseField (f : Field) : Prop := f.lo < 64 ∧ (f.addr < 0x10300000 ∨ (0x10400000 ≤ f.addr ∧ f.addr < 0x1B000000))

theorem unnoted_of_elseField {f : Field} (h : ElseField f) : Unnoted f := by
  obtain ⟨hlo, haddr⟩ := h
  exact unnoted_of_addr hlo (by omega) (by omega) (by omega)

/-- Accesses have left their notes: the registers of other blocks are the same, and so is what decides accesses. -/
structure Accessed (s t : State) : Prop where
  access : SameAccess s t
  fields : ∀ f, Unnoted f → t.get f = s.get f

theorem State.target_group_lt {s : State} {a g c : Nat} (h : s.target a = .dram g c) : g < 12 := by
  simp only [State.target] at h
  split_ifs at h
  cases h
  omega

namespace Accessed
variable {s t u : State}

theorem refl (s : State) : Accessed s s := ⟨.refl s, fun _ _ => rfl⟩

theorem trans (h : Accessed s t) (h' : Accessed t u) : Accessed s u :=
  ⟨h.access.trans h'.access, fun f hf => (h'.fields f hf).trans (h.fields f hf)⟩

/-- An update of other parts of the state. -/
theorem same (hr : t.regs = s.regs := by rfl) (hg : t.dramGiB = s.dramGiB := by rfl)
    (hl : t.brg.linkDown = s.brg.linkDown := by rfl) (hd : t.datum = s.datum := by rfl)
    (hw : t.worlds.regionWas = s.worlds.regionWas := by rfl) : Accessed s t :=
  ⟨.same hr hg hl hd hw, fun f _ => by rw [State.get, hr, State.get]⟩

theorem set {f : Field} (hf : NoAccess f) (hf' : NotesField f) (s : State) (v : Nat) : Accessed s (s.set f v) :=
  ⟨.set hf s v, fun _ hg => State.get_set_other _ _ _ _ (hg _ hf')⟩

theorem cadEntry {k : Nat} (hk : k < 65) (a : Nat) (at' : Attr) (write : Bool) (region : Nat) :
    Accessed s (s.cadEntry k a at' write region) := by
  have hstatus : ∀ f : Field, f.addr = Reg.CAD_STATUS_addr k → f.lo < 64 → NoAccess f ∧ NotesField f := by
    intro f hf hlo
    simp only [NoAccess, NotesField, hf, hlo, Reg.CAD_STATUS_addr, true_and, and_true]
    omega
  have hmark : ∀ f : Field, f.addr = Reg.CAD_STATUS_addr k → f.lo < 64 → ∀ t v, Accessed t (t.set f v) :=
    fun f hf hlo t v => .set (hstatus f hf hlo).1 (hstatus f hf hlo).2 t v
  by_cases h : s.get (Reg.CAD_STATUS_COUNT k) < 8
  · rw [State.cadEntry_room _ _ _ _ _ _ h]
    refine Accessed.trans ?_ (hmark (Reg.CAD_STATUS_COUNT k) rfl (by simp [Reg.CAD_STATUS_COUNT]) _ _)
    have hi := Nat.mod_lt (s.get (Reg.CAD_STATUS_HEAD k) + s.get (Reg.CAD_STATUS_COUNT k)) (show 0 < 8 by decide)
    simp only [State.logEntry, State.setBit]
    generalize (s.get (Reg.CAD_STATUS_HEAD k) + s.get (Reg.CAD_STATUS_COUNT k)) % 8 = i at hi ⊢
    have hlog : ∀ f : Field, f.addr = Reg.CAD_LOG_addr k i ∨ f.addr = Reg.CAD_LOGTS_addr k i → f.lo < 64 →
        ∀ t v, Accessed t (t.set f v) := by
      intro f hf hlo t v
      simp only [Reg.CAD_LOG_addr, Reg.CAD_LOGTS_addr] at hf
      refine .set ?_ ?_ t v
      · simp only [NoAccess, hlo, true_and]
        omega
      · exact .inl ⟨by omega, by omega, hlo⟩
    refine Accessed.trans ?_ (hlog (Reg.CAD_LOGTS_TS32 k i) (.inr rfl) (by simp [Reg.CAD_LOGTS_TS32]) _ _)
    refine Accessed.trans ?_ (hlog (Reg.CAD_LOG_ADDR k i) (.inl rfl) (by simp [Reg.CAD_LOG_ADDR]) _ _)
    refine Accessed.trans ?_ (hlog (Reg.CAD_LOG_ATTR k i) (.inl rfl) (by simp [Reg.CAD_LOG_ATTR]) _ _)
    refine Accessed.trans ?_ (hlog (Reg.CAD_LOG_WRITE k i) (.inl rfl) (by simp [Reg.CAD_LOG_WRITE]) _ _)
    exact hlog (Reg.CAD_LOG_REGION k i) (.inl rfl) (by simp [Reg.CAD_LOG_REGION]) _ _
  · rw [State.cadEntry_full _ _ _ _ _ _ h]
    exact (hmark (Reg.CAD_STATUS_DROPPED k) rfl (by simp [Reg.CAD_STATUS_DROPPED]) s _).trans .same

theorem cadCheck {k : Nat} (hk : k < 65) (at' : Attr) (write : Bool) (a : Nat) :
    Accessed s (s.cadCheck k at' write a).2 := by
  have hviol : NoAccess (Reg.CAD_VIOL_COUNT k) ∧ NotesField (Reg.CAD_VIOL_COUNT k) := by
    simp only [NoAccess, NotesField, Reg.CAD_VIOL_COUNT, Reg.CAD_VIOL_addr]
    omega
  rw [State.cadCheck]
  rcases Machine.cadDecide s k at' write a with ⟨_ | _, region⟩
  · exact ((Accessed.set hviol.1 hviol.2 s _).trans .same).trans (.cadEntry hk a at' write region)
  · exact .refl s

theorem groupRefuse {g : Nat} (hg : g < 12) (at' : Attr) : Accessed s (s.groupRefuse g at') := by
  have hviol : ∀ f : Field, f.addr = Reg.DDR_CG_VIOL_addr g → f.lo < 64 → NoAccess f := by
    intro f hf hlo
    simp only [NoAccess, hf, hlo, Reg.DDR_CG_VIOL_addr, true_and]
    omega
  have hevent : NoAccess Reg.DDR_EVENTS_VIOL := by
    simp only [NoAccess, Reg.DDR_EVENTS_VIOL, Reg.DDR_EVENTS_addr]
    omega
  exact (((Accessed.set (hviol (Reg.DDR_CG_VIOL_COUNT g) rfl (by simp [Reg.DDR_CG_VIOL_COUNT]))
      (.inr (.inr ⟨g, hg, .inl rfl⟩)) s _).trans
    (.set (hviol (Reg.DDR_CG_VIOL_LAST_PART g) rfl (by simp [Reg.DDR_CG_VIOL_LAST_PART]))
      (.inr (.inr ⟨g, hg, .inr rfl⟩)) _ _)).trans .same).trans (.set hevent (.inr (.inl rfl)) _ _)

theorem reach1 (at' : Attr) (write : Bool) (a : Nat) : Accessed s (s.reach1 at' write a).2 := by
  rw [State.reach1]
  split
  case h_1 | h_2 | h_3 => exact .refl s
  case h_4 g c htarget =>
    have hc := Accessed.cadCheck (s := s) ((State.target_dram_lt htarget).trans (by decide)) at' write a
    revert hc
    rcases s.cadCheck c at' write a with ⟨_ | _, u⟩
    · exact id
    · intro hc
      dsimp only
      split
      · exact hc
      · exact hc.trans (.groupRefuse (State.target_group_lt htarget) _)
  case h_5 k htarget =>
    have hc := Accessed.cadCheck (s := s) ((State.target_sram_lt htarget).trans (by decide)) at' write a
    revert hc
    rcases s.cadCheck k at' write a with ⟨_ | _, u⟩ <;> exact id
  case h_6 =>
    have hc := Accessed.cadCheck (s := s) (k := 42) (by decide) at' write a
    revert hc
    rcases s.cadCheck 42 at' write a with ⟨_ | _, u⟩ <;> exact id

theorem reachPages (at' : Attr) (write : Bool) : ∀ (n : Nat) (s : State) (a : Nat), Accessed s (s.reachPages at' write n a).2
  | 0, s, _ => .refl s
  | n + 1, s, a => by
    have h1 := Accessed.reach1 (s := s) at' write a
    rw [State.reachPages]
    revert h1
    rcases s.reach1 at' write a with ⟨_ | _ | _ | _, u⟩
    · exact fun h1 => h1.trans (Accessed.reachPages at' write n u _)
    all_goals exact id

theorem reach (s : State) (at' : Attr) (write : Bool) (a len : Nat) : Accessed s (s.reach at' write a len).2 :=
  .reachPages at' write _ s a

end Accessed

end Sys2Proof.Machine

namespace Sys2Proof.Machine
open Sys2Proof Sys2Proof.Safety

/-! # The answer to a request of a mailbox (R391–R393, R397) -/

/-! ## Bytes -/

theorem Memory.readBytes_writeBytes (bs : List Nat) (hb : ∀ b ∈ bs, b < 256) : ∀ (m : List Host.Cell) (a : Nat),
    Memory.readBytes (Memory.writeBytes m a bs) a bs.length = bs := by
  induction bs with
  | nil => intros; rfl
  | cons b bs ih =>
    intro m a
    have hhead : (Memory.read (Memory.writeBytes (Memory.write m a (BitVec.ofNat 8 b)) (a + 1) bs) a).toNat = b := by
      rw [Memory.read_writeBytes_outside _ _ _ _ (.inl (Nat.lt_succ_self a)), Memory.read_write_same, BitVec.toNat_ofNat,
        Nat.mod_eq_of_lt (hb b List.mem_cons_self)]
    rw [Memory.writeBytes, List.length_cons, Memory.readBytes, hhead, ih fun x hx => hb x (List.mem_cons_of_mem _ hx)]

theorem State.rd_wr (s : State) (a : Nat) {bs : List Nat} (hb : ∀ b ∈ bs, b < 256) : (s.wr a bs).rd a bs.length = bs :=
  Memory.readBytes_writeBytes bs hb _ _

theorem memKept_wr (s : State) (a n : Nat) {bs : List Nat} (h : bs.length ≤ n) : MemKept a (a + n) s (s.wr a bs) :=
  fun _ ha => Memory.read_writeBytes_outside bs _ _ _ (ha.imp_right fun h' => by omega)

theorem leBytes_length : ∀ n v : Nat, (leBytes n v).length = n
  | 0, _ => rfl
  | n + 1, v => congrArg Nat.succ (leBytes_length n (v / 256))

theorem leBytes_lt : ∀ {n v b : Nat}, b ∈ leBytes n v → b < 256
  | 0, _, _, h => absurd h List.not_mem_nil
  | n + 1, v, b, h => by
    rcases List.mem_cons.1 h with rfl | h
    · exact Nat.mod_lt _ (by decide)
    · exact leBytes_lt h

theorem mbMessage_length (version type flags seq status : Nat) (payload : List Nat) :
    (mbMessage version type flags seq status payload).length = 16 + payload.length := by
  simp only [mbMessage, List.length_append, leBytes_length, List.length_cons, List.length_nil]

theorem mbMessage_lt {version type flags seq status : Nat} {payload : List Nat} (ht : type < 256) (hf : flags < 256)
    (hp : ∀ b ∈ payload, b < 256) : ∀ b ∈ mbMessage version type flags seq status payload, b < 256 := by
  intro b hb
  simp only [mbMessage, List.mem_append, List.mem_cons, List.not_mem_nil, or_false] at hb
  rcases hb with ((((((hb | rfl | rfl) | hb) | hb)) | hb | hb) | hb)
  · exact leBytes_lt hb
  · exact ht
  · exact hf
  · exact leBytes_lt hb
  · exact leBytes_lt hb
  · exact leBytes_lt hb
  · exact leBytes_lt hb
  · exact hp b hb

/-! ## The log of a firmware processor -/

/-- A firmware processor has recorded an event, and may have flushed its records. -/
structure Recorded (s t : State) : Prop where
  accessed : Accessed s t
  rest : t = { s with regs := t.regs, fb := t.fb, worlds := t.worlds, mem := t.mem, unpub := t.unpub, freeCtr := t.freeCtr,
                      fw := { s.fw with logs := t.fw.logs } }

theorem Recorded.refl (s : State) : Recorded s s := ⟨.refl s, rfl⟩

theorem Recorded.trans {s t u : State} (h : Recorded s t) (h' : Recorded t u) : Recorded s u := by
  refine ⟨h.accessed.trans h'.accessed, ?_⟩
  have ht := h.rest
  have hu := h'.rest
  rw [hu, ht]

theorem Recorded.mbx {s t : State} (h : Recorded s t) : t.fw.mbx = s.fw.mbx := by rw [h.rest]

theorem Recorded.pmu {s t : State} (h : Recorded s t) : t.pmu = s.pmu := by rw [h.rest]

theorem recorded_reach (s : State) (at' : Attr) (write : Bool) (a len : Nat) : Recorded s (s.reach at' write a len).2 := by
  refine ⟨.reach s at' write a len, ?_⟩
  have hrest := ((Logged.refl s).reach at' write a len).rest
  generalize (s.reach at' write a len).2 = t at hrest ⊢
  rw [hrest]

theorem recorded_wr (s : State) (a : Nat) (bs : List Nat) : Recorded s (s.wr a bs) := ⟨.same, rfl⟩

theorem recorded_logs (s : State) (l : KMap FwLog) : Recorded s { s with fw := { s.fw with logs := l } } := ⟨.same, rfl⟩

theorem recorded_flushLog (s : State) (n : Nat) : Recorded s (s.flushLog n) := by
  unfold State.flushLog
  refine foldl_inv _ (Recorded s) (List.range (s.fwLogOf n).pending.length) (fun t i _ ht => ?_) _ (recorded_logs s _)
  dsimp only
  have hreach := recorded_reach t ⟨true, 0⟩ true
    (Config.logArea + 65536 * n + 16 * (((s.fwLogOf n).count - (s.fwLogOf n).pending.length + i) % 4096)) 16
  revert hreach
  rcases t.reach ⟨true, 0⟩ true
    (Config.logArea + 65536 * n + 16 * (((s.fwLogOf n).count - (s.fwLogOf n).pending.length + i) % 4096)) 16
    with ⟨_ | _ | _ | _, u⟩
  · exact fun hu => (ht.trans hu).trans (recorded_wr u _ _)
  all_goals exact fun hu => ht.trans hu

theorem recorded_freeNat (s : State) : Recorded s s.freeNat.2 := ⟨.same, rfl⟩

theorem recorded_fwLog (s : State) (n : Nat) : Recorded s (s.fwLog n) := by
  have hdraw : Recorded s s.freeNat.2.freeNat.2.freeNat.2 :=
    ((recorded_freeNat s).trans (recorded_freeNat _)).trans (recorded_freeNat _)
  unfold State.fwLog
  dsimp only
  split
  · exact (hdraw.trans (recorded_logs _ _)).trans (recorded_flushLog _ n)
  · exact hdraw.trans (recorded_logs _ _)

theorem recorded_fbInc (s : State) (i j : Nat) : Recorded s (s.fbInc i j) := ⟨.same, rfl⟩

theorem recorded_mbCount (s : State) (m c : Nat) : Recorded s (s.mbCount m c) := by
  have hcount : Recorded s (if c = Code.eProto then s.fbInc 0x60E0 0xB
      else if c = Code.eVersion then s.fbInc 0x60E0 0xC else s) := by
    split
    · exact recorded_fbInc s _ _
    · split
      · exact recorded_fbInc s _ _
      · exact .refl s
  unfold State.mbCount
  dsimp only
  generalize (if c = Code.eProto then s.fbInc 0x60E0 0xB
      else if c = Code.eVersion then s.fbInc 0x60E0 0xC else s) = u at hcount ⊢
  split
  · exact hcount
  · exact hcount.trans (recorded_fwLog u _)

theorem State.mbCount_ok (s : State) (m : Nat) : s.mbCount m Code.ok = s := rfl

/-! ## The request is passed, the reply written -/

/-- A register of the mailboxes. -/
def MbxField (f : Field) : Prop := 0x1A000000 ≤ f.addr ∧ f.addr < 0x1B000000 ∧ f.lo < 64

theorem noAccess_of_mbxField {f : Field} (h : MbxField f) : NoAccess f := by
  simp only [MbxField, NoAccess] at *
  omega

theorem elseField_of_mbxField {f : Field} (h : MbxField f) : ElseField f := by
  simp only [MbxField, ElseField] at *
  omega

section
variable {m : Nat} (hm : m < 64)
include hm

theorem mbxField_cfg : MbxField (Reg.MBX_MB_CFG_SECURE m) ∧ MbxField (Reg.MBX_MB_CFG_PARTITION m) ∧
    MbxField (Reg.MBX_MB_CFG_LOG2 m) ∧ MbxField (Reg.MBX_MB_RPL_BASE_BASE m) := by
  simp only [MbxField, Reg.MBX_MB_CFG_SECURE, Reg.MBX_MB_CFG_PARTITION, Reg.MBX_MB_CFG_LOG2, Reg.MBX_MB_CFG_addr,
    Reg.MBX_MB_RPL_BASE_BASE, Reg.MBX_MB_RPL_BASE_addr]
  omega

theorem mbxField_ring : MbxField (Reg.MBX_MB_REQ_RPTR_RPTR m) ∧ MbxField (Reg.MBX_MB_RPL_WPTR_WPTR m) ∧
    MbxField (Reg.MBX_MB_STATUS_ATTACHED m) ∧ MbxField (Reg.MBX_MB_VERSION_MAJOR m) ∧ MbxField (Reg.MBX_MB_VERSION_MINOR m) := by
  simp only [MbxField, Reg.MBX_MB_REQ_RPTR_RPTR, Reg.MBX_MB_REQ_RPTR_addr, Reg.MBX_MB_RPL_WPTR_WPTR, Reg.MBX_MB_RPL_WPTR_addr,
    Reg.MBX_MB_STATUS_ATTACHED, Reg.MBX_MB_STATUS_addr, Reg.MBX_MB_VERSION_MAJOR, Reg.MBX_MB_VERSION_MINOR,
    Reg.MBX_MB_VERSION_addr]
  omega

omit hm in
theorem key_ne_rptr : (Reg.MBX_MB_CFG_SECURE m).key ≠ (Reg.MBX_MB_REQ_RPTR_RPTR m).key ∧
    (Reg.MBX_MB_CFG_PARTITION m).key ≠ (Reg.MBX_MB_REQ_RPTR_RPTR m).key ∧
    (Reg.MBX_MB_CFG_LOG2 m).key ≠ (Reg.MBX_MB_REQ_RPTR_RPTR m).key ∧
    (Reg.MBX_MB_RPL_BASE_BASE m).key ≠ (Reg.MBX_MB_REQ_RPTR_RPTR m).key ∧
    (Reg.MBX_MB_RPL_WPTR_WPTR m).key ≠ (Reg.MBX_MB_REQ_RPTR_RPTR m).key := by
  simp only [Field.key, Reg.MBX_MB_CFG_SECURE, Reg.MBX_MB_CFG_PARTITION, Reg.MBX_MB_CFG_LOG2, Reg.MBX_MB_CFG_addr,
    Reg.MBX_MB_RPL_BASE_BASE, Reg.MBX_MB_RPL_BASE_addr, Reg.MBX_MB_RPL_WPTR_WPTR, Reg.MBX_MB_RPL_WPTR_addr,
    Reg.MBX_MB_REQ_RPTR_RPTR, Reg.MBX_MB_REQ_RPTR_addr]
  omega

omit hm in
theorem key_ne_wptr : (Reg.MBX_MB_STATUS_ATTACHED m).key ≠ (Reg.MBX_MB_RPL_WPTR_WPTR m).key ∧
    (Reg.MBX_MB_VERSION_MAJOR m).key ≠ (Reg.MBX_MB_RPL_WPTR_WPTR m).key ∧
    (Reg.MBX_MB_VERSION_MINOR m).key ≠ (Reg.MBX_MB_RPL_WPTR_WPTR m).key ∧
    (Reg.MBX_MB_REQ_RPTR_RPTR m).key ≠ (Reg.MBX_MB_RPL_WPTR_WPTR m).key := by
  simp only [Field.key, Reg.MBX_MB_STATUS_ATTACHED, Reg.MBX_MB_STATUS_addr, Reg.MBX_MB_VERSION_MAJOR, Reg.MBX_MB_VERSION_MINOR,
    Reg.MBX_MB_VERSION_addr, Reg.MBX_MB_RPL_WPTR_WPTR, Reg.MBX_MB_RPL_WPTR_addr, Reg.MBX_MB_REQ_RPTR_RPTR,
    Reg.MBX_MB_REQ_RPTR_addr]
  omega

end

section
variable (s : State) (m : Nat)

/-- RPTR after the request. -/
def State.nextRptr : Nat := (s.get (Reg.MBX_MB_REQ_RPTR_RPTR m) + 1) % s.mbSlots m

theorem State.mbPass_rest : s.mbPass m = { s.set (Reg.MBX_MB_REQ_RPTR_RPTR m) (s.nextRptr m) with
    fw := { s.fw with mbx := (s.mbPass m).fw.mbx } } := by
  unfold State.mbPass
  dsimp only
  split <;> rfl

theorem State.mbPass_notices : ((s.mbPass m).mbox m).notices = (s.mbox m).notices := by
  unfold State.mbPass
  dsimp only
  split
  · simp only [State.mbox, State.setMbox, KMap.getD, KMap.find_put_same]
    rfl
  · rfl

theorem State.raiseEdge_rest (i : Nat) : s.raiseEdge i =
    { s with icnSrc := (s.raiseEdge i).icnSrc, fb := (s.raiseEdge i).fb } := by
  have hedge : ∀ (u : State) (t : Nat), u.edge1 i t = { u with icnSrc := (u.edge1 i t).icnSrc, fb := (u.edge1 i t).fb } := by
    intro u t
    simp only [State.edge1]
    split <;> rfl
  unfold State.raiseEdge
  split
  · refine foldl_inv _ (fun u : State => u = { s with icnSrc := u.icnSrc, fb := u.fb }) (maskBits (s.srcMask i))
      (fun u t _ hu => ?_) s rfl
    have h := hedge u t
    generalize u.edge1 i t = v at h
    rw [h, hu]
  · split <;> rfl

theorem State.raiseEdge_get (i : Nat) (f : Field) : (s.raiseEdge i).get f = s.get f := by
  rw [State.get, State.raiseEdge_rest, State.get]

theorem State.raiseEdge_mem (i : Nat) : (s.raiseEdge i).mem = s.mem := by rw [State.raiseEdge_rest]

theorem State.raiseEdge_pmu (i : Nat) : (s.raiseEdge i).pmu = s.pmu := by rw [State.raiseEdge_rest]

/-- The state with a reply in its slot and the reply ring's WPTR past it. -/
def State.replied (msg : List Nat) : State :=
  ((s.wr (replySlot s m) msg).set (Reg.MBX_MB_RPL_WPTR_WPTR m)
    ((s.get (Reg.MBX_MB_RPL_WPTR_WPTR m) + 1) % s.mbSlots m)).raiseEdge (464 + m)

theorem State.replied_get (msg : List Nat) {f : Field} (h : f.key ≠ (Reg.MBX_MB_RPL_WPTR_WPTR m).key) :
    (s.replied m msg).get f = s.get f := by
  rw [State.replied, State.raiseEdge_get, State.get_set_other _ _ _ _ h]
  rfl

theorem State.replied_wptr (msg : List Nat) : (s.replied m msg).get (Reg.MBX_MB_RPL_WPTR_WPTR m) =
    (s.get (Reg.MBX_MB_RPL_WPTR_WPTR m) + 1) % s.mbSlots m % 256 := by
  rw [State.replied, State.raiseEdge_get, State.get_set_same]
  rfl

theorem State.replied_mem (msg : List Nat) : (s.replied m msg).mem = (s.wr (replySlot s m) msg).mem := by
  rw [State.replied, State.raiseEdge_mem]
  rfl

theorem State.replied_pmu (msg : List Nat) : (s.replied m msg).pmu = s.pmu := by
  rw [State.replied, State.raiseEdge_pmu]
  rfl

theorem State.replied_rd {msg : List Nat} (h : ∀ b ∈ msg, b < 256) :
    (s.replied m msg).rd (replySlot s m) msg.length = msg := by
  rw [State.rd, State.replied_mem]
  exact s.rd_wr _ h

end

section
variable {s u v : State} {m : Nat} {r : MbRequest} {status : Nat} {payload : List Nat}

theorem State.mbReply_replied (hnotices : (s.mbox m).notices = [])
    (hreach : s.reach (s.mbAttr m) true (replySlot s m) (16 + payload.length) = (.ok, s)) :
    s.mbReply m r status payload = s.replied m (mbMessage (s.mbVersion m) r.type 1 r.seq status payload) := by
  have hwrite : s.mbWrite m (mbMessage (s.mbVersion m) r.type 1 r.seq status payload) =
      s.replied m (mbMessage (s.mbVersion m) r.type 1 r.seq status payload) := by
    rw [← mbMessage_length (s.mbVersion m) r.type 1 r.seq status] at hreach
    rw [State.mbWrite]
    rw [replySlot] at hreach
    simp only [hreach]
    rfl
  rw [State.mbReply, hwrite, hnotices]
  rfl

/-- A request of its type, at RPTR and in order, is handed to its handler; then RPTR passes it and the reply is written. -/
theorem State.mbServe_asked {type : Nat} {handler : State → Attr → List Nat → Answer} (hask : Asked s m type r)
    (h : handler s (s.mbAttr m) r.payload = (status, payload, u)) :
    s.mbServe m type handler = ((u.mbCount m status).mbPass m).mbReply m r status payload := by
  obtain ⟨hready, -, hr, htype, hcode, hread, -⟩ := hask
  rw [hr] at h hcode
  have hsame : (s.mbRequest m).type = type := by rw [← hr, htype]
  simp only [State.mbServe, hready, hread, hsame, hcode, h, hr, Bool.not_true, Bool.false_eq_true, if_false, bne_self_eq_false,
    Bool.false_and, ne_eq, not_true]

/-- What a handler leaves for the reply. -/
structure Handled (s u : State) (m : Nat) : Prop where
  access : SameAccess s u
  fields : ∀ f, MbxField f → u.get f = s.get f
  notices : (u.mbox m).notices = (s.mbox m).notices

theorem Handled.refl (s : State) (m : Nat) : Handled s s m := ⟨.refl s, fun _ _ => rfl, rfl⟩

/-- What holds once a request has been answered: the answer, and what its handler has left. -/
structure Served (s u t : State) (m : Nat) (r : MbRequest) (status : Nat) (payload : List Nat) : Prop where
  answered : Answered s t m r status payload
  fields : ∀ f, ElseField f → ¬ MbxField f → t.get f = u.get f
  pmu : t.pmu = u.pmu
  mem : status = Code.ok → MemKept (replySlot s m) (replySlot s m + 256) u t

/-- A register of a mailbox before the reply. -/
theorem State.mbPass_get (m : Nat) {f : Field} (h : f.key ≠ (Reg.MBX_MB_REQ_RPTR_RPTR m).key) :
    (s.mbPass m).get f = s.get f := by
  rw [State.mbPass_rest]
  exact State.get_set_other _ _ _ _ h

theorem State.mbPass_rptr (s : State) (m : Nat) :
    (s.mbPass m).get (Reg.MBX_MB_REQ_RPTR_RPTR m) = s.nextRptr m % 2 ^ (Reg.MBX_MB_REQ_RPTR_RPTR m).width := by
  rw [State.mbPass_rest]
  exact State.get_set_same _ _ _

theorem State.mbPass_mem (s : State) (m : Nat) : (s.mbPass m).mem = s.mem := by
  rw [State.mbPass_rest]
  rfl

theorem State.mbPass_pmu (s : State) (m : Nat) : (s.mbPass m).pmu = s.pmu := by
  rw [State.mbPass_rest]
  rfl

theorem sameAccess_mbPass (s : State) {m : Nat} (hm : m < 64) : SameAccess s (s.mbPass m) := by
  rw [State.mbPass_rest]
  exact (SameAccess.set (noAccess_of_mbxField (mbxField_ring hm).1) s _).trans .same

theorem State.mbVersion_congr {t : State} (m : Nat) (h : ∀ f, f = Reg.MBX_MB_STATUS_ATTACHED m ∨ f = Reg.MBX_MB_VERSION_MAJOR m ∨
    f = Reg.MBX_MB_VERSION_MINOR m → t.get f = s.get f) : t.mbVersion m = s.mbVersion m := by
  rw [State.mbVersion, State.bit, h _ (.inl rfl), h _ (.inr (.inl rfl)), h _ (.inr (.inr rfl)), ← State.bit, ← State.mbVersion]

/-- The request of a mailbox is answered with what its handler gives. -/
theorem served_of_asked {type : Nat} {handler : State → Attr → List Nat → Answer} (hm : m < 64) (hask : Asked s m type r)
    (hh : handler s (s.mbAttr m) r.payload = (status, payload, u)) (hu : Handled s u m) (htype : type < 256)
    (hlen : payload.length ≤ 240) (hbytes : ∀ b ∈ payload, b < 256) :
    Served s u (s.mbServe m type handler) m r status payload := by
  rw [State.mbServe_asked hask hh]
  obtain ⟨-, hnotices, -, hrtype, -, -, hreach⟩ := hask
  have hcount := recorded_mbCount u m status
  have hmem : status = Code.ok → (u.mbCount m status).mem = u.mem := by
    rintro rfl
    rfl
  generalize u.mbCount m status = w at hcount hmem
  obtain ⟨hsecure, hpart, hlog2, hbase⟩ := mbxField_cfg hm
  obtain ⟨hrptr, hwptr, hatt, hmaj, hmin⟩ := mbxField_ring hm
  obtain ⟨nsecure, npart, nlog2, nbase, nwptr⟩ := key_ne_rptr (m := m)
  have hw : ∀ f, MbxField f → w.get f = s.get f :=
    fun f hf => (hcount.accessed.fields f (unnoted_of_elseField (elseField_of_mbxField hf))).trans (hu.fields f hf)
  have hv : ∀ f, MbxField f → f.key ≠ (Reg.MBX_MB_REQ_RPTR_RPTR m).key → (w.mbPass m).get f = s.get f :=
    fun f hf hne => (State.mbPass_get m hne).trans (hw f hf)
  have hslots : (w.mbPass m).mbSlots m = s.mbSlots m ∧ w.mbSlots m = s.mbSlots m := by
    rw [State.mbSlots, State.mbSlots, State.mbSlots, hv _ hlog2 nlog2, hw _ hlog2]
    exact ⟨rfl, rfl⟩
  have hslot : replySlot (w.mbPass m) m = replySlot s m := by
    rw [replySlot, hv _ hbase nbase, hv _ hwptr nwptr, replySlot]
  have hattr : (w.mbPass m).mbAttr m = s.mbAttr m := by
    rw [State.mbAttr, State.bit, hv _ hsecure nsecure, hv _ hpart npart, ← State.bit, ← State.mbAttr]
  have hrptr' : (w.mbPass m).get (Reg.MBX_MB_REQ_RPTR_RPTR m) =
      (s.get (Reg.MBX_MB_REQ_RPTR_RPTR m) + 1) % s.mbSlots m % 256 := by
    rw [State.mbPass_rptr, State.nextRptr, hw _ hrptr, hslots.2]
    rfl
  have hclear : (w.mbPass m).reach ((w.mbPass m).mbAttr m) true (replySlot (w.mbPass m) m) (16 + payload.length) =
      (.ok, w.mbPass m) := by
    rw [hattr, hslot]
    exact ((hu.access.trans hcount.accessed.access).trans (sameAccess_mbPass w hm)).reach (by omega) hreach
  have hquiet : ((w.mbPass m).mbox m).notices = [] := by
    rw [State.mbPass_notices, State.mbox, hcount.mbx, ← State.mbox, hu.notices, hnotices]
  have hother : ∀ f, ElseField f → ¬ MbxField f → (w.mbPass m).get f = u.get f := fun f hf hne =>
    (State.mbPass_get m fun he => hne (by
      have hlo := hf.1
      simp only [MbxField, Field.key, Reg.MBX_MB_REQ_RPTR_RPTR, Reg.MBX_MB_REQ_RPTR_addr] at he ⊢
      omega)).trans (hcount.accessed.fields f (unnoted_of_elseField hf))
  have hpmu : (w.mbPass m).pmu = u.pmu := (w.mbPass_pmu m).trans hcount.pmu
  have hkept : status = Code.ok → (w.mbPass m).mem = u.mem := fun h => (w.mbPass_mem m).trans (hmem h)
  rw [State.mbReply_replied hquiet hclear]
  have hwptr' := hv _ hwptr nwptr
  obtain ⟨natt, nmaj, nmin, nrptr⟩ := key_ne_wptr (m := m)
  have hmsg : ∀ b ∈ mbMessage ((w.mbPass m).mbVersion m) r.type 1 r.seq status payload, b < 256 :=
    mbMessage_lt (hrtype ▸ htype) (by decide) hbytes
  have hmsgLen := mbMessage_length ((w.mbPass m).mbVersion m) r.type 1 r.seq status payload
  generalize w.mbPass m = v at hslots hslot hrptr' hother hpmu hkept hwptr' hmsg hmsgLen ⊢
  have hversion : (v.replied m (mbMessage (v.mbVersion m) r.type 1 r.seq status payload)).mbVersion m = v.mbVersion m := by
    refine State.mbVersion_congr m fun f hf => v.replied_get m _ ?_
    rcases hf with rfl | rfl | rfl
    · exact natt
    · exact nmaj
    · exact nmin
  refine ⟨⟨?_, ?_, ?_⟩, fun f hf hne => ?_, ?_, fun hok => ?_⟩
  · rw [hversion, ← hslot, ← hmsgLen]
    exact v.replied_rd m hmsg
  · rw [v.replied_get m _ nrptr, hrptr']
  · rw [State.replied_wptr, hslots.1, hwptr']
  · refine (v.replied_get m _ fun he => hne ?_).trans (hother f hf hne)
    have hlo := hf.1
    simp only [MbxField, Field.key, Reg.MBX_MB_RPL_WPTR_WPTR, Reg.MBX_MB_RPL_WPTR_addr] at he ⊢
    omega
  · rw [State.replied_pmu, hpmu]
  · intro a ha
    rw [State.replied_mem, hslot, memKept_wr v _ 256 (by omega) a ha, hkept hok]

end

end Sys2Proof.Machine

namespace Sys2Proof.Machine
open Sys2Proof Sys2Proof.Safety

/-! # Requests to the PMU controller (R395, R402, R428, R434) -/

/-! ## One bit of a mask is switched -/

theorem bitOf_eq_testBit (x i : Nat) : bitOf x i = x.testBit i := by
  rw [bitOf, Nat.shiftRight_eq_div_pow, Nat.testBit_eq_decide_div_mod_eq]

/-- A mask of `n` bits with bit `d` switched. -/
def switched (n old d : Nat) (on : Bool) : Nat := if on then old ||| 2 ^ d else old &&& (2 ^ n - 1 - 2 ^ d)

theorem bitOf_switched {n d e : Nat} (old : Nat) (on : Bool) (hd : d < n) (he : e < n) :
    bitOf (switched n old d on % 2 ^ n) e = if e = d then on else bitOf old e := by
  have hpow : 2 ^ d < 2 ^ n := Nat.pow_lt_pow_right (by decide) hd
  have hmask : (2 ^ n - 1 - 2 ^ d).testBit e = !decide (d = e) := by
    rw [Nat.sub_sub, Nat.add_comm, Nat.testBit_two_pow_sub_succ hpow, decide_eq_true he, Nat.testBit_two_pow, Bool.true_and]
  rw [bitOf_eq_testBit, bitOf_eq_testBit, Nat.testBit_mod_two_pow, decide_eq_true he, Bool.true_and, switched]
  cases on with
  | true =>
    rw [if_pos rfl, Nat.testBit_or, Nat.testBit_two_pow]
    by_cases h : e = d
    · simp [h]
    · simp [h, Ne.symm h]
  | false =>
    rw [if_neg Bool.false_ne_true, Nat.testBit_and, hmask]
    by_cases h : e = d
    · simp [h]
    · simp [h, Ne.symm h]

section
variable {s : State}

/-! ## Power domains -/

/-- A domain other than a tensor quadrant's is switched. -/
theorem State.switchDomain_changed {d : Nat} {on : Bool} (hd : d < 4 ∨ 8 ≤ d) (h : s.powered d ≠ on) :
    s.switchDomain d on = s.set Reg.PMU_PD_STATE_PD (switched 20 (s.get Reg.PMU_PD_STATE_PD) d on) := by
  rw [State.switchDomain, if_neg h]
  exact if_neg (by omega)

theorem State.switchDomain_standing {d : Nat} {on : Bool} (h : s.powered d = on) : s.switchDomain d on = s := if_pos h

theorem State.switchDomain_bit {d e : Nat} {on : Bool} (hd : d < 4 ∨ 8 ≤ d) (hd' : d < 20) (he : e < 20) :
    bitOf ((s.switchDomain d on).get Reg.PMU_PD_STATE_PD) e = if e = d then on else bitOf (s.get Reg.PMU_PD_STATE_PD) e := by
  by_cases h : s.powered d = on
  · rw [State.switchDomain_standing h]
    split
    · next hed => rw [hed]; exact h
    · rfl
  · rw [State.switchDomain_changed hd h, State.get_set_same]
    exact bitOf_switched _ on hd' he

theorem handled_switchDomain {d m : Nat} {on : Bool} (hd : d < 4 ∨ 8 ≤ d) (hd' : d < 20) : Handled s (s.switchDomain d on) m := by
  have hpowered : ∀ e, 4 ≤ e → e < 8 → (s.switchDomain d on).powered e = s.powered e := fun e h4 h8 =>
    (State.switchDomain_bit hd hd' (by omega)).trans (if_neg (by omega))
  by_cases h : s.powered d = on
  · rw [State.switchDomain_standing h]
    exact .refl s m
  · rw [State.switchDomain_changed hd h] at hpowered ⊢
    refine ⟨⟨fun f hf => State.get_set_other _ _ _ _ ?_, hpowered, rfl, rfl, rfl, rfl⟩,
      fun f hf => State.get_set_other _ _ _ _ ?_, rfl⟩
    · simp only [DecidesAccess, Field.key, Reg.PMU_PD_STATE_PD, Reg.PMU_PD_STATE_addr] at hf ⊢
      omega
    · simp only [MbxField, Field.key, Reg.PMU_PD_STATE_PD, Reg.PMU_PD_STATE_addr] at hf ⊢
      omega

theorem State.switchDomain_mem {d : Nat} {on : Bool} (hd : d < 4 ∨ 8 ≤ d) : (s.switchDomain d on).mem = s.mem := by
  by_cases h : s.powered d = on
  · rw [State.switchDomain_standing h]
  · rw [State.switchDomain_changed hd h]
    rfl

section
variable {at' : Attr} {pl : List Nat}

theorem State.superUser_secure (h : at'.secure = true) : s.superUser at' = true := by
  rw [State.superUser, h, Bool.true_or]

theorem State.reqPdSet_switch (hsecure : at'.secure = true) (hd : payLe pl 0 4 % 32 ≤ 19)
    (hgated : neverGated (payLe pl 0 4 % 32) = false) :
    s.reqPdSet at' pl = (Code.ok, [], s.switchDomain (payLe pl 0 4 % 32) (bitOf (payLe pl 0 4) 8)) := by
  have hrange : decide (19 < payLe pl 0 4 % 32) = false := decide_eq_false (by omega)
  simp only [State.reqPdSet, firstCode, hrange, State.superUser_secure hsecure, hsecure, hgated, Bool.not_true, Bool.and_false,
    Bool.false_and, Bool.false_eq_true, if_false, if_true]

theorem State.reqPdSet_fixed (hsecure : at'.secure = true) (hgated : neverGated (payLe pl 0 4 % 32) = true)
    (hoff : bitOf (payLe pl 0 4) 8 = false) : s.reqPdSet at' pl = (Code.eState, [], s) := by
  have hrange : decide (19 < payLe pl 0 4 % 32) = false := by
    simp only [neverGated, Bool.or_eq_true, decide_eq_true_eq] at hgated
    exact decide_eq_false (by omega)
  simp only [State.reqPdSet, firstCode, hrange, State.superUser_secure hsecure, hsecure, hgated, hoff, Bool.not_true,
    Bool.not_false, Bool.and_false, Bool.and_true, Bool.false_and, Bool.false_eq_true, if_false, if_true]
  rfl

theorem State.reqPdSet_refused (huser : s.superUser at' = false) (hd : payLe pl 0 4 % 32 ≤ 19) :
    s.reqPdSet at' pl = (Code.eAccess, [], s) := by
  have hrange : decide (19 < payLe pl 0 4 % 32) = false := decide_eq_false (by omega)
  simp only [State.reqPdSet, firstCode, hrange, huser, Bool.not_false, Bool.false_eq_true, if_false, if_true]
  rfl

/-! ## Clocks -/

theorem State.switchClock_eq (n : Nat) (on : Bool) :
    s.switchClock n on = s.set Reg.SYS_CLK_EN_EN (switched 60 (s.get Reg.SYS_CLK_EN_EN) n on) := rfl

theorem State.switchClock_bit {n e : Nat} {on : Bool} (hn : n < 60) (he : e < 60) :
    bitOf ((s.switchClock n on).get Reg.SYS_CLK_EN_EN) e = if e = n then on else bitOf (s.get Reg.SYS_CLK_EN_EN) e := by
  rw [State.switchClock_eq, State.get_set_same]
  exact bitOf_switched _ on hn he

theorem handled_switchClock (n m : Nat) (on : Bool) : Handled s (s.switchClock n on) m := by
  rw [State.switchClock_eq]
  refine ⟨.set ?_ s _, fun f hf => State.get_set_other _ _ _ _ ?_, rfl⟩
  · simp only [NoAccess, Reg.SYS_CLK_EN_EN, Reg.SYS_CLK_EN_addr]
    omega
  · simp only [MbxField, Field.key, Reg.SYS_CLK_EN_EN, Reg.SYS_CLK_EN_addr] at hf ⊢
    omega

theorem State.reqClkSet_switch (hsecure : at'.secure = true) (hn : payLe pl 0 4 % 64 ≤ 59)
    (hfixed : clockFixed (payLe pl 0 4 % 64) = false) :
    s.reqClkSet at' pl = (Code.ok, [], s.switchClock (payLe pl 0 4 % 64) (bitOf (payLe pl 0 4) 8)) := by
  have hrange : decide (59 < payLe pl 0 4 % 64) = false := decide_eq_false (by omega)
  simp only [State.reqClkSet, firstCode, hrange, State.superUser_secure hsecure, hsecure, hfixed, Bool.not_true, Bool.and_false,
    Bool.false_and, Bool.false_eq_true, if_false, if_true]

theorem State.reqClkSet_fixed (hsecure : at'.secure = true) (hfixed : clockFixed (payLe pl 0 4 % 64) = true)
    (hoff : bitOf (payLe pl 0 4) 8 = false) : s.reqClkSet at' pl = (Code.eState, [], s) := by
  have hrange : decide (59 < payLe pl 0 4 % 64) = false := by
    simp only [clockFixed, Bool.or_eq_true, Bool.and_eq_true, decide_eq_true_eq] at hfixed
    exact decide_eq_false (by omega)
  simp only [State.reqClkSet, firstCode, hrange, State.superUser_secure hsecure, hsecure, hfixed, hoff, Bool.not_true,
    Bool.not_false, Bool.and_false, Bool.and_true, Bool.false_and, Bool.false_eq_true, if_false, if_true]
  rfl

/-! ## Sleep -/

/-- The PMU as an entry into a sleep mode begins. -/
def State.sleepPmu (s : State) (mode : Nat) : Pmu :=
  { s.pmu with entering := some mode, wakeHeld := !s.pins.wakeN || s.pmu.wakeAt = some s.datum }

theorem State.reqSleep_entry (hsecure : at'.secure = true) (hrun : s.running = false) (hidle : s.anyAdmitted = false)
    (hawake : s.pmu.entering = none) : s.reqSleep at' pl = (Code.ok, [], s.setPmu (s.sleepPmu (payLe pl 0 4))) := by
  simp only [State.reqSleep, firstCode, State.superUser_secure hsecure, hsecure, hrun, hidle, hawake, Option.isSome_none,
    Bool.not_true, Bool.false_and, Bool.or_self, Bool.false_eq_true, if_false, if_true]
  rfl

theorem State.reqSleep_running (hsecure : at'.secure = true) (hrun : s.running = true) :
    s.reqSleep at' pl = (Code.eState, [], s) := by
  simp only [State.reqSleep, firstCode, State.superUser_secure hsecure, hsecure, hrun, Bool.not_true, Bool.false_and,
    Bool.true_or, Bool.false_eq_true, if_false, if_true]
  rfl

theorem handled_setPmu (p : Pmu) (m : Nat) : Handled s (s.setPmu p) m := ⟨.same, fun _ _ => rfl, rfl⟩

/-! ## Status -/

/-- The payload of POWER_STATUS. -/
def State.powerReport (s : State) : List Nat :=
  leBytes 8 (s.get Reg.PMU_PD_STATE_PD) ++ leBytes 8 (s.get Reg.SYS_CLK_EN_EN) ++ leBytes 8 (s.get Reg.PMU_LEASE_PD_PD) ++
    leBytes 8 (s.get Reg.PMU_LEASE_CLK_CLK) ++ leBytes 4 (s.pmuState + 2 ^ 8 * s.shedLevel + 2 ^ 16 * b2n s.granted) ++
    leBytes 4 (s.fbGet 0x4000 3)

theorem State.reqPowerStatus_eq : s.reqPowerStatus at' pl = (Code.ok, s.powerReport, s) := rfl

theorem State.powerReport_length : s.powerReport.length = 40 := by
  simp only [State.powerReport, List.length_append, leBytes_length]

theorem State.powerReport_lt {b : Nat} (h : b ∈ s.powerReport) : b < 256 := by
  simp only [State.powerReport, List.mem_append] at h
  rcases h with ((((h | h) | h) | h) | h) | h <;> exact leBytes_lt h

end

end

end Sys2Proof.Machine

namespace Sys2Proof.Machine
open Sys2Proof Sys2Proof.Safety

/-! # The watchdogs of the firmware processors (R387–R390) -/

section
variable {s : State}

/-! ## The kick (R388) -/

theorem State.fwKick_own {n : Fin 23} {key : Nat} (hkey : key = 0x5A3C) : s.fwKick (.fw n) n.val key = s.fwRestartCount n.val := by
  simp only [State.fwKick, isFw, decide_true, if_true, hkey]

theorem State.fwKick_other_value {n : Fin 23} {key : Nat} (hkey : key ≠ 0x5A3C) : s.fwKick (.fw n) n.val key = s := by
  simp only [State.fwKick, isFw, decide_true, if_true, if_neg hkey]

theorem State.fwKick_foreign {who : Agent} {n key : Nat} (hn : n < 23) (hwho : isFw n who = false) :
    s.fwKick who n key = s.cadLog 48 (Reg.SYS_FWD_KICK_addr n) (s.attrOf who) true 0x21 := by
  have hchecker : blockChecker (Reg.SYS_FWD_KICK_addr n) = 48 :=
    if_pos (by simp only [Reg.SYS_FWD_KICK_addr]; omega)
  rw [State.fwKick, hwho, hchecker]
  rfl

theorem State.logEntry_region {k a region : Nat} {at' : Attr} {write : Bool} (hregion : region < 64) :
    (s.logEntry k a at' write region).get (Reg.CAD_LOG_REGION k
      ((s.get (Reg.CAD_STATUS_HEAD k) + s.get (Reg.CAD_STATUS_COUNT k)) % 8)) = region := by
  simp only [State.logEntry, State.setBit]
  generalize (s.get (Reg.CAD_STATUS_HEAD k) + s.get (Reg.CAD_STATUS_COUNT k)) % 8 = i
  have hkeys : (Reg.CAD_LOG_REGION k i).key ≠ (Reg.CAD_LOGTS_TS32 k i).key ∧
      (Reg.CAD_LOG_REGION k i).key ≠ (Reg.CAD_LOG_ADDR k i).key ∧
      (Reg.CAD_LOG_REGION k i).key ≠ (Reg.CAD_LOG_ATTR k i).key ∧
      (Reg.CAD_LOG_REGION k i).key ≠ (Reg.CAD_LOG_WRITE k i).key := by
    simp only [Field.key, Reg.CAD_LOG_REGION, Reg.CAD_LOG_ADDR, Reg.CAD_LOG_ATTR, Reg.CAD_LOG_WRITE, Reg.CAD_LOGTS_TS32,
      Reg.CAD_LOG_addr, Reg.CAD_LOGTS_addr]
    omega
  obtain ⟨hts, haddr, hattr, hwrite⟩ := hkeys
  rw [State.get_set_other _ _ _ _ hts, State.get_set_other _ _ _ _ haddr, State.get_set_other _ _ _ _ hattr,
    State.get_set_other _ _ _ _ hwrite, State.get_set_lt _ _ _ hregion]

theorem State.regsOnly_logEntry (k a region : Nat) (at' : Attr) (write : Bool) : RegsOnly s (s.logEntry k a at' write region) :=
  (((((RegsOnly.refl s).set _ _).set _ _).set _ _).set _ _).set _ _

/-- A refusal for which the log has room: what its entry leaves. -/
theorem State.cadEntry_entry {k a region : Nat} {at' : Attr} {write : Bool} (hroom : s.get (Reg.CAD_STATUS_COUNT k) < 8)
    (hregion : region < 64) :
    (s.cadEntry k a at' write region).get (Reg.CAD_STATUS_COUNT k) = s.get (Reg.CAD_STATUS_COUNT k) + 1 ∧
    (s.cadEntry k a at' write region).get (Reg.CAD_LOG_REGION k
      ((s.get (Reg.CAD_STATUS_HEAD k) + s.get (Reg.CAD_STATUS_COUNT k)) % 8)) = region ∧
    RegsOnly s (s.cadEntry k a at' write region) := by
  have hlt : s.get (Reg.CAD_STATUS_COUNT k) + 1 < 2 ^ (Reg.CAD_STATUS_COUNT k).width :=
    (Nat.succ_lt_succ hroom).trans (by simp only [Field.width, Reg.CAD_STATUS_COUNT]; decide)
  have hentry := s.logEntry_region (k := k) (a := a) (at' := at') (write := write) hregion
  have honly := s.regsOnly_logEntry k a region at' write
  rw [State.cadEntry_room _ _ _ _ _ _ hroom]
  generalize s.logEntry k a at' write region = u at hentry honly ⊢
  refine ⟨State.get_set_lt _ _ _ hlt, ?_, honly.set _ _⟩
  rw [State.get_set_other _ _ _ _ ((noCount_log k _).1 k).symm]
  exact hentry

/-- A refusal for which the log has room: it is counted and logged. -/
theorem State.cadLog_room {k a region : Nat} {at' : Attr} {write : Bool} (hroom : s.get (Reg.CAD_STATUS_COUNT k) < 8)
    (hregion : region < 64) :
    (s.cadLog k a at' write region).get (Reg.CAD_STATUS_COUNT k) = s.get (Reg.CAD_STATUS_COUNT k) + 1 ∧
    (s.cadLog k a at' write region).get (Reg.CAD_LOG_REGION k
      ((s.get (Reg.CAD_STATUS_HEAD k) + s.get (Reg.CAD_STATUS_COUNT k)) % 8)) = region ∧
    s.cadLog k a at' write region = { s with regs := (s.cadLog k a at' write region).regs, fb := (s.cadLog k a at' write region).fb } := by
  have hcount : ((s.inc (Reg.CAD_VIOL_COUNT k)).fbInc 0x60A0 1).get (Reg.CAD_STATUS_COUNT k) = s.get (Reg.CAD_STATUS_COUNT k) :=
    State.get_set_other _ _ _ _ (noCount_viol k k)
  have hhead : ((s.inc (Reg.CAD_VIOL_COUNT k)).fbInc 0x60A0 1).get (Reg.CAD_STATUS_HEAD k) = s.get (Reg.CAD_STATUS_HEAD k) :=
    State.get_set_other _ _ _ _ (by
      simp only [Field.key, Reg.CAD_STATUS_HEAD, Reg.CAD_STATUS_addr, Reg.CAD_VIOL_COUNT, Reg.CAD_VIOL_addr]
      omega)
  have hrest : ((s.inc (Reg.CAD_VIOL_COUNT k)).fbInc 0x60A0 1) = { s with
      regs := ((s.inc (Reg.CAD_VIOL_COUNT k)).fbInc 0x60A0 1).regs, fb := ((s.inc (Reg.CAD_VIOL_COUNT k)).fbInc 0x60A0 1).fb } := rfl
  rw [State.cadLog]
  generalize (s.inc (Reg.CAD_VIOL_COUNT k)).fbInc 0x60A0 1 = u at hcount hhead hrest ⊢
  rw [← hcount, ← hhead]
  rw [← hcount] at hroom
  obtain ⟨hnext, hentry, honly⟩ := u.cadEntry_entry (a := a) (at' := at') (write := write) hroom hregion
  generalize u.cadEntry k a at' write region = v at hnext hentry honly ⊢
  refine ⟨hnext, hentry, ?_⟩
  rw [honly, hrest]

/-! ## The expiry (R389) -/

theorem State.fwCounts_running {n : Nat} (h : s.fwCounts n = true) : s.get (Reg.SYS_FWD_STATUS_STATE n) = 0 := by
  simp only [State.fwCounts, Bool.and_eq_true, Bool.not_eq_true', State.fwDown, bne_eq_false_iff_eq] at h
  exact h.2

/-- With nothing at work in the device, an expiry ends at most a journal record in progress. -/
theorem State.fwEnds_idle (heng : s.eng = {}) (htrv : s.trv = {}) (hgfx : s.gfx = {}) (hmed : s.med = {}) (n : Nat) :
    s.fwEnds n = { s with fw := { s.fw with mbx := (s.fwEnds n).fw.mbx }, fba := (s.fwEnds n).fba } := by
  have hkill : ∀ test, s.killFw test = s := fun test => by rw [State.killFw, heng]; rfl
  have hgx : (List.range 32).foldl (fun s x => s.failGfx x Code.eFwWatchdog) s = s := by
    refine foldl_same _ (List.range 32) s fun x _ => ?_
    rw [State.failGfx, State.gx, hgfx]
    rfl
  have hmx : s.failMedia Code.eFwWatchdog = s := by
    have hctx : ∀ x, s.mx x = {} := fun x => by rw [State.mx, hmed]; rfl
    have hcap : ∀ x, s.capSrc x = {} := fun x => by rw [State.capSrc, hmed]; rfl
    have hst : ∀ x, s.stx x = {} := fun x => by rw [State.stx, hmed]; rfl
    unfold State.failMedia
    dsimp only
    rw [foldl_same _ (List.range 64) s fun x _ => by rw [hctx]]
    refine foldl_same _ (List.range 32) s fun x _ => ?_
    have hisp : s.ispFail x Code.eFwWatchdog = s := by rw [State.ispFail, hcap]
    rw [hisp, State.killStaging, hst]
  have hplan : s.replan = s := by rw [State.replan, htrv]
  have hrecord : s.abandonRecord = { s with fw := { s.fw with mbx := s.abandonRecord.fw.mbx }, fba := s.abandonRecord.fba } := by
    unfold State.abandonRecord
    dsimp only
    split
    · split
      · split <;> rfl
      · rfl
    · rfl
  unfold State.fwEnds
  split
  · rw [hkill]
  · split
    · rw [hkill]
    · rw [hkill]
    · rw [hgx]
    · rw [hmx]
    · exact hrecord
    · rw [hplan]
    · rfl

/-- A processor whose buffer is empty records an event without flushing. -/
theorem State.fwLog_few {n : Nat} (h : (s.fwLogOf n).pending = []) : s.fwLog n =
    { s with freeCtr := (s.fwLog n).freeCtr, fw := { s.fw with logs := (s.fwLog n).fw.logs } } := by
  unfold State.fwLog
  have hlen : ¬ 128 ≤ ((s.freeNat.2.freeNat.2.freeNat.2.fwLogOf n).pending ++ [leBytes 4 s.ts32]).length := by
    have hsame : s.freeNat.2.freeNat.2.freeNat.2.fwLogOf n = s.fwLogOf n := rfl
    rw [hsame, h]
    exact of_decide_eq_true rfl
  simp only [List.length_append, List.length_cons, List.length_nil] at hlen ⊢
  rw [if_neg hlen]
  rfl

end

end Sys2Proof.Machine

namespace Sys2Proof.Machine
open Sys2Proof Sys2Proof.Safety

section
variable {s : State}

/-! ## What an expiry leaves (R388) -/

/-- The registers of an expired watchdog: its processor is in restart, the expiry counted. -/
def State.expiryRegs (s : State) (n : Nat) : State :=
  (s.set (Reg.SYS_FWD_STATUS_STATE n) 1).inc (Reg.SYS_FWD_STATUS_EXPIRIES n)

theorem State.expiryRegs_state (n : Nat) : (s.expiryRegs n).get (Reg.SYS_FWD_STATUS_STATE n) = 1 :=
  (State.get_set_other _ _ _ _ (by simp only [Field.key, Reg.SYS_FWD_STATUS_STATE, Reg.SYS_FWD_STATUS_EXPIRIES]; omega)).trans
    (State.get_set_lt _ _ _ (by simp only [Field.width, Reg.SYS_FWD_STATUS_STATE]; decide))

theorem State.expiryRegs_expiries (n : Nat) : (s.expiryRegs n).get (Reg.SYS_FWD_STATUS_EXPIRIES n) =
    satAdd 16 (s.get (Reg.SYS_FWD_STATUS_EXPIRIES n)) 1 := by
  have hkey : (Reg.SYS_FWD_STATUS_EXPIRIES n).key ≠ (Reg.SYS_FWD_STATUS_STATE n).key := by
    simp only [Field.key, Reg.SYS_FWD_STATUS_STATE, Reg.SYS_FWD_STATUS_EXPIRIES]
    omega
  have hget : (s.set (Reg.SYS_FWD_STATUS_STATE n) 1).get (Reg.SYS_FWD_STATUS_EXPIRIES n) =
      s.get (Reg.SYS_FWD_STATUS_EXPIRIES n) := State.get_set_other _ _ _ _ hkey
  have hlt : satAdd 16 (s.get (Reg.SYS_FWD_STATUS_EXPIRIES n)) 1 < 2 ^ 16 :=
    satAdd_lt 16 _ 1
  rw [State.expiryRegs, State.inc, hget]
  exact State.get_set_lt _ _ _ hlt

theorem State.raiseEdge_fbKept (i : Nat) : FbKept [(0x60B0, 2)] s (s.raiseEdge i) := by
  have hedge : ∀ (u : State) (t : Nat), FbKept [(0x60B0, 2)] s u → FbKept [(0x60B0, 2)] s (u.edge1 i t) := by
    intro u t hu
    simp only [State.edge1]
    split
    · exact FbKept.inc (t := u.setSrc i _) hu List.mem_cons_self
    · exact hu
  unfold State.raiseEdge
  split
  · exact foldl_inv _ (FbKept [(0x60B0, 2)] s) (maskBits (s.srcMask i)) (fun u t _ hu => hedge u t hu) s (.refl _ s)
  · split
    · exact FbKept.inc (t := s.setSrc i _) (.refl _ s) List.mem_cons_self
    · exact .refl _ s

/-- An expiry announced: the interrupt source raised, the expiry counted and put out. -/
def State.expiryTold (s : State) (n : Nat) : State :=
  ((s.raiseEdge (704 + n)).fbInc 0x60E0 1).emit (.watchdogExpiry n)

/-- What the announcement of an expiry leaves. -/
structure ExpiryTold (s t : State) : Prop where
  counted : t.fbGet 0x60E0 1 = satAdd 32 (s.fbGet 0x60E0 1) 1
  rest : t = { s with icnSrc := t.icnSrc, fb := t.fb, out := t.out }

theorem State.expiryTold_told (n : Nat) : ExpiryTold s (s.expiryTold n) := by
  have hrest := s.raiseEdge_rest (704 + n)
  have hfb := s.raiseEdge_fbKept (704 + n) 0x60E0 1 (by decide)
  rw [State.expiryTold]
  generalize s.raiseEdge (704 + n) = u at hrest hfb ⊢
  refine ⟨?_, ?_⟩
  · rw [← hfb]
    exact State.fbGet_fbInc_same _ _ _
  · have hcount : (u.fbInc 0x60E0 1).emit (.watchdogExpiry n) =
        { u with fb := (u.fbInc 0x60E0 1).fb, out := u.out ++ [.watchdogExpiry n] } := rfl
    rw [hcount, hrest]

/-- The state of an expiry before what it ends. -/
def State.expiryLogged (s : State) (n : Nat) : State := ((s.expiryRegs n).expiryTold n).fwLog n

/-- An expiry with nothing at work ends nothing but a journal record. -/
structure Expired (s t : State) (n : Nat) : Prop where
  state : t.get (Reg.SYS_FWD_STATUS_STATE n) = 1
  expiries : t.get (Reg.SYS_FWD_STATUS_EXPIRIES n) = satAdd 16 (s.get (Reg.SYS_FWD_STATUS_EXPIRIES n)) 1
  counted : t.fbGet 0x60E0 1 = satAdd 32 (s.fbGet 0x60E0 1) 1
  datum : t.datum = s.datum
  mem : t.mem = s.mem

/-- What the log of an expiry leaves for what follows. -/
structure Idle (s : State) (n : Nat) (t : State) : Prop where
  expired : Expired s t n
  eng : t.eng = {}
  trv : t.trv = {}
  gfx : t.gfx = {}
  med : t.med = {}
  switch : t.fw.switch = none
  times : KMap.getD t.fw.expiries n [] = []

theorem State.expiryLogged_idle {n : Nat} (hlog : (s.fwLogOf n).pending = []) (heng : s.eng = {}) (htrv : s.trv = {})
    (hgfx : s.gfx = {}) (hmed : s.med = {}) (hswitch : s.fw.switch = none) (htimes : KMap.getD s.fw.expiries n [] = []) :
    Idle s n (s.expiryLogged n) := by
  have hstate := s.expiryRegs_state n
  have hexpiries := s.expiryRegs_expiries n
  have hregs : RegsOnly s (s.expiryRegs n) := ((RegsOnly.refl s).set _ _).set _ _
  have hfb : (s.expiryRegs n).fb = s.fb := rfl
  rw [State.expiryLogged]
  generalize s.expiryRegs n = u at hstate hexpiries hregs hfb ⊢
  obtain ⟨hcounted, hrest⟩ := u.expiryTold_told n
  generalize u.expiryTold n = v at hcounted hrest ⊢
  have hregs' : u = { s with regs := u.regs } := hregs
  have hvlog : (v.fwLogOf n).pending = [] := by
    rw [State.fwLogOf, hrest, hregs']
    exact hlog
  have hfew := State.fwLog_few hvlog
  generalize v.fwLog n = w at hfew ⊢
  have hget : ∀ f, w.get f = u.get f := fun f => by rw [State.get, hfew, State.get, hrest]
  refine ⟨⟨(hget _).trans hstate, (hget _).trans hexpiries, ?_, ?_, ?_⟩, ?_, ?_, ?_, ?_, ?_, ?_⟩
  · have hw : w.fbGet 0x60E0 1 = v.fbGet 0x60E0 1 := by rw [State.fbGet, hfew, State.fbGet]
    have hu : u.fbGet 0x60E0 1 = s.fbGet 0x60E0 1 := by rw [State.fbGet, hfb, State.fbGet]
    rw [hw, hcounted, hu]
  · rw [hfew, hrest, hregs']
  · rw [hfew, hrest, hregs']
  · rw [hfew, hrest, hregs', heng]
  · rw [hfew, hrest, hregs', htrv]
  · rw [hfew, hrest, hregs', hgfx]
  · rw [hfew, hrest, hregs', hmed]
  · rw [hfew, hrest, hregs']
    exact hswitch
  · rw [hfew, hrest, hregs']
    exact htimes

/-- The times of the expiries of a processor are kept. -/
def State.withExpiries (s : State) (l : KMap (List Nat)) : State := { s with fw := { s.fw with expiries := l } }

/-- The expiries of a processor within the last minute. -/
def State.lastMinute (s : State) (n : Nat) : List Nat :=
  s.datum :: (KMap.getD s.fw.expiries n []).filter (fun t => decide (s.datum < t + 60000000000))

/-- What follows the announcement of an expiry: what it ends, a firmware switch, the failure, the admission. -/
def State.afterExpiry (s : State) (n : Nat) : State :=
  let u := s.withExpiries (KMap.put s.fw.expiries n (s.lastMinute n))
  let t := u.fwEnds n
  let t := if t.fw.switch.isSome then t.failSwitch.set (Reg.SYS_FWD_STATUS_STATE n) 1 else t
  (if 3 ≤ (s.lastMinute n).length then t.fwFail n else t).readmit u

theorem execFwWatchdogExpiry_stages {n : Fin 23} (hcounts : s.fwCounts n.val = true)
    (htest : s.bit (Reg.SYS_FWD_CTRL_TEST n.val) = false) :
    execFwWatchdogExpiry n s = done (((s.advanceTo (s.fwDue n.val)).expiryLogged n.val).afterExpiry n.val) :=
  if_pos (by rw [hcounts, htest]; rfl)

/-- The first expiry of a processor within a minute, with nothing at work. -/
theorem Idle.afterExpiry {u : State} {n : Nat} (h : Idle s n u) : Expired s (u.afterExpiry n) n := by
  obtain ⟨⟨hstate, hexpiries, hcounted, hdatum, hmem⟩, heng, htrv, hgfx, hmed, hswitch, htimes⟩ := h
  have hone : u.lastMinute n = [u.datum] := by
    rw [State.lastMinute, htimes]
    rfl
  have hends := State.fwEnds_idle (s := u.withExpiries (KMap.put u.fw.expiries n [u.datum])) heng htrv hgfx hmed n
  have hjobs : (u.withExpiries (KMap.put u.fw.expiries n [u.datum])).eng.jobs = [] := by
    rw [State.withExpiries, heng]
  have hreadmit : ∀ t : State, t.readmit (u.withExpiries (KMap.put u.fw.expiries n [u.datum])) = t := fun t => by
    rw [State.readmit, hjobs]
    rfl
  have hafter : u.afterExpiry n = (u.withExpiries (KMap.put u.fw.expiries n [u.datum])).fwEnds n := by
    have hnone : ((u.withExpiries (KMap.put u.fw.expiries n [u.datum])).fwEnds n).fw.switch.isSome = false := by
      rw [hends]
      exact congrArg Option.isSome hswitch
    rw [State.afterExpiry, hone]
    simp only [hnone, Bool.false_eq_true, if_false, List.length_cons, List.length_nil, hreadmit]
    exact if_neg (of_decide_eq_false rfl)
  rw [hafter]
  generalize (u.withExpiries (KMap.put u.fw.expiries n [u.datum])).fwEnds n = t at hends
  have hget : ∀ f, t.get f = u.get f := fun f => by rw [State.get, hends, State.get]; rfl
  refine ⟨(hget _).trans hstate, (hget _).trans hexpiries, ?_, ?_, ?_⟩
  · rw [State.fbGet, hends, ← hcounted]
    rfl
  · rw [hends]
    exact hdatum
  · rw [hends]
    exact hmem

/-- The expiry of a watchdog with nothing at work. -/
theorem does_fwWatchdogExpiry {n : Fin 23} (hcounts : s.fwCounts n.val = true)
    (htest : s.bit (Reg.SYS_FWD_CTRL_TEST n.val) = false) (hlog : (s.fwLogOf n.val).pending = []) (hmed : s.med = {})
    (htimes : KMap.getD s.fw.expiries n.val [] = []) (hswitch : s.fw.switch = none) (heng : s.eng = {}) (htrv : s.trv = {})
    (hgfx : s.gfx = {}) :
    Does (.fwWatchdogExpiry n) s (fun t => t.get (Reg.SYS_FWD_STATUS_STATE n.val) = 1 ∧
    t.get (Reg.SYS_FWD_STATUS_EXPIRIES n.val) = satAdd 16 (s.get (Reg.SYS_FWD_STATUS_EXPIRIES n.val)) 1 ∧
    t.fbGet 0x60E0 1 = satAdd 32 (s.fbGet 0x60E0 1) 1 ∧ s.fwDue n.val ≤ t.datum ∧ t.mem = s.mem) := by
  have hexec := execFwWatchdogExpiry_stages hcounts htest
  have hget : ∀ f, (s.advanceTo (s.fwDue n.val)).get f = s.get f := fun f => s.advanceTo_get _ f
  have hfb : (s.advanceTo (s.fwDue n.val)).fbGet 0x60E0 1 = s.fbGet 0x60E0 1 := s.advanceTo_fbGet _ _ _
  have hfw : (s.advanceTo (s.fwDue n.val)).fw = s.fw := s.advanceTo_fw _
  have hdatum : (s.advanceTo (s.fwDue n.val)).datum = max s.datum (s.fwDue n.val) := s.advanceTo_datum _
  have hmem : (s.advanceTo (s.fwDue n.val)).mem = s.mem := s.advanceTo_mem _
  have hidle : Idle (s.advanceTo (s.fwDue n.val)) n.val ((s.advanceTo (s.fwDue n.val)).expiryLogged n.val) := by
    refine State.expiryLogged_idle ?_ ((s.advanceTo_eng _).trans heng) ((s.advanceTo_trv _).trans htrv)
      ((s.advanceTo_gfx _).trans hgfx) ((s.advanceTo_med _).trans hmed) ?_ ?_
    · rw [State.fwLogOf, hfw]
      exact hlog
    · rw [hfw, hswitch]
    · rw [hfw, htimes]
  obtain ⟨hstate, hexpiries, hcounted, hdatum', hmem'⟩ := hidle.afterExpiry
  generalize s.advanceTo (s.fwDue n.val) = v at *
  generalize (v.expiryLogged n.val).afterExpiry n.val = t at *
  refine ⟨t, hexec, hstate, ?_, ?_, ?_, hmem'.trans hmem⟩
  · rw [hexpiries, hget]
  · rw [hcounted, hfb]
  · rw [hdatum', hdatum]
    exact le_max_right _ _

end

end Sys2Proof.Machine

namespace Sys2Proof.Scope
open Sys2Proof Sys2Proof.Machine Sys2Proof.Safety

section
variable {s : State}

/-- The state of a processor's readiness where no firmware switch is under way. -/
theorem execFwProcessorReady_running {n : Fin 23} (hstate : s.get (Reg.SYS_FWD_STATUS_STATE n.val) = 1) (hn : n.val ≠ 21)
    (hswitch : s.fw.switch = none) :
    execFwProcessorReady n s = done ((s.set (Reg.SYS_FWD_STATUS_STATE n.val) 0).fwRestartCount n.val) := by
  have hready : ∀ t : State, t.fw.switch = none → t.switchReady n.val = t := fun t ht => by rw [State.switchReady, ht]
  have hnone : ((s.set (Reg.SYS_FWD_STATUS_STATE n.val) 0).fwRestartCount n.val).fw.switch = none := hswitch
  simp only [execFwProcessorReady, hstate, ne_eq, not_true_eq_false, if_false, if_neg hn]
  exact congrArg done (hready _ hnone)

/-- A request to the PMU controller of which the status and what its handler leaves are known is answered with them. -/
theorem does_power {c : Instr} {type : Nat} {handler : State → Attr → List Nat → Answer} {m : Fin 64} {status : Nat}
    {payload : List Nat} {u : State} {P : State → Prop}
    (hc : exec c s = done (s.mbServe m.val type handler)) (hask : Asked s m.val type (s.mbRequest m.val))
    (hh : handler s (s.mbAttr m.val) (s.mbRequest m.val).payload = (status, payload, u)) (hu : Handled s u m.val)
    (htype : type < 256) (hlen : payload.length ≤ 240) (hbytes : ∀ b ∈ payload, b < 256)
    (hP : ∀ t, Served s u t m.val (s.mbRequest m.val) status payload → P t) : Does c s P :=
  ⟨_, hc, hP _ (served_of_asked m.isLt hask hh hu htype hlen hbytes)⟩

theorem elseField_pd : ElseField Reg.PMU_PD_STATE_PD ∧ ¬ MbxField Reg.PMU_PD_STATE_PD := by
  simp only [ElseField, MbxField, Reg.PMU_PD_STATE_PD, Reg.PMU_PD_STATE_addr]
  omega

theorem elseField_clk : ElseField Reg.SYS_CLK_EN_EN ∧ ¬ MbxField Reg.SYS_CLK_EN_EN := by
  simp only [ElseField, MbxField, Reg.SYS_CLK_EN_EN, Reg.SYS_CLK_EN_addr]
  omega

end

/-- Settles O56: the watchdogs by the cases of their events, the requests by what each handler answers. -/
theorem firmwareProcessors : Obligations.FirmwareProcessors := by
  have hnone : ∀ b ∈ ([] : List Nat), b < 256 := fun _ hb => absurd hb List.not_mem_nil
  refine ⟨?_, ?_, ?_, ?_, ?_, ?_, ?_, ?_, ?_, ?_, ?_, ?_, ?_, ?_, ?_, ?_⟩
  · rintro who n key s hp rfl rfl
    refine does_gateWrite_eq hp rfl (State.fwKick_own (s := s.answer 0) rfl) ⟨KMap.getD_put_same _ _ _ _, fun m hm => ?_, rfl⟩
    exact KMap.getD_put_other _ _ _ _ _ fun he => hm (Fin.ext he)
  · rintro who n key s hp rfl hkey
    refine does_gateWrite_eq hp rfl (State.fwKick_other_value (s := s.answer 0) fun he => hkey ?_) rfl
    exact BitVec.eq_of_toNat_eq he
  · intro who n key s hp hwho c hroom
    obtain ⟨hcount, hregion, hrest⟩ := State.cadLog_room (s := s.answer 0) (a := Reg.SYS_FWD_KICK_addr n.val)
      (at' := s.attrOf who) (write := true) (region := 0x21) hroom (by decide)
    have hkick := State.fwKick_foreign (s := s.answer 0) n.isLt hwho (key := key.toNat)
    have hattr : (s.answer 0).attrOf who = s.attrOf who := rfl
    rw [hattr] at hkick
    generalize (s.answer 0).cadLog 48 (Reg.SYS_FWD_KICK_addr n.val) (s.attrOf who) true 0x21 = t at hcount hregion hrest hkick
    refine does_gateWrite_eq hp rfl hkick ⟨?_, hcount, hregion, ?_⟩
    · rw [hrest]
      rfl
    · rw [hrest]
      rfl
  · exact fun n s hcounts htest hlog hmed htimes hswitch heng htrv hgfx =>
      does_fwWatchdogExpiry hcounts htest hlog hmed htimes hswitch heng htrv hgfx
  · intro n s hcounts htest
    have hexec : execFwWatchdogTestExpiry n s =
        done (((s.advanceTo (s.fwDue n.val)).set (Reg.SYS_FWD_STATUS_EXPIRED_TEST n.val) 1).fwRestartCount n.val) :=
      if_pos (by rw [hcounts, htest]; rfl)
    have hget : ∀ f, (s.advanceTo (s.fwDue n.val)).get f = s.get f := fun f => s.advanceTo_get _ f
    have hdatum : (s.advanceTo (s.fwDue n.val)).datum = max s.datum (s.fwDue n.val) := s.advanceTo_datum _
    have hfw : (s.advanceTo (s.fwDue n.val)).fw = s.fw := s.advanceTo_fw _
    generalize s.advanceTo (s.fwDue n.val) = v at hexec hget hdatum hfw ⊢
    refine ⟨_, hexec, State.bit_set_same _ _ _, ?_, KMap.getD_put_same _ _ _ _, fun f hf => ?_, ?_⟩
    · exact hdatum ▸ le_max_right _ _
    · exact ((RegsKept.refl _ v).set List.mem_cons_self f hf).trans (hget f)
    · rw [← hfw]
      rfl
  · intro n s htest
    exact ⟨s, if_neg (by rw [htest, Bool.and_false]; exact Bool.false_ne_true), rfl⟩
  · intro n s hstate hn hswitch
    refine ⟨_, execFwProcessorReady_running hstate hn hswitch, State.get_set_lt _ _ _ ?_, KMap.getD_put_same _ _ _ _,
      (RegsKept.refl _ s).set List.mem_cons_self, rfl⟩
    simp only [Field.width, Reg.SYS_FWD_STATUS_STATE]
    decide
  · intro n s hstate
    refine ⟨s, ?_, rfl⟩
    exact if_pos (by rw [hstate]; decide)
  · intro m s r hask hsecure w d hd hgated hquad
    have hlt := Nat.lt_succ_of_le hd
    refine does_power rfl hask (State.reqPdSet_switch hsecure hd hgated) (handled_switchDomain hquad hlt) (by decide)
      (by decide) hnone fun t ht => ⟨rfl, ?_, fun e he => ?_, ht.answered, fun a ha => ?_⟩
    · rw [ht.fields _ elseField_pd.1 elseField_pd.2, State.switchDomain_bit hquad hlt hlt, if_pos rfl]
    · rw [ht.fields _ elseField_pd.1 elseField_pd.2, State.switchDomain_bit hquad hlt e.isLt, if_neg he]
    · rw [ht.mem rfl a ha, State.switchDomain_mem hquad]
  · intro m s r hask hsecure hgated hoff
    exact does_power rfl hask (State.reqPdSet_fixed hsecure hgated hoff) (.refl s m.val) (by decide) (by decide) hnone
      fun t ht => ⟨ht.answered, ht.fields _ elseField_pd.1 elseField_pd.2⟩
  · intro m s r hask huser hd
    exact does_power rfl hask (State.reqPdSet_refused huser hd) (.refl s m.val) (by decide) (by decide) hnone
      fun t ht => ⟨ht.answered, ht.fields _ elseField_pd.1 elseField_pd.2⟩
  · intro m s r hask hsecure w d hd hfixed
    have hlt := Nat.lt_succ_of_le hd
    refine does_power rfl hask (State.reqClkSet_switch hsecure hd hfixed) (handled_switchClock _ m.val _) (by decide)
      (by decide) hnone fun t ht => ⟨?_, fun e he => ?_, ht.answered⟩
    · rw [ht.fields _ elseField_clk.1 elseField_clk.2, State.switchClock_bit hlt hlt, if_pos rfl]
    · rw [ht.fields _ elseField_clk.1 elseField_clk.2, State.switchClock_bit hlt e.isLt, if_neg he]
  · intro m s r hask hsecure hfixed hoff
    exact does_power rfl hask (State.reqClkSet_fixed hsecure hfixed hoff) (.refl s m.val) (by decide) (by decide) hnone
      fun t ht => ⟨ht.answered, ht.fields _ elseField_clk.1 elseField_clk.2⟩
  · intro m s r hask hsecure hrun hidle hawake
    exact does_power rfl hask (State.reqSleep_entry hsecure hrun hidle hawake) (handled_setPmu _ m.val) (by decide) (by decide)
      hnone fun t ht => ⟨ht.pmu, ht.answered⟩
  · intro m s r hask hsecure hrun
    exact does_power rfl hask (State.reqSleep_running hsecure hrun) (.refl s m.val) (by decide) (by decide) hnone
      fun t ht => ⟨ht.pmu, ht.answered⟩
  · intro m s r hask
    exact does_power rfl hask (State.reqPowerStatus_eq) (.refl s m.val) (by decide) (by rw [State.powerReport_length]; decide)
      (fun b => State.powerReport_lt) fun t ht => ⟨ht.answered, ht.mem rfl, ht.pmu⟩

end Sys2Proof.Scope

namespace Sys2Proof.Machine
open Sys2Proof Sys2Proof.Safety

/-! # The registers that records and flows leave (R224, R241, R337)

Accesses leave their notes, and a flow that delivers moves the write pointer of an endpoint: every other register is
spared, a context's of Traverse of any number among them. -/

/-- The registers in which no access leaves a note and that are no endpoint's write pointer are the same. -/
def Spared (s t : State) : Prop :=
  ∀ f, Unnoted f → (∀ e, f.key ≠ (Reg.GWY_EP_RX_WPTR_WPTR e).key) → t.get f = s.get f

section
variable {s t u : State}

theorem Spared.refl (s : State) : Spared s s := fun _ _ _ => rfl

/-- An update of other parts of the state. -/
theorem Spared.same (h : Spared s t) (hr : u.regs = t.regs := by rfl) : Spared s u := fun f hf hrx => by
  rw [State.get, hr, ← State.get, h f hf hrx]

theorem Spared.accessed (h : Spared s t) (ha : Accessed t u) : Spared s u := fun f hf hrx =>
  (ha.fields f hf).trans (h f hf hrx)

theorem Spared.setRx (h : Spared s t) (e v : Nat) : Spared s (t.set (Reg.GWY_EP_RX_WPTR_WPTR e) v) := fun f hf hrx =>
  (State.get_set_other _ _ _ _ (hrx e)).trans (h f hf hrx)

theorem Spared.emit (h : Spared s t) (o : Output) : Spared s (t.emit o) := h.same

theorem Spared.mergeEdge (h : Spared s t) (i b : Nat) : Spared s (t.mergeEdge i b) := h.same

theorem Spared.edge1 (h : Spared s t) (i b : Nat) : Spared s (t.edge1 i b) := by
  simp only [State.edge1]
  split
  · exact h.mergeEdge i b
  · exact h.same

theorem Spared.raiseEdge (h : Spared s t) (i : Nat) : Spared s (t.raiseEdge i) := by
  rw [State.raiseEdge]
  split
  · exact foldl_inv _ (Spared s) _ (fun _ _ _ hu => hu.edge1 _ _) _ h
  · split
    · exact h.mergeEdge _ _
    · exact h.same

/-! ## The gateway's flows -/

theorem Spared.enqueue (h : Spared s t) (i : Nat) (fr : EgFrame) : Spared s (t.enqueue i fr) := by
  simp only [State.enqueue]
  split
  · exact h.same
  · split
    · exact h.same
    · exact h.same

theorem Spared.sendPdu (h : Spared s t) (f : Flow) (v : List Nat) : Spared s (t.sendPdu f v) := by
  unfold State.sendPdu
  split
  · exact h.same
  · simp only
    split
    · exact ((h.same).enqueue _ _).enqueue _ _
    · exact h.enqueue _ _

theorem Spared.deliver (h : Spared s t) (e : Nat) (r : RxRec) : Spared s (t.deliver e r) := by
  unfold State.deliver
  split
  · exact h
  · next p _ =>
    extract_lets n i
    split
    · exact h.same
    · next room data a bytes t' _ =>
      have hreach : Spared s (t'.reach p.owner true a bytes.length).2 :=
        h.same.accessed (.reach t' _ _ _ _)
      revert hreach
      rcases t'.reach p.owner true a bytes.length with ⟨_ | _ | _ | _, u⟩
      · exact fun hu => (Spared.same hu).setRx e _
      all_goals exact id

theorem Spared.emitFlow (h : Spared s t) (f : Flow) : Spared s (t.emitFlow f) := by
  unfold State.emitFlow
  extract_lets v t'
  have ht : Spared s t' := h.same
  split
  · exact ht.deliver _ _
  · split
    · exact ht.same
    · split
      · exact ht.sendPdu _ _
      · exact ht.enqueue _ _

theorem Spared.takeBack (h : Spared s t) (f : Flow) (o : TimerOut) : Spared s (t.takeBack f o) := by
  unfold State.takeBack
  extract_lets t1 t2
  have h1 : Spared s t1 := by
    simp only [t1]
    split
    · exact h.same
    · exact h
  have h2 : Spared s t2 := by
    simp only [t2]
    split
    · exact h1.same
    · exact h1
  split
  · split
    · exact (Spared.same h2).setRx _ _
    · exact h2
  · split
    · exact h2.same
    · exact h2

theorem Spared.flowInput (h : Spared s t) (f : Flow) (v : List Nat) (time iface key0 key1 : Nat) :
    Spared s (t.flowInput f v time iface key0 key1) := by
  unfold State.flowInput
  extract_lets x tooSoon
  split
  · exact h.same
  · split
    · exact h.same
    · next again t1 t2 _ _ _ _ =>
      extract_lets t3
      clear_value again
      have h1 : Spared s t1 := by
        simp only [t1]
        split
        · exact h.takeBack _ _
        · exact h
      have h2 : Spared s t2 := by
        simp only [t2]
        split
        · exact h1.same
        · exact h1
      have h3 : Spared s t3 := h2.same
      split
      · exact (h3.emitFlow f).same
      · exact h3.emitFlow f
      · split
        · exact h3.emitFlow f
        · exact h3

theorem Spared.producerInput (h : Spared s t) (producer flow : Nat) (v : List Nat) :
    Spared s (t.producerInput producer flow v) := by
  simp only [State.producerInput]
  split
  · exact h.flowInput _ _ _ _ _ _
  · exact h

theorem Spared.noticeTraverse (h : Spared s t) (c job status mainAddr plumbAddr : Nat) :
    Spared s (t.noticeTraverse c job status mainAddr plumbAddr) := by
  refine foldl_inv _ (Spared s) _ (fun u r _ hu => ?_) t h
  split
  · exact hu.same
  · exact hu

end

end Sys2Proof.Machine

namespace Sys2Proof.Machine
open Sys2Proof Sys2Proof.Safety

/-! # The stages of a plan (R233, R234, R237–R240) -/

section
variable {s : State} {p : Plan}

/-- Work whose accesses all pass takes place. -/
theorem State.planWith_ok {spans : List Span} {work : State → State} (h : s.reachSpans spans = (Code.ok, s)) :
    s.planWith spans work = work s := by
  rw [State.planWith, h]
  rfl

/-- While a plan is admitted no other is considered. -/
theorem State.admitPlans_running (h : s.trv.plan.isSome = true) : s.admitPlans = s := by
  refine foldl_same _ _ s fun w _ => foldl_same _ _ s fun c _ => ?_
  exact if_pos (.inl h)

/-- What a stage leaves besides the plan, where it writes no register: the time and the registers. -/
structure StageKept (s t : State) : Prop where
  regs : t.regs = s.regs
  datum : t.datum = s.datum

theorem StageKept.refl (s : State) : StageKept s s := ⟨rfl, rfl⟩

theorem StageKept.trans {s t u : State} (h : StageKept s t) (h' : StageKept t u) : StageKept s u :=
  ⟨h'.regs.trans h.regs, h'.datum.trans h.datum⟩

/-! ## The fallback (R238) -/

/-- The fallback stage has ended: the plan's next state. -/
def fallbackPlan (p : Plan) (cs : List (Nat × Nat)) (hit : Bool) : Plan := { p with stage := 1, fallback := cs, fbCollides := hit }

theorem execFallbackDone_go (hp : s.trv.plan = some p) (hstage : p.stage = 0)
    (hreach : s.reachSpans (s.fallbackReads p) = (Code.ok, s)) : ∃ u cs hit,
    execFallbackDone s = done (u.setPlan (some (fallbackPlan p cs hit))) ∧ StageKept s u ∧ u.mem = s.mem := by
  have hend : ∀ (u : State) (cs : List (Nat × Nat)) (hit : Bool),
      (u.setPlan (some (fallbackPlan p cs hit))).admitPlans = u.setPlan (some (fallbackPlan p cs hit)) :=
    fun u cs hit => State.admitPlans_running rfl
  rw [execFallbackDone, hp]
  simp only [hstage, ne_eq, not_true_eq_false, if_false, State.planWith_ok hreach]
  rcases hfirst : s.fallbackOf p (FV.min2 (f32 (nthNat p.req 21)) (s.maxDecel p.ctx p.req)) with ⟨cs, _ | _⟩
  · exact ⟨s, cs, p.fbCollides, congrArg done (hend s cs p.fbCollides), .refl s, rfl⟩
  · rcases hsecond : s.fallbackOf p (s.maxDecel p.ctx p.req) with ⟨cs', _ | _⟩
    · exact ⟨s, cs', false, congrArg done (hend s cs' false), .refl s, rfl⟩
    · exact ⟨s.fbInc 0x6070 0xC, cs', true, congrArg done (hend _ cs' true), ⟨rfl, rfl⟩, rfl⟩

/-! ## The search (R233, R234) -/

theorem State.freeNats_rest : ∀ (n : Nat) (s : State), (s.freeNats n).2 = { s with freeCtr := (s.freeNats n).2.freeCtr }
  | 0, _ => rfl
  | n + 1, s => by
    have h := State.freeNats_rest n s.freeNat.2
    show (s.freeNat.2.freeNats n).2 = { s with freeCtr := (s.freeNat.2.freeNats n).2.freeCtr }
    generalize (s.freeNat.2.freeNats n).2 = t at h ⊢
    rw [h]
    rfl

theorem State.freeNats_length : ∀ (n : Nat) (s : State), (s.freeNats n).1.length = n
  | 0, _ => rfl
  | n + 1, s => congrArg Nat.succ (State.freeNats_length n s.freeNat.2)

theorem length_flatMap_const {α β : Type} (f : α → List β) (n : Nat) (l : List α) (h : ∀ x ∈ l, (f x).length = n) :
    (l.flatMap f).length = n * l.length := by
  induction l with
  | nil => rfl
  | cons x l ih =>
    rw [List.flatMap_cons, List.length_append, h x List.mem_cons_self, ih fun y hy => h y (List.mem_cons_of_mem _ hy),
      List.length_cons, Nat.mul_succ, Nat.add_comm]

theorem memKept_trans {lo hi : Nat} {s t u : State} (h : MemKept lo hi s t) (h' : MemKept lo hi t u) : MemKept lo hi s u :=
  fun a ha => (h' a ha).trans (h a ha)

/-- A write inside a range. -/
theorem memKept_wr_within {lo hi a : Nat} (s : State) {bs : List Nat} (hlo : lo ≤ a) (hhi : a + bs.length ≤ hi) :
    MemKept lo hi s (s.wr a bs) := fun x hx => Memory.read_writeBytes_outside bs _ _ _ (by omega)

/-- Two writes that follow each other: `n` bytes, then others. -/
theorem arenaWrites_kept {u : State} {a n k : Nat} {hd ws : List Nat} (hrest : u = { s with freeCtr := u.freeCtr })
    (hhd : hd.length = n) (hws : ws.length = k) : StageKept s ((u.wr a hd).wr (a + n) ws) ∧
    MemKept a (a + n + k) s ((u.wr a hd).wr (a + n) ws) := by
  have hmem : u.mem = s.mem := by rw [hrest]
  have hregs : u.regs = s.regs := by rw [hrest]
  have hdatum : u.datum = s.datum := by rw [hrest]
  have hkept : MemKept a (a + n + k) u ((u.wr a hd).wr (a + n) ws) :=
    memKept_trans (memKept_wr_within u (Nat.le_refl a) (by omega)) (memKept_wr_within _ (by omega) (by omega))
  exact ⟨⟨hregs, hdatum⟩, fun x hx => (hkept x hx).trans (by rw [hmem])⟩

theorem State.writeArena_kept (s : State) (c : Nat) (g : Grid) (q : Search) : StageKept s (s.writeArena c g q) ∧
    MemKept (s.get (Reg.TRV_CX_ARENA_BASE_BASE c)) (s.get (Reg.TRV_CX_ARENA_BASE_BASE c) + 0x1000 + 256 * (g.w * g.h)) s
      (s.writeArena c g q) := by
  -- The header's length stays a variable: a draw of 4096 free values is not to be unfolded.
  generalize hf : State.writeArena = f
  delta State.writeArena at hf
  subst hf
  generalize 4096 = n
  revert n
  refine id fun n => ?_
  have hrest := State.freeNats_rest n s
  have hhead := State.freeNats_length n s
  refine arenaWrites_kept hrest ((List.length_map _).trans hhead) ?_
  rw [length_flatMap_const _ 4 _ fun _ _ => leBytes_length 4 _, List.length_range]
  omega

theorem State.searchEnv_g (s : State) (p : Plan) : (s.searchEnv p).g = s.planGrid p.ctx p.req := by
  unfold State.searchEnv
  dsimp only

/-- A search that has ended: the plan's next state. -/
def searchedPlan (p : Plan) (repair partially : Bool) (cands : List Cand) (updates outcome : Nat) : Plan :=
  { p with stage := 2, repair := repair, partially := partially, cands := cands, updates := updates, outcome := outcome }

/-- The outcome of a search. -/
def searchOutcome (found deadline : Bool) : Nat := if found then Code.ok else if deadline then Code.noPathInTime else Code.noPath

/-- The state of a search's end, with a delta mismatch counted (R228). -/
def State.searchCounted (s : State) (p : Plan) : State :=
  if rqDelta p.req && s.deltaMismatch p.req (s.searchEnv p).g then s.fbInc 0x6070 0xA else s

/-- The search repairs the arena. -/
def State.searchRepairs (s : State) (p : Plan) : Bool :=
  s.mayRepair p (s.searchEnv p).g && !(rqDelta p.req && s.deltaMismatch p.req (s.searchEnv p).g)

/-- What the search has settled. -/
def State.searchResult (s : State) (p : Plan) (n : Nat) : Search :=
  let e := s.searchEnv p
  let t := s.searchCounted p
  let q := t.searchGo e n (t.searchBegin p e (t.planGoals p e) (s.searchRepairs p))
  if q.complete e then q.trim e else q

/-- The search has settled the start. -/
def State.searchFound (s : State) (p : Plan) (n : Nat) : Bool :=
  (KMap.find (s.searchResult p n).settled (s.searchEnv p).start).isSome

/-- The end of a search: the arena is written, and the plan goes on. -/
theorem State.endSearch_eq (s : State) (p : Plan) (n : Nat) (deadline : Bool) : s.endSearch p n deadline =
    ((((s.searchCounted p).freeNat.2.writeArena p.ctx (s.searchEnv p).g (s.searchResult p n)).setCx p.ctx
      { (s.searchCounted p).freeNat.2.cx p.ctx with source := (s.searchResult p n).source }).setPlan
      (some (searchedPlan p (s.searchRepairs p) (deadline && s.searchFound p n)
        ((s.searchCounted p).candidates (s.searchEnv p) (s.searchResult p n) ((s.searchCounted p).planGoals p (s.searchEnv p))
          (rqNcand p.req)) (s.searchCounted p).freeNat.1 (searchOutcome (s.searchFound p n) deadline)))) := by
  rfl

theorem State.searchCounted_kept (s : State) (p : Plan) : StageKept s (s.searchCounted p) ∧ (s.searchCounted p).mem = s.mem := by
  unfold State.searchCounted
  split
  · exact ⟨⟨rfl, rfl⟩, rfl⟩
  · exact ⟨.refl s, rfl⟩

/-- What the end of a search leaves, given what the writing of the arena leaves. -/
theorem searchEnd_kept {s u v : State} {c : Nat} {x : TrvCtx} {pl : Option Plan} {lo hi : Nat} (hu : StageKept s u)
    (hmem : u.mem = s.mem) (hv : StageKept u v) (harena : MemKept lo hi u v) :
    ((v.setCx c x).setPlan pl).trv.plan = pl ∧ StageKept s ((v.setCx c x).setPlan pl) ∧
      MemKept lo hi s ((v.setCx c x).setPlan pl) :=
  ⟨rfl, hu.trans ⟨hv.regs, hv.datum⟩, fun a ha => (harena a ha).trans (by rw [hmem])⟩

theorem State.searchDrawn_kept (s : State) (p : Plan) :
    StageKept s (s.searchCounted p).freeNat.2 ∧ (s.searchCounted p).freeNat.2.mem = s.mem := by
  obtain ⟨hkept, hmem⟩ := s.searchCounted_kept p
  exact ⟨⟨hkept.regs, hkept.datum⟩, hmem⟩

/-- The bytes of a plan's arena. -/
def arenaEnd (s : State) (p : Plan) : Nat :=
  s.get (Reg.TRV_CX_ARENA_BASE_BASE p.ctx) + 0x1000 + 256 * ((s.planGrid p.ctx p.req).w * (s.planGrid p.ctx p.req).h)

/-- What the end of a search leaves. -/
theorem State.endSearch_kept (s : State) (p : Plan) (n : Nat) (deadline : Bool) :
    (∃ repair found cands updates, (s.endSearch p n deadline).trv.plan =
      some (searchedPlan p repair (deadline && found) cands updates (searchOutcome found deadline))) ∧
    StageKept s (s.endSearch p n deadline) ∧
    MemKept (s.get (Reg.TRV_CX_ARENA_BASE_BASE p.ctx)) (arenaEnd s p) s (s.endSearch p n deadline) := by
  obtain ⟨hkept, hmem⟩ := s.searchDrawn_kept p
  obtain ⟨hstage, harena⟩ := (s.searchCounted p).freeNat.2.writeArena_kept p.ctx (s.searchEnv p).g (s.searchResult p n)
  have hbase : (s.searchCounted p).freeNat.2.get (Reg.TRV_CX_ARENA_BASE_BASE p.ctx) =
      s.get (Reg.TRV_CX_ARENA_BASE_BASE p.ctx) := by
    rw [State.get, hkept.regs, ← State.get]
  rw [hbase, s.searchEnv_g, ← arenaEnd] at harena
  rw [s.searchEnv_g] at hstage
  rw [s.endSearch_eq, s.searchEnv_g]
  obtain ⟨hplan, hkept', hmem'⟩ := searchEnd_kept (c := p.ctx)
    (x := { (s.searchCounted p).freeNat.2.cx p.ctx with source := (s.searchResult p n).source }) hkept hmem hstage harena
  exact ⟨⟨_, _, _, _, hplan⟩, hkept', hmem'⟩

end

end Sys2Proof.Machine

namespace Sys2Proof.Machine
open Sys2Proof Sys2Proof.Safety

section
variable {s u : State} {p : Plan}

/-- The grid of a plan is read from registers and memory. -/
theorem State.planGrid_congr (hregs : u.regs = s.regs) (hmem : u.mem = s.mem) (c : Nat) (ws : List Nat) :
    u.planGrid c ws = s.planGrid c ws := by
  have hget : ∀ f, u.get f = s.get f := fun f => by rw [State.get, hregs, State.get]
  have hrd : ∀ a n, u.rdLe a n = s.rdLe a n := fun a n => by rw [State.rdLe, State.rd, hmem, State.rdLe, State.rd]
  simp only [State.planGrid, State.slotAddr, State.readGrid, hget, hrd]

theorem arenaEnd_congr (hregs : u.regs = s.regs) (hmem : u.mem = s.mem) : arenaEnd u p = arenaEnd s p := by
  rw [arenaEnd, State.planGrid_congr hregs hmem, State.get, hregs, ← State.get, arenaEnd]

/-! ## The end of the search (R234) -/

theorem State.endSearch_admitPlans (s : State) (p : Plan) (n : Nat) (deadline : Bool) :
    (s.endSearch p n deadline).admitPlans = s.endSearch p n deadline := by
  obtain ⟨⟨repair, found, cands, updates, hplan⟩, -⟩ := s.endSearch_kept p n deadline
  exact State.admitPlans_running (by rw [hplan]; rfl)

theorem execSearchEnd_go (hp : s.trv.plan = some p) (hstage : p.stage = 1)
    (hreach : s.reachSpans (s.searchSpans p) = (Code.ok, s)) : execSearchEnd s =
      done (s.endSearch p ((s.planGrid p.ctx p.req).w * (s.planGrid p.ctx p.req).h * 64 + 1) false) := by
  rw [execSearchEnd, hp]
  simp only [hstage, ne_eq, not_true_eq_false, if_false, State.planWith_ok hreach, State.endSearch_admitPlans]

theorem execSearchDeadline_go {n : Nat} (hp : s.trv.plan = some p) (hstage : p.stage = 1)
    (hdraw : (s.advanceTo (planSearchDeadline p)).freeNat = (n, u))
    (hreach : u.reachSpans (u.searchSpans p) = (Code.ok, u)) : execSearchDeadline s = done (u.endSearch p n true) := by
  rw [execSearchDeadline, hp]
  simp only [hstage, ne_eq, not_true_eq_false, if_false, hdraw, State.planWith_ok hreach, State.endSearch_admitPlans]

/-- The time of a stage's deadline, with free values drawn: the registers and memory stand. -/
structure Waited (s : State) (n : Nat) (u : State) : Prop where
  regs : u.regs = s.regs
  mem : u.mem = s.mem
  datum : u.datum = max s.datum n

theorem waited_advanceTo (s : State) (n : Nat) : Waited s n (s.advanceTo n) := ⟨s.advanceTo_regs n, s.advanceTo_mem n, s.advanceTo_datum n⟩

theorem Waited.freeNat {n : Nat} (h : Waited s n u) : Waited s n u.freeNat.2 := ⟨h.regs, h.mem, h.datum⟩

/-! ## The output stage (R237, R239, R240) -/

/-- Checks leave registers, memory and the time. -/
structure CheckKept (s t : State) : Prop where
  regs : t.regs = s.regs
  mem : t.mem = s.mem
  datum : t.datum = s.datum

theorem CheckKept.refl (s : State) : CheckKept s s := ⟨rfl, rfl, rfl⟩

theorem CheckKept.trans {s t u : State} (h : CheckKept s t) (h' : CheckKept t u) : CheckKept s u :=
  ⟨h'.regs.trans h.regs, h'.mem.trans h.mem, h'.datum.trans h.datum⟩

theorem checked_count (s : State) (b : Bool) (i j : Nat) : CheckKept s (if b then s else s.fbInc i j) := by
  cases b
  · exact ⟨rfl, rfl, rfl⟩
  · exact .refl s

theorem checked_countIf (s : State) (b : Bool) (i j : Nat) : CheckKept s (if b then s.fbInc i j else s) := by
  cases b
  · exact .refl s
  · exact ⟨rfl, rfl, rfl⟩

/-- The candidates' checks: as many candidates as before, and a rank of one of them unless one had passed. -/
theorem State.checkCands_spec (p : Plan) (g : Grid) : ∀ (cs : List Cand) (s : State) (i : Nat) (pub : Option Nat),
    (s.checkCands p g cs i pub).1.1.length = cs.length ∧
    ((s.checkCands p g cs i pub).1.2.1 = pub ∨ ∃ j < i + cs.length, (s.checkCands p g cs i pub).1.2.1 = some j) ∧
    CheckKept s (s.checkCands p g cs i pub).2
  | [], s, i, pub => ⟨rfl, .inl rfl, .refl s⟩
  | c :: cs, s, i, pub => by
    by_cases hskip : pub.isSome = true ∨ c.fate = 1
    · obtain ⟨hlen, hrank, hkept⟩ := State.checkCands_spec p g cs s (i + 1) pub
      rw [State.checkCands]
      simp only [hskip, if_true]
      generalize s.checkCands p g cs (i + 1) pub = r at hlen hrank hkept ⊢
      obtain ⟨⟨l, r, n⟩, t⟩ := r
      refine ⟨congrArg Nat.succ hlen, hrank.imp_right fun ⟨j, hj, hr⟩ => ⟨j, ?_, hr⟩, hkept⟩
      rw [List.length_cons]
      omega
    · rw [State.checkCands]
      simp only [if_neg hskip]
      rcases s.checkBoth g (rqUnk p.req) (s.get (Reg.TRV_CX_FOOT_BASE_BASE p.ctx)) (rqDt p.req) (startPose p.req) c.controls
        with ⟨m, q, out⟩
      dsimp only
      generalize (m.isNone && q.isNone && !out) = pass
      have hfirst := checked_count s pass 0x6070 6
      generalize (if pass = true then s else s.fbInc 0x6070 6) = t at hfirst ⊢
      have hsecond := hfirst.trans (checked_countIf t (m.isSome != q.isSome) 0x6070 8)
      generalize (if (m.isSome != q.isSome) = true then t.fbInc 0x6070 8 else t) = v at hsecond ⊢
      obtain ⟨hlen, hrank, hkept⟩ := State.checkCands_spec p g cs v (i + 1) (if pass then some i else none)
      generalize v.checkCands p g cs (i + 1) (if pass then some i else none) = r at hlen hrank hkept ⊢
      obtain ⟨⟨l, r, n⟩, w⟩ := r
      refine ⟨congrArg Nat.succ hlen, ?_, hsecond.trans hkept⟩
      rw [List.length_cons]
      have hpub : pub = none := by
        rw [not_or, Bool.not_eq_true, Option.isSome_eq_false_iff, Option.isNone_iff_eq_none] at hskip
        exact hskip.1
      rcases hrank with hr | ⟨j, hj, hr⟩
      · cases pass with
        | true => exact .inr ⟨i, by omega, hr⟩
        | false => exact .inl (hr.trans hpub.symm)
      · exact .inr ⟨j, by omega, hr⟩

theorem State.optimise_length (s : State) (p : Plan) (n : Nat) (cut : Option Nat) : (s.optimise p n cut).length = p.cands.length := by
  simp only [State.optimise, List.length_map, List.length_zip, List.length_range, min_self]

/-- What the output stage leaves: the plan's next state, and the latest slot held. -/
structure OutputDone (s : State) (p : Plan) (t : State) : Prop where
  plan : ∃ q, t.trv.plan = some q ∧ q.stage = 3 ∧ q.ctx = p.ctx ∧ q.cands.length = p.cands.length ∧ q.req = p.req ∧
    q.fallback = p.fallback ∧ (q.rank = 15 ∨ q.rank < q.cands.length)
  hold : t.get (Reg.TRV_Q_HOLD_HOLD p.ctx) = 2 ^ rqSlot p.req ||| 2 ^ s.get (Reg.TRV_Q_LATEST_SLOT p.ctx)
  fields : RegsKept [Reg.TRV_Q_HOLD_HOLD p.ctx] s t
  mem : t.mem = s.mem
  datum : t.datum = s.datum

theorem rqSlot_lt (ws : List Nat) : rqSlot ws < 4 := by
  unfold rqSlot rq bitsOf
  exact Nat.mod_lt _ (by decide)

theorem slots_lt {i j : Nat} (hi : i < 4) (hj : j < 4) : 2 ^ i ||| 2 ^ j < 2 ^ 4 :=
  Nat.or_lt_two_pow (Nat.pow_lt_pow_right (by decide) hi) (Nat.pow_lt_pow_right (by decide) hj)

theorem State.outputChecks_done (s : State) (p : Plan) (n : Nat) (cut : Option Nat) : OutputDone s p (s.outputChecks p n cut) := by
  have hlatest : s.get (Reg.TRV_Q_LATEST_SLOT p.ctx) < 4 := s.get_lt _
  have hhold : (s.set (Reg.TRV_Q_HOLD_HOLD p.ctx) (2 ^ rqSlot p.req ||| 2 ^ s.get (Reg.TRV_Q_LATEST_SLOT p.ctx))).get
      (Reg.TRV_Q_HOLD_HOLD p.ctx) = 2 ^ rqSlot p.req ||| 2 ^ s.get (Reg.TRV_Q_LATEST_SLOT p.ctx) :=
    State.get_set_lt _ _ _ (slots_lt (rqSlot_lt p.req) hlatest)
  have hfields := (RegsKept.refl [Reg.TRV_Q_HOLD_HOLD p.ctx] s).set (v := 2 ^ rqSlot p.req ||| 2 ^ s.get (Reg.TRV_Q_LATEST_SLOT p.ctx))
    List.mem_cons_self
  have hmem : (s.set (Reg.TRV_Q_HOLD_HOLD p.ctx) (2 ^ rqSlot p.req ||| 2 ^ s.get (Reg.TRV_Q_LATEST_SLOT p.ctx))).mem = s.mem := rfl
  have hdatum : (s.set (Reg.TRV_Q_HOLD_HOLD p.ctx) (2 ^ rqSlot p.req ||| 2 ^ s.get (Reg.TRV_Q_LATEST_SLOT p.ctx))).datum = s.datum := rfl
  rw [State.outputChecks]
  generalize s.set (Reg.TRV_Q_HOLD_HOLD p.ctx) (2 ^ rqSlot p.req ||| 2 ^ s.get (Reg.TRV_Q_LATEST_SLOT p.ctx)) = t at hhold hfields hmem hdatum ⊢
  have hlen := t.optimise_length p n cut
  obtain ⟨hcands, hrank, hkept⟩ := State.checkCands_spec p (s.checkGrid p) (t.optimise p n cut) t 0 none
  generalize t.optimise p n cut = cs at hlen hcands hrank hkept ⊢
  dsimp only
  rcases t.checkBoth (s.checkGrid p) (rqUnk p.req) (t.get (Reg.TRV_CX_FOOT_BASE_BASE p.ctx)) (rqDt p.req) (startPose p.req) p.fallback
    with ⟨m, q, out⟩
  generalize t.checkCands p (s.checkGrid p) cs 0 none = r at hcands hrank hkept ⊢
  obtain ⟨⟨cands, rank, inv⟩, v⟩ := r
  have hget : ∀ f, v.get f = t.get f := fun f => by rw [State.get, hkept.regs, State.get]
  refine ⟨⟨_, rfl, rfl, rfl, hcands.trans hlen, rfl, rfl, ?_⟩, (hget _).trans hhold, fun f hf => (hget f).trans (hfields f hf),
    hkept.mem.trans hmem, hkept.datum.trans hdatum⟩
  rcases hrank with hr | ⟨j, hj, hr⟩
  · exact .inl (congrArg (·.getD 15) hr)
  · refine .inr ?_
    have hj' : j < cands.length := by
      have : cands.length = cs.length := hcands
      omega
    exact (congrArg (·.getD 15) hr).trans_lt hj'

theorem OutputDone.admitPlans {t : State} (h : OutputDone s p t) : t.admitPlans = t := by
  obtain ⟨q, hq, -⟩ := h.plan
  exact State.admitPlans_running (by rw [hq]; rfl)

theorem State.outputStage_ok {n : Nat} {cut : Option Nat} (hreach : s.reachSpans (s.outputReads p) = (Code.ok, s)) :
    s.outputStage p n cut = s.outputChecks p n cut := State.planWith_ok hreach

theorem execOptimisationEnd_go (hp : s.trv.plan = some p) (hstage : p.stage = 2)
    (hreach : s.reachSpans (s.outputReads p) = (Code.ok, s)) :
    execOptimisationEnd s = done (s.outputChecks p p.cands.length none) := by
  rw [execOptimisationEnd, hp]
  simp only [hstage, if_true, State.outputStage_ok hreach, (s.outputChecks_done p p.cands.length none).admitPlans]

theorem execOptimisationDeadline_go {n x : Nat} {v : State} (hp : s.trv.plan = some p) (hstage : p.stage = 2)
    (hdraw : (s.advanceTo (planOptDeadline p)).freeNat = (n, v)) (hdraw' : v.freeNat = (x, u))
    (hreach : u.reachSpans (u.outputReads p) = (Code.ok, u)) :
    execOptimisationDeadline s = done (u.outputChecks p n (some x)) := by
  rw [execOptimisationDeadline, hp]
  simp only [hstage, ne_eq, not_true_eq_false, if_false, hdraw, hdraw', State.outputStage_ok hreach,
    (u.outputChecks_done p n (some x)).admitPlans]

end

end Sys2Proof.Machine

namespace Sys2Proof.Machine
open Sys2Proof Sys2Proof.Safety

/-! # Completion records of plans (R241, R448) -/

/-! ## A context's registers, of any number -/

section
variable (c : Nat)

theorem unnoted_queue : Unnoted (Reg.TRV_Q_RPTR_RPTR c) ∧ Unnoted (Reg.TRV_Q_HOLD_HOLD c) ∧ Unnoted (Reg.TRV_Q_STATUS_RUNNING c) ∧
    Unnoted (Reg.TRV_Q_STATUS_PUB c) ∧ Unnoted (Reg.TRV_Q_SEQ_SEQ c) := by
  refine ⟨?_, ?_, ?_, ?_, ?_⟩ <;> refine unnoted_of_addr ?_ ?_ ?_ ?_ <;>
    simp only [Reg.TRV_Q_RPTR_RPTR, Reg.TRV_Q_RPTR_addr, Reg.TRV_Q_HOLD_HOLD, Reg.TRV_Q_HOLD_addr, Reg.TRV_Q_STATUS_RUNNING,
      Reg.TRV_Q_STATUS_PUB, Reg.TRV_Q_STATUS_addr, Reg.TRV_Q_SEQ_SEQ, Reg.TRV_Q_SEQ_addr] <;> omega

theorem unnoted_context : Unnoted (Reg.TRV_CX_REQ_SIZE_LOG2 c) ∧ Unnoted (Reg.TRV_CX_FLOW_FLOW_EN c) := by
  refine ⟨?_, ?_⟩ <;> refine unnoted_of_addr ?_ ?_ ?_ ?_ <;>
    simp only [Reg.TRV_CX_REQ_SIZE_LOG2, Reg.TRV_CX_REQ_SIZE_addr, Reg.TRV_CX_FLOW_FLOW_EN, Reg.TRV_CX_FLOW_addr] <;> omega

/-- A register that a record's writing may set. -/
def RecordField (f : Field) : Prop :=
  f.key = (Reg.TRV_Q_CPL_WPTR_CPL_WPTR c).key ∨ f.key = (Reg.TRV_Q_STATUS_LAST c).key

theorem not_recordField_queue : ¬ RecordField c (Reg.TRV_Q_RPTR_RPTR c) ∧ ¬ RecordField c (Reg.TRV_Q_HOLD_HOLD c) ∧
    ¬ RecordField c (Reg.TRV_Q_STATUS_RUNNING c) ∧ ¬ RecordField c (Reg.TRV_Q_STATUS_PUB c) ∧
    ¬ RecordField c (Reg.TRV_Q_SEQ_SEQ c) := by
  simp only [RecordField, Field.key, Reg.TRV_Q_RPTR_RPTR, Reg.TRV_Q_RPTR_addr, Reg.TRV_Q_HOLD_HOLD, Reg.TRV_Q_HOLD_addr,
    Reg.TRV_Q_STATUS_RUNNING, Reg.TRV_Q_STATUS_PUB, Reg.TRV_Q_STATUS_LAST, Reg.TRV_Q_STATUS_addr, Reg.TRV_Q_SEQ_SEQ,
    Reg.TRV_Q_SEQ_addr, Reg.TRV_Q_CPL_WPTR_CPL_WPTR, Reg.TRV_Q_CPL_WPTR_addr]
  omega

theorem not_recordField_context : ¬ RecordField c (Reg.TRV_CX_REQ_SIZE_LOG2 c) ∧ ¬ RecordField c (Reg.TRV_CX_FLOW_FLOW_EN c) := by
  simp only [RecordField, Field.key, Reg.TRV_CX_REQ_SIZE_LOG2, Reg.TRV_CX_REQ_SIZE_addr, Reg.TRV_CX_FLOW_FLOW_EN,
    Reg.TRV_CX_FLOW_addr, Reg.TRV_Q_STATUS_LAST, Reg.TRV_Q_STATUS_addr, Reg.TRV_Q_CPL_WPTR_CPL_WPTR, Reg.TRV_Q_CPL_WPTR_addr]
  omega

/-- No endpoint's write pointer is a register of a context's queue but its request pointers. -/
theorem rx_key_ne (e : Nat) : (Reg.TRV_Q_STATUS_RUNNING c).key ≠ (Reg.GWY_EP_RX_WPTR_WPTR e).key ∧
    (Reg.TRV_Q_SEQ_SEQ c).key ≠ (Reg.GWY_EP_RX_WPTR_WPTR e).key := by
  simp only [Field.key, Reg.TRV_Q_STATUS_RUNNING, Reg.TRV_Q_STATUS_addr, Reg.TRV_Q_SEQ_SEQ, Reg.TRV_Q_SEQ_addr,
    Reg.GWY_EP_RX_WPTR_WPTR, Reg.GWY_EP_RX_WPTR_addr]
  omega

end

theorem PlanRec.bytes_length (r : PlanRec) (now : Nat) : (r.bytes now).length = 32 := by
  simp only [PlanRec.bytes, List.length_append, leBytes_length]

/-! ## The record -/

/-- Where a context's next completion record goes. -/
def State.recordAddr (s : State) (c : Nat) : Nat :=
  s.get (Reg.TRV_CX_CPL_BASE_BASE c) + 32 * s.get (Reg.TRV_Q_CPL_WPTR_CPL_WPTR c)

/-- The record written, or refused. -/
def State.recordWritten (s : State) (c : Nat) (r : PlanRec) : State :=
  match s.reach (s.cxAttr c) true (s.recordAddr c) 32 with
  | (.ok, t) => ((t.wr (s.recordAddr c) (r.bytes s.ts32)).set (Reg.TRV_Q_CPL_WPTR_CPL_WPTR c)
      ((s.get (Reg.TRV_Q_CPL_WPTR_CPL_WPTR c) + 1) % 2 ^ t.get (Reg.TRV_CX_CPL_SIZE_CLOG2 c))).raiseEdge (264 + c)
  | (_, t) => (t.setCx c { t.cx c with stopped := true }).set (Reg.TRV_Q_STATUS_LAST c) Code.eAccess

theorem State.planRecord_eq (s : State) (c : Nat) (r : PlanRec) : s.planRecord c r =
    if (s.recordWritten c r).bit (Reg.TRV_CX_FLOW_FLOW_EN c) then
      ((s.recordWritten c r).emit (.flowRecord ((s.recordWritten c r).get (Reg.TRV_CX_FLOW_FLOW c)) (r.bytes s.ts32))).producerInput 2
        ((s.recordWritten c r).get (Reg.TRV_CX_FLOW_FLOW c)) (r.bytes s.ts32)
    else s.recordWritten c r := by
  unfold State.planRecord State.recordWritten State.recordAddr
  rfl

/-- What the writing of a record leaves. -/
structure RecordLeft (s t : State) (c : Nat) : Prop where
  plan : t.trv.plan = s.trv.plan
  arena : (t.cx c).arena = (s.cx c).arena
  mer : t.mer = s.mer
  datum : t.datum = s.datum
  mem : MemKept (s.recordAddr c) (s.recordAddr c + 32) s t
  fields : ∀ f, Unnoted f → ¬ RecordField c f → t.get f = s.get f

theorem recordLeft_recordWritten (s : State) (c : Nat) (r : PlanRec) : RecordLeft s (s.recordWritten c r) c := by
  have hreach := (Accessed.reach s (s.cxAttr c) true (s.recordAddr c) 32).fields
  have hrest := ((Logged.refl s).reach (s.cxAttr c) true (s.recordAddr c) 32).rest
  unfold State.recordWritten
  generalize s.reach (s.cxAttr c) true (s.recordAddr c) 32 = q at hreach hrest ⊢
  obtain ⟨code, t⟩ := q
  dsimp only at hreach hrest
  have htrv : t.trv = s.trv := by rw [hrest]
  have hmer : t.mer = s.mer := by rw [hrest]
  have hdatum : t.datum = s.datum := by rw [hrest]
  have hmem : t.mem = s.mem := by rw [hrest]
  have hrefused : RecordLeft s ((t.setCx c { t.cx c with stopped := true }).set (Reg.TRV_Q_STATUS_LAST c) Code.eAccess) c := by
    refine ⟨?_, ?_, hmer, hdatum, fun a _ => ?_, fun f hf hr => ?_⟩
    · show t.trv.plan = _
      rw [htrv]
    · have hcx : ((t.setCx c { t.cx c with stopped := true }).set (Reg.TRV_Q_STATUS_LAST c) Code.eAccess).cx c =
          { t.cx c with stopped := true } := State.cx_setCx _ _ _
      rw [hcx, State.cx, htrv, ← State.cx]
    · show Memory.read t.mem a = _
      rw [hmem]
    · exact (State.get_set_other _ _ _ _ fun he => hr (.inr he)).trans (hreach f hf)
  cases code with
  | ok =>
    dsimp only
    have hbytes := r.bytes_length s.ts32
    generalize r.bytes s.ts32 = bs at hbytes ⊢
    generalize (s.get (Reg.TRV_Q_CPL_WPTR_CPL_WPTR c) + 1) % 2 ^ t.get (Reg.TRV_CX_CPL_SIZE_CLOG2 c) = x
    have hedge := ((t.wr (s.recordAddr c) bs).set (Reg.TRV_Q_CPL_WPTR_CPL_WPTR c) x).raiseEdge_rest (264 + c)
    generalize ((t.wr (s.recordAddr c) bs).set (Reg.TRV_Q_CPL_WPTR_CPL_WPTR c) x).raiseEdge (264 + c) = v at hedge ⊢
    have hwritten := memKept_wr t (s.recordAddr c) 32 hbytes.le
    refine ⟨?_, ?_, ?_, ?_, fun a ha => ?_, fun f hf hr => ?_⟩
    · rw [hedge, ← htrv]
      rfl
    · rw [State.cx, hedge, State.cx, ← htrv]
      rfl
    · rw [hedge, ← hmer]
      rfl
    · rw [hedge, ← hdatum]
      rfl
    · rw [hedge, ← hmem]
      exact hwritten a ha
    · rw [State.get, hedge]
      exact (State.get_set_other _ _ _ _ fun he => hr (.inl he)).trans (hreach f hf)
  | hole => exact hrefused
  | refused => exact hrefused
  | link => exact hrefused

/-- A record of a context that sends none on a flow. -/
theorem recordLeft_planRecord {s : State} {c : Nat} (r : PlanRec) (hflow : s.bit (Reg.TRV_CX_FLOW_FLOW_EN c) = false) :
    RecordLeft s (s.planRecord c r) c := by
  have h := recordLeft_recordWritten s c r
  have hoff : (s.recordWritten c r).bit (Reg.TRV_CX_FLOW_FLOW_EN c) = false :=
    (bit_of_get (h.fields _ (unnoted_context c).2 (not_recordField_context c).2)).trans hflow
  rw [State.planRecord_eq, if_neg (by rw [hoff]; exact Bool.false_ne_true)]
  exact h

theorem State.noticeTraverse_rest (s : State) (c job status mainAddr plumbAddr : Nat) :
    s.noticeTraverse c job status mainAddr plumbAddr =
      { s with saf := (s.noticeTraverse c job status mainAddr plumbAddr).saf } := by
  refine foldl_inv _ (fun t : State => t = { s with saf := t.saf }) s.cloRecords (fun t r _ ht => ?_) s rfl
  split
  · have hnote : (t.noteMain r ⟨job, status, mainAddr⟩).notePlumb r ⟨job, status, plumbAddr⟩ =
        { t with saf := ((t.noteMain r ⟨job, status, mainAddr⟩).notePlumb r ⟨job, status, plumbAddr⟩).saf } := rfl
    generalize (t.noteMain r ⟨job, status, mainAddr⟩).notePlumb r ⟨job, status, plumbAddr⟩ = v at hnote ⊢
    rw [hnote, ht]
  · exact ht

theorem State.planNotice_rest (s : State) (c tag status bank : Nat) :
    s.planNotice c tag status bank = { s with saf := (s.planNotice c tag status bank).saf } := s.noticeTraverse_rest _ _ _ _ _

end Sys2Proof.Machine

namespace Sys2Proof.Machine
open Sys2Proof Sys2Proof.Safety

/-! # The end of a request (R241, R243) -/

section
variable {s : State} {c : Nat}

/-- The state after a request's record, the ring's step and the notice. -/
def State.requestEnded (s : State) (c : Nat) (r : PlanRec) (tag status bank : Nat) : State :=
  ((s.planRecord c r).nextRequest c).planNotice c tag status bank

theorem State.failRecord_eq (s : State) (c status : Nat) (ws : List Nat) (p : Option Plan) :
    ∃ r tag bank, s.failRecord c status ws p = s.freeNat.2.freeNat.2.freeNat.2.requestEnded c r tag status bank := by
  unfold State.failRecord State.requestEnded
  exact ⟨_, _, _, rfl⟩

theorem rptr_key_ne (c : Nat) : (Reg.TRV_Q_HOLD_HOLD c).key ≠ (Reg.TRV_Q_RPTR_RPTR c).key ∧
    (Reg.TRV_Q_STATUS_PUB c).key ≠ (Reg.TRV_Q_RPTR_RPTR c).key ∧ (Reg.TRV_Q_SEQ_SEQ c).key ≠ (Reg.TRV_Q_RPTR_RPTR c).key := by
  simp only [Field.key, Reg.TRV_Q_RPTR_RPTR, Reg.TRV_Q_RPTR_addr, Reg.TRV_Q_HOLD_HOLD, Reg.TRV_Q_HOLD_addr,
    Reg.TRV_Q_STATUS_PUB, Reg.TRV_Q_STATUS_addr, Reg.TRV_Q_SEQ_SEQ, Reg.TRV_Q_SEQ_addr]
  omega

/-- What the end of a request leaves, where the context sends no record on a flow. -/
structure RequestLeft (s t : State) (c : Nat) : Prop where
  plan : t.trv.plan = s.trv.plan
  mer : t.mer = s.mer
  datum : t.datum = s.datum
  mem : MemKept (s.recordAddr c) (s.recordAddr c + 32) s t
  rptr : t.get (Reg.TRV_Q_RPTR_RPTR c) = (s.get (Reg.TRV_Q_RPTR_RPTR c) + 1) % 2 ^ s.get (Reg.TRV_CX_REQ_SIZE_LOG2 c) %
    2 ^ (Reg.TRV_Q_RPTR_RPTR c).width
  fields : ∀ f, Unnoted f → ¬ RecordField c f → f.key ≠ (Reg.TRV_Q_RPTR_RPTR c).key → t.get f = s.get f

theorem requestLeft_requestEnded (r : PlanRec) (tag status bank : Nat) (hflow : s.bit (Reg.TRV_CX_FLOW_FLOW_EN c) = false) :
    RequestLeft s (s.requestEnded c r tag status bank) c := by
  have h := recordLeft_planRecord r hflow
  have hrptr := h.fields _ (unnoted_queue c).1 (not_recordField_queue c).1
  have hsize := h.fields _ (unnoted_context c).1 (not_recordField_context c).1
  unfold State.requestEnded
  generalize s.planRecord c r = t at h hrptr hsize ⊢
  have hnotice := (t.nextRequest c).planNotice_rest c tag status bank
  generalize (t.nextRequest c).planNotice c tag status bank = v at hnotice ⊢
  have hget : ∀ f, v.get f = (t.nextRequest c).get f := fun f => by rw [hnotice]; rfl
  refine ⟨?_, ?_, ?_, fun a ha => ?_, ?_, fun f hf hr hne => ?_⟩
  · rw [hnotice]
    exact h.plan
  · rw [hnotice]
    exact h.mer
  · rw [hnotice]
    exact h.datum
  · rw [hnotice]
    exact h.mem a ha
  · rw [hget, State.nextRequest, State.get_set_same, hrptr, hsize]
  · rw [hget, State.nextRequest, State.get_set_other _ _ _ _ hne, h.fields f hf hr]

/-- A draw of a free value is nothing to a request. -/
theorem RequestLeft.drawn {t : State} (h : RequestLeft s.freeNat.2 t c) : RequestLeft s t c :=
  ⟨h.plan, h.mer, h.datum, h.mem, h.rptr, h.fields⟩

theorem requestLeft_failRecord (status : Nat) (ws : List Nat) (p : Option Plan) (hflow : s.bit (Reg.TRV_CX_FLOW_FLOW_EN c) = false) :
    RequestLeft s (s.failRecord c status ws p) c := by
  obtain ⟨r, tag, bank, hend⟩ := s.failRecord_eq c status ws p
  have hflow' : s.freeNat.2.freeNat.2.freeNat.2.bit (Reg.TRV_CX_FLOW_FLOW_EN c) = false := hflow
  have hleft := requestLeft_requestEnded r tag status bank hflow'
  rw [← hend] at hleft
  exact hleft.drawn.drawn.drawn

/-! ## A killed plan (R243) -/

/-- What a record leaves of the plan, on a flow or not. -/
structure PlanLeft (s t : State) (c : Nat) : Prop where
  plan : t.trv.plan = s.trv.plan
  arena : (t.cx c).arena = (s.cx c).arena
  mer : t.mer = s.mer
  running : t.get (Reg.TRV_Q_STATUS_RUNNING c) = s.get (Reg.TRV_Q_STATUS_RUNNING c)
  seq : t.get (Reg.TRV_Q_SEQ_SEQ c) = s.get (Reg.TRV_Q_SEQ_SEQ c)

theorem PlanLeft.trans {t u : State} (h : PlanLeft s t c) (h' : PlanLeft t u c) : PlanLeft s u c :=
  ⟨h'.plan.trans h.plan, h'.arena.trans h.arena, h'.mer.trans h.mer, h'.running.trans h.running, h'.seq.trans h.seq⟩

theorem planLeft_recordWritten (s : State) (c : Nat) (r : PlanRec) : PlanLeft s (s.recordWritten c r) c := by
  have h := recordLeft_recordWritten s c r
  obtain ⟨-, -, hrunning, -, hseq⟩ := unnoted_queue c
  obtain ⟨-, -, hrunning', -, hseq'⟩ := not_recordField_queue c
  exact ⟨h.plan, h.arena, h.mer, h.fields _ hrunning hrunning', h.fields _ hseq hseq'⟩

theorem planLeft_sent (s : State) (c : Nat) (o : Output) (flow : Nat) (v : List Nat) :
    PlanLeft s ((s.emit o).producerInput 2 flow v) c := by
  have hbeside : Beside s ((s.emit o).producerInput 2 flow v) := ((Beside.refl s).emit o).producerInput 2 flow v
  have hspared : Spared s ((s.emit o).producerInput 2 flow v) := ((Spared.refl s).emit o).producerInput 2 flow v
  obtain ⟨-, -, hrunning, -, hseq⟩ := unnoted_queue c
  generalize (s.emit o).producerInput 2 flow v = t at hbeside hspared ⊢
  refine ⟨by rw [hbeside.trv], ?_, hbeside.mer, hspared _ hrunning fun e => (rx_key_ne c e).1, hspared _ hseq fun e => (rx_key_ne c e).2⟩
  rw [State.cx, hbeside.trv, ← State.cx]

theorem planLeft_planRecord (s : State) (c : Nat) (r : PlanRec) : PlanLeft s (s.planRecord c r) c := by
  rw [State.planRecord_eq]
  split
  · exact (planLeft_recordWritten s c r).trans (planLeft_sent _ c _ _ _)
  · exact planLeft_recordWritten s c r

theorem planLeft_failRecord (s : State) (c status : Nat) (ws : List Nat) (p : Option Plan) :
    PlanLeft s (s.failRecord c status ws p) c := by
  obtain ⟨r, tag, bank, hend⟩ := s.failRecord_eq c status ws p
  have hdrawn : PlanLeft s s.freeNat.2.freeNat.2.freeNat.2 c := ⟨rfl, rfl, rfl, rfl, rfl⟩
  rw [hend, State.requestEnded]
  generalize s.freeNat.2.freeNat.2.freeNat.2 = u at hdrawn ⊢
  have hrecord := planLeft_planRecord u c r
  generalize u.planRecord c r = t at hrecord ⊢
  have hstep : PlanLeft t (t.nextRequest c) c :=
    ⟨rfl, rfl, rfl, State.get_set_other _ _ _ _ (running_key_ne_rptr c), State.get_set_other _ _ _ _ (rptr_key_ne c).2.2⟩
  generalize t.nextRequest c = w at hstep ⊢
  have hnotice := w.planNotice_rest c tag status bank
  generalize w.planNotice c tag status bank = v at hnotice ⊢
  have hlast : PlanLeft w v c := by
    rw [hnotice]
    exact ⟨rfl, rfl, rfl, rfl, rfl⟩
  exact ((hdrawn.trans hrecord).trans hstep).trans hlast

theorem seq_key_ne (c : Nat) : (Reg.TRV_Q_SEQ_SEQ c).key ≠ (Reg.TRV_Q_HOLD_HOLD c).key ∧
    (Reg.TRV_Q_SEQ_SEQ c).key ≠ (Reg.TRV_Q_STATUS_RUNNING c).key := by
  simp only [Field.key, Reg.TRV_Q_SEQ_SEQ, Reg.TRV_Q_SEQ_addr, Reg.TRV_Q_HOLD_HOLD, Reg.TRV_Q_HOLD_addr,
    Reg.TRV_Q_STATUS_RUNNING, Reg.TRV_Q_STATUS_addr]
  omega

/-- What a killed plan leaves. -/
theorem State.killPlan_left {p : Plan} (hp : s.trv.plan = some p) (code : Nat) : (s.killPlan code).trv.plan = none ∧
    ((s.killPlan code).cx p.ctx).arena = none ∧ (s.killPlan code).mer = s.mer ∧
    (s.killPlan code).get (Reg.TRV_Q_STATUS_RUNNING p.ctx) = 0 ∧
    (s.killPlan code).get (Reg.TRV_Q_SEQ_SEQ p.ctx) = s.get (Reg.TRV_Q_SEQ_SEQ p.ctx) := by
  obtain ⟨hhold, hrunning⟩ := seq_key_ne p.ctx
  simp only [State.killPlan, hp]
  have hleft := planLeft_failRecord (((s.markKill p.window).clearPlan p.ctx).setCx p.ctx { s.cx p.ctx with arena := none })
    p.ctx code p.req (some p)
  refine ⟨hleft.plan, hleft.arena.trans ?_, hleft.mer, hleft.running.trans ?_, hleft.seq.trans ?_⟩
  · rw [State.cx_setCx]
  · exact State.get_set_clear _ _
  · exact (State.get_set_other _ _ _ _ hrunning).trans (State.get_set_other _ _ _ _ hhold)

theorem ecc_key_ne (c : Nat) : (Reg.TRV_Q_SEQ_SEQ c).key ≠ Reg.DDR_EVENTS_ECC_UNCORR.key ∧
    (Reg.TRV_Q_SEQ_SEQ c).key ≠ Reg.DDR_ECC_LOG_VALID.key ∧ (Reg.TRV_Q_SEQ_SEQ c).key ≠ Reg.DDR_ECC_LOG_GROUP.key ∧
    (Reg.TRV_Q_SEQ_SEQ c).key ≠ Reg.DDR_ECC_LOG_ADDR.key := by
  simp only [Field.key, Reg.TRV_Q_SEQ_SEQ, Reg.TRV_Q_SEQ_addr, Reg.DDR_EVENTS_ECC_UNCORR, Reg.DDR_EVENTS_addr,
    Reg.DDR_ECC_LOG_VALID, Reg.DDR_ECC_LOG_GROUP, Reg.DDR_ECC_LOG_ADDR, Reg.DDR_ECC_LOG_addr]
  omega

theorem State.regsOnly_inlineEcc (s : State) (a : Nat) : RegsOnly s (s.inlineEcc a) := by
  have hevent : RegsOnly s (s.set Reg.DDR_EVENTS_ECC_UNCORR 1) := (RegsOnly.refl s).set _ _
  unfold State.inlineEcc
  extract_lets t
  split
  · exact hevent
  · exact ((hevent.set _ _).set _ _).set _ _

theorem State.inlineEcc_seq (s : State) (a c : Nat) : (s.inlineEcc a).get (Reg.TRV_Q_SEQ_SEQ c) = s.get (Reg.TRV_Q_SEQ_SEQ c) := by
  obtain ⟨hevent, hvalid, hgroup, haddr⟩ := ecc_key_ne c
  have hfirst := State.get_set_other s _ _ 1 hevent
  unfold State.inlineEcc
  extract_lets t
  split
  · exact hfirst
  · exact (State.get_set_other _ _ _ _ haddr).trans ((State.get_set_other _ _ _ _ hgroup).trans
      ((State.get_set_other _ _ _ _ hvalid).trans hfirst))

/-- The state in which a fault of the running plan is judged: the ECC error noted, a free value drawn. -/
def State.traverseFaulted (s : State) (parity : Bool) (addr : BitVec 48) : State :=
  (if parity then s else s.inlineEcc addr.toNat).freeNat.2

theorem State.traverseFaulted_rest (s : State) (parity : Bool) (addr : BitVec 48) : s.traverseFaulted parity addr =
    { s with regs := (s.traverseFaulted parity addr).regs, freeCtr := (s.traverseFaulted parity addr).freeCtr } := by
  cases parity with
  | true => rfl
  | false =>
    show (s.inlineEcc addr.toNat).freeNat.2 = { s with
      regs := (s.inlineEcc addr.toNat).freeNat.2.regs, freeCtr := (s.inlineEcc addr.toNat).freeNat.2.freeCtr }
    have h := s.regsOnly_inlineEcc addr.toNat
    generalize s.inlineEcc addr.toNat = t at h ⊢
    rw [h]
    rfl

theorem State.traverseFaulted_seq (s : State) (parity : Bool) (addr : BitVec 48) (c : Nat) :
    (s.traverseFaulted parity addr).get (Reg.TRV_Q_SEQ_SEQ c) = s.get (Reg.TRV_Q_SEQ_SEQ c) := by
  cases parity with
  | true => rfl
  | false => exact s.inlineEcc_seq addr.toNat c

theorem execTraverseFault_kills {p : Plan} (parity : Bool) (addr : BitVec 48) (hp : s.trv.plan = some p) (hw : s.mer.windows = []) :
    ∃ code, execTraverseFault parity addr s = done (((s.traverseFaulted parity addr).killPlan code).admitPlans) := by
  have hrest := s.traverseFaulted_rest parity addr
  have hopen : (s.traverseFaulted parity addr).openWindows = [] := by
    rw [hrest, State.openWindows]
    exact congrArg (List.map _) hw
  unfold State.traverseFaulted at hopen ⊢
  simp only [execTraverseFault, hp]
  generalize (if parity then s else s.inlineEcc addr.toNat).freeNat = q at hopen ⊢
  obtain ⟨x, u⟩ := q
  dsimp only at hopen ⊢
  rw [hopen]
  exact ⟨_, rfl⟩

/-- The plan restarted from its beginning. -/
def restartedPlan (p : Plan) (now : Nat) : Plan :=
  { ctx := p.ctx, req := p.req, start := now, bound := p.bound, window := p.window, restarted := true }

/-- A plan restarted in its window: the kill of the window noted, its restart spent, the arena invalid and the slot held. -/
def State.planRestarted (s : State) (p : Plan) (w : OpenWindow) : State :=
  ((((s.markKill p.window).spendRestart w).setCx p.ctx { s.cx p.ctx with arena := none }).set (Reg.TRV_Q_HOLD_HOLD p.ctx)
    (2 ^ rqSlot p.req)).setPlan (some (restartedPlan p s.datum))

theorem execTraverseFault_restarts {p : Plan} {w : OpenWindow} (parity : Bool) (addr : BitVec 48) (hp : s.trv.plan = some p)
    (hw : s.openWindows.find? (fun w => w.index = p.window) = some w) (hv : verdict s.datum p.bound true w = .admitted) :
    execTraverseFault parity addr s = done ((s.traverseFaulted parity addr).planRestarted p w) := by
  have hrest := s.traverseFaulted_rest parity addr
  have hopen : (s.traverseFaulted parity addr).openWindows.find? (fun w => w.index = p.window) = some w := by
    rw [hrest]
    exact hw
  have hadmitted : verdict (s.traverseFaulted parity addr).datum p.bound true w = .admitted := by
    rw [hrest]
    exact hv
  unfold State.traverseFaulted at hopen hadmitted ⊢
  simp only [execTraverseFault, hp]
  generalize (if parity then s else s.inlineEcc addr.toNat).freeNat = q at hopen hadmitted ⊢
  obtain ⟨x, u⟩ := q
  dsimp only at hopen hadmitted ⊢
  rw [hopen]
  dsimp only
  rw [if_pos hadmitted]
  rfl

end

end Sys2Proof.Machine

namespace Sys2Proof.Machine
open Sys2Proof Sys2Proof.Safety

/-! # The admission of plans (R224, R232) -/

section
variable {s : State} {c : Fin 8} {w : OpenWindow}

/-- The request that comes first in a window has its context's room for a record and is read without a refusal. -/
structure Considered (s : State) (c : Fin 8) (w : OpenWindow) : Prop where
  windows : s.openWindows = [w]
  first : s.cxOrder.find? (fun c => s.cxReady c w) = some c.val
  idle : s.trv.plan = none
  room : s.cxRoom c.val = true
  read : s.reach (s.cxAttr c.val) false (s.get (Reg.TRV_CX_REQ_BASE_BASE c.val) + 128 * s.get (Reg.TRV_Q_RPTR_RPTR c.val)) 128 = (.ok, s)

/-- What becomes of a request that has been read, decoded with `reached` and `code` in the state `t`. -/
def State.planDecided (t : State) (c : Nat) (w : OpenWindow) (ws : List Nat) (code : Nat) : State :=
  if code ≠ Code.ok then t.failRecord c code ws none
  else if t.fwFailed 22 then t.failRecord c Code.eUnavailable ws none
  else match verdict t.datum (rqBound ws) false w with
    | .admitted =>
      ((t.setPlan (some { ctx := c, req := ws, start := t.datum, bound := rqBound ws, window := w.index })).set
        (Reg.TRV_Q_HOLD_HOLD c) (2 ^ rqSlot ws)).set (Reg.TRV_Q_STATUS_RUNNING c) 1
    | .reject => (t.fbInc 0x6020 5).failRecord c Code.eBounds ws none
    | _ => t.deferred

theorem Considered.execPlan (h : Considered s c w) {reached : Nat} {t : State}
    (hspans : s.reachSpans (s.requestSpans c.val (s.request c.val)) = (reached, t)) :
    execPlan c s = done (t.planDecided c.val w (s.request c.val) (t.requestChk c.val (s.request c.val) reached)) := by
  have hready : s.cxReady c.val w = true := by simpa using List.find?_some h.first
  have hgo : s.considerPlan c.val w = t.planDecided c.val w (s.request c.val) (t.requestChk c.val (s.request c.val) reached) := by
    rw [State.considerPlan, if_neg (by simp [h.idle, hready]), if_neg (by simp [h.room])]
    simp only [h.read, hspans]
    rfl
  rw [Machine.execPlan, h.windows]
  simp only [List.foldl_cons, List.foldl_nil, if_pos h.first, hgo]

/-- The plan of a request that is admitted. -/
def State.admittedPlan (s : State) (c : Nat) (w : OpenWindow) : Plan :=
  { ctx := c, req := s.request c, start := s.datum, bound := rqBound (s.request c), window := w.index }

/-- The state in which a plan is admitted: its slot held and RUNNING set. -/
def State.planAdmitted (s : State) (c : Nat) (w : OpenWindow) : State :=
  ((s.setPlan (some (s.admittedPlan c w))).set (Reg.TRV_Q_HOLD_HOLD c) (2 ^ rqSlot (s.request c))).set
    (Reg.TRV_Q_STATUS_RUNNING c) 1

theorem Considered.execPlan_admits (h : Considered s c w)
    (hspans : s.reachSpans (s.requestSpans c.val (s.request c.val)) = (Code.ok, s))
    (hchk : s.requestChk c.val (s.request c.val) Code.ok = Code.ok) (hfw : s.fwFailed 22 = false)
    (hv : verdict s.datum (rqBound (s.request c.val)) false w = .admitted) :
    Machine.execPlan c s = done (s.planAdmitted c.val w) := by
  rw [h.execPlan hspans, State.planDecided, hchk, if_neg (by simp), hfw, if_neg Bool.false_ne_true, hv]
  rfl

theorem running_key_ne_hold (c : Nat) : (Reg.TRV_Q_HOLD_HOLD c).key ≠ (Reg.TRV_Q_STATUS_RUNNING c).key := by
  refine Field.key_ne_of_addr ?_
  simp only [Reg.TRV_Q_HOLD_HOLD, Reg.TRV_Q_STATUS_RUNNING, Reg.TRV_Q_STATUS_addr, Reg.TRV_Q_HOLD_addr]
  omega

theorem slot_lt (ws : List Nat) : 2 ^ rqSlot ws < 2 ^ 4 := Nat.pow_lt_pow_right (by decide) (rqSlot_lt ws)

theorem State.planAdmitted_regs (s : State) (c : Nat) (w : OpenWindow) :
    (s.planAdmitted c w).get (Reg.TRV_Q_HOLD_HOLD c) = 2 ^ rqSlot (s.request c) ∧
    (s.planAdmitted c w).bit (Reg.TRV_Q_STATUS_RUNNING c) = true ∧
    RegsKept [Reg.TRV_Q_HOLD_HOLD c, Reg.TRV_Q_STATUS_RUNNING c] s (s.planAdmitted c w) := by
  unfold State.planAdmitted
  generalize hx : some (s.admittedPlan c w) = x
  have hkept : RegsKept [Reg.TRV_Q_HOLD_HOLD c, Reg.TRV_Q_STATUS_RUNNING c] s (s.setPlan x) := fun f _ => rfl
  refine ⟨?_, State.bit_set_same _ _ _, (hkept.set List.mem_cons_self).set (List.mem_cons_of_mem _ List.mem_cons_self)⟩
  exact (State.get_set_other _ _ _ _ (running_key_ne_hold c)).trans (State.get_set_lt _ _ _ (slot_lt _))

/-! ## A request that fails a check -/

theorem trvField_request (hc : c.val < 8) : trvField (Reg.TRV_CX_LIB_BASE_BASE c.val) ∧ trvField (Reg.TRV_CX_GRID_BASE_BASE c.val) ∧
    trvField (Reg.TRV_CX_GRID_STRIDE_STRIDE c.val) ∧ trvField (Reg.TRV_CX_ARENA_SIZE_SIZE c.val) ∧
    trvField (Reg.TRV_CX_CPL_BASE_BASE c.val) ∧ trvField (Reg.TRV_Q_CPL_WPTR_CPL_WPTR c.val) ∧
    trvField (Reg.TRV_Q_RPTR_RPTR c.val) ∧ trvField (Reg.TRV_CX_REQ_SIZE_LOG2 c.val) ∧
    trvField (Reg.TRV_CX_FLOW_FLOW_EN c.val) := by
  simp only [trvField, Reg.TRV_CX_LIB_BASE_BASE, Reg.TRV_CX_LIB_BASE_addr, Reg.TRV_CX_GRID_BASE_BASE, Reg.TRV_CX_GRID_BASE_addr,
    Reg.TRV_CX_GRID_STRIDE_STRIDE, Reg.TRV_CX_GRID_STRIDE_addr, Reg.TRV_CX_ARENA_SIZE_SIZE, Reg.TRV_CX_ARENA_SIZE_addr,
    Reg.TRV_CX_CPL_BASE_BASE, Reg.TRV_CX_CPL_BASE_addr, Reg.TRV_Q_CPL_WPTR_CPL_WPTR, Reg.TRV_Q_CPL_WPTR_addr,
    Reg.TRV_Q_RPTR_RPTR, Reg.TRV_Q_RPTR_addr, Reg.TRV_CX_REQ_SIZE_LOG2, Reg.TRV_CX_REQ_SIZE_addr, Reg.TRV_CX_FLOW_FLOW_EN,
    Reg.TRV_CX_FLOW_addr]
  omega

/-- The checks of a request read memory and the context's registers. -/
theorem State.requestChk_congr {t : State} {c : Nat} (hmem : t.mem = s.mem)
    (hlib : t.get (Reg.TRV_CX_LIB_BASE_BASE c) = s.get (Reg.TRV_CX_LIB_BASE_BASE c))
    (hbase : t.get (Reg.TRV_CX_GRID_BASE_BASE c) = s.get (Reg.TRV_CX_GRID_BASE_BASE c))
    (hstride : t.get (Reg.TRV_CX_GRID_STRIDE_STRIDE c) = s.get (Reg.TRV_CX_GRID_STRIDE_STRIDE c))
    (hsize : t.get (Reg.TRV_CX_ARENA_SIZE_SIZE c) = s.get (Reg.TRV_CX_ARENA_SIZE_SIZE c)) (ws : List Nat) (reached : Nat) :
    t.requestChk c ws reached = s.requestChk c ws reached := by
  have hrd : ∀ a n, t.rdLe a n = s.rdLe a n := fun a n => by rw [State.rdLe, State.rd, hmem, State.rdLe, State.rd]
  have hgrid : t.planGrid c ws = s.planGrid c ws := by
    simp only [State.planGrid, State.slotAddr, State.readGrid, hbase, hstride, hrd]
  have hdelta : ∀ i, t.delta ws i = s.delta ws i := fun i => hrd _ _
  have hbands : ∀ lib, t.libBands lib = s.libBands lib := fun lib => by simp only [State.libBands, hrd]
  have hcell : ∀ lib, t.libCell lib = s.libCell lib := fun lib => by simp only [State.libCell, hrd]
  simp only [State.requestChk, hlib, hstride, hsize, hgrid, hdelta, hbands, hcell]

end

end Sys2Proof.Machine

namespace Sys2Proof.Machine
open Sys2Proof Sys2Proof.Safety

/-! # The commit of a plan (R241) -/

/-! ## The output bank's bytes -/

theorem replay_length (dt : FV) : ∀ (cs : List (Nat × Nat)) (q : Pose), (replay dt q cs).length = cs.length + 1
  | [], _ => rfl
  | (_, _) :: cs, _ => congrArg Nat.succ (replay_length dt cs _)

theorem endSpeed_length (v : FV) : ∀ ps : List Pose, (endSpeed v ps).length = ps.length
  | [] => rfl
  | [_] => rfl
  | _ :: _ :: _ => congrArg Nat.succ (endSpeed_length v _)

theorem stopPoses_length (ws : List Nat) (cs : List (Nat × Nat)) : (stopPoses ws cs).length = cs.length + 1 := by
  unfold stopPoses
  dsimp only
  split
  · rw [endSpeed_length, replay_length]
  · exact replay_length _ _ _

theorem candPoses_length (ws : List Nat) (cs : List (Nat × Nat)) : (candPoses ws cs).length = cs.length + 1 := by
  unfold candPoses
  dsimp only
  split
  · rw [endSpeed_length, replay_length]
  · exact replay_length _ _ _

theorem poses_length (ps : List Pose) : (ps.flatMap Pose.bytes).length = 16 * ps.length :=
  length_flatMap_const _ 16 _ fun _ _ => by simp only [Pose.bytes, List.length_append, leBytes_length]

theorem resultHeader_length (frame count : Nat) (subst : Bool) (oldest : Nat) : (resultHeader frame count subst oldest).length = 32 := by
  simp only [resultHeader, List.length_append, leBytes_length, List.length_replicate]

/-- The candidates' entries of the output bank. -/
def Plan.entries (p : Plan) : List Nat := p.cands.flatMap Cand.bytes ++ (List.replicate (8 - p.cands.length) noCand).flatten

theorem Plan.entries_length {p : Plan} (h : p.cands.length ≤ 8) : p.entries.length = 128 := by
  have hcands : (p.cands.flatMap Cand.bytes).length = 16 * p.cands.length :=
    length_flatMap_const _ 16 _ fun c _ => by simp only [Cand.bytes, List.length_append, leBytes_length]
  have hrest : ((List.replicate (8 - p.cands.length) noCand).flatten).length = 16 * (8 - p.cands.length) := by
    rw [List.length_flatten, List.map_replicate, List.sum_replicate, smul_eq_mul, Nat.mul_comm]
    rfl
  rw [Plan.entries, List.length_append, hcands, hrest]
  omega

/-- The controls that a plan publishes. -/
def Plan.published (p : Plan) : List (Nat × Nat) :=
  match p.cands[p.rank]? with | some k => (if p.rank = 15 then p.fallback else k.controls) | none => p.fallback

/-- The poses that a plan publishes for the main checker. -/
def Plan.poses (p : Plan) : List Pose := if p.rank = 15 then stopPoses p.req p.published else candPoses p.req p.published

theorem Plan.published_length {p : Plan} (hfallback : p.fallback.length < 256)
    (hcands : (p.cands.all (fun k => decide (k.controls.length < 256))) = true) : p.published.length < 256 := by
  unfold Plan.published
  split
  · next k hk =>
    split
    · exact hfallback
    · exact of_decide_eq_true (List.all_eq_true.mp hcands k (List.mem_of_getElem? hk))
  · exact hfallback

theorem Plan.poses_length {p : Plan} (h : p.published.length < 256) : p.poses.length ≤ 256 := by
  unfold Plan.poses
  split
  · rw [stopPoses_length]
    omega
  · rw [candPoses_length]
    omega

section
variable {s t : State} {p : Plan}

/-- The five parts of an output bank at `a`. -/
def State.bankWritten (s : State) (a : Nat) (r cs main plumb ks : List Nat) : State :=
  ((((s.wr a r).wr (a + 0x40) cs).wr (a + 0x100) main).wr (a + 0x1200) plumb).wr (a + 0x2400) ks

theorem State.bankWritten_rest (s : State) (a : Nat) (r cs main plumb ks : List Nat) :
    (s.bankWritten a r cs main plumb ks).regs = s.regs ∧ (s.bankWritten a r cs main plumb ks).datum = s.datum ∧
    (s.bankWritten a r cs main plumb ks).mer = s.mer := by
  simp only [State.bankWritten, State.wr_regs, State.wr_datum, State.wr_mer, and_self]

theorem State.bankWritten_kept (s : State) (a : Nat) {r cs main plumb ks : List Nat} (hr : r.length ≤ 32) (hcs : cs.length ≤ 128)
    (hmain : main.length ≤ 4128) (hplumb : plumb.length ≤ 4128) (hks : ks.length ≤ 2048) :
    MemKept a (a + 0x3000) s (s.bankWritten a r cs main plumb ks) := by
  refine memKept_trans (memKept_trans (memKept_trans (memKept_trans (memKept_wr_within s ?_ ?_) (memKept_wr_within _ ?_ ?_))
    (memKept_wr_within _ ?_ ?_)) (memKept_wr_within _ ?_ ?_)) (memKept_wr_within _ ?_ ?_) <;> omega

/-- The registers of a commit. -/
def State.commitRegs (s : State) (c bank seq : Nat) : State := (s.set (Reg.TRV_Q_STATUS_PUB c) bank).set (Reg.TRV_Q_SEQ_SEQ c) seq

/-- The counter of a commit's outcome. -/
def State.outcomeCounted (s : State) (outcome : Nat) : State :=
  if outcome = Code.noPath then s.fbInc 0x6070 4 else if outcome = Code.noPathInTime then s.fbInc 0x6070 5
  else if outcome = Code.allInvalid then s.fbInc 0x6070 7 else s

/-- The counters of a commit. -/
def State.commitCounted (s : State) (p : Plan) : State :=
  let s := ((s.fbInc 0x6070 1).fbInc 0x6070 (if p.repair then 3 else 2)).outcomeCounted p.outcome
  if p.partially then s.fbInc 0x6070 0xB else s

/-- Two states that differ in the Field Book only. -/
def FbOnly (s t : State) : Prop := t = { s with fb := t.fb }

theorem FbOnly.trans {u : State} (h : FbOnly s t) (h' : FbOnly t u) : FbOnly s u := by
  unfold FbOnly at *
  generalize u.fb = b at h' ⊢
  rw [h', h]

theorem FbOnly.inc (s : State) (i j : Nat) : FbOnly s (s.fbInc i j) := rfl

theorem FbOnly.ite {b : Prop} [Decidable b] {u : State} (h : FbOnly s t) (h' : FbOnly s u) : FbOnly s (if b then t else u) := by
  split
  · exact h
  · exact h'

theorem State.outcomeCounted_rest (s : State) (outcome : Nat) : FbOnly s (s.outcomeCounted outcome) :=
  .ite (.inc s _ _) (.ite (.inc s _ _) (.ite (.inc s _ _) rfl))

theorem State.commitCounted_rest (s : State) (p : Plan) : FbOnly s (s.commitCounted p) := by
  have hfirst : FbOnly s ((s.fbInc 0x6070 1).fbInc 0x6070 (if p.repair then 3 else 2)) := (FbOnly.inc s _ _).trans (FbOnly.inc _ _ _)
  have hsecond := hfirst.trans (State.outcomeCounted_rest _ p.outcome)
  exact .ite (hsecond.trans (.inc _ _ _)) hsecond

/-- The bank that a commit writes. -/
def State.nextBank (s : State) (c : Nat) : Nat := 1 - s.get (Reg.TRV_Q_STATUS_PUB c)

def State.bankAddr (s : State) (c : Nat) : Nat := s.get (Reg.TRV_CX_OUT_BASE_BASE c) + s.nextBank c * 0x3000

/-- The bank of a plan, written. -/
def State.planWritten (s : State) (p : Plan) (r hdr : List Nat) : State :=
  s.bankWritten (s.bankAddr p.ctx) r p.entries (hdr ++ p.poses.flatMap Pose.bytes)
    (hdr ++ (replay (rqDt p.req) (startPose p.req) p.published).flatMap Pose.bytes)
    (p.published.flatMap (fun k => leBytes 4 k.1 ++ leBytes 4 k.2))

theorem State.planWritten_kept (s : State) {r hdr : List Nat} (hr : r.length = 32) (hhdr : hdr.length = 32)
    (hcands : p.cands.length ≤ 8) (hpublished : p.published.length < 256) :
    MemKept (s.bankAddr p.ctx) (s.bankAddr p.ctx + 0x3000) s (s.planWritten p r hdr) := by
  have hposes := p.poses_length hpublished
  refine s.bankWritten_kept _ hr.le (Plan.entries_length hcands).le ?_ ?_ ?_
  · rw [List.length_append, hhdr, Machine.poses_length]
    omega
  · rw [List.length_append, hhdr, Machine.poses_length, replay_length]
    omega
  · rw [length_flatMap_const _ 8 _ fun k _ => by simp only [List.length_append, leBytes_length]]
    omega

/-- The state of a commit before its record. -/
def State.planCommitted (s : State) (p : Plan) (r hdr : List Nat) (x : TrvCtx) : State :=
  (((((s.planWritten p r hdr).commitRegs p.ctx (s.nextBank p.ctx) ((s.get (Reg.TRV_Q_SEQ_SEQ p.ctx) + 1) % 2 ^ 32)).commitCounted p)).setCx
    p.ctx x).clearPlan p.ctx

theorem State.commitPlan_eq (s : State) (p : Plan) : ∃ (r : PlanRec) (hdr : List Nat) (x : TrvCtx) (tag : Nat),
    s.commitPlan p = (s.planCommitted p (r.bytes s.ts32) hdr x).requestEnded p.ctx r tag Code.ok (s.nextBank p.ctx) ∧ hdr.length = 32 := by
  unfold State.commitPlan
  exact ⟨_, _, _, _, rfl, resultHeader_length _ _ _ _⟩

/-! ## The registers of a commit -/

/-- A register that a commit sets. -/
def CommitField (c : Nat) (f : Field) : Prop := f.key = (Reg.TRV_Q_STATUS_PUB c).key ∨ f.key = (Reg.TRV_Q_SEQ_SEQ c).key ∨
  f.key = (Reg.TRV_Q_HOLD_HOLD c).key ∨ f.key = (Reg.TRV_Q_STATUS_RUNNING c).key

theorem not_commitField (c : Nat) : ¬ CommitField c (Reg.TRV_CX_CPL_BASE_BASE c) ∧ ¬ CommitField c (Reg.TRV_Q_CPL_WPTR_CPL_WPTR c) ∧
    ¬ CommitField c (Reg.TRV_CX_FLOW_FLOW_EN c) ∧ ¬ CommitField c (Reg.TRV_Q_RPTR_RPTR c) ∧
    ¬ CommitField c (Reg.TRV_CX_REQ_SIZE_LOG2 c) := by
  simp only [CommitField, Field.key, Reg.TRV_CX_CPL_BASE_BASE, Reg.TRV_CX_CPL_BASE_addr, Reg.TRV_Q_CPL_WPTR_CPL_WPTR,
    Reg.TRV_Q_CPL_WPTR_addr, Reg.TRV_CX_FLOW_FLOW_EN, Reg.TRV_CX_FLOW_addr, Reg.TRV_Q_RPTR_RPTR, Reg.TRV_Q_RPTR_addr,
    Reg.TRV_CX_REQ_SIZE_LOG2, Reg.TRV_CX_REQ_SIZE_addr, Reg.TRV_Q_STATUS_PUB, Reg.TRV_Q_STATUS_addr, Reg.TRV_Q_SEQ_SEQ,
    Reg.TRV_Q_SEQ_addr, Reg.TRV_Q_HOLD_HOLD, Reg.TRV_Q_HOLD_addr, Reg.TRV_Q_STATUS_RUNNING]
  omega

theorem pub_key_ne (c : Nat) : (Reg.TRV_Q_STATUS_PUB c).key ≠ (Reg.TRV_Q_SEQ_SEQ c).key ∧
    (Reg.TRV_Q_STATUS_PUB c).key ≠ (Reg.TRV_Q_HOLD_HOLD c).key ∧ (Reg.TRV_Q_STATUS_PUB c).key ≠ (Reg.TRV_Q_STATUS_RUNNING c).key := by
  simp only [Field.key, Reg.TRV_Q_STATUS_PUB, Reg.TRV_Q_STATUS_addr, Reg.TRV_Q_SEQ_SEQ, Reg.TRV_Q_SEQ_addr,
    Reg.TRV_Q_HOLD_HOLD, Reg.TRV_Q_HOLD_addr, Reg.TRV_Q_STATUS_RUNNING]
  omega

theorem State.get_commitRegs (s : State) (c : Nat) {bank seq : Nat} (hbank : bank < 2) (hseq : seq < 2 ^ 32) :
    (s.commitRegs c bank seq).get (Reg.TRV_Q_STATUS_PUB c) = bank ∧ (s.commitRegs c bank seq).get (Reg.TRV_Q_SEQ_SEQ c) = seq ∧
    ∀ f, ¬ CommitField c f → (s.commitRegs c bank seq).get f = s.get f := by
  obtain ⟨hpub, -⟩ := pub_key_ne c
  refine ⟨(State.get_set_other _ _ _ _ hpub).trans (State.get_set_lt _ _ _ hbank), State.get_set_lt _ _ _ hseq, fun f hf => ?_⟩
  rw [CommitField, not_or, not_or] at hf
  obtain ⟨hf1, hf2, -⟩ := hf
  exact (State.get_set_other _ _ _ _ hf2).trans (State.get_set_other _ _ _ _ hf1)

theorem State.get_clearPlan (s : State) (c : Nat) : (s.clearPlan c).get (Reg.TRV_Q_HOLD_HOLD c) = 0 ∧
    (s.clearPlan c).get (Reg.TRV_Q_STATUS_RUNNING c) = 0 ∧
    (s.clearPlan c).get (Reg.TRV_Q_STATUS_PUB c) = s.get (Reg.TRV_Q_STATUS_PUB c) ∧
    (s.clearPlan c).get (Reg.TRV_Q_SEQ_SEQ c) = s.get (Reg.TRV_Q_SEQ_SEQ c) ∧
    ∀ f, ¬ CommitField c f → (s.clearPlan c).get f = s.get f := by
  obtain ⟨-, hpub, hpub'⟩ := pub_key_ne c
  obtain ⟨hseq, hseq'⟩ := seq_key_ne c
  have hother : ∀ f : Field, f.key ≠ (Reg.TRV_Q_HOLD_HOLD c).key → f.key ≠ (Reg.TRV_Q_STATUS_RUNNING c).key →
      (s.clearPlan c).get f = s.get f := fun f hhold hrunning =>
    (State.get_set_other _ _ _ _ hrunning).trans (State.get_set_other _ _ _ _ hhold)
  refine ⟨(State.get_set_other _ _ _ _ (running_key_ne_hold c)).trans (State.get_set_clear _ _), State.get_set_clear _ _,
    hother _ hpub hpub', hother _ hseq hseq', fun f hf => ?_⟩
  rw [CommitField, not_or, not_or, not_or] at hf
  obtain ⟨-, -, hhold, hrunning⟩ := hf
  exact hother f hhold hrunning

/-- What a commit leaves before its record. -/
structure CommitLeft (s t : State) (p : Plan) : Prop where
  plan : t.trv.plan = none
  mer : t.mer = s.mer
  datum : t.datum = s.datum
  mem : MemKept (s.bankAddr p.ctx) (s.bankAddr p.ctx + 0x3000) s t
  pub : t.get (Reg.TRV_Q_STATUS_PUB p.ctx) = s.nextBank p.ctx
  seq : t.get (Reg.TRV_Q_SEQ_SEQ p.ctx) = (s.get (Reg.TRV_Q_SEQ_SEQ p.ctx) + 1) % 2 ^ 32
  hold : t.get (Reg.TRV_Q_HOLD_HOLD p.ctx) = 0
  running : t.get (Reg.TRV_Q_STATUS_RUNNING p.ctx) = 0
  fields : ∀ f, ¬ CommitField p.ctx f → t.get f = s.get f

theorem nextBank_lt (s : State) (c : Nat) : s.nextBank c < 2 := Nat.lt_of_le_of_lt (Nat.sub_le _ _) (by decide)

theorem FbOnly.get (h : FbOnly s t) (f : Field) : t.get f = s.get f := by
  rw [h]
  rfl

theorem commitLeft_planCommitted {r hdr : List Nat} (x : TrvCtx)
    (hmem : MemKept (s.bankAddr p.ctx) (s.bankAddr p.ctx + 0x3000) s (s.planWritten p r hdr)) :
    CommitLeft s (s.planCommitted p r hdr x) p := by
  obtain ⟨hregs, hdatum, hmer⟩ : (s.planWritten p r hdr).regs = s.regs ∧ (s.planWritten p r hdr).datum = s.datum ∧
    (s.planWritten p r hdr).mer = s.mer := s.bankWritten_rest _ _ _ _ _ _
  have hseq : (s.get (Reg.TRV_Q_SEQ_SEQ p.ctx) + 1) % 2 ^ 32 < 2 ^ 32 := Nat.mod_lt _ (by decide)
  have hbank := nextBank_lt s p.ctx
  unfold State.planCommitted
  generalize s.planWritten p r hdr = t at hmem hregs hdatum hmer ⊢
  generalize hq : (s.get (Reg.TRV_Q_SEQ_SEQ p.ctx) + 1) % 2 ^ 32 = q at hseq ⊢
  obtain ⟨hpub, hseq', hother⟩ := t.get_commitRegs p.ctx hbank hseq
  have hkept : (t.commitRegs p.ctx (s.nextBank p.ctx) q).mem = t.mem ∧ (t.commitRegs p.ctx (s.nextBank p.ctx) q).datum = t.datum ∧
    (t.commitRegs p.ctx (s.nextBank p.ctx) q).mer = t.mer := ⟨rfl, rfl, rfl⟩
  generalize t.commitRegs p.ctx (s.nextBank p.ctx) q = u at hpub hseq' hother hkept ⊢
  obtain ⟨humem, hudatum, humer⟩ := hkept
  have hcounted := u.commitCounted_rest p
  generalize u.commitCounted p = v at hcounted ⊢
  have hget : ∀ f, (v.setCx p.ctx x).get f = u.get f := hcounted.get
  obtain ⟨hhold, hrunning, hpub', hseq'', hother'⟩ := (v.setCx p.ctx x).get_clearPlan p.ctx
  refine ⟨rfl, ?_, ?_, fun a ha => ?_, hpub'.trans ((hget _).trans hpub), hseq''.trans ((hget _).trans (hseq'.trans hq.symm)),
    hhold, hrunning, fun f hf => (hother' f hf).trans ((hget f).trans ((hother f hf).trans (by rw [State.get, hregs, State.get])))⟩
  · show v.mer = _
    rw [hcounted]
    exact humer.trans hmer
  · show v.datum = _
    rw [hcounted]
    exact hudatum.trans hdatum
  · show Memory.read v.mem a = _
    rw [hcounted]
    exact (congrArg (Memory.read · a) humem).trans (hmem a ha)

/-- The state after a commit: what the commit and its record leave. -/
structure Committed (s t : State) (p : Plan) : Prop where
  plan : t.trv.plan = none
  mer : t.mer = s.mer
  datum : t.datum = s.datum
  mem : MemKeptOff [(s.bankAddr p.ctx, s.bankAddr p.ctx + 0x3000), (s.recordAddr p.ctx, s.recordAddr p.ctx + 32)] s t
  pub : t.get (Reg.TRV_Q_STATUS_PUB p.ctx) = s.nextBank p.ctx
  seq : t.get (Reg.TRV_Q_SEQ_SEQ p.ctx) = (s.get (Reg.TRV_Q_SEQ_SEQ p.ctx) + 1) % 2 ^ 32
  hold : t.get (Reg.TRV_Q_HOLD_HOLD p.ctx) = 0
  running : t.get (Reg.TRV_Q_STATUS_RUNNING p.ctx) = 0
  rptr : t.get (Reg.TRV_Q_RPTR_RPTR p.ctx) = (s.get (Reg.TRV_Q_RPTR_RPTR p.ctx) + 1) % 2 ^ s.get (Reg.TRV_CX_REQ_SIZE_LOG2 p.ctx) %
    2 ^ (Reg.TRV_Q_RPTR_RPTR p.ctx).width

theorem CommitLeft.requestEnded (h : CommitLeft s t p) (hflow : s.bit (Reg.TRV_CX_FLOW_FLOW_EN p.ctx) = false) (r : PlanRec)
    (tag status bank : Nat) : Committed s (t.requestEnded p.ctx r tag status bank) p := by
  obtain ⟨hbase, hwptr, hflowEn, hrptr, hsize⟩ := not_commitField p.ctx
  obtain ⟨-, hhold, hrunning, hpub, hseq⟩ := unnoted_queue p.ctx
  obtain ⟨-, hhold', hrunning', hpub', hseq'⟩ := not_recordField_queue p.ctx
  obtain ⟨hhold'', hpub'', hseq''⟩ := rptr_key_ne p.ctx
  have hleft := requestLeft_requestEnded r tag status bank ((bit_of_get (h.fields _ hflowEn)).trans hflow)
  have haddr : t.recordAddr p.ctx = s.recordAddr p.ctx := by
    rw [State.recordAddr, h.fields _ hbase, h.fields _ hwptr, State.recordAddr]
  refine ⟨hleft.plan.trans h.plan, hleft.mer.trans h.mer, hleft.datum.trans h.datum, fun a ha => ?_,
    (hleft.fields _ hpub hpub' hpub'').trans h.pub, (hleft.fields _ hseq hseq' hseq'').trans h.seq,
    (hleft.fields _ hhold hhold' hhold'').trans h.hold,
    (hleft.fields _ hrunning hrunning' (running_key_ne_rptr p.ctx)).trans h.running, ?_⟩
  · have hmem := hleft.mem a
    rw [haddr] at hmem
    exact (hmem (ha _ (List.mem_cons_of_mem _ List.mem_cons_self))).trans (h.mem a (ha _ List.mem_cons_self))
  · rw [hleft.rptr, h.fields _ hrptr, h.fields _ hsize]

theorem State.commitPlan_committed (hflow : s.bit (Reg.TRV_CX_FLOW_FLOW_EN p.ctx) = false) (hcands : p.cands.length ≤ 8)
    (hfallback : p.fallback.length < 256) (hcontrols : (p.cands.all (fun k => decide (k.controls.length < 256))) = true) :
    Committed s (s.commitPlan p) p := by
  obtain ⟨r, hdr, x, tag, heq, hhdr⟩ := s.commitPlan_eq p
  rw [heq]
  exact (commitLeft_planCommitted x (s.planWritten_kept (r.bytes_length _) hhdr hcands
    (Plan.published_length hfallback hcontrols))).requestEnded hflow _ _ _ _

theorem execPlanCommit_go (hp : s.trv.plan = some p) (hstage : p.stage = 3) (hw : s.mer.windows = [])
    (hflow : s.bit (Reg.TRV_CX_FLOW_FLOW_EN p.ctx) = false)
    (hreach : s.reachSpans [⟨s.cxAttr p.ctx, true, s.bankAddr p.ctx, 0x3000⟩] = (Code.ok, s)) (hcands : p.cands.length ≤ 8)
    (hfallback : p.fallback.length < 256) (hcontrols : (p.cands.all (fun k => decide (k.controls.length < 256))) = true) :
    execPlanCommit s = done (s.commitPlan p) ∧ Committed s (s.commitPlan p) p := by
  have hcommitted := s.commitPlan_committed hflow hcands hfallback hcontrols
  have hclosed : (s.commitPlan p).admitPlans = s.commitPlan p := State.admitPlans_closed (by rw [hcommitted.mer, hw])
  refine ⟨?_, hcommitted⟩
  rw [execPlanCommit, hp]
  unfold State.bankAddr State.nextBank at hreach
  simp only [hstage, ne_eq, not_true_eq_false, if_false, State.planWith_ok hreach, hclosed]

end

end Sys2Proof.Machine

namespace Sys2Proof.Machine
open Sys2Proof Sys2Proof.Safety

/-! # The plan's commands complete (R232–R243) -/

section
variable {s : State} {p : Plan}

/-! ## PLAN -/

theorem does_plan_admits {c : Fin 8} {w : OpenWindow} (h : Considered s c w)
    (hspans : s.reachSpans (s.requestSpans c.val (s.request c.val)) = (Code.ok, s))
    (hchk : s.requestChk c.val (s.request c.val) Code.ok = Code.ok) (hfw : s.fwFailed 22 = false)
    (hv : verdict s.datum (rqBound (s.request c.val)) false w = .admitted) :
    Does (.plan c) s (fun t => t.trv.plan = some (s.admittedPlan c.val w) ∧
      t.get (Reg.TRV_Q_HOLD_HOLD c.val) = 2 ^ rqSlot (s.request c.val) ∧ t.bit (Reg.TRV_Q_STATUS_RUNNING c.val) = true ∧
      RegsKept [Reg.TRV_Q_HOLD_HOLD c.val, Reg.TRV_Q_STATUS_RUNNING c.val] s t ∧
      t = { s with regs := t.regs, trv := { s.trv with plan := t.trv.plan } }) := by
  obtain ⟨hhold, hrunning, hkept⟩ := s.planAdmitted_regs c.val w
  exact ⟨_, h.execPlan_admits hspans hchk hfw hv, rfl, hhold, hrunning, hkept, rfl⟩

theorem does_plan_fails {c : Fin 8} {w : OpenWindow} (h : Considered s c w)
    (hchk : s.requestChk c.val (s.request c.val) (s.reachSpans (s.requestSpans c.val (s.request c.val))).1 ≠ Code.ok)
    (hflow : s.bit (Reg.TRV_CX_FLOW_FLOW_EN c.val) = false) : Does (.plan c) s (fun t => t.trv.plan = none ∧
      t.get (Reg.TRV_Q_RPTR_RPTR c.val) = (s.get (Reg.TRV_Q_RPTR_RPTR c.val) + 1) % 2 ^ s.get (Reg.TRV_CX_REQ_SIZE_LOG2 c.val) %
        2 ^ (Reg.TRV_Q_RPTR_RPTR c.val).width ∧
      MemKept (s.recordAddr c.val) (s.recordAddr c.val + 32) s t ∧ t.datum = s.datum) := by
  have hlogged := (Logged.refl s).reachSpans (s.requestSpans c.val (s.request c.val))
  generalize hspans : s.reachSpans (s.requestSpans c.val (s.request c.val)) = q at hchk hlogged
  obtain ⟨reached, u⟩ := q
  dsimp only at hchk hlogged
  have hrest := hlogged.rest
  have htrv : u.trv = s.trv := by rw [hrest]
  have hmem : u.mem = s.mem := by rw [hrest]
  have hdatum : u.datum = s.datum := by rw [hrest]
  obtain ⟨hlib, hbase, hstride, hsize, hcpl, hwptr, hrptr, hlog, hflowEn⟩ := trvField_request c.isLt
  have hget := hlogged.fields
  have hcode := State.requestChk_congr hmem (hget _ hlib) (hget _ hbase) (hget _ hstride) (hget _ hsize) (s.request c.val) reached
  have haddr : u.recordAddr c.val = s.recordAddr c.val := by rw [State.recordAddr, hget _ hcpl, hget _ hwptr, State.recordAddr]
  have hexec := h.execPlan hspans
  rw [hcode, State.planDecided, if_pos hchk] at hexec
  have hleft := requestLeft_failRecord (s.requestChk c.val (s.request c.val) reached) (s.request c.val) none
    ((bit_of_get (hget _ hflowEn)).trans hflow)
  refine ⟨_, hexec, ?_, ?_, fun a ha => ?_, hleft.datum.trans hdatum⟩
  · rw [hleft.plan, htrv, h.idle]
  · rw [hleft.rptr, hget _ hrptr, hget _ hlog]
  · rw [← haddr] at ha
    exact (hleft.mem a ha).trans (by rw [hmem])

theorem does_plan_closed {c : Fin 8} (hw : s.mer.windows = []) : Does (.plan c) s (fun t => t = s) := by
  refine ⟨s, ?_, rfl⟩
  show execPlan c s = done s
  rw [execPlan, State.openWindows, hw]
  rfl

/-! ## The stages -/

theorem does_fallbackDone (hp : s.trv.plan = some p) (hstage : p.stage = 0)
    (hreach : s.reachSpans (s.fallbackReads p) = (Code.ok, s)) :
    Does .fallbackDone s (fun t => (t.trv.plan.map (fun q => (q.stage, q.ctx, q.req, q.start, q.outcome, q.window))) =
      some (1, p.ctx, p.req, p.start, p.outcome, p.window) ∧ t.mem = s.mem ∧ t.datum = s.datum ∧ t.regs = s.regs) := by
  obtain ⟨u, cs, hit, hexec, hkept, hmem⟩ := execFallbackDone_go hp hstage hreach
  exact ⟨_, hexec, rfl, hmem, hkept.datum, hkept.regs⟩

theorem does_searchEnd (hp : s.trv.plan = some p) (hstage : p.stage = 1)
    (hreach : s.reachSpans (s.searchSpans p) = (Code.ok, s)) :
    Does .searchEnd s (fun t => (t.trv.plan.map (fun q => (q.stage, q.ctx, q.req, q.start, q.partially))) =
      some (2, p.ctx, p.req, p.start, false) ∧ (t.trv.plan.any (fun q => q.outcome == Code.ok || q.outcome == Code.noPath)) = true ∧
      MemKept (s.get (Reg.TRV_CX_ARENA_BASE_BASE p.ctx)) (arenaEnd s p) s t ∧ t.regs = s.regs ∧ t.datum = s.datum) := by
  have hexec := execSearchEnd_go hp hstage hreach
  generalize (s.planGrid p.ctx p.req).w * (s.planGrid p.ctx p.req).h * 64 + 1 = n at hexec
  obtain ⟨⟨repair, found, cands, updates, hplan⟩, hkept, hmem⟩ := s.endSearch_kept p n false
  refine ⟨_, hexec, ?_, ?_, hmem, hkept.regs, hkept.datum⟩
  · rw [hplan]
    rfl
  · rw [hplan]
    cases found <;> rfl

theorem does_searchDeadline (hp : s.trv.plan = some p) (hstage : p.stage = 1)
    (hreach : (s.advanceTo (planSearchDeadline p)).freeNat.2.reachSpans
      ((s.advanceTo (planSearchDeadline p)).freeNat.2.searchSpans p) = (Code.ok, (s.advanceTo (planSearchDeadline p)).freeNat.2)) :
    Does .searchDeadline s (fun t => (t.trv.plan.map (fun q => (q.stage, q.ctx, q.req, q.start))) =
      some (2, p.ctx, p.req, p.start) ∧
      (t.trv.plan.any (fun q => if q.partially then q.outcome == Code.ok else q.outcome == Code.noPathInTime)) = true ∧
      MemKept (s.get (Reg.TRV_CX_ARENA_BASE_BASE p.ctx)) (arenaEnd s p) s t ∧ t.datum = max s.datum (planSearchDeadline p) ∧
      t.regs = s.regs) := by
  have hwaited := (waited_advanceTo s (planSearchDeadline p)).freeNat
  have hexec := execSearchDeadline_go hp hstage Prod.mk.eta.symm hreach
  generalize (s.advanceTo (planSearchDeadline p)).freeNat.1 = n at hexec
  generalize (s.advanceTo (planSearchDeadline p)).freeNat.2 = u at hwaited hexec
  obtain ⟨⟨repair, found, cands, updates, hplan⟩, hkept, hmem⟩ := u.endSearch_kept p n true
  rw [arenaEnd_congr hwaited.regs hwaited.mem, State.get, hwaited.regs, ← State.get] at hmem
  refine ⟨_, hexec, ?_, ?_, fun a ha => (hmem a ha).trans (by rw [hwaited.mem]), hkept.datum.trans hwaited.datum,
    hkept.regs.trans hwaited.regs⟩
  · rw [hplan]
    rfl
  · rw [hplan]
    cases found <;> rfl

/-- What a plan's output stage has done, as the statement of its commands has it. -/
theorem OutputDone.stage {t : State} (h : OutputDone s p t) :
    (t.trv.plan.map (fun q => (q.stage, q.ctx, q.cands.length))) = some (3, p.ctx, p.cands.length) ∧
    (t.trv.plan.any (fun q => q.req == p.req && q.fallback == p.fallback)) = true ∧
    (t.trv.plan.any (fun q => q.rank == 15 || decide (q.rank < q.cands.length))) = true := by
  obtain ⟨q, hq, hstage, hctx, hcands, hreq, hfallback, hrank⟩ := h.plan
  rw [hq]
  refine ⟨?_, ?_, ?_⟩
  · rw [Option.map_some, hstage, hctx, hcands]
  · rw [Option.any_some, hreq, hfallback, beq_self_eq_true, beq_self_eq_true, Bool.and_self]
  · rw [Option.any_some, Bool.or_eq_true, beq_iff_eq, decide_eq_true_iff]
    exact hrank

theorem does_optimisationEnd (hp : s.trv.plan = some p) (hstage : p.stage = 2)
    (hreach : s.reachSpans (s.outputReads p) = (Code.ok, s)) : Does .optimisationEnd s (fun t => OutputDone s p t) :=
  ⟨_, execOptimisationEnd_go hp hstage hreach, s.outputChecks_done p _ _⟩

/-- The output stage of a plan after its deadline's time. -/
theorem OutputDone.waited {u t : State} {n : Nat} (h : OutputDone u p t) (hu : Waited s n u) :
    t.get (Reg.TRV_Q_HOLD_HOLD p.ctx) = 2 ^ rqSlot p.req ||| 2 ^ s.get (Reg.TRV_Q_LATEST_SLOT p.ctx) ∧
    t.datum = max s.datum n ∧ RegsKept [Reg.TRV_Q_HOLD_HOLD p.ctx] s t ∧ t.mem = s.mem := by
  have hget : ∀ f, u.get f = s.get f := fun f => by rw [State.get, hu.regs, State.get]
  refine ⟨?_, h.datum.trans hu.datum, fun f hf => (h.fields f hf).trans (hget f), h.mem.trans hu.mem⟩
  rw [h.hold, hget]

theorem does_optimisationDeadline (hp : s.trv.plan = some p) (hstage : p.stage = 2)
    (hreach : (s.advanceTo (planOptDeadline p)).freeNat.2.freeNat.2.reachSpans
      ((s.advanceTo (planOptDeadline p)).freeNat.2.freeNat.2.outputReads p) =
        (Code.ok, (s.advanceTo (planOptDeadline p)).freeNat.2.freeNat.2)) :
    Does .optimisationDeadline s (fun t => ∃ u, Waited s (planOptDeadline p) u ∧ OutputDone u p t) :=
  ⟨_, execOptimisationDeadline_go hp hstage Prod.mk.eta.symm Prod.mk.eta.symm hreach, _, (waited_advanceTo s (planOptDeadline p)).freeNat.freeNat,
    State.outputChecks_done _ p _ _⟩

/-! ## Faults -/

theorem does_traverseFault_kills (parity : Bool) (addr : BitVec 48) (hp : s.trv.plan = some p) (hw : s.mer.windows = []) :
    Does (.traverseFault parity addr) s (fun t => t.trv.plan = none ∧ (t.cx p.ctx).arena = none ∧
      t.get (Reg.TRV_Q_STATUS_RUNNING p.ctx) = 0 ∧ t.get (Reg.TRV_Q_SEQ_SEQ p.ctx) = s.get (Reg.TRV_Q_SEQ_SEQ p.ctx)) := by
  obtain ⟨code, hexec⟩ := execTraverseFault_kills parity addr hp hw
  have hrest := s.traverseFaulted_rest parity addr
  have hseq := s.traverseFaulted_seq parity addr p.ctx
  generalize s.traverseFaulted parity addr = u at hexec hrest hseq
  have hplan : u.trv.plan = some p := by
    rw [hrest]
    exact hp
  have hmer : u.mer = s.mer := by rw [hrest]
  obtain ⟨hnone, harena, hmer', hrunning, hseq'⟩ := State.killPlan_left hplan code
  rw [State.admitPlans_closed (by rw [hmer', hmer, hw])] at hexec
  exact ⟨_, hexec, hnone, harena, hrunning, hseq'.trans hseq⟩

theorem State.planRestarted_left (s : State) (p : Plan) (w : OpenWindow) :
    (s.planRestarted p w).get (Reg.TRV_Q_HOLD_HOLD p.ctx) = 2 ^ rqSlot p.req ∧ ((s.planRestarted p w).cx p.ctx).arena = none ∧
    (s.planRestarted p w).mem = s.mem := by
  have hcx : (((s.markKill p.window).spendRestart w).setCx p.ctx { s.cx p.ctx with arena := none }).cx p.ctx =
      { s.cx p.ctx with arena := none } := State.cx_setCx _ _ _
  have hmem : (((s.markKill p.window).spendRestart w).setCx p.ctx { s.cx p.ctx with arena := none }).mem = s.mem := rfl
  unfold State.planRestarted
  generalize ((s.markKill p.window).spendRestart w).setCx p.ctx { s.cx p.ctx with arena := none } = u at hcx hmem ⊢
  have hhold := State.get_set_lt u (Reg.TRV_Q_HOLD_HOLD p.ctx) _ (slot_lt p.req)
  exact ⟨hhold, congrArg TrvCtx.arena hcx, hmem⟩

theorem does_traverseFault_restarts {w : OpenWindow} (parity : Bool) (addr : BitVec 48) (hp : s.trv.plan = some p)
    (hw : s.openWindows.find? (fun w => w.index = p.window) = some w) (hv : verdict s.datum p.bound true w = .admitted) :
    Does (.traverseFault parity addr) s (fun t => t.trv.plan = some (restartedPlan p s.datum) ∧
      t.get (Reg.TRV_Q_HOLD_HOLD p.ctx) = 2 ^ rqSlot p.req ∧ (t.cx p.ctx).arena = none ∧ t.mem = s.mem) := by
  have hexec := execTraverseFault_restarts parity addr hp hw hv
  have hrest := s.traverseFaulted_rest parity addr
  generalize s.traverseFaulted parity addr = u at hexec hrest
  have hdatum : u.datum = s.datum := by rw [hrest]
  have hmem : u.mem = s.mem := by rw [hrest]
  obtain ⟨hhold, harena, hmem'⟩ := u.planRestarted_left p w
  refine ⟨_, hexec, ?_, hhold, harena, hmem'.trans hmem⟩
  rw [← hdatum]
  rfl

end

end Sys2Proof.Machine

namespace Sys2Proof.Scope
open Sys2Proof Sys2Proof.Machine Sys2Proof.Safety

/-- Settles O38: the command that a plan's stage awaits carries it on, and any other finds nothing to do; a record changes
nothing of Traverse but its context's completion pointer and last status. -/
theorem traversePlans : Obligations.TraversePlans := by
  unfold Obligations.TraversePlans
  have hconsidered : ∀ {c : Fin 8} {s : State} {w : OpenWindow} {ws : List OpenWindow}, s.openWindows = w :: ws → ws = [] →
      s.cxOrder.find? (fun c => s.cxReady c w) = some c.val → s.trv.plan = none → s.cxRoom c.val = true →
      s.reach (s.cxAttr c.val) false (s.get (Reg.TRV_CX_REQ_BASE_BASE c.val) + 128 * s.get (Reg.TRV_Q_RPTR_RPTR c.val)) 128 = (.ok, s) →
      Considered s c w := fun hw hws hfirst hidle hroom hread => ⟨hws ▸ hw, hfirst, hidle, hroom, hread⟩
  refine ⟨?_, ?_, ?_, ?_, ?_, ?_, ?_, ?_, ?_, ?_, ?_, ?_, ?_, ?_, ?_, ?_⟩
  · intro c s w ws hw hws hfirst hidle hroom hread hspans hchk hfw hv
    exact does_plan_admits (hconsidered hw hws hfirst hidle hroom hread) hspans hchk hfw hv
  · intro c s w ws hw hws hfirst hidle hroom hread hchk hflow
    exact does_plan_fails (hconsidered hw hws hfirst hidle hroom hread) hchk hflow
  · exact fun c s hw => does_plan_closed hw
  · exact fun s p hp hstage hreach => does_fallbackDone hp hstage hreach
  · exact fun s hp => ⟨s, by show execFallbackDone s = done s; rw [execFallbackDone, hp], rfl⟩
  · exact fun s p hp hstage hreach => does_searchEnd hp hstage hreach
  · exact fun s p hp hstage => ⟨s, by show execSearchEnd s = done s; simp only [execSearchEnd, hp, if_pos hstage], rfl⟩
  · exact fun s p hp hstage hreach => does_searchDeadline hp hstage hreach
  · intro s p hp hstage hreach
    obtain ⟨t, hexec, hdone⟩ := does_optimisationEnd hp hstage hreach
    obtain ⟨hplan, hreq, hrank⟩ := hdone.stage
    exact ⟨t, hexec, hplan, hreq, hrank, hdone.hold, hdone.fields, hdone.mem, hdone.datum⟩
  · exact fun s hp => ⟨s, by show execOptimisationEnd s = done s; rw [execOptimisationEnd, hp], rfl⟩
  · intro s p hp hstage _ hreach
    obtain ⟨t, hexec, u, hwaited, hdone⟩ := does_optimisationDeadline hp hstage hreach
    obtain ⟨hplan, hreq, hrank⟩ := hdone.stage
    exact ⟨t, hexec, hplan, hreq, hrank, hdone.waited hwaited⟩
  · intro s p hp hstage hw hflow bank a r hreach hcands _ hfallback hcontrols
    obtain ⟨hexec, h⟩ := execPlanCommit_go hp hstage hw hflow hreach hcands hfallback hcontrols
    exact ⟨_, hexec, h.plan, h.pub, h.seq, h.hold, h.running, h.rptr, h.mem, h.datum⟩
  · exact fun s hp => ⟨s, by show execPlanCommit s = done s; rw [execPlanCommit, hp], rfl⟩
  · exact fun parity addr s p hp hw => does_traverseFault_kills parity addr hp hw
  · exact fun parity addr s p hp w hw hv => does_traverseFault_restarts parity addr hp hw hv
  · exact fun parity addr s hp => ⟨s, by show execTraverseFault parity addr s = done s; rw [execTraverseFault, hp], rfl⟩

end Sys2Proof.Scope

namespace Sys2Proof.Machine
open Sys2Proof Sys2Proof.Safety

/-! # Commands enter the run stage (R91, R93, R95)

What the start of a command changes: the commands in the run stage, their RUNNING bits, and the staged bank of OUT. -/

/-! ## The RUNNING bits -/

/-- The RUNNING bits of Plumb and of the clusters, which follow the commands in the run stage. -/
def runningFields : List Field := Reg.PLB_STATUS_RUNNING :: (List.range 16).map Reg.TEN_CL_STATUS_RUNNING

theorem mem_runningFields {c : Nat} (hc : c ∈ List.range 16) : Reg.TEN_CL_STATUS_RUNNING c ∈ runningFields :=
  List.mem_cons_of_mem _ (List.mem_map_of_mem hc)

theorem State.refreshRunning_rest (s : State) : s.refreshRunning = { s with regs := s.refreshRunning.regs } := by
  have hclusters : ∀ mask, (List.range 16).foldl (fun t c => t.setBit (Reg.TEN_CL_STATUS_RUNNING c) (bitOf mask c)) s =
      { s with regs := ((List.range 16).foldl (fun t c => t.setBit (Reg.TEN_CL_STATUS_RUNNING c) (bitOf mask c)) s).regs } :=
    fun mask => foldl_inv _ (fun t : State => t = { s with regs := t.regs }) _
      (fun t c _ ht => by rw [State.setBit, State.set, ht]) s rfl
  unfold State.refreshRunning
  rw [State.setBit, State.set, hclusters]

theorem State.regsKept_refreshRunning (s : State) : RegsKept runningFields s s.refreshRunning :=
  RegsKept.set (foldl_inv _ (RegsKept runningFields s) _ (fun _ _ hc ht => ht.set (mem_runningFields hc)) s (.refl _ s))
    List.mem_cons_self

/-! ## The command in the run stage -/

section
variable (s : State) (k : Nat) (d : Desc) (c : Cmd)

theorem State.startCmd_rest : s.startCmd k d c =
    { s with regs := (s.startCmd k d c).regs, eng := { s.eng with cmds := (s.startCmd k d c).eng.cmds } } := by
  rw [State.startCmd, State.refreshRunning_rest]
  rfl

theorem State.startCmd_cmds : (s.startCmd k d c).eng.cmds =
    KMap.put s.eng.cmds k { c with index := d.index, ws := d.ws, start := s.datum } := by
  rw [State.startCmd, State.refreshRunning_rest]
  rfl

theorem State.cmd_startCmd : (s.startCmd k d c).cmd k = some { c with index := d.index, ws := d.ws, start := s.datum } := by
  rw [State.cmd, State.startCmd_cmds, KMap.find_put_same]

theorem State.regsKept_startCmd : RegsKept runningFields s (s.startCmd k d c) :=
  State.regsKept_refreshRunning (s.setCmd k { c with index := d.index, ws := d.ws, start := s.datum })

theorem State.startCmd_mem : (s.startCmd k d c).mem = s.mem := by rw [State.startCmd_rest]
theorem State.startCmd_jobs : (s.startCmd k d c).eng.jobs = s.eng.jobs := by rw [State.startCmd_rest]

end

/-! ## Rows written to a staged bank -/

/-- Bytes have been written, and defined or undefined: memory and the undefined ranges differ, nothing else. -/
def Staged (s t : State) : Prop := t = { s with mem := t.mem, unpub := t.unpub }

section
variable {s t u : State}

theorem Staged.refl (s : State) : Staged s s := rfl

theorem Staged.trans (h : Staged s t) (h' : Staged t u) : Staged s u := by
  unfold Staged at *
  rw [h', h]

theorem Staged.wr (h : Staged s t) (a : Nat) (bs : List Nat) : Staged s (t.wr a bs) := h.trans rfl

theorem Staged.define (h : Staged s t) (lo hi : Nat) : Staged s (t.define lo hi) := h.trans rfl

theorem Staged.undefine (h : Staged s t) (lo hi : Nat) : Staged s (t.undefine lo hi) := by
  unfold State.undefine
  split
  · exact h.trans rfl
  · exact h

theorem Staged.foldl {α : Type} {f : State → α → State} {l : List α} (hf : ∀ t x, Staged s t → Staged s (f t x))
    (h : Staged s t) : Staged s (l.foldl f t) :=
  foldl_inv f (Staged s) l (fun t x _ ht => hf t x ht) t h

theorem Staged.defineBank (h : Staged s t) (v : View) : Staged s (t.defineBank v) := by
  unfold State.defineBank
  dsimp only
  split
  · exact (h.define _ _).define _ _
  · exact h.define _ _

theorem Staged.undefineBank (h : Staged s t) (v : View) : Staged s (t.undefineBank v) := by
  unfold State.undefineBank
  dsimp only
  split
  · exact (h.undefine _ _).undefine _ _
  · exact h.undefine _ _

theorem Staged.writeRow (h : Staged s t) (v : View) (row : RowOut) : Staged s (t.writeRow v row).1 := by
  unfold State.writeRow
  dsimp only
  split
  · exact (h.wr _ _).wr _ _
  · exact h.wr _ _

theorem Staged.writeRowsPlain (v : View) (rows : List RowOut) : ∀ {t : State}, Staged s t →
    Staged s (t.writeRowsPlain v rows).1 := by
  induction rows with
  | nil => exact id
  | cons r rows ih => exact fun h => ih (h.writeRow v r)

theorem Staged.writeRowsFrc (h : Staged s t) (v : View) (rows : List RowOut) : Staged s (t.writeRowsFrc v rows).1 :=
  foldl_inv _ (fun p : State × Fl => Staged s p.1) _ (fun _ _ _ hp =>
    foldl_inv _ (fun p : State × Fl => Staged s p.1) _ (fun _ _ _ hq => (hq.wr _ _).wr _ _) _ hp) _ h

theorem Staged.writeRows (h : Staged s t) (v : View) (rows : List RowOut) : Staged s (t.writeRows v rows).1 := by
  have hrows : Staged s (if v.r.frc ≠ 0 then t.writeRowsFrc v rows else t.writeRowsPlain v rows).1 := by
    split
    · exact h.writeRowsFrc v rows
    · exact Staged.writeRowsPlain v rows h
  exact hrows.undefineBank v

theorem Staged.regs (h : Staged s t) : t.regs = s.regs := by rw [h]
theorem Staged.eng (h : Staged s t) : t.eng = s.eng := by rw [h]
theorem Staged.datum (h : Staged s t) : t.datum = s.datum := by rw [h]

theorem Staged.get (h : Staged s t) (f : Field) : t.get f = s.get f := by rw [State.get, h.regs, State.get]

end

/-! ## What rows written leave depends on memory alone -/

/-- The two states have the same memory, and the flags agree. -/
def SameRows (p q : State × Fl) : Prop := p.1.mem = q.1.mem ∧ p.2 = q.2

section
variable {s t : State}

theorem State.undefine_mem (s : State) (lo hi : Nat) : (s.undefine lo hi).mem = s.mem := by
  unfold State.undefine
  split <;> rfl

theorem State.undefineBank_mem (s : State) (v : View) : (s.undefineBank v).mem = s.mem := by
  unfold State.undefineBank
  dsimp only
  split <;> simp only [State.undefine_mem]

theorem State.wr_mem_congr (h : s.mem = t.mem) (a : Nat) (bs : List Nat) : (s.wr a bs).mem = (t.wr a bs).mem :=
  congrArg (Memory.writeBytes · a bs) h

theorem sameRows_writeRow (h : s.mem = t.mem) (v : View) (row : RowOut) : SameRows (s.writeRow v row) (t.writeRow v row) := by
  unfold State.writeRow
  dsimp only
  split
  · exact ⟨State.wr_mem_congr (State.wr_mem_congr h _ _) _ _, rfl⟩
  · exact ⟨State.wr_mem_congr h _ _, rfl⟩

theorem sameRows_writeRowsPlain (v : View) (rows : List RowOut) : ∀ {s t : State}, s.mem = t.mem →
    SameRows (s.writeRowsPlain v rows) (t.writeRowsPlain v rows) := by
  induction rows with
  | nil => exact fun h => ⟨h, rfl⟩
  | cons r rows ih =>
    intro s t h
    obtain ⟨hmem, hfl⟩ := sameRows_writeRow h v r
    obtain ⟨hmem', hfl'⟩ := ih hmem
    exact ⟨hmem', congrArg₂ Fl.or hfl hfl'⟩

theorem sameRows_writeRowsFrc (h : s.mem = t.mem) (v : View) (rows : List RowOut) :
    SameRows (s.writeRowsFrc v rows) (t.writeRowsFrc v rows) := by
  refine List.foldl_rel (r := SameRows) ⟨h, rfl⟩ fun row _ p q hpq => List.foldl_rel (r := SameRows) hpq ?_
  rintro c - p q ⟨hmem, hfl⟩
  exact ⟨State.wr_mem_congr (State.wr_mem_congr hmem _ _) _ _, congrArg (Fl.or · _) hfl⟩

theorem sameRows_writeRows (h : s.mem = t.mem) (v : View) (rows : List RowOut) :
    SameRows (s.writeRows v rows) (t.writeRows v rows) := by
  have hrows : SameRows (if v.r.frc ≠ 0 then s.writeRowsFrc v rows else s.writeRowsPlain v rows)
      (if v.r.frc ≠ 0 then t.writeRowsFrc v rows else t.writeRowsPlain v rows) := by
    split
    · exact sameRows_writeRowsFrc h v rows
    · exact sameRows_writeRowsPlain v rows h
  obtain ⟨hmem, hfl⟩ := hrows
  exact ⟨by rw [State.writeRows, State.writeRows, State.undefineBank_mem, State.undefineBank_mem, hmem], hfl⟩

end

/-! ## Dispatch of a command that can start -/

section
variable {s t : State} {k op : Nat} {active : Bool} {j : Job}

/-- The jobs that were admitted still are. -/
def JobsStay (s t : State) : Prop := ∀ i, (s.job i).isSome = true → (t.job i).isSome = true

theorem jobsStay_of_eq (h : t.eng.jobs = s.eng.jobs) : JobsStay s t := fun i hi => by
  rwa [State.job, h, ← State.job]

theorem KMap.find_isSome_of_mem {α : Type} {m : KMap α} {p : Nat × α} (h : p ∈ m) : (KMap.find m p.1).isSome = true := by
  induction m with
  | nil => exact absurd h List.not_mem_nil
  | cons q m ih =>
    rw [KMap.find]
    split
    · rfl
    · next hne => exact ih ((List.mem_cons.1 h).resolve_left fun e => hne (e ▸ rfl))

/-- Nothing is admitted anew where no job has ended. -/
theorem State.readmit_stay (h : JobsStay s t) : t.readmit s = t := by
  refine if_neg fun hany => ?_
  obtain ⟨p, hp, hnone⟩ := List.any_eq_true.1 hany
  have hstays := h p.1 (KMap.find_isSome_of_mem hp)
  rw [Option.isNone_iff_eq_none.1 hnone] at hstays
  cases hstays

/-- The opcode of a command that can start. -/
theorem opcode_of_ready (h : Ready s k op active j) : (s.desc k (s.get (qRptr k))).opcode = op := by
  obtain ⟨-, -, -, -, -, hop, -⟩ := h
  exact hop

theorem State.dispatch_ready (h : Ready s k op active j) :
    s.dispatch k op active = s.runCmd k (s.desc k (s.get (qRptr k))) j := by
  obtain ⟨hjob, hcmd, hheld, hcopy, hsaved, hop, htiles, hbehind, hdecode⟩ := h
  unfold State.dispatch
  simp [hjob, hcmd, hheld, hcopy, hsaved, hop, htiles, hbehind, hdecode]

/-- A command that can start runs, and nothing is admitted anew. -/
theorem does_dispatched {c : Instr} {P : State → Prop} (hexec : exec c s = done (s.dispatched k op active))
    (h : Ready s k op active j) (hrun : s.runCmd k (s.desc k (s.get (qRptr k))) j = t) (hstay : JobsStay s t) (hP : P t) :
    Does c s P := by
  refine ⟨t, ?_, hP⟩
  rw [hexec, State.dispatched, State.dispatch_ready h, hrun, State.readmit_stay hstay]
  rfl

end
end Sys2Proof.Machine

namespace Sys2Proof.Machine
open Sys2Proof Sys2Proof.Safety

/-! # Operations that run at once (R93, R95) -/

section
variable {s : State} {k op : Nat} {active : Bool} {j : Job} {c : Instr} {out : Rec} {rows : List RowOut} {sts : KMap Stripe}
  {ins : List View}

theorem State.runOp_reached (d : Desc) (h : Reaches s k ins out) :
    s.runOp k d ins out rows sts = s.runRows k d out rows sts := by
  unfold State.runOp
  dsimp only
  rw [h]
  rfl

section
variable (s k out rows sts) (d : Desc)

theorem State.runRows_mem : (s.runRows k d out rows sts).mem = (s.writeRows out.outView rows).1.mem := State.startCmd_mem ..

theorem State.cmd_runRows : (s.runRows k d out rows sts).cmd k = some
    { index := d.index, ws := d.ws, outs := [out.addr], fl := (s.writeRows out.outView rows).2, start := s.datum,
      undo := s.undoOf k out, stripes := sts } := by
  have h := State.cmd_startCmd (s.writeRows out.outView rows).1 k d
    { index := 0, ws := [], outs := [out.addr], fl := (s.writeRows out.outView rows).2, undo := s.undoOf k out, stripes := sts }
  rw [((Staged.refl s).writeRows out.outView rows).datum] at h
  exact h

theorem State.regsKept_runRows : RegsKept runningFields s (s.runRows k d out rows sts) :=
  RegsKept.trans (RegsKept.congr ((Staged.refl s).writeRows out.outView rows).regs (.refl _ s))
    (State.regsKept_startCmd _ _ _ _)

theorem State.runRows_rest : s.runRows k d out rows sts =
    { s with mem := (s.runRows k d out rows sts).mem, unpub := (s.runRows k d out rows sts).unpub,
             regs := (s.runRows k d out rows sts).regs,
             eng := { s.eng with cmds := (s.runRows k d out rows sts).eng.cmds } } := by
  have hstaged := (Staged.refl s).writeRows out.outView rows
  unfold State.runRows
  generalize s.writeRows out.outView rows = p at hstaged ⊢
  obtain ⟨u, fl⟩ := p
  dsimp only at hstaged ⊢
  have hrest := State.startCmd_rest u k d
    { index := 0, ws := [], outs := [out.addr], fl := fl, undo := s.undoOf k out, stripes := sts }
  generalize u.startCmd k _ _ = t at hrest ⊢
  rw [hrest, hstaged]

end

/-- Rows written, then the command in the run stage. -/
theorem ran_runRows : Ran s (s.runRows k (s.desc k (s.get (qRptr k))) out rows sts) k out rows sts :=
  ⟨s.runRows_mem .., s.cmd_runRows .., s.regsKept_runRows k out rows sts _, s.runRows_rest ..⟩

theorem jobs_of_ran {t : State} (h : Ran s t k out rows sts) : t.eng.jobs = s.eng.jobs := by
  obtain ⟨-, -, -, hrest⟩ := h
  rw [hrest]

/-- A command whose opcode runs as one operation leaves its rows in the staged bank of OUT. -/
theorem does_ran (hexec : exec c s = done (s.dispatched k op active)) (h : Ready s k op active j)
    (hreach : Reaches s k ins out)
    (hrun : s.runCmd k (s.desc k (s.get (qRptr k))) j = s.runOp k (s.desc k (s.get (qRptr k))) ins out rows sts) :
    Does c s (fun t => Ran s t k out rows sts) := by
  rw [State.runOp_reached _ hreach] at hrun
  exact does_dispatched hexec h hrun (jobsStay_of_eq (jobs_of_ran ran_runRows)) ran_runRows

end

/-! ## What each opcode runs -/

section
variable {s : State} {k : Nat} {d : Desc} {j : Job} {a b o x : Rec}

theorem State.runCmd_gemm (hop : d.opcode = 0x01) (ha : (s.recs k d).a = some a) (hb : (s.recs k d).b = some b)
    (ho : (s.recs k d).out = some o) : s.runCmd k d j =
      s.runOp k d ([j.inView a, j.inView b] ++ ((s.recs k d).aux.map j.inView).toList) o
        (gemmRows s d (j.inView a) (j.inView b) ((s.recs k d).aux.map j.inView) o) := by
  simp only [State.runCmd, hop, ha, hb, ho]

/-- CONV and DWCONV run alike. -/
theorem State.runCmd_conv (hop : d.opcode = 0x02 ∨ d.opcode = 0x03) (ha : (s.recs k d).a = some a)
    (hb : (s.recs k d).b = some b) (ho : (s.recs k d).out = some o) : s.runCmd k d j =
      s.runConv k d (j.inView a) (j.inView b) ((s.recs k d).aux.map j.inView) o := by
  rcases hop with hop | hop <;> simp only [State.runCmd, hop, ha, hb, ho]

theorem State.runCmd_pool (hop : d.opcode = 0x04) (ha : (s.recs k d).a = some a) (ho : (s.recs k d).out = some o) :
    s.runCmd k d j = s.runOp k d [j.inView a] o (poolRows s d (j.inView a) o)
      (computedStripes (stripesOf d (poolWin d).row0 (poolWin d).rows)) := by
  simp only [State.runCmd, hop, ha, ho]

theorem State.runCmd_eltwise (hop : d.opcode = 0x05) (ha : (s.recs k d).a = some a) (ho : (s.recs k d).out = some o) :
    s.runCmd k d j = s.runOp k d ([j.inView a] ++ ((s.recs k d).b.map j.inView).toList) o
      (eltRows s d (j.inView a) ((s.recs k d).b.map j.inView) o) := by
  simp only [State.runCmd, hop, ha, ho]

theorem State.runCmd_reduce (hop : d.opcode = 0x06) (ha : (s.recs k d).a = some a) (ho : (s.recs k d).out = some o) :
    s.runCmd k d j = s.runOp k d [j.inView a] o (reduceRows s d (j.inView a) o) := by
  simp only [State.runCmd, hop, ha, ho]

theorem State.runCmd_softmax (hop : d.opcode = 0x07) (ha : (s.recs k d).a = some a) (ho : (s.recs k d).out = some o) :
    s.runCmd k d j = s.runOp k d ([j.inView a] ++ ((s.recs k d).aux.map j.inView).toList) o
      (softmaxRows s d (j.inView a) ((s.recs k d).aux.map j.inView) o) := by
  simp only [State.runCmd, hop, ha, ho]

theorem State.runCmd_norm (hop : d.opcode = 0x08) (ha : (s.recs k d).a = some a) (ho : (s.recs k d).out = some o) :
    s.runCmd k d j = s.runOp k d ([j.inView a] ++ ((s.recs k d).aux.map j.inView).toList) o
      (normRows s d (j.inView a) ((s.recs k d).aux.map j.inView) o) := by
  simp only [State.runCmd, hop, ha, ho]

theorem State.runCmd_gather (hop : d.opcode = 0x09) (ha : (s.recs k d).a = some a) (ho : (s.recs k d).out = some o)
    (hx : (s.recs k d).aux = some x) :
    s.runCmd k d j = s.runOp k d [j.inView a, j.inView x] o (gatherRows s d (j.inView a) (j.inView x) o) := by
  simp only [State.runCmd, hop, ha, ho, hx]

theorem State.runCmd_scatter (hop : d.opcode = 0x0A) (ha : (s.recs k d).a = some a) (ho : (s.recs k d).out = some o)
    (hx : (s.recs k d).aux = some x) :
    s.runCmd k d j = s.runOp k d [j.inView a, j.inView x, j.inView o] o
      (scatterRows s d (j.inView a) (j.inView x) (j.inView o) o) := by
  simp only [State.runCmd, hop, ha, ho, hx]

theorem State.runCmd_pagedAttn (hop : d.opcode = 0x0B) (ha : (s.recs k d).a = some a) (ho : (s.recs k d).out = some o) :
    s.runCmd k d j = s.runAttn k d j (j.inView a) o := by
  simp only [State.runCmd, hop, ha, ho]

theorem State.runCmd_fold (hop : d.opcode = 0x0C) (ha : (s.recs k d).a = some a) (ho : (s.recs k d).out = some o) :
    s.runCmd k d j = s.runOp k d [j.inView a] o (foldRows s d (j.inView a) o) := by
  simp only [State.runCmd, hop, ha, ho]

theorem State.runCmd_unfold (hop : d.opcode = 0x0D) (ha : (s.recs k d).a = some a) (ho : (s.recs k d).out = some o) :
    s.runCmd k d j = s.runOp k d [j.inView a] o (unfoldRows s d (j.inView a) o) := by
  simp only [State.runCmd, hop, ha, ho]

theorem State.runCmd_tdma (hop : d.opcode = 0x0E) (ha : (s.recs k d).a = some a) (ho : (s.recs k d).out = some o) :
    s.runCmd k d j = if d.b 8 0 then s.runRaw k d (j.inView a) o else
      s.runOp k d [j.inView a] o (tdmaRows s (j.inView a) o) := by
  simp only [State.runCmd, hop, ha, ho]

theorem State.runCmd_collective (hop : d.opcode = 0x0F) (ha : (s.recs k d).a = some a) (ho : (s.recs k d).out = some o) :
    s.runCmd k d j = s.runColl k d (j.inView a) o := by
  simp only [State.runCmd, hop, ha, ho]

theorem State.runCmd_fence (hop : d.opcode = 0x10) :
    s.runCmd k d j = s.startCmd k d { index := 0, ws := [], waiting := !s.fenceMet k d } := by
  simp only [State.runCmd, hop]

theorem State.runCmd_commit (hop : d.opcode = 0x11) (hserved : s.stepServed k j = true) (htrain : s.training k = none) :
    s.runCmd k d j = s.startCmd k d { index := 0, ws := [] } := by
  simp only [State.runCmd, hop, hserved, if_true, State.runCommit, htrain]

end

/-! ## CONV and DWCONV (R94, R121, R123) -/

/-- A command is in the run stage with its stripes, fully computed, and its rows stand in the staged bank of OUT. -/
abbrev ConvRan (s t : State) (k : Nat) (d : Desc) (a b : View) (aux : Option View) (o : Rec) : Prop :=
  t.mem = (s.writeRows o.outView (convRows s d a b aux o)).1.mem ∧
    (t.cmd k).map (fun c => (c.desc, c.outs, c.rowWise, c.waiting, c.start)) = some (d, [o.addr], false, false, s.datum) ∧
    (t.cmd k).map (fun c => c.stripes.map (fun p => (p.1, p.2.first, p.2.limit, p.2.computed))) =
      some ((stripesOf d (convWin d b.r).row0 (convWin d b.r).rows).map
        (fun p => (p.1, p.2.first, p.2.limit, p.2.limit - p.2.first))) ∧
    t = { s with mem := t.mem, unpub := t.unpub, regs := t.regs, eng := { s.eng with cmds := t.eng.cmds } } ∧
    RegsKept runningFields s t

/-- A command is in the run stage with its stripes uncomputed, and no byte is written. -/
abbrev ConvBegun (s t : State) (k : Nat) (d : Desc) (b : View) (o : Rec) (rowWise : Bool) : Prop :=
  t.mem = s.mem ∧ (t.cmd k).map (fun c => (c.desc, c.outs, c.rowWise, c.start)) = some (d, [o.addr], rowWise, s.datum) ∧
    (t.cmd k).map (fun c => c.stripes) = some (stripesOf d (convWin d b.r).row0 (convWin d b.r).rows) ∧
    t = { s with mem := t.mem, unpub := t.unpub, regs := t.regs, eng := { s.eng with cmds := t.eng.cmds } } ∧
    RegsKept runningFields s t

section
variable {s : State} {k op : Nat} {j : Job} {c : Instr} {a b : View} {aux : Option View} {out : Rec}

theorem convRan_of_ran {t : State} (h : Ran s t k out (convRows s (s.desc k (s.get (qRptr k))) a b aux out)
      (computedStripes (stripesOf (s.desc k (s.get (qRptr k))) (convWin (s.desc k (s.get (qRptr k))) b.r).row0
        (convWin (s.desc k (s.get (qRptr k))) b.r).rows))) :
    ConvRan s t k (s.desc k (s.get (qRptr k))) a b aux out := by
  obtain ⟨hmem, hcmd, hkept, hrest⟩ := h
  refine ⟨hmem, ?_, ?_, hrest, hkept⟩
  · rw [hcmd]
    rfl
  · rw [hcmd, Option.map_some, computedStripes, List.map_map]
    rfl

/-- A convolution that neither waits on a mark nor posts one computes its stripes at once. -/
theorem does_convRan (hexec : exec c s = done (s.dispatched k op false)) (h : Ready s k op false j)
    (hrun : s.runCmd k (s.desc k (s.get (qRptr k))) j = s.runConv k (s.desc k (s.get (qRptr k))) a b aux out)
    (hwaits : (s.desc k (s.get (qRptr k))).waits = false) (hposts : (s.desc k (s.get (qRptr k))).posts = false)
    (hreach : Reaches s k ([a, b] ++ aux.toList) out) :
    Does c s (fun t => ConvRan s t k (s.desc k (s.get (qRptr k))) a b aux out) := by
  simp only [State.runConv, hwaits, hposts, Bool.or_self, Bool.false_eq_true, if_false] at hrun
  obtain ⟨t, ht, hran⟩ := does_ran hexec h hreach hrun
  exact ⟨t, ht, convRan_of_ran hran⟩

/-- The command that a convolution with uncomputed stripes puts into the run stage. -/
def convCmd (d : Desc) (b : View) (out : Rec) (rowWise : Bool) (undo : List (Nat × List Nat)) : Cmd :=
  { index := 0, ws := [], outs := [out.addr], rowWise := rowWise, undo := undo,
    stripes := stripesOf d (convWin d b.r).row0 (convWin d b.r).rows }

theorem convBegun_startCmd (rowWise : Bool) (undo : List (Nat × List Nat)) :
    ConvBegun s (s.startCmd k (s.desc k (s.get (qRptr k))) (convCmd (s.desc k (s.get (qRptr k))) b out rowWise undo))
      k (s.desc k (s.get (qRptr k))) b out rowWise := by
  refine ⟨State.startCmd_mem .., ?_, ?_, ?_, State.regsKept_startCmd s _ _ _⟩
  · rw [State.cmd_startCmd]
    rfl
  · rw [State.cmd_startCmd]
    rfl
  · have hrest := State.startCmd_rest s k (s.desc k (s.get (qRptr k))) (convCmd (s.desc k (s.get (qRptr k))) b out rowWise undo)
    generalize s.startCmd k _ _ = t at hrest ⊢
    rw [hrest]

/-- A convolution that waits on a mark starts with its stripes uncomputed, and reads its rows later one by one. -/
theorem does_convWaits (hexec : exec c s = done (s.dispatched k op false)) (h : Ready s k op false j)
    (hrun : s.runCmd k (s.desc k (s.get (qRptr k))) j = s.runConv k (s.desc k (s.get (qRptr k))) a b aux out)
    (hwaits : (s.desc k (s.get (qRptr k))).waits = true) (hreach : Reaches s k ([b] ++ aux.toList) out) :
    Does c s (fun t => ConvBegun s t k (s.desc k (s.get (qRptr k))) b out true) := by
  simp only [State.runConv, hwaits, Bool.true_or, if_true, hreach] at hrun
  exact does_dispatched hexec h hrun (jobsStay_of_eq (State.startCmd_jobs ..)) (convBegun_startCmd true (s.undoOf k out))

/-- A convolution that only posts a mark starts with its stripes uncomputed. -/
theorem does_convPosts (hexec : exec c s = done (s.dispatched k op false)) (h : Ready s k op false j)
    (hrun : s.runCmd k (s.desc k (s.get (qRptr k))) j = s.runConv k (s.desc k (s.get (qRptr k))) a b aux out)
    (hwaits : (s.desc k (s.get (qRptr k))).waits = false) (hposts : (s.desc k (s.get (qRptr k))).posts = true)
    (hreach : Reaches s k ([a, b] ++ aux.toList) out) :
    Does c s (fun t => ConvBegun s t k (s.desc k (s.get (qRptr k))) b out false) := by
  simp only [State.runConv, hwaits, hposts, Bool.false_or, Bool.false_eq_true, if_true, if_false, hreach] at hrun
  exact does_dispatched hexec h hrun (jobsStay_of_eq (State.startCmd_jobs ..)) (convBegun_startCmd false (s.undoOf k out))

end
end Sys2Proof.Machine

namespace Sys2Proof.Scope
open Sys2Proof Sys2Proof.Machine Sys2Proof.Safety

/-- Settles O19: the command that can start runs as its opcode says; CONV and DWCONV run alike. -/
theorem tensorArrayCommands : Obligations.TensorArrayCommands := by
  unfold Obligations.TensorArrayCommands
  refine ⟨?_, ?_, ?_, ?_, ?_, ?_, ?_, ?_⟩
  · intro eng q s k j _ h d a ha b hb o ho x hreach
    exact does_ran rfl h hreach (State.runCmd_gemm (opcode_of_ready h) ha hb ho)
  · intro eng q s k j _ h d a ha b hb o ho x hwaits hposts hreach
    exact does_convRan rfl h (State.runCmd_conv (.inl (opcode_of_ready h)) ha hb ho) hwaits hposts hreach
  · intro eng q s k j _ h d a ha b hb o ho x hwaits _ hreach
    exact does_convWaits rfl h (State.runCmd_conv (.inl (opcode_of_ready h)) ha hb ho) hwaits hreach
  · intro eng q s k j _ h d a ha b hb o ho x hwaits hposts hreach
    exact does_convPosts rfl h (State.runCmd_conv (.inl (opcode_of_ready h)) ha hb ho) hwaits hposts hreach
  · intro eng q s k j _ h d a ha b hb o ho x hwaits hposts hreach
    exact does_convRan rfl h (State.runCmd_conv (.inr (opcode_of_ready h)) ha hb ho) hwaits hposts hreach
  · intro eng q s k j _ h d a ha b hb o ho x hwaits _ hreach
    exact does_convWaits rfl h (State.runCmd_conv (.inr (opcode_of_ready h)) ha hb ho) hwaits hreach
  · intro eng q s k j _ h d a ha b hb o ho x hwaits hposts hreach
    exact does_convPosts rfl h (State.runCmd_conv (.inr (opcode_of_ready h)) ha hb ho) hwaits hposts hreach
  · intro eng q s k j _ h d a ha o ho hreach
    exact does_ran rfl h hreach (State.runCmd_pool (opcode_of_ready h) ha ho)

/-- Settles O20: each opcode runs as one operation on its operands' banks. -/
theorem tensorElementCommands : Obligations.TensorElementCommands := by
  unfold Obligations.TensorElementCommands
  refine ⟨?_, ?_, ?_, ?_, ?_, ?_⟩
  · intro eng q s k j _ h d a ha b o ho hreach
    exact does_ran rfl h hreach (State.runCmd_eltwise (opcode_of_ready h) ha ho)
  · intro eng q s k j _ h d a ha o ho hreach
    exact does_ran rfl h hreach (State.runCmd_reduce (opcode_of_ready h) ha ho)
  · intro eng q s k j _ h d a ha o ho x hreach
    exact does_ran rfl h hreach (State.runCmd_softmax (opcode_of_ready h) ha ho)
  · intro eng q s k j _ h d a ha o ho x hreach
    exact does_ran rfl h hreach (State.runCmd_norm (opcode_of_ready h) ha ho)
  · intro eng q s k j _ h d a ha o ho x hx hreach
    exact does_ran rfl h hreach (State.runCmd_gather (opcode_of_ready h) ha ho hx)
  · intro eng q s k j _ h d a ha o ho x hx hreach
    exact does_ran rfl h hreach (State.runCmd_scatter (opcode_of_ready h) ha ho hx)

end Sys2Proof.Scope

namespace Sys2Proof.Machine
open Sys2Proof Sys2Proof.Safety

/-! # TDMA with RAW = 1 (R93) -/

theorem Memory.readBytes_lt (m : List Host.Cell) : ∀ (n a : Nat), ∀ b ∈ Memory.readBytes m a n, b < 256
  | 0, _, _, hb => absurd hb List.not_mem_nil
  | n + 1, a, b, hb => by
    rcases List.mem_cons.1 hb with rfl | hb
    · exact (Memory.read m a).isLt
    · exact Memory.readBytes_lt m n (a + 1) b hb

/-- Bytes copied are read back. -/
theorem State.rd_wr_rd (s : State) (dst src n : Nat) : (s.wr dst (s.rd src n)).rd dst n = s.rd src n := by
  have h := s.rd_wr dst (Memory.readBytes_lt s.mem n src)
  rwa [show (Memory.readBytes s.mem src n).length = n from Memory.length_readBytes _ _ _] at h

section
variable {s : State} {k op : Nat} {j : Job} {c : Instr} {a : View} {out : Rec}

/-- A raw copy: the bytes at the destination, nothing outside it, and the command in the run stage. -/
abbrev RawRan (s t : State) (k : Nat) (d : Desc) (src dst : Nat) (out : Rec) : Prop :=
  t.rd dst (d.w 9) = s.rd src (d.w 9) ∧ MemKept dst (dst + d.w 9) s t ∧
    (t.cmd k).map (fun c => (c.desc, c.outs, c.start)) = some (d, [out.addr], s.datum) ∧
    t = { s with mem := t.mem, unpub := t.unpub, regs := t.regs, eng := { s.eng with cmds := t.eng.cmds } }

theorem rawRan_startCmd (d : Desc) (src dst : Nat) (undo : List (Nat × List Nat)) :
    RawRan s (((s.wr dst (s.rd src (d.w 9))).undefineBank out.outView).startCmd k d
      { index := 0, ws := [], outs := [out.addr], undo := undo }) k d src dst out := by
  have hstaged := ((Staged.refl s).wr dst (s.rd src (d.w 9))).undefineBank out.outView
  have hmem := State.undefineBank_mem (s.wr dst (s.rd src (d.w 9))) out.outView
  generalize (s.wr dst (s.rd src (d.w 9))).undefineBank out.outView = u at hstaged hmem
  have hread : (u.startCmd k d { index := 0, ws := [], outs := [out.addr], undo := undo }).mem =
      (s.wr dst (s.rd src (d.w 9))).mem := (State.startCmd_mem ..).trans hmem
  refine ⟨?_, fun b hb => ?_, ?_, ?_⟩
  · rw [State.rd, hread]
    exact s.rd_wr_rd dst src (d.w 9)
  · rw [hread]
    exact memKept_wr s dst (d.w 9) (State.length_rd s src (d.w 9)).le b hb
  · rw [State.cmd_startCmd, hstaged.datum]
    rfl
  · have hrest := State.startCmd_rest u k d { index := 0, ws := [], outs := [out.addr], undo := undo }
    generalize u.startCmd k d _ = t at hrest ⊢
    rw [hrest, hstaged]

/-- What a raw copy reads and writes. -/
def State.rawSpans (s : State) (k : Nat) (d : Desc) (a : View) (out : Rec) : List Span :=
  [⟨s.qAttr k, false, a.base + d.w 10, d.w 9⟩, ⟨s.qAttr k, true, out.outView.base + d.w 11, d.w 9⟩]

theorem State.runRaw_reached (d : Desc) (h : s.reachSpans (s.rawSpans k d a out) = (Code.ok, s)) : s.runRaw k d a out =
    ((s.wr (out.outView.base + d.w 11) (s.rd (a.base + d.w 10) (d.w 9))).undefineBank out.outView).startCmd k d
      { index := 0, ws := [], outs := [out.addr], undo := s.undoOf k out } := by
  unfold State.rawSpans at h
  simp only [State.runRaw, h, Code.ok]

theorem does_raw (hexec : exec c s = done (s.dispatched k op false)) (h : Ready s k op false j)
    (hrun : s.runCmd k (s.desc k (s.get (qRptr k))) j = s.runRaw k (s.desc k (s.get (qRptr k))) a out)
    (hreach : s.reachSpans (s.rawSpans k (s.desc k (s.get (qRptr k))) a out) = (Code.ok, s)) :
    Does c s (fun t => RawRan s t k (s.desc k (s.get (qRptr k))) (a.base + (s.desc k (s.get (qRptr k))).w 10)
      (out.outView.base + (s.desc k (s.get (qRptr k))).w 11) out) := by
  rw [State.runRaw_reached _ hreach] at hrun
  refine does_dispatched hexec h hrun (jobsStay_of_eq ?_) (rawRan_startCmd _ _ _ _)
  rw [State.startCmd_jobs, (((Staged.refl s).wr _ _).undefineBank _).eng]

end

/-! # The registers of a queue (R157, R189) -/

/-- A register of the blocks that hold the queues'. -/
def QueueField (f : Field) : Prop := f.lo < 64 ∧ ((0x13000000 ≤ f.addr ∧ f.addr < 0x1300F000) ∨
  (0x13010000 ≤ f.addr ∧ f.addr < 0x13020000) ∨ (0x1A800000 ≤ f.addr ∧ f.addr < 0x1AA00000))

theorem qKey_lt (eng : Engine) (q : Fin 256) : qKey eng q.val < 264 := by
  cases eng <;> simp only [qKey] <;> omega

theorem queueField_qSel {k : Nat} {t p : Nat → Field} (hk : k < 264) (ht : ∀ q < 256, QueueField (t q))
    (hp : ∀ q < 8, QueueField (p q)) : QueueField (qSel k t p) := by
  unfold qSel isPlumb
  split
  · next h => exact hp _ (by have := of_decide_eq_true h; omega)
  · next h => exact ht _ (by have := of_decide_eq_false (Bool.eq_false_iff.2 h); omega)

theorem queueField_rptr {k : Nat} (hk : k < 264) : QueueField (qRptr k) :=
  queueField_qSel hk (fun q _ => by simp only [QueueField, Reg.MBX_Q_RPTR_RPTR, Reg.MBX_Q_RPTR_addr]; omega)
    (fun q _ => by simp only [QueueField, Reg.PLB_Q_RPTR_RPTR, Reg.PLB_Q_RPTR_addr]; omega)

/-- The commands' RUNNING bits are no register of a queue. -/
theorem get_of_running {s t : State} {f : Field} (h : RegsKept runningFields s t) (hf : QueueField f) : t.get f = s.get f := by
  refine h f fun hmem => ?_
  obtain ⟨g, hg, hkey⟩ := List.mem_map.1 hmem
  obtain ⟨hlo, haddr⟩ := hf
  rcases List.mem_cons.1 hg with rfl | hg
  · simp only [Field.key, Reg.PLB_STATUS_RUNNING, Reg.PLB_STATUS_addr] at hkey
    omega
  · obtain ⟨c, hc, rfl⟩ := List.mem_map.1 hg
    have hc := List.mem_range.1 hc
    simp only [Field.key, Reg.TEN_CL_STATUS_RUNNING, Reg.TEN_CL_STATUS_addr] at hkey
    omega

/-! # PAGED_ATTN (R134, R137–R142) -/

/-! ## The page stream -/

/-- Page streams have run: page descriptors left, the KV caches filled and their statistics counted. -/
structure Streamed (s t : State) : Prop where
  rest : t = { s with out := t.out, regs := t.regs, eng := { s.eng with kvLines := t.eng.kvLines } }
  fields : ∀ f, QueueField f → t.get f = s.get f

section
variable {s t : State}

theorem Streamed.refl (s : State) : Streamed s s := ⟨rfl, fun _ _ => rfl⟩

theorem Streamed.trans {u : State} (h : Streamed s t) (h' : Streamed t u) : Streamed s u := by
  refine ⟨?_, fun f hf => (h'.fields f hf).trans (h.fields f hf)⟩
  have ht := h.rest
  have hu := h'.rest
  rw [hu, ht]

theorem Streamed.emitPage (h : Streamed s t) (x : PageStream) (c : Nat) (append : Bool) (lp head0 heads slot0 tokens : Nat) :
    Streamed s (t.emitPage x c append lp head0 heads slot0 tokens) := h.trans ⟨rfl, fun _ _ => rfl⟩

/-- The statistics of a KV cache are no register of a queue. -/
theorem streamed_setStat {g : Field} (s : State) (v : Nat) (hlo : g.lo < 64)
    (haddr : 0x11000000 ≤ g.addr ∧ g.addr < 0x12000000) : Streamed s (s.set g v) := by
  refine ⟨rfl, fun f hf => State.get_set_other _ _ _ _ ?_⟩
  obtain ⟨hlo', haddr'⟩ := hf
  simp only [Field.key]
  omega

theorem Streamed.kvFetch {c : Nat} (h : Streamed s t) (hc : c < 16) (line : KvLine) : Streamed s (t.kvFetch c line) := by
  have hmiss : ∀ v, Streamed t (t.set (Reg.TEN_KV_STAT_MISS c) v) := fun v => streamed_setStat t v (show 16 < 64 by decide)
    (by simp only [Reg.TEN_KV_STAT_MISS, Reg.TEN_KV_STAT_addr]; omega)
  have hhit : ∀ v, Streamed t (t.set (Reg.TEN_KV_STAT_HIT c) v) := fun v => streamed_setStat t v (show 0 < 64 by decide)
    (by simp only [Reg.TEN_KV_STAT_HIT, Reg.TEN_KV_STAT_addr]; omega)
  unfold State.kvFetch
  split
  · exact h.trans (hmiss _)
  · dsimp only
    split
    · exact (h.trans (hhit _)).trans ⟨rfl, fun _ _ => rfl⟩
    · exact (h.trans (hmiss _)).trans ⟨rfl, fun _ _ => rfl⟩

theorem Streamed.pageStream {c : Nat} (h : Streamed s t) (hc : c < 16) (x : PageStream) (head0 heads : Nat) :
    Streamed s (t.pageStream x c head0 heads) :=
  foldl_inv _ (Streamed s) _ (fun _ _ _ hu => (hu.emitPage ..).kvFetch hc _) _
    (foldl_inv _ (Streamed s) _ (fun _ _ _ hu => hu.emitPage ..) _ h)

theorem nthNat_lt {n : Nat} (hn : 0 < n) : ∀ (l : List Nat) (i : Nat), (∀ x ∈ l, x < n) → nthNat l i < n
  | [], _, _ => hn
  | x :: _, 0, h => h x List.mem_cons_self
  | _ :: xs, i + 1, h => nthNat_lt hn xs i fun y hy => h y (List.mem_cons_of_mem _ hy)

theorem clusterList_lt {m c : Nat} (h : c ∈ clusterList m) : c < 16 := List.mem_range.1 (List.mem_of_mem_filter h)

theorem Streamed.pageStreams (h : Streamed s t) (x : PageStream) : Streamed s (t.pageStreams x) :=
  foldl_inv _ (Streamed s) _
    (fun _ _ _ hu => hu.pageStream (nthNat_lt (by decide) _ _ fun _ => clusterList_lt) _ _ _) _ h

end

/-! ## The append -/

theorem Staged.appendAll {s t : State} (h : Staged s t) (p : KvPool) (r : SeqRow) (v : View) (l : Nat) :
    Staged s (t.appendAll p r v l) :=
  h.foldl fun _ _ hu => hu.foldl fun _ _ hw => (((hw.wr _ _).wr _ _).wr _ _).wr _ _

/-! ## Dispatch -/

section
variable {s : State} {k : Nat} {j : Job} {c : Instr} {a : View} {out : Rec} {p : KvPool}

/-- The state in which the attention of a row is computed: the new keys and values appended, the pages streamed. -/
def State.attnReady (s : State) (k : Nat) (d : Desc) (j : Job) (p : KvPool) : State :=
  (s.appendAll p (s.row (d.f 8 11 0)) (j.inView (s.newKvRec k (s.row (d.f 8 11 0)))) (d.f 10 23 16)).pageStreams
    ⟨d, s.row (d.f 8 11 0), p, j.inView (s.newKvRec k (s.row (d.f 8 11 0)))⟩

/-- What PAGED_ATTN reads and writes. -/
def State.attnSpans (s : State) (k : Nat) (d : Desc) (j : Job) (a : View) (out : Rec) (p : KvPool) : List Span :=
  a.spans (s.qAttr k) false ++ (j.inView (s.newKvRec k (s.row (d.f 8 11 0)))).spans (s.qAttr k) false ++
    out.outView.spans (s.qAttr k) true ++ pageSpans p (s.row (d.f 8 11 0)) (d.f 10 23 16)

/-- The state with the attention rows written and the command in the run stage. -/
def State.attnWritten (s : State) (k : Nat) (d : Desc) (j : Job) (a : View) (out : Rec) (p : KvPool) : State :=
  (s.attnReady k d j p).runRows k d out ((s.attnReady k d j p).attnRows d a p (s.row (d.f 8 11 0)) out)

theorem State.runAttn_reached (d : Desc) (hp : s.pool (s.row (d.f 8 11 0)).pool = some p)
    (hreach : s.reachSpans (s.attnSpans k d j a out p) = (Code.ok, s)) (hjob : (s.attnWritten k d j a out p).job k = some j) :
    s.runAttn k d j a out = (s.attnWritten k d j a out p).setJob k
      { j with attended := (d.f 8 11 0, d.f 10 23 16) :: j.attended } := by
  unfold State.attnSpans at hreach
  unfold State.attnWritten State.attnReady at hjob ⊢
  simp only [State.runAttn, hp, hreach, Code.ok, hjob]

/-- What the state with the attention rows keeps. -/
theorem State.attnReady_rest (d : Desc) : (s.attnReady k d j p).eng.jobs = s.eng.jobs ∧
    (s.attnReady k d j p).datum = s.datum ∧ ∀ f, QueueField f → (s.attnReady k d j p).get f = s.get f := by
  have hstaged := (Staged.refl s).appendAll p (s.row (d.f 8 11 0)) (j.inView (s.newKvRec k (s.row (d.f 8 11 0)))) (d.f 10 23 16)
  unfold State.attnReady
  generalize s.appendAll p _ _ _ = u at hstaged ⊢
  have hstream := (Streamed.refl u).pageStreams ⟨d, s.row (d.f 8 11 0), p, j.inView (s.newKvRec k (s.row (d.f 8 11 0)))⟩
  have hrest := hstream.rest
  refine ⟨?_, ?_, fun f hf => (hstream.fields f hf).trans (hstaged.get f)⟩
  · rw [hrest, hstaged.eng]
  · rw [hrest, hstaged.datum]

/-- A row and a layer are attended. -/
abbrev Attended (s t : State) (k : Nat) (d : Desc) (j : Job) (a : View) (out : Rec) (p : KvPool) : Prop :=
  t.mem = ((s.attnReady k d j p).writeRows out.outView ((s.attnReady k d j p).attnRows d a p (s.row (d.f 8 11 0)) out)).1.mem ∧
    (t.job k).map (fun j => j.attended) = some ((d.f 8 11 0, d.f 10 23 16) :: j.attended) ∧
    (t.cmd k).map (fun c => (c.desc, c.outs, c.start)) = some (d, [out.addr], s.datum) ∧
    t.get (qRptr k) = s.get (qRptr k) ∧ t.datum = s.datum

theorem jobsStay_setJob {t : State} (h : JobsStay s t) : JobsStay s (t.setJob k j) := fun i hi => by
  unfold State.job State.setJob
  by_cases hik : i = k
  · rw [hik, KMap.find_put_same]
    rfl
  · rw [KMap.find_put_other _ _ _ _ hik]
    exact h i hi

theorem State.attnWritten_jobs (d : Desc) : (s.attnWritten k d j a out p).eng.jobs = s.eng.jobs := by
  rw [State.attnWritten, State.runRows_rest, ← (s.attnReady_rest (k := k) (j := j) (p := p) d).1]

theorem attended_attnWritten (hk : k < 264) (d : Desc) : Attended s ((s.attnWritten k d j a out p).setJob k
    { j with attended := (d.f 8 11 0, d.f 10 23 16) :: j.attended }) k d j a out p := by
  obtain ⟨-, hdatum, hget⟩ := s.attnReady_rest (k := k) (j := j) (p := p) d
  unfold Attended State.attnWritten
  generalize (s.attnReady k d j p).attnRows d a p (s.row (d.f 8 11 0)) out = rows
  generalize s.attnReady k d j p = u at hdatum hget ⊢
  have hmem := u.runRows_mem k out rows [] d
  have hcmd := u.cmd_runRows k out rows [] d
  have hrptr := get_of_running (u.regsKept_runRows k out rows [] d) (queueField_rptr hk)
  have htime : (u.runRows k d out rows).datum = u.datum := by rw [State.runRows_rest]
  generalize u.runRows k d out rows = w at hmem hcmd hrptr htime ⊢
  refine ⟨hmem, ?_, ?_, hrptr.trans (hget _ (queueField_rptr hk)), htime.trans hdatum⟩
  · rw [State.job, State.setJob, KMap.find_put_same]
    rfl
  · rw [hdatum] at hcmd
    exact congrArg (Option.map fun c => (c.desc, c.outs, c.start)) hcmd

theorem does_attended (hk : k < 264) (hexec : exec c s = done (s.dispatched k 0x0B false)) (h : Ready s k 0x0B false j)
    (hrun : s.runCmd k (s.desc k (s.get (qRptr k))) j = s.runAttn k (s.desc k (s.get (qRptr k))) j a out)
    (hp : s.pool (s.row ((s.desc k (s.get (qRptr k))).f 8 11 0)).pool = some p)
    (hreach : s.reachSpans (s.attnSpans k (s.desc k (s.get (qRptr k))) j a out p) = (Code.ok, s)) :
    Does c s (fun t => Attended s t k (s.desc k (s.get (qRptr k))) j a out p) := by
  obtain ⟨hjob, -⟩ := id h
  have hjobs := s.attnWritten_jobs (k := k) (j := j) (a := a) (out := out) (p := p) (s.desc k (s.get (qRptr k)))
  rw [State.runAttn_reached _ hp hreach (by rw [State.job, hjobs, ← State.job, hjob])] at hrun
  exact does_dispatched hexec h hrun (jobsStay_setJob (jobsStay_of_eq hjobs)) (attended_attnWritten hk _)

end

/-! # COLLECTIVE (R178, R181) -/

section
variable {s : State} {k : Nat} {j : Job} {c : Instr} {a : View} {out : Rec} {g : Coll}

/-- Outputs leave one by one: nothing else changes, and each is one more. -/
theorem foldl_emit {α : Type} (f : State → α → Output) (l : List α) : ∀ s : State,
    let t := l.foldl (fun s x => s.emit (f s x)) s
    t = { s with out := t.out } ∧ t.out.length = s.out.length + l.length := by
  induction l with
  | nil => exact fun s => ⟨rfl, rfl⟩
  | cons x l ih =>
    intro s
    obtain ⟨hrest, hlen⟩ := ih (s.emit (f s x))
    refine ⟨hrest, hlen.trans ?_⟩
    simp only [State.emit, List.length_append, List.length_cons, List.length_nil]
    omega

theorem State.collSend_rest (s : State) (d : Desc) (g : Coll) (a : View) :
    s.collSend d g a = { s with out := (s.collSend d g a).out } ∧
      (s.collSend d g a).out.length = s.out.length + (s.others d.collPackages).length := foldl_emit _ _ s

theorem State.runColl_reached (d : Desc) (hg : s.coll d.collGroup = some g)
    (hreach : s.reachSpans (a.spans (s.qAttr k) false ++ out.outView.spans (s.qAttr k) true ++
      [⟨s.qAttr k, false, g.landing, g.size⟩]) = (Code.ok, s)) :
    s.runColl k d a out = (s.collSend d g a).runRows k d out (s.collRows d g a out) := by
  simp only [State.runColl, hg, hreach, Code.ok]

/-- This package's contributions have left, and the reduced or gathered rows stand in the staged bank of OUT. -/
abbrev Collected (s t : State) (k : Nat) (d : Desc) (g : Coll) (a : View) (out : Rec) : Prop :=
  t.mem = (s.writeRows out.outView (s.collRows d g a out)).1.mem ∧ t.out = (s.collSend d g a).out ∧
    t.out.length = s.out.length + (s.others d.collPackages).length ∧
    (t.cmd k).map (fun c => (c.desc, c.outs, c.start)) = some (d, [out.addr], s.datum) ∧ t.eng.jobs = s.eng.jobs ∧
    t.get (qRptr k) = s.get (qRptr k) ∧ t.datum = s.datum

theorem collected_runRows (hk : k < 264) (d : Desc) :
    Collected s ((s.collSend d g a).runRows k d out (s.collRows d g a out)) k d g a out := by
  obtain ⟨hsend, hlen⟩ := s.collSend_rest d g a
  unfold Collected
  generalize s.collRows d g a out = rows
  generalize s.collSend d g a = u at hsend hlen ⊢
  have hmem : u.mem = s.mem := by rw [hsend]
  have hdatum : u.datum = s.datum := by rw [hsend]
  have hregs : u.regs = s.regs := by rw [hsend]
  have hjobs : u.eng.jobs = s.eng.jobs := by rw [hsend]
  have hrest := u.runRows_rest k out rows [] d
  have hcmd := u.cmd_runRows k out rows [] d
  have hget := get_of_running (u.regsKept_runRows k out rows [] d) (queueField_rptr hk)
  have hout : (u.runRows k d out rows).out = u.out := by rw [hrest]
  refine ⟨(u.runRows_mem ..).trans (sameRows_writeRows hmem _ _).1, hout, hout ▸ hlen, ?_, ?_, ?_, ?_⟩
  · rw [hdatum] at hcmd
    exact congrArg (Option.map fun c => (c.desc, c.outs, c.start)) hcmd
  · rw [hrest, ← hjobs]
  · rw [hget, State.get, hregs, State.get]
  · rw [hrest, ← hdatum]

theorem does_collected (hk : k < 264) (hexec : exec c s = done (s.dispatched k 0x0F true)) (h : Ready s k 0x0F true j)
    (hrun : s.runCmd k (s.desc k (s.get (qRptr k))) j = s.runColl k (s.desc k (s.get (qRptr k))) a out)
    (hg : s.coll (s.desc k (s.get (qRptr k))).collGroup = some g)
    (hreach : s.reachSpans (a.spans (s.qAttr k) false ++ out.outView.spans (s.qAttr k) true ++
      [⟨s.qAttr k, false, g.landing, g.size⟩]) = (Code.ok, s)) :
    Does c s (fun t => Collected s t k (s.desc k (s.get (qRptr k))) g a out) := by
  rw [State.runColl_reached _ hg hreach] at hrun
  have hran := collected_runRows (s := s) (g := g) (a := a) (out := out) hk (s.desc k (s.get (qRptr k)))
  obtain ⟨-, -, -, -, hjobs, -⟩ := id hran
  exact does_dispatched hexec h hrun (jobsStay_of_eq hjobs) hran

end

end Sys2Proof.Machine

namespace Sys2Proof.Scope
open Sys2Proof Sys2Proof.Machine Sys2Proof.Safety

/-- Settles O21: FOLD, UNFOLD and a converting TDMA run as one operation; a raw TDMA copies bytes. -/
theorem tensorMoveCommands : Obligations.TensorMoveCommands := by
  unfold Obligations.TensorMoveCommands
  refine ⟨?_, ?_, ?_, ?_⟩
  · intro q s k j _ h d a ha o ho hreach
    exact does_ran rfl h hreach (State.runCmd_fold (opcode_of_ready h) ha ho)
  · intro q s k j _ h d a ha o ho hreach
    exact does_ran rfl h hreach (State.runCmd_unfold (opcode_of_ready h) ha ho)
  · intro eng q s k j _ h d a ha o ho hraw hreach
    exact does_ran rfl h hreach ((State.runCmd_tdma (opcode_of_ready h) ha ho).trans (if_neg (Bool.eq_false_iff.1 hraw)))
  · intro eng q s k j _ h d hraw a ha o ho src dst hreach
    exact does_raw rfl h ((State.runCmd_tdma (opcode_of_ready h) ha ho).trans (if_pos hraw)) hreach

/-- Settles O22: PAGED_ATTN appends, streams and attends; COLLECTIVE sends and reduces. -/
theorem attentionAndCollectives : Obligations.AttentionAndCollectives := by
  unfold Obligations.AttentionAndCollectives
  refine ⟨?_, ?_⟩
  · intro q s k j _ h d a ha o ho rn r l p hp nk hreach u
    exact does_attended (qKey_lt .tensor q) rfl h (State.runCmd_pagedAttn (opcode_of_ready h) ha ho) hp hreach
  · intro q s k j _ h d a ha o ho g hg hreach
    exact does_collected (qKey_lt .tensor q) rfl h (State.runCmd_collective (opcode_of_ready h) ha ho) hg hreach

end Sys2Proof.Scope

namespace Sys2Proof.Machine
open Sys2Proof Sys2Proof.Safety

/-! # FENCE and COMMIT enter the run stage (R93, R95) -/

section
variable {s : State} {k op : Nat} {active : Bool} {j : Job} {c : Instr}

/-- A command that touches no memory has entered the run stage. -/
abbrev Entered (s t : State) (k : Nat) (cmd : Cmd) : Prop :=
  t.cmd k = some cmd ∧ RegsKept runningFields s t ∧ t = { s with regs := t.regs, eng := { s.eng with cmds := t.eng.cmds } }

theorem does_entered {cmd : Cmd} (hexec : exec c s = done (s.dispatched k op active)) (h : Ready s k op active j)
    (hrun : s.runCmd k (s.desc k (s.get (qRptr k))) j = s.startCmd k (s.desc k (s.get (qRptr k))) cmd) :
    Does c s (fun t => Entered s t k
      { cmd with index := s.get (qRptr k), ws := (s.desc k (s.get (qRptr k))).ws, start := s.datum }) :=
  does_dispatched hexec h hrun (jobsStay_of_eq (State.startCmd_jobs ..))
    ⟨State.cmd_startCmd .., State.regsKept_startCmd _ _ _ _, State.startCmd_rest ..⟩

end

/-! # The end of a FENCE (R93) -/

section
variable {s : State} {c : Cmd} {eng : Engine} {q : Fin 256}

theorem execFenceRelease_met (hcmd : s.cmd (qKey eng q.val) = some c) (hop : c.desc.opcode = 0x10) (hwait : c.waiting = true)
    (hmet : s.fenceMet (qKey eng q.val) c.desc = true) :
    exec (.fenceRelease eng q) s = done (s.setCmd (qKey eng q.val) { c with waiting := false }) := by
  show execFenceRelease eng q s = _
  simp only [execFenceRelease, hcmd]
  exact if_pos ⟨hop, hwait, hmet⟩

theorem execFenceRelease_unmet (hcmd : s.cmd (qKey eng q.val) = some c)
    (hmet : s.fenceMet (qKey eng q.val) c.desc = false) : exec (.fenceRelease eng q) s = done s := by
  show execFenceRelease eng q s = _
  simp only [execFenceRelease, hcmd]
  exact if_neg fun ⟨_, _, h⟩ => Bool.false_ne_true (hmet.symm.trans h)

end

/-! # The registers of a queue are distinct -/

theorem qSel_key_ne {k : Nat} {t p t' p' : Nat → Field} (ht : ∀ q, (t q).key ≠ (t' q).key)
    (hp : ∀ q, (p q).key ≠ (p' q).key) : (qSel k t p).key ≠ (qSel k t' p').key := by
  unfold qSel
  split
  · exact hp _
  · exact ht _

section
variable (k : Nat)

theorem cseq_key_apart : ∀ f ∈ [qRptr k, qCplWptr k, qAdmitted k, qLog2 k, qCLog2 k, qCplBase k, qSecureF k, qPartF k],
    f.key ≠ (qCseq k).key := by
  simp only [List.forall_mem_cons, List.not_mem_nil, false_imp_iff, implies_true, and_true]
  refine ⟨?_, ?_, ?_, ?_, ?_, ?_, ?_, ?_⟩ <;> refine qSel_key_ne (fun q => ?_) (fun q => ?_) <;>
    simp only [Field.key, Reg.MBX_Q_CSEQ_CSEQ, Reg.MBX_Q_CSEQ_addr, Reg.PLB_Q_CSEQ_CSEQ, Reg.PLB_Q_CSEQ_addr,
      Reg.MBX_Q_RPTR_RPTR, Reg.MBX_Q_RPTR_addr, Reg.PLB_Q_RPTR_RPTR, Reg.PLB_Q_RPTR_addr, Reg.MBX_Q_CPL_WPTR_CPL_WPTR,
      Reg.MBX_Q_CPL_WPTR_addr, Reg.PLB_Q_CPL_WPTR_CPL_WPTR, Reg.PLB_Q_CPL_WPTR_addr, Reg.MBX_Q_STATUS_ADMITTED,
      Reg.MBX_Q_STATUS_addr, Reg.PLB_Q_STATUS_ADMITTED, Reg.PLB_Q_STATUS_addr, Reg.MBX_QC_RING_SIZE_LOG2,
      Reg.MBX_QC_RING_SIZE_addr, Reg.PLB_QC_RING_SIZE_LOG2, Reg.PLB_QC_RING_SIZE_addr, Reg.MBX_QC_CPL_SIZE_CLOG2,
      Reg.MBX_QC_CPL_SIZE_addr, Reg.PLB_QC_CPL_SIZE_CLOG2, Reg.PLB_QC_CPL_SIZE_addr, Reg.MBX_QC_CPL_BASE_BASE,
      Reg.MBX_QC_CPL_BASE_addr, Reg.PLB_QC_CPL_BASE_BASE, Reg.PLB_QC_CPL_BASE_addr, Reg.MBX_QC_ATTR_SECURE,
      Reg.MBX_QC_ATTR_PARTITION, Reg.MBX_QC_ATTR_addr, Reg.PLB_QC_ATTR_SECURE, Reg.PLB_QC_ATTR_PARTITION,
      Reg.PLB_QC_ATTR_addr] <;> omega

theorem cplWptr_key_apart : ∀ f ∈ [qCseq k, qRptr k, qLog2 k, qAdmitted k], f.key ≠ (qCplWptr k).key := by
  simp only [List.forall_mem_cons, List.not_mem_nil, false_imp_iff, implies_true, and_true]
  refine ⟨?_, ?_, ?_, ?_⟩ <;> refine qSel_key_ne (fun q => ?_) (fun q => ?_) <;>
    simp only [Field.key, Reg.MBX_Q_CSEQ_CSEQ, Reg.MBX_Q_CSEQ_addr, Reg.PLB_Q_CSEQ_CSEQ, Reg.PLB_Q_CSEQ_addr,
      Reg.MBX_Q_RPTR_RPTR, Reg.MBX_Q_RPTR_addr, Reg.PLB_Q_RPTR_RPTR, Reg.PLB_Q_RPTR_addr, Reg.MBX_Q_CPL_WPTR_CPL_WPTR,
      Reg.MBX_Q_CPL_WPTR_addr, Reg.PLB_Q_CPL_WPTR_CPL_WPTR, Reg.PLB_Q_CPL_WPTR_addr, Reg.MBX_Q_STATUS_ADMITTED,
      Reg.MBX_Q_STATUS_addr, Reg.PLB_Q_STATUS_ADMITTED, Reg.PLB_Q_STATUS_addr, Reg.MBX_QC_RING_SIZE_LOG2,
      Reg.MBX_QC_RING_SIZE_addr, Reg.PLB_QC_RING_SIZE_LOG2, Reg.PLB_QC_RING_SIZE_addr] <;> omega

theorem admitted_key_ne_rptr : (qAdmitted k).key ≠ (qRptr k).key :=
  qSel_key_ne
    (fun q => by
      simp only [Field.key, Reg.MBX_Q_STATUS_ADMITTED, Reg.MBX_Q_STATUS_addr, Reg.MBX_Q_RPTR_RPTR, Reg.MBX_Q_RPTR_addr]
      omega)
    (fun q => by
      simp only [Field.key, Reg.PLB_Q_STATUS_ADMITTED, Reg.PLB_Q_STATUS_addr, Reg.PLB_Q_RPTR_RPTR, Reg.PLB_Q_RPTR_addr]
      omega)

theorem rptr_key_ne_cseq : (qRptr k).key ≠ (qCseq k).key := cseq_key_apart k _ (by simp)

theorem log2_key_ne_cseq : (qLog2 k).key ≠ (qCseq k).key := cseq_key_apart k _ (by simp)

end

theorem queueField_log2 {k : Nat} (hk : k < 264) : QueueField (qLog2 k) :=
  queueField_qSel hk (fun q _ => by simp only [QueueField, Reg.MBX_QC_RING_SIZE_LOG2, Reg.MBX_QC_RING_SIZE_addr]; omega)
    (fun q _ => by simp only [QueueField, Reg.PLB_QC_RING_SIZE_LOG2, Reg.PLB_QC_RING_SIZE_addr]; omega)

theorem queueField_cseq {k : Nat} (hk : k < 264) : QueueField (qCseq k) :=
  queueField_qSel hk (fun q _ => by simp only [QueueField, Reg.MBX_Q_CSEQ_CSEQ, Reg.MBX_Q_CSEQ_addr]; omega)
    (fun q _ => by simp only [QueueField, Reg.PLB_Q_CSEQ_CSEQ, Reg.PLB_Q_CSEQ_addr]; omega)

theorem queueField_cplWptr {k : Nat} (hk : k < 264) : QueueField (qCplWptr k) :=
  queueField_qSel hk (fun q _ => by simp only [QueueField, Reg.MBX_Q_CPL_WPTR_CPL_WPTR, Reg.MBX_Q_CPL_WPTR_addr]; omega)
    (fun q _ => by simp only [QueueField, Reg.PLB_Q_CPL_WPTR_CPL_WPTR, Reg.PLB_Q_CPL_WPTR_addr]; omega)

/-- No decision on an access reads a register of a queue. -/
theorem noAccess_of_queueField {f : Field} (h : QueueField f) : NoAccess f := by
  obtain ⟨hlo, haddr⟩ := h
  refine ⟨hlo, ?_, ?_, ?_, ?_, ?_⟩ <;> omega

/-- The commit sequence counts modulo 2^32. -/
theorem cseq_width (k : Nat) : (qCseq k).width = 32 := by
  unfold qCseq qSel
  split <;> rfl

/-! # The commit of a command (R95) -/

/-! ## The command leaves the run stage -/

/-- The command of a queue leaves the run stage and RPTR passes its descriptor. -/
def State.leave (s : State) (k : Nat) : State := (s.delCmd k).refreshRunning.advanceRptr k

section
variable {s : State} {k : Nat}

theorem State.leave_rest (s : State) (k : Nat) :
    s.leave k = { s with regs := (s.leave k).regs, eng := { s.eng with cmds := KMap.del s.eng.cmds k } } := by
  unfold State.leave State.advanceRptr
  rw [State.refreshRunning_rest]
  rfl

theorem State.get_leave {f : Field} (hf : QueueField f) (hne : f.key ≠ (qRptr k).key) : (s.leave k).get f = s.get f :=
  (State.get_set_other _ _ _ _ hne).trans (get_of_running (State.regsKept_refreshRunning (s.delCmd k)) hf)

theorem State.rptr_leave (hk : k < 264) :
    (s.leave k).get (qRptr k) = ((s.get (qRptr k) + 1) % s.qSlots k) % 2 ^ (qRptr k).width := by
  have hkept := State.regsKept_refreshRunning (s.delCmd k)
  have hrptr : (s.delCmd k).refreshRunning.get (qRptr k) = s.get (qRptr k) := get_of_running hkept (queueField_rptr hk)
  have hlog : (s.delCmd k).refreshRunning.get (qLog2 k) = s.get (qLog2 k) := get_of_running hkept (queueField_log2 hk)
  rw [State.leave, State.advanceRptr, State.get_set_same, State.qSlots, hrptr, hlog, State.qSlots]

end

/-! ## PUB flips (R91) -/

theorem State.defineBank_mem (s : State) (v : View) : (s.defineBank v).mem = s.mem := by
  unfold State.defineBank
  dsimp only
  split <;> rfl

section
variable (s : State) (a : Nat)

/-- The byte of a record that holds PUB, with PUB flipped. -/
def State.flipped : Nat := if s.rdLe (a + 7) 1 % 2 = 1 then s.rdLe (a + 7) 1 - 1 else s.rdLe (a + 7) 1 + 1

theorem State.rdLe_one_lt : s.rdLe a 1 < 256 := (Memory.read s.mem a).isLt

theorem State.flipped_lt : s.flipped a < 256 := by
  have h := s.rdLe_one_lt (a + 7)
  unfold State.flipped
  split <;> omega

theorem staged_flipPub : Staged s (s.flipPub a) := (((Staged.refl s).defineBank _).undefineBank _).wr _ _

theorem State.flipPub_mem : (s.flipPub a).mem = (s.wr (a + 7) [s.flipped a]).mem :=
  State.wr_mem_congr ((State.undefineBank_mem _ _).trans (State.defineBank_mem _ _)) _ _

theorem State.rdLe_flipPub : (s.flipPub a).rdLe (a + 7) 1 = s.flipped a := by
  have hread := s.rd_wr (a + 7) (bs := [s.flipped a]) (by simpa using s.flipped_lt a)
  rw [State.rdLe, State.rd, State.flipPub_mem]
  exact congrArg leValue hread

theorem memKept_flipPub : MemKept (a + 7) (a + 8) s (s.flipPub a) := fun b hb => by
  rw [State.flipPub_mem]
  exact memKept_wr s (a + 7) 1 (bs := [s.flipped a]) (Nat.le_refl 1) b hb

end

/-! ## The commit point -/

section
variable {s : State} {k cycles : Nat} {j : Job} {c : Cmd}

theorem State.commitPoint_reached (hjob : s.job k = some j) (hcmd : s.cmd k = some c)
    (hpoint : s.atCommitPoint k cycles c = true) (hreach : s.reachSpans (s.commitSpans k j c) = (Code.ok, s)) :
    s.commitPoint k cycles = s.commitNow k j c cycles := by
  simp only [State.commitPoint, hjob, hcmd, hpoint, hreach, Code.ok, Bool.not_true, Bool.false_eq_true, if_false]

theorem State.commitPoint_early (hcmd : s.cmd k = some c) (hpoint : s.atCommitPoint k cycles c = false) :
    s.commitPoint k cycles = s := by
  cases hjob : s.job k with
  | none => simp only [State.commitPoint, hjob]
  | some j => simp only [State.commitPoint, hjob, hcmd, hpoint, Bool.not_false, if_true]

/-- Marks that commit change no register of a queue. -/
theorem State.commitMarks_rest (s : State) (d : Desc) (c : Cmd) :
    s.commitMarks d c = { s with regs := (s.commitMarks d c).regs } ∧
      ∀ f : Field, f.lo = 0 → (s.commitMarks d c).get f = s.get f := by
  refine foldl_inv _ (fun t : State => t = { s with regs := t.regs } ∧ ∀ f : Field, f.lo = 0 → t.get f = s.get f) _
    (fun t p _ ⟨hrest, hget⟩ => ?_) s ⟨rfl, fun _ _ => rfl⟩
  split
  · refine ⟨by rw [State.set, hrest], fun f hf => (State.get_set_other _ _ _ _ ?_).trans (hget f hf)⟩
    simp only [Field.key, hf, Reg.TEN_RM_CFG_COMMITTED]
    omega
  · exact ⟨hrest, hget⟩

theorem lo_qSel {t p : Nat → Field} (ht : ∀ q, (t q).lo = 0) (hp : ∀ q, (p q).lo = 0) : (qSel k t p).lo = 0 := by
  unfold qSel
  split
  · exact hp _
  · exact ht _

/-- No queue is to stop. -/
theorem State.compatStop_calm (hjob : s.job k = some j) (hp : j.preempt = false) : s.compatStop k = s := by
  simp only [State.compatStop, hjob, hp, Bool.false_and, Bool.false_eq_true, if_false]

/-- The command of queue `k` has committed its one output `a`. -/
def State.published (s : State) (k a : Nat) (c : Cmd) : State :=
  (((s.flipPub a).commitMarks c.desc c).wrapInc (qCseq k)).leave k

theorem State.commitCmd_one {a : Nat} (hcpl : c.desc.cpl = false) (houts : c.outs = [a]) (hout : s.recJobOut a = false)
    (hp : j.preempt = false) : ∃ written, s.commitCmd k j c cycles = (s.published k a c).setJob k
      { j with fl := j.fl.or c.fl, defused := j.defused || c.defused, cycles := j.cycles + cycles, written := written } := by
  refine ⟨c.outs.filter (s.published k a c).recJobOut ++ j.written, ?_⟩
  have hfilter : c.outs.filter (fun a => !s.recJobOut a) = [a] := by
    simp only [houts, List.filter_cons, hout, Bool.not_false, if_true, List.filter_nil]
  simp only [State.commitCmd, hfilter, List.foldl_cons, List.foldl_nil, hcpl, Bool.false_eq_true, if_false]
  exact State.compatStop_calm (KMap.find_put_same _ _ _) hp

/-- What a commit of one output leaves. -/
theorem published_leaves (hk : k < 264) (a : Nat) : (s.published k a c).cmd k = none ∧
    (s.published k a c).get (qCseq k) = (s.get (qCseq k) + 1) % 2 ^ 32 ∧
    (s.published k a c).get (qRptr k) = ((s.get (qRptr k) + 1) % s.qSlots k) % 2 ^ (qRptr k).width ∧
    (s.published k a c).mem = (s.flipPub a).mem ∧ (s.published k a c).datum = s.datum := by
  have hstaged := staged_flipPub s a
  obtain ⟨hmarks, hget⟩ := (s.flipPub a).commitMarks_rest c.desc c
  unfold State.published
  generalize s.flipPub a = u at *
  generalize u.commitMarks c.desc c = v at *
  have hfield : ∀ f : Field, f.lo = 0 → v.get f = s.get f := fun f hf => (hget f hf).trans (hstaged.get f)
  have hcseq : v.get (qCseq k) = s.get (qCseq k) := hfield _ (lo_qSel (fun _ => rfl) fun _ => rfl)
  have hrptr : v.get (qRptr k) = s.get (qRptr k) := hfield _ (lo_qSel (fun _ => rfl) fun _ => rfl)
  have hlog : v.get (qLog2 k) = s.get (qLog2 k) := hfield _ (lo_qSel (fun _ => rfl) fun _ => rfl)
  have hleave := (v.wrapInc (qCseq k)).leave_rest k
  refine ⟨?_, ?_, ?_, ?_, ?_⟩
  · rw [State.cmd, hleave]
    exact KMap.find_del_same _ _
  · rw [State.get_leave (queueField_cseq hk) (rptr_key_ne_cseq k).symm, State.wrapInc, State.get_set_same, hcseq, cseq_width]
  · rw [State.rptr_leave hk, State.wrapInc, State.get_set_other _ _ _ _ (rptr_key_ne_cseq k), hrptr, State.qSlots,
      State.get_set_other _ _ _ _ (log2_key_ne_cseq k), hlog, State.qSlots]
  · rw [hleave]
    show v.mem = u.mem
    rw [hmarks]
  · rw [hleave]
    show v.datum = s.datum
    rw [hmarks, ← hstaged.datum]

/-- A command has committed its output `a`: it is gone, the queue has moved on, PUB of the output has flipped. -/
abbrev OutputCommitted (s t : State) (k a : Nat) (j : Job) (cycles : Nat) : Prop :=
  t.cmd k = none ∧ t.get (qCseq k) = (s.get (qCseq k) + 1) % 2 ^ 32 ∧
    t.get (qRptr k) = ((s.get (qRptr k) + 1) % s.qSlots k) % 2 ^ (qRptr k).width ∧ t.rdLe (a + 7) 1 = s.flipped a ∧
    MemKept (a + 7) (a + 8) s t ∧ (t.job k).map (fun j => j.cycles) = some (j.cycles + cycles) ∧ t.datum = s.datum

theorem does_commandCommit {eng : Engine} {q : Fin 256} {cyc : BitVec 32} {a : Nat} (hjob : s.job (qKey eng q.val) = some j)
    (hcmd : s.cmd (qKey eng q.val) = some c) (hpoint : s.atCommitPoint (qKey eng q.val) cyc.toNat c = true)
    (hreach : s.reachSpans (s.commitSpans (qKey eng q.val) j c) = (Code.ok, s)) (hop : c.desc.opcode ≠ 0x11)
    (hcpl : c.desc.cpl = false) (houts : c.outs = [a]) (hout : s.recJobOut a = false) (hp : j.preempt = false) :
    Does (.commandCommit eng q cyc) s (fun t => OutputCommitted s t (qKey eng q.val) a j cyc.toNat) := by
  have hcommit := State.commitPoint_reached hjob hcmd hpoint hreach
  have hk := qKey_lt eng q
  have hexec : exec (.commandCommit eng q cyc) s = done (s.commitPoint (qKey eng q.val) cyc.toNat) := rfl
  generalize qKey eng q.val = k at *
  obtain ⟨written, hcmdCommit⟩ := State.commitCmd_one (k := k) (cycles := cyc.toNat) hcpl houts hout hp
  rw [hcommit, State.commitNow, if_neg hop, hcmdCommit] at hexec
  obtain ⟨hgone, hcseq, hrptr, hmem, hdatum⟩ := published_leaves (s := s) (c := c) hk a
  generalize s.published k a c = u at *
  have hread : u.rdLe (a + 7) 1 = s.flipped a := by rw [State.rdLe, State.rd, hmem, ← s.rdLe_flipPub a, State.rdLe, State.rd]
  have hkept : MemKept (a + 7) (a + 8) s u := fun b hb => by
    rw [hmem]
    exact memKept_flipPub s a b hb
  refine ⟨_, hexec, hgone, hcseq, hrptr, hread, hkept, ?_, hdatum⟩
  rw [State.job, State.setJob, KMap.find_put_same]
  rfl

end

end Sys2Proof.Machine

namespace Sys2Proof.Machine
open Sys2Proof Sys2Proof.Safety

/-! # Completion records (R158) -/

section
variable {s t : State} {k : Nat} {r : Record}

/-- Where the next completion record of a queue is written. -/
def State.cplSlot (s : State) (k : Nat) : Nat := s.get (qCplBase k) + 32 * s.get (qCplWptr k)

theorem Record.length_bytes (r : Record) (seq endTs : Nat) : (r.bytes seq endTs).length = 32 := by
  simp only [Record.bytes, List.length_append, leBytes_length]

theorem Record.bytes_lt (r : Record) (seq endTs : Nat) : ∀ b ∈ r.bytes seq endTs, b < 256 := by
  intro b hb
  simp only [Record.bytes, List.mem_append] at hb
  rcases hb with ((((((hb | hb) | hb) | hb) | hb) | hb) | hb) | hb <;> exact leBytes_lt hb

/-- A record stands in its slot, and CPL_WPTR has passed it. -/
structure RecordStands (s t : State) (k : Nat) (r : Record) : Prop where
  read : t.rd (s.cplSlot k) 32 = r.bytes (s.get (qCseq k)) s.ts32
  mem : MemKept (s.cplSlot k) (s.cplSlot k + 32) s t
  wptr : t.get (qCplWptr k) = ((s.get (qCplWptr k) + 1) % s.qCplSlots k) % 2 ^ (qCplWptr k).width
  fields : ∀ f : Field, f.key ≠ (qCplWptr k).key → t.get f = s.get f
  rest : t = { s with mem := t.mem, unpub := t.unpub, regs := t.regs, fb := t.fb, icnSrc := t.icnSrc }

/-- The state with the record in its slot and CPL_WPTR past it. -/
def State.recorded (s : State) (k : Nat) (r : Record) : State :=
  (s.wr (s.cplSlot k) (r.bytes (s.get (qCseq k)) s.ts32)).set (qCplWptr k) ((s.get (qCplWptr k) + 1) % s.qCplSlots k)

theorem recordStands_recorded : RecordStands s (s.recorded k r) k r where
  read := by
    have h := s.rd_wr (s.cplSlot k) (r.bytes_lt (s.get (qCseq k)) s.ts32)
    rwa [Record.length_bytes] at h
  mem := memKept_wr s _ 32 (r.length_bytes _ _).le
  wptr := State.get_set_same _ _ _
  fields := fun _ hf => State.get_set_other _ _ _ _ hf
  rest := rfl

/-- An interrupt raised leaves the record as it stands. -/
theorem RecordStands.raiseEdge (h : RecordStands s t k r) (i : Nat) : RecordStands s (t.raiseEdge i) k r := by
  have hmem : (t.raiseEdge i).mem = t.mem := t.raiseEdge_mem i
  refine ⟨?_, fun b hb => ?_, (t.raiseEdge_get i _).trans h.wptr, fun f hf => (t.raiseEdge_get i f).trans (h.fields f hf), ?_⟩
  · rw [State.rd, hmem]
    exact h.read
  · rw [hmem]
    exact h.mem b hb
  · have hedge := t.raiseEdge_rest i
    have hrest := h.rest
    generalize t.raiseEdge i = u at hedge ⊢
    rw [hedge, hrest]

/-- A record whose slot may be written stands. -/
theorem recordStands_writeRecord (hreach : s.reach (s.qAttr k) true (s.cplSlot k) 32 = (.ok, s)) :
    RecordStands s (s.writeRecord k r) k r := by
  have hwrite : s.writeRecord k r = if r.desc.irq then (s.recorded k r).raiseEdge (qSource k) else s.recorded k r := by
    unfold State.cplSlot at hreach
    simp only [State.writeRecord, hreach]
    rfl
  rw [hwrite]
  split
  · exact recordStands_recorded.raiseEdge _
  · exact recordStands_recorded

end

/-! # The end of a job (R95, R195) -/

section
variable {s : State} {k : Nat}

theorem State.benchMain_rest (s : State) (q status : Nat) : s.benchMain q status = { s with saf := (s.benchMain q status).saf } := by
  refine foldl_inv _ (fun t : State => t = { s with saf := t.saf }) _ (fun t b _ ht => ?_) s rfl
  dsimp only
  split
  · rw [State.setBench, ht]
  · exact ht

theorem State.benchPlumb_rest (s : State) (q status : Nat) :
    s.benchPlumb q status = { s with saf := (s.benchPlumb q status).saf } := by
  refine foldl_inv _ (fun t : State => t = { s with saf := t.saf }) _ (fun t b _ ht => ?_) s rfl
  dsimp only
  split
  · rw [State.setBench, ht]
  · exact ht

theorem State.noticeTensor_rest (s : State) (q job status : Nat) :
    s.noticeTensor q job status = { s with saf := (s.noticeTensor q job status).saf } := by
  refine foldl_inv _ (fun t : State => t = { s with saf := t.saf }) _ (fun t r _ ht => ?_) _ (s.benchMain_rest q status)
  split
  · rw [State.noteMain, ht]
  · exact ht

theorem State.noticePlumb_rest (s : State) (q job status : Nat) :
    s.noticePlumb q job status = { s with saf := (s.noticePlumb q job status).saf } := by
  refine foldl_inv _ (fun t : State => t = { s with saf := t.saf }) _ (fun t r _ ht => ?_) _ (s.benchPlumb_rest q status)
  split
  · rw [State.notePlumb, ht]
  · exact ht

/-- The notices of a job's end change the safety island alone. -/
theorem State.notice_rest (s : State) (k num status : Nat) :
    s.notice k num status = { s with saf := (s.notice k num status).saf } := by
  unfold State.notice
  split
  · exact s.noticePlumb_rest _ _ _
  · exact s.noticeTensor_rest _ _ _

theorem State.sessionSettle_rest (s : State) : s.sessionSettle = { s with fb := s.sessionSettle.fb } := by
  unfold State.sessionSettle
  split <;> rfl

/-- Without open windows nothing is admitted. -/
theorem State.admitJobs_closed (h : s.mer.windows = []) : s.admitJobs = s :=
  State.admitLoop_quiet _ (by rw [State.admitPass, State.openWindows, h]; rfl)

/-- A job leaves its queue: its command is gone, ADMITTED falls, and its end is noticed. -/
def State.jobGone (s : State) (k num status : Nat) : State :=
  ((((s.leave k).set (qAdmitted k) 0).delJob k).notice k num status).sessionSettle

theorem State.jobGone_rest (s : State) (k num status : Nat) : s.jobGone k num status =
    { s with regs := ((s.leave k).set (qAdmitted k) 0).regs, saf := (s.jobGone k num status).saf, fb := (s.jobGone k num status).fb,
             eng := { s.eng with cmds := KMap.del s.eng.cmds k, jobs := KMap.del s.eng.jobs k } } := by
  have hset : (s.leave k).set (qAdmitted k) 0 = { s with
      regs := ((s.leave k).set (qAdmitted k) 0).regs, eng := { s.eng with cmds := KMap.del s.eng.cmds k } } :=
    congrArg (fun u : State => { u with regs := ((s.leave k).set (qAdmitted k) 0).regs }) (s.leave_rest k)
  unfold State.jobGone
  generalize (s.leave k).set (qAdmitted k) 0 = u at *
  have hnotice := (u.delJob k).notice_rest k num status
  generalize (u.delJob k).notice k num status = v at *
  have hsettle := v.sessionSettle_rest
  generalize v.sessionSettle = w at *
  rw [hsettle, hnotice, State.delJob, hset]

theorem State.get_jobGone (s : State) (k num status : Nat) (f : Field) :
    (s.jobGone k num status).get f = ((s.leave k).set (qAdmitted k) 0).get f := by
  rw [State.get, State.jobGone_rest, State.get]

end

end Sys2Proof.Machine

namespace Sys2Proof.Machine
open Sys2Proof Sys2Proof.Safety

/-! # The commit of a job (R95, R158) -/

section
variable {s : State} {k cycles : Nat} {j : Job} {c : Cmd}

/-- The job record of a commit. -/
def jobEndRecord (j : Job) (c : Cmd) (cycles : Nat) : Record :=
  ⟨Code.ok, c.desc, j.fl.or c.fl, j.defused || c.defused, j.restarted, true, 0, 0, j.start, j.cycles + cycles⟩

/-- A job without outputs, steps or training leaves its record and is gone. -/
theorem State.commitJob_bare (hcpl : c.desc.cpl = false) (houts : c.outs = []) (hwritten : j.written = [])
    (hsteps : s.stepsOf k j.num = []) (htrain : s.training k = none) : s.commitJob k j c cycles =
      ((s.wrapInc (qCseq k)).writeRecord k (jobEndRecord j c cycles)).jobGone k j.num Code.ok := by
  simp only [State.commitJob, houts, hwritten, List.append_nil, List.eraseDups_nil, List.foldl_nil, hsteps, State.commitTraining,
    htrain, hcpl, Bool.false_eq_true, if_false]
  rfl

/-- What the commit sequence's step leaves of what a record needs. -/
theorem State.wrapInc_cseq (s : State) (k : Nat) : (s.wrapInc (qCseq k)).get (qCseq k) = (s.get (qCseq k) + 1) % 2 ^ 32 ∧
    (s.wrapInc (qCseq k)).cplSlot k = s.cplSlot k ∧ (s.wrapInc (qCseq k)).qAttr k = s.qAttr k ∧
    (s.wrapInc (qCseq k)).qCplSlots k = s.qCplSlots k ∧ (s.wrapInc (qCseq k)).qSlots k = s.qSlots k ∧
    (s.wrapInc (qCseq k)).get (qCplWptr k) = s.get (qCplWptr k) ∧ (s.wrapInc (qCseq k)).get (qRptr k) = s.get (qRptr k) := by
  have hget : ∀ f ∈ [qRptr k, qCplWptr k, qAdmitted k, qLog2 k, qCLog2 k, qCplBase k, qSecureF k, qPartF k],
      (s.wrapInc (qCseq k)).get f = s.get f := fun f hf => State.get_set_other _ _ _ _ (cseq_key_apart k f hf)
  simp only [List.forall_mem_cons, List.not_mem_nil, false_imp_iff, implies_true, and_true] at hget
  obtain ⟨hrptr, hwptr, -, hlog, hclog, hbase, hsecure, hpart⟩ := hget
  refine ⟨?_, ?_, ?_, ?_, ?_, hwptr, hrptr⟩
  · rw [State.wrapInc, State.get_set_same, cseq_width]
  · rw [State.cplSlot, hbase, hwptr, State.cplSlot]
  · rw [State.qAttr, bit_of_get hsecure, hpart, State.qAttr]
  · rw [State.qCplSlots, hclog, State.qCplSlots]
  · rw [State.qSlots, hlog, State.qSlots]

/-- A job has committed: its command and itself are gone, the queue has moved on, its record stands. -/
abbrev JobCommitted (s t : State) (k : Nat) (j : Job) (c : Cmd) (cycles : Nat) : Prop :=
  t.cmd k = none ∧ t.job k = none ∧ t.bit (qAdmitted k) = false ∧ t.get (qCseq k) = (s.get (qCseq k) + 1) % 2 ^ 32 ∧
    t.get (qRptr k) = ((s.get (qRptr k) + 1) % s.qSlots k) % 2 ^ (qRptr k).width ∧
    t.get (qCplWptr k) = ((s.get (qCplWptr k) + 1) % s.qCplSlots k) % 2 ^ (qCplWptr k).width ∧
    t.rd (s.cplSlot k) 32 = (jobEndRecord j c cycles).bytes ((s.get (qCseq k) + 1) % 2 ^ 32) s.ts32 ∧
    MemKept (s.cplSlot k) (s.cplSlot k + 32) s t

/-- The job record is written after the commit sequence's step. -/
theorem recordStands_jobEnd (hk : k < 264) (hreach : s.reach (s.qAttr k) true (s.cplSlot k) 32 = (.ok, s)) (r : Record) :
    RecordStands (s.wrapInc (qCseq k)) ((s.wrapInc (qCseq k)).writeRecord k r) k r := by
  have haccess : SameAccess s (s.wrapInc (qCseq k)) := SameAccess.set (noAccess_of_queueField (queueField_cseq hk)) s _
  obtain ⟨-, hslot, hattr, -⟩ := s.wrapInc_cseq k
  refine recordStands_writeRecord ?_
  rw [hattr, hslot]
  exact haccess.reach le_rfl hreach

/-- The commit sequence steps, the record is written, and the job leaves its queue. -/
theorem jobCommitted_jobGone (hk : k < 264) (hreach : s.reach (s.qAttr k) true (s.cplSlot k) 32 = (.ok, s)) :
    JobCommitted s (((s.wrapInc (qCseq k)).writeRecord k (jobEndRecord j c cycles)).jobGone k j.num Code.ok) k j c cycles := by
  obtain ⟨hcseq, hslot, -, hcslots, hslots, hwptr, hrptr⟩ := s.wrapInc_cseq k
  have hstands := recordStands_jobEnd hk hreach (jobEndRecord j c cycles)
  have hmem : (s.wrapInc (qCseq k)).mem = s.mem := rfl
  have hts : (s.wrapInc (qCseq k)).ts32 = s.ts32 := rfl
  generalize s.wrapInc (qCseq k) = u at *
  generalize u.writeRecord k (jobEndRecord j c cycles) = v at *
  have hfields := hstands.fields
  have hleft : ∀ f, QueueField f → f.key ≠ (qRptr k).key → f.key ≠ (qAdmitted k).key →
      (v.jobGone k j.num Code.ok).get f = v.get f := fun f hf hr ha => by
    rw [State.get_jobGone, State.get_set_other _ _ _ _ ha, State.get_leave hf hr]
  have hgone := v.jobGone_rest k j.num Code.ok
  have hmem' : (v.jobGone k j.num Code.ok).mem = v.mem := by rw [hgone]
  refine ⟨?_, ?_, ?_, ?_, ?_, ?_, ?_, fun b hb => ?_⟩
  · rw [State.cmd, hgone]
    exact KMap.find_del_same _ _
  · rw [State.job, hgone]
    exact KMap.find_del_same _ _
  · rw [State.bit, State.get_jobGone, State.get_set_same, Nat.zero_mod]
    rfl
  · rw [hleft _ (queueField_cseq hk) (rptr_key_ne_cseq k).symm (cseq_key_apart k _ (by simp)).symm,
      hfields _ (cplWptr_key_apart k _ (by simp)), hcseq]
  · rw [State.get_jobGone, State.get_set_other _ _ _ _ (admitted_key_ne_rptr k).symm, State.rptr_leave hk,
      hfields _ (cplWptr_key_apart k _ (by simp)), hrptr, State.qSlots, hfields _ (cplWptr_key_apart k _ (by simp)),
      ← State.qSlots, hslots]
  · rw [hleft _ (queueField_cplWptr hk) (cplWptr_key_apart k _ (by simp)).symm (cplWptr_key_apart k _ (by simp)).symm,
      hstands.wptr, hwptr, hcslots]
  · rw [State.rd, hmem', ← State.rd, ← hslot, hstands.read, hcseq, hts]
  · rw [hmem', ← hmem]
    exact hstands.mem b (hslot ▸ hb)

/-- The end of a job opens no window. -/
theorem windows_jobGone (hk : k < 264) (hreach : s.reach (s.qAttr k) true (s.cplSlot k) 32 = (.ok, s)) (r : Record)
    (num status : Nat) : (((s.wrapInc (qCseq k)).writeRecord k r).jobGone k num status).mer = s.mer := by
  have hrest := (recordStands_jobEnd hk hreach r).rest
  have hmer : (s.wrapInc (qCseq k)).mer = s.mer := rfl
  generalize s.wrapInc (qCseq k) = u at *
  generalize u.writeRecord k r = v at *
  rw [State.jobGone_rest, hrest, ← hmer]

theorem does_jobCommit {eng : Engine} {q : Fin 256} {cyc : BitVec 32} (hjob : s.job (qKey eng q.val) = some j)
    (hcmd : s.cmd (qKey eng q.val) = some c) (hpoint : s.atCommitPoint (qKey eng q.val) cyc.toNat c = true)
    (hspans : s.reachSpans (s.commitSpans (qKey eng q.val) j c) = (Code.ok, s)) (hop : c.desc.opcode = 0x11)
    (hcpl : c.desc.cpl = false) (houts : c.outs = []) (hwritten : j.written = []) (hgroup : s.jobGroup j = none)
    (hsteps : s.stepsOf (qKey eng q.val) j.num = []) (htrain : s.training (qKey eng q.val) = none)
    (hwin : s.mer.windows = [])
    (hreach : s.reach (s.qAttr (qKey eng q.val)) true (s.cplSlot (qKey eng q.val)) 32 = (.ok, s)) :
    Does (.commandCommit eng q cyc) s (fun t => JobCommitted s t (qKey eng q.val) j c cyc.toNat) := by
  have hcommit := State.commitPoint_reached hjob hcmd hpoint hspans
  have hk := qKey_lt eng q
  have hexec : exec (.commandCommit eng q cyc) s = done (s.commitPoint (qKey eng q.val) cyc.toNat) := rfl
  generalize qKey eng q.val = k at *
  have hdone := jobCommitted_jobGone (j := j) (c := c) (cycles := cyc.toNat) hk hreach
  have hmer := windows_jobGone hk hreach (jobEndRecord j c cyc.toNat) j.num Code.ok
  have hnow : s.commitNow k j c cyc.toNat = (s.commitJob k j c cyc.toNat).admitJobs := by
    simp only [State.commitNow, if_pos hop, hgroup]
  rw [hcommit, hnow, State.commitJob_bare hcpl houts hwritten hsteps htrain] at hexec
  generalize ((s.wrapInc (qCseq k)).writeRecord k (jobEndRecord j c cyc.toNat)).jobGone k j.num Code.ok = t at *
  rw [State.admitJobs_closed (hmer ▸ hwin)] at hexec
  exact ⟨t, hexec, hdone⟩

end

end Sys2Proof.Machine

namespace Sys2Proof.Scope
open Sys2Proof Sys2Proof.Machine Sys2Proof.Safety

/-- Settles O23: FENCE and COMMIT only enter the run stage; at the commit point one output is published, or the job leaves its
record and is gone. -/
theorem fenceAndCommit : Obligations.FenceAndCommit := by
  unfold Obligations.FenceAndCommit
  refine ⟨?_, ?_, ?_, ?_, ?_, ?_, ?_⟩
  · intro eng q s k j _ h d
    exact does_entered rfl h (State.runCmd_fence (opcode_of_ready h))
  · intro eng q s k c hcmd hop hwait hmet
    exact ⟨_, execFenceRelease_met hcmd hop hwait hmet, KMap.find_put_same _ _ _, rfl⟩
  · intro eng q s k c hcmd hmet
    exact ⟨s, execFenceRelease_unmet hcmd hmet, rfl⟩
  · intro eng q s k j _ h htrain hserved
    exact does_entered rfl h (State.runCmd_commit (opcode_of_ready h) hserved htrain)
  · intro eng q cyc s k j hjob c hcmd hpoint hreach hop hcpl a rest houts hrest hout hp
    exact does_commandCommit hjob hcmd hpoint hreach hop hcpl (hrest ▸ houts) hout hp
  · intro eng q cyc s k j hjob c hcmd hpoint hspans hop hcpl houts hwritten hgroup hsteps htrain hwin a hreach
    exact does_jobCommit hjob hcmd hpoint hspans hop hcpl houts hwritten hgroup hsteps htrain hwin hreach
  · intro eng q cyc s k c hcmd hpoint
    exact ⟨s, congrArg done (State.commitPoint_early hcmd hpoint), rfl⟩

end Sys2Proof.Scope

/-! # A fault whose completion record is refused, too (R96, R166, R447, R448)

FaultsKillJobs says of a data access that a channel group has refused that the group counts one violation. The job that the
fault kills leaves a completion record; where the completion ring lies in a channel group of another partition, the group
refuses that write as well, and counts it. -/

namespace Sys2Proof.Machine
open Sys2Proof Sys2Proof.Safety

/-- The command in the run stage, a POOL. -/
def strayCmd : Cmd := { index := 0, ws := [4, 0x10001, 100] }

/-- Its job, admitted in a window that has closed. -/
def strayJob : Job := { first := 0, num := 0, start := 0, bound := 0, projEnd := 0, window := 0, clusters := 1, prio := 0 }

/-- Queue 0 of the Secure world, partition 0, runs a command, and its completion ring lies in channel group 0, which
partition 1 owns. -/
def strayRing : State :=
  let s := ((State.reset.set (qSecureF 0) 1).set (qCplBase 0) 0x1000002000).set (Reg.DDR_CG_CTRL_OWNER 0) 1
  { s with eng := { s.eng with cmds := [(0, strayCmd)], jobs := [(0, strayJob)] } }

/-- A data access of the command, refused by channel group 0. -/
def refusedAccess : Instr := .dataBusError .tensor 0 .refused 0x1000000000 0 0

theorem strayRing_linked : strayRing.linkedQueues 0 = [0] := by decide +kernel

theorem strayRing_target : strayRing.target (0x1000000000 : BitVec 48).toNat = .dram 0 0 := by decide +kernel

theorem strayRing_count : strayRing.get (Reg.DDR_CG_VIOL_COUNT 0) = 0 := by decide +kernel

/-- The access and the record are counted both. -/
theorem exec_refusedAccess_counts :
    (match exec refusedAccess strayRing with
      | .next t => t.get (Reg.DDR_CG_VIOL_COUNT 0)
      | _ => 0) = 2 := by decide +kernel

end Sys2Proof.Machine

namespace Sys2Proof.Scope
open Sys2Proof Sys2Proof.Machine Sys2Proof.Safety

/-- Refutes O24: the clause on DATA_BUS_ERROR has a refusing channel group count one violation, but the completion record of the
killed job may be refused by the same group, which then counts two. -/
theorem not_faultsKillJobs : ¬ Obligations.FaultsKillJobs := by
  unfold Obligations.FaultsKillJobs
  rintro ⟨-, -, -, -, -, -, hrefused, -⟩
  obtain ⟨t, hexec, -, -, hcount, -⟩ := hrefused .tensor 0 .refused 0x1000000000 0 0 strayRing strayCmd rfl strayJob rfl rfl
    strayRing_linked rfl
  have htwo := exec_refusedAccess_counts
  rw [refusedAccess, hexec] at htwo
  have hone := hcount rfl
  simp only [strayRing_target, Bool.and_eq_true, beq_iff_eq, strayRing_count] at hone
  obtain ⟨⟨-, hone⟩, -⟩ := hone
  exact absurd (htwo.symm.trans hone) (by decide)

end Sys2Proof.Scope

/-! # Accesses through the SRAM windows (R34, R38, R103) -/

namespace Sys2Proof.Machine
open Sys2Proof Sys2Proof.Safety

/-! ## An access that is let through -/

/-- An initiator's pool is neither a DRAM controller's nor the outbound half of the PCIe pool. -/
theorem initiatorPool_own (who : Agent) : initiatorPool who < 1000 ∧ initiatorPool who ≠ 201 := by
  cases who with
  | fw n => simp only [initiatorPool]; split_ifs <;> decide
  | work u sec p =>
    cases u with
    | tile n => simp only [initiatorPool]; omega
    | fabric | graphics | media | peripherals => simp [initiatorPool]
  | core | sec | pairA | pairB | debug => simp [initiatorPool]

/-- An access that passes the caches by fills no lines. -/
theorem State.accessFill_uncached {h : HeldAccess} (hc : h.cached = false) (s : State) : s.accessFill h = s.access h := by
  unfold State.accessFill
  split
  · simp only [hc, Bool.false_and, Bool.false_eq_true, if_false]
  · rfl

/-- The pools' use and the cores' caches replaced. -/
def State.pooled (s : State) (p : KMap PoolUse) (c : List CacheLine) : State := { s with opPools := p, cache := c }

theorem sameAccess_pooled (s : State) (p : KMap PoolUse) (c : List CacheLine) : SameAccess s (s.pooled p c) := .same

/-- The pools with an entry of pool `i`, in which nothing waits, taken. -/
def State.entryTaken (s : State) (i : Nat) : KMap PoolUse := KMap.set {} s.opPools i { used := (s.opPool i).used + 1 }

/-- An access of `who` at `a` stays in one page, its debugger may make it, and it ends at the stores of a cluster, which are
initialised and whose checker `k` allows it; its initiator's pool has room, and nothing waits there. -/
structure SramPasses (s : State) (who : Agent) (a : Nat) (op : BusOp) (k : Nat) : Prop where
  page : a % 4096 + opLen op ≤ 4096
  may : s.debugMay who = true
  waiting : (s.opPool (initiatorPool who)).waiting = []
  room : s.poolRoom (initiatorPool who) = true
  target : s.target a = .sram k
  cluster : k < 40
  initDone : s.bit (Reg.TEN_CL_MEMSTAT_INIT_DONE (k - 24)) = true
  allowed : (cadDecide s k (s.attrOf who) (opWrite op) a).1 = true

namespace SramPasses
variable {s : State} {who : Agent} {a : Nat} {op : BusOp} {k : Nat} (h : SramPasses s who a op k) (ecc : EccEvent)
  (p : KMap PoolUse) (c : List CacheLine)
include h

theorem target_pooled : (s.pooled p c).target a = .sram k := ((sameAccess_pooled s p c).target a).trans h.target

/-- What the checker allows reaches the store; an access to the key-value area finds no memory either way. -/
theorem access : (s.pooled p c).access ⟨who, s.attrOf who, a, op, ecc, false⟩ = (s.pooled p c).sramDo a op ecc := by
  have hmay : (s.pooled p c).debugMay who = true := h.may
  have hallowed : (cadDecide (s.pooled p c) k (s.attrOf who) (opWrite op) a).1 = true := by
    rw [(sameAccess_pooled s p c).cadDecide (h.cluster.trans (by decide))]
    exact h.allowed
  have hreach : (s.pooled p c).reach1 (s.attrOf who) (opWrite op) a =
      (if (s.pooled p c).inKvArea a then .hole else .ok, s.pooled p c) := by
    simp only [State.reach1, h.target_pooled, State.cadCheck_allowed hallowed]
  simp only [State.access, Nat.not_lt.2 h.page, if_false, hmay, Bool.not_true, Bool.false_eq_true, h.target_pooled, hreach]
  cases hkv : (s.pooled p c).inKvArea a with
  | false => simp only [Bool.false_eq_true, if_false, h.cluster, if_true]
  | true => simp only [if_true, State.sramDo, hkv, Bool.or_true]

/-- The access takes an entry of its initiator's pool and goes on. -/
theorem issue : ∃ p, (s.pooled s.opPools c).issue ⟨who, s.attrOf who, a, op, ecc, false⟩ = (s.pooled p c).sramDo a op ecc := by
  obtain ⟨hlt, hne⟩ := initiatorPool_own who
  have hinit : (s.pooled s.opPools c).initHolds a = false := by
    have hdone : (s.pooled s.opPools c).bit (Reg.TEN_CL_MEMSTAT_INIT_DONE (k - 24)) = true := h.initDone
    simp only [State.initHolds, h.target_pooled, hdone, Bool.not_true, Bool.and_false]
  have hpool : (s.pooled s.opPools c).poolFor ⟨who, s.attrOf who, a, op, ecc, false⟩ = initiatorPool who := by
    simp only [State.poolFor, h.target_pooled]
  have hwaiting : ((s.pooled s.opPools c).opPool (initiatorPool who)).waiting = [] := h.waiting
  have hroom : (s.pooled s.opPools c).roomFor (initiatorPool who) ⟨who, s.attrOf who, a, op, ecc, false⟩ = true := by
    have hentry : (s.pooled s.opPools c).poolRoom (initiatorPool who) = true := h.room
    simp [State.roomFor, hentry, bufferOf, hne]
  have htakes : (s.pooled s.opPools c).takesEntry (initiatorPool who) = true := if_neg (Nat.not_le.2 hlt)
  refine ⟨s.entryTaken (initiatorPool who), .trans ?_ (h.access ecc _ c)⟩
  simp only [State.issue, hinit, Bool.false_eq_true, if_false, hpool, hwaiting, hroom, List.isEmpty_nil, Bool.and_self,
    if_true, State.enter, htakes, hne, State.accessFill_uncached]
  rfl

end SramPasses

/-- An access that is let through changes nothing but the pools and the caches before it reaches its store. -/
theorem does_sramWindowAccess {s : State} {who : Agent} {addr : BitVec 48} {op : BusOp} {k : Nat} {ecc : EccEvent}
    {P : State → Prop} (h : SramPasses s who addr.toNat op k)
    (hP : ∀ p c, P ((s.pooled p c).sramDo addr.toNat op ecc)) : Does (.sramWindowAccess who addr op ecc) s P := by
  refine ⟨_, rfl, ?_⟩
  have hissued : ∀ c, P ((s.pooled s.opPools c).issue ⟨who, s.attrOf who, addr.toNat, op, ecc, false⟩) := by
    intro c
    obtain ⟨p, hp⟩ := h.issue ecc c
    exact hp ▸ hP p c
  unfold State.coreAccess
  split
  · next q _ =>
    have hmiss : s.cacheHit q ⟨who, s.attrOf who, addr.toNat, op, ecc, false⟩ = false := rfl
    rw [hmiss, if_neg Bool.false_ne_true]
    split
    · exact hissued _
    · exact hissued s.cache
  · exact hissued s.cache

/-! ## What the store does (R103) -/

section
variable (s : State) {a : Nat}

theorem sramAligned_iff {n : Nat} : sramAligned a n = true ↔ (n = 1 ∨ n = 2 ∨ n = 4 ∨ n = 8) ∧ a % n = 0 := by
  simp [sramAligned, or_assoc]

theorem State.sramDo_misaligned (op : BusOp) (ecc : EccEvent)
    (h : ¬ ((opLen op = 1 ∨ opLen op = 2 ∨ opLen op = 4 ∨ opLen op = 8) ∧ a % opLen op = 0)) :
    s.sramDo a op ecc = s.failAccess op := by
  have hbad : sramAligned a (opLen op) = false := Bool.eq_false_iff.2 (mt sramAligned_iff.1 h)
  simp only [State.sramDo, hbad, Bool.not_false, Bool.true_or, if_true]

variable (op : BusOp) {ecc : EccEvent} (halign : sramAligned a (opLen op) = true) (hkv : s.inKvArea a = false)
include halign hkv

/-- No error is found, or a 64-bit write reads nothing that could hold one. -/
theorem State.sramDo_done (h : ecc = .none ∨ (opWrite op = true ∧ opLen op = 8)) : s.sramDo a op ecc = s.doAccess a op := by
  simp only [State.sramDo, halign, hkv, Bool.not_true, Bool.or_self, Bool.false_eq_true, if_false]
  rcases h with rfl | ⟨hw, hlen⟩
  · exact ite_self _
  · simp only [hw, hlen, decide_true, Bool.and_self, if_true]

/-- The read half of a narrow write finds an uncorrectable error. -/
theorem State.sramDo_uncorrectable (h : opLen op ≠ 8) : s.sramDo a op .uncorrectable =
    (s.eccLogged (sramTile a) (0x50000000 ≤ a) (sramWord a)).failAccess op := by
  simp only [State.sramDo, halign, hkv, Bool.not_true, Bool.or_self, Bool.false_eq_true, if_false, h, decide_false,
    Bool.and_false]

end

/-- Nothing but the response changes where an access fails. -/
theorem State.failAccess_rest (s : State) (op : BusOp) : s.failAccess op = { s with resp := (s.failAccess op).resp } := by
  cases op with
  | read n => rfl
  | write posted d => cases posted <;> rfl

theorem State.failAccess_mem (s : State) (op : BusOp) : (s.failAccess op).mem = s.mem := by rw [State.failAccess_rest]

theorem State.failAccess_write_err (s : State) {posted : Bool} (d : List Byte) (h : posted = false) :
    (s.failAccess (.write posted d)).resp.err = true := by
  subst h
  rfl

theorem State.eccLogged_mem (s : State) (tile : Nat) (buffer : Bool) (word : Nat) :
    (s.eccLogged tile buffer word).mem = s.mem := by
  unfold State.eccLogged
  rw [State.set_mem, State.set_mem, State.setBit_mem, State.set_mem, State.inc_mem]

/-- With no byte undefined, a read shows what memory holds. -/
theorem State.seenLe_published {s : State} (h : s.unpub = []) (a n : Nat) : s.seenLe a n = (s.rdLe a n, s) := by
  have hhidden : ∀ b, s.hidden b = false := fun b => by rw [State.hidden, h, List.any_nil]
  simp [State.seenLe, hhidden]

/-- A write stores its bytes and no others. -/
theorem State.doAccess_write (s : State) (a : Nat) (posted : Bool) (d : List Byte) :
    (s.doAccess a (.write posted d)).rd a d.length = d.map BitVec.toNat ∧
    MemKept a (a + d.length) s (s.doAccess a (.write posted d)) := by
  have hlen : d.length = (d.map BitVec.toNat).length := (List.length_map _).symm
  have hbyte : ∀ b ∈ d.map BitVec.toNat, b < 256 := List.forall_mem_map.2 fun b _ => b.isLt
  cases posted with
  | false => exact ⟨hlen ▸ State.rd_wr (s.answer 0) a hbyte, memKept_wr (s.answer 0) a _ hlen.ge⟩
  | true => exact ⟨hlen ▸ State.rd_wr s a hbyte, memKept_wr s a _ hlen.ge⟩

theorem State.doAccess_write_rest (s : State) (a : Nat) (posted : Bool) (d : List Byte) :
    s.doAccess a (.write posted d) = { s with
      mem := (s.doAccess a (.write posted d)).mem, unpub := (s.doAccess a (.write posted d)).unpub,
      resp := (s.doAccess a (.write posted d)).resp } := by
  cases posted <;> rfl

end Sys2Proof.Machine

namespace Sys2Proof.Scope
open Sys2Proof Sys2Proof.Machine Sys2Proof.Safety

/-- Settles O17: an access that is let through meets its store with the pools and the caches changed alone; a misaligned one
fails there, a whole one is done, and a narrow write whose read half fails is dropped. -/
theorem sramWindowAccesses : Obligations.SramWindowAccesses := by
  unfold Obligations.SramWindowAccesses
  refine ⟨?_, ?_, ?_, ?_, ?_⟩
  case refine_1 =>
    intro who addr n ecc s hpage hmay hwaiting hroom k htarget hk hinit hallowed hmis
    refine does_sramWindowAccess ⟨hpage, hmay, hwaiting, hroom, htarget, hk, hinit, hallowed⟩ fun p c => ?_
    rw [State.sramDo_misaligned (s.pooled p c) (.read n) ecc hmis]
    exact ⟨rfl, rfl⟩
  case refine_2 =>
    intro who addr posted d ecc s hpage hmay hwaiting hroom k htarget hk hinit hallowed hmis
    refine does_sramWindowAccess ⟨hpage, hmay, hwaiting, hroom, htarget, hk, hinit, hallowed⟩ fun p c => ?_
    rw [State.sramDo_misaligned (s.pooled p c) (.write posted d) ecc hmis]
    refine ⟨State.failAccess_write_err _ d, ?_⟩
    rw [State.failAccess_rest]
    rfl
  case refine_3 =>
    intro who addr n s hpage hmay hwaiting hroom k htarget hk hinit hallowed hwidth halign hkv hpub
    refine does_sramWindowAccess ⟨hpage, hmay, hwaiting, hroom, htarget, hk, hinit, hallowed⟩ fun p c => ?_
    have hpub' : (s.pooled p c).unpub = [] := hpub
    rw [State.sramDo_done (s.pooled p c) (.read n) (sramAligned_iff.2 ⟨hwidth, halign⟩) hkv (.inl rfl), State.doAccess,
      State.seenLe_published hpub']
    exact ⟨rfl, rfl, rfl⟩
  case refine_4 =>
    intro who addr posted d ecc s hpage hmay hwaiting hroom k htarget hk hinit hallowed hwidth halign hkv hecc
    refine does_sramWindowAccess ⟨hpage, hmay, hwaiting, hroom, htarget, hk, hinit, hallowed⟩ fun p c => ?_
    rw [State.sramDo_done (s.pooled p c) (.write posted d) (sramAligned_iff.2 ⟨hwidth, halign⟩) hkv
      (hecc.imp_right fun h => ⟨rfl, h⟩)]
    obtain ⟨hread, hkept⟩ := State.doAccess_write (s.pooled p c) addr.toNat posted d
    refine ⟨hread, hkept, ?_⟩
    rw [State.doAccess_write_rest]
    rfl
  case refine_5 =>
    intro who addr posted d s hpage hmay hwaiting hroom k htarget hk hinit hallowed hwidth halign hkv
    refine does_sramWindowAccess ⟨hpage, hmay, hwaiting, hroom, htarget, hk, hinit, hallowed⟩ fun p c => ?_
    have halign' : sramAligned addr.toNat d.length = true :=
      sramAligned_iff.2 ⟨hwidth.imp_right (Or.imp_right .inl), halign⟩
    have hnarrow : d.length ≠ 8 := by omega
    rw [State.sramDo_uncorrectable (s.pooled p c) (.write posted d) halign' hkv hnarrow]
    refine ⟨State.failAccess_write_err _ d, ?_⟩
    rw [State.failAccess_mem, State.eccLogged_mem]
    rfl

end Sys2Proof.Scope

/-! # A scrub error whose status message is delivered to memory (R105, R207, R208)

ScrubbingAndClears says of a scrub pass over an uncorrectable word that memory stays as it was. The word makes the device
DEGRADED, and the status message that reports this is also an input of the gateway flow that FB 0x3040.03 names: an endpoint
flow writes it to its receive ring. -/

namespace Sys2Proof.Machine
open Sys2Proof Sys2Proof.Safety

/-- Every cluster is present, and the safety island reports to endpoint 0. -/
def reportingScrub : State :=
  let s := (State.reset.set Reg.SYS_UNIT_MASK_CLUSTER_EN 0xFFFF).fbSet 0x3040 3 0
  { s with gwy := { s.gwy with flows := [(0, islandFlow)], eps := [(0, dramEndpoint)] } }

theorem reportingScrub_up : reportingScrub.clusterUp 0 = true := by decide +kernel

theorem reportingScrub_mem : reportingScrub.mem = [] := rfl

/-- The report of the uncorrectable word lies in DRAM. -/
theorem exec_scrubPass_writes :
    (match exec (.scrubPass 0 false 0 .uncorrectable false) reportingScrub with
      | .next t => t.mem.isEmpty
      | _ => true) = false := by decide +kernel

end Sys2Proof.Machine

namespace Sys2Proof.Scope
open Sys2Proof Sys2Proof.Machine Sys2Proof.Safety

/-- Refutes O25: the clause on uncorrectable words keeps memory, but the safety status message that reports the degradation is
delivered by a gateway flow to an endpoint's receive ring in DRAM. -/
theorem not_scrubbingAndClears : ¬ Obligations.ScrubbingAndClears := by
  unfold Obligations.ScrubbingAndClears
  rintro ⟨-, huncorrectable, -⟩
  obtain ⟨t, hexec, -, -, -, -, -, -, hmem⟩ := huncorrectable 0 false 0 false reportingScrub reportingScrub_up
  have hwrites := exec_scrubPass_writes
  rw [hexec] at hwrites
  simp [hmem, reportingScrub_mem] at hwrites

end Sys2Proof.Scope

/-! # Lead rows beyond the TAIL field (R120, R121)

RowMarks says of an advance within the lead that TAIL reads the rows shown modulo 2^16. TAIL holds six bits, and a patch
row of an FRC output shows 8 rows at once. A LEAD of 60 is rejected for such an output at decode (R121), but software may
write it after that, until the copy is armed (R120); the eighth patch row then brings the rows shown to 64. -/

namespace Sys2Proof.Machine
open Sys2Proof Sys2Proof.Safety

/-- A stripe with LEAD 60 that has shown seven of its computed patch rows. -/
def leadStripe : Stripe := { first := 0, limit := 100, computed := 64, shown := 56, armed := true, lead := 60 }

/-- A CONV that posts to mark 0, with its stripe in cluster 0. -/
def leadCmd : Cmd := { index := 0, ws := [2, 0, 0, 0, 0, 0, 0, 0, 0x40000], rowWise := true, stripes := [(0, leadStripe)] }

/-- The command runs for queue 0, whose record of handle 0, the command's OUT, is an FRC record of mode 1. -/
def leadState : State :=
  let s := (State.reset.set (qTtBase 0) 0x1000001000).wr 0x1000001006 [0x10]
  s.setCmd 0 leadCmd

theorem leadState_stripe : leadState.stripe 0 0 = some (leadCmd, leadStripe) := by decide +kernel

theorem leadState_frc : (leadState.outRec 0 leadCmd.desc).frc = 1 := by decide +kernel

end Sys2Proof.Machine

namespace Sys2Proof.Scope
open Sys2Proof Sys2Proof.Machine Sys2Proof.Safety

/-- Refutes O26: the clause on ROW_MARK_ADVANCE reads the rows shown from TAIL modulo 2^16, but the field has six bits, and the
eighth patch row of an FRC lead brings the rows shown to 64. -/
theorem not_rowMarks : ¬ Obligations.RowMarks := by
  unfold Obligations.RowMarks
  rintro ⟨-, -, hadvance, -⟩
  have hcase := hadvance 0 0 leadState leadCmd leadStripe leadState_stripe
  simp only [Fin.val_zero, leadState_frc] at hcase
  obtain ⟨t, -, -, htail, -⟩ := hcase (by decide) rfl (by decide)
  have hread : t.get (Reg.TEN_RM_DONE_TAIL 0 leadCmd.desc.postMark) = 64 := (htail (by decide)).1
  have hwidth := State.get_lt t (Reg.TEN_RM_DONE_TAIL 0 leadCmd.desc.postMark)
  rw [hread] at hwidth
  exact absurd hwidth (by decide)

end Sys2Proof.Scope
